-- ==== Sys2Proof/Word.lean ====
section
/-! DEFINITION. The word and octet types of the KL4896 and the canonical store that holds every sparse table, memory and replicated record of the model. -/

namespace Sys2Proof

/-- A register or table word (R5: every register is 32 bits wide). -/
abbrev Word := BitVec 32

/-- One octet of a frame or image. -/
abbrev Byte := BitVec 8

/-- A sparse table by key: entries with strictly rising keys, none equal to what an unlisted key reads as, so that
equal tables are equal data. -/
abbrev Store (α : Type) := List (Nat × α)

/-- The fault-free time of the device: seconds and nanoseconds (R59). -/
structure Stamp where
  sec : Nat := 0
  ns : Nat := 0
  deriving DecidableEq, Repr

end Sys2Proof
end

