-- ==== Sys2Proof/Syntax.lean ====
section
/-! DEFINITION. The commands of the KL4896: one constructor per row of the command table, and the records their operands hold.

Operand names: `ctx`, `hc` a host context 0–3; `page` a page of the register window; `data` a register word; `t` a TCU, 0 A
and 1 B (of the engine commands, a task); `c` a TDC channel; `p`, `port` a port or lane 0–47; `n` a trunk, an output, a gate
input or a counter; `i` a PTP instance, a supply or a swap record; `k` a candidate slot, a cadence slot or a gateway
template; `m` a hoop or marker number; `e` an engine; `f` a frame record; `w` a pipeline or a table window; `d` a domain;
`l` octets of a frame; `tpcs` an instant at a PCS; `q` a fetched command. Octets, edges, measured values and instants come
from outside the block with the command that they belong to. -/

namespace Sys2Proof

/-- What a candidate's monitors took over one second: its frequency offset in ppb (R97), and the edges of its divided signal on
the cycle count of the TCU, oldest first (R96). -/
structure CandMeas where
  slot : Nat
  fofs : Int
  edges : List Nat
  deriving DecidableEq, Repr

/-- A message that an engine's task sends: type, tag, payload octets and payload words (R354). -/
structure Mail where
  typ : Nat
  tag : Nat
  len : Nat
  payload : List Word
  deriving DecidableEq, Repr

/-- A command that a context submitted and the device has fetched (R50): the context, the running count of descriptors
submitted before it (R51), and the fields of its descriptor. Log 7 (DESIGN CHOICE; unsafe). -/
structure Request where
  ctx : Nat
  count : Nat
  tag : Nat
  intOn : Bool
  page : Nat
  args : List Nat
  deriving DecidableEq, Repr

/-- The commands of the KL4896, by the rows of the command table; those without operands stand last. -/
inductive Instr where
  /-- REGISTER_WRITE (R8): A host write to a register field that has no behaviour of its own takes effect by its access type. -/
  | registerWrite (ctx addr size data : Nat)
  /-- COUNTER_READ_CLEAR (R183): A read of a clear-on-read counter returns its value and clears it without losing a concurrent count. -/
  | counterReadClear (ctx addr : Nat)
  /-- STAT_OCTETS_LO_READ (R255): Reading an octet counter LO word latches the high bits into HI and clears the counter. -/
  | statOctetsLoRead (ctx port : Nat) (tx : Bool)
  /-- HDR_OWNER_WRITE (R38): A write of OWNER from HC0 hands the page to another context, unless the page is fixed or locked. -/
  | hdrOwnerWrite (ctx page data : Nat)
  /-- LOCKED (R39): A write of 1 to HDR_OWNER.LOCKED freezes OWNER of the page and its TCU twin until full reset. -/
  | locked (ctx page owner : Nat)
  /-- ARM (R40): A write of 1 to HDR_SHADOW_CTL.ARM arms a commit of the page's double-buffered fields at the chosen boundary. -/
  | arm (ctx page : Nat)
  /-- CANCEL (R40): A write of 1 to HDR_SHADOW_CTL.CANCEL disarms the commit and keeps the shadow. -/
  | cancel (ctx page : Nat)
  /-- COMMIT_BOUNDARY (R40): At the armed boundary every shadowed field of the page becomes live, or the block rejects the commit. -/
  | commitBoundary (page : Nat)
  /-- CTX_CTL_WRITE (R52): A write of CTX_CTL starts or stops descriptor fetching and completion writing and selects interrupt delivery. -/
  | ctxCtlWrite (ctx data : Nat)
  /-- CMD_PROD_WRITE (R52): A write of CMD_PROD rings the command doorbell of the context. -/
  | cmdProdWrite (ctx data : Nat)
  /-- DESCRIPTOR_FETCH (R52): The device fetches the next command descriptor when fetching is allowed and starts it unless AFTER_PREV holds it. -/
  | descriptorFetch (hc : Nat) (words : List Nat)
  /-- CPL_CONS_WRITE (R52): A write of CPL_CONS frees completion ring room so held completions are written. -/
  | cplConsWrite (ctx data : Nat)
  /-- INT_REARM (R58): A write of 1 to INT_REARM re-arms the message interrupt and sends a message if INT_TOP is non-zero. -/
  | intRearm (ctx : Nat)
  /-- INT_HOLDOFF_EXPIRY (R58): The INT_HOLDOFF interval ends and a pending message interrupt may be sent. -/
  | intHoldoffExpiry (hc : Nat)
  /-- PCIE_LINK_DOWN (R47): The PCIe link of a function goes down and its context becomes detached. -/
  | pcieLinkDown (pf : Nat)
  /-- PCIE_LINK_UP (R47): The PCIe link returns and the context is attached with rings disabled and ring registers reset. -/
  | pcieLinkUp (pf : Nat)
  /-- SPI_WRITE_FRAME (R44): An SPI write frame received whole performs one register write. -/
  | spiWriteFrame (spi clocks addr data : Nat)
  /-- SPI_READ_FRAME (R44): An SPI read frame received whole returns register data and a status byte. -/
  | spiReadFrame (spi clocks addr : Nat)
  /-- INBAND_REQUEST (R45): An in-band 0x88B5 request frame is executed and answered, or answered again from the stored reply. -/
  | inbandRequest (port sa : Nat) (payload : List Byte)
  /-- NOP (R54): The NOP command completes at once. -/
  | nop (q : Request)
  /-- CMD_ABORT (R56): CMD_ABORT aborts or converts the named command of the issuer. -/
  | cmdAbort (q : Request)
  /-- CMD_QUERY (R54): CMD_QUERY returns the status of the named handle. -/
  | cmdQuery (q : Request)
  /-- DOMAIN_ON (R398): DOMAIN_ON ramps a power domain on and wipes it, subject to R24. -/
  | domainOn (q : Request)
  /-- DOMAIN_WIPE_DONE (R26): The wipe of a domain being switched on ends and DOMAIN_ON completes. -/
  | domainWipeDone (d : Nat)
  /-- DOMAIN_OFF (R398): DOMAIN_OFF stops and isolates a domain and ends every command targeting it. -/
  | domainOff (q : Request)
  /-- DOMAIN_ISOLATED (R398): A domain switched off reaches isolation and DOMAIN_OFF completes. -/
  | domainIsolated (d : Nat)
  /-- DEVICE_RESET (R399): DEVICE_RESET from HC0 schedules a full reset after its delay. -/
  | deviceReset (q : Request)
  /-- LIFECYCLE_ADVANCE (R411): LIFECYCLE_ADVANCE with correct confirmation raises RESET_PENDING and starts the advance. -/
  | lifecycleAdvance (q : Request)
  /-- PORT_ENABLE (R171): PORT_ENABLE starts a port in the given mode and test flag. -/
  | portEnable (q : Request)
  /-- PORT_DISABLE (R55): PORT_DISABLE closes a port to new egress work and drains or discards its queues. -/
  | portDisable (q : Request)
  /-- DRAIN_LIMIT_EXPIRY (R55): The drain limit of a disable command expires and still-queued frames are discarded and counted. -/
  | drainLimitExpiry (op obj : Nat)
  /-- DRAIN_COMPLETE (R55): The queued work of a disable command is gone and the command completes. -/
  | drainComplete (op obj : Nat)
  /-- TRUNK_ENABLE (R190): TRUNK_ENABLE unsquelches the four lanes of a trunk and starts an attempt. -/
  | trunkEnable (q : Request)
  /-- TRUNK_DISABLE (R220): TRUNK_DISABLE closes a trunk, poisons its cadence slots and drains or discards its frames. -/
  | trunkDisable (q : Request)
  /-- QUEUE_DISABLE (R308): QUEUE_DISABLE closes a VOQ or the VOQs of a leaf and drains or discards their copies. -/
  | queueDisable (q : Request)
  /-- QUEUE_ENABLE (R308): QUEUE_ENABLE sets OPEN again on a VOQ or leaf. -/
  | queueEnable (q : Request)
  /-- TABLE_WRITE_CRITICAL (R287): TABLE_WRITE_CRITICAL writes a critical entry to its table and a shadow slot. -/
  | tableWriteCritical (q : Request)
  /-- TABLE_FENCE (R290): TABLE_FENCE waits until every frame looked up before acceptance has left or been dropped. -/
  | tableFence (q : Request)
  /-- TABLE_FLUSH (R280): TABLE_FLUSH enters the learn queues and removes matching learned entries. -/
  | tableFlush (q : Request)
  /-- WHEY_AUDIT (R313): WHEY_AUDIT starts a Whey walk, with reclaim if requested. -/
  | wheyAudit (q : Request)
  /-- GATE_LIST_INSTALL (R336): GATE_LIST_INSTALL checks the pending gate list and fixes its start instant S. -/
  | gateListInstall (q : Request)
  /-- GATE_LIST_SWAP (R336): At S the pending and active gate lists swap roles and the install completes. -/
  | gateListSwap (p : Nat)
  /-- TASK_LOAD (R349): TASK_LOAD wipes an engine and loads and checks an image. -/
  | taskLoad (q : Request)
  /-- IMAGE_VERIFIED (R349): Signature verification of a loaded engine image ends and TASK_LOAD completes. -/
  | imageVerified (e : Nat) (image : List Byte) (signed : Bool)
  /-- TASK_START (R351): TASK_START opens a LOADED task's inbound mailbox and makes it WAITING. -/
  | taskStart (q : Request)
  /-- TASK_STOP (R352): TASK_STOP closes a task's inbound mailbox and drains or discards its messages. -/
  | taskStop (q : Request)
  /-- TASK_DRAIN_END (R352): A stopping task's mailbox empties or its limit passes and the task returns to LOADED. -/
  | taskDrainEnd (e t : Nat) (limit : Bool)
  /-- TCU_FW_STAGE (R162): TCU_FW_STAGE loads a firmware image into the standby TCU's inactive bank. -/
  | tcuFwStage (q : Request)
  /-- TCU_FW_VERIFIED (R162): Verification of a staged TCU image ends and the standby restarts or keeps its bank and resynchronises. -/
  | tcuFwVerified (signed : Bool) (version fmt : Nat)
  /-- TCU_SWITCHOVER (R161): TCU_SWITCHOVER moves the leadership token to the TCU that is standby at acceptance. -/
  | tcuSwitchover (q : Request)
  /-- TIME_STEP (R62): TIME_STEP requests a step of the time counter split into a 64 ns part and a slewed remainder. -/
  | timeStep (q : Request)
  /-- TIME_DOMAIN_SELECT (R145): TIME_DOMAIN_SELECT makes another PTP instance the followed instance. -/
  | timeDomainSelect (q : Request)
  /-- CAL_RUN (R375): CAL_RUN queues calibration runs of named slices at the head of their queue. -/
  | calRun (q : Request)
  /-- SPARE_APPROVE (R384): SPARE_APPROVE moves an AWAITING swap record to QUEUED. -/
  | spareApprove (q : Request)
  /-- TIME_SNAP (R64): A write of 1 to TIME_SNAP.SNAP latches the counter, cycle count and domain trackers. -/
  | timeSnap (ctx t : Nat)
  /-- SLEW_DONE (R62): The slewed remainder of a step reaches zero and SLEW_DONE is raised. -/
  | slewDone (t : Nat)
  /-- SERVO_UPDATE (R106): The Rennet servo evaluates the selected candidate's offset and writes a new rate word. -/
  | servoUpdate (t : Nat) (x : Int)
  /-- TDC_CAPTURE (R78): An edge at an armed TDC channel is captured into its FIFO, or lost to dead time or overflow. -/
  | tdcCapture (t c raw : Nat) (rising marker : Bool)
  /-- TDC_ARM_NOW (R76): A write of 1 to TDC_ARM_NOW arms an event channel for its window. -/
  | tdcArmNow (ctx t c : Nat)
  /-- GATE_INPUT_EDGE (R76): An edge on GATEn arms or disarms its event channel 4 ns later. -/
  | gateInputEdge (n : Nat) (level : Bool)
  /-- TDC_ARM_AT_REACHED (R76): The committed TDC_ARM_AT time is reached and the channel is armed. -/
  | tdcArmAtReached (t c : Nat)
  /-- TDC_WINDOW_EXPIRY (R76): The internal arming window of an event channel ends and it disarms. -/
  | tdcWindowExpiry (t c : Nat)
  /-- TDC_RES0_READ (R79): Reading TDC_RES0 copies the head of the capture FIFO into the read buffer. -/
  | tdcRes0Read (ctx t c : Nat)
  /-- TDC_RES4_READ (R79): Reading TDC_RES4 removes the head capture from the FIFO. -/
  | tdcRes4Read (ctx t c : Nat)
  /-- LINE_LOCK_LOST (R70): A delay line's locking loop loses lock and the channel raises LOCK_LOST. -/
  | lineLockLost (t c line : Nat)
  /-- TDC_CAL_START (R73): A due code-density run starts on a TDC channel when the director's conditions allow. -/
  | tdcCalStart (t : Nat)
  /-- CAL_DEFER_TIMEOUT (R73): A deferred event-channel run waits 10 s without gate idle and starts while armed. -/
  | calDeferTimeout (t c : Nat)
  /-- TDC_CAL_END (R71): A 48 µs code-density run ends with its table computed, or fails its lock check. -/
  | tdcCalEnd (t c : Nat) (hist : List Nat) (lines : Nat) (res : Int)
  /-- TDC_CAL_INSTALL (R71): At the channel's next gate idle the new table and TDC_LAT residual are installed. -/
  | tdcCalInstall (t c : Nat)
  /-- SYN_CTL_WRITE (R85): A write of SYN_CTL changes dither, and a REF_PATH change is refused on the active TCU or starts a PLL run on the standby. -/
  | synCtlWrite (ctx t data : Nat)
  /-- PLL_CAL_START (R86): A synthesizer calibration run starts on the standby TCU, which becomes CALIBRATING. -/
  | pllCalStart (t : Nat)
  /-- PLL_CAL_END (R86): A synthesizer calibration run ends, locked, with the phase then found in ps, or failed. -/
  | pllCalEnd (t : Nat) (locked : Option Int) (band vtune : Nat)
  /-- REFMUL_LOCKED (R88): The reference multiplier locks during TCU start-up and the band search begins. -/
  | refmulLocked (t : Nat)
  /-- BAND_FOUND (R88): The VCO band search ends and the fractional-N loop starts locking. -/
  | bandFound (t band vtune : Nat)
  /-- SYN_LOCKED (R88): The fractional-N loop locks, the TCU clocks run and the cycle count starts. -/
  | synLocked (t : Nat)
  /-- TCU_READY (R88): Start-up code-density runs end and the TCU is ready. -/
  | tcuReady (t : Nat) (hists : List (List Nat)) (res : List Int)
  /-- SYNC_IN_EDGE (R90): A SYNC_IN edge of the selected polarity fixes restart epoch E for the named outputs. -/
  | syncInEdge (rising : Bool)
  /-- SYNC_RESTART (R90): At epoch E the dividers of the named outputs restart and SYNC_DONE is raised. -/
  | syncRestart (t : Nat)
  /-- CAND_SECOND_EVAL (R97): Each second the monitors evaluate every candidate's frequency offset, phase hits and drift. -/
  | candSecondEval (t : Nat) (ms : List CandMeas)
  /-- CAND_LOSS (R99): No edge arrives within two expected periods and the candidate is lost. -/
  | candLoss (t k : Nat)
  /-- CAND_SOAK_COMPLETE (R100): A candidate's soaks are met and it becomes QUALIFIED or starts wait-to-restore. -/
  | candSoakComplete (t k : Nat)
  /-- CAND_WTR_COMPLETE (R100): A candidate's wait-to-restore reaches 0 and it becomes QUALIFIED. -/
  | candWtrComplete (t k : Nat)
  /-- CAND_CFG_WRITE (R101): A write of CAND_CFG or another candidate parameter enables, disables or restarts a candidate. -/
  | candCfgWrite (ctx t slot reg data : Nat)
  /-- REFSEL_SYNCE_WRITE (R95): A change of a SyncE selector's lane returns every candidate of that selector to SOAKING. -/
  | refselSynceWrite (ctx t data : Nat)
  /-- REFSEL_CTL_WRITE (R103): A write of REFSEL_CTL.MODE forces a slot or holdover, or returns to automatic selection. -/
  | refselCtlWrite (ctx t data : Nat)
  /-- DISAGREEMENT_DETECTED (R104): Two equal-rank candidates disagree for three seconds and the pair is resolved. -/
  | disagreementDetected (t a b : Nat)
  /-- LOCK_DECLARED (R106): The phase error stays within THR for SOAK and the servo declares lock. -/
  | lockDeclared (t : Nat)
  /-- HOLDOVER_SECOND (R111): At each second of holdover the predicted time error is evaluated and OOS set if over budget. -/
  | holdoverSecond (t : Nat)
  /-- OUT_ALIGN_AVERAGE_DONE (R118): An alignment average over 2^AVG input edges completes and is checked against P. -/
  | outAlignAverageDone (t n : Nat)
  /-- OUT_ALIGN_EDGE (R119): An input edge updates an aligned output's prediction or is counted as an outlier. -/
  | outAlignEdge (t n : Nat) (at_ : Int)
  /-- OUT_ALIGN_TIMEOUT (R119): No input edge arrives for two periods and the output enters FLYWHEEL with ALIGN_LOST. -/
  | outAlignTimeout (t n : Nat)
  /-- PTP_MESSAGE_RX (R130): A received PTP message is matched to an instance and trapped, forwarded with correction or discarded. -/
  | ptpMessageRx (f : Nat)
  /-- FU_ENTRY_EXPIRY (R135): A stored residence entry expires 100 ms after it was stored. -/
  | fuEntryExpiry (port : Nat)
  /-- PTP_EVENT_TX (R131): An event message of an instance leaves a port and is timestamped and changed on the fly. -/
  | ptpEventTx (port : Nat) (tpcs : Int)
  /-- PTP_TXTS0_READ (R129): Reading PTP_TXTS0 loads the head transmit record into the read buffer. -/
  | ptpTxts0Read (ctx t i : Nat)
  /-- PTP_TXTS3_READ (R129): Reading PTP_TXTS3 removes the head transmit record. -/
  | ptpTxts3Read (ctx t i : Nat)
  /-- PTP_TRK_CLEAR (R140): A write of 1 to PTP_TRK_CMD.CLEAR zeroes the domain tracker at the next epoch. -/
  | ptpTrkClear (ctx t i : Nat)
  /-- PTP_SMP_PUSH (R141): A write of 1 to PTP_SMP_PUSH applies an offset sample to the domain tracker or rejects it. -/
  | ptpSmpPush (ctx t i : Nat)
  /-- RESYNC_COMPLETE (R153): Resynchronisation of a SYNCING TCU completes with alignment within ±3 ps and it becomes STANDBY. -/
  | resyncComplete (t : Nat) (align : Int)
  /-- RESYNC_TIMEOUT (R148): Resynchronisation is not complete 2 ms after it began, leading to a retry or FAILED. -/
  | resyncTimeout (t : Nat)
  /-- FAILED_RETRY_EXPIRY (R148): A TCU FAILED with code 0x05 starts resynchronisation again after 10 s. -/
  | failedRetryExpiry (t : Nat)
  /-- FAIL_CAUSE_GONE (R148): The cause of a failure with code 0x01–0x03 has been gone for 100 ms and the TCU resynchronises or takes the token. -/
  | failCauseGone (t : Nat)
  /-- FIRST_TOKEN_GRANT (R150): After reset the arbiter grants the token to the preferred or the other ready TCU. -/
  | firstTokenGrant (tenMs : Bool)
  /-- ACTIVE_FAILURE (R157): A failure of the active TCU is detected and the token moves to a STANDBY twin or Last resort follows. -/
  | activeFailure (code : Nat)
  /-- TCU_RED_CTL_WRITE (R160): A write of REVERT or HOME takes effect at once and restarts the revert timer. -/
  | tcuRedCtlWrite (ctx t data : Nat)
  /-- TIME_JUDGEMENT (R165): The judges' edges are measured and the judgement keeps or moves the token or ends undecided. -/
  | timeJudgement (ms : List (Nat × Int × Int))
  /-- AN_RESOLVED (R172): Clause 73 negotiation resolves to a mode, refuses a FEC resolution or finds no common ability. -/
  | anResolved (p lp : Nat)
  /-- CLAUSE37_LINK_TIMER (R174): No configuration ordered sets arrive within link_timer and the link completes with BYPASS. -/
  | clause37LinkTimer (p : Nat)
  /-- TRAINING_REQUEST (R176): A partner's coefficient request is answered within 2 ms. -/
  | trainingRequest (p kind pre main post : Nat)
  /-- TRAINING_COMPLETE (R176): Both receivers report ready, the taps freeze and the PCS starts. -/
  | trainingComplete (p : Nat)
  /-- MAX_WAIT_EXPIRY (R177): max_wait_timer expires in a training attempt, leading to BACKOFF or a Clause 73 restart. -/
  | maxWaitExpiry (p : Nat)
  /-- BACKOFF_EXPIRY (R178): A back-off period ends and a new training attempt starts. -/
  | backoffExpiry (p : Nat)
  /-- TRAINING_FRAME_LOCK (R177): Frame lock on the partner's training frames during back-off starts a new attempt at once. -/
  | trainingFrameLock (p : Nat)
  /-- LOS_DECLARED (R179): Signal is absent for 10 µs and LOS is declared. -/
  | losDeclared (p : Nat) (seen : Bool)
  /-- LOS_CLEARED (R179): Signal is present for 10 µs and LOS clears. -/
  | losCleared (p : Nat)
  /-- QUIET_EXPIRY (R177): The 75 ms squelch of QUIET ends and the port waits for signal or restarts Clause 73. -/
  | quietExpiry (p : Nat)
  /-- SIGNAL_STABLE (R177): Signal is present without a break for 100 ms in WAIT_SIGNAL and a new attempt starts. -/
  | signalStable (p : Nat)
  /-- BLOCK_LOCK_GAINED (R177): Block lock with hi_ber clear brings the port to UP. -/
  | blockLockGained (p : Nat)
  /-- BLOCK_LOCK_LOST (R177): Block lock is lost for more than 100 µs and the link goes down. -/
  | blockLockLost (p : Nat) (long : Bool) (sh : Nat)
  /-- HI_BER_SET (R179): hi_ber is set and an UP link goes down. -/
  | hiBerSet (p sh : Nat)
  /-- EYE_START (R182): A write of 1 to EYE_CTL.START borrows the other slicer set for a measurement. -/
  | eyeStart (ctx port data : Nat)
  /-- EYE_DONE (R182): A slicer measurement's dwell ends or it aborts and EYE_DONE is raised. -/
  | eyeDone (p errs : Nat)
  /-- LPI_ENTER (R185): No frame has waited for IDLE µs and the transmitter enters low-power idle. -/
  | lpiEnter (p : Nat) (rx : Bool)
  /-- LPI_WAKE (R185): The transmitter wakes for a frame or TW before a rigid gate opening or gateway release. -/
  | lpiWake (p : Nat) (rx : Bool)
  /-- TRUNK_TRAINING_COMPLETE (R200): All four receivers at both ends are ready and the trunk enters ALIGNING. -/
  | trunkTrainingComplete (n : Nat)
  /-- TRUNK_MAX_WAIT_EXPIRY (R201): A trunk attempt's max_wait_timer expires and the trunk backs off. -/
  | trunkMaxWaitExpiry (n : Nat)
  /-- TRUNK_BACKOFF_EXPIRY (R201): A trunk's back-off period ends and a new attempt starts. -/
  | trunkBackoffExpiry (n : Nat)
  /-- TRUNK_FRAME_LOCK (R201): Frame lock on the partner's frames on lane +0 ends the trunk's back-off. -/
  | trunkFrameLock (n : Nat)
  /-- TRUNK_QUIET_EXPIRY (R201): A trunk's 75 ms QUIET ends and it sends not-ready frames in WAIT_SIGNAL. -/
  | trunkQuietExpiry (n : Nat)
  /-- TRUNK_SIGNAL_STABLE (R201): Signal on all four lanes for 100 ms starts a new trunk attempt. -/
  | trunkSignalStable (n : Nat)
  /-- TRUNK_ALIGNED (R201): Lane lock, tone lock, a marker capture and skew are met and Hello starts. -/
  | trunkAligned (n skew : Nat)
  /-- TRUNK_ALIGNING_TIMEOUT (R201): Alignment is not met 10 ms after entry and the attempt fails. -/
  | trunkAligningTimeout (n : Nat)
  /-- HELLO_RX (R203): A valid Hello block is received and drives generation resolution and agreement. -/
  | helloRx (n lane kind p : Nat)
  /-- HELLO_TIMEOUT (R201): No agreement 100 ms after entering HELLO and the attempt fails. -/
  | helloTimeout (n : Nat)
  /-- CLAUSE73_PAGES_RX (R204): Clause 73 pages on a trunk lane cause FALLBACK to four ports or are counted. -/
  | clause73PagesRx (n : Nat)
  /-- MARKER_SEND (R194): At each epoch marker instant the clock lane sends the marker and each data lane a Marker and Filler block. -/
  | markerSend (n : Nat)
  /-- HELLO_SEND (R197): A Hello block is sent on the data lanes at its scheduled interval. -/
  | helloSend (n lane : Nat)
  /-- TIME_BLOCK_SEND (R197): A Time block is sent on lane +0 once per marker cycle. -/
  | timeBlockSend (n : Nat)
  /-- MARKER_BLOCK_RX (R206): A partner Marker block on lane +0 gives the one-way figure u. -/
  | markerBlockRx (n lane kind p : Nat) (tpcs : Int)
  /-- ECHO_SEND (R206): An Echo block carrying u is sent on lane +0 within the next marker interval. -/
  | echoSend (n : Nat)
  /-- ECHO_RX (R207): A partner Echo gives the round trip, delays and offset θ written to the trunk page. -/
  | echoRx (n kind p : Nat)
  /-- EPOCH_MARKER_CAPTURE (R196): The trunk-phase channel captures a tone edge or epoch marker for the trunk block. -/
  | epochMarkerCapture (t n raw : Nat) (marker : Bool) (m : Nat)
  /-- TIME_BLOCK_RX (R198): A partner Time block updates CYCLE_HI, residuals and the partner's TV. -/
  | timeBlockRx (n kind p : Nat)
  /-- MARKER_LOSS (R201): No epoch marker is captured for two marker intervals and the trunk leaves UP. -/
  | markerLoss (n : Nat)
  /-- TIME_BLOCK_LOSS (R208): No valid Time block arrives for two marker cycles and the trunk candidate is lost. -/
  | timeBlockLoss (n : Nat)
  /-- RECENTRE (R217): A trunk lane's elastic buffer re-centres at the next Filler block and raises RECENTRE. -/
  | recentre (n lane : Nat)
  /-- CADENCE_BLOCK_RX (R232): A cadence or poison block received on a trunk data lane is identified by its slot or found misplaced. -/
  | cadenceBlockRx (n lane kind p count : Nat) (tpcs : Int)
  /-- CADENCE_SLOT_SEND (R233): An egress position due is filled with the switched block or poison. -/
  | cadenceSlotSend (n k m : Nat) (ga gb eq : Bool)
  /-- CAD_TBL_WRITE (R230): A write of CAD_TBL_CMD.WRITE writes a cadence table entry or refuses it. -/
  | cadTblWrite (ctx t : Nat)
  /-- CAD_TBL_READ (R230): A write of CAD_TBL_CMD.READ reads a cadence table entry into the window. -/
  | cadTblRead (ctx t : Nat)
  /-- GW_TPL_WRITE (R237): A write of GW_TPL_CMD.WRITE writes a gateway template or refuses it. -/
  | gwTplWrite (ctx t : Nat)
  /-- GW_TPL_READ (R237): A write of GW_TPL_CMD.READ reads a gateway template into the window. -/
  | gwTplRead (ctx t : Nat)
  /-- GW_OUTBOUND_RELEASE (R239): An outbound template's release instant builds and sends its frame, late or stomped where needed.
  The lists name the bytes that are not good in the active's copy and in the standby's, and those in which the two differ (R159). -/
  | gwOutboundRelease (k m : Nat) (badA badB differ : List Nat)
  /-- GW_FRAME_RX (R240): A drive frame matching an inbound template is taken, checked and delivered as inbound words. -/
  | gwFrameRx (f err : Nat) (cut : Bool) (tpcs : Int)
  /-- GW_WINDOW_CLOSE (R240): An inbound window closes without an accepted frame and poison is sent to the template's destinations. -/
  | gwWindowClose (k m : Nat)
  /-- FRAME_RX_START (R297): A frame's first octet reaches the Vat and its first cell pool is chosen and admitted. -/
  | frameRxStart (p f : Nat) (l : List Byte) (tpcs : Int) (start4 : Bool) (d : Int)
  /-- CELL_ARRIVAL (R302): A further cell of an arriving frame is admitted or refused. -/
  | cellArrival (f : Nat) (l : List Byte)
  /-- FRAME_RX_END (R245): A received frame is judged at its end as good, runt, oversize or bad. -/
  | frameRxEnd (f : Nat) (errs : List Nat) (cut : Bool)
  /-- LOOKUP (R266): A pipeline lookup classifies a frame and decides its copies. -/
  | lookup (f : Nat) (d : List (Nat × Nat))
  /-- LEARN_COPY_ARRIVAL (R275): A copy of a learn request reaches the other pipeline's queue. -/
  | learnCopyArrival (w : Nat)
  /-- LEARN_COMMIT (R276): A learn queue commits its next request to the MAC/VLAN table. -/
  | learnCommit (w : Nat)
  /-- TBL_READ (R288): A write of TBL_CMD.READ reads the entry at INDEX. -/
  | tblRead (ctx w : Nat)
  /-- TBL_WRITE (R288): A write of TBL_CMD.WRITE writes the entry at INDEX. -/
  | tblWrite (ctx w : Nat)
  /-- TBL_LOOKUP (R288): A write of TBL_CMD.LOOKUP finds the key in the data words. -/
  | tblLookup (ctx w : Nat)
  /-- TBL_INSERT (R288): A write of TBL_CMD.INSERT places the key in the first free way. -/
  | tblInsert (ctx w : Nat)
  /-- TBL_DELETE (R288): A write of TBL_CMD.DELETE removes the key. -/
  | tblDelete (ctx w : Nat)
  /-- CLEAR_HIT (R278): A write of TBL_CMD.CLEAR_HIT returns the entry and clears HIT. -/
  | clearHit (ctx w : Nat)
  /-- TBL_OP_COMPLETE (R289): A window operation commits and TBL_STAT.BUSY falls, marking the commit point. -/
  | tblOpComplete (page : Nat) (parity : Bool)
  /-- MACT_SEED_WRITE (R270): A write of MACT_SEED is accepted only while the table is empty, otherwise CFG_REJECT is raised. -/
  | mactSeedWrite (ctx w data : Nat)
  /-- LPM_LEN_WRITE (R281): A write of a prefix-length range register is refused if it overlaps or the length holds entries. -/
  | lpmLenWrite (ctx w off data : Nat)
  /-- SHADOW_COMPARE (R286): The comparator checks one critical entry against its shadow slot and repairs it if allowed. -/
  | shadowCompare (tbl sh : Bool)
  /-- COPY_DEPART (R300): A copy leaves or is discarded and the frame's cells are freed when its count reaches 0. -/
  | copyDepart (p : Nat) (corr : List Nat) (bad : Option (Nat × Nat)) (link : Bool)
  /-- VAT_BANK_SWAP (R296): A Vat bank copy ends and the logical bank moves to the spare. -/
  | vatBankSwap (src : Nat)
  /-- VOQ_SEL_WRITE (R317): A write of VOQ_SEL latches that VOQ's queue-state entry into the window. -/
  | voqSelWrite (ctx data : Nat)
  /-- SCHEDULER_DECISION (R321): An egress port chooses the next frame to start among PAUSE, gateway and granted frames. -/
  | schedulerDecision (p : Nat) (lost : List Nat)
  /-- FRAME_TX_END (R328): A frame ends on the line and any charge difference is refunded. -/
  | frameTxEnd (p : Nat)
  /-- SHP_WRITE (R329): A write of SHP_CMD.WRITE applies or holds a node's shaper configuration. -/
  | shpWrite (ctx : Nat) (atCommit : Bool)
  /-- SHP_READ (R343): A write of SHP_CMD.READ loads a node's configuration and live state. -/
  | shpRead (ctx : Nat)
  /-- GATE_CHANGE (R334): A gate list entry boundary changes the services' gate states at the port. -/
  | gateChange (p : Nat)
  /-- GATE_WRITE (R344): A write of GATE_CMD.WRITE writes a pending gate list entry. -/
  | gateWrite (ctx : Nat)
  /-- GATE_READ (R344): A write of GATE_CMD.READ reads a gate list entry. -/
  | gateRead (ctx : Nat)
  /-- SMP_RD0_READ (R341): Reading SMP_RD0 loads the head sample record. -/
  | smpRd0Read (ctx : Nat)
  /-- SMP_RD3_READ (R341): Reading SMP_RD3 removes the head sample record. -/
  | smpRd3Read (ctx : Nat)
  /-- PAUSE_RX (R252): A received PAUSE frame loads the pause timer or has no effect. -/
  | pauseRx (p quanta : Nat)
  /-- PAUSE_TIMER_EXPIRY (R252): The receive pause timer reaches zero and transmission resumes. -/
  | pauseTimerExpiry (p : Nat)
  /-- PAUSE_REFRESH (R254): A PAUSE is repeated every REFRESH quanta while pressure lasts. -/
  | pauseRefresh (p : Nat)
  /-- TXR_PROD_WRITE (R259): A write of TXR_PROD rings the host transmit doorbell. -/
  | txrProdWrite (ctx data : Nat)
  /-- HOST_TX_FRAME (R257): A host transmit frame is fetched from its descriptors and queued, segmented or discarded. -/
  | hostTxFrame (src : Nat) (ds : List (List Nat)) (l : Option (List Byte)) (f : Nat)
  /-- RXR_PROD_WRITE (R259): A write of RXR_PROD posts receive buffers. -/
  | rxrProdWrite (ctx data : Nat)
  /-- HOST_RX_DELIVERY (R258): A trapped frame is delivered to the host packet port or dropped for want of room. -/
  | hostRxDelivery (c : Nat) (corr : List Nat) (bad : Option Nat)
  /-- PKT_RXF_DATA_READ (R260): Reading PKT_RXF_DATA returns the next word of the head frame and removes it after its last word. -/
  | pktRxfDataRead (ctx : Nat)
  /-- PKT_TXF_DATA_WRITE (R260): Writing PKT_TXF_DATA adds a word and queues the frame after its last word. -/
  | pktTxfDataWrite (ctx data : Nat)
  /-- INBAND_PACKET_RX (R261): An in-band 0x88B5 frame with count 0 from the host is taken as a host frame. -/
  | inbandPacketRx (port sa : Nat) (l : List Byte)
  /-- DISPATCH (R353): An engine's dispatcher chooses the eligible runnable task of highest priority. -/
  | dispatch (e : Nat)
  /-- TASK_SLICE_END (R351): A running task reaches the end of its SLICE and becomes RUNNABLE. -/
  | taskSliceEnd (e taken : Nat) (sent : List Mail)
  /-- TASK_YIELD (R351): A running task yields and becomes RUNNABLE. -/
  | taskYield (e taken : Nat) (sent : List Mail)
  /-- TASK_WAIT (R351): A running task waits on an empty mailbox or unexpired timer. -/
  | taskWait (e : Nat) (timer : Bool) (sent : List Mail)
  /-- TASK_TIMER_EXPIRY (R351): A timer set by a waiting task expires and it becomes RUNNABLE. -/
  | taskTimerExpiry (e t : Nat)
  /-- TASK_FAULT (R351): A task accesses forbidden memory or executes an undefined operation and is FAULTED. -/
  | taskFault (e code : Nat)
  /-- MAILBOX_MESSAGE_ARRIVAL (R354): A message reaches a task's inbound mailbox or is dropped when it does not fit. -/
  | mailboxMessageArrival (e t src : Nat) (m : Mail)
  /-- MBX_PUSH (R355): A write of 1 to MBX_PUSH.PUSH delivers the staged message to the task. -/
  | mbxPush (ctx e : Nat)
  /-- MBX_CLEAR (R360): A write of 1 to MBX_PUSH.CLEAR discards the staged words. -/
  | mbxClear (ctx e : Nat)
  /-- MBX_DATA_WRITE (R355): A write of MBX_DATA stages the next payload word. -/
  | mbxDataWrite (ctx e data : Nat)
  /-- MBX_OUT_POP (R355): A write of 1 to MBX_OUT_POP removes the head outbound message. -/
  | mbxOutPop (ctx e : Nat)
  /-- MBX_OUT_DATA_READ (R355): Reading MBX_OUT_DATA returns the next payload word of the head message. -/
  | mbxOutDataRead (ctx e : Nat)
  /-- SH_DATA_ACCESS (R357): An access to SH_DATA reads or writes shared memory and advances SH_ADDR by 4. -/
  | shDataAccess (ctx : Nat) (write : Bool) (data : Nat)
  /-- ENGINE_SWAP (R358): The spare engine takes the place of an engine at a dispatch boundary after a background copy. -/
  | engineSwap (e : Nat)
  /-- ENGINE_SELF_TEST_END (R383): An engine self-test pass ends and sets its wear index. -/
  | engineSelfTestEnd (e : Nat) (passed : Bool)
  /-- PERF_COUNTER_OVERFLOW (R364): A counter passes its 48-bit limit, wraps or reloads, raises OVF and captures. -/
  | perfCounterOverflow (n inc addr task : Nat)
  /-- PC_VAL_LO_READ (R363): Reading PC_VAL_LO latches the high bits into PC_VAL_HI. -/
  | pcValLoRead (ctx n : Nat)
  /-- PC_VAL_LO_WRITE (R363): Writing PC_VAL_LO sets all 48 bits of the counter with the staged high bits. -/
  | pcValLoWrite (ctx n data : Nat)
  /-- PERF_RUN_WRITE (R363): A write of PERF_CTL.RUN starts or stops every grouped counter. -/
  | perfRunWrite (ctx data : Nat)
  /-- SU_SNAP (R366): A write of 1 to SU_CTL.SNAP copies all slot-use accumulators. -/
  | suSnap (ctx : Nat)
  /-- LANE_CAL_START (R371): A lane calibration run starts on the slicer set not in service. -/
  | laneCalStart (p : Nat)
  /-- LANE_CAL_END (R371): A lane calibration run ends and its set is swapped in or fails. -/
  | laneCalEnd (p : Nat) (ok : Bool) (rx tx : Int)
  /-- SLICER_SWAP (R188): A slicer set is swapped into service at a block boundary and LAT_RX changes. -/
  | slicerSwap (p : Nat)
  /-- CAL_CAPTURE (R378): A write of 1 to CAL_CMD.CAPTURE starts building an image of the values in force. -/
  | calCapture (ctx : Nat)
  /-- CAL_APPLY (R380): A write of 1 to CAL_CMD.APPLY checks the staged image and starts applying its sections. -/
  | calApply (ctx : Nat)
  /-- CAL_IMG_DATA_ACCESS (R378): An access to CAL_IMG_DATA reads or writes the staging image and advances the address. -/
  | calImgDataAccess (ctx : Nat) (write : Bool) (data : Nat)
  /-- TDC_LUT_DATA_WRITE (R380): A write of TDC_LUT_DATA while RESTORE_OPEN writes the channel's staging section. -/
  | tdcLutDataWrite (ctx t c data : Nat)
  /-- WEAR_UPDATE (R383): A wear monitor updates a slice's wear index. -/
  | wearUpdate (page slice monitor v : Nat)
  /-- SPARE_SWAP (R385): A queued swap takes effect at its boundary and the record becomes DONE. -/
  | spareSwap (i : Nat) (table : List Nat)
  /-- SUPPLY_WARN (R392): A supply stays below its warning threshold for 1 µs and SUPPLY_WARN is raised. -/
  | supplyWarn (i : Nat)
  /-- SUPPLY_BELOW_CLEAR (R392): A supply stays 10 mV above warning for 100 µs and its BELOW bit clears. -/
  | supplyBelowClear (i : Nat)
  /-- SUPPLY_SAG (R392): A supply stays below its reset threshold for 200 ns and a full reset with cause SAG follows. -/
  | supplySag (i : Nat)
  /-- RESET_RELEASE (R401): Every supply good for 2 ms with PORST_N high releases reset, latching straps and recording causes. -/
  | resetRelease (hcMap oscNom leadSel bootSrc : Nat)
  /-- SENSOR_CONVERSION (R393): The die sensors convert and the Budget Governor, calibration triggers and shutdown are evaluated. -/
  | sensorConversion (ts : List Int) (mv : List Nat)
  /-- BOOT_SECTION_LOADED (R406): A boot image section has been read, verified and loaded. -/
  | bootSectionLoaded (flash : List Byte) (silent signed : Bool) (version fmt : Nat)
  /-- BOOT_PUSH_LEN_WRITE (R409): A write of BOOT_PUSH_LEN starts a host push of a boot image. -/
  | bootPushLenWrite (ctx data : Nat)
  /-- BOOT_PUSH_DATA_WRITE (R409): A write of BOOT_PUSH_DATA delivers the next word of the pushed image. -/
  | bootPushDataWrite (ctx data : Nat)
  /-- OTP_PROG (R415): A write of 1 to OTP_CMD.PROG starts programming a user OTP word. -/
  | otpProg (ctx : Nat)
  /-- OTP_DONE (R415): OTP programming ends with OTP_DONE or OTP_FAIL after read-back. -/
  | otpDone (bits_ : Nat)
  /-- JTAG_INSTRUCTION (R434): An IEEE 1149.1 instruction is executed by the test access port within its life-cycle limits. -/
  | jtagInstruction (i pins : Nat)
  /-- STANDBY_TCU_FAILURE (R148): A TCU that is SYNCING, STANDBY or CALIBRATING detects a failure of R157 in itself, drops its claim, records FAIL_CODE and enters FAILED. -/
  | standbyTcuFailure (t code : Nat)
  /-- STANDBY_READY_AFTER_ABANDON (R158): A standby that abandoned a calibration or update when the active failed becomes ready within 1 ms or 5 ms, takes the token and the device leaves Last resort. -/
  | standbyReadyAfterAbandon (t : Nat)
  /-- MIRROR_CHECK_WORDS_RESUMED (R164): The mirror channel again carries check words from the token holder, and a TCU waiting in SYNCING after a lost judgement begins resynchronisation. -/
  | mirrorCheckWordsResumed (t : Nat)
  /-- LANE_PLL_LOST (R168): The PLL of an enabled lane loses lock and LANE_PLL_LOST is raised on the group page. -/
  | lanePllLost (p : Nat) (locked : Bool)
  /-- BLOCK_WEDGED (R358): A block such as an engine wedges and shows HDR_STATUS.FAULT_CODE 0x02, recoverable only by full reset. -/
  | blockWedged (page : Nat)
  /-- OUTPUT_PULSE_INSTANT (R116): A scheduled pulse or frame instant of an output is reached, and the pulse is placed, omitted, or the output leaves quiet there. -/
  | outputPulseInstant (t n : Nat)
  /-- CLAUSE37_COMPLETE (R174): Clause 37 auto-negotiation completes with the partner's configuration, allowing a 1000BASE-X port in LOCKING to reach UP. -/
  | clause37Complete (p : Nat) (pause asm : Bool)
  /-- MSIX_ENABLE (R58): The host enables MSI-X of a PCIe function, and a pending interrupt sends its message at once. -/
  | msixEnable (pf : Nat)
  /-- ACCESS_ERROR_READ (R6): A misaligned, non-32-bit or unmapped read returns 0, records the access error and captures it. -/
  | accessErrorRead (ctx addr size : Nat)
  /-- PE_PERST_ASSERT (R433): PE_PERST_N goes low, the PCIe link goes down and PCIe contexts detach. -/
  | pePerstAssert
  /-- PE_PERST_RELEASE (R433): PE_PERST_N rises and link training starts within 20 ms. -/
  | pePerstRelease
  /-- DEVICE_RESET_DELAY_EXPIRY (R399): The delay of an accepted DEVICE_RESET ends and the device enters a full reset with cause HOST. -/
  | deviceResetDelayExpiry
  /-- LIFECYCLE_HOLD_EXPIRY (R411): The 10 ms run-on of an advance ends; the device enters reset, wipes memories and programs OTP. -/
  | lifecycleHoldExpiry
  /-- LIFECYCLE_OTP_DONE (R411): OTP programming of the life-cycle field ends and a full reset with cause LIFECYCLE follows. -/
  | lifecycleOtpDone
  /-- FENCE_COMPLETE (R290): The last frame outstanding at a fence's acceptance leaves or is dropped and the fence completes. -/
  | fenceComplete
  /-- OSC_QUALIFY (R16): OSC_IN stays within ±100 ppm for 1 ms and is qualified, entering the Running phase. -/
  | oscQualify
  /-- OSC_WAIT_TIMEOUT (R16): OSC_IN is not qualified 5 ms after reset release and OSC_FAIL is raised. -/
  | oscWaitTimeout
  /-- OSC_DISQUALIFY (R17): OSC_IN loses edges or leaves ±200 ppm and the device enters the Oscillator lost phase. -/
  | oscDisqualify
  /-- LAST_RESORT_EXIT (R19): At the first epoch after a TCU becomes active and ready, the device leaves the Last resort phase. -/
  | lastResortExit
  /-- STEP_APPLY (R62): At the next clock alignment epoch the 64 ns part of a step is added to the counter and STEP_DONE is raised. -/
  | stepApply
  /-- SWITCH_EPOCH (R155): At the first epoch after the token moves every source changes to the new active TCU. -/
  | switchEpoch
  /-- LOCKSTEP_LOST (R159): Sixteen mismatches within one hoop send the standby back to SYNCING. -/
  | lockstepLost
  /-- REVERT_HOLDOFF_EXPIRY (R160): The revert hold-off expires with HOME STANDBY and the token moves to HOME. -/
  | revertHoldoffExpiry
  /-- DUAL_CLAIM (R164): Both TCUs claim the token and the arbiter grants it to LEAD_SEL, the loser entering SYNCING. -/
  | dualClaim
  /-- TIME_DISAGREE (R165): The TCUs differ by more than ARB_LEAD_TOL for 16 epochs and a judgement starts. -/
  | timeDisagree
  /-- HOOP_BOUNDARY (R223): A hoop boundary of network time begins hoop N. -/
  | hoopBoundary
  /-- WHEY_PERIODIC_START (R313): A periodic Whey walk falls due and starts or is skipped. -/
  | wheyPeriodicStart
  /-- WHEY_WALK_END (R312): A Whey walk ends, reporting leaks and conflicts and reclaiming if selected. -/
  | wheyWalkEnd
  /-- SAMPLE_SWEEP (R340): A sampler sweep writes a header and one record per watch entry, or is skipped or dropped. -/
  | sampleSweep
  /-- CAPTURE_DONE (R378): The calibration capture completes and CAPTURE_DONE is raised. -/
  | captureDone
  /-- APPLY_DONE (R380): Every section has been applied or skipped and APPLY_DONE is raised. -/
  | applyDone
  /-- POWER_ON_RESET (R391): VDD_CORE or VDDIO_L falls below its power-on level and the device resets clearing RWS fields. -/
  | powerOnReset
  /-- PORST (R399): PORST_N held low for at least 1 µs causes a full reset. -/
  | porst
  /-- WIPE_COMPLETE (R403): The memory wipe after reset release ends and memory windows open. -/
  | wipeComplete
  /-- BG_DWELL_EXPIRY (R394): T_max stays below a threshold less HYST for DWELL and the thermal level falls by one. -/
  | bgDwellExpiry
  /-- THERMAL_RELEASE (R396): T_max stays below RELEASE for 10 ms and the thermal reset may release. -/
  | thermalRelease
  /-- DEVICE_READY (R410): All readiness conditions hold, BOOT_STAT.READY is set and BOOT_TIME recorded. -/
  | deviceReady
  deriving DecidableEq, Repr

end Sys2Proof
end

