-- ==== Sys2Proof/Decode.lean ====
section
/-! DEFINITION. The command that a word spells by the bits of the command table: the table gives no row any bits, since the block has no instruction words, so no word spells one. -/

namespace Sys2Proof

/-- Log 13 (DESIGN CHOICE; safe). -/
def decodeTableWord (_nbits _w : Nat) : Option Instr := none

end Sys2Proof
end

