-- ==== Sys2Proof/Config.lean ====
section
/-! DEFINITION. What the spec leaves open: free values, each an opaque constant with no body, applied to the operands it depends on or to the count of free values taken. -/

namespace Sys2Proof.Config

/-- The rate word that the Rennet servo's loop filter adds to its integrator, and the integrator's own step: the spec
gives the loop's limits and no filter (R106). Arguments: the phase error in ps and the count of free values taken.
Log 10 (DESIGN CHOICE; safe). Log 42 (DESIGN CHOICE; safe). -/
opaque servoSlew : Int → Nat → Int
opaque servoInteg : Int → Nat → Int

/-- What the alignment loop's detector measures of a TCU's clock against the active's at an epoch, ps: TCU and epoch (R149).
Log 90 (DESIGN CHOICE; safe). -/
opaque alignResidual : Nat → Nat → Int

/-- The phase of a clock output's divider before anything fixes it, in units of 2⁻²⁴ VCO periods (R115): output and the output's
period in those units, the same in both TCUs (R121). Log 91 (DESIGN CHOICE; safe). -/
opaque dividerPhase : Nat → Int → Int

/-- The phase of a reference for which no edge has been captured, in units of 2⁻¹⁶ ns (R92). Argument: free values taken.
Log 91 (DESIGN CHOICE; safe). -/
opaque refPhase : Nat → Int

/-- The value of `LC_NONCE` drawn at a reset release (R411). Log 82 (DESIGN CHOICE; safe).
Log 10 (DESIGN CHOICE; safe). -/
opaque nonce : Nat → Nat

/-- The sequence field of an in-band interrupt notice, which R45 and R58 do not state. Argument: free values taken.
Log 79 (DEDUCED; unsafe). -/
opaque noticeSeq : Nat → Nat

/-- The pulse at which the frames of an aligned frame output begin, which R118 does not state. Argument: the output.
Log 45 (DESIGN CHOICE; unsafe). -/
opaque frameOrigin : Nat → Nat

/-- What the domain tracker's loop adds to DOM_OFS and to DOM_RATE, in units of 2⁻⁴⁸ ns and 2⁻⁴⁸: the spec gives the
loop's order, damping and bandwidth and no discrete form of it (R141). Arguments: the difference from the prediction in
units of 2⁻⁴⁸ ns, the BW code, the ns since the sample before, and the count of free values taken.
Log 42 (DESIGN CHOICE; safe). -/
opaque trkPhase : Int → Nat → Nat → Nat → Int
opaque trkFreq : Int → Nat → Nat → Nat → Int

/-- The calibrated clock-lane transmit latency of a trunk minus 7.400 ns, in units of 2⁻¹⁶ ns: no register holds it (R29,
R198). Argument: the trunk. Log 62 (DESIGN CHOICE; safe). -/
opaque clkTxRes : Nat → Int

/-- Whether a life-cycle advance that a reset cuts short leaves the new state (R411), and the bits of a user word that its
programming reached when a reset cut it short (R415). Argument: free values taken. Log 73 (DEDUCED; unsafe). -/
opaque advanceCut : Nat → Bool
opaque otpCut : Nat → Nat

/-- Whether the reference multiplier still holds lock when a TCU fails for the loss of a lock (R157). Argument: free values taken.
Log 87 (DEDUCED; unsafe). -/
opaque refmulHolds : Nat → Bool

/-- Whether PORST_N still holds the device in reset, its rise being named by no command (R392, R434), by the count of free values taken.
Log 77 (DESIGN CHOICE; unsafe). -/
opaque porstHeld : Nat → Bool

/-- The errors that a port's pattern checker finds between two reads of `PAT_ERR` (R186): what the line makes of the
pattern is its own. Argument: free values taken. Log 81 (DESIGN CHOICE; safe). -/
opaque patErr : Nat → Nat

/-- What the copy of a Vat bank finds uncorrectable in a frame's cells, as an octet of the frame (R296), and whether a Whey walk had followed
a chain when it was lost (R311), by the count of free values taken and the frame. Log 116 (DESIGN CHOICE; safe). -/
opaque copyFound : Nat → Nat → Option Nat
opaque walkPast : Nat → Bool

/-- Whether the uncorrectable word that a host copy meets is a link entry (R310), by the count of free values taken.
Log 107 (DESIGN CHOICE; safe). -/
opaque hostLink : Nat → Bool

/-- How long a command of the shaper window keeps it busy, in ns up to 100 (R343), by the count of free values taken.
Log 117 (DESIGN CHOICE; safe). -/
opaque shapeBusy : Nat → Nat

/-- What stands for the receive PCS time of a frame that a host or an engine submits, in units of 2⁻¹⁶ ns: R341 reckons the
head delay from it, and the spec gives such a frame none. Argument: free values taken. Log 85 (DESIGN CHOICE; safe). -/
opaque hostArrival : Nat → Int

/-- The octet of a frame at which an uncorrectable word met by its delivery to a host begins, which every other copy then meets too
(R309). Argument: free values taken. Log 107 (DESIGN CHOICE; safe). -/
opaque hurtAt : Nat → Nat

/-- How long a line stands idle before a frame beyond the gap that R246 gives it, in whole blocks of idle, or in octets below 10 Gb/s.
Argument: free values taken. Log 93 (DEDUCED; safe). -/
opaque gapExtra : Nat → Nat

/-- Numbers that divide the slots of the pipelines and engines among the categories that the model does not tell apart (R365, R366).
Argument: free values taken. Log 65 (DESIGN CHOICE; unsafe). -/
opaque slotsUsed : Nat → List Nat

/-- The instruction address of a running task at an event that a counter takes in (R364). Argument: free values taken. Log 123 (DESIGN CHOICE; unsafe). -/
opaque instrAddr : Nat → Nat

end Sys2Proof.Config
end

