-- ==== Sys2Proof/Machine/Store.lean ====
section
/-! DEFINITION. Reading and writing the canonical store: the one place where sparse data is looked up and updated. -/

namespace Sys2Proof.Machine

open Sys2Proof

/-- The entry at `k`; `d` is what an unlisted key reads as. -/
def look {α : Type} (d : α) : Store α → Nat → α
  | [], _ => d
  | (k, v) :: m, q => if q = k then v else look d m q

/-- Removes the entry at `q`. -/
def drop {α : Type} : Store α → Nat → Store α
  | [], _ => []
  | (k, v) :: m, q => if q = k then drop m q else (k, v) :: drop m q

/-- Puts an entry in its place by key, `q` being absent from the store. -/
def insert {α : Type} : Store α → Nat → α → Store α
  | [], q, x => [(q, x)]
  | (k, v) :: m, q, x => if q < k then (q, x) :: (k, v) :: m else (k, v) :: insert m q x

/-- Writes `x` at `q`; writing what an unlisted key reads as removes the entry, which keeps the form canonical.
Log 2 (DESIGN CHOICE; unsafe). -/
def put {α : Type} [DecidableEq α] (d : α) (m : Store α) (q : Nat) (x : α) : Store α :=
  if x = d then drop m q else insert (drop m q) q x

/-- Replaces the entry at `q` by a function of it. -/
def upd {α : Type} [DecidableEq α] (d : α) (m : Store α) (q : Nat) (f : α → α) : Store α :=
  put d m q (f (look d m q))

/-- The keys rise strictly. -/
def rising {α : Type} : Store α → Bool
  | [] => true
  | [_] => true
  | (a, _) :: (b, w) :: m => decide (a < b) && rising ((b, w) :: m)

/-- The canonical form: keys strictly rising and no entry equal to the unlisted value.
Log 2 (DESIGN CHOICE; unsafe). -/
def canon {α : Type} [DecidableEq α] (d : α) (m : Store α) : Bool :=
  rising m && m.all (fun e => decide (e.2 ≠ d))

end Sys2Proof.Machine
end

