-- ==== Sys2Proof/Machine/Operands.lean ====
section
/-! DEFINITION. Operand forms: bit fields, sign extension, octet order, the device's time format and the check codes that the spec defines. -/

namespace Sys2Proof.Machine

open Sys2Proof

/-- The `w` bits of `v` from bit `lo`. -/
def bits (v lo w : Nat) : Nat := v >>> lo % 2 ^ w

/-- Bit `i` of `v`. -/
def bitAt (v i : Nat) : Bool := v.testBit i

/-- 1 for true. -/
def b2n (b : Bool) : Nat := if b then 1 else 0

/-- A `w`-bit value read as two's complement. -/
def toInt (w v : Nat) : Int := if v < 2 ^ (w - 1) then (v : Int) else (v : Int) - 2 ^ w

/-- An integer as a `w`-bit two's-complement value, wrapped. -/
def ofInt (w : Nat) (i : Int) : Nat := (i % 2 ^ w).toNat

/-- An integer as a `w`-bit two's-complement value, saturated. -/
def satInt (w : Nat) (i : Int) : Nat :=
  ofInt w (if i < -2 ^ (w - 1) then -2 ^ (w - 1) else if i ≥ 2 ^ (w - 1) then 2 ^ (w - 1) - 1 else i)

/-- A natural number saturated at `w` bits. -/
def satNat (w n : Nat) : Nat := if n < 2 ^ w then n else 2 ^ w - 1

/-- `a / b` rounded to the nearest whole number, ties away from zero on naturals (b > 0). -/
def divRound (a b : Nat) : Nat := (2 * a + b) / (2 * b)

/-- `a / b` rounded to the nearest whole number, ties to the even one (b > 0). Log 61 (DEDUCED; unsafe). -/
def divEven (a b : Int) : Int :=
  let q := a / b
  let r := 2 * (a - q * b)
  if r < b then q else if r > b then q + 1 else if q % 2 = 0 then q else q + 1

/-- A step in units of 2⁻¹⁶ ns rounded to whole multiples of 64 ns, ties towards zero, in ns (R62). -/
def round64 (x : Int) : Int :=
  let u : Int := 64 * 65536
  let n := x.natAbs
  let q := n / u.toNat
  let r := n - q * u.toNat
  let m : Int := if 2 * r > u.toNat then (q : Int) + 1 else q
  (if x < 0 then -m else m) * 64

/-- A value of the device's time format, seconds two's complement of `w` bits, in units of 2⁻¹⁶ ns (R61). -/
def timeVal (w sec ns frac : Nat) : Int := (toInt w sec * 1000000000 + ns) * 65536 + frac

/-- The big-endian value of some octets. -/
def beVal (l : List Byte) : Nat := l.foldl (fun a b => a * 256 + b.toNat) 0

/-- `n` octets of a value, most significant first. -/
def beOct (n v : Nat) : List Byte := (List.range n).map (fun i => BitVec.ofNat 8 (v / 256 ^ (n - 1 - i)))

/-- `n` octets of a value, least significant first. -/
def leOct (n v : Nat) : List Byte := (List.range n).map (fun i => BitVec.ofNat 8 (v / 256 ^ i))

/-- The octets of `l` from `i`, `n` of them. -/
def octets (l : List Byte) (i n : Nat) : List Byte := (l.drop i).take n

/-- The big-endian value of `n` octets of `l` from `i`. -/
def beAt (l : List Byte) (i n : Nat) : Nat := beVal (octets l i n)

/-- `l` with the octets from `i` replaced by `x`. -/
def setOct (l : List Byte) (i : Nat) (x : List Byte) : List Byte := l.take i ++ x ++ l.drop (i + x.length)

/-- One bit of a CRC of width `w`, most significant bit first. -/
def crcBit (w poly crc : Nat) (b : Bool) : Nat :=
  let top := bitAt crc (w - 1) != b
  let sh := crc * 2 % 2 ^ w
  if top then sh ^^^ poly else sh

/-- A CRC of width `w` over a list of bits. -/
def crc (w poly init : Nat) (bs : List Bool) : Nat := bs.foldl (crcBit w poly) init

/-- The low `n` bits of `v`, least significant first. -/
def bitsLsb (n v : Nat) : List Bool := (List.range n).map (bitAt v)

/-- The low `n` bits of `v`, most significant first. -/
def bitsMsb (n v : Nat) : List Bool := ((List.range n).map (bitAt v)).reverse

end Sys2Proof.Machine
end

