-- ==== Sys2Proof/Machine/Field.lean ====
section
/-! DEFINITION. What a field of a register map is: its place, its access type (R8), its reset value, the encodings its Meaning cell lists (R7) and whether it is double-buffered (R40). -/

namespace Sys2Proof.Machine

/-- The access types of R8 that a field can have (a reserved bit is a bit of no field). -/
inductive Acc where
  | ro | rw | w1c | w1s | wo | rws
  deriving DecidableEq, Repr

/-- The encodings a field's Meaning cell lists (R7). -/
inductive Legal where
  /-- every encoding of the field's width -/
  | any
  /-- `lo` to `hi`, multiples of `step` only -/
  | range (lo hi step : Nat)
  /-- a signed field whose values run from −m to m − 1 -/
  | signed (m : Nat)
  /-- the values listed -/
  | oneOf (vs : List Nat)
  /-- a candidate source of R94 -/
  | src
  deriving DecidableEq, Repr

/-- One field of a register map, or an array of them at a stride. -/
structure Fld where
  off : Nat
  stride : Nat := 0
  n : Nat := 1
  lo : Nat
  w : Nat
  acc : Acc := .ro
  /-- the reset value of every element -/
  rst : Nat := 0
  /-- the reset values by element, where they differ -/
  rsts : List Nat := []
  /-- the reset value depends on the page -/
  spec : Bool := false
  legal : Legal := .any
  /-- double-buffered (R40) -/
  db : Bool := false
  /-- a counter that a read clears (R183 and its like) -/
  clr : Bool := false
  deriving DecidableEq, Repr

/-- Which element of the field's array stands at offset `o`, if one does. -/
def Fld.idxAt (f : Fld) (o : Nat) : Option Nat :=
  if f.n ≤ 1 then (if o = f.off then some 0 else none)
  else if f.off ≤ o ∧ (o - f.off) % f.stride = 0 ∧ (o - f.off) / f.stride < f.n then some ((o - f.off) / f.stride)
  else none

/-- The offset of element `i`. -/
def Fld.offAt (f : Fld) (i : Nat) : Nat := f.off + f.stride * i

/-- The key of element `i` of the field in the register store: its bit address in the register window (R5).
Log 1 (DESIGN CHOICE; safe). -/
def Fld.key (page : Nat) (f : Fld) (i : Nat) : Nat := (page * 0x1000 + f.offAt i) * 8 + f.lo

/-- The place of a field element within its page: two fields at different places differ on every pair of pages. -/
def Fld.place (f : Fld) (i : Nat) : Nat := (f.offAt i * 8 + f.lo) % 32768

/-- The word of its page in which a field element begins. -/
def Fld.word (f : Fld) (i : Nat) : Nat := f.place i / 32

/-- A field element that stands within its page. -/
def Fld.inPage (f : Fld) (i : Nat) : Bool := decide (f.offAt i * 8 + f.lo < 32768)

/-- Whether the value `v` is an encoding the Meaning cell lists (R7). -/
def Legal.ok (l : Legal) (w v : Nat) : Bool :=
  match l with
  | .any => true
  | .range lo hi step => decide (lo ≤ v ∧ v ≤ hi ∧ v % step = 0)
  | .signed m => decide (v < m ∨ 2 ^ w - m ≤ v)
  | .oneOf vs => vs.contains v
  | .src => decide (v ≤ 6 ∨ (0x08 ≤ v ∧ v ≤ 0x13) ∨ v = 0x18 ∨ v = 0x19)

end Sys2Proof.Machine
end

