-- ==== Sys2Proof/Machine/RegMapA.lean ====
section
/-! DEFINITION. The register maps of the page header, the host contexts and the timing blocks, field by field, from the register and field tables of the spec. -/

namespace Sys2Proof.Machine.R

/-! ### Block HDR: R35, R36 -/

def HDR.HDR_ID_TYPE : Fld := { off := 0x000, lo := 0, w := 8, spec := true }
def HDR.HDR_ID_INSTANCE : Fld := { off := 0x000, lo := 8, w := 8, spec := true }
def HDR.HDR_ID_LAYOUT : Fld := { off := 0x000, lo := 16, w := 8, rst := 1 }
def HDR.HDR_OWNER_OWNER : Fld := { off := 0x004, lo := 0, w := 2, acc := .rw, spec := true }
def HDR.HDR_OWNER_LOCKED : Fld := { off := 0x004, lo := 8, w := 1, acc := .w1s }
def HDR.HDR_STATUS_READY : Fld := { off := 0x008, lo := 0, w := 1 }
def HDR.HDR_STATUS_BUSY : Fld := { off := 0x008, lo := 1, w := 1 }
def HDR.HDR_STATUS_PWR : Fld := { off := 0x008, lo := 2, w := 2 }
def HDR.HDR_STATUS_FAULT : Fld := { off := 0x008, lo := 4, w := 1 }
def HDR.HDR_STATUS_FAULT_CODE : Fld := { off := 0x008, lo := 8, w := 8 }
def HDR.HDR_INT_CAUSE : Fld := { off := 0x00C, lo := 0, w := 30, acc := .w1c }
def HDR.HDR_INT_ENABLE : Fld := { off := 0x010, lo := 0, w := 30, acc := .rw }
def HDR.HDR_INT_ROUTE_CTX_MASK : Fld := { off := 0x014, lo := 0, w := 4, acc := .rw }
def HDR.HDR_INT_ROUTE_FOLLOW_OWNER : Fld := { off := 0x014, lo := 4, w := 1, acc := .rw, rst := 1 }
def HDR.HDR_ERR_CAUSE_ACC : Fld := { off := 0x018, lo := 0, w := 6, acc := .w1c }
def HDR.HDR_ERR_CAUSE_INTEG : Fld := { off := 0x018, lo := 8, w := 3, acc := .w1c }
def HDR.HDR_ERR_CAPTURE_OFFSET : Fld := { off := 0x01C, lo := 2, w := 10 }
def HDR.HDR_ERR_CAPTURE_CTX : Fld := { off := 0x01C, lo := 12, w := 2 }
def HDR.HDR_ERR_CAPTURE_WRITE : Fld := { off := 0x01C, lo := 14, w := 1 }
def HDR.HDR_ERR_CAPTURE_CODE : Fld := { off := 0x01C, lo := 16, w := 4 }
def HDR.HDR_ERR_CAPTURE_VALID : Fld := { off := 0x01C, lo := 31, w := 1 }
def HDR.HDR_SHADOW_CTL_ARM : Fld := { off := 0x020, lo := 0, w := 1, acc := .w1s }
def HDR.HDR_SHADOW_CTL_CANCEL : Fld := { off := 0x020, lo := 1, w := 1, acc := .w1s }
def HDR.HDR_SHADOW_CTL_SEQ : Fld := { off := 0x020, lo := 8, w := 8 }
def HDR.HDR_COMMIT_AT_BOUNDARY : Fld := { off := 0x024, lo := 0, w := 3, acc := .rw }
def HDR.HDR_COMMIT_AT_AT_SEC : Fld := { off := 0x024, lo := 16, w := 16, acc := .rw }
def HDR.HDR_CAL_COUNT : Fld := { off := 0x028, lo := 0, w := 32 }
def HDR.HDR_CAL_LAST : Fld := { off := 0x02C, lo := 0, w := 32 }
def HDR.HDR_SPARE_STAT_TOTAL : Fld := { off := 0x030, lo := 0, w := 4 }
def HDR.HDR_SPARE_STAT_USED : Fld := { off := 0x030, lo := 4, w := 4 }
def HDR.HDR_SPARE_STAT_APPROVAL_WAIT : Fld := { off := 0x030, lo := 8, w := 1 }
def HDR.HDR_WEAR_INDEX : Fld := { off := 0x034, lo := 0, w := 8 }
def HDR.HDR_WEAR_SLICE : Fld := { off := 0x034, lo := 16, w := 8 }
def HDR.HDR_RSV38 : Fld := { off := 0x038, lo := 0, w := 32 }
def HDR.HDR_RSV3C : Fld := { off := 0x03C, lo := 0, w := 32 }

/-- Every field of the block's register map, R35, R36. -/
def HDR.rows : List Fld :=
  [HDR.HDR_ID_TYPE, HDR.HDR_ID_INSTANCE, HDR.HDR_ID_LAYOUT, HDR.HDR_OWNER_OWNER, HDR.HDR_OWNER_LOCKED, HDR.HDR_STATUS_READY, HDR.HDR_STATUS_BUSY, HDR.HDR_STATUS_PWR, HDR.HDR_STATUS_FAULT, HDR.HDR_STATUS_FAULT_CODE, HDR.HDR_INT_CAUSE, HDR.HDR_INT_ENABLE, HDR.HDR_INT_ROUTE_CTX_MASK, HDR.HDR_INT_ROUTE_FOLLOW_OWNER, HDR.HDR_ERR_CAUSE_ACC, HDR.HDR_ERR_CAUSE_INTEG, HDR.HDR_ERR_CAPTURE_OFFSET, HDR.HDR_ERR_CAPTURE_CTX, HDR.HDR_ERR_CAPTURE_WRITE, HDR.HDR_ERR_CAPTURE_CODE, HDR.HDR_ERR_CAPTURE_VALID, HDR.HDR_SHADOW_CTL_ARM, HDR.HDR_SHADOW_CTL_CANCEL, HDR.HDR_SHADOW_CTL_SEQ, HDR.HDR_COMMIT_AT_BOUNDARY, HDR.HDR_COMMIT_AT_AT_SEC, HDR.HDR_CAL_COUNT, HDR.HDR_CAL_LAST, HDR.HDR_SPARE_STAT_TOTAL, HDR.HDR_SPARE_STAT_USED, HDR.HDR_SPARE_STAT_APPROVAL_WAIT, HDR.HDR_WEAR_INDEX, HDR.HDR_WEAR_SLICE, HDR.HDR_RSV38, HDR.HDR_RSV3C]

/-! ### Block HC: R48, R259, R260 -/

def HC.CTX_CTL_CMD_EN : Fld := { off := 0x040, lo := 0, w := 1, acc := .rw }
def HC.CTX_CTL_CPL_EN : Fld := { off := 0x040, lo := 1, w := 1, acc := .rw }
def HC.CTX_CTL_INT_PIN : Fld := { off := 0x040, lo := 2, w := 1, acc := .rw, spec := true }
def HC.CTX_STAT_ATTACHED : Fld := { off := 0x044, lo := 0, w := 1 }
def HC.CTX_STAT_STALLED : Fld := { off := 0x044, lo := 1, w := 1 }
def HC.CTX_STAT_PORT : Fld := { off := 0x044, lo := 8, w := 2 }
def HC.CMD_BASE_LO : Fld := { off := 0x048, lo := 0, w := 32, acc := .rw }
def HC.CMD_BASE_HI : Fld := { off := 0x04C, lo := 0, w := 32, acc := .rw }
def HC.CMD_SIZE : Fld := { off := 0x050, lo := 0, w := 4, acc := .rw, rst := 6, legal := .range 4 12 1 }
def HC.CMD_PROD : Fld := { off := 0x054, lo := 0, w := 32, acc := .rw }
def HC.CMD_CONS : Fld := { off := 0x058, lo := 0, w := 32 }
def HC.CPL_BASE_LO : Fld := { off := 0x05C, lo := 0, w := 32, acc := .rw }
def HC.CPL_BASE_HI : Fld := { off := 0x060, lo := 0, w := 32, acc := .rw }
def HC.CPL_SIZE : Fld := { off := 0x064, lo := 0, w := 4, acc := .rw, rst := 6, legal := .range 4 12 1 }
def HC.CPL_PROD : Fld := { off := 0x068, lo := 0, w := 32 }
def HC.CPL_CONS : Fld := { off := 0x06C, lo := 0, w := 32, acc := .rw }
def HC.INT_REARM : Fld := { off := 0x070, lo := 0, w := 1, acc := .wo }
def HC.INT_HOLDOFF : Fld := { off := 0x074, lo := 0, w := 16, acc := .rw }
def HC.INT_TOP : Fld := { off := 0x078, lo := 0, w := 32 }
def HC.INT_PAGE_PEND : Fld := { off := 0x080, stride := 0x4, n := 24, lo := 0, w := 32 }
def HC.BCAST_CAUSE : Fld := { off := 0x0E0, lo := 0, w := 8, acc := .w1c }
def HC.BCAST_ENABLE : Fld := { off := 0x0E4, lo := 0, w := 8, acc := .rw, rst := 255 }
def HC.PKT_CTL_RX_EN : Fld := { off := 0x100, lo := 0, w := 1, acc := .rw }
def HC.PKT_CTL_TX_EN : Fld := { off := 0x100, lo := 1, w := 1, acc := .rw }
def HC.TXR_BASE_LO : Fld := { off := 0x110, lo := 0, w := 32, acc := .rw }
def HC.TXR_BASE_HI : Fld := { off := 0x114, lo := 0, w := 32, acc := .rw }
def HC.TXR_SIZE : Fld := { off := 0x118, lo := 0, w := 4, acc := .rw, rst := 6, legal := .range 4 12 1 }
def HC.TXR_PROD : Fld := { off := 0x11C, lo := 0, w := 32, acc := .rw }
def HC.TXR_CONS : Fld := { off := 0x120, lo := 0, w := 32 }
def HC.RXR_BASE_LO : Fld := { off := 0x130, lo := 0, w := 32, acc := .rw }
def HC.RXR_BASE_HI : Fld := { off := 0x134, lo := 0, w := 32, acc := .rw }
def HC.RXR_SIZE : Fld := { off := 0x138, lo := 0, w := 4, acc := .rw, rst := 6, legal := .range 4 12 1 }
def HC.RXR_PROD : Fld := { off := 0x13C, lo := 0, w := 32, acc := .rw }
def HC.RXR_CONS : Fld := { off := 0x140, lo := 0, w := 32 }
def HC.RXR_BUF : Fld := { off := 0x144, lo := 0, w := 15, acc := .rw, rst := 2048, legal := .range 256 16384 64 }
def HC.PKT_RXF_LEVEL_OCTETS : Fld := { off := 0x180, lo := 0, w := 16 }
def HC.PKT_RXF_LEVEL_FRAMES : Fld := { off := 0x180, lo := 16, w := 16 }
def HC.PKT_RXF_DATA : Fld := { off := 0x184, lo := 0, w := 32 }
def HC.PKT_TXF_SPACE : Fld := { off := 0x188, lo := 0, w := 16, rst := 16384 }
def HC.PKT_TXF_DATA : Fld := { off := 0x18C, lo := 0, w := 32, acc := .wo }
def HC.PKT_CNT_RX_DROP : Fld := { off := 0x1A0, lo := 0, w := 32, clr := true }
def HC.PKT_CNT_TX_BAD : Fld := { off := 0x1A4, lo := 0, w := 32, clr := true }
def HC.CPL_RING : Fld := { off := 0x400, stride := 0x4, n := 256, lo := 0, w := 32 }
def HC.CMD_RING : Fld := { off := 0x800, stride := 0x4, n := 512, lo := 0, w := 32, acc := .rw }

/-- Every field of the block's register map, R48, R259, R260. A ring base that is not 64-byte aligned is stored as written.
Log 102 (DESIGN CHOICE; unsafe). -/
def HC.rows : List Fld :=
  [HC.CTX_CTL_CMD_EN, HC.CTX_CTL_CPL_EN, HC.CTX_CTL_INT_PIN, HC.CTX_STAT_ATTACHED, HC.CTX_STAT_STALLED, HC.CTX_STAT_PORT, HC.CMD_BASE_LO, HC.CMD_BASE_HI, HC.CMD_SIZE, HC.CMD_PROD, HC.CMD_CONS, HC.CPL_BASE_LO, HC.CPL_BASE_HI, HC.CPL_SIZE, HC.CPL_PROD, HC.CPL_CONS, HC.INT_REARM, HC.INT_HOLDOFF, HC.INT_TOP, HC.INT_PAGE_PEND, HC.BCAST_CAUSE, HC.BCAST_ENABLE, HC.PKT_CTL_RX_EN, HC.PKT_CTL_TX_EN, HC.TXR_BASE_LO, HC.TXR_BASE_HI, HC.TXR_SIZE, HC.TXR_PROD, HC.TXR_CONS, HC.RXR_BASE_LO, HC.RXR_BASE_HI, HC.RXR_SIZE, HC.RXR_PROD, HC.RXR_CONS, HC.RXR_BUF, HC.PKT_RXF_LEVEL_OCTETS, HC.PKT_RXF_LEVEL_FRAMES, HC.PKT_RXF_DATA, HC.PKT_TXF_SPACE, HC.PKT_TXF_DATA, HC.PKT_CNT_RX_DROP, HC.PKT_CNT_TX_BAD, HC.CPL_RING, HC.CMD_RING]

/-! ### Block INB: R45; the offsets are the model's (log 12) -/

/-- Log 12 (DESIGN CHOICE; unsafe). -/
def INB.INB_PORT : Fld := { off := 0x040, lo := 0, w := 6, acc := .rw, legal := .range 0 47 1 }
def INB.INB_SA_LO : Fld := { off := 0x044, lo := 0, w := 32, acc := .rw }
def INB.INB_SA_HI : Fld := { off := 0x048, lo := 0, w := 16, acc := .rw }
def INB.INB_CNT_DROP : Fld := { off := 0x04C, lo := 0, w := 32 }

/-- Every field of the block's register map, R45; the offsets are the model's (log 12). -/
def INB.rows : List Fld :=
  [INB.INB_PORT, INB.INB_SA_LO, INB.INB_SA_HI, INB.INB_CNT_DROP]

/-! ### Block TIME: the register map of R59-R67 -/

def TIME.TIME_SNAP_SNAP : Fld := { off := 0x040, lo := 0, w := 1, acc := .w1s }
def TIME.TIME_SNAP_SEC_HI : Fld := { off := 0x044, lo := 0, w := 16 }
def TIME.TIME_SNAP_SEC_LO : Fld := { off := 0x048, lo := 0, w := 32 }
def TIME.TIME_SNAP_NS : Fld := { off := 0x04C, lo := 0, w := 30 }
def TIME.TIME_SNAP_CYC_LO : Fld := { off := 0x050, lo := 0, w := 32 }
def TIME.TIME_SNAP_CYC_HI : Fld := { off := 0x054, lo := 0, w := 16 }
def TIME.RATE_LIVE_LO : Fld := { off := 0x058, lo := 0, w := 32 }
def TIME.RATE_LIVE_HI : Fld := { off := 0x05C, lo := 0, w := 8 }
def TIME.RATE_CTL_RATE_SRC : Fld := { off := 0x060, lo := 0, w := 1, acc := .rw }
def TIME.RATE_HOST_LO : Fld := { off := 0x064, lo := 0, w := 32, acc := .rw, db := true }
def TIME.RATE_HOST_HI : Fld := { off := 0x068, lo := 0, w := 8, acc := .rw, db := true }
def TIME.RATE_LIMIT : Fld := { off := 0x06C, lo := 0, w := 18, acc := .rw, rst := 200000, legal := .range 1 200000 1 }
def TIME.STEP_REM : Fld := { off := 0x070, lo := 0, w := 32 }

/-- Every field of the block's register map, the register map of R59-R67. -/
def TIME.rows : List Fld :=
  [TIME.TIME_SNAP_SNAP, TIME.TIME_SNAP_SEC_HI, TIME.TIME_SNAP_SEC_LO, TIME.TIME_SNAP_NS, TIME.TIME_SNAP_CYC_LO, TIME.TIME_SNAP_CYC_HI, TIME.RATE_LIVE_LO, TIME.RATE_LIVE_HI, TIME.RATE_CTL_RATE_SRC, TIME.RATE_HOST_LO, TIME.RATE_HOST_HI, TIME.RATE_LIMIT, TIME.STEP_REM]

/-! ### Block TDC: R76-R82 -/

def TDC.TDC_ARM_SRC : Fld := { off := 0x040, lo := 0, w := 3, acc := .rw, legal := .range 0 4 1 }
def TDC.TDC_ARM_EDGE : Fld := { off := 0x040, lo := 4, w := 2, acc := .rw, rst := 1, legal := .range 1 3 1 }
def TDC.TDC_ARM_GATE_POL : Fld := { off := 0x040, lo := 6, w := 1, acc := .rw }
def TDC.TDC_ARM_INT_SRC : Fld := { off := 0x040, lo := 8, w := 2, acc := .rw, legal := .range 0 2 1 }
def TDC.TDC_ARM_ONE_SHOT : Fld := { off := 0x040, lo := 10, w := 1, acc := .rw }
def TDC.TDC_ARM_CAL_DEFER : Fld := { off := 0x040, lo := 11, w := 1, acc := .rw }
def TDC.TDC_ARM_NOW_NOW : Fld := { off := 0x044, lo := 0, w := 1, acc := .w1s }
def TDC.TDC_ARM_AT_SEC : Fld := { off := 0x048, lo := 0, w := 32, acc := .rw, db := true }
def TDC.TDC_ARM_AT_NS : Fld := { off := 0x04C, lo := 0, w := 30, acc := .rw, db := true }
def TDC.TDC_WINDOW : Fld := { off := 0x050, lo := 0, w := 16, acc := .rw }
def TDC.TDC_STAT_LINE_LOCK : Fld := { off := 0x054, lo := 0, w := 5 }
def TDC.TDC_STAT_ARMED : Fld := { off := 0x054, lo := 5, w := 1, rst := 1 }
def TDC.TDC_STAT_GATE_IDLE : Fld := { off := 0x054, lo := 6, w := 1, rst := 1 }
def TDC.TDC_STAT_CAL_RUNNING : Fld := { off := 0x054, lo := 7, w := 1 }
def TDC.TDC_STAT_SPARE_FOR : Fld := { off := 0x054, lo := 8, w := 3, rst := 7 }
def TDC.TDC_STAT_FIFO_LEVEL : Fld := { off := 0x054, lo := 16, w := 7 }
def TDC.TDC_CNT_DEAD : Fld := { off := 0x058, lo := 0, w := 32, clr := true }
def TDC.TDC_CNT_OVF : Fld := { off := 0x05C, lo := 0, w := 32, clr := true }
def TDC.TDC_CNT_CALMISS : Fld := { off := 0x060, lo := 0, w := 32, clr := true }
def TDC.TDC_LAT : Fld := { off := 0x064, lo := 0, w := 32 }
def TDC.TDC_RES : Fld := { off := 0x070, stride := 0x4, n := 5, lo := 0, w := 32 }
def TDC.TDC_LUT_IDX : Fld := { off := 0x090, lo := 0, w := 9, acc := .rw }
def TDC.TDC_LUT_DATA : Fld := { off := 0x094, lo := 0, w := 16, acc := .rw }

/-- Every field of the block's register map, R76-R82. -/
def TDC.rows : List Fld :=
  [TDC.TDC_ARM_SRC, TDC.TDC_ARM_EDGE, TDC.TDC_ARM_GATE_POL, TDC.TDC_ARM_INT_SRC, TDC.TDC_ARM_ONE_SHOT, TDC.TDC_ARM_CAL_DEFER, TDC.TDC_ARM_NOW_NOW, TDC.TDC_ARM_AT_SEC, TDC.TDC_ARM_AT_NS, TDC.TDC_WINDOW, TDC.TDC_STAT_LINE_LOCK, TDC.TDC_STAT_ARMED, TDC.TDC_STAT_GATE_IDLE, TDC.TDC_STAT_CAL_RUNNING, TDC.TDC_STAT_SPARE_FOR, TDC.TDC_STAT_FIFO_LEVEL, TDC.TDC_CNT_DEAD, TDC.TDC_CNT_OVF, TDC.TDC_CNT_CALMISS, TDC.TDC_LAT, TDC.TDC_RES, TDC.TDC_LUT_IDX, TDC.TDC_LUT_DATA]

/-! ### Block SYNTH: R83-R93 -/

def SYNTH.SYN_CTL_REF_PATH : Fld := { off := 0x040, lo := 0, w := 2, acc := .rw, rst := 2, legal := .range 0 2 1 }
def SYNTH.SYN_CTL_DITHER : Fld := { off := 0x040, lo := 2, w := 1, acc := .rw, rst := 1 }
def SYNTH.SYN_STAT_LOCK : Fld := { off := 0x044, lo := 0, w := 1 }
def SYNTH.SYN_STAT_REFMUL_LOCK : Fld := { off := 0x044, lo := 1, w := 1 }
def SYNTH.SYN_STAT_BAND_VALID : Fld := { off := 0x044, lo := 2, w := 1 }
def SYNTH.SYN_STAT_BAND : Fld := { off := 0x044, lo := 4, w := 6 }
def SYNTH.SYN_STAT_VTUNE : Fld := { off := 0x044, lo := 16, w := 8 }
def SYNTH.SYN_STAT_OSC_NOM : Fld := { off := 0x044, lo := 24, w := 2 }
def SYNTH.SYN_STAT_ACTIVE : Fld := { off := 0x044, lo := 26, w := 1 }
def SYNTH.SYN_N : Fld := { off := 0x048, lo := 0, w := 8, rst := 50 }
def SYNTH.SYN_FRAC : Fld := { off := 0x04C, lo := 0, w := 32 }
def SYNTH.SYN_SUB : Fld := { off := 0x050, lo := 0, w := 16 }
def SYNTH.SYN_DIV_TCU : Fld := { off := 0x054, lo := 0, w := 8, rst := 10 }
def SYNTH.SYN_DIV_SDS : Fld := { off := 0x054, lo := 8, w := 8, rst := 64 }
def SYNTH.SYNC_CTL_EN : Fld := { off := 0x058, lo := 0, w := 1, acc := .rw }
def SYNTH.SYNC_CTL_EDGE : Fld := { off := 0x058, lo := 1, w := 1, acc := .rw }
def SYNTH.SYNC_CTL_OUT_MASK : Fld := { off := 0x058, lo := 8, w := 8, acc := .rw }
def SYNTH.SYNC_LAST_SEC : Fld := { off := 0x05C, lo := 0, w := 32 }
def SYNTH.SYNC_LAST_NS : Fld := { off := 0x060, lo := 0, w := 30 }
def SYNTH.KL_OFFSET : Fld := { off := 0x064, lo := 0, w := 24, acc := .rw, db := true }
def SYNTH.KL_OUT_MASK : Fld := { off := 0x068, lo := 0, w := 8, acc := .rw }

/-- Every field of the block's register map, R83-R93. -/
def SYNTH.rows : List Fld :=
  [SYNTH.SYN_CTL_REF_PATH, SYNTH.SYN_CTL_DITHER, SYNTH.SYN_STAT_LOCK, SYNTH.SYN_STAT_REFMUL_LOCK, SYNTH.SYN_STAT_BAND_VALID, SYNTH.SYN_STAT_BAND, SYNTH.SYN_STAT_VTUNE, SYNTH.SYN_STAT_OSC_NOM, SYNTH.SYN_STAT_ACTIVE, SYNTH.SYN_N, SYNTH.SYN_FRAC, SYNTH.SYN_SUB, SYNTH.SYN_DIV_TCU, SYNTH.SYN_DIV_SDS, SYNTH.SYNC_CTL_EN, SYNTH.SYNC_CTL_EDGE, SYNTH.SYNC_CTL_OUT_MASK, SYNTH.SYNC_LAST_SEC, SYNTH.SYNC_LAST_NS, SYNTH.KL_OFFSET, SYNTH.KL_OUT_MASK]

/-! ### Block REFSEL: R94-R108 -/

def REFSEL.REFSEL_CTL_MODE : Fld := { off := 0x040, lo := 0, w := 2, acc := .rw, legal := .range 0 2 1 }
def REFSEL.REFSEL_CTL_FORCE_SLOT : Fld := { off := 0x040, lo := 4, w := 4, acc := .rw }
def REFSEL.REFSEL_CTL_DRIFT_EN : Fld := { off := 0x040, lo := 8, w := 1, acc := .rw, rst := 1 }
def REFSEL.REFSEL_STAT_SEL : Fld := { off := 0x044, lo := 0, w := 4 }
def REFSEL.REFSEL_STAT_SEL_VALID : Fld := { off := 0x044, lo := 4, w := 1 }
def REFSEL.REFSEL_STAT_STATE : Fld := { off := 0x044, lo := 5, w := 2 }
def REFSEL.REFSEL_STAT_NEXT : Fld := { off := 0x044, lo := 8, w := 4 }
def REFSEL.REFSEL_STAT_NEXT_VALID : Fld := { off := 0x044, lo := 12, w := 1 }
def REFSEL.REFSEL_STAT_DISAGREE : Fld := { off := 0x044, lo := 13, w := 1 }
def REFSEL.REFSEL_STAT_QUAL : Fld := { off := 0x044, lo := 16, w := 16 }
def REFSEL.REFSEL_DISAGREE_LIM : Fld := { off := 0x048, lo := 0, w := 18, acc := .rw, rst := 100, legal := .range 1 200000 1 }
def REFSEL.REFSEL_DRIFT_SLOPE : Fld := { off := 0x04C, lo := 0, w := 16, acc := .rw, rst := 5000, legal := .range 1 65535 1 }
def REFSEL.REFSEL_DRIFT_WIN : Fld := { off := 0x04C, lo := 16, w := 12, acc := .rw, rst := 60, legal := .range 10 3600 1 }
def REFSEL.REFSEL_LOCK_THR : Fld := { off := 0x050, lo := 0, w := 16, acc := .rw, rst := 1000, legal := .range 1 65535 1 }
def REFSEL.REFSEL_LOCK_SOAK : Fld := { off := 0x050, lo := 16, w := 12, acc := .rw, rst := 1000, legal := .range 1 4000 1 }
def REFSEL.REFSEL_SLEW : Fld := { off := 0x054, lo := 0, w := 17, acc := .rw, rst := 100000, legal := .range 1 100000 1 }
def REFSEL.REFSEL_OFS_ALARM : Fld := { off := 0x058, lo := 0, w := 32, acc := .rw, rst := 1000 }
def REFSEL.REFSEL_TDC_MAP_SLOT22 : Fld := { off := 0x05C, lo := 0, w := 4, acc := .rw }
def REFSEL.REFSEL_TDC_MAP_EN22 : Fld := { off := 0x05C, lo := 4, w := 1, acc := .rw }
def REFSEL.REFSEL_TDC_MAP_SLOT23 : Fld := { off := 0x05C, lo := 8, w := 4, acc := .rw }
def REFSEL.REFSEL_TDC_MAP_EN23 : Fld := { off := 0x05C, lo := 12, w := 1, acc := .rw }
def REFSEL.REFSEL_SYNCE_LANE0 : Fld := { off := 0x060, lo := 0, w := 6, acc := .rw, legal := .range 0 47 1 }
def REFSEL.REFSEL_SYNCE_LANE1 : Fld := { off := 0x060, lo := 8, w := 6, acc := .rw, rst := 1, legal := .range 0 47 1 }
def REFSEL.REFSEL_TOD_SEC_LO : Fld := { off := 0x064, lo := 0, w := 32, acc := .rw, db := true }
def REFSEL.REFSEL_TOD_SEC_HI : Fld := { off := 0x068, lo := 0, w := 16, acc := .rw, db := true }
def REFSEL.REFSEL_OFFSET : Fld := { off := 0x070, lo := 0, w := 32 }
def REFSEL.CAND_CFG_SRC : Fld := { off := 0x100, stride := 0x20, n := 16, lo := 0, w := 5, acc := .rw, legal := .src }
def REFSEL.CAND_CFG_RANK : Fld := { off := 0x100, stride := 0x20, n := 16, lo := 8, w := 3, acc := .rw, rst := 7 }
def REFSEL.CAND_CFG_EN : Fld := { off := 0x100, stride := 0x20, n := 16, lo := 11, w := 1, acc := .rw }
def REFSEL.CAND_CFG_PULSE : Fld := { off := 0x100, stride := 0x20, n := 16, lo := 12, w := 1, acc := .rw }
def REFSEL.CAND_FREQ : Fld := { off := 0x104, stride := 0x20, n := 16, lo := 0, w := 30, acc := .rw, rst := 10000000 }
def REFSEL.CAND_FWIN : Fld := { off := 0x108, stride := 0x20, n := 16, lo := 0, w := 18, acc := .rw, rst := 10000, legal := .range 10 200000 1 }
def REFSEL.CAND_PLIM : Fld := { off := 0x10C, stride := 0x20, n := 16, lo := 0, w := 20, acc := .rw, rst := 100, legal := .range 1 1000000 1 }
def REFSEL.CAND_SOAK_FSOAK : Fld := { off := 0x110, stride := 0x20, n := 16, lo := 0, w := 12, acc := .rw, rst := 10, legal := .range 0 3600 1 }
def REFSEL.CAND_SOAK_PSOAK : Fld := { off := 0x110, stride := 0x20, n := 16, lo := 16, w := 12, acc := .rw, rst := 10, legal := .range 0 3600 1 }
def REFSEL.CAND_WTR : Fld := { off := 0x114, stride := 0x20, n := 16, lo := 0, w := 12, acc := .rw, rst := 300, legal := .range 0 3600 1 }
def REFSEL.CAND_DELAY : Fld := { off := 0x118, stride := 0x20, n := 16, lo := 0, w := 32, acc := .rw }
def REFSEL.CAND_STAT_STATE : Fld := { off := 0x11C, stride := 0x20, n := 16, lo := 0, w := 3 }
def REFSEL.CAND_STAT_REASON : Fld := { off := 0x11C, stride := 0x20, n := 16, lo := 4, w := 4 }
def REFSEL.CAND_STAT_TIMER : Fld := { off := 0x11C, stride := 0x20, n := 16, lo := 16, w := 12 }
def REFSEL.CAND_FOFS : Fld := { off := 0x300, stride := 0x4, n := 16, lo := 0, w := 32 }

/-- Every field of the block's register map, R94-R108. -/
def REFSEL.rows : List Fld :=
  [REFSEL.REFSEL_CTL_MODE, REFSEL.REFSEL_CTL_FORCE_SLOT, REFSEL.REFSEL_CTL_DRIFT_EN, REFSEL.REFSEL_STAT_SEL, REFSEL.REFSEL_STAT_SEL_VALID, REFSEL.REFSEL_STAT_STATE, REFSEL.REFSEL_STAT_NEXT, REFSEL.REFSEL_STAT_NEXT_VALID, REFSEL.REFSEL_STAT_DISAGREE, REFSEL.REFSEL_STAT_QUAL, REFSEL.REFSEL_DISAGREE_LIM, REFSEL.REFSEL_DRIFT_SLOPE, REFSEL.REFSEL_DRIFT_WIN, REFSEL.REFSEL_LOCK_THR, REFSEL.REFSEL_LOCK_SOAK, REFSEL.REFSEL_SLEW, REFSEL.REFSEL_OFS_ALARM, REFSEL.REFSEL_TDC_MAP_SLOT22, REFSEL.REFSEL_TDC_MAP_EN22, REFSEL.REFSEL_TDC_MAP_SLOT23, REFSEL.REFSEL_TDC_MAP_EN23, REFSEL.REFSEL_SYNCE_LANE0, REFSEL.REFSEL_SYNCE_LANE1, REFSEL.REFSEL_TOD_SEC_LO, REFSEL.REFSEL_TOD_SEC_HI, REFSEL.REFSEL_OFFSET, REFSEL.CAND_CFG_SRC, REFSEL.CAND_CFG_RANK, REFSEL.CAND_CFG_EN, REFSEL.CAND_CFG_PULSE, REFSEL.CAND_FREQ, REFSEL.CAND_FWIN, REFSEL.CAND_PLIM, REFSEL.CAND_SOAK_FSOAK, REFSEL.CAND_SOAK_PSOAK, REFSEL.CAND_WTR, REFSEL.CAND_DELAY, REFSEL.CAND_STAT_STATE, REFSEL.CAND_STAT_REASON, REFSEL.CAND_STAT_TIMER, REFSEL.CAND_FOFS]

/-! ### Block HOLD: R109-R111 -/

def HOLD.HOLD_CTL_TSENS : Fld := { off := 0x040, lo := 0, w := 3, acc := .rw, legal := .oneOf [0, 1, 2, 3, 4, 5, 7] }
def HOLD.HOLD_AVG : Fld := { off := 0x044, lo := 0, w := 17, acc := .rw, rst := 1000, legal := .range 10 100000 1 }
def HOLD.HOLD_DELAY : Fld := { off := 0x048, lo := 0, w := 12, acc := .rw, rst := 60, legal := .range 0 3600 1 }
def HOLD.HOLD_E0 : Fld := { off := 0x04C, lo := 0, w := 24, acc := .rw }
def HOLD.HOLD_Y0 : Fld := { off := 0x050, lo := 0, w := 24, acc := .rw }
def HOLD.HOLD_AGING : Fld := { off := 0x054, lo := 0, w := 24, acc := .rw }
def HOLD.HOLD_TCOEF : Fld := { off := 0x058, lo := 0, w := 24, acc := .rw }
def HOLD.HOLD_TEMP_HOST : Fld := { off := 0x05C, lo := 0, w := 16, acc := .rw }
def HOLD.HOLD_BUDGET : Fld := { off := 0x060, lo := 0, w := 32, acc := .rw, rst := 1000 }
def HOLD.HOLD_STAT_ACTIVE : Fld := { off := 0x064, lo := 0, w := 1 }
def HOLD.HOLD_STAT_OOS : Fld := { off := 0x064, lo := 1, w := 1 }
def HOLD.HOLD_STAT_EST_SHORT : Fld := { off := 0x064, lo := 2, w := 1 }
def HOLD.HOLD_ELAPSED : Fld := { off := 0x068, lo := 0, w := 32 }
def HOLD.HOLD_PRED : Fld := { off := 0x06C, lo := 0, w := 32 }
def HOLD.HOLD_EST_LO : Fld := { off := 0x070, lo := 0, w := 32 }
def HOLD.HOLD_EST_HI : Fld := { off := 0x074, lo := 0, w := 8 }
def HOLD.HOLD_T_ENTRY : Fld := { off := 0x078, lo := 0, w := 16 }

/-- Every field of the block's register map, R109-R111. -/
def HOLD.rows : List Fld :=
  [HOLD.HOLD_CTL_TSENS, HOLD.HOLD_AVG, HOLD.HOLD_DELAY, HOLD.HOLD_E0, HOLD.HOLD_Y0, HOLD.HOLD_AGING, HOLD.HOLD_TCOEF, HOLD.HOLD_TEMP_HOST, HOLD.HOLD_BUDGET, HOLD.HOLD_STAT_ACTIVE, HOLD.HOLD_STAT_OOS, HOLD.HOLD_STAT_EST_SHORT, HOLD.HOLD_ELAPSED, HOLD.HOLD_PRED, HOLD.HOLD_EST_LO, HOLD.HOLD_EST_HI, HOLD.HOLD_T_ENTRY]

/-! ### Block OUT: R115-R121 -/

def OUT.OUT_CTL_EN : Fld := { off := 0x040, lo := 0, w := 1, acc := .rw, db := true }
def OUT.OUT_CTL_MODE : Fld := { off := 0x040, lo := 1, w := 2, acc := .rw, legal := .range 0 2 1, db := true }
def OUT.OUT_CTL_INV : Fld := { off := 0x040, lo := 3, w := 1, acc := .rw, db := true }
def OUT.OUT_CTL_QUIET : Fld := { off := 0x040, lo := 4, w := 2, acc := .rw, rst := 1, legal := .range 0 2 1, db := true }
def OUT.OUT_DIV_INT : Fld := { off := 0x044, lo := 0, w := 24, acc := .rw, rst := 10000, legal := .range 10 10000000 1, db := true }
def OUT.OUT_DIV_FRAC : Fld := { off := 0x048, lo := 0, w := 24, acc := .rw, db := true }
def OUT.OUT_CLK_PHASE : Fld := { off := 0x04C, lo := 0, w := 32, acc := .rw }
def OUT.OUT_PERIOD : Fld := { off := 0x050, lo := 0, w := 30, acc := .rw, rst := 1000000000, db := true }
def OUT.OUT_WIDTH : Fld := { off := 0x054, lo := 0, w := 30, acc := .rw, rst := 1000, db := true }
def OUT.OUT_FRAME_M : Fld := { off := 0x058, lo := 0, w := 16, acc := .rw, db := true }
def OUT.OUT_FRAME_W_FIRST : Fld := { off := 0x058, lo := 16, w := 16, acc := .rw, db := true }
def OUT.OUT_OFS_LO : Fld := { off := 0x05C, lo := 0, w := 32, acc := .rw, db := true }
def OUT.OUT_OFS_HI : Fld := { off := 0x060, lo := 0, w := 8, acc := .rw, db := true }
def OUT.OUT_ALIGN_SRC : Fld := { off := 0x064, lo := 0, w := 5, acc := .rw, legal := .range 0 24 1, db := true }
def OUT.OUT_ALIGN_AVG : Fld := { off := 0x064, lo := 8, w := 3, acc := .rw, legal := .range 0 6 1, db := true }
def OUT.OUT_ALIGN_SLEW : Fld := { off := 0x064, lo := 16, w := 16, acc := .rw, rst := 1, legal := .range 1 65535 1, db := true }
def OUT.OUT_ALIGN_WIN : Fld := { off := 0x068, lo := 0, w := 20, acc := .rw, rst := 1000, legal := .range 1 1000000 1 }
def OUT.OUT_STAT_RUNNING : Fld := { off := 0x06C, lo := 0, w := 1 }
def OUT.OUT_STAT_QUIET_NOW : Fld := { off := 0x06C, lo := 1, w := 1 }
def OUT.OUT_STAT_ALIGN : Fld := { off := 0x06C, lo := 2, w := 2 }
def OUT.OUT_STAT_TDC : Fld := { off := 0x06C, lo := 8, w := 5 }
def OUT.OUT_STAT_OUTLIERS : Fld := { off := 0x06C, lo := 16, w := 8, clr := true }
def OUT.OUT_ALIGN_ERR : Fld := { off := 0x070, lo := 0, w := 32 }

/-- Every field of the block's register map, R115-R121. -/
def OUT.rows : List Fld :=
  [OUT.OUT_CTL_EN, OUT.OUT_CTL_MODE, OUT.OUT_CTL_INV, OUT.OUT_CTL_QUIET, OUT.OUT_DIV_INT, OUT.OUT_DIV_FRAC, OUT.OUT_CLK_PHASE, OUT.OUT_PERIOD, OUT.OUT_WIDTH, OUT.OUT_FRAME_M, OUT.OUT_FRAME_W_FIRST, OUT.OUT_OFS_LO, OUT.OUT_OFS_HI, OUT.OUT_ALIGN_SRC, OUT.OUT_ALIGN_AVG, OUT.OUT_ALIGN_SLEW, OUT.OUT_ALIGN_WIN, OUT.OUT_STAT_RUNNING, OUT.OUT_STAT_QUIET_NOW, OUT.OUT_STAT_ALIGN, OUT.OUT_STAT_TDC, OUT.OUT_STAT_OUTLIERS, OUT.OUT_ALIGN_ERR]

/-! ### Block PTP: R122-R146 -/

def PTP.PTP_CTL_EN : Fld := { off := 0x040, lo := 0, w := 1, acc := .rw }
def PTP.PTP_CTL_ROLE : Fld := { off := 0x040, lo := 1, w := 2, acc := .rw }
def PTP.PTP_CTL_TX_HOLD_INVALID : Fld := { off := 0x040, lo := 3, w := 1, acc := .rw }
def PTP.PTP_CTL_TC_COPY : Fld := { off := 0x040, lo := 4, w := 1, acc := .rw }
def PTP.PTP_CTL_TRAP_HOST : Fld := { off := 0x040, lo := 5, w := 1, acc := .rw }
def PTP.PTP_CTL_AS2020 : Fld := { off := 0x040, lo := 6, w := 1, acc := .rw }
def PTP.PTP_CTL_V6_NOTRAIL_FWD : Fld := { off := 0x040, lo := 7, w := 1, acc := .rw }
def PTP.PTP_DOM_NUMBER : Fld := { off := 0x044, lo := 0, w := 8, acc := .rw }
def PTP.PTP_DOM_MAJOR_SDOID : Fld := { off := 0x044, lo := 8, w := 4, acc := .rw }
def PTP.PTP_DOM_MINOR_SDOID : Fld := { off := 0x044, lo := 16, w := 8, acc := .rw }
def PTP.PTP_DOM_ANY : Fld := { off := 0x044, lo := 24, w := 1, acc := .rw }
def PTP.PTP_STAT_STATE : Fld := { off := 0x048, lo := 0, w := 3 }
def PTP.PTP_STAT_REASON : Fld := { off := 0x048, lo := 4, w := 4 }
def PTP.PTP_STAT_FOLLOWED : Fld := { off := 0x048, lo := 8, w := 1, spec := true }
def PTP.PTP_STAT_SELECTED : Fld := { off := 0x048, lo := 9, w := 1 }
def PTP.PTP_STAT_TIMER : Fld := { off := 0x048, lo := 16, w := 12 }
def PTP.PTP_SERVO_RANK : Fld := { off := 0x04C, lo := 0, w := 3, acc := .rw, rst := 7 }
def PTP.PTP_SERVO_SLAVE : Fld := { off := 0x04C, lo := 8, w := 1, acc := .rw }
def PTP.PTP_QUAL_SOAK : Fld := { off := 0x050, lo := 0, w := 12, acc := .rw, rst := 10, legal := .range 0 3600 1 }
def PTP.PTP_QUAL_WTR : Fld := { off := 0x050, lo := 16, w := 12, acc := .rw, rst := 300, legal := .range 0 3600 1 }
def PTP.PTP_PLIM : Fld := { off := 0x054, lo := 0, w := 20, acc := .rw, rst := 100, legal := .range 1 1000000 1 }
def PTP.PTP_TRK_CTL_MODE : Fld := { off := 0x058, lo := 0, w := 1, acc := .rw }
def PTP.PTP_TRK_CTL_BW : Fld := { off := 0x058, lo := 4, w := 4, acc := .rw, rst := 6, legal := .range 0 10 1 }
def PTP.PTP_TRK_CMD_CLEAR : Fld := { off := 0x05C, lo := 0, w := 1, acc := .w1s }
def PTP.PTP_SMP_OFS_SEC_HI : Fld := { off := 0x060, lo := 0, w := 16, acc := .rw }
def PTP.PTP_SMP_OFS_SEC_LO : Fld := { off := 0x064, lo := 0, w := 32, acc := .rw }
def PTP.PTP_SMP_OFS_NS : Fld := { off := 0x068, lo := 0, w := 32, acc := .rw }
def PTP.PTP_SMP_OFS_FRAC : Fld := { off := 0x06C, lo := 0, w := 16, acc := .rw }
def PTP.PTP_SMP_AT_SEC : Fld := { off := 0x070, lo := 0, w := 32, acc := .rw }
def PTP.PTP_SMP_AT_NS : Fld := { off := 0x074, lo := 0, w := 30, acc := .rw }
def PTP.PTP_SMP_PUSH_PUSH : Fld := { off := 0x078, lo := 0, w := 1, acc := .w1s }
def PTP.DOM_OFS_SEC_HI : Fld := { off := 0x080, lo := 0, w := 16 }
def PTP.DOM_OFS_SEC_LO : Fld := { off := 0x084, lo := 0, w := 32 }
def PTP.DOM_OFS_NS : Fld := { off := 0x088, lo := 0, w := 32 }
def PTP.DOM_OFS_FRAC : Fld := { off := 0x08C, lo := 0, w := 16 }
def PTP.DOM_RATE_LO : Fld := { off := 0x090, lo := 0, w := 32 }
def PTP.DOM_RATE_HI : Fld := { off := 0x094, lo := 0, w := 8 }
def PTP.PTP_SW_MAX : Fld := { off := 0x098, lo := 0, w := 30, acc := .rw, rst := 1000000 }
def PTP.PTP_TXTS : Fld := { off := 0x0A0, stride := 0x4, n := 4, lo := 0, w := 32 }
def PTP.PTP_TXTS_LEVEL : Fld := { off := 0x0B0, lo := 0, w := 9 }
def PTP.PTP_CNT_TXLOST : Fld := { off := 0x0C0, lo := 0, w := 32, clr := true }
def PTP.PTP_CNT_FUMISS : Fld := { off := 0x0C4, lo := 0, w := 32, clr := true }
def PTP.PTP_CNT_NOTRAIL : Fld := { off := 0x0C8, lo := 0, w := 32, clr := true }
def PTP.PTP_CNT_HELD : Fld := { off := 0x0CC, lo := 0, w := 32, clr := true }
def PTP.PTP_CNT_STEPSPAN : Fld := { off := 0x0D0, lo := 0, w := 32, clr := true }
def PTP.PTP_CNT_P2P_DROP : Fld := { off := 0x0D4, lo := 0, w := 32, clr := true }
def PTP.PTP_PORT_CFG_EN : Fld := { off := 0x200, stride := 0x4, n := 48, lo := 0, w := 1, acc := .rw }
def PTP.PTP_PORT_CFG_L2 : Fld := { off := 0x200, stride := 0x4, n := 48, lo := 1, w := 1, acc := .rw }
def PTP.PTP_PORT_CFG_UDP4 : Fld := { off := 0x200, stride := 0x4, n := 48, lo := 2, w := 1, acc := .rw }
def PTP.PTP_PORT_CFG_UDP6 : Fld := { off := 0x200, stride := 0x4, n := 48, lo := 3, w := 1, acc := .rw }
def PTP.PTP_PORT_CFG_DELAY : Fld := { off := 0x200, stride := 0x4, n := 48, lo := 4, w := 1, acc := .rw }
def PTP.PTP_PORT_LINKDLY : Fld := { off := 0x300, stride := 0x4, n := 48, lo := 0, w := 32, acc := .rw }

/-- Every field of the block's register map, R122-R146. -/
def PTP.rows : List Fld :=
  [PTP.PTP_CTL_EN, PTP.PTP_CTL_ROLE, PTP.PTP_CTL_TX_HOLD_INVALID, PTP.PTP_CTL_TC_COPY, PTP.PTP_CTL_TRAP_HOST, PTP.PTP_CTL_AS2020, PTP.PTP_CTL_V6_NOTRAIL_FWD, PTP.PTP_DOM_NUMBER, PTP.PTP_DOM_MAJOR_SDOID, PTP.PTP_DOM_MINOR_SDOID, PTP.PTP_DOM_ANY, PTP.PTP_STAT_STATE, PTP.PTP_STAT_REASON, PTP.PTP_STAT_FOLLOWED, PTP.PTP_STAT_SELECTED, PTP.PTP_STAT_TIMER, PTP.PTP_SERVO_RANK, PTP.PTP_SERVO_SLAVE, PTP.PTP_QUAL_SOAK, PTP.PTP_QUAL_WTR, PTP.PTP_PLIM, PTP.PTP_TRK_CTL_MODE, PTP.PTP_TRK_CTL_BW, PTP.PTP_TRK_CMD_CLEAR, PTP.PTP_SMP_OFS_SEC_HI, PTP.PTP_SMP_OFS_SEC_LO, PTP.PTP_SMP_OFS_NS, PTP.PTP_SMP_OFS_FRAC, PTP.PTP_SMP_AT_SEC, PTP.PTP_SMP_AT_NS, PTP.PTP_SMP_PUSH_PUSH, PTP.DOM_OFS_SEC_HI, PTP.DOM_OFS_SEC_LO, PTP.DOM_OFS_NS, PTP.DOM_OFS_FRAC, PTP.DOM_RATE_LO, PTP.DOM_RATE_HI, PTP.PTP_SW_MAX, PTP.PTP_TXTS, PTP.PTP_TXTS_LEVEL, PTP.PTP_CNT_TXLOST, PTP.PTP_CNT_FUMISS, PTP.PTP_CNT_NOTRAIL, PTP.PTP_CNT_HELD, PTP.PTP_CNT_STEPSPAN, PTP.PTP_CNT_P2P_DROP, PTP.PTP_PORT_CFG_EN, PTP.PTP_PORT_CFG_L2, PTP.PTP_PORT_CFG_UDP4, PTP.PTP_PORT_CFG_UDP6, PTP.PTP_PORT_CFG_DELAY, PTP.PTP_PORT_LINKDLY]

end Sys2Proof.Machine.R
end

