-- ==== Sys2Proof/Machine/RegMapB.lean ====
section
/-! DEFINITION. The register maps of the redundancy, port, trunk and cadence blocks, field by field, from the register and field tables of the spec. -/

namespace Sys2Proof.Machine.R

/-! ### Block CTL: R166 -/

def CTL.TCU_RED_CTL_REVERT : Fld := { off := 0x040, lo := 0, w := 1, acc := .rw }
def CTL.TCU_RED_CTL_HOLD : Fld := { off := 0x040, lo := 4, w := 12, acc := .rw, rst := 300, legal := .range 10 3600 1 }
def CTL.TCU_RED_CTL_HOME : Fld := { off := 0x040, lo := 16, w := 1, acc := .rw }
def CTL.TCU_STAT_STATE : Fld := { off := 0x044, lo := 0, w := 3 }
def CTL.TCU_STAT_LOCKSTEP : Fld := { off := 0x044, lo := 4, w := 1 }
def CTL.TCU_STAT_FAIL_CODE : Fld := { off := 0x044, lo := 8, w := 8 }
def CTL.TCU_ALIGN_ERR : Fld := { off := 0x048, lo := 0, w := 16 }
def CTL.TCU_MIRROR_STAT_LINK_OK : Fld := { off := 0x04C, lo := 0, w := 1 }
def CTL.TCU_MIRROR_STAT_TABLES_EQ : Fld := { off := 0x04C, lo := 1, w := 1 }
def CTL.TCU_MIRROR_STAT_LS_LOST : Fld := { off := 0x04C, lo := 2, w := 1 }
def CTL.TCU_LS_CNT_MISMATCH : Fld := { off := 0x050, lo := 0, w := 32, clr := true }
def CTL.TCU_LS_CNT_SUBST : Fld := { off := 0x054, lo := 0, w := 32, clr := true }
def CTL.TCU_LS_CNT_POISON : Fld := { off := 0x058, lo := 0, w := 32, clr := true }
def CTL.TCU_LS_LAST_TRUNK : Fld := { off := 0x05C, lo := 0, w := 4 }
def CTL.TCU_LS_LAST_SLOT : Fld := { off := 0x05C, lo := 16, w := 13 }
def CTL.TCU_FW_VER_VER : Fld := { off := 0x060, lo := 0, w := 16 }
def CTL.TCU_FW_VER_FMT : Fld := { off := 0x060, lo := 16, w := 8 }
def CTL.TCU_FW_VER_BANK : Fld := { off := 0x060, lo := 24, w := 1 }
def CTL.TCU_SW_CNT : Fld := { off := 0x064, lo := 0, w := 32 }

/-- Every field of the block's register map, R166. -/
def CTL.rows : List Fld :=
  [CTL.TCU_RED_CTL_REVERT, CTL.TCU_RED_CTL_HOLD, CTL.TCU_RED_CTL_HOME, CTL.TCU_STAT_STATE, CTL.TCU_STAT_LOCKSTEP, CTL.TCU_STAT_FAIL_CODE, CTL.TCU_ALIGN_ERR, CTL.TCU_MIRROR_STAT_LINK_OK, CTL.TCU_MIRROR_STAT_TABLES_EQ, CTL.TCU_MIRROR_STAT_LS_LOST, CTL.TCU_LS_CNT_MISMATCH, CTL.TCU_LS_CNT_SUBST, CTL.TCU_LS_CNT_POISON, CTL.TCU_LS_LAST_TRUNK, CTL.TCU_LS_LAST_SLOT, CTL.TCU_FW_VER_VER, CTL.TCU_FW_VER_FMT, CTL.TCU_FW_VER_BANK, CTL.TCU_SW_CNT]

/-! ### Block ARB: R155-R165 -/

def ARB.ARB_STAT_HOLDER : Fld := { off := 0x040, lo := 0, w := 1 }
def ARB.ARB_STAT_HOLDER_VALID : Fld := { off := 0x040, lo := 1, w := 1 }
def ARB.ARB_STAT_CLAIM_A : Fld := { off := 0x040, lo := 2, w := 1 }
def ARB.ARB_STAT_CLAIM_B : Fld := { off := 0x040, lo := 3, w := 1 }
def ARB.ARB_STAT_LEAD_SEL : Fld := { off := 0x040, lo := 4, w := 1 }
def ARB.ARB_STAT_LAST_CAUSE : Fld := { off := 0x040, lo := 8, w := 3 }
def ARB.ARB_STAT_UNDECIDED : Fld := { off := 0x040, lo := 16, w := 1, acc := .w1c }
def ARB.ARB_LEAD_TOL : Fld := { off := 0x044, lo := 0, w := 20, acc := .rw, rst := 100, legal := .range 10 1000000 1 }
def ARB.ARB_JUDGE_A : Fld := { off := 0x048, lo := 0, w := 32 }
def ARB.ARB_JUDGE_B : Fld := { off := 0x04C, lo := 0, w := 32 }
def ARB.ARB_MOVES : Fld := { off := 0x050, lo := 0, w := 32 }

/-- Every field of the block's register map, R155-R165. -/
def ARB.rows : List Fld :=
  [ARB.ARB_STAT_HOLDER, ARB.ARB_STAT_HOLDER_VALID, ARB.ARB_STAT_CLAIM_A, ARB.ARB_STAT_CLAIM_B, ARB.ARB_STAT_LEAD_SEL, ARB.ARB_STAT_LAST_CAUSE, ARB.ARB_STAT_UNDECIDED, ARB.ARB_LEAD_TOL, ARB.ARB_JUDGE_A, ARB.ARB_JUDGE_B, ARB.ARB_MOVES]

/-! ### Block PORT: R167-R189 and R244-R255 -/

def PORT.PORT_STAT_MODE : Fld := { off := 0x040, lo := 0, w := 4 }
def PORT.PORT_STAT_LINK : Fld := { off := 0x040, lo := 4, w := 4 }
def PORT.PORT_STAT_SIGNAL : Fld := { off := 0x040, lo := 8, w := 1 }
def PORT.PORT_STAT_BLOCK_LOCK : Fld := { off := 0x040, lo := 9, w := 1 }
def PORT.PORT_STAT_HI_BER : Fld := { off := 0x040, lo := 10, w := 1 }
def PORT.PORT_STAT_TEST : Fld := { off := 0x040, lo := 11, w := 1 }
def PORT.PORT_STAT_SLICER_SET : Fld := { off := 0x040, lo := 12, w := 1 }
def PORT.PORT_STAT_LPI_TX : Fld := { off := 0x040, lo := 13, w := 1 }
def PORT.PORT_STAT_LPI_RX : Fld := { off := 0x040, lo := 14, w := 1 }
def PORT.PORT_STAT_ATTEMPTS : Fld := { off := 0x040, lo := 16, w := 8 }
def PORT.AN_ADV_A0 : Fld := { off := 0x044, lo := 0, w := 1, acc := .rw, rst := 1 }
def PORT.AN_ADV_A2 : Fld := { off := 0x044, lo := 2, w := 1, acc := .rw, rst := 1 }
def PORT.AN_ADV_A9 : Fld := { off := 0x044, lo := 9, w := 1, acc := .rw, rst := 1 }
def PORT.AN_ADV_A10 : Fld := { off := 0x044, lo := 10, w := 1, acc := .rw, rst := 1 }
def PORT.AN_ADV_PAUSE : Fld := { off := 0x044, lo := 16, w := 1, acc := .rw, rst := 1 }
def PORT.AN_ADV_ASM_DIR : Fld := { off := 0x044, lo := 17, w := 1, acc := .rw, rst := 1 }
def PORT.AN_ADV_EEE : Fld := { off := 0x044, lo := 20, w := 1, acc := .rw }
def PORT.AN_LP_A0 : Fld := { off := 0x048, lo := 0, w := 1 }
def PORT.AN_LP_A2 : Fld := { off := 0x048, lo := 2, w := 1 }
def PORT.AN_LP_A9 : Fld := { off := 0x048, lo := 9, w := 1 }
def PORT.AN_LP_A10 : Fld := { off := 0x048, lo := 10, w := 1 }
def PORT.AN_LP_PAUSE : Fld := { off := 0x048, lo := 16, w := 1 }
def PORT.AN_LP_ASM_DIR : Fld := { off := 0x048, lo := 17, w := 1 }
def PORT.AN_LP_EEE : Fld := { off := 0x048, lo := 20, w := 1 }
def PORT.AN_LP_F2 : Fld := { off := 0x048, lo := 24, w := 1 }
def PORT.AN_LP_F3 : Fld := { off := 0x048, lo := 25, w := 1 }
def PORT.AN_LP_VALID : Fld := { off := 0x048, lo := 31, w := 1 }
def PORT.AN_RES_MODE : Fld := { off := 0x04C, lo := 0, w := 4 }
def PORT.AN_RES_FEC_REFUSED : Fld := { off := 0x04C, lo := 4, w := 1 }
def PORT.AN_RES_NO_COMMON : Fld := { off := 0x04C, lo := 5, w := 1 }
def PORT.AN_RES_BYPASS : Fld := { off := 0x04C, lo := 6, w := 1 }
def PORT.TRAIN_CTL_MEDIUM : Fld := { off := 0x050, lo := 0, w := 1, acc := .rw }
def PORT.TX_FIR_C_PRE : Fld := { off := 0x054, lo := 0, w := 4, acc := .rw, legal := .range 0 10 1 }
def PORT.TX_FIR_C_MAIN : Fld := { off := 0x054, lo := 8, w := 6, acc := .rw, rst := 40, legal := .range 14 40 1 }
def PORT.TX_FIR_C_POST : Fld := { off := 0x054, lo := 16, w := 5, acc := .rw, legal := .range 0 16 1 }
def PORT.TX_FIR_LIVE_C_PRE : Fld := { off := 0x058, lo := 0, w := 4 }
def PORT.TX_FIR_LIVE_C_MAIN : Fld := { off := 0x058, lo := 8, w := 6 }
def PORT.TX_FIR_LIVE_C_POST : Fld := { off := 0x058, lo := 16, w := 5 }
def PORT.EXT_DLY_RX : Fld := { off := 0x060, lo := 0, w := 32, acc := .rw, db := true }
def PORT.EXT_DLY_TX : Fld := { off := 0x064, lo := 0, w := 32, acc := .rw, db := true }
def PORT.LAT_RX : Fld := { off := 0x068, lo := 0, w := 32 }
def PORT.LAT_TX : Fld := { off := 0x06C, lo := 0, w := 32 }
def PORT.EB_STAT_NOW : Fld := { off := 0x070, lo := 0, w := 4 }
def PORT.EB_STAT_MIN : Fld := { off := 0x070, lo := 4, w := 4 }
def PORT.EB_STAT_MAX : Fld := { off := 0x070, lo := 8, w := 4 }
def PORT.CNT_LINK_DOWN : Fld := { off := 0x080, lo := 0, w := 32, clr := true }
def PORT.CNT_BLOCK_LOCK_LOSS : Fld := { off := 0x084, lo := 0, w := 32, clr := true }
def PORT.CNT_SH_ERR : Fld := { off := 0x088, lo := 0, w := 32, clr := true }
def PORT.CNT_ERR_BLOCK : Fld := { off := 0x08C, lo := 0, w := 32, clr := true }
def PORT.CNT_HI_BER : Fld := { off := 0x090, lo := 0, w := 32, clr := true }
def PORT.CNT_LOS : Fld := { off := 0x094, lo := 0, w := 32, clr := true }
def PORT.CNT_TRAIN_FAIL : Fld := { off := 0x098, lo := 0, w := 32, clr := true }
def PORT.CNT_FEC_REFUSED : Fld := { off := 0x09C, lo := 0, w := 32, clr := true }
def PORT.PAT_CTL_TX : Fld := { off := 0x0A0, lo := 0, w := 2, acc := .rw, legal := .range 0 2 1 }
def PORT.PAT_CTL_RX : Fld := { off := 0x0A0, lo := 4, w := 1, acc := .rw }
def PORT.PAT_ERR : Fld := { off := 0x0A4, lo := 0, w := 32, clr := true }
def PORT.EYE_CTL_START : Fld := { off := 0x0B0, lo := 0, w := 1, acc := .w1s }
def PORT.EYE_CTL_MODE : Fld := { off := 0x0B0, lo := 1, w := 1, acc := .rw }
def PORT.EYE_CTL_V_OFS : Fld := { off := 0x0B0, lo := 8, w := 8, acc := .rw, legal := .signed 64 }
def PORT.EYE_CTL_H_PH : Fld := { off := 0x0B0, lo := 16, w := 7, acc := .rw, legal := .signed 32 }
def PORT.EYE_CTL_DWELL : Fld := { off := 0x0B0, lo := 24, w := 4, acc := .rw }
def PORT.EYE_STAT_BUSY : Fld := { off := 0x0B4, lo := 0, w := 1 }
def PORT.EYE_STAT_WAIT : Fld := { off := 0x0B4, lo := 1, w := 1 }
def PORT.EYE_STAT_ABORTED : Fld := { off := 0x0B4, lo := 2, w := 1 }
def PORT.EYE_ERR : Fld := { off := 0x0B8, lo := 0, w := 32 }
def PORT.EEE_CTL_EN : Fld := { off := 0x0C0, lo := 0, w := 1, acc := .rw }
def PORT.EEE_CTL_RIGID_WAKE : Fld := { off := 0x0C0, lo := 1, w := 1, acc := .rw, rst := 1 }
def PORT.EEE_CTL_IDLE : Fld := { off := 0x0C0, lo := 8, w := 8, acc := .rw, rst := 10, legal := .range 1 255 1 }
def PORT.EEE_CTL_TW : Fld := { off := 0x0C0, lo := 16, w := 8, acc := .rw, rst := 5, legal := .range 1 255 1 }
def PORT.MAC_CTL_CUT : Fld := { off := 0x100, lo := 0, w := 1, acc := .rw }
def PORT.MAC_MAXLEN : Fld := { off := 0x104, lo := 0, w := 14, acc := .rw, rst := 1518, legal := .range 1518 9216 1 }
def PORT.MAC_PAUSE_RX_EN : Fld := { off := 0x108, lo := 0, w := 1, acc := .rw }
def PORT.MAC_PAUSE_TX_EN : Fld := { off := 0x108, lo := 1, w := 1, acc := .rw }
def PORT.MAC_PAUSE_FORCE : Fld := { off := 0x108, lo := 2, w := 1, acc := .rw }
def PORT.MAC_PAUSE_EXEMPT : Fld := { off := 0x108, lo := 3, w := 1, acc := .rw }
def PORT.MAC_PAUSE_TX_QUANTA : Fld := { off := 0x10C, lo := 0, w := 16, acc := .rw, rst := 65535 }
def PORT.MAC_PAUSE_TX_REFRESH : Fld := { off := 0x10C, lo := 16, w := 16, acc := .rw, rst := 32767, legal := .range 1 65535 1 }
def PORT.MAC_PAUSE_STAT_PAUSED : Fld := { off := 0x110, lo := 0, w := 1 }
def PORT.MAC_PAUSE_STAT_XOFF : Fld := { off := 0x110, lo := 1, w := 1 }
def PORT.MAC_PAUSE_STAT_RX_RES : Fld := { off := 0x110, lo := 2, w := 1 }
def PORT.MAC_PAUSE_STAT_TX_RES : Fld := { off := 0x110, lo := 3, w := 1 }
def PORT.MAC_PAUSE_STAT_REMAIN : Fld := { off := 0x110, lo := 16, w := 16 }
def PORT.MAC_STICKY : Fld := { off := 0x114, lo := 0, w := 8, acc := .w1c }
def PORT.MAC_SA_LO : Fld := { off := 0x118, lo := 0, w := 32, acc := .rw }
def PORT.MAC_SA_HI_OCTET1 : Fld := { off := 0x11C, lo := 0, w := 8, acc := .rw }
def PORT.MAC_SA_HI_OCTET0 : Fld := { off := 0x11C, lo := 8, w := 8, acc := .rw }
def PORT.STAT_RX_FRAMES : Fld := { off := 0x140, lo := 0, w := 32, clr := true }
def PORT.STAT_RX_OCTETS_LO : Fld := { off := 0x144, lo := 0, w := 32 }
def PORT.STAT_RX_OCTETS_HI : Fld := { off := 0x148, lo := 0, w := 32 }
def PORT.STAT_TX_FRAMES : Fld := { off := 0x14C, lo := 0, w := 32, clr := true }
def PORT.STAT_TX_OCTETS_LO : Fld := { off := 0x150, lo := 0, w := 32 }
def PORT.STAT_TX_OCTETS_HI : Fld := { off := 0x154, lo := 0, w := 32 }
def PORT.STAT_RX_FCS : Fld := { off := 0x158, lo := 0, w := 32, clr := true }
def PORT.STAT_RX_STOMPED : Fld := { off := 0x15C, lo := 0, w := 32, clr := true }
def PORT.STAT_RX_RUNT : Fld := { off := 0x160, lo := 0, w := 32, clr := true }
def PORT.STAT_RX_OVERSIZE : Fld := { off := 0x164, lo := 0, w := 32, clr := true }
def PORT.STAT_TX_STOMP : Fld := { off := 0x168, lo := 0, w := 32, clr := true }
def PORT.STAT_TX_LINKDOWN : Fld := { off := 0x16C, lo := 0, w := 32, clr := true }
def PORT.STAT_RX_PAUSE : Fld := { off := 0x170, lo := 0, w := 32, clr := true }
def PORT.STAT_TX_PAUSE : Fld := { off := 0x174, lo := 0, w := 32, clr := true }
def PORT.STAT_RX_CTL_OTHER : Fld := { off := 0x178, lo := 0, w := 32, clr := true }

/-- Every field of the block's register map, R167-R189 and R244-R255. -/
def PORT.rows : List Fld :=
  [PORT.PORT_STAT_MODE, PORT.PORT_STAT_LINK, PORT.PORT_STAT_SIGNAL, PORT.PORT_STAT_BLOCK_LOCK, PORT.PORT_STAT_HI_BER, PORT.PORT_STAT_TEST, PORT.PORT_STAT_SLICER_SET, PORT.PORT_STAT_LPI_TX, PORT.PORT_STAT_LPI_RX, PORT.PORT_STAT_ATTEMPTS, PORT.AN_ADV_A0, PORT.AN_ADV_A2, PORT.AN_ADV_A9, PORT.AN_ADV_A10, PORT.AN_ADV_PAUSE, PORT.AN_ADV_ASM_DIR, PORT.AN_ADV_EEE, PORT.AN_LP_A0, PORT.AN_LP_A2, PORT.AN_LP_A9, PORT.AN_LP_A10, PORT.AN_LP_PAUSE, PORT.AN_LP_ASM_DIR, PORT.AN_LP_EEE, PORT.AN_LP_F2, PORT.AN_LP_F3, PORT.AN_LP_VALID, PORT.AN_RES_MODE, PORT.AN_RES_FEC_REFUSED, PORT.AN_RES_NO_COMMON, PORT.AN_RES_BYPASS, PORT.TRAIN_CTL_MEDIUM, PORT.TX_FIR_C_PRE, PORT.TX_FIR_C_MAIN, PORT.TX_FIR_C_POST, PORT.TX_FIR_LIVE_C_PRE, PORT.TX_FIR_LIVE_C_MAIN, PORT.TX_FIR_LIVE_C_POST, PORT.EXT_DLY_RX, PORT.EXT_DLY_TX, PORT.LAT_RX, PORT.LAT_TX, PORT.EB_STAT_NOW, PORT.EB_STAT_MIN, PORT.EB_STAT_MAX, PORT.CNT_LINK_DOWN, PORT.CNT_BLOCK_LOCK_LOSS, PORT.CNT_SH_ERR, PORT.CNT_ERR_BLOCK, PORT.CNT_HI_BER, PORT.CNT_LOS, PORT.CNT_TRAIN_FAIL, PORT.CNT_FEC_REFUSED, PORT.PAT_CTL_TX, PORT.PAT_CTL_RX, PORT.PAT_ERR, PORT.EYE_CTL_START, PORT.EYE_CTL_MODE, PORT.EYE_CTL_V_OFS, PORT.EYE_CTL_H_PH] ++
  [PORT.EYE_CTL_DWELL, PORT.EYE_STAT_BUSY, PORT.EYE_STAT_WAIT, PORT.EYE_STAT_ABORTED, PORT.EYE_ERR, PORT.EEE_CTL_EN, PORT.EEE_CTL_RIGID_WAKE, PORT.EEE_CTL_IDLE, PORT.EEE_CTL_TW, PORT.MAC_CTL_CUT, PORT.MAC_MAXLEN, PORT.MAC_PAUSE_RX_EN, PORT.MAC_PAUSE_TX_EN, PORT.MAC_PAUSE_FORCE, PORT.MAC_PAUSE_EXEMPT, PORT.MAC_PAUSE_TX_QUANTA, PORT.MAC_PAUSE_TX_REFRESH, PORT.MAC_PAUSE_STAT_PAUSED, PORT.MAC_PAUSE_STAT_XOFF, PORT.MAC_PAUSE_STAT_RX_RES, PORT.MAC_PAUSE_STAT_TX_RES, PORT.MAC_PAUSE_STAT_REMAIN, PORT.MAC_STICKY, PORT.MAC_SA_LO, PORT.MAC_SA_HI_OCTET1, PORT.MAC_SA_HI_OCTET0, PORT.STAT_RX_FRAMES, PORT.STAT_RX_OCTETS_LO, PORT.STAT_RX_OCTETS_HI, PORT.STAT_TX_FRAMES, PORT.STAT_TX_OCTETS_LO, PORT.STAT_TX_OCTETS_HI, PORT.STAT_RX_FCS, PORT.STAT_RX_STOMPED, PORT.STAT_RX_RUNT, PORT.STAT_RX_OVERSIZE, PORT.STAT_TX_STOMP, PORT.STAT_TX_LINKDOWN, PORT.STAT_RX_PAUSE, PORT.STAT_TX_PAUSE, PORT.STAT_RX_CTL_OTHER]

/-! ### Block GRP: R168 -/

def GRP.G_LANE_POL_TX_INV : Fld := { off := 0x040, lo := 0, w := 8, acc := .rw }
def GRP.G_LANE_POL_RX_INV : Fld := { off := 0x040, lo := 8, w := 8, acc := .rw }
def GRP.G_STAT_PLL : Fld := { off := 0x044, lo := 0, w := 8 }
def GRP.G_STAT_PORT_EN : Fld := { off := 0x044, lo := 8, w := 8 }
def GRP.G_STAT_TRUNK_EN : Fld := { off := 0x044, lo := 16, w := 8 }

/-- Every field of the block's register map, R168. -/
def GRP.rows : List Fld :=
  [GRP.G_LANE_POL_TX_INV, GRP.G_LANE_POL_RX_INV, GRP.G_STAT_PLL, GRP.G_STAT_PORT_EN, GRP.G_STAT_TRUNK_EN]

/-! ### Block NT: R190-R222 -/

def NT.TRUNK_CTL_FALLBACK : Fld := { off := 0x040, lo := 0, w := 1, acc := .rw }
def NT.TRUNK_CTL_MEDIUM : Fld := { off := 0x040, lo := 1, w := 1, acc := .rw }
def NT.TRUNK_CTL_GEN_MAX : Fld := { off := 0x040, lo := 4, w := 2, acc := .rw, rst := 3, legal := .range 2 3 1 }
def NT.TRUNK_CTL_ASYM_EN : Fld := { off := 0x040, lo := 8, w := 1, acc := .rw, rst := 1 }
def NT.TRUNK_CTL_CONST_AUTO : Fld := { off := 0x040, lo := 9, w := 1, acc := .rw, rst := 1 }
def NT.TRUNK_STAT_STATE : Fld := { off := 0x044, lo := 0, w := 4 }
def NT.TRUNK_STAT_GEN : Fld := { off := 0x044, lo := 4, w := 2 }
def NT.TRUNK_STAT_ASYM : Fld := { off := 0x044, lo := 8, w := 1 }
def NT.TRUNK_STAT_CMCAST : Fld := { off := 0x044, lo := 9, w := 1 }
def NT.TRUNK_STAT_EST_VALID : Fld := { off := 0x044, lo := 10, w := 1 }
def NT.TRUNK_STAT_PEER_TV : Fld := { off := 0x044, lo := 11, w := 1 }
def NT.TRUNK_STAT_ATTEMPTS : Fld := { off := 0x044, lo := 16, w := 8 }
def NT.TRUNK_NODE_ID : Fld := { off := 0x048, lo := 0, w := 16, acc := .rw }
def NT.TRUNK_PEER_NODE_ID : Fld := { off := 0x04C, lo := 0, w := 16 }
def NT.TRUNK_PEER_TRUNK : Fld := { off := 0x04C, lo := 16, w := 4 }
def NT.TRUNK_PEER_GEN_MAX : Fld := { off := 0x04C, lo := 20, w := 4 }
def NT.TRUNK_PEER_FEAT : Fld := { off := 0x04C, lo := 24, w := 8 }
def NT.TRUNK_DISP_LZ : Fld := { off := 0x050, lo := 0, w := 16, acc := .rw, rst := 13120, legal := .range 12800 13400 1 }
def NT.TRUNK_DISP_S0 : Fld := { off := 0x050, lo := 16, w := 16, acc := .rw, rst := 920, legal := .range 1 2000 1 }
def NT.TRUNK_WAVE_W0 : Fld := { off := 0x054, lo := 0, w := 16, acc := .rw, rst := 12710, legal := .range 12600 16200 1 }
def NT.TRUNK_WAVE_W3 : Fld := { off := 0x054, lo := 16, w := 16, acc := .rw, rst := 13310, legal := .range 12600 16200 1 }
def NT.TRUNK_SKEW_EXT : Fld := { off := 0x058, lo := 0, w := 32, acc := .rw, db := true }
def NT.TRUNK_ASYM_AVG : Fld := { off := 0x05C, lo := 0, w := 4, acc := .rw, rst := 10, legal := .range 6 14 1 }
def NT.TRUNK_ASYM_CONST : Fld := { off := 0x060, lo := 0, w := 32, acc := .rw, db := true }
def NT.TRUNK_LEN_MAX : Fld := { off := 0x064, lo := 0, w := 16, acc := .rw, rst := 40000, legal := .range 100 65535 1 }
def NT.TRUNK_RTT : Fld := { off := 0x068, lo := 0, w := 32 }
def NT.TRUNK_DLY_CLK : Fld := { off := 0x06C, lo := 0, w := 32 }
def NT.TRUNK_SKEW : Fld := { off := 0x070, lo := 0, w := 32 }
def NT.TRUNK_LEN_L : Fld := { off := 0x074, lo := 0, w := 16 }
def NT.TRUNK_LEN_L_RTT : Fld := { off := 0x074, lo := 16, w := 16 }
def NT.TRUNK_ASYM : Fld := { off := 0x078, lo := 0, w := 32 }
def NT.TRUNK_OFS : Fld := { off := 0x07C, lo := 0, w := 32 }
def NT.TRUNK_EB_EB0 : Fld := { off := 0x080, lo := 0, w := 4 }
def NT.TRUNK_EB_EB1 : Fld := { off := 0x080, lo := 4, w := 4 }
def NT.TRUNK_EB_EB2 : Fld := { off := 0x080, lo := 8, w := 4 }
def NT.TRUNK_EB_SKEW : Fld := { off := 0x080, lo := 16, w := 5 }
def NT.CNT_DOWN : Fld := { off := 0x090, lo := 0, w := 32, clr := true }
def NT.CNT_TRAIN_FAIL : Fld := { off := 0x094, lo := 0, w := 32, clr := true }
def NT.CNT_C73_SEEN : Fld := { off := 0x098, lo := 0, w := 32, clr := true }
def NT.CNT_HELLO_FAIL : Fld := { off := 0x09C, lo := 0, w := 32, clr := true }
def NT.CNT_BLK_CRC : Fld := { off := 0x0A0, lo := 0, w := 32, clr := true }
def NT.CNT_RECENTRE : Fld := { off := 0x0A4, lo := 0, w := 32, clr := true }
def NT.CNT_PTP_PASS : Fld := { off := 0x0A8, lo := 0, w := 32, clr := true }
def NT.TRUNK_CAD_RES : Fld := { off := 0x0C0, lo := 0, w := 14, acc := .rw, db := true }

/-- Every field of the block's register map, R190-R222. -/
def NT.rows : List Fld :=
  [NT.TRUNK_CTL_FALLBACK, NT.TRUNK_CTL_MEDIUM, NT.TRUNK_CTL_GEN_MAX, NT.TRUNK_CTL_ASYM_EN, NT.TRUNK_CTL_CONST_AUTO, NT.TRUNK_STAT_STATE, NT.TRUNK_STAT_GEN, NT.TRUNK_STAT_ASYM, NT.TRUNK_STAT_CMCAST, NT.TRUNK_STAT_EST_VALID, NT.TRUNK_STAT_PEER_TV, NT.TRUNK_STAT_ATTEMPTS, NT.TRUNK_NODE_ID, NT.TRUNK_PEER_NODE_ID, NT.TRUNK_PEER_TRUNK, NT.TRUNK_PEER_GEN_MAX, NT.TRUNK_PEER_FEAT, NT.TRUNK_DISP_LZ, NT.TRUNK_DISP_S0, NT.TRUNK_WAVE_W0, NT.TRUNK_WAVE_W3, NT.TRUNK_SKEW_EXT, NT.TRUNK_ASYM_AVG, NT.TRUNK_ASYM_CONST, NT.TRUNK_LEN_MAX, NT.TRUNK_RTT, NT.TRUNK_DLY_CLK, NT.TRUNK_SKEW, NT.TRUNK_LEN_L, NT.TRUNK_LEN_L_RTT, NT.TRUNK_ASYM, NT.TRUNK_OFS, NT.TRUNK_EB_EB0, NT.TRUNK_EB_EB1, NT.TRUNK_EB_EB2, NT.TRUNK_EB_SKEW, NT.CNT_DOWN, NT.CNT_TRAIN_FAIL, NT.CNT_C73_SEEN, NT.CNT_HELLO_FAIL, NT.CNT_BLK_CRC, NT.CNT_RECENTRE, NT.CNT_PTP_PASS, NT.TRUNK_CAD_RES]

/-! ### Block CAD: R223-R235, R242 -/

def CAD.CAD_CTL_EN : Fld := { off := 0x040, lo := 0, w := 1, acc := .rw }
def CAD.CAD_HOOP : Fld := { off := 0x044, lo := 0, w := 20, acc := .rw, rst := 31250, db := true }
def CAD.CAD_HOOP_NUM : Fld := { off := 0x048, lo := 0, w := 32 }
def CAD.CAD_TBL_SEL_TABLE : Fld := { off := 0x050, lo := 0, w := 4, acc := .rw, legal := .range 0 12 1 }
def CAD.CAD_TBL_SEL_INDEX : Fld := { off := 0x050, lo := 16, w := 13, acc := .rw }
def CAD.CAD_TBL_D_SLOT : Fld := { off := 0x054, stride := 0x4, n := 4, lo := 0, w := 13, acc := .rw }
def CAD.CAD_TBL_D_TARGET : Fld := { off := 0x054, stride := 0x4, n := 4, lo := 16, w := 4, acc := .rw }
def CAD.CAD_TBL_D_HD : Fld := { off := 0x054, stride := 0x4, n := 4, lo := 20, w := 2, acc := .rw }
def CAD.CAD_TBL_D_V : Fld := { off := 0x054, stride := 0x4, n := 4, lo := 31, w := 1, acc := .rw }
def CAD.CAD_TBL_CMD_WRITE : Fld := { off := 0x064, lo := 0, w := 1, acc := .w1s }
def CAD.CAD_TBL_CMD_READ : Fld := { off := 0x064, lo := 1, w := 1, acc := .w1s }
def CAD.CAD_TBL_STAT_BUSY : Fld := { off := 0x068, lo := 0, w := 1 }
def CAD.CAD_TBL_STAT_RESULT : Fld := { off := 0x068, lo := 1, w := 3 }
def CAD.CAD_TBL_STAT_TABLE : Fld := { off := 0x068, lo := 4, w := 4 }
def CAD.CAD_TBL_STAT_INDEX : Fld := { off := 0x068, lo := 16, w := 13 }
def CAD.CAD_ERR_SEL_TABLE : Fld := { off := 0x06C, lo := 0, w := 4, acc := .rw }
def CAD.CAD_ERR_SEL_INDEX : Fld := { off := 0x06C, lo := 16, w := 13, acc := .rw }
def CAD.CAD_ERR_CNT_CRC : Fld := { off := 0x070, lo := 0, w := 8 }
def CAD.CAD_ERR_CNT_MISSING : Fld := { off := 0x070, lo := 8, w := 8 }
def CAD.CAD_ERR_CNT_LATE : Fld := { off := 0x070, lo := 16, w := 8 }
def CAD.CAD_ERR_CNT_POISON_IN : Fld := { off := 0x070, lo := 24, w := 8 }
def CAD.CAD_TX_OFS : Fld := { off := 0x080, stride := 0x4, n := 12, lo := 0, w := 19, acc := .rw, db := true }
def CAD.CAD_PEER_OFS : Fld := { off := 0x0C0, stride := 0x4, n := 12, lo := 0, w := 19, acc := .rw, db := true }
def CAD.CAD_LANE_DLY_0 : Fld := { off := 0x100, stride := 0x10, n := 12, lo := 0, w := 32 }
def CAD.CAD_LANE_DLY_1 : Fld := { off := 0x104, stride := 0x10, n := 12, lo := 0, w := 32 }
def CAD.CAD_LANE_DLY_2 : Fld := { off := 0x108, stride := 0x10, n := 12, lo := 0, w := 32 }
def CAD.CNT_CAD_IN : Fld := { off := 0x200, stride := 0x20, n := 12, lo := 0, w := 32, clr := true }
def CAD.CNT_CAD_CRC : Fld := { off := 0x204, stride := 0x20, n := 12, lo := 0, w := 32, clr := true }
def CAD.CNT_CAD_MISSING : Fld := { off := 0x208, stride := 0x20, n := 12, lo := 0, w := 32, clr := true }
def CAD.CNT_CAD_LATE : Fld := { off := 0x20C, stride := 0x20, n := 12, lo := 0, w := 32, clr := true }
def CAD.CNT_POISON_IN : Fld := { off := 0x210, stride := 0x20, n := 12, lo := 0, w := 32, clr := true }
def CAD.CNT_POISON_OUT : Fld := { off := 0x214, stride := 0x20, n := 12, lo := 0, w := 32, clr := true }
def CAD.CNT_MISPLACED : Fld := { off := 0x218, stride := 0x20, n := 12, lo := 0, w := 32, clr := true }
def CAD.CAD_SLACK_MIN : Fld := { off := 0x21C, stride := 0x20, n := 12, lo := 0, w := 32, rst := 2147483647 }
def CAD.CNT_RECONFIG : Fld := { off := 0x400, stride := 0x4, n := 12, lo := 0, w := 32, clr := true }

/-- Every field of the block's register map, R223-R235, R242. -/
def CAD.rows : List Fld :=
  [CAD.CAD_CTL_EN, CAD.CAD_HOOP, CAD.CAD_HOOP_NUM, CAD.CAD_TBL_SEL_TABLE, CAD.CAD_TBL_SEL_INDEX, CAD.CAD_TBL_D_SLOT, CAD.CAD_TBL_D_TARGET, CAD.CAD_TBL_D_HD, CAD.CAD_TBL_D_V, CAD.CAD_TBL_CMD_WRITE, CAD.CAD_TBL_CMD_READ, CAD.CAD_TBL_STAT_BUSY, CAD.CAD_TBL_STAT_RESULT, CAD.CAD_TBL_STAT_TABLE, CAD.CAD_TBL_STAT_INDEX, CAD.CAD_ERR_SEL_TABLE, CAD.CAD_ERR_SEL_INDEX, CAD.CAD_ERR_CNT_CRC, CAD.CAD_ERR_CNT_MISSING, CAD.CAD_ERR_CNT_LATE, CAD.CAD_ERR_CNT_POISON_IN, CAD.CAD_TX_OFS, CAD.CAD_PEER_OFS, CAD.CAD_LANE_DLY_0, CAD.CAD_LANE_DLY_1, CAD.CAD_LANE_DLY_2, CAD.CNT_CAD_IN, CAD.CNT_CAD_CRC, CAD.CNT_CAD_MISSING, CAD.CNT_CAD_LATE, CAD.CNT_POISON_IN, CAD.CNT_POISON_OUT, CAD.CNT_MISPLACED, CAD.CAD_SLACK_MIN, CAD.CNT_RECONFIG]

/-! ### Block GW: R236-R243 -/

def GW.GW_CTL_EN : Fld := { off := 0x040, lo := 0, w := 1, acc := .rw }
def GW.GW_CTL_ETYPE : Fld := { off := 0x040, lo := 16, w := 16, acc := .rw, rst := 34998 }
def GW.GW_TPL_SEL : Fld := { off := 0x048, lo := 0, w := 9, acc := .rw }
-- Log 95 (DEDUCED; unsafe): the ranges of R238 are those of the window's fields
def GW.GW_TPL_W0_EN : Fld := { off := 0x050, lo := 0, w := 1, acc := .rw }
def GW.GW_TPL_W0_DIR : Fld := { off := 0x050, lo := 1, w := 1, acc := .rw }
def GW.GW_TPL_W0_PORT : Fld := { off := 0x050, lo := 2, w := 6, acc := .rw, legal := .range 0 47 1 }
def GW.GW_TPL_W0_VLAN : Fld := { off := 0x050, lo := 8, w := 1, acc := .rw }
def GW.GW_TPL_W0_WCNT : Fld := { off := 0x050, lo := 16, w := 7, acc := .rw, legal := .range 1 64 1 }
def GW.GW_TPL_W1_WBASE : Fld := { off := 0x054, lo := 0, w := 13, acc := .rw }
def GW.GW_TPL_W1_SERVICE : Fld := { off := 0x054, lo := 16, w := 3, acc := .rw }
def GW.GW_TPL_W1_SUBSCR : Fld := { off := 0x054, lo := 20, w := 4, acc := .rw }
def GW.GW_TPL_W2_DA : Fld := { off := 0x058, lo := 0, w := 32, acc := .rw }
def GW.GW_TPL_W3_DA : Fld := { off := 0x05C, lo := 0, w := 16, acc := .rw }
def GW.GW_TPL_W3_TCI : Fld := { off := 0x05C, lo := 16, w := 16, acc := .rw }
def GW.GW_TPL_W4_SA : Fld := { off := 0x060, lo := 0, w := 32, acc := .rw }
def GW.GW_TPL_W5_SA : Fld := { off := 0x064, lo := 0, w := 16, acc := .rw }
def GW.GW_TPL_W6_OFS : Fld := { off := 0x068, lo := 0, w := 20, acc := .rw }
def GW.GW_TPL_W7_CLOSE : Fld := { off := 0x06C, lo := 0, w := 20, acc := .rw }
def GW.GW_TPL_CMD_WRITE : Fld := { off := 0x070, lo := 0, w := 1, acc := .w1s }
def GW.GW_TPL_CMD_READ : Fld := { off := 0x070, lo := 1, w := 1, acc := .w1s }
def GW.GW_TPL_STAT_BUSY : Fld := { off := 0x074, lo := 0, w := 1 }
def GW.GW_TPL_STAT_RESULT : Fld := { off := 0x074, lo := 1, w := 2 }
def GW.GW_CNT_SEL : Fld := { off := 0x080, lo := 0, w := 9, acc := .rw }
def GW.GW_TCNT_OK : Fld := { off := 0x084, lo := 0, w := 32 }
def GW.GW_TCNT_LATE : Fld := { off := 0x088, lo := 0, w := 32 }
def GW.GW_TCNT_STOMP : Fld := { off := 0x08C, lo := 0, w := 32 }
def GW.GW_TCNT_MISSING : Fld := { off := 0x090, lo := 0, w := 32 }
def GW.GW_TCNT_BAD : Fld := { off := 0x094, lo := 0, w := 32 }
def GW.GW_CNT_UNMAPPED : Fld := { off := 0x0A0, lo := 0, w := 32, clr := true }

/-- The fields of each template word of the window (R238). Log 95 (DEDUCED; unsafe). -/
def GW.words : List (List Fld) :=
  [[GW.GW_TPL_W0_EN, GW.GW_TPL_W0_DIR, GW.GW_TPL_W0_PORT, GW.GW_TPL_W0_VLAN, GW.GW_TPL_W0_WCNT],
    [GW.GW_TPL_W1_WBASE, GW.GW_TPL_W1_SERVICE, GW.GW_TPL_W1_SUBSCR],
    [GW.GW_TPL_W2_DA],
    [GW.GW_TPL_W3_DA, GW.GW_TPL_W3_TCI],
    [GW.GW_TPL_W4_SA],
    [GW.GW_TPL_W5_SA],
    [GW.GW_TPL_W6_OFS],
    [GW.GW_TPL_W7_CLOSE]]

/-- Every field of the block's register map, R236-R243. -/
def GW.rows : List Fld :=
  [GW.GW_CTL_EN, GW.GW_CTL_ETYPE, GW.GW_TPL_SEL, GW.GW_TPL_W0_EN, GW.GW_TPL_W0_DIR, GW.GW_TPL_W0_PORT, GW.GW_TPL_W0_VLAN, GW.GW_TPL_W0_WCNT, GW.GW_TPL_W1_WBASE, GW.GW_TPL_W1_SERVICE, GW.GW_TPL_W1_SUBSCR, GW.GW_TPL_W2_DA, GW.GW_TPL_W3_DA, GW.GW_TPL_W3_TCI, GW.GW_TPL_W4_SA, GW.GW_TPL_W5_SA, GW.GW_TPL_W6_OFS, GW.GW_TPL_W7_CLOSE, GW.GW_TPL_CMD_WRITE, GW.GW_TPL_CMD_READ, GW.GW_TPL_STAT_BUSY, GW.GW_TPL_STAT_RESULT, GW.GW_CNT_SEL, GW.GW_TCNT_OK, GW.GW_TCNT_LATE, GW.GW_TCNT_STOMP, GW.GW_TCNT_MISSING, GW.GW_TCNT_BAD, GW.GW_CNT_UNMAPPED]

end Sys2Proof.Machine.R
end

