-- ==== Sys2Proof/Machine/RegMapC.lean ====
section
/-! DEFINITION. The register maps of the switching, engine, calibration and Rind blocks, field by field, from the register and field tables of the spec. -/

namespace Sys2Proof.Machine.R

/-! ### Block PIPE: R263-R277, R291 -/

def PIPE.PIPE_CTL_EN : Fld := { off := 0x040, lo := 0, w := 1, acc := .rw }
def PIPE.PIPE_CTL_FLAP_LOCK : Fld := { off := 0x040, lo := 1, w := 1, acc := .rw }
def PIPE.PIPE_CTL_STATIC_GUARD : Fld := { off := 0x040, lo := 2, w := 1, acc := .rw }
def PIPE.PIPE_CTL_LOCK_DROP : Fld := { off := 0x040, lo := 3, w := 1, acc := .rw }
def PIPE.PIPE_STAT : Fld := { off := 0x044, lo := 0, w := 13 }
def PIPE.PIPE_MOVE_GUARD : Fld := { off := 0x048, lo := 0, w := 20, acc := .rw, rst := 2000, legal := .range 100 1000000 1 }
def PIPE.PIPE_FLAP_KEY_LO : Fld := { off := 0x050, lo := 0, w := 32 }
def PIPE.PIPE_FLAP_KEY_HI_OCT : Fld := { off := 0x054, lo := 0, w := 16 }
def PIPE.PIPE_FLAP_KEY_HI_VID : Fld := { off := 0x054, lo := 16, w := 12 }
def PIPE.PIPE_FLAP_PORTS_P0 : Fld := { off := 0x058, lo := 0, w := 6 }
def PIPE.PIPE_FLAP_PORTS_P1 : Fld := { off := 0x058, lo := 8, w := 6 }
def PIPE.PIPE_FLAP_PORTS_P2 : Fld := { off := 0x058, lo := 16, w := 6 }
def PIPE.PIPE_CNT_VLAN_MISS : Fld := { off := 0x060, lo := 0, w := 32, clr := true }
def PIPE.PIPE_CNT_IFILTER : Fld := { off := 0x064, lo := 0, w := 32, clr := true }
def PIPE.PIPE_CNT_UNKNOWN_UC : Fld := { off := 0x068, lo := 0, w := 32, clr := true }
def PIPE.PIPE_CNT_SAME_PORT : Fld := { off := 0x06C, lo := 0, w := 32, clr := true }
def PIPE.PIPE_CNT_DA_DROP : Fld := { off := 0x070, lo := 0, w := 32, clr := true }
def PIPE.PIPE_CNT_RSV_DROP : Fld := { off := 0x074, lo := 0, w := 32, clr := true }
def PIPE.PIPE_CNT_GROUP_INV : Fld := { off := 0x078, lo := 0, w := 32, clr := true }
def PIPE.PIPE_CNT_EXCESS : Fld := { off := 0x07C, lo := 0, w := 32, clr := true }
def PIPE.PIPE_CNT_LEARN_FULL : Fld := { off := 0x080, lo := 0, w := 32, clr := true }
def PIPE.PIPE_CNT_LEARN_QFULL : Fld := { off := 0x084, lo := 0, w := 32, clr := true }
def PIPE.PIPE_CNT_MOVE : Fld := { off := 0x088, lo := 0, w := 32, clr := true }
def PIPE.PIPE_CNT_FLAP : Fld := { off := 0x08C, lo := 0, w := 32, clr := true }
def PIPE.PIPE_CNT_LOCKED_SA : Fld := { off := 0x090, lo := 0, w := 32, clr := true }
def PIPE.PIPE_CNT_STATIC_CONFLICT : Fld := { off := 0x094, lo := 0, w := 32, clr := true }
def PIPE.PIPE_CNT_ROUTE_MISS : Fld := { off := 0x098, lo := 0, w := 32, clr := true }
def PIPE.PIPE_CNT_ROUTE_EXC : Fld := { off := 0x09C, lo := 0, w := 32, clr := true }
def PIPE.PIPE_PORT_CFG_DEF_VID : Fld := { off := 0x100, stride := 0x10, n := 24, lo := 0, w := 12, acc := .rw, rst := 1 }
def PIPE.PIPE_PORT_CFG_DEF_PCP : Fld := { off := 0x100, stride := 0x10, n := 24, lo := 12, w := 3, acc := .rw }
def PIPE.PIPE_PORT_CFG_DEF_SUBSCR : Fld := { off := 0x100, stride := 0x10, n := 24, lo := 16, w := 4, acc := .rw }
def PIPE.PIPE_PORT_CFG_LEARN : Fld := { off := 0x100, stride := 0x10, n := 24, lo := 20, w := 1, acc := .rw, rst := 1 }
def PIPE.PIPE_PORT_CFG_EXCESS : Fld := { off := 0x100, stride := 0x10, n := 24, lo := 21, w := 1, acc := .rw, rst := 1 }
def PIPE.PIPE_PORT_CFG_IFILTER : Fld := { off := 0x100, stride := 0x10, n := 24, lo := 22, w := 1, acc := .rw }
def PIPE.PIPE_PORT_SVC : Fld := { off := 0x104, stride := 0x10, n := 24, lo := 0, w := 24, acc := .rw, rst := 16434824 }
def PIPE.PIPE_LEARN_LIM : Fld := { off := 0x108, stride := 0x10, n := 24, lo := 0, w := 17, acc := .rw, rst := 131071 }
def PIPE.PIPE_LEARN_CNT : Fld := { off := 0x10C, stride := 0x10, n := 24, lo := 0, w := 18 }

/-- Every field of the block's register map, R263-R277, R291. -/
def PIPE.rows : List Fld :=
  [PIPE.PIPE_CTL_EN, PIPE.PIPE_CTL_FLAP_LOCK, PIPE.PIPE_CTL_STATIC_GUARD, PIPE.PIPE_CTL_LOCK_DROP, PIPE.PIPE_STAT, PIPE.PIPE_MOVE_GUARD, PIPE.PIPE_FLAP_KEY_LO, PIPE.PIPE_FLAP_KEY_HI_OCT, PIPE.PIPE_FLAP_KEY_HI_VID, PIPE.PIPE_FLAP_PORTS_P0, PIPE.PIPE_FLAP_PORTS_P1, PIPE.PIPE_FLAP_PORTS_P2, PIPE.PIPE_CNT_VLAN_MISS, PIPE.PIPE_CNT_IFILTER, PIPE.PIPE_CNT_UNKNOWN_UC, PIPE.PIPE_CNT_SAME_PORT, PIPE.PIPE_CNT_DA_DROP, PIPE.PIPE_CNT_RSV_DROP, PIPE.PIPE_CNT_GROUP_INV, PIPE.PIPE_CNT_EXCESS, PIPE.PIPE_CNT_LEARN_FULL, PIPE.PIPE_CNT_LEARN_QFULL, PIPE.PIPE_CNT_MOVE, PIPE.PIPE_CNT_FLAP, PIPE.PIPE_CNT_LOCKED_SA, PIPE.PIPE_CNT_STATIC_CONFLICT, PIPE.PIPE_CNT_ROUTE_MISS, PIPE.PIPE_CNT_ROUTE_EXC, PIPE.PIPE_PORT_CFG_DEF_VID, PIPE.PIPE_PORT_CFG_DEF_PCP, PIPE.PIPE_PORT_CFG_DEF_SUBSCR, PIPE.PIPE_PORT_CFG_LEARN, PIPE.PIPE_PORT_CFG_EXCESS, PIPE.PIPE_PORT_CFG_IFILTER, PIPE.PIPE_PORT_SVC, PIPE.PIPE_LEARN_LIM, PIPE.PIPE_LEARN_CNT]

/-! ### Block TBL: R288 -/

def TBL.TBL_SEL_TABLE : Fld := { off := 0x040, lo := 0, w := 4, acc := .rw }
def TBL.TBL_SEL_INDEX : Fld := { off := 0x040, lo := 8, w := 17, acc := .rw }
def TBL.TBL_CMD_READ : Fld := { off := 0x044, lo := 0, w := 1, acc := .w1s }
def TBL.TBL_CMD_WRITE : Fld := { off := 0x044, lo := 1, w := 1, acc := .w1s }
def TBL.TBL_CMD_LOOKUP : Fld := { off := 0x044, lo := 2, w := 1, acc := .w1s }
def TBL.TBL_CMD_INSERT : Fld := { off := 0x044, lo := 3, w := 1, acc := .w1s }
def TBL.TBL_CMD_DELETE : Fld := { off := 0x044, lo := 4, w := 1, acc := .w1s }
def TBL.TBL_CMD_CLEAR_HIT : Fld := { off := 0x044, lo := 5, w := 1, acc := .w1s }
def TBL.TBL_STAT_BUSY : Fld := { off := 0x048, lo := 0, w := 1 }
def TBL.TBL_STAT_RESULT : Fld := { off := 0x048, lo := 1, w := 3 }
def TBL.TBL_STAT_INDEX : Fld := { off := 0x048, lo := 8, w := 17 }
def TBL.TBL_D : Fld := { off := 0x050, stride := 0x4, n := 6, lo := 0, w := 32, acc := .rw }
def TBL.TBL_SEED : Fld := { off := 0x070, lo := 0, w := 32, acc := .rw, rst := 4294967295 }
def TBL.TBL_PAR_CAPT_TABLE : Fld := { off := 0x074, lo := 0, w := 4 }
def TBL.TBL_PAR_CAPT_INDEX : Fld := { off := 0x074, lo := 4, w := 17 }
def TBL.TBL_PAR_CAPT_VALID : Fld := { off := 0x074, lo := 31, w := 1 }
def TBL.TBL_FILL : Fld := { off := 0x078, lo := 0, w := 32 }
def TBL.TBL_CNT_PARITY : Fld := { off := 0x07C, lo := 0, w := 32, clr := true }

/-- Every field of the block's register map, R288. -/
def TBL.rows : List Fld :=
  [TBL.TBL_SEL_TABLE, TBL.TBL_SEL_INDEX, TBL.TBL_CMD_READ, TBL.TBL_CMD_WRITE, TBL.TBL_CMD_LOOKUP, TBL.TBL_CMD_INSERT, TBL.TBL_CMD_DELETE, TBL.TBL_CMD_CLEAR_HIT, TBL.TBL_STAT_BUSY, TBL.TBL_STAT_RESULT, TBL.TBL_STAT_INDEX, TBL.TBL_D, TBL.TBL_SEED, TBL.TBL_PAR_CAPT_TABLE, TBL.TBL_PAR_CAPT_INDEX, TBL.TBL_PAR_CAPT_VALID, TBL.TBL_FILL, TBL.TBL_CNT_PARITY]

/-! ### Block LPM: R281, R284 -/

def LPM.LPM_CTL_MISS : Fld := { off := 0x080, lo := 0, w := 1, acc := .rw }
def LPM.LPM_CTL_EXC_CTX : Fld := { off := 0x080, lo := 4, w := 2, acc := .rw }
def LPM.LPM_DEFAULT_NH : Fld := { off := 0x084, stride := 0x4, n := 2, lo := 0, w := 12, acc := .rw }
def LPM.LPM_DEFAULT_V : Fld := { off := 0x084, stride := 0x4, n := 2, lo := 31, w := 1, acc := .rw }
def LPM.LPM4_LEN_BASE : Fld := { off := 0x104, stride := 0x4, n := 32, lo := 0, w := 12, acc := .rw }
def LPM.LPM4_LEN_SIZE : Fld := { off := 0x104, stride := 0x4, n := 32, lo := 12, w := 4, acc := .rw, legal := .range 0 12 1 }
def LPM.LPM4_LEN_EN : Fld := { off := 0x104, stride := 0x4, n := 32, lo := 16, w := 1, acc := .rw }
def LPM.LPM6_LEN_BASE : Fld := { off := 0x204, stride := 0x4, n := 64, lo := 0, w := 11, acc := .rw }
def LPM.LPM6_LEN_SIZE : Fld := { off := 0x204, stride := 0x4, n := 64, lo := 12, w := 4, acc := .rw, legal := .range 0 11 1 }
def LPM.LPM6_LEN_EN : Fld := { off := 0x204, stride := 0x4, n := 64, lo := 16, w := 1, acc := .rw }
def LPM.LPM6_LEN128_BASE : Fld := { off := 0x308, lo := 0, w := 11, acc := .rw }
def LPM.LPM6_LEN128_SIZE : Fld := { off := 0x308, lo := 12, w := 4, acc := .rw, legal := .range 0 11 1 }
def LPM.LPM6_LEN128_EN : Fld := { off := 0x308, lo := 16, w := 1, acc := .rw }

/-- Every field of the block's register map, R281, R284. -/
def LPM.rows : List Fld :=
  [LPM.LPM_CTL_MISS, LPM.LPM_CTL_EXC_CTX, LPM.LPM_DEFAULT_NH, LPM.LPM_DEFAULT_V, LPM.LPM4_LEN_BASE, LPM.LPM4_LEN_SIZE, LPM.LPM4_LEN_EN, LPM.LPM6_LEN_BASE, LPM.LPM6_LEN_SIZE, LPM.LPM6_LEN_EN, LPM.LPM6_LEN128_BASE, LPM.LPM6_LEN128_SIZE, LPM.LPM6_LEN128_EN]

/-! ### Block SHADOW: R286 -/

def SHADOW.SHADOW_CTL_EN : Fld := { off := 0x040, lo := 0, w := 1, acc := .rw, rst := 1 }
def SHADOW.SHADOW_CTL_REPAIR : Fld := { off := 0x040, lo := 1, w := 1, acc := .rw, rst := 1 }
def SHADOW.SHADOW_STAT : Fld := { off := 0x044, lo := 0, w := 13 }
def SHADOW.SHADOW_CAPT_INDEX : Fld := { off := 0x048, lo := 0, w := 17 }
def SHADOW.SHADOW_CAPT_TABLE : Fld := { off := 0x048, lo := 20, w := 4 }
def SHADOW.SHADOW_CAPT_PIPE : Fld := { off := 0x048, lo := 24, w := 1 }
def SHADOW.SHADOW_CAPT_REPAIRED : Fld := { off := 0x048, lo := 25, w := 1 }
def SHADOW.SHADOW_CAPT_SHADOW_BAD : Fld := { off := 0x048, lo := 26, w := 1 }
def SHADOW.SHADOW_CAPT_VALID : Fld := { off := 0x048, lo := 31, w := 1 }
def SHADOW.SHADOW_CNT_MISMATCH : Fld := { off := 0x04C, lo := 0, w := 32, clr := true }
def SHADOW.SHADOW_CNT_REPAIR : Fld := { off := 0x050, lo := 0, w := 32, clr := true }
def SHADOW.SHADOW_WALKS : Fld := { off := 0x054, lo := 0, w := 32 }

/-- Every field of the block's register map, R286. -/
def SHADOW.rows : List Fld :=
  [SHADOW.SHADOW_CTL_EN, SHADOW.SHADOW_CTL_REPAIR, SHADOW.SHADOW_STAT, SHADOW.SHADOW_CAPT_INDEX, SHADOW.SHADOW_CAPT_TABLE, SHADOW.SHADOW_CAPT_PIPE, SHADOW.SHADOW_CAPT_REPAIRED, SHADOW.SHADOW_CAPT_SHADOW_BAD, SHADOW.SHADOW_CAPT_VALID, SHADOW.SHADOW_CNT_MISMATCH, SHADOW.SHADOW_CNT_REPAIR, SHADOW.SHADOW_WALKS]

/-! ### Block VAT: R294-R305 -/

def VAT.VAT_FREE_S : Fld := { off := 0x040, lo := 0, w := 18, rst := 196608 }
def VAT.VAT_FREE_L : Fld := { off := 0x044, lo := 0, w := 15, rst := 16384 }
def VAT.VAT_SHARED : Fld := { off := 0x048, lo := 0, w := 19, rst := 208896 }
def VAT.VAT_SHARED_USED : Fld := { off := 0x04C, lo := 0, w := 19 }
def VAT.VAT_SYS_RES : Fld := { off := 0x050, lo := 0, w := 19, acc := .rw, rst := 4096, db := true }
def VAT.VAT_SYS_CHARGE : Fld := { off := 0x054, lo := 0, w := 19 }
def VAT.VAT_SH_PRESS_XOFF : Fld := { off := 0x058, lo := 0, w := 16, acc := .rw }
def VAT.VAT_SH_PRESS_XON : Fld := { off := 0x058, lo := 16, w := 16, acc := .rw }
def VAT.VAT_CNT_NOCOPY : Fld := { off := 0x05C, lo := 0, w := 32, clr := true }
def VAT.VAT_GUAR : Fld := { off := 0x100, stride := 0x10, n := 48, lo := 0, w := 19, acc := .rw, rst := 1024, db := true }
def VAT.VAT_MAX : Fld := { off := 0x104, stride := 0x10, n := 48, lo := 0, w := 19, acc := .rw, rst := 262143, db := true }
def VAT.VAT_CHARGE : Fld := { off := 0x108, stride := 0x10, n := 48, lo := 0, w := 19 }
def VAT.VAT_PRESS_XOFF : Fld := { off := 0x10C, stride := 0x10, n := 48, lo := 0, w := 16, acc := .rw }
def VAT.VAT_PRESS_XON : Fld := { off := 0x10C, stride := 0x10, n := 48, lo := 16, w := 16, acc := .rw }
def VAT.VAT_CNT_DROP : Fld := { off := 0x400, stride := 0x8, n := 48, lo := 0, w := 32, clr := true }
def VAT.VAT_CNT_TRUNC : Fld := { off := 0x404, stride := 0x8, n := 48, lo := 0, w := 32, clr := true }

/-- Every field of the block's register map, R294-R305. -/
def VAT.rows : List Fld :=
  [VAT.VAT_FREE_S, VAT.VAT_FREE_L, VAT.VAT_SHARED, VAT.VAT_SHARED_USED, VAT.VAT_SYS_RES, VAT.VAT_SYS_CHARGE, VAT.VAT_SH_PRESS_XOFF, VAT.VAT_SH_PRESS_XON, VAT.VAT_CNT_NOCOPY, VAT.VAT_GUAR, VAT.VAT_MAX, VAT.VAT_CHARGE, VAT.VAT_PRESS_XOFF, VAT.VAT_PRESS_XON, VAT.VAT_CNT_DROP, VAT.VAT_CNT_TRUNC]

/-! ### Block VOQ: R306-R310, R317 -/

def VOQ.VOQ_SEL : Fld := { off := 0x040, lo := 0, w := 19, acc := .rw }
def VOQ.VOQ_D0_FRAMES : Fld := { off := 0x044, lo := 0, w := 18 }
def VOQ.VOQ_D0_OPEN : Fld := { off := 0x044, lo := 31, w := 1 }
def VOQ.VOQ_D1 : Fld := { off := 0x048, lo := 0, w := 32 }
def VOQ.VOQ_D2_HEAD_ELIGIBLE : Fld := { off := 0x04C, lo := 0, w := 1 }
def VOQ.VOQ_D2_HEAD_IN_TX : Fld := { off := 0x04C, lo := 1, w := 1 }
def VOQ.VOQ_CNT_CLOSED : Fld := { off := 0x050, lo := 0, w := 32, clr := true }
def VOQ.VOQ_CNT_LOST : Fld := { off := 0x054, lo := 0, w := 32, clr := true }

/-- Every field of the block's register map, R306-R310, R317. -/
def VOQ.rows : List Fld :=
  [VOQ.VOQ_SEL, VOQ.VOQ_D0_FRAMES, VOQ.VOQ_D0_OPEN, VOQ.VOQ_D1, VOQ.VOQ_D2_HEAD_ELIGIBLE, VOQ.VOQ_D2_HEAD_IN_TX, VOQ.VOQ_CNT_CLOSED, VOQ.VOQ_CNT_LOST]

/-! ### Block WHEY: R311-R313 -/

def WHEY.WHEY_CTL_PERIOD : Fld := { off := 0x040, lo := 0, w := 16, acc := .rw }
def WHEY.WHEY_CTL_AUTO_RECLAIM : Fld := { off := 0x040, lo := 16, w := 1, acc := .rw }
def WHEY.WHEY_STAT_RUNNING : Fld := { off := 0x044, lo := 0, w := 1 }
def WHEY.WHEY_STAT_RECLAIM : Fld := { off := 0x044, lo := 1, w := 1 }
def WHEY.WHEY_STAT_WALKS : Fld := { off := 0x044, lo := 16, w := 16 }
def WHEY.WHEY_LEAKED : Fld := { off := 0x048, lo := 0, w := 19 }
def WHEY.WHEY_RECLAIMED : Fld := { off := 0x04C, lo := 0, w := 19 }
def WHEY.WHEY_CONFLICT : Fld := { off := 0x050, lo := 0, w := 19 }
def WHEY.WHEY_CAPT_PTR : Fld := { off := 0x054, lo := 0, w := 19 }
def WHEY.WHEY_CAPT_OWNER : Fld := { off := 0x054, lo := 24, w := 6 }
def WHEY.WHEY_CAPT_VALID : Fld := { off := 0x054, lo := 31, w := 1 }
def WHEY.WHEY_SKIPPED : Fld := { off := 0x058, lo := 0, w := 32, clr := true }

/-- Every field of the block's register map, R311-R313. -/
def WHEY.rows : List Fld :=
  [WHEY.WHEY_CTL_PERIOD, WHEY.WHEY_CTL_AUTO_RECLAIM, WHEY.WHEY_STAT_RUNNING, WHEY.WHEY_STAT_RECLAIM, WHEY.WHEY_STAT_WALKS, WHEY.WHEY_LEAKED, WHEY.WHEY_RECLAIMED, WHEY.WHEY_CONFLICT, WHEY.WHEY_CAPT_PTR, WHEY.WHEY_CAPT_OWNER, WHEY.WHEY_CAPT_VALID, WHEY.WHEY_SKIPPED]

/-! ### Block VB: R295, R296, R309 -/

def VB.VB_STAT_ROLE : Fld := { off := 0x040, lo := 0, w := 3, spec := true }
def VB.VB_STAT_LOGICAL : Fld := { off := 0x040, lo := 8, w := 5, spec := true }
def VB.VB_STAT_POOL : Fld := { off := 0x040, lo := 13, w := 1, spec := true }
def VB.VB_FREE : Fld := { off := 0x044, lo := 0, w := 14, spec := true }
def VB.VB_CNT_CORR : Fld := { off := 0x048, lo := 0, w := 32, clr := true }
def VB.VB_CNT_UNCORR : Fld := { off := 0x04C, lo := 0, w := 32, clr := true }
def VB.VB_COPY : Fld := { off := 0x050, lo := 0, w := 15 }

/-- Every field of the block's register map, R295, R296, R309. -/
def VB.rows : List Fld :=
  [VB.VB_STAT_ROLE, VB.VB_STAT_LOGICAL, VB.VB_STAT_POOL, VB.VB_FREE, VB.VB_CNT_CORR, VB.VB_CNT_UNCORR, VB.VB_COPY]

/-! ### Block SCHED: R320-R331 -/

def SCHED.SCHED_CTL_PTP_BYPASS : Fld := { off := 0x040, lo := 0, w := 1, acc := .rw, rst := 1 }
def SCHED.SCHED_STAT : Fld := { off := 0x044, lo := 0, w := 3 }
def SCHED.SCHED_SCALE : Fld := { off := 0x060, stride := 0x4, n := 8, lo := 0, w := 9, acc := .rw, rsts := [256, 256, 224, 192, 160, 128, 96, 64], legal := .range 0 256 1 }
def SCHED.SCHED_CNT_PTP_FORCED : Fld := { off := 0x080, lo := 0, w := 32, clr := true }

/-- Every field of the block's register map, R320-R331. -/
def SCHED.rows : List Fld :=
  [SCHED.SCHED_CTL_PTP_BYPASS, SCHED.SCHED_STAT, SCHED.SCHED_SCALE, SCHED.SCHED_CNT_PTP_FORCED]

/-! ### Block SHAPE: R329, R343 -/

def SHAPE.SHP_SEL : Fld := { off := 0x040, lo := 0, w := 13, acc := .rw }
def SHAPE.SHP_CIR : Fld := { off := 0x044, lo := 0, w := 27, acc := .rw, legal := .range 0 75000000 1 }
def SHAPE.SHP_CBURST : Fld := { off := 0x048, lo := 0, w := 24, acc := .rw }
def SHAPE.SHP_PIR : Fld := { off := 0x04C, lo := 0, w := 27, acc := .rw, legal := .range 0 75000000 1 }
def SHAPE.SHP_PBURST : Fld := { off := 0x050, lo := 0, w := 24, acc := .rw }
def SHAPE.SHAPER_CTL_EN : Fld := { off := 0x054, lo := 0, w := 1, acc := .rw }
def SHAPE.SHAPER_CTL_RESET_MODE : Fld := { off := 0x054, lo := 1, w := 1, acc := .rw }
def SHAPE.SHAPER_CTL_PRIO : Fld := { off := 0x054, lo := 2, w := 3, acc := .rw }
def SHAPE.SHAPER_CTL_RIGID : Fld := { off := 0x054, lo := 5, w := 1, acc := .rw }
def SHAPE.SHAPER_CTL_QUANTUM : Fld := { off := 0x054, lo := 16, w := 16, acc := .rw, rst := 1538, legal := .range 64 65535 1 }
def SHAPE.SHP_CMD_WRITE : Fld := { off := 0x058, lo := 0, w := 1, acc := .w1s }
def SHAPE.SHP_CMD_READ : Fld := { off := 0x058, lo := 1, w := 1, acc := .w1s }
def SHAPE.SHP_CMD_AT_COMMIT : Fld := { off := 0x058, lo := 2, w := 1, acc := .w1s }
def SHAPE.SHP_STAT_BUSY : Fld := { off := 0x05C, lo := 0, w := 1 }
def SHAPE.SHP_STAT_REJECT : Fld := { off := 0x05C, lo := 1, w := 1 }
def SHAPE.SHP_STAT_HELD : Fld := { off := 0x05C, lo := 2, w := 7 }
def SHAPE.SHP_STAT_STATE : Fld := { off := 0x05C, lo := 9, w := 2 }
def SHAPE.SHP_CREDIT : Fld := { off := 0x060, lo := 0, w := 32 }
def SHAPE.SHP_TOKENS : Fld := { off := 0x064, lo := 0, w := 32 }
def SHAPE.SHP_CIR_LIVE : Fld := { off := 0x068, lo := 0, w := 27 }
def SHAPE.SHP_OVH : Fld := { off := 0x070, lo := 0, w := 6, acc := .rw, rst := 20 }

/-- Every field of the block's register map, R329, R343. -/
def SHAPE.rows : List Fld :=
  [SHAPE.SHP_SEL, SHAPE.SHP_CIR, SHAPE.SHP_CBURST, SHAPE.SHP_PIR, SHAPE.SHP_PBURST, SHAPE.SHAPER_CTL_EN, SHAPE.SHAPER_CTL_RESET_MODE, SHAPE.SHAPER_CTL_PRIO, SHAPE.SHAPER_CTL_RIGID, SHAPE.SHAPER_CTL_QUANTUM, SHAPE.SHP_CMD_WRITE, SHAPE.SHP_CMD_READ, SHAPE.SHP_CMD_AT_COMMIT, SHAPE.SHP_STAT_BUSY, SHAPE.SHP_STAT_REJECT, SHAPE.SHP_STAT_HELD, SHAPE.SHP_STAT_STATE, SHAPE.SHP_CREDIT, SHAPE.SHP_TOKENS, SHAPE.SHP_CIR_LIVE, SHAPE.SHP_OVH]

/-! ### Block GATE: R333-R338, R344 -/

def GATE.GATE_SEL_PORT : Fld := { off := 0x040, lo := 0, w := 6, acc := .rw }
def GATE.GATE_SEL_LIST : Fld := { off := 0x040, lo := 8, w := 1, acc := .rw }
def GATE.GATE_SEL_ENTRY : Fld := { off := 0x040, lo := 16, w := 8, acc := .rw }
def GATE.GATE_D0 : Fld := { off := 0x044, lo := 0, w := 8, acc := .rw }
def GATE.GATE_D1 : Fld := { off := 0x048, lo := 0, w := 32, acc := .rw, legal := .range 64 4294967295 1 }
def GATE.GATE_CMD_WRITE : Fld := { off := 0x04C, lo := 0, w := 1, acc := .w1s }
def GATE.GATE_CMD_READ : Fld := { off := 0x04C, lo := 1, w := 1, acc := .w1s }
def GATE.GATE_WSTAT_BUSY : Fld := { off := 0x050, lo := 0, w := 1 }
def GATE.GATE_WSTAT_RESULT : Fld := { off := 0x050, lo := 1, w := 2 }
def GATE.GATE_CTL_EN : Fld := { off := 0x100, stride := 0x20, n := 48, lo := 0, w := 1, acc := .rw }
def GATE.GATE_CTL_STRICT : Fld := { off := 0x100, stride := 0x20, n := 48, lo := 1, w := 1, acc := .rw }
def GATE.GATE_CTL_GUARD : Fld := { off := 0x100, stride := 0x20, n := 48, lo := 2, w := 1, acc := .rw, rst := 1 }
def GATE.GATE_CTL_FAIL_GATES : Fld := { off := 0x100, stride := 0x20, n := 48, lo := 8, w := 8, acc := .rw, rst := 255 }
def GATE.GATE_PEND_BASE_SEC_LO : Fld := { off := 0x104, stride := 0x20, n := 48, lo := 0, w := 32, acc := .rw }
def GATE.GATE_PEND_BASE_SEC_HI : Fld := { off := 0x108, stride := 0x20, n := 48, lo := 0, w := 16, acc := .rw }
def GATE.GATE_PEND_BASE_NS : Fld := { off := 0x10C, stride := 0x20, n := 48, lo := 0, w := 30, acc := .rw }
def GATE.GATE_PEND_CYCLE_CYCLE : Fld := { off := 0x110, stride := 0x20, n := 48, lo := 0, w := 30, acc := .rw }
def GATE.GATE_PEND_CYCLE_HOOP_LOCK : Fld := { off := 0x110, stride := 0x20, n := 48, lo := 31, w := 1, acc := .rw }
def GATE.GATE_PEND_LEN : Fld := { off := 0x114, stride := 0x20, n := 48, lo := 0, w := 9, acc := .rw, legal := .range 1 256 1 }
def GATE.GATE_STAT_STATES : Fld := { off := 0x118, stride := 0x20, n := 48, lo := 0, w := 8 }
def GATE.GATE_STAT_ENTRY : Fld := { off := 0x118, stride := 0x20, n := 48, lo := 8, w := 8 }
def GATE.GATE_STAT_ACTIVE_VALID : Fld := { off := 0x118, stride := 0x20, n := 48, lo := 16, w := 1 }
def GATE.GATE_STAT_INSTALLING : Fld := { off := 0x118, stride := 0x20, n := 48, lo := 17, w := 1 }
def GATE.GATE_STAT_FAIL_STATE : Fld := { off := 0x118, stride := 0x20, n := 48, lo := 18, w := 1 }
def GATE.GATE_CNT_OVERSIZE : Fld := { off := 0x11C, stride := 0x20, n := 48, lo := 0, w := 32, clr := true }
def GATE.GATE_ACT_START_SEC : Fld := { off := 0x700, stride := 0x10, n := 48, lo := 0, w := 32 }
def GATE.GATE_ACT_START_NS : Fld := { off := 0x704, stride := 0x10, n := 48, lo := 0, w := 30 }
def GATE.GATE_ACT_CYCLE_CYCLE : Fld := { off := 0x708, stride := 0x10, n := 48, lo := 0, w := 30 }
def GATE.GATE_ACT_CYCLE_HOOP_LOCK : Fld := { off := 0x708, stride := 0x10, n := 48, lo := 31, w := 1 }
def GATE.GATE_ACT_LEN : Fld := { off := 0x70C, stride := 0x10, n := 48, lo := 0, w := 9 }

/-- Every field of the block's register map, R333-R338, R344. -/
def GATE.rows : List Fld :=
  [GATE.GATE_SEL_PORT, GATE.GATE_SEL_LIST, GATE.GATE_SEL_ENTRY, GATE.GATE_D0, GATE.GATE_D1, GATE.GATE_CMD_WRITE, GATE.GATE_CMD_READ, GATE.GATE_WSTAT_BUSY, GATE.GATE_WSTAT_RESULT, GATE.GATE_CTL_EN, GATE.GATE_CTL_STRICT, GATE.GATE_CTL_GUARD, GATE.GATE_CTL_FAIL_GATES, GATE.GATE_PEND_BASE_SEC_LO, GATE.GATE_PEND_BASE_SEC_HI, GATE.GATE_PEND_BASE_NS, GATE.GATE_PEND_CYCLE_CYCLE, GATE.GATE_PEND_CYCLE_HOOP_LOCK, GATE.GATE_PEND_LEN, GATE.GATE_STAT_STATES, GATE.GATE_STAT_ENTRY, GATE.GATE_STAT_ACTIVE_VALID, GATE.GATE_STAT_INSTALLING, GATE.GATE_STAT_FAIL_STATE, GATE.GATE_CNT_OVERSIZE, GATE.GATE_ACT_START_SEC, GATE.GATE_ACT_START_NS, GATE.GATE_ACT_CYCLE_CYCLE, GATE.GATE_ACT_CYCLE_HOOP_LOCK, GATE.GATE_ACT_LEN]

/-! ### Block SAMPLE: R339-R342 -/

def SAMPLE.SMP_CTL_EN : Fld := { off := 0x040, lo := 0, w := 1, acc := .rw }
def SAMPLE.SMP_CTL_PERIOD : Fld := { off := 0x040, lo := 16, w := 16, acc := .rw, rst := 1000, legal := .range 1 65535 1 }
def SAMPLE.SMP_STAT_LEVEL : Fld := { off := 0x044, lo := 0, w := 14 }
def SAMPLE.SMP_STAT_SWEEPING : Fld := { off := 0x044, lo := 16, w := 1 }
def SAMPLE.SMP_THRESH : Fld := { off := 0x048, lo := 0, w := 14, acc := .rw, rst := 4096, legal := .range 1 8192 1 }
def SAMPLE.SMP_WATCH_SEL : Fld := { off := 0x04C, lo := 0, w := 10, acc := .rw }
def SAMPLE.SMP_WATCH_NUMBER : Fld := { off := 0x050, lo := 0, w := 19, acc := .rw }
def SAMPLE.SMP_WATCH_KIND : Fld := { off := 0x050, lo := 20, w := 2, acc := .rw, legal := .range 0 2 1 }
def SAMPLE.SMP_WATCH_EN : Fld := { off := 0x050, lo := 31, w := 1, acc := .rw }
def SAMPLE.SMP_CNT_SKIP : Fld := { off := 0x054, lo := 0, w := 32, clr := true }
def SAMPLE.SMP_CNT_DROP : Fld := { off := 0x058, lo := 0, w := 32, clr := true }
def SAMPLE.SMP_RD : Fld := { off := 0x060, stride := 0x4, n := 4, lo := 0, w := 32 }

/-- Every field of the block's register map, R339-R342. -/
def SAMPLE.rows : List Fld :=
  [SAMPLE.SMP_CTL_EN, SAMPLE.SMP_CTL_PERIOD, SAMPLE.SMP_STAT_LEVEL, SAMPLE.SMP_STAT_SWEEPING, SAMPLE.SMP_THRESH, SAMPLE.SMP_WATCH_SEL, SAMPLE.SMP_WATCH_NUMBER, SAMPLE.SMP_WATCH_KIND, SAMPLE.SMP_WATCH_EN, SAMPLE.SMP_CNT_SKIP, SAMPLE.SMP_CNT_DROP, SAMPLE.SMP_RD]

/-! ### Block ENG: R346-R359 -/

def ENG.ENG_STAT_LEVEL : Fld := { off := 0x040, lo := 0, w := 3 }
def ENG.ENG_STAT_SPARE_FOR : Fld := { off := 0x040, lo := 8, w := 3 }
def ENG.ENG_STAT_SPARE_IN_USE : Fld := { off := 0x040, lo := 11, w := 1 }
def ENG.ENG_CLASS_MAX_RIGID : Fld := { off := 0x044, lo := 0, w := 3, rst := 7 }
def ENG.ENG_CLASS_MAX_HIGHER : Fld := { off := 0x044, lo := 3, w := 21, acc := .rw, rst := 342391 }
def ENG.ENG_SH_MASK : Fld := { off := 0x050, stride := 0x4, n := 8, lo := 0, w := 16, acc := .rw, rsts := [16383, 16383, 16383, 16383, 16383, 16383, 16383, 49152] }

/-- Every field of the block's register map, R346-R359. -/
def ENG.rows : List Fld :=
  [ENG.ENG_STAT_LEVEL, ENG.ENG_STAT_SPARE_FOR, ENG.ENG_STAT_SPARE_IN_USE, ENG.ENG_CLASS_MAX_RIGID, ENG.ENG_CLASS_MAX_HIGHER, ENG.ENG_SH_MASK]

/-! ### Block ENGE: R349-R360 -/

def ENGE.ENG_E_STAT_IMAGE : Fld := { off := 0x040, lo := 0, w := 2 }
def ENGE.ENG_E_STAT_KEY : Fld := { off := 0x040, lo := 2, w := 1 }
def ENGE.ENG_E_STAT_TASKS : Fld := { off := 0x040, lo := 4, w := 4 }
def ENGE.ENG_E_STAT_PHYS : Fld := { off := 0x040, lo := 8, w := 4, spec := true }
def ENGE.ENG_E_STAT_TASK : Fld := { off := 0x040, lo := 12, w := 4 }
def ENGE.ENG_E_STAT_RUNNING : Fld := { off := 0x040, lo := 16, w := 1 }
def ENGE.ENG_IMG_VER : Fld := { off := 0x044, lo := 0, w := 32 }
def ENGE.MBX_SEL : Fld := { off := 0x050, lo := 0, w := 4, acc := .rw }
def ENGE.MBX_HDR : Fld := { off := 0x054, lo := 0, w := 32, acc := .rw }
def ENGE.MBX_TAG : Fld := { off := 0x058, lo := 0, w := 32, acc := .rw }
def ENGE.MBX_DATA : Fld := { off := 0x05C, lo := 0, w := 32, acc := .wo }
def ENGE.MBX_PUSH_PUSH : Fld := { off := 0x060, lo := 0, w := 1, acc := .w1s }
def ENGE.MBX_PUSH_CLEAR : Fld := { off := 0x060, lo := 1, w := 1, acc := .w1s }
def ENGE.MBX_STAT_FULL : Fld := { off := 0x064, lo := 0, w := 1 }
def ENGE.MBX_STAT_SHORT : Fld := { off := 0x064, lo := 1, w := 1 }
def ENGE.MBX_STAT_STAGED : Fld := { off := 0x064, lo := 16, w := 11 }
def ENGE.MBX_OUT_HDR : Fld := { off := 0x070, lo := 0, w := 32 }
def ENGE.MBX_OUT_TAG : Fld := { off := 0x074, lo := 0, w := 32 }
def ENGE.MBX_OUT_DATA : Fld := { off := 0x078, lo := 0, w := 32 }
def ENGE.MBX_OUT_POP_POP : Fld := { off := 0x07C, lo := 0, w := 1, acc := .w1s }
def ENGE.MBX_OUT_LEVEL : Fld := { off := 0x080, lo := 0, w := 10 }
def ENGE.ENG_CNT_MBX_DROP : Fld := { off := 0x084, lo := 0, w := 32, clr := true }
def ENGE.TASK_DESC : Fld := { off := 0x100, stride := 0x4, n := 64, lo := 0, w := 32 }
def ENGE.TASK_STAT_STATE : Fld := { off := 0x200, stride := 0x4, n := 16, lo := 0, w := 3 }
def ENGE.TASK_STAT_HELD : Fld := { off := 0x200, stride := 0x4, n := 16, lo := 3, w := 1 }
def ENGE.TASK_STAT_FAULT_CODE : Fld := { off := 0x200, stride := 0x4, n := 16, lo := 4, w := 4 }
def ENGE.TASK_STAT_IN_WAITING : Fld := { off := 0x200, stride := 0x4, n := 16, lo := 8, w := 16 }

/-- Every field of the block's register map, R349-R360. -/
def ENGE.rows : List Fld :=
  [ENGE.ENG_E_STAT_IMAGE, ENGE.ENG_E_STAT_KEY, ENGE.ENG_E_STAT_TASKS, ENGE.ENG_E_STAT_PHYS, ENGE.ENG_E_STAT_TASK, ENGE.ENG_E_STAT_RUNNING, ENGE.ENG_IMG_VER, ENGE.MBX_SEL, ENGE.MBX_HDR, ENGE.MBX_TAG, ENGE.MBX_DATA, ENGE.MBX_PUSH_PUSH, ENGE.MBX_PUSH_CLEAR, ENGE.MBX_STAT_FULL, ENGE.MBX_STAT_SHORT, ENGE.MBX_STAT_STAGED, ENGE.MBX_OUT_HDR, ENGE.MBX_OUT_TAG, ENGE.MBX_OUT_DATA, ENGE.MBX_OUT_POP_POP, ENGE.MBX_OUT_LEVEL, ENGE.ENG_CNT_MBX_DROP, ENGE.TASK_DESC, ENGE.TASK_STAT_STATE, ENGE.TASK_STAT_HELD, ENGE.TASK_STAT_FAULT_CODE, ENGE.TASK_STAT_IN_WAITING]

/-! ### Block ESHARED: R357, R360 -/

def ESHARED.SH_ADDR : Fld := { off := 0x040, lo := 2, w := 18, acc := .rw }
def ESHARED.SH_DATA : Fld := { off := 0x044, lo := 0, w := 32, acc := .rw }

/-- Every field of the block's register map, R357, R360. -/
def ESHARED.rows : List Fld :=
  [ESHARED.SH_ADDR, ESHARED.SH_DATA]

/-! ### Block PERF: R361-R368 -/

def PERF.PERF_CTL_RUN : Fld := { off := 0x040, lo := 0, w := 1, acc := .rw }
def PERF.PERF_CTL_FREEZE : Fld := { off := 0x040, lo := 1, w := 1, acc := .rw }
def PERF.PERF_ACCESS_CTX0 : Fld := { off := 0x044, lo := 0, w := 1, rst := 1 }
def PERF.PERF_ACCESS_CTX_RD : Fld := { off := 0x044, lo := 1, w := 3, acc := .rw }
def PERF.PERF_ACCESS_SU_RD : Fld := { off := 0x044, lo := 4, w := 1, acc := .rw }
def PERF.PERF_OVF : Fld := { off := 0x048, stride := 0x4, n := 2, lo := 0, w := 32 }

/-- Every field of the block's register map, R361-R368. -/
def PERF.rows : List Fld :=
  [PERF.PERF_CTL_RUN, PERF.PERF_CTL_FREEZE, PERF.PERF_ACCESS_CTX0, PERF.PERF_ACCESS_CTX_RD, PERF.PERF_ACCESS_SU_RD, PERF.PERF_OVF]

/-! ### Block PERFC: R361-R364 -/

def PERFC.PC_CTL_EVENT : Fld := { off := 0x040, lo := 0, w := 8, acc := .rw }
def PERFC.PC_CTL_UNIT : Fld := { off := 0x040, lo := 8, w := 6, acc := .rw }
def PERFC.PC_CTL_MODE : Fld := { off := 0x040, lo := 16, w := 1, acc := .rw }
def PERFC.PC_CTL_EN : Fld := { off := 0x040, lo := 17, w := 1, acc := .rw }
def PERFC.PC_CTL_GROUP : Fld := { off := 0x040, lo := 18, w := 1, acc := .rw }
def PERFC.PC_CTL_RELOAD_EN : Fld := { off := 0x040, lo := 19, w := 1, acc := .rw }
def PERFC.PC_VAL_LO : Fld := { off := 0x044, lo := 0, w := 32, acc := .rw }
def PERFC.PC_VAL_HI : Fld := { off := 0x048, lo := 0, w := 16, acc := .rw }
def PERFC.PC_RELOAD_LO : Fld := { off := 0x04C, lo := 0, w := 32, acc := .rw }
def PERFC.PC_RELOAD_HI : Fld := { off := 0x050, lo := 0, w := 16, acc := .rw }
def PERFC.PC_CAPT_ADDR : Fld := { off := 0x054, lo := 0, w := 16 }
def PERFC.PC_CAPT_TASK : Fld := { off := 0x054, lo := 16, w := 4 }
def PERFC.PC_CAPT_ENGINE : Fld := { off := 0x054, lo := 20, w := 3 }
def PERFC.PC_CAPT_VALID : Fld := { off := 0x054, lo := 31, w := 1 }
def PERFC.PC_OVF_CNT : Fld := { off := 0x058, lo := 0, w := 32, clr := true }

/-- Every field of the block's register map, R361-R364. -/
def PERFC.rows : List Fld :=
  [PERFC.PC_CTL_EVENT, PERFC.PC_CTL_UNIT, PERFC.PC_CTL_MODE, PERFC.PC_CTL_EN, PERFC.PC_CTL_GROUP, PERFC.PC_CTL_RELOAD_EN, PERFC.PC_VAL_LO, PERFC.PC_VAL_HI, PERFC.PC_RELOAD_LO, PERFC.PC_RELOAD_HI, PERFC.PC_CAPT_ADDR, PERFC.PC_CAPT_TASK, PERFC.PC_CAPT_ENGINE, PERFC.PC_CAPT_VALID, PERFC.PC_OVF_CNT]

/-! ### Block SU: R365, R366, R370 -/

def SU.SU_CTL_SNAP : Fld := { off := 0x040, lo := 0, w := 1, acc := .w1s }
def SU.SU_SEQ : Fld := { off := 0x044, lo := 0, w := 32 }
def SU.SU_VAL : Fld := { off := 0x100, stride := 0x4, n := 160, lo := 0, w := 32 }

/-- Every field of the block's register map, R365, R366, R370. -/
def SU.rows : List Fld :=
  [SU.SU_CTL_SNAP, SU.SU_SEQ, SU.SU_VAL]

/-! ### Block CALDIR: R371-R382 -/

def CALDIR.CAL_CTL_USE_RESTORED : Fld := { off := 0x040, lo := 0, w := 1, acc := .rws }
def CALDIR.CAL_CTL_RESTORE_OPEN : Fld := { off := 0x040, lo := 1, w := 1, acc := .rw }
def CALDIR.CAL_CTL_EN_TDC : Fld := { off := 0x040, lo := 4, w := 1, acc := .rw, rst := 1 }
def CALDIR.CAL_CTL_EN_LANE : Fld := { off := 0x040, lo := 5, w := 1, acc := .rw, rst := 1 }
def CALDIR.CAL_CTL_EN_PLL : Fld := { off := 0x040, lo := 6, w := 1, acc := .rw, rst := 1 }
def CALDIR.CAL_TEMP_DELTA : Fld := { off := 0x044, lo := 0, w := 8, acc := .rw, rst := 16, legal := .range 2 160 1 }
def CALDIR.CAL_STAT_RUNNING : Fld := { off := 0x048, lo := 0, w := 1 }
def CALDIR.CAL_STAT_RESTORED : Fld := { off := 0x048, lo := 1, w := 1 }
def CALDIR.CAL_STAT_RESTORE_MISS : Fld := { off := 0x048, lo := 2, w := 1 }
def CALDIR.CAL_STAT_IMG_REJECT : Fld := { off := 0x048, lo := 3, w := 1 }
def CALDIR.CAL_STAT_WHY : Fld := { off := 0x048, lo := 4, w := 4 }
def CALDIR.CAL_STAT_CAPTURING : Fld := { off := 0x048, lo := 8, w := 1 }
def CALDIR.CAL_STAT_APPLYING : Fld := { off := 0x048, lo := 9, w := 1 }
def CALDIR.CAL_STAT_DUE : Fld := { off := 0x048, lo := 16, w := 16 }
def CALDIR.CAL_CMD_CAPTURE : Fld := { off := 0x04C, lo := 0, w := 1, acc := .w1s }
def CALDIR.CAL_CMD_APPLY : Fld := { off := 0x04C, lo := 1, w := 1, acc := .w1s }
def CALDIR.CAL_IMG_ADDR : Fld := { off := 0x050, lo := 2, w := 15, acc := .rw }
def CALDIR.CAL_IMG_DATA : Fld := { off := 0x054, lo := 0, w := 32, acc := .rw }
def CALDIR.CAL_IMG_LEN : Fld := { off := 0x058, lo := 0, w := 18 }
def CALDIR.CAL_APPLY_SKIP : Fld := { off := 0x05C, lo := 0, w := 16 }
def CALDIR.CAL_CNT_FAIL : Fld := { off := 0x060, lo := 0, w := 32, clr := true }

/-- Every field of the block's register map, R371-R382. -/
def CALDIR.rows : List Fld :=
  [CALDIR.CAL_CTL_USE_RESTORED, CALDIR.CAL_CTL_RESTORE_OPEN, CALDIR.CAL_CTL_EN_TDC, CALDIR.CAL_CTL_EN_LANE, CALDIR.CAL_CTL_EN_PLL, CALDIR.CAL_TEMP_DELTA, CALDIR.CAL_STAT_RUNNING, CALDIR.CAL_STAT_RESTORED, CALDIR.CAL_STAT_RESTORE_MISS, CALDIR.CAL_STAT_IMG_REJECT, CALDIR.CAL_STAT_WHY, CALDIR.CAL_STAT_CAPTURING, CALDIR.CAL_STAT_APPLYING, CALDIR.CAL_STAT_DUE, CALDIR.CAL_CMD_CAPTURE, CALDIR.CAL_CMD_APPLY, CALDIR.CAL_IMG_ADDR, CALDIR.CAL_IMG_DATA, CALDIR.CAL_IMG_LEN, CALDIR.CAL_APPLY_SKIP, CALDIR.CAL_CNT_FAIL]

/-! ### Block CAVE: R383-R387 -/

def CAVE.CAVE_CTL_EN : Fld := { off := 0x040, lo := 0, w := 1, acc := .rw, rst := 1 }
def CAVE.CAVE_CTL_AUTO : Fld := { off := 0x040, lo := 1, w := 5, acc := .rw, rst := 31 }
def CAVE.CAVE_CTL_FORCE_ON_FAIL : Fld := { off := 0x040, lo := 8, w := 1, acc := .rw, rst := 1 }
def CAVE.CAVE_CTL_SWAP_AT : Fld := { off := 0x040, lo := 16, w := 8, acc := .rw, rst := 128, legal := .range 2 255 1 }
def CAVE.CAVE_STAT_AWAITING : Fld := { off := 0x044, lo := 0, w := 4 }
def CAVE.CAVE_STAT_QUEUED : Fld := { off := 0x044, lo := 4, w := 4 }
def CAVE.CAVE_STAT_SWAPS : Fld := { off := 0x044, lo := 16, w := 16 }
def CAVE.CAVE_CE_LIM : Fld := { off := 0x048, lo := 0, w := 16, acc := .rw, rst := 16, legal := .range 2 65534 2 }
def CAVE.CAVE_SWAP_SEL : Fld := { off := 0x04C, lo := 0, w := 4, acc := .rw }
def CAVE.CAVE_SWAP_D0_NUMBER : Fld := { off := 0x050, lo := 0, w := 8 }
def CAVE.CAVE_SWAP_D0_STATE : Fld := { off := 0x050, lo := 8, w := 3 }
def CAVE.CAVE_SWAP_D0_KIND : Fld := { off := 0x050, lo := 12, w := 3 }
def CAVE.CAVE_SWAP_D0_FORCED : Fld := { off := 0x050, lo := 15, w := 1 }
def CAVE.CAVE_SWAP_D0_PAGE : Fld := { off := 0x050, lo := 16, w := 12 }
def CAVE.CAVE_SWAP_D0_MONITOR : Fld := { off := 0x050, lo := 28, w := 4 }
def CAVE.CAVE_SWAP_D1_SLICE : Fld := { off := 0x054, lo := 0, w := 16 }
def CAVE.CAVE_SWAP_D1_SPARE : Fld := { off := 0x054, lo := 16, w := 16 }
def CAVE.CAVE_SWAP_T : Fld := { off := 0x058, lo := 0, w := 32 }
def CAVE.CAVE_ST_FAIL_E : Fld := { off := 0x05C, lo := 0, w := 8 }
def CAVE.CAVE_ST_FAIL_SPARE : Fld := { off := 0x05C, lo := 8, w := 1 }

/-- Every field of the block's register map, R383-R387. -/
def CAVE.rows : List Fld :=
  [CAVE.CAVE_CTL_EN, CAVE.CAVE_CTL_AUTO, CAVE.CAVE_CTL_FORCE_ON_FAIL, CAVE.CAVE_CTL_SWAP_AT, CAVE.CAVE_STAT_AWAITING, CAVE.CAVE_STAT_QUEUED, CAVE.CAVE_STAT_SWAPS, CAVE.CAVE_CE_LIM, CAVE.CAVE_SWAP_SEL, CAVE.CAVE_SWAP_D0_NUMBER, CAVE.CAVE_SWAP_D0_STATE, CAVE.CAVE_SWAP_D0_KIND, CAVE.CAVE_SWAP_D0_FORCED, CAVE.CAVE_SWAP_D0_PAGE, CAVE.CAVE_SWAP_D0_MONITOR, CAVE.CAVE_SWAP_D1_SLICE, CAVE.CAVE_SWAP_D1_SPARE, CAVE.CAVE_SWAP_T, CAVE.CAVE_ST_FAIL_E, CAVE.CAVE_ST_FAIL_SPARE]

/-! ### Block RIND: R4, R20, R399 -/

def RIND.RIND_CHIP_ID_REV : Fld := { off := 0x040, lo := 0, w := 8, rst := 176 }
def RIND.RIND_CHIP_ID_DEVICE : Fld := { off := 0x040, lo := 8, w := 16, rst := 18582 }
def RIND.RIND_CHIP_ID_FAMILY : Fld := { off := 0x040, lo := 24, w := 8, rst := 75 }
def RIND.RIND_CLK_STAT_OSC_OK : Fld := { off := 0x044, lo := 0, w := 1 }
def RIND.RIND_CLK_STAT_RIND_SRC : Fld := { off := 0x044, lo := 1, w := 1 }
def RIND.RIND_CLK_STAT_CORE_LOCK : Fld := { off := 0x044, lo := 2, w := 1 }
def RIND.RIND_CLK_STAT_SDS_REF_SRC : Fld := { off := 0x044, lo := 4, w := 2 }
def RIND.RIND_CLK_STAT_TCUA_LOCK : Fld := { off := 0x044, lo := 6, w := 1 }
def RIND.RIND_CLK_STAT_TCUB_LOCK : Fld := { off := 0x044, lo := 7, w := 1 }
def RIND.RIND_CLK_STAT_TIME_VALID : Fld := { off := 0x044, lo := 8, w := 1 }
def RIND.RIND_CLK_STAT_PHASE : Fld := { off := 0x044, lo := 9, w := 2 }
def RIND.RIND_CLK_STAT_OSC_FAIL : Fld := { off := 0x044, lo := 16, w := 1, acc := .w1c }
def RIND.RIND_CLK_STAT_SDS_REF_FAIL : Fld := { off := 0x044, lo := 17, w := 1, acc := .w1c }
def RIND.RIND_RESET_CAUSE_CAUSES : Fld := { off := 0x048, lo := 0, w := 6, acc := .rws, rst := 1 }
def RIND.RIND_RESET_CAUSE_LAST : Fld := { off := 0x048, lo := 8, w := 3, acc := .rws, legal := .range 0 5 1 }
def RIND.RIND_RESET_CAUSE_SAG_SUPPLY : Fld := { off := 0x048, lo := 12, w := 3, acc := .rws, legal := .range 0 5 1 }
def RIND.RIND_RESET_CAUSE_COUNT : Fld := { off := 0x048, lo := 16, w := 16, acc := .rws }

/-- Every field of the block's register map, R4, R20, R399. -/
def RIND.rows : List Fld :=
  [RIND.RIND_CHIP_ID_REV, RIND.RIND_CHIP_ID_DEVICE, RIND.RIND_CHIP_ID_FAMILY, RIND.RIND_CLK_STAT_OSC_OK, RIND.RIND_CLK_STAT_RIND_SRC, RIND.RIND_CLK_STAT_CORE_LOCK, RIND.RIND_CLK_STAT_SDS_REF_SRC, RIND.RIND_CLK_STAT_TCUA_LOCK, RIND.RIND_CLK_STAT_TCUB_LOCK, RIND.RIND_CLK_STAT_TIME_VALID, RIND.RIND_CLK_STAT_PHASE, RIND.RIND_CLK_STAT_OSC_FAIL, RIND.RIND_CLK_STAT_SDS_REF_FAIL, RIND.RIND_RESET_CAUSE_CAUSES, RIND.RIND_RESET_CAUSE_LAST, RIND.RIND_RESET_CAUSE_SAG_SUPPLY, RIND.RIND_RESET_CAUSE_COUNT]

/-! ### Block PWR: R421 -/

def PWR.PWR_STAT : Fld := { off := 0x040, lo := 0, w := 28 }
def PWR.PWR_BOOT_OFF_TCU : Fld := { off := 0x044, lo := 1, w := 2, acc := .rws }
def PWR.PWR_BOOT_OFF_GRP : Fld := { off := 0x044, lo := 8, w := 6, acc := .rws }

/-- Every field of the block's register map, R421. -/
def PWR.rows : List Fld :=
  [PWR.PWR_STAT, PWR.PWR_BOOT_OFF_TCU, PWR.PWR_BOOT_OFF_GRP]

/-! ### Block SUPPLY: R389-R396 -/

def SUPPLY.SUP_STAT_BELOW : Fld := { off := 0x040, lo := 0, w := 6 }
def SUPPLY.SUP_SEEN : Fld := { off := 0x044, lo := 0, w := 6, acc := .w1c }
def SUPPLY.SUP_CNT_WARN : Fld := { off := 0x048, lo := 0, w := 32, clr := true }
def SUPPLY.SUP_MV : Fld := { off := 0x050, stride := 0x4, n := 6, lo := 0, w := 13 }
def SUPPLY.TS : Fld := { off := 0x080, stride := 0x4, n := 6, lo := 0, w := 16 }
def SUPPLY.TS_MAX_T : Fld := { off := 0x098, lo := 0, w := 16 }
def SUPPLY.TS_MAX_SENSOR : Fld := { off := 0x098, lo := 16, w := 3 }
def SUPPLY.BG_CTL_FLOOR : Fld := { off := 0x0A0, lo := 0, w := 3, acc := .rw }
def SUPPLY.BG_CTL_HYST : Fld := { off := 0x0A0, lo := 8, w := 8, acc := .rw, rst := 8, legal := .range 0 40 1 }
def SUPPLY.BG_CTL_DWELL : Fld := { off := 0x0A0, lo := 16, w := 16, acc := .rw, rst := 100, legal := .range 1 10000 1 }
def SUPPLY.BG_STAT_LEVEL : Fld := { off := 0x0A4, lo := 0, w := 3 }
def SUPPLY.BG_STAT_THERMAL : Fld := { off := 0x0A4, lo := 3, w := 3 }
def SUPPLY.BG_STAT_CHANGES : Fld := { off := 0x0A4, lo := 16, w := 16 }
def SUPPLY.BG_T : Fld := { off := 0x0C4, stride := 0x4, n := 7, lo := 0, w := 12, acc := .rw, rsts := [380, 400, 420, 440, 460, 480, 500], legal := .range 240 520 1 }
def SUPPLY.THERM_CTL : Fld := { off := 0x0E0, lo := 0, w := 12, acc := .rws, rst := 460, legal := .range 400 500 1 }

/-- Every field of the block's register map, R389-R396. -/
def SUPPLY.rows : List Fld :=
  [SUPPLY.SUP_STAT_BELOW, SUPPLY.SUP_SEEN, SUPPLY.SUP_CNT_WARN, SUPPLY.SUP_MV, SUPPLY.TS, SUPPLY.TS_MAX_T, SUPPLY.TS_MAX_SENSOR, SUPPLY.BG_CTL_FLOOR, SUPPLY.BG_CTL_HYST, SUPPLY.BG_CTL_DWELL, SUPPLY.BG_STAT_LEVEL, SUPPLY.BG_STAT_THERMAL, SUPPLY.BG_STAT_CHANGES, SUPPLY.BG_T, SUPPLY.THERM_CTL]

/-! ### Block BOOT: R404-R410 -/

def BOOT.BOOT_STAT_READY : Fld := { off := 0x040, lo := 0, w := 1 }
def BOOT.BOOT_STAT_LOADING : Fld := { off := 0x040, lo := 1, w := 1 }
def BOOT.BOOT_STAT_WAIT_PUSH : Fld := { off := 0x040, lo := 2, w := 1 }
def BOOT.BOOT_STAT_SRC : Fld := { off := 0x040, lo := 4, w := 2 }
def BOOT.BOOT_STAT_COPY : Fld := { off := 0x040, lo := 6, w := 1 }
def BOOT.BOOT_STAT_WHY : Fld := { off := 0x040, lo := 8, w := 4 }
def BOOT.BOOT_STAT_LOADED : Fld := { off := 0x040, lo := 16, w := 8 }
def BOOT.BOOT_PUSH_LEN : Fld := { off := 0x044, lo := 0, w := 24, acc := .rw }
def BOOT.BOOT_PUSH_DATA : Fld := { off := 0x048, lo := 0, w := 32, acc := .wo }
def BOOT.BOOT_TIME : Fld := { off := 0x04C, lo := 0, w := 20 }
def BOOT.BOOT_VER : Fld := { off := 0x050, lo := 0, w := 32 }

/-- Every field of the block's register map, R404-R410. -/
def BOOT.rows : List Fld :=
  [BOOT.BOOT_STAT_READY, BOOT.BOOT_STAT_LOADING, BOOT.BOOT_STAT_WAIT_PUSH, BOOT.BOOT_STAT_SRC, BOOT.BOOT_STAT_COPY, BOOT.BOOT_STAT_WHY, BOOT.BOOT_STAT_LOADED, BOOT.BOOT_PUSH_LEN, BOOT.BOOT_PUSH_DATA, BOOT.BOOT_TIME, BOOT.BOOT_VER]

/-! ### Block LC: R411-R415 -/

def LC.LC_STAT_STATE : Fld := { off := 0x040, lo := 0, w := 2 }
def LC.LC_STAT_KEY_SET : Fld := { off := 0x040, lo := 4, w := 1 }
def LC.LC_NONCE : Fld := { off := 0x044, lo := 0, w := 32 }
def LC.LC_SERIAL_LO : Fld := { off := 0x048, lo := 0, w := 32 }
def LC.LC_SERIAL_HI : Fld := { off := 0x04C, lo := 0, w := 32 }
def LC.LC_KEYHASH : Fld := { off := 0x060, stride := 0x4, n := 8, lo := 0, w := 32, acc := .rw }
def LC.OTP_ADDR : Fld := { off := 0x080, lo := 0, w := 6, acc := .rw }
def LC.OTP_DATA : Fld := { off := 0x084, lo := 0, w := 32, acc := .rw }
def LC.OTP_CMD_PROG : Fld := { off := 0x088, lo := 0, w := 1, acc := .w1s }
def LC.OTP_STAT_BUSY : Fld := { off := 0x08C, lo := 0, w := 1 }
def LC.OTP_STAT_FAIL : Fld := { off := 0x08C, lo := 1, w := 1 }

/-- Every field of the block's register map, R411-R415. -/
def LC.rows : List Fld :=
  [LC.LC_STAT_STATE, LC.LC_STAT_KEY_SET, LC.LC_NONCE, LC.LC_SERIAL_LO, LC.LC_SERIAL_HI, LC.LC_KEYHASH, LC.OTP_ADDR, LC.OTP_DATA, LC.OTP_CMD_PROG, LC.OTP_STAT_BUSY, LC.OTP_STAT_FAIL]

end Sys2Proof.Machine.R
end

