-- ==== Sys2Proof/Machine/Pages.lean ====
section
/-! DEFINITION. The page map of R33: which block, domain and instance each page of the register window holds, and the register map that goes with it. -/

namespace Sys2Proof.Machine

/-- The register maps of the pages (R33); pages of one block type share a map, except that the LPM windows add
registers to the table window and PERF_SU has a map of its own. -/
inductive Blk where
  | rind | supply | arb | lc | pwr | boot | hc | hpPcie | hpSpi | hpInb | eng | enge | espare | eshared | cave | caldir
  | ctl | time | synth | refsel | hold | out | tdc | ptp | cad | gw
  | core | pipe | mact | lpm | shadow | vat | voq | whey | vb | sched | shape | gate | sample
  | port | grp | nt | perf | perfc | su
  deriving DecidableEq, Repr

/-- The block of a TCU page, by its place within the TCU's range (R33). -/
def tcuBlk (r : Nat) : Option Blk :=
  if r = 0x00 then some .ctl else if r = 0x01 then some .time else if r = 0x02 then some .synth
  else if r = 0x03 then some .refsel else if r = 0x04 then some .hold
  else if 0x06 ≤ r ∧ r ≤ 0x0D then some .out else if 0x10 ≤ r ∧ r ≤ 0x27 then some .tdc
  else if r = 0x28 ∨ r = 0x29 then some .ptp else if r = 0x2A then some .cad else if r = 0x2B then some .gw else none

/-- The block a page holds; `none` for an unallocated page (R33). -/
def pageBlk (p : Nat) : Option Blk :=
  if p < 0x010 then
    (if p = 0 then some .rind else if p = 1 then some .supply else if p = 2 then some .arb else if p = 3 then some .lc
     else if p = 4 then some .pwr else if p = 5 then some .boot else none)
  else if p < 0x020 then
    (if p ≤ 0x013 then some .hc else if p = 0x014 then some .hpPcie else if p ≤ 0x016 then some .hpSpi
     else if p = 0x017 then some .hpInb else none)
  else if p < 0x030 then
    (if p = 0x020 then some .eng else if p ≤ 0x028 then some .enge else if p = 0x029 then some .espare
     else if p = 0x02A then some .eshared else none)
  else if p < 0x040 then (if p = 0x030 then some .cave else if p = 0x031 then some .caldir else none)
  else if p < 0x080 then tcuBlk (p - 0x040)
  else if p < 0x0C0 then tcuBlk (p - 0x080)
  else if p < 0x100 then
    (if p = 0x0C0 then some .core else if p ≤ 0x0C2 then some .pipe else if p ≤ 0x0C4 then some .mact
     else if p ≤ 0x0C6 then some .lpm else if p = 0x0C7 then some .shadow else none)
  else if p < 0x140 then
    (if p = 0x100 then some .vat else if p = 0x101 then some .voq else if p = 0x102 then some .whey
     else if 0x108 ≤ p ∧ p ≤ 0x12B then some .vb else none)
  else if p < 0x180 then
    (if p = 0x140 then some .sched else if p = 0x141 then some .shape else if p = 0x142 then some .gate
     else if p = 0x143 then some .sample else none)
  else if p < 0x1B0 then some .port
  else if p < 0x1B6 then some .grp
  else if 0x1C0 ≤ p ∧ p ≤ 0x1CB then some .nt
  else if p = 0x200 then some .perf else if p = 0x201 then some .su
  else if 0x210 ≤ p ∧ p ≤ 0x24F then some .perfc else none

/-- The block type code of R33. -/
def Blk.code : Blk → Nat
  | .rind => 0x01 | .supply => 0x02 | .arb => 0x03 | .lc => 0x04 | .pwr => 0x05 | .boot => 0x06
  | .hc => 0x10 | .hpPcie => 0x11 | .hpSpi => 0x12 | .hpInb => 0x13
  | .eng => 0x20 | .enge => 0x21 | .espare => 0x21 | .eshared => 0x22 | .cave => 0x30 | .caldir => 0x31
  | .ctl => 0x40 | .time => 0x41 | .synth => 0x42 | .refsel => 0x43 | .hold => 0x44 | .out => 0x45 | .tdc => 0x46
  | .ptp => 0x47 | .cad => 0x48 | .gw => 0x49
  | .core => 0x50 | .pipe => 0x51 | .mact => 0x52 | .lpm => 0x52 | .shadow => 0x53
  | .vat => 0x60 | .vb => 0x61 | .voq => 0x62 | .whey => 0x63
  | .sched => 0x70 | .shape => 0x71 | .gate => 0x72 | .sample => 0x73
  | .port => 0x80 | .grp => 0x81 | .nt => 0x82 | .perf => 0x90 | .perfc => 0x91 | .su => 0x91

/-- The first page of each group of pages of one type, from which `HDR_ID.INSTANCE` counts (R455). -/
def pageIndex (p : Nat) : Nat :=
  match pageBlk p with
  | some .hc => p - 0x010
  | some .hpSpi => p - 0x015
  | some .enge | some .espare => p - 0x021
  | some .out => (p - 0x040) % 0x40 - 0x06
  | some .tdc => (p - 0x040) % 0x40 - 0x10
  | some .ptp => (p - 0x040) % 0x40 - 0x28
  | some .pipe => p - 0x0C1
  | some .mact | some .lpm => p - 0x0C3
  | some .vb => p - 0x108
  | some .port => p - 0x180
  | some .grp => p - 0x1B0
  | some .nt => p - 0x1C0
  | some .perfc => p - 0x210
  | some .su => 64
  | _ => 0

/-- Whether the page is a TCU B page (R33). -/
def isTcuB (p : Nat) : Bool := decide (0x080 ≤ p ∧ p < 0x0C0)

/-- Whether the page is a page of either TCU. -/
def isTcu (p : Nat) : Bool := decide (0x040 ≤ p ∧ p < 0x0C0)

/-- The twin of a TCU page in the other TCU; any other page itself (R39). -/
def twin (p : Nat) : Nat := if isTcu p then (if isTcuB p then p - 0x40 else p + 0x40) else p

/-- The page of a TCU A page number in TCU `t` (0 A, 1 B), R33. -/
def tpage (t p : Nat) : Nat := p + 0x40 * t

/-- `HDR_ID.INSTANCE` (R455). -/
def pageInstance (p : Nat) : Nat := pageIndex p + (if isTcuB p then 0x80 else 0)

/-- The power domain of a page, by its number in DOMAIN_ON (R33, R54); 0 is PD_RIND. -/
def pageDomain (p : Nat) : Nat :=
  match pageBlk p with
  | some .eng | some .enge | some .espare | some .eshared => 5
  | some .core | some .pipe | some .mact | some .lpm | some .shadow | some .sched | some .shape | some .gate | some .sample => 3
  | some .vat | some .voq | some .whey | some .vb => 4
  | some .port => 8 + (p - 0x180) / 8
  | some .grp => 8 + (p - 0x1B0)
  | some .nt => 8 + (p - 0x1C0) / 2
  | _ => if isTcu p then (if isTcuB p then 2 else 1) else 0

/-- The block registers of a page (from offset 0x040), field by field. Log 24 (DEDUCED; unsafe). -/
def Blk.rows : Blk → List Fld
  | .rind => R.RIND.rows | .supply => R.SUPPLY.rows | .arb => R.ARB.rows | .lc => R.LC.rows | .pwr => R.PWR.rows
  | .boot => R.BOOT.rows | .hc => R.HC.rows | .hpPcie => [] | .hpSpi => [] | .hpInb => R.INB.rows
  | .eng => R.ENG.rows | .enge => R.ENGE.rows | .espare => R.ENGE.rows | .eshared => R.ESHARED.rows
  | .cave => R.CAVE.rows | .caldir => R.CALDIR.rows
  | .ctl => R.CTL.rows | .time => R.TIME.rows | .synth => R.SYNTH.rows | .refsel => R.REFSEL.rows | .hold => R.HOLD.rows
  | .out => R.OUT.rows | .tdc => R.TDC.rows | .ptp => R.PTP.rows | .cad => R.CAD.rows | .gw => R.GW.rows
  | .core => [] | .pipe => R.PIPE.rows | .mact => R.TBL.rows.map (fun f => if f.off = 0x050 then { f with n := 4 } else f) | .lpm => R.TBL.rows ++ R.LPM.rows | .shadow => R.SHADOW.rows
  | .vat => R.VAT.rows | .voq => R.VOQ.rows | .whey => R.WHEY.rows | .vb => R.VB.rows
  | .sched => R.SCHED.rows | .shape => R.SHAPE.rows | .gate => R.GATE.rows | .sample => R.SAMPLE.rows
  | .port => R.PORT.rows | .grp => R.GRP.rows | .nt => R.NT.rows | .perf => R.PERF.rows | .perfc => R.PERFC.rows | .su => R.SU.rows

/-- Every field at an offset of a block, the header below 0x040 (R35), with its array index. -/
def fieldsAt (b : Blk) (off : Nat) : List (Fld × Nat) :=
  (if off < 0x040 then R.HDR.rows else b.rows).filterMap (fun f => (f.idxAt off).map (fun i => (f, i)))

/-- The header registers that PD_RIND holds for every page (R25). -/
def heldHeader (off : Nat) : Bool :=
  [0x000, 0x004, 0x008, 0x00C, 0x010, 0x014, 0x018, 0x01C, 0x028, 0x02C].contains off

/-- Whether the page's owner is fixed: the HC pages, the Rind pages 0x000–0x005, the HP_ pages and ESPARE (R38). -/
def fixedOwner (p : Nat) : Bool := decide (p ≤ 0x005 ∨ (0x010 ≤ p ∧ p ≤ 0x017) ∨ p = 0x029)

/-- The owner of a page at reset (R38). -/
def resetOwner (p : Nat) : Nat := if 0x010 ≤ p ∧ p ≤ 0x013 then p - 0x010 else 0

/-- The reset value of a field whose Reset cell says it depends on the page (R33, R38, R58, R143, R296, R360). -/
def pageReset (p : Nat) (off lo : Nat) : Nat :=
  match pageBlk p with
  | none => 0
  | some b =>
    if off = 0x000 then (if lo = 0 then b.code else pageInstance p)
    else if off = 0x004 then resetOwner p
    else match b with
    | .ptp => if pageIndex p = 0 then 1 else 0
    | .enge | .espare => pageIndex p
    | .vb =>
      let i := pageIndex p
      if off = 0x044 then (if i < 24 then 8192 else if i < 32 then 2048 else 0)
      else if lo = 0 then (if i < 32 then 1 else 0) else if lo = 8 then (if i < 32 then i else 0) else (if 24 ≤ i ∧ i < 32 then 1 else 0)
    | _ => 0

/-- The reset value of element `i` of a field (R8, R12). Log 1 (DESIGN CHOICE; safe). -/
def Fld.reset (p : Nat) (f : Fld) (i : Nat) : Nat :=
  if f.spec then pageReset p f.off f.lo
  else match f.rsts with
  | [] => f.rst
  | l => l.getD i 0

end Sys2Proof.Machine
end

