-- ==== Sys2Proof/Machine/State.lean ====
section
/-! DEFINITION. The state of the KL4896 as plain data, the reasons a command can stop, and the state right after reset. -/

namespace Sys2Proof.Machine

open Sys2Proof

/-- A completion entry of a command (R50). -/
structure Cpl where
  handle : Nat
  tag : Nat
  status : Nat
  detail : Nat
  r0 : Nat
  r1 : Nat
  intOn : Bool
  deriving DecidableEq, Repr

/-- A command of a context that has been fetched and has not completed (R50–R56). -/
structure Cmd where
  ctx : Nat
  /-- the running count of descriptors submitted before it, from which its handle is formed (R51) -/
  count : Nat
  handle : Nat
  tag : Nat
  intOn : Bool
  afterPrev : Bool
  op : Nat
  page : Nat
  args : List Nat
  /-- false while AFTER_PREV holds it back (R52) -/
  started : Bool := true
  /-- the instant in device ns at which it was accepted, from which its limit or delay runs (R54) -/
  since : Nat := 0
  /-- work discarded so far, frames or messages and octets (R55), or another count of the opcode -/
  r0 : Nat := 0
  r1 : Nat := 0
  /-- a drain that has become a discard, or a stage of a longer operation -/
  stage : Nat := 0
  /-- the pages that its context owned when it submitted the command and has lost since (R39) -/
  pages : List Nat := []
  deriving DecidableEq, Repr

/-- What is known of the command that occupies, or last occupied, a slot of a command ring (R51). -/
structure Slot where
  gen : Nat
  /-- its STATUS, 0xFF while it runs (R54) -/
  status : Nat
  deriving DecidableEq, Repr

/-- A copy of a frame that waits for delivery to a host packet port (R258, R306). -/
structure HostCopy where
  frame : Nat
  old : Bool := false
  reason : Nat
  /-- the receive record put ahead of it -/
  rec_ : List Byte
  deriving DecidableEq, Repr

/-- The state of one host context that no register holds (R46–R58, R256–R261). -/
structure HostCtx where
  /-- completions finished and not yet written (R52) -/
  held : List Cpl := []
  /-- the message interrupt is armed (R58) -/
  armed : Bool := true
  /-- an INT_HOLDOFF interval is running (R58), and the instant in device ns at which it ends -/
  holdoff : Bool := false
  holdTo : Nat := 0
  /-- MSI-X of the function is enabled by its host (R58) -/
  msix : Bool := false
  /-- the sequence number of the last in-band request and the reply stored for it (R45) -/
  inbLast : Option (Nat × List Byte) := none
  /-- the payloads of in-band frames that wait for the in-band port, oldest first (R45, R58, R261) -/
  inbq : List (List Byte) := []
  /-- frames that wait for delivery, oldest first (R258) -/
  rxq : List HostCopy := []
  /-- frames waiting in the SPI receive FIFO, oldest first, and words already read of the head (R260) -/
  rxf : List (List Word) := []
  /-- words of the frame being written into the SPI transmit FIFO, oldest first (R260) -/
  txf : List Word := []
  /-- frames of an SPI or in-band context that wait to be taken, oldest first: descriptor words and octets (R260, R261) -/
  txq : List (List Nat × List Byte) := []
  deriving DecidableEq, Repr

/-- The clock phases of R15. -/
inductive Phase where
  | reset | oscWait | running | lastResort | oscLost
  deriving DecidableEq, Repr

/-- The straps latched at reset release (R42, R82, R150, R404, R432). Log 11 (DESIGN CHOICE; unsafe). -/
structure Straps where
  hcMap : Nat := 0
  oscNom : Nat := 0
  leadSel : Nat := 0
  bootSrc : Nat := 0
  deriving DecidableEq, Repr

/-- Everything the block puts out: read data, completions, messages, edges, blocks and frames.
Log 5 (DESIGN CHOICE; safe). -/
inductive Out where
  /-- read data returned to a context (R6, R8) -/
  | read (ctx addr data : Nat)
  /-- the status byte that ends an SPI read frame (R44) -/
  | spiStatus (ctx status : Nat)
  /-- a completion entry written to a ring: the four words (R50) -/
  | completion (ctx w0 w1 w2 w3 : Nat)
  /-- an MSI-X message of a context (R58) -/
  | msix (ctx : Nat)
  /-- the payload of an in-band frame that the in-band port has sent (R45, R58, R261) -/
  | inband (ctx : Nat) (payload : List Byte)
  /-- a pulse placed at an output of a TCU, at sixteenths of a ps of network time, of a width in ns, active low or not (R116) -/
  | pulse (tcu n : Nat) (at_ : Int) (width : Nat) (low : Bool)
  /-- a cycle of a clock output: its rising edge at sixteenths of a ps of network time, and how long it is high (R115) -/
  | clock (tcu n : Nat) (at_ high : Int) (inv : Bool)
  /-- an output's divider restarted or re-phased: its next rising edge at sixteenths of a ps of network time (R90, R92) -/
  | rephase (tcu n : Nat) (at_ : Int)
  /-- a 64-bit block payload sent on a trunk data lane: trunk, lane, block type and payload (R197, R227, R228) -/
  | block (trunk lane kind payload : Nat)
  /-- a frame sent on a port, and whether its FCS is stomped (R246–R249) -/
  | frame (port : Nat) (octets : List Byte) (stomped : Bool)
  /-- a PAUSE frame sent, with its quanta (R254) -/
  | pause (port quanta : Nat)
  /-- the preamble and the start-of-frame delimiter of a frame on an Ethernet port, after an inter-packet gap of so many octets (R246) -/
  | preamble (port gap : Nat)
  /-- a frame or packet delivered to a host context: descriptor words and octets (R258) -/
  | hostRx (ctx : Nat) (desc : List Nat) (octets : List Byte)
  /-- a message delivered to an engine task or to the host, header words and payload (R354) -/
  | message (engine task hdr tag : Nat) (payload : List Word)
  /-- the status of the three taps answered to a partner's request: 0 not updated, 1 updated, 2 minimum, 3 maximum (R176) -/
  | trainStatus (lane pre main post : Nat)
  /-- a lane begins to send training frames, and whether its receiver asks for tap changes or for holds alone (R176, R200) -/
  | training (lane : Nat) (asks : Bool)
  /-- the base page of a Clause 73 exchange, as `AN_ADV` lays it out, and whether the EEE technology message next page went with it
  in place of a null page (R172) -/
  | anPage (lane base : Nat) (eee : Bool)
  /-- null pages that acknowledge so many of the partner's other next pages (R172) -/
  | nullPages (lane count : Nat)
  /-- the configuration ordered sets of Clause 37: full duplex, PS1 and PS2 (R174) -/
  | config (lane : Nat) (fullDuplex ps1 ps2 : Bool)
  /-- a lane begins to send not-ready frames (R177, R178, R201) -/
  | notReady (lane : Nat)
  /-- the blocks of a frame that a data lane of a trunk carries, in order, each as its octets (R192) -/
  | dealt (trunk lane : Nat) (blocks : List (List Byte))
  /-- the pattern that a port in test mode puts out: 0 scrambled idle, 1 PRBS31, 2 a square wave (R181) -/
  | pattern (lane kind : Nat)
  /-- an epoch marker on a trunk's clock lane (R194) -/
  | marker (trunk m : Nat)
  /-- the result shifted out of the test access port (R434) -/
  | jtag (data : Nat)
  deriving DecidableEq, Repr

/-- A step of the time counter that waits for the next clock alignment epoch (R62). -/
structure StepReq where
  /-- the amount, in units of 2⁻¹⁶ ns -/
  amount : Int
  /-- it is an acquisition of time (R107) -/
  acquire : Bool
  /-- it comes from a TIME_STEP, whose remainder is slewed in holdover too (R109) -/
  host : Bool := false
  deriving DecidableEq, Repr

/-- A step already made: the counter just before it, and the whole-64 ns part (R62, R134). -/
structure StepDone where
  before : Nat
  part : Int
  deriving DecidableEq, Repr

/-- One second of the holdover estimate's history (R110). -/
structure HistSec where
  /-- LOCKED throughout -/
  locked : Bool
  /-- the sum over the second of rate word × ns in force -/
  acc : Int
  /-- the ns it covers -/
  dur : Int
  deriving DecidableEq, Repr

/-- A capture of a TDC channel as its five result words (R79). -/
structure Cap where
  w0 : Nat
  w1 : Nat
  w2 : Nat
  w3 : Nat
  w4 : Nat
  deriving DecidableEq, Repr

/-- Values of a calibration image that wait for a channel's gate idle (R380): table, `TDC_LAT`, T_cal and seconds. -/
structure TdcRest where
  table : List Nat
  lat : Nat
  t : Int
  sec : Nat
  deriving DecidableEq, Repr

/-- The state of one TDC channel that no register holds (R69–R79). -/
structure Tdc where
  /-- captures waiting, oldest first -/
  fifo : List Cap := []
  /-- armed for capture (R76) -/
  armed : Bool := false
  /-- the instant of the last capture, in units of 2⁻¹⁶ ns of device time (R78) -/
  last : Option Int := none
  /-- captures have been lost since the last one stored (R78) -/
  lost : Bool := false
  /-- the correction table in force, by index (R72) -/
  lut : Store Nat := []
  /-- a table and TDC_LAT computed and waiting for gate idle, with the T_cal and seconds of their run (R71, R379) -/
  newLut : Option TdcRest := none
  /-- a run is due (R73, R372) -/
  due : Bool := false
  /-- the device time at which the internal arming window ends, if it has an end (R76) -/
  winEnd : Option Nat := none
  /-- the TDC_ARM_AT time has been committed and not yet reached (R76) -/
  armAt : Bool := false
  /-- the sensor value of the last run, in 1/16 °C (R372) -/
  tCal : Int := 0
  /-- the sensor value and the seconds of the run that produced the values in force (R379) -/
  tVal : Int := 0
  secs : Nat := 0
  /-- values of an image that wait for gate idle (R380) -/
  rest : Option TdcRest := none
  deriving DecidableEq, Repr

/-- The state of one candidate slot that no register holds (R97–R101). -/
structure Cand where
  /-- consecutive good seconds of each soak -/
  fGood : Nat := 0
  pGood : Nat := 0
  /-- qualified since power-up -/
  wasQual : Bool := false
  /-- the last evaluation found frequency in window and no phase hit -/
  good : Bool := false
  /-- lost under R99 and no edge seen since -/
  lost : Bool := false
  /-- a change under R101 brought it to SOAKING: no wait-to-restore follows -/
  noWtr : Bool := false
  /-- the edges of the divided signal in the last 16 s, on the cycle count, newest first (R96, R98) -/
  stamps : List Nat := []
  /-- the cycle count at which the slot was enabled or last changed (R99) -/
  since : Nat := 0
  /-- RANK, the soaks, WTR and the limits of the monitors as the last evaluation took them (R101) -/
  rank : Nat := 7
  fSoak : Nat := 10
  pSoak : Nat := 10
  wtr : Nat := 300
  fwin : Nat := 10000
  plim : Nat := 100
  deriving DecidableEq, Repr

/-- The schedule of a pulse or frame output (R116). -/
structure Sched where
  period : Nat := 0
  width : Nat := 0
  m : Nat := 0
  wFirst : Nat := 0
  /-- offset in sixteenths of a ps, on the grid of interpolator steps -/
  ofs : Int := 0
  deriving DecidableEq, Repr

/-- The state of one output that no register holds (R115–R121, R457). -/
structure Outp where
  /-- the schedule that runs until a committed change takes over (R117, R457), with the commit instant in ns -/
  old : Option (Sched × Nat) := none
  /-- the last pulse placed, in sixteenths of a ps of network time, and its width in ns (R457) -/
  last : Option (Int × Nat) := none
  /-- input edges gathered for an average, newest first, ps (R118) -/
  edges : List Int := []
  /-- the predicted next input edge and the measured period, ps (R118) -/
  pred : Option (Int × Int) := none
  /-- the instant at which the average completed, ns (R118) -/
  avgAt : Nat := 0
  /-- edges ignored in a row (R119) -/
  misses : Nat := 0
  /-- CFG_REJECT was raised for the configuration in force (R118) -/
  rejected : Bool := false
  /-- an aligned pulse has been placed since the average (R118) -/
  placed : Bool := false
  /-- averaging afresh after three outliers (R119) -/
  afresh : Bool := false
  /-- the last instant reached, placed or not, in sixteenths of a ps of network time, and the device time in ns then (R116) -/
  seen : Option (Int × Nat) := none
  /-- a pulse or edge has been placed since the output was last quiet (R120) -/
  started : Bool := false
  /-- nothing starts before this instant, in sixteenths of a ps of device time: the pulse in progress at a change of mode (R457) -/
  hold : Int := 0
  /-- the last rising edge of a clock output's divider, in units of 2⁻²⁴ VCO periods of device time, and the interpolator steps
  by which its phase is shifted (R115) -/
  clk : Option Int := none
  step : Int := 0
  /-- by how much a re-phasing stretches the cycle in progress, and one that waits for the divider's next edge (R92) -/
  bent : Int := 0
  shift : Option Int := none
  deriving DecidableEq, Repr

/-- The domain tracker of a PTP instance (R140–R143). -/
structure Trk where
  /-- DOM_OFS, in units of 2⁻⁴⁸ ns -/
  ofs : Int := 0
  /-- DOM_RATE, in units of 2⁻⁴⁸ -/
  rate : Int := 0
  /-- a sample has been loaded since the mode became track, or since CLEAR -/
  loaded : Bool := false
  /-- CLEAR waits for the next clock alignment epoch -/
  clear : Bool := false
  /-- the counter instant at which the last sample was accepted, ns -/
  lastAt : Option Nat := none
  /-- consecutive good seconds of the soak, and seconds of wait-to-restore left (R143) -/
  good : Nat := 0
  wtr : Nat := 0
  wasQual : Bool := false
  deriving DecidableEq, Repr

/-- The state of one TCU that no register holds (R59–R66, R88–R92, R106–R112). -/
structure Tcu where
  /-- the time counter, in ns since the start of the PTP epoch: seconds × 10⁹ + nanoseconds (R59) -/
  now : Nat := 0
  /-- the 48-bit cycle count (R60) -/
  cyc : Nat := 0
  /-- the TCU clock runs (R88) -/
  clk : Bool := false
  /-- start-up has ended and the TCU is ready (R88) -/
  ready : Bool := false
  /-- the device time at which the loop locked in start-up, until the TDC lines lock 50 µs later (R88) -/
  lockAt : Option Nat := none
  /-- the device time at which the code-density runs of the start-up end (R88) -/
  runsTo : Option Nat := none
  /-- `CAL_CTL.RESTORE_OPEN` holds those runs back (R380) -/
  runsHeld : Bool := false
  /-- the clock alignment epoch at which `TCU_ALIGN_ERR` was last written (R149) -/
  alignAt : Option Nat := none
  /-- the last edge of the selected reference at the ball, in units of 2⁻¹⁶ ns of device time (R92, R96) -/
  refAt : Option Int := none
  /-- it holds acquired time (R107) -/
  acquired : Bool := false
  /-- the oscillator was lost since it acquired time (R17) -/
  reacquire : Bool := false
  /-- the servo's integrator: the held rate word (R106, R109) -/
  integ : Int := 0
  /-- the integrator is frozen until lock on a new reference (R105) -/
  frozen : Bool := false
  /-- the phase taken as the zero of the loop at selection, ps (R106) -/
  zero : Int := 0
  /-- the first evaluation after a selection has not been made (R106) -/
  first : Bool := true
  /-- LOCKED since power-up (R109) -/
  wasLocked : Bool := false
  /-- a step that waits for the next epoch (R62) -/
  step : Option StepReq := none
  /-- the remainder of steps still to be slewed, in units of 2⁻⁴⁸ ns, and the part of the rate word that slews (R62, R106) -/
  rem : Int := 0
  slew : Int := 0
  /-- SLEW_DONE is owed for it (R62) -/
  slewing : Bool := false
  /-- it is the remainder of a TIME_STEP (R109) -/
  hostRem : Bool := false
  /-- the device time since which the phase error has been within `REFSEL_LOCK.THR` (R106) -/
  within : Option Nat := none
  /-- the last four steps, newest first (R134) -/
  steps : List StepDone := []
  /-- the step count, modulo 256 (R127) -/
  stepCnt : Nat := 0
  /-- the restart epoch of SYNC_IN, in ns, and the outputs to restart (R90) -/
  syncE : Option (Nat × Nat) := none
  /-- the rate words of the running second: sum of rate × ns, and the instant of the last change, ns (R110) -/
  rateAcc : Int := 0
  rateAt : Nat := 0
  /-- LOCKED throughout the running second so far -/
  secLocked : Bool := false
  /-- the counted history, newest first (R110) -/
  hist : List HistSec := []
  /-- the holdover estimate in force (R109, R110) -/
  est : Int := 0
  /-- Σ |T_i − T_entry|, in 1/16 °C s (R111) -/
  tSum : Nat := 0
  /-- the drift guard's Δφ at the end of each second, newest first, in rate × ns (R105) -/
  dphi : List Int := []
  /-- consecutive seconds of disagreement by pair 16·i + j, i < j (R104) -/
  dis : Store Nat := []
  /-- the pairs whose unresolved disagreement has been reported (R104) -/
  disSeen : List Nat := []
  /-- the candidate slots by number -/
  cands : Store Cand := []
  /-- the TDC channels by number -/
  tdcs : Store Tdc := []
  /-- the domain trackers of PTP0 and PTP1 (R140) -/
  trks : Store Trk := []
  /-- the outputs by number -/
  outs : Store Outp := []
  /-- resynchronisation attempts made since it entered SYNCING (R148) -/
  tries : Nat := 0
  /-- it lost a judgement and waits for check words of the token's holder (R164) -/
  waitMirror : Bool := false
  /-- lockstep mismatches in the running hoop (R159) -/
  lsHoop : Nat := 0
  /-- the cause of its last failure has been gone for 100 ms (R148) -/
  causeGone : Bool := false
  /-- the junction temperature of its last PLL calibration run, 1/16 °C (R86) -/
  tPll : Int := 0
  /-- the seconds of that run (R379) -/
  pllSecs : Nat := 0
  /-- values of an image for the synthesizer: band, VTUNE, T_cal and seconds (R380, R381) -/
  pllRest : Option (Nat × Nat × Int × Nat) := none
  /-- the SYN_CTL.REF_PATH that the calibration run in progress brings in (R85) -/
  newPath : Option Nat := none
  /-- a synthesizer run has fallen due (R372) -/
  pllDue : Bool := false
  /-- the seconds of the next second boundary have been given by the host (R108) -/
  todSet : Bool := false
  /-- ACQ_NO_TOD has been raised for the acquisition that waits (R108) -/
  noTod : Bool := false
  /-- the start of the running second, ns, for the estimate's history (R110) -/
  secAt : Nat := 0
  /-- the selected PTP instance, if one steers the counter in place of a candidate slot (R143, R144) -/
  ptpSel : Option Nat := none
  deriving DecidableEq, Repr

/-- The firmware banks of a TCU: the version and the mirror format of the image in the bank in use and of the one in the other bank, and
which bank is in use (R162). -/
structure Firm where
  ver : Nat := 0
  fmt : Nat := 0
  other : Nat × Nat := (0, 0)
  bank : Nat := 0
  deriving DecidableEq, Repr

/-- A message in a mailbox (R354): its source, type, tag, payload length in octets and payload words. -/
structure Msg where
  src : Nat
  typ : Nat
  tag : Nat
  len : Nat
  payload : List Word
  deriving DecidableEq, Repr

/-- The state of one engine that no register holds (R346–R360). -/
structure Engine where
  /-- the code and data octets loaded (R348) -/
  code : List Byte := []
  data : List Byte := []
  /-- the image was loaded by TASK_LOAD (R24) -/
  byHost : Bool := false
  /-- the inbound mailbox of each task, oldest first -/
  inbox : Store (List Msg) := []
  /-- the tasks whose inbound mailbox is open, as a mask (R351, R352) -/
  opened : Nat := 0
  /-- the outbound queue, oldest first, each with its task (R355) -/
  outq : List (Nat × Msg) := []
  /-- payload words of the head outbound message already read -/
  outIdx : Nat := 0
  /-- payload words staged by MBX_DATA, oldest first (R355) -/
  staged : List Word := []
  /-- the task that ran last (R353) -/
  last : Nat := 15
  /-- the tasks that wait on a timer, as a mask (R351) -/
  timers : Nat := 0
  deriving DecidableEq, Repr


/-- What the receive side noted of a PTP message (R124–R130, R133). -/
structure PtpIn where
  /-- the instance it belongs to where it arrived, if any -/
  inst : Option Nat
  /-- t_in, in units of 2⁻¹⁶ ns -/
  at_ : Int
  /-- the step count with it -/
  steps : Nat
  /-- a correction or a stored residence is due at its departure -/
  correct : Bool
  /-- a stored residence is added to it where it leaves (R135) -/
  stored : Bool
  /-- the link delay to be added, in units of 2⁻¹⁶ ns -/
  link : Nat
  deriving DecidableEq, Repr

/-- How a copy's outer tag leaves (R268). -/
inductive TagEdit where
  /-- as received -/
  | keep
  /-- removed -/
  | strip
  /-- set to a TCI; the TPID of a tag already there stays -/
  | set (tci : Nat)
  deriving DecidableEq, Repr

/-- The edits of one copy (R268, R284). -/
structure Edit where
  tag : TagEdit := .keep
  /-- the destination address of a routed copy, whose source address is the egress port's -/
  route : Option Nat := none
  deriving DecidableEq, Repr

/-- One copy of a frame in a queue (R299, R306). -/
structure Copy where
  frame : Nat
  leaf : Nat
  edit : Edit := {}
  /-- its record was in use when the last Whey walk began (R311) -/
  old : Bool := false
  deriving DecidableEq, Repr

/-- A copy to an engine (R356). -/
structure EngTrap where
  engine : Nat
  reason : Nat
  rec_ : List Byte
  deriving DecidableEq, Repr

/-- A frame inside the device (R297–R303). -/
structure Frame where
  /-- its ingress port, a trunk's being that of its lane +0; of a host frame the PORT of its descriptor -/
  port : Nat
  /-- 0 from the line, 1 from a host context or an engine -/
  host : Bool := false
  /-- the charge's owner: a port 0–47, or 63 the system reserve (R299) -/
  owner : Nat
  octets : List Byte := []
  /-- octets stored in its cells -/
  stored : Nat := 0
  /-- its cells, head first -/
  cells : List Nat := []
  copies : Nat := 0
  complete : Bool := false
  bad : Bool := false
  refused : Bool := false
  /-- the logical bank and the first octet of an uncorrectable word of its cells that a copy of it has met (R309) -/
  hurt : Option (Nat × Nat) := none
  /-- its first cell was refused: it has no record in the Vat -/
  dropped : Bool := false
  /-- it ran past its limit (R245) -/
  tooLong : Bool := false
  /-- its reception ended before its FCS: it was cut short or ran past its limit (R245, R248) -/
  noFcs : Bool := false
  /-- its decision is made, or none is due -/
  decided : Bool := false
  /-- the pipeline that looked it up -/
  pipe : Option Nat := none
  /-- the receive PCS time of its start, network time in units of 2⁻¹⁶ ns (R31) -/
  tpcs : Int := 0
  /-- the receive timestamp taken at its start, in units of 2⁻¹⁶ ns, with the step count then and whether time was invalid (R126–R128) -/
  stamp : Int := 0
  steps : Nat := 0
  invalid : Bool := false
  /-- its PTP message has been classified where it arrived (R124) -/
  seen : Bool := false
  ptp : Option PtpIn := none
  /-- the instances that have it by a trap where it leaves (R130) -/
  caught : List Nat := []
  /-- the instance that originates this event message, and the receive record put ahead of it (R131, R132) -/
  origin : Option (Nat × List Byte) := none
  /-- who submitted a host frame, a context or an engine by 16 more, and the number of the submission (R257, R262) -/
  src : Nat := 0
  seq : Nat := 0
  /-- the leaf of a frame submitted with DIRECT (R257) -/
  direct : Option Nat := none
  /-- a copy of it was not made, for it is too long for the egress port (R257) -/
  tooBig : Bool := false
  /-- its start was at octet 4 (R125) -/
  start4 : Bool := false
  /-- it came by a trunk, at whose lanes none is timestamped (R210) -/
  untimed : Bool := false
  engTraps : List EngTrap := []
  deriving DecidableEq, Repr

/-- A virtual output queue (R306): its copies, oldest first, and its OPEN flag. -/
structure Voq where
  copies : List Copy := []
  opened : Bool := true
  deriving DecidableEq, Repr

/-- What an egress port is sending (R321). -/
inductive TxKind where
  | idle
  /-- a PAUSE with its quanta -/
  | pause (quanta : Nat)
  /-- an outbound gateway frame of a template -/
  | gateway (template : Nat)
  /-- an in-band frame of a context, with its payload (R45) -/
  | inband (payload : List Byte)
  /-- the copy at the head of a VOQ -/
  | copy (voq : Nat) (c : Copy)
  deriving DecidableEq, Repr

/-- The frame in transmission at an egress port. -/
structure Tx where
  kind : TxKind := .idle
  /-- the octets of a PAUSE, gateway or in-band frame, without FCS -/
  octets : List Byte := []
  /-- it ends with a stomped FCS (R248, R239) -/
  stomp : Bool := false
  /-- its copy has left the Vat (R300) -/
  left : Bool := false
  /-- the octets that end it, where reception or reading ended early (R248, R303, R309) -/
  cutAt : Option Nat := none
  /-- the nodes charged: node number, whether from K, and the amount in octets (R328) -/
  charges : List (Nat × Bool × Nat) := []
  /-- it started while still arriving (R328) -/
  early : Bool := false
  /-- the queue whose head its copy was has been lost and rewritten as empty (R310) -/
  orphan : Bool := false
  /-- the device time at which it started, in units of 10 ps (R325) -/
  since : Nat := 0
  /-- the pipeline that looked its frame up (R290) -/
  pipe : Option Nat := none
  /-- octets changed on the fly: offset and octets (R131) -/
  patch : List (Nat × List Byte) := []
  /-- the two compensation octets of a UDP/IPv6 message: their offset and what is added to them, modulo 65,535 (R136) -/
  comp : Option (Nat × Nat) := none
  deriving DecidableEq, Repr

/-- The state of a port's MAC that no register holds (R251–R254). -/
structure Mac where
  /-- the quanta of a PAUSE that is due (R254) -/
  due : Option Nat := none
  /-- the 48-bit octet counters (R255) -/
  rxOct : Nat := 0
  txOct : Nat := 0
  /-- the PAUSE timer runs until this device time, in units of 10 ps (R252) -/
  pausedUntil : Nat := 0
  /-- the device time in units of 10 ps at which the last PAUSE was sent (R254) -/
  pauseSent : Nat := 0
  /-- the instant in device ns since which no frame has been sent or waited (R185) -/
  quietAt : Nat := 0
  /-- the length of the last frame sent, DA to FCS, and the device time in units of 10 ps from which the next may start (R246, R325) -/
  lastLen : Nat := 0
  clearAt : Nat := 0
  /-- the head copy, by its VOQ, that the scheduler has granted while the frame before it is in transmission (R325) -/
  pick : Option (Nat × Copy) := none
  /-- the deficit idle count: by how many octets the gaps so far fall short of an average of 12, at most 3 (R246) -/
  deficit : Nat := 0
  deriving DecidableEq, Repr

/-- A residence stored for a follow-up (R135). -/
structure Fu where
  domain : Nat
  source : Nat
  seq : Nat
  amount : Int
  inst : Nat
  /-- the instant in device ns at which it expires -/
  expires : Nat
  deriving DecidableEq, Repr

/-- A Whey walk in progress (R311): the cells of its audit map, and whether it reclaims. -/
structure Walk where
  cells : List Nat
  frames : List Nat
  /-- the copy records in use at its start that were lost before it followed them (R310, R311) -/
  lost : Nat
  reclaim : Bool
  /-- a walk of the device's own period -/
  periodic : Bool
  deriving DecidableEq, Repr

/-- A TABLE_FENCE that waits: its command and the frames inside at acceptance that are still there (R290). -/
structure Fence where
  ctx : Nat
  count : Nat
  frames : List Nat
  deriving DecidableEq, Repr


/-- A sweep in progress (R340): its instant in ns, the watch entries still to be read, and the core cycle of the next. -/
structure Sweep where
  instant : Nat
  todo : List Nat
  next : Nat
  deriving DecidableEq, Repr

/-- A scheduling node's configuration (R343): rates in kbit/s, bursts and quantum in octets. -/
structure NodeCfg where
  cir : Nat := 0
  cburst : Nat := 0
  pir : Nat := 0
  pburst : Nat := 0
  en : Bool := false
  full : Bool := false
  prio : Nat := 0
  rigid : Bool := false
  quantum : Nat := 1538
  deriving DecidableEq, Repr

/-- A scheduling node (R320–R329). K and P are kept in units of 1/9,000,000 octet, the octets that 1 kbit/s brings in a
core cycle. -/
structure Node where
  cfg : NodeCfg := {}
  k : Int := 0
  p : Int := 0
  /-- the core cycle up to which K and P are reckoned -/
  at_ : Nat := 0
  backlog : Bool := false
  /-- the core cycle in which the guards of its gates end that backlog, if nothing else changes it (R322, R334) -/
  till : Option Nat := none
  /-- the deficit counter, octets (R324) -/
  deficit : Int := 0
  /-- the child whose turn it is, or the ingress port served last in a leaf, plus 1; 0 none yet (R323, R324) -/
  turn : Nat := 0
  deriving DecidableEq, Repr

/-- A gate list (R333): the states and interval of its entries, its length, its cycle in ns or in hoops. -/
structure GateList where
  entries : Store (Nat × Nat) := []
  len : Nat := 0
  cycle : Nat := 0
  hoop : Bool := false
  deriving DecidableEq, Repr

/-- An install in flight: the start instant S in ns and N (R336). -/
structure Install where
  start : Nat
  n : Nat
  deriving DecidableEq, Repr

/-- The gates of a port (R333–R338). -/
structure Gate where
  active : GateList := {}
  pend : GateList := {}
  /-- a list has become active -/
  valid : Bool := false
  /-- S of the active list, ns -/
  start : Nat := 0
  inst : Option Install := none
  /-- the entry held at a change of hoop, and the cycle start that ends the hold (R337) -/
  hold : Option (Nat × Nat) := none
  deriving DecidableEq, Repr

/-- An outbound gateway frame that waits for its port (R239): its template and service, its octets without FCS, whether
it is stomped, and its release instant in ns. -/
structure GwFrame where
  template : Nat
  svc : Nat
  octets : List Byte
  stomp : Bool
  due : Nat
  deriving DecidableEq, Repr


/-- What a request in a learn queue asks for (R273, R276, R280, R288). -/
inductive ReqKind where
  /-- a learn, or the other pipeline's copy of one -/
  | learn (addr vid : Nat) (copy : Bool)
  /-- a window operation on the MAC/VLAN table: its bit in TBL_CMD, index and entry words -/
  | window (op index : Nat) (words : List Nat)
  /-- a flush: the command's context and count, and the port and VID named, 0xFFFF for any -/
  | flush (ctx count port vid : Nat)
  deriving DecidableEq, Repr

/-- A request in a learn queue: its decision cycle, its place among requests of one cycle (the ingress port of a learn),
and what it asks for (R275, R276). -/
structure Req where
  cycle : Nat
  port : Nat
  kind : ReqKind
  deriving DecidableEq, Repr

/-- A window operation in progress (R288): its bit in TBL_CMD, table, index, words, and whether it waits in the learn queue. -/
structure WinOp where
  op : Nat
  table : Nat
  index : Nat
  words : List Nat
  queued : Bool
  deriving DecidableEq, Repr

/-- A slot of the shadow memory (R285–R287). -/
structure Shadow where
  pipe : Nat
  table : Nat
  index : Nat
  words : List Nat
  deriving DecidableEq, Repr



/-- Values of a calibration image for a lane: the residuals of its two slicer sets and of its transmitter, T_cal and
seconds (R380). -/
structure LaneRest where
  set0 : Option (Int × Int × Nat) := none
  set1 : Option (Int × Int × Nat) := none
  tx : Option (Int × Int × Nat) := none
  t : Int := 0
  deriving DecidableEq, Repr

/-- The state of a lane that no register holds (R168–R190, R371, R386). -/
structure Lane where
  /-- AN mode: entered by PORT_ENABLE in mode 0x0 (R177) -/
  an : Bool := false
  /-- consecutive failed attempts (R178) -/
  fails : Nat := 0
  /-- the device ns at which its back-off period ends (R178) -/
  till : Nat := 0
  /-- A9 and A10 are withdrawn, and the abilities and FEC bits of the partner's page that caused it (R173) -/
  withdrawn : Option Nat := none
  /-- the base page sent, as `AN_ADV` lays it out (R172, R173) -/
  adv : Nat := 0
  /-- Clause 37 is complete or bypassed (R174) -/
  c37 : Bool := false
  /-- EEE was advertised in the exchange of pages (R172, R184) -/
  eeeAdv : Bool := false
  /-- the transmitter is unsquelched -/
  on : Bool := false
  /-- the polarity in force, taken at enable: transmit and receive (R168) -/
  invTx : Bool := false
  invRx : Bool := false
  /-- the calibrated residuals of slicer sets 0 and 1 and of the transmitter, in units of 2⁻¹⁶ ns (R188) -/
  lat0 : Int := 0
  lat1 : Int := 0
  latTx : Int := 0
  /-- failed runs in a row of each set (R376) -/
  bad0 : Nat := 0
  bad1 : Nat := 0
  /-- the retired sets, as a mask (R385, R386) -/
  retired : Nat := 0
  /-- the lane run: 0 none, 1 the set out of service is calibrated, 2 its swap is due, 3 the set released is calibrated,
  4 the transmit latency alone (R371), 5 the swap of restored values is due (R380) -/
  run : Nat := 0
  /-- the transmit latency that the run measured -/
  newTx : Int := 0
  /-- the set out of service was borrowed and is to be recalibrated before it is swapped in (R182) -/
  borrowed : Bool := false
  /-- the instant in device ns at which the dwell of its measurement ends (R182) -/
  eyeTo : Nat := 0
  /-- that recalibration is in progress -/
  recal : Bool := false
  /-- a run is due (R372), and what of the lane it calibrates where an image held the rest: 0 all, 1 the slicer sets, 2 the transmit
  latency (R381) -/
  due : Bool := false
  only : Nat := 0
  /-- the residuals of the sets as they stood before the run in progress (R378) -/
  was : Option (Int × Int) := none
  /-- values of an image that wait (R380) -/
  rest : Option LaneRest := none
  /-- the set in service is to be retired at the next swap (R385) -/
  retiring : Bool := false
  /-- the sensor value of the last run (R372) -/
  tCal : Int := 0
  /-- the sensor value and the seconds of the runs that produced the residuals of sets 0 and 1 and of the transmitter (R379) -/
  at0 : Int × Nat := (0, 0)
  at1 : Int × Nat := (0, 0)
  atTx : Int × Nat := (0, 0)
  deriving DecidableEq, Repr

/-- The fields of a Hello block (R198). -/
structure Hello where
  genMax : Nat
  genSel : Nat
  feat : Nat
  node : Nat
  trunk : Nat
  lane : Nat
  ack : Bool
  deriving DecidableEq, Repr

/-- The state of a trunk that no register holds (R190–R221). Times are in units of 1/54,067,200 ns, in which a UI, a tone
period, 2⁻¹⁶ ns and 2⁻¹⁰ ns are whole numbers. -/
structure Trunk where
  /-- FALLBACK and GEN_MAX as taken at TRUNK_ENABLE (R222) -/
  fallback : Bool := false
  genMax : Nat := 3
  /-- consecutive failed attempts, and the device ns at which the back-off period ends (R178) -/
  fails : Nat := 0
  till : Nat := 0
  /-- the data lane, less the trunk's first, on which the next block of a frame goes (R192) -/
  turn : Nat := 0
  /-- GEN_SEL and FEAT sent (R203) -/
  sel : Nat := 0
  feat : Nat := 0
  /-- the data lanes on which a valid Hello came, as a mask, and the matching Hellos in a row on each -/
  got : Nat := 0
  run0 : Nat := 0
  run1 : Nat := 0
  run2 : Nat := 0
  /-- the Hello agreed (R203) -/
  agreed : Option Hello := none
  /-- the last agreement: partner, generation, and A in units of 2⁻¹⁶ ns where it ended with a valid estimate (R215, R219) -/
  last : Option (Nat × Nat × Option Int) := none
  /-- a Time block has come in this attempt (R198) -/
  known : Bool := false
  /-- C and m of the partner's last marker -/
  cyc : Nat := 0
  mark : Nat := 0
  /-- the partner's TX0_RES and CLK_RES, in units of 2⁻¹⁰ ns -/
  tx0 : Int := 0
  clk : Int := 0
  /-- the arrival of the last Marker block at lane +0's connector, with its number C × 825 + m -/
  t0 : Option (Nat × Int) := none
  /-- own one-way figures by marker number, newest first (R206) -/
  us : List (Nat × Int) := []
  /-- Echoes due: m and U (R206) -/
  echoes : List (Nat × Int) := []
  /-- round trips, newest first (R207) -/
  rtts : List Int := []
  /-- the number C × 825 + m of the last marker sent (R194) -/
  sent : Option Nat := none
  /-- the number of the last Marker block of each data lane, plus 1, and its last delays, newest first (R232, R235) -/
  marks : Store Nat := []
  dly : Store (List Int) := []
  /-- the last block position taken by a Hello, Echo or Time block on each data lane (R225) -/
  used : Store Nat := []
  /-- the delay of each data lane at which its elastic buffer stands at centre fill, and MEDIUM as taken at TRUNK_ENABLE (R217, R222) -/
  ebRef : Store (Option Int) := []
  medium : Bool := false
  deriving DecidableEq, Repr

/-- What one TCU measured of a trunk (R207–R213, R219), in the units of `Trunk`. -/
structure NtTime where
  /-- arrivals of the tone edges captured in the running marker interval -/
  tones : List Int := []
  /-- m and arrival of the epoch marker that waits for its Marker block -/
  t3 : Option (Nat × Int) := none
  /-- the values of δ, newest first -/
  deltas : List Int := []
  /-- the first collection has been judged (R213) -/
  judged : Bool := false
  valid : Bool := false
  /-- the δ̄ and RTT kept over a loss, and whether they serve as the estimate (R219) -/
  kept : Option (Int × Int) := none
  resumed : Bool := false
  /-- θ: this TCU's counter minus the partner's network time -/
  theta : Option Int := none
  d3 : Int := 0
  deriving DecidableEq, Repr


/-- A hoop configuration as a receiver uses it: H in ns, and the partner's offset of each trunk in block periods (R226, R232). -/
structure HoopCfg where
  h : Nat
  peer : List Nat
  deriving DecidableEq, Repr

/-- How a cadence source position was received (R232, R233). -/
inductive CadKind where
  | good | poison | crcBad
  deriving DecidableEq, Repr

/-- A source position of one ingress hoop: what was received for it, with its payload and its instant at the receive PCS in
the units of `Trunk`, and what has been counted against it (R232, R233). -/
structure CadSrc where
  tbl : Nat
  idx : Nat
  hoop : Nat
  blk : Option (CadKind × Nat × Int) := none
  missed : Bool := false
  late : Bool := false
  deriving DecidableEq, Repr


/-- A swap record of the Cave (R384, R388). -/
structure SwapRec where
  number : Nat := 0
  /-- 0 empty, 1 AWAITING, 2 QUEUED, 3 COPYING, 4 DONE, 5 CANCELLED -/
  state : Nat := 0
  /-- 0 Vat bank, 1 TDC line, 2 slicer set, 3 engine, 4 table row -/
  kind : Nat := 0
  forced : Bool := false
  page : Nat := 0
  monitor : Nat := 0
  slice : Nat := 0
  spare : Nat := 0
  /-- the seconds when the slice fell due -/
  t : Nat := 0
  /-- the ns of the block's time at which it was taken up -/
  since : Nat := 0
  deriving DecidableEq, Repr

/-- A slice that fell due while all the record slots were taken (R384): page, slice, monitor, whether it failed, seconds. -/
structure SwapWait where
  page : Nat
  slice : Nat
  monitor : Nat
  failing : Bool
  t : Nat
  deriving DecidableEq, Repr

/-- A performance counter: its count and the staged high part (R361, R363). -/
structure Perf where
  count : Nat := 0
  staged : Nat := 0
  /-- the occurrences and bursts of its event that it has taken into account (R361) -/
  seen : Nat × Nat := (0, 0)
  deriving DecidableEq, Repr

/-- The state of the KL4896: every register, buffer, table, counter and mode the spec gives it, as plain data.
Log 14 (DESIGN CHOICE; unsafe). -/
structure State where
  /-- the commands that wait, first in, first out. Log 83 (DESIGN CHOICE; unsafe). -/
  pending : List Instr := []
  /-- every register field, by bit address (`Fld.key`); an unlisted field holds its reset value (R8, R12).
  Log 1 (DESIGN CHOICE; safe). -/
  regs : Store Nat := []
  /-- the values written to double-buffered fields and not yet committed, by bit address (R40).
  Log 3 (DEDUCED; unsafe). -/
  shadow : Store Nat := []
  /-- the instant fixed at arming of a commit at a named second, in seconds, by page (R41) -/
  commitSec : Store Nat := []
  /-- how many free values the model has taken so far: the model's own field, no part of the device.
  Log 10 (DESIGN CHOICE; safe). -/
  free : Nat := 0
  /-- everything put out so far, newest first -/
  out : List Out := []
  /-- the host contexts by number -/
  hosts : Store HostCtx := []
  /-- the commands in flight, oldest first (R52) -/
  cmds : List Cmd := []
  /-- the pages that passed from a context while it had descriptors submitted and not fetched: context, page, and how many of
  those descriptors are still to come (R39) -/
  grants : List (Nat × Nat × Nat) := []
  /-- the command ring slots by context × 4096 + slot (R51) -/
  slots : Store Slot := []
  /-- the clock phase (R15) -/
  phase : Phase := .reset
  /-- the straps latched at the last release (R401) -/
  straps : Straps := {}
  /-- the TCUs: 0 is A, 1 is B -/
  tcus : Store Tcu := []
  /-- the firmware banks of the TCUs (R162) -/
  fw : Store Firm := []
  /-- the levels of GATE0–GATE7 (R76) -/
  gatePins : Nat := 0
  /-- the pages whose runs CAL_RUN put at the head of their queue, first in front (R375) -/
  calHead : List Nat := []
  /-- the page of the calibration runs in progress, oldest first (R374) -/
  calRunning : List Nat := []
  /-- the moves of the token whose switch epoch has not come, oldest first: old holder if there was one, new holder and cause (R155) -/
  switch : List (Option Nat × Nat × Nat) := []
  /-- the revert hold-off timer of R160 runs -/
  reverting : Bool := false
  /-- the instant in device ns at which it expires -/
  revertAt : Nat := 0
  /-- a time judgement of R165 is in progress -/
  judging : Bool := false
  /-- ns of device time gone by in the model; core cycles are 9/8 of them (R14): the model's own field.
  Log 84 (DESIGN CHOICE; unsafe). -/
  up : Nat := 0
  /-- the engines E0–E7 by number -/
  engines : Store Engine := []
  /-- the shared memory of the engine cluster, by word address (R346) -/
  shmem : Store Word := []
  /-- the frames inside the device, by frame record (R299) -/
  frames : Store Frame := []
  /-- the cells in use, by pointer, each with the owner charged; 64 is free (R298, R299) -/
  cells : Store Nat := []
  /-- the bank at which the allocator of each pool looks first (R298) -/
  nextS : Nat := 0
  nextL : Nat := 0
  /-- the virtual output queues by number (R306) -/
  voqs : Store Voq := []
  /-- what each egress port is sending -/
  txs : Store Tx := []
  /-- the MACs by port -/
  macs : Store Mac := []
  /-- ports under pressure by their own charge, and by the shared pool, as masks (R305) -/
  pressOwn : Nat := 0
  pressShared : Nat := 0
  /-- stored residences by egress port, oldest first (R135) -/
  fus : Store (List Fu) := []
  /-- the transmit timestamp FIFOs by PTP instance, oldest first: records of four words (R129) -/
  txts : Store (List (List Nat)) := []
  /-- the Whey walk in progress (R311) -/
  walk : Option Walk := none
  /-- the instant in device ns at which the next periodic walk falls due (R313) -/
  wheyDue : Nat := 0
  /-- the submissions of host frames so far (R257) -/
  subs : Nat := 0
  /-- copy records that no queue holds any more (R310) -/
  lostCopies : Nat := 0
  /-- the fences that wait (R290) -/
  fences : List Fence := []
  /-- the scheduling nodes by number (R320) -/
  nodes : Store Node := []
  /-- the device time until which the shaper window is busy (R343) -/
  shpUntil : Nat := 0
  /-- shaper writes held for the commit of the SHAPE page, oldest first (R329) -/
  heldShapes : List (Nat × NodeCfg) := []
  /-- the gates by port, as the GATE page holds them, and the copy of them from which each TCU's gate sequencer times, by
  48 × TCU + port (R151, R333) -/
  gates : Store Gate := []
  gateCopy : Store Gate := []
  /-- gateway frames released and waiting, by port (R239, R321) -/
  gwq : Store (List GwFrame) := []
  /-- the sampler's watch entries, as SMP_WATCH words (R345) -/
  watch : Store Nat := []
  /-- the sample ring, oldest first: records of four words (R340) -/
  samples : List (List Nat) := []
  /-- sweeps started, sweeps skipped since the last header, the device time of the last sweep instant, the core cycle at which that sweep
  ends, and what of it is still to be written (R340) -/
  smpSeq : Nat := 0
  smpSkipped : Nat := 0
  smpAt : Option Nat := none
  smpUntil : Nat := 0
  smpRun : Option Sweep := none
  /-- the forwarding tables: entry words by (pipeline × 8 + table) × 2¹⁷ + index (R270–R283) -/
  tabs : Store (List Nat) := []
  /-- the learn queues by pipeline, and the copies on their way to each (R275, R276) -/
  learnq : Store (List Req) := []
  crossing : Store (List Req) := []
  /-- the core cycle of each learn queue's last commit (R276) -/
  learnAt : Store Nat := []
  /-- the last move of a key by pipeline: key, decision cycle and the ports before and after it (R277) -/
  moves : Store (List (Nat × Nat × Nat × Nat)) := []
  /-- the core cycle in which source lookups last set HIT, and the table entries they set it in (R278) -/
  hits : Nat × List Nat := (0, [])
  /-- window operations in progress by page (R288) -/
  winOps : Store (Option WinOp) := []
  /-- the shadow slots in use by number, the slot compared next, and those to be compared ahead of the walk, oldest first (R286) -/
  shadows : Store Shadow := []
  slotNext : Nat := 0
  slotFirst : List Nat := []
  /-- the lanes by number -/
  lanes : Store Lane := []
  /-- the trunks by number, and what each TCU measures of them by 12 × TCU + trunk -/
  trunks : Store Trunk := []
  ntTimes : Store NtTime := []
  /-- the cadence tables of each TCU by (13 × TCU + table) × 8192 + index: versions of an entry's four words, newest first, each
  with the first ingress hoop it applies to (R154, R229, R230) -/
  cadTab : Store (List (Nat × List Nat)) := []
  /-- the source positions of recent hoops, newest first (R233) -/
  cadSrc : List CadSrc := []
  /-- the first hoop of the hoop configuration in force, and the configuration of the hoops before it (R226, R241) -/
  cadFrom : Nat := 0
  cadOld : Option HoopCfg := none
  /-- the reservations of a trunk that have ended, newest first: the instant in ns at which each ended, and its R_c (R232) -/
  cadRcs : Store (List (Nat × Nat)) := []
  /-- the error counts of a source by (13 × TCU + table) × 8192 + index: CRC, MISSING, LATE, POISON_IN (R233, R242) -/
  cadErr : Store (List Nat) := []
  /-- the gateway templates of each TCU by 512 × TCU + template: eight words (R154, R238) -/
  gwTpl : Store (List Nat) := []
  /-- the last inbound frame in a window of a template: its hoop, and whether it was accepted (R240) -/
  gwWin : Store (Option (Nat × Bool)) := []
  /-- the counts of a template by 512 × TCU + template: OK, LATE, STOMP, MISSING, BAD (R243) -/
  gwCnt : Store (List Nat) := []
  /-- the wear indices by page × 2²⁴ + slice × 16 + monitor (R383) -/
  wear : Store Nat := []
  /-- the swap record slots, the next swap number, and the slices that wait for a slot (R384) -/
  swaps : Store SwapRec := []
  swapNext : Nat := 0
  /-- the record that `CAVE_SWAP_D1` and `CAVE_SWAP_T` show with the word D0 last read (R388) -/
  caveRead : SwapRec := {}
  swapWait : List SwapWait := []
  /-- the table rows, and worn spare rows, that a spare row replaces, by page × 2²⁰ + row, each with its spare's number plus 1 (R385) -/
  rowMap : Store Nat := []
  /-- the staging image of the calibration director, by word, and whether an APPLY has accepted it (R378, R381) -/
  image : Store Nat := []
  applied : Bool := false
  /-- the performance counters by number, and the slot accumulators by 8 × unit + category (R361, R366) -/
  perfs : Store Perf := []
  slotUse : Store Nat := []
  /-- the occurrences and the bursts of the events that the model itself brings about, by 64 × event + unit (R361, R362). Log 123 (DESIGN CHOICE; unsafe). -/
  events : Store (Nat × Nat) := []
  /-- what each unit's slot accumulators have taken into account: by 8 × unit + category an event's occurrences, and by 8 × unit + 7 the device ns
  (R365, R366) -/
  slotSeen : Store Nat := []
  /-- the causes present during the reset in progress, as a mask, and the supply of the last sag (R401) -/
  resetCauses : Nat := 1
  sagSupply : Nat := 0
  /-- PORST_N holds the device in reset (R434) -/
  porstLow : Bool := false
  /-- the device time from which the outputs are driven: 10 µs after the first reset release since power-up (R416, R431) -/
  outsAt : Option Nat := none
  /-- the instruction of the test access port, IDCODE in Test-Logic-Reset, and the boundary-scan register (R434) -/
  tapIr : Nat := 1
  bsr : Nat := 0
  /-- a thermal shutdown keeps the device in reset, and the sensors at 135 °C or more at the last conversion (R396) -/
  thermalHold : Bool := false
  /-- since when T_max has stayed below the threshold that a fall of the thermal level, or the release, waits for (R394, R396) -/
  coolAt : Option Nat := none
  hot : Nat := 0
  /-- the wipe after reset release runs (R403) -/
  wiping : Bool := false
  /-- the domains switched on wait for the first section of the boot image (R408) -/
  startWait : Bool := false
  /-- the domains switched on at the last reset release, as a mask (R397, R410) -/
  onAtReset : Nat := 0
  /-- the device time of the last reset release (R410) -/
  releasedAt : Nat := 0
  /-- OTP: the serial number, the life-cycle state, the customer key hash as eight words where one is held, and the user
  words (R411–R415) -/
  serial : Nat := 0
  lifeCycle : Nat := 0
  keyHash : List Nat := []
  otp : Store Nat := []
  /-- a user word being programmed: address and data (R415) -/
  otpProg : Option (Nat × Nat) := none
  /-- an advance whose OTP programming runs: target and key hash (R411) -/
  lifeProg : Option (Nat × List Nat) := none
  /-- the boot image: the next section, whether its TCU firmware was loaded and the whole of it stands, and a push in
  progress: its length and the octets received (R406–R409) -/
  bootNext : Nat := 0
  bootTcu : Bool := false
  booted : Bool := false
  pushLen : Option Nat := none
  pushed : List Byte := []
  /-- PE_PERST_N is high (R433) -/
  perstHigh : Bool := false
  deriving DecidableEq, Repr

/-- Why a command ends in a fault. No command of this block does: the spec gives every command of the table an effect,
and an event that a state does not list leaves the state unchanged (R12). Log 8 (DEDUCED; unsafe). -/
inductive Fault where
  /-- raised by nothing; safe -/
  | none
  deriving DecidableEq, Repr

/-- Why a command is refused. -/
inductive Refusal where
  /-- the command has no meaning in the model yet; raised by exec's refused arms alone; safe -/
  | notModelled (mnemonic : String)
  deriving DecidableEq, Repr

/-- The machine right after reset: every field at its reset value, no clock running, the queue empty (R8, R12, R15).
Log 14 (DESIGN CHOICE; unsafe). -/
def State.reset : State := {}

end Sys2Proof.Machine
end

