-- ==== Sys2Proof/Machine/Ops.lean ====
section
/-! DEFINITION. The named operations over the state: register fields, sparse records, counters and outputs. -/

namespace Sys2Proof.Machine

open Sys2Proof

/-! ### Register fields -/

/-- The value of element `i` of a field (R8). Log 1 (DESIGN CHOICE; safe). -/
def State.rdI (s : State) (p : Nat) (f : Fld) (i : Nat) : Nat := look (f.reset p i) s.regs (f.key p i) % 2 ^ f.w

/-- The value of a field (R8). -/
def State.rd (s : State) (p : Nat) (f : Fld) : Nat := s.rdI p f 0

/-- The field read as two's complement. -/
def State.rdS (s : State) (p : Nat) (f : Fld) : Int := toInt f.w (s.rd p f)

/-- Whether a one-bit field is 1. -/
def State.flag (s : State) (p : Nat) (f : Fld) : Bool := s.rd p f != 0

/-- The hardware writes element `i` of a field. Log 1 (DESIGN CHOICE; safe). -/
def State.wrI (s : State) (p : Nat) (f : Fld) (i v : Nat) : State :=
  { s with regs := put (f.reset p i) s.regs (f.key p i) (v % 2 ^ f.w) }

/-- The hardware writes a field. -/
def State.wr (s : State) (p : Nat) (f : Fld) (v : Nat) : State := s.wrI p f 0 v

/-- The hardware writes a field with a signed value, wrapped. -/
def State.wrS (s : State) (p : Nat) (f : Fld) (v : Int) : State := s.wr p f (ofInt f.w v)

/-- The hardware writes a field with a signed value, saturated. -/
def State.wrSat (s : State) (p : Nat) (f : Fld) (v : Int) : State := s.wr p f (satInt f.w v)

/-- A saturating counter counts `n` more (R78, R183, R255 and their like). -/
def State.addI (s : State) (p : Nat) (f : Fld) (i n : Nat) : State := s.wrI p f i (satNat f.w (s.rdI p f i + n))

/-- A saturating counter counts one more. -/
def State.inc (s : State) (p : Nat) (f : Fld) : State := s.addI p f 0 1

/-- Element `i` of a saturating counter counts one more. -/
def State.incI (s : State) (p : Nat) (f : Fld) (i : Nat) : State := s.addI p f i 1

/-- A pair of registers that together hold a wide value: high part, then low part of 32 bits. -/
def State.rdWide (s : State) (p : Nat) (hi lo : Fld) : Nat := s.rd p hi * 2 ^ 32 + s.rd p lo

/-- Writes a wide value over a pair of registers. -/
def State.wrWide (s : State) (p : Nat) (hi lo : Fld) (v : Nat) : State := (s.wr p hi (v / 2 ^ 32)).wr p lo (v % 2 ^ 32)

/-! ### Records -/

/-- The host context `c`. -/
def State.host (s : State) (c : Nat) : HostCtx := look {} s.hosts c

/-- Changes the host context `c`. -/
def State.onHost (s : State) (c : Nat) (f : HostCtx → HostCtx) : State := { s with hosts := upd {} s.hosts c f }

/-- TCU `t`. -/
def State.tcu (s : State) (t : Nat) : Tcu := look {} s.tcus t

/-- Changes TCU `t`. -/
def State.onTcu (s : State) (t : Nat) (f : Tcu → Tcu) : State := { s with tcus := upd {} s.tcus t f }

/-- TDC channel `c` of TCU `t`. -/
def State.tdc (s : State) (t c : Nat) : Tdc := look {} (s.tcu t).tdcs c

/-- Changes a TDC channel. -/
def State.onTdc (s : State) (t c : Nat) (f : Tdc → Tdc) : State := s.onTcu t (fun u => { u with tdcs := upd {} u.tdcs c f })

/-- Candidate slot `k` of TCU `t`. -/
def State.cand (s : State) (t k : Nat) : Cand := look {} (s.tcu t).cands k

/-- Changes a candidate slot. -/
def State.onCand (s : State) (t k : Nat) (f : Cand → Cand) : State := s.onTcu t (fun u => { u with cands := upd {} u.cands k f })

/-- Output `n` of TCU `t`. -/
def State.outp (s : State) (t n : Nat) : Outp := look {} (s.tcu t).outs n

/-- Changes an output. -/
def State.onOutp (s : State) (t n : Nat) (f : Outp → Outp) : State := s.onTcu t (fun u => { u with outs := upd {} u.outs n f })

/-- Engine `e`. -/
def State.eng (s : State) (e : Nat) : Engine := look {} s.engines e

/-- Changes engine `e`. -/
def State.onEng (s : State) (e : Nat) (f : Engine → Engine) : State := { s with engines := upd {} s.engines e f }

/-- Puts something out. Log 5 (DESIGN CHOICE; safe). -/
def State.emit (s : State) (o : Out) : State := { s with out := o :: s.out }

/-- Takes the number of the next free value. Log 10 (DESIGN CHOICE; safe). -/
def State.bump (s : State) : State := { s with free := s.free + 1 }

/-- `n` occurrences of an event of R362 at a unit, in one burst: they wait for the counters that watch them (R361, R362). Log 123 (DESIGN CHOICE; unsafe). -/
def State.event (s : State) (e u n : Nat) : State :=
  if n = 0 then s else { s with events := upd (0, 0) s.events (64 * e + u) (fun x => (x.1 + n, x.2 + 1)) }

/-! ### Pages of the replicated blocks -/

def pageHC (c : Nat) : Nat := 0x010 + c
def pagePort (p : Nat) : Nat := 0x180 + p
def pageGrp (g : Nat) : Nat := 0x1B0 + g
def pageNT (n : Nat) : Nat := 0x1C0 + n
def pageEng (e : Nat) : Nat := 0x021 + e
def pagePipe (w : Nat) : Nat := 0x0C1 + w
def pageMact (w : Nat) : Nat := 0x0C3 + w
def pageLpm (w : Nat) : Nat := 0x0C5 + w
def pageVB (b : Nat) : Nat := 0x108 + b
def pagePerf (n : Nat) : Nat := 0x210 + n
def pageTime (t : Nat) : Nat := tpage t 0x041
def pageSynth (t : Nat) : Nat := tpage t 0x042
def pageRefsel (t : Nat) : Nat := tpage t 0x043
def pageHold (t : Nat) : Nat := tpage t 0x044
def pageCtl (t : Nat) : Nat := tpage t 0x040
def pageOut (t n : Nat) : Nat := tpage t (0x046 + n)
def pageTdc (t c : Nat) : Nat := tpage t (0x050 + c)
def pagePtp (t i : Nat) : Nat := tpage t (0x068 + i)
def pageCad (t : Nat) : Nat := tpage t 0x06A
def pageGw (t : Nat) : Nat := tpage t 0x06B
def pageRind : Nat := 0x000
def pageSupply : Nat := 0x001
def pageArb : Nat := 0x002
def pageLc : Nat := 0x003
def pagePwr : Nat := 0x004
def pageBoot : Nat := 0x005
def pageInb : Nat := 0x017
def pageEngc : Nat := 0x020
def pageEspare : Nat := 0x029
def pageEshared : Nat := 0x02A
def pageCave : Nat := 0x030
def pageCaldir : Nat := 0x031
def pageShadow : Nat := 0x0C7
def pageVat : Nat := 0x100
def pageVoq : Nat := 0x101
def pageWhey : Nat := 0x102
def pageSched : Nat := 0x140
def pageShape : Nat := 0x141
def pageGate : Nat := 0x142
def pageSample : Nat := 0x143
def pagePerfCtl : Nat := 0x200
def pageSu : Nat := 0x201

/-! ### Domains, time and the token -/

/-- The power state of domain `d`, as `PWR_STAT` shows it; PD_RIND is on whenever the device is powered (R23, R421). -/
def State.pwr (s : State) (d : Nat) : Nat := if d = 0 then 2 else bits (s.rd pagePwr R.PWR.PWR_STAT) (2 * d) 2

/-- Sets the power state of domain `d` in `PWR_STAT` (R398, R421). -/
def State.setPwr (s : State) (d st : Nat) : State :=
  let v := s.rd pagePwr R.PWR.PWR_STAT
  s.wr pagePwr R.PWR.PWR_STAT (v - bits v (2 * d) 2 * 4 ^ d + st % 4 * 4 ^ d)

/-- Whether domain `d` is on. -/
def State.isOn (s : State) (d : Nat) : Bool := s.pwr d == 2

/-- The page's domain is not on: off, switching on and wiping, or switching off, in none of which its blocks accept
register writes (R25, R36). Log 18 (DEDUCED; unsafe). -/
def State.pageOff (s : State) (p : Nat) : Bool := s.pwr (pageDomain p) != 2

/-- Whether a TCU holds the leadership token (R148, R155). -/
def State.tokenHeld (s : State) : Bool := s.flag pageArb R.ARB.ARB_STAT_HOLDER_VALID

/-- The TCU that holds the token: the active TCU (R148, R155). -/
def State.active (s : State) : Nat := s.rd pageArb R.ARB.ARB_STAT_HOLDER

/-- `TIME_VALID` (R20). -/
def State.timeValid (s : State) : Bool := s.flag pageRind R.RIND.RIND_CLK_STAT_TIME_VALID

/-- The TCU from which every source is taken: the active, and until the switch epoch the one that held the token before the move
(R155). -/
def State.lead (s : State) : Nat :=
  match s.switch with
  | (some o, _, _) :: _ => if (s.tcu o).clk then o else s.active
  | _ => s.active

/-- Network time in ns: the counter of the TCU from which the time copy is taken (R41, R155). -/
def State.now (s : State) : Nat := (s.tcu s.lead).now

/-- Seconds of network time. -/
def State.sec (s : State) : Nat := s.now / 1000000000

/-- The owner of a page (R38). -/
def State.owner (s : State) (p : Nat) : Nat := s.rd p R.HDR.HDR_OWNER_OWNER

/-- Takes effect on both TCUs. -/
def State.both (s : State) (f : Nat → State → State) : State := f 1 (f 0 s)

/-- A fold over the numbers below `n`. -/
def State.each (s : State) (n : Nat) (f : Nat → State → State) : State := (List.range n).foldl (fun a i => f i a) s

end Sys2Proof.Machine
end

