-- ==== Sys2Proof/Machine/Flags.lean ====
section
/-! DEFINITION. Flags: interrupt causes, access and integrity errors, broadcast causes, and the delivery of interrupts to the contexts. -/

namespace Sys2Proof.Machine

open Sys2Proof

/-- Sets bits of a page's `HDR_INT_CAUSE` (R36, R57). -/
def State.setCause (s : State) (p m : Nat) : State := s.wr p R.HDR.HDR_INT_CAUSE (s.rd p R.HDR.HDR_INT_CAUSE ||| m)

/-- Raises block cause `b` of a page; not while the page's domain is off (R25). Log 19 (DEDUCED; unsafe). -/
def State.raise (s : State) (p b : Nat) : State := if s.pwr (pageDomain p) = 0 then s else s.setCause p (2 ^ b)

/-- Raises a block cause if a condition holds. -/
def State.raiseIf (s : State) (c : Bool) (p b : Nat) : State := if c then s.raise p b else s

/-- The header causes of R36. -/
def hErr : Nat := 24
def hOwner : Nat := 25
def hCalDone : Nat := 26
def hSpare : Nat := 27
def hCommitDone : Nat := 28
def hCommitLate : Nat := 29

/-- Raises a header cause, which the domain's state does not prevent (R25). -/
def State.raiseHdr (s : State) (p b : Nat) : State := s.setCause p (2 ^ b)

/-- The lowest bit set in a mask of error bits. -/
def lowBit (m : Nat) : Nat := ((List.range 16).find? (bitAt m)).getD 0

/-- Records access errors: sets their bits in `HDR_ERR_CAUSE`, raises ERR, and captures the access if nothing is
captured yet (R34, R36, R37). -/
def State.accErr (s : State) (p ctx off : Nat) (write : Bool) (m : Nat) : State :=
  if m = 0 then s else
  let s := if m % 64 = 0 then s else s.wr p R.HDR.HDR_ERR_CAUSE_ACC (s.rd p R.HDR.HDR_ERR_CAUSE_ACC ||| m % 64)
  let s := if m / 256 % 8 = 0 then s else s.wr p R.HDR.HDR_ERR_CAUSE_INTEG (s.rd p R.HDR.HDR_ERR_CAUSE_INTEG ||| m / 256 % 8)
  let s := if s.flag p R.HDR.HDR_ERR_CAPTURE_VALID then s else
    ((((s.wr p R.HDR.HDR_ERR_CAPTURE_OFFSET (off / 4)).wr p R.HDR.HDR_ERR_CAPTURE_CTX ctx).wr p R.HDR.HDR_ERR_CAPTURE_WRITE
      (b2n write)).wr p R.HDR.HDR_ERR_CAPTURE_CODE (lowBit m)).wr p R.HDR.HDR_ERR_CAPTURE_VALID 1
  s.raiseHdr p hErr

/-- An integrity error of a block: bit 8 REG_PARITY, 9 MEM_CORR, 10 MEM_UNCORR (R36). No access made it, so the
capture's offset and context are 0. Log 37 (DESIGN CHOICE; unsafe). -/
def State.integErr (s : State) (p b : Nat) : State := s.accErr p 0 0 false (2 ^ b)

/-- The block shows a fault (R36); FAULT_CODE holds the last one. -/
def State.setFault (s : State) (p code : Nat) : State := (s.wr p R.HDR.HDR_STATUS_FAULT 1).wr p R.HDR.HDR_STATUS_FAULT_CODE code

/-- Clears a fault. -/
def State.clearFault (s : State) (p : Nat) : State := (s.wr p R.HDR.HDR_STATUS_FAULT 0).wr p R.HDR.HDR_STATUS_FAULT_CODE 0

/-- A context is attached (R47). -/
def State.attached (s : State) (c : Nat) : Bool := s.flag (pageHC c) R.HC.CTX_STAT_ATTACHED

/-- Sets broadcast cause `b` of one context (R49). -/
def State.bcastTo (s : State) (c b : Nat) : State :=
  s.wr (pageHC c) R.HC.BCAST_CAUSE (s.rd (pageHC c) R.HC.BCAST_CAUSE ||| 2 ^ b)

/-- Sets broadcast cause `b` in the copy of every attached context (R49). -/
def State.bcast (s : State) (b : Nat) : State := s.each 4 (fun c s => if s.attached c then s.bcastTo c b else s)

/-- The broadcast causes of R49. -/
def bOscFail : Nat := 0
def bSupplyWarn : Nat := 1
def bBudget : Nat := 2
def bTcuSwitch : Nat := 3
def bTimeValid : Nat := 4
def bOwnerTaken : Nat := 5
def bResetPending : Nat := 6
def bDetached : Nat := 7

/-- `HDR_INT_ROUTE` of the page names context `c` (R36, R57). -/
def State.routes (s : State) (p c : Nat) : Bool :=
  if s.flag p R.HDR.HDR_INT_ROUTE_FOLLOW_OWNER then s.owner p == c else bitAt (s.rd p R.HDR.HDR_INT_ROUTE_CTX_MASK) c

/-- Page `p` interrupts context `c` (R57). Log 19 (DEDUCED; unsafe). -/
def State.pagePend (s : State) (p c : Nat) : Bool :=
  (s.rd p R.HDR.HDR_INT_CAUSE &&& s.rd p R.HDR.HDR_INT_ENABLE) != 0 && s.routes p c

/-- The pages that interrupt context `c`, among those with a cause recorded (R57). -/
def State.pendPages (s : State) (c : Nat) : List Nat :=
  s.regs.filterMap (fun e => if e.1 % 32768 = 0x00C * 8 ∧ s.pagePend (e.1 / 32768) c then some (e.1 / 32768) else none)

/-- `INT_PAGE_PENDk` of context `c` (R48, R57). -/
def State.intPagePend (s : State) (c k : Nat) : Nat :=
  (s.pendPages c).foldl (fun a p => if p / 32 = k then a ||| 2 ^ (p % 32) else a) 0

/-- `INT_TOP` of context `c` (R48, R57). -/
def State.intTop (s : State) (c : Nat) : Nat :=
  let t := (s.pendPages c).foldl (fun a p => if p / 32 < 24 then a ||| 2 ^ (p / 32) else a) 0
  t ||| (if (s.rd (pageHC c) R.HC.BCAST_CAUSE &&& s.rd (pageHC c) R.HC.BCAST_ENABLE) = 0 then 0 else 2 ^ 31)

/-- The kinds of host port (R42, R48): `CTX_STAT.PORT`. -/
def kPcie : Nat := 0
def kSpi : Nat := 1
def kInband : Nat := 2

/-- The port kind of context `c` under an HC_MAP strap (R42). -/
def hcKind (map c : Nat) : Nat :=
  match map % 4 with
  | 0 => if c ≤ 1 then kPcie else kSpi
  | 1 => if c = 1 ∨ c = 2 then kPcie else kSpi
  | 2 => if c = 0 then kPcie else if c = 3 then kInband else kSpi
  | _ => if c = 2 then kPcie else if c = 3 then kInband else kSpi

/-- The port kind of context `c` as the latched strap binds it. -/
def State.kind (s : State) (c : Nat) : Nat := hcKind s.straps.hcMap c

/-- The level of INT_N[n]: asserted while INT_PIN is 1 and the context's interrupt is pending, and nothing is
delivered to a detached context (R57, R58). -/
def State.intN (s : State) (c : Nat) : Bool :=
  s.flag (pageHC c) R.HC.CTX_CTL_INT_PIN && s.attached c && s.intTop c != 0

/-- The payload of an in-band interrupt notice; its address field, of which the spec says nothing, is 0 (R45, R58).
Log 6 (DESIGN CHOICE; unsafe). -/
def noticeBytes (seq top : Nat) : List Byte := [1] ++ beOct 2 seq ++ [1, 0x10] ++ beOct 3 0 ++ beOct 4 top

/-- An in-band frame of a context with this payload waits for the in-band port. Log 122 (DESIGN CHOICE; unsafe). -/
def State.inbandSend (s : State) (c : Nat) (l : List Byte) : State := s.onHost c (fun h => { h with inbq := h.inbq ++ [l] })

/-- Delivers the message interrupt of context `c` when one is due (R58), and so at once where INT_PIN goes from 1 to 0 while INT_TOP
is non-zero. Log 6 (DESIGN CHOICE; unsafe). -/
def State.deliver (s : State) (c : Nat) : State :=
  let h := s.host c
  if s.flag (pageHC c) R.HC.CTX_CTL_INT_PIN ∨ ¬ s.attached c ∨ ¬ h.armed ∨ h.holdoff ∨ s.intTop c = 0 then s
  else
    let sent (s : State) : State :=
      let d := s.rd (pageHC c) R.HC.INT_HOLDOFF
      s.onHost c (fun h => { h with armed := false, holdoff := d != 0, holdTo := s.up + d * 1000 })
    if s.kind c = kPcie then (if h.msix then (sent s).emit (.msix c) else s)
    else if s.kind c = kInband then
      ((sent s).inbandSend c (noticeBytes (Config.noticeSeq s.free) (s.intTop c))).bump
    else s

/-- Every command ends by delivering the interrupts that are due to the four contexts (R58).
Log 6 (DESIGN CHOICE; unsafe). -/
def State.settle (s : State) : State := s.each 4 (fun c s => s.deliver c)

/-- The next state of a command. Log 8 (DEDUCED; unsafe). -/
def done (s : State) : Host.Outcome State Fault Refusal := .next s.settle

end Sys2Proof.Machine
end

