-- ==== Sys2Proof/Machine/Commands.lean ====
section
/-! DEFINITION. Command rings: handles, completions held and written, and the commands in flight (R50–R56). -/

namespace Sys2Proof.Machine

open Sys2Proof

/-- The STATUS values of R53. -/
def stOk : Nat := 0x00
def stDiscard : Nat := 0x01
def stBadOpcode : Nat := 0x02
def stBadArg : Nat := 0x03
def stNotOwner : Nat := 0x04
def stNotSupervisor : Nat := 0x05
def stDependency : Nat := 0x06
def stBusy : Nat := 0x07
def stStale : Nat := 0x08
def stAborted : Nat := 0x09
def stNotAbortable : Nat := 0x0A
def stLate : Nat := 0x0B
def stSignature : Nat := 0x0C
def stWrongState : Nat := 0x0D

/-- The number of entries of the command ring of a context (R46, R48). -/
def State.cmdSize (s : State) (c : Nat) : Nat := if s.kind c = kPcie then 2 ^ s.rd (pageHC c) R.HC.CMD_SIZE else 64

/-- The number of entries of the completion ring of a context (R46, R48). -/
def State.cplSize (s : State) (c : Nat) : Nat := if s.kind c = kPcie then 2 ^ s.rd (pageHC c) R.HC.CPL_SIZE else 64

/-- The handle formed from the running count and the ring size (R51). -/
def handleOf (count size : Nat) : Nat := count % size % 4096 + count / size % 16 * 4096

/-- The completion ring has room and may be written (R52). -/
def State.cplRoom (s : State) (c : Nat) : Bool :=
  s.flag (pageHC c) R.HC.CTX_CTL_CPL_EN &&
  decide ((s.rd (pageHC c) R.HC.CPL_PROD + 2 ^ 32 - s.rd (pageHC c) R.HC.CPL_CONS) % 2 ^ 32 < s.cplSize c)

/-- Stores a completion in an on-chip completion ring (R46). -/
def State.cplStore (s : State) (c slot : Nat) (ws : List Nat) : State :=
  if s.kind c = kPcie then s
  else (s.each 4 (fun i s => s.wrI (pageHC c) R.HC.CPL_RING (slot % 64 * 4 + i) (ws.getD i 0)))

/-- Writes one completion entry to the ring (R50, R52). -/
def State.cplWrite (s : State) (c : Nat) (e : Cpl) : State :=
  let prod := s.rd (pageHC c) R.HC.CPL_PROD
  let size := s.cplSize c
  let w0 := e.handle + e.tag * 65536
  let w1 := e.status + e.detail * 256 + prod / size % 2 * 2 ^ 31
  let s := s.cplStore c (prod % size) [w0, w1, e.r0, e.r1]
  let s := (s.emit (.completion c w0 w1 e.r0 e.r1)).wr (pageHC c) R.HC.CPL_PROD (prod + 1)
  s.raiseIf e.intOn (pageHC c) 0

/-- Writes held completions, oldest first, while the ring has room. -/
def State.cplFlush (s : State) (c : Nat) : List Cpl → State
  | [] => s.onHost c (fun h => { h with held := [] })
  | e :: es => if s.cplRoom c then (s.cplWrite c e).cplFlush c es else s.onHost c (fun h => { h with held := e :: es })

/-- Writes what completions of the context can be written, and shows STALLED while the store of 64 is full; a detached
context's completions are discarded (R47, R52). -/
def State.cplPump (s : State) (c : Nat) : State :=
  if ¬ s.attached c then s.onHost c (fun h => { h with held := [] }) else
  let s := s.cplFlush c (s.host c).held
  s.wr (pageHC c) R.HC.CTX_STAT_STALLED (b2n ((s.host c).held.length ≥ 64))

/-- Hands over a completion: written at once if nothing is held and the ring has room, else held with CPL_HELD raised (R52);
the completion of a command whose context has been detached is discarded (R47). Log 7 (DESIGN CHOICE; unsafe).
Log 28 (DEDUCED; unsafe). -/
def State.cplPost (s : State) (c : Nat) (e : Cpl) : State :=
  if c ≥ 4 then s else
  let s := s.onHost c (fun h => { h with held := h.held ++ [e] })
  let s := s.cplPump c
  s.raiseIf ((s.host c).held != []) (pageHC c) 2

/-- The slot of the command ring that a command occupies. -/
def slotKey (ctx handle : Nat) : Nat := ctx * 4096 + handle % 4096

/-- Records the status of a command under its handle (R51); a command whose context has been detached has none (R47). -/
def State.setSlot (s : State) (k : Cmd) (status : Nat) : State :=
  if k.ctx ≥ 4 then s else
  { s with slots := put { gen := 16, status := 0 } s.slots (slotKey k.ctx k.handle) { gen := k.handle / 4096, status := status } }

/-- The command is the one of that context and count. -/
def Cmd.is (k : Cmd) (ctx count : Nat) : Bool := k.ctx == ctx && k.count == count

/-- Takes a command into flight; one already there under its name is replaced. -/
def State.fly (s : State) (k : Cmd) : State :=
  (({ s with cmds := s.cmds.filter (fun j => ! j.is k.ctx k.count) ++ [{ k with since := s.up }] } : State)).setSlot k 0xFF

/-- Changes a command in flight. -/
def State.onCmd (s : State) (k : Cmd) (f : Cmd → Cmd) : State :=
  { s with cmds := s.cmds.map (fun j => if j.is k.ctx k.count then f j else j) }

/-- The slot keeps the status of the command that has ended, unless a newer command occupies it (R51). -/
def State.endSlot (s : State) (k : Cmd) (status : Nat) : State :=
  if (look { gen := 16, status := 0 } s.slots (slotKey k.ctx k.handle)).gen = k.handle / 4096 then s.setSlot k status else s

/-- Completes a command: it leaves flight, its slot keeps the status, and its completion is handed over (R52, R53). -/
def State.finish (s : State) (k : Cmd) (status detail r0 r1 : Nat) : State :=
  let s := (({ s with cmds := s.cmds.filter (fun j => ! j.is k.ctx k.count) } : State)).endSlot k status
  s.cplPost k.ctx ⟨k.handle, k.tag, status, detail, r0, r1, k.intOn⟩

/-- Completes with a status alone. -/
def State.finishSt (s : State) (k : Cmd) (status : Nat) : State := s.finish k status 0 0 0

/-- The first command in flight of an opcode that names an object by its first argument. -/
def State.findCmd (s : State) (op arg0 : Nat) : Option Cmd :=
  s.cmds.find? (fun k => k.op == op && k.started && k.args.getD 0 0 == arg0)

/-- The first command in flight of an opcode. -/
def State.findOp (s : State) (op : Nat) : Option Cmd := s.cmds.find? (fun k => k.op == op && k.started)

/-- Completes the command of an opcode and object, if one is in flight. -/
def State.finishOp (s : State) (op arg0 status r0 r1 : Nat) : State :=
  match s.findCmd op arg0 with
  | some k => s.finish k status 0 r0 r1
  | none => s

/-- Argument `i` of a command. -/
def Cmd.arg (k : Cmd) (i : Nat) : Nat := k.args.getD i 0

end Sys2Proof.Machine
end

