-- ==== Sys2Proof/Machine/Sampler.lean ====
section
/-! DEFINITION. The queue sampler: the records of a sweep, taken one in every four core cycles as time goes on (R340, R341). -/

namespace Sys2Proof.Machine

open Sys2Proof

/-- The core cycle now (R14). Log 9 (DESIGN CHOICE; unsafe). -/
def State.core (s : State) : Nat := s.up * 9 / 8

/-- A VOQ's number is its ingress port × 6,144 and its leaf's, and a leaf's its port × 128 and the rest (R306). -/
def voqLeaf (v : Nat) : Nat := v % 6144
def leafPort (leaf : Nat) : Nat := leaf / 128

def State.voq (s : State) (v : Nat) : Voq := look {} s.voqs v

/-- What each port sends. -/
def State.tx (s : State) (p : Nat) : Tx := look {} s.txs p

/-- What an unused frame record reads as: none is in use with a port of 64. -/
def noFrame : Frame := { port := 64, owner := 64 }

def State.frame (s : State) (f : Nat) : Frame := look noFrame s.frames f

/-- The head copy of the VOQ is in transmission. -/
def State.headInTx (s : State) (v : Nat) : Bool :=
  match (s.tx (leafPort (voqLeaf v))).kind with
  | .copy w _ => w == v && !(s.tx (leafPort (voqLeaf v))).left && !(s.tx (leafPort (voqLeaf v))).orphan
  | _ => false

/-- The head copy of a VOQ. -/
def State.headOf (s : State) (v : Nat) : Option Copy := (s.voq v).copies.head?

/-- The VOQs that a watch entry names. -/
def State.watched (s : State) (kind n : Nat) : List Nat :=
  if kind = 0 then [n] else
  (s.voqs.filter (fun e => if kind = 1 then voqLeaf e.1 == n else leafPort (voqLeaf e.1) == n)).map (fun e => e.1)

/-- The octets queued in a VOQ. -/
def State.voqOctets (s : State) (v : Nat) : Nat := ((s.voq v).copies.map (fun c => (s.frame c.frame).octets.length)).sum

/-- The data record of a watch entry at a sweep instant (R341). -/
def State.sampleRecord (s : State) (w at_ : Nat) : List Nat :=
  let kind := bits w 20 2
  let n := bits w 0 19
  let vs := s.watched kind n
  let delay := vs.foldl (fun a v => match s.headOf v with
    | some c => max a (at_ - ((s.frame c.frame).tpcs / 65536).toNat) | none => a) 0
  [kind * 2 ^ 30 + n, satNat 32 ((vs.map s.voqOctets).sum),
    (vs.map (fun v => (s.voq v).copies.length)).sum % 2 ^ 18 + b2n (vs.any s.headInTx) * 2 ^ 31, satNat 32 delay]

/-- The ring's level is shown, and SMP_DATA raised from the threshold on (R345). -/
def State.showRing (s : State) : State :=
  let n := s.samples.length
  (s.wr pageSample R.SAMPLE.SMP_STAT_LEVEL n).raiseIf (decide (n ≥ s.rd pageSample R.SAMPLE.SMP_THRESH)) pageSample 0

/-- The records of the sweep in progress whose core cycles have come are written, each from the queues as they stand then: the first in the
cycle of the sweep instant, and one in every 4 cycles from there (R340). Log 51 (DEDUCED; unsafe). -/
def State.sampleOn (s : State) : State :=
  match s.smpRun with
  | none => s
  | some w =>
    if s.core < w.next then s else
    let n := min w.todo.length ((s.core - w.next) / 4 + 1)
    let rest := w.todo.drop n
    ({ s with samples := s.samples ++ (w.todo.take n).map (fun x => s.sampleRecord x w.instant)
              smpRun := if rest = [] then none else some { w with todo := rest, next := w.next + 4 * n } } : State).showRing

end Sys2Proof.Machine
end

