-- ==== Sys2Proof/Machine/Time.lean ====
section
/-! DEFINITION. The time counter, the rate word and steps (R59–R67, R83), the token-following TCUs (R149) and TIME_VALID (R20). -/

namespace Sys2Proof.Machine

open Sys2Proof

/-- The TCU states of `TCU_STAT.STATE` (R148). -/
def tsOff : Nat := 0
def tsStarting : Nat := 1
def tsSyncing : Nat := 2
def tsStandby : Nat := 3
def tsActive : Nat := 4
def tsCalibrating : Nat := 5
def tsUpdating : Nat := 6
def tsFailed : Nat := 7

/-- The redundancy state of TCU `t` (R148). -/
def State.tcuState (s : State) (t : Nat) : Nat := s.rd (pageCtl t) R.CTL.TCU_STAT_STATE

/-- Sets the redundancy state of TCU `t`: STATE_CHANGE is raised, FAIL_CODE returns to 0 at STANDBY and ACTIVE, and a time judgement,
which is between an ACTIVE and a STANDBY TCU, goes no further (R148, R157, R165).
Log 39 (DEDUCED; unsafe). -/
def State.setTcuState (s : State) (t x : Nat) : State :=
  if s.tcuState t = x then s else
  let s := (s.wr (pageCtl t) R.CTL.TCU_STAT_STATE x).raise (pageCtl t) 0
  let s : State := { s.wr (pageSynth t) R.SYNTH.SYN_STAT_ACTIVE (b2n (x == tsActive)) with judging := false }
  if x = tsStandby ∨ x = tsActive then s.wr (pageCtl t) R.CTL.TCU_STAT_FAIL_CODE 0 else s

/-- The mirror channel keeps TCU `t` equal to the active: it is STANDBY, or CALIBRATING, during which the channel goes on (R148, R151). -/
def State.mirrored (s : State) (t : Nat) : Bool := s.tcuState t == tsStandby || s.tcuState t == tsCalibrating

/-- TCU `t` follows network time: it holds the token, or the mirror channel keeps it equal to the one that does (R149). -/
def State.follows (s : State) (t : Nat) : Bool := s.tokenHeld && (s.active == t || s.mirrored t)

/-- A host write to a mirrored table reaches TCU `t`: the one that carries time and a twin that is STANDBY, CALIBRATING or SYNCING.
With no token held no mirror runs, and every TCU that is on takes the write (R153, R154). Log 94 (DEDUCED; unsafe). -/
def State.takesTables (s : State) (t : Nat) : Bool :=
  s.isOn (1 + t) && (!s.tokenHeld || s.lead == t || s.mirrored t || s.tcuState t == tsSyncing)

/-- The gates of a port as the GATE page holds them. -/
def State.gate (s : State) (p : Nat) : Gate := look {} s.gates p

/-- The gates of a port as the sequencer of the TCU from which every source is taken holds them (R155, R333). -/
def State.seqGate (s : State) (p : Nat) : Gate := look {} s.gateCopy (48 * s.lead + p)

/-- Changes the gates of a port, on the GATE page and in the copy of each TCU that takes writes to mirrored tables (R154, R333).
Log 94 (DEDUCED; unsafe). -/
def State.onGate (s : State) (p : Nat) (f : Gate → Gate) : State :=
  let one (m : Store Gate) (t : Nat) : Store Gate := if s.takesTables t then upd {} m (48 * t + p) f else m
  { s with gates := upd {} s.gates p f, gateCopy := one (one s.gateCopy 0) 1 }

/-- No list holds its entry any longer: its position is recomputed (R338). -/
def State.endHolds (s : State) : State := s.each 48 (fun p a => a.onGate p (fun g => { g with hold := none }))

/-- Applies a change to the active TCU and to the standby that follows it (R149, R151). -/
def State.onFollowers (s : State) (f : Nat → State → State) : State :=
  s.each 2 (fun t a => if s.follows t then f t a else a)

/-- The rate word in force, a 40-bit two's-complement number (R65). -/
def State.rate (s : State) (t : Nat) : Int := toInt 40 (s.rdWide (pageTime t) R.TIME.RATE_LIVE_HI R.TIME.RATE_LIVE_LO)

/-- The limit on the magnitude of the rate word: LIMIT × 10⁻⁹ × 2⁴⁸, rounded down (R66). -/
def State.rateLimit (s : State) (t : Nat) : Int := ((s.rd (pageTime t) R.TIME.RATE_LIMIT * 2 ^ 48 / 1000000000 : Nat) : Int)

/-- N_nom of the reference path in force: 200, 100 or 50 (R82). -/
def nNom (path : Nat) : Int := if path = 0 then 200 else if path = 1 then 100 else 50

/-- Writes N_INT, FRAC and SUB for a rate word, exactly (R83); in the Oscillator lost phase the synthesizer is frozen (R15).
Log 105 (DESIGN CHOICE; unsafe). -/
def State.setRatio (s : State) (t : Nat) (r : Int) : State :=
  if s.phase = .oscLost then s else
  let n := nNom (s.rd (pageSynth t) R.SYNTH.SYN_CTL_REF_PATH)
  let w := (n * 2 ^ 48 + n * r).toNat
  ((s.wr (pageSynth t) R.SYNTH.SYN_N (w / 2 ^ 48)).wr (pageSynth t) R.SYNTH.SYN_FRAC (w % 2 ^ 48 / 65536)).wr (pageSynth t)
    R.SYNTH.SYN_SUB (w % 65536)

/-- A change of rate word is subtracted from DOM_RATE of every instance in track mode (R142). -/
def State.compensate (s : State) (t : Nat) (dr : Int) : State :=
  s.each 2 (fun i a =>
    if s.flag (pagePtp t i) R.PTP.PTP_TRK_CTL_MODE then a
    else a.onTcu t (fun u => { u with trks := upd {} u.trks i (fun k => { k with rate := k.rate - dr }) }))

/-- The rate word of TCU `t` becomes `r` within the limit of R66: RATE_CLAMPED is raised where it is limited, the ratio
of R83 follows, the second's history takes the old word up to now (R110), and the trackers are compensated (R142). In the
Oscillator lost phase the synthesizer is frozen at its last control value (R15). -/
def State.setRateOne (s : State) (t : Nat) (r : Int) : State :=
  if s.phase = .oscLost then s else
  let lim := s.rateLimit t
  let c : Int := if r > lim then lim else if r < -lim then -lim else r
  let old := s.rate t
  let s := s.raiseIf (c != r) (pageTime t) 1
  let s := s.wrWide (pageTime t) R.TIME.RATE_LIVE_HI R.TIME.RATE_LIVE_LO (ofInt 40 c)
  let s := s.setRatio t c
  let s := s.onTcu t (fun u => { u with rateAcc := u.rateAcc + old * ((u.now - u.rateAt : Nat) : Int), rateAt := u.now })
  s.compensate t (c - old)

/-- The rate word of the active TCU changes, and the standby takes it over the mirror channel (R149). -/
def State.setRate (s : State) (r : Int) : State := s.onFollowers (fun t a => a.setRateOne t r)

/-- The servo, the selection or holdover gives TCU `t` a rate word: the held frequency and a slew on top of it, which slews by what the
limit of R66 leaves of it. Where RATE_SRC is 1 the host's word stays in force (R65), and in the Oscillator lost phase the frozen one
(R15). -/
def State.steer (s : State) (t : Nat) (held slew : Int) : State :=
  if s.flag (pageTime t) R.TIME.RATE_CTL_RATE_SRC ∨ s.phase = .oscLost then s
  else
    let s := s.setRateOne t (held + slew)
    s.onTcu t (fun u => { u with slew := s.rate t - held })

/-- The host's rate word takes effect where RATE_SRC is 1 (R65). -/
def State.useHostRate (s : State) (t : Nat) : State :=
  if s.flag (pageTime t) R.TIME.RATE_CTL_RATE_SRC then
    (s.setRateOne t (toInt 40 (s.rdWide (pageTime t) R.TIME.RATE_HOST_HI R.TIME.RATE_HOST_LO))).onTcu t (fun u => { u with slew := 0 }) else s

/-- The seconds are 48 bits wide (R59). -/
def counterMod : Nat := 2 ^ 48 * 1000000000

/-- A domain tracker over `n` clock alignment epochs: a CLEAR that waits takes effect, and DOM_OFS advances by DOM_RATE
over 64 ns at each (R140). -/
def Trk.go (k : Trk) (n : Nat) : Trk :=
  if n = 0 then k
  else if k.clear then { k with ofs := 0, rate := 0, loaded := false, clear := false }
  else { k with ofs := k.ofs + k.rate * 64 * (n : Int) }

/-- The remainder still to be slewed after `d` ns, which the slew does not carry past zero (R62, R109). -/
def Tcu.remAfter (u : Tcu) (d : Nat) : Int :=
  let r := u.rem - u.slew * d
  if (0 < u.rem ∧ r < 0) ∨ (u.rem < 0 ∧ 0 < r) then 0 else r

/-- `STEP_REM` shows the remainder still to be slewed (R62). -/
def State.showRem (s : State) (t : Nat) : State := s.wrSat (pageTime t) R.TIME.STEP_REM (divEven (s.tcu t).rem (2 ^ 32))

/-- The remainder of a step shrinks over `d` ns (R62, R109). -/
def State.slewOn (s : State) (t d : Nat) : State :=
  let u := s.tcu t
  if u.rem = 0 ∨ ¬ u.clk then s else (s.onTcu t (fun u => { u with rem := u.remAfter d })).showRem t

/-- The code-density runs of a start-up begin on all 24 channels at `a` and end 48 µs later (R88). -/
def State.startRuns (s : State) (t a : Nat) : State :=
  (s.each 24 (fun c x => x.wr (pageTdc t c) R.TDC.TDC_STAT_CAL_RUNNING 1)).onTcu t (fun u => { u with runsHeld := false, runsTo := some (a + 48000) })

/-- 50 µs after the loop has locked in start-up, all locking loops of the channels of TCU `t` are locked, and the code-density runs
begin on all 24 at once, unless the values of an image are used in their place or RESTORE_OPEN holds them back (R88, R380). -/
def State.linesLock (s : State) (t : Nat) : State :=
  match (s.tcu t).lockAt with
  | none => s
  | some a =>
    if s.up < a + 50000 then s else
    let s := s.each 24 (fun c x => x.wr (pageTdc t c) R.TDC.TDC_STAT_LINE_LOCK 0x1F)
    if s.flag pageCaldir R.CALDIR.CAL_CTL_USE_RESTORED then s.onTcu t (fun u => { u with lockAt := none, runsTo := some (a + 50000) })
    else if s.flag pageCaldir R.CALDIR.CAL_CTL_RESTORE_OPEN then s.onTcu t (fun u => { u with lockAt := none, runsHeld := true })
    else (s.onTcu t (fun u => { u with lockAt := none })).startRuns t (a + 50000)

/-- Changes both domain trackers of a TCU. -/
def Tcu.onTrks (u : Tcu) (f : Trk → Trk) : Tcu := { u with trks := upd {} (upd {} u.trks 0 f) 1 f }

/-- A TCU clock that runs advances by `d` cycles (R59, R60); the domain trackers advance at each clock alignment epoch passed
(R14, R140). -/
def Tcu.run (u : Tcu) (d : Nat) : Tcu :=
  if u.clk then { u.onTrks (fun k => k.go ((u.now + d) / 64 - u.now / 64)) with now := (u.now + d) % counterMod, cyc := (u.cyc + d) % 2 ^ 48 }
  else u

/-- Device time advances by `d` ns, and every running TCU clock by as many cycles; what goes on meanwhile is the slewing of a step's
remainder, the start-up of the TDC channels and a sweep of the sampler (R59, R60, R62, R88, R340). Log 9 (DESIGN CHOICE; unsafe).
Log 84 (DESIGN CHOICE; unsafe). -/
def State.advance (s : State) (d : Nat) : State :=
  (({ s with up := s.up + d } : State).both (fun t a => ((a.slewOn t d).onTcu t (fun u => u.run d)).linesLock t)).sampleOn

/-- Moves time to the end of a command's limit or delay of `d` ns, which runs from its acceptance (R54, R55). -/
def State.toLimit (s : State) (k : Cmd) (d : Nat) : State := s.advance (k.since + d - s.up)

/-- The next clock alignment epoch at or after an instant in ns (R14). -/
def nextEpoch (ns : Nat) : Nat := (ns + 63) / 64 * 64

/-- Moves time to the next clock alignment epoch of TCU `t`. -/
def State.toEpoch (s : State) (t : Nat) : State := s.advance (nextEpoch (s.tcu t).now - (s.tcu t).now)

/-- A snapshot: seconds, nanoseconds and cycle count of one TCU cycle (R64). -/
def State.snap (s : State) (t : Nat) : State :=
  let u := s.tcu t
  let p := pageTime t
  let s := s.wrWide p R.TIME.TIME_SNAP_SEC_HI R.TIME.TIME_SNAP_SEC_LO (u.now / 1000000000)
  let s := s.wr p R.TIME.TIME_SNAP_NS (u.now % 1000000000)
  let s := s.wrWide p R.TIME.TIME_SNAP_CYC_HI R.TIME.TIME_SNAP_CYC_LO u.cyc
  s.wr p R.TIME.TIME_SNAP_SNAP 0

/-- The outputs for which a case of R120 has come to hold, `f` of TCU and output, are quiet until they start again. -/
def State.quietOuts (s : State) (f : Nat → Nat → Bool) : State :=
  s.each 2 (fun t a => a.each 8 (fun n b => if f t n then b.onOutp t n (fun o => { o with started := false }) else b))

/-- Sets `TIME_VALID`, raising TIME_VALID_CHANGE to every attached context when it changes; the outputs that `OUT_CTL.QUIET` quiets
without it fall quiet (R20, R49, R120). -/
def State.setTimeValid (s : State) (v : Bool) : State :=
  if s.timeValid = v then s else
  let s := if v then s else s.quietOuts (fun t n => s.rd (pageOut t n) R.OUT.OUT_CTL_QUIET != 0)
  (s.wr pageRind R.RIND.RIND_CLK_STAT_TIME_VALID (b2n v)).bcast bTimeValid

/-- `TIME_VALID` follows the active TCU's acquired time in the Running phase (R15, R20). -/
def State.refreshValid (s : State) : State :=
  s.setTimeValid (s.phase == .running && s.tokenHeld && (s.tcu s.active).acquired)

/-- A step is requested on the TCUs that follow network time (R62, R107). One that comes while another waits for the epoch takes its
place. Log 89 (DESIGN CHOICE; unsafe). -/
def State.reqStep (s : State) (amount : Int) (acquire host : Bool) : State :=
  s.onFollowers (fun t a => a.onTcu t (fun u => { u with step := some ⟨amount, acquire, host⟩ }))

/-- A step of `part` ns moves the counter and not the domains: DOM_OFS, domain time minus counter time, takes it the other
way (R140). -/
def Trk.stepped (k : Trk) (part : Int) : Trk :=
  if ¬ k.loaded then k
  else { k with ofs := k.ofs - part * 2 ^ 48, lastAt := k.lastAt.map (fun a => ((a : Int) + part).toNat) }

/-- An instant of the counter after a step of `part` ns. -/
def steppedBy (part : Int) (x : Nat) : Nat := (((x : Int) + part) % counterMod).toNat

/-- What a step of `part` ns and `rest` · 2⁻¹⁶ ns does to a TCU, `host` saying that it is a TIME_STEP's: the counter moves, with the
instants that the estimate reckons from and the restart epoch of SYNC_IN; the rest joins what is still to be slewed, and the loop's zero
for a frequency-class candidate moves by it (R62, R90, R106, R109, R110, R134). Log 109 (DESIGN CHOICE; unsafe). -/
def Tcu.stepped (u : Tcu) (part rest : Int) (host : Bool) : Tcu :=
  { u.onTrks (fun k => k.stepped part) with
    syncE := u.syncE.map (fun e => (steppedBy part e.1, e.2)), hostRem := host || (u.hostRem && decide (u.rem ≠ 0))
    now := steppedBy part u.now, step := none, rateAt := steppedBy part u.rateAt, secAt := steppedBy part u.secAt
    rem := u.rem + rest * 2 ^ 32, slewing := decide (rest ≠ 0) || u.slewing, zero := u.zero - divEven (rest * 1000) 65536
    steps := (⟨u.now, part⟩ :: u.steps).take 4, stepCnt := (u.stepCnt + 1) % 256 }

/-- The 64 ns part of a step is added to the counter of TCU `t` at a clock alignment epoch, the remainder is handed to the servo,
and STEP_DONE is raised (R62, R107). No acquisition is made in the Oscillator lost phase: each TCU reacquires time once it has
ended (R17). -/
def State.applyStep (s : State) (t : Nat) : State :=
  match (s.tcu t).step with
  | none => s
  | some q =>
    let part := round64 q.amount
    let got := q.acquire && s.phase != .oscLost
    let s := s.onTcu t (fun u => { u.stepped part (q.amount - part * 65536) q.host with
      acquired := u.acquired || got, reacquire := u.reacquire && !got })
    (s.showRem t).raise (pageTime t) 0

/-- The slewed remainder of a step reaches zero: SLEW_DONE (R62). -/
def State.slewDone (s : State) (t : Nat) : State :=
  if ¬ (s.tcu t).slewing then s
  else (((s.onTcu t (fun u => { u with rem := 0, slewing := false })).showRem t).raise (pageTime t) 2)

/-- The page of a TIME_STEP's value: the signed step of ARG0, ARG1 and ARG2 in units of 2⁻¹⁶ ns (R62).
Log 35 (DEDUCED; unsafe). -/
def stepAmount (k : Cmd) : Int := timeVal 32 (k.arg 0) (k.arg 1) (k.arg 2 % 65536)

/-- The argument fault of a TIME_STEP, if there is one: the index of its word (R62, R456).
Log 35 (DEDUCED; unsafe). -/
def State.stepArgFault (s : State) (k : Cmd) : Option Nat :=
  if (s.now : Int) * 65536 + stepAmount k < 0 then some 0
  else if k.arg 1 > 999999999 then some 1
  else if k.arg 2 ≥ 65536 then some 2 else none

/-- TIME_STEP: the step waits for the next clock alignment epoch; accepted while `TIME_VALID` is 0 it is itself an
acquisition of time of day (R62, R107). -/
def State.startTimeStep (k : Cmd) (s : State) : State :=
  (s.fly k).reqStep (stepAmount k) (!s.timeValid) true

end Sys2Proof.Machine
end

