-- ==== Sys2Proof/Machine/CalRuns.lean ====
section
/-! DEFINITION. What every calibration run does at its start and end (R371–R376, R382). -/

namespace Sys2Proof.Machine

open Sys2Proof

/-- The present reading of die sensor `k`, signed, 1/16 °C (R393). -/
def State.sensor (s : State) (k : Nat) : Int := toInt 16 (s.rdI pageSupply R.SUPPLY.TS k)

/-- The sensor reading lies beyond `CAL_TEMP_DELTA` of a T_cal (R372). -/
def State.drifted (s : State) (k : Nat) (tCal : Int) : Bool :=
  decide ((s.sensor k - tCal).natAbs > 4 * s.rd pageCaldir R.CALDIR.CAL_TEMP_DELTA)

/-- No run starts while `CAL_CTL.RESTORE_OPEN` is 1 (R380). -/
def State.runsOpen (s : State) : Bool := !s.flag pageCaldir R.CALDIR.CAL_CTL_RESTORE_OPEN

/-- `CAL_STAT.RUNNING` shows a run in progress (R387). -/
def State.showRunning (s : State) : State := s.wr pageCaldir R.CALDIR.CAL_STAT_RUNNING (b2n (s.calRunning != []))

/-- The slices that a CAL_RUN in flight still waits for: its argument words after the first two, a slice whose fresh run
has started being marked by bit 16 (R375). -/
def calMark : Nat := 0x10000

/-- A run starts on a page: it leaves the head of the queue, and each CAL_RUN that names it waits for this run (R374, R375). -/
def State.runStart (s : State) (p : Nat) : State :=
  ({ s with calRunning := s.calRunning ++ [p], calHead := s.calHead.filter (fun q => q != p)
            cmds := s.cmds.map (fun k => if k.op = 0x48 then
              { k with args := k.args.take 2 ++ (k.args.drop 2).map (fun q => if q = p then p + calMark else q) } else k) } : State).showRunning

/-- A run of a page is no longer in progress. -/
def State.runEnd (s : State) (p : Nat) : State := ({ s with calRunning := s.calRunning.erase p } : State).showRunning

/-- A run of the page has ended and its corrections are in force: each CAL_RUN that waits for it completes once every
slice it named has, or WRONG_STATE with RESULT0 = 1 if the run failed (R375, R376). -/
def State.calRunDone (s : State) (p : Nat) (ok : Bool) : State :=
  (s.cmds.filter (fun k => k.op == 0x48 && (k.args.drop 2).contains (p + calMark))).foldl (fun a k =>
    let rest := (k.args.drop 2).filter (fun q => q != p + calMark)
    if ¬ ok then a.finish k stWrongState 0 1 0
    else if rest = [] then a.finishSt k stOk
    else a.onCmd k (fun j => { j with args := j.args.take 2 ++ rest })) s

/-- A run ends well: the block counts it, records the second, raises CAL_DONE and clears a calibration fault (R376, R382). -/
def State.runOk (s : State) (p : Nat) : State :=
  let s := s.runEnd p
  let s := s.wr p R.HDR.HDR_CAL_COUNT (s.rd p R.HDR.HDR_CAL_COUNT + 1)
  let s := (s.wr p R.HDR.HDR_CAL_LAST s.sec).raiseHdr p hCalDone
  if s.rd p R.HDR.HDR_STATUS_FAULT_CODE = 4 then s.clearFault p else s

/-- A failed run is noted: `CAL_CNT_FAIL` counts it, RUN_FAIL is raised, CAL_DONE is raised at the run's end, and the block shows
FAULT_CODE 0x04 unless it shows 0x01 or 0x02, or 0x03, which remains until the next full reset (R376, R382, R386).
Log 86 (DEDUCED; unsafe). -/
def State.noteFail (s : State) (p : Nat) : State :=
  let s := ((s.inc pageCaldir R.CALDIR.CAL_CNT_FAIL).raise pageCaldir 0).raiseHdr p hCalDone
  if s.flag p R.HDR.HDR_STATUS_FAULT ∧ 1 ≤ s.rd p R.HDR.HDR_STATUS_FAULT_CODE ∧ s.rd p R.HDR.HDR_STATUS_FAULT_CODE ≤ 3 then s
  else s.setFault p 4

/-- A run fails: the previous values stay in force, it is noted, and its CAL_RUN completes WRONG_STATE (R376). -/
def State.runFail (s : State) (p : Nat) : State := ((s.runEnd p).noteFail p).calRunDone p false

/-- Sections that an apply in progress cannot apply any more are counted as skipped (R380). -/
def State.skipSects (s : State) (n : Nat) : State :=
  if s.flag pageCaldir R.CALDIR.CAL_STAT_APPLYING then
    s.wr pageCaldir R.CALDIR.CAL_APPLY_SKIP (satNat 16 (s.rd pageCaldir R.CALDIR.CAL_APPLY_SKIP + n)) else s

/-- The values of an image that wait for a synthesizer whose run fails or is cut short cannot be applied (R380).
Log 114 (DEDUCED; unsafe). -/
def State.pllSkip (s : State) (t : Nat) : State :=
  if (s.tcu t).pllRest.isSome then (s.onTcu t (fun u => { u with pllRest := none })).skipSects 1 else s

end Sys2Proof.Machine
end

