-- ==== Sys2Proof/Machine/Wear.lean ====
section
/-! DEFINITION. The Cave: wear indices, falling due, spares and swap records (R294, R296, R383–R386). -/

namespace Sys2Proof.Machine

open Sys2Proof

/-! ### Banks (R294, R296, R319) -/

/-- The roles of a physical bank, `VB_STAT.ROLE` (R319). -/
def bSpare : Nat := 0
def bInService : Nat := 1
def bCopying : Nat := 2
def bRetired : Nat := 3

def State.bankRole (s : State) (b : Nat) : Nat := s.rd (pageVB b) R.VB.VB_STAT_ROLE
def State.bankLogical (s : State) (b : Nat) : Nat := s.rd (pageVB b) R.VB.VB_STAT_LOGICAL

/-- The first cell pointer of a logical bank, and its number of cells (R295). -/
def bankBase (l : Nat) : Nat := if l < 24 then l * 8192 else 2 ^ 18 + (l - 24) * 2048
def bankCells (l : Nat) : Nat := if l < 24 then 8192 else 2048

/-- Sets the role of a physical bank, with the logical bank it serves or copies. -/
def State.setBank (s : State) (b role l : Nat) : State :=
  ((s.wr (pageVB b) R.VB.VB_STAT_ROLE role).wr (pageVB b) R.VB.VB_STAT_LOGICAL l).wr (pageVB b) R.VB.VB_STAT_POOL (b2n (decide (l ≥ 24)))

/-- The copy of a bank in service to a spare begins (R296). Log 55 (DEDUCED; unsafe). -/
def State.bankCopy (s : State) (src spare : Nat) : State :=
  (s.setBank spare bCopying (s.bankLogical src)).wr (pageVB spare) R.VB.VB_COPY 0

/-- The words that a copy begun at `since` has copied: one in every 16 core cycles, 16,384 in all (R296, R319). -/
def State.wordsCopied (s : State) (since : Nat) : Nat := min 16384 ((s.up - since) * 9 / 128)

/-- Moves time to the end of a copy begun at `since`: 262,144 core cycles (R296). -/
def State.toCopyEnd (s : State) (since : Nat) : State := s.advance (since + 233017 - s.up)

/-- The logical bank of a cell, its size, and the first of a frame's cells in a logical bank: the octet at which it begins, and its size
(R295). -/
def ptrBank (c : Nat) : Nat := if c < 2 ^ 18 then c / 8192 else 24 + (c - 2 ^ 18) / 2048
def ptrSize (c : Nat) : Nat := if c < 2 ^ 18 then 128 else 512
def cellIn (l : Nat) : List Nat → Nat → Option (Nat × Nat)
  | [], _ => none
  | c :: cs, n => if ptrBank c = l then some (n, ptrSize c) else cellIn l cs (n + ptrSize c)

/-- A word of a frame that the copy of logical bank `l` found uncorrectable, which is free, stays so in the spare, and a later read of it
meets it (R296, R309). -/
def Frame.copied (f : Frame) (l : Nat) (found : Option Nat) : Frame :=
  match f.hurt, cellIn l f.cells 0, found with
  | none, some (o, n), some x => { f with hurt := some (l, o + x % n) }
  | _, _, _ => f

/-- The copy of a bank in service ends: its logical bank moves to the spare, and SPARE and COPY_DONE are raised (R296, R319).
Log 116 (DESIGN CHOICE; safe). Log 55 (DEDUCED; unsafe). -/
def State.bankSwap (s : State) (src spare : Nat) : State :=
  let l := s.bankLogical src
  let s : State := { s with frames := s.frames.map (fun e => (e.1, e.2.copied l (Config.copyFound s.free e.1))), free := s.free + 1 }
  let s := (s.setBank spare bInService l).wr (pageVB spare) R.VB.VB_COPY 16384
  let s := s.wr (pageVB src) R.VB.VB_STAT_ROLE bRetired
  let s := (s.raiseHdr (pageVB src) hSpare).raiseHdr (pageVB spare) hSpare
  s.raise (pageVB spare) 0

/-! ### Wear indices (R383) -/

/-- The kinds of slice of R385: 0 Vat bank, 1 TDC line, 2 slicer set, 3 engine, 4 table row; by the page they are reported on. -/
def wearKind (page : Nat) : Option Nat :=
  match pageBlk page with
  | some .vat => some 0
  | some .tdc => some 1
  | some .port => some 2
  | some .eng => some 3
  | some .mact | some .lpm | some .shadow | some .voq | some .gate | some .cad | some .gw => some 4
  | _ => none

/-- The monitors of R388. -/
def mCorrected : Nat := 1
def mParity : Nat := 2
def mUncorr : Nat := 3
def mTap : Nat := 4
def mLoop : Nat := 5
def mOffset : Nat := 6
def mSlicer : Nat := 7
def mSelfTest : Nat := 8

def wearKey (page slice monitor : Nat) : Nat := page * 2 ^ 24 + slice * 16 + monitor

/-- The wear index of a slice: the worst that a monitor gives it. Log 66 (DESIGN CHOICE; unsafe). -/
def State.wearIndex (s : State) (page slice : Nat) : Nat :=
  (List.range 9).foldl (fun a m => max a (look 0 s.wear (wearKey page slice m))) 0

/-- The worst index of a page and the lowest slice that has it, `HDR_WEAR`. -/
def State.worst (s : State) (page : Nat) : Nat × Nat :=
  s.wear.foldl (fun a e => if e.1 / 2 ^ 24 = page ∧ e.2 > a.1 then (e.2, e.1 % 2 ^ 24 / 16) else a) (0, 0)

def State.setWear (s : State) (page index slice : Nat) : State :=
  (s.wr page R.HDR.HDR_WEAR_INDEX index).wr page R.HDR.HDR_WEAR_SLICE slice

/-- `HDR_WEAR` of the block, and of the page of a Vat bank (R383, R385). -/
def State.showWear (s : State) (page slice : Nat) : State :=
  let s := s.setWear page (s.worst page).1 (s.worst page).2
  if page = pageVat ∧ slice < 36 then s.setWear (pageVB slice) (s.wearIndex page slice) slice else s

/-! ### Spares (R385) -/

/-- Entries of a table (R270, R272, R281–R283). -/
def tabSize (t : Nat) : Nat := match t with | 1 => 131072 | 2 => 4096 | 3 => 4096 | 4 => 32768 | 5 => 8192 | 6 => 65536 | 7 => 65536 | _ => 0

/-- The table RAMs reported on a page, by their rows, a row being one entry (DESIGN CHOICE): the MAC and group tables, the
next-hop and route tables, the shadow slots, the queues, the gate entries, the cadence sources and the templates.
Log 66 (DESIGN CHOICE; unsafe). -/
def rowRams (page : Nat) : List Nat :=
  match pageBlk page with
  | some .mact => [tabSize 1, tabSize 2]
  | some .lpm => [tabSize 3, tabSize 4, tabSize 5, tabSize 6, tabSize 7]
  | some .shadow => [4096]
  | some .voq => [48 * 6144]
  | some .gate => [48 * 2 * 256]
  | some .cad => List.replicate 13 8192
  | some .gw => [512]
  | _ => []

/-- The rows of the tables of a page, and the spare rows beside them, 1/32 of each RAM's (R385). -/
def tableRows (page : Nat) : Nat := (rowRams page).sum
def spareRows (page : Nat) : Nat := ((rowRams page).map (· / 32)).sum

/-- The part of a list of sizes that holds number `x`. -/
def partOf (ns : List Nat) (x : Nat) : Nat := ((List.range ns.length).find? (fun j => decide (x < (ns.take (j + 1)).sum))).getD 0

/-- The numbers of the spare rows of the RAM that holds physical row `x` of a page; the spare rows follow the tables' rows, RAM by RAM.
Log 66 (DESIGN CHOICE; unsafe). -/
def ramSpares (page x : Nat) : List Nat :=
  let ns := rowRams page
  let m := tableRows page
  let j := if x < m then partOf ns x else partOf (ns.map (· / 32)) (x - m)
  (List.range (ns.getD j 0 / 32)).map (fun i => m + ((ns.map (· / 32)).take j).sum + i)

/-- The slices of a page that the Cave watches, the spares among them (R383, R385). -/
def sliceCount (page : Nat) : Nat :=
  match wearKind page with
  | some 0 => 36
  | some 1 => 5
  | some 2 => 2
  | some 3 => 9
  | some _ => tableRows page + spareRows page
  | none => 0

/-- `HDR_SPARE_STAT.TOTAL`. -/
def spareTotal (page : Nat) : Nat :=
  match wearKind page with
  | some 0 => 4
  | some 4 => 15
  | some _ => 1
  | none => 0

/-- The spare rows of a page in use, a worn one that another has replaced among them. -/
def State.rowsUsed (s : State) (page : Nat) : Nat := (s.rowMap.filter (fun e => e.1 / 2 ^ 20 == page)).length

/-- USED of a page whose spares are rows: the share used in sixteenths, rounded up, saturating at 15 (R385). -/
def State.rowShare (s : State) (page : Nat) : Nat := min 15 ((16 * s.rowsUsed page + spareRows page - 1) / spareRows page)

/-- A row of a page has been replaced by a spare; a spare row serves in the place of another. -/
def State.rowReplaced (s : State) (page slice : Nat) : Bool := s.rowMap.any (fun e => e.1 == page * 2 ^ 20 + slice)
def State.rowServes (s : State) (page slice : Nat) : Bool := s.rowMap.any (fun e => e.1 / 2 ^ 20 == page && e.2 == slice + 1)

/-- A record holds a swap that has not ended: AWAITING, QUEUED or COPYING. -/
def SwapRec.live (r : SwapRec) : Bool := decide (1 ≤ r.state ∧ r.state ≤ 3)

def State.swapRec (s : State) (i : Nat) : SwapRec := look {} s.swaps i
def State.onSwap (s : State) (i : Nat) (f : SwapRec → SwapRec) : State := { s with swaps := upd {} s.swaps i f }

/-- The record of the slot that `CAVE_SWAP_SEL` names is latched for `CAVE_SWAP_D0`, `CAVE_SWAP_D1` and `CAVE_SWAP_T`, as that register is
written and as D0 is read (R388). Log 115 (DESIGN CHOICE; unsafe). -/
def State.caveLatch (s : State) : State := { s with caveRead := s.swapRec (s.rd pageCave R.CAVE.CAVE_SWAP_SEL) }

/-- A spare that a live record has picked. -/
def State.sparePicked (s : State) (page spare : Nat) : Bool := s.swaps.any (fun e => e.2.live && e.2.page == page && e.2.spare == spare)

/-- The slices of a page that stand as spares. -/
def State.spares (s : State) (page slice : Nat) : List Nat :=
  match wearKind page with
  | some 0 => (List.range 36).filter (fun b => s.bankRole b == bSpare)
  | some 1 => if s.rd page R.TDC.TDC_STAT_SPARE_FOR = 7 then [4] else []
  | some 2 => if (look ({} : Lane) s.lanes (page - pagePort 0)).retired = 0 then [1 - slice] else []
  | some 3 => if s.flag pageEngc R.ENG.ENG_STAT_SPARE_IN_USE then [] else [8]
  | some _ => (ramSpares page slice).filter (fun i => !s.rowServes page i)
  | none => []

/-- The spare with the lowest index among those below SWAP_AT (R384); among equals the lowest number. -/
def State.pickSpare (s : State) (page slice : Nat) : Option Nat :=
  let at_ := s.rd pageCave R.CAVE.CAVE_CTL_SWAP_AT
  let idx (x : Nat) : Nat := s.wearIndex page x
  ((s.spares page slice).filter (fun x => decide (idx x < at_) && !s.sparePicked page x)).foldl
    (fun a x => match a with | none => some x | some b => if idx x < idx b then some x else some b) none

/-- The slice serves: a spare that waits and a retired slice do not fall due. -/
def State.sliceServes (s : State) (page slice : Nat) : Bool :=
  match wearKind page with
  | some 0 => s.bankRole slice == bInService
  | some 1 => let x := s.rd page R.TDC.TDC_STAT_SPARE_FOR
              if slice = 4 then x != 7 else decide (slice < 4) && slice != x
  | some 2 => decide (slice < 2) && !bitAt (look ({} : Lane) s.lanes (page - pagePort 0)).retired slice
  | some 3 => let u := s.flag pageEngc R.ENG.ENG_STAT_SPARE_IN_USE
              if slice = 8 then u else decide (slice < 8) && !(u && s.rd pageEngc R.ENG.ENG_STAT_SPARE_FOR == slice)
  | some _ => (decide (slice < tableRows page) || s.rowServes page slice) && !s.rowReplaced page slice
  | none => false

/-! ### Swap records (R384) -/

/-- The slot for a new record: an empty one, else that of the oldest record that has ended (DESIGN CHOICE).
Log 66 (DESIGN CHOICE; unsafe). -/
def State.swapSlot (s : State) : Option Nat :=
  match (List.range 16).find? (fun i => (s.swapRec i).state == 0) with
  | some i => some i
  | none => ((List.range 16).filter (fun i => !(s.swapRec i).live)).foldl (fun a i =>
      let age (j : Nat) : Nat := (s.swapNext + 256 - (s.swapRec j).number) % 256
      match a with
      | none => some i
      | some b => if age i > age b then some i else some b) none

/-- A QUEUED record starts: the copies of a bank, an engine and a row begin at once, and a worn slicer set in service has
the other set calibrated and swapped in (R296, R358, R385). Log 72 (DEDUCED; unsafe). -/
def State.swapQueue (s : State) (i : Nat) : State :=
  let r := s.swapRec i
  let s := s.onSwap i (fun r => { r with state := if r.kind = 0 ∨ r.kind = 3 ∨ r.kind = 4 then 3 else 2, since := s.up })
  if r.kind = 0 then s.bankCopy r.slice r.spare
  else if r.kind = 2 ∧ s.rd r.page R.PORT.PORT_STAT_SLICER_SET = r.slice then
    { s with lanes := upd {} s.lanes (r.page - pagePort 0) (fun l => { l with retiring := true, due := true }) }
  else s

/-- Writes the record of a slice that fell due, with its spare, into a slot (R384). -/
def State.swapRecord (s : State) (w : SwapWait) (spare i : Nat) : State :=
  let kind := (wearKind w.page).getD 0
  let forced := w.failing && s.flag pageCave R.CAVE.CAVE_CTL_FORCE_ON_FAIL
  let s := s.onSwap i (fun _ => { number := s.swapNext, state := 1, kind := kind, forced := forced, page := w.page, monitor := w.monitor,
                                  slice := w.slice, spare := spare, t := w.t })
  let s : State := { s with swapNext := (s.swapNext + 1) % 256 }
  if forced ∨ bitAt (s.rd pageCave R.CAVE.CAVE_CTL_AUTO) kind then s.swapQueue i
  else (s.raiseHdr w.page hSpare).raise pageCave 0

/-- No usable spare is left: the slice stays in service (R386). -/
def State.exhausted (s : State) (page : Nat) : State :=
  let s := s.raise pageCave 2
  if s.flag page R.HDR.HDR_STATUS_FAULT ∧ (s.rd page R.HDR.HDR_STATUS_FAULT_CODE = 1 ∨ s.rd page R.HDR.HDR_STATUS_FAULT_CODE = 2) then s
  else s.setFault page 3

/-- A slice falls due for a swap (R384, R386). -/
def State.swapDue (s : State) (w : SwapWait) : State :=
  if ¬ s.sliceServes w.page w.slice ∨ s.swaps.any (fun e => e.2.live && e.2.page == w.page && e.2.slice == w.slice) then s else
  match s.pickSpare w.page w.slice with
  | none => s.exhausted w.page
  | some x => match s.swapSlot with
    | none => if s.swapWait.any (fun v => v.page == w.page && v.slice == w.slice) then s else { s with swapWait := s.swapWait ++ [w] }
    | some i => s.swapRecord w x i

/-- A slot has come free: the slice that has waited longest and still falls due is recorded, and the others wait on (R384). -/
def State.swapPump (s : State) : State := s.swapWait.foldl (fun a w => a.swapDue w) { s with swapWait := [] }

/-- A swap has taken effect: the record is DONE, SPARE and SWAP_DONE are raised and USED counts it (R385). -/
def State.swapDone (s : State) (i : Nat) : State :=
  let r := s.swapRec i
  let s := s.onSwap i (fun r => { r with state := 4 })
  let s := (s.raiseHdr r.page hSpare).raise pageCave 1
  let s := s.inc pageCave R.CAVE.CAVE_STAT_SWAPS
  let s := s.wr r.page R.HDR.HDR_SPARE_STAT_USED (if r.kind = 4 then s.rowShare r.page
    else satNat 4 (s.rd r.page R.HDR.HDR_SPARE_STAT_USED + 1))
  (s.finishOp 0x49 r.number stOk 0 0).swapPump

/-- A live record ends CANCELLED (R385). -/
def State.swapCancel (s : State) (i : Nat) : State :=
  ((s.onSwap i (fun r => { r with state := 5 })).finishOp 0x49 (s.swapRec i).number stWrongState 0 0).swapPump

/-- A monitor sets a slice's index: WEAR_WARN as it first reaches half of SWAP_AT, and a swap falls due as it reaches
SWAP_AT, or at a later report where a swap has not come of it and a spare stands ready (R383, R384). Log 66 (DESIGN CHOICE; unsafe). -/
def State.wearSet (s : State) (page slice monitor index : Nat) (failing : Bool) : State :=
  if ¬ s.flag pageCave R.CAVE.CAVE_CTL_EN ∨ sliceCount page ≤ slice ∨ s.pageOff page then s else
  let at_ := s.rd pageCave R.CAVE.CAVE_CTL_SWAP_AT
  let before := s.wearIndex page slice
  let s : State := { s with wear := put 0 s.wear (wearKey page slice monitor) (min 255 index) }
  let now := s.wearIndex page slice
  let s := (s.showWear page slice).raiseIf (decide (2 * before < at_ ∧ at_ ≤ 2 * now)) pageCave 3
  if at_ ≤ now ∧ (before < at_ ∨ (s.pickSpare page slice).isSome) then s.swapDue ⟨page, slice, monitor, failing, s.sec % 2 ^ 32⟩ else s

/-- A failing condition sets the index to 255 at once (R383). -/
def State.wearFail (s : State) (page slice monitor : Nat) : State := s.wearSet page slice monitor 255 true

/-- The monitor that gives a slice its index. -/
def State.wearMonitor (s : State) (page slice : Nat) : Nat :=
  ((List.range 9).find? (fun m => look 0 s.wear (wearKey page slice m) == s.wearIndex page slice)).getD 0

/-- The slices of a page whose index stands at SWAP_AT or above and below `was` fall due, one at 255 as through a failing condition (R384).
Log 66 (DESIGN CHOICE; unsafe). -/
def State.wearAgain (s : State) (page was : Nat) : State :=
  if ¬ s.flag pageCave R.CAVE.CAVE_CTL_EN ∨ s.pageOff page then s else
  let slices := ((s.wear.filter (fun e => e.1 / 2 ^ 24 == page)).map (fun e => e.1 % 2 ^ 24 / 16)).dedup
  slices.foldl (fun a x =>
    let i := s.wearIndex page x
    if s.rd pageCave R.CAVE.CAVE_CTL_SWAP_AT ≤ i ∧ i < was then a.swapDue ⟨page, x, s.wearMonitor page x, i == 255, s.sec % 2 ^ 32⟩ else a) s

/-- The index words of a page are shown again, and what is worn falls due again, as its domain starts up with no spare in use (R383–R385). -/
def State.wearStartUp (s : State) (page : Nat) : State :=
  let s := s.setWear page (s.worst page).1 (s.worst page).2
  let s := if page = pageVat then s.each 36 (fun b a => a.setWear (pageVB b) (s.wearIndex page b) b) else s
  s.wearAgain page 256

end Sys2Proof.Machine
end

