-- ==== Sys2Proof/Machine/Engines.lean ====
section
/-! DEFINITION. The engine cluster: images, tasks, dispatch, mailboxes and the shared memory (R346–R358). -/

namespace Sys2Proof.Machine

open Sys2Proof

/-- The task states of `TASK_STAT.STATE` (R351). -/
def tkEmpty : Nat := 0
def tkLoaded : Nat := 1
def tkWaiting : Nat := 2
def tkRunnable : Nat := 3
def tkRunning : Nat := 4
def tkStopping : Nat := 5
def tkFaulted : Nat := 6

def State.taskState (s : State) (e t : Nat) : Nat := s.rdI (pageEng e) R.ENGE.TASK_STAT_STATE t
def State.setTask (s : State) (e t x : Nat) : State := s.wrI (pageEng e) R.ENGE.TASK_STAT_STATE t x

/-- Word `w` of the descriptor of a task (R350). -/
def State.taskDesc (s : State) (e t w : Nat) : Nat := s.rdI (pageEng e) R.ENGE.TASK_DESC (4 * t + w)

/-- The inbound mailbox of a task. -/
def State.inbox (s : State) (e t : Nat) : List Msg := look [] (s.eng e).inbox t

/-- Changes the inbound mailbox of a task. -/
def State.setInbox (s : State) (e t : Nat) (l : List Msg) : State := s.onEng e (fun g => { g with inbox := put [] g.inbox t l })

/-- The octets a message takes in a mailbox (R354). -/
def Msg.size (m : Msg) : Nat := 8 + (m.len + 3) / 4 * 4

/-- The octets some messages take. -/
def msgsSize (l : List Msg) : Nat := (l.map Msg.size).sum

/-- A message fits into the open inbound mailbox of a task (R351, R352, R354). -/
def State.fits (s : State) (e t : Nat) (m : Msg) : Bool :=
  bitAt (s.eng e).opened t && decide (msgsSize (s.inbox e t) + m.size ≤ bits (s.taskDesc e t 1) 0 16)

/-- A message enters a task's inbound mailbox, which wakes a waiting task (R351, R354). -/
def State.enqueueMsg (s : State) (e t : Nat) (m : Msg) : State :=
  let s := (s.setInbox e t (s.inbox e t ++ [m])).event 0x2A e 1
  let s := s.emit (.message e t (m.len + m.src * 2 ^ 16 + m.typ * 2 ^ 24) m.tag m.payload)
  if s.taskState e t = tkWaiting then s.setTask e t tkRunnable else s

/-- A message from an engine or the device reaches a task, or is dropped and counted (R354). -/
def State.deliverMsg (s : State) (e t : Nat) (m : Msg) : State :=
  if s.fits e t m then s.enqueueMsg e t m else (s.inc (pageEng e) R.ENGE.ENG_CNT_MBX_DROP).raise (pageEng e) 1

def execMailboxMessageArrival (e t src : Nat) (m : Mail) (s : State) : Host.Outcome State Fault Refusal :=
  done (s.deliverMsg (e % 8) (t % 16) { src := src, typ := m.typ, tag := m.tag, len := m.len, payload := m.payload })

/-- A trapped frame reaches task 0 of an engine, with its receive record ahead of it where it has one; what exceeds
2,040 octets is cut, and TYPE shows it in bit 7 (R356). -/
def State.trapToEngine (s : State) (e reason port : Nat) (l : List Byte) : State :=
  let cut := l.take 2040
  let words := (List.range ((cut.length + 3) / 4)).map (fun i => BitVec.ofNat 32 (beVal ((octets cut (4 * i) 4).reverse)))
  s.deliverMsg e 0 { src := 0x20, typ := reason + (if l.length > 2040 then 128 else 0), tag := port, len := cut.length, payload := words }

/-- A class is eligible at the level in force (R353). -/
def State.classOk (s : State) (c : Nat) : Bool :=
  let ceil := if c = 0 then 7 else bits (s.rd pageEngc R.ENG.ENG_CLASS_MAX_HIGHER) (3 * (c - 1)) 3
  decide (s.rd pageEngc R.ENG.ENG_STAT_LEVEL ≤ ceil)

/-- The budget class and the priority of a task (R350). -/
def State.taskClass (s : State) (e t : Nat) : Nat := bits (s.taskDesc e t 0) 20 3
def State.taskPrio (s : State) (e t : Nat) : Nat := bits (s.taskDesc e t 0) 16 4

/-- `TASK_STAT.HELD` (R353). -/
def State.taskHeld (s : State) (e t : Nat) : Bool := s.taskState e t == tkRunnable && !s.classOk (s.taskClass e t)

/-- The task the engine runs, if one does. -/
def State.running (s : State) (e : Nat) : Option Nat :=
  if s.flag (pageEng e) R.ENGE.ENG_E_STAT_RUNNING then some (s.rd (pageEng e) R.ENGE.ENG_E_STAT_TASK) else none

/-- A task wants its engine: it is RUNNABLE, or it drains its inbound mailbox (R351, R352). -/
def State.wantsEngine (s : State) (e t : Nat) : Bool :=
  s.taskState e t == tkRunnable || (s.taskState e t == tkStopping && !(s.inbox e t).isEmpty)

/-- The eligible task of highest priority that wants the engine, among equals in slot order after the task that ran last (R352, R353). -/
def State.pickTask (s : State) (e : Nat) : Option Nat :=
  let order := (List.range 16).map (fun i => ((s.eng e).last + 1 + i) % 16)
  order.foldl (fun a t =>
    if ¬ s.wantsEngine e t ∨ ¬ s.classOk (s.taskClass e t) then a
    else match a with
    | none => some t
    | some b => if s.taskPrio e t > s.taskPrio e b then some t else a) none

/-- The dispatcher gives a free engine to a task; one that drains stays STOPPING, and in the Reset and Oscillator wait phases the engines
stand (R15, R351–R353). -/
def execDispatch (e : Nat) (s : State) : Host.Outcome State Fault Refusal :=
  let e := e % 8
  done (
    if s.phase = .reset ∨ s.phase = .oscWait then s else
    match s.running e, s.pickTask e with
    | none, some t =>
      let s := if s.taskState e t = tkRunnable then s.setTask e t tkRunning else s
      (((s.event 0x27 e 1).wr (pageEng e) R.ENGE.ENG_E_STAT_TASK t).wr (pageEng e) R.ENGE.ENG_E_STAT_RUNNING 1).onEng e (fun g => { g with last := t })
    | _, _ => s)

/-- The engine becomes free. -/
def State.engFree (s : State) (e : Nat) : State := s.wr (pageEng e) R.ENGE.ENG_E_STAT_RUNNING 0

/-- A task's messages enter the outbound queue while its outbound mailbox has room (R350, R354, R355). -/
def State.sendOut (s : State) (e t : Nat) (ms : List Mail) : State :=
  ms.foldl (fun s m =>
    let x : Msg := { src := 0x10 + e, typ := m.typ, tag := m.tag, len := m.len, payload := m.payload }
    let mine := ((s.eng e).outq.filter (fun q => q.1 == t)).map (fun q => q.2)
    if msgsSize mine + x.size ≤ bits (s.taskDesc e t 1) 16 16 then
      (s.onEng e (fun g => { g with outq := g.outq ++ [(t, x)] })).raise (pageEng e) 0
    else s) s

/-- What a run of a task did: `taken` messages read from its inbound mailbox, and messages sent to the host (R351, R355). -/
def State.ranTask (s : State) (e t taken : Nat) (sent : List Mail) : State :=
  (s.setInbox e t ((s.inbox e t).drop taken)).sendOut e t sent

/-- A running task gives up its engine; a task that is being stopped stays STOPPING (R351). -/
def State.leave (s : State) (e x taken : Nat) (sent : List Mail) : State :=
  match s.running e with
  | none => s
  | some t =>
    let s := (s.ranTask e t taken sent).engFree e
    if s.taskState e t = tkRunning then s.setTask e t x else s

/-- Log 13 (DESIGN CHOICE; safe). -/
def execTaskSliceEnd (e taken : Nat) (sent : List Mail) (s : State) : Host.Outcome State Fault Refusal :=
  done (s.leave (e % 8) tkRunnable taken sent)

def execTaskYield (e taken : Nat) (sent : List Mail) (s : State) : Host.Outcome State Fault Refusal :=
  done (s.leave (e % 8) tkRunnable taken sent)

/-- A running task waits on a timer, or on its mailbox, which it has emptied (R351). -/
def State.waitTask (s : State) (e : Nat) (timer : Bool) (sent : List Mail) : State :=
  match s.running e with
  | none => s
  | some t =>
    let n := if timer then 0 else (s.inbox e t).length
    (s.onEng e (fun g => { g with timers := if timer then g.timers ||| 2 ^ t else g.timers - bits g.timers t 1 * 2 ^ t })).leave e tkWaiting n sent

def execTaskWait (e : Nat) (timer : Bool) (sent : List Mail) (s : State) : Host.Outcome State Fault Refusal :=
  done (s.waitTask (e % 8) timer sent)

/-- A timer that a waiting task set expires (R351). -/
def State.timerExpired (s : State) (e t : Nat) : State :=
  if s.taskState e t = tkWaiting ∧ bitAt (s.eng e).timers t then
    (s.onEng e (fun g => { g with timers := g.timers - 2 ^ t })).setTask e t tkRunnable
  else s

def execTaskTimerExpiry (e t : Nat) (s : State) : Host.Outcome State Fault Refusal := done (s.timerExpired (e % 8) (t % 16))

/-- A RUNNING task is faulted for the reason of `TASK_STAT.FAULT_CODE`; the other tasks continue. A task that is being stopped stands in a state
for which R351 lists no fault, which leaves it as it is (R12, R351). -/
def State.taskFault (s : State) (e code : Nat) : State :=
  match s.running e with
  | none => s
  | some t => if s.taskState e t ≠ tkRunning then s else (((s.engFree e).setTask e t tkFaulted).wrI (pageEng e) R.ENGE.TASK_STAT_FAULT_CODE t code).raise (pageEng e) 2

/-- What a task did is a fault: of reason 2 an access to a shared region, whose number stands above the reason's four bits, that the mask of its
engine leaves out (R351, R357). Log 106 (DESIGN CHOICE; safe). -/
def State.faultable (s : State) (e code : Nat) : Bool :=
  decide (1 ≤ code % 16 ∧ code % 16 ≤ 3) && (code % 16 != 2 || !bitAt (s.rdI pageEngc R.ENG.ENG_SH_MASK e) (code / 16 % 16))

/-- A task accesses memory or executes an undefined operation; an access that its mask permits is no fault (R351, R357). -/
def execTaskFault (e code : Nat) (s : State) : Host.Outcome State Fault Refusal :=
  done (if s.faultable (e % 8) code then s.taskFault (e % 8) (code % 16) else s)

/-! ### Starting and stopping tasks -/

/-- A LOADED task starts: its inbound mailbox opens and it is WAITING (R351). -/
def State.openTask (s : State) (e t : Nat) : State := (s.onEng e (fun g => { g with opened := g.opened ||| 2 ^ t })).setTask e t tkWaiting

def State.startTaskStart (k : Cmd) (s : State) : State :=
  let e := k.arg 0
  let t := k.arg 1
  let s := s.fly k
  if s.taskState e t = tkLoaded then (s.openTask e t).finishSt k stOk else s.finishSt k stWrongState

/-- The inbound mailbox of a task closes (R352). -/
def State.closeTask (s : State) (e t : Nat) : State := s.onEng e (fun g => { g with opened := g.opened - bits g.opened t 1 * 2 ^ t })

/-- The mailboxes of a FAULTED task are emptied and counted, it returns to LOADED, and its TASK_STOP completes (R351). -/
def State.stopFaulted (s : State) (k : Cmd) : State :=
  let e := k.arg 0
  let t := k.arg 1
  let n := (s.inbox e t).length + ((s.eng e).outq.filter (fun q => q.1 == t)).length
  let s := ((s.onEng e (fun g => { g with outq := g.outq.filter (fun q => q.1 != t), outIdx := 0 })).setInbox e t []).closeTask e t
  ((s.setTask e t tkLoaded).wrI (pageEng e) R.ENGE.TASK_STAT_FAULT_CODE t 0).finish k (if n = 0 then stOk else stDiscard) 0 n 0

/-- A stopping task returns to LOADED; messages still queued are discarded and counted, and its TASK_STOP completes (R352). -/
def State.stopEnds (s : State) (k : Cmd) : State :=
  let e := k.arg 0
  let t := k.arg 1
  let n := (s.inbox e t).length
  let s := if s.running e = some t then s.engFree e else s
  let s := ((s.setInbox e t []).closeTask e t).setTask e t tkLoaded
  s.finish k (if n = 0 then stOk else stDiscard) 0 n 0

/-- TASK_STOP: a drain or a discard; a FAULTED task's mailboxes are emptied and counted and it completes at once (R351, R352). -/
def State.startTaskStop (k : Cmd) (s : State) : State :=
  let e := k.arg 0
  let t := k.arg 1
  let st := s.taskState e t
  let s := s.fly k
  if st = tkFaulted then s.stopFaulted k
  else if st = tkWaiting ∨ st = tkRunnable ∨ st = tkRunning then
    let s := (s.closeTask e t).setTask e t tkStopping
    if k.arg 2 % 4 = 1 ∨ s.inbox e t = [] then s.stopEnds k else s
  else s.finishSt k stWrongState

/-- A drain of a task ends: its mailbox is empty, or the limit passed, and what the mailbox still holds is discarded (R352). -/
def execTaskDrainEnd (e t : Nat) (limit : Bool) (s : State) : Host.Outcome State Fault Refusal :=
  let e := e % 8
  let t := t % 16
  done (
    match s.cmds.find? (fun k => k.op == 0x3A && k.started && k.arg 0 == e && k.arg 1 == t) with
    | some k => if s.taskState e t ≠ tkStopping ∨ ¬ (limit ∨ s.inbox e t = []) then s
      else (if limit then s.toLimit k (k.arg 3 * 1000) else s).stopEnds k
    | none => s)

/-! ### Images -/

/-- A little-endian word of an image. Log 46 (DESIGN CHOICE; unsafe). -/
def leWord (l : List Byte) (i : Nat) : Nat := beVal ((octets l i 4).reverse)

/-- The 16 task slots return to EMPTY and the engine holds no image (R349). -/
def State.wipeEngine (s : State) (e : Nat) : State :=
  let p := pageEng e
  let s := s.onEng e (fun g => { g with code := [], data := [], byHost := false, inbox := [], opened := 0, outq := [], outIdx := 0, timers := 0 })
  let s := s.each 16 (fun t a => (a.setTask e t tkEmpty).wrI p R.ENGE.TASK_STAT_FAULT_CODE t 0)
  let s := s.each 64 (fun i a => a.wrI p R.ENGE.TASK_DESC i 0)
  (((s.wr p R.ENGE.ENG_E_STAT_IMAGE 0).wr p R.ENGE.ENG_E_STAT_KEY 0).wr p R.ENGE.ENG_E_STAT_TASKS 0).wr p R.ENGE.ENG_IMG_VER 0

/-- A task descriptor of an image keeps its layout (R350). -/
def descOk (code w0 w1 : Nat) : Bool :=
  decide (bits w0 0 16 % 4 = 0 ∧ bits w0 0 16 < code ∧ bits w0 24 8 ≥ 1) &&
  decide (bits w1 0 16 % 64 = 0 ∧ bits w1 0 16 ≥ 2048 ∧ bits w1 16 16 % 64 = 0 ∧ bits w1 16 16 ≥ 2048)

/-- The fields of an image (R348). -/
def imgTasks (l : List Byte) : Nat := bits (leWord l 0x0C) 0 5
def imgCode (l : List Byte) : Nat := leWord l 0x10
def imgData (l : List Byte) : Nat := leWord l 0x14
def imgKey (l : List Byte) : Nat := bits (leWord l 0x18) 0 1

/-- The image agrees with R348 and R350, its length being `len`. -/
def imageOk (l : List Byte) (len : Nat) : Bool :=
  let n := imgTasks l
  decide (leWord l 0 = 0x4B454E47 ∧ bits (leWord l 4) 0 8 = 1) && decide (1 ≤ n ∧ n ≤ 16) &&
  decide (imgCode l % 4 = 0 ∧ imgCode l ≤ 65536 ∧ imgData l % 4 = 0) &&
  decide (len = 0x120 + imgCode l + imgData l + 64 ∧ l.length = len) &&
  (List.range n).all (fun t => descOk (imgCode l) (leWord l (0x20 + 16 * t)) (leWord l (0x24 + 16 * t))) &&
  decide (imgData l + ((List.range n).map (fun t => bits (leWord l (0x24 + 16 * t)) 0 16 + bits (leWord l (0x24 + 16 * t)) 16 16)).sum ≤ 65536)

/-- A task of the image names budget class 0. -/
def imageRigid (l : List Byte) : Bool := (List.range (imgTasks l)).any (fun t => bits (leWord l (0x20 + 16 * t)) 20 3 == 0)

/-- The order of the curve P-256. Log 124 (PRESUMED; safe). -/
def p256Order : Nat := 0xFFFFFFFF00000000FFFFFFFFFFFFFFFFBCE6FAADA7179E84F3B9CAC2FC632551

/-- The r and s that end an image lie in the range of an ECDSA P-256 signature (R348). Log 124 (PRESUMED; safe). -/
def sigInRange (l : List Byte) : Bool :=
  let r := beAt l (l.length - 64) 32
  let s := beAt l (l.length - 32) 32
  decide (1 ≤ r ∧ r < p256Order ∧ 1 ≤ s ∧ s < p256Order)

/-- The status with which a checked image is taken (R349): signature first, then its form. `signed` says that the signature which ends the image
is that of its digest under the key that the image names, which the spec does not give.
Log 47 (DEDUCED; unsafe). Log 124 (PRESUMED; safe). -/
def State.imageStatus (s : State) (e : Nat) (l : List Byte) (len : Nat) (signed : Bool) : Nat :=
  let cust := imgKey l == 1
  if ¬ signed ∨ ¬ sigInRange l ∨ (cust ∧ (e ≠ 7 ∨ ¬ s.flag pageLc R.LC.LC_STAT_KEY_SET)) then stSignature
  else if ¬ imageOk l len ∨ (cust ∧ imageRigid l) then stBadArg else stOk

/-- A verified image is loaded: descriptors copied, slots LOADED, and tasks with AUTOSTART started (R348–R351).
Log 46 (DESIGN CHOICE; unsafe). -/
def State.installImage (s : State) (e : Nat) (l : List Byte) : State :=
  let p := pageEng e
  let n := imgTasks l
  let s := s.wipeEngine e
  let s := s.onEng e (fun g => { g with code := octets l 0x120 (imgCode l), data := octets l (0x120 + imgCode l) (imgData l) })
  let s := s.each (4 * n) (fun i a => a.wrI p R.ENGE.TASK_DESC i (leWord l (0x20 + 4 * i)))
  let s := (((s.wr p R.ENGE.ENG_E_STAT_IMAGE 2).wr p R.ENGE.ENG_E_STAT_KEY (imgKey l)).wr p R.ENGE.ENG_E_STAT_TASKS n).wr p R.ENGE.ENG_IMG_VER (leWord l 8)
  let s := (s.each n (fun t a => a.setTask e t tkLoaded)).raise p 3
  s.each n (fun t a => if bitAt (leWord l (0x28 + 16 * t)) 0 then a.openTask e t else a)

/-- TASK_LOAD: the previous image is discarded and both memories wiped (R349). -/
def State.startTaskLoad (k : Cmd) (s : State) : State :=
  let e := k.arg 0
  let s := s.fly k
  if (List.range 16).any (fun t => decide (s.taskState e t ≥ tkWaiting ∧ s.taskState e t ≠ tkFaulted)) then s.finishSt k stWrongState
  else (s.wipeEngine e).wr (pageEng e) R.ENGE.ENG_E_STAT_IMAGE 1

/-- The image of a TASK_LOAD: read from host memory, `l`, for a PCIe context, and for one detached since, and from the shared
memory otherwise (R349). Log 47 (DEDUCED; unsafe). -/
def State.loadSource (s : State) (k : Cmd) (l : List Byte) : List Byte :=
  if k.ctx ≥ 4 ∨ s.kind k.ctx = kPcie then l
  else (List.range (k.arg 3)).map (fun i => BitVec.ofNat 8 ((look 0#32 s.shmem ((k.arg 1 + i) / 4)).toNat / 2 ^ (8 * ((k.arg 1 + i) % 4))))

/-- Verification of an image ends and TASK_LOAD completes (R349). -/
def execImageVerified (e : Nat) (image : List Byte) (signed : Bool) (s : State) : Host.Outcome State Fault Refusal :=
  let e := e % 8
  done (
    match s.findCmd 0x38 e with
    | none => s
    | some k =>
      let l := s.loadSource k image
      let st := s.imageStatus e l (k.arg 3) signed
      if st = stOk then ((s.installImage e l).onEng e (fun g => { g with byHost := true })).finish k stOk 0 (imgTasks l) (leWord l 8)
      else (s.wipeEngine e).finish k st (if st = stBadArg then 0xFF else 0) 0 0)

/-! ### The mailbox and shared-memory windows -/

/-- The number of payload words staged is shown (R360). -/
def State.showStaged (s : State) (e : Nat) : State := s.wr (pageEng e) R.ENGE.MBX_STAT_STAGED (s.eng e).staged.length

/-- `MBX_DATA` stages the next payload word; 510 words are the most a message holds (R354, R355). -/
def State.mbxStage (s : State) (e v : Nat) : State :=
  (s.onEng e (fun g => if g.staged.length < 510 then { g with staged := g.staged ++ [BitVec.ofNat 32 v] } else g)).showStaged e

/-- `MBX_PUSH.CLEAR` discards the staged words (R360). -/
def State.mbxClear (s : State) (e : Nat) : State := (s.onEng e (fun g => { g with staged := [] })).showStaged e

/-- `MBX_PUSH.PUSH` delivers the staged message whole, or refuses it with SHORT or FULL (R354, R355). -/
def State.mbxPush (s : State) (ctx e : Nat) : State :=
  let p := pageEng e
  let h := s.rd p R.ENGE.MBX_HDR
  let len := bits h 0 12
  let need := (len + 3) / 4
  let t := s.rd p R.ENGE.MBX_SEL
  let m : Msg := { src := ctx, typ := bits h 24 8, tag := s.rd p R.ENGE.MBX_TAG, len := len, payload := (s.eng e).staged.take need }
  let s := ((s.wr p R.ENGE.MBX_STAT_FULL 0).wr p R.ENGE.MBX_STAT_SHORT 0).wr p R.ENGE.MBX_PUSH_PUSH 0
  if (s.eng e).staged.length < need ∨ len > 2040 then s.wr p R.ENGE.MBX_STAT_SHORT 1
  else if ¬ s.fits e t m then s.wr p R.ENGE.MBX_STAT_FULL 1
  else (s.enqueueMsg e t m).mbxClear e

/-- `MBX_OUT_POP` removes the head outbound message (R355). -/
def State.mbxPop (s : State) (e : Nat) : State := s.onEng e (fun g => { g with outq := g.outq.drop 1, outIdx := 0 })

/-- The head outbound message's header word 0, and the next payload word (R355). -/
def State.outHdr (s : State) (e : Nat) : Nat :=
  match (s.eng e).outq with | q :: _ => q.2.len + q.2.src * 2 ^ 16 + q.2.typ * 2 ^ 24 | [] => 0
def State.outTag (s : State) (e : Nat) : Nat := match (s.eng e).outq with | q :: _ => q.2.tag | [] => 0
def State.outData (s : State) (e : Nat) : Nat :=
  match (s.eng e).outq with | q :: _ => (q.2.payload.getD (s.eng e).outIdx 0).toNat | [] => 0

/-- Reading `MBX_OUT_DATA` moves on to the next payload word (R355). -/
def State.outNextWord (s : State) (e : Nat) : State := s.onEng e (fun g => { g with outIdx := g.outIdx + 1 })

/-- The window address of the shared memory advances by 4 after each access to `SH_DATA` (R357). -/
def State.shNext (s : State) : State :=
  s.wr pageEshared R.ESHARED.SH_ADDR (s.rd pageEshared R.ESHARED.SH_ADDR + 1)

/-- The word at `SH_ADDR` (R359). -/
def State.shData (s : State) : Nat := (look 0#32 s.shmem (s.rd pageEshared R.ESHARED.SH_ADDR)).toNat

/-- A write of `SH_DATA` (R357). -/
def State.shWrite (s : State) (v : Nat) : State :=
  ({ s with shmem := put 0#32 s.shmem (s.rd pageEshared R.ESHARED.SH_ADDR) (BitVec.ofNat 32 v) } : State).shNext

end Sys2Proof.Machine
end

