-- ==== Sys2Proof/Machine/Frames.lean ====
section
/-! DEFINITION. Frames and the Vat: headers and check sequences, cells and their accounting, frame records, copies and virtual output queues (R244, R245, R294–R307). -/

namespace Sys2Proof.Machine

open Sys2Proof

/-! ### Headers -/

/-- The header of a frame as classification sees it (R266). -/
structure Hdr where
  da : Nat
  sa : Nat
  /-- the TCI of the outer tag -/
  tci : Option Nat
  /-- the tags found, at most two -/
  tags : Nat
  etype : Nat
  /-- where the octets after the EtherType begin -/
  off : Nat
  deriving DecidableEq, Repr

/-- A TPID of R244. -/
def isTpid (x : Nat) : Bool := x == 0x8100 || x == 0x88A8

/-- The header of a frame (R244, R266). -/
def hdrOf (l : List Byte) : Hdr :=
  let n := if ¬ isTpid (beAt l 12 2) then 0 else if ¬ isTpid (beAt l 16 2) then 1 else 2
  { da := beAt l 0 6, sa := beAt l 6 6, tci := if n = 0 then none else some (beAt l 14 2), tags := n
    etype := beAt l (12 + 4 * n) 2, off := 14 + 4 * n }

/-- The limit of a frame's length at a port (R244). -/
def State.limit (s : State) (p : Nat) (tags : Nat) : Nat := s.rd (pagePort p) R.PORT.MAC_MAXLEN + 4 * tags

/-! ### Check sequences -/

/-- One bit of the CRC-32, taken least significant first. -/
def crc32Bit (c : Nat) (b : Bool) : Nat := if (bitAt c 0 != b) then (c / 2) ^^^ 0xEDB88320 else c / 2

/-- The CRC-32 of some octets with an initial value and no final inversion (R270). Log 48 (DEDUCED; unsafe). -/
def crc32 (init : Nat) (l : List Byte) : Nat := l.foldl (fun c o => (bitsLsb 8 o.toNat).foldl crc32Bit c) init

/-- The FCS of a frame's octets (R244, R248). -/
def fcsOf (l : List Byte) : List Byte := leOct 4 (0xFFFFFFFF - crc32 0xFFFFFFFF l)

/-- The stomped FCS: the bitwise inverse of the CRC-32 (R248). -/
def stompOf (l : List Byte) : List Byte := leOct 4 (crc32 0xFFFFFFFF l)

/-- The octets of a frame ahead of its FCS. -/
def body (l : List Byte) : List Byte := l.take (l.length - 4)

/-- The last four octets of a frame. Log 49 (DEDUCED; unsafe). -/
def tailFcs (l : List Byte) : List Byte := l.drop (l.length - 4)

/-! ### Cells and accounting (R295–R302) -/

/-- The cost of a cell in units (R295, R301). -/
def cellCost (ptr : Nat) : Nat := if ptr < 2 ^ 18 then 1 else 4

/-- The octets a cell holds (R294). -/
def cellSize (ptr : Nat) : Nat := if ptr < 2 ^ 18 then 128 else 512

/-- The least number from `q` on that is no key of the store. Log 50 (DEDUCED; safe). -/
def firstGap {α : Type} : Store α → Nat → Nat
  | [], q => q
  | (k, _) :: m, q => if k < q then firstGap m q else if k = q then firstGap m (q + 1) else q

/-- The free cell that the allocator of Pool S or L gives, and the bank it lies in: banks in turn, the free cell of lowest
index within a bank (R298). -/
def State.findCell (s : State) (large : Bool) : Option (Nat × Nat) :=
  let n := if large then 8 else 24
  let size := if large then 2048 else 8192
  let first := if large then s.nextL else s.nextS
  let base := if large then 2 ^ 18 else 0
  ((List.range n).map (fun i => (first + i) % n)).findSome? (fun b =>
    let g := firstGap s.cells (base + b * size)
    if g < base + (b + 1) * size then some (g, b) else none)

/-- The free cells of a pool (R298). -/
def State.freeCells (s : State) (large : Bool) : Nat :=
  (if large then 16384 else 196608) - (s.cells.filter (fun c => decide (c.1 ≥ 2 ^ 18) == large)).length

/-- The charge of an owner, and its change (R301). -/
def State.charge (s : State) (o : Nat) : Nat :=
  if o < 48 then s.rdI pageVat R.VAT.VAT_CHARGE o else s.rd pageVat R.VAT.VAT_SYS_CHARGE
def State.setCharge (s : State) (o v : Nat) : State :=
  if o < 48 then s.wrI pageVat R.VAT.VAT_CHARGE o v else s.wr pageVat R.VAT.VAT_SYS_CHARGE v

def State.guar (s : State) (p : Nat) : Nat := s.rdI pageVat R.VAT.VAT_GUAR p

/-- SH, the size of the shared pool (R301). -/
def State.sharedSize (s : State) : Int :=
  262144 - ((List.range 48).map (fun p => (s.guar p : Int))).sum - s.rd pageVat R.VAT.VAT_SYS_RES

/-- U, the use of the shared pool (R301). -/
def State.sharedUsed (s : State) : Nat := ((List.range 48).map (fun p => s.charge p - s.guar p)).sum

/-- A cell of cost `c` is admitted for an owner (R302). -/
def State.admits (s : State) (o c : Nat) : Bool :=
  let x := s.charge o
  if o < 48 then
    decide (x + c ≤ s.rdI pageVat R.VAT.VAT_MAX o) &&
    (decide (x + c ≤ s.guar o) || decide (((x + c - max x (s.guar o) : Nat) : Int) ≤ s.sharedSize - s.sharedUsed))
  else decide (x + c ≤ s.rd pageVat R.VAT.VAT_SYS_RES)

/-- The MAC of a port. -/
def State.mac (s : State) (p : Nat) : Mac := look {} s.macs p
def State.onMac (s : State) (p : Nat) (f : Mac → Mac) : State := { s with macs := upd {} s.macs p f }

/-- Shows whether a port reports pressure, and makes a PAUSE due where it starts or ends, TX is in force and the link is UP (R254, R305). -/
def State.showPress (s : State) (p : Nat) : State :=
  let now := bitAt s.pressOwn p || bitAt s.pressShared p
  if s.flag (pagePort p) R.PORT.MAC_PAUSE_STAT_XOFF = now then s else
  let s := s.wr (pagePort p) R.PORT.MAC_PAUSE_STAT_XOFF (b2n now)
  if ¬ s.flag (pagePort p) R.PORT.MAC_PAUSE_STAT_TX_RES ∨ s.rd (pagePort p) R.PORT.PORT_STAT_LINK ≠ 7 then s else
  s.onMac p (fun m => { m with due := some (if now then s.rd (pagePort p) R.PORT.MAC_PAUSE_TX_QUANTA else 0) })

/-- Sets a bit of a mask. -/
def setBit (m i : Nat) (b : Bool) : Nat := m - bits m i 1 * 2 ^ i + b2n b * 2 ^ i

/-- The pressure of a port follows its charge (R305). -/
def State.pressOf (s : State) (p : Nat) : State :=
  let c := s.charge p
  let off := s.rdI pageVat R.VAT.VAT_PRESS_XOFF p
  let a := if off = 0 then false else if c ≥ off then true else if c ≤ s.rdI pageVat R.VAT.VAT_PRESS_XON p then false else bitAt s.pressOwn p
  let soff := s.rd pageVat R.VAT.VAT_SH_PRESS_XOFF
  let free := s.sharedSize - s.sharedUsed
  let b := if soff = 0 ∨ c ≤ s.guar p then false else if free ≤ soff then true
    else if free > s.rd pageVat R.VAT.VAT_SH_PRESS_XON then false else bitAt s.pressShared p
  ({ s with pressOwn := setBit s.pressOwn p a, pressShared := setBit s.pressShared p b } : State).showPress p

/-- The pressure of every port that a change of charge of owner `o` can touch (R305). -/
def State.refreshPress (s : State) (o : Nat) : State :=
  if s.rd pageVat R.VAT.VAT_SH_PRESS_XOFF ≠ 0 ∨ s.pressShared ≠ 0 then s.each 48 (fun p a => a.pressOf p)
  else if o < 48 then s.pressOf o else s

/-- Takes a cell for an owner: from the pool asked for, Pool S giving way to Pool L when it has none free (R297, R298, R302). -/
def State.takeCell (s : State) (o : Nat) (large : Bool) : Option (Nat × State) :=
  let large := large || (s.findCell false).isNone
  match s.findCell large with
  | none => none
  | some (ptr, b) =>
    if ¬ s.admits o (cellCost ptr) then none else
    let s : State := { s with cells := put 64 s.cells ptr o, nextS := if large then s.nextS else (b + 1) % 24, nextL := if large then (b + 1) % 8 else s.nextL }
    some (ptr, ((s.setCharge o (s.charge o + cellCost ptr)).refreshPress o).event 0x30 (if ptr < 2 ^ 18 then 0 else 1) 1)

/-- Frees a cell: its bit is set, its units return to the owner charged, and a Whey walk no longer holds it (R298, R301, R311). -/
def State.freeCell (s : State) (ptr : Nat) : State :=
  let o := look 64 s.cells ptr
  if o = 64 then s else
  let s : State := { s with cells := drop s.cells ptr, walk := s.walk.map (fun w => { w with cells := w.cells.erase ptr }) }
  (s.setCharge o (s.charge o - cellCost ptr)).refreshPress o

/-! ### Frame records -/

def State.hasFrame (s : State) (f : Nat) : Bool := s.frame f != noFrame
def State.setFrame (s : State) (f : Nat) (x : Frame) : State := { s with frames := put noFrame s.frames f x }
def State.onFrame (s : State) (f : Nat) (g : Frame → Frame) : State := s.setFrame f (g (s.frame f))

def State.onTx (s : State) (p : Nat) (f : Tx → Tx) : State := { s with txs := upd {} s.txs p f }

/-- The frame whose copy a port is sending. -/
def Tx.frame (x : Tx) : Option Nat := match x.kind with | .copy _ c => some c.frame | _ => none

/-- Some port is sending a copy of the frame. -/
def State.inTx (s : State) (f : Nat) : Bool := s.txs.any (fun e => e.2.frame == some f)

/-- The first number from `f` on that is no frame's: neither of a record nor of a copy still on the line (R290). Log 50 (DEDUCED; safe). -/
def State.freeRecord (s : State) (f : Nat) : Nat :=
  (((List.range (s.frames.length + s.txs.length + 1)).map (fun i => f + i)).find? (fun g => !s.hasFrame g && !s.inTx g)).getD f

/-- The frame has left or been dropped: fences no longer wait for it, unless a copy of it waits or is still on the line (R290). -/
def State.fenceFrame (s : State) (f : Nat) : State :=
  if s.inTx f ∨ (s.frame f).copies ≠ 0 then s else { s with fences := s.fences.map (fun x => { x with frames := x.frames.erase f }) }

/-- The slot of a frame's lookup, if it had one, falls into VOID, HOST or LINE once it is known what became of the frame (R365). -/
def State.slotOf (s : State) (f : Nat) : State :=
  let x := s.frame f
  match x.pipe with
  | some w => s.event (if x.bad ∨ x.refused then 0x12 else if x.host then 0x11 else 0x10) w 1
  | none => s

/-- Frees a frame's cells and record (R300). -/
def State.freeFrame (s : State) (f : Nat) : State :=
  let s := s.slotOf f
  let s := (s.frame f).cells.foldl (fun a c => a.freeCell c) s
  let s : State := { s with frames := drop s.frames f, walk := s.walk.map (fun w => { w with frames := w.frames.erase f }) }
  s.fenceFrame f

/-- Frees the cells of a frame that no copy holds any more, once it is COMPLETE or REFUSED and no decision is awaited;
its record goes when it has also ended on the line (R300). -/
def State.reap (s : State) (f : Nat) : State :=
  let x := s.frame f
  if x = noFrame ∨ x.copies ≠ 0 ∨ ¬ x.decided then s
  else if x.complete then s.freeFrame f
  else if x.refused then ((x.cells.foldl (fun a c => a.freeCell c) s).onFrame f (fun x => { x with cells := [] })).fenceFrame f
  else s.fenceFrame f

/-- Cells, frames and `n` copy records go out of reach: a walk in progress that had already followed them, which is free, holds them no more,
and one that had not holds the copy records as lost (R310, R311). Log 116 (DESIGN CHOICE; safe). -/
def State.outOfReach (s : State) (cells frames : List Nat) (n : Nat) : State :=
  match s.walk with
  | none => s
  | some w =>
    { s with
      free := s.free + 1
      walk := some (if Config.walkPast s.free then
          { w with cells := w.cells.filter (fun c => !cells.contains c), frames := w.frames.filter (fun f => !frames.contains f) }
        else { w with lost := w.lost + n }) }

/-- One copy of a frame leaves or is discarded (R300). -/
def State.copyGone (s : State) (f : Nat) : State :=
  if ¬ s.hasFrame f then s else (s.onFrame f (fun x => { x with copies := x.copies - 1 })).reap f

/-- Stores more octets of a frame in cells, taking cells as they are needed; `fuel` bounds their number. A refused later
cell sets REFUSED; the frame counts under its ingress port, which is that of its descriptor for one from a host or an engine (R257, R297, R302,
R303, R356). -/
def State.store (s : State) (f : Nat) : Nat → State
  | 0 => s
  | fuel + 1 =>
    let x := s.frame f
    if x.refused ∨ x.dropped then s else
    let room := (x.cells.map cellSize).sum
    if x.octets.length ≤ room then s.onFrame f (fun x => { x with stored := x.octets.length })
    else
      let large := match x.cells.getLast? with | some c => decide (c ≥ 2 ^ 18) | none => false
      match s.takeCell x.owner large with
      | some (ptr, s) => (s.onFrame f (fun x => { x with cells := x.cells ++ [ptr] })).store f fuel
      | none =>
        if x.cells = [] then
          let s := (if x.port < 48 then s.incI pageVat R.VAT.VAT_CNT_DROP x.port else s).raise pageVat 0
          s.onFrame f (fun x => { x with dropped := true, decided := true })
        else
          let s := (if x.port < 48 then s.incI pageVat R.VAT.VAT_CNT_TRUNC x.port else s).raise pageVat 0
          s.onFrame f (fun x => { x with refused := true, stored := room })

/-- Octets of a frame arrive; reception stops at its port's limit (R245). -/
def State.grow (s : State) (f : Nat) (l : List Byte) : State :=
  let x := s.frame f
  if x.tooLong ∨ x.complete then s else
  let all := x.octets ++ l
  let lim := if x.host then all.length else s.limit x.port (hdrOf all).tags
  let s := s.onFrame f (fun x => { x with octets := all.take lim, tooLong := decide (all.length > lim) })
  s.store f (l.length / 128 + 2)

/-! ### Ports and trunks as forwarding ports (R263) -/

/-- Trunk `n` is enabled: neither DISABLED nor in FALLBACK (R204). -/
def State.trunkOn (s : State) (n : Nat) : Bool :=
  let x := s.rd (pageNT n) R.NT.TRUNK_STAT_STATE
  x != 0 && x != 8

/-- Trunk `n` is UP. -/
def State.trunkUp (s : State) (n : Nat) : Bool := s.rd (pageNT n) R.NT.TRUNK_STAT_STATE == 7

/-- Port `p` is a lane of an enabled trunk. -/
def State.isLane (s : State) (p : Nat) : Bool := s.trunkOn (p / 4)

/-- A disable command of the port, or of the trunk it stands for, is in flight (R55). -/
def State.closing (s : State) (p : Nat) : Bool :=
  s.cmds.any (fun k => k.started && ((k.op == 0x21 && k.arg 0 == p) || (k.op == 0x23 && k.arg 0 == p / 4 && p % 4 == 0)))

/-- The forwarding port takes copies: it is enabled and not closed by a disable command (R55, R263, R267). -/
def State.takes (s : State) (p : Nat) : Bool :=
  decide (p < 48) && !s.closing p &&
  (if s.isLane p then p % 4 == 0 else s.rd (pagePort p) R.PORT.PORT_STAT_LINK != 0 && !s.flag (pagePort p) R.PORT.PORT_STAT_TEST)

/-- The forwarding port's link is UP; a port in test mode counts as disabled for switching (R177, R181, R201, R250). -/
def State.portUp (s : State) (p : Nat) : Bool :=
  if s.isLane p then s.trunkUp (p / 4) else s.rd (pagePort p) R.PORT.PORT_STAT_LINK == 7 && !s.flag (pagePort p) R.PORT.PORT_STAT_TEST

/-- The mode in force of a port (R169). -/
def State.mode (s : State) (p : Nat) : Nat := s.rd (pagePort p) R.PORT.PORT_STAT_MODE

/-- The line rate of a port in units of 10 Mbit/s; a trunk counts as 75 Gbit/s (R247). -/
def State.lineRate (s : State) (p : Nat) : Nat :=
  if s.isLane p then 7500 else
  match s.mode p with
  | 1 => 100
  | 2 | 3 => 1000
  | _ => 2500

/-! ### Queues (R306, R307) -/

/-- A leaf's number (R306). -/
def leafOf (port subscr svc : Nat) : Nat := port * 128 + subscr * 8 + svc
def leafSvc (leaf : Nat) : Nat := leaf % 8
def voqOf (ingress leaf : Nat) : Nat := ingress * 6144 + leaf
def voqIngress (v : Nat) : Nat := v / 6144

def State.onVoq (s : State) (v : Nat) (f : Voq → Voq) : State := { s with voqs := upd {} s.voqs v f }

/-- The copy records in use (R299). -/
def State.copyRecords (s : State) : Nat :=
  s.lostCopies + (s.voqs.map (fun e => e.2.copies.length)).sum + (s.hosts.map (fun e => e.2.rxq.length)).sum

/-- No copy record is free: the copy is not made, and is counted (R300). -/
def State.noCopy (s : State) : State := (s.inc pageVat R.VAT.VAT_CNT_NOCOPY).raise pageVat 1

/-- A copy of a frame for a leaf enters its VOQ; not if its port takes none, its VOQ is closed or no record is free
(R55, R267, R300, R306, R308). -/
def State.addCopy (s : State) (f leaf : Nat) (edit : Edit) : State :=
  let v := voqOf (s.frame f).port leaf
  if ¬ s.takes (leafPort leaf) then s
  else if ¬ (s.voq v).opened then s.inc pageVoq R.VOQ.VOQ_CNT_CLOSED
  else if s.copyRecords ≥ 262144 then s.noCopy
  else (s.onVoq v (fun q => { q with copies := q.copies ++ [{ frame := f, leaf := leaf, edit := edit }] })).onFrame f
    (fun x => { x with copies := x.copies + 1 })

/-- A copy of a frame for a host packet port is queued (R256, R300, R306). -/
def State.addHostCopy (s : State) (f c reason : Nat) (r : List Byte) : State :=
  if s.copyRecords ≥ 262144 then s.noCopy
  else (s.onHost c (fun h => { h with rxq := h.rxq ++ [{ frame := f, reason := reason, rec_ := r }] })).onFrame f
    (fun x => { x with copies := x.copies + 1 })

/-- The decision is made: with no copies the frame goes when it is complete. -/
def State.decideFrame (s : State) (f : Nat) : State := (s.onFrame f (fun x => { x with decided := true })).reap f

/-- The octets that a copy sends, without FCS, after its edits: the routed addresses and hop count, then the outer tag,
padded to 60 octets where a removed tag leaves fewer (R268, R284). -/
def tagEdit (l : List Byte) (e : TagEdit) : List Byte :=
  match e with
  | .keep => l
  | .strip => if (hdrOf l).tags = 0 then l else
      let m := l.take 12 ++ l.drop 16
      m ++ List.replicate (60 - m.length) 0#8
  | .set tci => if (hdrOf l).tags = 0 then l.take 12 ++ beOct 2 0x8100 ++ beOct 2 tci ++ l.drop 12 else setOct l 14 (beOct 2 tci)

/-- The ones'-complement sum of 16-bit words, most significant octet first. -/
def ocSum (l : List Byte) : Nat :=
  let t := (List.range ((l.length + 1) / 2)).foldl (fun a i => a + beAt (l ++ [0#8]) (2 * i) 2) 0
  if t = 0 then 0 else (t - 1) % 65535 + 1

/-- The IPv4 header checksum over a header whose checksum field is 0. -/
def ipSum (l : List Byte) : Nat := 65535 - ocSum l

/-- A routed frame: addresses from the next hop and the egress port, and one hop less, with the IPv4 header checksum
following (R284). -/
def routeEdit (l : List Byte) (da sa : Nat) : List Byte :=
  let h := hdrOf l
  let l := setOct (setOct l 0 (beOct 6 da)) 6 (beOct 6 sa)
  if h.etype = 0x0800 then
    let l := setOct l (h.off + 8) (beOct 1 (beAt l (h.off + 8) 1 - 1))
    let n := beAt l h.off 1 % 16 * 4
    let l := setOct l (h.off + 10) (beOct 2 0)
    setOct l (h.off + 10) (beOct 2 (ipSum (octets l h.off n)))
  else setOct l (h.off + 7) (beOct 1 (beAt l (h.off + 7) 1 - 1))

/-- `MAC_SA` of a port as a 48-bit address (R254). -/
def State.macSa (s : State) (p : Nat) : Nat :=
  (s.rd (pagePort p) R.PORT.MAC_SA_HI_OCTET0 * 256 + s.rd (pagePort p) R.PORT.MAC_SA_HI_OCTET1) * 2 ^ 32 + s.rd (pagePort p) R.PORT.MAC_SA_LO

/-- The octets of a copy, without FCS (R268, R284). -/
def State.copyOctets (s : State) (c : Copy) (l : List Byte) : List Byte :=
  let l := match c.edit.route with
    | some da => routeEdit l da (s.macSa (leafPort c.leaf))
    | none => l
  tagEdit l c.edit.tag

/-- A flag of `MAC_STICKY` is set; one that rises raises MAC_STICKY of the port page (R255). -/
def State.sticky (s : State) (p b : Nat) : State :=
  let v := s.rd (pagePort p) R.PORT.MAC_STICKY
  if bitAt v b then s else (s.wr (pagePort p) R.PORT.MAC_STICKY (v ||| 2 ^ b)).raise (pagePort p) 9

end Sys2Proof.Machine
end

