-- ==== Sys2Proof/Machine/Messages.lean ====
section
/-! DEFINITION. PTP messages: the instance they belong to, their timestamps and what becomes of them where they arrive (R122–R130, R210). -/

namespace Sys2Proof.Machine

open Sys2Proof

/-! ### Messages (R122–R124) -/

/-- A PTP message in a frame. The message layout is that of IEEE 1588, which the spec names and does not print (PRESUMED).
Log 40 (PRESUMED; unsafe). -/
structure Msg1588 where
  /-- 0 IEEE 802.3, 1 UDP over IPv4, 2 UDP over IPv6 -/
  map_ : Nat
  /-- where the message begins, and where the UDP header does -/
  off : Nat
  udp : Nat
  typ : Nat
  major : Nat
  minor : Nat
  domain : Nat
  len : Nat
  two : Bool
  corr : Int
  source : Nat
  seq : Nat
  deriving DecidableEq, Repr

/-- The messages of IEEE 1588 by messageType. -/
def mSync : Nat := 0
def mDelayReq : Nat := 1
def mPdelayReq : Nat := 2
def mPdelayResp : Nat := 3
def mFollowUp : Nat := 8
def mDelayResp : Nat := 9
def mPdelayRespFu : Nat := 10

/-- An event message. -/
def isEventMsg (typ : Nat) : Bool := decide (typ ≤ 3)

/-- The message that begins at `off`, if its header is there. -/
def msgAt (l : List Byte) (map_ udp off : Nat) : Option Msg1588 :=
  if l.length < off + 34 then none else
  some { map_ := map_, off := off, udp := udp, typ := beAt l off 1 % 16, major := beAt l off 1 / 16, minor := beAt l (off + 5) 1
         domain := beAt l (off + 4) 1, len := beAt l (off + 2) 2, two := bitAt (beAt l (off + 6) 1) 1
         corr := toInt 64 (beAt l (off + 8) 8), source := beAt l (off + 20) 10, seq := beAt l (off + 30) 2 }

/-- The PTP message a frame carries: EtherType 0x88F7, or UDP port 319 for an event message and 320 for a general one, over
IPv4 or over IPv6 without extension headers; no other form is supported (R122, R123). A message that carries an AUTHENTICATION TLV is one like any other.
Log 40 (PRESUMED; unsafe). Log 126 (DESIGN CHOICE; unsafe). -/
def msgOf (l : List Byte) : Option Msg1588 :=
  let h := hdrOf l
  let viaUdp (map_ udp : Nat) : Option Msg1588 :=
    match msgAt l map_ udp (udp + 8) with
    | some m => if beAt l (udp + 2) 2 = (if isEventMsg m.typ then 319 else 320) then some m else none
    | none => none
  if h.etype = 0x88F7 then msgAt l 0 0 h.off
  else if h.etype = 0x0800 then
    if beAt l h.off 1 / 16 = 4 ∧ beAt l (h.off + 9) 1 = 17 ∧ beAt l (h.off + 6) 2 % 8192 = 0 then viaUdp 1 (h.off + beAt l h.off 1 % 16 * 4) else none
  else if h.etype = 0x86DD then
    if beAt l h.off 1 / 16 = 6 ∧ beAt l (h.off + 6) 1 = 17 then viaUdp 2 (h.off + 40) else none
  else none

/-- The page of instance `i` whose configuration rules: the active TCU's; its twin's is the same (R147). -/
def State.ptpPage (s : State) (i : Nat) : Nat := pagePtp s.lead i

/-- A message belongs to instance `i` at a port (R124). -/
def State.belongs (s : State) (i port : Nat) (m : Msg1588) : Bool :=
  let p := s.ptpPage i
  let enc := match m.map_ with
    | 0 => R.PTP.PTP_PORT_CFG_L2
    | 1 => R.PTP.PTP_PORT_CFG_UDP4
    | _ => R.PTP.PTP_PORT_CFG_UDP6
  s.flag p R.PTP.PTP_CTL_EN && s.rdI p R.PTP.PTP_PORT_CFG_EN port == 1 && s.rdI p enc port == 1 &&
  ((s.flag p R.PTP.PTP_DOM_ANY && decide (s.rd p R.PTP.PTP_CTL_ROLE ≥ 2)) ||
   (m.domain == s.rd p R.PTP.PTP_DOM_NUMBER && m.major == s.rd p R.PTP.PTP_DOM_MAJOR_SDOID && m.minor == s.rd p R.PTP.PTP_DOM_MINOR_SDOID))

/-- The instance a message belongs to at a port; PTP0 takes a double match (R124). -/
def State.instOf (s : State) (port : Nat) (m : Msg1588) : Option Nat :=
  if s.belongs 0 port m then some 0 else if s.belongs 1 port m then some 1 else none

/-- What the table of R130 does with a message. -/
inductive PtpAct where
  | trap | residence | stored | same | discard
  deriving DecidableEq, Repr

/-- The table of R130: by role, message type and the DELAY of the ingress port. A type that the table does not list is
forwarded as Announce is. -/
def ptpAct (role typ : Nat) (peer : Bool) : PtpAct :=
  if role < 2 then .trap
  else if typ = mSync then .residence
  else if typ = mFollowUp then .stored
  else if role = 2 then
    (if typ = mDelayReq then .residence
     else if typ = mPdelayReq ∨ typ = mPdelayResp then (if peer then .trap else .residence)
     else if typ = mPdelayRespFu then (if peer then .trap else .stored) else .same)
  else if typ = mDelayReq ∨ typ = mDelayResp then .discard
  else if typ = mPdelayReq ∨ typ = mPdelayResp ∨ typ = mPdelayRespFu then .trap
  else .same

/-- Counts on the page of an instance in both TCUs, each of which keeps its own (R129, R152).
Log 41 (DEDUCED; unsafe). -/
def State.ptpBoth (s : State) (i : Nat) (f : Nat → State → State) : State :=
  s.both (fun t a => if a.pwr (1 + t) = 2 then f (pagePtp t i) a else a)
def State.ptpCount (s : State) (i : Nat) (f : Fld) : State := s.ptpBoth i (fun p a => a.inc p f)
def State.ptpCause (s : State) (i b : Nat) : State := s.ptpBoth i (fun p a => a.raise p b)

/-! ### Timestamps (R125–R129) -/

/-- `a / b` rounded to the nearest whole number, b > 0. -/
def divNear (a b : Int) : Int := (2 * a + b) / (2 * b)

/-- The octets between start and message timestamp point, Δ_pt, in 1/82,500 of 2⁻¹⁶ ns: the UI of the port's line code
times 68 or 100, or 64 ns (R125). -/
def ptDelta (rate : Nat) (start4 : Bool) : Int :=
  let ui : Int := if start4 then 100 else 68
  if rate = 100 then 64 * 65536 * 82500
  else if rate = 1000 then ui * 16 * 65536 * 500
  else ui * 32 * 65536 * 100

/-- One elastic block period in 1/82,500 of 2⁻¹⁶ ns (R29). -/
def elasticBlock (rate : Nat) : Int := if rate = 100 then 8 * 65536 * 82500 else if rate = 1000 then 64 * 65536 * 8250 else 256 * 65536 * 825

/-- A receive timestamp, rounded once, in units of 2⁻¹⁶ ns (R31, R126). -/
def State.rxStamp (s : State) (port : Nat) (tpcs d : Int) (start4 : Bool) : Int :=
  let p := pagePort port
  let r := s.lineRate port
  divNear ((tpcs - s.rd p R.PORT.LAT_RX - s.rdS p R.PORT.EXT_DLY_RX) * 82500 - d * elasticBlock r + ptDelta r start4) 82500

/-- A transmit timestamp (R31, R126); transmitted start blocks stand at octet 0 (R125). -/
def State.txStamp (s : State) (port : Nat) (tpcs : Int) : Int :=
  let p := pagePort port
  divNear ((tpcs + s.rd p R.PORT.LAT_TX + s.rdS p R.PORT.EXT_DLY_TX) * 82500 + ptDelta (s.lineRate port) false) 82500

/-- The step count (R127). -/
def State.stepCount (s : State) : Nat := (s.tcu s.lead).stepCnt

/-- The record of a timestamp `t` taken at step count `steps`, with time `invalid` or not, as four words (R127–R129). -/
def stampWords (t : Int) (steps : Nat) (invalid : Bool) (port : Nat) (tx start4 : Bool) (m : Msg1588) : List Nat :=
  let u := t.toNat
  let ns := u / 65536
  [ns / 1000000000 % 2 ^ 32, ns % 1000000000,
   u % 65536 + port * 2 ^ 16 + b2n tx * 2 ^ 22 + b2n start4 * 2 ^ 23 + m.typ * 2 ^ 24 + b2n invalid * 2 ^ 28 + 2 ^ 31,
   m.seq + m.domain * 2 ^ 16 + steps * 2 ^ 24]

/-- The 16 octets of a record, as little-endian words. -/
def recOctets (ws : List Nat) : List Byte := (ws.map (leOct 4)).flatten

/-! ### Reception (R130, R210) -/

/-- A message of an instance is trapped, or copied, to the instance's engine or to its owner's host packet port (R130, R258, R356). -/
def State.ptpTrap (s : State) (f i reason : Nat) (r : List Byte) : State :=
  if s.flag (s.ptpPage i) R.PTP.PTP_CTL_TRAP_HOST then s.addHostCopy f (s.owner (s.ptpPage i)) reason r
  else s.onFrame f (fun x => { x with engTraps := x.engTraps ++ [⟨i, reason, r⟩] })

/-- What the table of R130 does at a port with a message of instance `i`. -/
def State.actAt (s : State) (i port : Nat) (m : Msg1588) : PtpAct :=
  ptpAct (s.rd (s.ptpPage i) R.PTP.PTP_CTL_ROLE) m.typ (s.rdI (s.ptpPage i) R.PTP.PTP_PORT_CFG_DELAY port == 1)

/-- The link delay that the peer-to-peer role adds to a message from an ingress port (R133). -/
def State.linkDelay (s : State) (i port : Nat) : Nat :=
  if s.rd (s.ptpPage i) R.PTP.PTP_CTL_ROLE = 3 then s.rdI (s.ptpPage i) R.PTP.PTP_PORT_LINKDLY port else 0

/-- The receive record of an event message, none of a general one; that of a message which came by a trunk holds no timestamp, VALID
being 0 (R129, R210). Log 113 (DEDUCED; safe). -/
def Frame.record (x : Frame) (m : Msg1588) : List Byte :=
  if isEventMsg m.typ ∧ x.untimed then recOctets [0, 0, x.port * 2 ^ 16 + m.typ * 2 ^ 24, m.seq + m.domain * 2 ^ 16]
  else if isEventMsg m.typ then recOctets (stampWords x.stamp x.steps x.invalid x.port false x.start4 m) else []

/-- The reason with which a message is trapped (R258). -/
def trapReason (m : Msg1588) : Nat := if isEventMsg m.typ then 1 else 2

/-- What the receive side notes of a message for its departure, with the instance it belongs to and what is due to it (R130, R133, R135). -/
def State.noteIn (s : State) (x : Frame) (i : Option Nat) (a : PtpAct) : PtpIn :=
  { inst := i, at_ := x.stamp, steps := x.steps, correct := decide (a = .residence), stored := decide (a = .stored)
    link := (i.map (fun i => s.linkDelay i x.port)).getD 0 }

/-- A frame's message is classified where it arrives, once (R124, R130); on a trunk lane it is only counted (R210).
Log 40 (PRESUMED; unsafe). -/
def State.ptpRx (s : State) (f : Nat) : State :=
  let x := s.frame f
  if x = noFrame ∨ x.decided ∨ x.host ∨ x.seen then s else
  match msgOf x.octets with
  | none => s
  | some m =>
    let i := s.instOf x.port m
    let s := s.onFrame f (fun y => { y with seen := true })
    if s.isLane x.port then
      (if i.isSome ∧ isEventMsg m.typ then s.inc (pageNT (x.port / 4)) R.NT.CNT_PTP_PASS else s)
    else
    let p2p := decide ((hdrOf x.octets).da = 0x0180C200000E)
    match i with
    | none =>
      if p2p then s.decideFrame f else s.onFrame f (fun y => { y with ptp := some (s.noteIn x none .same) })
    | some i =>
      let r := x.record m
      match (if p2p then .trap else s.actAt i x.port m) with
      | .trap => (s.ptpTrap f i (trapReason m) r).decideFrame f
      | .discard => (s.ptpCount i R.PTP.PTP_CNT_P2P_DROP).decideFrame f
      | a =>
        let q := s.noteIn x (some i) a
        let s := s.onFrame f (fun y => { y with ptp := some q })
        if s.flag (s.ptpPage i) R.PTP.PTP_CTL_TC_COPY then s.ptpTrap f i 3 r else s

def execPtpMessageRx (f : Nat) (s : State) : Host.Outcome State Fault Refusal := done (s.ptpRx f)

/-! ### Messages where they leave (R124, R130) -/

/-- The instance that a forwarded message meets at an egress port: the one it met where it arrived, else one it belongs to
there (R124). -/
def State.egressInst (s : State) (port : Nat) (x : Frame) (m : Msg1588) : Option Nat :=
  match x.ptp.bind (fun q => q.inst) with
  | some i => some i
  | none => s.instOf port m

/-- What is due to a message where it leaves: as its ingress said, or, where it met no instance there, by the role table of the
instance it meets at the egress port (R124, R130). -/
def State.dueAt (s : State) (port i : Nat) (x : Frame) (m : Msg1588) (q : PtpIn) : PtpIn :=
  match q.inst with
  | some _ => q
  | none => { s.noteIn x (some i) (s.actAt i port m) with inst := none }

/-- A frame is, at an egress port, a PTP event message that an instance originates or that is forwarded with a correction
(R253, R330). -/
def State.timingAt (s : State) (port : Nat) (x : Frame) : Bool :=
  match x.origin with
  | some (i, _) => (msgOf x.octets).any (fun m => s.belongs i port m)
  | none =>
    match x.ptp, msgOf x.octets with
    | some q, some m =>
      q.correct || (q.inst.isNone && (match s.instOf port m with | some i => decide (s.actAt i port m = .residence) | none => false))
    | _, _ => false

end Sys2Proof.Machine
end

