-- ==== Sys2Proof/Machine/Sched.lean ====
section
/-! DEFINITION. Scheduling, shaping, gates and sampling (R320–R345). -/

namespace Sys2Proof.Machine

open Sys2Proof

/-! ### Gates (R333–R338) -/

/-- H, the hoop length in force, ns (R223). -/
def State.hoop (s : State) : Nat := s.rd (pageCad s.lead) R.CAD.CAD_HOOP

/-- The cycle of a list in ns (R337). -/
def State.cycleOf (s : State) (l : GateList) : Nat := if l.hoop then l.cycle * s.hoop else l.cycle

/-- An entry of a list: its states and interval. -/
def GateList.entry (l : GateList) (i : Nat) : Nat × Nat := look (0, 0) l.entries i

/-- The entries of a list as they fall within a cycle: number, start, end and states; entries past the cycle's end are cut
and the last entry fills a cycle that is longer (R333). -/
def GateList.spans (l : GateList) (cycle : Nat) : List (Nat × Nat × Nat × Nat) :=
  let r := (List.range l.len).foldl (fun (a : Nat × List (Nat × Nat × Nat × Nat)) i =>
    if a.1 ≥ cycle then a else
    let e := l.entry i
    let fin := if i + 1 = l.len then cycle else min cycle (a.1 + e.2)
    (fin, (i, a.1, fin, e.1) :: a.2)) (0, [])
  r.2.reverse

/-- The position in the cycle at network time `t`: from S, or from the hoop boundaries of a hoop-locked list (R333, R337, R338). -/
def State.gatePos (s : State) (g : Gate) (t : Nat) : Nat :=
  let c := s.cycleOf g.active
  if c = 0 then 0
  else if g.active.hoop then t % c
  else (((t : Int) - g.start) % c).toNat

/-- The entry of a port's gates in force at network time `t` (R333, R337). -/
def State.entryOf (s : State) (g : Gate) (t : Nat) : Nat :=
  let here := (((g.active.spans (s.cycleOf g.active)).find? (fun x => decide (s.gatePos g t < x.2.2.1))).map (fun x => x.1)).getD 0
  match g.hold with
  | some (e, fin) => if t < fin then e else here
  | none => here

/-- The entry in force at network time `t`, as the sequencer times it (R333). -/
def State.gateEntry (s : State) (p t : Nat) : Nat := s.entryOf (s.seqGate p) t

/-- The active list governs the port's gates (R333). -/
def State.gated (s : State) (p : Nat) : Bool := s.rdI pageGate R.GATE.GATE_CTL_EN p == 1 && (s.seqGate p).valid

/-- The gate states of a port at network time `t` (R333, R338). -/
def State.gateStates (s : State) (p t : Nat) : Nat :=
  if s.phase = .lastResort then s.rdI pageGate R.GATE.GATE_CTL_FAIL_GATES p
  else if s.gated p then ((s.seqGate p).active.entry (s.gateEntry p t)).1 else 0xFF

/-- The next closing of a service's gate after network time `t`: in the active list, or at the start of a pending list
whose entry 0 closes it (R334). -/
def State.closesAt (s : State) (p svc t : Nat) : Option Nat :=
  let g := s.seqGate p
  let c := s.cycleOf g.active
  let pos := s.gatePos g t
  let closed := (g.active.spans c).filter (fun x => !bitAt x.2.2.2 svc)
  let next := match closed.find? (fun x => decide (x.2.1 > pos)) with
    | some x => some (t + x.2.1 - pos)
    | none => closed.head?.map (fun x => t + (c - pos) + x.2.1)
  let a := if ¬ s.gated p then none
    else match g.hold with
    | some (_, fin) => if t < fin then closed.head?.map (fun x => fin + x.2.1) else next
    | none => next
  match g.inst with
  | some i => if s.rdI pageGate R.GATE.GATE_CTL_EN p = 1 ∧ ¬ bitAt (g.pend.entry 0).1 svc ∧ i.start > t then
      (match a with | some x => some (min x i.start) | none => some i.start) else a
  | none => a

/-- The longest time for which a service's gate stays open, if it ever closes (R335). -/
def State.longestOpen (s : State) (p svc : Nat) : Option Nat :=
  let g := s.seqGate p
  let c := s.cycleOf g.active
  let sp := g.active.spans c
  if ¬ s.gated p ∨ sp.all (fun x => bitAt x.2.2.2 svc) then none else
  let r := (sp ++ sp).foldl (fun (a : Nat × Nat) x => if bitAt x.2.2.2 svc then (a.1 + (x.2.2.1 - x.2.1), max a.2 (a.1 + (x.2.2.1 - x.2.1))) else (0, a.2)) (0, 0)
  some r.2

/-- The octet times a frame occupies on a port: with preamble and gap on Ethernet, without on a trunk (R246, R334). -/
def State.occupies (s : State) (p len : Nat) : Nat := if s.isLane p then len else len + 20

/-- Octets sent at a port take less than `ns` (exact). Log 51 (DEDUCED; unsafe). -/
def State.fitsIn (s : State) (p octs ns : Nat) : Bool := decide (octs * 800 < ns * s.lineRate p)

/-! ### Nodes (R320–R332) -/

def State.node (s : State) (n : Nat) : Node := look {} s.nodes n
def State.onNode (s : State) (n : Nat) (f : Node → Node) : State := { s with nodes := upd {} s.nodes n f }

def svcNode (p s : Nat) : Nat := 6144 + 8 * p + s
def portNode (p : Nat) : Nat := 6528 + p

/-- The port of a node (R320). -/
def nodePort (n : Nat) : Nat := if n < 6144 then n / 128 else if n < 6528 then (n - 6144) / 8 else n - 6528

/-- The service node of a leaf or of itself. -/
def nodeSvc (n : Nat) : Nat := if n < 6144 then svcNode (n / 128) (n % 8) else n

/-- The units in which K and P are kept, per octet. -/
def creditUnit : Int := 9000000

/-- CIR_live (R331, R332). -/
def State.cirLive (s : State) (n : Nat) : Nat :=
  let c := (s.node n).cfg.cir
  if n ≥ 6528 ∨ (s.node (nodeSvc n)).cfg.rigid then c
  else c * s.rdI pageSched R.SCHED.SCHED_SCALE (s.rd pageSched R.SCHED.SCHED_STAT) / 256

/-- K and P of a node reckoned up to a core cycle, its backlog ending where its guards end it (R324, R326, R327, R334). -/
def Node.accrue (x : Node) (live core : Nat) : Node :=
  let d : Int := core - x.at_
  let e : Int := match x.till with | some t => max 0 (min d (t - x.at_)) | none => d
  let k := if x.backlog then min (x.cfg.cburst * creditUnit) (x.k + live * e) else x.k
  let past := x.till.any (fun t => decide (t ≤ core))
  { x with k := max x.k k, p := max x.p (min (x.cfg.pburst * creditUnit) (x.p + x.cfg.pir * d)), at_ := core
           backlog := x.backlog && !past, till := if past then none else x.till, deficit := if past then 0 else x.deficit }

/-- Reckons the nodes of a port up to now. -/
def State.accruePort (s : State) (p : Nat) : State :=
  (s.nodes.map (fun e => e.1)).foldl (fun a n => if nodePort n = p then a.onNode n (fun x => x.accrue (s.cirLive n) s.core) else a) s

/-- Reckons every node up to now, before a change of level (R331). -/
def State.accrueAll (s : State) : State :=
  (s.nodes.map (fun e => e.1)).foldl (fun a n => a.onNode n (fun x => x.accrue (s.cirLive n) s.core)) s

/-- The state of a node: 0 C, 1 E, 2 B (R323, R326, R327). -/
def Node.state (x : Node) : Nat := if ¬ x.cfg.en ∨ x.k ≥ 0 then 0 else if x.p > 0 then 1 else 2

/-- The nodes of a path from a leaf. -/
def path (leaf : Nat) : List Nat := [leaf, nodeSvc leaf, portNode (leafPort leaf)]

/-- The state of a path: the worst of its nodes' (R323). -/
def State.pathState (s : State) (leaf : Nat) : Nat := (path leaf).foldl (fun a n => max a (s.node n).state) 0

/-! ### Head copies (R307, R322, R330, R335) -/

/-- One quantum of a port in units of 10 ps: 512 bit times (R252). -/
def State.quantum (s : State) (p : Nat) : Nat := 5120000 / s.lineRate p

/-- Device time in units of 10 ps. -/
def State.fine (s : State) : Nat := s.up * 100

/-- Cut-through is allowed for a copy of the frame at an egress port (R247). -/
def State.cutOk (s : State) (f p : Nat) : Bool :=
  let x := s.frame f
  s.flag (pagePort p) R.PORT.MAC_CTL_CUT && !x.host && decide (s.lineRate x.port ≥ s.lineRate p) && decide (x.stored ≥ 256)

/-- The head copy of a frame is eligible at an egress port (R307). -/
def State.headOk (s : State) (f p : Nat) : Bool :=
  let x := s.frame f
  !x.refused && !x.bad && (x.complete || s.cutOk f p)

/-- The octets of a frame that its copies send ahead of their FCS: what was stored of a refused frame, all that was received of
one whose reception ended before its FCS, and else all but its FCS (R248, R303). Log 49 (DEDUCED; unsafe). -/
def Frame.payload (f : Frame) : List Byte :=
  if f.refused then f.octets.take f.stored else if f.noFcs then f.octets else body f.octets

/-- The length of a copy as sent, from DA to FCS; a frame still arriving counts as MAC_MAXLEN plus 8 (R328). -/
def State.sentLen (s : State) (c : Copy) : Nat :=
  let x := s.frame c.frame
  if x.complete then (s.copyOctets c x.payload).length + 4 else s.rd (pagePort (leafPort c.leaf)) R.PORT.MAC_MAXLEN + 8

/-- The charge of a copy (R328). -/
def State.chargeOf (s : State) (c : Copy) : Nat :=
  s.sentLen c + (if s.isLane (leafPort c.leaf) then 0 else s.rd pageShape R.SHAPE.SHP_OVH)

/-- The service is rigid at the port (R331). -/
def State.rigid (s : State) (p svc : Nat) : Bool := (s.node (svcNode p svc)).cfg.rigid

/-- The port is held by a received PAUSE for a frame of a service; with EXEMPT set, timing messages and rigid services are
not held (R252, R253). -/
def State.paused (s : State) (p svc : Nat) (timing : Bool) : Bool :=
  s.flag (pagePort p) R.PORT.MAC_PAUSE_STAT_PAUSED && !(s.flag (pagePort p) R.PORT.MAC_PAUSE_EXEMPT && (timing || s.rigid p svc))

/-- The period of the transmit block boundaries of a page, in units of 10 ps: the block or code group of a port's mode, the
grid of a trunk's data lanes, or a clock alignment epoch, at which the boundaries of every lane coincide (R41, R192). -/
def State.blockPeriod (s : State) (p : Nat) : Nat :=
  match pageBlk p with
  | some .nt => 256
  | some .port =>
    if s.isLane (pageIndex p) then 256 else
    (match s.mode (pageIndex p) with | 0 => 6400 | 1 => 800 | 2 | 3 => 640 | _ => 256)
  | _ => 6400

/-- The gap after a frame that keeps the next start at octet 0 of a block, `len` being the length of the frame from DA to FCS, and the
deficit idle count after it, `d` being the count before: of 9 to 16 octets, or of a block more where the count would pass 3; at 1000BASE-X
12 octets (R125, R246). Log 93 (DEDUCED; safe). -/
def gapAfter (fast : Bool) (len d : Nat) : Nat × Nat :=
  if ¬ fast then (12, 0) else
  let r := 9 + (8 - (len + 9) % 8) % 8
  if d + 12 > r + 3 then (r + 8, d + 12 - (r + 8)) else (r, d + 12 - r)

/-- The port runs at 10G or 25G. -/
def State.fast (s : State) (p : Nat) : Bool := decide (s.lineRate p ≠ 100)

/-- The time that `n` octets take at a port, in units of 10 ps. -/
def State.octTime (s : State) (p n : Nat) : Nat := n * 80000 / s.lineRate p

/-- The device time in units of 10 ps from which the next frame may start: after the previous frame and its gap (R246, R325). -/
def State.clearFrom (s : State) (p : Nat) : Nat :=
  let len (n : Nat) : Nat := if s.isLane p then n else n + 8 + (gapAfter (s.fast p) n (s.mac p).deficit).1
  match (s.tx p).kind with
  | .idle => (s.mac p).clearAt
  | .copy _ c => (s.tx p).since + s.octTime p (len (if (s.tx p).left then (s.tx p).octets.length + 4 else s.sentLen c))
  | _ => (s.tx p).since + s.octTime p (len ((s.tx p).octets.length + 4))

/-- The first transmit block boundary of a port, in units of 10 ps of network time, at or after now and the gap after the previous frame:
where the next frame can start (R325, R334). -/
def State.startAt (s : State) (p : Nat) : Nat :=
  let b := s.blockPeriod (pagePort p)
  (s.now * 100 + (s.clearFrom p - s.fine) + b - 1) / b * b

/-- The gate of a service is open for a frame that starts next: the changes due by that boundary have applied (R325, R334). -/
def State.gateOpen (s : State) (p svc : Nat) : Bool := bitAt (s.gateStates p (s.startAt p / 100)) svc

/-- The gate of a service lets a frame of `octs` octet times start at the port's next transmit block boundary (R325, R334).
Log 51 (DEDUCED; unsafe). -/
def State.gateLets (s : State) (p svc octs : Nat) : Bool :=
  s.gateOpen p svc &&
  (s.rdI pageGate R.GATE.GATE_CTL_GUARD p == 0 || s.phase == .lastResort ||
    (match s.closesAt p svc (s.startAt p / 100) with
     | none => true
     | some c => decide (octs * 80000 < (c * 100 - s.startAt p) * s.lineRate p)))

/-- A VOQ is eligible for its leaf (R322). -/
def State.eligible (s : State) (v : Nat) : Bool :=
  match (s.voq v).copies with
  | [] => false
  | c :: _ =>
    let p := leafPort c.leaf
    let svc := leafSvc c.leaf
    s.headOk c.frame p && s.gateLets p svc (s.occupies p (s.sentLen c)) && !s.paused p svc (s.timingAt p (s.frame c.frame)) && s.portUp p

/-- The VOQs with copies that feed a port. -/
def State.portVoqs (s : State) (p : Nat) : List Nat :=
  (s.voqs.filter (fun e => leafPort (voqLeaf e.1) == p && e.2.copies != [])).map (fun e => e.1)

/-- The head copy of a VOQ is to be discarded: its frame is REFUSED or BAD, the link is down, it is longer than the
egress port's limit lets it send, or its gate never stays open long enough (R244, R250, R303, R307, R335). 1 says the
link, 2 the gate. Log 53 (DEDUCED; unsafe). -/
def State.doomed (s : State) (v : Nat) : Option Nat :=
  match (s.voq v).copies with
  | [] => none
  | c :: _ =>
    let p := leafPort c.leaf
    let x := s.frame c.frame
    if s.headInTx v then none
    else if x.refused ∨ x.bad ∨ x = noFrame then some 0
    else if ¬ s.portUp p ∧ s.takes p then some 1
    else if ¬ s.portUp p ∧ s.closing p then some 1
    else if x.complete ∧ s.sentLen c > s.limit p (hdrOf (s.copyOctets c x.octets)).tags then some 3
    else if x.complete ∧ s.rdI pageGate R.GATE.GATE_CTL_GUARD p = 1 ∧ s.phase ≠ .lastResort ∧
        (s.longestOpen p (leafSvc c.leaf)).any (fun o => !s.fitsIn p (s.occupies p (s.sentLen c)) o) then some 2
    else none

/-- The port has sent a frame, or had one waiting, until now (R185). -/
def State.quietNow (s : State) (p : Nat) : State := s.onMac p (fun m => { m with quietAt := s.up })

/-- Removes the head copy of a VOQ. -/
def State.popVoq (s : State) (v : Nat) : State :=
  match (s.voq v).copies with
  | [] => s
  | c :: _ => ((s.onVoq v (fun q => { q with copies := q.copies.drop 1 })).copyGone c.frame).quietNow (leafPort c.leaf)

/-- The copy in transmission leaves the head of its queue, or what is left of a queue that was lost (R300, R310). -/
def State.copyLeaves (s : State) (x : Tx) (v : Nat) (c : Copy) : State :=
  (if x.orphan then { s with lostCopies := s.lostCopies - 1 }
    else s.onVoq v (fun q => { q with copies := q.copies.drop 1 })).copyGone c.frame

/-- Discards the head copies of a VOQ that are to be discarded, and counts them (R250, R335). -/
def State.flushVoq (s : State) (v : Nat) : Nat → State
  | 0 => s
  | fuel + 1 =>
    match s.doomed v with
    | none => s
    | some why =>
      let p := leafPort (voqLeaf v)
      let s := s.event 0x3A p 1
      let s := if why = 1 then (s.inc (pagePort p) R.PORT.STAT_TX_LINKDOWN).sticky p 5
        else if why = 2 then (s.incI pageGate R.GATE.GATE_CNT_OVERSIZE p).raise pageGate 1 else s
      (s.popVoq v).flushVoq v fuel

/-- Discards what stands to be discarded at the heads of a port's VOQs. -/
def State.flushPort (s : State) (p : Nat) : State :=
  (s.portVoqs p).foldl (fun a v => a.flushVoq v ((a.voq v).copies.length)) s

/-- A node is backlogged: an eligible VOQ below it, or a frame of it in transmission (R322). -/
def State.nodeBacklog (s : State) (n : Nat) : Bool :=
  let p := nodePort n
  let under (leaf : Nat) : Bool := (path leaf).contains n
  (s.portVoqs p).any (fun v => under (voqLeaf v) && s.eligible v) ||
  (match (s.tx p).kind with | .copy _ c => under c.leaf | _ => false)

/-- The first core cycle after now in which the guard of its gate no longer lets the head copy of a VOQ start, if nothing else changes
(R322, R334). -/
def State.guardEnds (s : State) (v : Nat) : Option Nat :=
  match s.headOf v with
  | none => none
  | some c =>
    let p := leafPort c.leaf
    if s.rdI pageGate R.GATE.GATE_CTL_GUARD p = 0 ∨ s.phase = .lastResort then none else
    (s.closesAt p (leafSvc c.leaf) (s.startAt p / 100)).map (fun x =>
      let b := s.blockPeriod (pagePort p)
      let last := (x * 100 - s.occupies p (s.sentLen c) * 80000 / s.lineRate p - 1) / b * b
      (s.up * 100 + (last - s.now * 100)) * 9 / 800 + 1)

/-- The core cycle in which a node's backlog ends by guards alone: when that of the last of its eligible VOQs does (R322, R334). -/
def State.backlogTill (s : State) (n : Nat) : Option Nat :=
  let p := nodePort n
  let under (leaf : Nat) : Bool := (path leaf).contains n
  let ends := ((s.portVoqs p).filter (fun v => under (voqLeaf v) && s.eligible v)).map s.guardEnds
  if (match (s.tx p).kind with | .copy _ c => under c.leaf | _ => false) then none
  else if ends.any Option.isNone then none else some ((ends.map (fun e => e.getD 0)).foldl max 0)

/-- The nodes of a port are reckoned up to now and their backlog taken anew; a child that ceases to be backlogged loses
its deficit (R324, R326). -/
def State.touchPort (s : State) (p : Nat) : State :=
  let s := (s.flushPort p).accruePort p
  (s.nodes.map (fun e => e.1)).foldl (fun a n => if nodePort n = p then
    a.onNode n (fun x => { x with backlog := s.nodeBacklog n, till := s.backlogTill n, deficit := if s.nodeBacklog n then x.deficit else 0 }) else a) s

/-- Every port that queues a copy is touched. -/
def State.touchAll (s : State) : State := s.each 48 (fun p a => if a.portVoqs p = [] ∧ (a.tx p).kind = .idle then a else a.touchPort p)

/-! ### The choice (R321–R325) -/

/-- The VOQ served next in a leaf: round-robin by ingress port after the one served last (R323). -/
def State.pickVoq (s : State) (vs : List Nat) (leaf : Nat) : Option Nat :=
  let mine := vs.filter (fun v => voqLeaf v == leaf)
  ((List.range 48).map (fun i => ((s.node leaf).turn + i) % 48)).findSome? (fun i => mine.find? (fun v => voqIngress v == i))

/-- Deficit round-robin over children `cs`, given in rotation order after the child whose turn it is, with each child's
charge: the child served and the nodes' new counters (R324). A turn that is held is tried first without a new quantum.
Log 51 (DEDUCED; unsafe). -/
def State.drr (s : State) (parent : Nat) (node charge : Nat → Nat) (cs : List Nat) : Nat → Option (Nat × State)
  | 0 => none
  | fuel + 1 =>
    let order := (cs.filter (fun c => decide (c + 1 > (s.node parent).turn))) ++ (cs.filter (fun c => decide (c + 1 ≤ (s.node parent).turn)))
    let cur := (s.node parent).turn - 1
    if (s.node parent).turn ≠ 0 ∧ cs.contains cur ∧ (s.node (node cur)).deficit ≥ charge cur then
      some (cur, s.onNode (node cur) (fun x => { x with deficit := x.deficit - charge cur }))
    else match order with
    | [] => none
    | c :: _ =>
      let s := s.onNode (node c) (fun x => { x with deficit := x.deficit + x.cfg.quantum })
      (s.onNode parent (fun x => { x with turn := c + 1 })).drr parent node charge cs fuel

/-- A grant: the VOQ and the state with the counters that chose it. -/
abbrev Grant := Nat × State

/-- The rounds that deficit round-robin can need: the largest charge over the least quantum, for each child. -/
def drrFuel (n : Nat) : Nat := 200 * (n + 1)

/-- The grant within a service of a port among eligible VOQs (R323): leaves in C before leaves in E, then deficit
round-robin. `forced` VOQs count as in C (R330). -/
def State.grantIn (s : State) (p svc : Nat) (vs forced : List Nat) : Option Grant :=
  let leaves := (List.range 16).filter (fun u => vs.any (fun v => voqLeaf v == leafOf p u svc))
  let st (u : Nat) : Nat := if forced.any (fun v => voqLeaf v == leafOf p u svc) then 0 else (s.node (leafOf p u svc)).state
  let best := leaves.foldl (fun a u => min a (st u)) 2
  let cs := leaves.filter (fun u => st u == best)
  let pick (u : Nat) : Option Nat :=
    match s.pickVoq (forced.filter (fun v => voqLeaf v == leafOf p u svc)) (leafOf p u svc) with
    | some v => if (s.node (leafOf p u svc)).state = 0 then s.pickVoq vs (leafOf p u svc) else some v
    | none => s.pickVoq vs (leafOf p u svc)
  let charge (u : Nat) : Nat := match pick u with | some v => ((s.headOf v).map s.chargeOf).getD 0 | none => 0
  match cs with
  | [] => none
  | [u] => (pick u).map (fun v => (v, s))
  | _ => match s.drr (svcNode p svc) (fun u => leafOf p u svc) charge cs (drrFuel cs.length) with
    | some (u, s') => (pick u).map (fun v => (v, s'))
    | none => none

/-- The grant of a port: by path state, priority and deficit round-robin of the services (R323, R330). -/
def State.grant (s : State) (p : Nat) : Option Grant :=
  let el := (s.portVoqs p).filter s.eligible
  let bypass := s.flag pageSched R.SCHED.SCHED_CTL_PTP_BYPASS
  let timing (v : Nat) : Bool := ((s.headOf v).map (fun c => s.timingAt p (s.frame c.frame))).getD false
  let forced := el.filter (fun v => bypass && timing v)
  let pst (v : Nat) : Nat := if forced.contains v then 0 else s.pathState (voqLeaf v)
  let vs := el.filter (fun v => pst v < 2)
  let svcs := (List.range 8).filter (fun x => vs.any (fun v => leafSvc (voqLeaf v) == x))
  let cls (x : Nat) : Nat := (vs.filter (fun v => leafSvc (voqLeaf v) == x)).foldl (fun a v => min a (pst v)) 2
  let best := svcs.foldl (fun a x => min a (cls x)) 2
  let top := (svcs.filter (fun x => cls x == best))
  let pr := top.foldl (fun a x => max a (s.node (svcNode p x)).cfg.prio) 0
  let cs := top.filter (fun x => (s.node (svcNode p x)).cfg.prio == pr)
  let inner (x : Nat) : Option Grant :=
    s.grantIn p x (vs.filter (fun v => leafSvc (voqLeaf v) == x && pst v == best)) (forced.filter (fun v => leafSvc (voqLeaf v) == x))
  let charge (x : Nat) : Nat := match inner x with | some (v, _) => ((s.headOf v).map s.chargeOf).getD 0 | none => 0
  match cs with
  | [] => none
  | [x] => inner x
  | _ => match s.drr (portNode p) (fun x => svcNode p x) charge cs (drrFuel cs.length) with
    | some (x, s') => s'.grantIn p x (vs.filter (fun v => leafSvc (voqLeaf v) == x && pst v == best)) (forced.filter (fun v => leafSvc (voqLeaf v) == x))
    | none => none

/-- A granted copy starts: the whole charge is taken from every node of its path, from K of a node in C and from P of a
node in E; a frame forced past its shapers is charged as in C and counted (R328, R330). -/
def State.startCopy (s : State) (p v : Nat) (c : Copy) : State :=
  let x := s.frame c.frame
  let amt := s.chargeOf c
  let forced := s.flag pageSched R.SCHED.SCHED_CTL_PTP_BYPASS && s.timingAt p x && s.pathState c.leaf != 0
  let pots := (path c.leaf).map (fun n => (n, forced || (s.node n).state == 0, amt))
  let s := pots.foldl (fun a e => a.onNode e.1 (fun y =>
    if e.2.1 then { y with k := y.k - amt * creditUnit } else { y with p := y.p - amt * creditUnit })) s
  let s := s.onNode c.leaf (fun y => { y with turn := voqIngress v + 1 })
  let s := if forced then (s.inc pageSched R.SCHED.SCHED_CNT_PTP_FORCED).raise pageSched 0 else s
  s.onTx p (fun _ => { kind := .copy v c, charges := pots, early := !x.complete, pipe := x.pipe })

/-- The PAUSE frame without its FCS (R254). -/
def State.pauseOctets (s : State) (p quanta : Nat) : List Byte :=
  beOct 6 0x0180C2000001 ++ beOct 6 (s.macSa p) ++ beOct 2 0x8808 ++ beOct 2 1 ++ beOct 2 quanta ++ List.replicate 42 0#8

/-- A due PAUSE goes out first, regardless of gates (R254, R321). -/
def State.startPause (s : State) (p q : Nat) : State :=
  let s := (s.inc (pagePort p) R.PORT.STAT_TX_PAUSE).onMac p (fun m => { m with due := none, pauseSent := s.fine })
  (s.onTx p (fun _ => { kind := .pause q, octets := s.pauseOctets p q })).emit (.pause p q)

/-- The first gateway frame whose release instant has been reached and whose service gate is open (R321). -/
def State.gwReady (s : State) (p : Nat) : Option GwFrame :=
  (look [] s.gwq p).find? (fun g => decide (g.due ≤ s.now) && s.gateOpen p g.svc && !s.paused p g.svc true)

/-- The counts of a gateway template in one TCU: OK, LATE, STOMP, MISSING, BAD (R243). -/
def State.gwCounts (s : State) (t k : Nat) : List Nat := look [0, 0, 0, 0, 0] s.gwCnt (512 * t + k)

/-- One more of count `i` of template `k`, in both powered TCUs (R242, R243). -/
def State.gwCount (s : State) (k i : Nat) : State :=
  s.both (fun t a => if a.isOn (1 + t) then
    { a with gwCnt := upd [0, 0, 0, 0, 0] a.gwCnt (512 * t + k) (fun l => l.set i (satNat 32 (l.getD i 0 + 1))) } else a)

def State.quietIf (s : State) (p : Nat) (b : Bool) : State := if b then s.quietNow p else s

/-- The outbound gateway frames that wait for a port whose link is not UP are not sent (R239, R241). -/
def State.gwDrop (s : State) (p : Nat) : State :=
  let l := look [] s.gwq p
  (l.foldl (fun a g => a.gwCount g.template 3) ({ s with gwq := put [] s.gwq p [] } : State)).quietIf p (l != [])

/-- A gateway frame starts (R239, R321). -/
def State.startGateway (s : State) (p : Nat) (g : GwFrame) : State :=
  ({ s with gwq := put [] s.gwq p ((look [] s.gwq p).erase g) } : State).onTx p
    (fun _ => { kind := .gateway g.template, octets := g.octets, stomp := g.stomp })

/-- The payload of the in-band frame that a port would send next: the port is the in-band port, and a context is bound to it (R45). -/
def State.inbandNext (s : State) (p : Nat) : Option (List Byte) :=
  if s.kind 3 = kInband ∧ p = s.rd pageInb R.INB.INB_PORT then (s.host 3).inbq.head? else none

/-- An in-band frame starts: to the address of HP_INB, from the port's, padded to 64 octets with its FCS (R45, R261). Log 122 (DESIGN CHOICE; unsafe). -/
def State.startInband (s : State) (p : Nat) (l : List Byte) : State :=
  let o := beOct 6 (s.rd pageInb R.INB.INB_SA_HI * 2 ^ 32 + s.rd pageInb R.INB.INB_SA_LO) ++ beOct 6 (s.macSa p) ++ beOct 2 0x88B5 ++ l
  (s.onHost 3 (fun h => { h with inbq := h.inbq.drop 1 })).onTx p (fun _ => { kind := .inband l, octets := o ++ List.replicate (60 - o.length) 0#8 })

/-- In-band frames that wait when their port comes UP found its link down: they are not sent, and count (R250). Log 122 (DESIGN CHOICE; unsafe). -/
def State.inbandDrop (s : State) (p : Nat) : State :=
  if (s.inbandNext p).isNone then s else
  let n := (s.host 3).inbq.length
  ((s.onHost 3 (fun h => { h with inbq := [] })).addI (pagePort p) R.PORT.STAT_TX_LINKDOWN 0 n).sticky p 5

/-- A frame starts on a port: on Ethernet with preamble and delimiter after the gap that `gapAfter` gives, and with as many whole blocks of
idle more, which is free, as the line has stood idle; idle ends a deficit (R246). Log 93 (DEDUCED; safe). -/
def State.lineStart (s : State) (p : Nat) : State :=
  let s := (s.onTx p (fun x => { x with since := s.fine })).event 0x38 p 1
  if s.isLane p then s else
  let g := gapAfter (s.fast p) (s.mac p).lastLen (s.mac p).deficit
  let extra := if s.fine ≤ (s.mac p).clearAt then 0 else Config.gapExtra s.free
  ((s.onMac p (fun m => { m with deficit := if extra = 0 then g.2 else 0 })).emit
    (.preamble p (g.1 + (if s.fast p then 8 * extra else extra)))).bump

/-- The scheduler grants a head copy, which is held until the port can start it (R323, R325). -/
def State.decideNext (s : State) (p : Nat) : State :=
  match s.grant p with
  | none => s
  | some (v, s') => match s'.headOf v with
    | none => s
    | some c => s'.onMac p (fun m => { m with pick := some (v, c) })

/-- The head copy that the scheduler granted ahead still stands there and may go out (R307, R325). -/
def State.picked (s : State) (p : Nat) : Option (Nat × Copy) :=
  (s.mac p).pick.filter (fun x => s.headOf x.1 == some x.2 && s.headOk x.2.frame p)

/-- The port starts a frame: a due PAUSE, a gateway frame, an in-band frame, or the copy that the scheduler grants, or granted while the frame
before was in transmission (R45, R254, R321, R325). Log 122 (DESIGN CHOICE; unsafe). -/
def State.startNext (s : State) (p : Nat) : State :=
  match (if s.isLane p then none else (s.mac p).due) with
  | some q => (s.startPause p q).lineStart p
  | none =>
    match s.gwReady p with
    | some g => (s.startGateway p g).lineStart p
    | none =>
      match s.inbandNext p with
      | some l => (s.startInband p l).lineStart p
      | none =>
        let s := if (s.picked p).isSome then s else (s.onMac p (fun m => { m with pick := none })).decideNext p
        match s.picked p with
        | some (v, c) => ((s.onMac p (fun m => { m with pick := none })).startCopy p v c).lineStart p
        | none => s

/-- The frame in transmission leaves the port free within 128 octet times (R325). -/
def State.nearFree (s : State) (p : Nat) : Bool := decide (s.clearFrom p ≤ s.fine + s.octTime p 128)

/-- An egress port whose link is UP chooses the frame that starts next, which the scheduler grants while the frame before is in transmission,
no earlier than 128 octet times before the port is free; none starts in low-power idle (R185, R321, R325). -/
def State.schedule (s : State) (p : Nat) : State :=
  let s := s.touchPort p
  if ¬ s.portUp p ∨ s.flag (pagePort p) R.PORT.PORT_STAT_LPI_TX then s
  else if (s.tx p).kind = .idle then s.startNext p
  else if (s.mac p).pick.isNone ∧ s.nearFree p then s.decideNext p else s

/-- An uncorrectable queue-state entry empties its VOQ: the entry is rewritten as empty, and the copies it held are lost, and leak until an
audit; the one in transmission goes on (R310). Log 55 (DEDUCED; unsafe). -/
def State.queueLost (s : State) (v : Nat) : State :=
  let l := (s.voq v).copies
  let sent := s.headInTx v
  let p := leafPort (voqLeaf v)
  let gone := if sent then l.drop 1 else l
  let fs := gone.map (fun c => c.frame)
  let s := s.outOfReach (fs.map (fun f => (s.frame f).cells)).flatten fs (gone.filter (fun c => c.old)).length
  let s : State := { s with lostCopies := s.lostCopies + l.length }
  let s := if sent then s.onTx p (fun x => { x with orphan := true }) else s
  let s := (s.onVoq v (fun q => { q with copies := [] })).quietNow p
  ((s.inc pageVoq R.VOQ.VOQ_CNT_LOST).raise pageVoq 0).integErr pageVoq 10

/-- A port chooses, its scheduler having met the uncorrectable queue-state entries `lost` (R310, R321). -/
def execSchedulerDecision (p : Nat) (lost : List Nat) (s : State) : Host.Outcome State Fault Refusal :=
  done ((lost.foldl (fun a v => a.queueLost v) s).schedule (p % 48))

/-! ### Departure and end (R248, R300, R309, R328) -/

/-- The octets a copy sends, without FCS, edited and changed on the fly (R131, R136, R248, R268). -/
def State.sentBody (s : State) (x : Tx) (c : Copy) : List Byte :=
  let l := s.copyOctets c (s.frame c.frame).payload
  let l := x.patch.foldl (fun a e => setOct a e.1 e.2) l
  let l := match x.comp with | some (o, v) => setOct l o (beOct 2 ((beAt l o 2 + v) % 65535)) | none => l
  match x.cutAt with | some n => l.take n | none => l

/-- The octets, FCS counted, at which the egress port's limit ends the copy in transmission, if it has outgrown it (R244). -/
def State.outgrown (s : State) (p : Nat) (c : Copy) : Option Nat :=
  let l := s.sentBody (s.tx p) c
  let lim := s.limit p (hdrOf l).tags
  if l.length + 4 > lim then some lim else none

/-- A cut-through copy that has outgrown the egress port's limit ends there, stomped (R244, R248). Log 49 (DEDUCED; unsafe). -/
def State.limitTx (s : State) (p : Nat) (c : Copy) : State :=
  match s.outgrown p c with
  | some lim => s.onTx p (fun x => { x with stomp := true, cutAt := some (lim - 4) })
  | none => s

/-- Words of a physical bank were corrected on read: counted, and MEM_CORR raised (R309). -/
def State.corrected (s : State) (banks : List Nat) : State :=
  banks.foldl (fun a b => (a.inc (pageVB (b % 36)) R.VB.VB_CNT_CORR).integErr (pageVB (b % 36)) 9) s

/-- A read met an uncorrectable word of a physical bank (R309). -/
def State.uncorrectable (s : State) (bank : Nat) : State :=
  (s.inc (pageVB (bank % 36)) R.VB.VB_CNT_UNCORR).integErr (pageVB (bank % 36)) 10

/-- The physical bank that serves a logical bank (R294, R319). -/
def State.bankOf (s : State) (l : Nat) : Nat :=
  ((List.range 36).find? (fun b => s.rd (pageVB b) R.VB.VB_STAT_ROLE == 1 && s.rd (pageVB b) R.VB.VB_STAT_LOGICAL == l)).getD l

/-- The first uncorrectable word, by its physical bank and octet, that a read of a frame to its end meets: the one that another copy
has met, or the one `bad` that this read meets first (R309). -/
def State.meets (s : State) (f : Frame) (bad : Option (Nat × Nat)) : Option (Nat × Nat) :=
  match f.hurt, bad with
  | none, b => b
  | some (l, n), none => some (s.bankOf l, n)
  | some (l, n), some (b, m) => if m < n then some (b, m) else some (s.bankOf l, n)

/-- A word of a frame was met uncorrectable: every later read of the frame meets it too, in whichever bank then serves its
logical bank (R296, R309). -/
def State.hurtFrame (s : State) (f b n : Nat) : State :=
  if s.hasFrame f then s.onFrame f (fun y => { y with hurt := some (s.rd (pageVB (b % 36)) R.VB.VB_STAT_LOGICAL, n) }) else s

/-- The cells of a chain that hold its first `n` octets. -/
def cellsUpTo : Nat → List Nat → List Nat
  | _, [] => []
  | n, c :: cs => if n = 0 then [] else c :: cellsUpTo (n - cellSize c) cs

/-- The link entry after a frame's first `n` octets is uncorrectable: its cells beyond are reached no more and stay charged (R310).
Log 55 (DEDUCED; unsafe). -/
def State.breakChain (s : State) (f n : Nat) : State :=
  if ¬ s.hasFrame f then s else
  let kept := cellsUpTo n (s.frame f).cells
  (s.outOfReach ((s.frame f).cells.drop kept.length) [] 0).onFrame f (fun y => { y with cells := kept })

/-- The copy in transmission at a port has been read to its last octet, or to the egress port's limit (R244), with words corrected in the banks `corr`, or met
an uncorrectable word, of the physical bank and at the octet that `bad` names or one that another copy met, which ends it stomped: the copy leaves. Where
the word is a link entry, the cells beyond it are reached no more and stay charged (R300, R309, R310).
Log 55 (DEDUCED; unsafe). -/
def State.depart (s : State) (p : Nat) (corr : List Nat) (bad : Option (Nat × Nat)) (link : Bool) : State :=
  let x := s.tx p
  match x.kind with
  | .copy v c =>
    let f := s.frame c.frame
    let bad := s.meets f bad
    if x.left ∨ (¬ f.complete ∧ ¬ f.refused ∧ bad = none ∧ s.outgrown p c = none) then s else
    let s := s.corrected corr
    let s := match bad with
      | some (b, n) =>
        let s := ((s.uncorrectable b).hurtFrame c.frame b n).onTx p (fun x => { x with stomp := true, cutAt := some n })
        if link then s.breakChain c.frame n else s
      | none => if f.bad ∨ f.refused then s.onTx p (fun x => { x with stomp := true }) else s
    let s := s.limitTx p c
    let l := s.sentBody (s.tx p) c
    let s := s.onTx p (fun x => { x with left := true, octets := l })
    (s.copyLeaves x v c).touchPort p
  | _ => s

def execCopyDepart (p : Nat) (corr : List Nat) (bad : Option (Nat × Nat)) (link : Bool) (s : State) : Host.Outcome State Fault Refusal :=
  done (s.depart (p % 48) corr bad link)

/-- A frame of `n` octets was sent: the port's statistics count it (R255). Log 49 (DEDUCED; unsafe). -/
def State.countTx (s : State) (p n : Nat) : State :=
  (s.inc (pagePort p) R.PORT.STAT_TX_FRAMES).onMac p (fun m => { m with txOct := satNat 48 (m.txOct + n), lastLen := n })

/-- The refund of a frame that started while arriving: what it was charged beyond its real charge returns to the same
pots, which never exceed their bursts (R326–R328). -/
def State.refund (s : State) (p : Nat) (x : Tx) (n : Nat) : State :=
  if ¬ x.early then s else
  let real := n + (if s.isLane p then 0 else s.rd pageShape R.SHAPE.SHP_OVH)
  x.charges.foldl (fun a e => a.onNode e.1 (fun y =>
    if e.2.1 then { y with k := max y.k (min (y.cfg.cburst * creditUnit) (y.k + ((e.2.2 : Int) - real) * creditUnit)) }
    else { y with p := max y.p (min (y.cfg.pburst * creditUnit) (y.p + ((e.2.2 : Int) - real) * creditUnit)) })) s

/-- A port sends nothing any more, and its gap runs (R185, R246). -/
def State.lineFree (s : State) (p : Nat) : State :=
  let gap := if s.isLane p then 0 else (gapAfter (s.fast p) (s.mac p).lastLen (s.mac p).deficit).1
  ((s.onTx p (fun _ => {})).onMac p (fun m => { m with clearAt := s.fine + s.octTime p gap })).quietNow p

/-- The blocks of a frame on a trunk, without preamble: the first carries 7 octets, those after it 8, and the last what is left, from 0 to 7
(R192). Log 120 (DESIGN CHOICE; unsafe). -/
def frameBlocks (l : List Byte) : List (List Byte) :=
  l.take 7 :: (List.range ((l.length - 7) / 8 + 1)).map (fun i => (l.drop (7 + 8 * i)).take 8)

/-- The blocks of a frame that a trunk sends go one at a time to lanes +0, +1 and +2 in turn, from the lane after that of the last block sent
(R192). Log 120 (DESIGN CHOICE; unsafe). -/
def State.deal (s : State) (p : Nat) (l : List Byte) : State :=
  if ¬ s.isLane p then s else
  let n := p / 4
  let b := frameBlocks l
  let t := (look {} s.trunks n).turn
  let s := s.each 3 (fun i a => a.emit (.dealt n i ((List.range ((b.length + 2) / 3)).filterMap (fun j => b[3 * j + (i + 3 - t) % 3]?))))
  { s with trunks := upd {} s.trunks n (fun x => { x with turn := (t + b.length) % 3 }) }

/-- A frame ends on the line of a port (R192, R246, R248, R255, R328). Log 58 (PRESUMED; unsafe). -/
def State.txEnd (s : State) (p : Nat) : State :=
  let x := s.tx p
  let s := match x.kind with | .copy _ _ => if x.left then s else s.depart p [] none false | _ => s
  let x := s.tx p
  let fin (s : State) : State :=
    let l := x.octets ++ (if x.stomp then stompOf x.octets else fcsOf x.octets)
    let s := ((s.countTx p l.length).emit (.frame p l x.stomp)).deal p l
    let s := if x.stomp then (s.inc (pagePort p) R.PORT.STAT_TX_STOMP).sticky p 4 else s
    ((s.accruePort p).refund p x l.length).lineFree p
  match x.kind with
  | .idle => s
  | .pause _ => ((s.countTx p (x.octets.length + 4)).lineFree p).touchPort p
  | .gateway _ => (fin s).touchPort p
  | .inband l => ((fin s).emit (.inband 3 l)).touchPort p
  | .copy _ c => if ¬ x.left then s else
      ((fin s).fenceFrame c.frame).touchPort p

def execFrameTxEnd (p : Nat) (s : State) : Host.Outcome State Fault Refusal := done (s.txEnd (p % 48))

/-- The link of a port leaves UP: a frame that it sends is counted as sent, what it was charged beyond its real charge returns, and its
copy leaves; a PAUSE that is due and a grant made ahead are dropped (R250, R254, R328). Log 53 (DEDUCED; unsafe). -/
def State.txAbort (s : State) (p : Nat) : State :=
  let x := s.tx p
  let s := s.onMac p (fun m => { m with due := none, pick := none })
  match x.kind with
  | .copy v c =>
    let n := (if x.left then x.octets else s.sentBody x c).length + 4
    let s := ((s.countTx p n).accruePort p).refund p x n
    let s := if x.left then s else s.copyLeaves x v c
    ((s.onTx p (fun _ => {})).fenceFrame c.frame).quietNow p
  | .idle => s
  | _ => ((s.countTx p (x.octets.length + 4)).onTx p (fun _ => {})).quietNow p

/-! ### The shaper window (R329, R343) -/

/-- The configuration staged in the window. -/
def State.stagedCfg (s : State) : NodeCfg :=
  let g (f : Fld) : Nat := s.rd pageShape f
  { cir := g R.SHAPE.SHP_CIR, cburst := g R.SHAPE.SHP_CBURST, pir := g R.SHAPE.SHP_PIR, pburst := g R.SHAPE.SHP_PBURST
    en := g R.SHAPE.SHAPER_CTL_EN == 1, full := g R.SHAPE.SHAPER_CTL_RESET_MODE == 1, prio := g R.SHAPE.SHAPER_CTL_PRIO
    rigid := g R.SHAPE.SHAPER_CTL_RIGID == 1, quantum := g R.SHAPE.SHAPER_CTL_QUANTUM }

/-- A node takes a new configuration: K and P are set as RESET_MODE says, and a refund due is discarded (R329). -/
def State.configNode (s : State) (n : Nat) (c : NodeCfg) : State :=
  let s := s.accruePort (nodePort n)
  let full (b : Nat) : Int := if c.full then b * creditUnit else 0
  let s := s.onNode n (fun x => { x with cfg := c, k := full c.cburst, p := full c.pburst, at_ := s.core })
  let s := s.onTx (nodePort n) (fun x => { x with charges := x.charges.filter (fun e => e.1 != n) })
  s.touchPort (nodePort n)

/-- A command of the window keeps it busy for at most 100 ns (R343). Log 117 (DESIGN CHOICE; safe). -/
def State.shpBusy (s : State) : State := ({ s with shpUntil := s.up + Config.shapeBusy s.free % 101 } : State).bump

/-- The shaper window is busy (R343). -/
def State.shapeBusy (s : State) : Bool := decide (s.up < s.shpUntil)

/-- `SHP_CMD.WRITE`: refused for a node above 6,575 or as a 65th held write, held with AT_COMMIT, applied otherwise (R329).
Log 24 (DEDUCED; unsafe). -/
def State.shpWrite (s : State) (held : Bool) : State :=
  let s := s.shpBusy
  let n := s.rd pageShape R.SHAPE.SHP_SEL
  if n > 6575 ∨ (held ∧ s.heldShapes.length ≥ 64) then (s.wr pageShape R.SHAPE.SHP_STAT_REJECT 1).raise pageShape 0
  else
    let s := s.wr pageShape R.SHAPE.SHP_STAT_REJECT 0
    if held then
      let s : State := { s with heldShapes := s.heldShapes ++ [(n, s.stagedCfg)] }
      s.wr pageShape R.SHAPE.SHP_STAT_HELD s.heldShapes.length
    else s.configNode n s.stagedCfg

/-- The held writes take effect together at the page's commit (R329). -/
def State.shpCommit (s : State) : State :=
  let l := s.heldShapes
  ((({ s with heldShapes := [] } : State).wr pageShape R.SHAPE.SHP_STAT_HELD 0)) |> fun s => l.foldl (fun a e => a.configNode e.1 e.2) s

/-- `SHP_CMD.READ`: the configuration and live state of the node named (R343). -/
def State.shpRead (s : State) : State :=
  let s := s.shpBusy
  let n := s.rd pageShape R.SHAPE.SHP_SEL
  let s := s.accruePort (nodePort n)
  let x := s.node n
  let c := x.cfg
  let w (f : Fld) (v : Nat) (s : State) : State := s.wr pageShape f v
  let s := w R.SHAPE.SHP_CIR c.cir s |> w R.SHAPE.SHP_CBURST c.cburst |> w R.SHAPE.SHP_PIR c.pir |> w R.SHAPE.SHP_PBURST c.pburst
  let s := w R.SHAPE.SHAPER_CTL_EN (b2n c.en) s |> w R.SHAPE.SHAPER_CTL_RESET_MODE (b2n c.full) |> w R.SHAPE.SHAPER_CTL_PRIO c.prio
    |> w R.SHAPE.SHAPER_CTL_RIGID (b2n c.rigid) |> w R.SHAPE.SHAPER_CTL_QUANTUM c.quantum
  let s := w R.SHAPE.SHP_CIR_LIVE (s.cirLive n) s |> w R.SHAPE.SHP_STAT_STATE x.state
  (s.wrSat pageShape R.SHAPE.SHP_CREDIT (x.k * 16 / creditUnit)).wrSat pageShape R.SHAPE.SHP_TOKENS (x.p * 16 / creditUnit)

/-! ### Installing gate lists (R336, R337) -/

/-- The pending length or cycle of a port is outside its range (R336). -/
def State.pendBad (s : State) (p : Nat) : Bool :=
  let g (f : Fld) : Nat := s.rdI pageGate f p
  let n := g R.GATE.GATE_PEND_CYCLE_CYCLE
  let len := g R.GATE.GATE_PEND_LEN
  decide (len = 0 ∨ len > 256) || (if g R.GATE.GATE_PEND_CYCLE_HOOP_LOCK = 1 then decide (n = 0 ∨ n > 1000) else decide (n < 1000 ∨ n > 1000000000))

/-- GATE_LIST_INSTALL. Log 26 (DEDUCED; unsafe). -/
def State.startGateInstall (k : Cmd) (s : State) : State :=
  let p := k.arg 0
  let s := s.fly k
  let g (f : Fld) : Nat := s.rdI pageGate f p
  let hoop := g R.GATE.GATE_PEND_CYCLE_HOOP_LOCK == 1
  let n := g R.GATE.GATE_PEND_CYCLE_CYCLE
  let len := g R.GATE.GATE_PEND_LEN
  let cycle := if hoop then n * s.hoop else n
  let base0 := (g R.GATE.GATE_PEND_BASE_SEC_HI * 2 ^ 32 + g R.GATE.GATE_PEND_BASE_SEC_LO) * 1000000000 + g R.GATE.GATE_PEND_BASE_NS
  if s.pendBad p then s.finish k stBadArg 0xFF 0 0
  else
    let base := if hoop then (base0 + cycle - 1) / cycle * cycle else base0
    let late := s.now + 2000
    let m := if base ≥ late then 0 else max 1 ((late - base + cycle - 1) / cycle)
    if m ≥ 1 ∧ g R.GATE.GATE_CTL_STRICT = 1 then s.finish k stLate 0 (satNat 32 m) 0
    else
      let s := s.onGate p (fun x => { x with pend := { x.pend with len := len, cycle := n, hoop := hoop }, inst := some ⟨base + m * cycle, m⟩ })
      s.wrI pageGate R.GATE.GATE_STAT_INSTALLING p 1

/-- The two lists swap roles where an install is in flight (R336). -/
def Gate.swap (g : Gate) : Gate :=
  match g.inst with
  | none => g
  | some i => { g with active := g.pend, pend := g.active, valid := true, start := i.start, inst := none, hold := none }

/-- At S the lists swap roles and the install completes (R336). -/
def State.gateSwap (s : State) (p : Nat) : State :=
  match (s.gate p).inst with
  | none => s
  | some i =>
    let s := s.onGate p Gate.swap
    let a := (s.gate p).active
    let s := (s.wrI pageGate R.GATE.GATE_STAT_INSTALLING p 0).wrI pageGate R.GATE.GATE_STAT_ACTIVE_VALID p 1
    let s := (s.wrI pageGate R.GATE.GATE_ACT_START_SEC p (i.start / 1000000000)).wrI pageGate R.GATE.GATE_ACT_START_NS p (i.start % 1000000000)
    let s := (s.wrI pageGate R.GATE.GATE_ACT_CYCLE_CYCLE p a.cycle).wrI pageGate R.GATE.GATE_ACT_CYCLE_HOOP_LOCK p (b2n a.hoop)
    let s := (s.wrI pageGate R.GATE.GATE_ACT_LEN p a.len).raise pageGate 0
    (s.finishOp 0x30 p stOk (satNat 32 i.n) 0).touchPort p

/-- The installs whose S the counter has passed take effect, as after a step (R338). -/
def State.gateSwapDue (s : State) : State :=
  s.each 48 (fun p a => match (a.gate p).inst with | some i => if i.start ≤ a.now then a.gateSwap p else a | none => a)

/-- S has come (R336). -/
def execGateListSwap (p : Nat) (s : State) : Host.Outcome State Fault Refusal :=
  let p := p % 48
  done (match (s.gate p).inst with
    | some i => (s.advance (i.start - s.now)).gateSwap p
    | none => s)

/-- The next entry boundary of a port's active list after now (R333). -/
def State.nextBoundary (s : State) (p : Nat) : Option Nat :=
  let g := s.seqGate p
  if ¬ s.gated p then none else
  match g.hold with
  | some (_, fin) => if s.now < fin then some fin else
      ((g.active.spans (s.cycleOf g.active)).find? (fun x => decide (s.gatePos g s.now < x.2.2.1))).map (fun x => s.now + (x.2.2.1 - s.gatePos g s.now))
  | none => ((g.active.spans (s.cycleOf g.active)).find? (fun x => decide (s.gatePos g s.now < x.2.2.1))).map (fun x => s.now + (x.2.2.1 - s.gatePos g s.now))

/-- An entry boundary of the active list comes, and the port's gates take the states of the entry that begins (R334). -/
def execGateChange (p : Nat) (s : State) : Host.Outcome State Fault Refusal :=
  let p := p % 48
  done (match s.nextBoundary p with
    | some b =>
      let s := (s.accruePort p).advance (b - s.now)
      (s.onGate p (fun g => { g with hold := match g.hold with | some (e, fin) => if b < fin then some (e, fin) else none | none => none })).touchPort p
    | none => s)

/-- At a change of H every active hoop-locked list holds its entry until the first cycle start under the new H (R337). -/
def State.hoopChanged (old : State) (s : State) : State :=
  if old.hoop = s.hoop then s else
  s.each 48 (fun p a =>
    a.onGate p (fun g =>
      let c := a.cycleOf g.active
      if ¬ g.valid ∨ ¬ g.active.hoop ∨ c = 0 then g else { g with hold := some (old.entryOf g old.now, (a.now + c - 1) / c * c) }))

/-- The entry that `GATE_SEL` names: the pending or active list of a port. -/
def State.gateSelList (s : State) : GateList :=
  let g := s.gate (s.rd pageGate R.GATE.GATE_SEL_PORT)
  if s.flag pageGate R.GATE.GATE_SEL_LIST then g.pend else g.active

/-- `GATE_CMD.WRITE`: the active list and a list being installed are locked, and an interval below 64 ns is bad (R333, R336, R344). -/
def State.gateWrite (s : State) : State :=
  let p := s.rd pageGate R.GATE.GATE_SEL_PORT
  let i := s.rd pageGate R.GATE.GATE_SEL_ENTRY
  let v := (s.rd pageGate R.GATE.GATE_D0, s.rd pageGate R.GATE.GATE_D1)
  if p ≥ 48 ∨ ¬ s.flag pageGate R.GATE.GATE_SEL_LIST ∨ (s.gate p).inst.isSome then s.wr pageGate R.GATE.GATE_WSTAT_RESULT 1
  else if v.2 < 64 then s.wr pageGate R.GATE.GATE_WSTAT_RESULT 2
  else (s.onGate p (fun g => { g with pend := { g.pend with entries := put (0, 0) g.pend.entries i v } })).wr pageGate R.GATE.GATE_WSTAT_RESULT 0

/-- `GATE_CMD.READ` (R344). -/
def State.gateRead (s : State) : State :=
  let e := s.gateSelList.entry (s.rd pageGate R.GATE.GATE_SEL_ENTRY)
  ((s.wr pageGate R.GATE.GATE_D0 e.1).wr pageGate R.GATE.GATE_D1 e.2).wr pageGate R.GATE.GATE_WSTAT_RESULT 0

/-! ### Sampling (R340, R341, R345) -/

/-- A sweep falls due: skipped while the one before runs, dropped where it does not fit whole, written otherwise (R340, R341).
Log 51 (DEDUCED; unsafe). -/
def State.sweep (s : State) : State :=
  if ¬ s.flag pageSample R.SAMPLE.SMP_CTL_EN then s else
  let per := s.rd pageSample R.SAMPLE.SMP_CTL_PERIOD * 1000
  let from_ := if s.smpAt = some s.up then s.now + 1 else s.now
  let at_ := (from_ + per - 1) / per * per
  let s := s.advance (at_ - s.now)
  let s : State := { s with smpAt := some s.up }
  if s.core < s.smpUntil then
    (({ s with smpSkipped := s.smpSkipped + 1, smpSeq := s.smpSeq + 1 } : State).inc pageSample R.SAMPLE.SMP_CNT_SKIP).raise pageSample 2
  else
    let ws := (s.watch.map (fun e => e.2)).filter (fun w => bitAt w 31)
    let s : State := { s with smpUntil := s.core + 4 * ws.length }
    if s.samples.length + 1 + ws.length > 8192 then
      (({ s with smpSeq := s.smpSeq + 1 } : State).inc pageSample R.SAMPLE.SMP_CNT_DROP).raise pageSample 1
    else
      let head := [3 * 2 ^ 30 + at_ % 1000000000, at_ / 1000000000 % 2 ^ 32, ws.length + s.smpSeq % 65536 * 65536, satNat 16 s.smpSkipped]
      (({ s with samples := s.samples ++ [head], smpRun := if ws = [] then none else some ⟨at_, ws, s.core⟩, smpSeq := s.smpSeq + 1, smpSkipped := 0 } : State).showRing).sampleOn

def execSampleSweep (s : State) : Host.Outcome State Fault Refusal := done s.sweep

/-- Reading `SMP_RD0` loads the head record, zeros when the ring is empty, and reading `SMP_RD3` removes it (R341). -/
def State.smpLoad (s : State) : State :=
  let r := s.samples.headD [0, 0, 0, 0]
  s.each 4 (fun i a => a.wrI pageSample R.SAMPLE.SMP_RD i (r.getD i 0))
def State.smpPop (s : State) : State := ({ s with samples := s.samples.drop 1 } : State).showRing

end Sys2Proof.Machine
end

