-- ==== Sys2Proof/Machine/Forward.lean ====
section
/-! DEFINITION. Forwarding tables, lookups, learning, critical entries and fences (R263–R293). -/

namespace Sys2Proof.Machine

open Sys2Proof

/-! ### Tables -/

/-- The pipeline that serves a port: 0 East, 1 West (R263). -/
def pipeOf (p : Nat) : Nat := p / 24

def tabKey (w table index : Nat) : Nat := (w * 8 + table) * 2 ^ 17 + index

/-- The words of an entry. -/
def State.entry (s : State) (w table index : Nat) : List Nat := look [] s.tabs (tabKey w table index)

/-- Word `i` of some entry words. -/
def wordAt (e : List Nat) (i : Nat) : Nat := e.getD i 0

/-- Writes an entry; one whose words are all 0 is not listed. -/
def State.setEntry (s : State) (w table index : Nat) (e : List Nat) : State :=
  { s with tabs := put [] s.tabs (tabKey w table index) (if e.all (fun x => x == 0) then [] else e) }

/-- The tables (R288, R292). -/
def tMac : Nat := 1
def tGroup : Nat := 2
def tNh : Nat := 3
def tV4 : Nat := 4
def tV6 : Nat := 5
def tF4 : Nat := 6
def tF6 : Nat := 7

/-- Ways and words of a table (R270, R272, R281–R283). -/
def tabWays (t : Nat) : Nat := match t with | 1 => 8 | 4 => 8 | 5 => 4 | _ => 0
def tabWords (t : Nat) : Nat := match t with | 1 => 4 | 2 => 4 | 3 => 3 | 4 => 3 | 5 => 6 | 6 => 1 | 7 => 3 | _ => 0

/-- The valid bit of an entry (R271, R272, R283). -/
def entryValid (t : Nat) (e : List Nat) : Bool :=
  match t with
  | 1 | 3 | 4 => bitAt (wordAt e 1) 31
  | 2 => bitAt (wordAt e 3) 31
  | 5 => bitAt (wordAt e 4) 31
  | _ => true

/-- An entry with its V bit cleared (R285). -/
def clearV (t : Nat) (e : List Nat) : List Nat :=
  let i := match t with | 2 => 3 | 5 => 4 | _ => 1
  e.set i (wordAt e i % 2 ^ 31)

/-- The critical bit of an entry (R271, R272, R283, R285). -/
def entryCrit (t : Nat) (e : List Nat) : Bool :=
  match t with
  | 1 | 3 | 4 => bitAt (wordAt e 2) 19
  | 2 => bitAt (wordAt e 3) 19
  | _ => false

/-- The mask of the bits an entry word has (R271, R272, R282, R283). -/
def entryMask (t : Nat) (e : List Nat) (i : Nat) : Nat :=
  match t, i with
  | 1, 0 => 0xFFFFFFFF
  | 1, 1 => 0x9FFFFFFF
  | 1, 2 => if bitAt (wordAt e 1) 28 then 0x81FFF else 0x33FFFFF
  | 1, 3 => if bitAt (wordAt e 1) 28 then 0 else 0xFFF
  | 2, 0 => 0xFFFFFFFF
  | 2, 1 => 0xFFFF
  | 2, 2 => 0xFFFFFFFF
  | 2, 3 => 0x8008FFFF
  | 3, 0 => 0xFFFFFFFF
  | 3, 1 => 0x8FFFFFFF
  | 3, 2 => 0x308FFFF
  | 4, 0 => 0xFFFFFFFF
  | 4, 1 => 0x8000003F
  | 4, 2 => 0x80FFF
  | 5, 4 => 0x800000FF
  | 5, 5 => 0xFFF
  | 5, _ => 0xFFFFFFFF
  | 6, _ => 0xFFFFFFFF
  | 7, 2 => 1
  | 7, _ => 0xFFFFFFFF
  | _, _ => 0

/-- Entry words with the bits that the entry does not have written as 0 (R271). -/
def maskEntry (t : Nat) (e : List Nat) : List Nat := (List.range (tabWords t)).map (fun i => wordAt e i &&& entryMask t e i)

/-- The prefix length of a prefix entry. -/
def prefixLen (t : Nat) (e : List Nat) : Nat := if t = 4 then bits (wordAt e 1) 0 6 else bits (wordAt e 4) 0 8

/-- The address of a prefix entry as one number, and its width in bits. -/
def addrBits (t : Nat) : Nat := if t = 4 then 32 else 128
def prefixAddr (t : Nat) (e : List Nat) : Nat :=
  if t = 4 then wordAt e 0 else ((wordAt e 0 * 2 ^ 32 + wordAt e 1) * 2 ^ 32 + wordAt e 2) * 2 ^ 32 + wordAt e 3

/-- The top `l` bits of an address of `w` bits, the others 0. -/
def topBits (w l a : Nat) : Nat := a / 2 ^ (w - l) * 2 ^ (w - l)

/-- The key in an entry's words keeps its layout: a VID, a VLAN entry without address, a prefix of a length there is, with no bits
beyond it (R271, R281, R283). -/
def keyOk (t : Nat) (e : List Nat) : Bool :=
  match t with
  | 1 =>
    let vid := bits (wordAt e 1) 16 12
    decide (1 ≤ vid ∧ vid ≤ 4094) && (!bitAt (wordAt e 1) 28 || (wordAt e 0 == 0 && bits (wordAt e 1) 0 16 == 0))
  | 4 | 5 =>
    let l := prefixLen t e
    (if t = 4 then decide (1 ≤ l ∧ l ≤ 32) else decide ((1 ≤ l ∧ l ≤ 64) ∨ l = 128)) &&
      topBits (addrBits t) l (prefixAddr t e) == prefixAddr t e
  | _ => true

/-- An entry keeps its layout: its key's, the port of a MAC entry that names one, and a next hop's port (R271, R283). -/
def layoutOk (t : Nat) (e : List Nat) : Bool :=
  keyOk t e && match t with
  | 1 => bitAt (wordAt e 1) 28 || bitAt (wordAt e 2) 20 || decide (bits (wordAt e 2) 0 6 < 48)
  | 3 => decide (bits (wordAt e 2) 0 6 < 48)
  | _ => true

/-- The lengths that a filter entry names (R282). -/
def filterLens (t : Nat) (e : List Nat) : List Nat :=
  if t = 6 then (List.range 32).filterMap (fun k => if bitAt (wordAt e 0) k then some (k + 1) else none)
  else ((List.range 64).filterMap (fun k => if bitAt (wordAt e (k / 32)) (k % 32) then some (k + 1) else none)) ++
    (if bitAt (wordAt e 2) 0 then [128] else [])

/-- The seed of a pipeline's table page (R270, R281). -/
def State.seed (s : State) (page : Nat) : Nat := s.rd page R.TBL.TBL_SEED

/-- The bucket of a key of the MAC/VLAN table (R270). Log 48 (DEDUCED; unsafe). -/
def State.macBucket (s : State) (w addr vid kc : Nat) : Nat :=
  crc32 (s.seed (pageMact w)) (beOct 6 addr ++ [BitVec.ofNat 8 (kc * 16 + vid / 256), BitVec.ofNat 8 (vid % 256)]) % 16384

/-- The range of buckets of a prefix length: base, log2 of its size, and whether it is enabled (R281). -/
def State.lenRange (s : State) (w t l : Nat) : Nat × Nat × Bool :=
  let p := pageLpm w
  if t = 4 then (s.rdI p R.LPM.LPM4_LEN_BASE (l - 1), s.rdI p R.LPM.LPM4_LEN_SIZE (l - 1), s.rdI p R.LPM.LPM4_LEN_EN (l - 1) == 1)
  else if l = 128 then (s.rd p R.LPM.LPM6_LEN128_BASE, s.rd p R.LPM.LPM6_LEN128_SIZE, s.rd p R.LPM.LPM6_LEN128_EN == 1)
  else (s.rdI p R.LPM.LPM6_LEN_BASE (l - 1), s.rdI p R.LPM.LPM6_LEN_SIZE (l - 1), s.rdI p R.LPM.LPM6_LEN_EN (l - 1) == 1)

/-- The bucket of a prefix (R281). -/
def State.prefixBucket (s : State) (w t l a : Nat) : Nat :=
  let r := s.lenRange w t l
  r.1 + crc32 (s.seed (pageLpm w)) (beOct (if t = 4 then 4 else 16) (topBits (addrBits t) l a)) % 2 ^ r.2.1

/-- The key of an entry's words, as the bits that must agree (R270, R281). -/
def entryKey (t : Nat) (e : List Nat) : List Nat :=
  match t with
  | 1 => [wordAt e 0, wordAt e 1 &&& 0x1FFFFFFF]
  | _ => [prefixLen t e, prefixAddr t e]

/-- The bucket of an entry's key. -/
def State.bucketOf (s : State) (w t : Nat) (e : List Nat) : Nat :=
  match t with
  | 1 => s.macBucket w (bits (wordAt e 1) 0 16 * 2 ^ 32 + wordAt e 0) (bits (wordAt e 1) 16 12) (bits (wordAt e 1) 28 1)
  | _ => s.prefixBucket w t (prefixLen t e) (prefixAddr t e)

/-- The indices of the ways of an entry's bucket. -/
def State.ways (s : State) (w t : Nat) (e : List Nat) : List Nat :=
  let b := s.bucketOf w t e
  (List.range (tabWays t)).map (fun i => b * tabWays t + i)

/-- The index that holds an entry's key (R270). -/
def State.findKey (s : State) (w t : Nat) (e : List Nat) : Option Nat :=
  (s.ways w t e).find? (fun i => entryValid t (s.entry w t i) && entryKey t (s.entry w t i) == entryKey t e)

/-- The first free way for an entry's key (R288). -/
def State.freeWay (s : State) (w t : Nat) (e : List Nat) : Option Nat := (s.ways w t e).find? (fun i => !entryValid t (s.entry w t i))

/-- The words of a MAC or VLAN key. -/
def macKey (addr vid kc : Nat) : List Nat := [addr % 2 ^ 32, addr / 2 ^ 32 + vid * 2 ^ 16 + kc * 2 ^ 28 + 2 ^ 31, 0, 0]

/-- The page on which a table's window and captures stand. -/
def tabPage (w t : Nat) : Nat := if t ≤ 2 then pageMact w else pageLpm w

/-- An entry with bad parity is found: a data-class entry loses V and keeps its other words; the event is counted, captured and raises PARITY; a
critical entry's slot is compared next (R285, R286). -/
def State.parityBad (s : State) (w t i : Nat) : State :=
  let e := s.entry w t i
  if entryCrit t e then
    match (s.shadows.find? (fun x => x.2.pipe == w && x.2.table == t && x.2.index == i)) with
    | some x => if x.1 ∈ s.slotFirst then s else { s with slotFirst := s.slotFirst ++ [x.1] }
    | none => s
  else
    let s := s.setEntry w t i (clearV t e)
    let p := tabPage w t
    ((((s.inc p R.TBL.TBL_CNT_PARITY).wr p R.TBL.TBL_PAR_CAPT_TABLE t).wr p R.TBL.TBL_PAR_CAPT_INDEX i).wr p R.TBL.TBL_PAR_CAPT_VALID 1).raise p 0

/-! ### A lookup (R266–R268, R273, R281–R284) -/

/-- The damaged entries that a lookup's reads meet: table and index. A length-filter entry so named is uncorrectable; one named with
8 added to its table has a single-bit error (R282). -/
abbrev Damage := List (Nat × Nat)

/-- A lookup's read of a hash table by key: a damaged entry counts as a miss (R273, R285, R286). -/
def State.probe (s : State) (w t : Nat) (k : List Nat) (d : Damage) : Option Nat × State :=
  match s.findKey w t k with
  | none => (none, s)
  | some i => if d.contains (t, i) then (none, s.parityBad w t i) else (some i, s)

/-- A lookup's read of an entry by index. -/
def State.probeAt (s : State) (w t i : Nat) (d : Damage) : Option (List Nat) × State :=
  if ¬ entryValid t (s.entry w t i) then (none, s)
  else if d.contains (t, i) then (none, s.parityBad w t i) else (some (s.entry w t i), s)

/-- The count of a pipeline page register. -/
def State.pipeCount (s : State) (w : Nat) (f : Fld) : State := s.inc (pagePipe w) f

/-- The classification of a frame (R266), and the PCP and DEI that the tag of a copy carries: those received, or DEF_PCP for a
frame that arrived untagged (R268). -/
structure Class where
  vid : Nat
  pcp : Nat
  mark : Nat
  subscr : Nat
  svc : Nat
  deriving DecidableEq, Repr

def State.classify (s : State) (port : Nat) (h : Hdr) : Class :=
  let p := pagePipe (pipeOf port)
  let i := port % 24
  let dv := s.rdI p R.PIPE.PIPE_PORT_CFG_DEF_VID i
  let dp := s.rdI p R.PIPE.PIPE_PORT_CFG_DEF_PCP i
  let c := match h.tci with
    | none => (dv, dp, 2 * dp)
    | some t => if bits t 0 12 = 0 then (dv, dp, bits t 12 4) else (bits t 0 12, bits t 13 3, bits t 12 4)
  { vid := c.1, pcp := c.2.1, mark := c.2.2, subscr := s.rdI p R.PIPE.PIPE_PORT_CFG_DEF_SUBSCR i
    svc := bits (s.rdI p R.PIPE.PIPE_PORT_SVC i) (3 * c.2.1) 3 }

/-- The member and untag masks of a group entry (R272). -/
def grpMembers (e : List Nat) : Nat := wordAt e 0 + bits (wordAt e 1) 0 16 * 2 ^ 32
def grpUntag (e : List Nat) : Nat := wordAt e 2 + bits (wordAt e 3) 0 16 * 2 ^ 32

/-- The learned entries of a pipeline that name a port, with its home requests queued: the count of R274. -/
def State.learnCount (s : State) (p : Nat) : Nat :=
  let w := pipeOf p
  let lo := tabKey w tMac 0
  (s.tabs.filter (fun e => decide (lo ≤ e.1 ∧ e.1 < lo + 2 ^ 17) && entryValid 1 e.2 && !bitAt (wordAt e.2 1) 28 &&
    !bitAt (wordAt e.2 2) 16 && !bitAt (wordAt e.2 2) 19 && !bitAt (wordAt e.2 2) 20 && bits (wordAt e.2 2) 0 6 == p)).length +
  ((look [] s.learnq w).filter (fun r => match r.kind with | .learn _ _ false => r.port == p | _ => false)).length

/-- Puts a request in its place by decision cycle and port (R276). Log 52 (DEDUCED; unsafe). -/
def insertReq (r : Req) : List Req → List Req
  | [] => [r]
  | x :: xs => if r.cycle < x.cycle ∨ (r.cycle = x.cycle ∧ r.port < x.port) then r :: x :: xs else x :: insertReq r xs

/-- The learns in a queue, which 4,096 places hold; 64 more are the window's (R276, R288). -/
def learns (l : List Req) : Nat := (l.filter (fun r => match r.kind with | .learn .. => true | _ => false)).length

/-- A learn request enters a queue, or finds it full (R276). -/
def State.queueLearn (s : State) (w : Nat) (r : Req) : State :=
  let q := look [] s.learnq w
  if learns q ≥ 4096 then (s.pipeCount w R.PIPE.PIPE_CNT_LEARN_QFULL).raise (pagePipe w) 3
  else { s with learnq := put [] s.learnq w (insertReq r q) }

/-- The home pipeline queues a learn request and sends a copy to the other (R275). -/
def State.requestLearn (s : State) (port addr vid : Nat) : State :=
  let w := pipeOf port
  if learns (look [] s.learnq w) ≥ 4096 then (s.pipeCount w R.PIPE.PIPE_CNT_LEARN_QFULL).raise (pagePipe w) 3
  else
    let s := s.queueLearn w { cycle := s.core, port := port, kind := .learn addr vid false }
    { s with crossing := put [] s.crossing (1 - w) (look [] s.crossing (1 - w) ++ [{ cycle := s.core, port := port, kind := .learn addr vid true }]) }

/-- A source lookup sets HIT of an entry, in the core cycle that is now (R273, R278). -/
def State.setHit (s : State) (w i : Nat) : State :=
  let e := s.entry w tMac i
  let k := tabKey w tMac i
  ({ s with hits := (s.core, if s.hits.1 = s.core then k :: s.hits.2 else [k]) } : State).setEntry w tMac i (e.set 2 (wordAt e 2 ||| 2 ^ 17))

/-- A source lookup set HIT of an entry in the core cycle that is now (R278). -/
def State.justHit (s : State) (w i : Nat) : Bool := decide (s.hits.1 = s.core) && s.hits.2.contains (tabKey w tMac i)

/-- The source step (R273): the state, and whether the frame is dropped. -/
def State.source (s : State) (port addr vid : Nat) (vlanLearns host : Bool) (d : Damage) : State × Bool :=
  let w := pipeOf port
  let p := pagePipe w
  let i := port % 24
  let r := s.probe w tMac (macKey addr vid 0) d
  let s := r.2
  let learn := s.rdI p R.PIPE.PIPE_PORT_CFG_LEARN i == 1 && vlanLearns && !host
  let full := decide (s.learnCount port ≥ s.rdI p R.PIPE.PIPE_LEARN_LIM i)
  let excess (s : State) : State × Bool :=
    ((s.pipeCount w R.PIPE.PIPE_CNT_EXCESS).raise p 2, s.rdI p R.PIPE.PIPE_PORT_CFG_EXCESS i == 0)
  match r.1 with
  | some x =>
    let e := s.entry w tMac x
    let w2 := wordAt e 2
    if bits w2 0 6 = port then (s.setHit w x, false)
    else if ¬ learn then (s, false)
    else if bitAt w2 16 ∨ bitAt w2 19 then
      (s.pipeCount w R.PIPE.PIPE_CNT_STATIC_CONFLICT, s.flag p R.PIPE.PIPE_CTL_STATIC_GUARD)
    else if bitAt w2 18 then (s.pipeCount w R.PIPE.PIPE_CNT_LOCKED_SA, s.flag p R.PIPE.PIPE_CTL_LOCK_DROP)
    else if full then excess s else (s.requestLearn port addr vid, false)
  | none => if ¬ learn then (s, false) else if full then excess s else (s.requestLearn port addr vid, false)

/-- What a decision needs of its frame. -/
structure Ctx where
  f : Nat
  w : Nat
  port : Nat
  cls : Class
  /-- the untag mask of the VLAN's flood group -/
  untag : Nat

/-- The tag edit of a copy to a port (R268). -/
def Ctx.tagFor (c : Ctx) (vid port : Nat) : TagEdit :=
  if bitAt c.untag port then .strip else .set (c.cls.mark * 4096 + vid)

/-- A copy that the decision names, but not one of a host frame that is too long for the egress port's limit (R257).
Log 53 (DEDUCED; unsafe). -/
def State.sendCopy (s : State) (f leaf : Nat) (edit : Edit) : State :=
  let x := s.frame f
  let l := s.copyOctets { frame := f, leaf := leaf, edit := edit } (body x.octets)
  if x.host ∧ s.takes (leafPort leaf) ∧ l.length + 4 > s.limit (leafPort leaf) (hdrOf l).tags then s.onFrame f (fun y => { y with tooBig := true })
  else s.addCopy f leaf edit

/-- One copy to a port (R267, R268). -/
def State.copyTo (s : State) (c : Ctx) (port subscr svc : Nat) : State :=
  s.sendCopy c.f (leafOf port subscr svc) { tag := c.tagFor c.cls.vid port }

/-- Copies to every member of a group but the ingress port; none if the group is invalid, which is counted (R267, R272). -/
def State.copyGroup (s : State) (c : Ctx) (g subscr svc : Nat) (d : Damage) : State :=
  let r := s.probeAt c.w tGroup g d
  match r.1 with
  | none => r.2.pipeCount c.w R.PIPE.PIPE_CNT_GROUP_INV
  | some e => r.2.each 48 (fun p a => if bitAt (grpMembers e) p ∧ p ≠ c.port then a.copyTo c p subscr svc else a)

/-- The IP header of a frame that can be routed: whether it is IPv4, and its destination address (R281). -/
def ipDest (l : List Byte) : Option (Bool × Nat) :=
  let h := hdrOf l
  if h.etype = 0x0800 then
    let a := beAt l (h.off + 16) 4
    if a / 2 ^ 28 = 14 ∨ a = 0xFFFFFFFF then none else some (true, a)
  else if h.etype = 0x86DD then
    let a := beAt l (h.off + 24) 16
    if a / 2 ^ 120 = 255 then none else some (false, a)
  else none

/-- The frame is an exception to routing whatever its next hop (R284). Log 80 (DEDUCED; unsafe). -/
def routeExc (l : List Byte) (v4 : Bool) : Bool :=
  let h := hdrOf l
  if v4 then
    let ihl := beAt l h.off 1 % 16
    let hd := octets l h.off (ihl * 4)
    decide (beAt l (h.off + 8) 1 ≤ 1) || decide (ihl < 5) || ocSum hd % 65535 != 0
  else decide (beAt l (h.off + 7) 1 ≤ 1) || beAt l (h.off + 6) 1 == 0

/-- The octets of the routed frame by its own length field, with a tag and FCS (R284). -/
def routedLen (l : List Byte) (v4 : Bool) : Nat :=
  let h := hdrOf l
  14 + 4 * (if h.tags = 0 then 1 else h.tags) + 4 + (if v4 then beAt l (h.off + 2) 2 else 40 + beAt l (h.off + 4) 2)

/-- One length of a search: the length register and the entry of the prefix of `l` bits, the best match so far before it (R283). -/
def State.tryLen (w : Nat) (v4 : Bool) (a : Nat) (d : Damage) (b : Option (Nat × Nat) × State) (l : Nat) : Option (Nat × Nat) × State :=
  let t := if v4 then tV4 else tV6
  let x := topBits (addrBits t) l a
  let key := if v4 then [x, l + 2 ^ 31, 0] else [x / 2 ^ 96, x / 2 ^ 64 % 2 ^ 32, x / 2 ^ 32 % 2 ^ 32, x % 2 ^ 32, l + 2 ^ 31, 0]
  if ¬ (b.2.lenRange w t l).2.2 then b else
  let y := b.2.probe w t key d
  match y.1 with
  | some i => ((match b.1 with | some z => if z.1 > l then some z else some (l, i) | none => some (l, i)), y.2)
  | none => (b.1, y.2)

/-- The next hop of a destination address: the longest prefix named by the length filter that hits, else the default
route (R281, R282). Log 80 (DEDUCED; unsafe). -/
def State.nextHop (s : State) (w : Nat) (v4 : Bool) (a : Nat) (d : Damage) : Option Nat × State :=
  let t := if v4 then tV4 else tV6
  let ft := if v4 then tF4 else tF6
  let fi := a / 2 ^ (addrBits t - 16)
  let lens := if d.contains (ft, fi) then [] else filterLens ft (s.entry w ft fi)
  let s := if d.contains (ft, fi) then s.integErr (pageLpm w) 10 else if d.contains (ft + 8, fi) then s.integErr (pageLpm w) 9 else s
  let r := lens.foldl (State.tryLen w v4 a d) (none, s)
  match r.1 with
  | some (_, i) => let e := r.2.entry w t i
      (some (if v4 then bits (wordAt e 2) 0 12 else bits (wordAt e 5) 0 12), r.2)
  | none =>
    let k := if v4 then 0 else 1
    if r.2.rdI (pageLpm w) R.LPM.LPM_DEFAULT_V k = 1 then (some (r.2.rdI (pageLpm w) R.LPM.LPM_DEFAULT_NH k), r.2) else (none, r.2)

/-- A frame is trapped to a context by a forwarding entry (R267). -/
def State.trapTo (s : State) (f ctx : Nat) : State := s.addHostCopy f ctx 4 []

/-- Routing (R281–R284). Log 52 (DEDUCED; unsafe). Log 80 (DEDUCED; unsafe). -/
def State.route (s : State) (c : Ctx) (l : List Byte) (v4 : Bool) (a : Nat) (d : Damage) : State :=
  let p := pageLpm c.w
  let exc (s : State) : State := (s.pipeCount c.w R.PIPE.PIPE_CNT_ROUTE_EXC).trapTo c.f (s.rd p R.LPM.LPM_CTL_EXC_CTX)
  let miss (s : State) : State :=
    if s.flag p R.LPM.LPM_CTL_MISS then s.trapTo c.f (s.rd p R.LPM.LPM_CTL_EXC_CTX) else s.pipeCount c.w R.PIPE.PIPE_CNT_ROUTE_MISS
  if routeExc l v4 then exc s else
  let r := s.nextHop c.w v4 a d
  match r.1 with
  | none => miss r.2
  | some n =>
    let q := r.2.probeAt c.w tNh n d
    let s := q.2
    match q.1 with
    | none => miss s
    | some e =>
      let w2 := wordAt e 2
      let port := bits w2 0 6
      match bits w2 14 2 with
      | 0 =>
        if routedLen l v4 > s.rd (pagePort port) R.PORT.MAC_MAXLEN then exc s else
        let sub := if bitAt w2 13 then bits w2 6 4 else c.cls.subscr
        let svc := if bitAt w2 13 then bits w2 10 3 else c.cls.svc
        s.sendCopy c.f (leafOf port sub svc)
          { tag := c.tagFor (bits (wordAt e 1) 16 12) port, route := some (bits (wordAt e 1) 0 16 * 2 ^ 32 + wordAt e 0) }
      | 2 => s.trapTo c.f (bits w2 24 2)
      | _ => s

/-- The destination step (R267): TRAP_COPY adds its copy to whatever the entry does. Log 80 (DEDUCED; unsafe). -/
def State.destination (s : State) (c : Ctx) (l : List Byte) (flood : Nat) (d : Damage) : State :=
  let h := hdrOf l
  let group := bitAt (h.da / 2 ^ 40) 0
  let rsv := decide (0x0180C2000000 ≤ h.da ∧ h.da ≤ 0x0180C200000F)
  let r := s.probe c.w tMac (macKey h.da c.cls.vid 0) d
  let s := r.2
  match r.1 with
  | none =>
    if rsv then s.pipeCount c.w R.PIPE.PIPE_CNT_RSV_DROP
    else (if group then s else s.pipeCount c.w R.PIPE.PIPE_CNT_UNKNOWN_UC).copyGroup c flood c.cls.subscr c.cls.svc d
  | some i =>
    let w2 := wordAt (s.entry c.w tMac i) 2
    let sub := if bitAt w2 13 then bits w2 6 4 else c.cls.subscr
    let svc := if bitAt w2 13 then bits w2 10 3 else c.cls.svc
    let ctx := bits w2 24 2
    let act := if rsv ∧ bits w2 14 2 < 2 then 3 else bits w2 14 2
    let s := match act with
      | 0 =>
        if bitAt w2 20 then s.copyGroup c (bits (wordAt (s.entry c.w tMac i) 3) 0 12) sub svc d
        else if bits w2 0 6 = c.port then s.pipeCount c.w R.PIPE.PIPE_CNT_SAME_PORT
        else s.copyTo c (bits w2 0 6) sub svc
      | 1 => match ipDest l with
        | some (v4, a) => if group then s.trapTo c.f ctx else s.route c l v4 a d
        | none => s.trapTo c.f ctx
      | 2 => s.trapTo c.f ctx
      | _ => s.pipeCount c.w R.PIPE.PIPE_CNT_DA_DROP
    if bitAt w2 21 then s.trapTo c.f ctx else s

/-- The templates that the TCU from which every source is taken holds, lowest first (R154). -/
def State.tplKeys (s : State) : List Nat := s.gwTpl.filterMap (fun e => if e.1 / 512 = s.lead then some (e.1 % 512) else none)

/-- Word `i` of a gateway template, and a range of its bits (R238). -/
def State.tpl (s : State) (k i : Nat) : Nat := (look [] s.gwTpl (512 * s.lead + k)).getD i 0
def State.tplBits (s : State) (k i lo w : Nat) : Nat := bits (s.tpl k i) lo w
def State.tplOn (s : State) (k : Nat) : Bool := s.tplBits k 0 0 1 == 1
def State.tplIn (s : State) (k : Nat) : Bool := s.tplBits k 0 1 1 == 1
def State.tplPort (s : State) (k : Nat) : Nat := s.tplBits k 0 2 6
def State.tplVlan (s : State) (k : Nat) : Bool := s.tplBits k 0 8 1 == 1
/-- The address in words `i` and `i + 1`: its first two octets in the low half of the second, the others in the first (R238). -/
def State.tplAddr (s : State) (k i : Nat) : Nat := s.tplBits k (i + 1) 0 16 * 2 ^ 32 + s.tpl k i

/-- The enabled inbound template that takes a frame of port `p`: its EtherType, source address and tag match (R240). -/
def State.gwMatch (s : State) (p : Nat) (l : List Byte) : Option Nat :=
  let g := pageGw s.lead
  if ¬ s.flag g R.GW.GW_CTL_EN ∨ s.isLane p then none else
  s.tplKeys.find? (fun k =>
    s.tplOn k && s.tplIn k && s.tplPort k == p && s.tplAddr k 4 == beAt l 6 6 &&
    (if s.tplVlan k then decide (beAt l 12 2 = 0x8100 ∧ beAt l 14 2 = s.tplBits k 3 16 16 ∧ beAt l 16 2 = s.rd g R.GW.GW_CTL_ETYPE)
     else decide (beAt l 12 2 = s.rd g R.GW.GW_CTL_ETYPE)))

/-- A frame that R257 discards is counted, and PKT_TX_BAD raised on the page of the context that submitted it. -/
def State.txBad (s : State) (src : Nat) : State :=
  if src < 4 then (s.inc (pageHC src) R.HC.PKT_CNT_TX_BAD).raise (pageHC src) 6 else s

/-- The lookup of a frame, its reads meeting the damaged entries `d`, with the copies it makes (R266). -/
def State.decideCopies (s : State) (f : Nat) (d : Damage) : State :=
  let x := s.frame f
  let w := pipeOf x.port
  let p := pagePipe w
  let i := x.port % 24
  let h := hdrOf x.octets
  let k := s.classify x.port h
  let s := (s.onFrame f (fun x => { x with pipe := some w })).event 0x15 w 1
  if ¬ s.flag p R.PIPE.PIPE_CTL_EN then s.pipeCount w R.PIPE.PIPE_CNT_VLAN_MISS else
  let r := s.probe w tMac (macKey 0 k.vid 1) d
  let s := r.2
  match r.1 with
  | none => s.pipeCount w R.PIPE.PIPE_CNT_VLAN_MISS
  | some v =>
    let e := s.entry w tMac v
    let flood := bits (wordAt e 2) 0 12
    let g := s.probeAt w tGroup flood d
    let s := g.2
    let members := (g.1.map grpMembers).getD 0
    if s.rdI p R.PIPE.PIPE_PORT_CFG_IFILTER i = 1 ∧ ¬ bitAt members x.port then s.pipeCount w R.PIPE.PIPE_CNT_IFILTER else
    let q := s.source x.port h.sa k.vid (bitAt (wordAt e 2) 12) x.host d
    if q.2 then q.1 else
    let c : Ctx := { f := f, w := w, port := x.port, cls := k, untag := (g.1.map grpUntag).getD 0 }
    q.1.destination c x.octets flood d

/-- The decision of a frame that a pipeline looks up; a host frame too long for an egress port counts (R257, R266).
Log 53 (DEDUCED; unsafe). -/
def State.decide1 (s : State) (f : Nat) (d : Damage) : State :=
  let u := s.decideCopies f d
  (if (u.frame f).tooBig then u.txBad (s.frame f).src else u).decideFrame f

/-- A send of several segments of which one is too long for its egress port is discarded whole and counted once (R257).
Log 53 (DEDUCED; unsafe). -/
def State.decideSend (s : State) (src : Nat) (l : List Nat) (d : Damage) : State :=
  let u := l.foldl (fun a f => a.decideCopies f d) s
  if l.length > 1 ∧ l.any (fun f => (u.frame f).tooBig) then (l.foldl (fun a f => a.decideFrame f) s).txBad src
  else l.foldl (fun a f => a.decide1 f d) s

/-- The frame of a source that is to be decided next: the first undecided one of its earliest submission (R257, R262). -/
def State.nextSub (s : State) (src : Nat) : Option (Nat × Frame) :=
  (s.frames.filter (fun e => e.2.host && e.2.src == src && !e.2.decided)).foldl
    (fun a e => match a with | some b => if e.2.seq < b.2.seq then some e else some b | none => some e) none

/-- The frames that a source submitted with DIRECT get their one copy in their turn, up to the next that awaits its lookup
(R257). -/
def State.sendDirect (s : State) (src : Nat) : Nat → State
  | 0 => s
  | fuel + 1 =>
    match s.nextSub src with
    | some (f, x) => match x.direct with
      | some leaf => ((s.addCopy f leaf {}).decideFrame f).sendDirect src fuel
      | none => s
    | none => s

/-- The pipeline looks up a host frame when its turn has come: all the segments of its send one after another, and then what its
source sent directly behind them (R257, R262). Log 53 (DEDUCED; unsafe). -/
def State.lookupHost (s : State) (f : Nat) (d : Damage) : State :=
  let x := s.frame f
  match s.nextSub x.src with
  | some (_, y) =>
    if y.seq ≠ x.seq then s else
    let l := s.frames.filter (fun e => e.2.host && e.2.src == x.src && e.2.seq == x.seq && !e.2.decided)
    (s.decideSend x.src (l.map (fun e => e.1)) d).sendDirect x.src s.frames.length
  | none => s

/-- A pipeline lookup of a frame, whose reads meet the damaged entries `d`; it starts once 128 octets or the whole frame
are there (R265, R266). A message that R130 traps takes none, nor a frame of the cadence gateway. A MAC control frame is never
forwarded (R252), nor is a frame of the in-band EtherType while a context is bound to the in-band port (R45). -/
def State.lookup (s : State) (f : Nat) (d : Damage) : State :=
  let x := s.frame f
  if x = noFrame ∨ x.decided ∨ x.direct.isSome ∨ (x.octets.length < 128 ∧ ¬ x.complete) then s else
  if ¬ x.host ∧ (s.gwMatch x.port x.octets).isSome then s else
  if (hdrOf x.octets).etype = 0x8808 ∨ (s.straps.hcMap % 4 ≥ 2 ∧ (hdrOf x.octets).etype = 0x88B5) then
    (let s := s.decideFrame f
     if x.host then s.sendDirect x.src s.frames.length else s)
  else if x.host then (s.lookupHost f d).touchAll else
  let s := s.ptpRx f
  (if (s.frame f).decided ∨ ¬ s.hasFrame f then s else s.decide1 f d).touchAll

def execLookup (f : Nat) (d : List (Nat × Nat)) (s : State) : Host.Outcome State Fault Refusal := done (s.lookup f d)

/-! ### Learning (R275–R277) -/

/-- The copy of a learn request on its way to pipeline `w` arrives (R275). -/
def execLearnCopyArrival (w : Nat) (s : State) : Host.Outcome State Fault Refusal :=
  let w := w % 2
  done (match look [] s.crossing w with
    | [] => s
    | r :: rs => ({ s with crossing := put [] s.crossing w rs } : State).queueLearn w r)

/-- The guard against flaps in core cycles (R277). -/
def State.moveGuard (s : State) (w : Nat) : Nat := (s.rd (pagePipe w) R.PIPE.PIPE_MOVE_GUARD * 9 + 7) / 8

/-- A move of a key commits: a second within the guard is a flap, captured and, with FLAP_LOCK, locked (R276, R277). -/
def State.commitMove (s : State) (w i addr vid cycle port : Nat) : State :=
  let p := pagePipe w
  let e := s.entry w tMac i
  let w2 := wordAt e 2
  let old := bits w2 0 6
  let key := addr * 4096 + vid
  let last := (look [] s.moves w).find? (fun m => m.1 == key)
  let s := s.setEntry w tMac i (e.set 2 ((w2 - old + port) ||| 2 ^ 17))
  let s := s.pipeCount w R.PIPE.PIPE_CNT_MOVE
  let s : State := { s with moves := put [] s.moves w ((key, cycle, old, port) :: (look [] s.moves w).filter (fun m => m.1 != key)) }
  match last with
  | some (_, c, p0, p1) =>
    if cycle > c + s.moveGuard w then s else
    let s := (((s.pipeCount w R.PIPE.PIPE_CNT_FLAP).wr p R.PIPE.PIPE_FLAP_KEY_LO (addr % 2 ^ 32)).wr p R.PIPE.PIPE_FLAP_KEY_HI_OCT (addr / 2 ^ 32)).wr p
      R.PIPE.PIPE_FLAP_KEY_HI_VID vid
    let s := (((s.wr p R.PIPE.PIPE_FLAP_PORTS_P0 p0).wr p R.PIPE.PIPE_FLAP_PORTS_P1 p1).wr p R.PIPE.PIPE_FLAP_PORTS_P2 port).raise p 1
    if s.flag p R.PIPE.PIPE_CTL_FLAP_LOCK then
      s.setEntry w tMac i (e.set 2 (((w2 - old + p0) ||| 2 ^ 17) ||| 2 ^ 18)) else s
  | none => s

/-- A learn commits (R275, R276): static, critical and locked entries stay. -/
def State.commitLearn (s : State) (w addr vid cycle port : Nat) : State :=
  match s.findKey w tMac (macKey addr vid 0) with
  | some i =>
    let e := s.entry w tMac i
    let w2 := wordAt e 2
    if bitAt w2 16 ∨ bitAt w2 18 ∨ bitAt w2 19 then s
    else if bits w2 0 6 = port then s.setEntry w tMac i (e.set 2 (w2 ||| 2 ^ 17))
    else s.commitMove w i addr vid cycle port
  | none =>
    match s.freeWay w tMac (macKey addr vid 0) with
    | some i => s.setEntry w tMac i ((macKey addr vid 0).set 2 (port + 2 ^ 17))
    | none => (s.pipeCount w R.PIPE.PIPE_CNT_LEARN_FULL).raise (pagePipe w) 0

/-- The learned entries of a pipeline that a flush names: those of a port and a VID, 0xFFFF for any (R280). -/
def State.flushed (s : State) (w port vid : Nat) : List Nat :=
  let lo := tabKey w tMac 0
  (s.tabs.filter (fun e => decide (lo ≤ e.1 ∧ e.1 < lo + 2 ^ 17) && entryValid 1 e.2 && !bitAt (wordAt e.2 1) 28 &&
    !bitAt (wordAt e.2 2) 16 && !bitAt (wordAt e.2 2) 19 && !bitAt (wordAt e.2 2) 20 &&
    (port == 0xFFFF || bits (wordAt e.2 2) 0 6 == port) && (vid == 0xFFFF || bits (wordAt e.2 1) 16 12 == vid))).map (fun e => e.1 - lo)

/-- A flush commits in one pipeline; the command completes when every pipeline it names has done so (R280). -/
def State.commitFlush (s : State) (w ctx count port vid : Nat) : State :=
  match s.cmds.find? (fun k => k.is ctx count) with
  | none => s
  | some k =>
    let l := s.flushed w port vid
    let s := l.foldl (fun a i => a.setEntry w tMac i []) s
    let left := k.stage - bits k.stage w 1 * 2 ^ w
    if left = 0 then s.finish k stOk 0 (k.r0 + l.length) 0 else s.onCmd k (fun j => { j with stage := left, r0 := j.r0 + l.length })

/-! ### The windows (R285, R288) -/

/-- The window operations by their bits in `TBL_CMD` (R292). -/
def oRead : Nat := 0
def oWrite : Nat := 1
def oLookup : Nat := 2
def oInsert : Nat := 3
def oDelete : Nat := 4
def oClearHit : Nat := 5

/-- The pipeline of a MACT or LPM page. -/
def winPipe (page : Nat) : Nat := (page - 0x0C3) % 2

/-- The results of a window operation (R292). -/
def rDone : Nat := 0
def rNotFound : Nat := 1
def rFull : Nat := 2
def rCritical : Nat := 3
def rExists : Nat := 4
def rBadArg : Nat := 5
def rParity : Nat := 6
def rLengths : Nat := 7

/-- A window operation ends: its result and index are shown and BUSY falls (R288, R289). -/
def State.winDone (s : State) (page result index : Nat) : State :=
  let s : State := { s with winOps := put none s.winOps page none }
  ((s.wr page R.TBL.TBL_STAT_RESULT result).wr page R.TBL.TBL_STAT_INDEX index).wr page R.TBL.TBL_STAT_BUSY 0

/-- Shows entry words in the data registers. -/
def State.showWords (s : State) (page : Nat) (e : List Nat) : State :=
  s.each 6 (fun i a => if i < e.length ∨ i < tabWords (a.rd page R.TBL.TBL_SEL_TABLE) then a.wrI page R.TBL.TBL_D i (wordAt e i) else a)

/-- A write of an entry through the window keeps the rules of the tables (R281–R283, R285): its refusal, if it has one. -/
def State.writeRefused (s : State) (w t i : Nat) (e : List Nat) : Option Nat :=
  if entryCrit t e ∨ (entryValid t (s.entry w t i) ∧ entryCrit t (s.entry w t i)) then some rCritical
  else if t ≥ 6 then (if (filterLens t e).length > 24 then some rLengths else none)
  else if ¬ entryValid t e then none
  else if ¬ layoutOk t e then some rBadArg
  else if tabWays t ≠ 0 ∧ ((s.findKey w t e).any (fun j => j != i)) then some rExists
  else none

/-- A window READ that found the entry damaged: an entry with parity loses V as R285 says and shows its words without it, and a length filter's words, under
SEC-DED, raise MEM_UNCORR and read 0 (R282, R288). Log 52 (DEDUCED; unsafe). -/
def State.readBad (s : State) (page t i : Nat) : State :=
  let s := if t ≥ 6 then s.integErr page 10 else s.parityBad (winPipe page) t i
  (s.showWords page (if t ≥ 6 then [] else s.entry (winPipe page) t i)).winDone page rParity i

/-- Carries out a window operation; `parity` says that a read found bad parity. LOOKUP and DELETE take the key alone from the data
words (R285, R288, R292).
Log 52 (DEDUCED; unsafe). -/
def State.winExec (s : State) (page : Nat) (o : WinOp) (parity : Bool) : State :=
  let w := winPipe page
  let t := o.table
  let ok := if page ≤ 0x0C4 then t == 1 || t == 2 else decide (3 ≤ t ∧ t ≤ 7)
  let e := maskEntry t o.words
  let i := o.index
  if ¬ ok ∨ (o.op ∈ [oRead, oWrite, oClearHit] ∧ i ≥ tabSize t) then s.winDone page rBadArg i
  else if o.op = oRead then
    if parity then s.readBad page t i
    else (s.showWords page (s.entry w t i)).winDone page rDone i
  else if o.op = oWrite then
    match s.writeRefused w t i e with
    | some r => s.winDone page r i
    | none => (s.setEntry w t i e).winDone page rDone i
  else if o.op = oClearHit then
    if t ≠ tMac then s.winDone page rBadArg i else
    let x := s.entry w t i
    let s := s.showWords page x
    (if entryValid t x ∧ ¬ bitAt (wordAt x 1) 28 ∧ ¬ s.justHit w i then s.setEntry w t i (x.set 2 (wordAt x 2 - bits (wordAt x 2) 17 1 * 2 ^ 17)) else s).winDone page rDone i
  else if tabWays t = 0 ∨ ¬ keyOk t e ∨ (o.op = oInsert ∧ ¬ layoutOk t e) then s.winDone page rBadArg i
  else if o.op = oLookup then
    match s.findKey w t e with
    | some j => if parity then (s.parityBad w t j).winDone page rParity j else (s.showWords page (s.entry w t j)).winDone page rDone j
    | none => s.winDone page rNotFound 0
  else if o.op = oInsert then
    if entryCrit t e then s.winDone page rCritical 0 else
    match s.findKey w t e, s.freeWay w t e with
    | some j, _ => s.winDone page rExists j
    | none, some j => (s.setEntry w t j (if t = tV6 then e.set 4 (wordAt e 4 ||| 2 ^ 31) else e.set 1 (wordAt e 1 ||| 2 ^ 31))).winDone page rDone j
    | none, none => s.winDone page rFull 0
  else
    match s.findKey w t e with
    | some j => if entryCrit t (s.entry w t j) then s.winDone page rCritical j else (s.setEntry w t j []).winDone page rDone j
    | none => s.winDone page rNotFound 0

/-- A write of 1 to a bit of `TBL_CMD` starts an operation; those on the MAC/VLAN table that change it enter the learn
queue (R288). -/
def State.winStart (s : State) (page op : Nat) : State :=
  if s.flag page R.TBL.TBL_STAT_BUSY then s else
  let w := winPipe page
  let t := s.rd page R.TBL.TBL_SEL_TABLE
  let i := s.rd page R.TBL.TBL_SEL_INDEX
  let words := (List.range 6).map (fun j => s.rdI page R.TBL.TBL_D j)
  let q := decide (page ≤ 0x0C4 ∧ t = tMac) && [oWrite, oInsert, oDelete, oClearHit].contains op
  let s : State := { s with winOps := put none s.winOps page (some ⟨op, t, i, words, q⟩) }
  let s := s.wr page R.TBL.TBL_STAT_BUSY 1
  if q then { s with learnq := put [] s.learnq w (insertReq { cycle := s.core, port := 64, kind := .window op i words } (look [] s.learnq w)) } else s

/-- The next request of a learn queue commits (R276, R280, R288). -/
def State.commitReq (s : State) (w : Nat) : State :=
  match look [] s.learnq w with
  | [] => s
  | r :: rs =>
    let s := s.advance ((max (r.cycle + 16) (look 0 s.learnAt w + 2)) * 8 / 9 + 1 - s.up)
    let s : State := { s with learnq := put [] s.learnq w rs, learnAt := put 0 s.learnAt w s.core }
    match r.kind with
    | .learn addr vid _ => (s.commitLearn w addr vid r.cycle r.port).event 0x16 w 1
    | .window op i words => s.winExec (pageMact w) ⟨op, tMac, i, words, true⟩ false
    | .flush ctx count port vid => s.commitFlush w ctx count port vid

def execLearnCommit (w : Nat) (s : State) : Host.Outcome State Fault Refusal := done (s.commitReq (w % 2))

/-- Commits requests of a queue until the window operation of its page is done. -/
def State.drainTo (s : State) (w : Nat) : Nat → State
  | 0 => s
  | fuel + 1 => if (look none s.winOps (pageMact w)).isNone then s else (s.commitReq w).drainTo w fuel

/-- A window operation commits and BUSY falls (R288, R289). -/
def execTblOpComplete (page : Nat) (parity : Bool) (s : State) : Host.Outcome State Fault Refusal :=
  done (match look none s.winOps page with
    | none => s
    | some o => if o.queued then s.drainTo (winPipe page) ((look [] s.learnq (winPipe page)).length) else s.winExec page o parity)

/-- The valid entries of a table. -/
def State.filled (s : State) (w t : Nat) : Nat :=
  let lo := tabKey w t 0
  (s.tabs.filter (fun e => decide (lo ≤ e.1 ∧ e.1 < lo + 2 ^ 17) && entryValid t e.2)).length

/-- `TBL_FILL` (R292). -/
def State.tblFill (s : State) (page : Nat) : Nat :=
  if page ≤ 0x0C4 then s.filled (winPipe page) tMac else s.filled (winPipe page) tV4 + s.filled (winPipe page) tV6 * 65536

/-- A write of a length register is refused: its range would overlap another enabled length's, or the length holds an
entry (R281). -/
def State.lenRefused (s : State) (w t l base size en : Nat) : Bool :=
  let lens := if t = 4 then (List.range 32).map (fun k => k + 1) else (List.range 64).map (fun k => k + 1) ++ [128]
  let reach (m : Nat) : Bool :=
    let r := s.lenRange w t m
    m != l && r.2.2 && decide (base < r.1 + 2 ^ r.2.1 ∧ r.1 < base + 2 ^ size)
  let lo := tabKey w t 0
  (en == 1 && lens.any reach) ||
  s.tabs.any (fun e => decide (lo ≤ e.1 ∧ e.1 < lo + 2 ^ 17) && entryValid t e.2 && prefixLen t e.2 == l)

/-! ### Critical entries (R285–R287) -/

/-- The slot that holds a critical entry. -/
def State.slotFor (s : State) (w t i : Nat) : Option Nat :=
  (s.shadows.find? (fun x => x.2.pipe == w && x.2.table == t && x.2.index == i)).map (fun x => x.1)

/-- What an unused slot reads as. -/
def noShadow : Shadow := { pipe := 2, table := 0, index := 0, words := [] }

/-- `SHADOW_STAT` follows the slots (R293). -/
def State.showShadow (s : State) : State := s.wr pageShadow R.SHADOW.SHADOW_STAT s.shadows.length

/-- TABLE_WRITE_CRITICAL (R287). -/
def State.startWriteCritical (k : Cmd) (s : State) : State :=
  let t := bits (k.arg 0) 0 4
  let w := bits (k.arg 0) 8 1
  let s := s.fly k
  let e := maskEntry t [k.arg 2, k.arg 3, k.arg 4, k.arg 5]
  let byKey := k.arg 1 == 0xFFFFFFFF
  let hash := tabWays t != 0
  let place : Option Nat := if byKey then (match s.findKey w t e with | some i => some i | none => s.freeWay w t e) else some (k.arg 1)
  match place with
  | none => s.finish k stWrongState 0 0 1
  | some i =>
    let held := s.entry w t i
    let holdsOther := hash && !byKey &&
      !((entryValid t held && entryKey t held == entryKey t e) || ((s.ways w t e).contains i && !entryValid t held && (s.findKey w t e).isNone))
    let slot := s.slotFor w t i
    if entryValid t e = false then
      if holdsOther ∧ entryValid t held then s.finish k stWrongState 0 0 3
      else
        let s := s.setEntry w t i []
        let s := match slot with | some x => ({ s with shadows := drop s.shadows x } : State).showShadow | none => s
        s.finish k stOk 0 i 0
    else if holdsOther then s.finish k stWrongState 0 0 3
    else
      match slot with
      | some x => (({ s with shadows := put noShadow s.shadows x ⟨w, t, i, e⟩ } : State).setEntry w t i e).finish k stOk 0 i 0
      | none =>
        let x := firstGap s.shadows 0
        if x ≥ 4096 then s.finish k stWrongState 0 0 2
        else ((({ s with shadows := put noShadow s.shadows x ⟨w, t, i, e⟩ } : State).showShadow).setEntry w t i e).finish k stOk 0 i 0

/-- A TABLE_WRITE_CRITICAL's argument faults: table 0x5 or higher or none, an index outside the table, an entry that breaks
its layout, and one without CRIT that removes nothing (R287): the index of the first faulty word. -/
def criticalFault (args : List Nat) : Option Nat :=
  let a (i : Nat) : Nat := args.getD i 0
  let t := bits (a 0) 0 4
  let e := maskEntry t [a 2, a 3, a 4, a 5]
  if t = 0 ∨ t > 4 ∨ a 0 ≠ t + bits (a 0) 8 1 * 256 then some 0
  else if a 1 ≠ 0xFFFFFFFF ∧ a 1 ≥ tabSize t then some 1
  else if a 1 = 0xFFFFFFFF ∧ tabWays t = 0 then some 1
  else if entryValid t e ∧ (¬ layoutOk t e ∨ ¬ entryCrit t e) then some 2 else none

/-- A TABLE_WRITE_CRITICAL whose entry has neither V nor CRIT removes nothing: the index that it names, or that holds its key, holds no
critical entry (R287). -/
def State.removesNothing (s : State) (args : List Nat) : Bool :=
  let a (i : Nat) : Nat := args.getD i 0
  let t := bits (a 0) 0 4
  let w := bits (a 0) 8 1
  let e := maskEntry t [a 2, a 3, a 4, a 5]
  let held := if a 1 = 0xFFFFFFFF then s.findKey w t e else some (a 1)
  !entryValid t e && !entryCrit t e && !held.any (fun i => entryValid t (s.entry w t i) && entryCrit t (s.entry w t i))

/-- The next used slot from a number on, wrapping. -/
def State.nextSlot (s : State) (n : Nat) : Option Nat :=
  match s.shadows.find? (fun x => decide (x.1 ≥ n)) with
  | some x => some x.1
  | none => s.shadows.head?.map (fun x => x.1)

/-- The comparator checks one slot (R286): a walk ends with the highest used slot, or where none was left behind the one before. `tbl` says that the table entry has bad parity or differs by damage, `sh` that
the shadow copy has bad parity. -/
def State.compare (s : State) (tbl sh : Bool) : State :=
  if ¬ s.flag pageShadow R.SHADOW.SHADOW_CTL_EN then s else
  match (match s.slotFirst with | x :: _ => some x | [] => s.nextSlot s.slotNext) with
  | none => s
  | some n =>
    let x := look noShadow s.shadows n
    let walk := s.slotFirst.isEmpty
    let last := s.shadows.all (fun y => decide (y.1 ≤ n))
    let ended := if walk then b2n (decide (n < s.slotNext)) + b2n last else 0
    let s : State := { s with slotFirst := s.slotFirst.drop 1, slotNext := if walk then (if last then 0 else n + 1) else s.slotNext }
    let s := s.each ended (fun _ a => a.inc pageShadow R.SHADOW.SHADOW_WALKS)
    let p := pageShadow
    let capt (s : State) (rep bad : Bool) : State :=
      let s := ((s.wr p R.SHADOW.SHADOW_CAPT_INDEX x.index).wr p R.SHADOW.SHADOW_CAPT_TABLE x.table).wr p R.SHADOW.SHADOW_CAPT_PIPE x.pipe
      ((s.wr p R.SHADOW.SHADOW_CAPT_REPAIRED (b2n rep)).wr p R.SHADOW.SHADOW_CAPT_SHADOW_BAD (b2n bad)).wr p R.SHADOW.SHADOW_CAPT_VALID 1
    let diff := tbl || decide (s.entry x.pipe x.table x.index ≠ x.words)
    if ¬ diff ∧ ¬ sh then s else
    let rep := diff && !sh && s.flag p R.SHADOW.SHADOW_CTL_REPAIR
    let s := if diff then (s.inc p R.SHADOW.SHADOW_CNT_MISMATCH).raise p 0 else s
    let s := if rep then ((s.setEntry x.pipe x.table x.index x.words).inc p R.SHADOW.SHADOW_CNT_REPAIR).raise p 2 else s
    (capt s rep sh).raiseIf sh p 1

def execShadowCompare (tbl sh : Bool) (s : State) : Host.Outcome State Fault Refusal := done (s.compare tbl sh)

/-! ### Flushes and fences (R280, R290) -/

/-- TABLE_FLUSH enters each named learn queue as one request (R280). -/
def State.startFlush (k : Cmd) (s : State) : State :=
  let m := bits (k.arg 0) 0 2
  let s := s.fly { k with stage := m }
  if m = 0 then s.finish k stOk 0 0 0 else
  s.each 2 (fun w a => if bitAt m w then
    { a with learnq := put [] a.learnq w (insertReq { cycle := a.core, port := 65, kind := .flush k.ctx k.count (k.arg 1) (k.arg 2) } (look [] a.learnq w)) } else a)

/-- The frames inside that a pipeline of the mask looked up: those with a copy that waits or is on the line, and those of which a copy is
still on the line after their record has gone (R290, R300). -/
def State.fenced (s : State) (m : Nat) : List Nat :=
  let named (w : Option Nat) : Bool := w.any (fun w => bitAt m w)
  let gone := s.txs.filterMap (fun e => if named e.2.pipe then e.2.frame.filter (fun f => !s.hasFrame f) else none)
  (s.frames.filter (fun e => (e.2.copies != 0 || s.inTx e.1) && named e.2.pipe)).map (fun e => e.1) ++ gone.eraseDups

/-- TABLE_FENCE (R290): RESULT0 is the number of frames inside at acceptance. -/
def State.startFence (k : Cmd) (s : State) : State :=
  let l := s.fenced (bits (k.arg 0) 0 2)
  let s := s.fly { k with r0 := l.length }
  if l = [] then s.finish k stOk 0 0 0 else { s with fences := s.fences ++ [⟨k.ctx, k.count, l⟩] }

/-- The last frame outstanding at a fence's acceptance has left or been dropped (R290). -/
def State.fenceDone (s : State) : State :=
  s.fences.foldl (fun a x =>
    if x.frames ≠ [] then a else
    let a : State := { a with fences := a.fences.erase x }
    match a.cmds.find? (fun k => k.is x.ctx x.count) with
    | some k => a.finish k stOk 0 k.r0 0
    | none => a) s

def execFenceComplete (s : State) : Host.Outcome State Fault Refusal := done s.fenceDone

end Sys2Proof.Machine
end

