-- ==== Sys2Proof/Machine/Tdc.lean ====
section
/-! DEFINITION. The time-to-digital converters: arming, captures, results and code-density runs (R68–R81). -/

namespace Sys2Proof.Machine

open Sys2Proof

/-- The channel's input is an event input: TDC12–TDC19 (R68). -/
def isEvent (c : Nat) : Bool := decide (12 ≤ c ∧ c ≤ 19)

/-- The correction table of a histogram of 40,960 raw codes: FINE(k) (R72). -/
def fineTable (h : List Nat) : List Nat :=
  ((List.range 512).foldl (fun (a : Nat × List Nat) k =>
    (a.1 + h.getD k 0, divRound (65536 * (2 * a.1 + h.getD k 0)) (2 * 40960) :: a.2)) (0, [])).2.reverse

/-- The corrected fine value of a raw code (R72). -/
def Tdc.fine (d : Tdc) (raw : Nat) : Nat := look 0 d.lut raw

/-- An output of TCU `t` is aligned to the event input of channel `c`, which is then armed continuously (R118). -/
def State.alignsTdc (s : State) (t c : Nat) : Bool :=
  isEvent c && (List.range 8).any (fun n => s.rd (pageOut t n) R.OUT.OUT_CTL_MODE != 0 && s.rd (pageOut t n) R.OUT.OUT_ALIGN_SRC == c + 5)

/-- The channel's arming changes; gate idle follows it, since no capture outlasts its command (R77). -/
def State.setArmed (s : State) (t c : Nat) (b : Bool) : State :=
  let s := s.onTdc t c (fun d => { d with armed := b, winEnd := none })
  (s.wr (pageTdc t c) R.TDC.TDC_STAT_ARMED (b2n b)).wr (pageTdc t c) R.TDC.TDC_STAT_GATE_IDLE (b2n (!b))

/-- The internal arming window of the channel has ended (R76). -/
def State.winOver (s : State) (t c : Nat) : Bool := (s.tdc t c).winEnd.any (fun e => decide (e ≤ s.up))

/-- The slot that a reference-phase channel measures now: TDC20 the selected candidate, TDC21 the next in selection order, TDC22 and
TDC23 those that `REFSEL_TDC_MAP` names (R96). A PTP instance, selected or next, is measured by none. -/
def State.channelSlot (s : State) (t c : Nat) : Option Nat :=
  let p := pageRefsel t
  let on (v k : Fld) : Option Nat := if s.flag p v then some (s.rd p k) else none
  if c = 20 then on R.REFSEL.REFSEL_STAT_SEL_VALID R.REFSEL.REFSEL_STAT_SEL
  else if c = 21 then on R.REFSEL.REFSEL_STAT_NEXT_VALID R.REFSEL.REFSEL_STAT_NEXT
  else if c = 22 then on R.REFSEL.REFSEL_TDC_MAP_EN22 R.REFSEL.REFSEL_TDC_MAP_SLOT22
  else if c = 23 then on R.REFSEL.REFSEL_TDC_MAP_EN23 R.REFSEL.REFSEL_TDC_MAP_SLOT23 else none

/-- The channel is armed: an event channel as `TDC_ARM` selects within its window, or continuously for an aligned output (R118); a
reference-phase channel while it measures a slot; a trunk-phase channel while its trunk is aligning or beyond (R68, R76, R96, R201). -/
def State.tdcArmed (s : State) (t c : Nat) : Bool :=
  if isEvent c then ((s.tdc t c).armed && !s.winOver t c) || s.alignsTdc t c
  else if c < 12 then decide (5 ≤ s.rd (pageNT c) R.NT.TRUNK_STAT_STATE ∧ s.rd (pageNT c) R.NT.TRUNK_STAT_STATE ≤ 7)
  else (s.channelSlot t c).isSome

/-- The channel is at gate idle (R77): a continuously armed channel between two scheduled captures always is. -/
def State.gateIdle (s : State) (t c : Nat) : Bool := !isEvent c || s.alignsTdc t c || !(s.tdc t c).armed || s.winOver t c

/-- The edge's polarity is one that `TDC_ARM.EDGE` selects; only event channels select. -/
def State.edgeSel (s : State) (t c : Nat) (rising : Bool) : Bool :=
  !isEvent c || bitAt (s.rd (pageTdc t c) R.TDC.TDC_ARM_EDGE) (if rising then 0 else 1)

/-- A line in service is not locked (R70): lines 0–3 with the spare, line 4, in place of the line it replaces. -/
def State.lineUnlocked (s : State) (t c : Nat) : Bool :=
  let lock := s.rd (pageTdc t c) R.TDC.TDC_STAT_LINE_LOCK
  let sp := s.rd (pageTdc t c) R.TDC.TDC_STAT_SPARE_FOR
  (List.range 4).any (fun m => !bitAt lock (if m = sp then 4 else m))

/-- The five result words of a capture sampled on the present cycle of TCU `t` (R63, R79, R80). -/
def State.capWords (s : State) (t c raw : Nat) (rising marker : Bool) : Cap :=
  let u := s.tcu t
  let f := (s.tdc t c).fine raw
  let tod := (u.now : Int) * 65536 - (f + s.rd (pageTdc t c) R.TDC.TDC_LAT : Nat)
  let ns := tod / 65536
  { w0 := u.cyc % 2 ^ 32
    w1 := u.cyc / 2 ^ 32 + raw % 512 * 2 ^ 16 + b2n rising * 2 ^ 25 + b2n marker * 2 ^ 26
      + b2n (s.rd (pageTdc t c) R.TDC.TDC_STAT_SPARE_FOR != 7) * 2 ^ 27 + b2n (s.lineUnlocked t c) * 2 ^ 28
      + b2n (!s.timeValid) * 2 ^ 29 + b2n (s.tdc t c).lost * 2 ^ 30 + 2 ^ 31
    w2 := f % 65536 + (tod % 65536).toNat * 65536
    w3 := (ns % 1000000000).toNat
    w4 := (ns / 1000000000 % 2 ^ 32).toNat }

/-- The level of the FIFO is shown in `TDC_STAT` (R79). -/
def State.showFifo (s : State) (t c : Nat) : State := s.wr (pageTdc t c) R.TDC.TDC_STAT_FIFO_LEVEL (s.tdc t c).fifo.length

/-- Two instants in units of 2⁻¹⁶ ns lie within 2 ns of each other (R78). -/
def tooNear (a b : Int) : Bool := decide ((a - b).natAbs < 2 * 65536)

/-- The edge just captured by TDC20, at the ball, is the last one of the selected reference (R92, R96). -/
def State.noteRef (s : State) (t c raw : Nat) : State :=
  if c ≠ 20 then s
  else s.onTcu t (fun u => { u with refAt := some ((s.up : Int) * 65536 - ((s.tdc t c).fine raw + s.rd (pageTdc t c) R.TDC.TDC_LAT : Nat)) })

/-- An edge reaches an armed channel: it is lost to a run (R74), to dead time or to a full FIFO (R78), or stored; a
one-shot arming ends with it (R76). -/
def State.tdcEdge (s : State) (t c raw : Nat) (rising marker : Bool) : State :=
  let p := pageTdc t c
  let d := s.tdc t c
  if ¬ (s.tdcArmed t c ∧ s.edgeSel t c rising) then s
  else if s.flag p R.TDC.TDC_STAT_CAL_RUNNING then (if isEvent c then (s.inc p R.TDC.TDC_CNT_CALMISS).raise p 3 else s)
  else
    let at_ : Int := (s.up : Int) * 65536 - d.fine raw
    if d.last.any (fun l => tooNear at_ l) then s.inc p R.TDC.TDC_CNT_DEAD
    else
      let cap := s.capWords t c raw rising marker
      let s := (s.onTdc t c (fun d => { d with last := some at_ })).noteRef t c raw
      let s :=
        if d.fifo.length ≥ 64 then ((s.onTdc t c (fun d => { d with lost := true })).inc p R.TDC.TDC_CNT_OVF).raise p 1
        else ((s.onTdc t c (fun d => { d with fifo := d.fifo ++ [cap], lost := false })).showFifo t c).raise p 0
      let src := s.rd p R.TDC.TDC_ARM_SRC
      if isEvent c ∧ (src = 3 ∨ (src = 4 ∧ s.flag p R.TDC.TDC_ARM_ONE_SHOT)) then s.setArmed t c false else s

/-- The channel arms at an internal instant of the kind `k` that INT_SRC names, for `TDC_WINDOW` ns or until it is disarmed; an
instant that finds it armed restarts the window (R76). -/
def State.armInternal (s : State) (t c k : Nat) : State :=
  let p := pageTdc t c
  let w := s.rd p R.TDC.TDC_WINDOW
  if isEvent c ∧ s.rd p R.TDC.TDC_ARM_SRC = 4 ∧ s.rd p R.TDC.TDC_ARM_INT_SRC = k then
    (s.setArmed t c true).onTdc t c (fun d => { d with winEnd := if w = 0 then none else some (s.up + w) })
  else s

/-- A hoop boundary arms the event channels of a TCU that INT_SRC arms there (R76). -/
def State.hoopArms (s : State) (t : Nat) : State := s.each 8 (fun n a => a.armInternal t (12 + n) 1)

/-- The ns from the present to the committed `TDC_ARM_AT` time; 0 where it has passed (R76). -/
def State.armAtIn (s : State) (t c : Nat) : Nat :=
  s.rd (pageTdc t c) R.TDC.TDC_ARM_AT_SEC * 1000000000 + s.rd (pageTdc t c) R.TDC.TDC_ARM_AT_NS - (s.tcu t).now % (2 ^ 32 * 1000000000)

/-- The committed `TDC_ARM_AT` time has already passed (R76). -/
def State.armAtPassed (s : State) (t c : Nat) : Bool := s.armAtIn t c == 0

/-- A commit of `TDC_ARM_AT`: its time arms the channel once, and at once where it has passed (R76). -/
def State.armAtCommitted (s : State) (t c : Nat) : State :=
  if s.armAtPassed t c then (s.onTdc t c (fun d => { d with armAt := false })).armInternal t c 2
  else s.onTdc t c (fun d => { d with armAt := true })

/-- The active level or edge of GATEn as GATE_POL sets it (R76). -/
def State.gateActive (s : State) (t c : Nat) : Bool :=
  bitAt s.gatePins (c - 12) != s.flag (pageTdc t c) R.TDC.TDC_ARM_GATE_POL

/-- What a change of GATEn does to its event channel in one TCU (R76). -/
def State.gateEdge (s : State) (t n : Nat) : State :=
  let c := 12 + n
  let src := s.rd (pageTdc t c) R.TDC.TDC_ARM_SRC
  if src = 2 then s.setArmed t c (s.gateActive t c)
  else if src = 3 ∧ s.gateActive t c then s.setArmed t c true else s

/-- What a write of `TDC_ARM` does, `old` being the state before it: SRC off disarms at once, a gate-level arming takes the
present level, and an arming of another source ends with that source (R76). Log 43 (DEDUCED; unsafe). -/
def State.armWritten (old : State) (t c : Nat) (s : State) : State :=
  let src := s.rd (pageTdc t c) R.TDC.TDC_ARM_SRC
  if ¬ isEvent c then s else if src = 0 then s.setArmed t c false
  else if src = 2 then s.setArmed t c (s.gateActive t c)
  else if src ≠ old.rd (pageTdc t c) R.TDC.TDC_ARM_SRC then s.setArmed t c false else s

/-- Puts five words into the read buffer. -/
def State.setRes (s : State) (p : Nat) (w : Cap) : State :=
  ((((s.wrI p R.TDC.TDC_RES 0 w.w0).wrI p R.TDC.TDC_RES 1 w.w1).wrI p R.TDC.TDC_RES 2 w.w2).wrI p R.TDC.TDC_RES 3 w.w3).wrI p
    R.TDC.TDC_RES 4 w.w4

/-- Reading `TDC_RES0` copies the head of the FIFO into the read buffer, zeros when it is empty (R79). -/
def State.loadRes (s : State) (t c : Nat) : State :=
  s.setRes (pageTdc t c) ((s.tdc t c).fifo.headD ⟨0, 0, 0, 0, 0⟩)

/-- Reading `TDC_RES4` removes the head of the FIFO (R79). -/
def State.popRes (s : State) (t c : Nat) : State := (s.onTdc t c (fun d => { d with fifo := d.fifo.drop 1 })).showFifo t c

/-- A locking loop of a line loses lock: LINE_LOCK shows it and LOCK_LOST is raised (R70). -/
def State.lineLost (s : State) (t c m : Nat) : State :=
  let v := s.rd (pageTdc t c) R.TDC.TDC_STAT_LINE_LOCK
  if m < 5 then (s.wr (pageTdc t c) R.TDC.TDC_STAT_LINE_LOCK (v - bits v m 1 * 2 ^ m)).raise (pageTdc t c) 2 else s

/-- A run of the channel is due: queued by CAL_RUN or fallen due (R372, R375). -/
def State.tdcDue (s : State) (t c : Nat) : Bool := s.calHead.contains (pageTdc t c) || (s.tdc t c).due

/-- A run of channel `c` may start now (R73, R374, R380): none runs in this TCU, the same number does not run in the
other, and the channel is at gate idle unless it is an event channel whose run is not deferred. -/
def State.tdcEligible (s : State) (t c : Nat) (timeout : Bool) : Bool :=
  s.runsOpen && s.tdcDue t c && !s.calRunning.contains (pageTdc (1 - t) c) &&
  (List.range 24).all (fun j => !s.calRunning.contains (pageTdc t j)) &&
  (s.gateIdle t c || timeout || !s.flag (pageTdc t c) R.TDC.TDC_ARM_CAL_DEFER)

/-- A code-density run starts on a channel (R71). -/
def State.tdcRunStart (s : State) (t c : Nat) : State :=
  ((s.runStart (pageTdc t c)).onTdc t c (fun d => { d with due := false })).wr (pageTdc t c) R.TDC.TDC_STAT_CAL_RUNNING 1

/-- The channel the director takes next in TCU `t`: named by CAL_RUN first, then in channel order (R374, R375). -/
def State.nextTdc (s : State) (t : Nat) : Option Nat :=
  ((s.calHead.filterMap (fun p => (List.range 24).find? (fun c => pageTdc t c = p))) ++ List.range 24).find?
    (fun c => s.tdcEligible t c false)

/-- A due run starts when the director's conditions allow (R73, R374). -/
def execTdcCalStart (t : Nat) (s : State) : Host.Outcome State Fault Refusal :=
  done (match s.nextTdc (t % 2) with | some c => s.tdcRunStart (t % 2) c | none => s)

/-- A deferred event-channel run has waited 10 s without gate idle and starts while the channel is armed (R73). -/
def execCalDeferTimeout (t c : Nat) (s : State) : Host.Outcome State Fault Refusal :=
  done (if isEvent c ∧ ¬ s.gateIdle (t % 2) c ∧ s.tdcEligible (t % 2) c true then s.tdcRunStart (t % 2) c else s)

/-- The input latency of a channel in units of 2⁻¹⁶ ns: 6.200 ns on the trunk-phase channels and 1.350 ns on the others, and the
channel's residual, which the calibration keeps within 5 ps (R29, R81). -/
def tdcLatency (c : Nat) (res : Int) : Nat :=
  let r := if res > 327 then 327 else if res < -327 then -327 else res
  ((if c < 12 then 406323 else 88474) + r).toNat

/-- The lock check of a run finds the loops locked that `lines` names: LINE_LOCK shows them, and LOCK_LOST is raised for one that has lost
lock (R70, R71). -/
def State.linesFound (s : State) (p lines : Nat) : State :=
  let had := s.rd p R.TDC.TDC_STAT_LINE_LOCK
  (s.wr p R.TDC.TDC_STAT_LINE_LOCK lines).raiseIf (had &&& (31 - lines % 32) != 0) p 2

/-- A run fails its lock check: the previous table stays, and the Cave is given every unlocked line (R71, R376, R383). -/
def State.tdcRunFail (s : State) (p : Nat) : State :=
  (List.range 5).foldl (fun a m => if bitAt (s.rd p R.TDC.TDC_STAT_LINE_LOCK) m then a else a.wearFail p m mLoop) (s.runFail p)

/-- A run ends with the loops found locked that `lines` names: the table of its histogram and the TDC_LAT of its residual wait for
gate idle; or one of the five is not locked, the previous table stays and the Cave is given the unlocked lines (R70, R71, R376). -/
def execTdcCalEnd (t c : Nat) (hist : List Nat) (lines : Nat) (res : Int) (s : State) : Host.Outcome State Fault Refusal :=
  let t := t % 2
  let p := pageTdc t c
  let lat := tdcLatency c res
  done (
    if ¬ s.calRunning.contains p then s else
    let s := (s.wr p R.TDC.TDC_STAT_CAL_RUNNING 0).linesFound p lines
    let s := s.onTdc t c (fun d => { d with tCal := s.sensor t })
    if lines % 32 = 31 then
      (s.runOk p).onTdc t c (fun d => { d with newLut := some ⟨fineTable hist, lat, s.sensor t, s.sec % 2 ^ 32⟩ })
    else s.tdcRunFail p)

/-- A table as a store by index. -/
def tableStore (l : List Nat) : Store Nat := (l.zipIdx.foldl (fun m e => put 0 m e.2 e.1) [])

/-- A channel takes a table, residual, T_cal and seconds (R72, R380). -/
def State.takeTable (s : State) (t c : Nat) (l : List Nat) (lat : Nat) : State :=
  (s.onTdc t c (fun d => { d with lut := tableStore l })).wr (pageTdc t c) R.TDC.TDC_LAT lat

/-- The table and residual of a run go in, with the T_cal and seconds of that run (R71, R379). -/
def State.takeNew (s : State) (t c : Nat) (r : TdcRest) : State :=
  (s.takeTable t c r.table r.lat).onTdc t c (fun d => { d with newLut := none, tVal := r.t, secs := r.sec })

/-- A channel takes the values of an image, and falls due at once where their T_cal lies beyond the delta (R380). -/
def State.takeRest (s : State) (t c : Nat) (r : TdcRest) : State :=
  let s := (s.takeTable t c r.table r.lat).wr pageCaldir R.CALDIR.CAL_STAT_RESTORED 1
  let due := s.drifted t r.t && s.flag pageCaldir R.CALDIR.CAL_CTL_EN_TDC
  s.onTdc t c (fun d => { d with rest := none, tCal := r.t, tVal := r.t, secs := r.sec, due := d.due || due })

/-- At the channel's gate idle the new table and residual are installed together (R71, R77), and values of an image once
the channel is not running (R380). -/
def execTdcCalInstall (t c : Nat) (s : State) : Host.Outcome State Fault Refusal :=
  let t := t % 2
  done (
    if ¬ s.gateIdle t c ∨ s.flag (pageTdc t c) R.TDC.TDC_STAT_CAL_RUNNING then s else
    let s := match (s.tdc t c).newLut with
      | some r => (s.takeNew t c r).calRunDone (pageTdc t c) true
      | none => s
    match (s.tdc t c).rest with
    | some r => s.takeRest t c r
    | none => s)

/-- An edge on GATEn, 4 ns after it reached the ball, arms or disarms event channel 12 + n of both TCUs (R76). -/
def execGateInputEdge (n : Nat) (level : Bool) (s : State) : Host.Outcome State Fault Refusal :=
  let n := n % 8
  let v := s.gatePins
  done (if bitAt v n = level then s else
    ({ s with gatePins := v ^^^ 2 ^ n } : State).both (fun t a => a.gateEdge t n))

/-- The committed TDC_ARM_AT time is reached (R76). -/
def execTdcArmAtReached (t c : Nat) (s : State) : Host.Outcome State Fault Refusal :=
  let t := t % 2
  done (if (s.tdc t c).armAt then ((s.advance (s.armAtIn t c)).onTdc t c (fun d => { d with armAt := false })).armInternal t c 2 else s)

/-- The internal arming window of an event channel ends (R76); a window of 0 has no end. -/
def execTdcWindowExpiry (t c : Nat) (s : State) : Host.Outcome State Fault Refusal :=
  let t := t % 2
  done (match (s.tdc t c).winEnd with
    | some e => if isEvent c ∧ (s.tdc t c).armed then (s.advance (e - s.up)).setArmed t c false else s
    | none => s)

/-- A delay line's locking loop loses lock (R70). -/
def execLineLockLost (t c line : Nat) (s : State) : Host.Outcome State Fault Refusal := done (s.lineLost (t % 2) (c % 24) line)

end Sys2Proof.Machine
end

