-- ==== Sys2Proof/Machine/Redundancy.lean ====
section
/-! DEFINITION. The duplicated timing units: the mirror, the leadership token, failures and judgements (R148–R166). -/

namespace Sys2Proof.Machine

open Sys2Proof

/-- The causes that `ARB_STAT.LAST_CAUSE` records (R148, R155). -/
def tcFirst : Nat := 0
def tcHost : Nat := 1
def tcFailure : Nat := 2
def tcRevert : Nat := 3
def tcDual : Nat := 4
def tcJudge : Nat := 5
def tcExit : Nat := 6

/-- The claims follow the states: a TCU claims while it is ACTIVE (R164). -/
def State.showClaims (s : State) : State :=
  (s.wr pageArb R.ARB.ARB_STAT_CLAIM_A (b2n (s.tcuState 0 == tsActive))).wr pageArb R.ARB.ARB_STAT_CLAIM_B (b2n (s.tcuState 1 == tsActive))

/-- Lockstep comparison is in force on the standby's pair exactly while a TCU is STANDBY (R148, R159). -/
def State.showLockstep (s : State) : State :=
  let on := s.tokenHeld && s.tcuState (1 - s.active) == tsStandby
  s.both (fun t a => a.wr (pageCtl t) R.CTL.TCU_STAT_LOCKSTEP (b2n on))

/-- The clock phase changes; the outputs are quiet in the Reset, Oscillator wait and Last resort phases (R15, R20, R120). -/
def State.setPhase (s : State) (x : Phase) : State :=
  let s : State := { s with phase := x }
  let s := if x = .running ∨ x = .oscLost then s else s.quietOuts (fun _ _ => true)
  let s := s.wr pageRind R.RIND.RIND_CLK_STAT_PHASE (match x with | .reset | .oscWait => 0 | .running => 1 | .lastResort => 2 | .oscLost => 3)
  s.refreshValid

/-- `TCU_ALIGN_ERR` takes what the detector finds at an epoch (R149). -/
def State.setAlignErr (s : State) (t : Nat) (align : Int) : State :=
  (s.wr (pageCtl t) R.CTL.TCU_ALIGN_ERR (ofInt 16 align)).onTcu t (fun u => { u with alignAt := some (u.now / 64) })

/-- `TCU_ALIGN_ERR` as it reads: 0 on the active, and on the other TCU, while a clock alignment epoch has passed since it was written,
what the detector finds at the last one, within ±3 ps on a standby (R149, R166). Log 90 (DESIGN CHOICE; safe). -/
def State.alignErr (s : State) (t : Nat) : Nat :=
  let u := s.tcu t
  if s.tokenHeld ∧ s.active = t then 0
  else if ¬ s.mirrored t ∨ u.alignAt = some (u.now / 64) then s.rd (pageCtl t) R.CTL.TCU_ALIGN_ERR
  else
    let x := Config.alignResidual t (u.now / 64)
    ofInt 16 (if s.tcuState t = tsStandby then max (-3) (min 3 x) else x)

/-- The check words of the mirror channel arrive at the TCU that does not hold the token, and at neither while none holds it (R151,
R155, R164, R166). -/
def State.showLinks (s : State) : State :=
  s.both (fun t a => a.wr (pageCtl t) R.CTL.TCU_MIRROR_STAT_LINK_OK
    (b2n (a.tokenHeld && a.active != t && (a.mirrored t || (a.tcuState t == tsSyncing && !(a.tcu t).waitMirror)))))

/-- The Last resort phase is entered: the SerDes reference moves to the Rind PLL, SDS_REF_FAIL is set and no TCU holds
the token, nor is one to take the sources at a switch epoch (R15, R19, R20). Log 110 (DESIGN CHOICE; unsafe). -/
def State.enterLastResort (s : State) : State :=
  let s : State := { s with switch := [] }
  let s := ((s.wr pageArb R.ARB.ARB_STAT_HOLDER_VALID 0).showLinks).wr pageRind R.RIND.RIND_CLK_STAT_SDS_REF_SRC 3
  let s := (s.wr pageRind R.RIND.RIND_CLK_STAT_SDS_REF_FAIL 1).showLockstep
  (if s.phase = .running ∨ s.phase = .oscLost then s.setPhase .lastResort else s.refreshValid).touchAll

/-- The Oscillator lost phase is entered: no TCU holds acquired time any more, and each reacquires it (R15, R17). CORE_LOCK and
the locks of the TCUs stand as they are, since the PLLs are frozen and R20 does not say that they read 0.
Log 88 (DESIGN CHOICE; unsafe). -/
def State.oscLoss (s : State) : State :=
  (s.both (fun t a => a.onTcu t (fun u => { u with acquired := false, noTod := false, reacquire := u.acquired || u.reacquire }))).setPhase .oscLost

/-- The Last resort phase ends: the Running phase, or the Oscillator lost phase where OSC_IN is disqualified meanwhile (R15, R19).
Log 88 (DESIGN CHOICE; unsafe). -/
def State.leaveLastResort (s : State) : State :=
  (if s.flag pageRind R.RIND.RIND_CLK_STAT_OSC_OK then s.setPhase .running else s.oscLoss).endHolds.touchAll

/-- `TCU_RED_CTL`, one register of PD_RIND that both TCUs' pages show (R160, R166). -/
def redPage : Nat := pageCtl 0

/-- The revert timer runs only in revertive mode while HOME is STANDBY and not active; as it starts to run it takes HOLD, in seconds
(R160). -/
def State.revertCheck (s : State) : State :=
  let home := s.rd redPage R.CTL.TCU_RED_CTL_HOME
  let ok := s.flag redPage R.CTL.TCU_RED_CTL_REVERT && s.tokenHeld && s.active != home && s.tcuState home == tsStandby
  if ok = s.reverting then s else
  { s with reverting := ok, revertAt := s.up + s.rd redPage R.CTL.TCU_RED_CTL_HOLD * 1000000000 }

/-- A TCU_SWITCHOVER that waits while the token moves for another cause completes OK when the token ended on the TCU
that was standby at acceptance, and WRONG_STATE otherwise (R161); its own move completes it at the switch epoch. -/
def State.switchoverMoved (s : State) (new cause : Nat) : State :=
  match s.findOp 0x41 with
  | some k => if cause = tcHost then s else if k.stage = new + 1 then s else s.finishSt k stWrongState
  | none => s

/-- The token moves at the arbiter to TCU `new` for a cause: the old holder becomes STANDBY for a command or a revert, its
state being set by the caller otherwise; the move is counted, and the sources change at the switch epoch (R148, R155, R166).
Log 110 (DESIGN CHOICE; unsafe). -/
def State.moveToken (s : State) (new cause : Nat) : State :=
  let old := if s.tokenHeld then some s.active else none
  let s := (s.wr pageArb R.ARB.ARB_STAT_HOLDER new).wr pageArb R.ARB.ARB_STAT_HOLDER_VALID 1
  let s := s.wr pageArb R.ARB.ARB_STAT_LAST_CAUSE cause
  let s := match old with
    | some o => if o ≠ new ∧ s.tcuState o = tsActive then s.setTcuState o tsStandby else s
    | none => s
  let s := (s.setTcuState new tsActive).onTcu new (fun u => { u with waitMirror := false, tries := 0 })
  let s := (s.switchoverMoved new cause).inc (pageCtl new) R.CTL.TCU_SW_CNT
  (({ s.inc pageArb R.ARB.ARB_MOVES with switch := s.switch ++ [(old, new, cause)] } : State).showClaims.showLockstep).revertCheck

/-- Resynchronisation of TCU `t` begins: it is SYNCING and its tables are not known equal (R148, R153). -/
def State.beginResync (s : State) (t : Nat) (wait : Bool) : State :=
  let s := (s.setTcuState t tsSyncing).wr (pageCtl t) R.CTL.TCU_MIRROR_STAT_TABLES_EQ 0
  ((s.onTcu t (fun u => { u with tries := 0, waitMirror := wait })).showLinks.showClaims.showLockstep).revertCheck

/-- A command that waits for TCU `t` to be STANDBY ends WRONG_STATE when that TCU fails (R161, R162).
Log 36 (DEDUCED; unsafe). -/
def State.failWaiting (s : State) (t op : Nat) : State :=
  match s.findOp op with
  | some k => if k.stage = t + 1 then s.finishSt k stWrongState else s
  | none => s

/-- A firmware update whose image was good completes once the standby is resynchronised (R162). -/
def State.fwStageDone (s : State) (t : Nat) : State :=
  match s.findOp 0x40 with
  | some k => if k.stage = t + 1 ∧ k.r1 = 1 then s.finishSt k stOk else s
  | none => s

/-- The lock of TCU `t`'s synthesizer is shown on its page and in `RIND_CLK_STAT` (R20, R88). -/
def State.setLock (s : State) (t : Nat) (b : Bool) : State :=
  let s := s.wr (pageSynth t) R.SYNTH.SYN_STAT_LOCK (b2n b)
  s.wr pageRind (if t = 0 then R.RIND.RIND_CLK_STAT_TCUA_LOCK else R.RIND.RIND_CLK_STAT_TCUB_LOCK) (b2n b)

/-- The synthesizer is locked again in the band it had (R148, R158). Log 87 (DEDUCED; unsafe). -/
def State.relock (s : State) (t : Nat) : State :=
  ((s.setLock t true).wr (pageSynth t) R.SYNTH.SYN_STAT_REFMUL_LOCK 1).wr (pageSynth t) R.SYNTH.SYN_STAT_BAND_VALID 1

/-- The synthesizer or its reference multiplier has lost lock: LOCK falls, LOCK_LOST is raised, and whether the multiplier still
holds is free (R157). Log 87 (DEDUCED; unsafe). -/
def State.lockLost (s : State) (t : Nat) : State :=
  (((s.setLock t false).wr (pageSynth t) R.SYNTH.SYN_STAT_REFMUL_LOCK (b2n (Config.refmulHolds s.free))).raise (pageSynth t) 0).bump

/-- A calibration run of the synthesizer that a failure of its TCU cuts short (R148, R376). Log 87 (DEDUCED; unsafe). -/
def State.runCut (s : State) (t : Nat) : State :=
  if s.calRunning.contains (pageSynth t) then ((s.runEnd (pageSynth t)).calRunDone (pageSynth t) false).pllSkip t else s

/-- A TCU may take the token that nobody holds: it is SYNCING and ready, or FAILED with a code that allows it, whose cause has been
gone for 100 ms where the code is 0x01 to 0x03 (R148). -/
def State.mayTake (s : State) (t : Nat) : Bool :=
  let c := s.rd (pageCtl t) R.CTL.TCU_STAT_FAIL_CODE
  (s.tcuState t == tsSyncing && (s.tcu t).ready) ||
  (s.tcuState t == tsFailed && (c == 5 || (decide (1 ≤ c ∧ c ≤ 3) && (s.tcu t).causeGone)))

/-- A TCU takes the token that nobody holds; the other, where it waits for a holder, begins resynchronisation (R148, R150). -/
def State.takeToken (s : State) (t : Nat) : State :=
  let o := 1 - t
  let s := s.moveToken t (if s.phase = .lastResort then tcExit else tcFirst)
  let c := s.rd (pageCtl o) R.CTL.TCU_STAT_FAIL_CODE
  if ((s.tcu o).ready ∧ s.tcuState o = tsStarting) ∨ s.tcuState o = tsSyncing ∨
    (s.tcuState o = tsFailed ∧ (s.tcu o).causeGone ∧ 1 ≤ c ∧ c ≤ 3) then s.beginResync o false else s

/-- TCU `t` would take the token that nobody holds; where both may in the same cycle, the one that LEAD_SEL names takes it (R148). -/
def State.takeFree (s : State) (t : Nat) : State :=
  let w := s.straps.leadSel % 2
  s.takeToken (if s.mayTake (1 - t) then w else t)

/-- The block of TCU `t` that its failure code speaks of shows it: FAULT_CODE 0x01 for an uncorrectable memory error, 0x02 for a
wedged block; the event names no page, and the CTL page shows it (R36, R157). Log 92 (DESIGN CHOICE; unsafe). -/
def State.failFault (s : State) (t code : Nat) : State :=
  if code = 4 then s.setFault (pageCtl t) 1 else if code = 6 then s.setFault (pageCtl t) 2 else s

/-- A failure of R157 is detected in TCU `t`: it drops its claim, records the code and is FAILED (R148). A failed active hands the
token to a STANDBY twin, or leaves the device in the Last resort phase, which a twin that is SYNCING and ready ends by taking the
token (R19, R148, R157). Log 36 (DEDUCED; unsafe). -/
def State.failTcu (s : State) (t code : Nat) : State :=
  let st := s.tcuState t
  if ¬ (st = tsActive ∨ st = tsSyncing ∨ st = tsStandby ∨ st = tsCalibrating) then s else
  let held := s.tokenHeld && s.active == t
  let s := (s.setTcuState t tsFailed).wr (pageCtl t) R.CTL.TCU_STAT_FAIL_CODE code
  let s := s.onTcu t (fun u => { u with causeGone := false })
  let s := s.raiseIf (code == 3) (pageCtl t) 5
  let s := (if code = 1 then s.lockLost t else s.failFault t code).runCut t
  let s := (s.showClaims.showLockstep).revertCheck
  let s := s.failWaiting t 0x41
  let s := s.failWaiting t 0x40
  if ¬ held then s
  else if s.tcuState (1 - t) = tsStandby ∧ s.isOn (2 - t) then s.moveToken (1 - t) tcFailure
  else
    let s := s.enterLastResort
    if s.mayTake (1 - t) then s.takeFree (1 - t) else s

/-- Copies one field of a page to the twin's page. -/
def State.copyFld (s : State) (p q : Nat) (f : Fld) : State :=
  (List.range f.n).foldl (fun a i => a.wrI q f i (a.rdI p f i)) s

/-- The registers that the mirror carries, by the TCU A page they stand on (R113, R151). Log 38 (DEDUCED; unsafe). -/
def mirroredRegs : List (Nat × List Fld) :=
  [ (0x041, [R.TIME.RATE_CTL_RATE_SRC, R.TIME.RATE_HOST_LO, R.TIME.RATE_HOST_HI, R.TIME.STEP_REM]),
    (0x043, [R.REFSEL.REFSEL_STAT_SEL, R.REFSEL.REFSEL_STAT_SEL_VALID, R.REFSEL.REFSEL_STAT_STATE, R.REFSEL.REFSEL_STAT_NEXT,
      R.REFSEL.REFSEL_STAT_NEXT_VALID, R.REFSEL.REFSEL_STAT_DISAGREE, R.REFSEL.REFSEL_STAT_QUAL, R.REFSEL.REFSEL_OFFSET, R.REFSEL.CAND_STAT_STATE,
      R.REFSEL.CAND_STAT_REASON, R.REFSEL.CAND_STAT_TIMER]),
    (0x044, [R.HOLD.HOLD_STAT_ACTIVE, R.HOLD.HOLD_STAT_OOS, R.HOLD.HOLD_STAT_EST_SHORT, R.HOLD.HOLD_ELAPSED, R.HOLD.HOLD_PRED,
      R.HOLD.HOLD_EST_LO, R.HOLD.HOLD_EST_HI, R.HOLD.HOLD_T_ENTRY]),
    (0x068, [R.PTP.PTP_STAT_STATE, R.PTP.PTP_STAT_REASON, R.PTP.PTP_STAT_FOLLOWED, R.PTP.PTP_STAT_SELECTED, R.PTP.PTP_STAT_TIMER, R.PTP.PTP_TRK_CTL_MODE]),
    (0x069, [R.PTP.PTP_STAT_STATE, R.PTP.PTP_STAT_REASON, R.PTP.PTP_STAT_FOLLOWED, R.PTP.PTP_STAT_SELECTED, R.PTP.PTP_STAT_TIMER, R.PTP.PTP_TRK_CTL_MODE]),
    (0x06A, [R.CAD.CAD_CTL_EN, R.CAD.CAD_HOOP, R.CAD.CAD_TX_OFS, R.CAD.CAD_PEER_OFS]),
    (0x06B, [R.GW.GW_CTL_EN, R.GW.GW_CTL_ETYPE]) ]

/-- A slot's state as the mirror brings it; what the monitors measured and the parameters taken from a TCU's own registers stay its
own (R113, R152). -/
def Cand.adopt (own x : Cand) : Cand :=
  { own with fGood := x.fGood, pGood := x.pGood, wasQual := x.wasQual, noWtr := x.noWtr }

/-- What the mirror carries of a TCU beyond its registers: time, the servo, the selection and holdover, and the trackers (R113, R151). -/
def Tcu.adopt (u x : Tcu) : Tcu :=
  { u with
    syncE := u.syncE.map (fun e => (nextEpoch (steppedBy ((x.now : Int) - u.now) e.1), e.2))
    now := x.now, acquired := x.acquired, reacquire := x.reacquire, integ := x.integ, frozen := x.frozen, zero := x.zero,
    first := x.first, wasLocked := x.wasLocked, step := x.step, steps := x.steps, stepCnt := x.stepCnt, rateAcc := x.rateAcc, rateAt := x.rateAt,
    rem := x.rem, slewing := x.slewing, hostRem := x.hostRem, within := x.within, secAt := x.secAt,
    secLocked := x.secLocked, hist := x.hist, est := x.est, tSum := x.tSum, dphi := x.dphi, dis := x.dis, disSeen := x.disSeen,
    cands := (List.range 16).foldl (fun m k => upd {} m k (fun c => c.adopt (look {} x.cands k))) u.cands
    trks := x.trks, ptpSel := x.ptpSel }

/-- The armed commits of TCU `a`'s pages are armed on TCU `b`'s, with their boundaries (R41, R151). -/
def State.mirrorArmed (s : State) (a b p : Nat) : State :=
  let q := tpage b p
  let p := tpage a p
  let s := [R.HDR.HDR_SHADOW_CTL_ARM, R.HDR.HDR_COMMIT_AT_BOUNDARY, R.HDR.HDR_COMMIT_AT_AT_SEC].foldl (fun s f => s.copyFld p q f) s
  { s with commitSec := put 0 (drop s.commitSec q) q (look 0 s.commitSec p) }

/-- The pages of a TCU, as TCU A has them. -/
def tcuPages : List Nat := (List.range 64).map (fun i => 0x040 + i)

/-- The tables of TCU `a` become those of TCU `b` (R151, R154). -/
def State.mirrorTables (s : State) (a b : Nat) : State :=
  { s with
    cadTab := (s.cadTab.filter (fun e => e.1 / 8192 / 13 == a)).foldl (fun m e => put [] m (e.1 - 13 * 8192 * a + 13 * 8192 * b) e.2)
      (s.cadTab.filter (fun e => e.1 / 8192 / 13 != b))
    gwTpl := (s.gwTpl.filter (fun e => e.1 / 512 == a)).foldl (fun m e => put [] m (e.1 - 512 * a + 512 * b) e.2)
      (s.gwTpl.filter (fun e => e.1 / 512 != b))
    gateCopy := (s.gateCopy.filter (fun e => e.1 / 48 == a)).foldl (fun m e => put {} m (e.1 - 48 * a + 48 * b) e.2)
      (s.gateCopy.filter (fun e => e.1 / 48 != b)) }

/-- The hoop configuration that waits in TCU `a`'s shadows waits in TCU `b`'s (R151). -/
def State.mirrorShadow (s : State) (a b : Nat) : State :=
  let lies (t : Nat) (e : Nat × Nat) : Bool := e.1 / 32768 == pageCad t
  let dest (e : Nat × Nat) : Nat := pageCad b * 32768 + e.1 % 32768
  { s with shadow := (s.shadow.filter (lies a)).foldl (fun m e => insert (drop m (dest e)) (dest e) e.2) (s.shadow.filter (fun e => !lies b e)) }

/-- The registers, tables and armed commits that the mirror carries are sent in full (R153). -/
def State.mirrorPages (s : State) (a b : Nat) : State :=
  let s := s.mirrorShadow a b
  tcuPages.foldl (fun s p => if s.flag (tpage a p) R.HDR.HDR_SHADOW_CTL_ARM then s.mirrorArmed a b p else s) (s.mirrorTables a b)

/-- The source of slot `k`. -/
def State.csrc (s : State) (t k : Nat) : Nat := s.rdI (pageRefsel t) R.REFSEL.CAND_CFG_SRC k

/-- The class of slot `k` by its source (R94): 0 frequency, 1 phase, 2 time. -/
def State.cclass (s : State) (t k : Nat) : Nat :=
  let src := s.csrc t k
  if src = 5 ∨ src = 6 then 1 else if 8 ≤ src ∧ src ≤ 0x13 then 2
  else if 1 ≤ src ∧ src ≤ 4 ∧ s.rdI (pageRefsel t) R.REFSEL.CAND_CFG_PULSE k ≠ 0 then 1 else 0

/-- What is selected: a slot by its number, or 16 + the PTP instance (R102, R143). -/
def State.curSel (s : State) (t : Nat) : Option Nat :=
  if s.flag (pageRefsel t) R.REFSEL.REFSEL_STAT_SEL_VALID then some (s.rd (pageRefsel t) R.REFSEL.REFSEL_STAT_SEL)
  else (s.tcu t).ptpSel.map (fun i => 16 + i)

/-- What is selected has changed: the measurements of the reference start anew, ACQ_NO_TOD may be raised again, and the seconds that the
host gave are known no longer, but where they went on with the edges of a phase-class candidate, which `go` says was selected (R92,
R108). -/
def State.selChanged (s : State) (t : Nat) (go : Bool) : State :=
  s.onTcu t (fun u => { u with noTod := false, refAt := none, todSet := u.todSet && go })

/-- TCU `b` takes the rate word of TCU `a`, with the part of it that slews; in the Oscillator lost phase the synthesizers are frozen
(R15, R149). -/
def State.mirrorRate (s : State) (a b : Nat) : State :=
  if s.phase = .oscLost then s else
  let s := s.onTcu b (fun u => { u with slew := (s.tcu a).slew })
  let s := (s.copyFld (pageTime a) (pageTime b) R.TIME.RATE_LIVE_LO).copyFld (pageTime a) (pageTime b) R.TIME.RATE_LIVE_HI
  s.setRatio b (s.rate b)

/-- The transfer of what TCU `a`'s servo, selector and trackers hold to TCU `b`; what R152 lists stays each TCU's own (R151–R153).
Log 38 (DEDUCED; unsafe). -/
def State.mirrorAll (s : State) (a b : Nat) : State :=
  let x := s.tcu a
  let was := s.curSel b
  let go := match was with | some k => decide (k < 16) && s.cclass b k == 1 | none => false
  let s := s.onTcu b (fun u => u.adopt x)
  let s := mirroredRegs.foldl (fun s e => e.2.foldl (fun s f => s.copyFld (tpage a e.1) (tpage b e.1) f) s) s
  let s := s.mirrorRate a b
  if s.curSel b = was then s else s.selChanged b go

/-- The dividers of TCU `b`'s clock outputs stand as those of TCU `a`: both place the same edges (R121, R149).
Log 91 (DESIGN CHOICE; safe). -/
def State.alignDividers (s : State) (a b : Nat) : State :=
  s.each 8 (fun n s =>
    let x := s.outp a n
    s.onOutp b n (fun o => { o with clk := x.clk, step := x.step, bent := x.bent, shift := x.shift }))

/-- The standby leaves the token's holder waiting for nothing more: a TCU_SWITCHOVER that waited for STANDBY proceeds (R161). -/
def State.switchoverProceed (s : State) (t : Nat) : State :=
  match s.findOp 0x41 with
  | some k => if k.stage = t + 1 ∧ s.tcuState t = tsStandby ∧ s.tokenHeld then s.moveToken t tcHost else s
  | none => s

/-- The mirror-format numbers of the two TCUs are equal: a standby accepts mirror data only then (R162). -/
def State.sameFormat (s : State) : Bool := s.rd (pageCtl 0) R.CTL.TCU_FW_VER_FMT == s.rd (pageCtl 1) R.CTL.TCU_FW_VER_FMT

/-- A STANDBY TCU's lockstep with its active is restored: the end of a resynchronisation (R148, R153). -/
def execResyncComplete (t : Nat) (align : Int) (s : State) : Host.Outcome State Fault Refusal :=
  let t := t % 2
  done (
    if s.tcuState t ≠ tsSyncing then s
    else if ¬ s.tokenHeld then (if (s.tcu t).ready then s.takeFree t else s)
    else if (s.tcu t).waitMirror ∨ ¬ s.sameFormat ∨ align < -3 ∨ align > 3 then s
    else
      let s := ((s.mirrorPages (1 - t) t).mirrorAll (1 - t) t).alignDividers (1 - t) t
      let s := (s.setAlignErr t align).wr (pageCtl t) R.CTL.TCU_MIRROR_STAT_TABLES_EQ 1
      let s := ((s.wr (pageCtl t) R.CTL.TCU_MIRROR_STAT_LINK_OK 1).wr (pageCtl t) R.CTL.TCU_MIRROR_STAT_LS_LOST 0).raise (pageCtl t) 6
      ((((s.setTcuState t tsStandby).showLockstep).revertCheck).fwStageDone t).switchoverProceed t)

/-- Resynchronisation is not complete 2 ms after it began: one further attempt, then FAIL_CODE 0x05; a switchover that
waited for STANDBY completes WRONG_STATE (R148, R161). -/
def execResyncTimeout (t : Nat) (s : State) : Host.Outcome State Fault Refusal :=
  let t := t % 2
  done (
    if s.tcuState t ≠ tsSyncing then s else
    let s := match s.findOp 0x41 with
      | some k => if k.stage = t + 1 then s.finishSt k stWrongState else s
      | none => s
    if (s.tcu t).waitMirror then s
    else if (s.tcu t).tries = 0 then s.onTcu t (fun u => { u with tries := 1 }) else s.failTcu t 5)

/-- A TCU FAILED with code 0x05 starts resynchronisation again after 10 s, if check words arrive; with no token held it
takes the token (R148). -/
def execFailedRetryExpiry (t : Nat) (s : State) : Host.Outcome State Fault Refusal :=
  let t := t % 2
  done (
    if s.tcuState t ≠ tsFailed ∨ s.rd (pageCtl t) R.CTL.TCU_STAT_FAIL_CODE ≠ 5 then s
    else if ¬ s.tokenHeld then s.takeFree t
    else if s.active ≠ t ∧ s.flag (pageCtl t) R.CTL.TCU_MIRROR_STAT_LINK_OK then s.beginResync t false else s)

/-- The cause of a failure with code 0x01–0x03 has been gone for 100 ms (R148). -/
def execFailCauseGone (t : Nat) (s : State) : Host.Outcome State Fault Refusal :=
  let t := t % 2
  let c := s.rd (pageCtl t) R.CTL.TCU_STAT_FAIL_CODE
  done (
    if s.tcuState t ≠ tsFailed ∨ c = 0 ∨ c > 3 then s else
    let s := (s.onTcu t (fun u => { u with causeGone := true })).relock t
    if s.tokenHeld then s.beginResync t false else s.takeFree t)

/-- After reset the arbiter grants the token: to the preferred TCU if it is ready; to the other, if that is ready, 10 ms
after OSC_IN qualifies or when the preferred one is off or FAILED (R150). -/
def execFirstTokenGrant (tenMs : Bool) (s : State) : Host.Outcome State Fault Refusal :=
  let p := s.straps.leadSel % 2
  let rdy (t : Nat) : Bool := (s.tcu t).ready && s.tcuState t == tsStarting
  done (
    if s.tokenHeld then s
    else if rdy p then s.takeToken p
    else if rdy (1 - p) ∧ (tenMs ∨ s.tcuState p = tsOff ∨ s.tcuState p = tsFailed) then s.takeToken (1 - p)
    else s)

/-- A move of the token is reported at the switch epoch (R155). -/
def State.reportMove (s : State) (old : Option Nat) (new : Nat) : State :=
  let s := s.raise (pageCtl new) 1
  let s := match old with | some o => s.raiseIf (o != new) (pageCtl o) 2 | none => s
  (s.raise pageArb 0).bcast bTcuSwitch

/-- The epoch after the token moved: every source changes to the TCU that holds it, and each move is reported (R155, R161, R19).
Log 38 (DEDUCED; unsafe). Log 110 (DESIGN CHOICE; unsafe). -/
def State.switchEpoch (s : State) : State :=
  if s.switch = [] ∨ ¬ s.tokenHeld then s else
  let a := s.active
  let moves := s.switch
  let s := ({ s with switch := [] } : State).wr pageRind R.RIND.RIND_CLK_STAT_SDS_REF_SRC (1 + a)
  let s := moves.foldl (fun s m => s.reportMove m.1 m.2.1) s
  let s := (s.setAlignErr a 0).showLinks
  let s := if s.phase = .lastResort then s.leaveLastResort else s.refreshValid
  match s.findOp 0x41 with
  | some k => if k.stage = a + 1 then s.finishSt k stOk else s
  | none => s

/-- Sixteen mismatches within one hoop: LS_MISMATCH with LS_LOST set, and the standby resynchronises (R159). -/
def State.lockstepLost (s : State) : State :=
  let a := s.active
  let b := 1 - a
  if ¬ s.tokenHeld ∨ s.tcuState b ≠ tsStandby ∨ (s.tcu a).lsHoop < 16 then s else
  let s := ((s.wr (pageCtl a) R.CTL.TCU_MIRROR_STAT_LS_LOST 1).wr (pageCtl b) R.CTL.TCU_MIRROR_STAT_LS_LOST 1).raise (pageCtl a) 3
  (s.onTcu a (fun u => { u with lsHoop := 0 })).beginResync b false

def execLockstepLost (s : State) : Host.Outcome State Fault Refusal := done s.lockstepLost

/-- The revert hold-off expires with HOME STANDBY (R160). -/
def execRevertHoldoffExpiry (s : State) : Host.Outcome State Fault Refusal :=
  let home := s.rd redPage R.CTL.TCU_RED_CTL_HOME
  done (if s.reverting ∧ s.flag redPage R.CTL.TCU_RED_CTL_REVERT ∧ s.tokenHeld ∧ s.active ≠ home ∧ s.tcuState home = tsStandby then
    (s.advance (s.revertAt - s.up)).moveToken home tcRevert else s)

/-- Both TCUs claim the token: it goes to the TCU that LEAD_SEL names, and the loser records code 0x03 and enters
SYNCING until the mirror carries check words again; the claiming standby raises MIRROR_FAIL (R164, R166).
Log 36 (DEDUCED; unsafe). -/
def State.dualClaim (s : State) : State :=
  let w := s.straps.leadSel % 2
  let l := 1 - w
  if ¬ s.tokenHeld ∨ s.tcuState (1 - s.active) ≠ tsStandby then s else
  let moved := s.active == l
  let s := (s.raise pageArb 1).raise (pageCtl (1 - s.active)) 5
  let s := (s.beginResync l true).wr (pageCtl l) R.CTL.TCU_STAT_FAIL_CODE 3
  if moved then s.moveToken w tcDual else s

/-- Log 36 (DEDUCED; unsafe). -/
def execDualClaim (s : State) : Host.Outcome State Fault Refusal := done s.dualClaim

/-- The TCUs differ by more than LEAD_TOL for 16 epochs and a judgement starts (R165). -/
def execTimeDisagree (s : State) : Host.Outcome State Fault Refusal :=
  done (if ¬ s.tokenHeld ∨ s.tcuState (1 - s.active) ≠ tsStandby ∨ s.judging then s else
    ({ s with judging := true } : State).raise pageArb 2)

/-- The TDC channel that measures slot `k` in TCU `t`, if one does: the trunk-phase channel of a trunk clock, else that of TDC20 to
TDC23 which is assigned to it (R96). -/
def State.slotChannel (s : State) (t k : Nat) : Option Nat :=
  if s.cclass t k = 2 then some (s.csrc t k - 8)
  else [20, 21, 22, 23].find? (fun c => s.channelSlot t c == some k)

/-- Slot `k` may judge: a phase- or time-class candidate that is QUALIFIED in the mirrored selection state and that both TCUs measure
on a TDC channel (R165). -/
def State.isJudge (s : State) (k : Nat) : Bool :=
  s.rdI (pageRefsel s.active) R.REFSEL.CAND_STAT_STATE k == 4 && s.cclass s.active k != 0 &&
  (s.slotChannel 0 k).isSome && (s.slotChannel 1 k).isSome

/-- The judges' edges are measured: `ms` gives, per judge, the slot and the offsets in ps against TCU A and TCU B; the
smaller sum wins when they differ by at least half of LEAD_TOL, and otherwise the judgement ends undecided (R165). -/
def execTimeJudgement (ms : List (Nat × Int × Int)) (s : State) : Host.Outcome State Fault Refusal :=
  let ms := ms.filter (fun m => s.isJudge m.1)
  let sa := (ms.map (fun m => m.2.1.natAbs)).sum
  let sb := (ms.map (fun m => m.2.2.natAbs)).sum
  let tol := s.rd pageArb R.ARB.ARB_LEAD_TOL
  let a := s.active
  done (
    if ¬ s.judging then s else
    let s : State := { s with judging := false }
    let s := (s.wr pageArb R.ARB.ARB_JUDGE_A (satNat 32 sa)).wr pageArb R.ARB.ARB_JUDGE_B (satNat 32 sb)
    let diff := if sa < sb then sb - sa else sa - sb
    if ms = [] ∨ 2 * diff < tol then
      ((s.raise pageArb 3).wr pageArb R.ARB.ARB_STAT_UNDECIDED 1).beginResync (1 - a) false
    else
      let w := if sa < sb then 0 else 1
      if w = a then s.beginResync (1 - a) false
      else (s.beginResync a false).moveToken w tcJudge)

/-- A TCU other than the active detects a failure of R157 in itself (R148); code 0x03, which a standby's claim for want of check words
brings, is judged by R164. -/
def execStandbyTcuFailure (t code : Nat) (s : State) : Host.Outcome State Fault Refusal :=
  let t := t % 2
  done (if s.tokenHeld ∧ s.active = t then s else if code = 3 then s.dualClaim else s.failTcu t code)

/-- A standby that abandoned a calibration or an update when the active failed becomes ready and takes the token; a
calibration or update command in flight ends without effect (R158). -/
def execStandbyReadyAfterAbandon (t : Nat) (s : State) : Host.Outcome State Fault Refusal :=
  let t := t % 2
  done (
    if s.tokenHeld ∨ ¬ (s.tcuState t = tsCalibrating ∨ s.tcuState t = tsUpdating) then s else
    let s := if s.tcuState t = tsCalibrating then s.relock t else s
    let s := ((s.runEnd (pageSynth t)).onTcu t (fun u => { u with newPath := none })).pllSkip t
    let s := s.finishOp 0x48 (pageSynth t) stWrongState 0 0
    let s := match s.findOp 0x40 with | some k => s.finishSt k stWrongState | none => s
    s.takeToken t)

/-- The mirror carries check words of the token's holder again (R164). -/
def execMirrorCheckWordsResumed (t : Nat) (s : State) : Host.Outcome State Fault Refusal :=
  let t := t % 2
  done (
    let s := s.wr (pageCtl t) R.CTL.TCU_MIRROR_STAT_LINK_OK (b2n (s.tokenHeld && s.active != t))
    if s.tcuState t = tsSyncing ∧ (s.tcu t).waitMirror then s.beginResync t false else s)

/-- TCU_SWITCHOVER: its stage remembers the TCU that is standby at acceptance (R161). -/
def State.startSwitchover (k : Cmd) (s : State) : State :=
  let t := 1 - s.active
  let st := s.tcuState t
  if ¬ s.tokenHeld ∨ ¬ s.isOn (1 + t) ∨ ¬ (st = tsStandby ∨ st = tsCalibrating ∨ st = tsSyncing) then (s.fly k).finishSt k stWrongState
  else
    let s := s.fly { k with stage := t + 1 }
    if st = tsStandby then s.moveToken t tcHost else s

/-- TCU_FW_STAGE: the standby loads the image into its inactive bank and is UPDATING (R148, R162). -/
def State.startFwStage (k : Cmd) (s : State) : State :=
  let t := 1 - s.active
  if ¬ s.tokenHeld ∨ s.tcuState t ≠ tsStandby then (s.fly k).finishSt k stWrongState
  else ((s.fly { k with stage := t + 1 }).setTcuState t tsUpdating).showLockstep.revertCheck

/-- The firmware banks of TCU `t`. -/
def State.firm (s : State) (t : Nat) : Firm := look {} s.fw t
def State.setFirm (s : State) (t : Nat) (f : Firm) : State := { s with fw := put {} s.fw t f }

/-- `TCU_FW_VER` shows the firmware that TCU `t` runs (R162). -/
def State.showFirm (s : State) (t : Nat) : State :=
  let f := s.firm t
  ((s.wr (pageCtl t) R.CTL.TCU_FW_VER_VER f.ver).wr (pageCtl t) R.CTL.TCU_FW_VER_FMT f.fmt).wr (pageCtl t) R.CTL.TCU_FW_VER_BANK f.bank

/-- Verification of the staged image ends: signature, version and mirror format decide the outcome (R162). -/
def execTcuFwVerified (signed : Bool) (version fmt : Nat) (s : State) : Host.Outcome State Fault Refusal :=
  done (
    match s.findOp 0x40 with
    | none => s
    | some k =>
      let t := k.stage - 1
      if s.tcuState t ≠ tsUpdating then s else
      let same := fmt == s.rd (pageCtl (1 - t)) R.CTL.TCU_FW_VER_FMT
      let good := signed && same
      let f := s.firm t
      let s := if good then (s.setFirm t { ver := version, fmt := fmt, other := (f.ver, f.fmt), bank := 1 - f.bank }).showFirm t else s
      let s := s.beginResync t false
      if good then s.onCmd k (fun j => { j with r1 := 1 })
      else if signed then s.finish k stWrongState 0 1 0 else s.finishSt k stSignature)

end Sys2Proof.Machine
end

