-- ==== Sys2Proof/Machine/Synth.lean ====
section
/-! DEFINITION. Clock synthesis: PLL calibration runs, start-up, SYNC_IN and the KL2418 phase mode (R82–R93). -/

namespace Sys2Proof.Machine

open Sys2Proof

/-- A synthesizer run is due on TCU `t`: fallen due, named by CAL_RUN, or waiting with a new reference path (R85, R372, R375). -/
def State.pllDue (s : State) (t : Nat) : Bool :=
  (s.tcu t).pllDue || s.calHead.contains (pageSynth t) || (s.tcu t).newPath.isSome

/-- A synthesizer takes the values of an image: band and VTUNE, with their T_cal and seconds (R380, R381). -/
def State.takePll (s : State) (t : Nat) (r : Nat × Nat × Int × Nat) : State :=
  let p := pageSynth t
  let s := ((s.wr p R.SYNTH.SYN_STAT_BAND_VALID 1).wr p R.SYNTH.SYN_STAT_BAND r.1).wr p R.SYNTH.SYN_STAT_VTUNE r.2.1
  let due := s.drifted t r.2.2.1 && s.flag pageCaldir R.CALDIR.CAL_CTL_EN_PLL
  (s.wr pageCaldir R.CALDIR.CAL_STAT_RESTORED 1).onTcu t (fun u =>
    { u with tPll := r.2.2.1, pllSecs := r.2.2.2, pllDue := u.pllDue || due })

/-- Values of an image that waited for a run to end go in (R380). -/
def State.pllRestore (s : State) (t : Nat) : State :=
  match (s.tcu t).pllRest with
  | some r => (s.takePll t r).onTcu t (fun u => { u with pllRest := none })
  | none => s

/-- A run starts on the standby, which becomes CALIBRATING; a new reference path takes effect with it (R85, R86, R148). -/
def State.pllStart (s : State) (t : Nat) : State :=
  if s.tcuState t ≠ tsStandby ∨ ¬ s.runsOpen ∨ ¬ s.pllDue t then s else
  let s := match (s.tcu t).newPath with
    | some x => s.wr (pageSynth t) R.SYNTH.SYN_CTL_REF_PATH x
    | none => s
  let s := (s.onTcu t (fun u => { u with pllDue := false, newPath := none })).runStart (pageSynth t)
  let s := ((s.setLock t false).wr (pageSynth t) R.SYNTH.SYN_STAT_REFMUL_LOCK 0).wr (pageSynth t) R.SYNTH.SYN_STAT_BAND_VALID 0
  ((s.setTcuState t tsCalibrating).showLockstep).revertCheck

/-- What a write of `SYN_CTL` does beyond its DITHER field: a change of REF_PATH is refused on the active TCU, and on
the standby it starts a run (R85). On a TCU that is neither it waits, REF_PATH reading the old path, until the TCU is STANDBY.
Log 100 (DESIGN CHOICE; unsafe). -/
def State.synCtlWritten (s : State) (t v : Nat) : State :=
  let x := bits v 0 2
  if x = 3 ∨ x = s.rd (pageSynth t) R.SYNTH.SYN_CTL_REF_PATH then s
  else if s.tokenHeld ∧ s.active = t then s.raise (pageSynth t) 2
  else (s.onTcu t (fun u => { u with newPath := some x })).pllStart t

/-- A synthesizer calibration run starts (R86, R372, R374). -/
def execPllCalStart (t : Nat) (s : State) : Host.Outcome State Fault Refusal := done (s.pllStart (t % 2))

/-- The results of a run that locked (R86, R376, R380). -/
def State.pllLocked (s : State) (t band vtune : Nat) : State :=
  let p := pageSynth t
  let s := (s.setLock t true).wr p R.SYNTH.SYN_STAT_REFMUL_LOCK 1
  let s := ((s.wr p R.SYNTH.SYN_STAT_BAND_VALID 1).wr p R.SYNTH.SYN_STAT_BAND band).wr p R.SYNTH.SYN_STAT_VTUNE vtune
  let s := (s.setRatio t (s.rate t)).onTcu t (fun u => { u with tPll := s.sensor t, pllSecs := s.sec % 2 ^ 32 })
  ((s.runOk p).calRunDone p true).pllRestore t

/-- The run ends: locked in a band, with the phase in ps that the epoch then finds of the TCU's clock, which is STANDBY again once that is
within 3 ps of the active's; or failed, and the TCU is FAILED with code 0x07 (R86, R148, R149, R376). -/
def execPllCalEnd (t : Nat) (locked : Option Int) (band vtune : Nat) (s : State) : Host.Outcome State Fault Refusal :=
  let t := t % 2
  let p := pageSynth t
  done (
    if s.tcuState t ≠ tsCalibrating then s else
    match locked with
    | none => if s.calRunning.contains p then ((s.runFail p).pllSkip t).failTcu t 7 else s
    | some align =>
      let s := if s.calRunning.contains p then s.pllLocked t band vtune else s
      let s := s.setAlignErr t align
      if align < -3 ∨ align > 3 then s
      else (((s.setTcuState t tsStandby).showLockstep).revertCheck).switchoverProceed t)

/-- TCU `t` is starting up: its domain is on and its start-up has begun (R88, R148). -/
def State.starting (s : State) (t : Nat) : Bool := s.tcuState t == tsStarting

/-- The reference multiplier locks and the band search begins (R88). -/
def execRefmulLocked (t : Nat) (s : State) : Host.Outcome State Fault Refusal :=
  let t := t % 2
  done (if s.starting t ∧ s.phase ≠ .reset ∧ s.phase ≠ .oscWait then s.wr (pageSynth t) R.SYNTH.SYN_STAT_REFMUL_LOCK 1 else s)

/-- The VCO band search ends, or is skipped for the band of an image; no search goes on while `CAL_CTL.RESTORE_OPEN` is 1 (R88, R380, R381). -/
def execBandFound (t band vtune : Nat) (s : State) : Host.Outcome State Fault Refusal :=
  let t := t % 2
  let p := pageSynth t
  done (if s.starting t ∧ s.flag p R.SYNTH.SYN_STAT_REFMUL_LOCK ∧ ((s.tcu t).pllRest.isSome ∨ s.runsOpen) then
    match (s.tcu t).pllRest with
    | some r => s.takePll t r
    | none => ((s.wr p R.SYNTH.SYN_STAT_BAND_VALID 1).wr p R.SYNTH.SYN_STAT_BAND band).wr p R.SYNTH.SYN_STAT_VTUNE vtune else s)

/-- The fractional-N loop locks at r = 0: the TCU clocks run and the cycle count starts at 0, the first time (R60, R88). A band taken from
an image is no run (R380). -/
def execSynLocked (t : Nat) (s : State) : Host.Outcome State Fault Refusal :=
  let t := t % 2
  done (if s.starting t ∧ s.flag (pageSynth t) R.SYNTH.SYN_STAT_BAND_VALID then
    let s := (s.setLock t true).setRatio t (s.rate t)
    let s := if (s.tcu t).clk then s else s.onTcu t (fun u => { u with clk := true, cyc := 0, lockAt := some s.up })
    match (s.tcu t).pllRest with
    | some _ => s.onTcu t (fun u => { u with pllRest := none })
    | none => (s.onTcu t (fun u => { u with tPll := s.sensor t, pllSecs := s.sec % 2 ^ 32 })).runOk (pageSynth t)
  else s)

/-- One ns in units of 2⁻²⁴ VCO periods of 100 ps, in which a divider's edges are reckoned. -/
def vcoNs : Int := 10 * 2 ^ 24

/-- The period of a clock output in those units (R115). -/
def State.clkPeriod (s : State) (t n : Nat) : Int :=
  (s.rd (pageOut t n) R.OUT.OUT_DIV_INT * 2 ^ 24 + s.rd (pageOut t n) R.OUT.OUT_DIV_FRAC : Nat)

/-- The shift that `OUT_CLK_PHASE` asks for, in interpolator steps of 25/16 ps (R115). -/
def State.clkSteps (s : State) (t n : Nat) : Int := divEven (s.rdS (pageOut t n) R.OUT.OUT_CLK_PHASE * 16) 25

/-- An edge of a divider as the interpolator places it, shifted by `k` steps, in sixteenths of a ps of network time (R115). -/
def State.clkPlace (s : State) (t : Nat) (x k : Int) : Int :=
  (divEven ((x - s.up * vcoNs) * 64) (2 ^ 24) + k) * 25 + (s.tcu t).now * 16000

/-- An interpolator step in units of 2⁻²⁴ VCO periods (R115). -/
def stepVco : Int := 2 ^ 18

/-- A rising edge of a clock output's divider: the last one known, or one that its free phase gives (R115).
Log 91 (DESIGN CHOICE; safe). -/
def State.clkEdge (s : State) (t n : Nat) : Int :=
  let per := s.clkPeriod t n
  (s.outp t n).clk.getD (Config.dividerPhase n per % per)

/-- A clock output's divider restarts or is re-phased: its next rising edge stands at `x`, shifted by `k` steps (R90, R92). -/
def State.setDivider (s : State) (t n : Nat) (x k : Int) : State :=
  (s.onOutp t n (fun o => { o with clk := some (x - s.clkPeriod t n), step := k, bent := 0, shift := none })).emit (.rephase t n (s.clkPlace t x k))

/-- At epoch E the dividers of the named clock outputs restart, their first edges falling at E plus the output's phase; E is
recorded and SYNC_DONE raised (R90). A pulse or frame output has no divider (R116). -/
def execSyncRestart (t : Nat) (s : State) : Host.Outcome State Fault Refusal :=
  let t := t % 2
  let p := pageSynth t
  done (
    match (s.tcu t).syncE with
    | none => s
    | some (e, m) =>
      let s := (s.advance (e - (s.tcu t).now)).onTcu t (fun u => { u with syncE := none })
      let s := s.each 8 (fun n a => if bitAt m n ∧ a.rd (pageOut t n) R.OUT.OUT_CTL_MODE = 0 then
        a.setDivider t n (a.up * vcoNs) (a.clkSteps t n) else a)
      ((s.wr p R.SYNTH.SYNC_LAST_SEC (e / 1000000000)).wr p R.SYNTH.SYNC_LAST_NS (e % 1000000000)).raise p 3)

/-- The least common multiple of two positive fractions, as a fraction. -/
def lcmFrac (a b c d : Nat) : Nat × Nat :=
  let g := Nat.gcd a b
  let h := Nat.gcd c d
  (Nat.lcm (a / g) (c / h), Nat.gcd (b / g) (d / h))

/-- The period of a candidate source as a fraction of ps (R94): REF by its nominal frequency, PPS 1 Hz, a trunk clock the
3.22265625 GHz tone, SyncE 156.25 MHz. A CAND_FREQ of 0 counts as 1 Hz. Log 89 (DESIGN CHOICE; unsafe). -/
def srcPeriod (src freq : Nat) : Nat × Nat :=
  if src ≤ 4 then (1000000000000, if freq = 0 then 1 else freq)
  else if src ≤ 6 then (1000000000000, 1)
  else if src ≤ 0x13 then (1000000000000 * 256, 825000000000)
  else (6400, 1)

/-- The output may be re-phased: its period and the reference's have a common multiple of at most 1 ms (R92). -/
def State.klFits (s : State) (t n slot : Nat) : Bool :=
  let p := pageOut t n
  let q := srcPeriod (s.rdI (pageRefsel t) R.REFSEL.CAND_CFG_SRC slot) (s.rdI (pageRefsel t) R.REFSEL.CAND_FREQ slot)
  let x := lcmFrac ((s.rd p R.OUT.OUT_DIV_INT * 2 ^ 24 + s.rd p R.OUT.OUT_DIV_FRAC) * 100) (2 ^ 24) q.1 q.2
  decide (x.1 ≤ 1000000000 * x.2)

/-- The bits of `KL_OUT_MASK` that read 0: those of clock outputs that cannot be re-phased to the selected reference (R92). With no
slot selected there is no reference to fail it. Log 91 (DESIGN CHOICE; safe). -/
def State.klUnfit (s : State) (t : Nat) : Nat :=
  if ¬ s.flag (pageRefsel t) R.REFSEL.REFSEL_STAT_SEL_VALID then 0
  else (List.range 8).foldl (fun a n =>
    a + b2n (s.rd (pageOut t n) R.OUT.OUT_CTL_MODE == 0 && !s.klFits t n (s.rd (pageRefsel t) R.REFSEL.REFSEL_STAT_SEL)) * 2 ^ n) 0

/-- `KL_OUT_MASK` as it reads (R92). -/
def State.klMask (s : State) (t : Nat) : Nat :=
  let m := s.rd (pageSynth t) R.SYNTH.KL_OUT_MASK
  m - (m &&& s.klUnfit t)

/-- The last edge of the reference at its ball, in units of 2⁻²⁴ VCO periods of device time; free where none has been captured (R92).
Log 91 (DESIGN CHOICE; safe). -/
def State.refEdge (s : State) (t : Nat) : Int := divEven (((s.tcu t).refAt.getD (Config.refPhase s.free)) * vcoNs) 65536

/-- The next rising edge of a clock output's divider, and the cycles up to it: the first at or after this ns that comes after the last
edge and, after a change of mode, once the pulse then in progress has ended (R115, R120, R457). -/
def State.clkNext (s : State) (t n : Nat) : Int × Nat :=
  let per := s.clkPeriod t n
  let e := s.clkEdge t n + (s.outp t n).bent
  let lo := max (s.up * vcoNs) (divEven ((s.outp t n).hold * vcoNs) 16000)
  let k := max (if (s.outp t n).clk.isSome then 1 else 0) ((lo - e + per - 1) / per)
  (e + k * per, k.toNat)

/-- One output is to be re-phased: by at most half a period, so that an edge follows a reference edge by `KL_OFFSET`; the next edge comes
as it would, and the cycle that it begins is stretched or shortened (R92). -/
def State.klOne (s : State) (t n : Nat) : State :=
  let per := s.clkPeriod t n
  let want := s.refEdge t + divEven (s.rdS (pageSynth t) R.SYNTH.KL_OFFSET * vcoNs) 1000
  let d := (want - (s.clkNext t n).1 - (s.outp t n).step * stepVco + per / 2) % per - per / 2
  s.onOutp t n (fun o => { o with shift := some d })

/-- The clock outputs that a re-phasing takes in: those named that fit; pulse and frame outputs ignore their bits (R92). -/
def State.klNamed (s : State) (t : Nat) : List Nat :=
  (List.range 8).filter (fun n => bitAt (s.klMask t) n && s.rd (pageOut t n) R.OUT.OUT_CTL_MODE == 0 && s.rd (pageOut t n) R.OUT.OUT_DIV_INT != 0)

/-- The KL2418 re-phasing after lock to a new reference: each clock output named that fits is to be re-phased once, at its next edge
(R92). -/
def State.klRephase (s : State) (t : Nat) : State := (s.klNamed t).foldl (fun a n => a.klOne t n) s

/-- A re-phasing takes effect as the edge `x` of an output is reached: its cycle is bent by the shift, and KL_ALIGNED is raised once no
output of the TCU waits (R92). -/
def State.klTake (s : State) (t n : Nat) (x : Int) : State :=
  match (s.outp t n).shift with
  | none => s.onOutp t n (fun o => { o with bent := 0 })
  | some d =>
    let s := (s.onOutp t n (fun o => { o with bent := d, shift := none })).emit
      (.rephase t n (s.clkPlace t (x + s.clkPeriod t n + d) (s.outp t n).step))
    s.raiseIf ((List.range 8).all (fun m => (s.outp t m).shift.isNone)) (pageSynth t) 4

/-- An edge on SYNC_IN: each TCU whose `SYNC_CTL` selects it fixes restart epoch E, the first epoch at least 64 ns after
the sampling cycle; an edge before E is reached is ignored, and outputs in KL2418 mode are not named (R90, R91). -/
def State.syncEdge (s : State) (t : Nat) (rising : Bool) : State :=
  let p := pageSynth t
  let u := s.tcu t
  if ¬ s.flag p R.SYNTH.SYNC_CTL_EN ∨ s.flag p R.SYNTH.SYNC_CTL_EDGE = rising ∨ u.syncE.isSome ∨ ¬ u.clk then s else
  let m := s.rd p R.SYNTH.SYNC_CTL_OUT_MASK
  let k := s.klMask t
  s.onTcu t (fun u => { u with syncE := some (nextEpoch (u.now + 64), m - (m &&& k)) })

def execSyncInEdge (rising : Bool) (s : State) : Host.Outcome State Fault Refusal := done (s.both (fun t a => a.syncEdge t rising))

end Sys2Proof.Machine
end

