-- ==== Sys2Proof/Machine/RefSel.lean ====
section
/-! DEFINITION. Reference candidates, selection, the Rennet servo and holdover (R94–R113, R143). -/

namespace Sys2Proof.Machine

open Sys2Proof

/-! ### Fields of slot `k` -/

/-- The RANK of slot `k` as the last evaluation took it (R101). -/
def State.crank (s : State) (t k : Nat) : Nat := (s.cand t k).rank
def State.cstate (s : State) (t k : Nat) : Nat := s.rdI (pageRefsel t) R.REFSEL.CAND_STAT_STATE k
def State.cfofs (s : State) (t k : Nat) : Int := toInt 32 (s.rdI (pageRefsel t) R.REFSEL.CAND_FOFS k)

/-- The candidate states of `CAND_STAT.STATE` (R100). -/
def csDisabled : Nat := 0
def csFailed : Nat := 1
def csSoaking : Nat := 2
def csWait : Nat := 3
def csQual : Nat := 4

/-- The lane serves an enabled port or an enabled trunk (R95). -/
def State.laneEnabled (s : State) (l : Nat) : Bool :=
  s.rd (pagePort l) R.PORT.PORT_STAT_LINK != 0 || s.rd (pageNT (l / 4)) R.NT.TRUNK_STAT_STATE != 0

/-- A source is available (R95): a trunk clock while its trunk is UP, a SyncE selector while its lane is enabled,
powered and locked, any other always. -/
def State.srcAvail (s : State) (t src : Nat) : Bool :=
  if 8 ≤ src ∧ src ≤ 0x13 then s.rd (pageNT (src - 8)) R.NT.TRUNK_STAT_STATE == 7
  else if src = 0x18 ∨ src = 0x19 then
    let l := s.rd (pageRefsel t) (if src = 0x18 then R.REFSEL.REFSEL_SYNCE_LANE0 else R.REFSEL.REFSEL_SYNCE_LANE1)
    s.laneEnabled l && s.isOn (8 + l / 8) && s.flag (pagePort l) R.PORT.PORT_STAT_BLOCK_LOCK
  else true

/-! ### Selection (R102, R103, R109) -/

/-- The selector states of `REFSEL_STAT.STATE` (R109). -/
def ssFree : Nat := 0
def ssAcquiring : Nat := 1
def ssLocked : Nat := 2
def ssHoldover : Nat := 3

def State.selState (s : State) (t : Nat) : Nat := s.rd (pageRefsel t) R.REFSEL.REFSEL_STAT_STATE

/-- Sets the selector's state; a second in which LOCKED is left does not count for the estimate (R109, R110). -/
def State.setSel (s : State) (t x : Nat) : State :=
  let s := s.wr (pageRefsel t) R.REFSEL.REFSEL_STAT_STATE x
  if x = ssLocked then s else s.onTcu t (fun u => { u with secLocked := false, within := none })

/-- The frequency held while nothing is selected: the estimate in HOLDOVER, else the servo's integrator (R109). -/
def State.heldRate (s : State) (t : Nat) : Int := if s.selState t = ssHoldover then (s.tcu t).est else (s.tcu t).integ

/-- The rate word goes on after the Oscillator lost phase: the host's where RATE_SRC is 1, the held frequency where nothing is selected,
and else the one in force (R15, R65, R109). -/
def State.driveRate (s : State) (t : Nat) : State :=
  if s.flag (pageTime t) R.TIME.RATE_CTL_RATE_SRC then s.useHostRate t
  else if s.selState t = ssHoldover ∨ s.selState t = ssFree then s.steer t (s.heldRate t) 0 else s.setRateOne t (s.rate t)

/-- The followed PTP instance of TCU `t` (R143). -/
def State.followed (s : State) (t : Nat) : Nat := if s.flag (pagePtp t 0) R.PTP.PTP_STAT_FOLLOWED then 0 else 1

/-- Whether a candidate is QUALIFIED (R100, R143). -/
def State.isQual (s : State) (t x : Nat) : Bool :=
  if x < 16 then s.cstate t x == csQual
  else x - 16 == s.followed t && s.rd (pagePtp t (x - 16)) R.PTP.PTP_STAT_STATE == csQual

/-- The rank of a candidate (R102, R143). -/
def State.rankOf (s : State) (t x : Nat) : Nat :=
  if x < 16 then s.crank t x else s.rd (pagePtp t (x - 16)) R.PTP.PTP_SERVO_RANK

/-- The preferred of the QUALIFIED candidates other than `excl`: lowest rank; of that rank a slot before the PTP instance,
the one already selected among slots, and else the lowest number (R102, R143). -/
def State.best (s : State) (t : Nat) (cur excl : Option Nat) : Option Nat :=
  let cs := (List.range 18).filter (fun x => s.isQual t x && excl != some x)
  let key (x : Nat) : Nat := s.rankOf t x * 64 + (if x ≥ 16 then 32 + x else if cur = some x then 0 else 1 + x)
  cs.foldl (fun a x => match a with | none => some x | some y => if key x < key y then some x else some y) none

/-- What the mode selects (R102, R103). -/
def State.choose (s : State) (t : Nat) : Option Nat :=
  match s.rd (pageRefsel t) R.REFSEL.REFSEL_CTL_MODE with
  | 0 => s.best t (s.curSel t) none
  | 1 => let f := s.rd (pageRefsel t) R.REFSEL.REFSEL_CTL_FORCE_SLOT
         if s.isQual t f then some f else none
  | _ => none

/-- The temperature that holdover watches, 1/16 °C (R111). -/
def State.holdTemp (s : State) (t : Nat) : Int :=
  let k := s.rd (pageHold t) R.HOLD.HOLD_CTL_TSENS
  if k = 7 then s.rdS (pageHold t) R.HOLD.HOLD_TEMP_HOST else s.sensor k

/-- The estimate is shown in `HOLD_EST` (R110). -/
def State.setEst (s : State) (t : Nat) (e : Int) : State :=
  (s.wrWide (pageHold t) R.HOLD.HOLD_EST_HI R.HOLD.HOLD_EST_LO (ofInt 40 e)).onTcu t (fun u => { u with est := e })

/-- A remainder that is no longer slewed is dropped: every one, or all but a TIME_STEP's (R109). -/
def State.dropRem (s : State) (t : Nat) (all : Bool) : State :=
  let u := s.tcu t
  if ¬ u.slewing ∨ (u.hostRem ∧ ¬ all) then s
  else (s.onTcu t (fun u => { u with rem := 0, slewing := false, hostRem := false })).showRem t

/-- Holdover is entered: the rate word takes the estimate, or keeps its value from FREE_RUN, no remainder is slewed but a
TIME_STEP's, the timer starts and HOLD_ENTER is raised (R109–R111). -/
def State.enterHoldover (s : State) (t : Nat) : State :=
  let p := pageHold t
  let e := if s.selState t = ssFree then s.rate t else (s.tcu t).est
  let s := (s.setEst t e).steer t e 0
  let s := (s.onTcu t (fun u => { u with integ := e, tSum := 0, dphi := [] })).dropRem t false
  let s := ((s.wr p R.HOLD.HOLD_STAT_ACTIVE 1).wr p R.HOLD.HOLD_ELAPSED 0).wr p R.HOLD.HOLD_PRED 0
  let s := (s.wrS p R.HOLD.HOLD_T_ENTRY (s.holdTemp t)).setSel t ssHoldover
  (s.raise p 0).raiseIf (s.flag p R.HOLD.HOLD_STAT_EST_SHORT) p 3

/-- Holdover is left: the timer stops, OOS clears, HOLD_EXIT is raised and nothing is stepped (R109, R111). -/
def State.exitHoldover (s : State) (t : Nat) : State :=
  let p := pageHold t
  ((s.wr p R.HOLD.HOLD_STAT_ACTIVE 0).wr p R.HOLD.HOLD_STAT_OOS 0).raise p 1

/-- Shows what is selected (R102, R143). -/
def State.showSel (s : State) (t : Nat) (x : Option Nat) : State :=
  let p := pageRefsel t
  let slot := match x with | some k => decide (k < 16) | none => false
  let s := s.wr p R.REFSEL.REFSEL_STAT_SEL_VALID (b2n slot)
  let s := if slot then s.wr p R.REFSEL.REFSEL_STAT_SEL (x.getD 0) else s
  let ptp := match x with | some k => if k ≥ 16 then some (k - 16) else none | none => none
  let s := s.onTcu t (fun u => { u with ptpSel := ptp })
  s.each 2 (fun i a => a.wr (pagePtp t i) R.PTP.PTP_STAT_SELECTED (b2n (ptp == some i)))

/-- A TIME_DOMAIN_SELECT whose slew a further change of selection interrupts completes with RESULT0 = 3 (R145). -/
def State.domainSelectEnds (s : State) (r : Nat) : State :=
  match s.findOp 0x43 with
  | some k => s.finish k stOk 0 r 0
  | none => s

/-- Shows the next candidate in selection order: by the rule of the selected one with that left out (R102). A PTP instance that comes
next is no slot: NEXT keeps its value and NEXT_VALID reads 0. Log 89 (DESIGN CHOICE; unsafe). -/
def State.showNext (s : State) (t : Nat) (new : Option Nat) : State :=
  let p := pageRefsel t
  match s.best t none new with
  | some x => if x < 16 then (s.wr p R.REFSEL.REFSEL_STAT_NEXT_VALID 1).wr p R.REFSEL.REFSEL_STAT_NEXT x
    else s.wr p R.REFSEL.REFSEL_STAT_NEXT_VALID 0
  | none => s.wr p R.REFSEL.REFSEL_STAT_NEXT_VALID 0

/-- The selector re-evaluates its selected and next candidates (R102, R103, R109). -/
def State.reselectOne (s : State) (t : Nat) : State :=
  let p := pageRefsel t
  let cur := s.curSel t
  let new := s.choose t
  let s := s.showNext t new
  let st := s.selState t
  let forced := s.rd p R.REFSEL.REFSEL_CTL_MODE != 0
  if new = cur then
    (if new = none ∧ forced ∧ st ≠ ssHoldover then s.enterHoldover t else s)
  else
    let go := match cur with | some k => decide (k < 16) && s.cclass t k == 1 | none => false
    let s := (((s.showSel t new).raise p 0).onTcu t (fun u => { u with dphi := [] })).selChanged t go
    let s := s.domainSelectEnds 3
    match new with
    | some _ =>
      let s := if st = ssHoldover then s.exitHoldover t
        else if st = ssFree then s.onTcu t (fun u => { u with integ := s.rate t })
        else s.steer t (s.tcu t).integ 0
      (s.onTcu t (fun u => { u with first := true })).setSel t ssAcquiring
    | none =>
      if forced ∨ (s.tcu t).wasLocked then s.enterHoldover t
      else ((s.steer t (s.tcu t).integ 0).dropRem t true).setSel t ssFree

/-- TCU `t` decides for itself: the mirror channel runs from it, or no token is held; any other TCU adopts the mirrored state
(R113, R155). -/
def State.decides (s : State) (t : Nat) : Bool := !(s.tokenHeld && s.lead != t)

/-- The other TCU adopts the selection state over the mirror channel: a STANDBY or CALIBRATING one, and, until the switch epoch
reverses the channel, the new active of a move by command or revert (R113, R148, R151, R155). -/
def State.mirrorSel (s : State) (t : Nat) : State :=
  let o := 1 - t
  if s.tokenHeld ∧ s.lead = t ∧ (s.mirrored o ∨ (s.active = o ∧ s.tcuState t = tsStandby)) then s.mirrorAll t o else s

/-- The selector of TCU `t` re-evaluates, and its standby follows. -/
def State.reselect (s : State) (t : Nat) : State := if s.decides t then (s.reselectOne t).mirrorSel t else s

/-! ### Candidate states (R100, R101) -/

/-- Shows the state and the QUALIFIED bit of a slot. -/
def State.setCand (s : State) (t k x : Nat) : State :=
  let p := pageRefsel t
  let q := s.rd p R.REFSEL.REFSEL_STAT_QUAL
  let q := if x = csQual then q ||| 2 ^ k else q - bits q k 1 * 2 ^ k
  (s.wrI p R.REFSEL.CAND_STAT_STATE k x).wr p R.REFSEL.REFSEL_STAT_QUAL q

/-- CAND_CHANGE (R100). -/
def State.candChange (s : State) (t : Nat) : State := s.raise (pageRefsel t) 1

/-- A pair's disagreement ends: it is forgotten, and DISAGREE clears when none is left (R104). -/
def State.agree (s : State) (t i j : Nat) : State :=
  let s := s.onTcu t (fun u => { u with dis := put 0 u.dis (16 * i + j) 0, disSeen := u.disSeen.erase (16 * i + j) })
  s.wr (pageRefsel t) R.REFSEL.REFSEL_STAT_DISAGREE (b2n ((s.tcu t).disSeen != []))

/-- A slot that leaves QUALIFIED ends every disagreement it is part of (R104). -/
def State.agreeAll (s : State) (t k : Nat) : State :=
  s.each 16 (fun j a => if j < k then a.agree t j k else if k < j then a.agree t k j else a)

/-- A candidate is disqualified: FAILED with its reason and CAND_CHANGE, and the selector re-evaluates (R100, R102). -/
def State.disqualify (s : State) (t k reason : Nat) : State :=
  let st := s.cstate t k
  if ¬ (st = csSoaking ∨ st = csWait ∨ st = csQual) then s else
  let s := (s.setCand t k csFailed).wrI (pageRefsel t) R.REFSEL.CAND_STAT_REASON k reason
  let s := (s.wrI (pageRefsel t) R.REFSEL.CAND_STAT_TIMER k 0).candChange t
  (s.agreeAll t k).reselect t

/-- The candidates of a SyncE selector whose lane no longer serves it fail at once (R95). -/
def State.synceCands (s : State) : State :=
  s.both (fun t a => if ¬ a.decides t then a else a.each 16 (fun k a =>
    if (a.csrc t k = 0x18 ∨ a.csrc t k = 0x19) ∧ ¬ a.srcAvail t (a.csrc t k) then
      (a.onCand t k (fun c => { c with good := false })).disqualify t k 6 else a))

/-- Starts both soaks of a slot (R100). -/
def State.startSoak (s : State) (t k : Nat) (noWtr : Bool) : State :=
  let s := (s.setCand t k csSoaking).onCand t k (fun c => { c with fGood := 0, pGood := 0, noWtr := noWtr })
  s.wrI (pageRefsel t) R.REFSEL.CAND_STAT_TIMER k (max (s.cand t k).fSoak (s.cand t k).pSoak)

/-- RANK, the soaks, WTR and the monitors' limits of a slot take effect, as they do at each evaluation (R101). -/
def State.takeParams (s : State) (t k : Nat) : State :=
  let p := pageRefsel t
  s.onCand t k (fun c => { c with rank := s.rdI p R.REFSEL.CAND_CFG_RANK k, fSoak := s.rdI p R.REFSEL.CAND_SOAK_FSOAK k,
                                  pSoak := s.rdI p R.REFSEL.CAND_SOAK_PSOAK k, wtr := s.rdI p R.REFSEL.CAND_WTR k
                                  fwin := s.rdI p R.REFSEL.CAND_FWIN k, plim := s.rdI p R.REFSEL.CAND_PLIM k })

/-- The monitors of a slot start afresh: it has had no edge since this instant (R99). -/
def State.freshEdges (s : State) (t k : Nat) : State :=
  s.onCand t k (fun c => { c with stamps := [], since := (s.tcu t).cyc, lost := false, good := false })

/-- A change under R101 sends a candidate that is not DISABLED to SOAKING without a wait-to-restore; it counts as a
disqualification for the selection. -/
def State.restartCand (s : State) (t k : Nat) : State :=
  let s := s.freshEdges t k
  if s.cstate t k = csDisabled ∨ ¬ s.decides t then s else
  let was := s.cstate t k == csQual
  let s := s.startSoak t k true
  if was then ((s.candChange t).agreeAll t k).reselect t else s

/-- A candidate becomes QUALIFIED (R100). -/
def State.qualify (s : State) (t k : Nat) : State :=
  let s := (s.setCand t k csQual).onCand t k (fun c => { c with wasQual := true, noWtr := false })
  ((s.wrI (pageRefsel t) R.REFSEL.CAND_STAT_TIMER k 0).candChange t).reselect t

/-- A slot's wait-to-restore has reached 0 with monitors good (R100). -/
def State.wtrDone (s : State) (t k : Nat) : State :=
  if s.cstate t k = csWait ∧ s.rdI (pageRefsel t) R.REFSEL.CAND_STAT_TIMER k = 0 then s.qualify t k else s

/-- Both soaks of a slot are met: QUALIFIED at once, or the wait-to-restore starts, which passes in the same second when
it is 0 (R100, R101). -/
def State.soakDone (s : State) (t k : Nat) : State :=
  let c := s.cand t k
  if s.cstate t k ≠ csSoaking ∨ ¬ c.good ∨ c.fGood < c.fSoak ∨ c.pGood < c.pSoak then s
  else if ¬ c.wasQual ∨ c.noWtr then s.qualify t k
  else (((s.setCand t k csWait).wrI (pageRefsel t) R.REFSEL.CAND_STAT_TIMER k c.wtr).wtrDone t k).mirrorSel t

/-! ### The monitors (R96–R99) -/

/-- The nominal frequency of a source in Hz, as a fraction (R94). A REF whose `CAND_FREQ` is 0 counts as 1 Hz, and
one above the greatest is taken as it is. Log 89 (DESIGN CHOICE; unsafe). Log 125 (DESIGN CHOICE; unsafe). -/
def State.candFreq (s : State) (t k : Nat) : Nat × Nat :=
  let q := srcPeriod (s.csrc t k) (s.rdI (pageRefsel t) R.REFSEL.CAND_FREQ k)
  (1000000000000 * q.2, q.1)

/-- The smallest integer that brings a slot's edges to 1 MHz or less (R96). -/
def State.candDivisor (s : State) (t k : Nat) : Nat :=
  let f := s.candFreq t k
  max 1 ((f.1 + f.2 * 1000000 - 1) / (f.2 * 1000000))

/-- Two expected periods of a slot's divided signal, in ns, rounded up: 2 s for a marker of seconds (R99). -/
def State.candLimit (s : State) (t k : Nat) : Nat :=
  let f := s.candFreq t k
  if s.cclass t k = 1 then 2000000000 else (2000000000 * f.2 * s.candDivisor t k + f.1 - 1) / f.1

/-- Cycles from one count to a later one; the count wraps (R60). -/
def cycSince (now x : Nat) : Nat := (now + 2 ^ 48 - x % 2 ^ 48) % 2 ^ 48

/-- The least-squares slope of values one second apart, newest first: numerator and positive denominator. -/
def slope (l : List Int) : Int × Int :=
  let y := l.reverse
  let n : Int := y.length
  let sx : Int := n * (n - 1) / 2
  let sxx : Int := (n - 1) * n * (2 * n - 1) / 6
  let sy := y.sum
  let sxy := (y.zipIdx.map (fun e => (e.2 : Int) * e.1)).sum
  (n * sxy - sx * sy, n * sxx - sx * sx)

/-- The residual of the newest of some timestamps, newest first, against the straight line fitted to all of them: its numerator,
positive denominator, in ns (R98). -/
def lineResidual (l : List Nat) : Nat × Nat :=
  let n : Int := l.length
  let y : List Int := l.map (fun x => -(cycSince (l.headD 0) x : Int))
  let a := slope y
  let sx : Int := n * (n - 1) / 2
  let r := y.sum * a.2 + a.1 * (n * (n - 1) - sx)
  if l.length < 2 then (0, 1) else (r.natAbs, (n * a.2).natAbs)

/-- The newest edge of a slot is a phase hit (R98). -/
def State.phaseHit (s : State) (t k : Nat) : Bool :=
  let r := lineResidual (s.cand t k).stamps
  decide (r.1 > (s.cand t k).plim * r.2)

/-- The seconds value of `REFSEL_TOD_SEC` advances at an edge of the selected phase-class candidate that is not a phase hit (R108). -/
def State.todAdvance (s : State) (t k : Nat) : State :=
  let p := pageRefsel t
  if s.curSel t = some k ∧ s.cclass t k = 1 ∧ ¬ s.phaseHit t k then
    s.wrWide p R.REFSEL.REFSEL_TOD_SEC_HI R.REFSEL.REFSEL_TOD_SEC_LO
      ((s.rdWide p R.REFSEL.REFSEL_TOD_SEC_HI R.REFSEL.REFSEL_TOD_SEC_LO + 1) % 2 ^ 48)
  else s

/-- The monitors of a slot timestamp an edge of its divided signal, once, and keep those of the last 16 s (R96, R98). -/
def State.candEdge (s : State) (t k x : Nat) : State :=
  if (s.cand t k).stamps.contains x then s else
  (s.onCand t k (fun c => { c with lost := false, stamps := x :: c.stamps.filter (fun y => decide (cycSince x y < 16000000000)) })).todAdvance t k

/-- An edge at a TDC channel, sampled on the present cycle (R63, R76, R78); one that a reference-phase channel captures is an edge of the
slot that it measures (R96), and no edge comes to a trunk-phase channel but through the trunk block (R68, R196). -/
def execTdcCapture (t c raw : Nat) (rising marker : Bool) (s : State) : Host.Outcome State Fault Refusal :=
  let t := t % 2
  let c := c % 24
  done (
    if c < 12 then s else
    let k := s.channelSlot t c
    let s := s.tdcEdge t c (raw % 512) rising (marker && decide (c < 12))
    match k with
    | some k => if s.candDivisor t k = 1 then s.candEdge t k (s.tcu t).cyc else s
    | none => s)

/-- What TCU `t` measured of trunk `n` (R209). -/
def State.ntTime (s : State) (t n : Nat) : NtTime := look {} s.ntTimes (12 * t + n)

/-- The time-class slot's trunk has formed no θ yet: its soak does not advance (R208). -/
def State.noTheta (s : State) (t k : Nat) : Bool :=
  s.cclass t k == 2 && (s.ntTime t (s.csrc t k - 8)).theta.isNone

/-- One slot's evaluation at the end of a second: the monitors' results in every TCU, and the slot's state in the one that decides
(R95, R97, R98, R100, R113). A trunk clock whose loss the trunk block has declared keeps REASON 1 while its trunk is not up (R218).
A frequency out of window names the REASON before a phase hit of the same second.
Log 43 (DEDUCED; unsafe). Log 125 (DESIGN CHOICE; unsafe). -/
def State.candEval (s : State) (t : Nat) (m : CandMeas) : State :=
  let p := pageRefsel t
  let k := m.slot % 16
  let s := m.edges.foldl (fun a x => a.candEdge t k (x % 2 ^ 48)) (s.wrI p R.REFSEL.CAND_FOFS k (satInt 32 m.fofs))
  let win := decide (m.fofs.natAbs ≤ (s.cand t k).fwin)
  let hit := s.phaseHit t k
  let s := s.onCand t k (fun c => { c with good := win && !hit && s.srcAvail t (s.csrc t k) })
  if s.cstate t k = csDisabled ∨ ¬ s.decides t then s
  else if ¬ s.srcAvail t (s.csrc t k) then
    (if s.cstate t k ≠ csFailed then s.disqualify t k 6
     else if s.cclass t k = 2 ∧ s.rdI p R.REFSEL.CAND_STAT_REASON k = 1 then s
     else s.wrI p R.REFSEL.CAND_STAT_REASON k 6)
  else
    if ¬ win then s.disqualify t k 2
    else if hit then s.disqualify t k 3
    else if (s.cand t k).lost then s
    else if s.cstate t k = csFailed then s.startSoak t k false
    else if s.cstate t k = csSoaking ∧ s.noTheta t k then s
    else if s.cstate t k = csSoaking then
      let s := s.onCand t k (fun c => { c with fGood := c.fGood + 1, pGood := c.pGood + 1 })
      let c := s.cand t k
      s.wrI p R.REFSEL.CAND_STAT_TIMER k (max (c.fSoak - c.fGood) (c.pSoak - c.pGood))
    else if s.cstate t k = csWait then s.wrI p R.REFSEL.CAND_STAT_TIMER k (s.rdI p R.REFSEL.CAND_STAT_TIMER k - 1)
    else s

/-! ### The followed PTP domain as a candidate (R143) -/

/-- The monitors of a PTP instance are good (R143). -/
def State.ptpGood (s : State) (t i : Nat) : Bool :=
  !s.flag (pagePtp t i) R.PTP.PTP_TRK_CTL_MODE && s.flag (pagePtp t i) R.PTP.PTP_SERVO_SLAVE &&
  (match (look {} (s.tcu t).trks i).lastAt with | some a => decide ((s.tcu t).now ≤ a + 2000000000) | none => false)

/-- Changes the state of a PTP instance as a candidate: QUAL_CHANGE is raised, and selection follows; TIMER shows what is left of
the timer that the state runs, and 0 where it runs none (R143). -/
def State.setPtpState (s : State) (t i x reason timer : Nat) : State :=
  let p := pagePtp t i
  if s.rd p R.PTP.PTP_STAT_STATE = x then s else
  let s := ((s.wr p R.PTP.PTP_STAT_STATE x).wr p R.PTP.PTP_STAT_TIMER timer).raise p 2
  let s := if x = csFailed then s.wr p R.PTP.PTP_STAT_REASON reason else s
  s.reselect t

/-- Changes the tracker of a PTP instance. -/
def State.onTrk (s : State) (t i : Nat) (f : Trk → Trk) : State := s.onTcu t (fun u => { u with trks := upd {} u.trks i f })

/-- A PTP instance enters SOAKING and its soak starts from zero (R100, R143). -/
def State.ptpSoak (s : State) (t i : Nat) : State :=
  (s.onTrk t i (fun k => { k with good := 0 })).setPtpState t i csSoaking 0 (s.rd (pagePtp t i) R.PTP.PTP_QUAL_SOAK)

/-- `PTP_CTL.EN` was written: the instance starts to soak, or is DISABLED, at once (R100, R143). -/
def State.ptpEnWritten (s : State) (t i : Nat) : State :=
  if ¬ s.decides t then s
  else if ¬ s.flag (pagePtp t i) R.PTP.PTP_CTL_EN then s.setPtpState t i csDisabled 0 0
  else if s.rd (pagePtp t i) R.PTP.PTP_STAT_STATE = csDisabled then s.ptpSoak t i else s

/-- A PTP instance's state at the end of a second: it soaks, waits and qualifies as a candidate does (R100, R143).
Log 43 (DEDUCED; unsafe). -/
def State.ptpEval (s : State) (t i : Nat) : State :=
  let p := pagePtp t i
  let k := look {} (s.tcu t).trks i
  let st := s.rd p R.PTP.PTP_STAT_STATE
  if ¬ s.decides t ∨ ¬ s.flag p R.PTP.PTP_CTL_EN then s.ptpEnWritten t i
  else if st = csDisabled then s.ptpSoak t i
  else if ¬ s.ptpGood t i then s.setPtpState t i csFailed 1 0
  else if st = csFailed then s.ptpSoak t i
  else if st = csSoaking then
    let s := s.onTrk t i (fun k => { k with good := k.good + 1 })
    let soak := s.rd p R.PTP.PTP_QUAL_SOAK
    let s := s.wr p R.PTP.PTP_STAT_TIMER (soak - (k.good + 1))
    if k.good + 1 < soak then s
    else if ¬ k.wasQual ∨ s.rd p R.PTP.PTP_QUAL_WTR = 0 then (s.onTrk t i (fun k => { k with wasQual := true })).setPtpState t i csQual 0 0
    else s.setPtpState t i csWait 0 (s.rd p R.PTP.PTP_QUAL_WTR)
  else if st = csWait then
    let w := s.rd p R.PTP.PTP_STAT_TIMER - 1
    let s := s.wr p R.PTP.PTP_STAT_TIMER w
    if w = 0 then s.setPtpState t i csQual 0 0 else s
  else s

/-! ### The estimate and the drift guard (R105, R110) -/

/-- The window of the estimate: the HOLD_AVG seconds that end HOLD_DELAY seconds before the present, counting only
seconds in LOCKED (R110). Log 43 (DEDUCED; unsafe). -/
def State.estWindow (s : State) (t : Nat) : List HistSec :=
  ((((s.tcu t).hist.drop (s.rd (pageHold t) R.HOLD.HOLD_DELAY)).take (s.rd (pageHold t) R.HOLD.HOLD_AVG))).filter (fun h => h.locked)

/-- The mean of the counted seconds, each the time-weighted mean of its rate words, rounded to even (R110). -/
def meanRate (w : List HistSec) : Int :=
  let a := w.foldl (fun (a : Int × Int) h => if h.dur = a.2 then (a.1 + h.acc, a.2) else (a.1 * h.dur + h.acc * a.2, a.2 * h.dur)) (0, 1)
  divEven a.1 (a.2 * w.length)

/-- The running second ends: its time-weighted rate word joins the history, and the estimate is recomputed, rounded to
even; in holdover the estimate is held (R109, R110). -/
def State.estUpdate (s : State) (t : Nat) : State :=
  let u := s.tcu t
  let r := s.rate t
  let dur : Int := ((u.now - u.secAt : Nat) : Int)
  let h : HistSec := if dur = 0 then ⟨u.secLocked, r, 1⟩ else ⟨u.secLocked, u.rateAcc + r * ((u.now - u.rateAt : Nat) : Int), dur⟩
  let s := s.onTcu t (fun u => { u with
    hist := (h :: u.hist).take 103600, rateAcc := 0, rateAt := u.now, secAt := u.now, secLocked := s.selState t == ssLocked })
  if s.selState t = ssHoldover then s else
  let w := s.estWindow t
  let n := w.length
  let e := if n = 0 then r else meanRate w
  (s.setEst t e).wr (pageHold t) R.HOLD.HOLD_STAT_EST_SHORT (b2n (n < s.rd (pageHold t) R.HOLD.HOLD_AVG))

/-- The selected candidate is suspect: the slope of Δφ over WIN seconds exceeds SLOPE and both halves have its sign (R105). -/
def State.driftSuspect (s : State) (t : Nat) : Bool :=
  let win := s.rd (pageRefsel t) R.REFSEL.REFSEL_DRIFT_WIN
  let d := (s.tcu t).dphi.take win
  let a := slope d
  let b := slope (d.take (win / 2))
  let c := slope (d.drop (win / 2))
  decide (d.length = win) &&
  decide ((a.1.natAbs : Int) * 1000 > s.rd (pageRefsel t) R.REFSEL.REFSEL_DRIFT_SLOPE * 2 ^ 48 * a.2) &&
  (decide (b.1 > 0 ∧ c.1 > 0) || decide (b.1 < 0 ∧ c.1 < 0))

/-- The drift guard's second: Δφ grows by the difference between the rate word and the estimate; a suspect candidate is
disqualified with the integrator loaded with the estimate and frozen (R105). A second in which the guard is off or the estimate short leaves
the sum as it stands and does not count. Log 125 (DESIGN CHOICE; unsafe). -/
def State.driftGuard (s : State) (t : Nat) : State :=
  match s.curSel t, (s.tcu t).hist with
  | some x, h :: _ =>
    if ¬ s.flag (pageRefsel t) R.REFSEL.REFSEL_CTL_DRIFT_EN ∨ s.flag (pageHold t) R.HOLD.HOLD_STAT_EST_SHORT then s else
    let u := s.tcu t
    let s := s.onTcu t (fun u => { u with dphi := ((u.dphi.headD 0 + h.acc - u.est * h.dur) :: u.dphi).take 3600 })
    if ¬ s.driftSuspect t then s else
    let s := (s.steer t u.est 0).onTcu t (fun v => { v with integ := u.est, frozen := true })
    let s := s.raise (pageRefsel t) 3
    if x < 16 then s.disqualify t x 5 else s.setPtpState t (x - 16) csFailed 5 0
  | _, _ => s

/-- A pair of equal rank disagrees this second (R104). -/
def State.pairDiffers (s : State) (t i j : Nat) : Bool :=
  s.isQual t i && s.isQual t j && s.crank t i == s.crank t j &&
  decide ((s.cfofs t i - s.cfofs t j).natAbs > s.rd (pageRefsel t) R.REFSEL.REFSEL_DISAGREE_LIM)

/-- Counts the seconds for which each pair has disagreed; a pair that agrees again is forgotten (R104). -/
def State.disagreeCount (s : State) (t : Nat) : State :=
  s.each 16 (fun i a => a.each 16 (fun j b =>
    if j ≤ i then b
    else if b.pairDiffers t i j then b.onTcu t (fun u => { u with dis := upd 0 u.dis (16 * i + j) (fun n => n + 1) })
    else if look 0 (b.tcu t).dis (16 * i + j) = 0 ∧ ¬ (b.tcu t).disSeen.contains (16 * i + j) then b else b.agree t i j))

/-- Each second the monitors evaluate the candidates and the PTP instances, and the selector, estimate and drift guard
follow (R97–R105, R108, R110, R143). -/
def execCandSecondEval (t : Nat) (ms : List CandMeas) (s : State) : Host.Outcome State Fault Refusal :=
  let t := t % 2
  done (
    let s := s.each 16 (fun k a => a.takeParams t k)
    let s := ms.foldl (fun a m => a.candEval t m) s
    if ¬ s.decides t then s else
    let s := s.each 2 (fun i a => a.ptpEval t i)
    let s := (s.estUpdate t).driftGuard t
    (s.disagreeCount t).reselect t)

/-- The cycles that are left until a slot that has no further edge is lost (R99). -/
def State.lossIn (s : State) (t k : Nat) : Nat :=
  let c := s.cand t k
  s.candLimit t k - cycSince (s.tcu t).cyc (c.stamps.headD c.since)

/-- No edge within two expected periods: time goes on to their end, and the candidate is lost (R99). Of a trunk clock the trunk block
declares loss. -/
def execCandLoss (t k : Nat) (s : State) : Host.Outcome State Fault Refusal :=
  let t := t % 2
  let k := k % 16
  done (
    if s.cclass t k = 2 ∨ s.cstate t k = csDisabled then s else
    let s := (s.advance (s.lossIn t k)).onCand t k (fun c => { c with lost := true, good := false })
    if s.decides t then s.disqualify t k 1 else s)

def execCandSoakComplete (t k : Nat) (s : State) : Host.Outcome State Fault Refusal :=
  done (if s.decides (t % 2) then s.soakDone (t % 2) (k % 16) else s)

def execCandWtrComplete (t k : Nat) (s : State) : Host.Outcome State Fault Refusal :=
  done (if s.decides (t % 2) then s.wtrDone (t % 2) (k % 16) else s)

/-- The outlier of a pair by a judge's offset: the one further from it, and on equal distance the higher slot (R104). -/
def State.outlier (s : State) (t i j g : Nat) : Nat :=
  if (s.cfofs t i - s.cfofs t g).natAbs > (s.cfofs t j - s.cfofs t g).natAbs then i else j

/-- A pair that has disagreed for three seconds is resolved (R104). -/
def execDisagreementDetected (t a b : Nat) (s : State) : Host.Outcome State Fault Refusal :=
  let t := t % 2
  let i := min (a % 16) (b % 16)
  let j := max (a % 16) (b % 16)
  let p := pageRefsel t
  let inWin (k : Nat) : Bool := decide ((s.cfofs t k).natAbs ≤ (s.cand t k).fwin)
  let judge := ((List.range 16).filter (fun g => g != i && g != j && s.isQual t g)).foldl
    (fun (x : Option Nat) g => match x with | none => some g | some y => if s.crank t g < s.crank t y then some g else some y) none
  done (
    if i = j ∨ ¬ s.decides t ∨ look 0 (s.tcu t).dis (16 * i + j) < 3 ∨ ¬ s.isQual t i ∨ ¬ s.isQual t j then s
    else if inWin i ≠ inWin j then s.disqualify t (if inWin i then j else i) 2
    else match judge with
    | some g => s.disqualify t (s.outlier t i j g) 4
    | none =>
      let seen := (s.tcu t).disSeen.contains (16 * i + j)
      let s := (s.wr p R.REFSEL.REFSEL_STAT_DISAGREE 1).raiseIf (!seen) p 2
      (s.onTcu t (fun u => { u with disSeen := if seen then u.disSeen else (16 * i + j) :: u.disSeen })).reselect t)

/-! ### The servo (R106–R108) -/

/-- The tracker of a PTP instance holds time: it is in track mode with a sample loaded (R108, R143). -/
def State.holdsTime (s : State) (t i : Nat) : Bool :=
  (look {} (s.tcu t).trks i).loaded && !s.flag (pagePtp t i) R.PTP.PTP_TRK_CTL_MODE

/-- The whole seconds of a phase-class candidate are known: from a tracked PTP domain that holds time, the followed one before the
other, else from the host's `REFSEL_TOD_SEC` (R108). The seconds value of the boundary last marked. Log 43 (DEDUCED; unsafe). -/
def State.markedSec (s : State) (t : Nat) : Option Int :=
  let i := if s.holdsTime t (s.followed t) then s.followed t else 1 - s.followed t
  if s.holdsTime t i then
    some ((((s.tcu t).now : Int) * 2 ^ 48 + (look {} (s.tcu t).trks i).ofs + 500000000 * 2 ^ 48) / (1000000000 * 2 ^ 48))
  else if (s.tcu t).todSet then some ((s.rdWide (pageRefsel t) R.REFSEL.REFSEL_TOD_SEC_HI R.REFSEL.REFSEL_TOD_SEC_LO : Int) - 1)
  else none

/-- The offset of the selected candidate against the counter, ps, and whether its seconds are known, from the measured
phase `x`: a slot's is corrected by `CAND_DELAY` and, in the phase class, completed by the seconds; a trunk's is its θ, the
counter minus the partner's time, with the sign turned (R208); a PTP instance's is its DOM_OFS (R106–R108, R143). -/
def State.selOffset (s : State) (t sel : Nat) (x : Int) : Int × Bool :=
  if sel ≥ 16 then (divEven ((look {} (s.tcu t).trks (sel - 16)).ofs * 1000) (2 ^ 48), true)
  else
    let y := x + toInt 32 (s.rdI (pageRefsel t) R.REFSEL.CAND_DELAY sel)
    match s.cclass t sel with
    | 0 => (y, false)
    | 1 => match s.markedSec t with
      | some n => (y + (n - (((s.tcu t).now : Int) + 500000000) / 1000000000) * 1000000000000, true)
      | none => (y, false)
    | _ => match (s.ntTime t (s.csrc t sel - 8)).theta with
      | some th => (toInt 32 (s.rdI (pageRefsel t) R.REFSEL.CAND_DELAY sel) - divEven (th * 1000) 54067200, true)
      | none => (y, true)

/-- The slew limit as a rate word (R106). -/
def State.slewLimit (s : State) (t : Nat) : Int := ((s.rd (pageRefsel t) R.REFSEL.REFSEL_SLEW * 2 ^ 48 / 1000000000 : Nat) : Int)

/-- The rate word that the loop filter gives for a phase error: the integrator, moved unless it is frozen, and a slew
within `REFSEL_SLEW`; both the filter's and free values (R106). -/
def State.servoRate (s : State) (t : Nat) (err : Int) : State :=
  let u := s.tcu t
  let lim := s.slewLimit t
  let g := if u.frozen then u.integ else u.integ + Config.servoInteg err s.free
  let w := Config.servoSlew err s.free
  let w := if w > lim then lim else if w < -lim then -lim else w
  if s.flag (pageTime t) R.TIME.RATE_CTL_RATE_SRC then s.bump
  else (s.bump.onTcu t (fun u => { u with integ := g })).steer t g w

/-- The remainder of a step is slewed on top of the held rate word while nothing is selected (R62, R109). -/
def State.servoRemainder (s : State) (t : Nat) : State :=
  let lim := s.slewLimit t
  let w := Config.servoSlew (divEven ((s.tcu t).rem * 1000) (2 ^ 48)) s.free
  let w := if w > lim then lim else if w < -lim then -lim else w
  if ¬ (s.tcu t).slewing then s else s.bump.steer t (s.heldRate t) w

/-- The phase error is, or is not, within ±`REFSEL_LOCK.THR`; since when is kept (R106). -/
def State.noteError (s : State) (t : Nat) (err : Int) : State :=
  let ok := decide (err.natAbs ≤ s.rd (pageRefsel t) R.REFSEL.REFSEL_LOCK_THR)
  s.onTcu t (fun u => { u with within := if ok then some (u.within.getD s.up) else none })

/-- The servo evaluates the selected candidate's offset, `x` ps by its phase measurement: an acquisition step is
requested when time is to be acquired and the seconds are known, OFFSET_LARGE and ACQ_NO_TOD are raised, and a new rate
word is written (R106–R108). -/
def State.servo (s : State) (t : Nat) (x : Int) : State :=
  let p := pageRefsel t
  match s.curSel t with
  | none => s.servoRemainder t
  | some sel =>
    let o := s.selOffset t sel x
    let freq := decide (sel < 16) && s.cclass t sel == 0
    let u := s.tcu t
    let s := if freq ∧ u.first then s.onTcu t (fun u => { u with zero := o.1 }) else s
    let err := if freq then o.1 - (s.tcu t).zero else o.1
    let s := s.wrSat p R.REFSEL.REFSEL_OFFSET o.1
    let acquire := !s.timeValid && !freq && u.step.isNone && !u.acquired && s.phase != .oscLost
    let s := s.raiseIf (u.first && !freq && decide (o.1.natAbs > s.rd p R.REFSEL.REFSEL_OFS_ALARM * 1000)) p 5
    let s := s.raiseIf (acquire && !o.2 && !u.noTod) p 6
    let s := s.onTcu t (fun u => { u with first := false, noTod := u.noTod || (acquire && !o.2) })
    let s := s.noteError t err
    if acquire ∧ o.2 then
      let q : StepReq := ⟨divEven (o.1 * 65536) 1000, true, false⟩
      (s.onTcu t (fun u => { u with step := some q })).onFollowers (fun v a => a.onTcu v (fun u => { u with step := some q }))
    else s.servoRate t err

/-- The servo's evaluation on a TCU: in one that does not decide it computes from that TCU's own measurements the phase error alone, since
its result is not applied (R106, R149). Log 112 (DEDUCED; unsafe). -/
def execServoUpdate (t : Nat) (x : Int) (s : State) : Host.Outcome State Fault Refusal :=
  let t := t % 2
  done (
    if ¬ (s.tcu t).clk then s
    else if s.decides t then (s.servo t x).mirrorSel t
    else match s.curSel t with
      | some sel => s.wrSat (pageRefsel t) R.REFSEL.REFSEL_OFFSET (s.selOffset t sel x).1
      | none => s)

/-- The phase error of TCU `t` has been within ±`REFSEL_LOCK.THR` for `REFSEL_LOCK.SOAK` ms: LOCKED is raised, the frozen integrator
released, the KL2418 outputs re-phased, and a TIME_DOMAIN_SELECT that waits for it completes with RESULT0 = 2 (R92, R105, R106,
R109, R145). -/
def State.lock (s : State) (t : Nat) : State :=
  let s := (s.setSel t ssLocked).raise (pageRefsel t) 4
  let s := s.onTcu t (fun u => { u with frozen := false, wasLocked := true })
  let s := (s.domainSelectEnds 2).mirrorSel t
  match s.curSel t with
  | some k => if k < 16 then (s.both (fun v a => if v = t ∨ a.follows v then a.klRephase v else a)).bump else s
  | none => s

/-- The servo declares lock: time goes on until the phase error has been within the threshold for the soak (R106). -/
def execLockDeclared (t : Nat) (s : State) : Host.Outcome State Fault Refusal :=
  let t := t % 2
  done (
    if s.selState t ≠ ssAcquiring ∨ ¬ s.decides t then s else
    match (s.tcu t).within with
    | none => s
    | some a => (s.advance (a + s.rd (pageRefsel t) R.REFSEL.REFSEL_LOCK_SOAK * 1000000 - s.up)).lock t)

/-- The remainder of a step has been slewed: time goes on to that instant, and where nothing is selected the rate word returns to the
held frequency (R62, R109). -/
def State.slewEnds (s : State) (t : Nat) : State :=
  let u := s.tcu t
  if ¬ u.slewing ∨ (u.rem ≠ 0 ∧ u.slew * u.rem ≤ 0) then s else
  let n := if u.rem = 0 then 0 else (u.rem.natAbs + u.slew.natAbs - 1) / u.slew.natAbs
  let s := (s.advance n).slewDone t
  let s := s.onFollowers (fun v a => a.slewDone v)
  (if (s.curSel t).isNone then s.steer t (s.heldRate t) 0 else s).mirrorSel t

/-- E(t) in ps, times 2 × 86,400 × 16 (R111). -/
def State.predicted (s : State) (t : Nat) : Nat :=
  let p := pageHold t
  let n := s.rd p R.HOLD.HOLD_ELAPSED
  (s.rd p R.HOLD.HOLD_E0 + s.rd p R.HOLD.HOLD_Y0 * n) * (2 * 86400 * 16) + s.rd p R.HOLD.HOLD_AGING * n * n * 16
    + s.rd p R.HOLD.HOLD_TCOEF * (s.tcu t).tSum * (2 * 86400)

/-- What a predicted error of 1 ns counts as in the scale of `State.predicted` (R111). -/
def holdScale : Nat := 2 * 86400 * 16 * 1000

/-- A second of holdover ends: the predicted error is evaluated and OOS set when it first exceeds the budget, at which the outputs that
`OUT_CTL.QUIET` quiets fall quiet (R111, R120). -/
def State.holdSecond (s : State) (t : Nat) : State :=
  let p := pageHold t
  if s.selState t ≠ ssHoldover then s else
  let dt := (s.holdTemp t - s.rdS p R.HOLD.HOLD_T_ENTRY).natAbs
  let s := (s.inc p R.HOLD.HOLD_ELAPSED).onTcu t (fun u => { u with tSum := u.tSum + dt })
  let e := s.predicted t
  let s := s.wr p R.HOLD.HOLD_PRED (satNat 32 ((e + holdScale - 1) / holdScale))
  if e > s.rd p R.HOLD.HOLD_BUDGET * holdScale ∧ ¬ s.flag p R.HOLD.HOLD_STAT_OOS then
    ((s.wr p R.HOLD.HOLD_STAT_OOS 1).raise p 2).quietOuts (fun v n => s.rd (pageOut v n) R.OUT.OUT_CTL_QUIET == 2) else s

def execHoldoverSecond (t : Nat) (s : State) : Host.Outcome State Fault Refusal :=
  let t := t % 2
  done (if s.decides t then (s.holdSecond t).mirrorSel t else s)

/-- A slot is disabled: its timers stop (R100). -/
def State.candOff (s : State) (t k : Nat) : State :=
  if s.cstate t k = csDisabled then s else
  let was := s.cstate t k == csQual
  let s := (s.setCand t k csDisabled).wrI (pageRefsel t) R.REFSEL.CAND_STAT_TIMER k 0
  if was then ((s.candChange t).agreeAll t k).reselect t else s

/-- What a write of a candidate's registers does; in a TCU that does not decide, to its own monitors (R100, R101, R113). -/
def State.candWritten (old : State) (t k : Nat) (s : State) : State :=
  let p := pageRefsel t
  let chg (f : Fld) : Bool := old.rdI p f k != s.rdI p f k
  let off (a : State) : Bool := a.csrc t k == 0 || a.rdI p R.REFSEL.CAND_CFG_EN k == 0
  let s := if off old ∧ ¬ off s then (s.freshEdges t k).takeParams t k else s
  if ¬ s.decides t then (if chg R.REFSEL.CAND_CFG_SRC ∨ chg R.REFSEL.CAND_CFG_PULSE ∨ chg R.REFSEL.CAND_FREQ then s.freshEdges t k else s)
  else if off s then (s.candOff t k).mirrorSel t
  else if s.cstate t k = csDisabled then (s.startSoak t k false).mirrorSel t
  else (if chg R.REFSEL.CAND_CFG_SRC ∨ chg R.REFSEL.CAND_CFG_PULSE ∨ chg R.REFSEL.CAND_FREQ ∨ chg R.REFSEL.CAND_DELAY then
    (s.restartCand t k).mirrorSel t else s)

/-- What a write of `REFSEL_SYNCE` does: every candidate of a selector whose lane changed returns to SOAKING (R95, R101). -/
def State.synceWritten (old : State) (t : Nat) (s : State) : State :=
  let p := pageRefsel t
  let c0 := old.rd p R.REFSEL.REFSEL_SYNCE_LANE0 != s.rd p R.REFSEL.REFSEL_SYNCE_LANE0
  let c1 := old.rd p R.REFSEL.REFSEL_SYNCE_LANE1 != s.rd p R.REFSEL.REFSEL_SYNCE_LANE1
  (s.each 16 (fun k a => if (c0 ∧ a.csrc t k = 0x18) ∨ (c1 ∧ a.csrc t k = 0x19) then a.restartCand t k else a)).mirrorSel t

/-- TIME_DOMAIN_SELECT (R145). -/
def State.startDomainSelect (k : Cmd) (s : State) : State :=
  let d := k.arg 0
  let t := s.active
  let p := pagePtp t d
  let s := s.fly k
  if s.followed t = d then s.finish k stOk 0 0 0
  else if s.flag p R.PTP.PTP_TRK_CTL_MODE ∨ s.rd p R.PTP.PTP_STAT_STATE ≠ csQual ∨
    (look {} (s.tcu t).trks d).ofs.natAbs > s.rd p R.PTP.PTP_SW_MAX * 2 ^ 48 then s.finishSt k stWrongState
  else
    let s := s.onFollowers (fun v a => (a.wr (pagePtp v d) R.PTP.PTP_STAT_FOLLOWED 1).wr (pagePtp v (1 - d)) R.PTP.PTP_STAT_FOLLOWED 0)
    let others := s.cmds.filter (fun j => j.op == 0x43)
    let s : State := { s with cmds := s.cmds.filter (fun j => j.op != 0x43) }
    let s := s.reselect t
    let s : State := { s with cmds := s.cmds ++ others }
    if s.curSel t = some (16 + d) then s else s.finish k stOk 0 1 0

end Sys2Proof.Machine
end

