-- ==== Sys2Proof/Machine/Ptp.lean ====
section
/-! DEFINITION. Network time: PTP messages, timestamps and corrections, transmit records and the domain trackers (R122–R144). -/

namespace Sys2Proof.Machine

open Sys2Proof

/-! ### Transmission (R129, R131–R136) -/

/-- The steps applied between two step counts, in units of 2⁻¹⁶ ns; none where they differ by more than four (R134).
Log 41 (DEDUCED; unsafe). -/
def State.stepsBetween (s : State) (a b : Nat) : Option Int :=
  let n := (b + 256 - a) % 256
  if n = 0 then some 0
  else if n > 4 then none
  else some (((((s.tcu s.lead).steps.take n).map (fun x => x.part)).sum) * 65536)

/-- The tracker of an instance, as the active TCU holds it. -/
def State.trk (s : State) (i : Nat) : Trk := look {} (s.tcu s.lead).trks i

/-- A difference of counter times in the instance's domain, rounded to the nearest 2⁻¹⁶ ns (R132, R133). -/
def State.inDomain (s : State) (i : Nat) (x : Int) : Int := divNear (x * (2 ^ 48 + (s.trk i).rate)) (2 ^ 48)

/-- A record enters the transmit FIFO of each TCU, or is lost (R129). -/
def State.txRecord (s : State) (i : Nat) (ws : List Nat) : State :=
  s.both (fun t a =>
    if a.pwr (1 + t) ≠ 2 then a else
    let k := 2 * t + i
    let q := look [] a.txts k
    let p := pagePtp t i
    if q.length ≥ 256 then (a.inc p R.PTP.PTP_CNT_TXLOST).raise p 1
    else
      let a : State := { a with txts := put [] a.txts k (q ++ [ws]) }
      (a.wr p R.PTP.PTP_TXTS_LEVEL (q.length + 1)).raise p 0)

/-- A message that is not sent: its copy leaves its queue, and nothing goes out (R134, R136). -/
def State.dropTx (s : State) (p : Nat) : State :=
  match (s.tx p).kind with
  | .copy v c =>
    let s := s.copyLeaves (s.tx p) v c
    (((s.onTx p (fun _ => {})).fenceFrame c.frame).quietNow p).touchPort p
  | _ => s

/-- The correctionField after an addition; what leaves the signed 64-bit range becomes the largest value (R133). -/
def corrField (x : Int) : Nat := if x < -2 ^ 63 ∨ x ≥ 2 ^ 63 then 0x7FFFFFFFFFFFFFFF else ofInt 64 x

/-- The changes of a message, as offsets from its start and octets. -/
abbrev Changes := List (Nat × List Byte)

/-- The flagField octet with twoStepFlag set or cleared. -/
def flagOct (l : List Byte) (m : Msg1588) (two : Bool) : Nat × List Byte :=
  let v := beAt l (m.off + 6) 1
  (6, beOct 1 (v - bits v 1 1 * 2 + b2n two * 2))

/-- The changes to a message that an instance originates, at transmit time `t`; none where the record it answers lies more
than four steps back (R131, R132). A one-step Pdelay_Resp that was submitted without a receive record that holds a timestamp gets no
turnaround.
Log 98 (DESIGN CHOICE; unsafe). -/
def State.originate (s : State) (i : Nat) (t : Int) (r l : List Byte) (m : Msg1588) : Option Changes :=
  let dom := t + (if s.flag (s.ptpPage i) R.PTP.PTP_TRK_CTL_MODE then 0 else (s.trk i).ofs / 2 ^ 32)
  let sec := dom / 65536000000000
  let ns := dom / 65536 % 1000000000
  let stamp := (34, beOct 6 (ofInt 48 sec) ++ beOct 4 ns.toNat)
  let corr (x : Int) := (8, beOct 8 (corrField (m.corr + x)))
  if m.typ = mSync then some [stamp, corr (dom % 65536), flagOct l m false]
  else if m.typ = mDelayReq ∨ m.typ = mPdelayReq then some [stamp, corr (dom % 65536)]
  else if m.typ = mPdelayResp then
    if s.flag (s.ptpPage i) R.PTP.PTP_CTL_AS2020 then some [flagOct l m true]
    else if r = [] ∨ ¬ bitAt (leWord r 8) 31 then some [(34, beOct 10 0), flagOct l m false]
    else
      let w (k : Nat) : Nat := leWord r (4 * k)
      let treq : Int := ((w 0 : Int) * 1000000000 + bits (w 1) 0 30) * 65536 + w 2 % 65536
      match s.stepsBetween (w 3 / 2 ^ 24) s.stepCount with
      | none => none
      | some st =>
        let dt := (t - treq) % (2 ^ 32 * 65536000000000)
        some [(34, beOct 10 0), corr (s.inDomain i (dt - st)), flagOct l m false]
  else some []

/-- What the changes add to the ones'-complement sum of the UDP payload, taken negatively: the value to be added to the
compensation octets (R136). Log 41 (DEDUCED; unsafe). -/
def compensation (l : List Byte) (m : Msg1588) (ch : Changes) : Nat :=
  let old := octets l m.off m.len
  let new := ch.foldl (fun a e => setOct a e.1 e.2) old
  let v := (ocSum old + 65535 - ocSum new % 65535) % 65535
  if m.len % 2 = 0 then v else v % 256 * 256 + v / 256

/-- A UDP datagram over IPv6 carries the two compensation octets after its message (R136). -/
def hasTrail (l : List Byte) (m : Msg1588) : Bool := decide (beAt l (m.udp + 4) 2 ≥ 8 + m.len + 2)

/-- A message that needs a change is discarded for want of its compensation octets (R136). -/
def State.trailDrop (s : State) (i : Nat) (l : List Byte) (m : Msg1588) (ch : Changes) : Bool :=
  ch != [] && m.map_ == 2 && !hasTrail l m && !s.flag (s.ptpPage i) R.PTP.PTP_CTL_V6_NOTRAIL_FWD

/-- Applies the changes of a message to the frame in transmission at a port (R136). -/
def State.patchTx (s : State) (p i : Nat) (l : List Byte) (m : Msg1588) (ch : Changes) : State :=
  if ch = [] then s else
  let moved := ch.map (fun e => (m.off + e.1, e.2))
  if m.map_ = 2 then
    if hasTrail l m then s.onTx p (fun x => { x with patch := moved, comp := some (m.off + m.len, compensation l m ch) })
    else
      let s := (s.ptpCount i R.PTP.PTP_CNT_NOTRAIL).ptpCause i 5
      if s.flag (s.ptpPage i) R.PTP.PTP_CTL_V6_NOTRAIL_FWD then s else s.dropTx p
  else if m.map_ = 1 then s.onTx p (fun x => { x with patch := (m.udp + 6, beOct 2 0) :: moved })
  else s.onTx p (fun x => { x with patch := moved })

/-- The life of a stored residence in ns (R135). -/
def fuLife : Nat := 100000000

/-- A residence is stored under the key of its follow-up; the oldest of 32 gives way (R135). -/
def State.storeFu (s : State) (port : Nat) (u : Fu) : State :=
  let l := (look [] s.fus port).filter (fun e => !(e.domain == u.domain && e.source == u.source && e.seq == u.seq))
  { s with fus := put [] s.fus port ((l ++ [u]).drop ((l.length + 1) - 32)) }

/-- A forwarded message that meets its instance where it leaves is trapped there: once to each instance, with its receive record, to
the engine when it is there whole (R124, R130, R356). Log 41 (DEDUCED; unsafe). -/
def State.trapOut (s : State) (f i reason : Nat) (m : Msg1588) : State :=
  let x := s.frame f
  let r := x.record m
  if x.caught.contains i then s else
  let s := s.onFrame f (fun y => { y with caught := i :: y.caught })
  if x.complete ∧ ¬ s.flag (s.ptpPage i) R.PTP.PTP_CTL_TRAP_HOST then s.trapToEngine i reason x.port (r ++ body x.octets)
  else s.ptpTrap f i reason r

/-- The transmit record of an event message that leaves (R128, R129). -/
def State.recordTx (s : State) (port i : Nat) (m : Msg1588) (t : Int) : State :=
  if isEventMsg m.typ then s.txRecord i (stampWords t s.stepCount (!s.timeValid) port true false m) else s

/-- A message that instance `i` originates leaves a port: held back while time is invalid, discarded where it answers a record more
than four steps old, else changed as R131 says and recorded (R128, R129, R131, R132). -/
def State.leaveOwn (s : State) (port i : Nat) (r l : List Byte) (m : Msg1588) (t : Int) : State :=
  if isEventMsg m.typ ∧ ¬ s.timeValid ∧ s.flag (s.ptpPage i) R.PTP.PTP_CTL_TX_HOLD_INVALID then
    (s.ptpCount i R.PTP.PTP_CNT_HELD).dropTx port
  else match s.originate i t r l m with
    | none => (s.ptpCount i R.PTP.PTP_CNT_STEPSPAN).dropTx port
    | some ch => (if s.trailDrop i l m ch then s else s.recordTx port i m t).patchTx port i l m ch

/-- A forwarded message that was classified on an Ethernet port as `q` says leaves one: its residence is added or stored, or a stored
one added, and an event message is recorded (R129, R133–R135). -/
def State.leaveFwd (s : State) (port i : Nat) (l : List Byte) (m : Msg1588) (t : Int) (q : PtpIn) : State :=
  if q.correct then
    match s.stepsBetween q.steps s.stepCount with
    | none => (s.ptpCount i R.PTP.PTP_CNT_STEPSPAN).dropTx port
    | some st =>
      let add := s.inDomain i (t - q.at_ - st) + q.link
      if m.two ∧ (m.typ = mSync ∨ m.typ = mPdelayResp) then
        (s.recordTx port i m t).storeFu port { domain := m.domain, source := m.source, seq := m.seq, amount := add, inst := i, expires := s.up + fuLife }
      else
        let ch := [(8, beOct 8 (corrField (m.corr + add)))]
        (if s.trailDrop i l m ch then s else s.recordTx port i m t).patchTx port i l m ch
  else if q.stored then
    match (look [] s.fus port).find? (fun e => e.domain == m.domain && e.source == m.source && e.seq == m.seq && decide (s.up < e.expires)) with
    | some e =>
      ({ s with fus := put [] s.fus port ((look [] s.fus port).erase e) } : State).patchTx port i l m
        [(8, beOct 8 (corrField (m.corr + e.amount)))]
    | none => (s.ptpCount i R.PTP.PTP_CNT_FUMISS).ptpCause i 4
  else s.recordTx port i m t

/-- A forwarded message of instance `i` leaves a port. Where it met no instance on its way in, the role table of R130 applies here: it
is trapped or discarded and not sent, or copied under TC_COPY and sent. A trunk lane took no receive timestamp, so that nothing is
added to what came by one (R124, R130, R210). -/
def State.leaveOther (s : State) (port i f : Nat) (x : Frame) (l : List Byte) (m : Msg1588) (t : Int) : State :=
  let late := (x.ptp.bind (fun q => q.inst)).isNone && !x.host
  match s.actAt i port m, late with
  | .trap, true => (s.trapOut f i (trapReason m) m).dropTx port
  | .discard, true => (s.ptpCount i R.PTP.PTP_CNT_P2P_DROP).dropTx port
  | _, _ =>
    let s := if late ∧ s.flag (s.ptpPage i) R.PTP.PTP_CTL_TC_COPY then s.trapOut f i 3 m else s
    match x.ptp with
    | some q => s.leaveFwd port i l m t (s.dueAt port i x m q)
    | none => s.recordTx port i m t

/-- The start block of the frame that a port sends passes the transmit PCS reference point, at network time `tpcs` in units
of 2⁻¹⁶ ns (R131). A message that a host or an engine marked as originated by an instance is one only where it belongs to it (R124).
Log 41 (DEDUCED; unsafe). -/
def State.ptpTx (s : State) (port : Nat) (tpcs : Int) : State :=
  let y := s.tx port
  match y.kind with
  | .copy _ c =>
    let x := s.frame c.frame
    let l := s.copyOctets c x.octets
    match msgOf l with
    | none => s
    | some m =>
      let i := match x.origin with
        | some (i, _) => if s.belongs i port m then some i else none
        | none => s.egressInst port x m
      if s.isLane port then
        (if i.isSome ∧ isEventMsg m.typ then s.inc (pageNT (port / 4)) R.NT.CNT_PTP_PASS else s)
      else match i with
        | none => s
        | some i =>
          if y.patch != [] ∨ y.left then s else
          let t := s.txStamp port tpcs
          match x.origin with
          | some (_, r) => s.leaveOwn port i r l m t
          | none => s.leaveOther port i c.frame x l m t
  | _ => s

def execPtpEventTx (port : Nat) (tpcs : Int) (s : State) : Host.Outcome State Fault Refusal := done (s.ptpTx (port % 48) tpcs)

/-- The oldest stored residence of a port expires (R135). -/
def execFuEntryExpiry (port : Nat) (s : State) : Host.Outcome State Fault Refusal :=
  let p := port % 48
  done (match look [] s.fus p with
    | [] => s
    | u :: l => s.advance (u.expires - s.up) |> fun s => { s with fus := put [] s.fus p l })

/-- Reading `PTP_TXTS0` loads the head record into the read buffer, and reading `PTP_TXTS3` removes it (R79, R129). -/
def State.txtsLoad (s : State) (t i : Nat) : State :=
  let r := (look [] s.txts (2 * t + i)).headD [0, 0, 0, 0]
  s.each 4 (fun k a => a.wrI (pagePtp t i) R.PTP.PTP_TXTS k (r.getD k 0))
def State.txtsPop (s : State) (t i : Nat) : State :=
  let q := (look [] s.txts (2 * t + i)).drop 1
  ({ s with txts := put [] s.txts (2 * t + i) q } : State).wr (pagePtp t i) R.PTP.PTP_TXTS_LEVEL q.length

/-! ### Domain trackers (R140, R141) -/

/-- A write of CLEAR waits for the next clock alignment epoch (R140). -/
def State.trkClear (s : State) (t i : Nat) : State :=
  (s.onTrk t i (fun k => { k with clear := true })).wr (pagePtp t i) R.PTP.PTP_TRK_CMD_CLEAR 0

/-- A change of `PTP_TRK_CTL.MODE`: the tracker starts from zero, and its next sample loads it (R140, R141).
Log 41 (DEDUCED; unsafe). -/
def State.trkMode (old : State) (t i : Nat) (s : State) : State :=
  if old.rd (pagePtp t i) R.PTP.PTP_TRK_CTL_MODE = s.rd (pagePtp t i) R.PTP.PTP_TRK_CTL_MODE then s
  else s.onTrk t i (fun k => { k with ofs := 0, rate := 0, loaded := false, lastAt := none })

/-- The sample's offset in units of 2⁻⁴⁸ ns (R61, R141). -/
def State.smpOfs (s : State) (p : Nat) : Int :=
  timeVal 48 (s.rd p R.PTP.PTP_SMP_OFS_SEC_HI * 2 ^ 32 + s.rd p R.PTP.PTP_SMP_OFS_SEC_LO) (s.rd p R.PTP.PTP_SMP_OFS_NS)
    (s.rd p R.PTP.PTP_SMP_OFS_FRAC) * 2 ^ 32

/-- The sample's counter instant in ns: the second of those 32 bits nearest to the counter's (R141). -/
def State.smpInstant (s : State) (t p : Nat) : Int :=
  let sec : Int := (s.tcu t).now / 1000000000
  let d := toInt 32 (ofInt 32 ((s.rd p R.PTP.PTP_SMP_AT_SEC : Int) - sec))
  (sec + d) * 1000000000 + s.rd p R.PTP.PTP_SMP_AT_NS

/-- A sample is pushed: the first loads DOM_OFS, a later one is filtered, and one too old or too far off is rejected, the
latter as a phase hit (R141, R143). A TCU that follows another takes the trackers from it (R151). -/
def State.smpPush (s : State) (t i : Nat) : State :=
  let p := pagePtp t i
  let s := s.wr p R.PTP.PTP_SMP_PUSH_PUSH 0
  if s.flag p R.PTP.PTP_TRK_CTL_MODE ∨ ¬ s.decides t then s else
  let now : Int := (s.tcu t).now
  let at_ := s.smpInstant t p
  let k := look {} (s.tcu t).trks i
  if at_ + 2000000000 < now then s.raise p 3
  else if ¬ k.loaded then (s.onTrk t i (fun k => { k with ofs := s.smpOfs p, loaded := true, lastAt := some now.toNat })).mirrorSel t
  else
    let pred := k.ofs - k.rate * (now - at_)
    let diff := s.smpOfs p - pred
    if diff.natAbs > s.rd p R.PTP.PTP_PLIM * 2 ^ 48 then
      let s := s.raise p 3
      (if s.rd p R.PTP.PTP_STAT_STATE = csDisabled then s else s.setPtpState t i csFailed 3 0).mirrorSel t
    else
      let bw := s.rd p R.PTP.PTP_TRK_CTL_BW
      let dt := (now - (k.lastAt.getD 0 : Nat)).toNat
      ((s.onTrk t i (fun k => { k with
        ofs := k.ofs + Config.trkPhase diff bw dt s.free
        rate := toInt 40 (ofInt 40 (k.rate + Config.trkFreq diff bw dt s.free))
        lastAt := some now.toNat })).bump).mirrorSel t

/-- A snapshot latches the trackers of both instances with the counter (R147). -/
def State.snapTrk (s : State) (t : Nat) : State :=
  s.each 2 (fun i a =>
    let p := pagePtp t i
    let k := look {} (a.tcu t).trks i
    let loc := a.flag p R.PTP.PTP_TRK_CTL_MODE
    let u : Int := if loc then 0 else k.ofs / 2 ^ 32
    let r := ofInt 40 (if loc then 0 else k.rate)
    let sec := ofInt 48 (u / 65536000000000)
    let ns := (u / 65536 % 1000000000).toNat
    let a := (a.wr p R.PTP.DOM_OFS_SEC_HI (sec / 2 ^ 32)).wr p R.PTP.DOM_OFS_SEC_LO (sec % 2 ^ 32)
    let a := (a.wr p R.PTP.DOM_OFS_NS ns).wr p R.PTP.DOM_OFS_FRAC (u % 65536).toNat
    (a.wr p R.PTP.DOM_RATE_LO (r % 2 ^ 32)).wr p R.PTP.DOM_RATE_HI (r / 2 ^ 32))

end Sys2Proof.Machine
end

