-- ==== Sys2Proof/Machine/Mac.lean ====
section
/-! DEFINITION. The receive MAC, PAUSE and port statistics (R244–R255). -/

namespace Sys2Proof.Machine

open Sys2Proof

/-! ### Reception (R245, R297, R303) -/

/-- The forwarding port that frames of a port count as: a trunk's lanes count as its lane +0 (R263). -/
def State.fwdPort (s : State) (p : Nat) : Nat := if s.isLane p then p / 4 * 4 else p

/-- `EB_STAT` shows the deviation at a start block and its extremes (R189). -/
def State.showDev (s : State) (p : Nat) (d : Int) : State :=
  let g := pagePort p
  let s := s.wrSat g R.PORT.EB_STAT_NOW d
  let s := if d < s.rdS g R.PORT.EB_STAT_MIN then s.wrSat g R.PORT.EB_STAT_MIN d else s
  if d > s.rdS g R.PORT.EB_STAT_MAX then s.wrSat g R.PORT.EB_STAT_MAX d else s

/-- Reading `EB_STAT` restarts the extremes from the deviation now (R189). -/
def State.ebRead (s : State) (p : Nat) : State :=
  let g := pagePort p
  (s.wr g R.PORT.EB_STAT_MIN (s.rd g R.PORT.EB_STAT_NOW)).wr g R.PORT.EB_STAT_MAX (s.rd g R.PORT.EB_STAT_NOW)

/-- A frame's first octets reach the Vat under frame record `f`; `tpcs` is its receive PCS time in units of 2⁻¹⁶ ns, and `d`
the deviation of the port's elastic buffer, 0 on a trunk (R31, R189, R297). The receive timestamp is taken now, with the delays
that are live (R126–R128, R187). A port being disabled starts no frame (R55).
Log 50 (DEDUCED; safe). -/
def State.rxStart (s : State) (p f : Nat) (l : List Byte) (tpcs : Int) (start4 : Bool) (d : Int) : State :=
  let p := s.fwdPort p
  if s.hasFrame f ∨ s.inTx f ∨ ¬ s.portUp p ∨ s.closing p then s else
  let d := if s.isLane p then 0 else d
  let s := if s.isLane p then s else s.showDev p d
  let x : Frame := { port := p, owner := p, tpcs := tpcs, start4 := start4, untimed := s.isLane p
                     stamp := if s.isLane p then 0 else s.rxStamp p tpcs d start4, steps := s.stepCount, invalid := !s.timeValid }
  ((s.setFrame f x).grow f l).touchAll

def execFrameRxStart (p f : Nat) (l : List Byte) (tpcs : Int) (start4 : Bool) (d : Int) (s : State) : Host.Outcome State Fault Refusal :=
  done (s.rxStart (p % 48) f l tpcs start4 d)

/-- More octets of an arriving frame (R302). -/
def execCellArrival (f : Nat) (l : List Byte) (s : State) : Host.Outcome State Fault Refusal :=
  done (if ¬ s.hasFrame f ∨ (s.frame f).host then s else (s.grow f l).touchAll)

/-- How a received frame is judged (R245). -/
inductive Verdict where
  | good | runt | oversize | fcs | stomped
  deriving DecidableEq, Repr

/-- The judgement of a frame at its end: `err` says that it held an error block or an invalid code group, `cut` that it was
cut short (R245). A runt is that and nothing else; an oversize frame counts as oversize alone.
Log 49 (DEDUCED; unsafe). -/
def judge (x : Frame) (err cut : Bool) : Verdict :=
  if x.octets.length < 64 then .runt
  else if x.tooLong then .oversize
  else if cut then .fcs
  else if tailFcs x.octets = stompOf (body x.octets) then .stomped
  else if err ∨ tailFcs x.octets ≠ fcsOf (body x.octets) then .fcs
  else .good

/-- The counter and the sticky flag of a frame that is not good (R245, R255). Log 49 (DEDUCED; unsafe). -/
def State.countBad (s : State) (p : Nat) (v : Verdict) : State :=
  match v with
  | .good => s
  | .runt => (s.inc (pagePort p) R.PORT.STAT_RX_RUNT).sticky p 2
  | .oversize => (s.inc (pagePort p) R.PORT.STAT_RX_OVERSIZE).sticky p 3
  | .fcs => (s.inc (pagePort p) R.PORT.STAT_RX_FCS).sticky p 0
  | .stomped => (s.inc (pagePort p) R.PORT.STAT_RX_STOMPED).sticky p 1

/-- The frames trapped to engines are delivered, whole and good (R356). -/
def State.giveEngines (s : State) (x : Frame) : State :=
  x.engTraps.foldl (fun a e => a.trapToEngine e.engine e.reason x.port (e.rec_ ++ body x.octets)) s

/-! ### PAUSE (R251–R254) -/

/-- The quanta left of a pause (R255). -/
def State.pauseLeft (s : State) (p : Nat) : Nat :=
  if s.flag (pagePort p) R.PORT.MAC_PAUSE_STAT_PAUSED then ((s.mac p).pausedUntil - s.fine + s.quantum p - 1) / s.quantum p else 0

/-- The pause of a port ends. -/
def State.pauseEnd (s : State) (p : Nat) : State := ((s.wr (pagePort p) R.PORT.MAC_PAUSE_STAT_PAUSED 0).onMac p (fun m => { m with pausedUntil := 0 })).touchPort p

/-- A PAUSE with a good FCS arrives: counted, and with RX in force the timer takes its quanta (R252). A trunk carries none (R192). -/
def State.pauseRx (s : State) (p quanta : Nat) : State :=
  if s.isLane p ∨ ¬ s.portUp p then s else
  let s := s.inc (pagePort p) R.PORT.STAT_RX_PAUSE
  if ¬ s.flag (pagePort p) R.PORT.MAC_PAUSE_STAT_RX_RES then s
  else if quanta % 65536 = 0 then s.pauseEnd p
  else
    let s := (s.wr (pagePort p) R.PORT.MAC_PAUSE_STAT_PAUSED 1).sticky p 6
    (s.onMac p (fun m => { m with pausedUntil := s.fine + quanta % 65536 * s.quantum p })).touchPort p

/-- A good MAC control frame: a PAUSE has its effect, any other is counted (R252). -/
def State.macControl (s : State) (p : Nat) (l : List Byte) : State :=
  let h := hdrOf l
  if h.etype ≠ 0x8808 then s
  else if beAt l h.off 2 = 1 then s.pauseRx p (beAt l (h.off + 2) 2)
  else (s.inc (pagePort p) R.PORT.STAT_RX_CTL_OTHER).sticky p 7

/-- A PAUSE of 64 octets arrives whole (R252, R255). Log 58 (PRESUMED; unsafe). -/
def State.pauseFrame (s : State) (p quanta : Nat) : State :=
  if s.isLane p ∨ ¬ s.portUp p then s
  else ((s.inc (pagePort p) R.PORT.STAT_RX_FRAMES).onMac p (fun m => { m with rxOct := satNat 48 (m.rxOct + 64) })).pauseRx p quanta

def execPauseRx (p quanta : Nat) (s : State) : Host.Outcome State Fault Refusal := done (s.pauseFrame (p % 48) quanta)

/-! ### The end of a frame -/

/-- Errored blocks are counted on the pages of the lanes that decoded them: a port's own, or a trunk's data lanes in turn (R183,
R191). -/
def State.countErrs (s : State) (p : Nat) (errs : List Nat) : State :=
  s.each (if s.isLane p then 3 else 1) (fun i a => a.addI (pagePort (p + i)) R.PORT.CNT_ERR_BLOCK 0 (errs.getD i 0))

/-- A frame ends on the line; `errs` gives the errored blocks decoded in it, by data lane on a trunk (R191, R245, R255, R307).
Log 59 (DEDUCED; unsafe). -/
def State.rxEnd (s : State) (f : Nat) (errs : List Nat) (cut : Bool) : State :=
  let x := s.frame f
  if x = noFrame ∨ x.host ∨ x.complete then s else
  let p := x.port
  let v := judge x (errs.any (fun e => e != 0)) cut
  let s := s.countErrs p errs
  let s := (s.inc (pagePort p) R.PORT.STAT_RX_FRAMES).onMac p (fun m => { m with rxOct := satNat 48 (m.rxOct + x.octets.length) })
  let s := if v = .good then s.macControl p x.octets else s.countBad p v
  if x.dropped then s.freeFrame f
  else if v ≠ .good then
    ((s.onFrame f (fun y => { y with complete := true, bad := true, decided := true, noFcs := cut || x.tooLong })).reap f).touchAll
  else
    let s := if x.refused then s else s.giveEngines x
    let ctl := decide ((hdrOf x.octets).etype = 0x8808)
    ((s.onFrame f (fun y => { y with complete := true, decided := y.decided || ctl })).reap f).touchAll

def execFrameRxEnd (f : Nat) (errs : List Nat) (cut : Bool) (s : State) : Host.Outcome State Fault Refusal := done (s.rxEnd f errs cut)

/-! ### Events of PAUSE (R251–R254) -/

/-- The pause timer of a port reaches zero (R252). -/
def execPauseTimerExpiry (p : Nat) (s : State) : Host.Outcome State Fault Refusal :=
  let p := p % 48
  done (if ¬ s.flag (pagePort p) R.PORT.MAC_PAUSE_STAT_PAUSED then s
    else (s.advance (((s.mac p).pausedUntil - s.fine + 99) / 100)).pauseEnd p)

/-- A PAUSE is due again, REFRESH quanta after the last was sent, while the pressure lasts; the first of them goes out when the
pressure starts (R254). -/
def execPauseRefresh (p : Nat) (s : State) : Host.Outcome State Fault Refusal :=
  let p := p % 48
  let g := pagePort p
  let next := (s.mac p).pauseSent + s.rd g R.PORT.MAC_PAUSE_TX_REFRESH * s.quantum p
  done (if s.isLane p ∨ ¬ s.flag g R.PORT.MAC_PAUSE_STAT_XOFF ∨ ¬ s.flag g R.PORT.MAC_PAUSE_STAT_TX_RES ∨ (s.mac p).due.isSome then s
    else (s.advance ((next - s.fine + 99) / 100)).onMac p (fun m => { m with due := some (s.rd g R.PORT.MAC_PAUSE_TX_QUANTA) }))

/-- PAUSE resolution of IEEE 802.3 Table 28B-3, from the two ends' PAUSE and ASM_DIR: receive, transmit (PRESUMED, R251).
Log 58 (PRESUMED; unsafe). -/
def pauseTable (lp la pp pa : Bool) : Bool × Bool :=
  if lp && pp then (true, true)
  else if lp && la && !pp && pa then (true, false)
  else if !lp && la && pp && pa then (false, true)
  else (false, false)

/-- Clause 73 or Clause 37 has completed at a port that enters UP: it was resolved in AN mode, or runs mode 0x1 and did not bypass
Clause 37 (R174, R177, R251). -/
def State.negotiated (s : State) (p : Nat) : Bool :=
  let l := look {} s.lanes p
  l.an || (s.rd (pagePort p) R.PORT.PORT_STAT_MODE == 1 && l.c37 && !s.flag (pagePort p) R.PORT.AN_RES_BYPASS)

/-- Whether a port acts on PAUSE and sends it is settled at every entry to UP; in a trained mode without negotiation R251 settles
neither, and both are 0. A port that then reports pressure sends a PAUSE for it (R254). Log 104 (DESIGN CHOICE; unsafe). -/
def State.settlePause (s : State) (p : Nat) : State :=
  let g := pagePort p
  let f (x : Fld) : Bool := s.flag g x
  let set := (f R.PORT.MAC_PAUSE_RX_EN, f R.PORT.MAC_PAUSE_TX_EN)
  let r := if f R.PORT.MAC_PAUSE_FORCE then set
    else if s.negotiated p then pauseTable (f R.PORT.AN_ADV_PAUSE) (f R.PORT.AN_ADV_ASM_DIR) (f R.PORT.AN_LP_PAUSE) (f R.PORT.AN_LP_ASM_DIR)
    else if f R.PORT.AN_RES_BYPASS ∨ s.rd g R.PORT.PORT_STAT_MODE = 2 ∨ s.rd g R.PORT.PORT_STAT_MODE = 4 then set
    else (false, false)
  ((s.wr g R.PORT.MAC_PAUSE_STAT_RX_RES (b2n r.1)).wr g R.PORT.MAC_PAUSE_STAT_TX_RES (b2n r.2)).onMac p (fun m =>
    { m with due := if r.2 ∧ f R.PORT.MAC_PAUSE_STAT_XOFF then some (s.rd g R.PORT.MAC_PAUSE_TX_QUANTA) else none })

/-! ### Octet counters (R255) -/

/-- Reading an octet counter's LO word returns bits [31:0], latches bits [47:32] into HI and clears the counter. -/
def State.octetsRead (s : State) (p : Nat) (tx : Bool) : Nat × State :=
  let m := s.mac p
  let v := if tx then m.txOct else m.rxOct
  let s := s.wr (pagePort p) (if tx then R.PORT.STAT_TX_OCTETS_HI else R.PORT.STAT_RX_OCTETS_HI) (v / 2 ^ 32)
  (v % 2 ^ 32, s.onMac p (fun m => if tx then { m with txOct := 0 } else { m with rxOct := 0 }))

end Sys2Proof.Machine
end

