-- ==== Sys2Proof/Machine/HostPort.lean ====
section
/-! DEFINITION. The host packet port: frames from the hosts and the engines into the switch, segmentation, and delivery of trapped frames (R256–R262). -/

namespace Sys2Proof.Machine

open Sys2Proof

/-! ### Transport headers and checksums (R257, R262) -/

/-- Where the IP header and the transport header of a frame stand, whether it is IPv4, and its protocol; none for a frame
that is neither IPv4 nor IPv6. -/
structure Ip where
  v4 : Bool
  ip : Nat
  tp : Nat
  proto : Nat
  deriving DecidableEq, Repr

def ipOf (l : List Byte) : Option Ip :=
  let h := hdrOf l
  if h.etype = 0x0800 ∧ beAt l h.off 1 / 16 = 4 then some ⟨true, h.off, h.off + beAt l h.off 1 % 16 * 4, beAt l (h.off + 9) 1⟩
  else if h.etype = 0x86DD ∧ beAt l h.off 1 / 16 = 6 then some ⟨false, h.off, h.off + 40, beAt l (h.off + 6) 1⟩
  else none

/-- The octets of the transport segment: the IP payload. -/
def Ip.payload (i : Ip) (l : List Byte) : List Byte :=
  let n := if i.v4 then beAt l (i.ip + 2) 2 - (i.tp - i.ip) else beAt l (i.ip + 4) 2
  octets l i.tp n

/-- The pseudo-header of a TCP or UDP checksum. -/
def Ip.pseudo (i : Ip) (l : List Byte) (len : Nat) : List Byte :=
  if i.v4 then octets l (i.ip + 12) 8 ++ beOct 2 i.proto ++ beOct 2 len
  else octets l (i.ip + 8) 32 ++ beOct 4 len ++ beOct 4 i.proto

/-- The place of the checksum in the transport header. -/
def Ip.sumAt (i : Ip) : Nat := i.tp + (if i.proto = 6 then 16 else 6)

/-- Fills the TCP or UDP checksum; a UDP checksum of 0 is sent as 0xFFFF. -/
def Ip.fill (i : Ip) (l : List Byte) : List Byte :=
  let l := setOct l i.sumAt (beOct 2 0)
  let d := i.payload l
  let c := 65535 - ocSum (i.pseudo l d.length ++ d)
  setOct l i.sumAt (beOct 2 (if c = 0 ∧ i.proto = 17 then 65535 else c))

/-- CSUM: the frame with its checksum, if it is TCP or UDP (R257). -/
def fillSum (l : List Byte) : Option (List Byte) :=
  match ipOf l with
  | some i => if i.proto = 6 ∨ i.proto = 17 then some (i.fill l) else none
  | none => none

/-- Fills the IPv4 header checksum. -/
def Ip.fillHeader (i : Ip) (l : List Byte) : List Byte :=
  let l := setOct l (i.ip + 10) (beOct 2 0)
  setOct l (i.ip + 10) (beOct 2 (ipSum (octets l i.ip (i.tp - i.ip))))

/-- Segment `k` of a large send: its headers updated as the table of R262 says. -/
def segment (i : Ip) (l : List Byte) (hdr mss n k : Nat) : List Byte :=
  let pay := octets l (hdr + k * mss) mss
  let h := l.take hdr
  let tcp := hdr - i.tp
  let h := if i.v4 then
      setOct (setOct h (i.ip + 2) (beOct 2 (i.tp - i.ip + tcp + pay.length))) (i.ip + 4) (beOct 2 (beAt l (i.ip + 4) 2 + k))
    else setOct h (i.ip + 4) (beOct 2 (tcp + pay.length))
  let h := setOct h (i.tp + 4) (beOct 4 (beAt l (i.tp + 4) 4 + k * mss))
  let f := beAt l (i.tp + 13) 1
  let f := if k + 1 = n then f else f - (f &&& 0x09)
  let f := if k = 0 then f else f - (f &&& 0x80)
  let h := setOct h (i.tp + 13) (beOct 1 f)
  let g := h ++ pay
  i.fill (if i.v4 then i.fillHeader g else g)

/-- The segments of a large send, if it keeps R262. -/
def segments (l : List Byte) (hdr mss : Nat) : Option (List (List Byte)) :=
  match ipOf l with
  | none => none
  | some i =>
    let pay := l.length - hdr
    if i.proto ≠ 6 ∨ hdr < 54 ∨ hdr > 254 ∨ hdr ≠ i.tp + beAt l (i.tp + 12) 1 / 16 * 4 ∨ l.length ≤ hdr ∨ pay > 262144
        ∨ mss < 64 ∨ mss > 9000 then none
    else
      let n := (pay + mss - 1) / mss
      some ((List.range n).map (segment i l hdr mss n))

/-! ### Sending (R256, R257) -/

/-- The control fields of a transmit descriptor's words 2 and 3 (R257). -/
structure TxDesc where
  direct : Bool
  csum : Bool
  tso : Bool
  ptp : Bool
  inst : Nat
  hdr : Nat
  port : Nat
  subscr : Nat
  svc : Nat
  mss : Nat
  deriving DecidableEq, Repr

def txDesc (w2 w3 : Nat) : TxDesc :=
  { direct := bitAt w2 17, csum := bitAt w2 18, tso := bitAt w2 19, ptp := bitAt w2 20, inst := bits w2 21 1, hdr := bits w2 24 8
    port := bits w3 0 6, subscr := bits w3 6 4, svc := bits w3 10 3, mss := bits w3 14 14 }

/-- The receive record that a one-step Pdelay_Resp carries ahead of it, and the frame: a record of a received Pdelay_Req, with a
Pdelay_Resp 16 octets on (R129, R132). Log 98 (DESIGN CHOICE; unsafe). -/
def splitRecord (d : TxDesc) (l : List Byte) : List Byte × List Byte :=
  if d.ptp ∧ bits (leWord l 8) 22 1 = 0 ∧ bits (leWord l 8) 24 4 = mPdelayReq ∧ (msgOf (l.drop 16)).any (fun m => m.typ == mPdelayResp) then (l.take 16, l.drop 16) else ([], l)

/-- A frame's length, FCS counted, breaks R244: for the egress port where it is known, else below 64 octets.
Log 53 (DEDUCED; unsafe). -/
def State.lenBad (s : State) (d : TxDesc) (l : List Byte) : Bool :=
  decide (l.length + 4 < 64) || (d.direct && decide (l.length + 4 > s.limit d.port (hdrOf l).tags))

/-- The frames that a submission makes, without FCS, or none where R257 discards it. -/
def State.txFrames (s : State) (d : TxDesc) (l : List Byte) : Option (List (List Byte)) :=
  let fs := if d.tso then segments l d.hdr d.mss
    else if d.csum then (fillSum l).map (fun x => [x]) else some [l]
  fs.bind (fun x => if x.any (s.lenBad d) ∨ d.port ≥ 48 then none else some x)

/-- One host frame of source `src` enters the Vat, charged to `owner`, under the first free frame record from `f` on; it awaits its
lookup, for which a trunk's lane counts as the trunk, or its turn for the one copy of a direct frame (R257, R263, R297, R301). A frame that no line brought has no receive PCS time.
Log 85 (DESIGN CHOICE; safe). -/
def State.enter (s : State) (d : TxDesc) (src f : Nat) (r l : List Byte) : State :=
  let f := s.freeRecord f
  let p := if d.direct then d.port else s.fwdPort d.port
  let x : Frame := { port := p, host := true, owner := if src < 4 then d.port else 63, tpcs := Config.hostArrival s.free
                     origin := if d.ptp then some (d.inst, r) else none, src := src, seq := s.subs
                     direct := if d.direct then some (leafOf d.port d.subscr d.svc) else none }
  let s := (s.bump.setFrame f x).grow f (l ++ fcsOf l)
  if (s.frame f).dropped then s.freeFrame f else s.onFrame f (fun x => { x with complete := true })

/-- Source `src` speaks for an instance: it is the instance's engine, or the context that its messages are trapped to (R131). -/
def State.originates (s : State) (src inst : Nat) : Bool :=
  src == 16 + inst || (decide (src < 4) && s.flag (s.ptpPage inst) R.PTP.PTP_CTL_TRAP_HOST && s.owner (s.ptpPage inst) == src)

/-- A frame is submitted from context `src`, or from engine `src` − 16, whose frames are charged to the system reserve
(R257, R301, R356). PTP counts only from the instance's engine or trapping host; an event message that it originates while time is
invalid may be held (R128, R131). Log 53 (DEDUCED; unsafe). -/
def State.submit (s : State) (src w2 w3 f : Nat) (l : List Byte) : State :=
  let d := txDesc w2 w3
  if d.ptp ∧ d.tso then s.txBad src else
  let d := { d with ptp := d.ptp && s.originates src d.inst }
  let (r, l) := splitRecord d l
  if d.ptp ∧ ¬ s.timeValid ∧ s.flag (s.ptpPage d.inst) R.PTP.PTP_CTL_TX_HOLD_INVALID ∧
      (msgOf l).any (fun m => isEventMsg m.typ && s.belongs d.inst d.port m) then
    s.ptpCount d.inst R.PTP.PTP_CNT_HELD
  else match s.txFrames d l with
    | none => s.txBad src
    | some fs =>
      let s := fs.foldl (fun a x => a.enter d src f r x) ({ s with subs := s.subs + 1 } : State)
      (s.sendDirect src s.frames.length).touchAll

/-- The number of entries of a packet ring (R259). -/
def State.txrSize (s : State) (c : Nat) : Nat := 2 ^ s.rd (pageHC c) R.HC.TXR_SIZE
def State.rxrSize (s : State) (c : Nat) : Nat := 2 ^ s.rd (pageHC c) R.HC.RXR_SIZE

/-- A write of a ring's PROD ahead of CONS by more than the ring size is ignored with RING_ERR (R48, R259). -/
def State.prodWritten (old : State) (c : Nat) (prod cons : Fld) (size : Nat) (s : State) : State :=
  let d := (s.rd (pageHC c) prod + 2 ^ 32 - s.rd (pageHC c) cons) % 2 ^ 32
  if d > size then (s.wr (pageHC c) prod (old.rd (pageHC c) prod)).raise (pageHC c) 1 else s

/-- The octets of the SPI transmit FIFO that a frame of `len` octets occupies. -/
def txfSize (len : Nat) : Nat := 16 + (len + 3) / 4 * 4

/-- The frame being written is larger than the space there was at its first word, which stands in place of its ignored word 0 (R260). -/
def txfOver (ws : List Word) : Bool := decide (ws.length ≥ 3) && decide (txfSize (bits ((ws.getD 2 0#32).toNat) 0 16) > (ws.getD 0 0#32).toNat)

/-- The free octets of the SPI transmit FIFO (R260). -/
def State.txfSpace (s : State) (c : Nat) : Nat :=
  let h := s.host c
  16384 - ((if txfOver h.txf then 0 else h.txf.length * 4) + (h.txq.map (fun q => txfSize q.2.length)).sum)

/-- The descriptor words of a transmit ring as they were fetched: LEN and EOP of each, EOP on the last alone. -/
def descsOk (ds : List (List Nat)) : Bool :=
  match ds.reverse with
  | [] => false
  | e :: es => bitAt (e.getD 2 0) 16 && es.all (fun x => !bitAt (x.getD 2 0) 16)

/-- The device takes the next host frame: from a PCIe context's ring, where it fetches the descriptors `ds` and reads the
octets of their buffers (none where a read fails), from an SPI or in-band context's queue, or from an engine's own
transmit queue (R256, R257, R259, R356). -/
def State.hostTx (s : State) (src : Nat) (ds : List (List Nat)) (l : Option (List Byte)) (f : Nat) : State :=
  let d := ds.headD []
  let len := (ds.map (fun x => bits (x.getD 2 0) 0 16)).sum
  if src ≥ 16 then
    (if src < 24 ∧ descsOk ds then (match l with | some l => s.submit src (d.getD 2 0) (d.getD 3 0) f (l.take len) | none => s) else s)
  else if src ≥ 4 ∨ ¬ s.flag (pageHC src) R.HC.PKT_CTL_TX_EN ∨ ¬ s.attached src then s
  else if s.kind src = kPcie then
    let p := pageHC src
    let cons := s.rd p R.HC.TXR_CONS
    if ¬ descsOk ds ∨ ds.length > (s.rd p R.HC.TXR_PROD + 2 ^ 32 - cons) % 2 ^ 32 then s else
    let s := (s.wr p R.HC.TXR_CONS (cons + ds.length)).raise p 4
    match l with
    | some l => s.submit src (d.getD 2 0) (d.getD 3 0) f (l.take len)
    | none => s.txBad src
  else match (s.host src).txq with
    | [] => s
    | q :: qs => (s.onHost src (fun h => { h with txq := qs })).submit src (q.1.getD 2 0) (q.1.getD 3 0) f q.2

def execHostTxFrame (src : Nat) (ds : List (List Nat)) (l : Option (List Byte)) (f : Nat) (s : State) : Host.Outcome State Fault Refusal :=
  done (s.hostTx src ds l f)

/-- A word written to `PKT_TXF_DATA`: the frame is queued when its last word is there; a frame larger than the space at its
first word is dropped whole, counted and raised (R260). -/
def State.txfWrite (s : State) (c v : Nat) : State :=
  if s.kind c ≠ kSpi then s else
  let t := (s.host c).txf
  let ws := t ++ [BitVec.ofNat 32 (if t = [] then s.txfSpace c else v)]
  let s := s.onHost c (fun h => { h with txf := ws })
  let len := bits ((ws.getD 2 0#32).toNat) 0 16
  if ws.length < 4 ∨ ws.length < 4 + (len + 3) / 4 then s else
  let s := s.onHost c (fun h => { h with txf := [] })
  let l := ((ws.drop 4).map (fun w => leOct 4 w.toNat)).flatten.take len
  if txfOver ws then s.txBad c
  else (s.onHost c (fun h => { h with txq := h.txq ++ [((ws.take 4).map (fun w => w.toNat), l)] })).raise (pageHC c) 4

/-- An in-band packet: a 0x88B5 frame whose count is 0, its descriptor at octets 4–19 and the frame after it, from the
address and port set in HP_INB alone; the descriptor's LEN says how many octets are the frame, what follows being the padding of a
short frame (R45, R257, R261). Log 54 (DEDUCED; unsafe). -/
def State.inbandPacket (s : State) (port sa : Nat) (l : List Byte) : State :=
  if s.kind 3 ≠ kInband then s else
  let want := s.rd pageInb R.INB.INB_SA_HI * 2 ^ 32 + s.rd pageInb R.INB.INB_SA_LO
  if port ≠ s.rd pageInb R.INB.INB_PORT ∨ sa ≠ want then s.inc pageInb R.INB.INB_CNT_DROP
  else if beAt l 0 1 ≠ 1 ∨ beAt l 3 1 ≠ 0 then s
  else
    let d := (List.range 4).map (fun i => leWord l (4 + 4 * i))
    let n := bits (d.getD 2 0) 0 16
    if l.length < 20 + n then s else s.onHost 3 (fun h => { h with txq := h.txq ++ [(d, (l.drop 20).take n)] })

def execInbandPacketRx (port sa : Nat) (l : List Byte) (s : State) : Host.Outcome State Fault Refusal :=
  done (s.inbandPacket port sa l)

/-! ### Delivery (R258–R261) -/

/-- A frame that finds no room is discarded, counted, and PKT_RX_DROP raised (R258). -/
def State.rxDrop (s : State) (c : Nat) : State := (s.inc (pageHC c) R.HC.PKT_CNT_RX_DROP).raise (pageHC c) 5

/-- The words 2 and 3 of a receive descriptor (R258). Log 54 (DEDUCED; unsafe). -/
def rxWords (k : HostCopy) (x : Frame) (len : Nat) (eop : Bool) : List Nat :=
  [len + b2n eop * 2 ^ 16 + b2n (k.rec_ != []) * 2 ^ 17 + k.reason * 2 ^ 18 + x.port % 64 * 2 ^ 22 + 2 ^ 31, (hdrOf x.octets).tci.getD 0]

/-- Words of octets, the last padded with zeros. -/
def wordsOf (l : List Byte) : List Word := (List.range ((l.length + 3) / 4)).map (fun i => BitVec.ofNat 32 (leWord (l ++ [0, 0, 0]) (4 * i)))

/-- The words that wait in an SPI receive FIFO. Log 54 (DEDUCED; unsafe). -/
def State.rxfWords (s : State) (c : Nat) : Nat := (((s.host c).rxf.map (fun f => f.length)).sum)

/-- A frame goes to the host: into consecutive buffers of a PCIe ring, into the SPI receive FIFO, or into an in-band frame
(R258–R261). -/
def State.giveHost (s : State) (c : Nat) (k : HostCopy) (x : Frame) : State :=
  let l := k.rec_ ++ body x.octets
  let p := pageHC c
  if s.kind c = kPcie then
    let buf := s.rd p R.HC.RXR_BUF
    let n := (l.length + buf - 1) / buf
    let cons := s.rd p R.HC.RXR_CONS
    if n > (s.rd p R.HC.RXR_PROD + 2 ^ 32 - cons) % 2 ^ 32 then s.rxDrop c else
    let s := (List.range n).foldl (fun a i =>
      let o := octets l (i * buf) buf
      a.emit (.hostRx c (0 :: 0 :: rxWords k x o.length (decide (i + 1 = n))) o)) s
    (s.wr p R.HC.RXR_CONS (cons + n)).raise p 3
  else if s.kind c = kSpi then
    let ws := 0#32 :: 0#32 :: (rxWords k x l.length true).map (BitVec.ofNat 32) ++ wordsOf l
    if 4 * (s.rxfWords c + ws.length) > 16384 then s.rxDrop c
    else (s.onHost c (fun h => { h with rxf := h.rxf ++ [ws] })).raise p 3
  else
    let port := s.rd pageInb R.INB.INB_PORT
    if 14 + 20 + l.length + 4 > s.limit port 0 then s.rxDrop c
    else
      let d := ((0 :: 0 :: rxWords k x l.length true).map (leOct 4)).flatten
      ((s.inbandSend c ([1] ++ beOct 2 (Config.noticeSeq s.free) ++ [0] ++ d ++ l)).bump).raise p 3

/-- The frame at the head of a context's queue is delivered, once it is there whole; a bad or refused one is not, and one
whose read meets an uncorrectable word, of the physical bank `bad` or one that another copy met, is dropped; where the word is a link entry, which is free,
the cells beyond it stay charged (R247, R258, R309, R310).
Log 107 (DESIGN CHOICE; safe). -/
def State.hostRx (s : State) (c : Nat) (corr : List Nat) (bad : Option Nat) : State :=
  match (s.host c).rxq with
  | [] => s
  | k :: ks =>
    let x := s.frame k.frame
    if ¬ x.complete ∧ ¬ x.refused ∧ x ≠ noFrame then s else
    let pop (s : State) : State := (s.onHost c (fun h => { h with rxq := ks })).copyGone k.frame
    if x = noFrame ∨ x.bad ∨ x.refused ∨ ¬ s.attached c then pop s
    else
      let s := s.corrected corr
      match s.meets x (bad.map (fun b => (b, Config.hurtAt s.free % max 1 x.octets.length))) with
      | some (b, n) =>
        let s := ((s.uncorrectable b).hurtFrame k.frame b n).rxDrop c
        (pop (if Config.hostLink s.free ∧ x.hurt.isNone then s.breakChain k.frame n else s)).bump
      | none => if ¬ s.flag (pageHC c) R.HC.PKT_CTL_RX_EN then pop (s.rxDrop c) else pop (s.giveHost c k x)

def execHostRxDelivery (c : Nat) (corr : List Nat) (bad : Option Nat) (s : State) : Host.Outcome State Fault Refusal :=
  done (s.hostRx (c % 4) corr bad)

/-- The next word of the frame at the head of the SPI receive FIFO, and the FIFO without it (R260). -/
def State.rxfRead (s : State) (c : Nat) : Nat × State :=
  match (s.host c).rxf with
  | (w :: ws) :: fs => (w.toNat, s.onHost c (fun h => { h with rxf := if ws = [] then fs else ws :: fs }))
  | [] :: fs => (0, s.onHost c (fun h => { h with rxf := fs }))
  | [] => (0, s)

/-- The packet port of a PCIe context whose link is gone starts afresh (R47). -/
def State.packetReset (s : State) (c : Nat) : State :=
  let p := pageHC c
  let s := [R.HC.TXR_BASE_LO, R.HC.TXR_BASE_HI, R.HC.TXR_SIZE, R.HC.TXR_PROD, R.HC.TXR_CONS, R.HC.RXR_BASE_LO, R.HC.RXR_BASE_HI,
    R.HC.RXR_SIZE, R.HC.RXR_PROD, R.HC.RXR_CONS, R.HC.RXR_BUF, R.HC.PKT_CTL_RX_EN, R.HC.PKT_CTL_TX_EN].foldl (fun a f => a.wr p f f.rst) s
  s

end Sys2Proof.Machine
end

