-- ==== Sys2Proof/Machine/Vat.lean ====
section
/-! DEFINITION. The Vat's registers and banks, and the Whey audit (R294–R296, R304, R311–R318). -/

namespace Sys2Proof.Machine

open Sys2Proof

/-! ### Commit of guarantees (R304) -/

/-- The values that a commit would bring in are allowed: Σ G_p + R_sys fits the Vat, and U does not exceed SH (R304). -/
def State.vatOk (s : State) : Bool := decide (0 ≤ s.sharedSize) && decide ((s.sharedUsed : Int) ≤ s.sharedSize)

/-! ### Banks (R294, R319) -/

/-- `VB_FREE`: the free cells of the logical bank that a physical bank serves, 0 while it serves none (R319). -/
def State.bankFree (s : State) (b : Nat) : Nat :=
  if s.bankRole b ≠ bInService then 0 else
  let l := s.bankLogical b
  bankCells l - (s.cells.filter (fun c => decide (bankBase l ≤ c.1 ∧ c.1 < bankBase l + bankCells l))).length

/-! ### The window on the queues (R317) -/

/-- A write of `VOQ_SEL` latches the entry of that VOQ. -/
def State.voqLatch (s : State) : State :=
  let v := s.rd pageVoq R.VOQ.VOQ_SEL
  let q := s.voq v
  let head := match q.copies with | c :: _ => s.headOk c.frame (leafPort c.leaf) | [] => false
  let s := (s.wr pageVoq R.VOQ.VOQ_D0_FRAMES q.copies.length).wr pageVoq R.VOQ.VOQ_D0_OPEN (b2n q.opened)
  let s := s.wr pageVoq R.VOQ.VOQ_D1 (satNat 32 (s.voqOctets v))
  (s.wr pageVoq R.VOQ.VOQ_D2_HEAD_ELIGIBLE (b2n head)).wr pageVoq R.VOQ.VOQ_D2_HEAD_IN_TX (b2n (s.headInTx v))

/-! ### Wipe (R314) -/

/-- The wipe of the Vat: every cell free, every VOQ empty and open, every charge 0. -/
def State.wipeVat (s : State) : State :=
  let s : State := { s with
    frames := [], cells := [], nextS := 0, nextL := 0, voqs := [], walk := none, lostCopies := 0, fences := [],
    pressOwn := 0, pressShared := 0, hosts := s.hosts.map (fun e => (e.1, { e.2 with rxq := [] })) }
  let s := s.each 48 (fun p a => a.setCharge p 0)
  (s.setCharge 63 0).each 48 (fun p a => a.showPress p)

/-! ### The Whey audit (R311–R313) -/

/-- The frames that a walk reaches: those with a copy in a VOQ or a host-delivery queue or in transmission, and those still
arriving or awaiting their decision (R311). -/
def State.reached (s : State) : List Nat :=
  (s.voqs.map (fun e => e.2.copies.map (fun c => c.frame))).flatten ++
  (s.hosts.map (fun e => e.2.rxq.map (fun c => c.frame))).flatten ++
  s.txs.filterMap (fun e => if e.2.left then none else e.2.frame) ++
  (s.frames.filter (fun e => !e.2.complete || !e.2.decided)).map (fun e => e.1)

/-- A walk begins: it takes the cells, frame records and copy records then in use (R311). -/
def State.walkStart (s : State) (reclaim periodic : Bool) : State :=
  let sending := (s.txs.filter (fun e => e.2.orphan && !e.2.left)).length
  let s : State := { s with
    walk := some { cells := s.cells.map (fun e => e.1), frames := s.frames.map (fun e => e.1), lost := s.lostCopies - sending, reclaim := reclaim, periodic := periodic }
    voqs := s.voqs.map (fun e => (e.1, { e.2 with copies := e.2.copies.map (fun c => { c with old := true }) }))
    hosts := s.hosts.map (fun e => (e.1, { e.2 with rxq := e.2.rxq.map (fun c => { c with old := true }) })) }
  (s.wr pageWhey R.WHEY.WHEY_STAT_RUNNING 1).wr pageWhey R.WHEY.WHEY_STAT_RECLAIM (b2n reclaim)

/-- WHEY_AUDIT: its walk starts at once, or after the walk that runs (R313). Stage 1: its walk runs. -/
def State.startWheyAudit (k : Cmd) (s : State) : State :=
  match s.walk with
  | none => (s.fly { k with stage := 1 }).walkStart (bitAt (k.arg 0) 0) false
  | some _ => s.fly { k with stage := 0 }

/-- No walk runs any more, and a WHEY_AUDIT that waited starts its own (R313). -/
def State.walkOver (s : State) : State :=
  let s := ({ s with walk := none } : State).wr pageWhey R.WHEY.WHEY_STAT_RUNNING 0
  match s.findOp 0x2B with
  | some k => (s.onCmd k (fun k => { k with stage := 1 })).walkStart (bitAt (k.arg 0) 0) false
  | none => s

/-- The walk in progress ends: it reports, reclaims if selected, and completes its command (R311–R313).
Log 55 (DEDUCED; unsafe). -/
def State.walkEnd (s : State) : State :=
  match s.walk with
  | none => s
  | some w =>
    let r := s.reached
    let chain := (s.frames.filter (fun e => r.contains e.1)).map (fun e => e.2.cells) |>.flatten
    let leaked := w.cells.filter (fun c => !chain.contains c && look 64 s.cells c != 64)
    let conflicts := (chain.filter (fun c => look 64 s.cells c == 64)).length
    let dead := w.frames.filter (fun f => !r.contains f)
    let first := leaked.head?
    let s := (s.wr pageWhey R.WHEY.WHEY_LEAKED leaked.length).wr pageWhey R.WHEY.WHEY_CONFLICT conflicts
    let s := ((s.wr pageWhey R.WHEY.WHEY_CAPT_PTR (first.getD 0)).wr pageWhey R.WHEY.WHEY_CAPT_OWNER
      ((first.map (fun c => look 64 s.cells c)).getD 0)).wr pageWhey R.WHEY.WHEY_CAPT_VALID (b2n first.isSome)
    let s := if w.reclaim then
        let s := leaked.foldl (fun a c => a.freeCell c) s
        ({ s with frames := s.frames.filter (fun e => !dead.contains e.1), lostCopies := s.lostCopies - w.lost
                  fences := s.fences.map (fun x => { x with frames := x.frames.filter (fun f => !dead.contains f) }) } : State)
      else s
    let n := if w.reclaim then leaked.length else 0
    let s := s.wr pageWhey R.WHEY.WHEY_RECLAIMED n
    let s := s.wr pageWhey R.WHEY.WHEY_STAT_WALKS (satNat 16 (s.rd pageWhey R.WHEY.WHEY_STAT_WALKS + 1))
    let s := ((s.raise pageWhey 0).raiseIf (leaked != []) pageWhey 1).raiseIf (conflicts != 0) pageWhey 2
    let s := if w.periodic then s else match s.findOp 0x2B with
      | some k => s.finish k stOk 0 leaked.length n
      | none => s
    s.walkOver

def execWheyWalkEnd (s : State) : Host.Outcome State Fault Refusal := done s.walkEnd

/-- `WHEY_CTL.PERIOD` in ns. -/
def State.wheyPeriod (s : State) : Nat := s.rd pageWhey R.WHEY.WHEY_CTL_PERIOD * 1000000000

/-- `WHEY_CTL` was written: a new period runs from then (R313). Log 103 (DESIGN CHOICE; unsafe). -/
def State.wheyWritten (old s : State) : State :=
  if old.wheyPeriod = s.wheyPeriod then s else { s with wheyDue := s.up + s.wheyPeriod }

/-- A periodic walk falls due, and the next one a period later; it is skipped while a walk runs (R313).
Log 103 (DESIGN CHOICE; unsafe). -/
def execWheyPeriodicStart (s : State) : Host.Outcome State Fault Refusal :=
  done (if s.wheyPeriod = 0 then s
    else
    let s := s.advance (s.wheyDue - s.up)
    let s : State := { s with wheyDue := s.wheyDue + s.wheyPeriod }
    match s.walk with
    | some _ => s.inc pageWhey R.WHEY.WHEY_SKIPPED
    | none => s.walkStart (s.flag pageWhey R.WHEY.WHEY_CTL_AUTO_RECLAIM) true)

end Sys2Proof.Machine
end

