-- ==== Sys2Proof/Machine/Lanes.lean ====
section
/-! DEFINITION. Lanes, port modes, negotiation and training, and the disable commands (R55, R167–R189, R308). -/

namespace Sys2Proof.Machine

open Sys2Proof

def State.lane (s : State) (p : Nat) : Lane := look {} s.lanes p
def State.onLane (s : State) (p : Nat) (f : Lane → Lane) : State := { s with lanes := upd {} s.lanes p f }

/-- The states of `PORT_STAT.LINK`. -/
def lkDisabled : Nat := 0
def lkAn : Nat := 1
def lkTraining : Nat := 2
def lkBackoff : Nat := 3
def lkQuiet : Nat := 4
def lkWait : Nat := 5
def lkLocking : Nat := 6
def lkUp : Nat := 7

def State.link (s : State) (p : Nat) : Nat := s.rd (pagePort p) R.PORT.PORT_STAT_LINK
def State.setLink (s : State) (p x : Nat) : State := s.wr (pagePort p) R.PORT.PORT_STAT_LINK x

/-- The PMA latencies of R29 for a mode, receive and transmit, in units of 2⁻¹⁶ ns; a lane in mode 0x0 shows those of
25.78125 Gbaud, the rate of a trunk's data lanes (DESIGN CHOICE). Log 67 (DESIGN CHOICE; unsafe). -/
def pmaLat (mode : Nat) : Nat × Nat :=
  if mode = 1 then (168000 * 65536 / 1000, 96000 * 65536 / 1000)
  else if mode = 2 ∨ mode = 3 then (divRound (46500 * 65536) 1000, divRound (24200 * 65536) 1000)
  else (divRound (18600 * 65536) 1000, divRound (9700 * 65536) 1000)

/-- `LAT_RX` and `LAT_TX` follow the mode in force, the slicer set in service and the calibrated residuals; a change raises
LAT_CHANGED (R188). -/
def State.setLat (s : State) (p : Nat) : State :=
  let g := pagePort p
  let l := s.lane p
  let b := pmaLat (s.mode p)
  let rx := ofInt 32 ((b.1 : Int) + (if s.flag g R.PORT.PORT_STAT_SLICER_SET then l.lat1 else l.lat0))
  let tx := ofInt 32 ((b.2 : Int) + l.latTx)
  let changed := rx != s.rd g R.PORT.LAT_RX || tx != s.rd g R.PORT.LAT_TX
  ((s.wr g R.PORT.LAT_RX rx).wr g R.PORT.LAT_TX tx).raiseIf changed g 8

/-- Log 67 (DESIGN CHOICE; unsafe). -/
def State.setMode (s : State) (p x : Nat) : State := (s.wr (pagePort p) R.PORT.PORT_STAT_MODE x).setLat p

/-- A mode with transmitter training (R169). -/
def trained (mode : Nat) : Bool := mode == 3 || mode == 5 || mode == 6

/-- Signal is present at the lane (R179). -/
def State.signal (s : State) (p : Nat) : Bool := s.flag (pagePort p) R.PORT.PORT_STAT_SIGNAL

/-- The lane serves an enabled port or an enabled trunk. -/
def State.laneOn (s : State) (p : Nat) : Bool := s.isLane p || s.link p != lkDisabled

/-- `TX_FIR` becomes the taps in force (R175). -/
def State.loadFir (s : State) (p : Nat) : State :=
  let g := pagePort p
  ((s.wr g R.PORT.TX_FIR_LIVE_C_PRE (s.rd g R.PORT.TX_FIR_C_PRE)).wr g R.PORT.TX_FIR_LIVE_C_MAIN (s.rd g R.PORT.TX_FIR_C_MAIN)).wr g
    R.PORT.TX_FIR_LIVE_C_POST (s.rd g R.PORT.TX_FIR_C_POST)

/-- A write of `TX_FIR` takes effect at once where the mode has no training (R175). -/
def State.firWritten (s : State) (p : Nat) : State :=
  if s.link p ≠ lkDisabled ∧ (s.mode p = 1 ∨ s.mode p = 2 ∨ s.mode p = 4) then s.loadFir p else s

/-- A lane is unsquelched, with the polarity that its group's page sets (R168). -/
def State.openLane (s : State) (p : Nat) : State :=
  let g := pageGrp (p / 8)
  s.onLane p (fun l => { l with on := true, invTx := bitAt (s.rd g R.GRP.G_LANE_POL_TX_INV) (p % 8), invRx := bitAt (s.rd g R.GRP.G_LANE_POL_RX_INV) (p % 8) })

def State.squelch (s : State) (p : Nat) : State := s.onLane p (fun l => { l with on := false })
def State.unsquelch (s : State) (p : Nat) : State := s.onLane p (fun l => { l with on := true })

/-! ### Slicer measurements (R182, R386) -/

/-- A measurement ends, with ABORTED or a count; EYE_DONE is raised either way. Log 119 (DESIGN CHOICE; unsafe). -/
def State.eyeEnd (s : State) (p : Nat) (aborted : Bool) : State :=
  let g := pagePort p
  let s := ((s.wr g R.PORT.EYE_CTL_START 0).wr g R.PORT.EYE_STAT_BUSY 0).wr g R.PORT.EYE_STAT_WAIT 0
  (s.wr g R.PORT.EYE_STAT_ABORTED (b2n aborted)).raise g 6

/-- The line rate of a lane in thirty-seconds of a Gbaud (R169). -/
def baud32 (mode : Nat) : Nat := if mode = 1 then 40 else if mode = 2 ∨ mode = 3 then 330 else 825

/-- The dwell of a measurement in ns: 2^(20 + DWELL) bits (R182). -/
def State.eyeDwell (s : State) (p : Nat) : Nat :=
  let b := baud32 (s.mode p)
  (2 ^ (20 + s.rd (pagePort p) R.PORT.EYE_CTL_DWELL) * 32 + b - 1) / b

/-- The dwell begins, or the measurement aborts for want of block lock or of a second set. -/
def State.eyeBegin (s : State) (p : Nat) : State :=
  let g := pagePort p
  if ¬ s.flag g R.PORT.PORT_STAT_BLOCK_LOCK ∨ (s.lane p).retired ≠ 0 then s.eyeEnd p true
  else (((s.wr g R.PORT.EYE_STAT_BUSY 1).wr g R.PORT.EYE_STAT_WAIT 0).wr g R.PORT.EYE_STAT_ABORTED 0).onLane p (fun l =>
    { l with borrowed := true, eyeTo := s.up + s.eyeDwell p })

/-- The Cave is calibrating the set out of service. -/
def Lane.calibrating (l : Lane) : Bool := l.run == 1 || l.run == 3 || l.recal

/-- A rising write of `EYE_CTL.START`: it waits while the Cave calibrates the set, BUSY 0 meanwhile. Log 119 (DESIGN CHOICE; unsafe). -/
def State.eyeStart (s : State) (p : Nat) : State :=
  let g := pagePort p
  if (s.lane p).calibrating ∧ s.flag g R.PORT.PORT_STAT_BLOCK_LOCK ∧ (s.lane p).retired = 0 then
    (s.wr g R.PORT.EYE_STAT_WAIT 1).wr g R.PORT.EYE_STAT_ABORTED 0
  else s.eyeBegin p

/-- A measurement that waited for a calibration begins. -/
def State.eyeResume (s : State) (p : Nat) : State :=
  if s.flag (pagePort p) R.PORT.EYE_STAT_WAIT ∧ ¬ (s.lane p).calibrating then s.eyeBegin p else s

/-- A loss of block lock during the dwell ends it. -/
def State.eyeLost (s : State) (p : Nat) : State := if s.flag (pagePort p) R.PORT.EYE_STAT_BUSY then s.eyeEnd p true else s

/-- The dwell ends with its count of disagreements, `errs`, which the receiver's eye gives at the point that `EYE_CTL` names. -/
def execEyeDone (p errs : Nat) (s : State) : Host.Outcome State Fault Refusal :=
  let p := p % 48
  done (if s.flag (pagePort p) R.PORT.EYE_STAT_BUSY then ((s.advance ((s.lane p).eyeTo - s.up)).wr (pagePort p) R.PORT.EYE_ERR (satNat 32 errs)).eyeEnd p false else s)

/-! ### The link (R177, R178) -/

/-- The receiver of a lane starts afresh: no block lock. Log 56 (DEDUCED; unsafe). -/
def State.lockClear (s : State) (p : Nat) : State :=
  ((s.eyeLost p).wr (pagePort p) R.PORT.PORT_STAT_BLOCK_LOCK 0).wr (pagePort p) R.PORT.PORT_STAT_HI_BER 0

/-- A new attempt: training frames go out, and the receiver asks for tap changes as it needs (R176, R177). -/
def State.attempt (s : State) (p : Nat) : State :=
  let s := (((s.unsquelch p).loadFir p).lockClear p).emit (.training p true)
  (s.wr (pagePort p) R.PORT.PORT_STAT_ATTEMPTS (satNat 8 (s.rd (pagePort p) R.PORT.PORT_STAT_ATTEMPTS + 1))).setLink p lkTraining

/-- The full `AN_ADV` is advertised again, and `AN_RES.FEC_REFUSED` clears (R173). Log 56 (DEDUCED; unsafe). -/
def State.restoreAdv (s : State) (p : Nat) : State :=
  (s.onLane p (fun l => { l with withdrawn := none })).wr (pagePort p) R.PORT.AN_RES_FEC_REFUSED 0

/-- Clause 73 starts, with the abilities that `AN_ADV` holds now but for those withdrawn, its pause bits and no FEC bit; the EEE technology
message page goes with the base page where EEE is 1 (R172, R173, R177). Log 118 (DESIGN CHOICE; unsafe). -/
def State.startAn (s : State) (p : Nat) : State :=
  let g := pagePort p
  let all := (s.lane p).withdrawn.isNone
  let bit (f : Fld) : Nat := s.rd g f * 2 ^ f.lo
  let base := bit R.PORT.AN_ADV_A0 + bit R.PORT.AN_ADV_A2 + (if all then bit R.PORT.AN_ADV_A9 + bit R.PORT.AN_ADV_A10 else 0)
    + bit R.PORT.AN_ADV_PAUSE + bit R.PORT.AN_ADV_ASM_DIR
  (s.onLane p (fun l => { l with adv := base, eeeAdv := s.flag g R.PORT.AN_ADV_EEE })).emit (.anPage p base (s.flag g R.PORT.AN_ADV_EEE))

/-- Clause 37 starts: full duplex, and the pause bits of `AN_ADV` as PS1 and PS2 (R174, R177). -/
def State.startC37 (s : State) (p : Nat) : State :=
  let g := pagePort p
  (s.onLane p (fun l => { l with c37 := false })).emit (.config p true (s.flag g R.PORT.AN_ADV_PAUSE) (s.flag g R.PORT.AN_ADV_ASM_DIR))

/-- Clause 73 restarts from a state other than AN (R173, R177). -/
def State.restartAn (s : State) (p : Nat) : State :=
  (((((s.restoreAdv p).unsquelch p).lockClear p).setMode p 0).startAn p).setLink p lkAn

/-- The port reaches UP: LINK_UP, and the back-off sequence and the PAUSE results are settled (R177, R251). Copies that
found the link down until now are discarded first (R250). -/
def State.linkUp (s : State) (p : Nat) : State :=
  let s := ((((s.inbandDrop p).flushPort p).setLink p lkUp).raise (pagePort p) 0).onLane p (fun l => { l with fails := 0 })
  (s.settlePause p).touchPort p

/-- A port in LOCKING is UP as soon as it has block lock with hi_ber clear and, at 1000BASE-X, Clause 37 is done with (R177). -/
def State.lockCheck (s : State) (p : Nat) : State :=
  let g := pagePort p
  if s.link p = lkLocking ∧ s.flag g R.PORT.PORT_STAT_BLOCK_LOCK ∧ ¬ s.flag g R.PORT.PORT_STAT_HI_BER ∧
    (s.mode p ≠ 1 ∨ (s.lane p).c37) then s.linkUp p else s

/-- The PCS of a port in test mode puts out the pattern that `PAT_CTL.TX` chooses (R181). -/
def State.putPattern (s : State) (p : Nat) : State :=
  if s.flag (pagePort p) R.PORT.PORT_STAT_TEST ∧ (s.link p = lkLocking ∨ s.link p = lkUp) then
    s.emit (.pattern p (s.rd (pagePort p) R.PORT.PAT_CTL_TX)) else s

/-- The PCS starts (R176, R177). -/
def State.locking (s : State) (p : Nat) : State := ((s.setLink p lkLocking).putPattern p).lockCheck p

/-- The pattern checker of a port runs (R181). -/
def State.checksPattern (s : State) (p : Nat) : Bool :=
  s.flag (pagePort p) R.PORT.PORT_STAT_TEST && s.flag (pagePort p) R.PORT.PAT_CTL_RX && s.link p == lkUp

/-- `PAT_ERR` with what the checker has found since it last stood still. Log 81 (DESIGN CHOICE; safe). -/
def State.patCount (s : State) (p : Nat) : Nat := satNat 32 (s.rd (pagePort p) R.PORT.PAT_ERR + Config.patErr s.free)

/-- The checker stops: what it found stays in `PAT_ERR` until it is read (R181). -/
def State.patStop (s : State) (p : Nat) : State :=
  if s.checksPattern p then { s.wr (pagePort p) R.PORT.PAT_ERR (s.patCount p) with free := s.free + 1 } else s

/-- `PAT_CTL` was written; `old` is the state before (R181). -/
def State.patWritten (old : State) (p : Nat) (s : State) : State :=
  let s := if old.checksPattern p ∧ ¬ s.checksPattern p then
      { s.wr (pagePort p) R.PORT.PAT_ERR (old.patCount p) with free := s.free + 1 } else s
  s.putPattern p

/-- The port leaves UP, and the frame it is sending counts as sent (R95, R177, R250). -/
def State.linkDown (s : State) (p : Nat) : State :=
  let g := pagePort p
  let s := ((((s.patStop p).txAbort p).gwDrop p).raise g 1).inc g R.PORT.CNT_LINK_DOWN
  let s := (s.wr g R.PORT.PORT_STAT_LPI_TX 0).wr g R.PORT.PORT_STAT_LPI_RX 0
  let s := if (s.lane p).an then s.restartAn p
    else if trained (s.mode p) then
      (if s.signal p then s.attempt p else (s.squelch p).setLink p lkQuiet)
    else (if s.mode p = 1 then s.startC37 p else s).setLink p lkLocking
  (s.touchPort p).synceCands

/-- A port leaves DISABLED in a mode, as PORT_ENABLE or a trunk's fall back makes it; `AN_LP` keeps what it shows until pages come
(R171, R177, R204). Log 118 (DESIGN CHOICE; unsafe). -/
def State.enablePort (s : State) (p mode : Nat) (test : Bool) : State :=
  let g := pagePort p
  let s := s.openLane p
  let s := s.onLane p (fun l => { l with an := mode == 0, fails := 0, c37 := false })
  let s := ((s.restoreAdv p).wr g R.PORT.AN_RES_NO_COMMON 0).wr g R.PORT.AN_RES_BYPASS 0
  let s := ((s.wr g R.PORT.PORT_STAT_ATTEMPTS 0).wr g R.PORT.PORT_STAT_TEST (b2n test)).setMode p mode
  if mode = 0 then ((s.lockClear p).startAn p).setLink p lkAn
  else if trained mode then s.attempt p
  else
    let s := if mode = 1 then s.startC37 p else s
    (((s.loadFir p).lockClear p).setLink p lkLocking).putPattern p

/-- PORT_ENABLE (R171). Log 56 (DEDUCED; unsafe). -/
def State.startPortEnable (k : Cmd) (s : State) : State :=
  let p := k.arg 0
  let s := s.fly k
  if ¬ s.tokenHeld ∨ ¬ s.isOn (8 + p / 8) ∨ s.isLane p ∨ s.link p ≠ lkDisabled then s.finishSt k stWrongState
  else (s.enablePort p (k.arg 1 % 16) (bitAt (k.arg 1) 8)).finishSt k stOk

/-! ### Clause 73 and Clause 37 (R172–R174) -/

/-- The technology abilities and FEC bits of a partner's pages (R173): A0, A2, A9, A10, F2 and F3 where `AN_LP` has them, and those it does
not show, in bits 56:32. -/
def techBits (lp : Nat) : Nat := lp &&& 0x1FFFFFF03000605

/-- The next pages of the partner other than the EEE technology message: their number, above bit 56 (R172). -/
def otherPages (lp : Nat) : Nat := lp / 2 ^ 57

/-- Shows the partner's pages in `AN_LP`; the one that carries EEE is read only where EEE is advertised (R172). -/
def State.showLp (s : State) (p lp : Nat) : State :=
  let g := pagePort p
  let w (f : Fld) (s : State) : State := s.wr g f (bits lp f.lo f.w)
  w R.PORT.AN_LP_A0 s |> w R.PORT.AN_LP_A2 |> w R.PORT.AN_LP_A9 |> w R.PORT.AN_LP_A10 |> w R.PORT.AN_LP_PAUSE |> w R.PORT.AN_LP_ASM_DIR
    |> (fun s => s.wr g R.PORT.AN_LP_EEE (b2n ((s.lane p).eeeAdv && bitAt lp 20))) |> w R.PORT.AN_LP_F2 |> w R.PORT.AN_LP_F3 |> fun s => s.wr g R.PORT.AN_LP_VALID 1

/-- The highest common ability of the page sent and the partner's: its bit in the page, in the order A10, A9, A2, A0 (R172). -/
def State.anCommon (s : State) (p lp : Nat) : Option Nat := [10, 9, 2, 0].find? (fun b => bitAt (s.lane p).adv b && bitAt lp b)

/-- A resolution to a mode (R172). -/
def State.anMode (s : State) (p mode : Nat) : State :=
  let g := pagePort p
  let s := (((s.wr g R.PORT.AN_RES_MODE mode).wr g R.PORT.AN_RES_NO_COMMON 0).wr g R.PORT.AN_RES_BYPASS (b2n (mode == 1))).raise g 2
  let s := s.setMode p mode
  if mode = 1 then ((s.loadFir p).onLane p (fun l => { l with c37 := true })).locking p else s.attempt p

/-- An exchange of Clause 73 pages completes; `lp` is the partner's pages: bits 31:0 as `AN_LP` lays them out, the abilities and FEC bits that
it does not show in bits 56:32, and the number of its other next pages above, each acknowledged with a null page. A page that differs
from the one that caused a refusal restores what was withdrawn, which is sent at once (R172, R173).
Log 56 (DEDUCED; unsafe). Log 118 (DESIGN CHOICE; unsafe). -/
def State.anResolved (s : State) (p lp : Nat) : State :=
  let g := pagePort p
  if s.link p ≠ lkAn then s else
  let s := s.showLp p lp
  let s := if otherPages lp = 0 then s else s.emit (.nullPages p (otherPages lp))
  let s := if (s.lane p).withdrawn.any (fun x => x != techBits lp) then (s.restoreAdv p).startAn p else s
  match s.anCommon p lp with
  | none => s.wr g R.PORT.AN_RES_NO_COMMON 1
  | some b =>
    if b ≥ 9 ∧ (bitAt lp 24 ∨ bitAt lp 25) then
      ((((s.wr g R.PORT.AN_RES_FEC_REFUSED 1).raise g 7).inc g R.PORT.CNT_FEC_REFUSED).onLane p
        (fun l => { l with withdrawn := some (techBits lp) })).startAn p
    else if b ≥ 9 then s.anMode p (if s.flag g R.PORT.TRAIN_CTL_MEDIUM then 5 else 6)
    else s.anMode p (if b = 2 then 3 else 1)

def execAnResolved (p lp : Nat) (s : State) : Host.Outcome State Fault Refusal := done (s.anResolved (p % 48) lp)

/-- A port in mode 0x1 that runs Clause 37, with code-group synchronisation (R174). -/
def State.inC37 (s : State) (p : Nat) : Bool :=
  s.link p == lkLocking && s.mode p == 1 && !(s.lane p).an && !(s.lane p).c37 && s.flag (pagePort p) R.PORT.PORT_STAT_BLOCK_LOCK

/-- No configuration ordered set comes within link_timer: the link completes with BYPASS (R174). -/
def execClause37LinkTimer (p : Nat) (s : State) : Host.Outcome State Fault Refusal :=
  let p := p % 48
  done (if ¬ s.inC37 p then s
    else ((s.wr (pagePort p) R.PORT.AN_RES_BYPASS 1).onLane p (fun l => { l with c37 := true })).lockCheck p)

/-- Clause 37 completes with the partner's PS1 and PS2, the other bits of `AN_LP` as they stood (R174). Log 118 (DESIGN CHOICE; unsafe). -/
def execClause37Complete (p : Nat) (pause asm : Bool) (s : State) : Host.Outcome State Fault Refusal :=
  let p := p % 48
  let g := pagePort p
  done (if ¬ s.inC37 p then s else
    let s := ((s.wr g R.PORT.AN_LP_PAUSE (b2n pause)).wr g R.PORT.AN_LP_ASM_DIR (b2n asm)).wr g R.PORT.AN_LP_VALID 1
    let s := (s.wr g R.PORT.AN_RES_BYPASS 0).raise g 2
    (s.onLane p (fun l => { l with c37 := true })).lockCheck p)

/-! ### Training (R175–R178) -/

/-- The limits of R175 on the magnitudes of the taps. -/
def firOk (pre main post : Nat) : Bool := decide (pre ≤ 10 ∧ 14 ≤ main ∧ main ≤ 40 ∧ post ≤ 16 ∧ pre + main + post ≤ 40)

/-- A request moves a tap's magnitude by one unit: 0 hold, 1 increment, 2 decrement. An increment of c(−1) or c(1), whose
sign is negative, lowers its magnitude (PRESUMED). Log 57 (PRESUMED; unsafe). -/
def tapMove (neg : Bool) (req x : Nat) : Nat :=
  if req = 0 then x else if (req = 1) = (neg = true) then x - 1 else x + 1

/-- One tap's answer: its new magnitude and status; a request that would break R175 leaves it as it is (R176). -/
def tapAnswer (ok : Nat → Bool) (neg : Bool) (req x : Nat) : Nat × Nat :=
  if req = 0 then (x, 0)
  else if (tapMove neg req x ≠ x) ∧ ok (tapMove neg req x) then (tapMove neg req x, 1)
  else (x, if req = 1 then 3 else 2)

/-- The lane answers a partner's request: `kind` 0 coefficient updates by tap, 1 preset, 2 initialize (R175, R176).
Log 57 (PRESUMED; unsafe). -/
def State.trainRequest (s : State) (p kind pre main post : Nat) : State :=
  let g := pagePort p
  let x := (s.rd g R.PORT.TX_FIR_LIVE_C_PRE, s.rd g R.PORT.TX_FIR_LIVE_C_MAIN, s.rd g R.PORT.TX_FIR_LIVE_C_POST)
  let set (s : State) (a b c : Nat) : State :=
    ((s.wr g R.PORT.TX_FIR_LIVE_C_PRE a).wr g R.PORT.TX_FIR_LIVE_C_MAIN b).wr g R.PORT.TX_FIR_LIVE_C_POST c
  if ¬ (s.link p = lkTraining ∨ (s.isLane p ∧ s.rd (pageNT (p / 4)) R.NT.TRUNK_STAT_STATE = 1)) then s
  else if kind = 1 then (set s 0 40 0).emit (.trainStatus p 1 1 1)
  else if kind = 2 then (s.loadFir p).emit (.trainStatus p 1 1 1)
  else
    let a := tapAnswer (fun v => firOk v x.2.1 x.2.2) true (pre % 3) x.1
    let b := tapAnswer (fun v => firOk a.1 v x.2.2) false (main % 3) x.2.1
    let c := tapAnswer (fun v => firOk a.1 b.1 v) true (post % 3) x.2.2
    (set s a.1 b.1 c.1).emit (.trainStatus p a.2 b.2 c.2)

def execTrainingRequest (p kind pre main post : Nat) (s : State) : Host.Outcome State Fault Refusal :=
  done (s.trainRequest (p % 48) kind pre main post)

/-- Both receivers report ready: the taps freeze and the PCS starts (R176, R177). -/
def execTrainingComplete (p : Nat) (s : State) : Host.Outcome State Fault Refusal :=
  let p := p % 48
  done (if s.link p = lkTraining then s.locking p else s)

/-- The back-off after the n-th failure in a row, in seconds (R178). -/
def backoffSec (n : Nat) : Nat := if n ≤ 5 then 2 ^ (n - 1) else 16

/-- max_wait_timer expires in a port's attempt: in a trained mode not-ready frames go out for the back-off period (R177, R178). -/
def execMaxWaitExpiry (p : Nat) (s : State) : Host.Outcome State Fault Refusal :=
  let p := p % 48
  let g := pagePort p
  done (if s.link p ≠ lkTraining then s else
    let s := (s.inc g R.PORT.CNT_TRAIN_FAIL).raise g 3
    if (s.lane p).an then s.restartAn p
    else ((s.onLane p (fun l => { l with fails := l.fails + 1, till := s.up + backoffSec (l.fails + 1) * 1000000000 })).emit (.notReady p)).setLink p lkBackoff)

/-- A back-off period ends (R177, R178). -/
def execBackoffExpiry (p : Nat) (s : State) : Host.Outcome State Fault Refusal :=
  let p := p % 48
  done (if s.link p = lkBackoff then (s.advance ((s.lane p).till - s.up)).attempt p else s)

/-- Frame lock is gained on the partner's frames during the back-off (R177). -/
def execTrainingFrameLock (p : Nat) (s : State) : Host.Outcome State Fault Refusal :=
  let p := p % 48
  done (if s.link p = lkBackoff then s.attempt p else s)

/-- The 75 ms of QUIET end (R177). -/
def execQuietExpiry (p : Nat) (s : State) : Host.Outcome State Fault Refusal :=
  let p := p % 48
  done (if s.link p ≠ lkQuiet then s
    else if (s.lane p).an then s.restartAn p else ((s.unsquelch p).emit (.notReady p)).setLink p lkWait)

/-- Signal has been present for 100 ms in WAIT_SIGNAL (R177). -/
def execSignalStable (p : Nat) (s : State) : Host.Outcome State Fault Refusal :=
  let p := p % 48
  done (if s.link p = lkWait ∧ s.signal p then s.attempt p else s)

/-! ### Events of a port's receiver; those of a trunk's lanes stand with the trunks -/

/-- What LOS does to a port; `seen` says that signal was present for at least 10 µs within the attempt (R177). -/
def State.portLos (s : State) (p : Nat) (seen : Bool) : State :=
  if s.link p = lkTraining ∧ seen then (s.squelch p).setLink p lkQuiet else s

/-- The PLL of a lane loses or regains lock (R168). -/
def execLanePllLost (p : Nat) (locked : Bool) (s : State) : Host.Outcome State Fault Refusal :=
  let p := p % 48
  let g := pageGrp (p / 8)
  let v := s.rd g R.GRP.G_STAT_PLL
  let w := v - bits v (p % 8) 1 * 2 ^ (p % 8)
  done (if ¬ s.isOn (8 + p / 8) then s else
    let lost := bitAt v (p % 8) && !locked
    (s.wr g R.GRP.G_STAT_PLL (if locked then w + 2 ^ (p % 8) else w)).raiseIf (lost && s.laneOn p) g 0)

/-! ### Disable commands (R55, R308) -/

/-- The commands that close an object and drain it. -/
def drains (k : Cmd) : Bool := k.op == 0x21 || k.op == 0x23 || k.op == 0x24

/-- `HDR_STATUS.BUSY` of a page follows the disable commands in flight on it. -/
def State.showBusy (s : State) (p : Nat) : State :=
  s.wr p R.HDR.HDR_STATUS_BUSY (b2n (s.cmds.any (fun k => drains k && k.started && k.page == p)))

/-- The forwarding port whose work a disable command drains. -/
def drainPort (k : Cmd) : Nat := if k.op = 0x21 then k.arg 0 else if k.op = 0x23 then 4 * k.arg 0 else leafPort (voqLeaf (k.arg 0))

/-- A disable command covers the VOQ; ARG0 of QUEUE_DISABLE is a VOQ, or a leaf where ARG1[0] is 1. -/
def covers (k : Cmd) (v : Nat) : Bool :=
  if k.op = 0x24 then (if bitAt (k.arg 1) 0 then voqLeaf v == k.arg 0 else v == k.arg 0)
  else leafPort (voqLeaf v) == drainPort k

/-- A frame of the work that a disable command drains is in transmission. -/
def State.sendsFor (s : State) (k : Cmd) : Bool :=
  match (s.tx (drainPort k)).kind with
  | .copy v _ => covers k v
  | _ => false

/-- Discards what is queued in a VOQ but the copy in transmission, counting frames and octets (R55).
Log 59 (DEDUCED; unsafe). -/
def State.discardVoq (s : State) (k : Cmd) (v : Nat) : State :=
  let keep := if s.headInTx v then 1 else 0
  let gone := (s.voq v).copies.drop keep
  let octs := (gone.map (fun c => (s.frame c.frame).octets.length)).sum
  let s := s.onCmd k (fun j => { j with r0 := j.r0 + gone.length, r1 := j.r1 + octs })
  let s := s.onVoq v (fun q => { q with copies := q.copies.take keep })
  (gone.foldl (fun a c => a.copyGone c.frame) s).quietIf (leafPort (voqLeaf v)) (gone != [])

/-- Discards everything queued that a command covers. -/
def State.discardAll (s : State) (k : Cmd) : State :=
  (((s.voqs.map (fun e => e.1)).filter (covers k)).foldl (fun a v => a.discardVoq k v) (s.onCmd k (fun j => { j with stage := 1 }))).touchPort (drainPort k)

/-- Nothing that the command drains is left. -/
def State.drained (s : State) (k : Cmd) : Bool := (s.voqs.all (fun e => !covers k e.1 || e.2.copies == [])) && !s.sendsFor k

/-- A port is DISABLED (R95, R177); the last of a fallen-back trunk's four ports ends its FALLBACK (R201). -/
def State.portDisabled (s : State) (p : Nat) : State :=
  let g := pagePort p
  let s := (((s.patStop p).squelch p).lockClear p).setMode p 0
  let s := ((s.wr g R.PORT.PORT_STAT_TEST 0).wr g R.PORT.PORT_STAT_LPI_TX 0).wr g R.PORT.PORT_STAT_LPI_RX 0
  let s := (((s.txAbort p).gwDrop p).setLink p lkDisabled).synceCands
  let n := p / 4
  if s.rd (pageNT n) R.NT.TRUNK_STAT_STATE = 8 ∧ (List.range 4).all (fun i => s.link (4 * n + i) == lkDisabled) then
    s.wr (pageNT n) R.NT.TRUNK_STAT_STATE 0 else s

/-- A disable command completes with what it discarded (R55). -/
def State.drainDone (s : State) (k : Cmd) : State :=
  (s.finish k (if k.r0 = 0 then stOk else stDiscard) 0 (satNat 32 k.r0) (satNat 32 k.r1)).showBusy k.page

/-- The command as it now stands in flight. -/
def State.current (s : State) (k : Cmd) : Cmd := (s.cmds.find? (fun j => j.is k.ctx k.count)).getD k

/-- PORT_DISABLE and QUEUE_DISABLE complete once nothing is left. -/
def State.drainCheck (s : State) (k : Cmd) : State :=
  if ¬ s.drained k then s
  else if k.op = 0x21 then (s.portDisabled (k.arg 0)).drainDone (s.current k)
  else s.drainDone (s.current k)

/-- PORT_DISABLE (R55). -/
def State.startPortDisable (k : Cmd) (s : State) : State :=
  let p := k.arg 0
  let s := s.fly k
  if s.isLane p ∨ s.link p = lkDisabled then s.finishSt k stWrongState
  else
    let s := s.showBusy k.page
    if bitAt (k.arg 1) 0 then (s.discardAll k).drainCheck k else s

/-- The VOQs that a queue command names. -/
def queueNames (k : Cmd) : List Nat := if bitAt (k.arg 1) 0 then (List.range 48).map (fun i => voqOf i (k.arg 0)) else [k.arg 0]

/-- QUEUE_DISABLE (R308): OPEN clears at acceptance. -/
def State.startQueueDisable (k : Cmd) (s : State) : State :=
  let s := (s.fly k).showBusy k.page
  let s := (queueNames k).foldl (fun a v => a.onVoq v (fun q => { q with opened := false })) s
  if bitAt (k.arg 1) 8 then (s.discardAll k).drainCheck k else s

/-- QUEUE_ENABLE (R308). -/
def State.startQueueEnable (k : Cmd) (s : State) : State :=
  ((queueNames k).foldl (fun a v => a.onVoq v (fun q => { q with opened := true })) (s.fly k)).finishSt k stOk

end Sys2Proof.Machine
end

