-- ==== Sys2Proof/Machine/Trunks.lean ====
section
/-! DEFINITION. Nimlin trunks: negotiation, trunk blocks, time transfer and the asymmetry estimator (R190–R221). Instants and
delays are in units of 1/54,067,200 ns. -/

namespace Sys2Proof.Machine

open Sys2Proof

def State.trunk (s : State) (n : Nat) : Trunk := look {} s.trunks n
def State.onTrunk (s : State) (n : Nat) (f : Trunk → Trunk) : State := { s with trunks := upd {} s.trunks n f }
def State.onNt (s : State) (t n : Nat) (f : NtTime → NtTime) : State := { s with ntTimes := upd {} s.ntTimes (12 * t + n) f }

/-- The states of `TRUNK_STAT.STATE` (R201). -/
def tkDisabled : Nat := 0
def tkTraining : Nat := 1
def tkBackoff : Nat := 2
def tkQuiet : Nat := 3
def tkWaitSig : Nat := 4
def tkAligning : Nat := 5
def tkHello : Nat := 6
def tkUp : Nat := 7
def tkFallback : Nat := 8

def State.tstate (s : State) (n : Nat) : Nat := s.rd (pageNT n) R.NT.TRUNK_STAT_STATE
def State.setTstate (s : State) (n x : Nat) : State := s.wr (pageNT n) R.NT.TRUNK_STAT_STATE x

/-- Applies a change to the four lanes of a trunk (R190). -/
def State.lanes4 (s : State) (n : Nat) (f : Nat → State → State) : State := s.each 4 (fun i a => f (4 * n + i) a)

/-- The trunk's PCS runs and its clock lane carries the tone (R200). -/
def State.tone (s : State) (n : Nat) : Bool := decide (tkAligning ≤ s.tstate n ∧ s.tstate n ≤ tkUp)

/-! ### Units (R194, R198) -/

def qNs : Int := 54067200
/-- 2⁻¹⁶ ns, 2⁻¹⁰ ns, a UI, a tone period and a marker interval. -/
def q16 : Int := 825
def q10 : Int := 52800
def qUi : Int := 2097152
def qTone : Int := 16777216
def qMarker : Int := 2 ^ 40

/-- 9.700 ns and 7.400 ns (R29). -/
def qTx0 : Int := 524451840
def qClk : Int := 400097280

/-- T of marker number `k` = C × 825 + m (R194). -/
def markerAt (k : Nat) : Int := (k : Int) * qMarker

/-- o_m in UI (R195). -/
def markOfs (m : Nat) : Nat := 16 * m % 66

/-! ### Trunk blocks (R197, R198) -/

def kHello : Nat := 0x5A
def kMarker : Nat := 0x69
def kFiller : Nat := 0x3C
def kEcho : Nat := 0x96
def kTime : Nat := 0xA5

/-- The CRC-8 of a block's type octet and payload bits [47:0] (R197). Log 48 (DEDUCED; unsafe). -/
def blockCrc (kind p : Nat) : Nat := crc 8 0x07 0xFF (bitsLsb 8 kind ++ bitsLsb 48 p)

/-- A payload with its CRC. -/
def sealBlock (kind p : Nat) : Nat := p % 2 ^ 48 + blockCrc kind p * 2 ^ 48

/-- A received block is one of R197 with a good CRC (R199). -/
def blockOk (kind p : Nat) : Bool :=
  [kHello, kMarker, kFiller, kEcho, kTime].contains kind && bits p 48 8 == blockCrc kind (p % 2 ^ 48)

/-- A Hello's fields (R198). -/
def helloOf (p : Nat) : Hello :=
  { genMax := bits p 0 4, genSel := bits p 4 4, feat := bits p 8 8, node := bits p 16 16, trunk := bits p 32 4, lane := bits p 36 2, ack := bitAt p 38 }

/-- A Hello's payload (R198). -/
def helloBits (h : Hello) : Nat :=
  h.genMax % 16 + h.genSel % 16 * 2 ^ 4 + h.feat % 256 * 2 ^ 8 + h.node % 65536 * 2 ^ 16 + h.trunk % 16 * 2 ^ 32 + h.lane % 4 * 2 ^ 36 + b2n h.ack * 2 ^ 38

/-- A Marker's payload (R198). -/
def markerBits (k lane : Nat) : Nat := k % 825 + markOfs (k % 825) * 2 ^ 10 + lane * 2 ^ 17 + k / 825 % 2 ^ 28 * 2 ^ 19

/-- A block is discarded and counted (R199). -/
def State.badBlock (s : State) (n : Nat) : State := s.inc (pageNT n) R.NT.CNT_BLK_CRC

/-- The device sends at generation 2 (R198, R214). -/
def Trunk.gen2 (x : Trunk) : Bool := x.genMax == 2 || x.sel == 2

/-- The FEAT offered before a Hello has come: ASYM as ASYM_EN says, and CMCAST; none at generation 2 (R198, R203).
Log 60 (DEDUCED; unsafe). -/
def State.offer (s : State) (n : Nat) : Nat :=
  if (s.trunk n).genMax = 2 then 0 else b2n (s.flag (pageNT n) R.NT.TRUNK_CTL_ASYM_EN) + 2

/-- The Hello that the trunk sends on a lane (R198, R203). -/
def State.ownHello (s : State) (n lane : Nat) : Hello :=
  let x := s.trunk n
  { genMax := x.genMax, genSel := x.sel, feat := x.feat, node := s.rd (pageNT n) R.NT.TRUNK_NODE_ID, trunk := n, lane := lane, ack := x.got == 7 }

/-- A value in units of 2⁻¹⁶ ns as a signed field of `w` bits in units of 2⁻¹⁰ ns: the nearest, ties to the even one, and
saturating (R198). -/
def resField (w : Nat) (x : Int) : Nat := satInt w (divEven (x * q16) q10)

/-- TX0_RES and CLK_RES of this end, in units of 2⁻¹⁶ ns (R198); 9.700 ns is not a whole number of them, so TX0_RES is exact
in the finer unit alone. -/
def State.txRes (s : State) (n : Nat) : Nat :=
  let g := pagePort (4 * n)
  satInt 12 (divEven ((s.rd g R.PORT.LAT_TX + s.rdS g R.PORT.EXT_DLY_TX) * q16 - qTx0) q10)
/-- Log 62 (DESIGN CHOICE; safe). -/
def State.clkRes (s : State) (n : Nat) : Nat := resField 9 (Config.clkTxRes n + s.rdS (pagePort (4 * n + 3)) R.PORT.EXT_DLY_TX)

/-! ### The asymmetry estimator (R211–R213, R219) -/

/-- The mean of some values, to the nearest unit. -/
def mean (l : List Int) : Int := if l = [] then 0 else divEven l.sum l.length

/-- D₀₃ as a fraction of ps/km (R212). -/
def State.d03 (s : State) (n : Nat) : Int × Int :=
  let g := pageNT n
  let a : Int := s.rd g R.NT.TRUNK_WAVE_W0
  let b : Int := s.rd g R.NT.TRUNK_WAVE_W3
  let z : Int := s.rd g R.NT.TRUNK_DISP_LZ
  let f (x : Int) : Int := (x * x - z * z) * (x * x - z * z)
  (s.rd g R.NT.TRUNK_DISP_S0 * (f a * b * b - f b * a * a), 8000000 * a * a * b * b)

/-- |D₀₃| ≥ 5 ps/km (R213). -/
def State.disperses (s : State) (n : Nat) : Bool := let d := s.d03 n; decide ((d.1.natAbs : Int) ≥ 5 * d.2)

/-- δ̄ and the averaged RTT in use, kept values first (R207, R211, R219). -/
def State.skewMean (s : State) (t n : Nat) : Int :=
  let x := s.ntTime t n
  match x.kept with | some k => if x.resumed then k.1 else mean x.deltas | none => mean x.deltas
def State.rttMean (s : State) (t n : Nat) : Int :=
  let x := s.ntTime t n
  match x.kept with | some k => if x.resumed then k.2 else mean (s.trunk n).rtts | none => mean (s.trunk n).rtts

/-- The length of the averaging window (R211). -/
def State.window (s : State) (n : Nat) : Nat := 2 ^ s.rd (pageNT n) R.NT.TRUNK_ASYM_AVG

/-- A fraction rounded to the nearest whole number, its denominator of either sign. -/
def fracRound (a b : Int) : Int := if b = 0 then 0 else if b < 0 then divEven (-a) (-b) else divEven a b

/-- L in m as a fraction: δ̄ / D₀₃ (R212). -/
def State.fibre (s : State) (t n : Nat) : Int × Int :=
  let d := s.d03 n
  let a := s.skewMean t n * 1000000 * d.2
  let b := qNs * d.1
  if b < 0 then (-a, -b) else (a, b)

/-- L_rtt in m as a fraction: (RTT / 2) / 4,897.4 ns/km (R212). -/
def State.fibreRtt (s : State) (t n : Nat) : Int × Int := (s.rttMean t n * 10000, 2 * qNs * 48974)

/-- The conditions of R213 but for the collection. -/
def State.plausible (s : State) (t n : Nat) : Bool :=
  let l := s.fibre t n
  let r := s.fibreRtt t n
  let diff := l.1 * r.2 - r.1 * l.2
  s.tstate n == tkUp && s.rd (pageNT n) R.NT.TRUNK_STAT_GEN == 3 && s.flag (pageNT n) R.NT.TRUNK_STAT_ASYM &&
  s.flag (pageNT n) R.NT.TRUNK_CTL_ASYM_EN && s.disperses n &&
  decide (0 ≤ l.1 ∧ l.1 ≤ s.rd (pageNT n) R.NT.TRUNK_LEN_MAX * l.2) &&
  decide (10 * (diff.natAbs : Int) ≤ r.1 * l.2 + 2000 * l.2 * r.2)

/-- 2^`TRUNK_ASYM_AVG` values of δ have been collected, or kept values serve (R213, R219). -/
def State.collected (s : State) (t n : Nat) : Bool := (s.ntTime t n).resumed || decide ((s.ntTime t n).deltas.length ≥ s.window n)

/-- A in use: the estimate's while it is valid, else `TRUNK_ASYM_CONST` (R212, R213). -/
def State.asym (s : State) (t n : Nat) : Int :=
  if (s.ntTime t n).valid then s.skewMean t n else s.rdS (pageNT n) R.NT.TRUNK_ASYM_CONST * q16

/-- The trunk page shows the values of the active TCU (R208, R209). Log 61 (DEDUCED; unsafe). -/
def State.showNt (s : State) (n : Nat) : State :=
  let g := pageNT n
  let t := s.lead
  let x := s.ntTime t n
  let ps (v : Int) : Int := divEven (v * 1000) qNs
  let l := s.fibre t n
  let r := s.fibreRtt t n
  let m (v : Int × Int) : Nat := let y := fracRound v.1 v.2; if y < 0 then 0 else satNat 16 y.toNat
  let s := (s.wr g R.NT.TRUNK_STAT_EST_VALID (b2n x.valid)).wr g R.NT.TRUNK_RTT (satNat 32 (ps (s.rttMean t n)).toNat)
  let s := (s.wrSat g R.NT.TRUNK_DLY_CLK (ps x.d3)).wrSat g R.NT.TRUNK_SKEW (divEven (s.skewMean t n) q16)
  let s := (s.wr g R.NT.TRUNK_LEN_L (if s.disperses n then m l else 0)).wr g R.NT.TRUNK_LEN_L_RTT (m r)
  let s := s.wrSat g R.NT.TRUNK_ASYM (divEven (s.asym t n) q16)
  match x.theta with
  | some th => s.wrSat g R.NT.TRUNK_OFS (divEven th q16)
  | none => s

/-- The estimate of TCU `t` is judged anew: ASYM_IMPLAUSIBLE is raised where the active TCU's becomes invalid, or where its
first complete collection fails (R213). Log 61 (DEDUCED; unsafe). -/
def State.judgeEst (s : State) (t n : Nat) : State :=
  let x := s.ntTime t n
  let full := s.collected t n
  let ok := full && s.plausible t n
  let fail := (x.valid && !ok) || (full && !x.judged && !ok)
  let s := s.onNt t n (fun x => { x with valid := ok, judged := x.judged || full })
  s.raiseIf (fail && s.lead == t && s.tstate n == tkUp) (pageNT n) 8

/-- After a write of a register on which the estimate rests, or a commit of the page (R213). -/
def State.estWritten (s : State) (n : Nat) : State :=
  if s.tstate n = tkUp then (s.both (fun t a => a.judgeEst t n)).showNt n else s

/-- A new δ of TCU `t` joins the window; the first within 10 ps of a kept δ̄ makes the kept values serve until the window
has refilled from there; one formed before UP is dropped (R211, R219). Log 121 (DESIGN CHOICE; unsafe). -/
def State.addDelta (s : State) (t n : Nat) (d : Int) : State :=
  if s.tstate n ≠ tkUp then s else
  let x := s.ntTime t n
  let near := x.kept.any (fun k => decide ((d - k.1).natAbs * 100 ≤ qNs.toNat)) && !x.resumed
  let w := s.window n
  let s := s.onNt t n (fun x => if near then { x with deltas := [d], resumed := true } else { x with deltas := (d :: x.deltas).take w })
  let y := s.ntTime t n
  let s := if y.resumed ∧ y.deltas.length ≥ w then s.onNt t n (fun x => { x with resumed := false, kept := none }) else s
  s.judgeEst t n

/-- δ of a marker whose two arrivals TCU `t` has (R211). Log 61 (DEDUCED; unsafe). -/
def State.pairUp (s : State) (t n : Nat) : State :=
  let x := s.trunk n
  match x.t0, (s.ntTime t n).t3 with
  | some (k, t0), some (m, t3) =>
    if k % 825 ≠ m then s else
    let d := (t0 - t3) - markOfs m * qUi - ((qTx0 + x.tx0 * q10) - (qClk + x.clk * q10)) - s.rdS (pageNT n) R.NT.TRUNK_SKEW_EXT * q16
    (s.onNt t n (fun y => { y with t3 := none })).addDelta t n d
  | _, _ => s

/-! ### Time transfer (R206–R209) -/

/-- The cycle in which a marker m falls, nearest to the last marker known (R199). -/
def Trunk.cycleOf (x : Trunk) (m : Nat) : Nat :=
  if m + 412 < x.mark then x.cyc + 1 else if x.mark + 412 < m then x.cyc - 1 else x.cyc

/-- C with the low 28 bits that a Marker block carries, nearest to the cycle predicted (R199). -/
def Trunk.cycleLo (x : Trunk) (lo : Nat) : Nat :=
  let hi := x.cyc / 2 ^ 28
  let old := x.cyc % 2 ^ 28
  if lo + 2 ^ 27 < old then (hi + 1) * 2 ^ 28 + lo else if old + 2 ^ 27 < lo ∧ hi > 0 then (hi - 1) * 2 ^ 28 + lo else hi * 2 ^ 28 + lo

/-- A trunk candidate is declared lost on the TCUs that decide: REASON 1 (R99, R208). -/
def State.trunkCands (s : State) (n reason : Nat) : State :=
  s.both (fun t a => if a.decides t then
    a.each 16 (fun k a => if a.csrc t k = 8 + n then (a.onCand t k (fun c => { c with good := false })).disqualify t k reason else a) else a)

/-- A block period of 2.560 ns (R224). -/
def qBlock : Int := 138412032

/-- The fill of a data lane's elastic buffer, in whole blocks from centre: the buffer empties as blocks come later (R217).
Log 97 (DEDUCED; unsafe). -/
def Trunk.fill (x : Trunk) (lane : Nat) : Int :=
  match look none x.ebRef lane, (look [] x.dly lane).head? with
  | some r, some d => (r - d).tdiv qBlock
  | _, _ => 0

def ebField (lane : Nat) : Fld := match lane with | 0 => R.NT.TRUNK_EB_EB0 | 1 => R.NT.TRUNK_EB_EB1 | _ => R.NT.TRUNK_EB_EB2

/-- `CAD_LANE_DLY` of a data lane (R242). -/
def dlyField (lane : Nat) : Fld := match lane with | 0 => R.CAD.CAD_LANE_DLY_0 | 1 => R.CAD.CAD_LANE_DLY_1 | _ => R.CAD.CAD_LANE_DLY_2

/-- `TRUNK_EB` shows a data lane's fill (R217, R222). -/
def State.showFill (s : State) (n lane : Nat) : State := s.wr (pageNT n) (ebField lane) (satInt 4 ((s.trunk n).fill lane))

/-- Notes the Marker block of number `k` of a data lane for the cadence path: its number, and the lane's mean delay over
the last 64 of them, which both TCUs' pages show (R232, R235, R242). The first one since the lane locked is taken at centre fill (R217).
Log 97 (DEDUCED; unsafe). -/
def State.noteMark (s : State) (n lane k : Nat) (tpcs : Int) : State :=
  let d := tpcs - (markerAt k + markOfs (k % 825) * qUi)
  let s := s.onTrunk n (fun x => { x with
    marks := put 0 x.marks lane (k + 1), dly := upd [] x.dly lane (fun l => (d :: l).take 64)
    ebRef := upd none x.ebRef lane (fun r => some (r.getD d)) })
  let s := s.showFill n lane
  let v := divEven (mean (look [] (s.trunk n).dly lane) * 1000) qNs
  s.both (fun t a => if a.isOn (1 + t) then a.wrI (pageCad t) (dlyField lane) n (satInt 32 v) else a)

/-- A partner Marker block, whose sync header began at `tpcs` of network time at the receive PCS of its lane (R195, R206); one with a MARKER
above 824 counts with those that fail their CRC. Log 121 (DESIGN CHOICE; unsafe). -/
def State.markerRx (s : State) (n lane kind p : Nat) (tpcs : Int) : State :=
  if ¬ s.tone n then s else
  let m := bits p 0 10
  if ¬ blockOk kind p ∨ (kind = kMarker ∧ (m > 824 ∨ bits p 10 7 ≠ markOfs m)) then s.badBlock n
  else if kind ≠ kMarker then s
  else
    let x := s.trunk n
    let c := x.cycleLo (bits p 19 28)
    let k := c * 825 + m
    let s := if x.known then s.noteMark n lane k tpcs else s
    if lane ≠ 0 then s else
    let g := pagePort (4 * n)
    let t0 := tpcs - (s.rd g R.PORT.LAT_RX + s.rdS g R.PORT.EXT_DLY_RX) * q16
    let s := s.onTrunk n (fun x => { x with cyc := c, mark := m, t0 := some (k, t0) })
    if ¬ x.known then s else
    let u := t0 - (markerAt k + markOfs m * qUi + qTx0 + x.tx0 * q10)
    let s := s.onTrunk n (fun x => { x with us := ((k, u) :: x.us).take 825, echoes := x.echoes ++ [(m, toInt 38 (satInt 38 (divEven u q10)))] })
    (s.both (fun t a => a.pairUp t n)).showNt n

def execMarkerBlockRx (n lane kind p : Nat) (tpcs : Int) (s : State) : Host.Outcome State Fault Refusal :=
  done (s.markerRx (n % 12) (lane % 3) kind p tpcs)

/-- A partner Echo answers an own marker: the round trip (R207). -/
def State.echoRx (s : State) (n kind p : Nat) : State :=
  if ¬ s.tone n then s else
  if ¬ blockOk kind p then s.badBlock n
  else if kind ≠ kEcho then s
  else
    match (s.trunk n).us.find? (fun e => e.1 % 825 == bits p 0 10) with
    | none => s
    | some (_, u) =>
      let r := u + toInt 38 (bits p 10 38) * q10
      let w := s.window n
      ((s.onTrunk n (fun x => { x with rtts := (r :: x.rtts).take w })).both (fun t a => a.judgeEst t n)).showNt n

def execEchoRx (n kind p : Nat) (s : State) : Host.Outcome State Fault Refusal := done (s.echoRx (n % 12) kind p)

/-- A partner Time block: CYCLE_HI, the residuals and TV (R198, R208, R214). -/
def State.timeRx (s : State) (n kind p : Nat) : State :=
  if ¬ s.tone n then s else
  if ¬ blockOk kind p then s.badBlock n
  else if kind ≠ kTime then s
  else
    let g2 := (s.trunk n).gen2
    let s := s.onTrunk n (fun x => { x with
      known := true, cyc := bits p 0 26 * 2 ^ 28 + x.cyc % 2 ^ 28
      tx0 := if g2 then 0 else toInt 12 (bits p 26 12), clk := if g2 then 0 else toInt 9 (bits p 38 9) })
    let s := s.wr (pageNT n) R.NT.TRUNK_STAT_PEER_TV (bits p 47 1)
    if bitAt p 47 then s else s.trunkCands n 1

def execTimeBlockRx (n kind p : Nat) (s : State) : Host.Outcome State Fault Refusal := done (s.timeRx (n % 12) kind p)

/-- No valid Time block has come for two marker cycles (R208). -/
def execTimeBlockLoss (n : Nat) (s : State) : Host.Outcome State Fault Refusal :=
  let n := n % 12
  done (if s.tstate n = tkUp then s.trunkCands n 1 else s)

/-- The instant of a clock-lane edge at the connector of lane +3, by TCU `t`'s counter: the capture with `TDC_LAT`, and the
external delay of the lane (R80, R81, R207). -/
def State.clockArrival (s : State) (t n raw : Nat) : Int :=
  let u := s.tcu t
  ((u.now : Int) * 65536 - ((s.tdc t n).fine raw + s.rd (pageTdc t n) R.TDC.TDC_LAT : Nat) - s.rdS (pagePort (4 * n + 3)) R.PORT.EXT_DLY_RX) * q16

/-- θ of a marker, refined by the tone captures of the interval that ends at it: each gives the same expression with T moved
by a whole number of tone periods, and they are averaged (R207). -/
def refine (t3 : Int) (tones : List Int) (th : Int) : Int :=
  let off (x : Int) : Int := x - t3 + divEven (t3 - x) qTone * qTone
  th + mean (0 :: tones.map off)

/-- TCU `t` captures epoch marker m: θ, d3 and RTT are formed, once a Time block and an Echo have come (R207, R208). -/
def State.markerSeen (s : State) (t n m : Nat) (t3 : Int) : State :=
  let x := s.trunk n
  let tones := (s.ntTime t n).tones
  let s := s.onNt t n (fun y => { y with tones := [], t3 := some (m, t3) })
  if ¬ x.known then s.pairUp t n else
  let c := x.cycleOf m
  let s := if s.lead = t then s.onTrunk n (fun x => { x with cyc := c, mark := m }) else s
  let s := if x.rtts = [] ∧ ¬ (s.ntTime t n).resumed then s else
    let d3 := divEven (s.rttMean t n) 2 - s.asym t n
    let th := t3 - (markerAt (c * 825 + m) + qClk + x.clk * q10) - d3
    s.onNt t n (fun y => { y with theta := some (refine t3 tones th), d3 := d3 })
  (s.pairUp t n).showNt n

/-- Trunk-phase channel `n` of TCU `t` captures a tone edge or an epoch marker (R196). A channel in a run captures nothing (R74). -/
def execEpochMarkerCapture (t n raw : Nat) (marker : Bool) (m : Nat) (s : State) : Host.Outcome State Fault Refusal :=
  let t := t % 2
  let n := n % 12
  done (
    if ¬ s.tone n ∨ ¬ (s.tcu t).clk ∨ s.flag (pageTdc t n) R.TDC.TDC_STAT_CAL_RUNNING then s else
    let x := s.clockArrival t n raw
    if marker then (s.tdcEdge t n raw true true).markerSeen t n (m % 825) x
    else s.onNt t n (fun y => { y with tones := x :: y.tones }))

/-! ### Negotiation (R200–R205) -/

/-- The first attempt of a TRUNK_ENABLE ends (R205). -/
def State.firstEnds (s : State) (n r : Nat) : State := s.finishOp 0x22 n stOk r 0

/-- A new attempt of a trunk: every lane sends training frames, whose receivers ask for tap changes where MEDIUM, as taken at
TRUNK_ENABLE, is 1 and for holds alone where it is 0 (R177, R200, R201, R222). -/
def State.trunkAttempt (s : State) (n : Nat) : State :=
  let asks := (s.trunk n).medium
  (s.lanes4 n (fun p a => (((a.unsquelch p).loadFir p).lockClear p).emit (.training p asks))).setTstate n tkTraining

/-- A failed attempt: ATTEMPTS, a cause, and the back-off with not-ready frames on every lane; the first one answers TRUNK_ENABLE (R201, R205). -/
def State.trunkFails (s : State) (n cause : Nat) : State :=
  let g := pageNT n
  let s := (s.wr g R.NT.TRUNK_STAT_ATTEMPTS (satNat 8 (s.rd g R.NT.TRUNK_STAT_ATTEMPTS + 1))).raise g cause
  let s := s.onTrunk n (fun x => { x with fails := x.fails + 1, till := s.up + backoffSec (x.fails + 1) * 1000000000 })
  ((s.lanes4 n (fun p a => a.emit (.notReady p))).setTstate n tkBackoff).firstEnds n 2

/-- A trunk is enabled: four lanes unsquelched, each with the deviation 0 of a trunk lane, and an attempt (R189, R190, R200, R201). -/
def State.enableTrunk (s : State) (n : Nat) : State :=
  let g := pageNT n
  let s := s.lanes4 n (fun p a => (a.openLane p).showDev p 0)
  let x := s.trunk n
  let s := s.onTrunk n (fun _ => {
    fallback := s.flag g R.NT.TRUNK_CTL_FALLBACK, genMax := s.rd g R.NT.TRUNK_CTL_GEN_MAX
    medium := s.flag g R.NT.TRUNK_CTL_MEDIUM, last := x.last })
  let s := (s.wr g R.NT.TRUNK_STAT_ATTEMPTS 0).wr g R.NT.TRUNK_STAT_GEN 0
  let s := ((s.wr g R.NT.TRUNK_STAT_ASYM 0).wr g R.NT.TRUNK_STAT_CMCAST 0).wr g R.NT.TRUNK_STAT_PEER_TV 0
  s.trunkAttempt n

/-- A trunk enters HELLO: nothing received yet (R201, R203). -/
def State.startHello (s : State) (n : Nat) : State :=
  (s.onTrunk n (fun x => { x with sel := 0, feat := s.offer n, got := 0, run0 := 0, run1 := 0, run2 := 0, agreed := none })).setTstate n tkHello

/-- All four receivers at both ends are ready (R200, R201). -/
def execTrunkTrainingComplete (n : Nat) (s : State) : Host.Outcome State Fault Refusal :=
  let n := n % 12
  done (if s.tstate n ≠ tkTraining then s else
    let s := s.onTrunk n (fun x => { x with known := false, t0 := none, us := [], echoes := [], sent := none, marks := [], dly := [], ebRef := [], turn := 0 })
    (s.each 3 (fun i a => a.showFill n i)).setTstate n tkAligning)

/-- max_wait_timer of a trunk's attempt expires (R201). -/
def execTrunkMaxWaitExpiry (n : Nat) (s : State) : Host.Outcome State Fault Refusal :=
  let n := n % 12
  done (if s.tstate n ≠ tkTraining then s else (s.inc (pageNT n) R.NT.CNT_TRAIN_FAIL).trunkFails n 3)

/-- A trunk's back-off period ends (R201). -/
def execTrunkBackoffExpiry (n : Nat) (s : State) : Host.Outcome State Fault Refusal :=
  let n := n % 12
  done (if s.tstate n = tkBackoff then (s.advance ((s.trunk n).till - s.up)).trunkAttempt n else s)

/-- Frame lock is gained on lane +0 during the back-off (R201). -/
def execTrunkFrameLock (n : Nat) (s : State) : Host.Outcome State Fault Refusal :=
  let n := n % 12
  done (if s.tstate n = tkBackoff then s.trunkAttempt n else s)

/-- The 75 ms of a trunk's QUIET end (R201). -/
def execTrunkQuietExpiry (n : Nat) (s : State) : Host.Outcome State Fault Refusal :=
  let n := n % 12
  done (if s.tstate n = tkQuiet then (s.lanes4 n (fun p a => (a.unsquelch p).emit (.notReady p))).setTstate n tkWaitSig else s)

/-- Signal has been present on all four lanes for 100 ms (R201). -/
def execTrunkSignalStable (n : Nat) (s : State) : Host.Outcome State Fault Refusal :=
  let n := n % 12
  done (if s.tstate n = tkWaitSig ∧ (List.range 4).all (fun i => s.signal (4 * n + i)) then s.trunkAttempt n else s)

/-- Lock and alignment are reached with a data-lane skew in blocks: Hello starts (R192, R201). -/
def execTrunkAligned (n skew : Nat) (s : State) : Host.Outcome State Fault Refusal :=
  let n := n % 12
  let lock (i : Nat) : Bool := s.flag (pagePort (4 * n + i)) R.PORT.PORT_STAT_BLOCK_LOCK && !s.flag (pagePort (4 * n + i)) R.PORT.PORT_STAT_HI_BER
  done (if s.tstate n ≠ tkAligning ∨ skew > 16 ∨ ¬ (List.range 4).all lock then s
    else (s.wr (pageNT n) R.NT.TRUNK_EB_SKEW skew).startHello n)

/-- Alignment is not reached within 10 ms (R201). -/
def execTrunkAligningTimeout (n : Nat) (s : State) : Host.Outcome State Fault Refusal :=
  let n := n % 12
  done (if s.tstate n ≠ tkAligning then s else (s.inc (pageNT n) R.NT.CNT_TRAIN_FAIL).trunkFails n 3)

/-- A trunk leaves UP: its candidates, the frames partly received, what it sends, and the estimator (R218, R219).
Log 59 (DEDUCED; unsafe). -/
def State.trunkDown (s : State) (n : Nat) : State :=
  let t := s.lead
  let node := s.rd (pageNT n) R.NT.TRUNK_PEER_NODE_ID
  let gen := s.rd (pageNT n) R.NT.TRUNK_STAT_GEN
  let a := if (s.ntTime t n).valid then some (divEven (s.skewMean t n) q16) else none
  let s := s.raiseIf (s.ntTime t n).valid (pageNT n) 8
  let s := s.both (fun v a => a.onNt v n (fun x =>
    { kept := if x.deltas = [] ∧ ¬ x.valid then x.kept else some (a.skewMean v n, a.rttMean v n), theta := none, d3 := x.d3 }))
  let s := (s.onTrunk n (fun x => { x with last := some (node, gen, a), rtts := [], us := [], echoes := [], t0 := none, known := false, marks := [], dly := [] })).wr (pageNT n)
    R.NT.TRUNK_STAT_EST_VALID 0
  let s := s.trunkCands n 6
  let arriving := (s.frames.filter (fun e => e.2.port == 4 * n && !e.2.host && !e.2.complete)).map (fun e => e.1)
  let s := arriving.foldl (fun a f => a.rxEnd f [] true) s
  s.txAbort (4 * n)

/-- A trunk in UP goes down under R201: QUIET if a lane has LOS, else a new attempt. -/
def State.trunkLost (s : State) (n : Nat) : State :=
  if s.tstate n ≠ tkUp then s else
  let s := ((s.trunkDown n).raise (pageNT n) 1).inc (pageNT n) R.NT.CNT_DOWN
  let s := if (List.range 4).all (fun i => s.signal (4 * n + i)) then s.trunkAttempt n
    else (s.lanes4 n (fun p a => a.squelch p)).setTstate n tkQuiet
  (s.touchPort (4 * n)).synceCands

/-- Agreement: the trunk is UP with the partner's identity, generation and features (R203, R215, R219). -/
def State.agreeHello (s : State) (n : Nat) (h : Hello) : State :=
  let g := pageNT n
  let x := s.trunk n
  let s := ((s.wr g R.NT.TRUNK_PEER_NODE_ID h.node).wr g R.NT.TRUNK_PEER_TRUNK h.trunk).wr g R.NT.TRUNK_PEER_GEN_MAX h.genMax
  let s := (s.wr g R.NT.TRUNK_PEER_FEAT h.feat).wr g R.NT.TRUNK_STAT_GEN x.sel
  let s := (s.wr g R.NT.TRUNK_STAT_ASYM (bits x.feat 0 1)).wr g R.NT.TRUNK_STAT_CMCAST (bits x.feat 1 1)
  let s := s.raiseIf (decide (x.sel < x.genMax)) g 6
  let s := match x.last with
    | some (node, 3, some a) => if x.sel = 2 ∧ s.flag g R.NT.TRUNK_CTL_CONST_AUTO ∧ node = h.node then s.wrSat g R.NT.TRUNK_ASYM_CONST a else s
    | _ => s
  let same := x.sel == 3 && x.last.any (fun l => l.1 == h.node)
  let s := s.both (fun t a => a.onNt t n (fun y => { y with kept := if same then y.kept else none, deltas := [], tones := [], t3 := none, judged := false, resumed := false }))
  let s := s.onTrunk n (fun x => { x with fails := 0, agreed := some h })
  let s := ((s.flushPort (4 * n)).raise g 0).setTstate n tkUp
  (s.firstEnds n 0).touchPort (4 * n)

/-- The generation that a partner's GEN_MAX resolves to, and the features, if there is a common one (R203). -/
def State.resolveGen (s : State) (n : Nat) (h : Hello) : Option (Nat × Nat) :=
  let x := s.trunk n
  if h.genMax ≠ 2 ∧ h.genMax ≠ 3 then none
  else if x.genMax = 3 ∧ h.genMax = 3 then
    some (3, b2n (s.flag (pageNT n) R.NT.TRUNK_CTL_ASYM_EN && bitAt h.feat 0) + 2 * bits h.feat 1 1)
  else some (2, 0)

/-- The count of matching Hellos in a row of a lane. -/
def Trunk.setRun (x : Trunk) (lane : Nat) (f : Nat → Nat) : Trunk :=
  if lane = 0 then { x with run0 := f x.run0 } else if lane = 1 then { x with run1 := f x.run1 } else { x with run2 := f x.run2 }

/-- A Hello that differs from the one agreed on its lane (R201). Log 60 (DEDUCED; unsafe). -/
def Hello.differs (a h : Hello) (lane : Nat) : Bool := decide ({ h with lane := 0 } ≠ { a with lane := 0 }) || h.lane != lane

/-- A Hello block is received on a data lane; every attempt that fails in HELLO counts (R199, R201, R203, R222). Log 121 (DESIGN CHOICE; unsafe). -/
def State.helloRx (s : State) (n lane kind p : Nat) : State :=
  if ¬ s.tone n then s else
  if ¬ blockOk kind p then s.badBlock n
  else if kind ≠ kHello then s
  else
    let h := helloOf p
    if s.tstate n = tkUp then
      (if (s.trunk n).agreed.any (fun a => a.differs h lane) then
        ((((s.trunkDown n).raise (pageNT n) 1).inc (pageNT n) R.NT.CNT_DOWN).startHello n).touchPort (4 * n) else s)
    else if s.tstate n ≠ tkHello then s
    else if h.lane ≠ lane then (s.inc (pageNT n) R.NT.CNT_HELLO_FAIL).trunkFails n 5
    else match s.resolveGen n h with
    | none => (s.inc (pageNT n) R.NT.CNT_HELLO_FAIL).trunkFails n 4
    | some (gen, feat) =>
      let s := s.onTrunk n (fun x => { x with sel := gen, feat := feat, got := x.got ||| 2 ^ lane })
      let hit := h.ack && h.genSel == gen && h.feat == feat
      let s := s.onTrunk n (fun x => x.setRun lane (fun r => if hit then r + 1 else 0))
      let x := s.trunk n
      if x.run0 ≥ 3 ∧ x.run1 ≥ 3 ∧ x.run2 ≥ 3 then s.agreeHello n h else s

def execHelloRx (n lane kind p : Nat) (s : State) : Host.Outcome State Fault Refusal := done (s.helloRx (n % 12) (lane % 3) kind p)

/-- No agreement within 100 ms (R201). -/
def execHelloTimeout (n : Nat) (s : State) : Host.Outcome State Fault Refusal :=
  let n := n % 12
  done (if s.tstate n ≠ tkHello then s else (s.inc (pageNT n) R.NT.CNT_HELLO_FAIL).trunkFails n 4)

/-- Clause 73 pages are received on a lane of a trunk: the four lanes become ports in mode 0x0, and a TRUNK_DISABLE in flight completes with
WRONG_STATE; or the event is counted (R201, R204). -/
def execClause73PagesRx (n : Nat) (s : State) : Host.Outcome State Fault Refusal :=
  let n := n % 12
  let g := pageNT n
  done (if ¬ (s.tstate n = tkTraining ∨ s.tstate n = tkBackoff ∨ s.tstate n = tkWaitSig) then s
    else if ¬ (s.trunk n).fallback then (s.inc g R.NT.CNT_C73_SEEN).raise g 9
    else
      let s := (s.setTstate n tkFallback).lanes4 n (fun p a => (a.squelch p).enablePort p 0 false)
      (((s.raise g 2).firstEnds n 1).finishOp 0x23 n stWrongState 0 0).showBusy g)

/-- No epoch marker has been captured for two marker intervals (R201, R208). -/
def execMarkerLoss (n : Nat) (s : State) : Host.Outcome State Fault Refusal :=
  let n := n % 12
  done (if s.tstate n = tkUp then (s.trunkCands n 1).trunkLost n else s)

/-- A Filler block of a data lane comes: where the fill has moved a whole block from centre, the buffer is re-centred by one (R217). -/
def execRecentre (n lane : Nat) (s : State) : Host.Outcome State Fault Refusal :=
  let n := n % 12
  let lane := lane % 3
  let v := (s.trunk n).fill lane
  done (if ¬ s.tone n ∨ v = 0 then s else
    let s := s.onTrunk n (fun x => { x with ebRef := upd none x.ebRef lane (fun r => r.map (fun r => r - v.sign * qBlock)) })
    ((s.showFill n lane).inc (pageNT n) R.NT.CNT_RECENTRE).raise (pageNT n) 7)

/-- A trunk is DISABLED: its lanes squelched (R201, R220). Log 60 (DEDUCED; unsafe). -/
def State.trunkOff (s : State) (n : Nat) : State :=
  let s := if s.tstate n = tkUp then (s.trunkDown n).inc (pageNT n) R.NT.CNT_DOWN else s
  ((s.lanes4 n (fun p a => (a.squelch p).lockClear p)).setTstate n tkDisabled).synceCands

/-- A disable command completes once nothing is left of its work (R55, R220, R308). -/
def State.drainEnds (s : State) (k : Cmd) : State :=
  if k.op ≠ 0x23 then s.drainCheck k
  else if s.drained k then (s.trunkOff (k.arg 0)).drainDone (s.current k) else s

/-- TRUNK_DISABLE (R55, R220). -/
def State.startTrunkDisable (k : Cmd) (s : State) : State :=
  let n := k.arg 0
  let s := s.fly k
  if s.tstate n = tkDisabled ∨ s.tstate n = tkFallback then s.finishSt k stWrongState
  else
    let s := s.showBusy k.page
    if bitAt (k.arg 1) 0 then (s.discardAll k).drainEnds k else s

/-- The drain limit of a disable command expires: what is still queued is discarded (R55). -/
def execDrainLimitExpiry (op obj : Nat) (s : State) : Host.Outcome State Fault Refusal :=
  done (match s.findCmd op obj with
    | some k => if drains k ∧ k.stage = 0 then ((s.toLimit k (k.arg 2 * 1000)).discardAll k).drainEnds k else s
    | none => s)

/-- The queued work of a disable command is gone (R55). -/
def execDrainComplete (op obj : Nat) (s : State) : Host.Outcome State Fault Refusal :=
  done (match s.findCmd op obj with
    | some k => if drains k then s.drainEnds k else s
    | none => s)

/-! ### Receiver events of ports and trunk lanes (R179, R191) -/

/-- LOS is declared on a lane; `seen` says that signal was present for at least 10 µs within the attempt (R177, R179, R201). -/
def execLosDeclared (p : Nat) (seen : Bool) (s : State) : Host.Outcome State Fault Refusal :=
  let p := p % 48
  let g := pagePort p
  let n := p / 4
  done (if ¬ s.isOn (8 + p / 8) ∨ ¬ s.signal p then s else
    let s := ((s.wr g R.PORT.PORT_STAT_SIGNAL 0).inc g R.PORT.CNT_LOS).raise g 5
    if s.isLane p then
      (if s.tstate n = tkTraining ∧ seen then ((s.lanes4 n (fun q a => a.squelch q)).setTstate n tkQuiet).firstEnds n 2 else s)
    else s.portLos p seen)

/-- LOS clears on a lane (R179). -/
def execLosCleared (p : Nat) (s : State) : Host.Outcome State Fault Refusal :=
  let p := p % 48
  done (if s.isOn (8 + p / 8) then s.wr (pagePort p) R.PORT.PORT_STAT_SIGNAL 1 else s)

/-- Block lock with hi_ber clear, code-group synchronisation, or lock to the tone of a clock lane (R176, R177, R191, R217). -/
def execBlockLockGained (p : Nat) (s : State) : Host.Outcome State Fault Refusal :=
  let p := p % 48
  let g := pagePort p
  done (if ¬ s.laneOn p then s else
    -- block lock centres the elastic buffer: of a port, or of a trunk's data lane
    let s := if s.flag g R.PORT.PORT_STAT_BLOCK_LOCK then s
      else if s.isLane p then (if p % 4 = 3 then s else (s.onTrunk (p / 4) (fun x => { x with ebRef := drop x.ebRef (p % 4) })).showFill (p / 4) (p % 4))
      else if s.link p = lkLocking then s.showDev p 0 else s
    ((s.wr g R.PORT.PORT_STAT_BLOCK_LOCK 1).wr g R.PORT.PORT_STAT_HI_BER 0).lockCheck p)

/-- A data lane, whose loss of lock takes its trunk down. -/
def isDataLane (p : Nat) : Bool := p % 4 != 3

/-- Block lock is lost, for more than 100 µs or less, after `sh` invalid sync headers or code groups (R95, R177, R191, R201). -/
def execBlockLockLost (p : Nat) (long : Bool) (sh : Nat) (s : State) : Host.Outcome State Fault Refusal :=
  let p := p % 48
  let g := pagePort p
  done (if ¬ s.laneOn p ∨ ¬ s.flag g R.PORT.PORT_STAT_BLOCK_LOCK then s else
    let s := ((s.inc g R.PORT.CNT_BLOCK_LOCK_LOSS).addI g R.PORT.CNT_SH_ERR 0 sh).eyeLost p
    if ¬ long then s else
    let s := (s.wr g R.PORT.PORT_STAT_BLOCK_LOCK 0).synceCands
    if s.isLane p then (if isDataLane p then s.trunkLost (p / 4) else s)
    else if s.link p = lkUp then s.linkDown p else s)

/-- hi_ber is set after `sh` invalid sync headers (R177, R179, R191, R201). -/
def execHiBerSet (p sh : Nat) (s : State) : Host.Outcome State Fault Refusal :=
  let p := p % 48
  let g := pagePort p
  done (if ¬ s.laneOn p ∨ s.flag g R.PORT.PORT_STAT_HI_BER then s else
    let s := ((s.addI g R.PORT.CNT_SH_ERR 0 sh).wr g R.PORT.PORT_STAT_HI_BER 1)
    let s := (s.inc g R.PORT.CNT_HI_BER).raise g 4
    if s.isLane p then (if isDataLane p then s.trunkLost (p / 4) else s)
    else if s.link p = lkUp then s.linkDown p else s)

end Sys2Proof.Machine
end

