-- ==== Sys2Proof/Machine/Cadence.lean ====
section
/-! DEFINITION. The cadence path and the cadence gateway (R223–R243), and the markers whose Fillers cadence blocks displace. -/

namespace Sys2Proof.Machine

open Sys2Proof

/-! ### Hoops and positions (R223, R224) -/

/-- The number of the hoop at network time `t` in ns. -/
def State.hoopOf (s : State) (t : Nat) : Nat := t / s.hoop

/-- G_N as a number of block periods: the first grid point at or after B_N (R224). -/
def State.gridOf (s : State) (n : Nat) : Nat := (n * s.hoop * 25 + 63) / 64

def State.cadOn (s : State) : Bool := s.flag (pageCad s.lead) R.CAD.CAD_CTL_EN
def State.txOfs (s : State) (n : Nat) : Nat := s.rdI (pageCad s.lead) R.CAD.CAD_TX_OFS n
def State.rc (s : State) (n : Nat) : Nat := s.rd (pageNT n) R.NT.TRUNK_CAD_RES

/-- R_c of trunk `n` in force at an instant `b` in ns: that of the earliest reservation that ended after it, else the one in force now
(R232). -/
def State.rcAt (s : State) (n b : Nat) : Nat :=
  match ((look [] s.cadRcs n).filter (fun e => decide (b < e.1))).getLast? with | some e => e.2 | none => s.rc n

/-- R_c in force for hoop `m`. Log 63 (DEDUCED; unsafe). -/
def State.rcFor (s : State) (n m : Nat) : Nat := s.rcAt n (m * s.hoop)

/-- The block position, in block periods, of slot `k` of hoop `m` on trunk `n` (R224). -/
def State.slotPos (s : State) (n k m : Nat) : Nat := s.gridOf m + s.txOfs n + 4 * (k / 3)

/-- A Marker block stands at block position `pos` of every data lane (R195). -/
def atMarker (pos : Nat) : Bool := pos * 66 % 524288 == markOfs (pos * 66 / 524288 % 825)

/-- The position in which a cadence block of position `pos` is sent: the next one where a Marker block stands there (R225). -/
def sentPos (pos : Nat) : Nat := if atMarker pos then pos + 1 else pos

/-- Something on both TCUs' CAD pages, each where its domain is on (R242). -/
def State.cadBoth (s : State) (f : Nat → State → State) : State := s.both (fun t a => if a.isOn (1 + t) then f (pageCad t) a else a)

/-- A counter of trunk `n` on both CAD pages. -/
def State.cadCount (s : State) (f : Fld) (n : Nat) : State := s.cadBoth (fun p a => a.incI p f n)
def State.cadCause (s : State) (b : Nat) : State := s.cadBoth (fun p a => a.raise p b)
def State.gwBoth (s : State) (f : Nat → State → State) : State := s.both (fun t a => if a.isOn (1 + t) then f (pageGw t) a else a)

/-- One more of error count `i` of a source, in both TCUs: 0 CRC, 1 MISSING, 2 LATE, 3 POISON_IN, each to 255 (R233, R242). -/
def State.cadErrCount (s : State) (tbl idx i : Nat) : State :=
  s.both (fun t a => if a.isOn (1 + t) then
    { a with cadErr := upd [0, 0, 0, 0] a.cadErr ((13 * t + tbl) * 8192 + idx) (fun l => l.set i (satNat 8 (l.getD i 0 + 1))) } else a)

/-! ### Tables (R229–R231) -/

/-- The fields of a destination word (R229). -/
def dstOn (w : Nat) : Bool := bitAt w 31
def dstSlot (w : Nat) : Nat := bits w 0 13
def dstTarget (w : Nat) : Nat := bits w 16 4
def dstHd (w : Nat) : Nat := bits w 20 2

/-- The version of an entry that applies to ingress hoop `n` (R230). -/
def entryAt (vs : List (Nat × List Nat)) (n : Nat) : List Nat := ((vs.find? (fun v => decide (v.1 ≤ n))).map (fun v => v.2)).getD [0, 0, 0, 0]

/-- The key of an entry in TCU `t`'s tables, which each TCU holds for itself (R154, R229). -/
def cadKey (t tbl idx : Nat) : Nat := (13 * t + tbl) * 8192 + idx

/-- The versions of an entry in TCU `t`. -/
def State.cadVersions (s : State) (t tbl idx : Nat) : List (Nat × List Nat) := look [] s.cadTab (cadKey t tbl idx)

/-- The entry as last written. -/
def State.cadEntry (s : State) (t tbl idx : Nat) : List Nat := ((s.cadVersions t tbl idx).head?.map (fun v => v.2)).getD [0, 0, 0, 0]

/-- The entries by which blocks are switched, those of the TCU from which every source is taken, by table × 8192 + index (R154). -/
def State.cadEntries (s : State) : Store (List (Nat × List Nat)) :=
  s.cadTab.filterMap (fun e => if e.1 / 8192 / 13 = s.lead then some (e.1 % (13 * 8192), e.2) else none)

/-- The valid destinations of an entry, by TARGET and SLOT. -/
def dests (ws : List Nat) : List (Nat × Nat) := (ws.filter dstOn).map (fun w => (dstTarget w, dstSlot w))

/-- Another entry that names one of the destinations (R230). -/
def State.cadConflict (s : State) (key : Nat) (ds : List (Nat × Nat)) : Option Nat :=
  (s.cadEntries.find? (fun e => e.1 != key && (dests (s.cadEntry s.lead (e.1 / 8192) (e.1 % 8192))).any (fun d => ds.contains d))).map (fun e => e.1)

/-- A list repeats an element. -/
def repeats : List (Nat × Nat) → Bool
  | [] => false
  | a :: l => l.contains a || repeats l

/-- The result of a table write: 0 done, 1 conflict, 2 reservation, 3 bad target, 4 duplicate (R230, R242). -/
def State.cadResult (s : State) (key : Nat) (ws : List Nat) : Nat :=
  let ds := dests ws
  if (s.cadConflict key ds).isSome then 1
  else if ds.any (fun d => decide (d.1 ≤ 11 ∧ d.2 ≥ s.rc d.1)) then 2
  else if ds.any (fun d => decide (12 ≤ d.1 ∧ d.1 ≤ 14)) then 3
  else if repeats ds then 4 else 0

/-- Destination word `i` of the window (R229). -/
def State.cadStaged (s : State) (p i : Nat) : Nat :=
  s.rdI p R.CAD.CAD_TBL_D_SLOT i + s.rdI p R.CAD.CAD_TBL_D_TARGET i * 2 ^ 16 + s.rdI p R.CAD.CAD_TBL_D_HD i * 2 ^ 20 +
    s.rdI p R.CAD.CAD_TBL_D_V i * 2 ^ 31

/-- Puts a destination word into the window. -/
def State.cadStage (s : State) (p i w : Nat) : State :=
  (((s.wrI p R.CAD.CAD_TBL_D_SLOT i (dstSlot w)).wrI p R.CAD.CAD_TBL_D_TARGET i (dstTarget w)).wrI p R.CAD.CAD_TBL_D_HD i (dstHd w)).wrI p
    R.CAD.CAD_TBL_D_V i (b2n (dstOn w))

/-- An entry's new version in TCU `t`, for every ingress hoop from `first` on. -/
def State.cadPut (s : State) (t tbl idx first : Nat) (ws : List Nat) : State :=
  { s with cadTab := upd [] s.cadTab (cadKey t tbl idx) (fun vs => ((first, ws) :: vs.filter (fun v => decide (v.1 ≠ first))).take 8) }

/-- `CAD_TBL_CMD.WRITE` on the CAD page `p`: the entry applies to every ingress hoop that begins after the write (R154, R230).
Log 63 (DEDUCED; unsafe). -/
def State.cadWrite (s : State) (p : Nat) : State :=
  let tbl := s.rd p R.CAD.CAD_TBL_SEL_TABLE
  let idx := s.rd p R.CAD.CAD_TBL_SEL_INDEX
  let key := tbl * 8192 + idx
  let ws := (List.range 4).map (s.cadStaged p)
  let r := s.cadResult key ws
  let who := if r = 1 then (s.cadConflict key (dests ws)).getD 0 else 0
  let s := ((s.wr p R.CAD.CAD_TBL_STAT_RESULT r).wr p R.CAD.CAD_TBL_STAT_TABLE (who / 8192)).wr p R.CAD.CAD_TBL_STAT_INDEX (who % 8192)
  if r ≠ 0 then s.raise p 5
  else
    let first := s.hoopOf s.now + 1
    s.both (fun t a => if a.takesTables t then a.cadPut t tbl idx first ws else a)

/-- `CAD_TBL_CMD.READ`: the page's own TCU answers. -/
def State.cadRead (s : State) (p : Nat) : State :=
  let ws := s.cadEntry (b2n (isTcuB p)) (s.rd p R.CAD.CAD_TBL_SEL_TABLE) (s.rd p R.CAD.CAD_TBL_SEL_INDEX)
  let s := s.each 4 (fun i a => a.cadStage p i (ws.getD i 0))
  ((s.wr p R.CAD.CAD_TBL_STAT_RESULT 0).wr p R.CAD.CAD_TBL_STAT_TABLE 0).wr p R.CAD.CAD_TBL_STAT_INDEX 0

/-- The source that fills a destination in hoop `m`: table, index and ingress hoop (R229). -/
def State.fills (s : State) (target slot m : Nat) : Option (Nat × Nat × Nat) :=
  s.cadEntries.findSome? (fun e => [0, 1, 2, 3].findSome? (fun hd =>
    if hd ≤ m ∧ (entryAt e.2 (m - hd)).any (fun w => dstOn w && dstTarget w == target && dstSlot w == slot && dstHd w == hd)
    then some (e.1 / 8192, e.1 % 8192, m - hd) else none))

/-! ### Sources (R232, R233) -/

/-- What is known of a source position. -/
def State.src (s : State) (tbl idx hoop : Nat) : CadSrc :=
  (s.cadSrc.find? (fun c => c.tbl == tbl && c.idx == idx && c.hoop == hoop)).getD { tbl := tbl, idx := idx, hoop := hoop }

/-- Changes it; positions more than 8 hoops older are forgotten. -/
def State.onSrc (s : State) (tbl idx hoop : Nat) (f : CadSrc → CadSrc) : State :=
  let c := f (s.src tbl idx hoop)
  { s with cadSrc := c :: s.cadSrc.filter (fun d => !(d.tbl == tbl && d.idx == idx && d.hoop == hoop) && decide (hoop ≤ d.hoop + 8)) }

/-- The source was not received by an egress instant: counted once (R233). Log 63 (DEDUCED; unsafe). -/
def State.countMissing (s : State) (tbl idx hoop : Nat) : State :=
  if (s.src tbl idx hoop).missed then s else
  let s := (s.onSrc tbl idx hoop (fun c => { c with missed := true })).cadErrCount tbl idx 1
  (if tbl < 12 then s.cadCount R.CAD.CNT_CAD_MISSING tbl else s).cadCause 1

/-- The source came too late for a destination: counted once (R233). -/
def State.countLate (s : State) (tbl idx hoop : Nat) : State :=
  if (s.src tbl idx hoop).late then s else
  let s := (s.onSrc tbl idx hoop (fun c => { c with late := true })).cadErrCount tbl idx 2
  (if tbl < 12 then s.cadCount R.CAD.CNT_CAD_LATE tbl else s).cadCause 2

/-- The outbound template that covers an outbound word (R237). -/
def State.wordTpl (s : State) (w : Nat) : Option Nat :=
  s.tplKeys.find? (fun k => s.tplOn k && !s.tplIn k &&
    decide (s.tplBits k 1 0 13 ≤ w ∧ w < s.tplBits k 1 0 13 + s.tplBits k 0 16 7))

/-- Blocks sent to outbound words of no template are counted (R230). -/
def State.countUnmapped (s : State) (tbl idx hoop : Nat) : State :=
  let n := ((entryAt (s.cadVersions s.lead tbl idx) hoop).filter (fun w => dstOn w && dstTarget w == 15 && (s.wordTpl (dstSlot w)).isNone)).length
  if n = 0 then s else s.gwBoth (fun p a => a.addI p R.GW.GW_CNT_UNMAPPED 0 n)

/-- The latest hoop of length `h` that passes `ok` and whose first position, `ofs` block periods after its origin, is not after
position `pos`, with the block periods from one to the other (R224, R232). -/
def latestHoop (h ofs pos : Nat) (ok : Nat → Bool) : Option (Nat × Nat) :=
  let m := pos * 64 / 25 / h
  [m + 1, m, m - 1, m - 2].findSome? (fun x =>
    let first := (x * h * 25 + 63) / 64 + ofs
    if ok x ∧ first ≤ pos then some (x, pos - first) else none)

/-- The hoop configuration in force, as a receiver uses it. -/
def State.hoopCfg (s : State) : HoopCfg :=
  { h := s.hoop, peer := (List.range 12).map (s.rdI (pageCad s.lead) R.CAD.CAD_PEER_OFS) }

/-- A transmit position of trunk `n`'s partner: its hoop, the block periods since the hoop's first position, R_c in force for the
hoop, and whether the hoop has its number in the configuration in force. Hoops before the first one of that configuration stand
under the configuration before it (R226, R232). -/
def State.peerHoop (s : State) (n pos : Nat) : Option (Nat × Nat × Nat × Bool) :=
  let c := s.hoopCfg
  match latestHoop c.h (c.peer.getD n 0) pos (fun m => s.cadOld.isNone || decide (s.cadFrom ≤ m)) with
  | some (m, d) => some (m, d, s.rcFor n m, true)
  | none =>
    match s.cadOld with
    | none => none
    | some o => (latestHoop o.h (o.peer.getD n 0) pos (fun m => decide (m * o.h < s.cadFrom * c.h))).map (fun x =>
        (x.1, x.2, s.rcAt n (x.1 * o.h), o.h == c.h))

/-- A cadence or poison block that stands in no slot is discarded and counted (R232). -/
def State.misplaced (s : State) (n : Nat) : State := ((s.cadCount R.CAD.CNT_MISPLACED n).cadCount R.CAD.CNT_CAD_CRC n).cadCause 3

/-- A cadence or poison block is received on data lane `lane` of trunk `n`, `count` blocks after the lane's last Marker block,
at `tpcs` at the receive PCS; a block directly after a Marker is taken at the Marker's position (R225, R232, R233). -/
def State.cadenceRx (s : State) (n lane kind p count : Nat) (tpcs : Int) : State :=
  if s.tstate n ≠ tkUp ∨ ¬ s.cadOn ∨ s.phase = .lastResort then s else
  if kind ≠ 0xC3 ∧ kind ≠ 0xF0 then s.badBlock n else
  let mk := look 0 (s.trunk n).marks lane
  if mk = 0 then s.misplaced n else
  let k := mk - 1
  let base := (k * 524288 + markOfs (k % 825)) / 66
  match s.peerHoop n (base + (if count = 1 then 0 else count)) with
  | none => s.misplaced n
  | some (hoop, d, rc, now) =>
    let idx := 3 * (d / 4) + lane
    if d % 4 ≠ 0 ∨ idx ≥ rc then s.misplaced n
    else
      let good := bits p 48 8 == blockCrc kind (p % 2 ^ 48)
      let c : CadKind := if ¬ good then .crcBad else if kind = 0xC3 then .good else .poison
      let s := match c with
        | .crcBad => ((s.cadErrCount n idx 0).cadCount R.CAD.CNT_CAD_CRC n).cadCause 0
        | .poison => (s.cadErrCount n idx 3).cadCount R.CAD.CNT_POISON_IN n
        | .good => s.cadCount R.CAD.CNT_CAD_IN n
      -- after a change of H the egress positions of the old hoops are not sent
      if ¬ now then s else
      let s := if (s.src n idx hoop).missed then s.countLate n idx hoop else s
      (s.onSrc n idx hoop (fun x => { x with blk := some (c, p % 2 ^ 48, tpcs) })).countUnmapped n idx hoop

def execCadenceBlockRx (n lane kind p count : Nat) (tpcs : Int) (s : State) : Host.Outcome State Fault Refusal :=
  done (s.cadenceRx (n % 12) (lane % 3) kind p count tpcs)

/-! ### Egress (R225–R228, R233, R234, R159) -/

/-- The comparator has a copy of the twin to compare with: the TCU that is not the source is STANDBY, or has just taken the token, its
switch epoch still to come, and holds the same tables (R156, R159). Log 111 (DEDUCED; unsafe). -/
def State.comparing (s : State) : Bool :=
  let b := 1 - s.lead
  s.tcuState b == tsStandby || (s.tokenHeld && s.active == b)

/-- The comparator of the two TCUs' copies, each with its check, for a trunk and slot: 0 the active's copy is sent, 1 the
standby's, 2 poison (R159). -/
def State.compareCopies (s : State) (ga gb eq : Bool) (trunk slot : Nat) : State × Nat :=
  let a := s.lead
  let p := pageCtl a
  if ¬ s.comparing then (if ga then (s, 0) else (s.inc p R.CTL.TCU_LS_CNT_POISON, 2))
  else if ga ∧ gb then
    if eq then (s, 0) else
    let s := ((s.inc p R.CTL.TCU_LS_CNT_MISMATCH).wr p R.CTL.TCU_LS_LAST_TRUNK trunk).wr p R.CTL.TCU_LS_LAST_SLOT slot
    ((s.raise p 3).onTcu a (fun u => { u with lsHoop := u.lsHoop + 1 }), 0)
  else if ga then (s, 0)
  else if gb then ((s.inc p R.CTL.TCU_LS_CNT_SUBST).raise p 4, 1)
  else (s.inc p R.CTL.TCU_LS_CNT_POISON, 2)

/-- x(j) of an egress position: 0.600 ns + ((14 j) mod 25) / 60 ns (R234). Log 63 (DEDUCED; unsafe). -/
def egressCross (pos : Nat) : Int := 32440320 + (14 * (pos % 25) % 25 : Nat) * 901120

/-- A poison block's payload (R227). -/
def poisonBits (slot reason tbl idx node : Nat) : Nat := slot + reason * 2 ^ 16 + tbl * 2 ^ 20 + idx * 2 ^ 24 + node * 2 ^ 40

/-- A trunk is being disabled (R220). -/
def State.disabling (s : State) (n : Nat) : Bool := decide (n < 12) && s.cmds.any (fun k => k.op == 0x23 && k.started && k.arg 0 == n)

/-- What an egress position at block period `pos`, slot `slot` of trunk `n`, carries for a source: block type and payload, and
the slack if the block came in time to have one (R228, R233, R234). -/
def State.egressOf (s : State) (n slot pos tbl idx hoop : Nat) : State × Nat × Nat :=
  let node := s.rd (pageNT n) R.NT.TRUNK_NODE_ID % 256
  let mine (r : Nat) : Nat × Nat := (0xF0, poisonBits slot r tbl idx node)
  let te := (pos : Int) * qBlock
  if s.phase = .lastResort then (s, mine 9)
  else if s.disabling n ∨ s.disabling tbl then (s, mine 8)
  else if tbl < 12 ∧ s.tstate tbl ≠ tkUp then (s, mine 4)
  else match (s.src tbl idx hoop).blk with
  | none => (s.countMissing tbl idx hoop, mine 2)
  | some (c, p, t) =>
    if t > te then (s.countMissing tbl idx hoop, mine 2) else
    let slack := te - t - 4 * qNs - egressCross pos
    let ps := satInt 32 (divEven (slack * 1000) qNs)
    let s := s.cadBoth (fun g a => if toInt 32 ps < toInt 32 (a.rdI g R.CAD.CAD_SLACK_MIN n) then a.wrI g R.CAD.CAD_SLACK_MIN n ps else a)
    if c = .crcBad then (s, mine 1)
    else if slack < 0 then (s.countLate tbl idx hoop, mine 3)
    else match c with
    | .poison =>
      let r := bits p 16 4
      -- a window that closed without a frame poisons first at this node
      if tbl = 12 then (s, mine r) else (s, (0xF0, slot + p / 65536 % 16 * 2 ^ 16 + p / 2 ^ 20 % 2 ^ 17 * 2 ^ 20 + p / 2 ^ 40 * 2 ^ 40))
    | _ => (s, (0xC3, p))

/-- The egress position of slot `k` of hoop `m` on trunk `n` is due; `ga`, `gb` and `eq` are the checks of the two TCUs'
copies and whether they are equal. A block that a Marker displaces is sent and judged one position later (R159, R225, R233). -/
def State.slotSend (s : State) (n k m : Nat) (ga gb eq : Bool) : State :=
  if ¬ s.cadOn ∨ s.tstate n ≠ tkUp ∨ m < s.cadFrom ∨ k ≥ s.rcFor n m then s else
  match s.fills n k m with
  | none => s
  | some (tbl, idx, hoop) =>
    let pos := sentPos (s.slotPos n k m)
    let s := s.advance ((pos * 64 + 24) / 25 - s.now)
    let e := s.egressOf n k pos tbl idx hoop
    let c := if s.phase = .lastResort then (e.1, 0) else e.1.compareCopies ga gb eq n k
    let out : Nat × Nat := if c.2 = 2 then (0xF0, poisonBits k 7 tbl idx (s.rd (pageNT n) R.NT.TRUNK_NODE_ID % 256)) else e.2
    let s := c.1.emit (.block n (k % 3) out.1 (sealBlock out.1 out.2))
    if out.1 = 0xF0 then (s.cadCount R.CAD.CNT_POISON_OUT n).event 0x41 n 1 else s.event 0x40 n 1

def execCadenceSlotSend (n k m : Nat) (ga gb eq : Bool) (s : State) : Host.Outcome State Fault Refusal :=
  done (s.slotSend (n % 12) (k % 8192) m ga gb eq)

/-- A filled cadence position stands at block period `pos` of data lane `lane` (R225). -/
def State.cadPosAt (s : State) (n lane pos : Nat) : Bool :=
  s.cadOn && s.tstate n == tkUp &&
  (let h := s.hoopOf (pos * 64 / 25)
   [h + 1, h, h - 1, h - 2].any (fun m =>
    let first := s.gridOf m + s.txOfs n
    decide (m ≥ s.cadFrom ∧ first ≤ pos ∧ (pos - first) % 4 = 0) &&
    (let k := 3 * ((pos - first) / 4) + lane
     decide (k < s.rcFor n m) && (s.fills n k m).isSome)))

/-- Block position `pos` of a data lane is taken: by a Marker block, by the Filler or the displaced cadence block after it, or by a
cadence block (R225). -/
def State.takenPos (s : State) (n lane pos : Nat) : Bool := atMarker pos || atMarker (pos - 1) || s.cadPosAt n lane pos

/-- A Hello, Echo or Time block leaves in the next position of its lane that is not taken, nor was by another of them (R197, R225). -/
def State.sendBlock (s : State) (n lane kind p : Nat) : State :=
  let from_ := max ((s.now * 25 + 63) / 64) (look 0 (s.trunk n).used lane + 1)
  let pos := from_ + ((List.range 16).find? (fun i => !s.takenPos n lane (from_ + i))).getD 0
  let s := s.advance ((pos * 64 + 24) / 25 - s.now)
  (s.onTrunk n (fun x => { x with used := put 0 x.used lane pos })).emit (.block n lane kind (sealBlock kind p))

/-- A Hello is sent on a data lane in HELLO, and on lane +0 in UP (R197). -/
def execHelloSend (n lane : Nat) (s : State) : Host.Outcome State Fault Refusal :=
  let n := n % 12
  let lane := lane % 3
  done (if s.tstate n = tkHello ∨ (s.tstate n = tkUp ∧ lane = 0) then s.sendBlock n lane kHello (helloBits (s.ownHello n lane)) else s)

/-- The Time block of the running marker cycle leaves on lane +0 (R197, R198). -/
def execTimeBlockSend (n : Nat) (s : State) : Host.Outcome State Fault Refusal :=
  let n := n % 12
  done (if ¬ s.tone n then s else
    let g2 := (s.trunk n).gen2
    let p := s.now / 2 ^ 24 / 2 ^ 28 % 2 ^ 26 + (if g2 then 0 else s.txRes n * 2 ^ 26 + s.clkRes n * 2 ^ 38) + b2n s.timeValid * 2 ^ 47
    s.sendBlock n 0 kTime p)

/-- An Echo that is due leaves on lane +0 (R206). -/
def execEchoSend (n : Nat) (s : State) : Host.Outcome State Fault Refusal :=
  let n := n % 12
  done (if ¬ s.tone n then s else
    match (s.trunk n).echoes with
    | [] => s
    | (m, u) :: _ => (s.onTrunk n (fun x => { x with echoes := x.echoes.drop 1 })).sendBlock n 0 kEcho (m + ofInt 38 u * 2 ^ 10))

/-- The next epoch marker leaves on the clock lane, and a Marker and a Filler block on each data lane; no Filler follows where
a cadence block takes its place (R194, R195, R197, R225). -/
def execMarkerSend (n : Nat) (s : State) : Host.Outcome State Fault Refusal :=
  let n := n % 12
  done (if ¬ s.tone n then s else
    let k := ((s.now : Int) * qNs + qMarker - 1) / qMarker |>.toNat
    let k := if (s.trunk n).sent = some k then k + 1 else k
    let s := s.advance (((markerAt k + qNs - 1) / qNs).toNat - s.now)
    let s := (s.onTrunk n (fun x => { x with sent := some k })).emit (.marker n (k % 825))
    let pos := (k * 524288 + markOfs (k % 825)) / 66
    s.each 3 (fun i a =>
      let a := a.emit (.block n i kMarker (sealBlock kMarker (markerBits k i)))
      if a.cadPosAt n i pos ∨ a.cadPosAt n i (pos + 1) then a else a.emit (.block n i kFiller (sealBlock kFiller 0))))

/-- A hoop boundary of network time: the mismatches of the hoop before are counted no more, and the event channels that INT_SRC arms
there are armed (R76, R159, R223). -/
def execHoopBoundary (s : State) : Host.Outcome State Fault Refusal :=
  done ((s.advance ((s.hoopOf s.now + 1) * s.hoop - s.now)).both (fun t a =>
    (if (a.tcu t).clk then a.hoopArms t else a).onTcu t (fun u => { u with lsHoop := 0 })))

/-! ### The hoop configuration (R226, R230, R241) -/

/-- The filled positions of hoops begun before now that are still to come are not sent, and are counted; `old` is the state
with the configuration under which they stood (R226, R241). -/
def State.cadCut (old : State) (s : State) : State :=
  if ¬ old.cadOn then s else
  let h := old.hoopOf old.now
  let now := old.now
  let hoops := ([h, h - 1, h - 2].filter (fun m => decide (m ≥ old.cadFrom))).eraseDups
  s.each 12 (fun n a =>
    if old.tstate n ≠ tkUp then a else
    let ks := ((old.cadEntries.flatMap (fun e => e.2.flatMap (fun v => dests v.2))).filter (fun d => d.1 == n)).eraseDups
    let c := (hoops.map (fun m => (ks.filter (fun d =>
      decide (m * old.hoop < now ∧ old.slotPos n d.2 m * 64 ≥ now * 25 ∧ d.2 < old.rcFor n m) && (old.fills n d.2 m).isSome)).length)).sum
    if c = 0 then a else a.cadBoth (fun p b => b.addI p R.CAD.CNT_RECONFIG n c))

/-- After a change of H or a step, hoop numbers jump: an entry's newest version holds for every later hoop, and what came for
the old numbers is not kept (R230, R241). -/
def State.cadRenumber (s : State) : State :=
  { s with cadTab := s.cadTab.map (fun e => (e.1, (e.2.take 1).map (fun v => (0, v.2)))), cadSrc := [], gwWin := [] }

/-- The first hoop whose boundary is at or after now. -/
def State.cadStart (s : State) : State := { s with cadFrom := (s.now + s.hoop - 1) / s.hoop }

/-- A commit of the hoop configuration takes effect; `old` is the state before it, whose configuration stays that of the hoops before
the first new one (R226). -/
def State.cadCommitted (old : State) (s : State) : State :=
  let s := cadCut old s
  let s := if old.hoop = s.hoop then s else s.cadRenumber
  -- a configuration that had not yet begun leaves the one before it in place
  let keep := if old.now < old.cadFrom * old.hoop then old.cadOld else none
  { s.cadStart with cadOld := keep <|> some old.hoopCfg }

/-- The counter was stepped; `old` is the state before it (R241). -/
def State.cadStepped (old : State) (s : State) : State :=
  { ((cadCut old s).cadRenumber).cadStart with cadOld := none, cadRcs := [] }

/-- A commit changed a trunk's R_c, which stays that of the hoops begun before; `old` is the state before it (R232). -/
def State.rcCommitted (old : State) (n : Nat) (s : State) : State :=
  if old.rc n = s.rc n then s else { s with cadRcs := upd [] s.cadRcs n (fun l => ((s.now, old.rc n) :: l).take 4) }

/-- R_c is within R193's limits for a hoop of length `h`. -/
def rcOk (rc h : Nat) : Bool := decide (rc ≤ 8192 ∧ rc * 256 ≤ 75 * h)

/-- R_c does not fall below a slot that a valid destination names (R230). -/
def State.rcCovers (s : State) (n rc : Nat) : Bool :=
  s.cadEntries.all (fun e => (dests (s.cadEntry s.lead (e.1 / 8192) (e.1 % 8192))).all (fun d => d.1 != n || decide (d.2 < rc)))

/-- The hoop configuration of a state keeps the rules of R226 but for the boundary at which H may change; `rcs` gives each
trunk's R_c after the boundary. -/
def State.hoopOk (s : State) (rcs : Nat → Nat) : Bool :=
  let h := s.hoop
  let p := pageCad s.lead
  decide (1000 ≤ h ∧ h ≤ 1000000 ∧ 1000000000 % h = 0) &&
  (List.range 12).all (fun n => decide (s.txOfs n < h * 25 / 64 ∧ s.rdI p R.CAD.CAD_PEER_OFS n < h * 25 / 64) && rcOk (rcs n) h) &&
  s.tplKeys.all (fun k => !s.tplOn k || (decide (s.tplBits k 6 0 20 < h) && (!s.tplIn k || decide (s.tplBits k 7 0 20 < h))))

/-! ### The gateway (R237–R240) -/

/-- The window's template as eight words. -/
def State.gwStaged (s : State) (p : Nat) : List Nat := R.GW.words.map (fun fs => (fs.map (fun f => s.rd p f * 2 ^ f.lo)).sum)

/-- The word ranges of two templates of one direction overlap (R237). -/
def rangesMeet (a n b m : Nat) : Bool := decide (a < b + m ∧ b < a + n)

/-- The result of a template write: 0 done, 1 range overlap, 2 trunk lane, 3 offset not below H, and for a window that closes no later
than it opens (R237, R238, R243). Log 95 (DEDUCED; unsafe). -/
def State.gwResult (s : State) (k : Nat) (ws : List Nat) : Nat :=
  let w (i lo n : Nat) : Nat := bits (ws.getD i 0) lo n
  let dir := w 0 1 1
  if w 0 0 1 = 1 ∧ s.tplKeys.any (fun j => j != k && s.tplOn j && s.tplBits j 0 1 1 == dir &&
      rangesMeet (w 1 0 13) (w 0 16 7) (s.tplBits j 1 0 13) (s.tplBits j 0 16 7)) then 1
  else if w 0 2 6 < 48 ∧ s.isLane (w 0 2 6) then 2
  else if w 6 0 20 ≥ s.hoop ∨ (dir = 1 ∧ (w 7 0 20 ≥ s.hoop ∨ w 7 0 20 ≤ w 6 0 20)) then 3 else 0

/-- `GW_TPL_CMD.WRITE` on the GW page `p` (R154, R237). -/
def State.gwWrite (s : State) (p : Nat) : State :=
  let k := s.rd p R.GW.GW_TPL_SEL
  let ws := s.gwStaged p
  let r := s.gwResult k ws
  let s := s.wr p R.GW.GW_TPL_STAT_RESULT r
  if r ≠ 0 then s.raise p 4
  else s.both (fun t a => if a.takesTables t then { a with gwTpl := put [] a.gwTpl (512 * t + k) (if ws.all (fun w => w == 0) then [] else ws) } else a)

/-- `GW_TPL_CMD.READ`: the page's own TCU answers. -/
def State.gwRead (s : State) (p : Nat) : State :=
  let ws := look [] s.gwTpl (512 * b2n (isTcuB p) + s.rd p R.GW.GW_TPL_SEL)
  (s.each 8 (fun i a => (R.GW.words.getD i []).foldl (fun b f => b.wr p f (bits (ws.getD i 0) f.lo f.w)) a)).wr p R.GW.GW_TPL_STAT_RESULT 0

/-- The lowest enabled template that names a port of trunk `n` (R190). -/
def State.tplOnTrunk (s : State) (n : Nat) : Option Nat :=
  s.tplKeys.find? (fun k => s.tplOn k && s.tplPort k / 4 == n)

/-- TRUNK_ENABLE: RESULT0 names the lowest template in the way, whatever else is (R190, R205). -/
def State.startTrunkEnable (k : Cmd) (s : State) : State :=
  let n := k.arg 0
  let s := s.fly k
  if ¬ s.tokenHeld ∨ ¬ s.isOn (8 + n / 2) ∨ (List.range 4).any (fun i => s.link (4 * n + i) != lkDisabled) ∨ s.tstate n ≠ tkDisabled ∨
      (s.tplOnTrunk n).isSome then
    s.finish k stWrongState 0 ((s.tplOnTrunk n).getD 0) 0
  else s.enableTrunk n

/-- What an outbound word carries in hoop `m` at the instant `by_` at which it must have reached the gateway: its payload, or
nothing where it is missing or poisoned (R239). -/
def State.outWord (s : State) (w m : Nat) (by_ : Int) : State × Option Nat :=
  match s.fills 15 w m with
  | none => (s, some 0)
  | some (tbl, idx, hoop) =>
    if s.phase = .lastResort ∨ s.disabling tbl ∨ (tbl < 12 ∧ s.tstate tbl ≠ tkUp) then (s, none)
    else match (s.src tbl idx hoop).blk with
    | none => (s.countMissing tbl idx hoop, none)
    | some (c, p, t) =>
      if t + 4 * qNs > by_ then (if t > by_ then (s.countMissing tbl idx hoop, none) else (s.countLate tbl idx hoop, none))
      else if c = .good then (s, some p) else (s, none)

/-- Octets 0–5 of a 48-bit address or word. -/
def oct6 (v : Nat) : List Byte := beOct 6 v

/-- The frame of outbound template `k` for hoop `m`, without FCS (R239). -/
def State.gwFrame (s : State) (k m : Nat) (words : List Nat) : List Byte :=
  let l := oct6 (s.tplAddr k 2) ++ oct6 (s.tplAddr k 4) ++ (if s.tplVlan k then [0x81, 0x00] ++ beOct 2 (s.tplBits k 3 16 16) else [])
    ++ beOct 2 (s.rd (pageGw s.lead) R.GW.GW_CTL_ETYPE) ++ beOct 4 m ++ beOct 2 k ++ beOct 2 (s.tplBits k 0 16 7) ++ (words.map oct6).flatten
  l ++ List.replicate (60 - l.length) 0

/-- A gateway frame due at port `p` can start at once (R239, R321). -/
def State.gwStarts (s : State) (p svc : Nat) : Bool :=
  decide ((s.tx p).kind = .idle) && (s.mac p).due.isNone && look [] s.gwq p == [] && s.gateOpen p svc &&
  !s.paused p svc true && !s.flag (pagePort p) R.PORT.PORT_STAT_LPI_TX

/-- The comparator's judgement of every byte of a gateway frame of `len` octets: the bytes that are not good in the copy of the TCU from
which every source is taken and in the other's, and those in which the two differ. The last result is 2 where the frame must end with its FCS stomped. A mismatch names trunk 15 and slot 0 in
`TCU_LS_LAST`, whose fields R159 gives for cadence blocks alone (R159). Log 96 (DESIGN CHOICE; unsafe). -/
def State.compareBytes (s : State) (len : Nat) (badA badB differ : List Nat) : State × Nat :=
  ((List.range len).filter (fun i => badA.contains i || badB.contains i || differ.contains i)).foldl (fun a i =>
    let r := a.1.compareCopies (!badA.contains i) (!badB.contains i) (!differ.contains i) 15 0
    (r.1, max a.2 r.2)) (s, 0)

/-- The release instant of outbound template `k` in hoop `m` comes, with the bytes of the two TCUs' copies that are not good and
equal (R159, R239, R241). Log 63 (DEDUCED; unsafe). -/
def State.gwRelease (s : State) (k m : Nat) (badA badB differ : List Nat) : State :=
  if ¬ s.flag (pageGw s.lead) R.GW.GW_CTL_EN ∨ ¬ s.tplOn k ∨ s.tplIn k ∨ s.tplPort k ≥ 48 then s else
  let r := m * s.hoop + s.tplBits k 6 0 20
  let p := s.tplPort k
  let s := s.advance (r - s.now)
  if ¬ s.portUp p ∨ s.isLane p then s.gwCount k 3
  else
    let ws := (List.range (s.tplBits k 0 16 7)).foldl (fun (a : State × List (Option Nat)) i =>
      let x := a.1.outWord (s.tplBits k 1 0 13 + i) m (((r : Int) - 24) * qNs)
      (x.1, a.2 ++ [x.2])) (s, [])
    let octets := ws.1.gwFrame k m (ws.2.map (fun w => w.getD 0))
    let c := if s.phase = .lastResort then (ws.1, 2) else ws.1.compareBytes (octets.length + 4) badA badB differ
    let bad := ws.2.any (fun w => w.isNone) || c.2 == 2
    let s := c.1
    let g : GwFrame := { template := k, svc := s.tplBits k 1 16 3, octets := octets, stomp := bad, due := r }
    let s := if bad then (s.gwCount k 2).gwBoth (fun q a => a.raise q 1) else s
    if s.gwStarts p g.svc then (s.gwCount k 0).startGateway p g
    else
      let s : State := { s with gwq := upd [] s.gwq p (fun l => l ++ [g]) }
      (s.gwCount k 1).gwBoth (fun q a => a.raise q 0)

def execGwOutboundRelease (k m : Nat) (badA badB differ : List Nat) (s : State) : Host.Outcome State Fault Refusal :=
  done (s.gwRelease (k % 512) m badA badB differ)

/-- An inbound frame's checks: its header names the hoop, the template and WCNT, and it is long enough (R240). -/
def State.gwHeaderOk (s : State) (k hoop : Nat) (l : List Byte) : Bool :=
  let o := if s.tplVlan k then 18 else 14
  let n := s.tplBits k 0 16 7
  beAt l o 4 == hoop % 2 ^ 32 && beAt l (o + 4) 2 == k && beAt l (o + 6) 2 == n && decide (o + 8 + 6 * n + 4 ≤ l.length)

/-- A frame that the gateway takes ends at its port, its last block at `tpcs` at the receive PCS (R240). -/
def State.gwFrameRx (s : State) (f err : Nat) (cut : Bool) (tpcs : Int) : State :=
  let x := s.frame f
  if x = noFrame ∨ x.host ∨ x.complete ∨ x.decided then s else
  match s.gwMatch x.port x.octets with
  | none => s
  | some k =>
    let good := decide (judge x (err != 0) cut = .good)
    let h : Nat := (tpcs / ((s.hoop : Int) * qNs)).toNat
    let at_ := tpcs - (h * s.hoop : Nat) * qNs
    let inWin := decide ((s.tplBits k 6 0 20 : Int) * qNs ≤ at_ ∧ at_ ≤ (s.tplBits k 7 0 20 : Int) * qNs)
    let taken := (look none s.gwWin k).any (fun w => w.1 == h && w.2)
    let o := if s.tplVlan k then 26 else 22
    let ok := good && inWin && s.gwHeaderOk k h x.octets && !taken
    let s := (s.onFrame f (fun y => { y with decided := true })).rxEnd f [err] cut
    if ok then
      let s : State := { (s.gwCount k 0) with gwWin := put none s.gwWin k (some (h, true)) }
      (List.range (s.tplBits k 0 16 7)).foldl (fun a i =>
        let w := s.tplBits k 1 0 13 + i
        let a := if (a.src 12 w h).missed then a.countLate 12 w h else a
        (a.onSrc 12 w h (fun c => { c with blk := some (.good, beAt x.octets (o + 6 * i) 6, tpcs + 8 * qNs) })).countUnmapped 12 w h) s
    else
      let s := s.gwCount k 4
      if inWin ∧ ¬ taken then { s with gwWin := put none s.gwWin k (some (h, false)) } else s

def execGwFrameRx (f err : Nat) (cut : Bool) (tpcs : Int) (s : State) : Host.Outcome State Fault Refusal := done (s.gwFrameRx f err cut tpcs)

/-- The window of inbound template `k` in hoop `m` closes: without an accepted frame its words carry poison, GW_BAD if a frame
was discarded in the window and GW_MISSING otherwise (R240). -/
def State.gwClose (s : State) (k m : Nat) : State :=
  if ¬ s.flag (pageGw s.lead) R.GW.GW_CTL_EN ∨ ¬ s.tplOn k ∨ ¬ s.tplIn k then s else
  let s := s.advance (m * s.hoop + s.tplBits k 7 0 20 - s.now)
  let w := look none s.gwWin k
  if w.any (fun w => w.1 == m && w.2) then s else
  let bad := w.any (fun w => w.1 == m)
  let s := (if bad then s else s.gwCount k 3).gwBoth (fun q a => a.raise q (if bad then 3 else 2))
  (List.range (s.tplBits k 0 16 7)).foldl (fun a i =>
    a.onSrc 12 (s.tplBits k 1 0 13 + i) m (fun c => { c with blk := some (.poison, poisonBits 0 (if bad then 6 else 5) 0 0 0, (s.now : Int) * qNs) })) s

def execGwWindowClose (k m : Nat) (s : State) : Host.Outcome State Fault Refusal := done (s.gwClose (k % 512) m)

/-! ### Counts read through the windows (R242, R243) -/

/-- `CAD_ERR_CNT` of TCU `t`: the counts of the source that `CAD_ERR_SEL` names. -/
def State.cadErrKey (s : State) (t : Nat) : Nat :=
  (13 * t + s.rd (pageCad t) R.CAD.CAD_ERR_SEL_TABLE) * 8192 + s.rd (pageCad t) R.CAD.CAD_ERR_SEL_INDEX

/-- `CAD_ERR_SEL` names one of the TCU's 13 tables. -/
def State.cadErrNamed (s : State) (t : Nat) : Bool := decide (s.rd (pageCad t) R.CAD.CAD_ERR_SEL_TABLE < 13)
def State.cadErrVal (s : State) (t : Nat) : Nat :=
  if ¬ s.cadErrNamed t then 0 else
  let l := look [0, 0, 0, 0] s.cadErr (s.cadErrKey t)
  l.getD 0 0 + l.getD 1 0 * 2 ^ 8 + l.getD 2 0 * 2 ^ 16 + l.getD 3 0 * 2 ^ 24
def State.cadErrClear (s : State) (t : Nat) : State := if ¬ s.cadErrNamed t then s else { s with cadErr := put [0, 0, 0, 0] s.cadErr (s.cadErrKey t) [0, 0, 0, 0] }

/-- Reading `CAD_SLACK_MIN` restarts it (R234). -/
def State.slackClear (s : State) (t n : Nat) : State := s.wrI (pageCad t) R.CAD.CAD_SLACK_MIN n 0x7FFFFFFF

/-- Count `i` of the template that `GW_CNT_SEL` names, and its clearing by a read. -/
def State.gwCntVal (s : State) (t i : Nat) : Nat := (s.gwCounts t (s.rd (pageGw t) R.GW.GW_CNT_SEL)).getD i 0
def State.gwCntClear (s : State) (t i : Nat) : State :=
  { s with gwCnt := upd [0, 0, 0, 0, 0] s.gwCnt (512 * t + s.rd (pageGw t) R.GW.GW_CNT_SEL) (fun l => l.set i 0) }

end Sys2Proof.Machine
end

