-- ==== Sys2Proof/Machine/Lpi.lean ====
section
/-! DEFINITION. Low-power idle (R184, R185). -/

namespace Sys2Proof.Machine

open Sys2Proof

/-- Low-power idle is in use at a port that is UP: enabled, in modes 0x2–0x6, and in AN mode advertised by both ends (R184). -/
def State.eee (s : State) (p : Nat) : Bool :=
  let g := pagePort p
  s.flag g R.PORT.EEE_CTL_EN && s.link p == lkUp && decide (2 ≤ s.mode p ∧ s.mode p ≤ 6) &&
  (!(s.lane p).an || ((s.lane p).eeeAdv && s.flag g R.PORT.AN_LP_EEE))

/-- A gate of a rigid service of the port opens within `d` ns (R185). -/
def State.rigidOpens (s : State) (p d : Nat) : Bool :=
  let g := s.seqGate p
  let c := s.cycleOf g.active
  let sp := g.active.spans c
  let pos := s.gatePos g s.now
  (List.range 8).any (fun svc => s.rigid p svc &&
    ((s.gated p && (sp ++ sp.map (fun x => (x.1, x.2.1 + c, x.2.2.1 + c, x.2.2.2))).any (fun x =>
        bitAt x.2.2.2 svc && decide (pos < x.2.1 ∧ x.2.1 ≤ pos + d) &&
        !((sp.find? (fun y => decide (y.2.2.1 = x.2.1 ∨ y.2.2.1 + c = x.2.1 ∨ (x.2.1 = c ∧ y.2.2.1 = c)))).any (fun y => bitAt y.2.2.2 svc)))) ||
     (match g.inst with
      | some i => bitAt (g.pend.entry 0).1 svc && decide (s.now < i.start ∧ i.start ≤ s.now + d)
      | none => false)))

/-- A cadence gateway frame is released on the port within `d` ns (R185). -/
def State.gwSoon (s : State) (p d : Nat) : Bool :=
  s.flag (pageGw s.lead) R.GW.GW_CTL_EN && s.tplKeys.any (fun k =>
    s.tplOn k && !s.tplIn k && s.tplPort k == p &&
    (let o := s.tplBits k 6 0 20
     let m := s.hoopOf s.now
     [m, m + 1].any (fun m => decide (s.now < m * s.hoop + o ∧ m * s.hoop + o ≤ s.now + d)) || decide (s.hoop ≤ d)))

/-- RIGID_WAKE keeps the port awake now (R185). -/
def State.keptAwake (s : State) (p : Nat) : Bool :=
  let tw := s.rd (pagePort p) R.PORT.EEE_CTL_TW * 1000
  s.flag (pagePort p) R.PORT.EEE_CTL_RIGID_WAKE && (s.rigidOpens p tw || s.gwSoon p tw)

/-- The head copy of a VOQ waits for its port; one that a pause holds does not count (R185, R252, R307). -/
def State.waits (s : State) (v : Nat) : Bool :=
  (s.headOf v).any (fun c =>
    let p := leafPort c.leaf
    s.headOk c.frame p && !s.paused p (leafSvc c.leaf) (s.timingAt p (s.frame c.frame)))

/-- Something is sent, or waits to be, at the port (R185, R252). -/
def State.sends (s : State) (p : Nat) : Bool :=
  decide ((s.tx p).kind ≠ .idle) || (s.mac p).due.isSome || (s.inbandNext p).isSome || (look [] s.gwq p).any (fun g => !s.paused p g.svc true) ||
  (s.portVoqs p).any s.waits

/-- No frame has waited for IDLE µs and the transmitter enters low-power idle, or (`rx`) the partner does (R185). -/
def execLpiEnter (p : Nat) (rx : Bool) (s : State) : Host.Outcome State Fault Refusal :=
  let p := p % 48
  done (if ¬ s.eee p then s
    else if rx then s.wr (pagePort p) R.PORT.PORT_STAT_LPI_RX 1
    else if s.sends p then s else
      let s := s.advance ((s.mac p).quietAt + s.rd (pagePort p) R.PORT.EEE_CTL_IDLE * 1000 - s.up)
      if s.keptAwake p then s else s.wr (pagePort p) R.PORT.PORT_STAT_LPI_TX 1)

/-- The transmitter has woken, for a frame or ahead of a release or a rigid gate, or (`rx`) the partner has (R185).
Log 64 (DEDUCED; unsafe). -/
def execLpiWake (p : Nat) (rx : Bool) (s : State) : Host.Outcome State Fault Refusal :=
  let p := p % 48
  done (s.wr (pagePort p) (if rx then R.PORT.PORT_STAT_LPI_RX else R.PORT.PORT_STAT_LPI_TX) 0)

end Sys2Proof.Machine
end

