-- ==== Sys2Proof/Machine/Outputs.lean ====
section
/-! DEFINITION. The OUT pins: schedules of pulses and frames, their take-over, quieting and alignment to an input (R114–R121, R457). -/

namespace Sys2Proof.Machine

open Sys2Proof

/-- The requested offset realised to the nearest interpolator step of 25/16 ps, ties to the even step, in sixteenths of a ps (R117). -/
def onGrid (ps : Int) : Int := divEven (ps * 16) 25 * 25

/-- `OUT_OFS`, signed ps (R117). -/
def State.outOfs (s : State) (p : Nat) : Int := toInt 40 (s.rdWide p R.OUT.OUT_OFS_HI R.OUT.OUT_OFS_LO)

/-- The schedule that the live registers of an output page give (R116). -/
def State.outSched (s : State) (p : Nat) : Sched :=
  { period := s.rd p R.OUT.OUT_PERIOD, width := s.rd p R.OUT.OUT_WIDTH
    m := if s.rd p R.OUT.OUT_CTL_MODE = 2 then s.rd p R.OUT.OUT_FRAME_M else 0
    wFirst := s.rd p R.OUT.OUT_FRAME_W_FIRST, ofs := onGrid (s.outOfs p) }

/-- A clock phase lies within half a period either way (R115). Log 44 (DEDUCED; unsafe). -/
def State.clkPhaseOk (s : State) (p : Nat) (x : Int) : Bool :=
  decide (x.natAbs * 2 ^ 25 ≤ (s.rd p R.OUT.OUT_DIV_INT * 2 ^ 24 + s.rd p R.OUT.OUT_DIV_FRAC) * 100)

/-- A configuration keeps the rules of R115 to R117. Log 44 (DEDUCED; unsafe). -/
def State.outOk (s : State) (p : Nat) : Bool :=
  let q := s.outSched p
  let wOk (w : Nat) : Bool := decide (8 ≤ w ∧ w + 8 ≤ q.period)
  decide ((s.outOfs p).natAbs ≤ 500000000000) &&
  (if s.rd p R.OUT.OUT_CTL_MODE = 0 then s.clkPhaseOk p (s.rdS p R.OUT.OUT_CLK_PHASE) else
    (decide (q.period ≥ 1000 ∧ 1000000000 % q.period = 0) && wOk q.width &&
      (s.rd p R.OUT.OUT_CTL_MODE != 2 ||
        (decide (2 ≤ q.m) && wOk q.wFirst &&
          decide (1000000000 % (q.m * q.period) = 0 ∨ q.m * q.period % 1000000000 = 0)))))

/-- The output is aligned to an input (R118). -/
def State.outAligned (s : State) (p : Nat) : Bool := s.rd p R.OUT.OUT_CTL_MODE != 0 && s.rd p R.OUT.OUT_ALIGN_SRC != 0

/-- The TDC channel that measures the alignment input now, if one does: an event input's own, or that of TDC20–TDC23
which measures the slot (R96, R118). -/
def State.alignChannel (s : State) (t n : Nat) : Option Nat :=
  let src := s.rd (pageOut t n) R.OUT.OUT_ALIGN_SRC
  if 0x11 ≤ src then some (src - 5)
  else if src = 0 ∨ s.cclass t (src - 1) ≠ 1 then none
  else s.slotChannel t (src - 1)

/-- A case of R120 holds for the output. Log 44 (DEDUCED; unsafe). -/
def State.outQuiet (s : State) (t n : Nat) : Bool :=
  let p := pageOut t n
  let q := s.rd p R.OUT.OUT_CTL_QUIET
  !s.flag p R.OUT.OUT_CTL_EN || s.phase == .reset || s.phase == .oscWait || s.phase == .lastResort ||
  (s.outAligned p && ((s.outp t n).pred.isNone || (s.alignChannel t n).isNone)) ||
  (q == 1 && !s.timeValid) || (q == 2 && (!s.timeValid || s.flag (pageHold t) R.HOLD.HOLD_STAT_OOS))

/-- The output is quiet: a case of R120 holds, or it has not left quiet since one held, as it does at its next scheduled pulse, or at
a rising edge of its divider. -/
def State.outStill (s : State) (t n : Nat) : Bool := s.outQuiet t n || !(s.outp t n).started

/-- The output of TCU `t` is that which reaches the ball: the token's holder's, until the switch epoch the old one's (R114, R121, R155). -/
def State.atBall (s : State) (t : Nat) : Bool := s.tokenHeld && s.lead == t

/-- Edges of the output reach the ball from TCU `t` (R114, R120). -/
def State.outRunning (s : State) (t n : Nat) : Bool := !s.outStill t n && s.atBall t

/-- The origin of the output's instants, in sixteenths of a ps: 0, or the aligned position, which trails the prediction
by the correction still outstanding (R116, R118, R119). -/
def State.outBase (s : State) (t n : Nat) : Int :=
  if s.outAligned (pageOut t n) then
    (match (s.outp t n).pred with | some e => (e.1 - s.rdS (pageOut t n) R.OUT.OUT_ALIGN_ERR) * 16 | none => 0) else 0

/-- The first instant of a schedule from `base` at or after `x`, in sixteenths of a ps (R116). -/
def Sched.from (q : Sched) (base x : Int) : Int :=
  let b := base + q.ofs
  b + (x - b + q.period * 16000 - 1) / (q.period * 16000) * (q.period * 16000)

/-- The width of the pulse at an instant: `W_FIRST` where a frame starts (R116). -/
def Sched.widthAt (q : Sched) (base x : Int) (origin : Nat) : Nat :=
  if q.m = 0 then q.width
  else if ((x - base - q.ofs) / (q.period * 16000) + origin) % q.m = 0 then q.wFirst else q.width

/-- The next instant of the output at or after `x`, its width, and whether the new schedule has taken over (R117, R457):
the old schedule runs until the first new pulse at least 10 µs after the commit; where the gap would be shorter than the
pulse and 8 ns, the last old pulse is omitted if it lies after the commit, and the first new one otherwise. -/
def State.outNext (s : State) (t n : Nat) (x : Int) : Int × Nat × Bool :=
  let base := s.outBase t n
  let origin := if s.outAligned (pageOut t n) then Config.frameOrigin n else 0
  let q := s.outSched (pageOut t n)
  match (s.outp t n).old with
  | none => let a := q.from base x; (a, q.widthAt base a origin, true)
  | some (o, c) =>
    let commit : Int := c * 16000
    let first := q.from base (commit + 160000000)
    let last := o.from base (first - o.period * 16000)
    let breach := decide (first - last < ((o.widthAt base last origin : Int) + 8) * 16000)
    let dropOld := breach && decide (last > commit)
    let a := o.from base x
    if a < first ∧ ¬ (dropOld ∧ a = last) then (a, o.widthAt base a origin, false)
    else
      let y := if breach ∧ ¬ dropOld then first + 1 else first
      let b := q.from base (if x > y then x else y)
      (b, q.widthAt base b origin, true)

/-- The alignment state shown (R118, R119): 0 off, 1 waiting or averaging, in which the output is quiet (R120), 2 aligned, 3 flywheel. -/
def State.setAlign (s : State) (t n x : Nat) : State :=
  let s := if x = 1 then s.onOutp t n (fun o => { o with started := false }) else s
  s.wr (pageOut t n) R.OUT.OUT_STAT_ALIGN x

/-- The instant from which the next pulse is sought: the present, after the last pulse placed, after an instant reached in this very
ns, and not before a pulse that a change of mode found in progress has ended (R116, R457). -/
def State.outFrom (s : State) (t n : Nat) : Int :=
  let u := s.tcu t
  let o := s.outp t n
  let x : Int := (u.now : Int) * 16000
  let x := max x (o.hold + ((u.now : Int) - s.up) * 16000)
  let x := match o.last with | some l => max x (l.1 + 1) | none => x
  match o.seen with | some y => if y.2 = s.up then max x (y.1 + 1) else x | none => x

/-- The output's correction moves towards the prediction by at most SLEW ps with each pulse (R119). -/
def State.outSlew (s : State) (t n : Nat) : State :=
  let p := pageOut t n
  let e := s.rdS p R.OUT.OUT_ALIGN_ERR
  let m : Int := s.rd p R.OUT.OUT_ALIGN_SLEW
  s.wrSat p R.OUT.OUT_ALIGN_ERR (if e > m then e - m else if e < -m then e + m else 0)

/-- An aligned pulse placed first after an average raises ALIGNED, or ALIGN_REACQ after averaging afresh (R118, R119).
Log 44 (DEDUCED; unsafe). -/
def State.outFirstPlaced (s : State) (t n : Nat) : State :=
  let o := s.outp t n
  if ¬ s.outAligned (pageOut t n) ∨ o.placed then s else
  ((s.onOutp t n (fun o => { o with placed := true, afresh := false })).setAlign t n 2).raise (pageOut t n) (if o.afresh then 2 else 0)

/-- A scheduled instant of a pulse or frame output is reached: time goes on to it, and the pulse is placed, at the ball from the
active TCU, unless the output is quiet or the lead of 10 µs after an average has not passed (R114, R116–R120, R457). Each TCU places
its own, so the instant of one does not pass for the other, nor for another output (R121). -/
def State.outInstant (s : State) (t n : Nat) : State :=
  let p := pageOut t n
  if s.rd p R.OUT.OUT_PERIOD = 0 then s else
  let o := s.outp t n
  let x := s.outNext t n (s.outFrom t n)
  let early := s.outAligned p && !o.placed && decide (x.1 < ((o.avgAt : Int) + 10000) * 16000)
  let s := s.advance ((x.1 / 16000).toNat - (s.tcu t).now)
  let s := s.onOutp t n (fun o => { o with seen := some (x.1, s.up), old := if x.2.2 then none else o.old })
  if s.outQuiet t n ∨ early then s.onOutp t n (fun o => { o with started := false }) else
  let s := (s.onOutp t n (fun o => { o with last := some (x.1, x.2.1), started := true })).outFirstPlaced t n
  let s := if s.outAligned p then s.outSlew t n else s
  if s.atBall t then s.emit (.pulse t n x.1 x.2.1 (s.flag p R.OUT.OUT_CTL_INV)) else s

/-- How long a clock output is high in the cycle that begins at edge `x`, shifted by `k` steps, in sixteenths of a ps: 50 % duty,
and with DIV_FRAC = 0 whole VCO periods, one more high than low where DIV_INT is odd (R115). Log 44 (DEDUCED; unsafe). -/
def State.clkHigh (s : State) (t n : Nat) (x k : Int) : Int :=
  if s.rd (pageOut t n) R.OUT.OUT_DIV_FRAC = 0 then ((s.rd (pageOut t n) R.OUT.OUT_DIV_INT + 1) / 2 * 1600 : Nat)
  else s.clkPlace t (x + s.clkPeriod t n / 2) k - s.clkPlace t x k

/-- The phase shift after `k` more cycles: at most one interpolator step in each (R115). -/
def shiftTo (now want : Int) (k : Nat) : Int := if want > now then min want (now + k) else max want (now - k)

/-- A rising edge of a clock output's divider is reached: time goes on to it, the interpolator moves the phase by at most one step in
each cycle, and the cycle begins at the ball unless the output is quiet (R114, R115, R120). -/
def State.clkInstant (s : State) (t n : Nat) : State :=
  let p := pageOut t n
  if s.rd p R.OUT.OUT_DIV_INT = 0 then s else
  let x := s.clkNext t n
  let k := shiftTo (s.outp t n).step (s.clkSteps t n) x.2
  let s := s.advance ((x.1 / vcoNs).toNat - s.up)
  let s := (s.onOutp t n (fun o => { o with clk := some x.1, step := k, started := !s.outQuiet t n })).klTake t n x.1
  if s.outQuiet t n ∨ ¬ s.atBall t then s
  else s.emit (.clock t n (s.clkPlace t x.1 k) (s.clkHigh t n x.1 k) (s.flag p R.OUT.OUT_CTL_INV))

/-- The next instant of an output of TCU `t`, whose clock runs, is reached (R115, R116). -/
def execOutputPulseInstant (t n : Nat) (s : State) : Host.Outcome State Fault Refusal :=
  let t := t % 2
  let n := n % 8
  done (
    if ¬ (s.tcu t).clk then s
    else if s.rd (pageOut t n) R.OUT.OUT_CTL_MODE = 0 then s.clkInstant t n else s.outInstant t n)

/-- The edges an average needs: 2^AVG, and two for a period to be measured at all. Log 44 (DEDUCED; unsafe). -/
def State.avgNeed (s : State) (p : Nat) : Nat := max 2 (2 ^ s.rd p R.OUT.OUT_ALIGN_AVG)

/-- The output gathers edges for an average (R118, R119). -/
def Outp.averaging (o : Outp) : Bool := o.pred.isNone || (o.afresh && o.placed)

/-- The mean of some edges, newest first, as the next edge predicted and the period measured, ps (R118). -/
def average (es : List Int) : Int × Int :=
  let n : Int := es.length
  let span := es.headD 0 - es.getLastD 0
  let per := divEven span (n - 1)
  (divEven (2 * (n - 1) * es.sum + n * span * (n + 1)) (2 * (n - 1) * n), per)

/-- An average is complete and is checked against P (R118). -/
def State.averageDone (s : State) (t n : Nat) : State :=
  let p := pageOut t n
  let o := s.outp t n
  let es := o.edges.take (s.avgNeed p)
  if ¬ s.outAligned p ∨ ¬ o.averaging ∨ es.length < s.avgNeed p then s else
  let a := average es
  let ns := divEven a.2 1000
  if ns > 0 ∧ ns % s.rd p R.OUT.OUT_PERIOD = 0 then
    (s.wr p R.OUT.OUT_ALIGN_ERR 0).onOutp t n (fun o => { o with pred := some a, edges := [], avgAt := (s.tcu t).now, misses := 0, placed := false })
  else
    let was := s.rd p R.OUT.OUT_STAT_ALIGN ≥ 2
    let s := ((s.setAlign t n 1).raiseIf (!o.rejected) p 3).raiseIf was p 1
    s.onOutp t n (fun o => { o with pred := none, edges := [], afresh := false, placed := false, rejected := true })

def execOutAlignAverageDone (t n : Nat) (s : State) : Host.Outcome State Fault Refusal := done (s.averageDone (t % 2) (n % 8))

/-- An input edge of an aligned output arrives, at `x` ps of network time; where no TDC channel measures the input, the
alignment waits and begins anew (R118, R119).
Log 45 (DESIGN CHOICE; unsafe). -/
def State.alignEdge (s : State) (t n : Nat) (x : Int) : State :=
  let p := pageOut t n
  let o := s.outp t n
  if ¬ s.outAligned p then s else
  match s.alignChannel t n with
  | none => (s.onOutp t n (fun o => { o with pred := none, edges := [], misses := 0, placed := false, afresh := false })).setAlign t n 1
  | some c =>
    let s := s.wr p R.OUT.OUT_STAT_TDC c
    if o.averaging then s.onOutp t n (fun o => { o with edges := (x :: o.edges).take 64 })
    else match o.pred with
    | none => s
    | some (e, per) =>
      let d := x - e - divEven (x - e) per * per
      if d.natAbs > s.rd p R.OUT.OUT_ALIGN_WIN * 1000 then
        let s := (s.inc p R.OUT.OUT_STAT_OUTLIERS).raise p 4
        if o.misses ≥ 2 ∧ o.placed then s.onOutp t n (fun o => { o with misses := 0, edges := [], afresh := true })
        else s.onOutp t n (fun o => { o with misses := o.misses + 1 })
      else
        let s := (s.wrSat p R.OUT.OUT_ALIGN_ERR (s.rdS p R.OUT.OUT_ALIGN_ERR + d)).onOutp t n (fun o => { o with pred := some (x + per, per), misses := 0 })
        if s.rd p R.OUT.OUT_STAT_ALIGN = 3 then s.setAlign t n 2 else s

def execOutAlignEdge (t n : Nat) (at_ : Int) (s : State) : Host.Outcome State Fault Refusal := done (s.alignEdge (t % 2) (n % 8) at_)

/-- No input edge for two input periods: FLYWHEEL, with ALIGN_LOST (R119). -/
def execOutAlignTimeout (t n : Nat) (s : State) : Host.Outcome State Fault Refusal :=
  let t := t % 2
  let n := n % 8
  done (if s.rd (pageOut t n) R.OUT.OUT_STAT_ALIGN = 2 then (s.setAlign t n 3).raise (pageOut t n) 1 else s)

/-- The end of the pulse or high half-period that output `n` has in progress, in sixteenths of a ps of device time; the present
where it has none (R457). -/
def State.outBusyTo (s : State) (t n : Nat) : Int :=
  let now : Int := s.up * 16000
  let o := s.outp t n
  if s.outStill t n then now
  else if s.rd (pageOut t n) R.OUT.OUT_CTL_MODE = 0 then
    let e := s.clkEdge t n
    let per := s.clkPeriod t n
    let x := if o.bent ≠ 0 ∧ s.up * vcoNs < e + o.bent + per then e else e + o.bent + (s.up * vcoNs - e - o.bent) / per * per
    max now (s.clkPlace t x o.step - (s.tcu t).now * 16000 + now + s.clkHigh t n x o.step)
  else match o.last with
    | some l => max now (l.1 - (s.tcu t).now * 16000 + now + l.2 * 16000)
    | none => now

/-- The pulse or the high half-period that output `n` has in progress has not ended yet (R115, R116). -/
def State.outHigh (s : State) (t n : Nat) : Bool := decide (s.outBusyTo t n > s.up * 16000)

/-- The level of the ball OUTn: low while no TCU's output reaches it and while that output is quiet, whatever INV says; else high in a
pulse and in the high half of a clock's cycle, or, with INV, low in them and high between them (R114, R120). -/
def State.ball (s : State) (n : Nat) : Bool :=
  let t := s.lead
  s.outRunning t n && (s.outHigh t n != s.flag (pageOut t n) R.OUT.OUT_CTL_INV)

/-- The divider of an output starts with a phase of its own where its divisor changes or the output becomes a clock (R115). -/
def State.dividerKept (old s : State) (t n : Nat) : Bool :=
  old.rd (pageOut t n) R.OUT.OUT_CTL_MODE == 0 && s.rd (pageOut t n) R.OUT.OUT_CTL_MODE == 0 && old.clkPeriod t n == s.clkPeriod t n

/-- What a commit of an output page does (R117, R118, R457): `old` is the state before it. A change of mode ends the old mode once
the pulse in progress has ended, and the output is quiet until it starts in the new one. -/
def State.outCommitted (old : State) (t n : Nat) (s : State) : State :=
  let p := pageOut t n
  let gen (a : State) : Bool := a.flag p R.OUT.OUT_CTL_EN && a.rd p R.OUT.OUT_CTL_MODE != 0
  let same := old.rd p R.OUT.OUT_CTL_MODE == s.rd p R.OUT.OUT_CTL_MODE
  let keepAlign := same && old.rd p R.OUT.OUT_ALIGN_SRC == s.rd p R.OUT.OUT_ALIGN_SRC
  let q := old.outSched p
  let s := s.onOutp t n (fun o => { o with
    rejected := false
    started := o.started && same && !s.outQuiet t n
    hold := if same then o.hold else old.outBusyTo t n
    clk := if old.dividerKept s t n then o.clk else none
    bent := if old.dividerKept s t n then o.bent else 0
    shift := if old.dividerKept s t n then o.shift else none
    old := if gen old ∧ gen s ∧ same then (if q = s.outSched p then o.old else some ((match o.old with | some x => x.1 | none => q), (s.tcu t).now))
      else none })
  if keepAlign then s else
  ((s.onOutp t n (fun o => { o with pred := none, edges := [], misses := 0, placed := false, afresh := false })).setAlign t n
    (b2n (s.outAligned p))).wr p R.OUT.OUT_ALIGN_ERR 0

end Sys2Proof.Machine
end

