-- ==== Sys2Proof/Machine/Perf.lean ====
section
/-! DEFINITION. Performance counters, slot-use accounting and the engines' spare and faults (R358, R361–R370, R383). -/

namespace Sys2Proof.Machine

open Sys2Proof

def State.perf (s : State) (n : Nat) : Perf := look {} s.perfs n
def State.onPerf (s : State) (n : Nat) (f : Perf → Perf) : State := { s with perfs := upd {} s.perfs n f }

/-- The units that an event of R362 offers; an event without a unit takes any. -/
def eventUnits (e : Nat) : Nat :=
  if e ≤ 1 then 64 else if 0x10 ≤ e ∧ e ≤ 0x17 then 2 else if 0x20 ≤ e ∧ e ≤ 0x2A then 8 else if e = 0x30 ∨ e = 0x31 then 2
  else if 0x38 ≤ e ∧ e ≤ 0x3A then 48 else if e = 0x40 ∨ e = 0x41 then 12 else if e = 0x48 then 8 else 0

/-- An event and a unit of R362. -/
def perfListed (event unit : Nat) : Bool := decide (unit < eventUnits event)

/-- The domain of the source of an event (R361, R362). -/
def eventDomain (e u : Nat) : Nat :=
  if 0x10 ≤ e ∧ e ≤ 0x17 then 3 else if 0x20 ≤ e ∧ e ≤ 0x2A then 5 else if e = 0x30 ∨ e = 0x31 then 4
  else if e = 0x38 ∨ e = 0x39 then 8 + u / 8 else if e = 0x3A then 3 else if e = 0x40 ∨ e = 0x41 then 8 + u / 2 else 0

/-- The counter runs: an event, EN, and RUN where it is grouped (R361, R363). -/
def State.perfRuns (s : State) (n : Nat) : Bool :=
  let p := pagePerf n
  let e := s.rd p R.PERFC.PC_CTL_EVENT
  s.flag p R.PERFC.PC_CTL_EN && (!s.flag p R.PERFC.PC_CTL_GROUP || s.flag pagePerfCtl R.PERF.PERF_CTL_RUN) &&
  e != 0 && perfListed e (s.rd p R.PERFC.PC_CTL_UNIT)

/-- The counter counts: it runs, and the domain of its source is on (R361, R363). -/
def State.perfOn (s : State) (n : Nat) : Bool :=
  s.perfRuns n && s.isOn (eventDomain (s.rd (pagePerf n) R.PERFC.PC_CTL_EVENT) (s.rd (pagePerf n) R.PERFC.PC_CTL_UNIT))

/-- What one burst of `n` occurrences adds: their number in level mode, 1 in edge mode (R361). -/
def State.perfInc (s : State) (n k : Nat) : Nat := if s.flag (pagePerf n) R.PERFC.PC_CTL_MODE then k else min k 1

/-- The occurrences and bursts so far of the event that a counter watches. -/
def State.perfTotal (s : State) (n : Nat) : Nat × Nat :=
  look (0, 0) s.events (64 * s.rd (pagePerf n) R.PERFC.PC_CTL_EVENT + s.rd (pagePerf n) R.PERFC.PC_CTL_UNIT)

/-- What the model's own events add to a counter since it last took them into account (R361). -/
def State.perfDue (s : State) (n : Nat) : Nat :=
  if ¬ s.perfRuns n then 0
  else if s.flag (pagePerf n) R.PERFC.PC_CTL_MODE then (s.perfTotal n).1 - (s.perf n).seen.1 else (s.perfTotal n).2 - (s.perf n).seen.2

/-- What an overflow captures: the engine, the task running and its instruction address for an engine event; VALID alone
for others (R364). The task is given where the model runs none. -/
def State.perfCapture (s : State) (n addr task : Nat) : State :=
  let p := pagePerf n
  let e := s.rd p R.PERFC.PC_CTL_UNIT
  let eng := decide (0x20 ≤ s.rd p R.PERFC.PC_CTL_EVENT ∧ s.rd p R.PERFC.PC_CTL_EVENT ≤ 0x2A)
  let s := (s.wr p R.PERFC.PC_CAPT_VALID 1).wr p R.PERFC.PC_CAPT_ENGINE (if eng then e else 0)
  (s.wr p R.PERFC.PC_CAPT_TASK (if eng then (s.running e).getD task else 0)).wr p R.PERFC.PC_CAPT_ADDR (if eng then addr else 0)

/-- What a counter continues from after an overflow (R364). -/
def State.perfBase (s : State) (n : Nat) : Nat :=
  if s.flag (pagePerf n) R.PERFC.PC_CTL_RELOAD_EN then s.rdWide (pagePerf n) R.PERFC.PC_RELOAD_HI R.PERFC.PC_RELOAD_LO else 0

/-- An amount is added to a counter, which then has every event so far; each time it passes 48 bits it overflows (R364). -/
def State.perfAdd (s : State) (n k addr task : Nat) : State :=
  let p := pagePerf n
  let seen := s.perfTotal n
  let total := (s.perf n).count + k
  if total < 2 ^ 48 then s.onPerf n (fun c => { c with count := total, seen := seen })
  else
    let base := s.perfBase n
    let rest := total - 2 ^ 48
    let s := s.onPerf n (fun c => { c with count := base + rest % (2 ^ 48 - base), seen := seen })
    ((s.raise p 0).addI p R.PERFC.PC_OVF_CNT 0 (1 + rest / (2 ^ 48 - base))).perfCapture n addr task

/-- A counter takes the model's own events into account. -/
def State.perfTake (s : State) (n : Nat) : State :=
  if s.perfDue n = 0 then s else (s.perfAdd n (s.perfDue n) (Config.instrAddr s.free) 0).bump

/-- RUN falls after a grouped counter has overflowed with FREEZE 1; every grouped counter has what came before (R363, R364). -/
def State.perfFreeze (s : State) (n : Nat) : State :=
  if s.flag pagePerfCtl R.PERF.PERF_CTL_FREEZE ∧ s.flag (pagePerf n) R.PERFC.PC_CTL_GROUP then
    (s.each 64 (fun m a => if a.flag (pagePerf m) R.PERFC.PC_CTL_GROUP then a.perfTake m else a)).wr pagePerfCtl R.PERF.PERF_CTL_RUN 0
  else s

/-- An increment reaches a counter, with what the model's own events add; one that carries it past 48 bits overflows it (R361, R364).
Log 65 (DESIGN CHOICE; unsafe). Log 123 (DESIGN CHOICE; unsafe). -/
def State.perfCount (s : State) (n inc addr task : Nat) : State :=
  if ¬ s.perfOn n then s else
  let k := s.perfDue n + s.perfInc n inc
  let u := s.perfAdd n k addr task
  if (s.perf n).count + k < 2 ^ 48 then u else u.perfFreeze n

/-- `PC_CTL` of a counter, or `PERF_CTL`, was written; `old` is the state before the write. What came before it counts as it stood, and what
comes after it as it now stands (R361, R363). -/
def State.perfSwitched (old : State) (n : Nat) (s : State) : State :=
  let s := s.perfAdd n (old.perfDue n) (Config.instrAddr s.free) 0
  if (old.perf n).count + old.perfDue n < 2 ^ 48 then s else s.bump

/-- A burst of `inc` occurrences of the event of counter `n` (at most 2⁴⁸ − 1 of them), with the instruction address and task of the last
(R361, R364). -/
def execPerfCounterOverflow (n inc addr task : Nat) (s : State) : Host.Outcome State Fault Refusal :=
  done (s.perfCount (n % 64) (inc % 2 ^ 48) addr task)

/-- A read of `PC_VAL_LO` latches the high bits (R363). Log 65 (DESIGN CHOICE; unsafe). -/
def State.perfLatch (s : State) (n : Nat) : State :=
  let s := s.perfTake n
  s.wr (pagePerf n) R.PERFC.PC_VAL_HI ((s.perf n).count / 2 ^ 32)

/-- A write of `PC_VAL_HI` is staged, and one of `PC_VAL_LO` sets all 48 bits (R363). -/
def State.perfStage (s : State) (n v : Nat) : State := s.onPerf n (fun c => { c with staged := v % 2 ^ 16 })
def State.perfSet (s : State) (n v : Nat) : State :=
  s.onPerf n (fun c => { c with count := c.staged * 2 ^ 32 + v % 2 ^ 32, seen := s.perfTotal n })

/-- `PERF_OVF`: the counters whose OVF is pending (R364, R368). -/
def State.perfOvf (s : State) (k : Nat) : Nat :=
  (List.range 32).foldl (fun a i => if bitAt (s.rd (pagePerf (32 * k + i)) R.HDR.HDR_INT_CAUSE) 0 then a + 2 ^ i else a) 0

/-- A read by `ctx` of a counter page, or of PERF_SU, that returns 0 (R367). -/
def State.perfHidden (s : State) (ctx page : Nat) : Bool :=
  ctx != 0 && s.owner page != ctx && !(bitAt (s.rd pagePerfCtl R.PERF.PERF_ACCESS_CTX_RD) (ctx - 1) &&
    (page != pageSu || s.flag pagePerfCtl R.PERF.PERF_ACCESS_SU_RD))

/-- The categories of a unit: five of a pipeline, seven of an engine (R365). -/
def slotCats (u : Nat) : Nat := if u < 2 then 5 else 7

/-- The first category of unit `u` in a list of all 66. -/
def slotBase (u : Nat) : Nat := if u < 2 then 5 * u else 10 + 7 * (u - 2)

/-- The domain of a unit, and its cycles in so many device ns: core cycles of a pipeline, engine cycles of an engine (R14, R365). -/
def suDomain (u : Nat) : Nat := if u < 2 then 3 else 5
def suCycles (u t : Nat) : Nat := if u < 2 then t * 9 / 8 else t * 4 / 5

/-- Divides `n` into as many parts as the list has numbers, which choose all but the last. -/
def splitUp (n : Nat) : List Nat → List Nat
  | [] => []
  | [_] => [n]
  | w :: ws => w % (n + 1) :: splitUp (n - w % (n + 1)) ws

/-- The occurrences of an event of a unit that its slot accumulators have not yet taken into account, in category `k`. -/
def State.suNew (s : State) (u k e i : Nat) : Nat := (look (0, 0) s.events (64 * e + i)).1 - look 0 s.slotSeen (8 * u + k)

/-- The slots of a unit since they were last taken into account, by category (R365, R366): the model's own lookups are LINE, HOST and VOID, an
engine to which no task was dispatched has had none running, and the rest falls freely into the categories that are left; the slots of
a pipeline are at least its lookups. Log 65 (DESIGN CHOICE; unsafe). -/
def State.suSlots (s : State) (u : Nat) (w : List Nat) : List Nat :=
  let e := suCycles u s.up - suCycles u (look 0 s.slotSeen (8 * u + 7))
  if u < 2 then
    let known := [s.suNew u 0 0x10 u, s.suNew u 1 0x11 u, s.suNew u 2 0x12 u]
    known ++ splitUp (e - known.sum) [w.getD 0 0, 0]
  else if (s.running (u - 2)).isNone ∧ s.suNew u 2 0x27 (u - 2) = 0 then [0, 0, e, 0, 0, 0, 0]
  else splitUp e ((List.range 7).map (fun k => w.getD k 0))

/-- A unit's slots are taken into account from now on. -/
def State.suMark (s : State) (u : Nat) : State :=
  let set (k v : Nat) (m : Store Nat) : Store Nat := put 0 m (8 * u + k) v
  let ev (e i : Nat) : Nat := (look (0, 0) s.events (64 * e + i)).1
  { s with slotSeen := set 7 s.up (if u < 2 then set 0 (ev 0x10 u) (set 1 (ev 0x11 u) (set 2 (ev 0x12 u) s.slotSeen)) else set 2 (ev 0x27 (u - 2)) s.slotSeen) }

/-- The slots that a unit has had join its accumulators; one whose domain is off has none (R366). -/
def State.suTake (s : State) (u : Nat) (w : List Nat) : State :=
  if ¬ s.isOn (suDomain u) then s else
  let l := s.suSlots u w
  ((s.each (slotCats u) (fun k a => { a with slotUse := put 0 a.slotUse (8 * u + k) ((look 0 a.slotUse (8 * u + k) + l.getD k 0) % 2 ^ 48) })).suMark u)

/-- The units of a domain run from now on, or have run until now (R366). -/
def State.suStart (s : State) (d : Nat) : State := s.each 10 (fun u a => if suDomain u = d then a.suMark u else a)
def State.suStop (s : State) (d : Nat) : State :=
  if d ≠ 3 ∧ d ≠ 5 then s else
  let w := Config.slotsUsed s.free
  (s.each 10 (fun u a => if suDomain u = d then a.suTake u (w.drop (slotBase u)) else a)).bump

/-- The slots that the units have had are accumulated, and all 66 accumulators copied; `w` holds a free number for each (R366).
Log 65 (DESIGN CHOICE; unsafe). -/
def State.suSnap (s : State) (w : List Nat) : State :=
  let s := s.each 10 (fun u a => (a.suTake u (w.drop (slotBase u))).each (slotCats u) (fun k a =>
    let v := look 0 a.slotUse (8 * u + k)
    (a.wrI pageSu R.SU.SU_VAL (16 * u + 2 * k) (v % 2 ^ 32)).wrI pageSu R.SU.SU_VAL (16 * u + 2 * k + 1) (v / 2 ^ 32)))
  (s.wr pageSu R.SU.SU_SEQ (s.rd pageSu R.SU.SU_SEQ + 1)).wr pageSu R.SU.SU_CTL_SNAP 0

/-! ### The spare engine (R358, R383, R385) -/

/-- The record of the engine swap in progress, by slot. -/
def State.engSwap (s : State) (e : Nat) : Option Nat :=
  (List.range 16).find? (fun i => (s.swapRec i).kind == 3 && (s.swapRec i).state == 3 && (s.swapRec i).slice == e)

/-- The spare engine takes the place of an engine at a dispatch boundary, when no task of it is RUNNING (R358). -/
def State.engineSwap (s : State) (e : Nat) : State :=
  match s.engSwap e with
  | none => s
  | some i =>
    if (s.running e).isSome ∨ ¬ s.flag pageCave R.CAVE.CAVE_CTL_EN then s else
    let s := s.wr (pageEng e) R.ENGE.ENG_E_STAT_PHYS 8
    ((s.wr pageEngc R.ENG.ENG_STAT_SPARE_FOR e).wr pageEngc R.ENG.ENG_STAT_SPARE_IN_USE 1).swapDone i

def execEngineSwap (e : Nat) (s : State) : Host.Outcome State Fault Refusal := done (s.engineSwap (e % 8))

/-- A self-test pass of E0–E7, or of the spare engine 8, ends (R383). -/
def execEngineSelfTestEnd (e : Nat) (passed : Bool) (s : State) : Host.Outcome State Fault Refusal :=
  let e := e % 9
  done (
    if ¬ s.isOn 5 ∨ ¬ s.flag pageCave R.CAVE.CAVE_CTL_EN then s else
    let v := s.rd pageCave R.CAVE.CAVE_ST_FAIL_E
    let s := if e = 8 then s.wr pageCave R.CAVE.CAVE_ST_FAIL_SPARE (b2n (!passed))
      else s.wr pageCave R.CAVE.CAVE_ST_FAIL_E (v - bits v e 1 * 2 ^ e + b2n (!passed) * 2 ^ e)
    if passed then s.wearSet pageEngc e mSelfTest 0 false else s.wearFail pageEngc e mSelfTest)

end Sys2Proof.Machine
end

