-- ==== Sys2Proof/Machine/Cal.lean ====
section
/-! DEFINITION. The calibration director and the Cave: lane runs, slicer swaps, images, wear and swaps (R188, R371–R386). -/

namespace Sys2Proof.Machine

open Sys2Proof

/-! ### Lane runs (R371–R376) -/

/-- The slicer set in service, and the one that is not (R182). -/
def State.setIn (s : State) (p : Nat) : Nat := s.rd (pagePort p) R.PORT.PORT_STAT_SLICER_SET
def State.setOut (s : State) (p : Nat) : Nat := 1 - s.setIn p

/-- The residual and the failed runs of a slicer set change. -/
def Lane.setRes (l : Lane) (x : Nat) (v : Int) : Lane := if x = 0 then { l with lat0 := v } else { l with lat1 := v }
def Lane.setBad (l : Lane) (x n : Nat) : Lane := if x = 0 then { l with bad0 := n } else { l with bad1 := n }
def Lane.bad (l : Lane) (x : Nat) : Nat := if x = 0 then l.bad0 else l.bad1
def Lane.setAt (l : Lane) (x : Nat) (a : Int × Nat) : Lane := if x = 0 then { l with at0 := a } else { l with at1 := a }
def LaneRest.set (r : LaneRest) (x : Nat) : Option (Int × Int × Nat) := if x = 0 then r.set0 else r.set1

/-- How many sections of an image wait for a lane. -/
def Lane.waiting (l : Lane) : Nat :=
  match l.rest with | none => 0 | some r => b2n r.set0.isSome + b2n r.set1.isSome + b2n r.tx.isSome

/-- Values of an image go into a set, or into the transmitter (R380). -/
def Lane.takeSet (l : Lane) (x : Nat) (v : Option (Int × Int × Nat)) : Lane :=
  match v with | some v => (l.setRes x v.1).setAt x v.2 | none => l
def Lane.takeTx (l : Lane) (v : Option (Int × Int × Nat)) : Lane :=
  match v with | some v => { l with latTx := v.1, atTx := v.2 } | none => l

/-- A run of the lane is due: queued by CAL_RUN or fallen due (R372, R375). -/
def State.laneDue (s : State) (p : Nat) : Bool := s.calHead.contains (pagePort p) || (s.lane p).due

/-- The sensor of a lane (R372). -/
def laneSensor (p : Nat) : Nat := 2 + p / 16

/-- A lane's measurement holds the set out of service (R182). -/
def State.eyeBusy (s : State) (p : Nat) : Bool := s.flag (pagePort p) R.PORT.EYE_STAT_BUSY

/-- The values of an image have all gone in: the lane takes its T_cal, and falls due at once where that lies beyond the delta (R380). -/
def State.laneRested (s : State) (p : Nat) (r : LaneRest) : State :=
  let due := s.drifted (laneSensor p) r.t && s.flag pageCaldir R.CALDIR.CAL_CTL_EN_LANE
  let s := s.onLane p (fun l => { l.takeTx r.tx with run := 0, was := none, rest := none, tCal := r.t, due := l.due || due })
  (s.setLat p).wr pageCaldir R.CALDIR.CAL_STAT_RESTORED 1

/-- Values of an image go in: the set out of service takes its own and its swap is due; the transmit latency alone, which is all that a
lane on one set takes, goes in at once (R371, R380, R386). Log 68 (DEDUCED; unsafe). -/
def State.laneRestore (s : State) (p : Nat) : State :=
  let l := s.lane p
  match l.rest with
  | none => s
  | some r =>
    if l.run ≠ 0 then s
    else if l.retired ≠ 0 ∨ (r.set0.isNone ∧ r.set1.isNone) then s.laneRested p r
    else s.onLane p (fun l => { l.takeSet (s.setOut p) (r.set (s.setOut p)) with run := 5, was := some (l.lat0, l.lat1) })

/-- A lane run starts on the slicer set that is not in service, or the recalibration of a set that a measurement
borrowed (R182, R371); neither while `CAL_CTL.RESTORE_OPEN` is 1 (R380). -/
def State.laneCalStart (s : State) (p : Nat) : State :=
  let l := s.lane p
  if ¬ s.isOn (8 + p / 8) ∨ s.eyeBusy p ∨ l.recal then s
  else if l.run = 0 ∧ s.laneDue p ∧ s.runsOpen then
    let only := if s.calHead.contains (pagePort p) then 0 else l.only
    (s.runStart (pagePort p)).onLane p (fun l =>
      { l with due := false, only := only, was := some (l.lat0, l.lat1), run := if l.retired ≠ 0 ∨ only = 2 then 4 else 1 })
  else if s.runsOpen ∧ l.borrowed ∧ (l.run = 0 ∨ l.run = 2 ∨ l.run = 5) then s.onLane p (fun l => { l with recal := true })
  else s

def execLaneCalStart (p : Nat) (s : State) : Host.Outcome State Fault Refusal := done (s.laneCalStart (p % 48))

/-- The record of a slicer set's retirement, by slot (R385). -/
def State.slicerSwap (s : State) (p x : Nat) : Option Nat :=
  (List.range 16).find? (fun i => (s.swapRec i).kind == 2 && (s.swapRec i).state == 2 && (s.swapRec i).page == pagePort p && (s.swapRec i).slice == x)

/-- A lane run has ended: where the set now in service is to be retired, it is at the end of the next run, which follows at once after a
good one (R377, R385). -/
def State.retireNext (s : State) (p : Nat) (ok : Bool) : State :=
  if (s.slicerSwap p (s.setIn p)).isSome then s.onLane p (fun l => { l with retiring := true, due := l.due || ok }) else s

/-- The sensor value of a lane and the seconds, which the residuals of a run are stamped with (R379). -/
def State.laneStamp (s : State) (p : Nat) : Int × Nat := (s.sensor (laneSensor p), s.sec % 2 ^ 32)

/-- The whole lane run has ended well (R376, R382); its first one makes the port's page READY (R373). -/
def State.laneOk (s : State) (p : Nat) : State :=
  let g := pagePort p
  let s := s.onLane p (fun l => { (if l.only = 1 then l else { l with latTx := l.newTx, atTx := s.laneStamp p }) with
                                  run := 0, only := 0, was := none, tCal := s.sensor (laneSensor p) })
  (((((s.setLat p).runOk g).wr g R.HDR.HDR_STATUS_READY 1).calRunDone g true).retireNext p true).laneRestore p

/-- The run of a set fails: it counts, and the second failure in a row is reported to the Cave (R376). -/
def State.laneFail (s : State) (p : Nat) (slicer : Bool) : State :=
  let g := pagePort p
  let x := s.setOut p
  let n := if slicer then (s.lane p).bad x + 1 else 0
  let s := s.onLane p (fun l => let l := if slicer then l.setBad x (min 2 n) else l; { l with run := 0, only := 0, was := none, tCal := s.sensor (laneSensor p) })
  let s := if n ≥ 2 then s.wearFail g x mSlicer else s
  (((s.runFail g).wr g R.HDR.HDR_STATUS_READY 1).retireNext p false).laneRestore p

/-- The recalibration of a borrowed set fails: it counts as a failed run; one in the middle of a lane run fails that run, and after the
second failure in a row values of an image that wait for the set cannot go in (R182, R376, R380). Log 114 (DEDUCED; unsafe). -/
def State.recalFail (s : State) (p : Nat) : State :=
  let l := s.lane p
  let x := s.setOut p
  if l.run = 2 then s.laneFail p true else
  let n := l.bad x + 1
  let s := (s.onLane p (fun l => l.setBad x (min 2 n))).noteFail (pagePort p)
  if n < 2 then s else
  let s := s.wearFail (pagePort p) x mSlicer
  if l.run = 5 then (s.onLane p (fun l => { l with run := 0, was := none, rest := none })).skipSects l.waiting else s

/-- The calibration of a set, or of the transmit latency alone, ends with the residuals it found, in units of 2⁻¹⁶ ns
(R188, R371, R376). -/
def State.laneCalEnd (s : State) (p : Nat) (ok : Bool) (rx tx : Int) : State :=
  let l := s.lane p
  let x := s.setOut p
  let took (s : State) : State := s.onLane p (fun l => { ((l.setRes x rx).setAt x (s.laneStamp p)).setBad x 0 with borrowed := false })
  let s :=
    if l.recal then
      let s := s.onLane p (fun l => { l with recal := false })
      if ok then took s else s.recalFail p
    else if l.run = 1 then
      (if ok then (took s).onLane p (fun l => { l with run := 2, newTx := tx }) else s.laneFail p true)
    else if l.run = 3 then (if ok then (took s).laneOk p else s.laneFail p true)
    else if l.run = 4 then (if ok then (s.onLane p (fun l => { l with newTx := tx })).laneOk p else s.laneFail p false)
    else s
  s.eyeResume p

def execLaneCalEnd (p : Nat) (ok : Bool) (rx tx : Int) (s : State) : Host.Outcome State Fault Refusal := done (s.laneCalEnd (p % 48) ok rx tx)

/-- A worn set out of service is retired (R385). -/
def State.retireSet (s : State) (p x : Nat) : State :=
  match s.slicerSwap p x with
  | some i => (s.onLane p (fun l => { l with retired := l.retired ||| 2 ^ x, retiring := false })).swapDone i
  | none => s.onLane p (fun l => { l with retiring := false })

/-- At a block boundary the set out of service is swapped in; a measurement in progress, or a set not recalibrated after
one, makes it wait (R182, R188, R371, R380). Log 68 (DEDUCED; unsafe). -/
def State.slicerSwapIn (s : State) (p : Nat) : State :=
  let l := s.lane p
  let old := s.setIn p
  if ¬ (l.run = 2 ∨ l.run = 5) ∨ s.eyeBusy p ∨ l.borrowed ∨ l.recal then s else
  let s := (s.wr (pagePort p) R.PORT.PORT_STAT_SLICER_SET (1 - old)).setLat p
  if l.run = 2 then
    (if l.retiring then (s.retireSet p old).laneOk p else s.onLane p (fun l => { l with run := 3 }))
  else
    let r := l.rest.getD {}
    ((s.onLane p (fun l => l.takeSet old (r.set old))).laneRested p r).retireNext p true

def execSlicerSwap (p : Nat) (s : State) : Host.Outcome State Fault Refusal := done (s.slicerSwapIn (p % 48))

/-! ### CAL_RUN (R375) -/

/-- The block pages of the slices that a CAL_RUN names, if it names any. -/
def calTargets (page arg : Nat) : Option (List Nat) :=
  match pageBlk page with
  | some .tdc | some .port | some .synth => some [page]
  | some .nt =>
    let n := page - pageNT 0
    if arg < 4 then some [pagePort (4 * n + arg)] else if arg = 0xFFFFFFFF then some ((List.range 4).map (fun i => pagePort (4 * n + i))) else none
  | _ => none

/-- CAL_RUN queues its runs at the head of their queue (R375). -/
def State.startCalRun (k : Cmd) (s : State) : State :=
  let ts := (calTargets (k.arg 0) (k.arg 1)).getD []
  let s := s.fly { k with args := k.args.take 2 ++ ts }
  if ts.any (fun p => s.pageOff p) ∨ ts.any (fun p => p = pageSynth s.active ∧ s.tokenHeld) then s.finishSt k stWrongState
  else { s with calHead := ts ++ s.calHead.filter (fun q => !ts.contains q) }

/-- The slices queued and not yet run, `CAL_STAT.DUE` (R374, R387). -/
def State.calDue (s : State) : Nat :=
  let pages := ((List.range 2).map (fun t => ((List.range 24).filter (fun c => s.tdcDue t c)).map (fun c => pageTdc t c) ++
    (if s.pllDue t then [pageSynth t] else []))).flatten ++ ((List.range 48).filter (fun p => s.laneDue p)).map pagePort
  satNat 16 pages.length

/-! ### Images (R378–R381) -/

/-- A section of a calibration image (R379). -/
structure Sect where
  page : Nat
  kind : Nat
  slice : Nat
  t : Int
  sec : Nat
  payload : List Nat
  deriving DecidableEq, Repr

/-- A section as words. -/
def Sect.words (x : Sect) : List Nat :=
  [x.page + x.kind * 2 ^ 12 + x.slice * 2 ^ 16, 4 * x.payload.length, ofInt 16 x.t, x.sec] ++ x.payload

/-- The image of some sections, as words (R379). -/
def State.imageOf (s : State) (xs : List Sect) : List Nat :=
  let body := (xs.map Sect.words).flatten
  let head := [0x4B43414C, 1, s.rd pageRind R.RIND.RIND_CHIP_ID_REV, s.rd pageLc R.LC.LC_SERIAL_LO, s.rd pageLc R.LC.LC_SERIAL_HI,
    4 * (8 + body.length), xs.length]
  let octs := (body.map (leOct 4)).flatten
  head ++ [0xFFFFFFFF - crc32 0xFFFFFFFF octs] ++ body

/-- Stores an image in the staging image. -/
def State.storeImage (s : State) (ws : List Nat) : State := { s with image := ws.zipIdx.foldl (fun m e => put 0 m e.2 e.1) s.image }

def State.imageWord (s : State) (i : Nat) : Nat := look 0 s.image i

/-- The sections of the staging image from a word on, `n` of them, within `len` words; none where they do not fit exactly. -/
def State.sections (s : State) (len : Nat) : Nat → Nat → Option (List Sect)
  | 0, at_ => if at_ = len then some [] else none
  | n + 1, at_ =>
    let w (i : Nat) : Nat := s.imageWord (at_ + i)
    let m := w 1 / 4
    if at_ + 4 > len ∨ w 1 % 4 ≠ 0 ∨ at_ + 4 + m > len then none
    else (s.sections len n (at_ + 4 + m)).map (fun xs =>
      ⟨w 0 % 2 ^ 12, w 0 / 2 ^ 12 % 16, w 0 / 2 ^ 16 % 2 ^ 16, toInt 16 (w 2 % 2 ^ 16), w 3, (List.range m).map (fun i => w (4 + i))⟩ :: xs)

/-- The check of R380: the reason of a rejection as `CAL_STAT.WHY` gives it, or the sections. A LENGTH that no image can
have is found before the CRC that it spans (DEDUCED). Log 70 (DEDUCED; unsafe). -/
def State.checkImage (s : State) : Nat × List Sect :=
  let w := s.imageWord
  let len := w 5
  if w 0 ≠ 0x4B43414C ∨ w 1 % 256 ≠ 1 then (1, [])
  else if w 2 % 256 ≠ s.rd pageRind R.RIND.RIND_CHIP_ID_REV then (2, [])
  else if w 3 ≠ s.rd pageLc R.LC.LC_SERIAL_LO ∨ w 4 ≠ s.rd pageLc R.LC.LC_SERIAL_HI then (3, [])
  else if len < 32 ∨ len > 131072 ∨ len % 4 ≠ 0 then (5, [])
  else
    let body := (List.range (len / 4 - 8)).map (fun i => leOct 4 (w (8 + i)))
    if w 7 ≠ 0xFFFFFFFF - crc32 0xFFFFFFFF body.flatten then (4, [])
    else match s.sections (len / 4) (w 6 % 32768) 8 with
    | some xs => (0, xs)
    | none => (5, [])

/-- A write of `CAL_CMD`: each bit is ignored while a capture or an apply is in progress (R387). -/
def State.calBusy (s : State) : Bool := s.flag pageCaldir R.CALDIR.CAL_STAT_CAPTURING || s.flag pageCaldir R.CALDIR.CAL_STAT_APPLYING

def State.captureStart (s : State) : State := s.wr pageCaldir R.CALDIR.CAL_STAT_CAPTURING 1

/-- The table in force of a channel as a payload: `TDC_LAT` and FINE(0)–FINE(511) (R379). -/
def State.tdcPayload (s : State) (t c : Nat) : List Nat :=
  s.rd (pageTdc t c) R.TDC.TDC_LAT :: (List.range 512).map (fun i => (s.tdc t c).fine i)

def State.tdcSect (s : State) (t c : Nat) : Sect :=
  ⟨pageTdc t c, 1, 0, (s.tdc t c).tVal, (s.tdc t c).secs, s.tdcPayload t c⟩

/-- The sections of a lane, of its residuals between its runs; their payload is the residual, one word (DESIGN CHOICE: R379 leaves the
layout private) (R378). Log 69 (DESIGN CHOICE; unsafe). -/
def State.laneSects (s : State) (p : Nat) : List Sect :=
  let l := s.lane p
  let one (kind x : Nat) (v : Int) (a : Int × Nat) : Sect := ⟨pagePort p, kind, x, a.1, a.2, [ofInt 32 v]⟩
  let v := l.was.getD (l.lat0, l.lat1)
  (if bitAt l.retired 0 then [] else [one 2 0 v.1 l.at0]) ++ (if bitAt l.retired 1 then [] else [one 2 1 v.2 l.at1]) ++ [one 3 0 l.latTx l.atTx]

/-- The section of a synthesizer, of the values it had before a run in progress; its payload is the band and VTUNE, one word (DESIGN CHOICE).
(R378). Log 69 (DESIGN CHOICE; unsafe). -/
def State.synthSect (s : State) (t : Nat) : List Sect :=
  let p := pageSynth t
  if s.flag p R.SYNTH.SYN_STAT_BAND_VALID ∨ s.calRunning.contains p then
    [⟨p, 4, 0, (s.tcu t).tPll, (s.tcu t).pllSecs, [s.rd p R.SYNTH.SYN_STAT_BAND + s.rd p R.SYNTH.SYN_STAT_VTUNE * 256]⟩] else []

/-- The spare map of a page as words, slice in the low half and spare in the high half, empty where no spare serves
(DESIGN CHOICE); a row takes two words, itself and its spare. -/
def State.spareMap (s : State) (page : Nat) : List Nat :=
  match wearKind page with
  | some 0 => ((List.range 36).filter (fun b => s.bankRole b == bInService && s.bankLogical b != b)).map (fun b => s.bankLogical b + b * 65536)
  | some 1 => let x := s.rd page R.TDC.TDC_STAT_SPARE_FOR; if x = 7 then [] else [x + 4 * 65536]
  | some 2 => let r := (s.lane (page - pagePort 0)).retired
              (List.range 2).filterMap (fun x => if bitAt r x then some (x + (1 - x) * 65536) else none)
  | some 3 => if s.flag page R.ENG.ENG_STAT_SPARE_IN_USE then [s.rd page R.ENG.ENG_STAT_SPARE_FOR + 8 * 65536] else []
  | some _ => ((s.rowMap.filter (fun e => e.1 / 2 ^ 20 == page)).map (fun e => [e.1 % 2 ^ 20, e.2 - 1])).flatten
  | none => []

/-- Log 69 (DESIGN CHOICE; unsafe). -/
def State.mapSect (s : State) (page : Nat) : List Sect := if s.spareMap page = [] ∨ s.pageOff page then [] else [⟨page, 5, 0, 0, 0, s.spareMap page⟩]

/-- The pages that a spare map is kept for. -/
def mapPages : List Nat :=
  [0x100, 0x020, 0x0C3, 0x0C4, 0x0C5, 0x0C6, 0x0C7, 0x101, 0x142] ++ (List.range 48).map pagePort ++
  ((List.range 2).map (fun t => [pageCad t, pageGw t] ++ (List.range 24).map (fun c => pageTdc t c))).flatten

/-- The image of the values in force in every powered domain, and of the spare maps (R378). -/
def State.capture (s : State) : List Sect :=
  ((List.range 2).map (fun t => if s.isOn (1 + t) ∧ (s.tcu t).ready then (List.range 24).map (fun c => s.tdcSect t c) ++ s.synthSect t else [])).flatten ++
  ((List.range 48).map (fun p => if s.isOn (8 + p / 8) then s.laneSects p else [])).flatten ++ (mapPages.map s.mapSect).flatten

/-- The capture completes (R378). -/
def execCaptureDone (s : State) : Host.Outcome State Fault Refusal :=
  done (
    if ¬ s.flag pageCaldir R.CALDIR.CAL_STAT_CAPTURING then s else
    let ws := s.imageOf s.capture
    let s := (s.storeImage ws).wr pageCaldir R.CALDIR.CAL_IMG_LEN (4 * ws.length)
    (s.wr pageCaldir R.CALDIR.CAL_STAT_CAPTURING 0).raise pageCaldir 1)

/-- A section of an accepted image: its slice receives it, to take it at its own boundary; none where it is skipped (R380). -/
def State.applySect (s : State) (x : Sect) : Option State :=
  if s.pageOff x.page then none else
  match pageBlk x.page, x.kind with
  | some .tdc, 1 =>
    let t := if isTcuB x.page then 1 else 0
    if x.payload.length = 513 then
      some (s.onTdc t (pageIndex x.page) (fun d => { d with rest := some ⟨(x.payload.drop 1).map (fun v => v % 65536), x.payload.getD 0 0, x.t, x.sec⟩ }))
    else none
  | some .port, 2 =>
    let p := x.page - pagePort 0
    let v := toInt 32 (x.payload.getD 0 0)
    if x.slice < 2 ∧ x.payload.length = 1 ∧ (s.lane p).retired = 0 then
      some (s.onLane p (fun l =>
        let r := { l.rest.getD {} with t := x.t }
        let v := some (v, x.t, x.sec)
        { l with rest := some (if x.slice = 0 then { r with set0 := v } else { r with set1 := v }) }))
    else none
  | some .port, 3 =>
    if x.payload.length = 1 then
      some (s.onLane (x.page - pagePort 0) (fun l => { l with rest := some { l.rest.getD {} with t := x.t, tx := some (toInt 32 (x.payload.getD 0 0), x.t, x.sec) } }))
    else none
  | some .synth, 4 =>
    let t := if isTcuB x.page then 1 else 0
    let v := x.payload.getD 0 0
    if x.payload.length ≠ 1 then none
    else if s.tcuState t = tsStandby then some (s.takePll t (v % 64, v / 256 % 256, x.t, x.sec))
    else if s.tcuState t = tsCalibrating then some (s.onTcu t (fun u => { u with pllRest := some (v % 64, v / 256 % 256, x.t, x.sec) }))
    else none
  | _, _ => none

/-- A write of 1 to `CAL_CMD.APPLY` (R380). -/
def State.applyStart (s : State) : State :=
  let c := s.checkImage
  if c.1 ≠ 0 then
    let s := (s.wr pageCaldir R.CALDIR.CAL_STAT_IMG_REJECT 1).wr pageCaldir R.CALDIR.CAL_STAT_WHY c.1
    s.raise pageCaldir 3
  else
    let s : State := { s with applied := true }
    let s := ((s.wr pageCaldir R.CALDIR.CAL_STAT_IMG_REJECT 0).wr pageCaldir R.CALDIR.CAL_STAT_WHY 0).wr pageCaldir R.CALDIR.CAL_STAT_APPLYING 1
    let r := c.2.foldl (fun (a : State × Nat) x => match a.1.applySect x with | some s => (s, a.2) | none => (a.1, a.2 + 1)) (s, 0)
    let s := r.1.wr pageCaldir R.CALDIR.CAL_APPLY_SKIP (satNat 16 r.2)
    s.each 48 (fun p a => a.laneRestore p)

/-- Some slice still waits to take values of the image. -/
def State.restWaits (s : State) : Bool :=
  s.lanes.any (fun e => e.2.rest.isSome) || s.tcus.any (fun e => e.2.pllRest.isSome || e.2.tdcs.any (fun d => d.2.rest.isSome))

/-- Every section has been applied or skipped (R380). -/
def execApplyDone (s : State) : Host.Outcome State Fault Refusal :=
  done (if s.flag pageCaldir R.CALDIR.CAL_STAT_APPLYING ∧ ¬ s.restWaits then
    (s.wr pageCaldir R.CALDIR.CAL_STAT_APPLYING 0).raise pageCaldir 2 else s)

/-- What a write of `CAL_CMD` does (R378, R380): its bits clear as the action is accepted or ignored (R8).
Log 15 (DESIGN CHOICE; unsafe). -/
def State.calCmd (s : State) (v : Nat) : State :=
  let busy := s.calBusy
  let s := (s.wr pageCaldir R.CALDIR.CAL_CMD_CAPTURE 0).wr pageCaldir R.CALDIR.CAL_CMD_APPLY 0
  if busy then s else if bitAt v 0 then s.captureStart else if bitAt v 1 then s.applyStart else s

/-- An access to `CAL_IMG_DATA` advances the address (R378). Log 70 (DEDUCED; unsafe). -/
def State.imgNext (s : State) : State := s.wr pageCaldir R.CALDIR.CAL_IMG_ADDR (s.rd pageCaldir R.CALDIR.CAL_IMG_ADDR + 1)

/-- A write of `CAL_IMG_DATA`; ignored during a capture or apply (R387). -/
def State.imgWrite (s : State) (v : Nat) : State :=
  let s' := if s.calBusy then s else { s with image := put 0 s.image (s.rd pageCaldir R.CALDIR.CAL_IMG_ADDR) v }
  s'.imgNext

/-- A write of `TDC_LUT_DATA` while RESTORE_OPEN is 1 goes to the channel's section of the staging image, which is created
with the values in force where it is absent; the header and its CRC follow (R380). Log 70 (DEDUCED; unsafe). -/
def State.lutWrite (s : State) (t c v : Nat) : State :=
  if ¬ s.flag pageCaldir R.CALDIR.CAL_CTL_RESTORE_OPEN then s else
  let p := pageTdc t c
  let i := s.rd p R.TDC.TDC_LUT_IDX
  let r := s.checkImage
  let xs := if r.1 = 0 then r.2 else []
  let mine (x : Sect) : Bool := x.page == p && x.kind == 1 && x.payload.length == 513
  let xs := if xs.any mine then xs else xs ++ [s.tdcSect t c]
  s.storeImage (s.imageOf (xs.map (fun x => if mine x then { x with payload := x.payload.set (1 + i) (v % 65536) } else x)))

/-- Start-up takes its items from the staging image: USE_RESTORED is 1, or an APPLY has accepted it (R381).
Log 70 (DEDUCED; unsafe). -/
def State.restSects (s : State) : Option (List Sect) :=
  if s.flag pageCaldir R.CALDIR.CAL_CTL_USE_RESTORED ∨ s.applied then
    (if (s.checkImage).1 = 0 then some (s.checkImage).2 else some []) else none

/-- An item of a start-up is not in the image (R381). -/
def State.restMiss (s : State) : State :=
  if s.restSects.isNone then s else (s.wr pageCaldir R.CALDIR.CAL_STAT_RESTORE_MISS 1).raise pageCaldir 4

def findSect (xs : List Sect) (page kind slice : Nat) : Option Sect := xs.find? (fun x => x.page == page && x.kind == kind && x.slice == slice)

/-- The value of a lane's section, with its T_cal and seconds. -/
def Sect.laneVal (x : Sect) : Int × Int × Nat := (toInt 32 (x.payload.getD 0 0), x.t, x.sec)

/-- The start-up of a lane: its slicer sets, but for a retired one, and its transmit latency take the values of the image, each item that
the image holds; a run calibrates the other in full, and the page is READY at once where there is none (R373, R381).
Log 68 (DEDUCED; unsafe). -/
def State.laneStartUp (s : State) (p : Nat) : State :=
  let g := pagePort p
  let l := s.lane p
  let get (kind x : Nat) : Option (Int × Int × Nat) := (findSect (s.restSects.getD []) g kind x).map Sect.laneVal
  let sets := (List.range 2).filter (fun x => !bitAt l.retired x)
  let rxOk := sets.all (fun x => (get 2 x).isSome)
  let txOk := (get 3 0).isSome
  let s := s.onLane p (fun l =>
    let l := sets.foldl (fun l x => l.takeSet x (get 2 x)) (l.takeTx (get 3 0))
    { l with tCal := ((sets.map (get 2)).foldl (fun a v => if a.isSome then a else v) (get 3 0)).elim l.tCal (fun v => v.2.1) })
  let s := (s.setLat p).wr pageCaldir R.CALDIR.CAL_STAT_RESTORED
    (max (s.rd pageCaldir R.CALDIR.CAL_STAT_RESTORED) (b2n (txOk || sets.any (fun x => (get 2 x).isSome))))
  if rxOk ∧ txOk then s.wr g R.HDR.HDR_STATUS_READY 1
  else (s.onLane p (fun l => { l with due := true, only := if rxOk then 2 else if txOk then 1 else 0 })).restMiss

/-- The synthesizer of a TCU that starts up takes the band of the image if the sensor lies within 45 °C of its T_cal (R381). -/
def State.pllStartUp (s : State) (t : Nat) : State :=
  match findSect (s.restSects.getD []) (pageSynth t) 4 0 with
  | some x =>
    if (s.sensor t - x.t).natAbs ≤ 45 * 16 then
      s.onTcu t (fun u => { u with pllRest := some (x.payload.getD 0 0 % 64, x.payload.getD 0 0 / 256 % 256, x.t, x.sec) })
    else s
  | none => s.restMiss

/-- The start-up of a TDC channel: the values of the image, or the table of its run, which is not taken where the lock check finds a line
unlocked (R71, R88, R376, R381). -/
def State.tdcStartUp (s : State) (t c : Nat) (hist : List Nat) (res : Int) : State :=
  let p := pageTdc t c
  let s := s.wr p R.TDC.TDC_STAT_CAL_RUNNING 0
  match findSect (s.restSects.getD []) p 1 0 with
  | some x =>
    let s := (s.takeTable t c ((x.payload.drop 1).map (fun v => v % 65536)) (x.payload.getD 0 0)).onTdc t c
      (fun d => { d with tCal := x.t, tVal := x.t, secs := x.sec })
    s.wr pageCaldir R.CALDIR.CAL_STAT_RESTORED 1
  | none =>
    let s := (s.runStart p).onTdc t c (fun d => { d with tCal := s.sensor t })
    (if s.rd p R.TDC.TDC_STAT_LINE_LOCK = 31 then (s.takeNew t c ⟨fineTable hist, tdcLatency c res, s.sensor t, s.sec % 2 ^ 32⟩).runOk p
      else s.tdcRunFail p).restMiss

/-- A code-density run of a TCU's start-up waits for `CAL_CTL.RESTORE_OPEN` to return to 0 (R380, R381). -/
def State.runsWait (s : State) (t : Nat) : Bool :=
  !s.runsOpen && (List.range 24).any (fun c => (findSect (s.restSects.getD []) (pageTdc t c) 1 0).isNone)

/-- A write of `CAL_CTL`: the start-up runs that RESTORE_OPEN held back begin as it returns to 0 (R380). -/
def State.calCtlWritten (s : State) : State :=
  if s.runsOpen then s.both (fun t a => if (a.tcu t).runsHeld then a.startRuns t a.up else a) else s

/-- The rows of a page that spare rows replace, from the words of its spare map. -/
def rowPairs : List Nat → List (Nat × Nat)
  | a :: b :: l => (a, b) :: rowPairs l
  | _ => []

/-- The spare map of a page comes back at the start-up of its domain (R381, R385). -/
def State.mapStartUp (s : State) (page : Nat) : State :=
  match findSect (s.restSects.getD []) page 5 0 with
  | none => s
  | some x =>
    if wearKind page = some 4 then
      let s : State := { s with rowMap := (rowPairs x.payload).foldl (fun m e => put 0 m (page * 2 ^ 20 + e.1 % 2 ^ 20) (e.2 + 1)) s.rowMap }
      s.wr page R.HDR.HDR_SPARE_STAT_USED (s.rowShare page)
    else x.payload.foldl (fun a w =>
      let slice := w % 65536
      let spare := w / 65536
      let used (a : State) : State := a.wr page R.HDR.HDR_SPARE_STAT_USED (satNat 4 (a.rd page R.HDR.HDR_SPARE_STAT_USED + 1))
      match wearKind page with
      | some 0 => used ((a.setBank spare bInService slice).wr (pageVB slice) R.VB.VB_STAT_ROLE bRetired)
      | some 1 => used (a.wr page R.TDC.TDC_STAT_SPARE_FOR slice)
      | some 2 => used ((a.onLane (page - pagePort 0) (fun l => { l with retired := l.retired ||| 2 ^ slice })).wr page
          R.PORT.PORT_STAT_SLICER_SET (1 - slice % 2))
      | some 3 => used (((a.wr (pageEng slice) R.ENGE.ENG_E_STAT_PHYS 8).wr page R.ENG.ENG_STAT_SPARE_FOR slice).wr page R.ENG.ENG_STAT_SPARE_IN_USE 1)
      | _ => a) s

/-! ### Wear and swaps (R383–R386) -/

/-- A wear monitor reports on a slice. What `v` counts follows the monitor: corrected errors, parity errors or uncorrectable
errors in the last hour; the largest change of a tap in fs; a loop out of range or a failed run, a failing condition; the
offset correction in thousandths of its full range; the self-test has a row of its own (R383). -/
def State.wearUpdate (s : State) (page slice monitor v : Nat) : State :=
  let lim := s.rd pageCave R.CAVE.CAVE_CE_LIM
  match monitor with
  | 1 => s.wearSet page slice monitor (128 * v / lim) false
  | 2 => s.wearSet page slice monitor (128 * (v * (lim / 2)) / lim) false
  | 3 => if v ≥ 2 then s.wearFail page slice monitor else s.wearSet page slice monitor 0 false
  | 4 => s.wearSet page slice monitor (128 * v / 2000) false
  | 5 | 7 => s.wearFail page slice monitor
  | 6 => s.wearSet page slice monitor (128 * v / 750) false
  | _ => s

def execWearUpdate (page slice monitor v : Nat) (s : State) : Host.Outcome State Fault Refusal := done (s.wearUpdate page slice monitor v)

/-- A queued swap takes effect at its boundary; `table` is the correction table of a TDC channel's new set of lines (R75,
R296, R358, R385). A swap of a slice that is being calibrated waits. Log 72 (DEDUCED; unsafe). -/
def State.swapBoundary (s : State) (i : Nat) (table : List Nat) : State :=
  let r := s.swapRec i
  if ¬ (r.state = 2 ∨ r.state = 3) ∨ ¬ s.flag pageCave R.CAVE.CAVE_CTL_EN then s else
  match r.kind with
  | 0 => ((s.toCopyEnd r.since).bankSwap r.slice r.spare).swapDone i
  | 1 =>
    let t := if isTcuB r.page then 1 else 0
    let c := pageIndex r.page
    if ¬ s.gateIdle t c ∨ s.flag r.page R.TDC.TDC_STAT_CAL_RUNNING then s
    else
      let s := match (s.tdc t c).newLut with | some n => (s.takeNew t c n).calRunDone r.page true | none => s
      ((s.onTdc t c (fun d => { d with lut := tableStore (table.map (fun v => v % 65536)) })).wr r.page R.TDC.TDC_STAT_SPARE_FOR r.slice).swapDone i
  | 2 =>
    let p := r.page - pagePort 0
    if s.setIn p = r.slice ∨ (s.lane p).run ≠ 0 ∨ (s.lane p).recal ∨ s.eyeBusy p then s else s.retireSet p r.slice
  | 3 => s.engineSwap r.slice
  | _ => ({ s with rowMap := put 0 s.rowMap (r.page * 2 ^ 20 + r.slice) (r.spare + 1) } : State).swapDone i

def execSpareSwap (i : Nat) (table : List Nat) (s : State) : Host.Outcome State Fault Refusal := done (s.swapBoundary (i % 16) table)

/-- The copy of a Vat bank ends: the logical bank that it serves moves to the spare (R296). -/
def execVatBankSwap (src : Nat) (s : State) : Host.Outcome State Fault Refusal :=
  done (match (List.range 16).find? (fun i => (s.swapRec i).kind == 0 && (s.swapRec i).state == 3 && (s.swapRec i).slice == src) with
    | some i => s.swapBoundary i []
    | none => s)

/-- The slot of the record with a number. -/
def State.swapNumbered (s : State) (n : Nat) : Option Nat := (List.range 16).find? (fun i => (s.swapRec i).state != 0 && (s.swapRec i).number == n)

/-- SPARE_APPROVE moves an AWAITING record to QUEUED (R384). -/
def State.startSpareApprove (k : Cmd) (s : State) : State :=
  let s := s.fly k
  match s.swapNumbered (k.arg 0) with
  | some i => if (s.swapRec i).state = 1 then s.swapQueue i else s.finishSt k stWrongState
  | none => s.finishSt k stWrongState

/-- A CMD_ABORT before the boundary returns the record to AWAITING (R384). -/
def State.swapUndo (s : State) (n : Nat) : State :=
  match s.swapNumbered n with
  | none => s
  | some i =>
    let r := s.swapRec i
    if ¬ (r.state = 2 ∨ r.state = 3) then s else
    let s := s.onSwap i (fun r => { r with state := 1 })
    if r.kind = 0 then (s.wr (pageVB r.spare) R.VB.VB_STAT_ROLE bSpare).wr (pageVB r.spare) R.VB.VB_COPY (s.wordsCopied r.since)
    else if r.kind = 2 then s.onLane (r.page - pagePort 0) (fun l => { l with retiring := false }) else s

/-- The swaps of a domain that is switched off or wiped end CANCELLED, and its spares are no longer in use (R385). -/
def State.swapsOff (s : State) (d : Nat) : State :=
  let s := s.each 16 (fun i a => if (a.swapRec i).live ∧ pageDomain (a.swapRec i).page = d then a.swapCancel i else a)
  { s with rowMap := s.rowMap.filter (fun e => pageDomain (e.1 / 2 ^ 20) != d)
           swapWait := s.swapWait.filter (fun w => pageDomain w.page != d) }

/-- The sections that wait for a slice of a domain which is switched off or wiped cannot be applied (R380). -/
def State.restOff (s : State) (d : Nat) : State :=
  let n := if d ≤ 2 then
      ((List.range 24).filter (fun c => (s.tdc (d - 1) c).rest.isSome)).length + b2n ((s.tcu (d - 1)).pllRest.isSome && s.tcuState (d - 1) == tsCalibrating)
    else if 8 ≤ d then ((List.range 8).map (fun i => (s.lane (8 * (d - 8) + i)).waiting)).sum else 0
  s.skipSects n

/-- A write of `CAVE_CTL`: the slices whose index a lower SWAP_AT takes in fall due (R384); `CAVE_SWAP_SEL` names the record that the three
words show (R388). -/
def State.caveWritten (old : State) (off : Nat) (s : State) : State :=
  if off = 0x040 then mapPages.foldl (fun a p => a.wearAgain p (old.rd pageCave R.CAVE.CAVE_CTL_SWAP_AT)) s
  else if off = 0x04C then s.caveLatch else s

/-- `CAVE_STAT` and the header: records AWAITING, records QUEUED or COPYING, and a page with one that awaits approval. -/
def State.swapsIn (s : State) (f : SwapRec → Bool) : Nat := (s.swaps.filter (fun e => f e.2)).length
def State.approvalWait (s : State) (page : Nat) : Bool := s.swaps.any (fun e => e.2.state == 1 && e.2.page == page)

end Sys2Proof.Machine
end

