-- ==== Sys2Proof/Machine/Pads.lean ====
section
/-! DEFINITION. The balls and the test access port: what every output drives, the boundary-scan register and its instructions (R416, R427, R428, R431, R434). -/

namespace Sys2Proof.Machine

open Sys2Proof

/-- The signal balls: those of the west and east bands, and the lane and PCIe transmitters by pair (R427, R428, R431). -/
inductive Ball where
  | outP (n : Nat)
  | outN (n : Nat)
  | evt (n : Nat)
  | refP (n : Nat)
  | refN (n : Nat)
  | gate (n : Nat)
  | pps (n : Nat)
  | oscIn
  | syncIn
  | spiSck (x : Nat)
  | spiCsN (x : Nat)
  | spiMosi (x : Nat)
  | spiMiso (x : Nat)
  | bootSck
  | bootCsN
  | bootIo (n : Nat)
  | porstN
  | intN (n : Nat)
  | tck
  | tms
  | tdi
  | tdo
  | trstN
  | leadSel
  | bootSrc (n : Nat)
  | hcMap (n : Nat)
  | oscSel (n : Nat)
  | laneTx (p : Nat)
  | pcieTx (n : Nat)
  deriving DecidableEq, Repr

/-- What stands at a ball: an input, which the board drives; an output at high impedance, low or high; a transmitter squelched or in
electrical idle, or one that carries its signal (R431). -/
inductive Pad where
  | input
  | hiZ
  | low
  | high
  | squelched
  | idle
  | signal
  deriving DecidableEq, Repr

def Pad.ofLevel (b : Bool) : Pad := if b then .high else .low

/-- The balls of the boundary-scan chain, in the order of the tables of R427 and R428: every ball of them but the thermal diode, the sense
balls, the DNC balls and the PCIe balls (R434). Log 77 (DESIGN CHOICE; unsafe). -/
def scanChain : List Ball :=
  let n (k : Nat) (f : Nat → Ball) : List Ball := (List.range k).map f
  n 8 .outP ++ n 8 .outN ++ n 8 .evt ++ n 4 .refP ++ n 4 .refN ++ n 8 .gate ++ n 2 .pps ++ [.oscIn, .syncIn] ++
  [.spiSck 0, .spiCsN 0, .spiMosi 0, .spiMiso 0, .spiSck 1, .spiCsN 1, .spiMosi 1, .spiMiso 1] ++
  [.bootSck, .bootCsN] ++ n 4 .bootIo ++ [.porstN] ++ n 4 .intN ++ [.tck, .tms, .tdi, .tdo, .trstN] ++
  [.leadSel] ++ n 2 .bootSrc ++ n 2 .hcMap ++ n 2 .oscSel

/-- The outputs are driven: from 10 µs after the first reset release since power-up (R416, R431). -/
def State.outsOpen (s : State) : Bool := s.outsAt.any (fun a => decide (a ≤ s.up))

/-- The boot flash is being read (R405). -/
def State.flashRead (s : State) : Bool := s.flag pageBoot R.BOOT.BOOT_STAT_LOADING && s.pushLen.isNone

/-- What an output ball carries while the device drives it; SPIx_MISO and TDO are driven only within a frame or a shift, which no command
outlasts (R58, R114, R186, R431, R433). Log 77 (DESIGN CHOICE; unsafe). -/
def State.driven (s : State) : Ball → Pad
  | .outP n => Pad.ofLevel (s.ball n)
  | .outN n => Pad.ofLevel (!s.ball n)
  | .spiMiso _ => .hiZ
  | .bootSck => .low
  | .bootCsN => Pad.ofLevel (!s.flashRead)
  | .bootIo _ => .hiZ
  | .intN n => if s.intN n then .low else .hiZ
  | .tdo => .hiZ
  | .laneTx p => if (s.lane p).on then .signal else .squelched
  | .pcieTx _ => if (List.range 4).any (fun c => s.kind c == kPcie && s.attached c) then .signal else .idle
  | _ => .input

/-- EXTEST or INTEST is in force: PORST_N holds the device in reset (R434). -/
def State.scanDrives (s : State) : Bool := s.porstLow && (s.tapIr == 3 || s.tapIr == 4)

/-- What stands at a ball: an output is at high impedance until 10 µs after the first reset release, and EXTEST and INTEST drive those of
the chain from the boundary-scan register (R416, R431, R434). -/
def State.pad (s : State) (b : Ball) : Pad :=
  if s.driven b = .input then .input
  else if s.scanDrives ∧ b ∈ scanChain then Pad.ofLevel (bitAt s.bsr (scanChain.idxOf b))
  else if s.outsOpen then s.driven b else .hiZ

/-- What the boundary-scan register captures: the level that the device drives on a ball, and on any other the level of `pins` (R434). -/
def State.scanCapture (s : State) (pins : Nat) : Nat :=
  scanChain.zipIdx.foldl (fun a e =>
    a + (match s.pad e.1 with | .low => 0 | .high => 1 | _ => bits pins e.2 1) * 2 ^ e.2) 0

/-- A scan puts its bits out at TDO, which is at high impedance until the outputs are driven (R431). -/
def State.tdoOut (s : State) (v : Nat) : State := if s.outsOpen then s.emit (.jtag v) else s

/-- PORST_N, whose rise no command names, may have risen since it began to hold the device in reset: which is free (R392, R434).
Log 77 (DESIGN CHOICE; unsafe). -/
def State.porstNow (s : State) : State :=
  if s.porstLow then ({ s with porstLow := Config.porstHeld s.free } : State).bump else s

/-- A scan of the boundary-scan register: what it captured is shifted out, and the bits of `x` above the chain are shifted in, to be held
(SAMPLE/PRELOAD) or driven (EXTEST, INTEST) (R434). Log 77 (DESIGN CHOICE; unsafe). -/
def State.scan (s : State) (x : Nat) : State :=
  let n := scanChain.length
  ({ s.tdoOut (s.scanCapture x) with bsr := x / 2 ^ n % 2 ^ n } : State)

/-- An instruction of the test access port and the scan that follows it: 0 BYPASS, 1 IDCODE, 2 SAMPLE/PRELOAD, 3 EXTEST, 4 INTEST, 5 a
factory test instruction. EXTEST and INTEST act as BYPASS unless PORST_N holds the device in reset, and factory test access is open in
BLANK only (R413, R434). Log 77 (DESIGN CHOICE; unsafe). -/
def State.jtag (s : State) (i x : Nat) : State :=
  let s := s.porstNow
  let s : State := { s with tapIr := i % 6 }
  match i % 6 with
  | 1 => s.tdoOut 0x2B048B51
  | 2 => s.scan x
  | 3 | 4 => if s.scanDrives then s.scan x else s.tdoOut 0
  | 5 => if s.lifeCycle = 0 then s.tdoOut x else s.tdoOut 0
  | _ => s.tdoOut 0

def execJtagInstruction (i pins : Nat) (s : State) : Host.Outcome State Fault Refusal := done (s.jtag i pins)

end Sys2Proof.Machine
end

