-- ==== Sys2Proof/Machine/Power.lean ====
section
/-! DEFINITION. Power domains, resets, the wipe, supplies, the Budget Governor, the boot image and the life cycle (R15–R26, R389–R415). -/

namespace Sys2Proof.Machine

open Sys2Proof

/-! ### Domains (R24–R26, R397, R398) -/

/-- The domains of DOMAIN_ON (R54). -/
def domains : List Nat := [1, 2, 3, 4, 5, 8, 9, 10, 11, 12, 13]

/-- The TCU of a domain number 1 or 2. -/
def domTcu (d : Nat) : Nat := d - 1

/-- A key of the register store lies on a page of domain `d` (R33). -/
def keyDomain (k d : Nat) : Bool := (pageBlk (k / 32768)).isSome && pageDomain (k / 32768) == d

/-- The register of a TCU's CTL page that its domain does not hold: `TCU_RED_CTL`, which stands in PD_RIND (R166). -/
def ctlKept (k : Nat) : Bool := decide (k / 32768 = pageCtl 0 ∨ k / 32768 = pageCtl 1) && k % 32768 / 32 * 4 == 0x040

/-- The registers of a domain return to their reset values, but for the ten header registers that PD_RIND holds (R25,
R26) and those of `ctlKept`; every RWS field stands on a page of PD_RIND. -/
def State.dropRegs (s : State) (d : Nat) : State :=
  { s with
    regs := s.regs.filter (fun e => !keyDomain e.1 d || heldHeader (e.1 % 32768 / 32 * 4) || ctlKept e.1)
    shadow := s.shadow.filter (fun e => !keyDomain e.1 d)
    commitSec := s.commitSec.filter (fun e => !keyDomain (e.1 * 32768) d)
    calHead := s.calHead.filter (fun p => pageDomain p != d)
    calRunning := s.calRunning.filter (fun p => pageDomain p != d) }

/-- Keeps the entries of a store whose key passes. -/
def keep {α : Type} (f : Nat → Bool) (m : Store α) : Store α := m.filter (fun e => f e.1)

/-- What a TCU holds beyond its registers is lost, but for the firmware banks, from which it starts again; what both TCUs hold alike, the
stored residences of every egress port among it (R135), is lost with the second (R26, R151, R162). Log 108 (DESIGN CHOICE; unsafe). -/
def State.dropTcu (s : State) (t : Nat) : State :=
  let s : State := { s with
    tcus := drop s.tcus t
    ntTimes := keep (fun k => k / 12 != t) s.ntTimes
    cadErr := keep (fun k => k / 8192 / 13 != t) s.cadErr
    gwCnt := keep (fun k => k / 512 != t) s.gwCnt
    txts := keep (fun k => k / 2 != t) s.txts
    cadTab := keep (fun k => k / 8192 / 13 != t) s.cadTab
    gwTpl := keep (fun k => k / 512 != t) s.gwTpl
    gateCopy := keep (fun k => k / 48 != t) s.gateCopy }
  if s.pwr (2 - t) = 2 then s else { s with cadSrc := [], gwWin := [], fus := [], cadFrom := 0, cadOld := none }

/-- The memories of PD_CORE are wiped (R26, R403). -/
def State.dropCore (s : State) : State :=
  { s with tabs := [], learnq := [], crossing := [], learnAt := [], moves := [], hits := (0, []), winOps := [], shadows := [], slotNext := 0, slotFirst := [], nodes := [],
           heldShapes := [], gates := [], gateCopy := [], watch := [], samples := [], smpSeq := 0, smpSkipped := 0, smpAt := none, smpUntil := 0, smpRun := none, shpUntil := 0, fences := [] }

/-- The lanes, MACs and trunks of a group are lost (R26). -/
def State.dropGroup (s : State) (g : Nat) : State :=
  { s with lanes := keep (fun p => p / 8 != g) s.lanes, macs := keep (fun p => p / 8 != g) s.macs, trunks := keep (fun n => n / 2 != g) s.trunks,
           cadRcs := keep (fun n => n / 2 != g) s.cadRcs,
           gwq := keep (fun p => p / 8 != g) s.gwq, txs := keep (fun p => p / 8 != g) s.txs }

/-- Everything a domain holds is wiped, and the lanes of a group are READY no more (R26, R373). -/
def State.wipeDomain (s : State) (d : Nat) : State :=
  let s := (((s.restOff d).swapsOff d).dropRegs d).showRunning
  if d ≤ 2 then s.dropTcu (domTcu d)
  else if d = 3 then s.dropCore
  else if d = 4 then s.wipeVat
  else if d = 5 then { s with engines := [], shmem := [] }
  else ((s.dropGroup (d - 8)).wr (pageGrp (d - 8)) R.GRP.G_STAT_PLL 0).each 8 (fun i a => a.wr (pagePort (8 * (d - 8) + i)) R.HDR.HDR_STATUS_READY 0)

/-- The budget level reaches the scheduler and the engines (R331, R353, R394). -/
def State.spreadLevel (s : State) : State :=
  let l := s.rd pageSupply R.SUPPLY.BG_STAT_LEVEL
  let s := if s.isOn 3 then (s.accrueAll).wr pageSched R.SCHED.SCHED_STAT l else s
  if s.isOn 5 ∧ s.rd pageEngc R.ENG.ENG_STAT_LEVEL ≠ l then (s.wr pageEngc R.ENG.ENG_STAT_LEVEL l).raise pageEngc 0 else s

/-- The start-up of a domain that is on and wiped (R88, R148, R373, R381, R397). Log 71 (DESIGN CHOICE; unsafe). -/
def State.startDomain (s : State) (d : Nat) : State :=
  let s := mapPages.foldl (fun a p => if pageDomain p = d then (a.mapStartUp p).wearStartUp p else a) s
  if d ≤ 2 then
    let t := domTcu d
    (s.setTcuState t tsStarting).pllStartUp t
  else if d = 3 ∨ d = 5 then s.spreadLevel.suStart d
  else if 8 ≤ d then (s.wr (pageGrp (d - 8)) R.GRP.G_STAT_PLL 0xFF).each 8 (fun i a =>
    (a.showPress (8 * (d - 8) + i)).laneStartUp (8 * (d - 8) + i))
  else s

/-- A domain is on and wiped; a TCU shows the frequency strap (R397, R432). -/
def State.switchedOn (s : State) (d : Nat) : State :=
  let s := s.setPwr d 2
  if d ≤ 2 then s.wr (pageSynth (domTcu d)) R.SYNTH.SYN_STAT_OSC_NOM s.straps.oscNom else s

/-- Every port is DISABLED and no trunk is enabled (R24). -/
def State.portsOff (s : State) : Bool :=
  (List.range 48).all (fun p => s.link p == lkDisabled) && (List.range 12).all (fun n => s.tstate n == tkDisabled || s.tstate n == tkFallback)

/-- Group `g` has all eight ports DISABLED and no lane in use by a trunk (R24). -/
def State.groupOff (s : State) (g : Nat) : Bool :=
  (List.range 8).all (fun i => s.link (8 * g + i) == lkDisabled && !s.isLane (8 * g + i))

/-- The rule of R24 that switching domain `d` on or off would break, by its number. -/
def State.ruleOn (s : State) (d : Nat) : Nat := if d = 3 ∧ ¬ s.isOn 4 then 1 else 0
def State.ruleOff (s : State) (d : Nat) : Nat :=
  if d = 4 ∧ s.pwr 3 ≠ 0 then 1
  else if d = 3 ∧ ¬ s.portsOff then 2
  else if 8 ≤ d ∧ ¬ s.groupOff (d - 8) then 3
  else if d = 5 ∧ (¬ s.portsOff ∨ s.engines.any (fun e => e.2.byHost)) then 4
  else if d ≤ 2 ∧ s.tokenHeld ∧ s.active = domTcu d then 5 else 0

/-- The domain is on or coming on: a DOMAIN_ON changes nothing (R398). -/
def State.comesOn (s : State) (d : Nat) : Bool := s.pwr d == 1 || s.pwr d == 2

/-- DOMAIN_ON (R24, R398, R413). -/
def State.startDomainOn (k : Cmd) (s : State) : State :=
  let d := k.arg 0
  let s := s.fly k
  if s.lifeCycle = 3 then s.finishSt k stWrongState
  else if s.comesOn d then s.finish k stOk 0 1 0
  else if s.ruleOn d ≠ 0 then s.finish k stDependency (s.ruleOn d) 0 0
  else s.setPwr d 1

/-- The ramp and the wipe end: the domain is on, DOMAIN_ON completes and start-up follows, which waits with that of every other domain for
the end of the wipe after reset and for the first section of the boot image (R26, R398, R403, R408).
Log 71 (DESIGN CHOICE; unsafe). -/
def execDomainWipeDone (d : Nat) (s : State) : Host.Outcome State Fault Refusal :=
  done (if ¬ domains.contains d ∨ s.pwr d ≠ 1 ∨ (s.wiping ∧ (s.findCmd 0x10 d).isNone) then s else
    let s := (s.wipeDomain d).switchedOn d
    (if s.wiping ∨ s.startWait then s else s.startDomain d).finishOp 0x10 d stOk 0 0)

/-- A command targets a page of the domain or acts on a slice of it (R398). -/
def State.targets (s : State) (d : Nat) (k : Cmd) : Bool :=
  pageDomain k.page == d ||
  (k.op == 0x48 && (k.args.drop 2).any (fun p => pageDomain (p % calMark) == d)) ||
  (k.op == 0x49 && (match s.swapNumbered (k.arg 0) with | some i => pageDomain (s.swapRec i).page == d | none => false)) ||
  (k.op == 0x40 && decide (d ≤ 2) && k.stage == d) ||
  ((k.op == 0x24 || k.op == 0x25) && pageDomain (pagePort (drainPort k)) == d)

/-- Commands in flight on the domain complete WRONG_STATE with no further effect (R398). Log 39 (DEDUCED; unsafe). -/
def State.endTargets (s : State) (d : Nat) : State :=
  (s.cmds.filter (fun k => s.targets d k && k.op != 0x10 && k.op != 0x11)).foldl (fun a k =>
    let a := a.finishSt k stWrongState
    let a := if k.op = 0x42 then a.both (fun t a => a.onTcu t (fun u => { u with step := none })) else a
    let a := if k.op = 0x49 then a.swapUndo (k.arg 0) else a
    if k.op = 0x30 then a.onGate (k.arg 0) (fun g => { g with inst := none }) else a) s

/-- A candidate whose source is a lane or a trunk of a group that is switched off is disqualified at once (R28). -/
def State.groupCands (s : State) (g : Nat) : State :=
  s.both (fun t a => if ¬ a.decides t then a else a.each 16 (fun k a =>
    let src := a.csrc t k
    let hit := (decide (8 ≤ src ∧ src ≤ 0x13) && (src - 8) / 2 == g) ||
      (src == 0x18 && a.rd (pageRefsel t) R.REFSEL.REFSEL_SYNCE_LANE0 / 8 == g) ||
      (src == 0x19 && a.rd (pageRefsel t) R.REFSEL.REFSEL_SYNCE_LANE1 / 8 == g)
    if hit then (a.onCand t k (fun c => { c with good := false })).disqualify t k 6 else a))

/-- DOMAIN_OFF (R24, R148, R398): a TCU with a wedged block cannot be switched off. -/
def State.startDomainOff (k : Cmd) (s : State) : State :=
  let d := k.arg 0
  let s := s.fly k
  if s.pwr d = 0 then s.finish k stOk 0 1 0
  else if s.ruleOff d ≠ 0 then s.finish k stDependency (s.ruleOff d) 0 0
  else if d ≤ 2 ∧ s.tcuState (domTcu d) = tsFailed ∧ s.rd (pageCtl (domTcu d)) R.CTL.TCU_STAT_FAIL_CODE = 6 then s.finishSt k stWrongState
  else
    let s := ((s.endTargets d).suStop d).setPwr d 3
    if 8 ≤ d then s.groupCands (d - 8) else s

/-- The domain is isolated and its switch open: it keeps nothing, and DOMAIN_OFF completes (R398).
Log 39 (DEDUCED; unsafe). -/
def execDomainIsolated (d : Nat) (s : State) : Host.Outcome State Fault Refusal :=
  done (if ¬ domains.contains d ∨ s.pwr d ≠ 3 then s else
    let s := (s.wipeDomain d).setPwr d 0
    let s := if d ≤ 2 then
        let s := (s.showClaims.showLockstep).revertCheck
        s.wr pageRind (if d = 1 then R.RIND.RIND_CLK_STAT_TCUA_LOCK else R.RIND.RIND_CLK_STAT_TCUB_LOCK) 0
      else s
    s.finishOp 0x11 d stOk 0 0)

/-! ### Resets (R391, R399–R403) -/

/-- The causes by bit, `RIND_RESET_CAUSE` (R419). -/
def rcPor : Nat := 0
def rcPorst : Nat := 1
def rcHost : Nat := 2
def rcSag : Nat := 3
def rcThermal : Nat := 4
def rcLife : Nat := 5

/-- The keys of the RWS fields (R8), `RIND_RESET_CAUSE` first. -/
def causeKeys : List Nat := [R.RIND.RIND_RESET_CAUSE_CAUSES, R.RIND.RIND_RESET_CAUSE_LAST, R.RIND.RIND_RESET_CAUSE_SAG_SUPPLY,
  R.RIND.RIND_RESET_CAUSE_COUNT].map (fun f => f.key pageRind 0)
def rwsKeys : List Nat := causeKeys ++ [R.PWR.PWR_BOOT_OFF_TCU.key pagePwr 0, R.PWR.PWR_BOOT_OFF_GRP.key pagePwr 0,
  R.SUPPLY.THERM_CTL.key pageSupply 0, R.CALDIR.CAL_CTL_USE_RESTORED.key pageCaldir 0]

/-- The key is one of `HDR_CAL_COUNT` or `HDR_CAL_LAST`, which keep their values (R382). -/
def calCountKey (k : Nat) : Bool := k % 32768 == 0x028 * 8 || k % 32768 == 0x02C * 8

/-- The key is one of the sensor readings, which go on in reset (R396). -/
def sensorKey (k : Nat) : Bool := k / 32768 == pageSupply && decide (0x080 * 8 ≤ k % 32768 ∧ k % 32768 < 0x09C * 8)

/-- A power-on reset clears the RWS fields and the counts of R382; a change of life-cycle state keeps `RIND_RESET_CAUSE`
alone (R11, R382, R391). -/
def State.clearRws (s : State) (por : Bool) : State :=
  { s with regs := s.regs.filter (fun e => !(calCountKey e.1 || (rwsKeys.contains e.1 && (por || !causeKeys.contains e.1)))) }

/-- The life-cycle field is programmed, which moves it forward only; a key hash is programmed with the step out of BLANK,
once (R411, R412). Log 78 (DEDUCED; safe). -/
def State.programLife (s : State) (target : Nat) (hash : List Nat) : State :=
  { s with lifeCycle := max s.lifeCycle (target % 4), keyHash := if s.lifeCycle = 0 ∧ s.keyHash = [] then hash else s.keyHash }

/-- The life-cycle state changes: OTP holds it, and the RWS fields but `RIND_RESET_CAUSE` are cleared (R11, R411). -/
def State.newLife (s : State) (target : Nat) (hash : List Nat) : State := (s.programLife target hash).clearRws false

/-- A reset in progress records a further cause (R401). A reset that cuts OTP programming short leaves the old or the new
life-cycle state (R411). Log 73 (DEDUCED; unsafe). -/
def State.addCause (s : State) (c : Nat) : State :=
  let s : State := { s with resetCauses := s.resetCauses ||| 2 ^ c }
  let s := if c = rcPor then { s.clearRws true with outsAt := none, tapIr := 1, bsr := 0 } else s
  match s.lifeProg with
  | none => s
  | some (target, hash) =>
    let s := ({ s with lifeProg := none } : State).bump
    if c = rcThermal ∨ c = rcLife then { s with lifeProg := some (target, hash) }
    else if Config.advanceCut s.free then s.newLife target hash else s

/-- The reset state of R400: nothing is kept but the RWS fields, the counts of R382, the sensor readings, OTP, the levels of
pins and the commands that wait outside the device. Log 73 (DEDUCED; unsafe). -/
def State.intoReset (s : State) : State :=
  let cut := match s.otpProg with
    | some (a, v) => put 0 s.otp a (look 0 s.otp a ||| (v &&& Config.otpCut s.free))
    | none => s.otp
  { pending := s.pending, free := s.free + 1, out := s.out, up := s.up, gatePins := s.gatePins, perstHigh := s.perstHigh
    regs := s.regs.filter (fun e => rwsKeys.contains e.1 || calCountKey e.1 || sensorKey e.1)
    serial := s.serial, lifeCycle := s.lifeCycle, keyHash := s.keyHash, otp := cut, hot := s.hot, porstLow := s.porstLow
    outsAt := s.outsAt, tapIr := s.tapIr, bsr := s.bsr
    resetCauses := 0, sagSupply := s.sagSupply, lifeProg := s.lifeProg }

/-- Any reset is entered with a cause, or gains a cause while one is in progress (R399, R400).
Log 73 (DEDUCED; unsafe). -/
def State.enterReset (s : State) (c : Nat) : State := (if s.phase = .reset then s else s.intoReset).addCause c

/-- An advance in its hold of 10 ms enters the reset state and programs OTP (R411, R412). -/
def State.toProgram (s : State) : State :=
  match s.findOp 0x13 with
  | none => s
  | some k =>
    let hash := (List.range 8).map (fun i => s.rdI pageLc R.LC.LC_KEYHASH i)
    { s.intoReset with lifeProg := some (k.arg 0, if hash.all (fun w => w == 0) then [] else hash) }

def execPowerOnReset (s : State) : Host.Outcome State Fault Refusal := done (s.enterReset rcPor)

/-- PORST_N has been low for 1 µs (R399). -/
def execPorst (s : State) : Host.Outcome State Fault Refusal := done ({ s.enterReset rcPorst with porstLow := true })

/-- The delay of the DEVICE_RESET in flight ends (R399). -/
def execDeviceResetDelayExpiry (s : State) : Host.Outcome State Fault Refusal :=
  done (match s.findOp 0x12 with | some k => (s.toLimit k (k.arg 0 * 1000000)).enterReset rcHost | none => s)

/-- The cause of highest priority, as LAST records it: POR, THERMAL, SAG, PORST, LIFECYCLE, HOST (R401). -/
def lastCause (m : Nat) : Nat := ([rcPor, rcThermal, rcSag, rcPorst, rcLife, rcHost].find? (bitAt m)).getD rcPor

/-- `RIND_RESET_CAUSE` at release (R401, R419); a power-on reset leaves COUNT at 0. -/
def State.recordCauses (s : State) : State :=
  let m := s.resetCauses
  let s := s.wr pageRind R.RIND.RIND_RESET_CAUSE_CAUSES (s.rd pageRind R.RIND.RIND_RESET_CAUSE_CAUSES ||| m)
  let s := s.wr pageRind R.RIND.RIND_RESET_CAUSE_LAST (lastCause m)
  let s := if bitAt m rcSag then s.wr pageRind R.RIND.RIND_RESET_CAUSE_SAG_SUPPLY s.sagSupply else s
  if bitAt m rcPor then s else s.inc pageRind R.RIND.RIND_RESET_CAUSE_COUNT

/-- A domain is left off at reset release: by `PWR_BOOT_OFF`, honoured for the groups and for the TCU that LEAD_SEL does not
name, or because the device is RETIRED (R397, R413). -/
def State.bootOff (s : State) (d : Nat) : Bool :=
  s.lifeCycle == 3 ||
  (if d ≤ 2 then bitAt (s.rd pagePwr R.PWR.PWR_BOOT_OFF_TCU) (d - 1) && domTcu d != s.straps.leadSel
   else decide (8 ≤ d) && bitAt (s.rd pagePwr R.PWR.PWR_BOOT_OFF_GRP) (d - 8))

/-- OTP is shown on RIND_LC (R414, R423). -/
def State.showOtp (s : State) : State :=
  let s := (s.wr pageLc R.LC.LC_STAT_STATE s.lifeCycle).wr pageLc R.LC.LC_STAT_KEY_SET (b2n (s.keyHash != []))
  let s := (s.wr pageLc R.LC.LC_SERIAL_LO (s.serial % 2 ^ 32)).wr pageLc R.LC.LC_SERIAL_HI (s.serial / 2 ^ 32)
  if s.keyHash = [] then s else s.each 8 (fun i a => a.wrI pageLc R.LC.LC_KEYHASH i (s.keyHash.getD i 0))

/-- Reset is released: straps and causes are latched, registers are at their reset values, SPI and in-band contexts are
attached, the domains switch on and are wiped, and the first release since power-up lets the outputs be driven (R42, R397, R401, R403, R416). Log 11 (DESIGN CHOICE; unsafe).
Log 82 (DESIGN CHOICE; safe). -/
def State.release (s : State) (hcMap oscNom leadSel bootSrc : Nat) : State :=
  let s : State := { s with straps := ⟨hcMap % 4, oscNom % 4, leadSel % 2, bootSrc % 4⟩, regs := s.regs.filter (fun e => !sensorKey e.1) }
  let s := ({ s with phase := .oscWait, wiping := true, porstLow := false, hot := 0, releasedAt := s.up } : State).recordCauses
  let s : State := { s with resetCauses := 0 }
  let s := ((s.showOtp).wr pageLc R.LC.LC_NONCE (Config.nonce s.free)).bump
  let s := (s.wr pageArb R.ARB.ARB_STAT_LEAD_SEL s.straps.leadSel).wr pageBoot R.BOOT.BOOT_STAT_SRC s.straps.bootSrc
  let s := s.both (fun t a => a.wr (pageCtl t) R.CTL.TCU_RED_CTL_HOME a.straps.leadSel)
  let s := s.each 4 (fun c a =>
    let p := pageHC c
    let a := (a.wr p R.HC.CTX_STAT_PORT (a.kind c)).wr p R.HC.CTX_STAT_ATTACHED (b2n (a.kind c != kPcie))
    a.wr p R.HC.CTX_CTL_INT_PIN (b2n (a.kind c == kSpi)))
  let on := domains.filter (fun d => !s.bootOff d)
  on.foldl (fun a d => a.setPwr d 1)
    { s.setPwr 0 2 with onAtReset := on.foldl (fun m d => m + 2 ^ d) 0, outsAt := some (s.outsAt.getD (s.up + 10000)) }

/-- Every supply has been good for 2 ms with PORST_N high (R392); a thermal shutdown holds the release (R396). -/
def execResetRelease (hcMap oscNom leadSel bootSrc : Nat) (s : State) : Host.Outcome State Fault Refusal :=
  done (if s.phase ≠ .reset ∨ s.thermalHold ∨ s.lifeProg.isSome then s else s.release hcMap oscNom leadSel bootSrc)

/-- The source of the boot image: 0 flash, 1 flash with two copies, 2 host push, 3 none, which BLANK alone honours; RETIRED
loads none (R404, R413). -/
def State.bootSrc (s : State) : Nat :=
  if s.lifeCycle = 3 then 3 else if s.straps.bootSrc = 3 ∧ s.lifeCycle ≠ 0 then 0 else s.straps.bootSrc

/-- Start-up waits for the first section of a flash image (R408). -/
def State.startHeld (s : State) : Bool :=
  s.flag pageCaldir R.CALDIR.CAL_CTL_USE_RESTORED && decide (s.bootSrc ≤ 1) && s.flag pageBoot R.BOOT.BOOT_STAT_LOADING && s.bootNext == 0

/-- The domains that are on start up. -/
def State.startAll (s : State) : State :=
  domains.foldl (fun a d => if a.isOn d then a.startDomain d else a) ({ s with startWait := false } : State)

/-- The wipe ends: memory windows open, the domains are on, but for one whose own DOMAIN_ON is still in flight, and the boot image is read or
awaited (R398, R403–R408). -/
def execWipeComplete (s : State) : Host.Outcome State Fault Refusal :=
  done (
    if ¬ s.wiping then s else
    let s := domains.foldl (fun a d => if a.pwr d = 1 ∧ (a.findCmd 0x10 d).isNone then a.switchedOn d else a) ({ s with wiping := false } : State)
    let s := if s.bootSrc ≤ 1 then s.wr pageBoot R.BOOT.BOOT_STAT_LOADING 1
      else if s.bootSrc = 2 then s.wr pageBoot R.BOOT.BOOT_STAT_WAIT_PUSH 1 else s
    if s.startHeld then { s with startWait := true } else s.startAll)

/-- DEVICE_RESET (R49, R399). -/
def State.startDeviceReset (k : Cmd) (s : State) : State := (s.fly k).bcast bResetPending

/-! ### The oscillator (R15–R17) -/

/-- The frozen rate words go on from where they are steered: the host's word where RATE_SRC is 1, else the one held in FREE RUN and
HOLDOVER (R15, R65, R109). -/
def State.thaw (s : State) : State :=
  s.both (fun t a => if ¬ (a.tcu t).clk then a else a.driveRate t)

/-- OSC_IN is qualified: the Running phase, from start-up or from a loss; the Last resort phase goes on (R15, R16, R17). -/
def State.oscQualify (s : State) : State :=
  if s.phase = .reset ∨ s.phase = .running ∨ s.straps.oscNom = 3 then s else
  let s := ((s.wr pageRind R.RIND.RIND_CLK_STAT_OSC_OK 1).wr pageRind R.RIND.RIND_CLK_STAT_RIND_SRC 1).wr pageRind R.RIND.RIND_CLK_STAT_CORE_LOCK 1
  if s.phase = .lastResort then s else
  let lost := s.phase == .oscLost
  let s := s.setPhase .running
  if lost then s.thaw else s

def execOscQualify (s : State) : Host.Outcome State Fault Refusal := done s.oscQualify

/-- OSC_FAIL is raised, on the page and to every attached context (R17, R20, R49). Log 75 (DEDUCED; unsafe). -/
def State.oscFail (s : State) : State := (s.wr pageRind R.RIND.RIND_CLK_STAT_OSC_FAIL 1).bcast bOscFail

/-- OSC_IN is not qualified 5 ms after reset release (R16). Log 75 (DEDUCED; unsafe). -/
def execOscWaitTimeout (s : State) : Host.Outcome State Fault Refusal := done (if s.phase = .oscWait then s.oscFail else s)

/-- OSC_IN, which was qualified, is disqualified (R16): the Oscillator lost phase follows the Running phase, and the Last resort phase
goes on with the Rind PLL on the internal oscillator (R15, R17). Log 88 (DESIGN CHOICE; unsafe). -/
def State.oscDisqualify (s : State) : State :=
  if ¬ (s.phase = .running ∨ (s.phase = .lastResort ∧ s.flag pageRind R.RIND.RIND_CLK_STAT_OSC_OK)) then s else
  let s := (s.wr pageRind R.RIND.RIND_CLK_STAT_OSC_OK 0).wr pageRind R.RIND.RIND_CLK_STAT_RIND_SRC 0
  (if s.phase = .running then s.oscLoss else s).oscFail

def execOscDisqualify (s : State) : Host.Outcome State Fault Refusal := done s.oscDisqualify

/-! ### TCU start-up and failures (R19, R88, R148, R157) -/

/-- The instant at which the code-density runs of a start-up end comes: 50 µs after the loop's lock the lines are locked, and 48 µs
later the runs are over (R88). -/
def State.toRunsEnd (s : State) (t : Nat) : State :=
  let s := match (s.tcu t).lockAt with | some a => s.advance (a + 50000 - s.up) | none => s
  match (s.tcu t).runsTo with | some e => s.advance (e - s.up) | none => s

/-- A TCU's start-up runs end: the tables are installed, its firmware runs and it is ready; it resynchronises, takes the token in the Last
resort phase, or waits for the first grant (R88, R148, R150, R162). Log 108 (DESIGN CHOICE; unsafe). -/
def State.tcuReady (s : State) (t : Nat) (hists : List (List Nat)) (res : List Int) : State :=
  if ¬ s.starting t ∨ ¬ (s.tcu t).clk ∨ (s.tcu t).ready ∨ s.runsWait t then s else
  let s := s.toRunsEnd t
  let s := s.each 24 (fun c a => a.tdcStartUp t c (hists.getD c []) (res.getD c 0))
  let s := (s.onTcu t (fun u => { u with ready := true, runsHeld := false })).showFirm t
  if s.tokenHeld then s.beginResync t false else if s.phase = .lastResort then s.takeToken t else s

def execTcuReady (t : Nat) (hists : List (List Nat)) (res : List Int) (s : State) : Host.Outcome State Fault Refusal :=
  done (s.tcuReady (t % 2) hists res)

/-- A failure of R157 is detected in the active TCU; that of code 0x03, the standby's claim for want of check words while the active
claims, is judged by R164. -/
def execActiveFailure (code : Nat) (s : State) : Host.Outcome State Fault Refusal :=
  done (if ¬ s.tokenHeld then s else if code = 3 then s.dualClaim else s.failTcu s.active code)

/-- The clock alignment epoch after the token moved (R155); the trunk figures follow the new active TCU. -/
def State.atSwitchEpoch (s : State) : State :=
  if s.switch = [] then s else ((s.toEpoch s.lead).switchEpoch).each 12 (fun n a => a.showNt n)

def execSwitchEpoch (s : State) : Host.Outcome State Fault Refusal := done s.atSwitchEpoch

/-- The first clock alignment epoch after a TCU has become active and ready ends the Last resort phase (R19). -/
def execLastResortExit (s : State) : Host.Outcome State Fault Refusal :=
  done (if s.phase = .lastResort ∧ s.tokenHeld then s.atSwitchEpoch else s)

/-- A block wedges: it shows FAULT_CODE 0x02, which only a full reset clears, and a TCU fails with code 0x06 (R36, R148, R358). -/
def execBlockWedged (page : Nat) (s : State) : Host.Outcome State Fault Refusal :=
  done (if (pageBlk page).isNone ∨ s.pageOff page then s
    else if isTcu page then (s.setFault page 2).failTcu (if isTcuB page then 1 else 0) 6 else s.setFault page 2)

/-! ### Supplies, temperature and the Budget Governor (R392–R396) -/

/-- A supply has been below its warning threshold for 1 µs (R392). -/
def execSupplyWarn (i : Nat) (s : State) : Host.Outcome State Fault Refusal :=
  let i := i % 6
  let v := s.rd pageSupply R.SUPPLY.SUP_STAT_BELOW
  done (if bitAt v i ∨ s.phase = .reset then s else
    let s := (s.wr pageSupply R.SUPPLY.SUP_STAT_BELOW (v + 2 ^ i)).wr pageSupply R.SUPPLY.SUP_SEEN (s.rd pageSupply R.SUPPLY.SUP_SEEN ||| 2 ^ i)
    ((s.inc pageSupply R.SUPPLY.SUP_CNT_WARN).raise pageSupply 0).bcast bSupplyWarn)

/-- A supply has been 10 mV above its warning threshold for 100 µs (R392). -/
def execSupplyBelowClear (i : Nat) (s : State) : Host.Outcome State Fault Refusal :=
  let v := s.rd pageSupply R.SUPPLY.SUP_STAT_BELOW
  done (s.wr pageSupply R.SUPPLY.SUP_STAT_BELOW (v - bits v (i % 6) 1 * 2 ^ (i % 6)))

/-- A supply has been below its reset threshold for 200 ns (R392). -/
def execSupplySag (i : Nat) (s : State) : Host.Outcome State Fault Refusal := done ({ s.enterReset rcSag with sagSupply := i % 6 })

/-- A threshold in 1/16 °C. -/
def State.bgT (s : State) (n : Nat) : Int := 4 * (s.rdI pageSupply R.SUPPLY.BG_T (n - 1) : Int)

def State.tMax (s : State) : Int := s.rdS pageSupply R.SUPPLY.TS_MAX_T

/-- The thermal level becomes `n`, and L the greater of it and FLOOR (R394). -/
def State.govern (s : State) (n : Nat) : State :=
  let s := s.wr pageSupply R.SUPPLY.BG_STAT_THERMAL n
  let l := max n (s.rd pageSupply R.SUPPLY.BG_CTL_FLOOR)
  if l = s.rd pageSupply R.SUPPLY.BG_STAT_LEVEL then s else
  let s := ((s.wr pageSupply R.SUPPLY.BG_STAT_LEVEL l).inc pageSupply R.SUPPLY.BG_STAT_CHANGES).raise pageSupply 1
  (s.bcast bBudget).spreadLevel

/-- T_max is below the threshold that ends the present state: RELEASE in a thermal shutdown, and else that of the thermal level less
HYST (R394, R396). -/
def State.cool (s : State) : Bool :=
  let n := s.rd pageSupply R.SUPPLY.BG_STAT_THERMAL
  if s.thermalHold then decide (s.tMax < 4 * (s.rd pageSupply R.SUPPLY.THERM_CTL : Int))
  else n != 0 && decide (s.tMax < s.bgT n - 4 * (s.rd pageSupply R.SUPPLY.BG_CTL_HYST : Int))

/-- The time for which T_max has stayed below that threshold runs on, or is broken (R394, R396). -/
def State.noteCool (s : State) : State := { s with coolAt := if s.cool then some (s.coolAt.getD s.up) else none }

/-- The highest n whose threshold T_max reaches (R394). -/
def State.heat (s : State) : Nat := (List.range 8).foldl (fun a n => if 1 ≤ n ∧ s.bgT n ≤ s.tMax then n else a) 0

/-- The slices whose sensor has drifted fall due, but for one whose run is in progress and takes a new T_cal; the active synthesizer raises CAL_DUE at 45 °C (R86, R372).
Log 74 (DEDUCED; unsafe). -/
def State.calTriggers (s : State) (before : Nat → Int) : State :=
  let on (f : Fld) : Bool := s.flag pageCaldir f
  let s := s.both (fun t a =>
    let a := if on R.CALDIR.CAL_CTL_EN_TDC ∧ (a.tcu t).ready ∧ a.isOn (1 + t) then
        a.each 24 (fun c a => if a.drifted t (a.tdc t c).tCal ∧ ¬ a.calRunning.contains (pageTdc t c) then a.onTdc t c (fun d => { d with due := true }) else a) else a
    let a := if on R.CALDIR.CAL_CTL_EN_PLL ∧ (a.tcu t).ready ∧ a.tcuState t ≠ tsActive ∧ a.drifted t (a.tcu t).tPll ∧ ¬ a.calRunning.contains (pageSynth t) then
        a.onTcu t (fun u => { u with pllDue := true }) else a
    let far (x : Int) : Bool := decide ((x - (a.tcu t).tPll).natAbs ≥ 45 * 16)
    a.raiseIf ((a.tcu t).ready && far (a.sensor t) && !far (before t)) (pageSynth t) 1)
  if on R.CALDIR.CAL_CTL_EN_LANE then
    s.each 48 (fun p a => if a.isOn (8 + p / 8) ∧ a.drifted (laneSensor p) (a.lane p).tCal ∧ ¬ a.calRunning.contains (pagePort p) then a.onLane p (fun l => { l with due := true }) else a)
  else s

/-- The die sensors convert, to `ts` in 1/16 °C, and the supplies read `mv`: the readings are shown, a sensor at 135 °C or
more twice running shuts the device down, which an advance in progress survives to record both causes, and the governor and the calibration triggers follow (R372, R393, R394, R396).
Log 74 (DEDUCED; unsafe). -/
def State.convert (s : State) (ts : List Int) (mv : List Nat) : State :=
  let before := s.sensor
  let s := s.each 6 (fun k a => a.wrI pageSupply R.SUPPLY.TS k (satInt 16 (ts.getD k 0)))
  let top := (List.range 6).foldl (fun a k => if s.sensor k > s.sensor a then k else a) 0
  let s := (s.wrS pageSupply R.SUPPLY.TS_MAX_T (s.sensor top)).wr pageSupply R.SUPPLY.TS_MAX_SENSOR top
  let hot := (List.range 6).foldl (fun a k => if s.sensor k ≥ 135 * 16 then a + 2 ^ k else a) 0
  let twice := s.hot &&& hot != 0
  let s : State := { s with hot := hot }
  if twice then { (s.toProgram).enterReset rcThermal with thermalHold := true }
  else if s.phase = .reset then s.noteCool
  else
    let s := s.each 6 (fun i a => a.wrI pageSupply R.SUPPLY.SUP_MV i (satNat 13 (mv.getD i 0)))
    ((s.govern (max (s.rd pageSupply R.SUPPLY.BG_STAT_THERMAL) s.heat)).noteCool.calTriggers before)

def execSensorConversion (ts : List Int) (mv : List Nat) (s : State) : Host.Outcome State Fault Refusal := done (s.convert ts mv)

/-- T_max has stayed below the threshold of the thermal level less HYST for DWELL: one level down, and the dwell of the next fall
starts (R394). Log 74 (DEDUCED; unsafe). -/
def execBgDwellExpiry (s : State) : Host.Outcome State Fault Refusal :=
  done (match s.coolAt with
    | some a => if s.thermalHold ∨ ¬ s.cool then s else
      let s := s.advance (a + s.rd pageSupply R.SUPPLY.BG_CTL_DWELL * 1000000 - s.up)
      (({ s with coolAt := none } : State).govern (s.rd pageSupply R.SUPPLY.BG_STAT_THERMAL - 1)).noteCool
    | none => s)

/-- T_max has stayed below RELEASE for 10 ms (R396). -/
def execThermalRelease (s : State) : Host.Outcome State Fault Refusal :=
  done (match s.coolAt with
    | some a => if ¬ (s.thermalHold ∧ s.cool) then s else { s.advance (a + 10000000 - s.up) with thermalHold := false, coolAt := none }
    | none => s)

/-! ### The boot image (R404–R410) -/

/-- The header of an image (R406): a bad MAGIC, FORMAT, LENGTH or SECTIONS. -/
def bootHeaderBad (l : List Byte) : Bool :=
  leWord l 0 != 0x4B424F54 || leWord l 4 % 256 != 1 || decide (leWord l 8 > 8388608 ∨ leWord l 8 < 32) ||
  decide (leWord l 12 < 1 ∨ leWord l 12 > 16)

/-- Section `n` from an offset: kind, target, payload and the offset of the next. -/
def bootSection (l : List Byte) : Nat → Nat → Option (Nat × Nat × List Byte × Nat)
  | n, at_ =>
    let len := leWord l (at_ + 4)
    if at_ + 16 > l.length ∨ len % 4 ≠ 0 ∨ at_ + 16 + len > l.length then none
    else match n with
    | 0 => some (leWord l at_ % 256, leWord l at_ / 256 % 16, octets l (at_ + 16) len, at_ + 16 + len)
    | n + 1 => bootSection l n (at_ + 16 + len)

/-- The image is rejected as a whole: the next copy is read, or a push awaited (R404, R407).
Log 76 (DEDUCED; unsafe). -/
def State.bootReject (s : State) (why : Nat) : State :=
  let loaded := s.rd pageBoot R.BOOT.BOOT_STAT_LOADED
  let s := s.each 8 (fun e a => if bitAt loaded e then a.wipeEngine e else a)
  let s := (s.wr pageBoot R.BOOT.BOOT_STAT_LOADED 0).wr pageBoot R.BOOT.BOOT_STAT_WHY why
  let s := ({ s with bootNext := 0, bootTcu := false } : State).raise pageBoot 1
  let s := if s.pushLen = none ∧ s.bootSrc = 1 ∧ ¬ s.flag pageBoot R.BOOT.BOOT_STAT_COPY then s.wr pageBoot R.BOOT.BOOT_STAT_COPY 1
    else (({ s with pushLen := none, pushed := [] } : State).wr pageBoot R.BOOT.BOOT_STAT_LOADING 0).wr pageBoot R.BOOT.BOOT_STAT_WAIT_PUSH 1
  if s.startWait ∧ ¬ s.startHeld then s.startAll else s

/-- A calibration section goes to the staging image; one that fails the checks of R380 is skipped, and USE_RESTORED is left at 0
(R381, R406, R407).
Log 76 (DEDUCED; unsafe). -/
def State.bootCal (s : State) (l : List Byte) : State :=
  let t := ({ s with image := [] } : State).storeImage ((List.range (l.length / 4)).map (fun i => leWord l (4 * i)))
  if l.length ≤ 131072 ∧ (t.checkImage).1 = 0 then t.wr pageCaldir R.CALDIR.CAL_CTL_USE_RESTORED 1
  else s.wr pageCaldir R.CALDIR.CAL_CTL_USE_RESTORED 0

/-- TCU firmware is loaded into bank 0 of every powered TCU (R406). -/
def State.bootFirmware (s : State) (version fmt : Nat) : State :=
  ({ s with bootTcu := true } : State).both (fun t a => if a.isOn (1 + t) then
    (a.setFirm t { a.firm t with ver := version, fmt := fmt, bank := 0 }).showFirm t else a)

/-- The last section is loaded: the whole image is judged (R407). Log 76 (DEDUCED; unsafe). -/
def State.bootEnd (s : State) (l : List Byte) (end_ : Nat) : State :=
  if end_ ≠ leWord l 8 then s.bootReject 2
  else if leWord l 16 ≠ 0xFFFFFFFF - crc32 0xFFFFFFFF (octets l 32 (end_ - 32)) then s.bootReject 3
  else if ¬ s.bootTcu then s.bootReject 4
  else
    let s := (s.wr pageBoot R.BOOT.BOOT_VER (leWord l 20)).wr pageBoot R.BOOT.BOOT_STAT_LOADING 0
    { s with booted := true, pushLen := none, pushed := [] }

/-- One section has been read and verified, `signed` being the verdict on its signature, and for TCU firmware `version` and
`fmt` what the image states (R406, R407). -/
def State.bootLoad (s : State) (l : List Byte) (signed : Bool) (version fmt : Nat) : State :=
  match bootSection l s.bootNext 32 with
  | none => s.bootReject 2
  | some (kind, target, x, next) =>
    let good : Option State :=
      if kind = 1 then some (if s.bootNext = 0 then s.bootCal x else s)
      else if kind = 2 then (if signed then some (s.bootFirmware version fmt) else none)
      else if kind = 3 ∧ target < 8 then
        (if s.imageStatus target x x.length signed = stOk then
          (let s := s.installImage target x
           some (s.wr pageBoot R.BOOT.BOOT_STAT_LOADED (s.rd pageBoot R.BOOT.BOOT_STAT_LOADED ||| 2 ^ target)))
         else if target = 7 then some s else none)
      else some s
    match good with
    | none => s.bootReject 5
    | some s =>
      let s : State := { s with bootNext := s.bootNext + 1 }
      let s := if s.startWait then s.startAll else s
      if s.bootNext = leWord l 12 then s.bootEnd l next else s

/-- The next section of the image in flash, or of the image pushed so far, is ready to load; `silent` says that the flash
does not answer (R406, R407, R409). -/
def execBootSectionLoaded (flash : List Byte) (silent signed : Bool) (version fmt : Nat) (s : State) : Host.Outcome State Fault Refusal :=
  done (
    if ¬ s.flag pageBoot R.BOOT.BOOT_STAT_LOADING then s else
    match s.pushLen with
    | none =>
      if silent then s.bootReject 1
      else if s.bootNext = 0 ∧ bootHeaderBad flash then s.bootReject 2
      else s.bootLoad flash signed version fmt
    | some n =>
      if s.pushed.length < 32 ∨ ((bootSection s.pushed s.bootNext 32).isNone ∧ s.pushed.length < n) then s
      else s.bootLoad s.pushed signed version fmt)

/-- A write of `BOOT_PUSH_LEN` starts a push; one during a push abandons it (R409). Log 76 (DEDUCED; unsafe). -/
def State.pushStart (s : State) (v : Nat) : State :=
  if ¬ s.flag pageBoot R.BOOT.BOOT_STAT_WAIT_PUSH then s else
  let s := if s.pushLen.isSome then s.wr pageBoot R.BOOT.BOOT_STAT_WHY 6 else s
  let loaded := s.rd pageBoot R.BOOT.BOOT_STAT_LOADED
  let s := (s.each 8 (fun e a => if bitAt loaded e then a.wipeEngine e else a)).wr pageBoot R.BOOT.BOOT_STAT_LOADED 0
  ({ s with pushLen := some (v % 2 ^ 24), pushed := [], bootNext := 0, bootTcu := false } : State).wr pageBoot R.BOOT.BOOT_STAT_LOADING 1

/-- A word of the pushed image: its header is judged as soon as it is whole, and the push ends with its last word (R407, R409). -/
def State.pushWord (s : State) (v : Nat) : State :=
  match s.pushLen with
  | none => s
  | some n =>
    if s.pushed.length ≥ n then s else
    let s : State := { s with pushed := (s.pushed ++ leOct 4 v).take n }
    let l := s.pushed
    let s := if l.length ≥ n then s.wr pageBoot R.BOOT.BOOT_STAT_WAIT_PUSH 0 else s
    if l.length ≥ n ∧ n < 32 then s.bootReject 6
    else if l.length = 32 ∧ (bootHeaderBad l ∨ leWord l 8 < n) then s.bootReject 2
    else if l.length ≥ n ∧ leWord l 8 > n then s.bootReject 6 else s

/-- A page reports READY (R36, R373, R410): powered and wiped, and for the blocks of a TCU or a group once its start-up
calibration is done. -/
def State.pageReady (s : State) (p : Nat) : Bool :=
  let d := pageDomain p
  s.phase != .reset && s.isOn d &&
  (if d = 0 then true
   else if d ≤ 2 then (s.tcu (domTcu d)).ready
   else match pageBlk p with
     | some .port => s.flag p R.HDR.HDR_STATUS_READY
     | some .grp => (List.range 8).all (fun i => s.flag (pagePort (8 * (p - pageGrp 0) + i)) R.HDR.HDR_STATUS_READY)
     | some .nt => (List.range 4).all (fun i => s.flag (pagePort (4 * (p - pageNT 0) + i)) R.HDR.HDR_STATUS_READY)
     | _ => true)

/-- A domain reports READY. -/
def State.domReady (s : State) (d : Nat) : Bool :=
  s.isOn d && (if d ≤ 2 then (s.tcu (domTcu d)).ready else decide (d < 8) || s.pageReady (pageGrp (d - 8)))

/-- All conditions of R410 hold: every domain switched on at reset is READY, a TCU holds the token, and an image, which carries TCU firmware,
is loaded and runs. Log 76 (DEDUCED; unsafe). -/
def State.readyNow (s : State) : Bool :=
  s.booted && s.tokenHeld && !s.wiping && domains.all (fun d => !bitAt s.onAtReset d || s.domReady d)

def execDeviceReady (s : State) : Host.Outcome State Fault Refusal :=
  done (if ¬ s.readyNow ∨ s.flag pageBoot R.BOOT.BOOT_STAT_READY then s else
    ((s.wr pageBoot R.BOOT.BOOT_STAT_READY 1).wr pageBoot R.BOOT.BOOT_TIME (satNat 20 ((s.up - s.releasedAt) / 1000))).raise pageBoot 0)

/-! ### Life cycle and OTP (R411–R415) -/

/-- LIFECYCLE_ADVANCE: RESET_PENDING is raised and the device runs on for 10 ms (R411). -/
def State.startAdvance (k : Cmd) (s : State) : State := (s.fly k).bcast bResetPending

/-- The 10 ms end: the device enters the reset state and programs OTP (R411, R412). -/
def execLifecycleHoldExpiry (s : State) : Host.Outcome State Fault Refusal := done s.toProgram

/-- OTP is programmed: the new state holds, and a full reset with cause LIFECYCLE follows (R11, R382, R411, R412); a thermal
shutdown meanwhile leaves the old or the new state (R418). Log 73 (DEDUCED; unsafe). -/
def execLifecycleOtpDone (s : State) : Host.Outcome State Fault Refusal :=
  done (match s.lifeProg with
    | none => s
    | some (target, hash) =>
      let s := ({ s with lifeProg := none } : State).bump
      (if bitAt s.resetCauses rcThermal ∧ ¬ Config.advanceCut s.free then s else s.newLife target hash).enterReset rcLife)

/-- The user word at an address; RETIRED reads 0 (R413, R414). -/
def State.otpWord (s : State) : Nat := if s.lifeCycle = 3 then 0 else look 0 s.otp (s.rd pageLc R.LC.OTP_ADDR)

/-- `OTP_CMD.PROG` is refused in SEALED and RETIRED (R415). -/
def State.otpClosed (s : State) : Bool := decide (s.lifeCycle ≥ 2)

/-- A write of 1 to `OTP_CMD.PROG`, which clears as it is accepted or ignored (R8, R415). -/
def State.otpStart (s : State) : State :=
  let s := s.wr pageLc R.LC.OTP_CMD_PROG 0
  if s.otpClosed ∨ s.otpProg.isSome then s else
  let s : State := { s with otpProg := some (s.rd pageLc R.LC.OTP_ADDR, s.rd pageLc R.LC.OTP_DATA) }
  (s.wr pageLc R.LC.OTP_STAT_BUSY 1).wr pageLc R.LC.OTP_STAT_FAIL 0

/-- Programming ends; `bits_` are the bits of the data that it reached, and the read-back differs where some are missing (R415). -/
def execOtpDone (bits_ : Nat) (s : State) : Host.Outcome State Fault Refusal :=
  done (match s.otpProg with
    | none => s
    | some (a, v) =>
      let got := look 0 s.otp a ||| (v &&& bits_)
      let ok := got == (look 0 s.otp a ||| v)
      let s := ({ s with otp := put 0 s.otp a got, otpProg := none } : State).wr pageLc R.LC.OTP_STAT_BUSY 0
      let s := s.wr pageLc R.LC.OTP_STAT_FAIL (b2n (!ok))
      s.raise pageLc (if ok then 0 else 1))

end Sys2Proof.Machine
end

