-- ==== Sys2Proof/Machine/Commit.lean ====
section
/-! DEFINITION. Double-buffered fields: arming, the boundaries of R40 and R41, and what a commit does in each block (R40, R41, R62, R226). -/

namespace Sys2Proof.Machine

open Sys2Proof

/-! ### Boundaries (R40, R41). Instants are in units of 10 ps of network time. -/

/-- The next multiple of `b` after `x`. Log 25 (DEDUCED; unsafe). -/
def nextAfter (x b : Nat) : Nat := (x / b + 1) * b

/-- The port whose gate cycle a page's commit waits for: a port page's own, or the one that `GATE_SEL` names (R40). -/
def State.gatePort (s : State) (p : Nat) : Nat :=
  if pageBlk p = some .port then pageIndex p else s.rd pageGate R.GATE.GATE_SEL_PORT % 48

/-- The next start of a port's gate cycle after instant `ns`: that of its active list, or the start of a list being
installed if that comes first (R333, R336). Log 26 (DEDUCED; unsafe). -/
def State.nextCycle (s : State) (p ns : Nat) : Option Nat :=
  let g := s.seqGate p
  let c := s.cycleOf g.active
  let a := if ¬ g.valid ∨ c = 0 then none else some (ns + c - s.gatePos g ns)
  match g.inst with
  | none => a
  | some i => if i.start ≤ ns then a else some (match a with | some x => min x i.start | none => i.start)

/-- The boundary of encoding `k` that comes next after `ns` for a page; none while none lies ahead (R40, R41).
Log 25 (DEDUCED; unsafe). -/
def State.boundaryAfter (s : State) (p k ns : Nat) : Option Nat :=
  if k = 1 then some (nextAfter ns 64 * 100)
  else if k = 2 then some (nextAfter ns s.hoop * 100)
  else if k = 3 then (s.nextCycle (s.gatePort p) ns).map (fun x => x * 100)
  else if k = 4 then some (nextAfter (ns * 100) (s.blockPeriod p))
  else if k = 5 then (if s.gateIdle (b2n (isTcuB p)) (pageIndex p) then some (ns * 100) else none)
  else if k = 6 then some (nextAfter ns 1000000000 * 100)
  else some (look 0 s.commitSec p * 100000000000)

/-- The boundary chosen for a page, `HDR_COMMIT_AT.BOUNDARY`. -/
def State.boundary (s : State) (p : Nat) : Nat := s.rd p R.HDR.HDR_COMMIT_AT_BOUNDARY

/-- The instant at which the armed commit of a page takes effect, if its boundary lies ahead.
Log 25 (DEDUCED; unsafe). -/
def State.commitAt (s : State) (p : Nat) : Option Nat := s.boundaryAfter p (s.boundary p) s.now

/-- A commit is armed on the page (R40). -/
def State.armed (s : State) (p : Nat) : Bool := s.flag p R.HDR.HDR_SHADOW_CTL_ARM

/-- The pages with a commit armed. -/
def State.armedPages (s : State) : List Nat :=
  s.regs.filterMap (fun e => if e.1 % 32768 = 0x020 * 8 ∧ e.2 % 2 = 1 then some (e.1 / 32768) else none)

/-! ### What a commit does -/

/-- The pages whose shadows a commit of page `p` makes live: a CAD page's hoop configuration is that of each TCU that takes writes to
mirrored tables (R154, R242). -/
def State.commitPages (s : State) (p : Nat) : List Nat :=
  if pageBlk p = some .cad then [p, twin p].filter (fun q => s.takesTables (b2n (isTcuB q))) else [p]

/-- A key of the register store lies on one of the pages. -/
def onPages (ps : List Nat) (k : Nat) : Bool := ps.contains (k / 32768)

/-- A double-buffered field's reset value, as the key of its element names it. -/
def keyReset (k : Nat) : Nat :=
  match pageBlk (k / 32768) with
  | none => 0
  | some b => ((fieldsAt b (k % 32768 / 32 * 4)).find? (fun fi => fi.1.key (k / 32768) fi.2 == k)).elim 0 (fun fi => fi.1.reset (k / 32768) fi.2)

/-- The shadowed fields of some pages become live. -/
def State.goLive (s : State) (ps : List Nat) : State :=
  let mine := s.shadow.filter (fun e => onPages ps e.1)
  { s with
    regs := mine.foldl (fun m e => put (keyReset e.1) m e.1 e.2) s.regs
    shadow := s.shadow.filter (fun e => !onPages ps e.1) }

/-- The value that a field of a page will have once its shadow is live. -/
def State.shadowed (s : State) (p : Nat) (f : Fld) : Nat := look (s.rd p f) s.shadow (f.key p 0)

/-- The block's cause CFG_REJECT. -/
def rejectCause (b : Blk) : Nat := match b with | .out => 3 | .nt => 10 | .cad => 4 | _ => 2

/-- R_c of a trunk after an instant at which the pages `ps` commit together: a commit that R193 rejects for exceeding 8,192 is left out (R226). -/
def State.rcAfter (s : State) (ps : List Nat) (n : Nat) : Nat :=
  let v := s.shadowed (pageNT n) R.NT.TRUNK_CAD_RES
  if ps.contains (pageNT n) ∧ v ≤ 8192 then v else s.rd (pageNT n) R.NT.TRUNK_CAD_RES

/-- The block accepts the values that `t`, the state with them live, holds; `s` is the state before, and `ps` are the pages
that commit at the same instant (R116, R117, R193, R226, R230, R304). -/
def State.commitOk (s t : State) (p k : Nat) (ps : List Nat) : Bool :=
  match pageBlk p with
  | some .out => t.outOk p
  | some .nt =>
    let rc := t.rd p R.NT.TRUNK_CAD_RES
    rcOk rc t.hoop && t.rcCovers (pageIndex p) rc
  | some .cad => (s.hoop == t.hoop || k == 6 || k == 7) && t.hoopOk (s.rcAfter ps)
  | some .vat => t.vatOk
  | _ => true

/-- What a commit of a page brings about beyond its registers; `old` is the state before it (R65, R76, R108, R117, R213, R226, R305, R329).
Log 27 (DEDUCED; unsafe). -/
def State.committed (old : State) (p : Nat) (s : State) : State :=
  let t := b2n (isTcuB p)
  let wrote (f : Fld) : Bool := old.shadow.any (fun e => e.1 == f.key p 0)
  match pageBlk p with
  | some .time =>
    if s.tokenHeld ∧ s.lead = t then
      s.onFollowers (fun v a =>
        ((if v = t then a else (a.copyFld (pageTime t) (pageTime v) R.TIME.RATE_HOST_LO).copyFld (pageTime t) (pageTime v) R.TIME.RATE_HOST_HI)).useHostRate v)
    else if s.follows t then s else s.useHostRate t
  | some .tdc => s.armAtCommitted t (pageIndex p)
  | some .refsel =>
    if ¬ (wrote R.REFSEL.REFSEL_TOD_SEC_LO ∨ wrote R.REFSEL.REFSEL_TOD_SEC_HI) then s
    else
      s.onTcu t (fun u => { u with todSet := true })
  | some .out => old.outCommitted t (pageIndex p) s
  | some .nt => (old.rcCommitted (pageIndex p) s).estWritten (pageIndex p)
  | some .cad => old.hoopChanged (old.cadCommitted s)
  | some .vat => s.each 48 (fun q a => a.pressOf q)
  | some .shape => s.shpCommit
  | _ => s

/-- A commit is no longer armed. -/
def State.disarm (s : State) (p : Nat) : State := { s.wr p R.HDR.HDR_SHADOW_CTL_ARM 0 with commitSec := drop s.commitSec p }

/-- The commit of a page takes effect, or its block rejects it; `k` is the boundary and `ps` the pages that commit at this instant (R40). The
hoop configuration, which both TCUs' pages hold, is committed once where both are armed for the instant (R226, R242).
Log 3 (DEDUCED; unsafe). -/
def State.commitPage (s : State) (p k : Nat) (ps : List Nat) : State :=
  let s := s.disarm p
  let t := s.goLive (s.commitPages p)
  if ¬ s.commitOk t p k ps then (match pageBlk p with | some b => s.raise p (rejectCause b) | none => s)
  else
    let t := t.wr p R.HDR.HDR_SHADOW_CTL_SEQ (s.rd p R.HDR.HDR_SHADOW_CTL_SEQ + 1)
    let again := pageBlk p == some .cad && ps.contains (twin p) && !s.armed (twin p) && !s.shadow.any (fun e => onPages (s.commitPages p) e.1)
    (if again then t else s.committed p t).raiseHdr p hCommitDone

/-- The commits of some pages take effect at one instant: the CAD pages' are judged first (R226).
Log 25 (DEDUCED; unsafe). -/
def State.commitTogether (s : State) (ps : List Nat) : State :=
  let cad := ps.filter (fun p => pageBlk p == some .cad)
  let rest := ps.filter (fun p => pageBlk p != some .cad)
  (cad ++ rest).foldl (fun a p => a.commitPage p (s.boundary p) ps) s

/-- The boundary of a page's armed commit is reached: every page armed for that instant commits with it (R40). -/
def State.reachBoundary (s : State) (p : Nat) : State :=
  if ¬ s.armed p then s else
  match s.commitAt p with
  | none => s
  | some x =>
    let ps := s.armedPages.filter (fun q => match s.commitAt q with | some y => decide (y ≤ x) | none => false)
    (s.advance ((x + 99) / 100 - s.now)).commitTogether ps

def execCommitBoundary (page : Nat) (s : State) : Host.Outcome State Fault Refusal := done (s.reachBoundary page)

/-- The counter was stepped from `from_`: the commits whose boundary it was carried past take effect (R41). -/
def State.commitsPassed (s : State) (from_ : Nat) : State :=
  s.commitTogether (s.armedPages.filter (fun p =>
    let k := s.boundary p
    if k = 5 then false else match s.boundaryAfter p k from_ with | some x => decide (x ≤ s.now * 100) | none => false))

/-! ### Arming (R40, R41) -/

/-- The second named in AT_SEC that a commit armed now waits for; none where it is the current second's. -/
def namedSecond (sec at_ : Nat) : Option Nat :=
  if at_ = sec % 65536 then none
  else
    let x := sec - sec % 65536 + at_
    some (if x ≤ sec then x + 65536 else x)

/-- ARM and the chosen boundary of a commit on a page of the leading TCU are mirrored to the other on every change (R151). -/
def State.armMirrored (s : State) (p : Nat) : State :=
  let t := b2n (isTcuB p)
  if twin p = p ∨ ¬ s.tokenHeld ∨ s.lead ≠ t ∨ ¬ s.mirrored (1 - t) then s
  else if s.armed p then s.mirrorArmed t (1 - t) (min p (twin p))
  else if s.armed (twin p) then s.disarm (twin p) else s

/-- A write of `HDR_SHADOW_CTL` in which ARM rose, `old` being the state before the write, or in which CANCEL is 1. A write with both
arms first, which for an immediate commit commits, and then cancels. Log 15 (DESIGN CHOICE; unsafe). -/
def State.shadowCtl (old : State) (p v : Nat) (s : State) : State :=
  let s := s.wr p R.HDR.HDR_SHADOW_CTL_CANCEL 0
  let s :=
    if ¬ bitAt v 0 ∨ old.armed p then s
    else if s.boundary p = 0 then s.commitPage p 0 [p]
    else if s.boundary p ≠ 7 then s
    else match namedSecond s.sec (s.rd p R.HDR.HDR_COMMIT_AT_AT_SEC) with
      | none => (s.wr p R.HDR.HDR_SHADOW_CTL_ARM 0).raiseHdr p hCommitLate
      | some x => { s with commitSec := put 0 s.commitSec p x }
  (if bitAt v 1 then s.disarm p else s).armMirrored p

/-! ### Steps (R62, R338) -/

/-- The next clock alignment epoch comes while a step waits: the step is applied in every TCU that has it, TIME_STEP
completes, and what follows the counter follows the step (R41, R62, R107, R241, R338). -/
def State.stepEpoch (s : State) : State :=
  if (s.tcu 0).step.isNone ∧ (s.tcu 1).step.isNone then s else
  let t := if (s.tcu s.lead).step.isSome then s.lead else 1 - s.lead
  let old := s.toEpoch t
  let s := (old.each 48 (fun p a => if a.gated p then a.accruePort p else a)).both (fun v a => a.applyStep v)
  let s := (match s.findOp 0x42 with | some k => s.finishSt k stOk | none => s).refreshValid
  if s.now = old.now then s else
  let s := s.endHolds.gateSwapDue.each 48 (fun p a => if a.gated p then a.touchPort p else a)
  (old.cadStepped s).commitsPassed old.now

def execStepApply (s : State) : Host.Outcome State Fault Refusal := done s.stepEpoch

/-- The slewed remainder of a step reaches zero in TCU `t` (R62). -/
def execSlewDone (t : Nat) (s : State) : Host.Outcome State Fault Refusal :=
  done (if s.decides (t % 2) then s.slewEnds (t % 2) else s.slewDone (t % 2))

end Sys2Proof.Machine
end

