-- ==== Sys2Proof/Machine/WriteRules.lean ====
section
/-! DEFINITION. The rules that bind the encodings of a field to other fields, the fields that a write leaves as they are without an error, and the windows that are closed while memories are wiped. -/

namespace Sys2Proof.Machine

open Sys2Proof

/-- `HDR_COMMIT_AT.BOUNDARY` encodings a block offers (R40, R226, R304, R329). -/
def boundaryOffered (b : Blk) (x : Nat) : Bool :=
  match b with
  | .cad => [0, 2, 6, 7].contains x
  | .vat => [0, 1, 6].contains x
  | .shape => [0, 1, 2, 6, 7].contains x
  | _ =>
    if x = 3 then b = .port ∨ b = .gate
    else if x = 4 then b = .port ∨ b = .grp ∨ b = .nt
    else if x = 5 then b = .tdc
    else true

/-- The value that field `f` holds after a write of word `v` to its register: what is written, where that is listed.
Log 23 (DEDUCED; unsafe). -/
def State.after (s : State) (p v : Nat) (f : Fld) (i : Nat) : Nat :=
  let x := bits v f.lo f.w
  if f.legal.ok f.w x then x else s.rdI p f i

/-- XON lies below XOFF while XOFF is not 0 (R305). -/
def pressOrder (xoff xon : Nat) : Bool := xoff == 0 || decide (xon < xoff)

/-- The numbers of a watch entry of a kind end here (R345). -/
def watchRange (kind : Nat) : Nat := if kind = 0 then 294912 else if kind = 1 then 6144 else 48

/-- A field that reads as RO: `TDC_ARM` of a channel that its block arms, and of an event channel that an aligned output has
taken (R76, R118). -/
def State.readsOnly (s : State) (p : Nat) (b : Blk) (f : Fld) : Bool :=
  b == .tdc && f.off == 0x040 && (!isEvent (pageIndex p) || s.alignsTdc (b2n (isTcuB p)) (pageIndex p))

/-- Whether a written word `v` keeps the rules that bind field `f`, element `i`, to others (R7). PTP_DOM.ANY is judged where ANY is
written, and a later write of PTP_CTL.ROLE is not (R147). Log 23 (DEDUCED; unsafe). Log 101 (DESIGN CHOICE; unsafe). -/
def State.ruleOk (s : State) (p : Nat) (b : Blk) (v : Nat) (f : Fld) (i : Nat) : Bool :=
  let x := bits v f.lo f.w
  if f = R.HDR.HDR_COMMIT_AT_BOUNDARY then boundaryOffered b x
  else match b with
  | .port =>
    if f.off = 0x054 then
      decide (s.after p v R.PORT.TX_FIR_C_PRE 0 + s.after p v R.PORT.TX_FIR_C_MAIN 0 + s.after p v R.PORT.TX_FIR_C_POST 0 ≤ 40)
    else true
  | .vat =>
    if f.off = 0x058 then pressOrder (bits v 0 16) (bits v 16 16)
    else if f.off = 0x10C then pressOrder (bits v 0 16) (bits v 16 16)
    else true
  | .supply =>
    if f.off = 0x0C4 then
      (i == 0 || decide (s.rdI p R.SUPPLY.BG_T (i - 1) ≤ x)) && (i == 6 || decide (x ≤ s.rdI p R.SUPPLY.BG_T (i + 1)))
    else true
  | .out => if f.off = 0x04C then s.clkPhaseOk p (toInt 32 x) else true
  | .ptp => if f = R.PTP.PTP_DOM_ANY then x == 0 || decide (2 ≤ s.rd p R.PTP.PTP_CTL_ROLE) else true
  | .mact | .lpm => if f.off = 0x044 then [0, 1, 2, 4, 8, 16, 32].contains (v % 64) else true
  | .sample =>
    if f = R.SAMPLE.SMP_WATCH_NUMBER ∨ f = R.SAMPLE.SMP_WATCH_KIND then
      decide (s.after p v R.SAMPLE.SMP_WATCH_NUMBER 0 < watchRange (s.after p v R.SAMPLE.SMP_WATCH_KIND 0))
    else true
  | .perfc =>
    if f = R.PERFC.PC_CTL_EVENT ∨ f = R.PERFC.PC_CTL_UNIT then perfListed (bits v 0 8) (bits v 8 6) else true
  | .tdc => if f = R.TDC.TDC_ARM_SRC then !(x == 1 && isEvent (pageIndex p)) else true
  | .boot => if f.off = 0x044 then s.flag p R.BOOT.BOOT_STAT_WAIT_PUSH else true
  | .lc => if f = R.LC.OTP_CMD_PROG then x == 0 || !s.otpClosed else true
  | _ => true

/-- A register of a pending list or a table window that a running operation locks, beside the double-buffered fields of an
armed page (R288, R336). Log 22 (DEDUCED; unsafe). -/
def State.lockedField (s : State) (p : Nat) (b : Blk) (v : Nat) (f : Fld) (i : Nat) : Bool :=
  match b with
  | .gate =>
    (decide (0x104 ≤ f.off ∧ f.off ≤ 0x114) && (s.gate i).inst.isSome) ||
    (f = R.GATE.GATE_CMD_WRITE && bitAt v 0 && s.flag p R.GATE.GATE_SEL_LIST && (s.gate (s.rd p R.GATE.GATE_SEL_PORT)).inst.isSome)
  | .mact | .lpm => (f.off = 0x040 || f.off = 0x050) && s.flag p R.TBL.TBL_STAT_BUSY
  | .shape => decide (f.off ≤ 0x054) && s.shapeBusy
  | _ => false

/-- The registers that are windows onto a memory, by block and offset (R403). -/
def memWindow (b : Blk) (off : Nat) : Bool :=
  match b with
  | .hc => decide ((0x180 ≤ off ∧ off ≤ 0x18C) ∨ 0x400 ≤ off)
  | .caldir => off == 0x054
  | .tdc => decide (0x070 ≤ off ∧ off ≤ 0x080)
  | .ptp => decide (0x0A0 ≤ off ∧ off ≤ 0x0AC)
  | .cad => decide (0x054 ≤ off ∧ off ≤ 0x068)
  | .gw => decide (0x050 ≤ off ∧ off ≤ 0x074)
  | .mact | .lpm => decide (0x044 ≤ off ∧ off ≤ 0x064)
  | .voq | .gate => decide (0x044 ≤ off ∧ off ≤ 0x04C)
  | .sample => decide (off = 0x050 ∨ (0x060 ≤ off ∧ off ≤ 0x06C))
  | .shape => decide (0x044 ≤ off ∧ off ≤ 0x058)
  | .enge | .espare => decide (0x05C ≤ off ∧ off ≤ 0x080)
  | .eshared => off == 0x044
  | _ => false

/-- The window at `off` of page `p` reads 0 and ignores writes, because memories are being wiped (R403).
Log 22 (DEDUCED; unsafe). -/
def State.windowShut (s : State) (p off : Nat) : Bool :=
  s.wiping && match pageBlk p with | some b => memWindow b off | none => false

/-- The seed of a MAC/VLAN table keeps its value while the table holds a valid entry (R270). -/
def State.seedRefused (s : State) (p : Nat) : Bool := pageBlk p == some .mact && s.filled (winPipe p) tMac != 0

/-- The table and prefix length of a length register (R281): IPv4 1–32, IPv6 1–64 and 128. -/
def lenOf (off : Nat) : Option (Nat × Nat) :=
  if 0x104 ≤ off ∧ off < 0x184 then some (tV4, (off - 0x104) / 4 + 1)
  else if 0x204 ≤ off ∧ off < 0x304 then some (tV6, (off - 0x204) / 4 + 1)
  else if off = 0x308 then some (tV6, 128) else none

/-- A write of a length register of an LPM page is refused; BASE has 12 bits for IPv4 and 11 for IPv6 (R281, R292). -/
def State.lenWriteRefused (s : State) (p off v : Nat) : Bool :=
  pageBlk p == some .lpm && match lenOf off with
    | some (t, l) => s.lenRefused (winPipe p) t l (bits v 0 (if t = tV4 then 12 else 11)) (bits v 12 4) (bits v 16 1)
    | none => false

/-- Whether a write leaves field `f` as it is, with no access error: the register's own rule says so (R38, R76, R85, R270,
R281, R403, R411), or the register's effect stores what the write brings (R357, R363, R378, R380). -/
def State.keeps (s : State) (p : Nat) (b : Blk) (v : Nat) (f : Fld) (i : Nat) : Bool :=
  let off := f.offAt i
  s.windowShut p off || (decide (f = R.HDR.HDR_OWNER_OWNER) && fixedOwner p) ||
  match b with
  | .tdc => f.off = 0x094 || s.readsOnly p b f
  | .synth => f = R.SYNTH.SYN_CTL_REF_PATH
  | .eshared => off == 0x044
  | .caldir => off == 0x054
  | .perfc => off == 0x044 || off == 0x048
  | .mact => off == 0x070 && s.seedRefused p
  | .lpm => s.lenWriteRefused p off v
  | .lc => f.off = 0x060 && s.flag p R.LC.LC_STAT_KEY_SET
  | _ => false

end Sys2Proof.Machine
end

