-- ==== Sys2Proof/Machine/Access.lean ====
section
/-! DEFINITION. One host access: which page and register it names, the errors it makes (R6, R7, R25, R34, R38, R40) and the fields it writes by their access types (R8–R10). -/

namespace Sys2Proof.Machine

open Sys2Proof

/-- The error bits of `HDR_ERR_CAUSE` (R36). -/
def eAlign : Nat := 1
def eEnc : Nat := 2
def eOwner : Nat := 4
def eOff : Nat := 8
def eUnmapped : Nat := 16
def eArmed : Nat := 32

/-- The page of a window offset (R5). -/
def addrPage (a : Nat) : Nat := a / 0x1000 % 0x1000

/-- The offset in the page of the aligned word a window offset lies in (R5). -/
def addrOff (a : Nat) : Nat := a % 0x1000 / 4 * 4

/-- The page on which an access error is recorded: the page addressed, or the issuer's HC page (R34). -/
def errPage (ctx a : Nat) : Nat := if (pageBlk (addrPage a)).isSome then addrPage a else pageHC ctx

/-- The page is a context's own page, and the context is bound to a PCIe function: it has no on-chip rings (R46). -/
def State.noRings (s : State) (p : Nat) : Bool := decide (0x010 ≤ p ∧ p ≤ 0x013) && s.kind (p - 0x010) == kPcie

/-- The fields that stand at a window offset (R5, R35, R46). -/
def State.addrFields (s : State) (a : Nat) : List (Fld × Nat) :=
  match pageBlk (addrPage a) with
  | none => []
  | some b => if s.noRings (addrPage a) ∧ 0x400 ≤ addrOff a then [] else fieldsAt b (addrOff a)

/-- The errors that any access to `a` of `size` octets makes: alignment and width (R6), and mapping (R34).
Log 20 (DEDUCED; unsafe). -/
def State.mapErrs (s : State) (a size : Nat) : Nat :=
  (if size = 4 ∧ a % 4 = 0 then 0 else eAlign) ||| (if s.addrFields a = [] then eUnmapped else 0)

/-- A context may write the register: HC0 alone writes `HDR_OWNER`, the owner every other register, and nobody the
ESPARE page's (R38, R39, R360). Log 22 (DEDUCED; unsafe). -/
def State.mayWrite (s : State) (ctx a : Nat) : Bool :=
  addrPage a != pageEspare && if addrOff a = 0x004 then ctx == 0 else s.owner (addrPage a) == ctx

/-- The errors of the access as a write: those of `mapErrs`, and, where a register stands at the offset, ownership (R38) and
power (R25).
Log 17 (DEDUCED; unsafe). -/
def State.writeErrs (s : State) (ctx a size : Nat) : Nat :=
  let m := s.mapErrs a size
  if s.addrFields a = [] then m else
    m ||| (if s.mayWrite ctx a then 0 else eOwner)
      ||| (if s.pageOff (addrPage a) ∧ ¬ heldHeader (addrOff a) then eOff else 0)

/-- The error that a write of word `v` makes in one of its fields: an unlisted encoding or a broken bound rule (R7), or
a double-buffered field or `HDR_COMMIT_AT` while a commit is armed, or one that an operation locks (R40, R288, R336), or a
locked OWNER (R39); a field that reads as RO for now takes no part (R8). -/
def State.fieldErr (s : State) (p : Nat) (b : Blk) (v : Nat) (fi : Fld × Nat) : Nat :=
  let f := fi.1
  let wr := f.acc = .rw ∨ f.acc = .rws
  if s.readsOnly p b f then 0 else
  (if (wr ∧ ¬ f.legal.ok f.w (bits v f.lo f.w)) ∨ (f.acc ≠ .ro ∧ ¬ s.ruleOk p b v f fi.2) then eEnc else 0) |||
  (if (wr ∧ (f.db ∨ f.off = 0x024) ∧ s.armed p) ∨ s.lockedField p b v f fi.2 then eArmed else 0) |||
  (if f = R.HDR.HDR_OWNER_OWNER ∧ s.flag p R.HDR.HDR_OWNER_LOCKED then eOwner else 0)

/-- The errors of a whole register's fields. Log 17 (DEDUCED; unsafe). -/
def State.fieldErrs (s : State) (p : Nat) (b : Blk) (v : Nat) (fs : List (Fld × Nat)) : Nat :=
  fs.foldl (fun e fi => e ||| s.fieldErr p b v fi) 0

/-- All the errors of a write (R34): those of its fields count where it is an aligned write of 32 bits.
Log 17 (DEDUCED; unsafe). -/
def State.writeMask (s : State) (ctx a size v : Nat) : Nat :=
  let m := s.writeErrs ctx a size
  match pageBlk (addrPage a) with
  | none => m
  | some b => if size = 4 ∧ a % 4 = 0 then m ||| s.fieldErrs (addrPage a) b v (s.addrFields a) else m

/-- Writes one field by its access type (R8), errors and rules being judged in `old`, the state before the access; a field
with an error keeps its value. Log 3 (DEDUCED; unsafe). -/
def State.fieldWrite (old : State) (p : Nat) (b : Blk) (v : Nat) (fi : Fld × Nat) (s : State) : State :=
  let f := fi.1
  let x := bits v f.lo f.w
  if old.fieldErr p b v fi ≠ 0 ∨ old.keeps p b v f fi.2 then s else
  match f.acc with
  | .ro | .wo => s
  | .rw | .rws => if f.db then { s with shadow := insert (drop s.shadow (f.key p fi.2)) (f.key p fi.2) x } else s.wrI p f fi.2 x
  | .w1c => s.wrI p f fi.2 (s.rdI p f fi.2 - (s.rdI p f fi.2 &&& x))
  | .w1s => s.wrI p f fi.2 (s.rdI p f fi.2 ||| x)

/-- The capture is released when the last set bit of `HDR_ERR_CAUSE` is cleared (R37). -/
def State.releaseCapture (s : State) (p : Nat) : State :=
  if s.rd p R.HDR.HDR_ERR_CAUSE_ACC = 0 ∧ s.rd p R.HDR.HDR_ERR_CAUSE_INTEG = 0 then s.wr p R.HDR.HDR_ERR_CAPTURE_VALID 0 else s

/-- A host write: an access with an error of its own changes nothing but the error record; otherwise each field takes its
value by its access type, the errors of single fields are recorded, and the register's own effect follows. The effect is
given the state before the write, so that it sees which bits rose. -/
def State.checkedWrite (eff : State → Nat → Nat → Nat → Nat → State → State) (ctx a size v : Nat) (s : State) : State :=
  let p := addrPage a
  let m := s.writeMask ctx a size v
  match pageBlk p with
  | none => s.accErr (errPage ctx a) ctx (addrOff a) true m
  | some b =>
    if s.writeErrs ctx a size ≠ 0 then s.accErr p ctx (addrOff a) true m
    else
      let t := (s.addrFields a).foldl (fun t fi => s.fieldWrite p b v fi t) s
      let t := if addrOff a = 0x018 then t.releaseCapture p else t
      (eff s ctx p (addrOff a) v t).accErr p ctx (addrOff a) true m

end Sys2Proof.Machine
end

