-- ==== Sys2Proof/Machine/Links.lean ====
section
/-! DEFINITION. The PCIe link of a function and its context, PE_PERST_N, and MSI-X (R42, R47, R58, R433). -/

namespace Sys2Proof.Machine

open Sys2Proof

/-- The context bound to a PCIe function, if there is one (R42). -/
def State.pfCtx (s : State) (pf : Nat) : Option Nat := ((List.range 4).filter (fun c => s.kind c == kPcie))[pf]?

/-- The name under which the commands of a detached context run on: a context number that is in use by no command.
Log 28 (DEDUCED; unsafe). -/
def State.orphan (s : State) : Nat := s.cmds.foldl (fun m k => max m (k.ctx + 1)) 4

/-- The commands that context `c` had started run on with nobody to complete to; what was only fetched is dropped (R47). -/
def State.orphanCmds (s : State) (c : Nat) : State :=
  let o := s.orphan
  let req (q : Req) : Req := { q with kind := match q.kind with
    | .flush x n p v => .flush (if x = c then o else x) n p v
    | k => k }
  { s with
    grants := s.grants.filter (fun g => g.1 != c)
    cmds := (s.cmds.filter (fun k => k.ctx != c || k.started)).map (fun k => if k.ctx = c then { k with ctx := o } else k)
    fences := s.fences.map (fun f => if f.ctx = c then { f with ctx := o } else f)
    learnq := s.learnq.map (fun e => (e.1, e.2.map req))
    crossing := s.crossing.map (fun e => (e.1, e.2.map req)) }

/-- The link of a context's function is down: the context is detached, its completions are discarded, HC0 receives
HOST_DETACHED, and the function's configuration space is at its defaults (R47, R433). Log 28 (DEDUCED; unsafe). -/
def State.detach (s : State) (c : Nat) : State :=
  if ¬ s.attached c then s else
  let s := (s.orphanCmds c).wr (pageHC c) R.HC.CTX_STAT_ATTACHED 0
  let s := (s.onHost c (fun h => { h with held := [], msix := false })).wr (pageHC c) R.HC.CTX_STAT_STALLED 0
  if c ≠ 0 ∧ s.attached 0 then s.bcastTo 0 bDetached else s

/-- The link of a context's function is up: it is attached with its rings disabled, its ring registers at their reset
values, its message interrupt armed and no holdoff running (R47, R58). Log 28 (DEDUCED; unsafe). -/
def State.attach (s : State) (c : Nat) : State :=
  if s.attached c then s else
  let p := pageHC c
  let s := [R.HC.CTX_CTL_CMD_EN, R.HC.CTX_CTL_CPL_EN, R.HC.CMD_BASE_LO, R.HC.CMD_BASE_HI, R.HC.CMD_SIZE, R.HC.CMD_PROD, R.HC.CMD_CONS,
    R.HC.CPL_BASE_LO, R.HC.CPL_BASE_HI, R.HC.CPL_SIZE, R.HC.CPL_PROD, R.HC.CPL_CONS].foldl (fun a f => a.wr p f f.rst) (s.packetReset c)
  let s : State := { s with slots := s.slots.filter (fun e => e.1 / 4096 != c) }
  (s.onHost c (fun h => { h with held := [], armed := true, holdoff := false })).wr p R.HC.CTX_STAT_ATTACHED 1

/-- The link of a function goes down without notice (R47). -/
def execPcieLinkDown (pf : Nat) (s : State) : Host.Outcome State Fault Refusal :=
  done (match s.pfCtx pf with | some c => s.detach c | none => s)

/-- The link of a function comes up, which takes PE_PERST_N high and the device out of reset (R47, R433). -/
def execPcieLinkUp (pf : Nat) (s : State) : Host.Outcome State Fault Refusal :=
  done (match s.pfCtx pf with
    | some c => if s.perstHigh ∧ s.phase ≠ .reset then s.attach c else s
    | none => s)

/-- PE_PERST_N goes low: the link is down, and every context bound to a PCIe function is detached (R433). -/
def execPePerstAssert (s : State) : Host.Outcome State Fault Refusal :=
  done (({ s with perstHigh := false } : State).each 4 (fun c a => if s.kind c = kPcie then a.detach c else a))

/-- PE_PERST_N rises, and training starts (R433). -/
def execPePerstRelease (s : State) : Host.Outcome State Fault Refusal := done { s with perstHigh := true }

/-- The host enables MSI-X of a function; what is pending is sent at once (R58). -/
def execMsixEnable (pf : Nat) (s : State) : Host.Outcome State Fault Refusal :=
  done (match s.pfCtx pf with
    | some c => if s.attached c then s.onHost c (fun h => { h with msix := true }) else s
    | none => s)

/-- The INT_HOLDOFF interval of a context ends (R58). -/
def execIntHoldoffExpiry (hc : Nat) (s : State) : Host.Outcome State Fault Refusal :=
  let c := hc % 4
  done (if (s.host c).holdoff then (s.advance ((s.host c).holdTo - s.up)).onHost c (fun h => { h with holdoff := false }) else s)

end Sys2Proof.Machine
end

