-- ==== Sys2Proof/Machine/Opcodes.lean ====
section
/-! DEFINITION. The commands of R54: the order in which they are judged, how each starts, CMD_ABORT and CMD_QUERY, and the fetching of descriptors (R50–R56, R456). -/

namespace Sys2Proof.Machine

open Sys2Proof

/-! ### The judgement (R456) -/

/-- The opcodes of R54. -/
def opcodes : List Nat :=
  [0x00, 0x01, 0x02, 0x10, 0x11, 0x12, 0x13, 0x20, 0x21, 0x22, 0x23, 0x24, 0x25, 0x28, 0x29, 0x2A, 0x2B, 0x30, 0x38, 0x39, 0x3A,
   0x40, 0x41, 0x42, 0x43, 0x48, 0x49]

/-- NOP, CMD_ABORT and CMD_QUERY, which any context may issue. Log 29 (DEDUCED; unsafe). -/
def forAny (op : Nat) : Bool := decide (op ≤ 2)

/-- The opcodes reserved to HC0. -/
def forHc0 (op : Nat) : Bool := decide (0x10 ≤ op ∧ op ≤ 0x13)

/-- The pages that the Issued by cell names by themselves. -/
def issuedPages (op : Nat) : List Nat :=
  if op = 0x28 then [pageShadow] else if op = 0x2B then [pageWhey] else if op = 0x30 then [pageGate]
  else if op = 0x40 ∨ op = 0x41 then [pageCtl 0] else if op = 0x42 ∨ op = 0x43 then [pageTime 0]
  else if op = 0x48 then [pageCaldir] else if op = 0x49 then [pageCave] else []

/-- The pages that the Issued by cell names through the arguments, which name objects that exist.
Log 29 (DEDUCED; unsafe). -/
def namedPages (k : Cmd) : List Nat :=
  let a := k.arg 0
  if k.op = 0x20 ∨ k.op = 0x21 ∨ k.op = 0x30 then [pagePort a]
  else if k.op = 0x22 ∨ k.op = 0x23 then pageNT a :: (List.range 4).map (fun i => pagePort (4 * a + i))
  else if k.op = 0x24 ∨ k.op = 0x25 then [pagePort (if bitAt (k.arg 1) 0 then leafPort a else leafPort (voqLeaf a))]
  else if k.op = 0x28 then [if bits a 0 4 ≤ 2 then pageMact (bits a 8 1) else pageLpm (bits a 8 1)]
  else if k.op = 0x29 then (List.range 2).filterMap (fun w => if bitAt a w then some (pagePipe w) else none)
  else if k.op = 0x2A then (List.range 2).filterMap (fun w => if bitAt a w then some (pageMact w) else none)
  else if 0x38 ≤ k.op ∧ k.op ≤ 0x3A then [pageEng a] else []

/-- The generation and slot of a handle name the command that occupies the slot (R51). -/
def State.handleLive (s : State) (ctx h : Nat) : Bool :=
  (look { gen := 16, status := 0 } s.slots (ctx * 4096 + h % 4096)).gen == h / 4096

/-- Check 4: an argument word names an object that does not exist, or a handle is stale. Log 30 (DEDUCED; unsafe). -/
def State.noObject (s : State) (k : Cmd) : Option (Nat × Nat) :=
  let a := k.arg 0
  let bad (i : Nat) : Option (Nat × Nat) := some (stBadArg, i)
  if k.op = 0x01 ∨ k.op = 0x02 then
    let h := a % 65536
    if h % 4096 ≥ s.cmdSize k.ctx then bad 0 else if ¬ s.handleLive k.ctx h then some (stStale, 0) else none
  else if k.op = 0x10 ∨ k.op = 0x11 then (if domains.contains a then none else bad 0)
  else if k.op = 0x20 ∨ k.op = 0x21 ∨ k.op = 0x30 then (if a < 48 then none else bad 0)
  else if k.op = 0x22 ∨ k.op = 0x23 then (if a < 12 then none else bad 0)
  else if k.op = 0x24 ∨ k.op = 0x25 then
    (if bits (k.arg 1) 0 2 ≥ 2 then bad 1 else if a < (if bitAt (k.arg 1) 0 then 6144 else 294912) then none else bad 0)
  else if k.op = 0x28 then (if criticalFault k.args = some 0 then bad 0 else none)
  else if k.op = 0x29 then (if a < 4 then none else bad 0)
  else if k.op = 0x2A then (if a ≥ 4 then bad 0 else if k.arg 1 ≥ 48 ∧ k.arg 1 ≠ 0xFFFF then bad 1 else none)
  else if k.op = 0x38 then (if a < 8 then none else bad 0)
  else if k.op = 0x39 ∨ k.op = 0x3A then (if a ≥ 8 then bad 0 else if k.arg 1 ≥ 16 then bad 1 else none)
  else if k.op = 0x43 then (if a < 2 then none else bad 0)
  else if k.op = 0x48 then
    (if (calTargets a (k.arg 1)).isSome then none else if pageBlk a = some .nt then bad 1 else bad 0)
  else none

/-- The drain limit of R55 and R352 is within 1–1,000,000 µs. Log 30 (DEDUCED; unsafe). -/
def limitOk (n : Nat) : Bool := decide (1 ≤ n ∧ n ≤ 1000000)

/-- The first argument word that has a bit set outside the bit ranges that R54 lists for the opcode, of the words whose ranges no
other check covers (R50, R456). Log 29 (DEDUCED; unsafe). -/
def reservedArg (k : Cmd) : Option Nat :=
  let a (i : Nat) : Nat := k.arg i
  if (k.op = 0x01 ∨ k.op = 0x02) ∧ a 0 ≥ 65536 then some 0
  else if (k.op = 0x21 ∨ k.op = 0x23) ∧ a 1 > 1 then some 1
  else if k.op = 0x24 ∧ a 1 ≠ bits (a 1) 0 2 + bits (a 1) 8 1 * 256 then some 1
  else if k.op = 0x25 ∧ a 1 > 3 then some 1
  else if k.op = 0x2B ∧ a 0 > 1 then some 0
  else none

/-- Check 6: another argument value is outside its range, by the index of its word, or 0xFF for a register of the target page.
Log 30 (DEDUCED; unsafe). Log 47 (DEDUCED; unsafe). -/
def State.badValue (s : State) (k : Cmd) : Option Nat :=
  let a (i : Nat) : Nat := k.arg i
  if (reservedArg k).isSome then reservedArg k
  else if k.op = 0x12 then (if a 0 ≤ 1000 then none else some 0)
  else if k.op = 0x13 then
    (if a 0 = 0 ∨ a 0 > 3 then some 0 else if a 1 ≠ s.rd pageLc R.LC.LC_NONCE then some 1
     else if a 2 ≠ 2 ^ 32 - 1 - s.rd pageLc R.LC.LC_NONCE then some 2 else none)
  else if k.op = 0x20 then (if a 1 % 16 > 6 ∨ a 1 ≠ a 1 % 16 + bits (a 1) 8 1 * 256 ∨ (bitAt (a 1) 8 ∧ a 1 % 16 = 0) then some 1 else none)
  else if k.op = 0x21 ∨ k.op = 0x23 then (if bitAt (a 1) 0 ∨ limitOk (a 2) then none else some 2)
  else if k.op = 0x24 then (if bitAt (a 1) 8 ∨ limitOk (a 2) then none else some 2)
  else if k.op = 0x28 then (criticalFault k.args).or (if s.removesNothing k.args then some 2 else none)
  else if k.op = 0x2A then (if a 2 > 4095 ∧ a 2 ≠ 0xFFFF then some 2 else none)
  else if k.op = 0x30 then (if s.pendBad (a 0) then some 0xFF else none)
  else if k.op = 0x38 ∧ s.kind k.ctx ≠ kPcie then (if a 1 ≥ 2 ^ 20 then some 1 else if a 1 + a 3 > 2 ^ 20 then some 3 else none)
  else if k.op = 0x3A then (if a 2 > 1 then some 2 else if a 2 = 0 ∧ ¬ limitOk (a 3) then some 3 else none)
  else if k.op = 0x42 then s.stepArgFault k
  else if k.op = 0x49 then (if a 0 > 255 then some 0 else none)
  else none

/-- A class of objects and a number within it. -/
def object (cls n : Nat) : Nat := cls * 2 ^ 32 + n

/-- The objects of a command, which a second command in flight may not share (R52): domains, resets, ports, trunks, VOQs,
pipelines, tables, the audit, gate lists, tasks, the firmware bank, the step, the followed domain, slices and swaps.
Log 32 (DEDUCED; unsafe). -/
def objects (k : Cmd) : List Nat :=
  let a := k.arg 0
  if k.op = 0x10 ∨ k.op = 0x11 then [object 1 a]
  else if k.op = 0x12 ∨ k.op = 0x13 then [object 2 0]
  else if k.op = 0x20 ∨ k.op = 0x21 then [object 3 a]
  else if k.op = 0x22 ∨ k.op = 0x23 then [object 4 a]
  else if k.op = 0x24 ∨ k.op = 0x25 then (queueNames k).map (object 5)
  else if k.op = 0x29 then (List.range 2).filterMap (fun w => if bitAt a w then some (object 6 w) else none)
  else if k.op = 0x2A then (List.range 2).filterMap (fun w => if bitAt a w then some (object 7 w) else none)
  else if k.op = 0x2B then [object 8 0]
  else if k.op = 0x30 then [object 9 a]
  else if k.op = 0x38 then (List.range 16).map (fun t => object 10 (16 * a + t))
  else if k.op = 0x39 ∨ k.op = 0x3A then [object 10 (16 * a + k.arg 1)]
  else if k.op = 0x40 then [object 11 0]
  else if k.op = 0x41 then (if k.stage = 0 then [object 12 0] else [object 12 0, object 1 k.stage])
  else if k.op = 0x42 then [object 13 0]
  else if k.op = 0x43 then [object 14 0]
  else if k.op = 0x48 then (k.args.drop 2).map (fun p => object 15 (p % calMark))
  else if k.op = 0x49 then [object 16 a]
  else []

/-- A command as it will be once accepted: the objects of TCU_SWITCHOVER take in the domain of the TCU that is standby at
acceptance (R161), and those of CAL_RUN are the slices it names. -/
def State.asAccepted (s : State) (k : Cmd) : Cmd :=
  if k.op = 0x41 then { k with stage := if s.tokenHeld then 2 - s.active else 0 }
  else if k.op = 0x48 then { k with args := k.args.take 2 ++ (calTargets (k.arg 0) (k.arg 1)).getD [] } else k

/-- Check 7: the object already has a command in flight. Log 32 (DEDUCED; unsafe). -/
def State.objectBusy (s : State) (k : Cmd) : Bool :=
  let mine := objects (s.asAccepted k)
  s.cmds.any (fun j => j.started && !j.is k.ctx k.count && (objects j).any (fun o => mine.contains o))

/-- Check 8 as far as it is one for every opcode: before the device is ready, a command to a block that is not READY, and
at any time a command to a page whose domain is off (R410, R398). Of a TCU page either twin will do.
Log 31 (DEDUCED; unsafe). -/
def State.pageClosed (s : State) (k : Cmd) : Bool :=
  !forAny k.op && !forHc0 k.op &&
  ((!s.flag pageBoot R.BOOT.BOOT_STAT_READY && !s.pageReady k.page && !s.pageReady (twin k.page)) ||
    (s.pageOff k.page && s.pageOff (twin k.page)))

/-- A life-cycle advance must go forward (R411). -/
def State.notLater (s : State) (k : Cmd) : Bool := k.op == 0x13 && decide (k.arg 0 ≤ s.lifeCycle)

/-- The issuer owns none of the pages that count: one that it lost since it submitted the command still does (R39). -/
def State.lacks (s : State) (k : Cmd) (ps : List Nat) : Bool := ps.any (fun p => s.owner p != k.ctx && !k.pages.contains p)

/-- The status and DETAIL of the first check that fails, in the order of R456; `w0` and `w1` are the reserved bits set in
the descriptor's words 0 and 1. Log 29 (DEDUCED; unsafe). -/
def State.judgeCmd (s : State) (k : Cmd) (w0 w1 : Nat) : Option (Nat × Nat) :=
  if ¬ opcodes.contains k.op then some (stBadOpcode, 0)
  else if w0 ≠ 0 then some (stBadArg, 0x80)
  else if w1 ≠ 0 ∨ (pageBlk k.page).isNone then some (stBadArg, 0x81)
  else if forHc0 k.op ∧ k.ctx ≠ 0 then some (stNotSupervisor, 0)
  else if ¬ forAny k.op ∧ ¬ forHc0 k.op ∧ s.lacks k (k.page :: issuedPages k.op) then some (stNotOwner, 0)
  else match s.noObject k with
  | some r => some r
  | none =>
    if s.lacks k (namedPages k) then some (stNotOwner, 0)
    else match s.badValue k with
    | some i => some (stBadArg, i)
    | none =>
      if s.objectBusy k then some (stBusy, 0)
      else if s.pageClosed k ∨ s.notLater k then some (stWrongState, 0)
      else none

/-! ### CMD_ABORT and CMD_QUERY (R54, R56) -/

/-- The command that a handle names, if it is in flight. -/
def State.byHandle (s : State) (ctx h : Nat) : Option Cmd := s.cmds.find? (fun k => k.ctx == ctx && k.handle == h)

/-- A TASK_STOP that drains becomes a discard. -/
def stops (k : Cmd) : Bool := k.op == 0x3A

/-- The command in flight can be aborted, by the last column of R54. Log 33 (DEDUCED; unsafe). -/
def State.abortable (s : State) (k : Cmd) : Bool :=
  if ¬ k.started then !([0x00, 0x01, 0x02, 0x13, 0x25, 0x28, 0x39, 0x41, 0x43].contains k.op)
  else if k.op = 0x21 ∨ k.op = 0x23 ∨ k.op = 0x24 then k.stage == 0
  else if k.op = 0x40 then k.r1 != 1 && s.tcuState (k.stage - 1) == tsUpdating
  else if k.op = 0x48 then (k.args.drop 2).length == ((calTargets (k.arg 0) (k.arg 1)).getD []).length && (k.args.drop 2).all (fun p => decide (p < calMark))
  else if k.op = 0x49 then (match s.swapNumbered (k.arg 0) with | some i => (s.swapRec i).state == 2 || (s.swapRec i).state == 3 | none => false)
  else [0x12, 0x22, 0x29, 0x2A, 0x2B, 0x30, 0x38, 0x3A, 0x42].contains k.op

/-- What an abort of a started command does before or in place of its completion as ABORTED (R54). -/
def State.abortCmd (s : State) (k : Cmd) : State :=
  let a := k.arg 0
  let gone (s : State) : State := s.finishSt k stAborted
  if ¬ k.started then gone s
  else if k.op = 0x21 ∨ k.op = 0x23 ∨ k.op = 0x24 then (s.discardAll k).drainEnds k
  else if k.op = 0x3A then s.stopEnds k
  else if k.op = 0x22 then gone (s.trunkOff a)
  else if k.op = 0x29 then gone { s with fences := s.fences.filter (fun f => !(f.ctx == k.ctx && f.count == k.count)) }
  else if k.op = 0x2A then
    let mine (q : Req) : Bool := match q.kind with | .flush x n _ _ => x == k.ctx && n == k.count | _ => false
    let s : State := { s with learnq := s.learnq.filterMap (fun e =>
      let l := e.2.filter (fun q => !mine q)
      if l = [] then none else some (e.1, l)) }
    s.finish k stAborted 0 k.r0 0
  else if k.op = 0x2B then (if k.stage = 1 then (gone s).walkOver else gone s)
  else if k.op = 0x30 then gone ((s.onGate a (fun g => { g with inst := none })).wrI pageGate R.GATE.GATE_STAT_INSTALLING a 0)
  else if k.op = 0x38 then gone (s.wipeEngine a)
  else if k.op = 0x40 then gone (s.beginResync (k.stage - 1) false)
  else if k.op = 0x42 then gone (s.both (fun t a => a.onTcu t (fun u => { u with step := none })))
  else if k.op = 0x48 then gone { s with calHead := s.calHead.filter (fun p => !(k.args.drop 2).contains p) }
  else if k.op = 0x49 then gone (s.swapUndo a)
  else gone s

/-- CMD_ABORT: it completes before the completion of its target is written (R56). -/
def State.startAbort (k : Cmd) (s : State) : State :=
  match s.byHandle k.ctx (k.arg 0 % 65536) with
  | none => s.finishSt k stNotAbortable
  | some j => if s.abortable j then (s.finishSt k stOk).abortCmd j else s.finishSt k stNotAbortable

/-- CMD_QUERY: the status of the handle, 0xFF while it runs. -/
def State.startQuery (k : Cmd) (s : State) : State :=
  s.finish k stOk 0 (look { gen := 16, status := 0 } s.slots (k.ctx * 4096 + k.arg 0 % 4096)).status 0

/-! ### Starting (R52) -/

/-- A command that passed its judgement starts. -/
def State.startCmd (k : Cmd) (s : State) : State :=
  match k.op with
  | 0x00 => s.finishSt k stOk
  | 0x01 => State.startAbort k s
  | 0x02 => State.startQuery k s
  | 0x10 => State.startDomainOn k s
  | 0x11 => State.startDomainOff k s
  | 0x12 => State.startDeviceReset k s
  | 0x13 => State.startAdvance k s
  | 0x20 => State.startPortEnable k s
  | 0x21 => State.startPortDisable k s
  | 0x22 => State.startTrunkEnable k s
  | 0x23 => State.startTrunkDisable k s
  | 0x24 => State.startQueueDisable k s
  | 0x25 => State.startQueueEnable k s
  | 0x28 => State.startWriteCritical k s
  | 0x29 => State.startFence k s
  | 0x2A => State.startFlush k s
  | 0x2B => State.startWheyAudit k s
  | 0x30 => State.startGateInstall k s
  | 0x38 => State.startTaskLoad k s
  | 0x39 => State.startTaskStart k s
  | 0x3A => State.startTaskStop k s
  | 0x40 => State.startFwStage k s
  | 0x41 => State.startSwitchover k s
  | 0x42 => State.startTimeStep k s
  | 0x43 => State.startDomainSelect k s
  | 0x48 => State.startCalRun k s
  | 0x49 => State.startSpareApprove k s
  | _ => s

/-- A command is judged, and starts or completes with the first check that fails. Log 33 (DEDUCED; unsafe). -/
def State.judgeStart (s : State) (k : Cmd) (w0 w1 : Nat) : State :=
  let s := s.fly k
  match s.judgeCmd k w0 w1 with
  | some r => s.finish k r.1 r.2 0 0
  | none => State.startCmd k s

/-- A command of R54 that a context has submitted and the device has fetched is taken, judged and started.
Log 7 (DESIGN CHOICE; unsafe). -/
def State.takeRequest (s : State) (op : Nat) (q : Request) : State :=
  let c := q.ctx % 4
  if s.phase = .reset then s else
  s.judgeStart { ctx := c, count := q.count, handle := handleOf q.count (s.cmdSize c), tag := q.tag % 65536, intOn := q.intOn, afterPrev := false,
                 op := op, page := q.page, args := (List.range 6).map (fun i => q.args.getD i 0 % 2 ^ 32) } 0 0

/-! ### Fetching (R52) -/

/-- A command that AFTER_PREV holds back. -/
def State.heldCmd (s : State) (c : Nat) : Option Cmd := s.cmds.find? (fun k => k.ctx == c && !k.started)

/-- A command that AFTER_PREV holds back starts once every earlier command of its context has completed. -/
def State.release1 (s : State) (c : Nat) : State :=
  match s.heldCmd c with
  | none => s
  | some k => if s.cmds.any (fun j => j.ctx == c && j.started) then s else
      s.judgeStart { k with started := true, stage := 0, r0 := 0, r1 := 0 } k.r0 k.r1

/-- The held commands of every context that may start do. Log 33 (DEDUCED; unsafe). -/
def State.releaseHeld (s : State) : State := s.each 4 (fun c a => a.release1 c)

/-- The device may fetch a descriptor of a context (R47, R52). -/
def State.mayFetch (s : State) (c : Nat) : Bool :=
  s.phase != .reset && s.attached c && s.flag (pageHC c) R.HC.CTX_CTL_CMD_EN &&
  s.rd (pageHC c) R.HC.CMD_PROD != s.rd (pageHC c) R.HC.CMD_CONS &&
  decide ((s.cmds.filter (fun k => k.ctx == c)).length < 256) && (s.heldCmd c).isNone && decide ((s.host c).held.length < 64)

/-- The eight words of the next descriptor: from the on-chip ring of an SPI or in-band context, else as read from host memory (R46).
Log 34 (DEDUCED; unsafe). -/
def State.descWords (s : State) (c : Nat) (words : List Nat) : List Nat :=
  if s.kind c = kPcie then (List.range 8).map (fun i => words.getD i 0 % 2 ^ 32)
  else (List.range 8).map (fun i => s.rdI (pageHC c) R.HC.CMD_RING (s.rd (pageHC c) R.HC.CMD_CONS % 64 * 8 + i))

/-- One of the descriptors for which a context keeps pages has been fetched (R39). -/
def State.grantsPass (s : State) (c : Nat) : State :=
  { s with grants := s.grants.filterMap (fun g => if g.1 ≠ c then some g else if g.2.2 ≤ 1 then none else some (g.1, g.2.1, g.2.2 - 1)) }

/-- The next descriptor is fetched and starts at once, unless AFTER_PREV holds it back (R50–R52).
Log 7 (DESIGN CHOICE; unsafe). -/
def State.fetch (s : State) (c : Nat) (words : List Nat) : State :=
  let s := s.release1 c
  if ¬ s.mayFetch c then s else
  let ws := s.descWords c words
  let n := s.rd (pageHC c) R.HC.CMD_CONS
  let w (i : Nat) : Nat := ws.getD i 0
  let k : Cmd := { ctx := c, count := n, handle := handleOf n (s.cmdSize c), tag := bits (w 0) 16 16, intOn := bitAt (w 0) 8,
                   afterPrev := bitAt (w 0) 9, op := bits (w 0) 0 8, page := bits (w 1) 0 12, args := (List.range 6).map (fun i => w (i + 2)) }
  let k : Cmd := { k with pages := s.grants.filterMap (fun g => if g.1 = c then some g.2.1 else none) }
  let s := (s.wr (pageHC c) R.HC.CMD_CONS (n + 1)).grantsPass c
  let w0 := bits (w 0) 10 6
  let w1 := bits (w 1) 12 20
  if k.afterPrev ∧ s.cmds.any (fun j => j.ctx == c) then s.fly { k with started := false, r0 := w0, r1 := w1 }
  else s.judgeStart k w0 w1

def execDescriptorFetch (hc : Nat) (words : List Nat) (s : State) : Host.Outcome State Fault Refusal := done (s.fetch (hc % 4) words)

/-! ### One meaning for each opcode (R54) -/

/-- NOP completes at once. -/
def execNop (q : Request) (s : State) : Host.Outcome State Fault Refusal := done (s.takeRequest 0x00 q)

/-- CMD_ABORT aborts or converts the named command of its issuer (R54, R56). -/
def execCmdAbort (q : Request) (s : State) : Host.Outcome State Fault Refusal := done (s.takeRequest 0x01 q)

/-- CMD_QUERY returns the status of the named handle (R54). -/
def execCmdQuery (q : Request) (s : State) : Host.Outcome State Fault Refusal := done (s.takeRequest 0x02 q)

/-- DOMAIN_ON, judged and started (R24, R26, R398, R456). -/
def execDomainOn (q : Request) (s : State) : Host.Outcome State Fault Refusal := done (s.takeRequest 0x10 q)

/-- DOMAIN_OFF, judged and started (R24, R398, R456). -/
def execDomainOff (q : Request) (s : State) : Host.Outcome State Fault Refusal := done (s.takeRequest 0x11 q)

/-- DEVICE_RESET, judged and started (R399, R402, R456). -/
def execDeviceReset (q : Request) (s : State) : Host.Outcome State Fault Refusal := done (s.takeRequest 0x12 q)

/-- LIFECYCLE_ADVANCE, judged and started (R402, R411, R456). -/
def execLifecycleAdvance (q : Request) (s : State) : Host.Outcome State Fault Refusal := done (s.takeRequest 0x13 q)

/-- PORT_ENABLE, judged and started (R171, R456). -/
def execPortEnable (q : Request) (s : State) : Host.Outcome State Fault Refusal := done (s.takeRequest 0x20 q)

/-- PORT_DISABLE, judged and started (R55, R456). -/
def execPortDisable (q : Request) (s : State) : Host.Outcome State Fault Refusal := done (s.takeRequest 0x21 q)

/-- TRUNK_ENABLE, judged and started (R190, R205, R456). -/
def execTrunkEnable (q : Request) (s : State) : Host.Outcome State Fault Refusal := done (s.takeRequest 0x22 q)

/-- TRUNK_DISABLE, judged and started (R55, R220, R456). -/
def execTrunkDisable (q : Request) (s : State) : Host.Outcome State Fault Refusal := done (s.takeRequest 0x23 q)

/-- QUEUE_DISABLE, judged and started (R308, R456). -/
def execQueueDisable (q : Request) (s : State) : Host.Outcome State Fault Refusal := done (s.takeRequest 0x24 q)

/-- QUEUE_ENABLE, judged and started (R308, R456). -/
def execQueueEnable (q : Request) (s : State) : Host.Outcome State Fault Refusal := done (s.takeRequest 0x25 q)

/-- TABLE_WRITE_CRITICAL, judged and started (R287, R456). -/
def execTableWriteCritical (q : Request) (s : State) : Host.Outcome State Fault Refusal := done (s.takeRequest 0x28 q)

/-- TABLE_FENCE, judged and started (R290, R456). -/
def execTableFence (q : Request) (s : State) : Host.Outcome State Fault Refusal := done (s.takeRequest 0x29 q)

/-- TABLE_FLUSH, judged and started (R280, R456). -/
def execTableFlush (q : Request) (s : State) : Host.Outcome State Fault Refusal := done (s.takeRequest 0x2A q)

/-- WHEY_AUDIT, judged and started (R313, R456). -/
def execWheyAudit (q : Request) (s : State) : Host.Outcome State Fault Refusal := done (s.takeRequest 0x2B q)

/-- GATE_LIST_INSTALL, judged and started (R336, R456). -/
def execGateListInstall (q : Request) (s : State) : Host.Outcome State Fault Refusal := done (s.takeRequest 0x30 q)

/-- TASK_LOAD, judged and started (R349, R456). -/
def execTaskLoad (q : Request) (s : State) : Host.Outcome State Fault Refusal := done (s.takeRequest 0x38 q)

/-- TASK_START, judged and started (R351, R456). -/
def execTaskStart (q : Request) (s : State) : Host.Outcome State Fault Refusal := done (s.takeRequest 0x39 q)

/-- TASK_STOP, judged and started (R352, R456). -/
def execTaskStop (q : Request) (s : State) : Host.Outcome State Fault Refusal := done (s.takeRequest 0x3A q)

/-- TCU_FW_STAGE, judged and started (R162, R456). -/
def execTcuFwStage (q : Request) (s : State) : Host.Outcome State Fault Refusal := done (s.takeRequest 0x40 q)

/-- TCU_SWITCHOVER, judged and started (R161, R456). -/
def execTcuSwitchover (q : Request) (s : State) : Host.Outcome State Fault Refusal := done (s.takeRequest 0x41 q)

/-- TIME_STEP, judged and started (R62, R107, R456). -/
def execTimeStep (q : Request) (s : State) : Host.Outcome State Fault Refusal := done (s.takeRequest 0x42 q)

/-- TIME_DOMAIN_SELECT, judged and started (R145, R456). -/
def execTimeDomainSelect (q : Request) (s : State) : Host.Outcome State Fault Refusal := done (s.takeRequest 0x43 q)

/-- CAL_RUN, judged and started (R375, R456). -/
def execCalRun (q : Request) (s : State) : Host.Outcome State Fault Refusal := done (s.takeRequest 0x48 q)

/-- SPARE_APPROVE, judged and started (R384, R456). -/
def execSpareApprove (q : Request) (s : State) : Host.Outcome State Fault Refusal := done (s.takeRequest 0x49 q)

end Sys2Proof.Machine
end

