-- ==== Sys2Proof/Machine/HostRead.lean ====
section
/-! DEFINITION. Host reads: the fields that show a live value, what a read of a register does before and after it, and one read of the window (R6, R8, R25, R34, R38, R183, R403). -/

namespace Sys2Proof.Machine

open Sys2Proof

/-! ### Fields that show what the state holds elsewhere -/

/-- The header's live fields (R35, R36, R385, R455). Log 4 (DESIGN CHOICE; safe). -/
def State.liveHeader (s : State) (p : Nat) (b : Blk) (f : Fld) : Option Nat :=
  if f = R.HDR.HDR_ID_TYPE then some b.code
  else if f = R.HDR.HDR_ID_INSTANCE then some (pageInstance p)
  else if f = R.HDR.HDR_STATUS_READY then some (b2n (s.pageReady p))
  else if f = R.HDR.HDR_STATUS_BUSY then some (b2n (s.cmds.any (fun k => k.started && k.page == p)))
  else if f = R.HDR.HDR_STATUS_PWR then some (s.pwr (pageDomain p))
  else if f = R.HDR.HDR_SPARE_STAT_TOTAL then some (spareTotal p)
  else if f = R.HDR.HDR_SPARE_STAT_APPROVAL_WAIT then some (b2n (s.approvalWait p))
  else none

/-- The live fields of a host-context page (R46, R48, R57, R260). Log 4 (DESIGN CHOICE; safe). -/
def State.liveHc (s : State) (c i : Nat) (f : Fld) : Option Nat :=
  if (f.off = 0x050 ∨ f.off = 0x064) ∧ s.kind c ≠ kPcie then some 6
  else if f.off = 0x078 then some (s.intTop c)
  else if f.off = 0x080 then some (s.intPagePend c i)
  else if f = R.HC.PKT_RXF_LEVEL_OCTETS then some (4 * s.rxfWords c)
  else if f = R.HC.PKT_RXF_LEVEL_FRAMES then some (s.host c).rxf.length
  else if f.off = 0x184 then some (s.rxfRead c).1
  else if f.off = 0x188 then some (s.txfSpace c)
  else none

/-- The live fields of a port page (R186, R252, R255). Log 4 (DESIGN CHOICE; safe). Log 81 (DESIGN CHOICE; safe). -/
def State.livePort (s : State) (p : Nat) (f : Fld) : Option Nat :=
  if f.off = 0x0A4 then
    (if s.checksPattern p then some (s.patCount p) else none)
  else if f = R.PORT.MAC_PAUSE_STAT_REMAIN then some (satNat 16 (s.pauseLeft p))
  else if f.off = 0x144 then some (s.octetsRead p false).1
  else if f.off = 0x150 then some (s.octetsRead p true).1
  else none

/-- The ports of a lane group of which `q` holds, as a mask. -/
def groupMask (g : Nat) (q : Nat → Bool) : Nat := (List.range 8).foldl (fun a i => a + b2n (q (8 * g + i)) * 2 ^ i) 0

/-- The live fields of an engine page (R347, R351, R355). Log 4 (DESIGN CHOICE; safe). -/
def State.liveEng (s : State) (e i : Nat) (f : Fld) : Option Nat :=
  if f.off = 0x070 then some (s.outHdr e)
  else if f.off = 0x074 then some (s.outTag e)
  else if f.off = 0x078 then some (s.outData e)
  else if f.off = 0x080 then some (s.eng e).outq.length
  else if f = R.ENGE.TASK_STAT_HELD then some (b2n (s.taskHeld e i))
  else if f = R.ENGE.TASK_STAT_IN_WAITING then some (s.inbox e i).length
  else none

/-- The live fields of the gate page (R344). Log 4 (DESIGN CHOICE; safe). -/
def State.liveGate (s : State) (i : Nat) (f : Fld) : Option Nat :=
  if f = R.GATE.GATE_STAT_STATES then some (s.gateStates i s.now)
  else if f = R.GATE.GATE_STAT_ENTRY then some (s.gateEntry i s.now)
  else if f = R.GATE.GATE_STAT_FAIL_STATE then some (b2n (s.phase == .lastResort))
  else none

/-- The live fields of the Cave's page (R384, R388). -/
def State.liveCave (s : State) (f : Fld) : Option Nat :=
  let r := s.caveRead
  if f = R.CAVE.CAVE_STAT_AWAITING then some (satNat 4 (s.swapsIn (fun r => r.state == 1)))
  else if f = R.CAVE.CAVE_STAT_QUEUED then some (satNat 4 (s.swapsIn (fun r => r.state == 2 || r.state == 3)))
  else if f = R.CAVE.CAVE_SWAP_D0_NUMBER then some r.number
  else if f = R.CAVE.CAVE_SWAP_D0_STATE then some r.state
  else if f = R.CAVE.CAVE_SWAP_D0_KIND then some r.kind
  else if f = R.CAVE.CAVE_SWAP_D0_FORCED then some (b2n r.forced)
  else if f = R.CAVE.CAVE_SWAP_D0_PAGE then some r.page
  else if f = R.CAVE.CAVE_SWAP_D0_MONITOR then some r.monitor
  else if f = R.CAVE.CAVE_SWAP_D1_SLICE then some r.slice
  else if f = R.CAVE.CAVE_SWAP_D1_SPARE then some r.spare
  else if f = R.CAVE.CAVE_SWAP_T then some r.t
  else none

/-- The live fields of a TDC page: the table's entry, the arming of a channel that its block arms, and arming and gate idle,
both 1 until the first TCU cycle (R68, R72, R76, R77). Log 43 (DEDUCED; unsafe). -/
def State.liveTdc (s : State) (t c : Nat) (f : Fld) : Option Nat :=
  let first := !(s.tcu t).clk
  if f.off = 0x094 then some ((s.tdc t c).fine (s.rd (pageTdc t c) R.TDC.TDC_LUT_IDX))
  else if f = R.TDC.TDC_ARM_SRC ∧ ¬ isEvent c then some (b2n (s.tdcArmed t c))
  else if f = R.TDC.TDC_STAT_ARMED then some (b2n (first || s.tdcArmed t c))
  else if f = R.TDC.TDC_STAT_GATE_IDLE then some (b2n (first || s.gateIdle t c))
  else none

/-- The live fields of a block page; the element is `i`. Log 4 (DESIGN CHOICE; safe). -/
def State.liveBlock (s : State) (p : Nat) (b : Blk) (f : Fld) (i : Nat) : Option Nat :=
  let t := b2n (isTcuB p)
  let n := pageIndex p
  match b with
  | .hc => s.liveHc n i f
  | .tdc => s.liveTdc t n f
  | .ctl => if f = R.CTL.TCU_ALIGN_ERR then some (s.alignErr t) else none
  | .synth => if f = R.SYNTH.KL_OUT_MASK then some (s.klMask t) else none
  | .out =>
    if f = R.OUT.OUT_STAT_RUNNING then some (b2n (s.outRunning t n))
    else if f = R.OUT.OUT_STAT_QUIET_NOW then some (b2n (s.outStill t n))
    else if f = R.OUT.OUT_STAT_ALIGN ∧ s.outAligned p ∧ (s.alignChannel t n).isNone then some 1 else none
  | .port => s.livePort n f
  | .grp =>
    if f = R.GRP.G_STAT_PORT_EN then some (groupMask n (fun q => !s.isLane q && s.link q != lkDisabled))
    else if f = R.GRP.G_STAT_TRUNK_EN then some (groupMask n (fun q => s.isLane q)) else none
  | .cad =>
    if f.off = 0x048 then some (s.hoopOf (s.tcu t).now % 2 ^ 32)
    else if f.off = 0x070 then some (bits (s.cadErrVal t) f.lo f.w) else none
  | .gw => if 0x084 ≤ f.off ∧ f.off ≤ 0x094 then some (s.gwCntVal t ((f.off - 0x084) / 4)) else none
  | .pipe =>
    if f.off = 0x044 then some (satNat 13 (learns (look [] s.learnq n)))
    else if f.off = 0x10C then some (s.learnCount (24 * n + i)) else none
  | .mact | .lpm => if f.off = 0x078 then some (s.tblFill p) else none
  | .vat =>
    if f.off = 0x040 then some (s.freeCells false)
    else if f.off = 0x044 then some (s.freeCells true)
    else if f.off = 0x048 then some s.sharedSize.toNat
    else if f.off = 0x04C then some s.sharedUsed else none
  | .vb =>
    if f.off = 0x044 then some (s.bankFree n)
    else if f.off = 0x050 then (s.swaps.find? (fun e => e.2.kind == 0 && e.2.state == 3 && e.2.spare == n)).map (fun e => s.wordsCopied e.2.since)
    else none
  | .gate => s.liveGate i f
  | .sample => if f = R.SAMPLE.SMP_STAT_SWEEPING then some (b2n (s.core < s.smpUntil)) else none
  | .shape => if f = R.SHAPE.SHP_STAT_BUSY then some (b2n s.shapeBusy) else none
  | .enge => s.liveEng n i f
  | .eshared => if f.off = 0x044 then some s.shData else none
  | .perf => if f.off = 0x048 then some (s.perfOvf i) else none
  | .perfc => if f.off = 0x044 then some (((s.perfTake n).perf n).count % 2 ^ 32) else none
  | .caldir =>
    if f = R.CALDIR.CAL_STAT_DUE then some s.calDue
    else if f.off = 0x054 then some (s.imageWord (s.rd p R.CALDIR.CAL_IMG_ADDR)) else none
  | .cave => s.liveCave f
  | .lc => if f.off = 0x084 then some s.otpWord else none
  | _ => none

/-- The value that a read finds in a field: its live value or the one held, and 0 in a write-only field (R8).
Log 4 (DESIGN CHOICE; safe). -/
def State.fieldVal (s : State) (p : Nat) (b : Blk) (fi : Fld × Nat) : Nat :=
  if fi.1.acc = .wo then 0 else
  ((if fi.1.off < 0x040 then s.liveHeader p b fi.1 else s.liveBlock p b fi.1 fi.2).getD (s.rdI p fi.1 fi.2)) % 2 ^ fi.1.w

/-- The word that a read of some fields returns; bits of no field read 0 (R8). -/
def State.wordVal (s : State) (p : Nat) (b : Blk) (fs : List (Fld × Nat)) : Nat :=
  fs.foldl (fun a fi => a + s.fieldVal p b fi * 2 ^ fi.1.lo) 0

/-! ### What a read does -/

/-- What a read of a register does before its value is taken: read buffers are loaded (R79, R129, R341, R388).
Log 21 (DEDUCED; unsafe). -/
def State.preRead (s : State) (p : Nat) (b : Blk) (off : Nat) : State :=
  let t := b2n (isTcuB p)
  match b with
  | .tdc => if off = 0x070 then s.loadRes t (pageIndex p) else s
  | .ptp => if off = 0x0A0 then s.txtsLoad t (pageIndex p) else s
  | .sample => if off = 0x060 then s.smpLoad else s
  | .cave => if off = 0x050 then s.caveLatch else s
  | _ => s

/-- The fields that a read clears go to 0 (R78, R183, R255). -/
def State.clearRead (s : State) (p : Nat) (fs : List (Fld × Nat)) : State :=
  fs.foldl (fun a fi => if fi.1.clr then a.wrI p fi.1 fi.2 0 else a) s

/-- What a read of a register does once its value is taken (R79, R129, R183, R189, R235, R243, R255, R260, R285, R286, R341,
R355, R357, R363, R378). Log 21 (DEDUCED; unsafe). -/
def State.postRead (s : State) (p : Nat) (b : Blk) (off : Nat) : State :=
  let t := b2n (isTcuB p)
  let n := pageIndex p
  match b with
  | .hc => if off = 0x184 then (s.rxfRead n).2 else s
  | .tdc => if off = 0x080 then s.popRes t n else s
  | .ptp => if off = 0x0AC then s.txtsPop t n else s
  | .sample => if off = 0x06C then s.smpPop else s
  | .port =>
    if off = 0x070 then s.ebRead n
    else if off = 0x144 then (s.octetsRead n false).2
    else if off = 0x150 then (s.octetsRead n true).2
    else if off = 0x0A4 then s.bump else s
  | .cad =>
    if off = 0x070 then s.cadErrClear t
    else if 0x200 ≤ off ∧ off < 0x380 ∧ off % 0x20 = 0x1C then s.slackClear t ((off - 0x200) / 0x20) else s
  | .gw => if 0x084 ≤ off ∧ off ≤ 0x094 then s.gwCntClear t ((off - 0x084) / 4) else s
  | .mact | .lpm => if off = 0x074 then s.wr p R.TBL.TBL_PAR_CAPT_VALID 0 else s
  | .shadow => if off = 0x048 then s.wr p R.SHADOW.SHADOW_CAPT_VALID 0 else s
  | .enge => if off = 0x078 then s.outNextWord n else s
  | .eshared => if off = 0x044 then s.shNext else s
  | .perfc => if off = 0x044 then s.perfLatch n else s
  | .caldir => if off = 0x054 then s.imgNext else s
  | _ => s

/-- The context's accesses reach the device: it is out of reset, and the context is attached (R47, R400). -/
def State.canAccess (s : State) (ctx : Nat) : Bool := decide (ctx < 4) && s.phase != .reset && s.attached ctx

/-- The registers of the counters that may be hidden from a context (R367). -/
def perfSecret (b : Blk) (off : Nat) : Bool :=
  match b with
  | .perfc => off == 0x044 || off == 0x048 || off == 0x054
  | .su => decide (0x044 ≤ off)
  | _ => false

/-- A read of a mapped register that returns 0, with no effect and no error: the HC page of another context (R38), a domain
that is off (R25), a hidden counter (R367), or a window onto a memory that is being wiped (R403).
Log 20 (DEDUCED; unsafe). -/
def State.readsZero (s : State) (ctx p : Nat) (b : Blk) (off : Nat) : Bool :=
  (b == .hc && ctx != 0 && p != pageHC ctx) || (s.pageOff p && !heldHeader off) ||
  (perfSecret b off && s.perfHidden ctx p) || s.windowShut p off

/-- A read of the register window: its value, and the state after it. Log 3 (DEDUCED; unsafe). -/
def State.readVal (s : State) (ctx a size : Nat) : Nat × State :=
  let p := addrPage a
  let off := addrOff a
  let m := s.mapErrs a size
  if m ≠ 0 then (0, s.accErr (errPage ctx a) ctx off false m) else
  match pageBlk p with
  | none => (0, s)
  | some b =>
    if s.readsZero ctx p b off then (0, s) else
    let fs := s.addrFields a
    let s := s.preRead p b off
    (s.wordVal p b fs, (s.postRead p b off).clearRead p fs)

/-- E0 or E1, numbered 16 and 17 among those that access registers, reaches a register of its instance's page through the mailbox
crossing: to write, PTP_SERVO with SLAVE, the sample registers and the link delays; to read, the transmit records (R129, R133, R141,
R143, R147, R346). Log 99 (DEDUCED; unsafe). -/
def State.engineReaches (s : State) (src a : Nat) (write : Bool) : Bool :=
  let off := addrOff a
  let p := addrPage a
  (src == 16 || src == 17) && s.phase != .reset && s.isOn 5 && (p == pagePtp 0 (src - 16) || p == pagePtp 1 (src - 16)) && !s.pageOff p &&
  (if write then off == 0x04C || decide (0x060 ≤ off ∧ off ≤ 0x078) || decide (0x300 ≤ off ∧ off < 0x3C0) else decide (0x0A0 ≤ off ∧ off ≤ 0x0B0))

/-- A read by a context, or by E0 or E1, and the data it gets (R6). Log 21 (DEDUCED; unsafe). -/
def State.hostRead (s : State) (ctx a size : Nat) : State :=
  if ¬ s.canAccess ctx ∧ ¬ s.engineReaches ctx a false then s else
  let r := s.readVal ctx a size
  r.2.emit (.read ctx a r.1)

end Sys2Proof.Machine
end

