-- ==== Sys2Proof/Machine/HostIf.lean ====
section
/-! DEFINITION. Host writes and what each register's write brings about, the SPI and in-band ports, and the commands that are host accesses (R8, R38–R48, R58 and the register rules of every chapter). -/

namespace Sys2Proof.Machine

open Sys2Proof

/-! ### What a write of a register brings about; `old` is the state before it -/

/-- A field of a TCU page is written through to its twin (R39, R154, R160). Log 38 (DEDUCED; unsafe). -/
def State.toTwin (s : State) (p : Nat) (fs : List Fld) : State := fs.foldl (fun a f => a.copyFld p (twin p) f) s

/-- Fields of a TCU page that the mirror carries were written: every TCU that takes writes to mirrored tables has the new values, and
the page of one that does not keeps those of `old`, the state before the write (R154). Log 94 (DEDUCED; unsafe). -/
def State.toHolders (old : State) (p : Nat) (fs : List Fld) (s : State) : State :=
  let s := if s.takesTables (b2n (isTcuB (twin p))) then s.toTwin p fs else s
  if s.takesTables (b2n (isTcuB p)) then s else fs.foldl (fun a f => a.wr p f (old.rd p f)) s

/-- A value waiting in the shadow of a field is written through to the twin of the page, and waits only in the TCUs that take writes to
mirrored tables (R154). -/
def State.shadowToTwin (s : State) (p : Nat) (f : Fld) (i : Nat) : State :=
  match s.shadow.find? (fun e => e.1 == f.key p i) with
  | some e =>
    let m := if s.takesTables (b2n (isTcuB (twin p))) then insert (drop s.shadow (f.key (twin p) i)) (f.key (twin p) i) e.2 else s.shadow
    { s with shadow := if s.takesTables (b2n (isTcuB p)) then m else drop m (f.key p i) }
  | none => s

/-- Clears write-1-to-set bits whose action has been accepted (R8). -/
def State.accepted (s : State) (p : Nat) (fs : List Fld) : State := fs.foldl (fun a f => a.wr p f 0) s

/-- The context that loses a page keeps it for the commands that it has submitted and that have not started: those on its ring
and those that AFTER_PREV holds back (R39). -/
def State.pageTaken (s : State) (c p : Nat) : State :=
  let n := (s.rd (pageHC c) R.HC.CMD_PROD + 2 ^ 32 - s.rd (pageHC c) R.HC.CMD_CONS) % 2 ^ 32
  { s with
    grants := if n = 0 then s.grants else (c, p, n) :: s.grants
    cmds := s.cmds.map (fun k => if k.ctx = c ∧ ¬ k.started then { k with pages := p :: k.pages } else k) }

/-- OWNER or LOCKED was written: a page and its twin have one owner and one lock, and a change of owner is reported to the
page and to the previous owner (R38, R39). -/
def State.ownerWritten (old : State) (p : Nat) (s : State) : State :=
  let s := if twin p = p then s else s.toTwin p [R.HDR.HDR_OWNER_OWNER, R.HDR.HDR_OWNER_LOCKED]
  if s.owner p = old.owner p then s else
  let s := (s.raiseHdr p hOwner).pageTaken (old.owner p) p
  let s := if twin p = p then s else (s.raiseHdr (twin p) hOwner).pageTaken (old.owner p) (twin p)
  if s.attached (old.owner p) then s.bcastTo (old.owner p) bOwnerTaken else s

/-- A cause that stands for a condition is raised again while the condition lasts (R79, R129, R355).
Log 16 (DEDUCED; unsafe). -/
def State.causesWritten (s : State) (p : Nat) : State :=
  let t := b2n (isTcuB p)
  let n := pageIndex p
  match pageBlk p with
  | some .tdc => s.raiseIf (decide ((s.tdc t n).fifo ≠ [])) p 0
  | some .ptp => s.raiseIf (decide (look [] s.txts (2 * t + n) ≠ [])) p 0
  | some .enge => s.raiseIf (decide ((s.eng n).outq ≠ [])) p 0
  | _ => s

def State.hdrWritten (old : State) (p off v : Nat) (s : State) : State :=
  if off = 0x004 then old.ownerWritten p s
  else if off = 0x00C then s.causesWritten p
  else if off = 0x020 then old.shadowCtl p v s
  else s

def State.hcWritten (old : State) (c off v : Nat) (s : State) : State :=
  if off = 0x040 ∨ off = 0x06C then s.cplPump c
  else if off = 0x054 then old.prodWritten c R.HC.CMD_PROD R.HC.CMD_CONS (s.cmdSize c) s
  else if off = 0x11C then old.prodWritten c R.HC.TXR_PROD R.HC.TXR_CONS (s.txrSize c) s
  else if off = 0x13C then old.prodWritten c R.HC.RXR_PROD R.HC.RXR_CONS (s.rxrSize c) s
  else if off = 0x070 then (if bitAt v 0 then s.onHost c (fun h => { h with armed := true }) else s)
  else if off = 0x18C then s.txfWrite c v
  else s

/-- RATE_SRC was written, `old` being the state before: the active TCU's is mirrored; where it is 1 the host's word takes over, and where
it has become 0 the servo's, which is the held frequency while nothing is selected (R65, R109, R151). -/
def State.rateSrcWritten (old : State) (t : Nat) (s : State) : State :=
  if old.rd (pageTime t) R.TIME.RATE_CTL_RATE_SRC = s.rd (pageTime t) R.TIME.RATE_CTL_RATE_SRC then s
  else if s.tokenHeld ∧ s.lead = t then
    s.onFollowers (fun v a => (if v = t then a else a.copyFld (pageTime t) (pageTime v) R.TIME.RATE_CTL_RATE_SRC).driveRate v)
  else if s.follows t then s else s.driveRate t

/-- RATE_LIMIT was written: a rate word in force that lies beyond it is clamped (R66). -/
def State.rateLimitWritten (s : State) (t : Nat) : State :=
  let r := s.rate t
  if (r.natAbs : Int) ≤ s.rateLimit t then s
  else if s.tokenHeld ∧ s.lead = t then s.setRate r
  else if s.follows t then s else s.setRateOne t r

def State.timeWritten (old : State) (t off v : Nat) (s : State) : State :=
  if off = 0x040 then (if bitAt v 0 then (s.snap t).snapTrk t else s)
  else if off = 0x060 then old.rateSrcWritten t s
  else if off = 0x06C then s.rateLimitWritten t
  else s

def State.tdcWritten (old : State) (t c off v : Nat) (s : State) : State :=
  if off = 0x040 then (if old.alignsTdc t c then s else old.armWritten t c s)
  else if off = 0x044 then (if bitAt v 0 then (s.armInternal t c 0).wr (pageTdc t c) R.TDC.TDC_ARM_NOW_NOW 0 else s)
  else if off = 0x094 then s.lutWrite t c v
  else s

def State.refselWritten (old : State) (t off : Nat) (s : State) : State :=
  if off = 0x040 then s.reselect t
  else if off = 0x060 then old.synceWritten t s
  else if 0x100 ≤ off ∧ off < 0x300 then old.candWritten t ((off - 0x100) / 0x20) s
  else s

def State.ptpWritten (old : State) (t i off v : Nat) (s : State) : State :=
  if off = 0x040 then (s.ptpEnWritten t i).mirrorSel t
  else if off = 0x04C then
    (if old.rd (pagePtp t i) R.PTP.PTP_SERVO_RANK = s.rd (pagePtp t i) R.PTP.PTP_SERVO_RANK then s else s.reselect t)
  else if off = 0x058 then (old.trkMode t i s).mirrorSel t
  else if off = 0x05C then (if bitAt v 0 then (s.trkClear t i).mirrorSel t else s)
  else if off = 0x078 then (if bitAt v 0 then s.smpPush t i else s)
  else s

/-- `TCU_RED_CTL` was written: both TCUs' pages show it, and the revert timer starts afresh (R160). -/
def State.redWritten (s : State) (p : Nat) : State :=
  ({ s.toTwin p [R.CTL.TCU_RED_CTL_REVERT, R.CTL.TCU_RED_CTL_HOLD, R.CTL.TCU_RED_CTL_HOME] with reverting := false } : State).revertCheck

def State.cadWritten (old : State) (p off v : Nat) (s : State) : State :=
  if off = 0x040 then old.toHolders p [R.CAD.CAD_CTL_EN] s
  else if off = 0x044 then s.shadowToTwin p R.CAD.CAD_HOOP 0
  else if 0x080 ≤ off ∧ off < 0x0B0 then s.shadowToTwin p R.CAD.CAD_TX_OFS ((off - 0x080) / 4)
  else if 0x0C0 ≤ off ∧ off < 0x0F0 then s.shadowToTwin p R.CAD.CAD_PEER_OFS ((off - 0x0C0) / 4)
  else if off = 0x064 then
    let s := if bitAt v 0 then s.cadWrite p else s
    (if bitAt v 1 then s.cadRead p else s).accepted p [R.CAD.CAD_TBL_CMD_WRITE, R.CAD.CAD_TBL_CMD_READ]
  else s

def State.gwWritten (old : State) (p off v : Nat) (s : State) : State :=
  if off = 0x040 then old.toHolders p [R.GW.GW_CTL_EN, R.GW.GW_CTL_ETYPE] s
  else if off = 0x070 then
    let s := if bitAt v 0 then s.gwWrite p else s
    (if bitAt v 1 then s.gwRead p else s).accepted p [R.GW.GW_TPL_CMD_WRITE, R.GW.GW_TPL_CMD_READ]
  else s

/-- Log 15 (DESIGN CHOICE; unsafe). -/
def State.tblWritten (old : State) (p off v : Nat) (s : State) : State :=
  if off = 0x044 then
    let s := s.accepted p [R.TBL.TBL_CMD_READ, R.TBL.TBL_CMD_WRITE, R.TBL.TBL_CMD_LOOKUP, R.TBL.TBL_CMD_INSERT, R.TBL.TBL_CMD_DELETE,
      R.TBL.TBL_CMD_CLEAR_HIT]
    if [1, 2, 4, 8, 16, 32].contains (v % 64) then s.winStart p (Nat.log2 (v % 64)) else s
  else if off = 0x070 then s.raiseIf (old.seedRefused p) p 1
  else s.raiseIf (old.lenWriteRefused p off v) p 1

def State.vatWritten (off : Nat) (s : State) : State :=
  if off = 0x058 then s.each 48 (fun q a => a.pressOf q)
  else if 0x100 ≤ off ∧ off < 0x400 ∧ off % 0x10 = 0xC then s.pressOf ((off - 0x100) / 0x10)
  else s

def State.shapeWritten (off v : Nat) (s : State) : State :=
  if off = 0x058 then
    let s := if bitAt v 0 then s.shpWrite (bitAt v 2) else s
    (if bitAt v 1 then s.shpRead else s).accepted pageShape [R.SHAPE.SHP_CMD_WRITE, R.SHAPE.SHP_CMD_READ, R.SHAPE.SHP_CMD_AT_COMMIT]
  else s

def State.gateWritten (old : State) (off v : Nat) (s : State) : State :=
  if off = 0x04C then
    let s := if bitAt v 0 then s.gateWrite else s
    (if bitAt v 1 then s.gateRead else s).accepted pageGate [R.GATE.GATE_CMD_WRITE, R.GATE.GATE_CMD_READ]
  else if 0x100 ≤ off ∧ off < 0x700 ∧ off % 0x20 = 0 then
    let q := (off - 0x100) / 0x20
    ({ s with nodes := (old.accruePort q).nodes } : State).touchPort q
  else s

/-- The watch entry that `SMP_WATCH` shows, as a word (R345). -/
def State.watchWord (s : State) : Nat :=
  s.rd pageSample R.SAMPLE.SMP_WATCH_NUMBER + s.rd pageSample R.SAMPLE.SMP_WATCH_KIND * 2 ^ 20 + s.rd pageSample R.SAMPLE.SMP_WATCH_EN * 2 ^ 31

def State.sampleWritten (off : Nat) (s : State) : State :=
  let k := s.rd pageSample R.SAMPLE.SMP_WATCH_SEL
  if off = 0x048 then s.showRing
  else if off = 0x04C then
    let w := look 0 s.watch k
    ((s.wr pageSample R.SAMPLE.SMP_WATCH_NUMBER w).wr pageSample R.SAMPLE.SMP_WATCH_KIND (w / 2 ^ 20)).wr pageSample R.SAMPLE.SMP_WATCH_EN (w / 2 ^ 31)
  else if off = 0x050 then { s with watch := put 0 s.watch k s.watchWord }
  else s

/-- Log 15 (DESIGN CHOICE; unsafe). -/
def State.engWritten (ctx e off v : Nat) (s : State) : State :=
  if off = 0x05C then s.mbxStage e v
  else if off = 0x060 then
    let s := if bitAt v 0 then s.mbxPush ctx e else s
    (if bitAt v 1 then s.mbxClear e else s).accepted (pageEng e) [R.ENGE.MBX_PUSH_PUSH, R.ENGE.MBX_PUSH_CLEAR]
  else if off = 0x07C then (if bitAt v 0 then s.mbxPop e else s).accepted (pageEng e) [R.ENGE.MBX_OUT_POP_POP]
  else s

/-- What a write of word `v` to the register at `off` of a page brings about beyond its fields, once they have their
values; `old` is the state before the write. A window that is shut takes nothing (R403). -/
def State.regEffect (old : State) (ctx p off v : Nat) (s : State) : State :=
  let t := b2n (isTcuB p)
  let n := pageIndex p
  if old.windowShut p off then s
  else if off < 0x040 then old.hdrWritten p off v s
  else match pageBlk p with
  | some .hc => old.hcWritten n off v s
  | some .time => old.timeWritten t off v s
  | some .tdc => old.tdcWritten t n off v s
  | some .synth => if off = 0x040 then s.synCtlWritten t v else s
  | some .refsel => old.refselWritten t off s
  | some .ptp => old.ptpWritten t n off v s
  | some .ctl => if off = 0x040 then s.redWritten p else s
  | some .port =>
    if off = 0x054 then s.firWritten n
    else if off = 0x0A0 then old.patWritten n s
    else if 0x100 ≤ off ∧ off ≤ 0x108 then ({ s with nodes := (old.accruePort n).nodes } : State).touchPort n
    else if off = 0x0B0 ∧ bitAt v 0 ∧ ¬ old.flag p R.PORT.EYE_CTL_START then s.eyeStart n else s
  | some .nt => if [0x040, 0x050, 0x054, 0x05C, 0x064].contains off then s.estWritten n else s
  | some .cad => old.cadWritten p off v s
  | some .gw => old.gwWritten p off v s
  | some .mact | some .lpm => old.tblWritten p off v s
  | some .vat => s.vatWritten off
  | some .voq => if off = 0x040 then s.voqLatch else s
  | some .whey => if off = 0x040 then old.wheyWritten s else s
  | some .sched => if 0x060 ≤ off ∧ off < 0x080 then { s with nodes := old.accrueAll.nodes } else s
  | some .shape => s.shapeWritten off v
  | some .gate => old.gateWritten off v s
  | some .sample => s.sampleWritten off
  | some .enge => s.engWritten ctx n off v
  | some .eshared => if off = 0x044 then s.shWrite v else s
  | some .perf => if off = 0x040 then s.each 64 (fun m a => old.perfSwitched m a) else s
  | some .perfc => if off = 0x040 then old.perfSwitched n s else if off = 0x044 then s.perfSet n v else if off = 0x048 then s.perfStage n v else s
  | some .su => if off = 0x040 ∧ bitAt v 0 then (s.suSnap (Config.slotsUsed s.free)).bump else s
  | some .caldir => if off = 0x040 then s.calCtlWritten else if off = 0x04C then s.calCmd v else if off = 0x054 then s.imgWrite v else s
  | some .cave => old.caveWritten off s
  | some .boot => if off = 0x044 then s.pushStart v else if off = 0x048 then s.pushWord v else s
  | some .lc => if off = 0x088 ∧ bitAt v 0 then s.otpStart else s
  | _ => s

/-- A write by a context. E0 and E1 write registers of their instance's pages with the rights of the page's owner, and a write of theirs
that is in error does nothing (R147). Log 99 (DEDUCED; unsafe). -/
def State.hostWrite (s : State) (ctx a size v : Nat) : State :=
  let o := s.owner (addrPage a)
  if s.canAccess ctx then s.checkedWrite State.regEffect ctx a size v
  else if s.engineReaches ctx a true ∧ s.writeMask o a size v = 0 then s.checkedWrite State.regEffect o a size v else s

/-- The window offset of a register. -/
def regAddr (page off : Nat) : Nat := page * 0x1000 + off

/-- A 32-bit write of a register, and a 32-bit read. -/
def State.write (s : State) (ctx page off v : Nat) : State := s.hostWrite ctx (regAddr page off) 4 (v % 2 ^ 32)
def State.read (s : State) (ctx page off : Nat) : State := s.hostRead ctx (regAddr page off) 4

/-! ### Nothing commanded -/

/-- A cycle of the TCU clock goes by with no command waiting: the time counters advance, and commands held behind an earlier
one start when it has ended (R52, R60). Log 9 (DESIGN CHOICE; unsafe). Log 84 (DESIGN CHOICE; unsafe). -/
def State.tick (s : State) : State := (s.releaseHeld.advance 1).settle

/-! ### SPI (R44) -/

/-- The context bound to SPIA (0) or SPIB (1) (R42). -/
def State.spiCtx (s : State) (spi : Nat) : Option Nat := ((List.range 4).filter (fun c => s.kind c == kSpi))[spi]?

/-- The clocks of a whole SPI write frame and read frame (R44). -/
def spiWriteClocks : Nat := 64
def spiReadClocks : Nat := 96

/-- An SPI write frame of `clocks` clocks; one cut short has no effect (R44). -/
def execSpiWriteFrame (spi clocks addr data : Nat) (s : State) : Host.Outcome State Fault Refusal :=
  done (match s.spiCtx spi with
    | some c => if clocks < spiWriteClocks then s else s.hostWrite c (addr % 2 ^ 24) 4 (data % 2 ^ 32)
    | none => s)

/-- An SPI read frame: the data and a status byte whose bit 0 reports an access error (R44).
Log 79 (DEDUCED; unsafe). -/
def execSpiReadFrame (spi clocks addr : Nat) (s : State) : Host.Outcome State Fault Refusal :=
  done (match s.spiCtx spi with
    | some c =>
      let a := addr % 2 ^ 24
      if clocks < spiReadClocks ∨ ¬ s.canAccess c then s else (s.hostRead c a 4).emit (.spiStatus c (b2n (s.mapErrs a 4 != 0)))
    | none => s)

/-! ### The in-band port (R45) -/

/-- One operation of a request: its reply octets, and the state after it. Every field of several octets has its most significant octet first.
Log 79 (DEDUCED; unsafe). Log 122 (DESIGN CHOICE; unsafe). -/
def State.inbandOp (s : State) (l : List Byte) : List Byte × State :=
  let op := beAt l 0 1
  let a := beAt l 1 3
  let v := beAt l 4 4
  if op = 1 then
    let r := s.readVal 3 a 4
    (beOct 1 (if s.mapErrs a 4 = 0 then op else op + 0x80) ++ beOct 3 a ++ beOct 4 r.1, r.2)
  else if op = 2 then
    (beOct 1 (if s.writeMask 3 a 4 v = 0 then op else op + 0x80) ++ beOct 3 a ++ beOct 4 v, s.hostWrite 3 a 4 v)
  else (l, s)

/-- The operations of a request in order, `n` of them. -/
def State.inbandOps (s : State) (l : List Byte) : Nat → List Byte × State
  | 0 => ([], s)
  | n + 1 =>
    let r := s.inbandOp (l.take 8)
    let q := r.2.inbandOps (l.drop 8) n
    (r.1 ++ q.1, q.2)

/-- An in-band request frame's payload arrives from a port and a source address; nothing is done with one whose version or
count is unlisted, or that is too short (R45). Log 79 (DEDUCED; unsafe). -/
def State.inbandRequest (s : State) (port sa : Nat) (l : List Byte) : State :=
  if s.kind 3 ≠ kInband ∨ ¬ s.canAccess 3 then s else
  let want := s.rd pageInb R.INB.INB_SA_HI * 2 ^ 32 + s.rd pageInb R.INB.INB_SA_LO
  let seq := beAt l 1 2
  let n := beAt l 3 1
  if port ≠ s.rd pageInb R.INB.INB_PORT ∨ sa ≠ want then s.inc pageInb R.INB.INB_CNT_DROP
  else if beAt l 0 1 ≠ 1 ∨ n = 0 ∨ n > 64 ∨ l.length < 4 + 8 * n then s
  else
    match (s.host 3).inbLast with
    | some (q, reply) => if q = seq then s.inbandSend 3 reply else answer seq n
    | none => answer seq n
where
  /-- The request is executed, and its reply is stored and sent. -/
  answer (seq n : Nat) : State :=
    let r := s.inbandOps (l.drop 4) n
    let reply := l.take 4 ++ r.1
    (r.2.onHost 3 (fun h => { h with inbLast := some (seq, reply) })).inbandSend 3 reply

def execInbandRequest (port sa : Nat) (payload : List Byte) (s : State) : Host.Outcome State Fault Refusal :=
  done (s.inbandRequest port sa payload)

/-! ### Commands that are host accesses -/

def execRegisterWrite (ctx addr size data : Nat) (s : State) : Host.Outcome State Fault Refusal :=
  done (s.hostWrite ctx (addr % 2 ^ 24) size (data % 2 ^ 32))

/-- A read of a register; of a clear-on-read counter, its value is returned and cleared (R183). -/
def execCounterReadClear (ctx addr : Nat) (s : State) : Host.Outcome State Fault Refusal := done (s.hostRead ctx (addr % 2 ^ 24) 4)

/-- A read of any width at any address (R6, R34). -/
def execAccessErrorRead (ctx addr size : Nat) (s : State) : Host.Outcome State Fault Refusal := done (s.hostRead ctx (addr % 2 ^ 24) size)

def execStatOctetsLoRead (ctx port : Nat) (tx : Bool) (s : State) : Host.Outcome State Fault Refusal :=
  done (s.read ctx (pagePort (port % 48)) (if tx then 0x150 else 0x144))

def execHdrOwnerWrite (ctx page data : Nat) (s : State) : Host.Outcome State Fault Refusal := done (s.write ctx (page % 2 ^ 12) 0x004 data)
def execLocked (ctx page owner : Nat) (s : State) : Host.Outcome State Fault Refusal := done (s.write ctx (page % 2 ^ 12) 0x004 (0x100 + owner % 4))
def execArm (ctx page : Nat) (s : State) : Host.Outcome State Fault Refusal := done (s.write ctx (page % 2 ^ 12) 0x020 1)
def execCancel (ctx page : Nat) (s : State) : Host.Outcome State Fault Refusal := done (s.write ctx (page % 2 ^ 12) 0x020 2)

/-! Registers of a context's own page (R48, R58, R259, R260). -/

def execCtxCtlWrite (ctx data : Nat) (s : State) : Host.Outcome State Fault Refusal := done (s.write ctx (pageHC ctx) 0x040 data)
def execCmdProdWrite (ctx data : Nat) (s : State) : Host.Outcome State Fault Refusal := done (s.write ctx (pageHC ctx) 0x054 data)
def execCplConsWrite (ctx data : Nat) (s : State) : Host.Outcome State Fault Refusal := done (s.write ctx (pageHC ctx) 0x06C data)
def execIntRearm (ctx : Nat) (s : State) : Host.Outcome State Fault Refusal := done (s.write ctx (pageHC ctx) 0x070 1)
def execTxrProdWrite (ctx data : Nat) (s : State) : Host.Outcome State Fault Refusal := done (s.write ctx (pageHC ctx) 0x11C data)
def execRxrProdWrite (ctx data : Nat) (s : State) : Host.Outcome State Fault Refusal := done (s.write ctx (pageHC ctx) 0x13C data)
def execPktRxfDataRead (ctx : Nat) (s : State) : Host.Outcome State Fault Refusal := done (s.read ctx (pageHC ctx) 0x184)
def execPktTxfDataWrite (ctx data : Nat) (s : State) : Host.Outcome State Fault Refusal := done (s.write ctx (pageHC ctx) 0x18C data)

/-! Time, measurement and synthesis (R64, R76, R79, R85, R380). -/

def execTimeSnap (ctx t : Nat) (s : State) : Host.Outcome State Fault Refusal := done (s.write ctx (pageTime (t % 2)) 0x040 1)
def execTdcArmNow (ctx t c : Nat) (s : State) : Host.Outcome State Fault Refusal := done (s.write ctx (pageTdc (t % 2) (c % 24)) 0x044 1)
def execTdcRes0Read (ctx t c : Nat) (s : State) : Host.Outcome State Fault Refusal := done (s.read ctx (pageTdc (t % 2) (c % 24)) 0x070)
def execTdcRes4Read (ctx t c : Nat) (s : State) : Host.Outcome State Fault Refusal := done (s.read ctx (pageTdc (t % 2) (c % 24)) 0x080)
def execTdcLutDataWrite (ctx t c data : Nat) (s : State) : Host.Outcome State Fault Refusal :=
  done (s.write ctx (pageTdc (t % 2) (c % 24)) 0x094 data)
def execSynCtlWrite (ctx t data : Nat) (s : State) : Host.Outcome State Fault Refusal := done (s.write ctx (pageSynth (t % 2)) 0x040 data)

/-! Reference selection and network time (R95, R101, R103, R129, R140, R141). -/

/-- A write of parameter register `reg` of a slot: 0 `CAND_CFG` … 6 `CAND_DELAY` (R101). -/
def execCandCfgWrite (ctx t slot reg data : Nat) (s : State) : Host.Outcome State Fault Refusal :=
  done (s.write ctx (pageRefsel (t % 2)) (0x100 + 0x20 * (slot % 16) + 4 * (reg % 7)) data)
def execRefselSynceWrite (ctx t data : Nat) (s : State) : Host.Outcome State Fault Refusal := done (s.write ctx (pageRefsel (t % 2)) 0x060 data)
def execRefselCtlWrite (ctx t data : Nat) (s : State) : Host.Outcome State Fault Refusal := done (s.write ctx (pageRefsel (t % 2)) 0x040 data)
def execPtpTxts0Read (ctx t i : Nat) (s : State) : Host.Outcome State Fault Refusal := done (s.read ctx (pagePtp (t % 2) (i % 2)) 0x0A0)
def execPtpTxts3Read (ctx t i : Nat) (s : State) : Host.Outcome State Fault Refusal := done (s.read ctx (pagePtp (t % 2) (i % 2)) 0x0AC)
def execPtpTrkClear (ctx t i : Nat) (s : State) : Host.Outcome State Fault Refusal := done (s.write ctx (pagePtp (t % 2) (i % 2)) 0x05C 1)
def execPtpSmpPush (ctx t i : Nat) (s : State) : Host.Outcome State Fault Refusal := done (s.write ctx (pagePtp (t % 2) (i % 2)) 0x078 1)

/-! Redundancy, lanes, cadence and gateway (R160, R182, R230, R237). -/

def execTcuRedCtlWrite (ctx t data : Nat) (s : State) : Host.Outcome State Fault Refusal := done (s.write ctx (pageCtl (t % 2)) 0x040 data)

/-- A write of `EYE_CTL` with START at 1; `data` gives the other fields (R182). -/
def execEyeStart (ctx port data : Nat) (s : State) : Host.Outcome State Fault Refusal :=
  done (s.write ctx (pagePort (port % 48)) 0x0B0 (data / 2 * 2 + 1))

def execCadTblWrite (ctx t : Nat) (s : State) : Host.Outcome State Fault Refusal := done (s.write ctx (pageCad (t % 2)) 0x064 1)
def execCadTblRead (ctx t : Nat) (s : State) : Host.Outcome State Fault Refusal := done (s.write ctx (pageCad (t % 2)) 0x064 2)
def execGwTplWrite (ctx t : Nat) (s : State) : Host.Outcome State Fault Refusal := done (s.write ctx (pageGw (t % 2)) 0x070 1)
def execGwTplRead (ctx t : Nat) (s : State) : Host.Outcome State Fault Refusal := done (s.write ctx (pageGw (t % 2)) 0x070 2)

/-! The switch (R270, R278, R281, R288, R317, R329, R341, R343, R344). The table windows are numbered 0 MACT0, 1 MACT1,
2 LPM0, 3 LPM1. -/

/-- The page of a table window. -/
def pageWin (w : Nat) : Nat := 0x0C3 + w % 4

def execTblRead (ctx w : Nat) (s : State) : Host.Outcome State Fault Refusal := done (s.write ctx (pageWin w) 0x044 1)
def execTblWrite (ctx w : Nat) (s : State) : Host.Outcome State Fault Refusal := done (s.write ctx (pageWin w) 0x044 2)
def execTblLookup (ctx w : Nat) (s : State) : Host.Outcome State Fault Refusal := done (s.write ctx (pageWin w) 0x044 4)
def execTblInsert (ctx w : Nat) (s : State) : Host.Outcome State Fault Refusal := done (s.write ctx (pageWin w) 0x044 8)
def execTblDelete (ctx w : Nat) (s : State) : Host.Outcome State Fault Refusal := done (s.write ctx (pageWin w) 0x044 16)
def execClearHit (ctx w : Nat) (s : State) : Host.Outcome State Fault Refusal := done (s.write ctx (pageWin w) 0x044 32)
def execMactSeedWrite (ctx w data : Nat) (s : State) : Host.Outcome State Fault Refusal := done (s.write ctx (pageMact (w % 2)) 0x070 data)

/-- A write of the length register at offset `off` of an LPM page (R281). -/
def execLpmLenWrite (ctx w off data : Nat) (s : State) : Host.Outcome State Fault Refusal :=
  done (s.write ctx (pageLpm (w % 2)) (off % 0x1000) data)

def execVoqSelWrite (ctx data : Nat) (s : State) : Host.Outcome State Fault Refusal := done (s.write ctx pageVoq 0x040 data)
def execShpWrite (ctx : Nat) (atCommit : Bool) (s : State) : Host.Outcome State Fault Refusal :=
  done (s.write ctx pageShape 0x058 (1 + 4 * b2n atCommit))
def execShpRead (ctx : Nat) (s : State) : Host.Outcome State Fault Refusal := done (s.write ctx pageShape 0x058 2)
def execGateWrite (ctx : Nat) (s : State) : Host.Outcome State Fault Refusal := done (s.write ctx pageGate 0x04C 1)
def execGateRead (ctx : Nat) (s : State) : Host.Outcome State Fault Refusal := done (s.write ctx pageGate 0x04C 2)
def execSmpRd0Read (ctx : Nat) (s : State) : Host.Outcome State Fault Refusal := done (s.read ctx pageSample 0x060)
def execSmpRd3Read (ctx : Nat) (s : State) : Host.Outcome State Fault Refusal := done (s.read ctx pageSample 0x06C)

/-! Engines and counters (R355, R357, R360, R363, R366). -/

def execMbxPush (ctx e : Nat) (s : State) : Host.Outcome State Fault Refusal := done (s.write ctx (pageEng (e % 8)) 0x060 1)
def execMbxClear (ctx e : Nat) (s : State) : Host.Outcome State Fault Refusal := done (s.write ctx (pageEng (e % 8)) 0x060 2)
def execMbxDataWrite (ctx e data : Nat) (s : State) : Host.Outcome State Fault Refusal := done (s.write ctx (pageEng (e % 8)) 0x05C data)
def execMbxOutPop (ctx e : Nat) (s : State) : Host.Outcome State Fault Refusal := done (s.write ctx (pageEng (e % 8)) 0x07C 1)
def execMbxOutDataRead (ctx e : Nat) (s : State) : Host.Outcome State Fault Refusal := done (s.read ctx (pageEng (e % 8)) 0x078)
def execShDataAccess (ctx : Nat) (write : Bool) (data : Nat) (s : State) : Host.Outcome State Fault Refusal :=
  done (if write then s.write ctx pageEshared 0x044 data else s.read ctx pageEshared 0x044)
def execPcValLoRead (ctx n : Nat) (s : State) : Host.Outcome State Fault Refusal := done (s.read ctx (pagePerf (n % 64)) 0x044)
def execPcValLoWrite (ctx n data : Nat) (s : State) : Host.Outcome State Fault Refusal := done (s.write ctx (pagePerf (n % 64)) 0x044 data)
def execPerfRunWrite (ctx data : Nat) (s : State) : Host.Outcome State Fault Refusal := done (s.write ctx pagePerfCtl 0x040 data)
def execSuSnap (ctx : Nat) (s : State) : Host.Outcome State Fault Refusal := done (s.write ctx pageSu 0x040 1)

/-! Calibration, boot and OTP (R378, R380, R409, R415). -/

def execCalCapture (ctx : Nat) (s : State) : Host.Outcome State Fault Refusal := done (s.write ctx pageCaldir 0x04C 1)
def execCalApply (ctx : Nat) (s : State) : Host.Outcome State Fault Refusal := done (s.write ctx pageCaldir 0x04C 2)
def execCalImgDataAccess (ctx : Nat) (write : Bool) (data : Nat) (s : State) : Host.Outcome State Fault Refusal :=
  done (if write then s.write ctx pageCaldir 0x054 data else s.read ctx pageCaldir 0x054)
def execBootPushLenWrite (ctx data : Nat) (s : State) : Host.Outcome State Fault Refusal := done (s.write ctx pageBoot 0x044 data)
def execBootPushDataWrite (ctx data : Nat) (s : State) : Host.Outcome State Fault Refusal := done (s.write ctx pageBoot 0x048 data)
def execOtpProg (ctx : Nat) (s : State) : Host.Outcome State Fault Refusal := done (s.write ctx pageLc 0x088 1)

end Sys2Proof.Machine
end

