-- ==== Sys2Proof/Machine/Dispatch.lean ====
section
/-! DEFINITION. One arm per command: a direct call of its meaning. -/

namespace Sys2Proof.Machine

open Sys2Proof

/-- Log 8 (DEDUCED; unsafe). -/
def exec (i : Instr) (s : State) : Host.Outcome State Fault Refusal :=
  match i with
  | .registerWrite ctx addr size data => Sys2Proof.Machine.execRegisterWrite ctx addr size data s
  | .counterReadClear ctx addr => Sys2Proof.Machine.execCounterReadClear ctx addr s
  | .statOctetsLoRead ctx port tx => Sys2Proof.Machine.execStatOctetsLoRead ctx port tx s
  | .hdrOwnerWrite ctx page data => Sys2Proof.Machine.execHdrOwnerWrite ctx page data s
  | .locked ctx page owner => Sys2Proof.Machine.execLocked ctx page owner s
  | .arm ctx page => Sys2Proof.Machine.execArm ctx page s
  | .cancel ctx page => Sys2Proof.Machine.execCancel ctx page s
  | .commitBoundary page => Sys2Proof.Machine.execCommitBoundary page s
  | .ctxCtlWrite ctx data => Sys2Proof.Machine.execCtxCtlWrite ctx data s
  | .cmdProdWrite ctx data => Sys2Proof.Machine.execCmdProdWrite ctx data s
  | .descriptorFetch hc words => Sys2Proof.Machine.execDescriptorFetch hc words s
  | .cplConsWrite ctx data => Sys2Proof.Machine.execCplConsWrite ctx data s
  | .intRearm ctx => Sys2Proof.Machine.execIntRearm ctx s
  | .intHoldoffExpiry hc => Sys2Proof.Machine.execIntHoldoffExpiry hc s
  | .pcieLinkDown pf => Sys2Proof.Machine.execPcieLinkDown pf s
  | .pcieLinkUp pf => Sys2Proof.Machine.execPcieLinkUp pf s
  | .spiWriteFrame spi clocks addr data => Sys2Proof.Machine.execSpiWriteFrame spi clocks addr data s
  | .spiReadFrame spi clocks addr => Sys2Proof.Machine.execSpiReadFrame spi clocks addr s
  | .inbandRequest port sa payload => Sys2Proof.Machine.execInbandRequest port sa payload s
  | .nop q => Sys2Proof.Machine.execNop q s
  | .cmdAbort q => Sys2Proof.Machine.execCmdAbort q s
  | .cmdQuery q => Sys2Proof.Machine.execCmdQuery q s
  | .domainOn q => Sys2Proof.Machine.execDomainOn q s
  | .domainWipeDone d => Sys2Proof.Machine.execDomainWipeDone d s
  | .domainOff q => Sys2Proof.Machine.execDomainOff q s
  | .domainIsolated d => Sys2Proof.Machine.execDomainIsolated d s
  | .deviceReset q => Sys2Proof.Machine.execDeviceReset q s
  | .lifecycleAdvance q => Sys2Proof.Machine.execLifecycleAdvance q s
  | .portEnable q => Sys2Proof.Machine.execPortEnable q s
  | .portDisable q => Sys2Proof.Machine.execPortDisable q s
  | .drainLimitExpiry op obj => Sys2Proof.Machine.execDrainLimitExpiry op obj s
  | .drainComplete op obj => Sys2Proof.Machine.execDrainComplete op obj s
  | .trunkEnable q => Sys2Proof.Machine.execTrunkEnable q s
  | .trunkDisable q => Sys2Proof.Machine.execTrunkDisable q s
  | .queueDisable q => Sys2Proof.Machine.execQueueDisable q s
  | .queueEnable q => Sys2Proof.Machine.execQueueEnable q s
  | .tableWriteCritical q => Sys2Proof.Machine.execTableWriteCritical q s
  | .tableFence q => Sys2Proof.Machine.execTableFence q s
  | .tableFlush q => Sys2Proof.Machine.execTableFlush q s
  | .wheyAudit q => Sys2Proof.Machine.execWheyAudit q s
  | .gateListInstall q => Sys2Proof.Machine.execGateListInstall q s
  | .gateListSwap p => Sys2Proof.Machine.execGateListSwap p s
  | .taskLoad q => Sys2Proof.Machine.execTaskLoad q s
  | .imageVerified e image signed => Sys2Proof.Machine.execImageVerified e image signed s
  | .taskStart q => Sys2Proof.Machine.execTaskStart q s
  | .taskStop q => Sys2Proof.Machine.execTaskStop q s
  | .taskDrainEnd e t limit => Sys2Proof.Machine.execTaskDrainEnd e t limit s
  | .tcuFwStage q => Sys2Proof.Machine.execTcuFwStage q s
  | .tcuFwVerified signed version fmt => Sys2Proof.Machine.execTcuFwVerified signed version fmt s
  | .tcuSwitchover q => Sys2Proof.Machine.execTcuSwitchover q s
  | .timeStep q => Sys2Proof.Machine.execTimeStep q s
  | .timeDomainSelect q => Sys2Proof.Machine.execTimeDomainSelect q s
  | .calRun q => Sys2Proof.Machine.execCalRun q s
  | .spareApprove q => Sys2Proof.Machine.execSpareApprove q s
  | .timeSnap ctx t => Sys2Proof.Machine.execTimeSnap ctx t s
  | .slewDone t => Sys2Proof.Machine.execSlewDone t s
  | .servoUpdate t x => Sys2Proof.Machine.execServoUpdate t x s
  | .tdcCapture t c raw rising marker => Sys2Proof.Machine.execTdcCapture t c raw rising marker s
  | .tdcArmNow ctx t c => Sys2Proof.Machine.execTdcArmNow ctx t c s
  | .gateInputEdge n level => Sys2Proof.Machine.execGateInputEdge n level s
  | .tdcArmAtReached t c => Sys2Proof.Machine.execTdcArmAtReached t c s
  | .tdcWindowExpiry t c => Sys2Proof.Machine.execTdcWindowExpiry t c s
  | .tdcRes0Read ctx t c => Sys2Proof.Machine.execTdcRes0Read ctx t c s
  | .tdcRes4Read ctx t c => Sys2Proof.Machine.execTdcRes4Read ctx t c s
  | .lineLockLost t c line => Sys2Proof.Machine.execLineLockLost t c line s
  | .tdcCalStart t => Sys2Proof.Machine.execTdcCalStart t s
  | .calDeferTimeout t c => Sys2Proof.Machine.execCalDeferTimeout t c s
  | .tdcCalEnd t c hist lines res => Sys2Proof.Machine.execTdcCalEnd t c hist lines res s
  | .tdcCalInstall t c => Sys2Proof.Machine.execTdcCalInstall t c s
  | .synCtlWrite ctx t data => Sys2Proof.Machine.execSynCtlWrite ctx t data s
  | .pllCalStart t => Sys2Proof.Machine.execPllCalStart t s
  | .pllCalEnd t locked band vtune => Sys2Proof.Machine.execPllCalEnd t locked band vtune s
  | .refmulLocked t => Sys2Proof.Machine.execRefmulLocked t s
  | .bandFound t band vtune => Sys2Proof.Machine.execBandFound t band vtune s
  | .synLocked t => Sys2Proof.Machine.execSynLocked t s
  | .tcuReady t hists res => Sys2Proof.Machine.execTcuReady t hists res s
  | .syncInEdge rising => Sys2Proof.Machine.execSyncInEdge rising s
  | .syncRestart t => Sys2Proof.Machine.execSyncRestart t s
  | .candSecondEval t ms => Sys2Proof.Machine.execCandSecondEval t ms s
  | .candLoss t k => Sys2Proof.Machine.execCandLoss t k s
  | .candSoakComplete t k => Sys2Proof.Machine.execCandSoakComplete t k s
  | .candWtrComplete t k => Sys2Proof.Machine.execCandWtrComplete t k s
  | .candCfgWrite ctx t slot reg data => Sys2Proof.Machine.execCandCfgWrite ctx t slot reg data s
  | .refselSynceWrite ctx t data => Sys2Proof.Machine.execRefselSynceWrite ctx t data s
  | .refselCtlWrite ctx t data => Sys2Proof.Machine.execRefselCtlWrite ctx t data s
  | .disagreementDetected t a b => Sys2Proof.Machine.execDisagreementDetected t a b s
  | .lockDeclared t => Sys2Proof.Machine.execLockDeclared t s
  | .holdoverSecond t => Sys2Proof.Machine.execHoldoverSecond t s
  | .outAlignAverageDone t n => Sys2Proof.Machine.execOutAlignAverageDone t n s
  | .outAlignEdge t n at_ => Sys2Proof.Machine.execOutAlignEdge t n at_ s
  | .outAlignTimeout t n => Sys2Proof.Machine.execOutAlignTimeout t n s
  | .ptpMessageRx f => Sys2Proof.Machine.execPtpMessageRx f s
  | .fuEntryExpiry port => Sys2Proof.Machine.execFuEntryExpiry port s
  | .ptpEventTx port tpcs => Sys2Proof.Machine.execPtpEventTx port tpcs s
  | .ptpTxts0Read ctx t j => Sys2Proof.Machine.execPtpTxts0Read ctx t j s
  | .ptpTxts3Read ctx t j => Sys2Proof.Machine.execPtpTxts3Read ctx t j s
  | .ptpTrkClear ctx t j => Sys2Proof.Machine.execPtpTrkClear ctx t j s
  | .ptpSmpPush ctx t j => Sys2Proof.Machine.execPtpSmpPush ctx t j s
  | .resyncComplete t align => Sys2Proof.Machine.execResyncComplete t align s
  | .resyncTimeout t => Sys2Proof.Machine.execResyncTimeout t s
  | .failedRetryExpiry t => Sys2Proof.Machine.execFailedRetryExpiry t s
  | .failCauseGone t => Sys2Proof.Machine.execFailCauseGone t s
  | .firstTokenGrant tenMs => Sys2Proof.Machine.execFirstTokenGrant tenMs s
  | .activeFailure code => Sys2Proof.Machine.execActiveFailure code s
  | .tcuRedCtlWrite ctx t data => Sys2Proof.Machine.execTcuRedCtlWrite ctx t data s
  | .timeJudgement ms => Sys2Proof.Machine.execTimeJudgement ms s
  | .anResolved p lp => Sys2Proof.Machine.execAnResolved p lp s
  | .clause37LinkTimer p => Sys2Proof.Machine.execClause37LinkTimer p s
  | .trainingRequest p kind pre main post => Sys2Proof.Machine.execTrainingRequest p kind pre main post s
  | .trainingComplete p => Sys2Proof.Machine.execTrainingComplete p s
  | .maxWaitExpiry p => Sys2Proof.Machine.execMaxWaitExpiry p s
  | .backoffExpiry p => Sys2Proof.Machine.execBackoffExpiry p s
  | .trainingFrameLock p => Sys2Proof.Machine.execTrainingFrameLock p s
  | .losDeclared p seen => Sys2Proof.Machine.execLosDeclared p seen s
  | .losCleared p => Sys2Proof.Machine.execLosCleared p s
  | .quietExpiry p => Sys2Proof.Machine.execQuietExpiry p s
  | .signalStable p => Sys2Proof.Machine.execSignalStable p s
  | .blockLockGained p => Sys2Proof.Machine.execBlockLockGained p s
  | .blockLockLost p long sh => Sys2Proof.Machine.execBlockLockLost p long sh s
  | .hiBerSet p sh => Sys2Proof.Machine.execHiBerSet p sh s
  | .eyeStart ctx port data => Sys2Proof.Machine.execEyeStart ctx port data s
  | .eyeDone p errs => Sys2Proof.Machine.execEyeDone p errs s
  | .lpiEnter p rx => Sys2Proof.Machine.execLpiEnter p rx s
  | .lpiWake p rx => Sys2Proof.Machine.execLpiWake p rx s
  | .trunkTrainingComplete n => Sys2Proof.Machine.execTrunkTrainingComplete n s
  | .trunkMaxWaitExpiry n => Sys2Proof.Machine.execTrunkMaxWaitExpiry n s
  | .trunkBackoffExpiry n => Sys2Proof.Machine.execTrunkBackoffExpiry n s
  | .trunkFrameLock n => Sys2Proof.Machine.execTrunkFrameLock n s
  | .trunkQuietExpiry n => Sys2Proof.Machine.execTrunkQuietExpiry n s
  | .trunkSignalStable n => Sys2Proof.Machine.execTrunkSignalStable n s
  | .trunkAligned n skew => Sys2Proof.Machine.execTrunkAligned n skew s
  | .trunkAligningTimeout n => Sys2Proof.Machine.execTrunkAligningTimeout n s
  | .helloRx n lane kind p => Sys2Proof.Machine.execHelloRx n lane kind p s
  | .helloTimeout n => Sys2Proof.Machine.execHelloTimeout n s
  | .clause73PagesRx n => Sys2Proof.Machine.execClause73PagesRx n s
  | .markerSend n => Sys2Proof.Machine.execMarkerSend n s
  | .helloSend n lane => Sys2Proof.Machine.execHelloSend n lane s
  | .timeBlockSend n => Sys2Proof.Machine.execTimeBlockSend n s
  | .markerBlockRx n lane kind p tpcs => Sys2Proof.Machine.execMarkerBlockRx n lane kind p tpcs s
  | .echoSend n => Sys2Proof.Machine.execEchoSend n s
  | .echoRx n kind p => Sys2Proof.Machine.execEchoRx n kind p s
  | .epochMarkerCapture t n raw marker m => Sys2Proof.Machine.execEpochMarkerCapture t n raw marker m s
  | .timeBlockRx n kind p => Sys2Proof.Machine.execTimeBlockRx n kind p s
  | .markerLoss n => Sys2Proof.Machine.execMarkerLoss n s
  | .timeBlockLoss n => Sys2Proof.Machine.execTimeBlockLoss n s
  | .recentre n lane => Sys2Proof.Machine.execRecentre n lane s
  | .cadenceBlockRx n lane kind p count tpcs => Sys2Proof.Machine.execCadenceBlockRx n lane kind p count tpcs s
  | .cadenceSlotSend n k m ga gb eq => Sys2Proof.Machine.execCadenceSlotSend n k m ga gb eq s
  | .cadTblWrite ctx t => Sys2Proof.Machine.execCadTblWrite ctx t s
  | .cadTblRead ctx t => Sys2Proof.Machine.execCadTblRead ctx t s
  | .gwTplWrite ctx t => Sys2Proof.Machine.execGwTplWrite ctx t s
  | .gwTplRead ctx t => Sys2Proof.Machine.execGwTplRead ctx t s
  | .gwOutboundRelease k m badA badB differ => Sys2Proof.Machine.execGwOutboundRelease k m badA badB differ s
  | .gwFrameRx f err cut tpcs => Sys2Proof.Machine.execGwFrameRx f err cut tpcs s
  | .gwWindowClose k m => Sys2Proof.Machine.execGwWindowClose k m s
  | .frameRxStart p f l tpcs start4 d => Sys2Proof.Machine.execFrameRxStart p f l tpcs start4 d s
  | .cellArrival f l => Sys2Proof.Machine.execCellArrival f l s
  | .frameRxEnd f errs cut => Sys2Proof.Machine.execFrameRxEnd f errs cut s
  | .lookup f d => Sys2Proof.Machine.execLookup f d s
  | .learnCopyArrival w => Sys2Proof.Machine.execLearnCopyArrival w s
  | .learnCommit w => Sys2Proof.Machine.execLearnCommit w s
  | .tblRead ctx w => Sys2Proof.Machine.execTblRead ctx w s
  | .tblWrite ctx w => Sys2Proof.Machine.execTblWrite ctx w s
  | .tblLookup ctx w => Sys2Proof.Machine.execTblLookup ctx w s
  | .tblInsert ctx w => Sys2Proof.Machine.execTblInsert ctx w s
  | .tblDelete ctx w => Sys2Proof.Machine.execTblDelete ctx w s
  | .clearHit ctx w => Sys2Proof.Machine.execClearHit ctx w s
  | .tblOpComplete page parity => Sys2Proof.Machine.execTblOpComplete page parity s
  | .mactSeedWrite ctx w data => Sys2Proof.Machine.execMactSeedWrite ctx w data s
  | .lpmLenWrite ctx w off data => Sys2Proof.Machine.execLpmLenWrite ctx w off data s
  | .shadowCompare tbl sh => Sys2Proof.Machine.execShadowCompare tbl sh s
  | .copyDepart p corr bad link => Sys2Proof.Machine.execCopyDepart p corr bad link s
  | .vatBankSwap src => Sys2Proof.Machine.execVatBankSwap src s
  | .voqSelWrite ctx data => Sys2Proof.Machine.execVoqSelWrite ctx data s
  | .schedulerDecision p lost => Sys2Proof.Machine.execSchedulerDecision p lost s
  | .frameTxEnd p => Sys2Proof.Machine.execFrameTxEnd p s
  | .shpWrite ctx atCommit => Sys2Proof.Machine.execShpWrite ctx atCommit s
  | .shpRead ctx => Sys2Proof.Machine.execShpRead ctx s
  | .gateChange p => Sys2Proof.Machine.execGateChange p s
  | .gateWrite ctx => Sys2Proof.Machine.execGateWrite ctx s
  | .gateRead ctx => Sys2Proof.Machine.execGateRead ctx s
  | .smpRd0Read ctx => Sys2Proof.Machine.execSmpRd0Read ctx s
  | .smpRd3Read ctx => Sys2Proof.Machine.execSmpRd3Read ctx s
  | .pauseRx p quanta => Sys2Proof.Machine.execPauseRx p quanta s
  | .pauseTimerExpiry p => Sys2Proof.Machine.execPauseTimerExpiry p s
  | .pauseRefresh p => Sys2Proof.Machine.execPauseRefresh p s
  | .txrProdWrite ctx data => Sys2Proof.Machine.execTxrProdWrite ctx data s
  | .hostTxFrame src ds l f => Sys2Proof.Machine.execHostTxFrame src ds l f s
  | .rxrProdWrite ctx data => Sys2Proof.Machine.execRxrProdWrite ctx data s
  | .hostRxDelivery c corr bad => Sys2Proof.Machine.execHostRxDelivery c corr bad s
  | .pktRxfDataRead ctx => Sys2Proof.Machine.execPktRxfDataRead ctx s
  | .pktTxfDataWrite ctx data => Sys2Proof.Machine.execPktTxfDataWrite ctx data s
  | .inbandPacketRx port sa l => Sys2Proof.Machine.execInbandPacketRx port sa l s
  | .dispatch e => Sys2Proof.Machine.execDispatch e s
  | .taskSliceEnd e taken sent => Sys2Proof.Machine.execTaskSliceEnd e taken sent s
  | .taskYield e taken sent => Sys2Proof.Machine.execTaskYield e taken sent s
  | .taskWait e timer sent => Sys2Proof.Machine.execTaskWait e timer sent s
  | .taskTimerExpiry e t => Sys2Proof.Machine.execTaskTimerExpiry e t s
  | .taskFault e code => Sys2Proof.Machine.execTaskFault e code s
  | .mailboxMessageArrival e t src m => Sys2Proof.Machine.execMailboxMessageArrival e t src m s
  | .mbxPush ctx e => Sys2Proof.Machine.execMbxPush ctx e s
  | .mbxClear ctx e => Sys2Proof.Machine.execMbxClear ctx e s
  | .mbxDataWrite ctx e data => Sys2Proof.Machine.execMbxDataWrite ctx e data s
  | .mbxOutPop ctx e => Sys2Proof.Machine.execMbxOutPop ctx e s
  | .mbxOutDataRead ctx e => Sys2Proof.Machine.execMbxOutDataRead ctx e s
  | .shDataAccess ctx write data => Sys2Proof.Machine.execShDataAccess ctx write data s
  | .engineSwap e => Sys2Proof.Machine.execEngineSwap e s
  | .engineSelfTestEnd e passed => Sys2Proof.Machine.execEngineSelfTestEnd e passed s
  | .perfCounterOverflow n inc addr task => Sys2Proof.Machine.execPerfCounterOverflow n inc addr task s
  | .pcValLoRead ctx n => Sys2Proof.Machine.execPcValLoRead ctx n s
  | .pcValLoWrite ctx n data => Sys2Proof.Machine.execPcValLoWrite ctx n data s
  | .perfRunWrite ctx data => Sys2Proof.Machine.execPerfRunWrite ctx data s
  | .suSnap ctx => Sys2Proof.Machine.execSuSnap ctx s
  | .laneCalStart p => Sys2Proof.Machine.execLaneCalStart p s
  | .laneCalEnd p ok rx tx => Sys2Proof.Machine.execLaneCalEnd p ok rx tx s
  | .slicerSwap p => Sys2Proof.Machine.execSlicerSwap p s
  | .calCapture ctx => Sys2Proof.Machine.execCalCapture ctx s
  | .calApply ctx => Sys2Proof.Machine.execCalApply ctx s
  | .calImgDataAccess ctx write data => Sys2Proof.Machine.execCalImgDataAccess ctx write data s
  | .tdcLutDataWrite ctx t c data => Sys2Proof.Machine.execTdcLutDataWrite ctx t c data s
  | .wearUpdate page slice monitor v => Sys2Proof.Machine.execWearUpdate page slice monitor v s
  | .spareSwap j table => Sys2Proof.Machine.execSpareSwap j table s
  | .supplyWarn j => Sys2Proof.Machine.execSupplyWarn j s
  | .supplyBelowClear j => Sys2Proof.Machine.execSupplyBelowClear j s
  | .supplySag j => Sys2Proof.Machine.execSupplySag j s
  | .resetRelease hcMap oscNom leadSel bootSrc => Sys2Proof.Machine.execResetRelease hcMap oscNom leadSel bootSrc s
  | .sensorConversion ts mv => Sys2Proof.Machine.execSensorConversion ts mv s
  | .bootSectionLoaded flash silent signed version fmt => Sys2Proof.Machine.execBootSectionLoaded flash silent signed version fmt s
  | .bootPushLenWrite ctx data => Sys2Proof.Machine.execBootPushLenWrite ctx data s
  | .bootPushDataWrite ctx data => Sys2Proof.Machine.execBootPushDataWrite ctx data s
  | .otpProg ctx => Sys2Proof.Machine.execOtpProg ctx s
  | .otpDone bits_ => Sys2Proof.Machine.execOtpDone bits_ s
  | .jtagInstruction j pins => Sys2Proof.Machine.execJtagInstruction j pins s
  | .standbyTcuFailure t code => Sys2Proof.Machine.execStandbyTcuFailure t code s
  | .standbyReadyAfterAbandon t => Sys2Proof.Machine.execStandbyReadyAfterAbandon t s
  | .mirrorCheckWordsResumed t => Sys2Proof.Machine.execMirrorCheckWordsResumed t s
  | .lanePllLost p locked => Sys2Proof.Machine.execLanePllLost p locked s
  | .blockWedged page => Sys2Proof.Machine.execBlockWedged page s
  | .outputPulseInstant t n => Sys2Proof.Machine.execOutputPulseInstant t n s
  | .clause37Complete p pause asm => Sys2Proof.Machine.execClause37Complete p pause asm s
  | .msixEnable pf => Sys2Proof.Machine.execMsixEnable pf s
  | .accessErrorRead ctx addr size => Sys2Proof.Machine.execAccessErrorRead ctx addr size s
  | .pePerstAssert => Sys2Proof.Machine.execPePerstAssert s
  | .pePerstRelease => Sys2Proof.Machine.execPePerstRelease s
  | .deviceResetDelayExpiry => Sys2Proof.Machine.execDeviceResetDelayExpiry s
  | .lifecycleHoldExpiry => Sys2Proof.Machine.execLifecycleHoldExpiry s
  | .lifecycleOtpDone => Sys2Proof.Machine.execLifecycleOtpDone s
  | .fenceComplete => Sys2Proof.Machine.execFenceComplete s
  | .oscQualify => Sys2Proof.Machine.execOscQualify s
  | .oscWaitTimeout => Sys2Proof.Machine.execOscWaitTimeout s
  | .oscDisqualify => Sys2Proof.Machine.execOscDisqualify s
  | .lastResortExit => Sys2Proof.Machine.execLastResortExit s
  | .stepApply => Sys2Proof.Machine.execStepApply s
  | .switchEpoch => Sys2Proof.Machine.execSwitchEpoch s
  | .lockstepLost => Sys2Proof.Machine.execLockstepLost s
  | .revertHoldoffExpiry => Sys2Proof.Machine.execRevertHoldoffExpiry s
  | .dualClaim => Sys2Proof.Machine.execDualClaim s
  | .timeDisagree => Sys2Proof.Machine.execTimeDisagree s
  | .hoopBoundary => Sys2Proof.Machine.execHoopBoundary s
  | .wheyPeriodicStart => Sys2Proof.Machine.execWheyPeriodicStart s
  | .wheyWalkEnd => Sys2Proof.Machine.execWheyWalkEnd s
  | .sampleSweep => Sys2Proof.Machine.execSampleSweep s
  | .captureDone => Sys2Proof.Machine.execCaptureDone s
  | .applyDone => Sys2Proof.Machine.execApplyDone s
  | .powerOnReset => Sys2Proof.Machine.execPowerOnReset s
  | .porst => Sys2Proof.Machine.execPorst s
  | .wipeComplete => Sys2Proof.Machine.execWipeComplete s
  | .bgDwellExpiry => Sys2Proof.Machine.execBgDwellExpiry s
  | .thermalRelease => Sys2Proof.Machine.execThermalRelease s
  | .deviceReady => Sys2Proof.Machine.execDeviceReady s

end Sys2Proof.Machine
end

