-- ==== Sys2Proof/Machine/Step.lean ====
section
/-! DEFINITION. One step: the command at the front of the queue, or, with none waiting, one cycle of the TCU clock. -/

namespace Sys2Proof.Machine

open Sys2Proof

/-- One step. On an empty queue the block runs on by one cycle, 1 ns of network time (R60), and commands held behind an
earlier one start when it has ended (R52). Log 9 (DESIGN CHOICE; unsafe). Log 83 (DESIGN CHOICE; unsafe). -/
def step (s : State) : Host.Outcome State Fault Refusal :=
  match s.pending with
  | [] => .next s.tick
  | c :: q => exec c { s with pending := q }

/-- `s` with the command that a word spells put at the front of its queue; `s` where it spells none, which is every word.
Log 13 (DESIGN CHOICE; safe). -/
def State.withFetchWord (s : State) (nbits w : Nat) : State :=
  match decodeTableWord nbits w with
  | some c => { s with pending := c :: s.pending }
  | none => s

end Sys2Proof.Machine
end

