-- ==== Sys2Proof/WellFormed.lean ====
section
/-! DEFINITION. Well-formed commands: each operand that names a thing of the device, or holds a word of a fixed width, lies in
its range. A meaning does not rely on it: it takes such an operand modulo its range. Measured values, instants, octets and
frame records have no range here. -/

namespace Sys2Proof

/-- The number names a host context HC0–HC3 (R37). -/
def okCtx (x : Nat) : Bool := decide (x < 4)
/-- The number names a context, or E0 or E1 by 16 more, which write registers of their instances (R147). -/
def okWriter (x : Nat) : Bool := okCtx x || x == 16 || x == 17
/-- The number names a context, or an engine by 16 more, which submit frames (R257, R356). -/
def okSender (x : Nat) : Bool := okCtx x || decide (16 ≤ x ∧ x < 24)
/-- The number names a PCIe function (R47). -/
def okPf (x : Nat) : Bool := decide (x < 2)
/-- The number names an SPI port (R44). -/
def okSpi (x : Nat) : Bool := decide (x < 2)
/-- The number names a page of the register window (R5). -/
def okPage (x : Nat) : Bool := decide (x < 2 ^ 12)
/-- The number is a byte address in the register window (R5). -/
def okAddr (x : Nat) : Bool := decide (x < 2 ^ 24)
/-- The number is the size of a bus access in octets (R6). -/
def okSize (x : Nat) : Bool := decide (x = 1 ∨ x = 2 ∨ x = 4)
/-- The number is a register word (R5). -/
def okWord (x : Nat) : Bool := decide (x < 2 ^ 32)
/-- The number is a MAC address. -/
def okMac (x : Nat) : Bool := decide (x < 2 ^ 48)
/-- The number names a TCU, A or B. -/
def okTcu (x : Nat) : Bool := decide (x < 2)
/-- The number names a capture channel of a TCU. -/
def okTdc (x : Nat) : Bool := decide (x < 24)
/-- The number is a raw code of a capture channel (R69). -/
def okRaw (x : Nat) : Bool := decide (x < 512)
/-- The number names a delay line of a capture channel (R70). -/
def okLine (x : Nat) : Bool := decide (x < 5)
/-- The number names a PTP instance. -/
def okInst (x : Nat) : Bool := decide (x < 2)
/-- The number names a candidate slot (R94). -/
def okCand (x : Nat) : Bool := decide (x < 16)
/-- The number names a parameter register of a candidate slot. -/
def okCandReg (x : Nat) : Bool := decide (x < 7)
/-- The number names a clock output. -/
def okOut (x : Nat) : Bool := decide (x < 8)
/-- The number names a gate input. -/
def okGate (x : Nat) : Bool := decide (x < 8)
/-- The number names a port or lane. -/
def okPort (x : Nat) : Bool := decide (x < 48)
/-- The number names a trunk. -/
def okTrunk (x : Nat) : Bool := decide (x < 12)
/-- The number names a data lane of a trunk. -/
def okTrunkLane (x : Nat) : Bool := decide (x < 3)
/-- The number is the payload of a Nimlin block. -/
def okPayload (x : Nat) : Bool := decide (x < 2 ^ 48)
/-- The number names a forwarding pipeline. -/
def okPipe (x : Nat) : Bool := decide (x < 2)
/-- The number names a window of the forwarding pages. -/
def okWin (x : Nat) : Bool := decide (x < 4)
/-- The number names a page with such a window. -/
def okWinPage (x : Nat) : Bool := decide (0x0C3 ≤ x ∧ x ≤ 0x0C6)
/-- The number names a window of the LPM pages. -/
def okLpm (x : Nat) : Bool := decide (x < 2)
/-- The number names an engine. -/
def okEngine (x : Nat) : Bool := decide (x < 8)
/-- The number names a task of an engine. -/
def okTask (x : Nat) : Bool := decide (x < 16)
/-- The number is a code of eight bits. -/
def okCode (x : Nat) : Bool := decide (x < 256)
/-- The number names a performance counter (R361). -/
def okCounter (x : Nat) : Bool := decide (x < 64)
/-- The number names a physical bank of the Vat (R294). -/
def okBank (x : Nat) : Bool := decide (x < 36)
/-- The number is the value of a strap of two pins (R401). -/
def okStrap (x : Nat) : Bool := decide (x < 4)
/-- The number names a record of a swap (R384). -/
def okRec (x : Nat) : Bool := decide (x < 16)
/-- The number names a supply (R392). -/
def okSupply (x : Nat) : Bool := decide (x < 6)
/-- The number names a power domain (R24). -/
def okDomain (x : Nat) : Bool := decide (1 ≤ x ∧ x ≤ 13)
/-- The number is the quanta of a PAUSE. -/
def okQuanta (x : Nat) : Bool := decide (x < 2 ^ 16)
/-- The request comes from a context, and its fields have the widths of a descriptor's (R50): a tag of 16 bits, a page, and at
most six argument words. -/
def okRequest (q : Request) : Bool :=
  okCtx q.ctx && okPage q.page && decide (q.tag < 2 ^ 16 ∧ q.args.length ≤ 6) && q.args.all okWord

/-- Every word of the list is a register word. -/
def okWords (ws : List Nat) : Bool := ws.all okWord

/-- The message has a type of 8 bits, a tag of 32, and at most 2,040 octets, which its words hold (R354). -/
def okMail (m : Mail) : Bool := decide (m.typ < 256 ∧ m.tag < 2 ^ 32 ∧ m.len ≤ 2040 ∧ m.len ≤ 4 * m.payload.length)

/-- Every message sent is well formed. -/
def okMails (ms : List Mail) : Bool := ms.all okMail

/-- The operands of the command lie in their ranges. -/
def Instr.wf : Instr → Bool
  | .registerWrite ctx addr size data => okWriter ctx && okAddr addr && okSize size && okWord data
  | .counterReadClear ctx addr => okCtx ctx && okAddr addr
  | .statOctetsLoRead ctx port _ => okCtx ctx && okPort port
  | .hdrOwnerWrite ctx page data => okCtx ctx && okPage page && okWord data
  | .locked ctx page _ => okCtx ctx && okPage page
  | .arm ctx page => okCtx ctx && okPage page
  | .cancel ctx page => okCtx ctx && okPage page
  | .commitBoundary page => okPage page
  | .ctxCtlWrite ctx data => okCtx ctx && okWord data
  | .cmdProdWrite ctx data => okCtx ctx && okWord data
  | .descriptorFetch hc words => okCtx hc && okWords words
  | .cplConsWrite ctx data => okCtx ctx && okWord data
  | .intRearm ctx => okCtx ctx
  | .intHoldoffExpiry hc => okCtx hc
  | .pcieLinkDown pf => okPf pf
  | .pcieLinkUp pf => okPf pf
  | .spiWriteFrame spi _ addr data => okSpi spi && okAddr addr && okWord data
  | .spiReadFrame spi _ addr => okSpi spi && okAddr addr
  | .inbandRequest port sa _ => okPort port && okMac sa
  | .nop q => okRequest q
  | .cmdAbort q => okRequest q
  | .cmdQuery q => okRequest q
  | .domainOn q => okRequest q
  | .domainWipeDone d => okDomain d
  | .domainOff q => okRequest q
  | .domainIsolated d => okDomain d
  | .deviceReset q => okRequest q
  | .lifecycleAdvance q => okRequest q
  | .portEnable q => okRequest q
  | .portDisable q => okRequest q
  | .drainLimitExpiry _ _ => true
  | .drainComplete _ _ => true
  | .trunkEnable q => okRequest q
  | .trunkDisable q => okRequest q
  | .queueDisable q => okRequest q
  | .queueEnable q => okRequest q
  | .tableWriteCritical q => okRequest q
  | .tableFence q => okRequest q
  | .tableFlush q => okRequest q
  | .wheyAudit q => okRequest q
  | .gateListInstall q => okRequest q
  | .gateListSwap p => okPort p
  | .taskLoad q => okRequest q
  | .imageVerified e _ _ => okEngine e
  | .taskStart q => okRequest q
  | .taskStop q => okRequest q
  | .taskDrainEnd e t _ => okEngine e && okTask t
  | .tcuFwStage q => okRequest q
  | .tcuFwVerified _ _ _ => true
  | .tcuSwitchover q => okRequest q
  | .timeStep q => okRequest q
  | .timeDomainSelect q => okRequest q
  | .calRun q => okRequest q
  | .spareApprove q => okRequest q
  | .timeSnap ctx t => okCtx ctx && okTcu t
  | .slewDone t => okTcu t
  | .servoUpdate t _ => okTcu t
  | .tdcCapture t c raw _ _ => okTcu t && okTdc c && okRaw raw
  | .tdcArmNow ctx t c => okCtx ctx && okTcu t && okTdc c
  | .gateInputEdge n _ => okGate n
  | .tdcArmAtReached t c => okTcu t && okTdc c
  | .tdcWindowExpiry t c => okTcu t && okTdc c
  | .tdcRes0Read ctx t c => okCtx ctx && okTcu t && okTdc c
  | .tdcRes4Read ctx t c => okCtx ctx && okTcu t && okTdc c
  | .lineLockLost t c line => okTcu t && okTdc c && okLine line
  | .tdcCalStart t => okTcu t
  | .calDeferTimeout t c => okTcu t && okTdc c
  | .tdcCalEnd t c _ _ _ => okTcu t && okTdc c
  | .tdcCalInstall t c => okTcu t && okTdc c
  | .synCtlWrite ctx t data => okCtx ctx && okTcu t && okWord data
  | .pllCalStart t => okTcu t
  | .pllCalEnd t _ _ _ => okTcu t
  | .refmulLocked t => okTcu t
  | .bandFound t _ _ => okTcu t
  | .synLocked t => okTcu t
  | .tcuReady t _ _ => okTcu t
  | .syncInEdge _ => true
  | .syncRestart t => okTcu t
  | .candSecondEval t _ => okTcu t
  | .candLoss t k => okTcu t && okCand k
  | .candSoakComplete t k => okTcu t && okCand k
  | .candWtrComplete t k => okTcu t && okCand k
  | .candCfgWrite ctx t slot reg data => okCtx ctx && okTcu t && okCand slot && okCandReg reg && okWord data
  | .refselSynceWrite ctx t data => okCtx ctx && okTcu t && okWord data
  | .refselCtlWrite ctx t data => okCtx ctx && okTcu t && okWord data
  | .disagreementDetected t a b => okTcu t && okCand a && okCand b
  | .lockDeclared t => okTcu t
  | .holdoverSecond t => okTcu t
  | .outAlignAverageDone t n => okTcu t && okOut n
  | .outAlignEdge t n _ => okTcu t && okOut n
  | .outAlignTimeout t n => okTcu t && okOut n
  | .ptpMessageRx _ => true
  | .fuEntryExpiry port => okPort port
  | .ptpEventTx port _ => okPort port
  | .ptpTxts0Read ctx t i => okWriter ctx && okTcu t && okInst i
  | .ptpTxts3Read ctx t i => okWriter ctx && okTcu t && okInst i
  | .ptpTrkClear ctx t i => okCtx ctx && okTcu t && okInst i
  | .ptpSmpPush ctx t i => okWriter ctx && okTcu t && okInst i
  | .resyncComplete t _ => okTcu t
  | .resyncTimeout t => okTcu t
  | .failedRetryExpiry t => okTcu t
  | .failCauseGone t => okTcu t
  | .firstTokenGrant _ => true
  | .activeFailure code => okCode code
  | .tcuRedCtlWrite ctx t data => okCtx ctx && okTcu t && okWord data
  | .timeJudgement _ => true
  | .anResolved p _ => okPort p
  | .clause37LinkTimer p => okPort p
  | .trainingRequest p _ _ _ _ => okPort p
  | .trainingComplete p => okPort p
  | .maxWaitExpiry p => okPort p
  | .backoffExpiry p => okPort p
  | .trainingFrameLock p => okPort p
  | .losDeclared p _ => okPort p
  | .losCleared p => okPort p
  | .quietExpiry p => okPort p
  | .signalStable p => okPort p
  | .blockLockGained p => okPort p
  | .blockLockLost p _ _ => okPort p
  | .hiBerSet p _ => okPort p
  | .eyeStart ctx port data => okCtx ctx && okPort port && okWord data
  | .eyeDone p _ => okPort p
  | .lpiEnter p _ => okPort p
  | .lpiWake p _ => okPort p
  | .trunkTrainingComplete n => okTrunk n
  | .trunkMaxWaitExpiry n => okTrunk n
  | .trunkBackoffExpiry n => okTrunk n
  | .trunkFrameLock n => okTrunk n
  | .trunkQuietExpiry n => okTrunk n
  | .trunkSignalStable n => okTrunk n
  | .trunkAligned n _ => okTrunk n
  | .trunkAligningTimeout n => okTrunk n
  | .helloRx n lane _ p => okTrunk n && okTrunkLane lane && okPayload p
  | .helloTimeout n => okTrunk n
  | .clause73PagesRx n => okTrunk n
  | .markerSend n => okTrunk n
  | .helloSend n lane => okTrunk n && okTrunkLane lane
  | .timeBlockSend n => okTrunk n
  | .markerBlockRx n lane _ p _ => okTrunk n && okTrunkLane lane && okPayload p
  | .echoSend n => okTrunk n
  | .echoRx n _ p => okTrunk n && okPayload p
  | .epochMarkerCapture t n raw _ _ => okTcu t && okTrunk n && okRaw raw
  | .timeBlockRx n _ p => okTrunk n && okPayload p
  | .markerLoss n => okTrunk n
  | .timeBlockLoss n => okTrunk n
  | .recentre n lane => okTrunk n && okTrunkLane lane
  | .cadenceBlockRx n lane _ p _ _ => okTrunk n && okTrunkLane lane && okPayload p
  | .cadenceSlotSend n _ _ _ _ _ => okTrunk n
  | .cadTblWrite ctx t => okCtx ctx && okTcu t
  | .cadTblRead ctx t => okCtx ctx && okTcu t
  | .gwTplWrite ctx t => okCtx ctx && okTcu t
  | .gwTplRead ctx t => okCtx ctx && okTcu t
  | .gwOutboundRelease _ _ _ _ _ => true
  | .gwFrameRx _ _ _ _ => true
  | .gwWindowClose _ _ => true
  | .frameRxStart p _ _ _ _ _ => okPort p
  | .cellArrival _ _ => true
  | .frameRxEnd _ errs _ => decide (errs.length ≤ 3)
  | .lookup _ _ => true
  | .learnCopyArrival w => okPipe w
  | .learnCommit w => okPipe w
  | .tblRead ctx w => okCtx ctx && okWin w
  | .tblWrite ctx w => okCtx ctx && okWin w
  | .tblLookup ctx w => okCtx ctx && okWin w
  | .tblInsert ctx w => okCtx ctx && okWin w
  | .tblDelete ctx w => okCtx ctx && okWin w
  | .clearHit ctx w => okCtx ctx && okWin w
  | .tblOpComplete page _ => okWinPage page
  | .mactSeedWrite ctx w data => okCtx ctx && okPipe w && okWord data
  | .lpmLenWrite ctx w _ data => okCtx ctx && okLpm w && okWord data
  | .shadowCompare _ _ => true
  | .copyDepart p _ _ _ => okPort p
  | .vatBankSwap src => okBank src
  | .voqSelWrite ctx data => okCtx ctx && okWord data
  | .schedulerDecision p _ => okPort p
  | .frameTxEnd p => okPort p
  | .shpWrite ctx _ => okCtx ctx
  | .shpRead ctx => okCtx ctx
  | .gateChange p => okPort p
  | .gateWrite ctx => okCtx ctx
  | .gateRead ctx => okCtx ctx
  | .smpRd0Read ctx => okCtx ctx
  | .smpRd3Read ctx => okCtx ctx
  | .pauseRx p quanta => okPort p && okQuanta quanta
  | .pauseTimerExpiry p => okPort p
  | .pauseRefresh p => okPort p
  | .txrProdWrite ctx data => okCtx ctx && okWord data
  | .hostTxFrame src _ _ _ => okSender src
  | .rxrProdWrite ctx data => okCtx ctx && okWord data
  | .hostRxDelivery _ _ _ => true
  | .pktRxfDataRead ctx => okCtx ctx
  | .pktTxfDataWrite ctx data => okCtx ctx && okWord data
  | .inbandPacketRx port sa _ => okPort port && okMac sa
  | .dispatch e => okEngine e
  | .taskSliceEnd e _ sent => okEngine e && okMails sent
  | .taskYield e _ sent => okEngine e && okMails sent
  | .taskWait e _ sent => okEngine e && okMails sent
  | .taskTimerExpiry e t => okEngine e && okTask t
  | .taskFault e code => okEngine e && okCode code
  | .mailboxMessageArrival e t _ m => okEngine e && okTask t && okMail m
  | .mbxPush ctx e => okCtx ctx && okEngine e
  | .mbxClear ctx e => okCtx ctx && okEngine e
  | .mbxDataWrite ctx e data => okCtx ctx && okEngine e && okWord data
  | .mbxOutPop ctx e => okCtx ctx && okEngine e
  | .mbxOutDataRead ctx e => okCtx ctx && okEngine e
  | .shDataAccess ctx _ data => okCtx ctx && okWord data
  | .engineSwap e => okEngine e
  | .engineSelfTestEnd e _ => okEngine e
  | .perfCounterOverflow n _ addr task => okCounter n && okAddr addr && okTask task
  | .pcValLoRead ctx n => okCtx ctx && okCounter n
  | .pcValLoWrite ctx n data => okCtx ctx && okCounter n && okWord data
  | .perfRunWrite ctx data => okCtx ctx && okWord data
  | .suSnap ctx => okCtx ctx
  | .laneCalStart p => okPort p
  | .laneCalEnd p _ _ _ => okPort p
  | .slicerSwap p => okPort p
  | .calCapture ctx => okCtx ctx
  | .calApply ctx => okCtx ctx
  | .calImgDataAccess ctx _ data => okCtx ctx && okWord data
  | .tdcLutDataWrite ctx t c data => okCtx ctx && okTcu t && okTdc c && okWord data
  | .wearUpdate page _ _ _ => okPage page
  | .spareSwap i _ => okRec i
  | .supplyWarn i => okSupply i
  | .supplyBelowClear i => okSupply i
  | .supplySag i => okSupply i
  | .resetRelease hcMap oscNom leadSel bootSrc => okStrap hcMap && okStrap oscNom && okTcu leadSel && okStrap bootSrc
  | .sensorConversion _ _ => true
  | .bootSectionLoaded _ _ _ _ _ => true
  | .bootPushLenWrite ctx data => okCtx ctx && okWord data
  | .bootPushDataWrite ctx data => okCtx ctx && okWord data
  | .otpProg ctx => okCtx ctx
  | .otpDone _ => true
  | .jtagInstruction _ _ => true
  | .standbyTcuFailure t code => okTcu t && okCode code
  | .standbyReadyAfterAbandon t => okTcu t
  | .mirrorCheckWordsResumed t => okTcu t
  | .lanePllLost p _ => okPort p
  | .blockWedged page => okPage page
  | .outputPulseInstant t n => okTcu t && okOut n
  | .clause37Complete p _ _ => okPort p
  | .msixEnable pf => okPf pf
  | .accessErrorRead ctx addr size => okCtx ctx && okAddr addr && okSize size
  | .pePerstAssert => true
  | .pePerstRelease => true
  | .deviceResetDelayExpiry => true
  | .lifecycleHoldExpiry => true
  | .lifecycleOtpDone => true
  | .fenceComplete => true
  | .oscQualify => true
  | .oscWaitTimeout => true
  | .oscDisqualify => true
  | .lastResortExit => true
  | .stepApply => true
  | .switchEpoch => true
  | .lockstepLost => true
  | .revertHoldoffExpiry => true
  | .dualClaim => true
  | .timeDisagree => true
  | .hoopBoundary => true
  | .wheyPeriodicStart => true
  | .wheyWalkEnd => true
  | .sampleSweep => true
  | .captureDone => true
  | .applyDone => true
  | .powerOnReset => true
  | .porst => true
  | .wipeComplete => true
  | .bgDwellExpiry => true
  | .thermalRelease => true
  | .deviceReady => true

end Sys2Proof
end

