-- ==== Sys2Proof/Safety.lean ====
section
/-! DEFINITION. The terms in which claims about the block are stated: a command that runs, recorded causes, the canonical form of the memories, and what no command may undo. -/

namespace Sys2Proof.Machine

open Sys2Proof

/-- The command runs from `s`: it answers a next state, and `P` holds of that state. -/
def Runs (i : Instr) (s : State) (P : State → Prop) : Prop := ∃ t, exec i s = .next t ∧ P t

/-- Cause `b` is recorded in `HDR_INT_CAUSE` of page `p` (R36, R57). -/
def State.cause (s : State) (p b : Nat) : Bool := bitAt (s.rd p R.HDR.HDR_INT_CAUSE) b

/-- Broadcast cause `b` is recorded for context `c` (R49). -/
def State.bcastSet (s : State) (c b : Nat) : Bool := bitAt (s.rd (pageHC c) R.HC.BCAST_CAUSE) b

/-- The page's domain is on: its block works and accepts register writes (R25). Log 18 (DEDUCED; unsafe). -/
abbrev State.pageOn (s : State) (p : Nat) : Prop := s.pwr (pageDomain p) = 2

/-- Context `ctx` may write the block registers of page `p`: its accesses reach the device, it owns the page, the page's
domain is on, and no memory is being wiped (R25, R38, R403). -/
abbrev State.writes (s : State) (ctx p : Nat) : Prop := s.canAccess ctx = true ∧ s.owner p = ctx ∧ s.pageOn p ∧ s.wiping = false

/-- No field of the register at `off` refuses its part of the word `v`: every encoding is listed, no bound rule is broken and
nothing is locked (R7, R40, R288, R336). -/
abbrev State.allows (s : State) (p off v : Nat) : Prop := ∀ b ∈ pageBlk p, ∀ fi ∈ fieldsAt b off, s.fieldErr p b v fi = 0

/-- Context `ctx` may read the block registers of page `p` (R25, R38, R403). -/
abbrev State.reads (s : State) (ctx p : Nat) : Prop := s.canAccess ctx = true ∧ s.pageOn p ∧ s.wiping = false

/-- From `s` to `t`, context `ctx` got the value `v` from a read at window offset `a`, before anything else was put out. -/
def State.returned (s t : State) (ctx a v : Nat) : Prop := ∃ l, t.out = l ++ Out.read ctx a v :: s.out

/-- The command that a request of opcode `op` submits (R50, R51). -/
def State.cmdOf (s : State) (op : Nat) (q : Request) : Cmd :=
  { ctx := q.ctx % 4, count := q.count, handle := handleOf q.count (s.cmdSize (q.ctx % 4)), tag := q.tag % 65536, intOn := q.intOn,
    afterPrev := false, op := op, page := q.page, args := (List.range 6).map (fun i => q.args.getD i 0 % 2 ^ 32) }

/-- The device is out of reset, and a request of opcode `op` passes every check of R456. -/
abbrev State.accepts (s : State) (op : Nat) (q : Request) : Prop :=
  s.phase ≠ .reset ∧ (s.fly (s.cmdOf op q)).judgeCmd (s.cmdOf op q) 0 0 = none

/-- The status that is known under a command's handle: 0xFF while it runs (R51, R54). -/
def State.statusOf (s : State) (k : Cmd) : Nat := (look { gen := 16, status := 0 } s.slots (slotKey k.ctx k.handle)).status

/-- The command runs in `s`. -/
abbrev State.inFlight (s : State) (k : Cmd) : Prop := ∃ j ∈ s.cmds, j.ctx = k.ctx ∧ j.count = k.count ∧ j.started = true

/-- From `s` to `t` the swap of record `i` has taken effect: SPARE is raised on its block's page and SWAP_DONE on CAVE, the swap is counted,
and the record, whose slot no waiting slice takes, is DONE (R384, R385). -/
def State.swapTaken (s t : State) (i : Nat) : Prop :=
  t.cause (s.swapRec i).page hSpare = true ∧ t.cause pageCave 1 = true ∧
  t.rd pageCave R.CAVE.CAVE_STAT_SWAPS = satNat 16 (s.rd pageCave R.CAVE.CAVE_STAT_SWAPS + 1) ∧
  (s.swapWait = [] → (t.swapRec i).state = 4)

/-- From `s` to `t` the registers of every page have kept their values, but for the pages of some blocks. -/
def State.keepsRegs (s t : State) (L : List Blk) : Prop :=
  ∀ p f j, f.inPage j = true → (∀ b, pageBlk p = some b → b ∉ L) → t.rdI p f j = s.rdI p f j

/-- The blocks whose registers a change of the reference or of the rate of device time reaches: selection, holdover, the registers of
PTP, the gateway and the cadence that show it, time, the synthesizers and the contexts' completions. -/
abbrev selectionBlocks : List Blk := [.refsel, .hold, .ptp, .gw, .cad, .time, .synth, .hc]

/-- From `s` to `t` the TCUs change at most by the time that passes (R59, R60). -/
def State.timePasses (s t : State) : Prop := t.tcus = s.tcus ∨ t.tcus = (s.advance (t.up - s.up)).tcus

/-- From `s` to `t` nothing has changed but registers, what was put out, and at the contexts the interrupts and in-band notices sent. -/
abbrev State.onlyRegs (s t : State) : Prop :=
  t = { s with regs := t.regs, hosts := t.hosts, out := t.out, free := t.free } ∧ ∀ c, c < 4 → t.host c =
    { s.host c with armed := (t.host c).armed, holdoff := (t.host c).holdoff, holdTo := (t.host c).holdTo, inbq := (t.host c).inbq }

/-- The registers of a page show nothing that the passing of time changes, or no time passes from `s` to `t`: a remainder that is slewed,
capture channels that start up, a sweep of the sampler (R62, R88, R340). -/
def State.untimed (s t : State) (p : Nat) : Prop := t.up = s.up ∨ (pageBlk p ≠ some .time ∧ pageBlk p ≠ some .tdc ∧ pageBlk p ≠ some .sample)

/-- From `s` to `t` the memories have kept what they hold: the engines' shared memory, the forwarding tables, the staging image, the
gateway templates, the cadence tables and OTP. -/
def State.keepsMemories (s t : State) : Prop :=
  t.shmem = s.shmem ∧ t.tabs = s.tabs ∧ t.image = s.image ∧ t.gwTpl = s.gwTpl ∧ t.cadTab = s.cadTab ∧ t.otp = s.otp

/-- The canonical form of the block's memories: the engines' shared memory (R346), the forwarding tables (R270–R283), the
staging image (R378), the gateway templates (R238), the cadence tables (R229) and the user words of OTP (R415).
Log 2 (DESIGN CHOICE; unsafe). -/
def Memory.wf (s : State) : Bool :=
  canon 0#32 s.shmem && canon [] s.tabs && canon 0 s.image && canon [] s.gwTpl && canon [] s.cadTab && canon 0 s.otp

/-- From `s` to `t` OTP has only been programmed, never undone: the serial number stands, the life-cycle state has not gone
back, the customer key hash stands once there is one or the device has left BLANK, and no bit of a user word has gone from
1 to 0 (R411, R412, R415). -/
def State.otpForward (s t : State) : Prop :=
  t.serial = s.serial ∧ s.lifeCycle ≤ t.lifeCycle ∧ (s.lifeCycle ≠ 0 ∨ s.keyHash ≠ [] → t.keyHash = s.keyHash) ∧
  ∀ a, look 0 s.otp a &&& look 0 t.otp a = look 0 s.otp a

end Sys2Proof.Machine
end

