-- ==== Sys2Proof/Certificates/Slice0/Obligations.lean ====
section
/-! DEFINITION. The statements for the provers, each a proposition about the model. `Runs i s P` says that command `i`,
run on state `s`, answers a next state of which `P` holds. -/

open Sys2Proof Sys2Proof.Machine

/-- TIME_SNAP takes seconds, nanoseconds and cycle count of one instant (R64); once the remainder is slewed, STEP_REM is clear and
SLEW_DONE raised (R62), and no slew away from zero ends it; TIME_STEP is taken into flight and waits on the active TCU (R62). At the
next epoch a step's whole number of 64 ns, rounded, moves the counter and the rest joins the remainder to be slewed, which STEP_REM
then shows, and STEP_DONE is raised (R62).
An edge on SYNC_IN that `SYNC_CTL` selects fixes the restart epoch, at least 64 ns away and a multiple of 64 ns; at that
epoch it is recorded, and SYNC_DONE raised (R90).
Where the spec leaves something open here, the statement says what the model chose: log entry 35. -/
def Obligations.TimeCommandsAndSyncInTakeEffect : Prop :=
  (∀ (s : State) ctx t, t < 2 → s.writes ctx (pageTime t) →
    Runs (.timeSnap ctx t) s (fun u =>
      u.rd (pageTime t) R.TIME.TIME_SNAP_SEC_LO = (s.tcu t).now / 1000000000 % 2 ^ 32 ∧
      u.rd (pageTime t) R.TIME.TIME_SNAP_SEC_HI = (s.tcu t).now / 1000000000 / 2 ^ 32 % 2 ^ 16 ∧
      u.rd (pageTime t) R.TIME.TIME_SNAP_NS = (s.tcu t).now % 1000000000 ∧
      u.rd (pageTime t) R.TIME.TIME_SNAP_CYC_LO = (s.tcu t).cyc % 2 ^ 32 ∧
      u.rd (pageTime t) R.TIME.TIME_SNAP_CYC_HI = (s.tcu t).cyc / 2 ^ 32 % 2 ^ 16 ∧
      u.tcu t = s.tcu t)) ∧
  (∀ (s : State) t, t < 2 → s.pageOn (pageTime t) → (s.tcu t).slewing = true →
    s.decides t = false ∨ (s.tcu t).rem = 0 ∨ 0 < (s.tcu t).slew * (s.tcu t).rem →
    Runs (.slewDone t) s (fun u => (u.tcu t).rem = 0 ∧ (u.tcu t).slewing = false ∧ u.rd (pageTime t) R.TIME.STEP_REM = 0 ∧
      u.cause (pageTime t) 2 = true)) ∧
  (∀ (s : State) t, t < 2 → (s.tcu t).slewing = true → s.decides t = true → (s.tcu t).rem ≠ 0 → (s.tcu t).slew * (s.tcu t).rem ≤ 0 →
    Runs (.slewDone t) s (fun u => u.tcu t = s.tcu t ∧ u.up = s.up)) ∧
  (∀ (s : State) q, s.accepts 0x42 q → s.tokenHeld = true →
    Runs (.timeStep q) s (fun u =>
      (u.tcu s.active).step = some ⟨stepAmount (s.cmdOf 0x42 q), !s.timeValid, true⟩ ∧ u.inFlight (s.cmdOf 0x42 q))) ∧
  (∀ (s : State) q, (s.tcu s.lead).step = some q → s.lead < 2 → (s.tcu s.lead).clk = true → (s.tcu s.lead).now < counterMod - 64 →
    Runs .stepApply s (fun u => (u.tcu s.lead).step = none ∧
      (u.tcu s.lead).now = steppedBy (round64 q.amount) (nextEpoch (s.tcu s.lead).now) ∧
      (u.tcu s.lead).rem = (if (s.tcu s.lead).rem = 0 then 0 else (s.tcu s.lead).remAfter (nextEpoch (s.tcu s.lead).now - (s.tcu s.lead).now)) +
        (q.amount - round64 q.amount * 65536) * 2 ^ 32 ∧
      (u.tcu s.lead).slewing = (decide (q.amount ≠ round64 q.amount * 65536) || (s.tcu s.lead).slewing))) ∧
  (∀ (s : State) q, (s.tcu s.lead).step = some q → s.lead < 2 → s.pageOn (pageTime s.lead) → round64 q.amount = 0 ∨ s.armedPages = [] →
    Runs .stepApply s (fun u => u.cause (pageTime s.lead) 0 = true ∧
      u.rd (pageTime s.lead) R.TIME.STEP_REM = satInt 32 (divEven (u.tcu s.lead).rem (2 ^ 32)))) ∧
  (∀ (s : State) t rising, t < 2 → s.flag (pageSynth t) R.SYNTH.SYNC_CTL_EN = true → s.flag (pageSynth t) R.SYNTH.SYNC_CTL_EDGE ≠ rising →
    (s.tcu t).syncE = none → (s.tcu t).clk = true →
    Runs (.syncInEdge rising) s (fun u => ∃ e m, (u.tcu t).syncE = some (e, m) ∧ e % 64 = 0 ∧ (s.tcu t).now + 64 ≤ e ∧ e < (s.tcu t).now + 128)) ∧
  (∀ (s : State) t e m, t < 2 → s.pageOn (pageSynth t) → (s.tcu t).syncE = some (e, m) →
    Runs (.syncRestart t) s (fun u => u.up = s.up + (e - (s.tcu t).now) ∧ (u.tcu t).syncE = none ∧ u.rd (pageSynth t) R.SYNTH.SYNC_LAST_SEC = e / 1000000000 % 2 ^ 32 ∧
      u.rd (pageSynth t) R.SYNTH.SYNC_LAST_NS = e % 1000000000 ∧ u.cause (pageSynth t) 3 = true))

/-- The arming of an event channel by the host, by GATEn, by the committed time and by the end of its window (R76).
A capture on an armed channel is stored and reported (R63, R79); the host reads it through the read buffer, RES0 loading
the buffer from the oldest capture and RES4 removing that capture (R79); a line that loses lock is shown and reported (R70). -/
def Obligations.TdcChannelsArmAndCapture : Prop :=
  (∀ (s : State) ctx t c, t < 2 → isEvent c = true → s.writes ctx (pageTdc t c) → s.rd (pageTdc t c) R.TDC.TDC_ARM_SRC = 4 →
    s.rd (pageTdc t c) R.TDC.TDC_ARM_INT_SRC = 0 →
    Runs (.tdcArmNow ctx t c) s (fun u => (u.tdc t c).armed = true ∧ u.flag (pageTdc t c) R.TDC.TDC_STAT_ARMED = true)) ∧
  (∀ (s : State) n level, n < 8 → bitAt s.gatePins n ≠ level →
    Runs (.gateInputEdge n level) s (fun u => bitAt u.gatePins n = level ∧ ∀ t, t < 2 → s.rd (pageTdc t (12 + n)) R.TDC.TDC_ARM_SRC = 2 →
      (u.tdc t (12 + n)).armed = (level != s.flag (pageTdc t (12 + n)) R.TDC.TDC_ARM_GATE_POL))) ∧
  (∀ (s : State) t c, t < 2 → isEvent c = true → (s.tdc t c).armAt = true → s.rd (pageTdc t c) R.TDC.TDC_ARM_SRC = 4 →
    s.rd (pageTdc t c) R.TDC.TDC_ARM_INT_SRC = 2 → s.rd (pageTdc t c) R.TDC.TDC_WINDOW ≠ 0 →
    Runs (.tdcArmAtReached t c) s (fun u => u.up = s.up + s.armAtIn t c ∧ (u.tdc t c).armed = true ∧ (u.tdc t c).armAt = false ∧
      (u.tdc t c).winEnd = some (u.up + s.rd (pageTdc t c) R.TDC.TDC_WINDOW))) ∧
  (∀ (s : State) t c e, t < 2 → isEvent c = true → (s.tdc t c).armed = true → (s.tdc t c).winEnd = some e →
    Runs (.tdcWindowExpiry t c) s (fun u => u.up = s.up + (e - s.up) ∧ (u.tdc t c).armed = false ∧ (u.tdc t c).winEnd = none ∧
      u.flag (pageTdc t c) R.TDC.TDC_STAT_ARMED = false)) ∧
  (∀ (s : State) t c raw rising marker, t < 2 → c < 24 → raw < 512 → s.pageOn (pageTdc t c) → s.tdcArmed t c = true →
    s.edgeSel t c rising = true → s.flag (pageTdc t c) R.TDC.TDC_STAT_CAL_RUNNING = false →
    (s.tdc t c).last.any (fun l => tooNear ((s.up : Int) * 65536 - (s.tdc t c).fine raw) l) = false →
    (s.tdc t c).fifo.length < 64 →
    Runs (.tdcCapture t c raw rising marker) s (fun u =>
      (u.tdc t c).fifo = (s.tdc t c).fifo ++ [s.capWords t c raw rising marker] ∧ u.cause (pageTdc t c) 0 = true ∧
      u.rd (pageTdc t c) R.TDC.TDC_STAT_FIFO_LEVEL = (s.tdc t c).fifo.length + 1)) ∧
  (∀ (s : State) ctx t c e l, t < 2 → c < 24 → s.reads ctx (pageTdc t c) → (s.tdc t c).fifo = e :: l →
    Runs (.tdcRes0Read ctx t c) s (fun u => s.returned u ctx (regAddr (pageTdc t c) 0x070) (e.w0 % 2 ^ 32) ∧
      u.rdI (pageTdc t c) R.TDC.TDC_RES 1 = e.w1 % 2 ^ 32 ∧ u.rdI (pageTdc t c) R.TDC.TDC_RES 2 = e.w2 % 2 ^ 32 ∧
      u.rdI (pageTdc t c) R.TDC.TDC_RES 3 = e.w3 % 2 ^ 32 ∧ u.rdI (pageTdc t c) R.TDC.TDC_RES 4 = e.w4 % 2 ^ 32 ∧
      (u.tdc t c).fifo = (s.tdc t c).fifo)) ∧
  (∀ (s : State) ctx t c e l, t < 2 → c < 24 → s.reads ctx (pageTdc t c) → (s.tdc t c).fifo = e :: l →
    Runs (.tdcRes4Read ctx t c) s (fun u =>
      s.returned u ctx (regAddr (pageTdc t c) 0x080) (s.rdI (pageTdc t c) R.TDC.TDC_RES 4) ∧ (u.tdc t c).fifo = l)) ∧
  (∀ (s : State) t c m, t < 2 → c < 24 → m < 5 → s.pageOn (pageTdc t c) → bitAt (s.rd (pageTdc t c) R.TDC.TDC_STAT_LINE_LOCK) m = true →
    Runs (.lineLockLost t c m) s (fun u =>
      bitAt (u.rd (pageTdc t c) R.TDC.TDC_STAT_LINE_LOCK) m = false ∧ u.cause (pageTdc t c) 2 = true))

/-- A code-density run starts on the channel the director takes next, or after 10 s without gate idle (R73, R374); it ends with
a table that waits, is counted in HDR_CAL_COUNT, and is installed with its residual at gate idle (R71, R77, R382).
A change of the reference path is refused on the active TCU, and on the STANDBY it starts a run with the new path, once the runs are
open (R85); on a TCU that is neither it waits, which is the model's choice (log entry 100). A synthesizer run starts on the
standby, which is CALIBRATING, and ends locked in a band, STANDBY again (R86, R148). In start-up the reference multiplier locks, the
band search ends, or is skipped for the band of an image, and the loop locks: the TCU's clock runs, and its cycle count starts at 0
where it did not run before (R60, R88, R380).
Where the spec leaves something open here, the statement says what the model chose: log entries 10 and 100. -/
def Obligations.TdcAndSynthRunsFollowTheirRules : Prop :=
  (∀ (s : State) t c, t < 2 → s.nextTdc t = some c → c < 24 →
    Runs (.tdcCalStart t) s (fun u => u.flag (pageTdc t c) R.TDC.TDC_STAT_CAL_RUNNING = true ∧ (u.tdc t c).due = false ∧
      u.calRunning = s.calRunning ++ [pageTdc t c])) ∧
  (∀ (s : State) t c, t < 2 → isEvent c = true → s.gateIdle t c = false → s.tdcEligible t c true = true →
    Runs (.calDeferTimeout t c) s (fun u => u.flag (pageTdc t c) R.TDC.TDC_STAT_CAL_RUNNING = true ∧ (u.tdc t c).due = false ∧
      u.calRunning = s.calRunning ++ [pageTdc t c])) ∧
  (∀ (s : State) t c hist lines res, t < 2 → c < 24 → lines % 32 = 31 → s.calRunning.contains (pageTdc t c) = true →
    Runs (.tdcCalEnd t c hist lines res) s (fun u => (u.tdc t c).newLut = some ⟨fineTable hist, tdcLatency c res, s.sensor t, s.sec % 2 ^ 32⟩ ∧
      u.rd (pageTdc t c) R.TDC.TDC_STAT_LINE_LOCK = 31 ∧ u.flag (pageTdc t c) R.TDC.TDC_STAT_CAL_RUNNING = false ∧
      u.rd (pageTdc t c) R.HDR.HDR_CAL_COUNT = (s.rd (pageTdc t c) R.HDR.HDR_CAL_COUNT + 1) % 2 ^ 32)) ∧
  (∀ (s : State) t c r, t < 2 → c < 24 → s.gateIdle t c = true → s.flag (pageTdc t c) R.TDC.TDC_STAT_CAL_RUNNING = false →
    (s.tdc t c).newLut = some r → (s.tdc t c).rest = none →
    Runs (.tdcCalInstall t c) s (fun u => (u.tdc t c).lut = tableStore r.table ∧ (u.tdc t c).newLut = none ∧
      u.rd (pageTdc t c) R.TDC.TDC_LAT = r.lat % 2 ^ 32 ∧ (u.tdc t c).tVal = r.t ∧ (u.tdc t c).secs = r.sec)) ∧
  (∀ (s : State) ctx t v, t < 2 → v < 2 ^ 32 → s.writes ctx (pageSynth t) → s.allows (pageSynth t) 0x040 v →
    bits v 0 2 ≠ s.rd (pageSynth t) R.SYNTH.SYN_CTL_REF_PATH → s.tcuState t ≠ tsStandby →
    Runs (.synCtlWrite ctx t v) s (fun u => u.rd (pageSynth t) R.SYNTH.SYN_CTL_DITHER = bits v 2 1 ∧
      u.rd (pageSynth t) R.SYNTH.SYN_CTL_REF_PATH = s.rd (pageSynth t) R.SYNTH.SYN_CTL_REF_PATH ∧
      (if s.tokenHeld = true ∧ s.active = t then u.cause (pageSynth t) 2 = true ∧ (u.tcu t).newPath = (s.tcu t).newPath
       else (u.tcu t).newPath = some (bits v 0 2)))) ∧
  (∀ (s : State) ctx t v, t < 2 → v < 2 ^ 32 → s.writes ctx (pageSynth t) → s.allows (pageSynth t) 0x040 v →
    bits v 0 2 ≠ s.rd (pageSynth t) R.SYNTH.SYN_CTL_REF_PATH → s.tcuState t = tsStandby → ¬(s.tokenHeld = true ∧ s.active = t) →
    Runs (.synCtlWrite ctx t v) s (fun u => u.rd (pageSynth t) R.SYNTH.SYN_CTL_DITHER = bits v 2 1 ∧
      (if s.runsOpen = true then u.rd (pageSynth t) R.SYNTH.SYN_CTL_REF_PATH = bits v 0 2 ∧ u.tcuState t = tsCalibrating ∧
        u.flag (pageSynth t) R.SYNTH.SYN_STAT_LOCK = false ∧ (u.tcu t).newPath = none ∧ u.calRunning = s.calRunning ++ [pageSynth t]
       else u.rd (pageSynth t) R.SYNTH.SYN_CTL_REF_PATH = s.rd (pageSynth t) R.SYNTH.SYN_CTL_REF_PATH ∧
        (u.tcu t).newPath = some (bits v 0 2)))) ∧
  (∀ (s : State) t, t < 2 → s.tcuState t = tsStandby → s.runsOpen = true → s.pllDue t = true →
    Runs (.pllCalStart t) s (fun u => u.tcuState t = tsCalibrating ∧ u.flag (pageSynth t) R.SYNTH.SYN_STAT_LOCK = false ∧
      (u.tcu t).pllDue = false ∧ u.calRunning = s.calRunning ++ [pageSynth t])) ∧
  (∀ (s : State) t band vtune (align : Int), t < 2 → band < 64 → vtune < 256 → s.tcuState t = tsCalibrating → s.calRunning.contains (pageSynth t) = true → -3 ≤ align → align ≤ 3 →
    (s.tcu t).pllRest = none → s.findOp 0x41 = none →
    Runs (.pllCalEnd t (some align) band vtune) s (fun u => u.tcuState t = tsStandby ∧ u.flag (pageSynth t) R.SYNTH.SYN_STAT_LOCK = true ∧
      u.rd (pageSynth t) R.SYNTH.SYN_STAT_BAND = band ∧ u.rd (pageSynth t) R.SYNTH.SYN_STAT_VTUNE = vtune ∧
      u.rd (pageSynth t) R.HDR.HDR_CAL_COUNT = (s.rd (pageSynth t) R.HDR.HDR_CAL_COUNT + 1) % 2 ^ 32)) ∧
  (∀ (s : State) t, t < 2 → s.starting t = true → s.phase ≠ .reset → s.phase ≠ .oscWait →
    Runs (.refmulLocked t) s (fun u => u.flag (pageSynth t) R.SYNTH.SYN_STAT_REFMUL_LOCK = true)) ∧
  (∀ (s : State) t band vtune, t < 2 → band < 64 → vtune < 256 → s.starting t = true → s.flag (pageSynth t) R.SYNTH.SYN_STAT_REFMUL_LOCK = true →
    (s.tcu t).pllRest.isSome = true ∨ s.runsOpen = true →
    Runs (.bandFound t band vtune) s (fun u => u.flag (pageSynth t) R.SYNTH.SYN_STAT_BAND_VALID = true ∧
      u.rd (pageSynth t) R.SYNTH.SYN_STAT_BAND = (s.tcu t).pllRest.elim band (fun r => r.1 % 64) ∧
      u.rd (pageSynth t) R.SYNTH.SYN_STAT_VTUNE = (s.tcu t).pllRest.elim vtune (fun r => r.2.1 % 256))) ∧
  (∀ (s : State) t, t < 2 → s.starting t = true → s.flag (pageSynth t) R.SYNTH.SYN_STAT_BAND_VALID = true →
    Runs (.synLocked t) s (fun u => u.flag (pageSynth t) R.SYNTH.SYN_STAT_LOCK = true ∧ (u.tcu t).clk = true ∧
      (u.tcu t).cyc = (if (s.tcu t).clk = true then (s.tcu t).cyc else 0)))

/-- A capture and a loss of lock on one channel leave every other channel of both TCUs, every register of every other page, both
counters and every memory as they were. The end of a window and a committed arming time, at which time moves on, leave the other
channels, the memories and the registers of every page as they were, but for those that follow the time: the TIME pages, and
the channels' own pages during start-up, and the page of the sampler in a sweep (R62, R76, R88, R340). -/
def Obligations.TdcCommandsKeepOtherChannels : Prop :=
  (∀ (s u : State) t c, t < 2 → c < 24 →
    (∃ raw rising marker, exec (.tdcCapture t c raw rising marker) s = .next u) ∨ (∃ m, exec (.lineLockLost t c m) s = .next u) →
    (∀ v d, v ≠ t ∨ d ≠ c → v < 2 → u.tdc v d = s.tdc v d) ∧
    (∀ p f i, f.inPage i = true → p ≠ pageTdc t c → u.rdI p f i = s.rdI p f i) ∧
    (u.tcu (1 - t) = s.tcu (1 - t)) ∧ (u.tcu t).now = (s.tcu t).now ∧ (u.tcu t).cyc = (s.tcu t).cyc ∧ u.up = s.up ∧
    s.keepsMemories u ∧ u.frames = s.frames ∧ u.cmds = s.cmds) ∧
  (∀ (s u : State) t c, t < 2 → c < 24 → exec (.tdcArmAtReached t c) s = .next u ∨ exec (.tdcWindowExpiry t c) s = .next u →
    (∀ v d, v ≠ t ∨ d ≠ c → v < 2 → u.tdc v d = s.tdc v d) ∧ (u.tdc t c).fifo = (s.tdc t c).fifo ∧
    s.keepsRegs u [.time, .tdc, .sample] ∧ s.keepsMemories u ∧ u.frames = s.frames ∧ u.cmds = s.cmds)

/-- The token moves: by a first grant (R150), by TCU_SWITCHOVER to a STANDBY TCU (R161), when the revert hold-off expires (R160),
and to a TCU that becomes ready after the active failed (R158); the move is counted and waits for its switch epoch (R155).
At the epoch after the token moved the SerDes reference follows the holder, and the arbiter and each new holder report the move
(R155). In the Last resort phase that epoch is the exit: the Running phase begins, or, while OSC_IN is disqualified, the Oscillator
lost phase (R15, R19).
Where the spec leaves something open here, the statement says what the model chose: log entry 38. -/
def Obligations.TheTokenMovesAndTheSwitchEpochFollows : Prop :=
  (∀ (s : State) tenMs, s.tokenHeld = false → s.phase ≠ .lastResort → (s.tcu (s.straps.leadSel % 2)).ready = true →
    s.tcuState (s.straps.leadSel % 2) = tsStarting →
    Runs (.firstTokenGrant tenMs) s (fun u => u.tokenHeld = true ∧ u.active = s.straps.leadSel % 2 ∧
      u.tcuState (s.straps.leadSel % 2) = tsActive ∧ u.rd pageArb R.ARB.ARB_STAT_LAST_CAUSE = 0)) ∧
  (∀ (s : State) q, s.accepts 0x41 q → s.tokenHeld = true → s.tcuState (1 - s.active) = tsStandby → s.isOn (2 - s.active) = true →
    Runs (.tcuSwitchover q) s (fun u => u.active = 1 - s.active ∧ u.tcuState (1 - s.active) = tsActive ∧
      u.rd pageArb R.ARB.ARB_STAT_LAST_CAUSE = 1 ∧ u.rd pageArb R.ARB.ARB_MOVES = satNat 32 (s.rd pageArb R.ARB.ARB_MOVES + 1) ∧
      u.rd (pageCtl (1 - s.active)) R.CTL.TCU_SW_CNT = satNat 32 (s.rd (pageCtl (1 - s.active)) R.CTL.TCU_SW_CNT + 1) ∧
      u.switch = s.switch ++ [(some s.active, 1 - s.active, tcHost)] ∧ u.inFlight (s.cmdOf 0x41 q))) ∧
  (∀ (s : State) h, h = s.rd redPage R.CTL.TCU_RED_CTL_HOME → s.reverting = true → s.flag redPage R.CTL.TCU_RED_CTL_REVERT = true →
    s.tokenHeld = true → s.active ≠ h → s.tcuState h = tsStandby →
    Runs .revertHoldoffExpiry s (fun u => u.up = s.up + (s.revertAt - s.up) ∧ u.active = h ∧ u.tcuState h = tsActive ∧ u.rd pageArb R.ARB.ARB_STAT_LAST_CAUSE = 3)) ∧
  (∀ (s : State) t, t < 2 → s.tokenHeld = false → s.tcuState t = tsCalibrating ∨ s.tcuState t = tsUpdating →
    Runs (.standbyReadyAfterAbandon t) s (fun u => u.tokenHeld = true ∧ u.active = t ∧ u.tcuState t = tsActive)) ∧
  (∀ (s : State) old new cause, (old, new, cause) ∈ s.switch → new < 2 → s.pageOn (pageCtl new) → s.tokenHeld = true →
    Runs .switchEpoch s (fun u => u.switch = [] ∧ u.rd pageRind R.RIND.RIND_CLK_STAT_SDS_REF_SRC = 1 + s.active ∧ u.active = s.active ∧
      u.cause pageArb 0 = true ∧ u.cause (pageCtl new) 1 = true)) ∧
  (∀ (s : State), s.switch ≠ [] → s.tokenHeld = true → s.phase = .lastResort →
    Runs .lastResortExit s (fun u => u.phase = (if s.flag pageRind R.RIND.RIND_CLK_STAT_OSC_OK = true then .running else .oscLost) ∧
      u.switch = [] ∧ u.rd pageRind R.RIND.RIND_CLK_STAT_SDS_REF_SRC = 1 + s.active))

/-- A resynchronisation ends in STANDBY with equal tables, or after 2 ms is tried once more and then ends in FAILED with code
0x05; a failed TCU begins again (R148, R153); resumed check words end the wait of the loser of a judgement (R164).
A failure in the active TCU moves the token to a STANDBY twin, and one in the standby leaves the token; either is shown
with its code (R148, R157).
Where the spec leaves something open here, the statement says what the model chose: log entries 36 and 38. -/
def Obligations.ResynchronisationEndsAndFailuresAreShown : Prop :=
  (∀ (s : State) t align, t < 2 → s.tcuState t = tsSyncing → s.tokenHeld = true → (s.tcu t).waitMirror = false → s.sameFormat = true → -3 ≤ align → align ≤ 3 →
    s.findOp 0x40 = none → s.findOp 0x41 = none →
    Runs (.resyncComplete t align) s (fun u => u.tcuState t = tsStandby ∧ u.flag (pageCtl t) R.CTL.TCU_MIRROR_STAT_TABLES_EQ = true ∧
      u.rd (pageCtl t) R.CTL.TCU_ALIGN_ERR = ofInt 16 align ∧ u.rd (pageCtl t) R.CTL.TCU_STAT_FAIL_CODE = 0)) ∧
  (∀ (s : State) t, t < 2 → s.tcuState t = tsSyncing → (s.tcu t).waitMirror = false → s.findOp 0x41 = none → (s.tcu t).tries = 0 →
    Runs (.resyncTimeout t) s (fun u => u.tcuState t = tsSyncing ∧ (u.tcu t).tries = 1)) ∧
  (∀ (s : State) t, t < 2 → s.tcuState t = tsSyncing → (s.tcu t).waitMirror = false → s.findOp 0x41 = none → (s.tcu t).tries ≠ 0 →
    s.active ≠ t → s.findOp 0x40 = none →
    Runs (.resyncTimeout t) s (fun u => u.tcuState t = tsFailed ∧ u.rd (pageCtl t) R.CTL.TCU_STAT_FAIL_CODE = 5)) ∧
  (∀ (s : State) t, t < 2 → s.tcuState t = tsFailed → s.rd (pageCtl t) R.CTL.TCU_STAT_FAIL_CODE = 5 → s.tokenHeld = true → s.active ≠ t →
    s.flag (pageCtl t) R.CTL.TCU_MIRROR_STAT_LINK_OK = true →
    Runs (.failedRetryExpiry t) s (fun u => u.tcuState t = tsSyncing ∧ (u.tcu t).tries = 0)) ∧
  (∀ (s : State) t, t < 2 → s.tcuState t = tsFailed → 1 ≤ s.rd (pageCtl t) R.CTL.TCU_STAT_FAIL_CODE →
    s.rd (pageCtl t) R.CTL.TCU_STAT_FAIL_CODE ≤ 3 → s.tokenHeld = true →
    Runs (.failCauseGone t) s (fun u => u.tcuState t = tsSyncing ∧ (u.tcu t).causeGone = true)) ∧
  (∀ (s : State) t, t < 2 → s.tcuState t = tsSyncing → (s.tcu t).waitMirror = true → s.tokenHeld = true → s.active ≠ t →
    Runs (.mirrorCheckWordsResumed t) s (fun u => u.flag (pageCtl t) R.CTL.TCU_MIRROR_STAT_LINK_OK = true ∧ u.tcuState t = tsSyncing ∧
      (u.tcu t).waitMirror = false)) ∧
  (∀ (s : State) code, s.tokenHeld = true → s.tcuState s.active = tsActive → s.tcuState (1 - s.active) = tsStandby →
    s.isOn (2 - s.active) = true → code < 256 → code ≠ 3 →
    Runs (.activeFailure code) s (fun u => u.tcuState s.active = tsFailed ∧ u.rd (pageCtl s.active) R.CTL.TCU_STAT_FAIL_CODE = code ∧
      u.tokenHeld = true ∧ u.active = 1 - s.active ∧ u.rd pageArb R.ARB.ARB_STAT_LAST_CAUSE = 2)) ∧
  (∀ (s : State) t code, t < 2 → s.tcuState t = tsStandby → s.tokenHeld = true → s.active ≠ t → code < 256 → code ≠ 3 →
    Runs (.standbyTcuFailure t code) s (fun u => u.tcuState t = tsFailed ∧ u.rd (pageCtl t) R.CTL.TCU_STAT_FAIL_CODE = code ∧
      u.tokenHeld = true ∧ u.active = s.active))

/-- Loss of lockstep, a double claim, a disagreement in time and its judgement (R159, R164, R165).
TCU_RED_CTL is written to both TCUs' pages (R160); a firmware update makes the standby UPDATING, and a good image takes the
other bank and sends the TCU into resynchronisation (R148, R162).
Where the spec leaves something open here, the statement says what the model chose: log entry 38. -/
def Obligations.TcuDisputesAndSettings : Prop :=
  (∀ (s : State), s.tokenHeld = true → s.tcuState (1 - s.active) = tsStandby → 16 ≤ (s.tcu s.active).lsHoop →
    Runs .lockstepLost s (fun u => u.tcuState (1 - s.active) = tsSyncing ∧ u.flag (pageCtl 0) R.CTL.TCU_MIRROR_STAT_LS_LOST = true ∧
      u.flag (pageCtl 1) R.CTL.TCU_MIRROR_STAT_LS_LOST = true)) ∧
  (∀ (s : State) w, w = s.straps.leadSel % 2 → s.tokenHeld = true → s.tcuState (1 - s.active) = tsStandby →
    Runs .dualClaim s (fun u => u.active = w ∧ u.tcuState (1 - w) = tsSyncing ∧ u.rd (pageCtl (1 - w)) R.CTL.TCU_STAT_FAIL_CODE = 3 ∧
      u.cause pageArb 1 = true)) ∧
  (∀ (s : State), s.tokenHeld = true → s.tcuState (1 - s.active) = tsStandby → s.judging = false →
    Runs .timeDisagree s (fun u => u.judging = true ∧ u.cause pageArb 2 = true ∧ u.active = s.active)) ∧
  (∀ (s : State) ms, s.judging = true →
    Runs (.timeJudgement ms) s (fun u => u.judging = false ∧
      u.rd pageArb R.ARB.ARB_JUDGE_A = satNat 32 ((ms.filter (fun m => s.isJudge m.1)).map (fun m => m.2.1.natAbs)).sum ∧
      u.rd pageArb R.ARB.ARB_JUDGE_B = satNat 32 ((ms.filter (fun m => s.isJudge m.1)).map (fun m => m.2.2.natAbs)).sum)) ∧
  (∀ (s : State), s.judging = true → s.tcuState (1 - s.active) = tsStandby →
    Runs (.timeJudgement []) s (fun u => u.flag pageArb R.ARB.ARB_STAT_UNDECIDED = true ∧ u.tcuState (1 - s.active) = tsSyncing ∧
      u.active = s.active)) ∧
  (∀ (s : State) ctx t v, t < 2 → v < 2 ^ 32 → s.writes ctx (pageCtl t) → s.allows (pageCtl t) 0x040 v →
    Runs (.tcuRedCtlWrite ctx t v) s (fun u => ∀ x, x < 2 → u.rd (pageCtl x) R.CTL.TCU_RED_CTL_REVERT = bits v 0 1 ∧
      u.rd (pageCtl x) R.CTL.TCU_RED_CTL_HOLD = bits v 4 12 ∧ u.rd (pageCtl x) R.CTL.TCU_RED_CTL_HOME = bits v 16 1)) ∧
  (∀ (s : State) q, s.accepts 0x40 q → s.tokenHeld = true → s.tcuState (1 - s.active) = tsStandby →
    Runs (.tcuFwStage q) s (fun u => u.tcuState (1 - s.active) = tsUpdating ∧ u.inFlight (s.cmdOf 0x40 q))) ∧
  (∀ (s : State) k t version fmt, s.findOp 0x40 = some k → k.stage = t + 1 → t < 2 → s.tcuState t = tsUpdating →
    fmt = s.rd (pageCtl (1 - t)) R.CTL.TCU_FW_VER_FMT → version < 2 ^ 16 →
    Runs (.tcuFwVerified true version fmt) s (fun u => u.rd (pageCtl t) R.CTL.TCU_FW_VER_VER = version ∧
      u.rd (pageCtl t) R.CTL.TCU_FW_VER_BANK = 1 - s.rd (pageCtl t) R.CTL.TCU_FW_VER_BANK ∧ u.tcuState t = tsSyncing))

/-- Each second a candidate's frequency offset is shown, and a QUALIFIED slot whose offset lies outside its window is FAILED with
reason 2 (R97, R100); loss fails a slot with reason 1 (R99); soaks that are met qualify a slot that has never been qualified, and
so does a wait-to-restore that has run out (R100); of two QUALIFIED slots that disagreed for three seconds the one outside its
frequency window is FAILED (R104); windows and soaks are those that the last evaluation took (R101).
A write of a parameter register of a slot takes effect in every field, and a changed frequency sends an enabled slot back to
SOAKING (R101); so does a changed lane of its SyncE selector (R95, R101); forced holdover is entered at once (R103, R109).
Where the spec leaves something open here, the statement says what the model chose: log entries 23 and 43. -/
def Obligations.CandidatesAndSelectionSettings : Prop :=
  (∀ (s : State) t m, t < 2 →
    Runs (.candSecondEval t [m]) s (fun u => u.rdI (pageRefsel t) R.REFSEL.CAND_FOFS (m.slot % 16) = satInt 32 m.fofs)) ∧
  (∀ (s : State) t m, t < 2 → m.slot < 16 → s.decides t = true → s.cstate t m.slot = csQual → s.srcAvail t (s.csrc t m.slot) = true →
    m.fofs.natAbs > s.rdI (pageRefsel t) R.REFSEL.CAND_FWIN m.slot →
    Runs (.candSecondEval t [m]) s (fun u => u.cstate t m.slot = csFailed ∧ u.rdI (pageRefsel t) R.REFSEL.CAND_STAT_REASON m.slot = 2)) ∧
  (∀ (s : State) t k, t < 2 → k < 16 → s.decides t = true → s.cstate t k = csSoaking ∨ s.cstate t k = csWait ∨ s.cstate t k = csQual →
    Runs (.candLoss t k) s (fun u => u.cstate t k = csFailed ∧ u.rdI (pageRefsel t) R.REFSEL.CAND_STAT_REASON k = 1 ∧
      u.rdI (pageRefsel t) R.REFSEL.CAND_STAT_TIMER k = 0)) ∧
  (∀ (s : State) t k, t < 2 → k < 16 → s.decides t = true → s.cstate t k = csSoaking → (s.cand t k).good = true → (s.cand t k).wasQual = false →
    (s.cand t k).fSoak ≤ (s.cand t k).fGood → (s.cand t k).pSoak ≤ (s.cand t k).pGood →
    Runs (.candSoakComplete t k) s (fun u => u.cstate t k = csQual ∧ bitAt (u.rd (pageRefsel t) R.REFSEL.REFSEL_STAT_QUAL) k = true)) ∧
  (∀ (s : State) t k, t < 2 → k < 16 → s.decides t = true → s.cstate t k = csWait → s.rdI (pageRefsel t) R.REFSEL.CAND_STAT_TIMER k = 0 →
    Runs (.candWtrComplete t k) s (fun u => u.cstate t k = csQual ∧ bitAt (u.rd (pageRefsel t) R.REFSEL.REFSEL_STAT_QUAL) k = true)) ∧
  (∀ (s : State) t i j, t < 2 → i < j → j < 16 → s.decides t = true → s.isQual t i = true → s.isQual t j = true →
    3 ≤ look 0 (s.tcu t).dis (16 * i + j) → (s.cfofs t i).natAbs ≤ (s.cand t i).fwin → (s.cfofs t j).natAbs > (s.cand t j).fwin →
    Runs (.disagreementDetected t i j) s (fun u => u.cstate t j = csFailed ∧ u.rdI (pageRefsel t) R.REFSEL.CAND_STAT_REASON j = 2 ∧
      u.cstate t i = csQual)) ∧
  (∀ (s : State) ctx t k r v, t < 2 → k < 16 → r < 7 → v < 2 ^ 32 → s.writes ctx (pageRefsel t) → s.allows (pageRefsel t) (0x100 + 0x20 * k + 4 * r) v →
    Runs (.candCfgWrite ctx t k r v) s (fun u => ∀ fi ∈ fieldsAt .refsel (0x100 + 0x20 * k + 4 * r),
      u.rdI (pageRefsel t) fi.1 fi.2 = bits v fi.1.lo fi.1.w)) ∧
  (∀ (s : State) ctx t k v, t < 2 → k < 16 → v < 2 ^ 30 → s.decides t = true → s.writes ctx (pageRefsel t) → s.allows (pageRefsel t) (0x104 + 0x20 * k) v →
    s.csrc t k ≠ 0 → s.rdI (pageRefsel t) R.REFSEL.CAND_CFG_EN k = 1 → s.cstate t k ≠ csDisabled → v ≠ s.rdI (pageRefsel t) R.REFSEL.CAND_FREQ k →
    Runs (.candCfgWrite ctx t k 1 v) s (fun u => u.cstate t k = csSoaking)) ∧
  (∀ (s : State) ctx t v, t < 2 → v < 2 ^ 32 → s.writes ctx (pageRefsel t) → s.allows (pageRefsel t) 0x060 v →
    Runs (.refselSynceWrite ctx t v) s (fun u => u.rd (pageRefsel t) R.REFSEL.REFSEL_SYNCE_LANE0 = bits v 0 6 ∧
      u.rd (pageRefsel t) R.REFSEL.REFSEL_SYNCE_LANE1 = bits v 8 6 ∧
      ∀ k, k < 16 → s.decides t = true → s.csrc t k = 0x18 → s.cstate t k ≠ csDisabled → bits v 0 6 ≠ s.rd (pageRefsel t) R.REFSEL.REFSEL_SYNCE_LANE0 →
        u.cstate t k = csSoaking)) ∧
  (∀ (s : State) ctx t v, t < 2 → v < 2 ^ 32 → s.writes ctx (pageRefsel t) → s.allows (pageRefsel t) 0x040 v →
    Runs (.refselCtlWrite ctx t v) s (fun u => u.rd (pageRefsel t) R.REFSEL.REFSEL_CTL_MODE = bits v 0 2 ∧
      u.rd (pageRefsel t) R.REFSEL.REFSEL_CTL_FORCE_SLOT = bits v 4 4 ∧ u.rd (pageRefsel t) R.REFSEL.REFSEL_CTL_DRIFT_EN = bits v 8 1 ∧
      (s.decides t = true → bits v 0 2 = 2 → u.selState t = ssHoldover)))

/-- The servo shows the selected candidate's offset, on the standby too, and asks for an acquisition of time where time is not valid and the seconds
are known (R106, R107, R108, R149); a declared lock is LOCKED (R109); a second of holdover is counted (R111).
An output's pulse is placed at the instant its schedule gives (R116), and a clock's cycle begins at a rising edge of its divider,
shifted by at most one interpolator step more (R115), a re-phasing that waits bending that cycle (R92); an aligned output gathers edges, predicts from a whole
average that fits its period, and flywheels when the edges stop (R118, R119).
Where the spec leaves something open here, the statement says what the model chose: log entries 42 and 44. -/
def Obligations.ServoHoldoverAndOutputsRun : Prop :=
  (∀ (s : State) t x sel, t < 2 → (s.tcu t).clk = true → s.curSel t = some sel →
    Runs (.servoUpdate t x) s (fun u => u.rd (pageRefsel t) R.REFSEL.REFSEL_OFFSET = satInt 32 (s.selOffset t sel x).1)) ∧
  (∀ (s : State) t x sel, t < 2 → s.decides t = true → (s.tcu t).clk = true → s.curSel t = some sel → s.timeValid = false →
    (16 ≤ sel ∨ s.cclass t sel ≠ 0) → (s.selOffset t sel x).2 = true → (s.tcu t).step = none → (s.tcu t).acquired = false →
    s.phase ≠ .oscLost →
    Runs (.servoUpdate t x) s (fun u => (u.tcu t).step = some ⟨divEven ((s.selOffset t sel x).1 * 65536) 1000, true, false⟩)) ∧
  (∀ (s : State) t a, t < 2 → s.decides t = true → s.selState t = ssAcquiring → (s.tcu t).within = some a →
    Runs (.lockDeclared t) s (fun u => u.up = s.up + (a + s.rd (pageRefsel t) R.REFSEL.REFSEL_LOCK_SOAK * 1000000 - s.up) ∧ u.selState t = ssLocked ∧ (u.tcu t).wasLocked = true ∧ (u.tcu t).frozen = false)) ∧
  (∀ (s : State) t, t < 2 → s.decides t = true → s.selState t = ssHoldover →
    Runs (.holdoverSecond t) s (fun u => u.rd (pageHold t) R.HOLD.HOLD_ELAPSED = satNat 32 (s.rd (pageHold t) R.HOLD.HOLD_ELAPSED + 1) ∧
      u.selState t = ssHoldover)) ∧
  (∀ (s : State) t n, t < 2 → n < 8 → s.rd (pageOut t n) R.OUT.OUT_CTL_MODE ≠ 0 → s.rd (pageOut t n) R.OUT.OUT_PERIOD ≠ 0 →
    s.outAligned (pageOut t n) = false → (s.tcu t).clk = true → s.outQuiet t n = false → s.atBall t = true →
    Runs (.outputPulseInstant t n) s (fun u => (∃ l, u.out = l ++ Out.pulse t n (s.outNext t n (s.outFrom t n)).1
        (s.outNext t n (s.outFrom t n)).2.1 (s.flag (pageOut t n) R.OUT.OUT_CTL_INV) :: s.out) ∧
      (u.outp t n).started = true ∧ (u.outp t n).last = some ((s.outNext t n (s.outFrom t n)).1, (s.outNext t n (s.outFrom t n)).2.1))) ∧
  (∀ (s : State) t n x, t < 2 → n < 8 → s.rd (pageOut t n) R.OUT.OUT_CTL_MODE = 0 → s.rd (pageOut t n) R.OUT.OUT_DIV_INT ≠ 0 →
    (s.tcu t).clk = true → s.outQuiet t n = false → s.atBall t = true → x = s.clkNext t n →
    Runs (.outputPulseInstant t n) s (fun u => (u.outp t n).clk = some x.1 ∧ (u.outp t n).started = true ∧
      (u.outp t n).step = shiftTo (s.outp t n).step (s.clkSteps t n) x.2 ∧ u.up = s.up + ((x.1 / vcoNs).toNat - s.up) ∧
      u.out = Out.clock t n (u.clkPlace t x.1 (u.outp t n).step) (u.clkHigh t n x.1 (u.outp t n).step)
        (s.flag (pageOut t n) R.OUT.OUT_CTL_INV) :: ((s.outp t n).shift.toList.map (fun d =>
          Out.rephase t n (u.clkPlace t (x.1 + s.clkPeriod t n + d) (u.outp t n).step)) ++ s.out))) ∧
  (∀ (s : State) t n, t < 2 → n < 8 → s.outAligned (pageOut t n) = true → (s.outp t n).averaging = true →
    s.avgNeed (pageOut t n) ≤ (s.outp t n).edges.length →
    0 < divEven (average ((s.outp t n).edges.take (s.avgNeed (pageOut t n)))).2 1000 →
    divEven (average ((s.outp t n).edges.take (s.avgNeed (pageOut t n)))).2 1000 % s.rd (pageOut t n) R.OUT.OUT_PERIOD = 0 →
    Runs (.outAlignAverageDone t n) s (fun u => (u.outp t n).pred = some (average ((s.outp t n).edges.take (s.avgNeed (pageOut t n)))) ∧
      (u.outp t n).edges = [] ∧ (u.outp t n).avgAt = (s.tcu t).now)) ∧
  (∀ (s : State) t n x c, t < 2 → n < 8 → s.outAligned (pageOut t n) = true → s.alignChannel t n = some c → (s.outp t n).averaging = true →
    Runs (.outAlignEdge t n x) s (fun u => (u.outp t n).edges = (x :: (s.outp t n).edges).take 64 ∧ u.rd (pageOut t n) R.OUT.OUT_STAT_TDC = c % 32)) ∧
  (∀ (s : State) t n, t < 2 → n < 8 → s.pageOn (pageOut t n) → s.rd (pageOut t n) R.OUT.OUT_STAT_ALIGN = 2 →
    Runs (.outAlignTimeout t n) s (fun u => u.rd (pageOut t n) R.OUT.OUT_STAT_ALIGN = 3 ∧ u.cause (pageOut t n) 1 = true))

/-- A message of an instance is classified by the role table where it arrives (R124, R130); an event message that leaves by a port
enters the transmit FIFO of each powered TCU (R129); a trunk counts the event messages that pass (R210); the oldest stored
residence expires (R135).
The host reads the transmit FIFO through the read buffer, clears a tracker at the next epoch, and pushes a first sample, which
loads DOM_OFS (R79, R129, R140, R141); TIME_DOMAIN_SELECT follows the domain it names, and ends WRONG_STATE where that domain's instance
tracks, is not QUALIFIED or lies further than PTP_SW_MAX away (R143 to R145).
Where the spec leaves something open here, the statement says what the model chose: log entries 40 and 41. -/
def Obligations.PtpMessagesAndHostCommands : Prop :=
  (∀ (s : State) f m i, s.frame f ≠ noFrame → (s.frame f).decided = false → (s.frame f).host = false → (s.frame f).seen = false →
    msgOf (s.frame f).octets = some m → s.isLane (s.frame f).port = false → s.instOf (s.frame f).port m = some i →
    (hdrOf (s.frame f).octets).da ≠ 0x0180C200000E →
    s.actAt i (s.frame f).port m = .residence →
    s.flag (s.ptpPage i) R.PTP.PTP_CTL_TC_COPY = false →
    Runs (.ptpMessageRx f) s (fun u => ∃ q, (u.frame f).ptp = some q ∧ q.inst = some i ∧ q.correct = true ∧
      q.at_ = (s.frame f).stamp ∧ q.steps = (s.frame f).steps ∧ q.link = s.linkDelay i (s.frame f).port)) ∧
  (∀ (s : State) p x v c m i tpcs, p < 48 → s.tx p = x → x.kind = .copy v c → x.patch = [] → x.left = false → s.isLane p = false →
    msgOf (s.copyOctets c (s.frame c.frame).octets) = some m → (s.frame c.frame).origin = none → (s.frame c.frame).ptp = none →
    s.instOf p m = some i → isEventMsg m.typ = true → ((s.frame c.frame).host = true ∨ s.actAt i p m = .residence) →
    Runs (.ptpEventTx p tpcs) s (fun u => ∀ t, t < 2 → s.pwr (1 + t) = 2 → (look [] s.txts (2 * t + i)).length < 256 →
      look [] u.txts (2 * t + i) = look [] s.txts (2 * t + i) ++
        [stampWords (s.txStamp p tpcs) s.stepCount (!s.timeValid) p true false m])) ∧
  (∀ (s : State) p x v c m i tpcs, p < 48 → s.tx p = x → x.kind = .copy v c → s.isLane p = true →
    msgOf (s.copyOctets c (s.frame c.frame).octets) = some m → (s.frame c.frame).origin = none → (s.frame c.frame).ptp = none →
    s.instOf p m = some i → isEventMsg m.typ = true →
    Runs (.ptpEventTx p tpcs) s (fun u => u.rd (pageNT (p / 4)) R.NT.CNT_PTP_PASS = satNat 32 (s.rd (pageNT (p / 4)) R.NT.CNT_PTP_PASS + 1))) ∧
  (∀ (s : State) p e l, p < 48 → look [] s.fus p = e :: l →
    Runs (.fuEntryExpiry p) s (fun u => look [] u.fus p = l ∧ u.up = s.up + (e.expires - s.up))) ∧
  (∀ (s : State) ctx t i ws l, t < 2 → i < 2 → s.reads ctx (pagePtp t i) → look [] s.txts (2 * t + i) = ws :: l →
    Runs (.ptpTxts0Read ctx t i) s (fun u => s.returned u ctx (regAddr (pagePtp t i) 0x0A0) (ws.getD 0 0 % 2 ^ 32) ∧
      (∀ k, k < 4 → u.rdI (pagePtp t i) R.PTP.PTP_TXTS k = ws.getD k 0 % 2 ^ 32) ∧ look [] u.txts (2 * t + i) = ws :: l)) ∧
  (∀ (s : State) ctx t i ws l, t < 2 → i < 2 → s.reads ctx (pagePtp t i) → look [] s.txts (2 * t + i) = ws :: l →
    Runs (.ptpTxts3Read ctx t i) s (fun u =>
      s.returned u ctx (regAddr (pagePtp t i) 0x0AC) (s.rdI (pagePtp t i) R.PTP.PTP_TXTS 3) ∧
      look [] u.txts (2 * t + i) = l ∧ u.rd (pagePtp t i) R.PTP.PTP_TXTS_LEVEL = l.length % 2 ^ 9)) ∧
  (∀ (s : State) ctx t i, t < 2 → i < 2 → s.writes ctx (pagePtp t i) →
    Runs (.ptpTrkClear ctx t i) s (fun u => (look {} (u.tcu t).trks i).clear = true ∧ (look {} (u.tcu t).trks i).ofs = (look {} (s.tcu t).trks i).ofs)) ∧
  (∀ (s : State) ctx t i, t < 2 → i < 2 → s.writes ctx (pagePtp t i) → s.flag (pagePtp t i) R.PTP.PTP_TRK_CTL_MODE = false →
    s.decides t = true → (look {} (s.tcu t).trks i).loaded = false →
    ((s.tcu t).now : Int) ≤ s.smpInstant t (pagePtp t i) + 2000000000 →
    Runs (.ptpSmpPush ctx t i) s (fun u => (look {} (u.tcu t).trks i).ofs = s.smpOfs (pagePtp t i) ∧ (look {} (u.tcu t).trks i).loaded = true)) ∧
  (∀ (s : State) q k d, s.accepts 0x43 q → k = s.cmdOf 0x43 q → k.arg 0 = d → s.tokenHeld = true → s.active < 2 →
    Runs (.timeDomainSelect q) s (fun u =>
      if s.followed s.active = d then u.statusOf k = stOk ∧ u.followed s.active = d
      else if s.flag (pagePtp s.active d) R.PTP.PTP_TRK_CTL_MODE = true ∨ s.rd (pagePtp s.active d) R.PTP.PTP_STAT_STATE ≠ csQual ∨
        (look {} (s.tcu s.active).trks d).ofs.natAbs > s.rd (pagePtp s.active d) R.PTP.PTP_SW_MAX * 2 ^ 48 then
        u.statusOf k = stWrongState ∧ u.followed s.active = s.followed s.active
      else u.followed s.active = d))

/-- An owner's aligned write of a word acts on each field by its access type (R8, R38). On every page but ESPARE, its domain on or off
(R25): RW fields of the header take their bits (HDR_INT_ENABLE, HDR_INT_ROUTE), a 1 clears a W1C bit (HDR_INT_CAUSE, HDR_ERR_CAUSE,
whose last bit releases the capture, R36, R37) but for a cause whose condition lasts, a 1 sets a W1S bit and a 0 does not
(HDR_OWNER.LOCKED), and RO fields stand. On a page whose domain is on, an encoding that is not listed leaves its field, records
ACC_ENC and lets the other fields of the word be written (HDR_COMMIT_AT, CMD_SIZE, R7, R40, R48); an RWS field takes what is written
(CAL_CTL.USE_RESTORED, THERM_CTL, R387, R396). That a cause lasts is the model's choice (log entry 16).
Where the spec leaves something open here, the statement says what the model chose: log entries 16, 18 and 20. -/
def Obligations.AnOwnersWriteTakesEffect : Prop :=
  (∀ (s : State) ctx p v, (pageBlk p).isSome → p ≠ pageEspare → s.canAccess ctx = true → s.owner p = ctx →
    Runs (.registerWrite ctx (regAddr p 0x010) 4 v) s (fun u => u.rd p R.HDR.HDR_INT_ENABLE = v % 2 ^ 30 ∧
      (∀ q f i, f.inPage i = true → q ≠ p ∨ f.place i ≠ R.HDR.HDR_INT_ENABLE.place 0 → u.rdI q f i = s.rdI q f i) ∧
      u.shmem = s.shmem ∧ u.tabs = s.tabs ∧ u.image = s.image ∧ u.gwTpl = s.gwTpl ∧ u.cadTab = s.cadTab ∧ u.otp = s.otp)) ∧
  (∀ (s : State) ctx p v, (pageBlk p).isSome → p ≠ pageEspare → s.canAccess ctx = true → s.owner p = ctx →
    Runs (.registerWrite ctx (regAddr p 0x014) 4 v) s (fun u => u.rd p R.HDR.HDR_INT_ROUTE_CTX_MASK = bits v 0 4 ∧
      u.rd p R.HDR.HDR_INT_ROUTE_FOLLOW_OWNER = bits v 4 1 ∧
      (∀ q f i, f.inPage i = true → q ≠ p ∨ f.word i ≠ 5 → u.rdI q f i = s.rdI q f i))) ∧
  (∀ (s : State) ctx p v, (pageBlk p).isSome → p ≠ pageEspare → s.canAccess ctx = true → s.owner p = ctx →
    Runs (.registerWrite ctx (regAddr p 0x00C) 4 v) s (fun u =>
      (∀ b, b < 30 → b ≠ 0 ∨ [some .tdc, some .ptp, some .enge].contains (pageBlk p) = false → u.cause p b = (s.cause p b && !bitAt v b)) ∧
      (∀ q f i, f.inPage i = true → q ≠ p ∨ f.word i ≠ 3 → u.rdI q f i = s.rdI q f i))) ∧
  (∀ (s : State) ctx p v, (pageBlk p).isSome → p ≠ pageEspare → s.canAccess ctx = true → s.owner p = ctx →
    Runs (.registerWrite ctx (regAddr p 0x018) 4 v) s (fun u =>
      (∀ b, b < 6 → bitAt (u.rd p R.HDR.HDR_ERR_CAUSE_ACC) b = (bitAt (s.rd p R.HDR.HDR_ERR_CAUSE_ACC) b && !bitAt v b)) ∧
      (∀ b, b < 3 → bitAt (u.rd p R.HDR.HDR_ERR_CAUSE_INTEG) b = (bitAt (s.rd p R.HDR.HDR_ERR_CAUSE_INTEG) b && !bitAt v (8 + b))) ∧
      (u.rd p R.HDR.HDR_ERR_CAUSE_ACC = 0 → u.rd p R.HDR.HDR_ERR_CAUSE_INTEG = 0 → u.flag p R.HDR.HDR_ERR_CAPTURE_VALID = false) ∧
      (∀ q f i, f.inPage i = true → q ≠ p ∨ (f.word i ≠ 6 ∧ f.word i ≠ 7) → u.rdI q f i = s.rdI q f i))) ∧
  (∀ (s : State) p v, (pageBlk p).isSome → p ≠ pageEspare → s.canAccess 0 = true →
    Runs (.registerWrite 0 (regAddr p 0x004) 4 v) s (fun u =>
      u.flag p R.HDR.HDR_OWNER_LOCKED = (s.flag p R.HDR.HDR_OWNER_LOCKED || bitAt v 8))) ∧
  (∀ (s : State) ctx p off v, (pageBlk p).isSome → p ≠ pageEspare → s.canAccess ctx = true → s.owner p = ctx →
    [0x000, 0x008, 0x01C, 0x028, 0x02C].contains off = true →
    Runs (.registerWrite ctx (regAddr p off) 4 v) s (fun u => (∀ q f i, f.inPage i = true → u.rdI q f i = s.rdI q f i) ∧
      u.shmem = s.shmem ∧ u.tabs = s.tabs ∧ u.image = s.image ∧ u.gwTpl = s.gwTpl ∧ u.cadTab = s.cadTab ∧ u.otp = s.otp)) ∧
  (∀ (s : State) ctx p b v, pageBlk p = some b → p ≠ pageEspare → s.writes ctx p → s.armed p = false →
    Runs (.registerWrite ctx (regAddr p 0x024) 4 v) s (fun u => u.rd p R.HDR.HDR_COMMIT_AT_AT_SEC = bits v 16 16 ∧
      (if boundaryOffered b (bits v 0 3) = true then u.boundary p = bits v 0 3
       else u.boundary p = s.boundary p ∧ bitAt (u.rd p R.HDR.HDR_ERR_CAUSE_ACC) 1 = true ∧ u.cause p 24 = true) ∧
      (∀ q f i, f.inPage i = true → q ≠ p ∨ (f.word i ≠ 9 ∧ f.word i ≠ 3 ∧ f.word i ≠ 6 ∧ f.word i ≠ 7) →
        u.rdI q f i = s.rdI q f i))) ∧
  (∀ (s : State) c v, c < 4 → s.writes c (pageHC c) →
    Runs (.registerWrite c (regAddr (pageHC c) 0x050) 4 v) s (fun u =>
      if 4 ≤ bits v 0 4 ∧ bits v 0 4 ≤ 12 then u.rd (pageHC c) R.HC.CMD_SIZE = bits v 0 4
      else u.rd (pageHC c) R.HC.CMD_SIZE = s.rd (pageHC c) R.HC.CMD_SIZE ∧ bitAt (u.rd (pageHC c) R.HDR.HDR_ERR_CAUSE_ACC) 1 = true)) ∧
  (∀ (s : State) ctx v, s.writes ctx pageCaldir →
    Runs (.registerWrite ctx (regAddr pageCaldir 0x040) 4 v) s (fun u => u.rd pageCaldir R.CALDIR.CAL_CTL_USE_RESTORED = bits v 0 1)) ∧
  (∀ (s : State) ctx v, s.writes ctx pageSupply →
    Runs (.registerWrite ctx (regAddr pageSupply 0x0E0) 4 v) s (fun u =>
      if 400 ≤ bits v 0 12 ∧ bits v 0 12 ≤ 500 then u.rd pageSupply R.SUPPLY.THERM_CTL = bits v 0 12
      else u.rd pageSupply R.SUPPLY.THERM_CTL = s.rd pageSupply R.SUPPLY.THERM_CTL ∧
        bitAt (u.rd pageSupply R.HDR.HDR_ERR_CAUSE_ACC) 1 = true))

/-- A write of a register by a context that does not own its page, to a page whose domain is off, of another width or at an
unaligned offset, changes nothing but the error record of the page: the error is recorded there, and ERR is raised (R25, R34, R36,
R38). Which errors an access that breaks several rules records, and which registers the power and ownership rules take in, is as the
model reads the rules: log entries 17, 18, 20 and 22.
Where the spec leaves something open here, the statement says what the model chose: log entries 17, 18 and 22. -/
def Obligations.ARefusedWriteChangesOnlyTheErrorRecord : Prop :=
  ∀ (s : State) ctx a size v, a < 2 ^ 24 → s.canAccess ctx = true → (pageBlk (addrPage a)).isSome → s.writeErrs ctx a size ≠ 0 →
    Runs (.registerWrite ctx a size v) s (fun u =>
      (∀ q f i, f.inPage i = true → q ≠ addrPage a ∨ (f.word i ≠ 3 ∧ f.word i ≠ 6 ∧ f.word i ≠ 7) → u.rdI q f i = s.rdI q f i) ∧
      u.rd (addrPage a) R.HDR.HDR_ERR_CAUSE_ACC = s.rd (addrPage a) R.HDR.HDR_ERR_CAUSE_ACC ||| s.writeMask ctx a size (v % 2 ^ 32) % 64 ∧
      u.cause (addrPage a) 24 = true ∧ u.cmds = s.cmds ∧ u.tcus = s.tcus ∧
      u.shmem = s.shmem ∧ u.tabs = s.tabs ∧ u.image = s.image ∧ u.gwTpl = s.gwTpl ∧ u.cadTab = s.cadTab ∧ u.otp = s.otp)

/-- HC0 hands a page that is neither fixed nor locked to another context, and its TCU twin with it; the page and the previous
owner are told; HC0 locks the owner of both; a locked owner stands (R38, R39). -/
def Obligations.OwnershipPassesByHdrOwner : Prop :=
  (∀ (s : State) p n, (pageBlk p).isSome → fixedOwner p = false → s.canAccess 0 = true → s.flag p R.HDR.HDR_OWNER_LOCKED = false → n < 4 →
    Runs (.hdrOwnerWrite 0 p n) s (fun u => u.owner p = n ∧ u.owner (twin p) = n ∧
      (n ≠ s.owner p → u.cause p 25 = true ∧ u.cause (twin p) 25 = true ∧ (s.attached (s.owner p) = true → u.bcastSet (s.owner p) 5 = true)))) ∧
  (∀ (s : State) p n, (pageBlk p).isSome → fixedOwner p = false → s.canAccess 0 = true → s.flag p R.HDR.HDR_OWNER_LOCKED = false → n < 4 →
    Runs (.locked 0 p n) s (fun u => u.owner p = n ∧ u.owner (twin p) = n ∧ u.flag p R.HDR.HDR_OWNER_LOCKED = true ∧
      u.flag (twin p) R.HDR.HDR_OWNER_LOCKED = true)) ∧
  (∀ (s : State) p n, (pageBlk p).isSome → fixedOwner p = false → s.canAccess 0 = true → s.flag p R.HDR.HDR_OWNER_LOCKED = true → n < 4 →
    Runs (.hdrOwnerWrite 0 p n) s (fun u => u.owner p = s.owner p ∧ bitAt (u.rd p R.HDR.HDR_ERR_CAUSE_ACC) 2 = true))

/-- A write of a double-buffered field waits in its shadow, and is refused with ACC_ARMED while a commit is armed; ARM arms a
commit that waits for its boundary; CANCEL disarms it and keeps the shadow; ARM with an immediate boundary, and the boundary of
an armed commit when it comes, make what waits on a port page live, count the commit and raise COMMIT_DONE (R40).
Where the spec leaves something open here, the statement says what the model chose: log entries 3 and 25. -/
def Obligations.CommitsArmCancelAndTakeEffect : Prop :=
  (∀ (s : State) ctx p v, p < 48 → v < 2 ^ 32 → s.writes ctx (pagePort p) →
    Runs (.registerWrite ctx (regAddr (pagePort p) R.PORT.EXT_DLY_RX.off) 4 v) s (fun u =>
      u.rd (pagePort p) R.PORT.EXT_DLY_RX = s.rd (pagePort p) R.PORT.EXT_DLY_RX ∧
      if s.armed (pagePort p) = true then u.shadow = s.shadow ∧ bitAt (u.rd (pagePort p) R.HDR.HDR_ERR_CAUSE_ACC) 5 = true
      else look 0 u.shadow (R.PORT.EXT_DLY_RX.key (pagePort p) 0) = v)) ∧
  (∀ (s : State) ctx p, (pageBlk p).isSome → p ≠ pageEspare → s.writes ctx p → s.boundary p ≠ 0 → s.boundary p ≠ 7 →
    Runs (.arm ctx p) s (fun u => u.armed p = true ∧ u.shadow = s.shadow)) ∧
  (∀ (s : State) ctx p, (pageBlk p).isSome → p ≠ pageEspare → s.writes ctx p →
    Runs (.cancel ctx p) s (fun u => u.armed p = false ∧ u.shadow = s.shadow)) ∧
  (∀ (s : State) ctx p x, p < 48 → x < 2 ^ 32 → s.writes ctx (pagePort p) → s.boundary (pagePort p) = 0 → s.armed (pagePort p) = false →
    s.shadow.filter (fun e => onPages [pagePort p] e.1) = [(R.PORT.EXT_DLY_RX.key (pagePort p) 0, x)] →
    Runs (.arm ctx (pagePort p)) s (fun u => u.armed (pagePort p) = false ∧ u.cause (pagePort p) 28 = true ∧
      u.rd (pagePort p) R.HDR.HDR_SHADOW_CTL_SEQ = (s.rd (pagePort p) R.HDR.HDR_SHADOW_CTL_SEQ + 1) % 256 ∧
      u.rd (pagePort p) R.PORT.EXT_DLY_RX = x ∧ ∀ e ∈ u.shadow, onPages [pagePort p] e.1 = false)) ∧
  (∀ (s : State) p x y, p < 48 → x < 2 ^ 32 → s.armed (pagePort p) = true → s.armedPages = [pagePort p] → s.commitAt (pagePort p) = some y →
    s.shadow.filter (fun e => onPages [pagePort p] e.1) = [(R.PORT.EXT_DLY_RX.key (pagePort p) 0, x)] →
    Runs (.commitBoundary (pagePort p)) s (fun u => u.armed (pagePort p) = false ∧ u.cause (pagePort p) 28 = true ∧
      u.rd (pagePort p) R.HDR.HDR_SHADOW_CTL_SEQ = (s.rd (pagePort p) R.HDR.HDR_SHADOW_CTL_SEQ + 1) % 256 ∧
      u.rd (pagePort p) R.PORT.EXT_DLY_RX = x ∧ ∀ e ∈ u.shadow, onPages [pagePort p] e.1 = false))

/-- CTX_CTL enables the rings and chooses the interrupt (R52, R58); a PROD within the ring is taken, and one beyond it ignored with
RING_ERR (R48); a CONS that makes room lets a held completion be written (R52).
The next descriptor is fetched: a NOP completes with OK, and a command with AFTER_PREV waits while an earlier one of its
context runs (R50, R51, R52, R53).
Where the spec leaves something open here, the statement says what the model chose: log entries 7 and 33. -/
def Obligations.RingsAndDescriptorsAreHandled : Prop :=
  (∀ (s : State) c v, c < 4 → s.writes c (pageHC c) →
    Runs (.ctxCtlWrite c v) s (fun u => u.rd (pageHC c) R.HC.CTX_CTL_CMD_EN = bits v 0 1 ∧ u.rd (pageHC c) R.HC.CTX_CTL_CPL_EN = bits v 1 1 ∧
      u.rd (pageHC c) R.HC.CTX_CTL_INT_PIN = bits v 2 1)) ∧
  (∀ (s : State) c v, c < 4 → v < 2 ^ 32 → s.writes c (pageHC c) →
    Runs (.cmdProdWrite c v) s (fun u =>
      if (v + 2 ^ 32 - s.rd (pageHC c) R.HC.CMD_CONS) % 2 ^ 32 ≤ s.cmdSize c then u.rd (pageHC c) R.HC.CMD_PROD = v
      else u.rd (pageHC c) R.HC.CMD_PROD = s.rd (pageHC c) R.HC.CMD_PROD ∧ u.cause (pageHC c) 1 = true)) ∧
  (∀ (s : State) c v e, c < 4 → v < 2 ^ 32 → s.writes c (pageHC c) → (s.host c).held = [e] → s.flag (pageHC c) R.HC.CTX_CTL_CPL_EN = true →
    (s.rd (pageHC c) R.HC.CPL_PROD + 2 ^ 32 - v) % 2 ^ 32 < s.cplSize c →
    Runs (.cplConsWrite c v) s (fun u => u.rd (pageHC c) R.HC.CPL_CONS = v ∧ (u.host c).held = [] ∧
      u.rd (pageHC c) R.HC.CPL_PROD = (s.rd (pageHC c) R.HC.CPL_PROD + 1) % 2 ^ 32 ∧
      ∃ l w1, u.out = l ++ Out.completion c (e.handle + e.tag * 65536) w1 e.r0 e.r1 :: s.out)) ∧
  (∀ (s : State) c ws, c < 4 → s.mayFetch c = true → bits ((s.descWords c ws).getD 0 0) 0 8 = 0 → bits ((s.descWords c ws).getD 0 0) 9 7 = 0 →
    bits ((s.descWords c ws).getD 1 0) 12 20 = 0 → (pageBlk (bits ((s.descWords c ws).getD 1 0) 0 12)).isSome →
    Runs (.descriptorFetch c ws) s (fun u => u.rd (pageHC c) R.HC.CMD_CONS = (s.rd (pageHC c) R.HC.CMD_CONS + 1) % 2 ^ 32 ∧
      look { gen := 16, status := 0 } u.slots (slotKey c (handleOf (s.rd (pageHC c) R.HC.CMD_CONS) (s.cmdSize c))) =
        { gen := handleOf (s.rd (pageHC c) R.HC.CMD_CONS) (s.cmdSize c) / 4096, status := 0 })) ∧
  (∀ (s : State) c ws j, c < 4 → s.mayFetch c = true → bitAt ((s.descWords c ws).getD 0 0) 9 = true → j ∈ s.cmds → j.ctx = c →
    Runs (.descriptorFetch c ws) s (fun u => u.rd (pageHC c) R.HC.CMD_CONS = (s.rd (pageHC c) R.HC.CMD_CONS + 1) % 2 ^ 32 ∧
      ∃ k ∈ u.cmds, k.ctx = c ∧ k.count = s.rd (pageHC c) R.HC.CMD_CONS ∧ k.started = false))

/-- A pending interrupt of a PCIe context with MSI-X is sent when the host rearms it, when its holdoff ends and when MSI-X is
enabled; with nothing pending it stays armed (R57, R58).
The loss of a function's link detaches its context and tells HC0; its return attaches the context with its rings disabled
and empty; PE_PERST_N detaches every PCIe context (R47, R433).
Where the spec leaves something open here, the statement says what the model chose: log entries 6 and 28. -/
def Obligations.MessageInterruptsAndPcieLinks : Prop :=
  (∀ (s : State) c, c < 4 → s.writes c (pageHC c) → s.flag (pageHC c) R.HC.CTX_CTL_INT_PIN = false → s.kind c = kPcie →
    (s.host c).msix = true → (s.host c).holdoff = false →
    Runs (.intRearm c) s (fun u => if s.intTop c = 0 then (u.host c).armed = true
      else (u.host c).armed = false ∧ ∃ l, u.out = l ++ s.out ∧ Out.msix c ∈ l)) ∧
  (∀ (s : State) c, c < 4 → s.attached c = true → s.flag (pageHC c) R.HC.CTX_CTL_INT_PIN = false → s.kind c = kPcie →
    (s.host c).msix = true → (s.host c).armed = true →
    Runs (.intHoldoffExpiry c) s (fun u => if s.intTop c = 0 then (u.host c).armed = true ∧ (u.host c).holdoff = false
      else (u.host c).armed = false ∧ ∃ l, u.out = l ++ s.out ∧ Out.msix c ∈ l)) ∧
  (∀ (s : State) pf c, s.pfCtx pf = some c → s.attached c = true → s.flag (pageHC c) R.HC.CTX_CTL_INT_PIN = false →
    (s.host c).armed = true → (s.host c).holdoff = false →
    Runs (.msixEnable pf) s (fun u => (u.host c).msix = true ∧ if s.intTop c = 0 then (u.host c).armed = true
      else (u.host c).armed = false ∧ ∃ l, u.out = l ++ s.out ∧ Out.msix c ∈ l)) ∧
  (∀ (s : State) pf c, s.pfCtx pf = some c → s.attached c = true →
    Runs (.pcieLinkDown pf) s (fun u => u.attached c = false ∧ (u.host c).held = [] ∧ (u.host c).msix = false ∧
      (∀ k ∈ u.cmds, k.ctx ≠ c) ∧ (c ≠ 0 → s.attached 0 = true → u.bcastSet 0 7 = true))) ∧
  (∀ (s : State) pf c, s.pfCtx pf = some c → s.attached c = false → s.perstHigh = true → s.phase ≠ .reset →
    Runs (.pcieLinkUp pf) s (fun u => u.attached c = true ∧ u.flag (pageHC c) R.HC.CTX_CTL_CMD_EN = false ∧
      u.flag (pageHC c) R.HC.CTX_CTL_CPL_EN = false ∧ u.rd (pageHC c) R.HC.CMD_PROD = 0 ∧ u.rd (pageHC c) R.HC.CMD_CONS = 0 ∧
      u.rd (pageHC c) R.HC.CMD_SIZE = 6 ∧ u.rd (pageHC c) R.HC.CPL_PROD = 0 ∧ u.rd (pageHC c) R.HC.CPL_CONS = 0)) ∧
  (∀ (s : State), Runs .pePerstAssert s (fun u => u.perstHigh = false ∧ ∀ c, c < 4 → s.kind c = kPcie → u.attached c = false)) ∧
  (∀ (s : State), Runs .pePerstRelease s (fun u => u.perstHigh = true ∧ u.regs = s.regs))

/-- A whole SPI frame is a register access of the context bound to the port, and one cut short has no effect (R44); an in-band
request from the address and port that HP_INB names is executed and its reply waits for that port, and a request repeated is answered
with the stored reply (R45). The order of the octets of a field, most significant first, and the wait are the model's choices.
Where the spec leaves something open here, the statement says what the model chose: log entries 12 and 79. -/
def Obligations.SpiAndInbandFramesAreAccesses : Prop :=
  (∀ (s : State) spi c p v n, s.spiCtx spi = some c → (pageBlk p).isSome → p ≠ pageEspare → s.writes c p →
    Runs (.spiWriteFrame spi n (regAddr p 0x010) v) s (fun u =>
      u.rd p R.HDR.HDR_INT_ENABLE = if n < 64 then s.rd p R.HDR.HDR_INT_ENABLE else v % 2 ^ 30)) ∧
  (∀ (s : State) spi c p n, s.spiCtx spi = some c → (pageBlk p).isSome → pageBlk p ≠ some .hc → s.reads c p → 96 ≤ n →
    Runs (.spiReadFrame spi n (regAddr p 0x010)) s (fun u =>
      ∃ l, u.out = l ++ Out.spiStatus c 0 :: Out.read c (regAddr p 0x010) (s.rd p R.HDR.HDR_INT_ENABLE) :: s.out)) ∧
  (∀ (s : State) port sa p seq v, s.kind 3 = kInband → port = s.rd pageInb R.INB.INB_PORT →
    sa = s.rd pageInb R.INB.INB_SA_HI * 2 ^ 32 + s.rd pageInb R.INB.INB_SA_LO → (s.host 3).inbLast = none →
    (pageBlk p).isSome → p ≠ pageEspare → s.writes 3 p → seq < 2 ^ 16 → v < 2 ^ 30 →
    Runs (.inbandRequest port sa ([1] ++ beOct 2 seq ++ [1] ++ [2] ++ beOct 3 (regAddr p 0x010) ++ beOct 4 v)) s (fun u =>
      u.rd p R.HDR.HDR_INT_ENABLE = v ∧
      ∃ l, (u.host 3).inbq = (s.host 3).inbq ++ ([1] ++ beOct 2 seq ++ [1] ++ [2] ++ beOct 3 (regAddr p 0x010) ++ beOct 4 v) :: l)) ∧
  (∀ (s : State) port sa seq reply ops, s.kind 3 = kInband → s.canAccess 3 = true → port = s.rd pageInb R.INB.INB_PORT →
    sa = s.rd pageInb R.INB.INB_SA_HI * 2 ^ 32 + s.rd pageInb R.INB.INB_SA_LO → (s.host 3).inbLast = some (seq, reply) → seq < 2 ^ 16 →
    ops.length = 8 →
    Runs (.inbandRequest port sa ([1] ++ beOct 2 seq ++ [1] ++ ops)) s (fun u => u.regs = s.regs ∧
      ∃ l, (u.host 3).inbq = (s.host 3).inbq ++ reply :: l))

/-- NOP completes with OK; CMD_QUERY returns the status known under a handle in word 2 of its completion; CMD_ABORT aborts a
command that AFTER_PREV holds back, if its opcode can be aborted (R53, R54, R56).
Where the spec leaves something open here, the statement says what the model chose: log entries 29 and 33. -/
def Obligations.ControlCommandsComplete : Prop :=
  (∀ (s : State) q, s.accepts 0x00 q →
    Runs (.nop q) s (fun u => u.statusOf (s.cmdOf 0x00 q) = 0 ∧ ¬ u.inFlight (s.cmdOf 0x00 q))) ∧
  (∀ (s : State) q, s.accepts 0x02 q → s.attached (q.ctx % 4) = true → s.cplRoom (q.ctx % 4) = true → (s.host (q.ctx % 4)).held = [] →
    (s.cmdOf 0x02 q).arg 0 % 4096 ≠ (s.cmdOf 0x02 q).handle % 4096 →
    Runs (.cmdQuery q) s (fun u => ∃ l w0 w1, u.out = l ++ Out.completion (q.ctx % 4) w0 w1
      (look { gen := 16, status := 0 } s.slots (q.ctx % 4 * 4096 + (s.cmdOf 0x02 q).arg 0 % 4096)).status 0 :: s.out)) ∧
  (∀ (s : State) q j, s.accepts 0x01 q → j.count ≠ q.count → j.handle ≠ (s.cmdOf 0x01 q).handle → j.started = false → s.abortable j = true →
    s.handleLive (q.ctx % 4) ((s.cmdOf 0x01 q).arg 0 % 65536) = true →
    s.byHandle (q.ctx % 4) ((s.cmdOf 0x01 q).arg 0 % 65536) = some j →
    Runs (.cmdAbort q) s (fun u => u.statusOf j = 0x09 ∧ ∀ k ∈ u.cmds, k.ctx ≠ j.ctx ∨ k.count ≠ j.count))

/-- DOMAIN_ON and DOMAIN_OFF that keep the rules of R24 show 01 and 11 in `PWR_STAT` and run; the end of the wipe shows 10, and
isolation 00, when nothing is left of the domain's memories (R24, R26, R398).
Where the spec leaves something open here, the statement says what the model chose: log entries 18 and 39. -/
def Obligations.DomainsSwitchOnAndOff : Prop :=
  (∀ (s : State) q, s.accepts 0x10 q → s.lifeCycle ≠ 3 → s.pwr ((s.cmdOf 0x10 q).arg 0) = 0 → s.ruleOn ((s.cmdOf 0x10 q).arg 0) = 0 →
    Runs (.domainOn q) s (fun u => u.pwr ((s.cmdOf 0x10 q).arg 0) = 1 ∧ u.inFlight (s.cmdOf 0x10 q))) ∧
  (∀ (s : State) d, d ∈ domains → s.pwr d = 1 → s.wiping = false ∨ (s.findCmd 0x10 d).isSome = true →
    Runs (.domainWipeDone d) s (fun u => u.pwr d = 2 ∧ (d = 3 → u.tabs = []) ∧ (d = 5 → u.engines = [] ∧ u.shmem = []))) ∧
  (∀ (s : State) q, s.accepts 0x11 q → s.pwr ((s.cmdOf 0x11 q).arg 0) = 2 → s.ruleOff ((s.cmdOf 0x11 q).arg 0) = 0 →
    (2 < (s.cmdOf 0x11 q).arg 0 ∨ s.tcuState (domTcu ((s.cmdOf 0x11 q).arg 0)) ≠ tsFailed) →
    Runs (.domainOff q) s (fun u => u.pwr ((s.cmdOf 0x11 q).arg 0) = 3 ∧ u.inFlight (s.cmdOf 0x11 q))) ∧
  (∀ (s : State) d, d ∈ domains → s.pwr d = 3 →
    Runs (.domainIsolated d) s (fun u => u.pwr d = 0 ∧ (d = 3 → u.tabs = []) ∧ (d = 5 → u.engines = [] ∧ u.shmem = [])))

/-- DEVICE_RESET tells every attached context; when its delay ends, every register is at its reset value but the RWS fields, the
counts of R382 and the sensor readings, and no command is in flight; a power-on reset clears the RWS fields too (R8, R382, R391,
R399, R400).
Where the spec leaves something open here, the statement says what the model chose: log entries 14 and 73. -/
def Obligations.ResetsKeepOnlyWhatIsKept : Prop :=
  (∀ (s : State) q, s.accepts 0x12 q →
    Runs (.deviceReset q) s (fun u => u.inFlight (s.cmdOf 0x12 q) ∧ ∀ c, c < 4 → s.attached c = true → u.bcastSet c 6 = true)) ∧
  (∀ (s : State), s.phase ≠ .reset → (s.findOp 0x12).isSome →
    Runs .deviceResetDelayExpiry s (fun u => u.phase = .reset ∧ bitAt u.resetCauses 2 = true ∧ u.cmds = [] ∧ u.shmem = [] ∧ u.tabs = [] ∧
      u.image = [] ∧ u.gwTpl = [] ∧ u.cadTab = [] ∧
      ∀ p f i, u.rdI p f i = if rwsKeys.contains (f.key p i) ∨ calCountKey (f.key p i) ∨ sensorKey (f.key p i) then s.rdI p f i
        else f.reset p i % 2 ^ f.w)) ∧
  (∀ (s : State), Runs .powerOnReset s (fun u => u.phase = .reset ∧ bitAt u.resetCauses 0 = true ∧
    u.rd pageRind R.RIND.RIND_RESET_CAUSE_CAUSES = 1 ∧ u.rd pageRind R.RIND.RIND_RESET_CAUSE_COUNT = 0 ∧
    u.rd pagePwr R.PWR.PWR_BOOT_OFF_GRP = 0 ∧ ∀ p, u.rd p R.HDR.HDR_CAL_COUNT = 0)) ∧
  (∀ (s : State), Runs .porst s (fun u => u.phase = .reset ∧ bitAt u.resetCauses 1 = true ∧ u.porstLow = true)) ∧
  (∀ (s : State) i, i < 6 → Runs (.supplySag i) s (fun u => u.phase = .reset ∧ bitAt u.resetCauses 3 = true ∧ u.sagSupply = i))

/-- The qualification of OSC_IN ends the wait for it and the Oscillator lost phase, whoever holds the token, and the Last resort phase
goes on; its loss leads from the Running to the Oscillator lost phase, and OSC_FAIL is raised to every attached context at a loss and
5 ms after release (R15, R16, R17). A TCU whose start-up runs have ended, and do not wait for RESTORE_OPEN, is ready: it resynchronises
where another holds the token, takes it in the Last resort phase, and else waits for the first grant (R19, R88, R148, R380).
At release the straps are latched, the cause of the highest priority is shown, the SPI and in-band contexts are attached and
the leading TCU's domain switches on (R42, R397, R401, R404); when the wipe ends the memory windows open, the domains are on, but for
one that its own DOMAIN_ON switches on, the boot image is read, awaited or done without, and the TCUs start up, or wait for the first
section of the image where its calibration values are to be used (R397, R398, R403, R404, R408).
Where the spec leaves something open here, the statement says what the model chose: log entries 11, 75 and 76. -/
def Obligations.OscillatorReleaseAndWipeLeadToBoot : Prop :=
  (∀ (s : State), s.phase = .oscWait ∨ s.phase = .oscLost → s.straps.oscNom ≠ 3 →
    Runs .oscQualify s (fun u => u.phase = .running ∧ u.flag pageRind R.RIND.RIND_CLK_STAT_OSC_OK = true ∧
      u.rd pageRind R.RIND.RIND_CLK_STAT_RIND_SRC = 1 ∧ u.flag pageRind R.RIND.RIND_CLK_STAT_CORE_LOCK = true ∧
      u.rd pageRind R.RIND.RIND_CLK_STAT_PHASE = 1)) ∧
  (∀ (s : State), s.phase = .lastResort → s.straps.oscNom ≠ 3 →
    Runs .oscQualify s (fun u => u.phase = .lastResort ∧ u.flag pageRind R.RIND.RIND_CLK_STAT_OSC_OK = true ∧
      u.rd pageRind R.RIND.RIND_CLK_STAT_RIND_SRC = 1)) ∧
  (∀ (s : State), s.phase = .oscWait →
    Runs .oscWaitTimeout s (fun u => u.phase = .oscWait ∧ u.flag pageRind R.RIND.RIND_CLK_STAT_OSC_FAIL = true ∧
      ∀ c, c < 4 → s.attached c = true → u.bcastSet c 0 = true)) ∧
  (∀ (s : State), s.phase = .lastResort → s.flag pageRind R.RIND.RIND_CLK_STAT_OSC_OK = true →
    Runs .oscDisqualify s (fun u => u.phase = .lastResort ∧ u.flag pageRind R.RIND.RIND_CLK_STAT_OSC_OK = false ∧
      u.rd pageRind R.RIND.RIND_CLK_STAT_RIND_SRC = 0 ∧ u.flag pageRind R.RIND.RIND_CLK_STAT_OSC_FAIL = true ∧
      ∀ c, c < 4 → s.attached c = true → u.bcastSet c 0 = true)) ∧
  (∀ (s : State), s.phase = .running →
    Runs .oscDisqualify s (fun u => u.phase = .oscLost ∧ u.flag pageRind R.RIND.RIND_CLK_STAT_OSC_OK = false ∧ u.timeValid = false ∧
      u.flag pageRind R.RIND.RIND_CLK_STAT_OSC_FAIL = true ∧ (∀ t, t < 2 → (u.tcu t).acquired = false) ∧
      ∀ c, c < 4 → s.attached c = true → u.bcastSet c 0 = true)) ∧
  (∀ (s : State) t hists lats, t < 2 → s.starting t = true → (s.tcu t).clk = true → (s.tcu t).ready = false → s.runsWait t = false →
    Runs (.tcuReady t hists lats) s (fun u => (u.tcu t).ready = true ∧
      (if s.tokenHeld = true then u.tcuState t = tsSyncing
       else if s.phase = .lastResort then u.tokenHeld = true ∧ u.active = t ∧ u.tcuState t = tsActive
       else u.tcuState t = tsStarting))) ∧
  (∀ (s : State) hc osc lead src, s.phase = .reset → s.thermalHold = false → s.lifeProg = none → lead < 2 →
    Runs (.resetRelease hc osc lead src) s (fun u => u.phase = .oscWait ∧ u.wiping = true ∧ u.straps = ⟨hc % 4, osc % 4, lead, src % 4⟩ ∧
      u.rd pageRind R.RIND.RIND_RESET_CAUSE_LAST = lastCause s.resetCauses ∧
      (∀ c, c < 4 → u.attached c = decide (hcKind hc c ≠ kPcie)) ∧
      (s.lifeCycle ≠ 3 → u.pwr (1 + lead) = 1))) ∧
  (∀ (s : State), s.wiping = true →
    Runs .wipeComplete s (fun u => u.wiping = false ∧ (∀ d ∈ domains, s.pwr d = 1 → s.findCmd 0x10 d = none → u.pwr d = 2) ∧
      (s.bootSrc ≤ 1 → u.flag pageBoot R.BOOT.BOOT_STAT_LOADING = true) ∧
      (s.bootSrc = 2 → u.flag pageBoot R.BOOT.BOOT_STAT_WAIT_PUSH = true) ∧
      (if s.flag pageCaldir R.CALDIR.CAL_CTL_USE_RESTORED = true ∧ s.bootSrc ≤ 1 ∧ s.bootNext = 0 then u.startWait = true
       else u.startWait = false ∧ ∀ t, t < 2 → s.pwr (1 + t) = 1 → s.findCmd 0x10 (1 + t) = none → u.tcuState t = tsStarting)))

/-- A supply's warning is shown, counted and told to every attached context, and its end is shown; a conversion shows the sensors
and the supplies, and two that read 135 °C on one sensor shut the device down; the governor steps down after DWELL, and the
shutdown ends below RELEASE (R392, R393, R394, R396).
Where the spec leaves something open here, the statement says what the model chose: log entry 74. -/
def Obligations.SuppliesAndSensorsAreWatched : Prop :=
  (∀ (s : State) i, i < 6 → s.phase ≠ .reset → bitAt (s.rd pageSupply R.SUPPLY.SUP_STAT_BELOW) i = false →
    Runs (.supplyWarn i) s (fun u => bitAt (u.rd pageSupply R.SUPPLY.SUP_STAT_BELOW) i = true ∧ bitAt (u.rd pageSupply R.SUPPLY.SUP_SEEN) i = true ∧
      u.rd pageSupply R.SUPPLY.SUP_CNT_WARN = satNat 32 (s.rd pageSupply R.SUPPLY.SUP_CNT_WARN + 1) ∧ u.cause pageSupply 0 = true ∧
      ∀ c, c < 4 → s.attached c = true → u.bcastSet c 1 = true)) ∧
  (∀ (s : State) i, i < 6 →
    Runs (.supplyBelowClear i) s (fun u => ∀ j, bitAt (u.rd pageSupply R.SUPPLY.SUP_STAT_BELOW) j =
      (bitAt (s.rd pageSupply R.SUPPLY.SUP_STAT_BELOW) j && decide (j ≠ i)))) ∧
  (∀ (s : State) ts mv, s.phase ≠ .reset → s.hot = 0 →
    Runs (.sensorConversion ts mv) s (fun u => ∀ k, k < 6 → u.rdI pageSupply R.SUPPLY.TS k = satInt 16 (ts.getD k 0) ∧
      u.rdI pageSupply R.SUPPLY.SUP_MV k = satNat 13 (mv.getD k 0))) ∧
  (∀ (s : State) ts mv k, k < 6 → bitAt s.hot k = true → 135 * 16 ≤ ts.getD k 0 →
    Runs (.sensorConversion ts mv) s (fun u => u.phase = .reset ∧ u.thermalHold = true ∧ bitAt u.resetCauses 4 = true)) ∧
  (∀ (s : State) a, s.thermalHold = false → s.coolAt = some a → s.rd pageSupply R.SUPPLY.BG_STAT_THERMAL ≠ 0 →
    s.tMax < s.bgT (s.rd pageSupply R.SUPPLY.BG_STAT_THERMAL) - 4 * (s.rd pageSupply R.SUPPLY.BG_CTL_HYST : Int) →
    Runs .bgDwellExpiry s (fun u => u.rd pageSupply R.SUPPLY.BG_STAT_THERMAL = s.rd pageSupply R.SUPPLY.BG_STAT_THERMAL - 1 ∧
      u.up = s.up + (a + s.rd pageSupply R.SUPPLY.BG_CTL_DWELL * 1000000 - s.up))) ∧
  (∀ (s : State) a, s.thermalHold = true → s.coolAt = some a → s.tMax < 4 * (s.rd pageSupply R.SUPPLY.THERM_CTL : Int) →
    Runs .thermalRelease s (fun u => u.thermalHold = false ∧ u.up = s.up + (a + 10000000 - s.up)))

/-- A verified engine image of the boot image is loaded and shown in LOADED (R406); a host push starts with its length and takes
its words (R409); when every condition of R410 holds the device is READY and shows how long it took.
A life-cycle advance is announced, resets the device, and leaves the new state when OTP is programmed (R411); a user word of OTP
takes the bits programmed, and the read-back is judged (R415). Once the outputs are driven IDCODE is shifted out, SAMPLE/PRELOAD puts out
what the boundary-scan register captures and takes what is shifted in, and EXTEST acts as BYPASS while PORST_N is high (R431, R434). A
block that wedges shows FAULT_CODE 0x02 (R36, R358), and in a TCU fails that TCU with code 0x06 (R148, R157).
Where the spec leaves something open here, the statement says what the model chose: log entries 76, 77 and 78. -/
def Obligations.TheBootImageAndOtpMoveForward : Prop :=
  (∀ (s : State) flash ver fmt e x nx, s.flag pageBoot R.BOOT.BOOT_STAT_LOADING = true → s.pushLen = none →
    bootHeaderBad flash = false → bootSection flash s.bootNext 32 = some (3, e, x, nx) → e < 8 → s.imageStatus e x x.length true = 0 →
    s.startWait = false → s.bootNext + 1 ≠ leWord flash 12 →
    Runs (.bootSectionLoaded flash false true ver fmt) s (fun u => u.bootNext = s.bootNext + 1 ∧
      bitAt (u.rd pageBoot R.BOOT.BOOT_STAT_LOADED) e = true ∧ (u.eng e).code = octets x 0x120 (imgCode x) ∧
      u.rd (pageEng e) R.ENGE.ENG_E_STAT_IMAGE = 2)) ∧
  (∀ (s : State) ctx v, v < 2 ^ 32 → s.writes ctx pageBoot → s.flag pageBoot R.BOOT.BOOT_STAT_WAIT_PUSH = true →
    Runs (.bootPushLenWrite ctx v) s (fun u => u.pushLen = some (v % 2 ^ 24) ∧ u.pushed = [] ∧ u.bootNext = 0 ∧
      u.flag pageBoot R.BOOT.BOOT_STAT_LOADING = true)) ∧
  (∀ (s : State) ctx v n, v < 2 ^ 32 → s.writes ctx pageBoot → s.pushLen = some n → s.pushed.length + 4 < n → s.pushed.length + 4 ≠ 32 →
    Runs (.bootPushDataWrite ctx v) s (fun u => u.pushed = s.pushed ++ leOct 4 v ∧ u.regs = s.regs)) ∧
  (∀ (s : State), s.readyNow = true → s.flag pageBoot R.BOOT.BOOT_STAT_READY = false →
    Runs .deviceReady s (fun u => u.flag pageBoot R.BOOT.BOOT_STAT_READY = true ∧ u.cause pageBoot 0 = true ∧
      u.rd pageBoot R.BOOT.BOOT_TIME = satNat 20 ((s.up - s.releasedAt) / 1000))) ∧
  (∀ (s : State) q, s.accepts 0x13 q →
    Runs (.lifecycleAdvance q) s (fun u => u.inFlight (s.cmdOf 0x13 q) ∧ ∀ c, c < 4 → s.attached c = true → u.bcastSet c 6 = true)) ∧
  (∀ (s : State) k, s.findOp 0x13 = some k →
    Runs .lifecycleHoldExpiry s (fun u => u.phase = .reset ∧ u.lifeProg.map (·.1) = some (k.arg 0) ∧ u.lifeCycle = s.lifeCycle)) ∧
  (∀ (s : State) n hash, s.lifeProg = some (n, hash) → bitAt s.resetCauses 4 = false → s.lifeCycle < n → n < 4 →
    Runs .lifecycleOtpDone s (fun u => u.lifeCycle = n ∧ u.phase = .reset ∧ bitAt u.resetCauses 5 = true)) ∧
  (∀ (s : State) ctx, s.writes ctx pageLc → s.lifeCycle < 2 → s.otpProg = none →
    Runs (.otpProg ctx) s (fun u => u.otpProg = some (s.rd pageLc R.LC.OTP_ADDR, s.rd pageLc R.LC.OTP_DATA) ∧
      u.flag pageLc R.LC.OTP_STAT_BUSY = true ∧ u.flag pageLc R.LC.OTP_STAT_FAIL = false)) ∧
  (∀ (s : State) a v got, s.otpProg = some (a, v) →
    Runs (.otpDone got) s (fun u => look 0 u.otp a = look 0 s.otp a ||| (v &&& got) ∧ u.flag pageLc R.LC.OTP_STAT_BUSY = false ∧
      (if look 0 s.otp a ||| (v &&& got) = look 0 s.otp a ||| v then u.cause pageLc 0 = true ∧ u.flag pageLc R.LC.OTP_STAT_FAIL = false
       else u.cause pageLc 1 = true ∧ u.flag pageLc R.LC.OTP_STAT_FAIL = true))) ∧
  (∀ (s : State) pins, s.outsOpen = true →
    Runs (.jtagInstruction 1 pins) s (fun u => u.tapIr = 1 ∧ ∃ l, u.out = l ++ Out.jtag 0x2B048B51 :: s.out)) ∧
  (∀ (s : State) x, s.outsOpen = true → s.porstLow = false →
    Runs (.jtagInstruction 2 x) s (fun u => u.bsr = x / 2 ^ scanChain.length % 2 ^ scanChain.length ∧
      ∃ l, u.out = l ++ Out.jtag (s.scanCapture x) :: s.out)) ∧
  (∀ (s : State) x, s.outsOpen = true → s.porstLow = false →
    Runs (.jtagInstruction 3 x) s (fun u => u.tapIr = 3 ∧ u.bsr = s.bsr ∧ ∃ l, u.out = l ++ Out.jtag 0 :: s.out)) ∧
  (∀ (s : State) p, (pageBlk p).isSome → s.pageOn p → isTcu p = false →
    Runs (.blockWedged p) s (fun u => u.flag p R.HDR.HDR_STATUS_FAULT = true ∧ u.rd p R.HDR.HDR_STATUS_FAULT_CODE = 2)) ∧
  (∀ (s : State) t, t < 2 → s.pageOn (pageTime t) → s.tcuState t = tsStandby → (s.tokenHeld = true → s.active ≠ t) →
    Runs (.blockWedged (pageTime t)) s (fun u => u.rd (pageTime t) R.HDR.HDR_STATUS_FAULT_CODE = 2 ∧ u.tcuState t = tsFailed ∧
      u.rd (pageCtl t) R.CTL.TCU_STAT_FAIL_CODE = 6))

/-- PORT_ENABLE takes a DISABLED port to the first state of its mode and completes (R171, R177); an exchange of pages resolves to the
highest ability that the page sent has in common with the partner's, refuses FEC, or shows that nothing is common (R172, R173); a page
that differs from the one that caused a refusal has the full AN_ADV sent again (R173); Clause 37 completes or is bypassed, and the port
is UP (R174, R177).
A preset sets the taps to 0, 40 and 0 and is answered as updated (R176); the states of R177 follow the end of training, the
wait, the back-off, frame lock, the quiet time and the return of signal, not-ready frames go out in BACKOFF and WAIT_SIGNAL, and the
attempts are counted (R177, R178).
Where the spec leaves something open here, the statement says what the model chose: log entry 56. -/
def Obligations.PortsNegotiateAndTrain : Prop :=
  (∀ (s : State) q p m, s.accepts 0x20 q → (s.cmdOf 0x20 q).arg 0 = p → (s.cmdOf 0x20 q).arg 1 % 16 = m → s.tokenHeld = true →
    s.isOn (8 + p / 8) = true → s.isLane p = false → s.link p = lkDisabled →
    Runs (.portEnable q) s (fun u => u.mode p = m ∧ u.link p = (if m = 0 then lkAn else if trained m then lkTraining else lkLocking) ∧
      (u.lane p).on = true ∧ u.statusOf (s.cmdOf 0x20 q) = 0)) ∧
  (∀ (s : State) p lp, p < 48 → s.pageOn (pagePort p) → s.link p = lkAn → (s.lane p).withdrawn = none →
    Runs (.anResolved p lp) s (fun u => u.rd (pagePort p) R.PORT.AN_LP_VALID = 1 ∧
      match s.anCommon p lp with
      | none => u.flag (pagePort p) R.PORT.AN_RES_NO_COMMON = true ∧ u.link p = lkAn
      | some b =>
        if b < 9 then u.mode p = (if b = 2 then 3 else 1) ∧ u.cause (pagePort p) 2 = true
        else if bitAt lp 24 = true ∨ bitAt lp 25 = true then u.flag (pagePort p) R.PORT.AN_RES_FEC_REFUSED = true ∧ u.link p = lkAn ∧ u.cause (pagePort p) 7 = true
        else u.mode p = (if s.flag (pagePort p) R.PORT.TRAIN_CTL_MEDIUM then 5 else 6) ∧ u.link p = lkTraining ∧ u.cause (pagePort p) 2 = true)) ∧
  (∀ (s : State) p lp x, p < 48 → s.link p = lkAn → (s.lane p).withdrawn = some x → x ≠ techBits lp → bitAt lp 24 = false → bitAt lp 25 = false →
    Runs (.anResolved p lp) s (fun u => (u.lane p).withdrawn = none ∧ u.flag (pagePort p) R.PORT.AN_RES_FEC_REFUSED = false ∧
      bitAt (u.lane p).adv 9 = s.flag (pagePort p) R.PORT.AN_ADV_A9 ∧ bitAt (u.lane p).adv 10 = s.flag (pagePort p) R.PORT.AN_ADV_A10 ∧
      Out.anPage p (u.lane p).adv (s.flag (pagePort p) R.PORT.AN_ADV_EEE) ∈ u.out)) ∧
  (∀ (s : State) p, p < 48 → s.inC37 p = true → s.flag (pagePort p) R.PORT.PORT_STAT_HI_BER = false →
    Runs (.clause37LinkTimer p) s (fun u => u.flag (pagePort p) R.PORT.AN_RES_BYPASS = true ∧ u.link p = lkUp)) ∧
  (∀ (s : State) p pause asm, p < 48 → s.inC37 p = true → s.flag (pagePort p) R.PORT.PORT_STAT_HI_BER = false →
    Runs (.clause37Complete p pause asm) s (fun u => u.flag (pagePort p) R.PORT.AN_LP_PAUSE = pause ∧ u.flag (pagePort p) R.PORT.AN_LP_ASM_DIR = asm ∧
      u.flag (pagePort p) R.PORT.AN_RES_BYPASS = false ∧ u.link p = lkUp)) ∧
  (∀ (s : State) p a b c, p < 48 → s.link p = lkTraining →
    Runs (.trainingRequest p 1 a b c) s (fun u => u.rd (pagePort p) R.PORT.TX_FIR_LIVE_C_PRE = 0 ∧ u.rd (pagePort p) R.PORT.TX_FIR_LIVE_C_MAIN = 40 ∧
      u.rd (pagePort p) R.PORT.TX_FIR_LIVE_C_POST = 0 ∧ ∃ l, u.out = l ++ Out.trainStatus p 1 1 1 :: s.out)) ∧
  (∀ (s : State) p, p < 48 → s.link p = lkTraining → s.flag (pagePort p) R.PORT.PORT_STAT_BLOCK_LOCK = false →
    Runs (.trainingComplete p) s (fun u => u.link p = lkLocking)) ∧
  (∀ (s : State) p, p < 48 → s.pageOn (pagePort p) → s.link p = lkTraining →
    Runs (.maxWaitExpiry p) s (fun u => u.link p = (if (s.lane p).an = true then lkAn else lkBackoff) ∧ u.cause (pagePort p) 3 = true ∧
      ((s.lane p).an = false → Out.notReady p ∈ u.out ∧ (u.lane p).till = s.up + backoffSec ((s.lane p).fails + 1) * 1000000000) ∧
      u.rd (pagePort p) R.PORT.CNT_TRAIN_FAIL = satNat 32 (s.rd (pagePort p) R.PORT.CNT_TRAIN_FAIL + 1))) ∧
  (∀ (s : State) p, p < 48 → s.link p = lkBackoff →
    Runs (.backoffExpiry p) s (fun u => u.link p = lkTraining ∧ u.up = s.up + ((s.lane p).till - s.up) ∧
      u.rd (pagePort p) R.PORT.PORT_STAT_ATTEMPTS = satNat 8 (s.rd (pagePort p) R.PORT.PORT_STAT_ATTEMPTS + 1))) ∧
  (∀ (s : State) p, p < 48 → s.link p = lkBackoff → Runs (.trainingFrameLock p) s (fun u => u.link p = lkTraining)) ∧
  (∀ (s : State) p, p < 48 → s.link p = lkQuiet →
    Runs (.quietExpiry p) s (fun u => u.link p = (if (s.lane p).an = true then lkAn else lkWait) ∧ (u.lane p).on = true ∧
      ((s.lane p).an = false → Out.notReady p ∈ u.out))) ∧
  (∀ (s : State) p, p < 48 → s.link p = lkWait → s.signal p = true → Runs (.signalStable p) s (fun u => u.link p = lkTraining))

/-- What the receiver of a lane reports is shown, counted and raised (R168, R179); a port that locks is UP, and one that loses block
lock for long leaves UP (R177).
A measurement borrows the set out of service of a locked lane with two sets, waits while the Cave calibrates it, and ends with its
count (R182); low-power idle is entered where nothing waits and left for a frame (R184, R185).
Where the spec leaves something open here, the statement says what the model chose: log entries 56 and 64. -/
def Obligations.ReceiversEyesAndLowPowerIdle : Prop :=
  (∀ (s : State) p, p < 48 → s.pageOn (pagePort p) → s.signal p = true → s.isLane p = false → s.link p = lkTraining →
    Runs (.losDeclared p true) s (fun u => u.signal p = false ∧ u.link p = lkQuiet ∧ (u.lane p).on = false ∧ u.cause (pagePort p) 5 = true ∧
      u.rd (pagePort p) R.PORT.CNT_LOS = satNat 32 (s.rd (pagePort p) R.PORT.CNT_LOS + 1))) ∧
  (∀ (s : State) p, p < 48 → s.isOn (8 + p / 8) = true → Runs (.losCleared p) s (fun u => u.signal p = true ∧ u.link p = s.link p)) ∧
  (∀ (s : State) p, p < 48 → s.pageOn (pagePort p) → s.link p = lkLocking → s.mode p ≠ 1 →
    Runs (.blockLockGained p) s (fun u => u.flag (pagePort p) R.PORT.PORT_STAT_BLOCK_LOCK = true ∧ u.link p = lkUp ∧ u.cause (pagePort p) 0 = true)) ∧
  (∀ (s : State) p sh, p < 48 → s.pageOn (pagePort p) → s.isLane p = false → s.link p = lkUp → s.flag (pagePort p) R.PORT.PORT_STAT_BLOCK_LOCK = true →
    (s.lane p).an = false → trained (s.mode p) = false →
    Runs (.blockLockLost p true sh) s (fun u => u.flag (pagePort p) R.PORT.PORT_STAT_BLOCK_LOCK = false ∧ u.link p = lkLocking ∧
      u.cause (pagePort p) 1 = true ∧
      u.rd (pagePort p) R.PORT.CNT_BLOCK_LOCK_LOSS = satNat 32 (s.rd (pagePort p) R.PORT.CNT_BLOCK_LOCK_LOSS + 1) ∧
      u.rd (pagePort p) R.PORT.CNT_LINK_DOWN = satNat 32 (s.rd (pagePort p) R.PORT.CNT_LINK_DOWN + 1))) ∧
  (∀ (s : State) p sh, p < 48 → s.pageOn (pagePort p) → s.laneOn p = true → s.isLane p = false → s.link p ≠ lkUp →
    s.flag (pagePort p) R.PORT.PORT_STAT_HI_BER = false →
    Runs (.hiBerSet p sh) s (fun u => u.flag (pagePort p) R.PORT.PORT_STAT_HI_BER = true ∧ u.cause (pagePort p) 4 = true ∧
      u.rd (pagePort p) R.PORT.CNT_HI_BER = satNat 32 (s.rd (pagePort p) R.PORT.CNT_HI_BER + 1) ∧ u.link p = s.link p)) ∧
  (∀ (s : State) p, p < 48 → s.isOn (8 + p / 8) = true → bitAt (s.rd (pageGrp (p / 8)) R.GRP.G_STAT_PLL) (p % 8) = true → s.laneOn p = true →
    Runs (.lanePllLost p false) s (fun u => bitAt (u.rd (pageGrp (p / 8)) R.GRP.G_STAT_PLL) (p % 8) = false ∧ u.cause (pageGrp (p / 8)) 0 = true)) ∧
  (∀ (s : State) ctx p v, p < 48 → v < 2 ^ 32 → s.writes ctx (pagePort p) → s.allows (pagePort p) 0x0B0 (v / 2 * 2 + 1) →
    s.flag (pagePort p) R.PORT.EYE_CTL_START = false → s.flag (pagePort p) R.PORT.PORT_STAT_BLOCK_LOCK = true → (s.lane p).retired = 0 →
    Runs (.eyeStart ctx p v) s (fun u =>
      if (s.lane p).calibrating = true then u.flag (pagePort p) R.PORT.EYE_STAT_WAIT = true
      else u.flag (pagePort p) R.PORT.EYE_STAT_BUSY = true ∧ (u.lane p).borrowed = true)) ∧
  (∀ (s : State) p errs, p < 48 → s.pageOn (pagePort p) → s.flag (pagePort p) R.PORT.EYE_STAT_BUSY = true →
    Runs (.eyeDone p errs) s (fun u => u.rd (pagePort p) R.PORT.EYE_ERR = satNat 32 errs ∧ u.flag (pagePort p) R.PORT.EYE_STAT_BUSY = false ∧
      u.flag (pagePort p) R.PORT.EYE_STAT_ABORTED = false ∧ u.cause (pagePort p) 6 = true)) ∧
  (∀ (s : State) p, p < 48 → s.eee p = true → Runs (.lpiEnter p true) s (fun u => u.flag (pagePort p) R.PORT.PORT_STAT_LPI_RX = true)) ∧
  (∀ (s : State) p, p < 48 → s.eee p = true → s.sends p = false → s.keptAwake p = false →
    Runs (.lpiEnter p false) s (fun u => u.flag (pagePort p) R.PORT.PORT_STAT_LPI_TX = true)) ∧
  (∀ (s : State) p, p < 48 → Runs (.lpiWake p false) s (fun u => u.flag (pagePort p) R.PORT.PORT_STAT_LPI_TX = false)) ∧
  (∀ (s : State) p, p < 48 → Runs (.lpiWake p true) s (fun u => u.flag (pagePort p) R.PORT.PORT_STAT_LPI_RX = false))

/-- A port that is disabled with DISCARD and has nothing queued is DISABLED at once, and one that drains waits, and is DISABLED at its
limit or when its work has gone (R55); a queue closes at QUEUE_DISABLE and opens at QUEUE_ENABLE (R308); a trunk's work is drained
likewise (R220).
Where the spec leaves something open here, the statement says what the model chose: log entry 30. -/
def Obligations.DisableCommandsDrainTheirWork : Prop :=
  (∀ (s : State) q p, s.accepts 0x21 q → (s.cmdOf 0x21 q).arg 0 = p → bitAt ((s.cmdOf 0x21 q).arg 1) 0 = false → s.isLane p = false →
    s.link p ≠ lkDisabled → Runs (.portDisable q) s (fun u => u.link p = s.link p ∧ u.inFlight (s.cmdOf 0x21 q))) ∧
  (∀ (s : State) q p, s.accepts 0x21 q → (s.cmdOf 0x21 q).arg 0 = p → bitAt ((s.cmdOf 0x21 q).arg 1) 0 = true → s.isLane p = false →
    s.link p ≠ lkDisabled → s.voqs = [] → (s.tx p).kind = .idle →
    Runs (.portDisable q) s (fun u => u.link p = lkDisabled ∧ (u.lane p).on = false ∧ u.statusOf (s.cmdOf 0x21 q) = 0)) ∧
  (∀ (s : State) p k, p < 48 → s.findCmd 0x21 p = some k → k.ctx < 4 → s.handleLive k.ctx k.handle = true → s.current k = k → k.r0 = 0 → s.voqs = [] → (s.tx p).kind = .idle →
    Runs (.drainComplete 0x21 p) s (fun u => u.link p = lkDisabled ∧ u.statusOf k = 0)) ∧
  (∀ (s : State) p k, p < 48 → s.findCmd 0x21 p = some k → k.ctx < 4 → s.handleLive k.ctx k.handle = true → s.current k = k → k.stage = 0 → k.r0 = 0 → s.voqs = [] → (s.tx p).kind = .idle →
    Runs (.drainLimitExpiry 0x21 p) s (fun u => u.up = s.up + (k.since + k.arg 2 * 1000 - s.up) ∧ u.link p = lkDisabled ∧ u.statusOf k = 0)) ∧
  (∀ (s : State) q n, s.accepts 0x23 q → (s.cmdOf 0x23 q).arg 0 = n → bitAt ((s.cmdOf 0x23 q).arg 1) 0 = false → s.tstate n ≠ tkDisabled →
    s.tstate n ≠ tkFallback → Runs (.trunkDisable q) s (fun u => u.tstate n = s.tstate n ∧ u.inFlight (s.cmdOf 0x23 q))) ∧
  (∀ (s : State) q, s.accepts 0x24 q → bitAt ((s.cmdOf 0x24 q).arg 1) 8 = false →
    Runs (.queueDisable q) s (fun u => u.inFlight (s.cmdOf 0x24 q) ∧ ∀ v ∈ queueNames (s.cmdOf 0x24 q), (u.voq v).opened = false)) ∧
  (∀ (s : State) q, s.accepts 0x25 q →
    Runs (.queueEnable q) s (fun u => u.statusOf (s.cmdOf 0x25 q) = 0 ∧ ∀ v ∈ queueNames (s.cmdOf 0x25 q), (u.voq v).opened = true))

/-- The states of a trunk follow its enable, its training, its back-off, its quiet time, its alignment and its timers, with what each
counts and raises (R200, R201); a trunk on whose ports an enabled template stands is not enabled (R190).
Hellos that match three times in a row on every data lane bring a trunk UP with its partner's identity (R203); without agreement it
backs off (R201); pages of Clause 73 turn it into four ports, or are counted (R204); markers that stay away take it down (R208), and
Time blocks that stay away cost its candidates (R99, R208); a re-centring is counted (R217).
Where the spec leaves something open here, the statement says what the model chose: log entry 60. -/
def Obligations.TrunksFollowTheirStatesAndAgree : Prop :=
  (∀ (s : State) q n, s.accepts 0x22 q → (s.cmdOf 0x22 q).arg 0 = n → s.tokenHeld = true → s.isOn (8 + n / 2) = true →
    (∀ i, i < 4 → s.link (4 * n + i) = lkDisabled) → s.tstate n = tkDisabled → s.tplOnTrunk n = none →
    Runs (.trunkEnable q) s (fun u => u.tstate n = tkTraining ∧ u.inFlight (s.cmdOf 0x22 q) ∧ ∀ i, i < 4 → (u.lane (4 * n + i)).on = true)) ∧
  (∀ (s : State) q n k, s.accepts 0x22 q → (s.cmdOf 0x22 q).arg 0 = n → s.tplOnTrunk n = some k →
    Runs (.trunkEnable q) s (fun u => u.statusOf (s.cmdOf 0x22 q) = stWrongState ∧ u.tstate n = s.tstate n)) ∧
  (∀ (s : State) n, n < 12 → s.tstate n = tkTraining → Runs (.trunkTrainingComplete n) s (fun u => u.tstate n = tkAligning)) ∧
  (∀ (s : State) n, n < 12 → s.pageOn (pageNT n) → s.tstate n = tkTraining →
    Runs (.trunkMaxWaitExpiry n) s (fun u => u.tstate n = tkBackoff ∧ u.cause (pageNT n) 3 = true ∧
      u.rd (pageNT n) R.NT.CNT_TRAIN_FAIL = satNat 32 (s.rd (pageNT n) R.NT.CNT_TRAIN_FAIL + 1))) ∧
  (∀ (s : State) n, n < 12 → s.tstate n = tkBackoff → Runs (.trunkBackoffExpiry n) s (fun u => u.tstate n = tkTraining ∧ u.up = s.up + ((s.trunk n).till - s.up))) ∧
  (∀ (s : State) n, n < 12 → s.tstate n = tkBackoff → Runs (.trunkFrameLock n) s (fun u => u.tstate n = tkTraining)) ∧
  (∀ (s : State) n, n < 12 → s.tstate n = tkQuiet → Runs (.trunkQuietExpiry n) s (fun u => u.tstate n = tkWaitSig)) ∧
  (∀ (s : State) n, n < 12 → s.tstate n = tkWaitSig → (∀ i, i < 4 → s.signal (4 * n + i) = true) →
    Runs (.trunkSignalStable n) s (fun u => u.tstate n = tkTraining)) ∧
  (∀ (s : State) n skew, n < 12 → skew ≤ 16 → s.tstate n = tkAligning →
    (∀ i, i < 4 → s.flag (pagePort (4 * n + i)) R.PORT.PORT_STAT_BLOCK_LOCK = true ∧ s.flag (pagePort (4 * n + i)) R.PORT.PORT_STAT_HI_BER = false) →
    Runs (.trunkAligned n skew) s (fun u => u.tstate n = tkHello ∧ u.rd (pageNT n) R.NT.TRUNK_EB_SKEW = skew)) ∧
  (∀ (s : State) n, n < 12 → s.pageOn (pageNT n) → s.tstate n = tkAligning →
    Runs (.trunkAligningTimeout n) s (fun u => u.tstate n = tkBackoff ∧ u.cause (pageNT n) 3 = true)) ∧
  (∀ (s : State) n lane p gen feat, n < 12 → lane < 3 → s.pageOn (pageNT n) → s.tstate n = tkHello → blockOk kHello p = true → (helloOf p).lane = lane →
    s.resolveGen n (helloOf p) = some (gen, feat) → (helloOf p).ack = true → (helloOf p).genSel = gen → (helloOf p).feat = feat →
    3 ≤ (s.trunk n).run0 + b2n (lane == 0) → 3 ≤ (s.trunk n).run1 + b2n (lane == 1) → 3 ≤ (s.trunk n).run2 + b2n (lane == 2) →
    Runs (.helloRx n lane kHello p) s (fun u => u.tstate n = tkUp ∧ u.cause (pageNT n) 0 = true ∧
      u.rd (pageNT n) R.NT.TRUNK_PEER_NODE_ID = (helloOf p).node ∧ u.rd (pageNT n) R.NT.TRUNK_STAT_GEN = gen)) ∧
  (∀ (s : State) n, n < 12 → s.pageOn (pageNT n) → s.tstate n = tkHello →
    Runs (.helloTimeout n) s (fun u => u.tstate n = tkBackoff ∧ u.cause (pageNT n) 4 = true ∧
      u.rd (pageNT n) R.NT.CNT_HELLO_FAIL = satNat 32 (s.rd (pageNT n) R.NT.CNT_HELLO_FAIL + 1))) ∧
  (∀ (s : State) n, n < 12 → s.pageOn (pageNT n) → s.tstate n = tkTraining ∨ s.tstate n = tkBackoff ∨ s.tstate n = tkWaitSig →
    Runs (.clause73PagesRx n) s (fun u =>
      if (s.trunk n).fallback = true then u.tstate n = tkFallback ∧ u.cause (pageNT n) 2 = true ∧ ∀ i, i < 4 → u.link (4 * n + i) = lkAn
      else u.tstate n = s.tstate n ∧ u.cause (pageNT n) 9 = true)) ∧
  (∀ (s : State) n, n < 12 → s.pageOn (pageNT n) → s.tstate n = tkUp →
    Runs (.markerLoss n) s (fun u => (u.tstate n = tkTraining ∨ u.tstate n = tkQuiet) ∧ u.cause (pageNT n) 1 = true ∧
      u.rd (pageNT n) R.NT.CNT_DOWN = satNat 32 (s.rd (pageNT n) R.NT.CNT_DOWN + 1))) ∧
  (∀ (s : State) n t k, n < 12 → t < 2 → k < 16 → s.tstate n = tkUp → s.decides t = true → s.csrc t k = 8 + n → s.cstate t k = csQual →
    Runs (.timeBlockLoss n) s (fun u => u.cstate t k = csFailed ∧ u.rdI (pageRefsel t) R.REFSEL.CAND_STAT_REASON k = 1 ∧ u.tstate n = tkUp)) ∧
  (∀ (s : State) n v, n < 12 → s.pageOn (pageNT n) → s.tone n = true → (s.trunk n).fill 0 = v → v ≠ 0 →
    Runs (.recentre n 0) s (fun u => (u.trunk n).fill 0 = v - v.sign ∧ u.rd (pageNT n) R.NT.TRUNK_EB_EB0 = satInt 4 (v - v.sign) ∧ u.cause (pageNT n) 7 = true ∧
      u.rd (pageNT n) R.NT.CNT_RECENTRE = satNat 32 (s.rd (pageNT n) R.NT.CNT_RECENTRE + 1)))

/-- What a trunk sends: an epoch marker and a Marker block on each data lane, a Hello, a Time block with `TIME_VALID` and the cycle, and
the oldest Echo due, each with its CRC (R194, R197, R198, R206).
What a trunk receives: a block with a bad CRC is counted and nothing else (R199); a Marker block of lane +0 makes its Echo due
(R206), an Echo gives a round trip (R207), a Time block the partner's cycle and `TIME_VALID` (R198, R208), and a capture on the clock
lane joins its marker interval (R196, R207).
Where the spec leaves something open here, the statement says what the model chose: log entries 48 and 61. -/
def Obligations.TrunkBlocksAreSentAndReceived : Prop :=
  (∀ (s : State) n, n < 12 → s.tone n = true →
    Runs (.markerSend n) s (fun u => ∃ k l, (u.trunk n).sent = some k ∧ u.out = l ++ Out.marker n (k % 825) :: s.out ∧
      ∀ i, i < 3 → Out.block n i kMarker (sealBlock kMarker (markerBits k i)) ∈ l)) ∧
  (∀ (s : State) n lane, n < 12 → lane < 3 → s.tstate n = tkHello →
    Runs (.helloSend n lane) s (fun u => ∃ l, u.out = l ++ Out.block n lane kHello (sealBlock kHello (helloBits (s.ownHello n lane))) :: s.out)) ∧
  (∀ (s : State) n, n < 12 → s.tone n = true →
    Runs (.timeBlockSend n) s (fun u => ∃ l p, u.out = l ++ Out.block n 0 kTime p :: s.out ∧ bits p 0 26 = s.now / 2 ^ 52 % 2 ^ 26 ∧
      bitAt p 47 = s.timeValid ∧ blockOk kTime p = true)) ∧
  (∀ (s : State) n m x es, n < 12 → s.tone n = true → (s.trunk n).echoes = (m, x) :: es →
    Runs (.echoSend n) s (fun u => (u.trunk n).echoes = es ∧
      ∃ l, u.out = l ++ Out.block n 0 kEcho (sealBlock kEcho (m + ofInt 38 x * 2 ^ 10)) :: s.out)) ∧
  (∀ (s : State) n lane kind p tpcs, n < 12 → lane < 3 → s.tone n = true → blockOk kind p = false →
    Runs (.markerBlockRx n lane kind p tpcs) s (fun u =>
      u.rd (pageNT n) R.NT.CNT_BLK_CRC = satNat 32 (s.rd (pageNT n) R.NT.CNT_BLK_CRC + 1) ∧ u.trunk n = s.trunk n)) ∧
  (∀ (s : State) n p tpcs, n < 12 → s.tone n = true → blockOk kMarker p = true → bits p 0 10 ≤ 824 → bits p 10 7 = markOfs (bits p 0 10) →
    (s.trunk n).known = true →
    Runs (.markerBlockRx n 0 kMarker p tpcs) s (fun u => (u.trunk n).mark = bits p 0 10 ∧
      ∃ x, (u.trunk n).echoes = (s.trunk n).echoes ++ [(bits p 0 10, x)])) ∧
  (∀ (s : State) n p k x, n < 12 → s.tone n = true → blockOk kEcho p = true →
    (s.trunk n).us.find? (fun e => e.1 % 825 == bits p 0 10) = some (k, x) →
    Runs (.echoRx n kEcho p) s (fun u =>
      (u.trunk n).rtts = ((x + toInt 38 (bits p 10 38) * q10) :: (s.trunk n).rtts).take (s.window n))) ∧
  (∀ (s : State) n p, n < 12 → s.tone n = true → blockOk kTime p = true →
    Runs (.timeBlockRx n kTime p) s (fun u => (u.trunk n).known = true ∧ (u.trunk n).cyc = bits p 0 26 * 2 ^ 28 + (s.trunk n).cyc % 2 ^ 28 ∧
      u.flag (pageNT n) R.NT.TRUNK_STAT_PEER_TV = bitAt p 47)) ∧
  (∀ (s : State) t n raw m, t < 2 → n < 12 → s.tone n = true → (s.tcu t).clk = true → s.flag (pageTdc t n) R.TDC.TDC_STAT_CAL_RUNNING = false →
    Runs (.epochMarkerCapture t n raw false m) s (fun u => (u.ntTime t n).tones = s.clockArrival t n raw :: (s.ntTime t n).tones))

/-- A table or template write that breaks no rule is taken and reads back; one that breaks a rule is refused by its number and raises
the page's cause (R230, R237, R243).
Where the spec leaves something open here, the statement says what the model chose: log entry 63. -/
def Obligations.CadenceAndGatewayTablesAreWritten : Prop :=
  (∀ (s : State) ctx t, t < 2 → s.writes ctx (pageCad t) →
    Runs (.cadTblWrite ctx t) s (fun u =>
      let tbl := s.rd (pageCad t) R.CAD.CAD_TBL_SEL_TABLE
      let idx := s.rd (pageCad t) R.CAD.CAD_TBL_SEL_INDEX
      let ws := (List.range 4).map (s.cadStaged (pageCad t))
      u.rd (pageCad t) R.CAD.CAD_TBL_STAT_RESULT = s.cadResult (tbl * 8192 + idx) ws ∧
      if s.cadResult (tbl * 8192 + idx) ws = 0 then ∀ x, x < 2 → s.takesTables x = true → u.cadEntry x tbl idx = ws else u.cadTab = s.cadTab ∧ u.cause (pageCad t) 5 = true)) ∧
  (∀ (s : State) ctx t i, t < 2 → i < 4 → s.writes ctx (pageCad t) →
    Runs (.cadTblRead ctx t) s (fun u =>
      let w := (s.cadEntry t (s.rd (pageCad t) R.CAD.CAD_TBL_SEL_TABLE) (s.rd (pageCad t) R.CAD.CAD_TBL_SEL_INDEX)).getD i 0
      u.rdI (pageCad t) R.CAD.CAD_TBL_D_SLOT i = dstSlot w ∧ u.rdI (pageCad t) R.CAD.CAD_TBL_D_TARGET i = dstTarget w ∧
      u.rdI (pageCad t) R.CAD.CAD_TBL_D_HD i = dstHd w ∧ u.rdI (pageCad t) R.CAD.CAD_TBL_D_V i = b2n (dstOn w) ∧ u.cadTab = s.cadTab)) ∧
  (∀ (s : State) ctx t, t < 2 → s.writes ctx (pageGw t) →
    Runs (.gwTplWrite ctx t) s (fun u =>
      let k := s.rd (pageGw t) R.GW.GW_TPL_SEL
      u.rd (pageGw t) R.GW.GW_TPL_STAT_RESULT = s.gwResult k (s.gwStaged (pageGw t)) ∧
      if s.gwResult k (s.gwStaged (pageGw t)) = 0 then ∀ x, x < 2 → s.takesTables x = true → ∀ i, i < 8 →
        (look [] u.gwTpl (512 * x + k)).getD i 0 = (s.gwStaged (pageGw t)).getD i 0
      else u.gwTpl = s.gwTpl ∧ u.cause (pageGw t) 4 = true)) ∧
  (∀ (s : State) ctx t i, t < 2 → i < 8 → s.writes ctx (pageGw t) →
    Runs (.gwTplRead ctx t) s (fun u => u.gwTpl = s.gwTpl ∧ ∀ f ∈ R.GW.words.getD i [],
      u.rd (pageGw t) f = bits ((look [] s.gwTpl (512 * t + s.rd (pageGw t) R.GW.GW_TPL_SEL)).getD i 0) f.lo f.w))

/-- A hoop boundary restarts the count of mismatches and arms the event channels that INT_SRC arms there (R76, R159, R223); a good
cadence block is stored under its source position and counted (R232, R233); the slot that its table entry names sends it in time, with
its own CRC (R225, R228, R233).
The gateway sends or queues a template's frame at its release, takes a good inbound frame in its window, and fills the words of a
window that closed without a frame with poison (R237, R239, R240).
Where the spec leaves something open here, the statement says what the model chose: log entry 63. -/
def Obligations.CadenceBlocksAndGatewayFramesPass : Prop :=
  (∀ (s : State), 0 < s.hoop → (s.tcu s.active).clk = true → (s.hoopOf s.now + 1) * s.hoop < counterMod → s.active < 2 →
    Runs .hoopBoundary s (fun u => u.now = (s.hoopOf s.now + 1) * s.hoop ∧ ∀ t, t < 2 → (u.tcu t).lsHoop = 0 ∧
      ∀ c, isEvent c = true → (s.tcu t).clk = true → s.rd (pageTdc t c) R.TDC.TDC_ARM_SRC = 4 → s.rd (pageTdc t c) R.TDC.TDC_ARM_INT_SRC = 1 →
        (u.tdc t c).armed = true)) ∧
  (∀ (s : State) n lane p count tpcs mk hoop d rc, n < 12 → lane < 3 → s.tstate n = tkUp → s.cadOn = true → s.phase ≠ .lastResort →
    look 0 (s.trunk n).marks lane = mk + 1 →
    s.peerHoop n ((mk * 524288 + markOfs (mk % 825)) / 66 + (if count = 1 then 0 else count)) =
      some (hoop, 4 * d, rc, true) → 3 * d + lane < rc →
    bits p 48 8 = blockCrc 0xC3 (p % 2 ^ 48) → (s.src n (3 * d + lane) hoop).missed = false →
    Runs (.cadenceBlockRx n lane 0xC3 p count tpcs) s (fun u => (u.src n (3 * d + lane) hoop).blk = some (.good, p % 2 ^ 48, tpcs) ∧
      ∀ t, t < 2 → s.isOn (1 + t) = true →
        u.rdI (pageCad t) R.CAD.CNT_CAD_IN n = satNat 32 (s.rdI (pageCad t) R.CAD.CNT_CAD_IN n + 1))) ∧
  (∀ (s : State) n k m gb eq tbl idx hoop p t, n < 12 → k < s.rcFor n m → k < 8192 → s.cadOn = true → s.tstate n = tkUp → s.cadFrom ≤ m →
    s.fills n k m = some (tbl, idx, hoop) → s.phase ≠ .lastResort → s.disabling n = false → s.disabling tbl = false →
    (tbl < 12 → s.tstate tbl = tkUp) → (s.src tbl idx hoop).blk = some (.good, p, t) →
    0 ≤ (sentPos (s.slotPos n k m) : Int) * qBlock - t - 4 * qNs - egressCross (sentPos (s.slotPos n k m)) →
    Runs (.cadenceSlotSend n k m true gb eq) s (fun u => ∃ l, u.out = l ++ Out.block n (k % 3) 0xC3 (sealBlock 0xC3 p) :: s.out)) ∧
  (∀ (s : State) k m badB differ, k < 512 → s.flag (pageGw s.lead) R.GW.GW_CTL_EN = true → s.tplOn k = true → s.tplIn k = false → s.tplPort k < 48 →
    s.portUp (s.tplPort k) = true → s.isLane (s.tplPort k) = false → s.phase ≠ .lastResort → (∀ i, i < s.tplBits k 0 16 7 → s.fills 15 (s.tplBits k 1 0 13 + i) m = none) →
    Runs (.gwOutboundRelease k m [] badB differ) s (fun u => (u.tx (s.tplPort k)).kind = .gateway k ∨
      ∃ g ∈ look [] u.gwq (s.tplPort k), g.template = k ∧ g.stomp = false ∧
        g.octets = s.gwFrame k m (List.replicate (s.tplBits k 0 16 7) 0))) ∧
  (∀ (s : State) f tpcs k h, s.frame f ≠ noFrame → (s.frame f).host = false → (s.frame f).complete = false → (s.frame f).decided = false →
    s.gwMatch (s.frame f).port (s.frame f).octets = some k → judge (s.frame f) false false = .good →
    h = (tpcs / ((s.hoop : Int) * qNs)).toNat →
    (s.tplBits k 6 0 20 : Int) * qNs ≤ tpcs - (h * s.hoop : Nat) * qNs → tpcs - (h * s.hoop : Nat) * qNs ≤ (s.tplBits k 7 0 20 : Int) * qNs →
    s.gwHeaderOk k h (s.frame f).octets = true → look none s.gwWin k = none →
    Runs (.gwFrameRx f 0 false tpcs) s (fun u => look none u.gwWin k = some (h, true) ∧
      ∀ i, i < s.tplBits k 0 16 7 → (u.src 12 (s.tplBits k 1 0 13 + i) h).blk =
        some (.good, beAt (s.frame f).octets ((if s.tplVlan k then 26 else 22) + 6 * i) 6, tpcs + 8 * qNs))) ∧
  (∀ (s : State) k m, k < 512 → s.flag (pageGw s.lead) R.GW.GW_CTL_EN = true → s.tplOn k = true → s.tplIn k = true → look none s.gwWin k = none →
    Runs (.gwWindowClose k m) s (fun u => ∀ i, i < s.tplBits k 0 16 7 →
      ∃ t, (u.src 12 (s.tplBits k 1 0 13 + i) m).blk = some (.poison, poisonBits 0 5 0 0 0, t)))

/-- A frame's start takes its receive timestamp (R126–R128), and its octets reach its record up to the limit of its port (R244, R245, R297);
its end counts it, judges it, and frees a bad one
that no queue holds (R245, R255, R300).
A frame whose VLAN is unknown is counted and goes nowhere; one whose destination a MAC entry gives a port takes one copy, tagged
as its VLAN says, to that port's queue (R266–R268, R272, R273). The frame is the one host frame that awaits its lookup, or came by a
port, where its message has been looked for, no gateway template takes it and, in the second clause, its source is not learned.
Where the spec leaves something open here, the statement says what the model chose: log entries 49 and 50. -/
def Obligations.FramesAreReceivedJudgedAndForwarded : Prop :=
  (∀ (s : State) p f l tpcs st d, p < 48 → s.isLane p = false → s.portUp p = true → s.closing p = false → s.frame f = noFrame → s.inTx f = false →
    Runs (.frameRxStart p f l tpcs st d) s (fun u => (u.frame f).port = p ∧ (u.frame f).tpcs = tpcs ∧ (u.frame f).complete = false ∧
      (u.frame f).stamp = s.rxStamp p tpcs d st ∧ (u.frame f).steps = s.stepCount ∧ (u.frame f).invalid = (!s.timeValid) ∧
      (u.frame f).octets = l.take (s.limit p (hdrOf l).tags))) ∧
  (∀ (s : State) f l, s.frame f ≠ noFrame → (s.frame f).host = false → (s.frame f).tooLong = false → (s.frame f).complete = false →
    Runs (.cellArrival f l) s (fun u => (u.frame f).octets =
      ((s.frame f).octets ++ l).take (s.limit (s.frame f).port (hdrOf ((s.frame f).octets ++ l)).tags))) ∧
  (∀ (s : State) f errs cut, s.frame f ≠ noFrame → (s.frame f).host = false → (s.frame f).complete = false → (s.frame f).dropped = false →
    (s.frame f).port < 48 →
    Runs (.frameRxEnd f errs cut) s (fun u =>
      let p := pagePort (s.frame f).port
      u.rd p R.PORT.STAT_RX_FRAMES = satNat 32 (s.rd p R.PORT.STAT_RX_FRAMES + 1) ∧
      u.rd p R.PORT.CNT_ERR_BLOCK = satNat 32 (s.rd p R.PORT.CNT_ERR_BLOCK + errs.getD 0 0) ∧
      (s.isLane (s.frame f).port = true → ∀ i, i < 3 → (s.frame f).port + i < 48 → u.rd (pagePort ((s.frame f).port + i)) R.PORT.CNT_ERR_BLOCK =
        satNat 32 (s.rd (pagePort ((s.frame f).port + i)) R.PORT.CNT_ERR_BLOCK + errs.getD i 0)) ∧
      match judge (s.frame f) (errs.any (fun e => e != 0)) cut with
      | .good => (s.frame f).decided = false → (hdrOf (s.frame f).octets).etype ≠ 0x8808 → (u.frame f).complete = true ∧ (u.frame f).bad = (s.frame f).bad
      | .runt => u.rd p R.PORT.STAT_RX_RUNT = satNat 32 (s.rd p R.PORT.STAT_RX_RUNT + 1) ∧ ((s.frame f).copies = 0 → u.hasFrame f = false)
      | .oversize => u.rd p R.PORT.STAT_RX_OVERSIZE = satNat 32 (s.rd p R.PORT.STAT_RX_OVERSIZE + 1) ∧ ((s.frame f).copies = 0 → u.hasFrame f = false)
      | .fcs => u.rd p R.PORT.STAT_RX_FCS = satNat 32 (s.rd p R.PORT.STAT_RX_FCS + 1) ∧ ((s.frame f).copies = 0 → u.hasFrame f = false)
      | .stomped => u.rd p R.PORT.STAT_RX_STOMPED = satNat 32 (s.rd p R.PORT.STAT_RX_STOMPED + 1) ∧ ((s.frame f).copies = 0 → u.hasFrame f = false))) ∧
  (∀ (s : State) f, s.frame f ≠ noFrame → ((s.frame f).host = true ∧ s.frames.filter (fun e => e.2.host && !e.2.decided) = [(f, s.frame f)] ∨
      (s.frame f).host = false ∧ (s.frame f).seen = true ∧ s.gwMatch (s.frame f).port (s.frame f).octets = none) →
    (s.frame f).direct = none → (s.frame f).decided = false → (s.frame f).complete = true → (s.frame f).port < 48 →
    (hdrOf (s.frame f).octets).etype ≠ 0x8808 → (hdrOf (s.frame f).octets).etype ≠ 0x88B5 →
    s.findKey (pipeOf (s.frame f).port) tMac (macKey 0 (s.classify (s.frame f).port (hdrOf (s.frame f).octets)).vid 1) = none →
    Runs (.lookup f []) s (fun u => (∃ m : State, u = m.touchAll.settle ∧ m.voqs = s.voqs) ∧ u.rd (pagePipe (pipeOf (s.frame f).port)) R.PIPE.PIPE_CNT_VLAN_MISS =
      satNat 32 (s.rd (pagePipe (pipeOf (s.frame f).port)) R.PIPE.PIPE_CNT_VLAN_MISS + 1))) ∧
  (∀ (s : State) f x w k v i e g dst, s.frame f = x → x ≠ noFrame →
    (x.host = true ∧ s.frames.filter (fun e => e.2.host && !e.2.decided) = [(f, x)] ∨ x.host = false ∧ x.seen = true ∧
      s.gwMatch x.port x.octets = none ∧ s.rdI (pagePipe w) R.PIPE.PIPE_PORT_CFG_LEARN (x.port % 24) = 0) → x.direct = none → x.decided = false → x.complete = true → x.refused = false →
    x.port < 48 → (hdrOf x.octets).etype ≠ 0x8808 → (hdrOf x.octets).etype ≠ 0x88B5 → w = pipeOf x.port → k = s.classify x.port (hdrOf x.octets) →
    s.flag (pagePipe w) R.PIPE.PIPE_CTL_EN = true →
    s.findKey w tMac (macKey 0 k.vid 1) = some v → g = s.entry w tGroup (bits (wordAt (s.entry w tMac v) 2) 0 12) → entryValid tGroup g = true →
    s.rdI (pagePipe w) R.PIPE.PIPE_PORT_CFG_IFILTER (x.port % 24) = 0 →
    s.findKey w tMac (macKey (hdrOf x.octets).sa k.vid 0) = none → (hdrOf x.octets).da / 2 ^ 4 ≠ 0x0180C200000 →
    s.findKey w tMac (macKey (hdrOf x.octets).da k.vid 0) = some i → e = s.entry w tMac i → bits (wordAt e 2) 14 2 = 0 →
    bitAt (wordAt e 2) 20 = false → bitAt (wordAt e 2) 21 = false → bitAt (wordAt e 2) 13 = false → dst = bits (wordAt e 2) 0 6 → dst ≠ x.port →
    s.takes dst = true → (s.voq (voqOf x.port (leafOf dst k.subscr k.svc))).opened = true → s.copyRecords < 262144 →
    Runs (.lookup f []) s (fun u => ∃ m : State, u = m.touchAll.settle ∧ (m.frame f).decided = true ∧ (m.frame f).copies = x.copies + 1 ∧
      (m.voq (voqOf x.port (leafOf dst k.subscr k.svc))).copies = (s.voq (voqOf x.port (leafOf dst k.subscr k.svc))).copies ++
        [{ frame := f, leaf := leafOf dst k.subscr k.svc,
           edit := { tag := if bitAt (grpUntag g) dst then .strip else .set (k.mark * 4096 + k.vid) } }]))

/-- A port sends a PAUSE that is due before anything else (R254, R321), a frame of the in-band port, which counts (R45, R255; log 122, a DESIGN CHOICE), and
serves the one eligible queue it has (R322, R323), its copy granted up to 128 octet times before the port is free (R325); on a trunk a frame's blocks go to
the data lanes in turn (R192; log 120, a DESIGN CHOICE); a copy
leaves the Vat once read (R300), ended at the limit of its port (R244), stomped where it meets an uncorrectable word that another copy has met (R309), and its frame ends on the line with its FCS, counted (R246, R255); a read of the low word
of an octet counter returns the low 32 bits, puts the rest in the high word and clears the counter (R255).
Where the spec leaves something open here, the statement says what the model chose: log entries 49, 51, 93, 120 and 122. -/
def Obligations.PortsServeAndSendFrames : Prop :=
  (∀ (s : State) p q, p < 48 → s.portVoqs p = [] → (s.tx p).kind = .idle → s.portUp p = true → s.flag (pagePort p) R.PORT.PORT_STAT_LPI_TX = false →
    s.isLane p = false → (s.mac p).due = some q →
    Runs (.schedulerDecision p []) s (fun u => (u.tx p).kind = .pause q ∧ (u.mac p).due = none ∧
      u.rd (pagePort p) R.PORT.STAT_TX_PAUSE = satNat 32 (s.rd (pagePort p) R.PORT.STAT_TX_PAUSE + 1) ∧
      ∃ l, u.out = l ++ Out.pause p q :: s.out)) ∧
  (∀ (s : State) p l, p < 48 → s.portVoqs p = [] → look [] s.gwq p = [] → (s.tx p).kind = .idle → s.portUp p = true →
    s.flag (pagePort p) R.PORT.PORT_STAT_LPI_TX = false → s.isLane p = false → (s.mac p).due = none → s.inbandNext p = some l →
    Runs (.schedulerDecision p []) s (fun u => (u.tx p).kind = .inband l ∧ (u.tx p).octets.drop 12 =
      beOct 2 0x88B5 ++ l ++ List.replicate (46 - l.length) 0#8 ∧ (u.host 3).inbq = (s.host 3).inbq.drop 1)) ∧
  (∀ (s : State) p l, p < 48 → (s.tx p).kind = .inband l → (s.tx p).stomp = false →
    Runs (.frameTxEnd p) s (fun u => (u.tx p).kind = .idle ∧
      u.rd (pagePort p) R.PORT.STAT_TX_FRAMES = satNat 32 (s.rd (pagePort p) R.PORT.STAT_TX_FRAMES + 1) ∧
      u.out.head? = some (.inband 3 l))) ∧
  (∀ (s m : State) p v c, p < 48 → m = s.touchPort p → (m.tx p).kind ≠ .idle → m.portUp p = true →
    m.flag (pagePort p) R.PORT.PORT_STAT_LPI_TX = false → (m.mac p).pick = none → m.portVoqs p = [v] → voqIngress v < 48 →
    m.eligible v = true → m.pathState (voqLeaf v) < 2 → m.headOf v = some c → c.leaf = voqLeaf v →
    Runs (.schedulerDecision p []) s (fun u => u.tx p = m.tx p ∧
      (u.mac p).pick = if m.clearFrom p ≤ m.fine + m.octTime p 128 then some (v, c) else none)) ∧
  (∀ (s m : State) p v c, p < 48 → m = s.touchPort p → (m.tx p).kind = .idle → m.portUp p = true →
    m.flag (pagePort p) R.PORT.PORT_STAT_LPI_TX = false → (m.mac p).due = none → m.gwReady p = none → m.inbandNext p = none →
    (m.mac p).pick = some (v, c) → m.headOf v = some c → m.headOk c.frame p = true →
    Runs (.schedulerDecision p []) s (fun u => (u.tx p).kind = .copy v c ∧ (u.mac p).pick = none)) ∧
  (∀ (s m : State) p v c, p < 48 → m = s.touchPort p → (m.tx p).kind = .idle → m.portUp p = true →
    m.flag (pagePort p) R.PORT.PORT_STAT_LPI_TX = false → (m.mac p).due = none → m.gwReady p = none → m.inbandNext p = none →
    (m.mac p).pick = none → m.portVoqs p = [v] → voqIngress v < 48 →
    m.eligible v = true → m.pathState (voqLeaf v) < 2 → m.headOf v = some c → c.leaf = voqLeaf v →
    Runs (.schedulerDecision p []) s (fun u => (u.tx p).kind = .copy v c ∧ (u.tx p).left = false ∧
      (u.tx p).charges.map (fun e => (e.1, e.2.2)) = (path c.leaf).map (fun n => (n, m.chargeOf c)))) ∧
  (∀ (s : State) p v c, p < 48 → (s.tx p).kind = .copy v c → (s.tx p).left = false → (s.frame c.frame).complete = true →
    (s.frame c.frame).bad = false → (s.frame c.frame).refused = false → (s.frame c.frame).hurt = none → s.outgrown p c = none → (s.tx p).orphan = false →
    Runs (.copyDepart p [] none false) s (fun u => (u.tx p).left = true ∧ (u.tx p).octets = s.sentBody (s.tx p) c ∧
      ∃ m : State, u = (m.touchPort p).settle ∧ (m.voq v).copies = (s.voq v).copies.drop 1)) ∧
  (∀ (s : State) p v c l n, p < 48 → (s.tx p).kind = .copy v c → (s.tx p).left = false → (s.frame c.frame).hurt = some (l, n) → l < 32 →
    Runs (.copyDepart p [] none false) s (fun u => (u.tx p).left = true ∧ (u.tx p).stomp = true ∧
      (u.tx p).octets.length ≤ n ∧
      u.rd (pageVB (s.bankOf l)) R.VB.VB_CNT_UNCORR = satNat 32 (s.rd (pageVB (s.bankOf l)) R.VB.VB_CNT_UNCORR + 1))) ∧
  (∀ (s : State) p v c, p < 48 → (s.tx p).kind = .copy v c → (s.tx p).left = true → (s.tx p).stomp = false →
    Runs (.frameTxEnd p) s (fun u => (u.tx p).kind = .idle ∧
      u.rd (pagePort p) R.PORT.STAT_TX_FRAMES = satNat 32 (s.rd (pagePort p) R.PORT.STAT_TX_FRAMES + 1) ∧
      ∃ l, u.out = l ++ Out.frame p ((s.tx p).octets ++ fcsOf (s.tx p).octets) false :: s.out)) ∧
  (∀ (s : State) p v c i, p < 48 → (s.tx p).kind = .copy v c → (s.tx p).left = true → (s.tx p).stomp = false → s.isLane p = true → i < 3 →
    Runs (.frameTxEnd p) s (fun u => ∃ l, Out.dealt (p / 4) i l ∈ u.out ∧
      ∀ j, j < (frameBlocks ((s.tx p).octets ++ fcsOf (s.tx p).octets)).length → (s.trunk (p / 4)).turn < 3 → ((s.trunk (p / 4)).turn + j) % 3 = i →
        l[j / 3]? = (frameBlocks ((s.tx p).octets ++ fcsOf (s.tx p).octets))[j]?)) ∧
  (∀ (s : State) ctx p tx, p < 48 → s.reads ctx (pagePort p) →
    Runs (.statOctetsLoRead ctx p tx) s (fun u =>
      s.returned u ctx (regAddr (pagePort p) (if tx then 0x150 else 0x144)) ((if tx then (s.mac p).txOct else (s.mac p).rxOct) % 2 ^ 32) ∧
      u.rd (pagePort p) (if tx then R.PORT.STAT_TX_OCTETS_HI else R.PORT.STAT_RX_OCTETS_HI) =
        (if tx then (s.mac p).txOct else (s.mac p).rxOct) / 2 ^ 32 % 2 ^ 32 ∧
      (if tx then (u.mac p).txOct else (u.mac p).rxOct) = 0))

/-- Learn requests cross, wait in their order and commit: a new address takes a free way, none free is counted, and a move changes the
port (R275, R276); a flush removes what it names (R280).
Where the spec leaves something open here, the statement says what the model chose: log entry 52. -/
def Obligations.AddressesAreLearnedAndFlushed : Prop :=
  (∀ (s : State) w r rs, w < 2 → look [] s.crossing w = r :: rs → learns (look [] s.learnq w) < 4096 →
    Runs (.learnCopyArrival w) s (fun u => look [] u.crossing w = rs ∧ look [] u.learnq w = insertReq r (look [] s.learnq w))) ∧
  (∀ (s : State) w r rs addr vid cp, w < 2 → s.pageOn (pagePipe w) → look [] s.learnq w = r :: rs → r.kind = .learn addr vid cp →
    s.findKey w tMac (macKey addr vid 0) = none →
    Runs (.learnCommit w) s (fun u => look [] u.learnq w = rs ∧ match s.freeWay w tMac (macKey addr vid 0) with
      | some i => u.entry w tMac i = (macKey addr vid 0).set 2 (r.port + 2 ^ 17)
      | none => u.tabs = s.tabs ∧ u.cause (pagePipe w) 0 = true ∧
          u.rd (pagePipe w) R.PIPE.PIPE_CNT_LEARN_FULL = satNat 32 (s.rd (pagePipe w) R.PIPE.PIPE_CNT_LEARN_FULL + 1))) ∧
  (∀ (s : State) w r rs addr vid cp i e, w < 2 → look [] s.learnq w = r :: rs → r.kind = .learn addr vid cp → r.port < 48 →
    s.findKey w tMac (macKey addr vid 0) = some i → e = s.entry w tMac i → 3 ≤ e.length → bitAt (wordAt e 2) 16 = false →
    bitAt (wordAt e 2) 18 = false → bitAt (wordAt e 2) 19 = false → bits (wordAt e 2) 0 6 ≠ r.port →
    (look [] s.moves w).find? (fun m => m.1 == addr * 4096 + vid) = none →
    Runs (.learnCommit w) s (fun u => bits (wordAt (u.entry w tMac i) 2) 0 6 = r.port ∧
      u.rd (pagePipe w) R.PIPE.PIPE_CNT_MOVE = satNat 32 (s.rd (pagePipe w) R.PIPE.PIPE_CNT_MOVE + 1))) ∧
  (∀ (s : State) q, s.accepts 0x2A q → bits ((s.cmdOf 0x2A q).arg 0) 0 2 ≠ 0 →
    Runs (.tableFlush q) s (fun u => u.inFlight (s.cmdOf 0x2A q) ∧ ∀ w, w < 2 → bitAt ((s.cmdOf 0x2A q).arg 0) w = true →
      ∃ r ∈ look [] u.learnq w,
        r.kind = .flush (s.cmdOf 0x2A q).ctx (s.cmdOf 0x2A q).count ((s.cmdOf 0x2A q).arg 1) ((s.cmdOf 0x2A q).arg 2))) ∧
  (∀ (s : State) w r rs c n port vid k, w < 2 → look [] s.learnq w = r :: rs → r.kind = .flush c n port vid →
    s.cmds.find? (fun k => k.is c n) = some k →
    Runs (.learnCommit w) s (fun u => ∀ i, i ∈ s.flushed w port vid → u.entry w tMac i = []))

/-- A window takes one operation at a time and shows its result when it commits: a read, a write, a lookup and a removal by the key alone, an insertion, and what
stops them (R285, R288, R289, R292); a seed and a length range keep their value while their table forbids a change (R270, R281).
A critical entry goes into the table and the shadow together, and comes out of both, and nothing comes out where none is (R287); the comparator counts a slot that
differs and, where told to, repairs it, and leaves the table alone where the shadow is bad (R286); a fence completes when the frames
inside at its acceptance are gone (R290).
Where the spec leaves something open here, the statement says what the model chose: log entries 52 and 72. -/
def Obligations.TableWindowsAndCriticalEntries : Prop :=
  (∀ (s : State) ctx w o i, w < 4 → s.writes ctx (pageWin w) → s.flag (pageWin w) R.TBL.TBL_STAT_BUSY = false →
    (o, i) ∈ [(oRead, Instr.tblRead ctx w), (oWrite, .tblWrite ctx w), (oLookup, .tblLookup ctx w), (oInsert, .tblInsert ctx w),
      (oDelete, .tblDelete ctx w), (oClearHit, .clearHit ctx w)] →
    Runs i s (fun u => u.flag (pageWin w) R.TBL.TBL_STAT_BUSY = true ∧ look none u.winOps (pageWin w) =
      some ⟨o, s.rd (pageWin w) R.TBL.TBL_SEL_TABLE, s.rd (pageWin w) R.TBL.TBL_SEL_INDEX, (List.range 6).map (s.rdI (pageWin w) R.TBL.TBL_D),
        decide (w < 2 ∧ s.rd (pageWin w) R.TBL.TBL_SEL_TABLE = tMac) && [oWrite, oInsert, oDelete, oClearHit].contains o⟩)) ∧
  (∀ (s : State) w t i ws, w < 4 → (if w < 2 then t = 1 ∨ t = 2 else 3 ≤ t ∧ t ≤ 7) → i < tabSize t →
    s.rd (pageWin w) R.TBL.TBL_SEL_TABLE = t → look none s.winOps (pageWin w) = some ⟨oRead, t, i, ws, false⟩ →
    Runs (.tblOpComplete (pageWin w) false) s (fun u => u.flag (pageWin w) R.TBL.TBL_STAT_BUSY = false ∧
      u.rd (pageWin w) R.TBL.TBL_STAT_RESULT = rDone ∧ u.tabs = s.tabs ∧
      ∀ j, j < tabWords t → u.rdI (pageWin w) R.TBL.TBL_D j = wordAt (s.entry (w % 2) t i) j % 2 ^ 32)) ∧
  (∀ (s : State) w t i ws, 2 ≤ w → w < 4 → 3 ≤ t → t ≤ 7 → i < tabSize t → look none s.winOps (pageWin w) = some ⟨oWrite, t, i, ws, false⟩ →
    Runs (.tblOpComplete (pageWin w) false) s (fun u => u.flag (pageWin w) R.TBL.TBL_STAT_BUSY = false ∧
      match s.writeRefused (w % 2) t i (maskEntry t ws) with
      | some r => u.rd (pageWin w) R.TBL.TBL_STAT_RESULT = r ∧ u.tabs = s.tabs
      | none => u.rd (pageWin w) R.TBL.TBL_STAT_RESULT = rDone ∧ ∀ j, wordAt (u.entry (w % 2) t i) j = wordAt (maskEntry t ws) j)) ∧
  (∀ (s : State) w i ws c e, w < 2 → look none s.winOps (pageMact w) = some ⟨oInsert, tMac, i, ws, true⟩ →
    look [] s.learnq w = [⟨c, 64, .window oInsert i ws⟩] → e = maskEntry tMac ws → layoutOk tMac e = true → entryCrit tMac e = false →
    Runs (.tblOpComplete (pageMact w) false) s (fun u => u.flag (pageMact w) R.TBL.TBL_STAT_BUSY = false ∧
      match s.findKey w tMac e, s.freeWay w tMac e with
      | some j, _ => u.rd (pageMact w) R.TBL.TBL_STAT_RESULT = rExists ∧ u.rd (pageMact w) R.TBL.TBL_STAT_INDEX = j % 2 ^ 17 ∧ u.tabs = s.tabs
      | none, some j => u.rd (pageMact w) R.TBL.TBL_STAT_RESULT = rDone ∧ u.rd (pageMact w) R.TBL.TBL_STAT_INDEX = j % 2 ^ 17 ∧
          u.entry w tMac j = e.set 1 (wordAt e 1 ||| 2 ^ 31)
      | none, none => u.rd (pageMact w) R.TBL.TBL_STAT_RESULT = rFull ∧ u.tabs = s.tabs)) ∧
  (∀ (s : State) w t i ws, w < 4 → (if w < 2 then t = 1 ∨ t = 2 else 3 ≤ t ∧ t ≤ 5) → i < tabSize t → entryCrit t (s.entry (w % 2) t i) = false →
    look none s.winOps (pageWin w) = some ⟨oRead, t, i, ws, false⟩ →
    Runs (.tblOpComplete (pageWin w) true) s (fun u => u.flag (pageWin w) R.TBL.TBL_STAT_BUSY = false ∧
      u.rd (pageWin w) R.TBL.TBL_STAT_RESULT = rParity ∧ u.cause (pageWin w) 0 = true ∧ entryValid t (u.entry (w % 2) t i) = false ∧
      u.rd (pageWin w) R.TBL.TBL_CNT_PARITY = satNat 32 (s.rd (pageWin w) R.TBL.TBL_CNT_PARITY + 1) ∧
      u.flag (pageWin w) R.TBL.TBL_PAR_CAPT_VALID = true ∧ u.rd (pageWin w) R.TBL.TBL_PAR_CAPT_INDEX = i % 2 ^ R.TBL.TBL_PAR_CAPT_INDEX.w)) ∧
  (∀ (s : State) w i ws e, w < 2 → look none s.winOps (pageMact w) = some ⟨oLookup, tMac, i, ws, false⟩ → e = maskEntry tMac ws →
    keyOk tMac e = true →
    Runs (.tblOpComplete (pageMact w) false) s (fun u => u.flag (pageMact w) R.TBL.TBL_STAT_BUSY = false ∧ u.tabs = s.tabs ∧ match s.findKey w tMac e with
      | some j => u.rd (pageMact w) R.TBL.TBL_STAT_RESULT = rDone ∧ u.rd (pageMact w) R.TBL.TBL_STAT_INDEX = j % 2 ^ 17 ∧
          ∀ n, n < tabWords tMac → u.rdI (pageMact w) R.TBL.TBL_D n = wordAt (s.entry w tMac j) n % 2 ^ 32
      | none => u.rd (pageMact w) R.TBL.TBL_STAT_RESULT = rNotFound)) ∧
  (∀ (s : State) w i ws c e j, w < 2 → look none s.winOps (pageMact w) = some ⟨oDelete, tMac, i, ws, true⟩ →
    look [] s.learnq w = [⟨c, 64, .window oDelete i ws⟩] → e = maskEntry tMac ws → keyOk tMac e = true → s.findKey w tMac e = some j →
    Runs (.tblOpComplete (pageMact w) false) s (fun u =>
      if entryCrit tMac (s.entry w tMac j) = true then u.rd (pageMact w) R.TBL.TBL_STAT_RESULT = rCritical ∧ u.tabs = s.tabs
      else u.rd (pageMact w) R.TBL.TBL_STAT_RESULT = rDone ∧ u.entry w tMac j = [])) ∧
  (∀ (s : State) ctx w v, w < 2 → v < 2 ^ 32 → s.writes ctx (pageMact w) →
    Runs (.mactSeedWrite ctx w v) s (fun u =>
      if s.filled w tMac = 0 then u.rd (pageMact w) R.TBL.TBL_SEED = v
      else u.rd (pageMact w) R.TBL.TBL_SEED = s.rd (pageMact w) R.TBL.TBL_SEED ∧ u.cause (pageMact w) 1 = true)) ∧
  (∀ (s : State) ctx w l v, w < 2 → 1 ≤ l → l ≤ 32 → v < 2 ^ 32 → s.writes ctx (pageLpm w) → s.allows (pageLpm w) (0x100 + 4 * l) v →
    Runs (.lpmLenWrite ctx w (0x100 + 4 * l) v) s (fun u =>
      if s.lenRefused w tV4 l (bits v 0 12) (bits v 12 4) (bits v 16 1) = true then u.lenRange w tV4 l = s.lenRange w tV4 l ∧ u.cause (pageLpm w) 1 = true
      else u.lenRange w tV4 l = (bits v 0 12, bits v 12 4, bits v 16 1 == 1))) ∧
  (∀ (s : State) q k t w e, s.accepts 0x28 q → k = s.cmdOf 0x28 q → t = bits (k.arg 0) 0 4 → w = bits (k.arg 0) 8 1 → t = tGroup ∨ t = tNh →
    e = maskEntry t [k.arg 2, k.arg 3, k.arg 4, k.arg 5] →
    Runs (.tableWriteCritical q) s (fun u =>
      if entryValid t e = false then u.statusOf k = stOk ∧ u.entry w t (k.arg 1) = []
      else if (s.slotFor w t (k.arg 1)).isNone ∧ 4096 ≤ firstGap s.shadows 0 then u.statusOf k = stWrongState ∧ u.tabs = s.tabs
      else u.statusOf k = stOk ∧ (∀ j, wordAt (u.entry w t (k.arg 1)) j = wordAt e j) ∧
        ∃ x, look noShadow u.shadows x = ⟨w, t, k.arg 1, e⟩)) ∧
  (∀ (s : State) q k w e, s.phase ≠ .reset → k = s.cmdOf 0x28 q → (s.fly k).judgeCmd { k with args := [k.arg 0, k.arg 1, 0, 0, 0, 2 ^ 31 + 2 ^ 19] } 0 0 = none →
    bits (k.arg 0) 0 4 = tGroup → w = bits (k.arg 0) 8 1 → e = maskEntry tGroup [k.arg 2, k.arg 3, k.arg 4, k.arg 5] →
    entryValid tGroup e = false → entryCrit tGroup e = false → entryCrit tGroup (s.entry w tGroup (k.arg 1)) = false →
    Runs (.tableWriteCritical q) s (fun u => u.statusOf k = stBadArg ∧ u.tabs = s.tabs ∧ u.shadows = s.shadows)) ∧
  (∀ (s : State) n ns x, s.pageOn pageShadow → s.flag pageShadow R.SHADOW.SHADOW_CTL_EN = true → s.slotFirst = n :: ns → look noShadow s.shadows n = x →
    Runs (.shadowCompare true false) s (fun u => u.slotFirst = ns ∧ u.cause pageShadow 0 = true ∧
      u.rd pageShadow R.SHADOW.SHADOW_CNT_MISMATCH = satNat 32 (s.rd pageShadow R.SHADOW.SHADOW_CNT_MISMATCH + 1) ∧
      if s.flag pageShadow R.SHADOW.SHADOW_CTL_REPAIR = true then (∀ j, wordAt (u.entry x.pipe x.table x.index) j = wordAt x.words j) ∧ u.cause pageShadow 2 = true
      else u.tabs = s.tabs)) ∧
  (∀ (s : State) n ns bad, s.pageOn pageShadow → s.flag pageShadow R.SHADOW.SHADOW_CTL_EN = true → s.slotFirst = n :: ns →
    Runs (.shadowCompare bad true) s (fun u => u.slotFirst = ns ∧ u.cause pageShadow 1 = true ∧ u.tabs = s.tabs ∧
      (bad = true → u.cause pageShadow 0 = true ∧
        u.rd pageShadow R.SHADOW.SHADOW_CNT_MISMATCH = satNat 32 (s.rd pageShadow R.SHADOW.SHADOW_CNT_MISMATCH + 1)) ∧
      u.flag pageShadow R.SHADOW.SHADOW_CAPT_SHADOW_BAD = true ∧ u.flag pageShadow R.SHADOW.SHADOW_CAPT_VALID = true)) ∧
  (∀ (s : State) q k l, s.accepts 0x29 q → k = s.cmdOf 0x29 q → l = s.fenced (bits (k.arg 0) 0 2) →
    Runs (.tableFence q) s (fun u => if l = [] then u.statusOf k = stOk else u.inFlight k ∧ (⟨k.ctx, k.count, l⟩ : Fence) ∈ u.fences)) ∧
  (∀ (s : State) k, s.fences = [⟨k.ctx, k.count, []⟩] → k.ctx < 4 → s.handleLive k.ctx k.handle = true → s.cmds.find? (fun j => j.is k.ctx k.count) = some k →
    Runs .fenceComplete s (fun u => u.fences = [] ∧ u.statusOf k = stOk))

/-- Walks of the Whey audit start, report and reclaim (R311–R313), and a bank's copy moves its logical bank to the spare (R296, R319);
the window on the queues shows the queue it names (R317), and the shaper's window configures and shows a node, and takes no write while it is busy (R329, R343).
Where the spec leaves something open here, the statement says what the model chose: log entries 24, 55, 72, 103 and 117. -/
def Obligations.QueuesBanksAndShapersAreManaged : Prop :=
  (∀ (s : State) q, s.accepts 0x2B q → s.walk = none →
    Runs (.wheyAudit q) s (fun u => u.inFlight (s.cmdOf 0x2B q) ∧ u.flag pageWhey R.WHEY.WHEY_STAT_RUNNING = true ∧
      u.walk = some ⟨s.cells.map (fun e => e.1), s.frames.map (fun e => e.1), s.lostCopies - (s.txs.filter (fun e => e.2.orphan && !e.2.left)).length, bitAt ((s.cmdOf 0x2B q).arg 0) 0, false⟩)) ∧
  (∀ (s : State), s.rd pageWhey R.WHEY.WHEY_CTL_PERIOD ≠ 0 →
    Runs .wheyPeriodicStart s (fun u => u.up = s.up + (s.wheyDue - s.up) ∧ u.wheyDue = s.wheyDue + s.wheyPeriod ∧ match s.walk with
      | none => u.walk = some ⟨s.cells.map (fun e => e.1), s.frames.map (fun e => e.1), s.lostCopies - (s.txs.filter (fun e => e.2.orphan && !e.2.left)).length, s.flag pageWhey R.WHEY.WHEY_CTL_AUTO_RECLAIM, true⟩
      | some w => u.walk = some w ∧ u.rd pageWhey R.WHEY.WHEY_SKIPPED = satNat R.WHEY.WHEY_SKIPPED.w (s.rd pageWhey R.WHEY.WHEY_SKIPPED + 1))) ∧
  (∀ (s : State) w, s.pageOn pageWhey → s.walk = some w → s.findOp 0x2B = none →
    Runs .wheyWalkEnd s (fun u => u.walk = none ∧ u.flag pageWhey R.WHEY.WHEY_STAT_RUNNING = false ∧ u.cause pageWhey 0 = true ∧
      u.rd pageWhey R.WHEY.WHEY_STAT_WALKS = satNat 16 (s.rd pageWhey R.WHEY.WHEY_STAT_WALKS + 1) ∧
      if w.reclaim = false then u.cells = s.cells ∧ u.lostCopies = s.lostCopies else u.lostCopies = s.lostCopies - w.lost ∧
        ∀ c, c ∈ w.cells → (∀ e, e ∈ s.frames → e.1 ∈ s.reached → c ∉ e.2.cells) → look 64 u.cells c = 64)) ∧
  (∀ (s : State) src i, (List.range 16).find? (fun i => (s.swapRec i).kind == 0 && (s.swapRec i).state == 3 && (s.swapRec i).slice == src) = some i →
    s.flag pageCave R.CAVE.CAVE_CTL_EN = true → s.swapWait = [] → src < 36 → (s.swapRec i).spare < 36 → (s.swapRec i).spare ≠ src → s.pageOn (pageVB (s.swapRec i).spare) →
    Runs (.vatBankSwap src) s (fun u => u.bankRole src = bRetired ∧ u.bankRole (s.swapRec i).spare = bInService ∧
      u.bankLogical (s.swapRec i).spare = s.bankLogical src ∧ (u.swapRec i).state = 4 ∧ u.cause (pageVB (s.swapRec i).spare) 0 = true ∧
      u.rd (pageVB (s.swapRec i).spare) R.VB.VB_COPY = 16384 ∧ (s.swapRec i).since + 233017 ≤ u.up)) ∧
  (∀ (s : State) ctx v, v < 294912 → s.writes ctx pageVoq →
    Runs (.voqSelWrite ctx v) s (fun u => u.rd pageVoq R.VOQ.VOQ_SEL = v ∧
      u.rd pageVoq R.VOQ.VOQ_D0_FRAMES = (s.voq v).copies.length % 2 ^ R.VOQ.VOQ_D0_FRAMES.w ∧ u.flag pageVoq R.VOQ.VOQ_D0_OPEN = (s.voq v).opened ∧
      u.voqs = s.voqs)) ∧
  (∀ (s : State) ctx n, s.writes ctx pageShape → s.rd pageShape R.SHAPE.SHP_SEL = n →
    Runs (.shpWrite ctx false) s (fun u =>
      if n ≤ 6575 then (u.node n).cfg = s.stagedCfg ∧ (u.node n).k = (if s.stagedCfg.full then s.stagedCfg.cburst * creditUnit else 0) ∧
        (u.node n).p = (if s.stagedCfg.full then s.stagedCfg.pburst * creditUnit else 0)
      else u.flag pageShape R.SHAPE.SHP_STAT_REJECT = true ∧ u.cause pageShape 0 = true ∧ u.nodes = s.nodes)) ∧
  (∀ (s : State) ctx v i, s.writes ctx pageShape → s.up < s.shpUntil → i < 6 →
    Runs (.registerWrite ctx (regAddr pageShape (0x040 + 4 * i)) 4 v) s (fun u => bitAt (u.rd pageShape R.HDR.HDR_ERR_CAUSE_ACC) 5 = true ∧
      ∀ f ∈ [R.SHAPE.SHP_SEL, R.SHAPE.SHP_CIR, R.SHAPE.SHP_CBURST, R.SHAPE.SHP_PIR, R.SHAPE.SHP_PBURST, R.SHAPE.SHAPER_CTL_EN, R.SHAPE.SHAPER_CTL_QUANTUM],
        u.rd pageShape f = s.rd pageShape f)) ∧
  (∀ (s : State) ctx n, s.writes ctx pageShape → s.rd pageShape R.SHAPE.SHP_SEL = n → n ≤ 6575 → s.heldShapes.length < 64 →
    Runs (.shpWrite ctx true) s (fun u => u.heldShapes = s.heldShapes ++ [(n, s.stagedCfg)] ∧ u.nodes = s.nodes)) ∧
  (∀ (s : State) ctx n, s.writes ctx pageShape → s.rd pageShape R.SHAPE.SHP_SEL = n →
    Runs (.shpRead ctx) s (fun u => u.rd pageShape R.SHAPE.SHP_CIR = (s.node n).cfg.cir % 2 ^ R.SHAPE.SHP_CIR.w ∧
      u.rd pageShape R.SHAPE.SHP_PIR = (s.node n).cfg.pir % 2 ^ R.SHAPE.SHP_PIR.w ∧
      u.rd pageShape R.SHAPE.SHAPER_CTL_QUANTUM = (s.node n).cfg.quantum % 2 ^ R.SHAPE.SHAPER_CTL_QUANTUM.w))

/-- The pending list of a port is written unless it is locked or an interval is too short (R333, R336, R344); an install waits for a
start at least 2 µs away, and the lists swap there (R336); gates follow the active list, and sweeps fill the ring, one record in every
four core cycles, that its window reads (R334, R340, R341, R345); an entry written reaches the TCUs that take it (R154).
Where the spec leaves something open here, the statement says what the model chose: log entries 26, 51 and 94. -/
def Obligations.GatesAndSamplingFollowTheirLists : Prop :=
  (∀ (s : State) ctx p i, s.writes ctx pageGate → s.rd pageGate R.GATE.GATE_SEL_PORT = p → s.rd pageGate R.GATE.GATE_SEL_ENTRY = i →
    (s.gate p).inst = none →
    Runs (.gateWrite ctx) s (fun u =>
      if 48 ≤ p ∨ s.flag pageGate R.GATE.GATE_SEL_LIST = false then u.rd pageGate R.GATE.GATE_WSTAT_RESULT = 1 ∧ u.gates = s.gates
      else if s.rd pageGate R.GATE.GATE_D1 < 64 then u.rd pageGate R.GATE.GATE_WSTAT_RESULT = 2 ∧ u.gates = s.gates
      else u.rd pageGate R.GATE.GATE_WSTAT_RESULT = 0 ∧ (u.gate p).pend.entry i = (s.rd pageGate R.GATE.GATE_D0, s.rd pageGate R.GATE.GATE_D1) ∧
        (u.gate p).active = (s.gate p).active ∧ ∀ t, t < 2 → if s.takesTables t = true
          then (look {} u.gateCopy (48 * t + p)).pend.entry i = (s.rd pageGate R.GATE.GATE_D0, s.rd pageGate R.GATE.GATE_D1)
          else look {} u.gateCopy (48 * t + p) = look {} s.gateCopy (48 * t + p))) ∧
  (∀ (s : State) ctx, s.writes ctx pageGate →
    Runs (.gateRead ctx) s (fun u => u.gates = s.gates ∧
      u.rd pageGate R.GATE.GATE_D0 = (s.gateSelList.entry (s.rd pageGate R.GATE.GATE_SEL_ENTRY)).1 % 2 ^ R.GATE.GATE_D0.w ∧
      u.rd pageGate R.GATE.GATE_D1 = (s.gateSelList.entry (s.rd pageGate R.GATE.GATE_SEL_ENTRY)).2 % 2 ^ R.GATE.GATE_D1.w)) ∧
  (∀ (s : State) q p, s.accepts 0x30 q → (s.cmdOf 0x30 q).arg 0 = p → s.rdI pageGate R.GATE.GATE_CTL_STRICT p = 0 → 0 < s.hoop →
    Runs (.gateListInstall q) s (fun u => u.inFlight (s.cmdOf 0x30 q) ∧ u.rdI pageGate R.GATE.GATE_STAT_INSTALLING p = 1 ∧
      (u.gate p).active = (s.gate p).active ∧ ∃ i, (u.gate p).inst = some i ∧ s.now + 2000 ≤ i.start)) ∧
  (∀ (s : State) p i k, p < 48 → s.pageOn pageGate → (s.gate p).inst = some i → s.findCmd 0x30 p = some k → k.ctx < 4 → s.handleLive k.ctx k.handle = true →
    Runs (.gateListSwap p) s (fun u => (u.gate p).active = (s.gate p).pend ∧ (u.gate p).pend = (s.gate p).active ∧ (u.gate p).valid = true ∧
      (u.gate p).start = i.start ∧ (u.gate p).inst = none ∧ (s.takesTables s.lead = true → (s.seqGate p).inst = some i →
        (u.seqGate p).active = (s.seqGate p).pend ∧ (u.seqGate p).valid = true) ∧ u.cause pageGate 0 = true ∧ u.statusOf k = stOk)) ∧
  (∀ (s : State) p b, p < 48 → s.nextBoundary p = some b → s.active < 2 → (s.tcu s.active).clk = true → s.now ≤ b → b < counterMod →
    Runs (.gateChange p) s (fun u => u.now = b ∧ (u.gate p).active = (s.gate p).active)) ∧
  (∀ (s : State) ws, s.flag pageSample R.SAMPLE.SMP_CTL_EN = true → s.smpUntil ≤ s.core → s.smpRun = none →
    ws = (s.watch.map (fun e => e.2)).filter (fun w => bitAt w 31) → s.samples.length + 1 + ws.length ≤ 8192 →
    Runs .sampleSweep s (fun u => u.samples.length = s.samples.length + 1 + min 1 ws.length ∧ u.smpSeq = s.smpSeq + 1 ∧
      (u.smpRun.map (fun r => (r.todo, r.next))) = (if ws.length ≤ 1 then none else some (ws.drop 1, u.core + 4)) ∧
      u.rd pageSample R.SAMPLE.SMP_STAT_LEVEL = (s.samples.length + 1 + min 1 ws.length) % 2 ^ R.SAMPLE.SMP_STAT_LEVEL.w)) ∧
  (∀ (s : State) w, s.rd pageWhey R.WHEY.WHEY_CTL_PERIOD ≠ 0 → s.smpRun = some w → w.todo ≠ [] → s.core ≤ w.next →
    Runs .wheyPeriodicStart s (fun u => u.samples.length = s.samples.length + (if u.core < w.next then 0 else min w.todo.length ((u.core - w.next) / 4 + 1)) ∧
      (s.core = u.core → w.next = u.core → (u.samples[s.samples.length]? = w.todo.head?.map (fun x => s.sampleRecord x w.instant))))) ∧
  (∀ (s : State) ctx, s.reads ctx pageSample →
    Runs (.smpRd0Read ctx) s (fun u => s.returned u ctx (regAddr pageSample 0x060) ((s.samples.headD [0, 0, 0, 0]).getD 0 0 % 2 ^ 32) ∧
      u.samples = s.samples ∧ ∀ i, i < 4 → u.rdI pageSample R.SAMPLE.SMP_RD i = (s.samples.headD [0, 0, 0, 0]).getD i 0 % 2 ^ 32)) ∧
  (∀ (s : State) ctx, s.reads ctx pageSample →
    Runs (.smpRd3Read ctx) s (fun u => s.returned u ctx (regAddr pageSample 0x06C) (s.rdI pageSample R.SAMPLE.SMP_RD 3) ∧
      u.samples = s.samples.drop 1))

/-- A PAUSE is counted and, with RX in force, stops the port for its quanta (R252, R254); packet rings follow their producer
(R48, R259), and frames pass between hosts and switch: by ring, by SPI FIFO and in band (R256–R261).
Where the spec leaves something open here, the statement says what the model chose: log entry 54. -/
def Obligations.PauseAndHostFramesAreHandled : Prop :=
  (∀ (s : State) p q, p < 48 → s.isLane p = false → s.portUp p = true → q < 65536 →
    Runs (.pauseRx p q) s (fun u => u.rd (pagePort p) R.PORT.STAT_RX_PAUSE = satNat 32 (s.rd (pagePort p) R.PORT.STAT_RX_PAUSE + 1) ∧
      (s.flag (pagePort p) R.PORT.MAC_PAUSE_STAT_RX_RES = true → u.flag (pagePort p) R.PORT.MAC_PAUSE_STAT_PAUSED = decide (q ≠ 0) ∧
        (q ≠ 0 → (u.mac p).pausedUntil = s.fine + q * s.quantum p)))) ∧
  (∀ (s : State) p, p < 48 → s.flag (pagePort p) R.PORT.MAC_PAUSE_STAT_PAUSED = true →
    Runs (.pauseTimerExpiry p) s (fun u => u.flag (pagePort p) R.PORT.MAC_PAUSE_STAT_PAUSED = false)) ∧
  (∀ (s : State) p, p < 48 → s.isLane p = false → s.flag (pagePort p) R.PORT.MAC_PAUSE_STAT_XOFF = true →
    s.flag (pagePort p) R.PORT.MAC_PAUSE_STAT_TX_RES = true → (s.mac p).due = none →
    Runs (.pauseRefresh p) s (fun u => (u.mac p).due = some (s.rd (pagePort p) R.PORT.MAC_PAUSE_TX_QUANTA))) ∧
  (∀ (s : State) c v, c < 4 → v < 2 ^ 32 → s.writes c (pageHC c) →
    Runs (.txrProdWrite c v) s (fun u =>
      if (v + 2 ^ 32 - s.rd (pageHC c) R.HC.TXR_CONS) % 2 ^ 32 ≤ s.txrSize c then u.rd (pageHC c) R.HC.TXR_PROD = v
      else u.rd (pageHC c) R.HC.TXR_PROD = s.rd (pageHC c) R.HC.TXR_PROD ∧ u.cause (pageHC c) 1 = true)) ∧
  (∀ (s : State) c v, c < 4 → v < 2 ^ 32 → s.writes c (pageHC c) →
    Runs (.rxrProdWrite c v) s (fun u =>
      if (v + 2 ^ 32 - s.rd (pageHC c) R.HC.RXR_CONS) % 2 ^ 32 ≤ s.rxrSize c then u.rd (pageHC c) R.HC.RXR_PROD = v
      else u.rd (pageHC c) R.HC.RXR_PROD = s.rd (pageHC c) R.HC.RXR_PROD ∧ u.cause (pageHC c) 1 = true)) ∧
  (∀ (s : State) c ds l f, c < 4 → s.flag (pageHC c) R.HC.PKT_CTL_TX_EN = true → s.attached c = true → s.kind c = kPcie → descsOk ds = true →
    ds.length ≤ (s.rd (pageHC c) R.HC.TXR_PROD + 2 ^ 32 - s.rd (pageHC c) R.HC.TXR_CONS) % 2 ^ 32 →
    Runs (.hostTxFrame c ds l f) s (fun u => u.rd (pageHC c) R.HC.TXR_CONS = (s.rd (pageHC c) R.HC.TXR_CONS + ds.length) % 2 ^ 32 ∧
      u.cause (pageHC c) 4 = true)) ∧
  (∀ (s : State) c q qs d f g, c < 4 → s.flag (pageHC c) R.HC.PKT_CTL_TX_EN = true → s.attached c = true → s.kind c ≠ kPcie →
    (s.host c).txq = q :: qs → d = txDesc (q.1.getD 2 0) (q.1.getD 3 0) → d.direct = false → d.tso = false → d.csum = false → d.ptp = false →
    d.port < 48 → 60 ≤ q.2.length → g = s.freeRecord f →
    Runs (.hostTxFrame c [] none f) s (fun u => (u.host c).txq = qs ∧
      ((u.frame g).octets = q.2 ++ fcsOf q.2 ∧ (u.frame g).complete = true ∧ (u.frame g).port = s.fwdPort d.port ∧ (u.frame g).decided = false ∨
        u.rdI pageVat R.VAT.VAT_CNT_DROP d.port = satNat 32 (s.rdI pageVat R.VAT.VAT_CNT_DROP d.port + 1)))) ∧
  (∀ (s : State) c k ks x ws, c < 4 → s.kind c = kSpi → s.attached c = true → s.flag (pageHC c) R.HC.PKT_CTL_RX_EN = true →
    (s.host c).rxq = k :: ks → s.frame k.frame = x → x.complete = true → x.bad = false → x.refused = false → x.hurt = none →
    ws = 0#32 :: 0#32 :: (rxWords k x (k.rec_ ++ body x.octets).length true).map (BitVec.ofNat 32) ++ wordsOf (k.rec_ ++ body x.octets) →
    Runs (.hostRxDelivery c [] none) s (fun u => (u.host c).rxq = ks ∧
      if 4 * (s.rxfWords c + ws.length) > 16384 then (u.host c).rxf = (s.host c).rxf ∧ u.cause (pageHC c) 5 = true
      else (u.host c).rxf = (s.host c).rxf ++ [ws] ∧ u.cause (pageHC c) 3 = true)) ∧
  (∀ (s : State) c w ws fs, c < 4 → s.reads c (pageHC c) → (s.host c).rxf = (w :: ws) :: fs →
    Runs (.pktRxfDataRead c) s (fun u => s.returned u c (regAddr (pageHC c) 0x184) w.toNat ∧
      (u.host c).rxf = if ws = [] then fs else ws :: fs)) ∧
  (∀ (s : State) c v ws len, c < 4 → v < 2 ^ 32 → s.writes c (pageHC c) → s.kind c = kSpi →
    ws = (s.host c).txf ++ [BitVec.ofNat 32 (if (s.host c).txf = [] then s.txfSpace c else v)] → len = bits ((ws.getD 2 0#32).toNat) 0 16 →
    Runs (.pktTxfDataWrite c v) s (fun u =>
      if ws.length < 4 ∨ ws.length < 4 + (len + 3) / 4 then (u.host c).txf = ws ∧ (u.host c).txq = (s.host c).txq
      else (u.host c).txf = [] ∧ if 16 + (len + 3) / 4 * 4 > (ws.getD 0 0#32).toNat then (u.host c).txq = (s.host c).txq ∧ u.cause (pageHC c) 6 = true
        else u.cause (pageHC c) 4 = true ∧ (u.host c).txq = (s.host c).txq ++
          [((ws.take 4).map (fun w => w.toNat), ((ws.drop 4).map (fun w => leOct 4 w.toNat)).flatten.take len)])) ∧
  (∀ (s : State) port sa l, s.kind 3 = kInband →
    Runs (.inbandPacketRx port sa l) s (fun u =>
      if port ≠ s.rd pageInb R.INB.INB_PORT ∨ sa ≠ s.rd pageInb R.INB.INB_SA_HI * 2 ^ 32 + s.rd pageInb R.INB.INB_SA_LO then
        u.rd pageInb R.INB.INB_CNT_DROP = satNat 32 (s.rd pageInb R.INB.INB_CNT_DROP + 1) ∧ (u.host 3).txq = (s.host 3).txq
      else if beAt l 0 1 = 1 ∧ beAt l 3 1 = 0 then
        (u.host 3).txq = if l.length < 20 + bits (leWord l 12) 0 16 then (s.host 3).txq
          else (s.host 3).txq ++ [((List.range 4).map (fun i => leWord l (4 + 4 * i)), (l.drop 20).take (bits (leWord l 12) 0 16))]
      else (u.host 3).txq = (s.host 3).txq))

/-- TASK_LOAD wipes the engine and waits for its image, which is loaded where its signature and form are good (R348–R350); TASK_START
opens a LOADED task and TASK_STOP returns it to LOADED, at once or when it has drained (R351, R352).
Where the spec leaves something open here, the statement says what the model chose: log entry 47. -/
def Obligations.TasksLoadStartAndStop : Prop :=
  (∀ (s : State) q k e, s.accepts 0x38 q → k = s.cmdOf 0x38 q → k.arg 0 = e →
    Runs (.taskLoad q) s (fun u =>
      if (List.range 16).any (fun t => decide (s.taskState e t ≥ tkWaiting ∧ s.taskState e t ≠ tkFaulted)) = true then
        u.statusOf k = stWrongState ∧ u.engines = s.engines
      else u.inFlight k ∧ u.rd (pageEng e) R.ENGE.ENG_E_STAT_IMAGE = 1 ∧ (u.eng e).code = [] ∧ ∀ t, t < 16 → u.taskState e t = tkEmpty)) ∧
  (∀ (s : State) e image signed k l, e < 8 → s.findCmd 0x38 e = some k → k.ctx < 4 → s.handleLive k.ctx k.handle = true →
    l = s.loadSource k image → s.pageOn (pageEng e) →
    Runs (.imageVerified e image signed) s (fun u => u.statusOf k = s.imageStatus e l (k.arg 3) signed ∧
      if s.imageStatus e l (k.arg 3) signed = stOk then
        u.rd (pageEng e) R.ENGE.ENG_E_STAT_IMAGE = 2 ∧ u.cause (pageEng e) 3 = true ∧ (u.eng e).code = octets l 0x120 (imgCode l) ∧
        ∀ t, t < imgTasks l → u.taskState e t = if bitAt (leWord l (0x28 + 16 * t)) 0 then tkWaiting else tkLoaded
      else u.rd (pageEng e) R.ENGE.ENG_E_STAT_IMAGE = 0 ∧ (u.eng e).code = [])) ∧
  (∀ (s : State) q k e t, s.accepts 0x39 q → k = s.cmdOf 0x39 q → k.arg 0 = e → k.arg 1 = t →
    Runs (.taskStart q) s (fun u =>
      if s.taskState e t = tkLoaded then u.statusOf k = stOk ∧ u.taskState e t = tkWaiting ∧ bitAt (u.eng e).opened t = true
      else u.statusOf k = stWrongState ∧ u.taskState e t = s.taskState e t)) ∧
  (∀ (s : State) q k e t, s.accepts 0x3A q → k = s.cmdOf 0x3A q → k.arg 0 = e → k.arg 1 = t →
    s.taskState e t = tkWaiting ∨ s.taskState e t = tkRunnable ∨ s.taskState e t = tkRunning →
    Runs (.taskStop q) s (fun u =>
      if k.arg 2 = 1 ∨ s.inbox e t = [] then u.taskState e t = tkLoaded ∧ u.inbox e t = [] ∧
        u.statusOf k = (if s.inbox e t = [] then stOk else stDiscard)
      else u.taskState e t = tkStopping ∧ u.inFlight k ∧ u.inbox e t = s.inbox e t)) ∧
  (∀ (s : State) q k e t, s.accepts 0x3A q → k = s.cmdOf 0x3A q → k.arg 0 = e → k.arg 1 = t →
    s.taskState e t = tkFaulted ∨ s.taskState e t = tkLoaded ∨ s.taskState e t = tkEmpty →
    Runs (.taskStop q) s (fun u =>
      if s.taskState e t = tkFaulted then u.taskState e t = tkLoaded ∧ u.inbox e t = [] ∧ ∀ x ∈ (u.eng e).outq, x.1 ≠ t
      else u.statusOf k = stWrongState ∧ u.engines = s.engines)) ∧
  (∀ (s : State) e t limit k, e < 8 → t < 16 → s.cmds.find? (fun k => k.op == 0x3A && k.started && k.arg 0 == e && k.arg 1 == t) = some k →
    k.ctx < 4 → s.handleLive k.ctx k.handle = true → s.taskState e t = tkStopping → limit = true ∨ s.inbox e t = [] →
    Runs (.taskDrainEnd e t limit) s (fun u => u.taskState e t = tkLoaded ∧ u.inbox e t = [] ∧
      u.statusOf k = (if limit = true ∧ s.inbox e t ≠ [] then stDiscard else stOk)))

/-- An engine that is free runs the task that R353 picks; a running task gives up its engine, waits or faults, and a timer or a message
wakes one that waits (R351, R353, R354). An access that the engine's mask permits is no fault (R357), and a task that drains does not fault (R12; log 106, a
DESIGN CHOICE); before the oscillator is there no task starts (R15).
The mailbox window stages, pushes and clears a message and reads and removes what a task sent (R354, R355, R360); `SH_DATA`
accesses the shared memory word by word (R357); the spare engine takes over a free engine, and a self-test shows what it found
(R358, R383).
Where the spec leaves something open here, the statement says what the model chose: log entries 46 and 106. -/
def Obligations.EnginesRunTheirTasksAndWindows : Prop :=
  (∀ (s : State) e t, e < 8 → s.phase ≠ .reset → s.phase ≠ .oscWait → s.running e = none → s.pickTask e = some t →
    Runs (.dispatch e) s (fun u => u.running e = some t ∧ (u.eng e).last = t ∧
      u.taskState e t = (if s.taskState e t = tkRunnable then tkRunning else s.taskState e t) ∧
      (look (0, 0) u.events (64 * 0x27 + e)).1 = (look (0, 0) s.events (64 * 0x27 + e)).1 + 1)) ∧
  (∀ (s : State) e, e < 8 → s.phase = .reset ∨ s.phase = .oscWait →
    Runs (.dispatch e) s (fun u => u.engines = s.engines ∧ u.regs = s.regs)) ∧
  (∀ (s : State) e t taken i, e < 8 → t < 16 → s.running e = some t → s.taskState e t = tkRunning →
    i ∈ [Instr.taskSliceEnd e taken [], .taskYield e taken []] →
    Runs i s (fun u => u.running e = none ∧ u.taskState e t = tkRunnable ∧ u.inbox e t = (s.inbox e t).drop taken)) ∧
  (∀ (s : State) e t timer, e < 8 → t < 16 → s.running e = some t → s.taskState e t = tkRunning →
    Runs (.taskWait e timer []) s (fun u => u.running e = none ∧ u.taskState e t = tkWaiting ∧ bitAt (u.eng e).timers t = timer ∧
      u.inbox e t = if timer then s.inbox e t else [])) ∧
  (∀ (s : State) e t, e < 8 → t < 16 → s.taskState e t = tkWaiting → bitAt (s.eng e).timers t = true →
    Runs (.taskTimerExpiry e t) s (fun u => u.taskState e t = tkRunnable)) ∧
  (∀ (s : State) e t code region, e < 8 → t < 16 → 1 ≤ code → code ≤ 3 → region < 16 →
    (code = 2 → bitAt (s.rdI pageEngc R.ENG.ENG_SH_MASK e) region = false) → s.running e = some t → s.taskState e t = tkRunning → s.pageOn (pageEng e) →
    Runs (.taskFault e (code + 16 * region)) s (fun u => u.taskState e t = tkFaulted ∧ u.rdI (pageEng e) R.ENGE.TASK_STAT_FAULT_CODE t = code ∧
      u.running e = none ∧ u.cause (pageEng e) 2 = true)) ∧
  (∀ (s : State) e t code, e < 8 → t < 16 → s.running e = some t → s.taskState e t ≠ tkRunning ∨ code % 16 = 0 ∨ 3 < code % 16 ∨
      (code % 16 = 2 ∧ bitAt (s.rdI pageEngc R.ENG.ENG_SH_MASK e) (code / 16 % 16) = true) →
    Runs (.taskFault e code) s (fun u => u.taskState e t = s.taskState e t ∧ u.engines = s.engines ∧ u.regs = s.regs)) ∧
  (∀ (s : State) e t src m x, e < 8 → t < 16 → s.pageOn (pageEng e) → x = (⟨src, m.typ, m.tag, m.len, m.payload⟩ : Msg) →
    Runs (.mailboxMessageArrival e t src m) s (fun u =>
      if s.fits e t x = true then u.inbox e t = s.inbox e t ++ [x] ∧ u.taskState e t = (if s.taskState e t = tkWaiting then tkRunnable else s.taskState e t)
      else u.inbox e t = s.inbox e t ∧ u.cause (pageEng e) 1 = true ∧
        u.rd (pageEng e) R.ENGE.ENG_CNT_MBX_DROP = satNat 32 (s.rd (pageEng e) R.ENGE.ENG_CNT_MBX_DROP + 1))) ∧
  (∀ (s : State) ctx e h need t x, e < 8 → s.writes ctx (pageEng e) → h = s.rd (pageEng e) R.ENGE.MBX_HDR → need = (bits h 0 12 + 3) / 4 →
    t = s.rd (pageEng e) R.ENGE.MBX_SEL →
    x = (⟨ctx, bits h 24 8, s.rd (pageEng e) R.ENGE.MBX_TAG, bits h 0 12, (s.eng e).staged.take need⟩ : Msg) →
    Runs (.mbxPush ctx e) s (fun u =>
      if (s.eng e).staged.length < need ∨ bits h 0 12 > 2040 then u.rd (pageEng e) R.ENGE.MBX_STAT_SHORT = 1 ∧ u.engines = s.engines
      else if s.fits e t x = true then u.inbox e t = s.inbox e t ++ [x] ∧ (u.eng e).staged = [] ∧ u.rd (pageEng e) R.ENGE.MBX_STAT_FULL = 0
      else u.rd (pageEng e) R.ENGE.MBX_STAT_FULL = 1 ∧ u.engines = s.engines)) ∧
  (∀ (s : State) ctx e, e < 8 → s.writes ctx (pageEng e) →
    Runs (.mbxClear ctx e) s (fun u => (u.eng e).staged = [] ∧ u.rd (pageEng e) R.ENGE.MBX_STAT_STAGED = 0)) ∧
  (∀ (s : State) ctx e v, e < 8 → v < 2 ^ 32 → s.writes ctx (pageEng e) → (s.eng e).staged.length < 510 →
    Runs (.mbxDataWrite ctx e v) s (fun u => (u.eng e).staged = (s.eng e).staged ++ [BitVec.ofNat 32 v] ∧
      u.rd (pageEng e) R.ENGE.MBX_STAT_STAGED = (s.eng e).staged.length + 1)) ∧
  (∀ (s : State) ctx e, e < 8 → s.writes ctx (pageEng e) →
    Runs (.mbxOutPop ctx e) s (fun u => (u.eng e).outq = (s.eng e).outq.drop 1 ∧ (u.eng e).outIdx = 0)) ∧
  (∀ (s : State) ctx e x xs, e < 8 → s.reads ctx (pageEng e) → (s.eng e).outq = x :: xs →
    Runs (.mbxOutDataRead ctx e) s (fun u =>
      s.returned u ctx (regAddr (pageEng e) 0x078) (x.2.payload.getD (s.eng e).outIdx 0).toNat ∧ (u.eng e).outIdx = (s.eng e).outIdx + 1 ∧
      (u.eng e).outq = x :: xs)) ∧
  (∀ (s : State) ctx v, v < 2 ^ 32 → s.writes ctx pageEshared →
    Runs (.shDataAccess ctx true v) s (fun u =>
      u.shmem = put 0#32 s.shmem (s.rd pageEshared R.ESHARED.SH_ADDR) (BitVec.ofNat 32 v) ∧
      u.rd pageEshared R.ESHARED.SH_ADDR = (s.rd pageEshared R.ESHARED.SH_ADDR + 1) % 2 ^ 18)) ∧
  (∀ (s : State) ctx v, s.reads ctx pageEshared →
    Runs (.shDataAccess ctx false v) s (fun u =>
      s.returned u ctx (regAddr pageEshared 0x044) (look 0#32 s.shmem (s.rd pageEshared R.ESHARED.SH_ADDR)).toNat ∧ u.shmem = s.shmem ∧
      u.rd pageEshared R.ESHARED.SH_ADDR = (s.rd pageEshared R.ESHARED.SH_ADDR + 1) % 2 ^ 18)) ∧
  (∀ (s : State) e i, e < 8 → s.engSwap e = some i → s.running e = none → s.flag pageCave R.CAVE.CAVE_CTL_EN = true → s.swapWait = [] →
    Runs (.engineSwap e) s (fun u => u.rd (pageEng e) R.ENGE.ENG_E_STAT_PHYS = 8 ∧ u.flag pageEngc R.ENG.ENG_STAT_SPARE_IN_USE = true ∧
      u.rd pageEngc R.ENG.ENG_STAT_SPARE_FOR = e ∧ (u.swapRec i).state = 4)) ∧
  (∀ (s : State) e passed, e < 8 → s.isOn 5 = true → s.flag pageCave R.CAVE.CAVE_CTL_EN = true →
    Runs (.engineSelfTestEnd e passed) s (fun u => bitAt (u.rd pageCave R.CAVE.CAVE_ST_FAIL_E) e = !passed ∧
      (passed = false → look 0 u.wear (wearKey pageEngc e mSelfTest) = 255)))

/-- A counter that is on counts, and one that passes 48 bits shows its overflow and starts from its reload value (R361, R363, R364);
its value is read and set over two registers (R363); groups start and stop together, and a snapshot of slot use is numbered, the categories of a
unit summing to the slots it has had (R365, R366). A counter takes the model's own events into account when it is read or next counts (log 123, a
DESIGN CHOICE).
Where the spec leaves something open here, the statement says what the model chose: log entries 65 and 123. -/
def Obligations.CountersCountAndAreRead : Prop :=
  (∀ (s : State) n inc addr task x b, n < 64 → inc < 2 ^ 48 → s.perfOn n = true →
    x = (s.perf n).count + s.perfDue n + (if s.flag (pagePerf n) R.PERFC.PC_CTL_MODE then inc else min inc 1) →
    b = (if s.flag (pagePerf n) R.PERFC.PC_CTL_RELOAD_EN then s.rdWide (pagePerf n) R.PERFC.PC_RELOAD_HI R.PERFC.PC_RELOAD_LO else 0) →
    Runs (.perfCounterOverflow n inc addr task) s (fun u =>
      if x < 2 ^ 48 then (u.perf n).count = x ∧ u.regs = s.regs
      else b ≤ (u.perf n).count ∧ (u.perf n).count < 2 ^ 48 ∧ u.cause (pagePerf n) 0 = true ∧ ∃ k, 1 ≤ k ∧
        x = (u.perf n).count - b + 2 ^ 48 + (k - 1) * (2 ^ 48 - b) ∧
        u.rd (pagePerf n) R.PERFC.PC_OVF_CNT = satNat 32 (s.rd (pagePerf n) R.PERFC.PC_OVF_CNT + k))) ∧
  (∀ (s : State) n inc addr task, n < 64 → s.perfOn n = false →
    Runs (.perfCounterOverflow n inc addr task) s (fun u => u.perfs = s.perfs ∧ u.regs = s.regs)) ∧
  (∀ (s : State) ctx n x, n < 64 → s.reads ctx (pagePerf n) → s.perfHidden ctx (pagePerf n) = false → x = (s.perf n).count + s.perfDue n → x < 2 ^ 48 →
    Runs (.pcValLoRead ctx n) s (fun u => s.returned u ctx (regAddr (pagePerf n) 0x044) (x % 2 ^ 32) ∧
      u.rd (pagePerf n) R.PERFC.PC_VAL_HI = x / 2 ^ 32 % 2 ^ 16 ∧ (u.perf n).count = x ∧ u.perfDue n = 0)) ∧
  (∀ (s : State) ctx n v, n < 64 → v < 2 ^ 32 → s.writes ctx (pagePerf n) →
    Runs (.pcValLoWrite ctx n v) s (fun u => (u.perf n).count = (s.perf n).staged * 2 ^ 32 + v)) ∧
  (∀ (s : State) ctx v, v < 4 → s.writes ctx pagePerfCtl →
    Runs (.perfRunWrite ctx v) s (fun u => u.rd pagePerfCtl R.PERF.PERF_CTL_RUN = bits v 0 1 ∧ u.rd pagePerfCtl R.PERF.PERF_CTL_FREEZE = bits v 1 1)) ∧
  (∀ (s : State) ctx, s.writes ctx pageSu →
    Runs (.suSnap ctx) s (fun u => u.rd pageSu R.SU.SU_SEQ = (s.rd pageSu R.SU.SU_SEQ + 1) % 2 ^ 32 ∧ u.rd pageSu R.SU.SU_CTL_SNAP = 0)) ∧
  (∀ (s : State) ctx k, s.writes ctx pageSu → k < 10 → s.isOn (suDomain k) = true →
    (k < 2 → s.suNew k 0 0x10 k + s.suNew k 1 0x11 k + s.suNew k 2 0x12 k ≤ suCycles k s.up - suCycles k (look 0 s.slotSeen (8 * k + 7))) →
    Runs (.suSnap ctx) s (fun u =>
      ((List.range (slotCats k)).map (fun c => u.rdI pageSu R.SU.SU_VAL (16 * k + 2 * c) + u.rdI pageSu R.SU.SU_VAL (16 * k + 2 * c + 1) * 2 ^ 32)).sum % 2 ^ 48 =
        (((List.range (slotCats k)).map (fun c => look 0 s.slotUse (8 * k + c))).sum +
          (suCycles k s.up - suCycles k (look 0 s.slotSeen (8 * k + 7)))) % 2 ^ 48))

/-- CAL_RUN puts its slices at the head of the queue, or is refused where one is off (R375); a run takes the set out of service, puts
its residuals into force and is swapped in at a block boundary, and a failed one is counted and reported (R182, R188, R371, R376).
A capture builds the image of what is in force and an apply accepts an image or says why not (R378–R380); the image is read and
written word by word, and a correction table through its channel (R378, R380).
Where the spec leaves something open here, the statement says what the model chose: log entries 15, 68, 69 and 70. -/
def Obligations.LaneRunsAndCalibrationImages : Prop :=
  (∀ (s : State) q k ts, s.accepts 0x48 q → k = s.cmdOf 0x48 q → calTargets (k.arg 0) (k.arg 1) = some ts →
    Runs (.calRun q) s (fun u =>
      if (ts.any (fun p => s.pageOff p) ∨ ts.any (fun p => decide (p = pageSynth s.active ∧ s.tokenHeld = true)) = true) then u.statusOf k = stWrongState
      else u.inFlight k ∧ u.calHead.take ts.length = ts)) ∧
  (∀ (s : State) p, p < 48 → s.isOn (8 + p / 8) = true → s.eyeBusy p = false → (s.lane p).recal = false → (s.lane p).run = 0 → s.laneDue p = true →
    s.runsOpen = true →
    Runs (.laneCalStart p) s (fun u => (u.lane p).run = (if (s.lane p).retired ≠ 0 ∨ (pagePort p ∉ s.calHead ∧ (s.lane p).only = 2) then 4 else 1) ∧ (u.lane p).due = false ∧
      pagePort p ∉ u.calHead ∧ u.flag pageCaldir R.CALDIR.CAL_STAT_RUNNING = true)) ∧
  (∀ (s : State) p rx tx, p < 48 → (s.lane p).recal = false → (s.lane p).run = 1 → s.flag (pagePort p) R.PORT.EYE_STAT_WAIT = false →
    Runs (.laneCalEnd p true rx tx) s (fun u => (u.lane p).run = 2 ∧ (u.lane p).newTx = tx ∧
      (if s.setOut p = 0 then (u.lane p).lat0 = rx ∧ (u.lane p).lat1 = (s.lane p).lat1 else (u.lane p).lat1 = rx ∧ (u.lane p).lat0 = (s.lane p).lat0))) ∧
  (∀ (s : State) p rx tx, p < 48 → (s.lane p).recal = false → (s.lane p).run = 1 → (s.lane p).rest = none → s.pageOn (pagePort p) →
    s.flag (pagePort p) R.PORT.EYE_STAT_WAIT = false →
    Runs (.laneCalEnd p false rx tx) s (fun u => (u.lane p).run = 0 ∧ u.cause pageCaldir 0 = true ∧ u.cause (pagePort p) 26 = true ∧
      u.rd pageCaldir R.CALDIR.CAL_CNT_FAIL = satNat 32 (s.rd pageCaldir R.CALDIR.CAL_CNT_FAIL + 1))) ∧
  (∀ (s : State) p, p < 48 → (s.lane p).run = 2 → s.eyeBusy p = false → (s.lane p).borrowed = false → (s.lane p).recal = false →
    (s.lane p).retiring = false → s.setIn p < 2 →
    Runs (.slicerSwap p) s (fun u => u.setIn p = 1 - s.setIn p ∧ (u.lane p).run = 3)) ∧
  (∀ (s : State) ctx, s.writes ctx pageCaldir →
    Runs (.calCapture ctx) s (fun u => u.image = s.image ∧ if s.calBusy = true then u.flag pageCaldir R.CALDIR.CAL_STAT_CAPTURING = s.flag pageCaldir R.CALDIR.CAL_STAT_CAPTURING
      else u.flag pageCaldir R.CALDIR.CAL_STAT_CAPTURING = true)) ∧
  (∀ (s : State), s.flag pageCaldir R.CALDIR.CAL_STAT_CAPTURING = true →
    Runs .captureDone s (fun u => u.flag pageCaldir R.CALDIR.CAL_STAT_CAPTURING = false ∧ u.cause pageCaldir 1 = true ∧
      u.image = (s.storeImage (s.imageOf s.capture)).image ∧
      u.rd pageCaldir R.CALDIR.CAL_IMG_LEN = 4 * (s.imageOf s.capture).length % 2 ^ 18)) ∧
  (∀ (s : State) ctx, s.writes ctx pageCaldir → s.calBusy = false →
    Runs (.calApply ctx) s (fun u => u.image = s.image ∧
      if s.checkImage.1 = 0 then u.flag pageCaldir R.CALDIR.CAL_STAT_APPLYING = true ∧ u.flag pageCaldir R.CALDIR.CAL_STAT_IMG_REJECT = false
      else u.flag pageCaldir R.CALDIR.CAL_STAT_IMG_REJECT = true ∧ u.rd pageCaldir R.CALDIR.CAL_STAT_WHY = s.checkImage.1 ∧
        u.cause pageCaldir 3 = true ∧ u.lanes = s.lanes)) ∧
  (∀ (s : State), s.flag pageCaldir R.CALDIR.CAL_STAT_APPLYING = true → s.restWaits = false →
    Runs .applyDone s (fun u => u.flag pageCaldir R.CALDIR.CAL_STAT_APPLYING = false ∧ u.cause pageCaldir 2 = true)) ∧
  (∀ (s : State) ctx v, v < 2 ^ 32 → s.writes ctx pageCaldir → s.calBusy = false →
    Runs (.calImgDataAccess ctx true v) s (fun u => u.image = put 0 s.image (s.rd pageCaldir R.CALDIR.CAL_IMG_ADDR) v ∧
      u.rd pageCaldir R.CALDIR.CAL_IMG_ADDR = (s.rd pageCaldir R.CALDIR.CAL_IMG_ADDR + 1) % 2 ^ 15)) ∧
  (∀ (s : State) ctx v, s.reads ctx pageCaldir →
    Runs (.calImgDataAccess ctx false v) s (fun u =>
      s.returned u ctx (regAddr pageCaldir 0x054) (look 0 s.image (s.rd pageCaldir R.CALDIR.CAL_IMG_ADDR) % 2 ^ 32) ∧ u.image = s.image ∧
      u.rd pageCaldir R.CALDIR.CAL_IMG_ADDR = (s.rd pageCaldir R.CALDIR.CAL_IMG_ADDR + 1) % 2 ^ 15)) ∧
  (∀ (s : State) ctx t c v, t < 2 → c < 24 → v < 2 ^ 16 → s.writes ctx (pageTdc t c) →
    Runs (.tdcLutDataWrite ctx t c v) s (fun u => u.tdc t c = s.tdc t c ∧
      if s.flag pageCaldir R.CALDIR.CAL_CTL_RESTORE_OPEN = false then u.image = s.image
      else ∃ xs, u.image = (s.storeImage (s.imageOf xs)).image ∧ ∃ x ∈ xs, x.page = pageTdc t c ∧ x.kind = 1 ∧
        x.payload.getD (1 + s.rd (pageTdc t c) R.TDC.TDC_LUT_IDX) 0 = v))

/-- A monitor's report sets the index that R383 gives it, a failing condition 255; a spare that was approved is queued, and takes over
at its boundary, when its record is DONE (R383–R385).
Where the spec leaves something open here, the statement says what the model chose: log entries 66 and 72. -/
def Obligations.WearIsWatchedAndSparesTakeOver : Prop :=
  (∀ (s : State) page slice v, s.flag pageCave R.CAVE.CAVE_CTL_EN = true → (wearKind page).isSome → s.pageOn page →
    Runs (.wearUpdate page slice mCorrected v) s (fun u =>
      look 0 u.wear (wearKey page slice mCorrected) = min 255 (128 * v / s.rd pageCave R.CAVE.CAVE_CE_LIM))) ∧
  (∀ (s : State) page slice v, s.flag pageCave R.CAVE.CAVE_CTL_EN = true → (wearKind page).isSome → s.pageOn page →
    Runs (.wearUpdate page slice mLoop v) s (fun u => look 0 u.wear (wearKey page slice mLoop) = 255)) ∧
  (∀ (s : State) q k, s.accepts 0x49 q → k = s.cmdOf 0x49 q →
    Runs (.spareApprove q) s (fun u => match s.swapNumbered (k.arg 0) with
      | some i => if (s.swapRec i).state = 1 then u.inFlight k ∧ ((u.swapRec i).state = 2 ∨ (u.swapRec i).state = 3)
          else u.statusOf k = stWrongState ∧ u.swaps = s.swaps
      | none => u.statusOf k = stWrongState ∧ u.swaps = s.swaps)) ∧
  (∀ (s : State) i table, i < 16 → (s.swapRec i).state = 3 → (s.swapRec i).kind = 4 → s.flag pageCave R.CAVE.CAVE_CTL_EN = true → s.swapWait = [] →
    Runs (.spareSwap i table) s (fun u => (u.swapRec i).state = 4 ∧ u.cause pageCave 1 = true ∧
      look 0 u.rowMap ((s.swapRec i).page * 2 ^ 20 + (s.swapRec i).slice) = (s.swapRec i).spare + 1))

/-- A step runs the command at the front of the queue on the state with the queue's rest; with an empty queue a cycle of the TCU clock
goes by, 1 ns (R60; the idle step is the model's choice, log entry 9); every command answers a next state; and no word of the table
spells a command.
Where the spec leaves something open here, the statement says what the model chose: log entries 8, 9, 13 and 83. -/
def Obligations.AStepRunsTheFrontCommand : Prop :=
  (∀ (s : State) c q, step { s with pending := c :: q } = exec c { s with pending := q }) ∧
  (∀ (s : State), s.pending = [] → (∀ k ∈ s.cmds, k.started = true) → ∃ u, step s = .next u ∧ u.pending = [] ∧ u.up = s.up + 1 ∧
    ∀ t, t < 2 → (u.tcu t).now = if (s.tcu t).clk = true then ((s.tcu t).now + 1) % counterMod else (s.tcu t).now) ∧
  (∀ i (s : State), ∃ u, exec i s = .next u) ∧
  (∀ (s : State) nbits w, s.withFetchWord nbits w = s)

/-- At reset the device is held in reset, every register reads its reset value, no command waits or runs, no context is attached, no
token is held, and every memory is empty and in its canonical form (R8, R11, R400). The reset values that the spec does not give are
the model's choice (log entry 14). -/
def Obligations.ResetIsAsTheSpecSays : Prop :=
  State.reset.phase = .reset ∧ State.reset.pending = [] ∧ State.reset.cmds = [] ∧ State.reset.tokenHeld = false ∧
  (∀ p f i, State.reset.rdI p f i = f.reset p i % 2 ^ f.w) ∧
  (∀ d, 1 ≤ d → d ≤ 13 → State.reset.pwr d = 0) ∧ (∀ c, c < 4 → State.reset.canAccess c = false) ∧
  Memory.wf State.reset = true ∧ State.reset.lifeCycle = 0 ∧
  State.reset.shmem = [] ∧ State.reset.tabs = [] ∧ State.reset.image = [] ∧ State.reset.gwTpl = [] ∧ State.reset.cadTab = [] ∧
  State.reset.frames = [] ∧ State.reset.voqs = [] ∧ State.reset.engines = []

/-- Every memory of the device (the engines' shared memory, the forwarding tables, the staging image, the gateway templates, the cadence
tables and the user words of OTP) is in its canonical form after a step that starts from one in it, and the life-cycle state is one of
the four of R411.
Where the spec leaves something open here, the statement says what the model chose: log entry 2. -/
def Obligations.EveryStepKeepsMemoryAndOtpWellFormed : Prop :=
  ∀ s u : State, Memory.wf s = true → s.lifeCycle ≤ 3 → step s = .next u → Memory.wf u = true ∧ u.lifeCycle ≤ 3

/-- Whatever a step does, OTP is only programmed and never undone: the serial number stands, the life-cycle state does not go back,
a customer key hash stands, and no bit of a user word goes from 1 to 0 (R411, R412, R415); and the commands that wait stay in order.
Where the spec leaves something open here, the statement says what the model chose: log entry 78. -/
def Obligations.EveryStepMovesOtpForwardOnly : Prop :=
  ∀ s u : State, step s = .next u → s.otpForward u ∧ u.pending = s.pending.tail

/-- A read changes registers of the page addressed and of the reader's own page alone (its error record), and leaves memories, tables,
frames, queues, commands and time as they were (R8, R34).
A read, or a command written to a command register, of a page changes registers of that page and its TCU twin's alone, and leaves
the frames, the queues, the commands, the lanes, the trunks, OTP and the device time as they were. -/
def Obligations.ReadsAndWindowAccessesKeepTheRest : Prop :=
  (∀ (s u : State) ctx a size, a < 2 ^ 24 → ctx < 4 →
    exec (.counterReadClear ctx a) s = .next u ∨ exec (.accessErrorRead ctx a size) s = .next u →
    (∀ q f i, f.inPage i = true → q ≠ addrPage a → q ≠ pageHC ctx → u.rdI q f i = s.rdI q f i) ∧
    u.shmem = s.shmem ∧ u.tabs = s.tabs ∧ u.image = s.image ∧ u.gwTpl = s.gwTpl ∧ u.cadTab = s.cadTab ∧ u.otp = s.otp ∧
    u.frames = s.frames ∧ u.voqs = s.voqs ∧ u.cmds = s.cmds ∧ u.shadow = s.shadow ∧ u.up = s.up) ∧
  (∀ (s u : State) ctx p i t c e n k b v, ctx < 4 → t < 2 → c < 24 → e < 8 → n < 64 → k < 48 →
    (p, i) ∈ [(pageTdc t c, Instr.tdcArmNow ctx t c), (pageTdc t c, .tdcRes0Read ctx t c),
      (pageTdc t c, .tdcRes4Read ctx t c), (pagePtp t (c % 2), .ptpTxts0Read ctx t (c % 2)), (pagePtp t (c % 2), .ptpTxts3Read ctx t (c % 2)),
      (pageCad t, .cadTblRead ctx t), (pageGw t, .gwTplRead ctx t),
      (pageEng e, .mbxPush ctx e), (pageEng e, .mbxClear ctx e), (pageEng e, .mbxDataWrite ctx e v), (pageEng e, .mbxOutPop ctx e),
      (pageEng e, .mbxOutDataRead ctx e), (pageEshared, .shDataAccess ctx b v), (pageVoq, .voqSelWrite ctx v), (pageShape, .shpWrite ctx true),
      (pageShape, .shpRead ctx), (pageGate, .gateWrite ctx), (pageGate, .gateRead ctx), (pageSample, .smpRd0Read ctx), (pageSample, .smpRd3Read ctx),
      (pagePort k, .statOctetsLoRead ctx k b), (pageHC ctx, .pktRxfDataRead ctx), (pagePerf n, .pcValLoRead ctx n), (pagePerf n, .pcValLoWrite ctx n v),
      (pageSu, .suSnap ctx), (pageCaldir, .calImgDataAccess ctx b v)] →
    exec i s = .next u →
    (∀ q f j, f.inPage j = true → q ≠ p → q ≠ twin p → u.rdI q f j = s.rdI q f j) ∧
    u.frames = s.frames ∧ u.voqs = s.voqs ∧ u.cmds = s.cmds ∧ u.lanes = s.lanes ∧ u.trunks = s.trunks ∧ u.otp = s.otp ∧ u.up = s.up)

/-- What an engine's tasks do changes registers of that engine's page alone, and leaves the other engines, every memory, the frames,
the queues and the commands as they were (R351, R353, R354).
What a lane's receiver, its tap requests, its measurements, its idle and its repeated PAUSE do leaves the other lanes and MACs, the
registers of every page but the port's own, and the tables, frames and commands as they were; at the TCUs at most time passes. -/
def Obligations.EngineAndLaneCommandsKeepTheRest : Prop :=
  (∀ (s u : State) e i, e < 8 → (∃ n t code src timer sent m, i ∈ [Instr.dispatch e, .taskSliceEnd e n sent, .taskYield e n sent,
      .taskWait e timer sent, .taskTimerExpiry e t, .taskFault e code, .mailboxMessageArrival e t src m]) →
    exec i s = .next u →
    (∀ p f j, f.inPage j = true → p ≠ pageEng e → u.rdI p f j = s.rdI p f j) ∧ (∀ d, d ≠ e → u.eng d = s.eng d) ∧
    u.shmem = s.shmem ∧ u.tabs = s.tabs ∧ u.image = s.image ∧ u.gwTpl = s.gwTpl ∧ u.cadTab = s.cadTab ∧ u.otp = s.otp ∧
    u.frames = s.frames ∧ u.voqs = s.voqs ∧ u.cmds = s.cmds ∧ u.tcus = s.tcus) ∧
  (∀ (s u : State) p i r a b c errs rx, p < 48 →
    i ∈ [Instr.losCleared p, .trainingRequest p r a b c, .eyeDone p errs, .lpiEnter p rx, .lpiWake p rx, .pauseRefresh p] →
    exec i s = .next u →
    (∀ q f j, f.inPage j = true → q ≠ pagePort p → s.untimed u q → u.rdI q f j = s.rdI q f j) ∧ (∀ q, q ≠ p → u.lane q = s.lane q ∧ u.mac q = s.mac q) ∧
    u.shmem = s.shmem ∧ u.tabs = s.tabs ∧ u.image = s.image ∧ u.gwTpl = s.gwTpl ∧ u.cadTab = s.cadTab ∧ u.otp = s.otp ∧
    u.frames = s.frames ∧ u.voqs = s.voqs ∧ u.cmds = s.cmds ∧ s.timePasses u)

/-- Learning, window operations and the comparator change registers of the forwarding pages and of the contexts' own pages alone (a
flush completes its command there), and leave the other memories, the frames and the queues as they were (R275, R276, R286, R288). -/
def Obligations.TableCommandsKeepTheRest : Prop :=
  ∀ (s u : State) i page, 0x0C3 ≤ page → page ≤ 0x0C6 → (∃ w tbl sh parity, i ∈ [Instr.learnCopyArrival w, .learnCommit w, .shadowCompare tbl sh,
      .tblOpComplete page parity]) →
    exec i s = .next u →
    (∀ p f j, f.inPage j = true → ¬ (0x0C1 ≤ p ∧ p ≤ 0x0C7) → ¬ (0x010 ≤ p ∧ p ≤ 0x013) → s.untimed u p → u.rdI p f j = s.rdI p f j) ∧
    u.shmem = s.shmem ∧ u.image = s.image ∧ u.gwTpl = s.gwTpl ∧ u.cadTab = s.cadTab ∧ u.otp = s.otp ∧
    u.frames = s.frames ∧ u.voqs = s.voqs ∧ u.engines = s.engines

/-- A write that is not of one aligned word changes nothing but the error record, with the interrupts that it brings, and a read that is not
returns 0 and changes no more: either is recorded
as an access error of the page concerned, the page addressed or, where that is not allocated, the context's own (R6). -/
def Obligations.AccessesOtherThanAlignedWordsHaveNoEffect : Prop :=
  (∀ (s : State) ctx a size v, a < 2 ^ 24 → s.canAccess ctx = true → size ≠ 4 ∨ a % 4 ≠ 0 →
    Runs (.registerWrite ctx a size v) s (fun u => s.onlyRegs u ∧
      (∀ q f i, f.inPage i = true → q ≠ errPage ctx a ∨ (f.word i ≠ 3 ∧ f.word i ≠ 6 ∧ f.word i ≠ 7) → u.rdI q f i = s.rdI q f i) ∧
      bitAt (u.rd (errPage ctx a) R.HDR.HDR_ERR_CAUSE_ACC) 0 = true)) ∧
  (∀ (s : State) ctx a size, a < 2 ^ 24 → s.canAccess ctx = true → size ≠ 4 ∨ a % 4 ≠ 0 →
    Runs (.accessErrorRead ctx a size) s (fun u => s.returned u ctx a 0 ∧ s.onlyRegs u ∧
      (∀ q f i, f.inPage i = true → q ≠ errPage ctx a ∨ (f.word i ≠ 3 ∧ f.word i ≠ 6 ∧ f.word i ≠ 7) → u.rdI q f i = s.rdI q f i) ∧
      bitAt (u.rd (errPage ctx a) R.HDR.HDR_ERR_CAUSE_ACC) 0 = true))

/-- A counter of the port page counts up to 0xFFFF_FFFF and stays there, and a read of it returns its value and clears it (R183). -/
def Obligations.PortCountersSaturateAndClearWhenRead : Prop :=
  (∀ (s : State) p f n, p < 48 → f ∈ R.PORT.rows → f.clr = true → f.w = 32 →
    (s.addI (pagePort p) f 0 n).rd (pagePort p) f = min (s.rd (pagePort p) f + n) 0xFFFFFFFF) ∧
  (∀ (s : State) p, p < 48 → s.pageOn (pagePort p) → s.signal p = true → s.isLane p = false → s.link p = lkTraining →
    s.rd (pagePort p) R.PORT.CNT_LOS = 0xFFFFFFFF →
    Runs (.losDeclared p true) s (fun u => u.rd (pagePort p) R.PORT.CNT_LOS = 0xFFFFFFFF)) ∧
  (∀ (s : State) ctx p f, p < 48 → s.reads ctx (pagePort p) → f ∈ R.PORT.rows → f.clr = true → f.w = 32 →
    Runs (.counterReadClear ctx (regAddr (pagePort p) f.off)) s (fun u =>
      s.returned u ctx (regAddr (pagePort p) f.off) ((s.livePort p f).getD (s.rd (pagePort p) f)) ∧ u.rd (pagePort p) f = 0))

/-- The correction table of a run holds, for every raw code, the corrected fine value at the centre of the code's bin, rounded to the
nearest; an ideal line's is 128k + 64; the run's end puts it in wait and gate idle installs it, where each code reads its value (R72), with the
residual, sensor value and second of its run (R71, R379). -/
def Obligations.TheCorrectionTableTakesBinCentres : Prop :=
  (∀ (h : List Nat) k, k < 512 → ∃ x : Nat, (fineTable h)[k]? = some x ∧
    (2 * 40960 * x : Int) - 65536 * (2 * ((h.take k).sum : Int) + (h.getD k 0 : Int)) ≤ 40960 ∧
    65536 * (2 * ((h.take k).sum : Int) + (h.getD k 0 : Int)) - (2 * 40960 * x : Int) ≤ 40960) ∧
  (∀ k, k < 512 → (fineTable (List.replicate 512 80)).getD k 0 = 128 * k + 64) ∧
  (∀ (s : State) t c hist lines res, t < 2 → c < 24 → lines % 32 = 31 → s.calRunning.contains (pageTdc t c) = true →
    Runs (.tdcCalEnd t c hist lines res) s (fun u => (u.tdc t c).newLut = some ⟨fineTable hist, tdcLatency c res, s.sensor t, s.sec % 2 ^ 32⟩)) ∧
  (∀ (s : State) t c hist lat z n k, t < 2 → c < 24 → k < 512 → s.gateIdle t c = true → s.flag (pageTdc t c) R.TDC.TDC_STAT_CAL_RUNNING = false →
    (s.tdc t c).newLut = some ⟨fineTable hist, lat, z, n⟩ → (s.tdc t c).rest = none →
    Runs (.tdcCalInstall t c) s (fun u => (u.tdc t c).fine k = (fineTable hist).getD k 0 ∧ (u.tdc t c).tVal = z ∧ (u.tdc t c).secs = n ∧
      u.rd (pageTdc t c) R.TDC.TDC_LAT = lat % 2 ^ R.TDC.TDC_LAT.w))

/-- DEVICE_RESET and LIFECYCLE_ADVANCE keep each other out: either, and a second DEVICE_RESET, completes BUSY while one is in flight,
and CMD_ABORT on a DEVICE_RESET in its delay cancels the reset (R402). -/
def Obligations.ResetAndAdvanceExcludeEachOther : Prop :=
  (∀ (s : State) q, ({ s with cmds := [] } : State).accepts 0x12 q → (s.findOp 0x13).isSome ∨ (s.findOp 0x12).isSome →
    Runs (.deviceReset q) s (fun u => u.statusOf (s.cmdOf 0x12 q) = stBusy ∧ u.phase = s.phase)) ∧
  (∀ (s : State) q, ({ s with cmds := [] } : State).accepts 0x13 q → (s.findOp 0x12).isSome →
    Runs (.lifecycleAdvance q) s (fun u => u.statusOf (s.cmdOf 0x13 q) = stBusy ∧ u.phase = s.phase)) ∧
  (∀ (s : State) q j, s.accepts 0x01 q → s.handleLive (q.ctx % 4) ((s.cmdOf 0x01 q).arg 0 % 65536) = true → j.handle ≠ (s.cmdOf 0x01 q).handle → j.op = 0x12 → j.started = true → j.count ≠ q.count → (∀ k ∈ s.cmds, k.op = 0x12 → k = j) →
    s.byHandle (q.ctx % 4) ((s.cmdOf 0x01 q).arg 0 % 65536) = some j →
    Runs (.cmdAbort q) s (fun u => u.statusOf j = stAborted ∧ u.phase = s.phase ∧
      Runs .deviceResetDelayExpiry u (fun v => v.phase = s.phase)))

/-- An advance out of BLANK programs the key hash of LC_KEYHASH0–7 unless they are all zero; past BLANK the hash stands, whatever
step is taken; at release KEY_SET shows whether one is held (R412). -/
def Obligations.TheKeyHashIsProgrammedOnLeavingBlank : Prop :=
  (∀ (s : State) k, s.findOp 0x13 = some k →
    Runs .lifecycleHoldExpiry s (fun u => u.lifeProg = some (k.arg 0,
      if ∀ i ∈ List.range 8, s.rdI pageLc R.LC.LC_KEYHASH i = 0 then [] else (List.range 8).map (fun i => s.rdI pageLc R.LC.LC_KEYHASH i)))) ∧
  (∀ (s : State) n hash, s.lifeProg = some (n, hash) → bitAt s.resetCauses 4 = false → s.lifeCycle = 0 → s.keyHash = [] → 0 < n → n < 4 →
    Runs .lifecycleOtpDone s (fun u => u.lifeCycle = n ∧ u.keyHash = hash)) ∧
  (∀ (s u : State), s.lifeCycle ≠ 0 → step s = .next u → u.keyHash = s.keyHash) ∧
  (∀ (s : State) hc osc lead src, s.phase = .reset → s.thermalHold = false → s.lifeProg = none →
    Runs (.resetRelease hc osc lead src) s (fun u => u.flag pageLc R.LC.LC_STAT_KEY_SET = decide (s.keyHash ≠ [])))

/-- What the TCUs do by themselves changes registers of the blocks concerned alone: time, capture channels, synthesizers, outputs and
the selection; and it leaves the memories, the frames, the queues, the engines and the trunks as they were. -/
def Obligations.TimingEventsKeepTheRest : Prop :=
  ∀ (s u : State) t c n m x b k (z : Int) (h : List Nat) ms L i, t < 2 → c < 24 →
    (L, i) ∈ [(selectionBlocks ++ [Blk.tdc, .sample], Instr.slewDone t), ([.synth], .refmulLocked t), ([.synth, .caldir], .bandFound t n m), ([.synth, .time, .tdc, .sample], .syncRestart t), ([], .syncInEdge b),
      ([.out], .outAlignAverageDone t n), ([.out], .outAlignEdge t n z), ([.out], .outAlignTimeout t n), ([.out, .synth, .time, .tdc, .sample], .outputPulseInstant t n),
      ([.time, .tdc, .sample], .fuEntryExpiry n), ([.tdc], .gateInputEdge n b), ([.tdc, .caldir, .hc], .tdcCalStart t), ([.tdc, .caldir, .hc], .calDeferTimeout t c),
      ([.tdc, .caldir, .hc, .cave], .tdcCalEnd t c h k z), ([.tdc, .caldir, .hc], .tdcCalInstall t c),
      (selectionBlocks, .candSecondEval t ms), (selectionBlocks ++ [.tdc, .sample], .candLoss t n),
      (selectionBlocks, .candSoakComplete t n), (selectionBlocks, .candWtrComplete t n),
      (selectionBlocks, .disagreementDetected t n m), (selectionBlocks, .servoUpdate t z),
      (selectionBlocks ++ [.tdc, .sample], .lockDeclared t), (selectionBlocks, .holdoverSecond t),
      (selectionBlocks, .timeBlockLoss x), ([.arb], .timeDisagree)] →
    exec i s = .next u →
    s.keepsRegs u L ∧ s.keepsMemories u ∧ u.frames = s.frames ∧ u.voqs = s.voqs ∧ u.engines = s.engines ∧ u.trunks = s.trunks ∧
    u.gates = s.gates ∧ u.perfs = s.perfs ∧ u.shadow = s.shadow

/-- What a trunk and the cadence do by themselves changes registers of the trunks and their ports, of the cadence, gateway and control
pages, of the capture channels they arm or use and of the contexts alone, and leaves the memories, the frames, the queues, the engines and the performance counters as they were. -/
def Obligations.TrunkAndCadenceEventsKeepTheRest : Prop :=
  ∀ (s u : State) n k m l t c (a b e : Bool) (z : Int) L i, n < 12 →
    (L, i) ∈ [([Blk.nt], Instr.trunkTrainingComplete n), ([.nt, .hc], .trunkMaxWaitExpiry n), ([.nt, .port], .trunkBackoffExpiry n),
      ([.nt, .port], .trunkFrameLock n), ([.nt, .port], .trunkQuietExpiry n), ([.nt, .port], .trunkSignalStable n), ([.nt], .trunkAligned n k),
      ([.nt, .hc], .trunkAligningTimeout n), ([.nt, .hc], .helloTimeout n), ([.nt, .port, .hc], .clause73PagesRx n), ([.nt], .recentre n l),
      ([.nt, .time, .tdc, .sample], .markerSend n), ([.time, .tdc, .sample], .helloSend n l), ([.time, .tdc, .sample], .timeBlockSend n), ([.nt, .time, .tdc, .sample], .echoSend n), ([.nt, .cad], .markerBlockRx n l k m z),
      ([.nt], .echoRx n k m), ([.nt, .tdc], .epochMarkerCapture t n k a m), ([.time, .tdc, .sample], .hoopBoundary), ([.cad, .nt, .gw], .cadenceBlockRx n l k m c z),
      ([.cad, .gw, .ctl, .time, .tdc, .sample], .cadenceSlotSend n k m a b e), ([.cad, .gw, .time, .tdc, .sample], .gwWindowClose k m)] →
    exec i s = .next u →
    s.keepsRegs u L ∧ s.keepsMemories u ∧ u.frames = s.frames ∧ u.voqs = s.voqs ∧ u.engines = s.engines ∧ u.gates = s.gates ∧
    u.perfs = s.perfs ∧ u.shadow = s.shadow

/-- What the switch does with a frame changes registers of ports and MACs, of the buffers, gates and scheduler, and of those it is given to
(a host packet port, an engine, PTP) alone, and leaves the memories, the performance counters and the trunks, but for the lane whose turn it is, as they were; at the TCUs at most time passes. -/
def Obligations.SwitchEventsKeepTheRest : Prop :=
  ∀ (s u : State) p f e n q g (l : List Byte) (a b : Bool) (z w : Int) ds o L i, p < 48 →
    (L, i) ∈ [([Blk.port, .vat, .gate], Instr.frameRxStart p f l z a w), ([.port, .vat, .gate], .cellArrival f l), ([.port, .vat, .gate, .enge], .frameRxEnd f e b),
      ([.port, .vat, .voq, .gate, .sched], .schedulerDecision p ds), ([.port, .vat, .vb, .gate], .copyDepart p ds none a),
      ([.port, .vat, .vb, .gate], .frameTxEnd p), ([.whey, .time, .tdc, .sample], .wheyPeriodicStart), ([.port, .whey, .vat, .hc], .wheyWalkEnd), ([.port, .vat, .gate], .pauseRx p q),
      ([.hc, .vat, .port, .voq, .gate, .ptp], .hostTxFrame n [] (some l) f), ([.hc, .vat, .vb, .port], .hostRxDelivery g ds o)] →
    exec i s = .next u →
    s.keepsRegs u L ∧ s.keepsMemories u ∧ s.timePasses u ∧ (∀ n, u.trunk n = { s.trunk n with turn := (u.trunk n).turn }) ∧ u.perfs = s.perfs ∧ u.shadow = s.shadow

/-- What the supplies, the pins, the test port and the services of the device do by themselves changes registers of their own pages and
the contexts' alone, and leaves the memories, the frames, the queues and the trunks as they were; at the TCUs at most time passes. -/
def Obligations.ServiceEventsKeepTheRest : Prop :=
  ∀ (s u : State) n m a c (b : Bool) L i,
    (L, i) ∈ [([Blk.supply, .hc], Instr.supplyWarn n), ([.supply], .supplyBelowClear n), ([.supply, .hc, .sched, .eng, .enge, .time, .tdc, .sample], .bgDwellExpiry),
      ([.rind, .hc], .oscWaitTimeout), ([.hc], .pcieLinkUp n), ([.hc], .pcieLinkDown n), ([.hc], .pePerstAssert), ([], .pePerstRelease), ([.boot], .deviceReady),
      ([.time, .tdc, .sample], .thermalRelease), ([], .jtagInstruction n m), ([.time, .tdc, .sample], .intHoldoffExpiry n), ([], .msixEnable n), ([.eng, .cave, .hc], .engineSelfTestEnd n b),
      ([.caldir], .applyDone), ([.perfc, .perf], .perfCounterOverflow n m a c), ([.grp], .lanePllLost n b)] →
    exec i s = .next u →
    s.keepsRegs u L ∧ s.keepsMemories u ∧ u.frames = s.frames ∧ u.voqs = s.voqs ∧ u.trunks = s.trunks ∧ s.timePasses u ∧ u.shadow = s.shadow

/-- A request changes registers of the contexts' pages and of the blocks whose objects it names alone, and leaves the memories but the
forwarding tables as they were. -/
def Obligations.RequestsKeepTheRest : Prop :=
  ∀ (s u : State) q L i,
    (L, i) ∈ [([Blk.hc], Instr.nop q), ([.hc], .cmdQuery q), ([.hc, .pwr], .domainOn q), ([.hc], .deviceReset q), ([.hc], .lifecycleAdvance q),
      ([.hc, .port], .portEnable q), ([.hc, .nt, .port], .trunkEnable q), ([.hc], .queueEnable q), ([.hc, .shadow], .tableWriteCritical q),
      ([.hc], .tableFence q), ([.hc], .tableFlush q), ([.hc, .whey], .wheyAudit q), ([.hc, .gate], .gateListInstall q), ([.hc, .enge, .eng], .taskLoad q),
      ([.hc, .enge], .taskStart q), ([.hc, .enge], .taskStop q), ([.hc, .ctl, .synth], .tcuFwStage q), ([.hc], .timeStep q), ([.hc], .calRun q),
      ([.hc, .cave, .vb], .spareApprove q), ([.hc, .nt, .port, .enge, .cave, .vb], .cmdAbort q), ([.hc, .pwr, .port], .domainOff q), ((pageBlk q.page).toList ++ [.hc, .port, .vat, .gate], .portDisable q),
      ((pageBlk q.page).toList ++ selectionBlocks ++ [.nt, .port, .vat, .gate], .trunkDisable q), ((pageBlk q.page).toList ++ [.hc, .vat, .port, .gate], .queueDisable q), ([.hc, .arb, .ctl, .synth], .tcuSwitchover q),
      (selectionBlocks, .timeDomainSelect q)] →
    exec i s = .next u →
    s.keepsRegs u L ∧ u.shmem = s.shmem ∧ u.image = s.image ∧ u.gwTpl = s.gwTpl ∧ u.cadTab = s.cadTab ∧ u.otp = s.otp ∧ u.shadow = s.shadow ∧
    u.phase = s.phase ∧ u.up = s.up

/-- A wear monitor's report sets the slice's index as R383 gives it, whichever the monitor; an approval moves the record named to QUEUED,
the copy of a bank, an engine or a row beginning at once, and any other approval completes WRONG_STATE; and a swap of any kind takes
effect at its boundary: the bank, the line, the slicer set, the engine or the row is the spare's from then on (R384, R385). That the copy
begins at once is the model's reading (log entry 72).
Where the spec leaves something open here, the statement says what the model chose: log entry 66. -/
def Obligations.WearReportsApprovalsAndSwapsComplete : Prop :=
  (∀ (s : State) page slice m v lim, s.flag pageCave R.CAVE.CAVE_CTL_EN = true → (wearKind page).isSome → s.pageOn page → 1 ≤ m → m ≤ 7 →
    lim = s.rd pageCave R.CAVE.CAVE_CE_LIM →
    Runs (.wearUpdate page slice m v) s (fun u => look 0 u.wear (wearKey page slice m) =
      if m = mCorrected then min 255 (128 * v / lim) else if m = mParity then min 255 (128 * (v * (lim / 2)) / lim)
      else if m = mUncorr then (if v ≥ 2 then 255 else 0) else if m = mTap then min 255 (128 * v / 2000)
      else if m = mOffset then min 255 (128 * v / 750) else 255)) ∧
  (∀ (s : State) q k i, s.accepts 0x49 q → k = s.cmdOf 0x49 q → s.swapNumbered (k.arg 0) = some i → (s.swapRec i).state = 1 →
    Runs (.spareApprove q) s (fun u => u.inFlight k ∧
      u.swapRec i = { s.swapRec i with state := if (s.swapRec i).kind = 0 ∨ (s.swapRec i).kind = 3 ∨ (s.swapRec i).kind = 4 then 3 else 2, since := s.up })) ∧
  (∀ (s : State) q k, s.accepts 0x49 q → k = s.cmdOf 0x49 q → (∀ i, s.swapNumbered (k.arg 0) = some i → (s.swapRec i).state ≠ 1) →
    Runs (.spareApprove q) s (fun u => u.statusOf k = stWrongState ∧ u.swaps = s.swaps)) ∧
  (∀ (s : State) i table r, i < 16 → r = s.swapRec i → r.state = 2 ∨ r.state = 3 → s.flag pageCave R.CAVE.CAVE_CTL_EN = true →
    r.kind = 0 → r.page = pageVat → r.slice < 36 → r.spare < 36 → r.slice ≠ r.spare →
    Runs (.spareSwap i table) s (fun u => s.swapTaken u i ∧ u.bankRole r.spare = bInService ∧ u.bankRole r.slice = bRetired ∧
      u.bankLogical r.spare = s.bankLogical r.slice)) ∧
  (∀ (s : State) i table r t c, i < 16 → r = s.swapRec i → r.state = 2 ∨ r.state = 3 → s.flag pageCave R.CAVE.CAVE_CTL_EN = true →
    r.kind = 1 → t < 2 → c < 24 → r.page = pageTdc t c → r.slice < 4 → s.gateIdle t c = true → s.flag r.page R.TDC.TDC_STAT_CAL_RUNNING = false →
    Runs (.spareSwap i table) s (fun u => s.swapTaken u i ∧ u.rd r.page R.TDC.TDC_STAT_SPARE_FOR = r.slice ∧
      (u.tdc t c).lut = tableStore (table.map (fun v => v % 65536)))) ∧
  (∀ (s : State) i table r p, i < 16 → r = s.swapRec i → r.state = 2 → s.flag pageCave R.CAVE.CAVE_CTL_EN = true →
    r.kind = 2 → p < 48 → r.page = pagePort p → r.slice < 2 → s.slicerSwap p r.slice = some i → s.setIn p ≠ r.slice → (s.lane p).run = 0 →
    (s.lane p).recal = false → s.eyeBusy p = false →
    Runs (.spareSwap i table) s (fun u => s.swapTaken u i ∧ bitAt (u.lane p).retired r.slice = true)) ∧
  (∀ (s : State) i table r, i < 16 → r = s.swapRec i → r.state = 3 → s.flag pageCave R.CAVE.CAVE_CTL_EN = true →
    r.kind = 3 → r.page = pageEngc → r.slice < 8 → s.engSwap r.slice = some i → s.running r.slice = none →
    Runs (.spareSwap i table) s (fun u => s.swapTaken u i ∧ u.flag pageEngc R.ENG.ENG_STAT_SPARE_IN_USE = true ∧
      u.rd pageEngc R.ENG.ENG_STAT_SPARE_FOR = r.slice ∧ u.rd (pageEng r.slice) R.ENGE.ENG_E_STAT_PHYS = 8)) ∧
  (∀ (s : State) i table r, i < 16 → r = s.swapRec i → r.state = 2 ∨ r.state = 3 → s.flag pageCave R.CAVE.CAVE_CTL_EN = true →
    r.kind = 4 → wearKind r.page = some 4 →
    Runs (.spareSwap i table) s (fun u => s.swapTaken u i ∧ look 0 u.rowMap (r.page * 2 ^ 20 + r.slice) = r.spare + 1))
end

