-- ==== Sys2Proof/Laws/Store.lean ====
section
/-! SUPPORT. What the canonical store's operations do: lookups after updates, and the canonical form that every update keeps. -/

namespace Sys2Proof.Machine

open Sys2Proof

variable {α : Type}

@[simp] theorem look_nil (d : α) (q : Nat) : look d [] q = d := rfl

theorem look_cons (d : α) (k : Nat) (v : α) (m : Store α) (q : Nat) : look d ((k, v) :: m) q = if q = k then v else look d m q := rfl

@[simp] theorem look_drop_same (d : α) (m : Store α) (q : Nat) : look d (drop m q) q = d := by
  induction m with
  | nil => rfl
  | cons e m ih =>
    obtain ⟨k, v⟩ := e
    by_cases h : q = k
    · simp [drop, h] at ih ⊢; simpa [h] using ih
    · simp [drop, h, look_cons, ih]

theorem look_drop_ne (d : α) (m : Store α) {q k : Nat} (h : k ≠ q) : look d (drop m q) k = look d m k := by
  induction m with
  | nil => rfl
  | cons e m ih =>
    obtain ⟨j, v⟩ := e
    by_cases hq : q = j
    · subst hq; simp [drop, look_cons, h, ih]
    · simp [drop, hq, look_cons, ih]

theorem look_insert_ne (d : α) (m : Store α) {q k : Nat} (x : α) (h : k ≠ q) : look d (insert m q x) k = look d m k := by
  induction m with
  | nil => simp [insert, look_cons, h]
  | cons e m ih =>
    obtain ⟨j, v⟩ := e
    by_cases hq : q < j
    · simp [insert, hq, look_cons, h]
    · simp [insert, hq, look_cons, ih]

@[simp] theorem look_insert_drop (d : α) (m : Store α) (q : Nat) (x : α) : look d (insert (drop m q) q x) q = x := by
  induction m with
  | nil => simp [drop, insert, look_cons]
  | cons e m ih =>
    obtain ⟨j, v⟩ := e
    by_cases hq : q = j
    · subst hq; simpa [drop] using ih
    · by_cases hl : q < j
      · simp [drop, hq, insert, hl, look_cons]
      · simp [drop, hq, insert, hl, look_cons, ih]

@[simp] theorem look_put_same [DecidableEq α] (d : α) (m : Store α) (q : Nat) (x : α) : look d (put d m q x) q = x := by
  unfold put; split
  · simp_all
  · simp

theorem look_put_ne [DecidableEq α] (d : α) (m : Store α) {q k : Nat} (x : α) (h : k ≠ q) : look d (put d m q x) k = look d m k := by
  unfold put; split
  · exact look_drop_ne d m h
  · rw [look_insert_ne d _ x h, look_drop_ne d m h]

/-- The same where the reader takes another unlisted value than the writer. -/
theorem look_put_other [DecidableEq α] (d e : α) (m : Store α) {q k : Nat} (x : α) (h : k ≠ q) : look e (put d m q x) k = look e m k := by
  unfold put; split
  · exact look_drop_ne e m h
  · rw [look_insert_ne e _ x h, look_drop_ne e m h]

/-- A lookup after an update, in one line. -/
theorem look_put [DecidableEq α] (d : α) (m : Store α) (q k : Nat) (x : α) : look d (put d m q x) k = if k = q then x else look d m k := by
  by_cases h : k = q
  · subst h; simp
  · simp [look_put_ne d m x h, h]

@[simp] theorem look_upd_same [DecidableEq α] (d : α) (m : Store α) (q : Nat) (f : α → α) : look d (upd d m q f) q = f (look d m q) := by
  simp [upd]

theorem look_upd_ne [DecidableEq α] (d : α) (m : Store α) {q k : Nat} (f : α → α) (h : k ≠ q) : look d (upd d m q f) k = look d m k := by
  simp [upd, look_put_ne d m _ h]

/-! ### The canonical form -/

/-- Every key of the store is at least `b`. -/
def above (b : Nat) (m : Store α) : Bool := m.all (fun e => decide (b ≤ e.1))

theorem rising_cons (k : Nat) (v : α) (m : Store α) : rising ((k, v) :: m) = (above (k + 1) m && rising m) := by
  induction m generalizing k v with
  | nil => simp [rising, above]
  | cons e m ih =>
    obtain ⟨j, w⟩ := e
    have e1 : rising ((k, v) :: (j, w) :: m) = (decide (k < j) && rising ((j, w) :: m)) := rfl
    rw [e1, ih, Bool.eq_iff_iff]
    simp only [above, List.all_cons, Bool.and_eq_true, decide_eq_true_eq, List.all_eq_true]
    constructor
    · rintro ⟨h1, h2, h3⟩
      exact ⟨⟨by omega, fun x hx => by have := h2 x hx; omega⟩, h2, h3⟩
    · rintro ⟨⟨h1, _⟩, h2, h3⟩
      exact ⟨by omega, h2, h3⟩

theorem all_drop (p : Nat × α → Bool) (m : Store α) (q : Nat) (h : m.all p = true) : (drop m q).all p = true := by
  induction m with
  | nil => rfl
  | cons e m ih =>
    obtain ⟨j, v⟩ := e
    rw [List.all_cons, Bool.and_eq_true] at h
    by_cases hq : q = j
    · simp only [drop, hq, if_true]; rw [hq] at ih; exact ih h.2
    · simp only [drop, hq, if_false, List.all_cons, Bool.and_eq_true]; exact ⟨h.1, ih h.2⟩

theorem above_drop (b : Nat) (m : Store α) (q : Nat) (h : above b m = true) : above b (drop m q) = true := all_drop _ m q h

theorem rising_drop (m : Store α) (q : Nat) (h : rising m = true) : rising (drop m q) = true := by
  induction m with
  | nil => rfl
  | cons e m ih =>
    obtain ⟨j, v⟩ := e
    rw [rising_cons] at h; simp at h
    by_cases hq : q = j
    · simp only [drop, hq, if_true]; simpa [hq] using ih h.2
    · simp only [drop, hq, if_false]; rw [rising_cons]; simp; exact ⟨above_drop _ _ _ h.1, ih h.2⟩

theorem above_mono {a b : Nat} (m : Store α) (hab : a ≤ b) (h : above b m = true) : above a m = true := by
  simp only [above, List.all_eq_true, decide_eq_true_eq] at h ⊢
  exact fun x hx => le_trans hab (h x hx)

theorem above_insert (b q : Nat) (x : α) (m : Store α) (h : above b m = true) (hq : b ≤ q) : above b (insert m q x) = true := by
  induction m with
  | nil => simp [insert, above, hq]
  | cons e m ih =>
    obtain ⟨j, v⟩ := e
    simp [above] at h ih
    by_cases hl : q < j
    · simp [insert, hl, above, hq, h.1]; exact h.2
    · simp [insert, hl, above, h.1]; exact ih h.2

theorem rising_insert (m : Store α) (q : Nat) (x : α) (h : rising m = true) : rising (insert (drop m q) q x) = true := by
  induction m with
  | nil => rfl
  | cons e m ih =>
    obtain ⟨j, v⟩ := e
    rw [rising_cons] at h; simp at h
    by_cases hq : q = j
    · simp only [drop, hq, if_true]; simpa [hq] using ih h.2
    · by_cases hl : q < j
      · simp only [drop, hq, if_false, insert, hl, if_true]
        rw [rising_cons, rising_cons]; simp
        refine ⟨?_, above_drop _ _ _ h.1, rising_drop _ _ h.2⟩
        simp only [above, List.all_cons, Bool.and_eq_true, decide_eq_true_eq]
        exact ⟨by omega, above_mono _ (by omega : q + 1 ≤ j + 1) (above_drop _ _ q h.1)⟩
      · simp only [drop, hq, if_false, insert, hl]
        rw [rising_cons]; simp
        exact ⟨above_insert _ _ _ _ (above_drop _ _ _ h.1) (by omega), ih h.2⟩

/-- Every write keeps the keys strictly rising. -/
theorem rising_put [DecidableEq α] (d : α) (m : Store α) (q : Nat) (x : α) (h : rising m = true) : rising (put d m q x) = true := by
  unfold put; split
  · exact rising_drop _ _ h
  · exact rising_insert _ _ _ h

theorem all_insert (p : Nat × α → Bool) (m : Store α) (q : Nat) (x : α) (h : m.all p = true) (hx : p (q, x) = true) :
    (insert m q x).all p = true := by
  induction m with
  | nil => simp [insert, hx]
  | cons e m ih =>
    obtain ⟨j, v⟩ := e
    simp at h ih
    by_cases hl : q < j
    · simp [insert, hl, hx, h.1]; exact h.2
    · simp [insert, hl, h.1]; exact ih h.2

/-- Every write keeps the canonical form. -/
theorem canon_put [DecidableEq α] (d : α) (m : Store α) (q : Nat) (x : α) (h : canon d m = true) : canon d (put d m q x) = true := by
  simp only [canon, Bool.and_eq_true] at h ⊢
  refine ⟨rising_put d m q x h.1, ?_⟩
  unfold put; split
  · exact all_drop _ _ _ h.2
  · rename_i hx; exact all_insert _ _ _ _ (all_drop _ _ _ h.2) (by simpa using hx)

theorem canon_upd [DecidableEq α] (d : α) (m : Store α) (q : Nat) (f : α → α) (h : canon d m = true) : canon d (upd d m q f) = true :=
  canon_put d m q _ h

theorem canon_nil [DecidableEq α] (d : α) : canon d ([] : Store α) = true := rfl

theorem all_filter (p f : Nat × α → Bool) (m : Store α) (h : m.all p = true) : List.all (m.filter f) p = true := by
  simp only [List.all_eq_true] at h ⊢
  exact fun x hx => h x (List.mem_of_mem_filter hx)

theorem rising_filter (f : Nat × α → Bool) (m : Store α) (h : rising m = true) : rising (m.filter f) = true := by
  induction m with
  | nil => rfl
  | cons e m ih =>
    obtain ⟨j, v⟩ := e
    rw [rising_cons, Bool.and_eq_true] at h
    by_cases hf : f (j, v) = true
    · rw [List.filter_cons_of_pos hf, rising_cons, Bool.and_eq_true]
      exact ⟨all_filter _ _ _ h.1, ih h.2⟩
    · rw [List.filter_cons_of_neg hf]; exact ih h.2

/-- Dropping entries keeps the canonical form. -/
theorem canon_filter [DecidableEq α] (d : α) (f : Nat × α → Bool) (m : Store α) (h : canon d m = true) : canon d (m.filter f) = true := by
  simp only [canon, Bool.and_eq_true] at h ⊢
  exact ⟨rising_filter _ _ h.1, all_filter _ _ _ h.2⟩

/-- Writing a list of entries keeps the canonical form. -/
theorem canon_foldl_put [DecidableEq α] {β : Type} (d : α) (l : List β) (k : β → Nat) (v : β → α) (m : Store α) (h : canon d m = true) :
    canon d (l.foldl (fun m e => put d m (k e) (v e)) m) = true := by
  induction l generalizing m with
  | nil => exact h
  | cons e l ih => exact ih _ (canon_put _ _ _ _ h)

end Sys2Proof.Machine
end

