-- ==== Sys2Proof/Laws/Canonical.lean ====
section
/-! SUPPORT. Every operation and every command keeps the canonical form of the memories: where each memory is canonical, so is it
afterwards. The lemmas follow the definitions, one each; a command's lemma is named after its meaning. -/

set_option linter.unusedTactic false
set_option linter.unreachableTactic false

namespace Sys2Proof.Machine

open Sys2Proof

/-- The canonical form of the memories, as a proposition. -/
def State.memOk (s : State) : Prop :=
  canon 0#32 s.shmem = true ∧ canon [] s.tabs = true ∧ canon 0 s.image = true ∧ canon [] s.gwTpl = true ∧ canon [] s.cadTab = true ∧ canon 0 s.otp = true

/-- The same as the Boolean that claims are stated with. -/
theorem Memory.wf_iff (s : State) : Memory.wf s = true ↔ s.memOk := by
  simp only [Memory.wf, State.memOk, Bool.and_eq_true, and_assoc]

/-- An update of the other fields leaves the memories. -/
@[simp] theorem State.memOk_mk (s : State) (pending : List Instr) (regs : Store Nat) (shadow : Store Nat) (commitSec : Store Nat) (free : Nat) (out : List Out) (hosts : Store HostCtx) (cmds : List Cmd) (grants : List (Nat × Nat × Nat)) (slots : Store Slot) (phase : Phase) (straps : Straps) (tcus : Store Tcu) (fw : Store Firm) (gatePins : Nat) (calHead : List Nat) (calRunning : List Nat) (switch : List (Option Nat × Nat × Nat)) (reverting : Bool) (revertAt : Nat) (judging : Bool) (up : Nat) (engines : Store Engine) (frames : Store Frame) (cells : Store Nat) (nextS : Nat) (nextL : Nat) (voqs : Store Voq) (txs : Store Tx) (macs : Store Mac) (pressOwn : Nat) (pressShared : Nat) (fus : Store (List Fu)) (txts : Store (List (List Nat))) (walk : Option Walk) (wheyDue : Nat) (subs : Nat) (lostCopies : Nat) (fences : List Fence) (nodes : Store Node) (shpUntil : Nat) (heldShapes : List (Nat × NodeCfg)) (gates : Store Gate) (gateCopy : Store Gate) (gwq : Store (List GwFrame)) (watch : Store Nat) (samples : List (List Nat)) (smpSeq : Nat) (smpSkipped : Nat) (smpAt : Option Nat) (smpUntil : Nat) (smpRun : Option Sweep) (learnq : Store (List Req)) (crossing : Store (List Req)) (learnAt : Store Nat) (moves : Store (List (Nat × Nat × Nat × Nat))) (hits : Nat × List Nat) (winOps : Store (Option WinOp)) (shadows : Store Shadow) (slotNext : Nat) (slotFirst : List Nat) (lanes : Store Lane) (trunks : Store Trunk) (ntTimes : Store NtTime) (cadSrc : List CadSrc) (cadFrom : Nat) (cadOld : Option HoopCfg) (cadRcs : Store (List (Nat × Nat))) (cadErr : Store (List Nat)) (gwWin : Store (Option (Nat × Bool))) (gwCnt : Store (List Nat)) (wear : Store Nat) (swaps : Store SwapRec) (swapNext : Nat) (caveRead : SwapRec) (swapWait : List SwapWait) (rowMap : Store Nat) (applied : Bool) (perfs : Store Perf) (slotUse : Store Nat) (events : Store (Nat × Nat)) (slotSeen : Store Nat) (resetCauses : Nat) (sagSupply : Nat) (porstLow : Bool) (outsAt : Option Nat) (tapIr : Nat) (bsr : Nat) (thermalHold : Bool) (coolAt : Option Nat) (hot : Nat) (wiping : Bool) (startWait : Bool) (onAtReset : Nat) (releasedAt : Nat) (serial : Nat) (lifeCycle : Nat) (keyHash : List Nat) (otpProg : Option (Nat × Nat)) (lifeProg : Option (Nat × List Nat)) (bootNext : Nat) (bootTcu : Bool) (booted : Bool) (pushLen : Option Nat) (pushed : List Byte) (perstHigh : Bool) :
    State.memOk { pending := pending, regs := regs, shadow := shadow, commitSec := commitSec, free := free, out := out, hosts := hosts, cmds := cmds, grants := grants, slots := slots, phase := phase, straps := straps, tcus := tcus, fw := fw, gatePins := gatePins, calHead := calHead, calRunning := calRunning, switch := switch, reverting := reverting, revertAt := revertAt, judging := judging, up := up, engines := engines, shmem := s.shmem, frames := frames, cells := cells, nextS := nextS, nextL := nextL, voqs := voqs, txs := txs, macs := macs, pressOwn := pressOwn, pressShared := pressShared, fus := fus, txts := txts, walk := walk, wheyDue := wheyDue, subs := subs, lostCopies := lostCopies, fences := fences, nodes := nodes, shpUntil := shpUntil, heldShapes := heldShapes, gates := gates, gateCopy := gateCopy, gwq := gwq, watch := watch, samples := samples, smpSeq := smpSeq, smpSkipped := smpSkipped, smpAt := smpAt, smpUntil := smpUntil, smpRun := smpRun, tabs := s.tabs, learnq := learnq, crossing := crossing, learnAt := learnAt, moves := moves, hits := hits, winOps := winOps, shadows := shadows, slotNext := slotNext, slotFirst := slotFirst, lanes := lanes, trunks := trunks, ntTimes := ntTimes, cadTab := s.cadTab, cadSrc := cadSrc, cadFrom := cadFrom, cadOld := cadOld, cadRcs := cadRcs, cadErr := cadErr, gwTpl := s.gwTpl, gwWin := gwWin, gwCnt := gwCnt, wear := wear, swaps := swaps, swapNext := swapNext, caveRead := caveRead, swapWait := swapWait, rowMap := rowMap, image := s.image, applied := applied, perfs := perfs, slotUse := slotUse, events := events, slotSeen := slotSeen, resetCauses := resetCauses, sagSupply := sagSupply, porstLow := porstLow, outsAt := outsAt, tapIr := tapIr, bsr := bsr, thermalHold := thermalHold, coolAt := coolAt, hot := hot, wiping := wiping, startWait := startWait, onAtReset := onAtReset, releasedAt := releasedAt, serial := serial, lifeCycle := lifeCycle, keyHash := keyHash, otp := s.otp, otpProg := otpProg, lifeProg := lifeProg, bootNext := bootNext, bootTcu := bootTcu, booted := booted, pushLen := pushLen, pushed := pushed, perstHigh := perstHigh } = s.memOk := by cases s; rfl

theorem State.memOk_upd (s : State) (pending : List Instr) (regs : Store Nat) (shadow : Store Nat) (commitSec : Store Nat) (free : Nat) (out : List Out) (hosts : Store HostCtx) (cmds : List Cmd) (grants : List (Nat × Nat × Nat)) (slots : Store Slot) (phase : Phase) (straps : Straps) (tcus : Store Tcu) (fw : Store Firm) (gatePins : Nat) (calHead : List Nat) (calRunning : List Nat) (switch : List (Option Nat × Nat × Nat)) (reverting : Bool) (revertAt : Nat) (judging : Bool) (up : Nat) (engines : Store Engine) (frames : Store Frame) (cells : Store Nat) (nextS : Nat) (nextL : Nat) (voqs : Store Voq) (txs : Store Tx) (macs : Store Mac) (pressOwn : Nat) (pressShared : Nat) (fus : Store (List Fu)) (txts : Store (List (List Nat))) (walk : Option Walk) (wheyDue : Nat) (subs : Nat) (lostCopies : Nat) (fences : List Fence) (nodes : Store Node) (shpUntil : Nat) (heldShapes : List (Nat × NodeCfg)) (gates : Store Gate) (gateCopy : Store Gate) (gwq : Store (List GwFrame)) (watch : Store Nat) (samples : List (List Nat)) (smpSeq : Nat) (smpSkipped : Nat) (smpAt : Option Nat) (smpUntil : Nat) (smpRun : Option Sweep) (learnq : Store (List Req)) (crossing : Store (List Req)) (learnAt : Store Nat) (moves : Store (List (Nat × Nat × Nat × Nat))) (hits : Nat × List Nat) (winOps : Store (Option WinOp)) (shadows : Store Shadow) (slotNext : Nat) (slotFirst : List Nat) (lanes : Store Lane) (trunks : Store Trunk) (ntTimes : Store NtTime) (cadSrc : List CadSrc) (cadFrom : Nat) (cadOld : Option HoopCfg) (cadRcs : Store (List (Nat × Nat))) (cadErr : Store (List Nat)) (gwWin : Store (Option (Nat × Bool))) (gwCnt : Store (List Nat)) (wear : Store Nat) (swaps : Store SwapRec) (swapNext : Nat) (caveRead : SwapRec) (swapWait : List SwapWait) (rowMap : Store Nat) (applied : Bool) (perfs : Store Perf) (slotUse : Store Nat) (events : Store (Nat × Nat)) (slotSeen : Store Nat) (resetCauses : Nat) (sagSupply : Nat) (porstLow : Bool) (outsAt : Option Nat) (tapIr : Nat) (bsr : Nat) (thermalHold : Bool) (coolAt : Option Nat) (hot : Nat) (wiping : Bool) (startWait : Bool) (onAtReset : Nat) (releasedAt : Nat) (serial : Nat) (lifeCycle : Nat) (keyHash : List Nat) (otpProg : Option (Nat × Nat)) (lifeProg : Option (Nat × List Nat)) (bootNext : Nat) (bootTcu : Bool) (booted : Bool) (pushLen : Option Nat) (pushed : List Byte) (perstHigh : Bool) (h : s.memOk) :
    State.memOk { pending := pending, regs := regs, shadow := shadow, commitSec := commitSec, free := free, out := out, hosts := hosts, cmds := cmds, grants := grants, slots := slots, phase := phase, straps := straps, tcus := tcus, fw := fw, gatePins := gatePins, calHead := calHead, calRunning := calRunning, switch := switch, reverting := reverting, revertAt := revertAt, judging := judging, up := up, engines := engines, shmem := s.shmem, frames := frames, cells := cells, nextS := nextS, nextL := nextL, voqs := voqs, txs := txs, macs := macs, pressOwn := pressOwn, pressShared := pressShared, fus := fus, txts := txts, walk := walk, wheyDue := wheyDue, subs := subs, lostCopies := lostCopies, fences := fences, nodes := nodes, shpUntil := shpUntil, heldShapes := heldShapes, gates := gates, gateCopy := gateCopy, gwq := gwq, watch := watch, samples := samples, smpSeq := smpSeq, smpSkipped := smpSkipped, smpAt := smpAt, smpUntil := smpUntil, smpRun := smpRun, tabs := s.tabs, learnq := learnq, crossing := crossing, learnAt := learnAt, moves := moves, hits := hits, winOps := winOps, shadows := shadows, slotNext := slotNext, slotFirst := slotFirst, lanes := lanes, trunks := trunks, ntTimes := ntTimes, cadTab := s.cadTab, cadSrc := cadSrc, cadFrom := cadFrom, cadOld := cadOld, cadRcs := cadRcs, cadErr := cadErr, gwTpl := s.gwTpl, gwWin := gwWin, gwCnt := gwCnt, wear := wear, swaps := swaps, swapNext := swapNext, caveRead := caveRead, swapWait := swapWait, rowMap := rowMap, image := s.image, applied := applied, perfs := perfs, slotUse := slotUse, events := events, slotSeen := slotSeen, resetCauses := resetCauses, sagSupply := sagSupply, porstLow := porstLow, outsAt := outsAt, tapIr := tapIr, bsr := bsr, thermalHold := thermalHold, coolAt := coolAt, hot := hot, wiping := wiping, startWait := startWait, onAtReset := onAtReset, releasedAt := releasedAt, serial := serial, lifeCycle := lifeCycle, keyHash := keyHash, otp := s.otp, otpProg := otpProg, lifeProg := lifeProg, bootNext := bootNext, bootTcu := bootTcu, booted := booted, pushLen := pushLen, pushed := pushed, perstHigh := perstHigh } := h

@[simp] theorem State.memOk_ite (p : Prop) [Decidable p] (a b : State) : (if p then a else b).memOk = if p then a.memOk else b.memOk := apply_ite _ _ _ _

@[simp] theorem State.foldl_mem {β : Type} (l : List β) (f : State → β → State) (s : State) (h : ∀ a b, a.memOk → (f a b).memOk) (hm : s.memOk) :
    (l.foldl f s).memOk := by
  induction l generalizing s with
  | nil => exact hm
  | cons b l ih => exact ih _ (h _ _ hm)

theorem State.memOk_if (p : Prop) [Decidable p] (a b : State) (ha : p → a.memOk) (hb : ¬ p → b.memOk) : (if p then a else b).memOk := by
  split
  · exact ha ‹_›
  · exact hb ‹_›

theorem State.memOk.m1 {s : State} (h : s.memOk) : canon 0#32 s.shmem = true := h.1
theorem State.memOk.m2 {s : State} (h : s.memOk) : canon [] s.tabs = true := h.2.1
theorem State.memOk.m3 {s : State} (h : s.memOk) : canon 0 s.image = true := h.2.2.1
theorem State.memOk.m4 {s : State} (h : s.memOk) : canon [] s.gwTpl = true := h.2.2.2.1
theorem State.memOk.m5 {s : State} (h : s.memOk) : canon [] s.cadTab = true := h.2.2.2.2.1
theorem State.memOk.m6 {s : State} (h : s.memOk) : canon 0 s.otp = true := h.2.2.2.2.2

/-- A state is in the canonical form where each of its memories is. -/
theorem State.memOk_all (pending : List Instr) (regs : Store Nat) (shadow : Store Nat) (commitSec : Store Nat) (free : Nat) (out : List Out) (hosts : Store HostCtx) (cmds : List Cmd) (grants : List (Nat × Nat × Nat)) (slots : Store Slot) (phase : Phase) (straps : Straps) (tcus : Store Tcu) (fw : Store Firm) (gatePins : Nat) (calHead : List Nat) (calRunning : List Nat) (switch : List (Option Nat × Nat × Nat)) (reverting : Bool) (revertAt : Nat) (judging : Bool) (up : Nat) (engines : Store Engine) (shmem : Store Word) (frames : Store Frame) (cells : Store Nat) (nextS : Nat) (nextL : Nat) (voqs : Store Voq) (txs : Store Tx) (macs : Store Mac) (pressOwn : Nat) (pressShared : Nat) (fus : Store (List Fu)) (txts : Store (List (List Nat))) (walk : Option Walk) (wheyDue : Nat) (subs : Nat) (lostCopies : Nat) (fences : List Fence) (nodes : Store Node) (shpUntil : Nat) (heldShapes : List (Nat × NodeCfg)) (gates : Store Gate) (gateCopy : Store Gate) (gwq : Store (List GwFrame)) (watch : Store Nat) (samples : List (List Nat)) (smpSeq : Nat) (smpSkipped : Nat) (smpAt : Option Nat) (smpUntil : Nat) (smpRun : Option Sweep) (tabs : Store (List Nat)) (learnq : Store (List Req)) (crossing : Store (List Req)) (learnAt : Store Nat) (moves : Store (List (Nat × Nat × Nat × Nat))) (hits : Nat × List Nat) (winOps : Store (Option WinOp)) (shadows : Store Shadow) (slotNext : Nat) (slotFirst : List Nat) (lanes : Store Lane) (trunks : Store Trunk) (ntTimes : Store NtTime) (cadTab : Store (List (Nat × List Nat))) (cadSrc : List CadSrc) (cadFrom : Nat) (cadOld : Option HoopCfg) (cadRcs : Store (List (Nat × Nat))) (cadErr : Store (List Nat)) (gwTpl : Store (List Nat)) (gwWin : Store (Option (Nat × Bool))) (gwCnt : Store (List Nat)) (wear : Store Nat) (swaps : Store SwapRec) (swapNext : Nat) (caveRead : SwapRec) (swapWait : List SwapWait) (rowMap : Store Nat) (image : Store Nat) (applied : Bool) (perfs : Store Perf) (slotUse : Store Nat) (events : Store (Nat × Nat)) (slotSeen : Store Nat) (resetCauses : Nat) (sagSupply : Nat) (porstLow : Bool) (outsAt : Option Nat) (tapIr : Nat) (bsr : Nat) (thermalHold : Bool) (coolAt : Option Nat) (hot : Nat) (wiping : Bool) (startWait : Bool) (onAtReset : Nat) (releasedAt : Nat) (serial : Nat) (lifeCycle : Nat) (keyHash : List Nat) (otp : Store Nat) (otpProg : Option (Nat × Nat)) (lifeProg : Option (Nat × List Nat)) (bootNext : Nat) (bootTcu : Bool) (booted : Bool) (pushLen : Option Nat) (pushed : List Byte) (perstHigh : Bool) (h1 : canon 0#32 shmem = true) (h2 : canon [] tabs = true) (h3 : canon 0 image = true)
    (h4 : canon [] gwTpl = true) (h5 : canon [] cadTab = true) (h6 : canon 0 otp = true) :
    State.memOk { pending := pending, regs := regs, shadow := shadow, commitSec := commitSec, free := free, out := out, hosts := hosts, cmds := cmds, grants := grants, slots := slots, phase := phase, straps := straps, tcus := tcus, fw := fw, gatePins := gatePins, calHead := calHead, calRunning := calRunning, switch := switch, reverting := reverting, revertAt := revertAt, judging := judging, up := up, engines := engines, shmem := shmem, frames := frames, cells := cells, nextS := nextS, nextL := nextL, voqs := voqs, txs := txs, macs := macs, pressOwn := pressOwn, pressShared := pressShared, fus := fus, txts := txts, walk := walk, wheyDue := wheyDue, subs := subs, lostCopies := lostCopies, fences := fences, nodes := nodes, shpUntil := shpUntil, heldShapes := heldShapes, gates := gates, gateCopy := gateCopy, gwq := gwq, watch := watch, samples := samples, smpSeq := smpSeq, smpSkipped := smpSkipped, smpAt := smpAt, smpUntil := smpUntil, smpRun := smpRun, tabs := tabs, learnq := learnq, crossing := crossing, learnAt := learnAt, moves := moves, hits := hits, winOps := winOps, shadows := shadows, slotNext := slotNext, slotFirst := slotFirst, lanes := lanes, trunks := trunks, ntTimes := ntTimes, cadTab := cadTab, cadSrc := cadSrc, cadFrom := cadFrom, cadOld := cadOld, cadRcs := cadRcs, cadErr := cadErr, gwTpl := gwTpl, gwWin := gwWin, gwCnt := gwCnt, wear := wear, swaps := swaps, swapNext := swapNext, caveRead := caveRead, swapWait := swapWait, rowMap := rowMap, image := image, applied := applied, perfs := perfs, slotUse := slotUse, events := events, slotSeen := slotSeen, resetCauses := resetCauses, sagSupply := sagSupply, porstLow := porstLow, outsAt := outsAt, tapIr := tapIr, bsr := bsr, thermalHold := thermalHold, coolAt := coolAt, hot := hot, wiping := wiping, startWait := startWait, onAtReset := onAtReset, releasedAt := releasedAt, serial := serial, lifeCycle := lifeCycle, keyHash := keyHash, otp := otp, otpProg := otpProg, lifeProg := lifeProg, bootNext := bootNext, bootTcu := bootTcu, booted := booted, pushLen := pushLen, pushed := pushed, perstHigh := perstHigh } := ⟨h1, h2, h3, h4, h5, h6⟩

theorem State.foldl_pair_mem {β γ : Type} (l : List β) (f : γ × State → β → γ × State) (x : γ × State) (h : ∀ a b, a.2.memOk → (f a b).2.memOk)
    (hm : x.2.memOk) : (l.foldl f x).2.memOk := by
  induction l generalizing x with
  | nil => exact hm
  | cons b l ih => exact ih _ (h _ _ hm)

theorem State.foldl_pair'_mem {β γ : Type} (l : List β) (f : State × γ → β → State × γ) (x : State × γ) (h : ∀ a b, a.1.memOk → (f a b).1.memOk)
    (hm : x.1.memOk) : (l.foldl f x).1.memOk := by
  induction l generalizing x with
  | nil => exact hm
  | cons b l ih => exact ih _ (h _ _ hm)

theorem State.wrI_mem (s : State) (p : Nat) (f : Fld) (i : Nat) (v : Nat) (hm : s.memOk) : (State.wrI s p f i v).memOk := by
  unfold State.wrI
  with_reducible repeat' first | assumption | intro _ | apply State.foldl_mem | apply State.memOk_if | split | dsimp only | simp only [State.memOk_mk]

theorem State.wr_mem (s : State) (p : Nat) (f : Fld) (v : Nat) (hm : s.memOk) : (State.wr s p f v).memOk := by
  unfold State.wr
  with_reducible repeat' first | assumption | apply State.wrI_mem

theorem State.wrS_mem (s : State) (p : Nat) (f : Fld) (v : Int) (hm : s.memOk) : (State.wrS s p f v).memOk := by
  unfold State.wrS
  with_reducible repeat' first | assumption | apply State.wr_mem

theorem State.wrSat_mem (s : State) (p : Nat) (f : Fld) (v : Int) (hm : s.memOk) : (State.wrSat s p f v).memOk := by
  unfold State.wrSat
  with_reducible repeat' first | assumption | apply State.wr_mem

theorem State.addI_mem (s : State) (p : Nat) (f : Fld) (i : Nat) (n : Nat) (hm : s.memOk) : (State.addI s p f i n).memOk := by
  unfold State.addI
  with_reducible repeat' first | assumption | apply State.wrI_mem

theorem State.inc_mem (s : State) (p : Nat) (f : Fld) (hm : s.memOk) : (State.inc s p f).memOk := by
  unfold State.inc
  with_reducible repeat' first | assumption | apply State.addI_mem

theorem State.incI_mem (s : State) (p : Nat) (f : Fld) (i : Nat) (hm : s.memOk) : (State.incI s p f i).memOk := by
  unfold State.incI
  with_reducible repeat' first | assumption | apply State.addI_mem

theorem State.wrWide_mem (s : State) (p : Nat) (hi : Fld) (lo : Fld) (v : Nat) (hm : s.memOk) : (State.wrWide s p hi lo v).memOk := by
  unfold State.wrWide
  with_reducible repeat' first | assumption | apply State.wr_mem

theorem State.onHost_mem (s : State) (c : Nat) (f : HostCtx → HostCtx) (hm : s.memOk) : (State.onHost s c f).memOk := by
  unfold State.onHost
  with_reducible repeat' first | assumption | simp only [State.memOk_mk]

theorem State.onTcu_mem (s : State) (t : Nat) (f : Tcu → Tcu) (hm : s.memOk) : (State.onTcu s t f).memOk := by
  unfold State.onTcu
  with_reducible repeat' first | assumption | simp only [State.memOk_mk]

theorem State.onTdc_mem (s : State) (t : Nat) (c : Nat) (f : Tdc → Tdc) (hm : s.memOk) : (State.onTdc s t c f).memOk := by
  unfold State.onTdc
  with_reducible repeat' first | assumption | intro _ | apply State.onTcu_mem | split | dsimp only | simp only [State.memOk_mk]

theorem State.onCand_mem (s : State) (t : Nat) (k : Nat) (f : Cand → Cand) (hm : s.memOk) : (State.onCand s t k f).memOk := by
  unfold State.onCand
  with_reducible repeat' first | assumption | intro _ | apply State.onTcu_mem | split | dsimp only | simp only [State.memOk_mk]

theorem State.onOutp_mem (s : State) (t : Nat) (n : Nat) (f : Outp → Outp) (hm : s.memOk) : (State.onOutp s t n f).memOk := by
  unfold State.onOutp
  with_reducible repeat' first | assumption | intro _ | apply State.onTcu_mem | split | dsimp only | simp only [State.memOk_mk]

theorem State.onEng_mem (s : State) (e : Nat) (f : Engine → Engine) (hm : s.memOk) : (State.onEng s e f).memOk := by
  unfold State.onEng
  with_reducible repeat' first | assumption | simp only [State.memOk_mk]

theorem State.emit_mem (s : State) (o : Out) (hm : s.memOk) : (State.emit s o).memOk := by
  unfold State.emit
  with_reducible repeat' first | assumption | simp only [State.memOk_mk]

theorem State.bump_mem (s : State) (hm : s.memOk) : (State.bump s).memOk := by
  unfold State.bump
  with_reducible repeat' first | assumption | simp only [State.memOk_mk]

theorem State.event_mem (s : State) (e : Nat) (u : Nat) (n : Nat) (hm : s.memOk) : (State.event s e u n).memOk := by
  unfold State.event
  with_reducible repeat' first | assumption | intro _ | apply State.memOk_if | split | dsimp only | simp only [State.memOk_mk]

theorem State.setPwr_mem (s : State) (d : Nat) (st : Nat) (hm : s.memOk) : (State.setPwr s d st).memOk := by
  unfold State.setPwr
  with_reducible repeat' first | assumption | apply State.wr_mem | dsimp only

theorem State.both_mem (s : State) (f : Nat → State → State) (h : ∀ i a, a.memOk → (f i a).memOk) (hm : s.memOk) : (State.both s f).memOk := by
  unfold State.both
  with_reducible repeat' first | assumption | apply h

theorem State.each_mem (s : State) (n : Nat) (f : Nat → State → State) (h : ∀ i a, a.memOk → (f i a).memOk) (hm : s.memOk) : (State.each s n f).memOk := by
  unfold State.each
  with_reducible repeat' first | assumption | intro _ | apply h | apply State.foldl_mem | split | dsimp only

theorem State.setCause_mem (s : State) (p : Nat) (m : Nat) (hm : s.memOk) : (State.setCause s p m).memOk := by
  unfold State.setCause
  with_reducible repeat' first | assumption | apply State.wr_mem

theorem State.raise_mem (s : State) (p : Nat) (b : Nat) (hm : s.memOk) : (State.raise s p b).memOk := by
  unfold State.raise
  with_reducible repeat' first | assumption | intro _ | apply State.setCause_mem | apply State.memOk_if

theorem State.raiseIf_mem (s : State) (c : Bool) (p : Nat) (b : Nat) (hm : s.memOk) : (State.raiseIf s c p b).memOk := by
  unfold State.raiseIf
  with_reducible repeat' first | assumption | intro _ | apply State.raise_mem | apply State.memOk_if

theorem State.raiseHdr_mem (s : State) (p : Nat) (b : Nat) (hm : s.memOk) : (State.raiseHdr s p b).memOk := by
  unfold State.raiseHdr
  with_reducible repeat' first | assumption | apply State.setCause_mem

theorem State.accErr_mem (s : State) (p : Nat) (ctx : Nat) (off : Nat) (write : Bool) (m : Nat) (hm : s.memOk) : (State.accErr s p ctx off write m).memOk := by
  unfold State.accErr
  with_reducible repeat' first | assumption | intro _ | apply State.wr_mem | apply State.raiseHdr_mem | apply State.memOk_if | dsimp only

theorem State.integErr_mem (s : State) (p : Nat) (b : Nat) (hm : s.memOk) : (State.integErr s p b).memOk := by
  unfold State.integErr
  with_reducible repeat' first | assumption | apply State.accErr_mem

theorem State.setFault_mem (s : State) (p : Nat) (code : Nat) (hm : s.memOk) : (State.setFault s p code).memOk := by
  unfold State.setFault
  with_reducible repeat' first | assumption | apply State.wr_mem

theorem State.clearFault_mem (s : State) (p : Nat) (hm : s.memOk) : (State.clearFault s p).memOk := by
  unfold State.clearFault
  with_reducible repeat' first | assumption | apply State.wr_mem

theorem State.bcastTo_mem (s : State) (c : Nat) (b : Nat) (hm : s.memOk) : (State.bcastTo s c b).memOk := by
  unfold State.bcastTo
  with_reducible repeat' first | assumption | apply State.wr_mem

theorem State.bcast_mem (s : State) (b : Nat) (hm : s.memOk) : (State.bcast s b).memOk := by
  unfold State.bcast
  with_reducible repeat' first | assumption | intro _ | apply State.each_mem | apply State.bcastTo_mem | apply State.memOk_if | split | dsimp only

theorem State.inbandSend_mem (s : State) (c : Nat) (l : List Byte) (hm : s.memOk) : (State.inbandSend s c l).memOk := by
  unfold State.inbandSend
  with_reducible repeat' first | assumption | intro _ | apply State.onHost_mem | split | dsimp only | simp only [State.memOk_mk]

theorem State.deliver_mem (s : State) (c : Nat) (hm : s.memOk) : (State.deliver s c).memOk := by
  unfold State.deliver
  with_reducible repeat' first | assumption | intro _ | apply State.onHost_mem | apply State.emit_mem | apply State.inbandSend_mem | apply State.bump_mem | apply State.memOk_if | split | dsimp only | simp only [State.memOk_mk]

theorem State.settle_mem (s : State) (hm : s.memOk) : (State.settle s).memOk := by
  unfold State.settle
  with_reducible repeat' first | assumption | intro _ | apply State.each_mem | apply State.deliver_mem | split | dsimp only

theorem State.cplStore_mem (s : State) (c : Nat) (slot : Nat) (ws : List Nat) (hm : s.memOk) : (State.cplStore s c slot ws).memOk := by
  unfold State.cplStore
  with_reducible repeat' first | assumption | intro _ | apply State.each_mem | apply State.wrI_mem | apply State.memOk_if | split | dsimp only

theorem State.cplWrite_mem (s : State) (c : Nat) (e : Cpl) (hm : s.memOk) : (State.cplWrite s c e).memOk := by
  unfold State.cplWrite
  with_reducible repeat' first | assumption | apply State.cplStore_mem | apply State.wr_mem | apply State.emit_mem | apply State.raiseIf_mem | dsimp only

theorem State.cplFlush_mem (s : State) (c : Nat) (l : List Cpl) (hm : s.memOk) : (s.cplFlush c l).memOk := by
  induction l generalizing s with
  | nil => exact (State.onHost_mem _ _ _ hm)
  | cons e es ih =>
    unfold State.cplFlush
    split
    · exact ih _ (State.cplWrite_mem _ _ _ hm)
    · exact (State.onHost_mem _ _ _ hm)

theorem State.cplPump_mem (s : State) (c : Nat) (hm : s.memOk) : (s.cplPump c).memOk := by
  unfold State.cplPump
  with_reducible repeat' first | assumption | intro _ | apply State.onHost_mem | apply State.cplFlush_mem | apply State.wr_mem | apply State.memOk_if | split | dsimp only | simp only [State.memOk_mk]

theorem State.cplPost_mem (s : State) (c : Nat) (e : Cpl) (hm : s.memOk) : (State.cplPost s c e).memOk := by
  unfold State.cplPost
  with_reducible repeat' first | assumption | intro _ | apply State.onHost_mem | apply State.cplPump_mem | apply State.raiseIf_mem | apply State.memOk_if | split | dsimp only | simp only [State.memOk_mk]

theorem State.setSlot_mem (s : State) (k : Cmd) (status : Nat) (hm : s.memOk) : (State.setSlot s k status).memOk := by
  unfold State.setSlot
  with_reducible repeat' first | assumption | intro _ | apply State.memOk_if | simp only [State.memOk_mk]

theorem State.fly_mem (s : State) (k : Cmd) (hm : s.memOk) : (State.fly s k).memOk := by
  unfold State.fly
  with_reducible repeat' first | assumption | intro _ | apply State.setSlot_mem | split | dsimp only | simp only [State.memOk_mk]

theorem State.onCmd_mem (s : State) (k : Cmd) (f : Cmd → Cmd) (hm : s.memOk) : (State.onCmd s k f).memOk := by
  unfold State.onCmd
  with_reducible repeat' first | assumption | intro _ | apply State.memOk_if | split | dsimp only | simp only [State.memOk_mk]

theorem State.endSlot_mem (s : State) (k : Cmd) (status : Nat) (hm : s.memOk) : (State.endSlot s k status).memOk := by
  unfold State.endSlot
  with_reducible repeat' first | assumption | intro _ | apply State.setSlot_mem | apply State.memOk_if | dsimp only

theorem State.finish_mem (s : State) (k : Cmd) (status : Nat) (detail : Nat) (r0 : Nat) (r1 : Nat) (hm : s.memOk) : (State.finish s k status detail r0 r1).memOk := by
  unfold State.finish
  with_reducible repeat' first | assumption | intro _ | apply State.endSlot_mem | apply State.cplPost_mem | split | dsimp only | simp only [State.memOk_mk]

theorem State.finishSt_mem (s : State) (k : Cmd) (status : Nat) (hm : s.memOk) : (State.finishSt s k status).memOk := by
  unfold State.finishSt
  with_reducible repeat' first | assumption | apply State.finish_mem

theorem State.finishOp_mem (s : State) (op : Nat) (arg0 : Nat) (status : Nat) (r0 : Nat) (r1 : Nat) (hm : s.memOk) : (State.finishOp s op arg0 status r0 r1).memOk := by
  unfold State.finishOp
  with_reducible repeat' first | assumption | apply State.finish_mem | split | simp only [State.memOk_mk]

theorem State.showRing_mem (s : State) (hm : s.memOk) : (State.showRing s).memOk := by
  unfold State.showRing
  with_reducible repeat' first | assumption | apply State.raiseIf_mem | apply State.wr_mem | dsimp only

theorem State.sampleOn_mem (s : State) (hm : s.memOk) : (State.sampleOn s).memOk := by
  unfold State.sampleOn
  with_reducible repeat' first | assumption | intro _ | apply State.showRing_mem | apply State.memOk_if | split | dsimp only | simp only [State.memOk_mk]

theorem State.setTcuState_mem (s : State) (t : Nat) (x : Nat) (hm : s.memOk) : (State.setTcuState s t x).memOk := by
  unfold State.setTcuState
  with_reducible repeat' first | assumption | intro _ | apply State.wr_mem | apply State.raise_mem | apply State.memOk_if | dsimp only | simp only [State.memOk_mk]

theorem State.onGate_mem (s : State) (p : Nat) (f : Gate → Gate) (hm : s.memOk) : (State.onGate s p f).memOk := by
  unfold State.onGate
  with_reducible repeat' first | assumption | intro _ | apply State.memOk_if | dsimp only | simp only [State.memOk_mk]

theorem State.endHolds_mem (s : State) (hm : s.memOk) : (State.endHolds s).memOk := by
  unfold State.endHolds
  with_reducible repeat' first | assumption | intro _ | apply State.each_mem | apply State.onGate_mem | split | dsimp only | simp only [State.memOk_mk]

theorem State.onFollowers_mem (s : State) (f : Nat → State → State) (h : ∀ i a, a.memOk → (f i a).memOk) (hm : s.memOk) : (State.onFollowers s f).memOk := by
  unfold State.onFollowers
  with_reducible repeat' first | assumption | intro _ | apply State.both_mem | apply State.each_mem | apply h | apply State.memOk_if | split | dsimp only

theorem State.setRatio_mem (s : State) (t : Nat) (r : Int) (hm : s.memOk) : (State.setRatio s t r).memOk := by
  unfold State.setRatio
  with_reducible repeat' first | assumption | intro _ | apply State.wr_mem | apply State.memOk_if | dsimp only

theorem State.compensate_mem (s : State) (t : Nat) (dr : Int) (hm : s.memOk) : (State.compensate s t dr).memOk := by
  unfold State.compensate
  with_reducible repeat' first | assumption | intro _ | apply State.each_mem | apply State.onTcu_mem | apply State.memOk_if | split | dsimp only | simp only [State.memOk_mk]

theorem State.setRateOne_mem (s : State) (t : Nat) (r : Int) (hm : s.memOk) : (State.setRateOne s t r).memOk := by
  unfold State.setRateOne
  with_reducible repeat' first | assumption | intro _ | apply State.raiseIf_mem | apply State.wrWide_mem | apply State.setRatio_mem | apply State.onTcu_mem | apply State.compensate_mem | apply State.memOk_if | split | dsimp only | simp only [State.memOk_mk]

theorem State.setRate_mem (s : State) (r : Int) (hm : s.memOk) : (State.setRate s r).memOk := by
  unfold State.setRate
  with_reducible repeat' first | assumption | intro _ | apply State.onFollowers_mem | apply State.setRateOne_mem | split | dsimp only

theorem State.steer_mem (s : State) (t : Nat) (held : Int) (slew : Int) (hm : s.memOk) : (State.steer s t held slew).memOk := by
  unfold State.steer
  with_reducible repeat' first | assumption | intro _ | apply State.setRateOne_mem | apply State.onTcu_mem | apply State.memOk_if | split | dsimp only | simp only [State.memOk_mk]

theorem State.useHostRate_mem (s : State) (t : Nat) (hm : s.memOk) : (State.useHostRate s t).memOk := by
  unfold State.useHostRate
  with_reducible repeat' first | assumption | intro _ | apply State.setRateOne_mem | apply State.onTcu_mem | apply State.memOk_if | split | dsimp only | simp only [State.memOk_mk]

theorem State.showRem_mem (s : State) (t : Nat) (hm : s.memOk) : (State.showRem s t).memOk := by
  unfold State.showRem
  with_reducible repeat' first | assumption | intro _ | apply State.wrSat_mem | dsimp only

theorem State.slewOn_mem (s : State) (t : Nat) (d : Nat) (hm : s.memOk) : (State.slewOn s t d).memOk := by
  unfold State.slewOn
  with_reducible repeat' first | assumption | intro _ | apply State.onTcu_mem | apply State.showRem_mem | apply State.memOk_if | split | dsimp only | simp only [State.memOk_mk]

theorem State.startRuns_mem (s : State) (t : Nat) (a : Nat) (hm : s.memOk) : (State.startRuns s t a).memOk := by
  unfold State.startRuns
  with_reducible repeat' first | assumption | intro _ | apply State.each_mem | apply State.wr_mem | apply State.onTcu_mem | split | dsimp only | simp only [State.memOk_mk]

theorem State.linesLock_mem (s : State) (t : Nat) (hm : s.memOk) : (State.linesLock s t).memOk := by
  unfold State.linesLock
  with_reducible repeat' first | assumption | intro _ | apply State.each_mem | apply State.wr_mem | apply State.onTcu_mem | apply State.startRuns_mem | apply State.memOk_if | split | dsimp only | simp only [State.memOk_mk]

theorem State.advance_mem (s : State) (d : Nat) (hm : s.memOk) : (State.advance s d).memOk := by
  unfold State.advance
  with_reducible repeat' first | assumption | intro _ | apply State.both_mem | apply State.slewOn_mem | apply State.onTcu_mem | apply State.linesLock_mem | apply State.sampleOn_mem | split | dsimp only | simp only [State.memOk_mk]

theorem State.toLimit_mem (s : State) (k : Cmd) (d : Nat) (hm : s.memOk) : (State.toLimit s k d).memOk := by
  unfold State.toLimit
  with_reducible repeat' first | assumption | intro _ | apply State.advance_mem | dsimp only

theorem State.toEpoch_mem (s : State) (t : Nat) (hm : s.memOk) : (State.toEpoch s t).memOk := by
  unfold State.toEpoch
  with_reducible repeat' first | assumption | apply State.advance_mem

theorem State.snap_mem (s : State) (t : Nat) (hm : s.memOk) : (State.snap s t).memOk := by
  unfold State.snap
  with_reducible repeat' first | assumption | apply State.wrWide_mem | apply State.wr_mem | dsimp only

theorem State.quietOuts_mem (s : State) (f : Nat → Nat → Bool) (hm : s.memOk) : (State.quietOuts s f).memOk := by
  unfold State.quietOuts
  with_reducible repeat' first | assumption | intro _ | apply State.each_mem | apply State.onOutp_mem | apply State.memOk_if | split | dsimp only | simp only [State.memOk_mk]

theorem State.setTimeValid_mem (s : State) (v : Bool) (hm : s.memOk) : (State.setTimeValid s v).memOk := by
  unfold State.setTimeValid
  with_reducible repeat' first | assumption | intro _ | apply State.quietOuts_mem | apply State.wr_mem | apply State.bcast_mem | apply State.memOk_if | split | dsimp only

theorem State.refreshValid_mem (s : State) (hm : s.memOk) : (State.refreshValid s).memOk := by
  unfold State.refreshValid
  with_reducible repeat' first | assumption | apply State.setTimeValid_mem

theorem State.reqStep_mem (s : State) (amount : Int) (acquire : Bool) (host : Bool) (hm : s.memOk) : (State.reqStep s amount acquire host).memOk := by
  unfold State.reqStep
  with_reducible repeat' first | assumption | intro _ | apply State.onFollowers_mem | apply State.onTcu_mem | split | dsimp only | simp only [State.memOk_mk]

theorem State.applyStep_mem (s : State) (t : Nat) (hm : s.memOk) : (State.applyStep s t).memOk := by
  unfold State.applyStep
  with_reducible repeat' first | assumption | intro _ | apply State.onTcu_mem | apply State.showRem_mem | apply State.raise_mem | split | dsimp only | simp only [State.memOk_mk]

theorem State.slewDone_mem (s : State) (t : Nat) (hm : s.memOk) : (State.slewDone s t).memOk := by
  unfold State.slewDone
  with_reducible repeat' first | assumption | intro _ | apply State.onTcu_mem | apply State.showRem_mem | apply State.raise_mem | apply State.memOk_if | split | dsimp only | simp only [State.memOk_mk]

theorem State.startTimeStep_mem (k : Cmd) (s : State) (hm : s.memOk) : (State.startTimeStep k s).memOk := by
  unfold State.startTimeStep
  with_reducible repeat' first | assumption | intro _ | apply State.fly_mem | apply State.reqStep_mem | dsimp only

theorem State.showRunning_mem (s : State) (hm : s.memOk) : (State.showRunning s).memOk := by
  unfold State.showRunning
  with_reducible repeat' first | assumption | apply State.wr_mem

theorem State.runStart_mem (s : State) (p : Nat) (hm : s.memOk) : (State.runStart s p).memOk := by
  unfold State.runStart
  with_reducible repeat' first | assumption | intro _ | apply State.showRunning_mem | apply State.memOk_if | split | dsimp only | simp only [State.memOk_mk]

theorem State.runEnd_mem (s : State) (p : Nat) (hm : s.memOk) : (State.runEnd s p).memOk := by
  unfold State.runEnd
  with_reducible repeat' first | assumption | apply State.showRunning_mem | simp only [State.memOk_mk]

theorem State.calRunDone_mem (s : State) (p : Nat) (ok : Bool) (hm : s.memOk) : (State.calRunDone s p ok).memOk := by
  unfold State.calRunDone
  with_reducible repeat' first | assumption | intro _ | apply State.finish_mem | apply State.finishSt_mem | apply State.onCmd_mem | apply State.foldl_mem | apply State.memOk_if | split | dsimp only | simp only [State.memOk_mk]

theorem State.runOk_mem (s : State) (p : Nat) (hm : s.memOk) : (State.runOk s p).memOk := by
  unfold State.runOk
  with_reducible repeat' first | assumption | intro _ | apply State.runEnd_mem | apply State.wr_mem | apply State.raiseHdr_mem | apply State.clearFault_mem | apply State.memOk_if | dsimp only

theorem State.noteFail_mem (s : State) (p : Nat) (hm : s.memOk) : (State.noteFail s p).memOk := by
  unfold State.noteFail
  with_reducible repeat' first | assumption | intro _ | apply State.inc_mem | apply State.raise_mem | apply State.raiseHdr_mem | apply State.setFault_mem | apply State.memOk_if | dsimp only

theorem State.runFail_mem (s : State) (p : Nat) (hm : s.memOk) : (State.runFail s p).memOk := by
  unfold State.runFail
  with_reducible repeat' first | assumption | intro _ | apply State.runEnd_mem | apply State.noteFail_mem | apply State.calRunDone_mem | dsimp only

theorem State.skipSects_mem (s : State) (n : Nat) (hm : s.memOk) : (State.skipSects s n).memOk := by
  unfold State.skipSects
  with_reducible repeat' first | assumption | intro _ | apply State.wr_mem | apply State.memOk_if | dsimp only

theorem State.pllSkip_mem (s : State) (t : Nat) (hm : s.memOk) : (State.pllSkip s t).memOk := by
  unfold State.pllSkip
  with_reducible repeat' first | assumption | intro _ | apply State.onTcu_mem | apply State.skipSects_mem | apply State.memOk_if | split | dsimp only | simp only [State.memOk_mk]

theorem State.setBank_mem (s : State) (b : Nat) (role : Nat) (l : Nat) (hm : s.memOk) : (State.setBank s b role l).memOk := by
  unfold State.setBank
  with_reducible repeat' first | assumption | apply State.wr_mem

theorem State.bankCopy_mem (s : State) (src : Nat) (spare : Nat) (hm : s.memOk) : (State.bankCopy s src spare).memOk := by
  unfold State.bankCopy
  with_reducible repeat' first | assumption | apply State.wr_mem | apply State.setBank_mem

theorem State.toCopyEnd_mem (s : State) (since : Nat) (hm : s.memOk) : (State.toCopyEnd s since).memOk := by
  unfold State.toCopyEnd
  exact State.advance_mem _ _ hm

theorem State.bankSwap_mem (s : State) (src : Nat) (spare : Nat) (hm : s.memOk) : (State.bankSwap s src spare).memOk := by
  unfold State.bankSwap
  with_reducible repeat' first | assumption | intro _ | apply State.setBank_mem | apply State.wr_mem | apply State.raiseHdr_mem | apply State.raise_mem | split | dsimp only | simp only [State.memOk_mk]

theorem State.setWear_mem (s : State) (page : Nat) (index : Nat) (slice : Nat) (hm : s.memOk) : (State.setWear s page index slice).memOk := by
  unfold State.setWear
  with_reducible repeat' first | assumption | apply State.wr_mem

theorem State.showWear_mem (s : State) (page : Nat) (slice : Nat) (hm : s.memOk) : (State.showWear s page slice).memOk := by
  unfold State.showWear
  with_reducible repeat' first | assumption | intro _ | apply State.setWear_mem | apply State.memOk_if | dsimp only

theorem State.onSwap_mem (s : State) (i : Nat) (f : SwapRec → SwapRec) (hm : s.memOk) : (State.onSwap s i f).memOk := by
  unfold State.onSwap
  with_reducible repeat' first | assumption | simp only [State.memOk_mk]

theorem State.caveLatch_mem (s : State) (hm : s.memOk) : (State.caveLatch s).memOk := by
  unfold State.caveLatch
  with_reducible repeat' first | assumption | intro _ | dsimp only | simp only [State.memOk_mk]

theorem State.swapQueue_mem (s : State) (i : Nat) (hm : s.memOk) : (State.swapQueue s i).memOk := by
  unfold State.swapQueue
  with_reducible repeat' first | assumption | intro _ | apply State.onSwap_mem | apply State.bankCopy_mem | apply State.memOk_if | split | dsimp only | simp only [State.memOk_mk]

theorem State.swapRecord_mem (s : State) (w : SwapWait) (spare : Nat) (i : Nat) (hm : s.memOk) : (State.swapRecord s w spare i).memOk := by
  unfold State.swapRecord
  with_reducible repeat' first | assumption | intro _ | apply State.onSwap_mem | apply State.swapQueue_mem | apply State.raise_mem | apply State.raiseHdr_mem | apply State.memOk_if | split | dsimp only | simp only [State.memOk_mk]

theorem State.exhausted_mem (s : State) (page : Nat) (hm : s.memOk) : (State.exhausted s page).memOk := by
  unfold State.exhausted
  with_reducible repeat' first | assumption | intro _ | apply State.raise_mem | apply State.setFault_mem | apply State.memOk_if | dsimp only

theorem State.swapDue_mem (s : State) (w : SwapWait) (hm : s.memOk) : (State.swapDue s w).memOk := by
  unfold State.swapDue
  with_reducible repeat' first | assumption | intro _ | apply State.exhausted_mem | apply State.swapRecord_mem | apply State.memOk_if | split | dsimp only | simp only [State.memOk_mk]

theorem State.swapPump_mem (s : State) (hm : s.memOk) : (State.swapPump s).memOk := by
  unfold State.swapPump
  with_reducible repeat' first | assumption | intro _ | apply State.swapDue_mem | apply State.foldl_mem | split | dsimp only | simp only [State.memOk_mk]

theorem State.swapDone_mem (s : State) (i : Nat) (hm : s.memOk) : (State.swapDone s i).memOk := by
  unfold State.swapDone
  with_reducible repeat' first | assumption | intro _ | apply State.onSwap_mem | apply State.raiseHdr_mem | apply State.raise_mem | apply State.inc_mem | apply State.wr_mem | apply State.finishOp_mem | apply State.swapPump_mem | apply State.memOk_if | split | dsimp only | simp only [State.memOk_mk]

theorem State.swapCancel_mem (s : State) (i : Nat) (hm : s.memOk) : (State.swapCancel s i).memOk := by
  unfold State.swapCancel
  with_reducible repeat' first | assumption | intro _ | apply State.swapPump_mem | apply State.finishOp_mem | apply State.onSwap_mem | split | dsimp only | simp only [State.memOk_mk]

theorem State.wearSet_mem (s : State) (page : Nat) (slice : Nat) (monitor : Nat) (index : Nat) (failing : Bool) (hm : s.memOk) : (State.wearSet s page slice monitor index failing).memOk := by
  unfold State.wearSet
  with_reducible repeat' first | assumption | intro _ | apply State.showWear_mem | apply State.raiseIf_mem | apply State.swapDue_mem | apply State.memOk_if | dsimp only | simp only [State.memOk_mk]

theorem State.wearFail_mem (s : State) (page : Nat) (slice : Nat) (monitor : Nat) (hm : s.memOk) : (State.wearFail s page slice monitor).memOk := by
  unfold State.wearFail
  with_reducible repeat' first | assumption | apply State.wearSet_mem

theorem State.wearAgain_mem (s : State) (page : Nat) (was : Nat) (hm : s.memOk) : (State.wearAgain s page was).memOk := by
  unfold State.wearAgain
  with_reducible repeat' first | assumption | intro _ | apply State.swapDue_mem | apply State.foldl_mem | apply State.memOk_if | split | dsimp only

theorem State.wearStartUp_mem (s : State) (page : Nat) (hm : s.memOk) : (State.wearStartUp s page).memOk := by
  unfold State.wearStartUp
  with_reducible repeat' first | assumption | intro _ | apply State.setWear_mem | apply State.each_mem | apply State.wearAgain_mem | apply State.memOk_if | split | dsimp only

theorem State.setTask_mem (s : State) (e : Nat) (t : Nat) (x : Nat) (hm : s.memOk) : (State.setTask s e t x).memOk := by
  unfold State.setTask
  with_reducible repeat' first | assumption | apply State.wrI_mem

theorem State.setInbox_mem (s : State) (e : Nat) (t : Nat) (l : List Msg) (hm : s.memOk) : (State.setInbox s e t l).memOk := by
  unfold State.setInbox
  with_reducible repeat' first | assumption | intro _ | apply State.onEng_mem | split | dsimp only | simp only [State.memOk_mk]

theorem State.enqueueMsg_mem (s : State) (e : Nat) (t : Nat) (m : Msg) (hm : s.memOk) : (State.enqueueMsg s e t m).memOk := by
  unfold State.enqueueMsg
  with_reducible repeat' first | assumption | intro _ | apply State.setInbox_mem | apply State.event_mem | apply State.emit_mem | apply State.setTask_mem | apply State.memOk_if | dsimp only

theorem State.deliverMsg_mem (s : State) (e : Nat) (t : Nat) (m : Msg) (hm : s.memOk) : (State.deliverMsg s e t m).memOk := by
  unfold State.deliverMsg
  with_reducible repeat' first | assumption | intro _ | apply State.enqueueMsg_mem | apply State.raise_mem | apply State.inc_mem | apply State.memOk_if

theorem execMailboxMessageArrival_mem (e : Nat) (t : Nat) (src : Nat) (m : Mail) (s : State) (res : State) (h : execMailboxMessageArrival e t src m s = .next res) (hm : s.memOk) : res.memOk := by
  unfold execMailboxMessageArrival done at h
  rw [← Host.Outcome.next.inj h]
  with_reducible repeat' first | assumption | apply State.deliverMsg_mem | apply State.settle_mem

theorem State.trapToEngine_mem (s : State) (e : Nat) (reason : Nat) (port : Nat) (l : List Byte) (hm : s.memOk) : (State.trapToEngine s e reason port l).memOk := by
  unfold State.trapToEngine
  with_reducible repeat' first | assumption | intro _ | apply State.deliverMsg_mem | apply State.memOk_if | split | dsimp only

theorem execDispatch_mem (e : Nat) (s : State) (res : State) (h : execDispatch e s = .next res) (hm : s.memOk) : res.memOk := by
  unfold execDispatch done at h
  rw [← Host.Outcome.next.inj h]
  with_reducible repeat' first | assumption | intro _ | apply State.settle_mem | apply State.setTask_mem | apply State.event_mem | apply State.wr_mem | apply State.onEng_mem | apply State.memOk_if | split | dsimp only | simp only [State.memOk_mk]

theorem State.engFree_mem (s : State) (e : Nat) (hm : s.memOk) : (State.engFree s e).memOk := by
  unfold State.engFree
  with_reducible repeat' first | assumption | apply State.wr_mem

theorem State.sendOut_mem (s : State) (e : Nat) (t : Nat) (ms : List Mail) (hm : s.memOk) : (State.sendOut s e t ms).memOk := by
  unfold State.sendOut
  with_reducible repeat' first | assumption | intro _ | apply State.raise_mem | apply State.onEng_mem | apply State.foldl_mem | apply State.memOk_if | split | dsimp only | simp only [State.memOk_mk]

theorem State.ranTask_mem (s : State) (e : Nat) (t : Nat) (taken : Nat) (sent : List Mail) (hm : s.memOk) : (State.ranTask s e t taken sent).memOk := by
  unfold State.ranTask
  with_reducible repeat' first | assumption | apply State.sendOut_mem | apply State.setInbox_mem

theorem State.leave_mem (s : State) (e : Nat) (x : Nat) (taken : Nat) (sent : List Mail) (hm : s.memOk) : (State.leave s e x taken sent).memOk := by
  unfold State.leave
  with_reducible repeat' first | assumption | intro _ | apply State.engFree_mem | apply State.ranTask_mem | apply State.setTask_mem | apply State.memOk_if | split | dsimp only | simp only [State.memOk_mk]

theorem execTaskSliceEnd_mem (e : Nat) (taken : Nat) (sent : List Mail) (s : State) (res : State) (h : execTaskSliceEnd e taken sent s = .next res) (hm : s.memOk) : res.memOk := by
  unfold execTaskSliceEnd done at h
  rw [← Host.Outcome.next.inj h]
  with_reducible repeat' first | assumption | apply State.leave_mem | apply State.settle_mem

theorem execTaskYield_mem (e : Nat) (taken : Nat) (sent : List Mail) (s : State) (res : State) (h : execTaskYield e taken sent s = .next res) (hm : s.memOk) : res.memOk := by
  unfold execTaskYield done at h
  rw [← Host.Outcome.next.inj h]
  with_reducible repeat' first | assumption | apply State.leave_mem | apply State.settle_mem

theorem State.waitTask_mem (s : State) (e : Nat) (timer : Bool) (sent : List Mail) (hm : s.memOk) : (State.waitTask s e timer sent).memOk := by
  unfold State.waitTask
  with_reducible repeat' first | assumption | intro _ | apply State.leave_mem | apply State.onEng_mem | apply State.memOk_if | split | dsimp only | simp only [State.memOk_mk]

theorem execTaskWait_mem (e : Nat) (timer : Bool) (sent : List Mail) (s : State) (res : State) (h : execTaskWait e timer sent s = .next res) (hm : s.memOk) : res.memOk := by
  unfold execTaskWait done at h
  rw [← Host.Outcome.next.inj h]
  with_reducible repeat' first | assumption | apply State.waitTask_mem | apply State.settle_mem

theorem State.timerExpired_mem (s : State) (e : Nat) (t : Nat) (hm : s.memOk) : (State.timerExpired s e t).memOk := by
  unfold State.timerExpired
  with_reducible repeat' first | assumption | intro _ | apply State.setTask_mem | apply State.onEng_mem | apply State.memOk_if | split | dsimp only | simp only [State.memOk_mk]

theorem execTaskTimerExpiry_mem (e : Nat) (t : Nat) (s : State) (res : State) (h : execTaskTimerExpiry e t s = .next res) (hm : s.memOk) : res.memOk := by
  unfold execTaskTimerExpiry done at h
  rw [← Host.Outcome.next.inj h]
  with_reducible repeat' first | assumption | apply State.timerExpired_mem | apply State.settle_mem

theorem State.taskFault_mem (s : State) (e : Nat) (code : Nat) (hm : s.memOk) : (State.taskFault s e code).memOk := by
  unfold State.taskFault
  with_reducible repeat' first | assumption | intro _ | apply State.engFree_mem | apply State.setTask_mem | apply State.wrI_mem | apply State.raise_mem | apply State.memOk_if | split | dsimp only | simp only [State.memOk_mk]

theorem execTaskFault_mem (e : Nat) (code : Nat) (s : State) (res : State) (h : execTaskFault e code s = .next res) (hm : s.memOk) : res.memOk := by
  unfold execTaskFault done at h
  rw [← Host.Outcome.next.inj h]
  with_reducible repeat' first | assumption | intro _ | apply State.settle_mem | apply State.taskFault_mem | apply State.memOk_if | dsimp only

theorem State.openTask_mem (s : State) (e : Nat) (t : Nat) (hm : s.memOk) : (State.openTask s e t).memOk := by
  unfold State.openTask
  with_reducible repeat' first | assumption | intro _ | apply State.setTask_mem | apply State.onEng_mem | split | dsimp only | simp only [State.memOk_mk]

theorem State.startTaskStart_mem (k : Cmd) (s : State) (hm : s.memOk) : (State.startTaskStart k s).memOk := by
  unfold State.startTaskStart
  with_reducible repeat' first | assumption | intro _ | apply State.fly_mem | apply State.finishSt_mem | apply State.openTask_mem | apply State.memOk_if | dsimp only

theorem State.closeTask_mem (s : State) (e : Nat) (t : Nat) (hm : s.memOk) : (State.closeTask s e t).memOk := by
  unfold State.closeTask
  with_reducible repeat' first | assumption | intro _ | apply State.onEng_mem | split | dsimp only | simp only [State.memOk_mk]

theorem State.stopFaulted_mem (s : State) (k : Cmd) (hm : s.memOk) : (State.stopFaulted s k).memOk := by
  unfold State.stopFaulted
  with_reducible repeat' first | assumption | intro _ | apply State.finish_mem | apply State.wrI_mem | apply State.setTask_mem | apply State.closeTask_mem | apply State.setInbox_mem | apply State.onEng_mem | dsimp only

theorem State.stopEnds_mem (s : State) (k : Cmd) (hm : s.memOk) : (State.stopEnds s k).memOk := by
  unfold State.stopEnds
  with_reducible repeat' first | assumption | intro _ | apply State.engFree_mem | apply State.setInbox_mem | apply State.closeTask_mem | apply State.setTask_mem | apply State.finish_mem | apply State.memOk_if | dsimp only

theorem State.startTaskStop_mem (k : Cmd) (s : State) (hm : s.memOk) : (State.startTaskStop k s).memOk := by
  unfold State.startTaskStop
  with_reducible repeat' first | assumption | apply State.stopFaulted_mem | intro _ | apply State.fly_mem | apply State.closeTask_mem | apply State.setInbox_mem | apply State.onEng_mem | apply State.finish_mem | apply State.wrI_mem | apply State.setTask_mem | apply State.stopEnds_mem | apply State.finishSt_mem | apply State.memOk_if | split | dsimp only | simp only [State.memOk_mk]

theorem execTaskDrainEnd_mem (e : Nat) (t : Nat) (limit : Bool) (s : State) (res : State) (h : execTaskDrainEnd e t limit s = .next res) (hm : s.memOk) : res.memOk := by
  unfold execTaskDrainEnd done at h
  rw [← Host.Outcome.next.inj h]
  with_reducible repeat' first | assumption | intro _ | apply State.settle_mem | apply State.toLimit_mem | apply State.stopEnds_mem | apply State.memOk_if | split | dsimp only | simp only [State.memOk_mk]

theorem State.wipeEngine_mem (s : State) (e : Nat) (hm : s.memOk) : (State.wipeEngine s e).memOk := by
  unfold State.wipeEngine
  with_reducible repeat' first | assumption | intro _ | apply State.onEng_mem | apply State.each_mem | apply State.wrI_mem | apply State.setTask_mem | apply State.wr_mem | split | dsimp only | simp only [State.memOk_mk]

theorem State.installImage_mem (s : State) (e : Nat) (l : List Byte) (hm : s.memOk) : (State.installImage s e l).memOk := by
  unfold State.installImage
  with_reducible repeat' first | assumption | intro _ | apply State.wipeEngine_mem | apply State.onEng_mem | apply State.each_mem | apply State.wrI_mem | apply State.wr_mem | apply State.raise_mem | apply State.setTask_mem | apply State.openTask_mem | apply State.memOk_if | split | dsimp only | simp only [State.memOk_mk]

theorem State.startTaskLoad_mem (k : Cmd) (s : State) (hm : s.memOk) : (State.startTaskLoad k s).memOk := by
  unfold State.startTaskLoad
  with_reducible repeat' first | assumption | intro _ | apply State.fly_mem | apply State.finishSt_mem | apply State.wr_mem | apply State.wipeEngine_mem | apply State.memOk_if | split | dsimp only

theorem execImageVerified_mem (e : Nat) (image : List Byte) (signed : Bool) (s : State) (res : State) (h : execImageVerified e image signed s = .next res) (hm : s.memOk) : res.memOk := by
  unfold execImageVerified done at h
  rw [← Host.Outcome.next.inj h]
  with_reducible repeat' first | assumption | intro _ | apply State.finish_mem | apply State.onEng_mem | apply State.installImage_mem | apply State.wipeEngine_mem | apply State.memOk_if | apply State.settle_mem | split | dsimp only | simp only [State.memOk_mk]

theorem State.showStaged_mem (s : State) (e : Nat) (hm : s.memOk) : (State.showStaged s e).memOk := by
  unfold State.showStaged
  with_reducible repeat' first | assumption | apply State.wr_mem

theorem State.mbxStage_mem (s : State) (e : Nat) (v : Nat) (hm : s.memOk) : (State.mbxStage s e v).memOk := by
  unfold State.mbxStage
  with_reducible repeat' first | assumption | intro _ | apply State.showStaged_mem | apply State.onEng_mem | apply State.memOk_if | split | dsimp only | simp only [State.memOk_mk]

theorem State.mbxClear_mem (s : State) (e : Nat) (hm : s.memOk) : (State.mbxClear s e).memOk := by
  unfold State.mbxClear
  with_reducible repeat' first | assumption | intro _ | apply State.showStaged_mem | apply State.onEng_mem | split | dsimp only | simp only [State.memOk_mk]

theorem State.mbxPush_mem (s : State) (ctx : Nat) (e : Nat) (hm : s.memOk) : (State.mbxPush s ctx e).memOk := by
  unfold State.mbxPush
  with_reducible repeat' first | assumption | intro _ | apply State.wr_mem | apply State.mbxClear_mem | apply State.enqueueMsg_mem | apply State.memOk_if | dsimp only

theorem State.mbxPop_mem (s : State) (e : Nat) (hm : s.memOk) : (State.mbxPop s e).memOk := by
  unfold State.mbxPop
  with_reducible repeat' first | assumption | intro _ | apply State.onEng_mem | split | dsimp only | simp only [State.memOk_mk]

theorem State.outNextWord_mem (s : State) (e : Nat) (hm : s.memOk) : (State.outNextWord s e).memOk := by
  unfold State.outNextWord
  with_reducible repeat' first | assumption | intro _ | apply State.onEng_mem | split | dsimp only | simp only [State.memOk_mk]

theorem State.shNext_mem (s : State) (hm : s.memOk) : (State.shNext s).memOk := by
  unfold State.shNext
  with_reducible repeat' first | assumption | apply State.wr_mem

theorem State.shWrite_mem (s : State) (v : Nat) (hm : s.memOk) : (s.shWrite v).memOk := by
  unfold State.shWrite
  with_reducible repeat' first | assumption | apply State.shNext_mem | apply canon_put | apply canon_upd | apply canon_nil | exact rfl | apply State.memOk.m1 | apply State.memOk.m2 | apply State.memOk.m3 | apply State.memOk.m4 | apply State.memOk.m5 | apply State.memOk.m6 | simp only [State.memOk_mk] | apply State.memOk_all

theorem State.setCharge_mem (s : State) (o : Nat) (v : Nat) (hm : s.memOk) : (State.setCharge s o v).memOk := by
  unfold State.setCharge
  with_reducible repeat' first | assumption | intro _ | apply State.wrI_mem | apply State.wr_mem | apply State.memOk_if

theorem State.onMac_mem (s : State) (p : Nat) (f : Mac → Mac) (hm : s.memOk) : (State.onMac s p f).memOk := by
  unfold State.onMac
  with_reducible repeat' first | assumption | simp only [State.memOk_mk]

theorem State.showPress_mem (s : State) (p : Nat) (hm : s.memOk) : (State.showPress s p).memOk := by
  unfold State.showPress
  with_reducible repeat' first | assumption | intro _ | apply State.wr_mem | apply State.onMac_mem | apply State.memOk_if | split | dsimp only | simp only [State.memOk_mk]

theorem State.pressOf_mem (s : State) (p : Nat) (hm : s.memOk) : (State.pressOf s p).memOk := by
  unfold State.pressOf
  with_reducible repeat' first | assumption | intro _ | apply State.showPress_mem | apply State.memOk_if | dsimp only | simp only [State.memOk_mk]

theorem State.refreshPress_mem (s : State) (o : Nat) (hm : s.memOk) : (State.refreshPress s o).memOk := by
  unfold State.refreshPress
  with_reducible repeat' first | assumption | intro _ | apply State.each_mem | apply State.pressOf_mem | apply State.memOk_if | split | dsimp only

theorem State.takeCell_mem (s : State) (o : Nat) (b : Bool) (x : Nat × State) (h : s.takeCell o b = some x) (hm : s.memOk) : x.2.memOk := by
  unfold State.takeCell at h
  dsimp only at h
  split at h
  · cases h
  · split at h
    · cases h
    · cases h
      dsimp only
      with_reducible repeat' first | assumption | simp only [State.memOk_mk] | apply State.event_mem | apply State.setCharge_mem | apply State.refreshPress_mem | split

theorem State.freeCell_mem (s : State) (ptr : Nat) (hm : s.memOk) : (State.freeCell s ptr).memOk := by
  unfold State.freeCell
  with_reducible repeat' first | assumption | intro _ | apply State.refreshPress_mem | apply State.setCharge_mem | apply State.memOk_if | split | dsimp only | simp only [State.memOk_mk]

theorem State.setFrame_mem (s : State) (f : Nat) (x : Frame) (hm : s.memOk) : (State.setFrame s f x).memOk := by
  unfold State.setFrame
  with_reducible repeat' first | assumption | simp only [State.memOk_mk]

theorem State.onFrame_mem (s : State) (f : Nat) (g : Frame → Frame) (hm : s.memOk) : (State.onFrame s f g).memOk := by
  unfold State.onFrame
  with_reducible repeat' first | assumption | apply State.setFrame_mem

theorem State.onTx_mem (s : State) (p : Nat) (f : Tx → Tx) (hm : s.memOk) : (State.onTx s p f).memOk := by
  unfold State.onTx
  with_reducible repeat' first | assumption | simp only [State.memOk_mk]

theorem State.fenceFrame_mem (s : State) (f : Nat) (hm : s.memOk) : (State.fenceFrame s f).memOk := by
  unfold State.fenceFrame
  with_reducible repeat' first | assumption | intro _ | apply State.memOk_if | split | dsimp only | simp only [State.memOk_mk]

theorem State.slotOf_mem (s : State) (f : Nat) (hm : s.memOk) : (State.slotOf s f).memOk := by
  unfold State.slotOf
  with_reducible repeat' first | assumption | intro _ | apply State.event_mem | apply State.memOk_if | split | dsimp only | simp only [State.memOk_mk]

theorem State.freeFrame_mem (s : State) (f : Nat) (hm : s.memOk) : (State.freeFrame s f).memOk := by
  unfold State.freeFrame
  with_reducible repeat' first | assumption | intro _ | apply State.slotOf_mem | apply State.freeCell_mem | apply State.fenceFrame_mem | apply State.foldl_mem | split | dsimp only | simp only [State.memOk_mk]

theorem State.reap_mem (s : State) (f : Nat) (hm : s.memOk) : (State.reap s f).memOk := by
  unfold State.reap
  with_reducible repeat' first | assumption | intro _ | apply State.freeFrame_mem | apply State.fenceFrame_mem | apply State.onFrame_mem | apply State.freeCell_mem | apply State.foldl_mem | apply State.memOk_if | split | dsimp only | simp only [State.memOk_mk]

theorem State.outOfReach_mem (s : State) (cells : List Nat) (frames : List Nat) (n : Nat) (hm : s.memOk) : (State.outOfReach s cells frames n).memOk := by
  unfold State.outOfReach
  with_reducible repeat' first | assumption | intro _ | apply State.memOk_if | split | dsimp only | simp only [State.memOk_mk]

theorem State.copyGone_mem (s : State) (f : Nat) (hm : s.memOk) : (State.copyGone s f).memOk := by
  unfold State.copyGone
  with_reducible repeat' first | assumption | intro _ | apply State.reap_mem | apply State.onFrame_mem | apply State.memOk_if | split | dsimp only | simp only [State.memOk_mk]

theorem State.store_mem (s : State) (f n : Nat) (hm : s.memOk) : (s.store f n).memOk := by
  induction n generalizing s with
  | zero => exact hm
  | succ n ih =>
    unfold State.store
    dsimp only
    split
    · exact hm
    · split
      · exact State.onFrame_mem _ _ _ hm
      · split
        · rename_i h; exact ih _ (State.onFrame_mem _ _ _ (State.takeCell_mem _ _ _ _ h hm))
        · with_reducible repeat' first | assumption | intro _ | apply State.onFrame_mem | apply State.incI_mem | apply State.inc_mem | apply State.raise_mem | apply State.foldl_mem | apply State.memOk_if | split | dsimp only | simp only [State.memOk_mk]

theorem State.grow_mem (s : State) (f : Nat) (l : List Byte) (hm : s.memOk) : (s.grow f l).memOk := by
  unfold State.grow
  with_reducible repeat' first | assumption | intro _ | apply State.onFrame_mem | apply State.store_mem | apply State.memOk_if | split | dsimp only | simp only [State.memOk_mk]

theorem State.onVoq_mem (s : State) (v : Nat) (f : Voq → Voq) (hm : s.memOk) : (State.onVoq s v f).memOk := by
  unfold State.onVoq
  with_reducible repeat' first | assumption | simp only [State.memOk_mk]

theorem State.noCopy_mem (s : State) (hm : s.memOk) : (State.noCopy s).memOk := by
  unfold State.noCopy
  with_reducible repeat' first | assumption | apply State.raise_mem | apply State.inc_mem

theorem State.addCopy_mem (s : State) (f : Nat) (leaf : Nat) (edit : Edit) (hm : s.memOk) : (State.addCopy s f leaf edit).memOk := by
  unfold State.addCopy
  with_reducible repeat' first | assumption | intro _ | apply State.inc_mem | apply State.noCopy_mem | apply State.onFrame_mem | apply State.onVoq_mem | apply State.memOk_if | split | dsimp only | simp only [State.memOk_mk]

theorem State.addHostCopy_mem (s : State) (f : Nat) (c : Nat) (reason : Nat) (r : List Byte) (hm : s.memOk) : (State.addHostCopy s f c reason r).memOk := by
  unfold State.addHostCopy
  with_reducible repeat' first | assumption | intro _ | apply State.noCopy_mem | apply State.onFrame_mem | apply State.onHost_mem | apply State.memOk_if | split | dsimp only | simp only [State.memOk_mk]

theorem State.decideFrame_mem (s : State) (f : Nat) (hm : s.memOk) : (State.decideFrame s f).memOk := by
  unfold State.decideFrame
  with_reducible repeat' first | assumption | intro _ | apply State.reap_mem | apply State.onFrame_mem | split | dsimp only | simp only [State.memOk_mk]

theorem State.sticky_mem (s : State) (p : Nat) (b : Nat) (hm : s.memOk) : (State.sticky s p b).memOk := by
  unfold State.sticky
  with_reducible repeat' first | assumption | intro _ | apply State.raise_mem | apply State.wr_mem | apply State.memOk_if | dsimp only

theorem State.ptpBoth_mem (s : State) (i : Nat) (f : Nat → State → State) (h : ∀ i a, a.memOk → (f i a).memOk) (hm : s.memOk) : (State.ptpBoth s i f).memOk := by
  unfold State.ptpBoth
  with_reducible repeat' first | assumption | intro _ | apply State.both_mem | apply State.each_mem | apply h | apply State.memOk_if | split | dsimp only

theorem State.ptpCount_mem (s : State) (i : Nat) (f : Fld) (hm : s.memOk) : (State.ptpCount s i f).memOk := by
  unfold State.ptpCount
  with_reducible repeat' first | assumption | intro _ | apply State.ptpBoth_mem | apply State.inc_mem | split | dsimp only

theorem State.ptpCause_mem (s : State) (i : Nat) (b : Nat) (hm : s.memOk) : (State.ptpCause s i b).memOk := by
  unfold State.ptpCause
  with_reducible repeat' first | assumption | intro _ | apply State.ptpBoth_mem | apply State.raise_mem | split | dsimp only

theorem State.ptpTrap_mem (s : State) (f : Nat) (i : Nat) (reason : Nat) (r : List Byte) (hm : s.memOk) : (State.ptpTrap s f i reason r).memOk := by
  unfold State.ptpTrap
  with_reducible repeat' first | assumption | intro _ | apply State.addHostCopy_mem | apply State.onFrame_mem | apply State.memOk_if | split | dsimp only | simp only [State.memOk_mk]

theorem State.ptpRx_mem (s : State) (f : Nat) (hm : s.memOk) : (State.ptpRx s f).memOk := by
  unfold State.ptpRx
  with_reducible repeat' first | assumption | intro _ | apply State.onFrame_mem | apply State.inc_mem | apply State.decideFrame_mem | apply State.ptpTrap_mem | apply State.ptpCount_mem | apply State.memOk_if | split | dsimp only | simp only [State.memOk_mk]

theorem execPtpMessageRx_mem (f : Nat) (s : State) (res : State) (h : execPtpMessageRx f s = .next res) (hm : s.memOk) : res.memOk := by
  unfold execPtpMessageRx done at h
  rw [← Host.Outcome.next.inj h]
  with_reducible repeat' first | assumption | apply State.ptpRx_mem | apply State.settle_mem

theorem State.onNode_mem (s : State) (n : Nat) (f : Node → Node) (hm : s.memOk) : (State.onNode s n f).memOk := by
  unfold State.onNode
  with_reducible repeat' first | assumption | simp only [State.memOk_mk]

theorem State.accruePort_mem (s : State) (p : Nat) (hm : s.memOk) : (State.accruePort s p).memOk := by
  unfold State.accruePort
  with_reducible repeat' first | assumption | intro _ | apply State.onNode_mem | apply State.foldl_mem | apply State.memOk_if | split | dsimp only

theorem State.accrueAll_mem (s : State) (hm : s.memOk) : (State.accrueAll s).memOk := by
  unfold State.accrueAll
  with_reducible repeat' first | assumption | intro _ | apply State.onNode_mem | apply State.foldl_mem | split | dsimp only

theorem State.quietNow_mem (s : State) (p : Nat) (hm : s.memOk) : (State.quietNow s p).memOk := by
  unfold State.quietNow
  with_reducible repeat' first | assumption | intro _ | apply State.onMac_mem | split | dsimp only | simp only [State.memOk_mk]

theorem State.popVoq_mem (s : State) (v : Nat) (hm : s.memOk) : (State.popVoq s v).memOk := by
  unfold State.popVoq
  with_reducible repeat' first | assumption | intro _ | apply State.onVoq_mem | apply State.copyGone_mem | apply State.quietNow_mem | split | dsimp only | simp only [State.memOk_mk]

theorem State.copyLeaves_mem (s : State) (x : Tx) (v : Nat) (c : Copy) (hm : s.memOk) : (State.copyLeaves s x v c).memOk := by
  unfold State.copyLeaves
  with_reducible repeat' first | assumption | intro _ | apply State.onVoq_mem | apply State.copyGone_mem | apply State.memOk_if | split | dsimp only | simp only [State.memOk_mk]

theorem State.flushVoq_mem (s : State) (v n : Nat) (hm : s.memOk) : (s.flushVoq v n).memOk := by
  induction n generalizing s with
  | zero => exact hm
  | succ n ih =>
    unfold State.flushVoq
    split
    · exact hm
    · apply ih
      with_reducible repeat' first | assumption | intro _ | apply State.popVoq_mem | apply State.event_mem | apply State.inc_mem | apply State.incI_mem | apply State.raise_mem | apply State.sticky_mem | apply State.foldl_mem | apply State.memOk_if | split | dsimp only | simp only [State.memOk_mk]

theorem State.flushPort_mem (s : State) (p : Nat) (hm : s.memOk) : (s.flushPort p).memOk := by
  unfold State.flushPort
  with_reducible repeat' first | assumption | intro _ | apply State.flushVoq_mem | apply State.foldl_mem | apply State.memOk_if | split | dsimp only

theorem State.touchPort_mem (s : State) (p : Nat) (hm : s.memOk) : (State.touchPort s p).memOk := by
  unfold State.touchPort
  with_reducible repeat' first | assumption | intro _ | apply State.flushPort_mem | apply State.accruePort_mem | apply State.onNode_mem | apply State.foldl_mem | apply State.memOk_if | split | dsimp only | simp only [State.memOk_mk]

theorem State.touchAll_mem (s : State) (hm : s.memOk) : (State.touchAll s).memOk := by
  unfold State.touchAll
  with_reducible repeat' first | assumption | intro _ | apply State.each_mem | apply State.touchPort_mem | apply State.memOk_if | split | dsimp only

theorem State.drr_mem (s : State) (q : Nat) (nd ch : Nat → Nat) (cs : List Nat) (n : Nat) (x : Nat × State) (h : s.drr q nd ch cs n = some x)
    (hm : s.memOk) : x.2.memOk := by
  induction n generalizing s with
  | zero => simp [State.drr] at h
  | succ n ih =>
    unfold State.drr at h
    dsimp only at h
    split at h
    · cases h; exact State.onNode_mem _ _ _ hm
    · split at h
      · cases h
      · exact ih _ h (State.onNode_mem _ _ _ hm)

theorem State.grantIn_mem (s : State) (p svc : Nat) (vs fs : List Nat) (g : Grant) (h : s.grantIn p svc vs fs = some g) (hm : s.memOk) : g.2.memOk := by
  unfold State.grantIn at h
  dsimp only at h
  split at h
  · cases h
  · simp only [Option.map_eq_some_iff] at h; obtain ⟨_, _, rfl⟩ := h; exact hm
  · split at h
    · rename_i u s' h2
      simp only [Option.map_eq_some_iff] at h; obtain ⟨_, _, rfl⟩ := h
      exact State.drr_mem _ _ _ _ _ _ (u, s') h2 hm
    · cases h

theorem State.grant_mem (s : State) (p : Nat) (g : Grant) (h : s.grant p = some g) (hm : s.memOk) : g.2.memOk := by
  unfold State.grant at h
  dsimp only at h
  split at h
  · cases h
  · exact State.grantIn_mem _ _ _ _ _ _ h hm
  · split at h
    · rename_i h2
      exact State.grantIn_mem _ _ _ _ _ _ h (State.drr_mem _ _ _ _ _ _ _ h2 hm)
    · cases h

theorem State.startCopy_mem (s : State) (p : Nat) (v : Nat) (c : Copy) (hm : s.memOk) : (State.startCopy s p v c).memOk := by
  unfold State.startCopy
  with_reducible repeat' first | assumption | intro _ | apply State.onNode_mem | apply State.inc_mem | apply State.raise_mem | apply State.onTx_mem | apply State.foldl_mem | apply State.memOk_if | split | dsimp only | simp only [State.memOk_mk]

theorem State.startPause_mem (s : State) (p : Nat) (q : Nat) (hm : s.memOk) : (State.startPause s p q).memOk := by
  unfold State.startPause
  with_reducible repeat' first | assumption | intro _ | apply State.inc_mem | apply State.onMac_mem | apply State.onTx_mem | apply State.emit_mem | split | dsimp only | simp only [State.memOk_mk]

theorem State.gwCount_mem (s : State) (k : Nat) (i : Nat) (hm : s.memOk) : (State.gwCount s k i).memOk := by
  unfold State.gwCount
  with_reducible repeat' first | assumption | intro _ | apply State.both_mem | apply State.memOk_if | split | dsimp only | simp only [State.memOk_mk]

theorem State.quietIf_mem (s : State) (p : Nat) (b : Bool) (hm : s.memOk) : (State.quietIf s p b).memOk := by
  unfold State.quietIf
  with_reducible repeat' first | assumption | intro _ | apply State.quietNow_mem | apply State.memOk_if | dsimp only

theorem State.gwDrop_mem (s : State) (p : Nat) (hm : s.memOk) : (State.gwDrop s p).memOk := by
  unfold State.gwDrop
  with_reducible repeat' first | assumption | intro _ | apply State.gwCount_mem | apply State.quietIf_mem | apply State.foldl_mem | split | dsimp only | simp only [State.memOk_mk]

theorem State.startGateway_mem (s : State) (p : Nat) (g : GwFrame) (hm : s.memOk) : (State.startGateway s p g).memOk := by
  unfold State.startGateway
  with_reducible repeat' first | assumption | intro _ | apply State.onTx_mem | split | dsimp only | simp only [State.memOk_mk]

theorem State.startInband_mem (s : State) (p : Nat) (l : List Byte) (hm : s.memOk) : (State.startInband s p l).memOk := by
  unfold State.startInband
  with_reducible repeat' first | assumption | intro _ | apply State.onHost_mem | apply State.onTx_mem | split | dsimp only | simp only [State.memOk_mk]

theorem State.inbandDrop_mem (s : State) (p : Nat) (hm : s.memOk) : (State.inbandDrop s p).memOk := by
  unfold State.inbandDrop
  with_reducible repeat' first | assumption | intro _ | apply State.onHost_mem | apply State.addI_mem | apply State.sticky_mem | apply State.memOk_if | split | dsimp only | simp only [State.memOk_mk]

theorem State.lineStart_mem (s : State) (p : Nat) (hm : s.memOk) : (State.lineStart s p).memOk := by
  unfold State.lineStart
  with_reducible repeat' first | assumption | intro _ | apply State.onTx_mem | apply State.event_mem | apply State.onMac_mem | apply State.emit_mem | apply State.bump_mem | apply State.memOk_if | split | dsimp only | simp only [State.memOk_mk]

theorem State.decideNext_mem (s : State) (p : Nat) (hm : s.memOk) : (State.decideNext s p).memOk := by
  unfold State.decideNext
  split
  · exact hm
  · next v s' h =>
    split
    · exact hm
    · exact State.onMac_mem _ _ _ (State.grant_mem s p _ h hm)

theorem State.startNext_mem (s : State) (p : Nat) (hm : s.memOk) : (State.startNext s p).memOk := by
  unfold State.startNext
  with_reducible repeat' first | assumption | intro _ | apply State.startPause_mem | apply State.lineStart_mem | apply State.startGateway_mem | apply State.startInband_mem | apply State.onMac_mem | apply State.decideNext_mem | apply State.startCopy_mem | apply State.memOk_if | split | dsimp only | simp only [State.memOk_mk]

theorem State.grant_mem' (s s' : State) (p v : Nat) (h : s.grant p = some (v, s')) (hm : s.memOk) : s'.memOk := State.grant_mem s p _ h hm

theorem State.schedule_mem (s : State) (p : Nat) (hm : s.memOk) : (State.schedule s p).memOk := by
  unfold State.schedule
  with_reducible repeat' first | assumption | intro _ | apply State.touchPort_mem | apply State.startNext_mem | apply State.decideNext_mem | apply State.memOk_if | dsimp only

theorem State.queueLost_mem (s : State) (v : Nat) (hm : s.memOk) : (State.queueLost s v).memOk := by
  unfold State.queueLost
  with_reducible repeat' first | assumption | intro _ | apply State.outOfReach_mem | apply State.onTx_mem | apply State.onVoq_mem | apply State.quietNow_mem | apply State.inc_mem | apply State.raise_mem | apply State.integErr_mem | apply State.memOk_if | split | dsimp only | simp only [State.memOk_mk]

theorem execSchedulerDecision_mem (p : Nat) (lost : List Nat) (s : State) (res : State) (h : execSchedulerDecision p lost s = .next res) (hm : s.memOk) : res.memOk := by
  unfold execSchedulerDecision done at h
  rw [← Host.Outcome.next.inj h]
  with_reducible repeat' first | assumption | intro _ | apply State.schedule_mem | apply State.queueLost_mem | apply State.foldl_mem | apply State.settle_mem | split | dsimp only

theorem State.limitTx_mem (s : State) (p : Nat) (c : Copy) (hm : s.memOk) : (State.limitTx s p c).memOk := by
  unfold State.limitTx
  with_reducible repeat' first | assumption | intro _ | apply State.onTx_mem | split | dsimp only | simp only [State.memOk_mk]

theorem State.corrected_mem (s : State) (banks : List Nat) (hm : s.memOk) : (State.corrected s banks).memOk := by
  unfold State.corrected
  with_reducible repeat' first | assumption | intro _ | apply State.integErr_mem | apply State.inc_mem | apply State.foldl_mem | split | dsimp only

theorem State.uncorrectable_mem (s : State) (bank : Nat) (hm : s.memOk) : (State.uncorrectable s bank).memOk := by
  unfold State.uncorrectable
  with_reducible repeat' first | assumption | apply State.integErr_mem | apply State.inc_mem

theorem State.hurtFrame_mem (s : State) (f : Nat) (b : Nat) (n : Nat) (hm : s.memOk) : (State.hurtFrame s f b n).memOk := by
  unfold State.hurtFrame
  with_reducible repeat' first | assumption | intro _ | apply State.onFrame_mem | apply State.memOk_if | dsimp only

theorem State.breakChain_mem (s : State) (f : Nat) (n : Nat) (hm : s.memOk) : (State.breakChain s f n).memOk := by
  unfold State.breakChain
  with_reducible repeat' first | assumption | intro _ | apply State.outOfReach_mem | apply State.onFrame_mem | apply State.memOk_if | split | dsimp only | simp only [State.memOk_mk]

theorem State.depart_mem (s : State) (p : Nat) (corr : List Nat) (bad : Option (Nat × Nat)) (link : Bool) (hm : s.memOk) : (State.depart s p corr bad link).memOk := by
  unfold State.depart
  with_reducible repeat' first | assumption | intro _ | apply State.corrected_mem | apply State.uncorrectable_mem | apply State.hurtFrame_mem | apply State.onTx_mem | apply State.breakChain_mem | apply State.limitTx_mem | apply State.copyLeaves_mem | apply State.touchPort_mem | apply State.memOk_if | split | dsimp only | simp only [State.memOk_mk]

theorem execCopyDepart_mem (p : Nat) (corr : List Nat) (bad : Option (Nat × Nat)) (link : Bool) (s : State) (res : State) (h : execCopyDepart p corr bad link s = .next res) (hm : s.memOk) : res.memOk := by
  unfold execCopyDepart done at h
  rw [← Host.Outcome.next.inj h]
  with_reducible repeat' first | assumption | apply State.depart_mem | apply State.settle_mem

theorem State.countTx_mem (s : State) (p : Nat) (n : Nat) (hm : s.memOk) : (State.countTx s p n).memOk := by
  unfold State.countTx
  with_reducible repeat' first | assumption | intro _ | apply State.inc_mem | apply State.onMac_mem | split | dsimp only | simp only [State.memOk_mk]

theorem State.refund_mem (s : State) (p : Nat) (x : Tx) (n : Nat) (hm : s.memOk) : (State.refund s p x n).memOk := by
  unfold State.refund
  with_reducible repeat' first | assumption | intro _ | apply State.onNode_mem | apply State.foldl_mem | apply State.memOk_if | split | dsimp only | simp only [State.memOk_mk]

theorem State.lineFree_mem (s : State) (p : Nat) (hm : s.memOk) : (State.lineFree s p).memOk := by
  unfold State.lineFree
  with_reducible repeat' first | assumption | intro _ | apply State.onTx_mem | apply State.onMac_mem | apply State.quietNow_mem | apply State.memOk_if | split | dsimp only | simp only [State.memOk_mk]

theorem State.deal_mem (s : State) (p : Nat) (l : List Byte) (hm : s.memOk) : (State.deal s p l).memOk := by
  unfold State.deal
  with_reducible repeat' first | assumption | intro _ | apply State.each_mem | apply State.emit_mem | apply State.memOk_if | split | dsimp only | simp only [State.memOk_mk]

theorem State.txEnd_mem (s : State) (p : Nat) (hm : s.memOk) : (State.txEnd s p).memOk := by
  unfold State.txEnd
  with_reducible repeat' first | assumption | intro _ | apply State.depart_mem | apply State.countTx_mem | apply State.emit_mem | apply State.deal_mem | apply State.inc_mem | apply State.sticky_mem | apply State.accruePort_mem | apply State.refund_mem | apply State.lineFree_mem | apply State.touchPort_mem | apply State.fenceFrame_mem | apply State.memOk_if | split | dsimp only | simp only [State.memOk_mk]

theorem execFrameTxEnd_mem (p : Nat) (s : State) (res : State) (h : execFrameTxEnd p s = .next res) (hm : s.memOk) : res.memOk := by
  unfold execFrameTxEnd done at h
  rw [← Host.Outcome.next.inj h]
  with_reducible repeat' first | assumption | apply State.txEnd_mem | apply State.settle_mem

theorem State.txAbort_mem (s : State) (p : Nat) (hm : s.memOk) : (State.txAbort s p).memOk := by
  unfold State.txAbort
  with_reducible repeat' first | assumption | intro _ | apply State.onMac_mem | apply State.countTx_mem | apply State.accruePort_mem | apply State.refund_mem | apply State.copyLeaves_mem | apply State.onTx_mem | apply State.fenceFrame_mem | apply State.quietNow_mem | apply State.memOk_if | split | dsimp only | simp only [State.memOk_mk]

theorem State.configNode_mem (s : State) (n : Nat) (c : NodeCfg) (hm : s.memOk) : (State.configNode s n c).memOk := by
  unfold State.configNode
  with_reducible repeat' first | assumption | intro _ | apply State.accruePort_mem | apply State.onNode_mem | apply State.onTx_mem | apply State.touchPort_mem | apply State.memOk_if | split | dsimp only | simp only [State.memOk_mk]

theorem State.shpBusy_mem (s : State) (hm : s.memOk) : (State.shpBusy s).memOk := by
  unfold State.shpBusy
  with_reducible repeat' first | assumption | intro _ | apply State.bump_mem | dsimp only | simp only [State.memOk_mk]

theorem State.shpWrite_mem (s : State) (held : Bool) (hm : s.memOk) : (State.shpWrite s held).memOk := by
  unfold State.shpWrite
  with_reducible repeat' first | assumption | intro _ | apply State.shpBusy_mem | apply State.wr_mem | apply State.raise_mem | apply State.configNode_mem | apply State.memOk_if | dsimp only | simp only [State.memOk_mk]

theorem State.shpCommit_mem (s : State) (hm : s.memOk) : (State.shpCommit s).memOk := by
  unfold State.shpCommit
  with_reducible repeat' first | assumption | intro _ | apply State.configNode_mem | apply State.wr_mem | apply State.foldl_mem | split | dsimp only | simp only [State.memOk_mk]

theorem State.shpRead_mem (s : State) (hm : s.memOk) : (State.shpRead s).memOk := by
  unfold State.shpRead
  with_reducible repeat' first | assumption | intro _ | apply State.shpBusy_mem | apply State.accruePort_mem | apply State.wr_mem | apply State.wrSat_mem | dsimp only

theorem State.startGateInstall_mem (k : Cmd) (s : State) (hm : s.memOk) : (State.startGateInstall k s).memOk := by
  unfold State.startGateInstall
  with_reducible repeat' first | assumption | intro _ | apply State.fly_mem | apply State.finish_mem | apply State.onGate_mem | apply State.wrI_mem | apply State.memOk_if | split | dsimp only | simp only [State.memOk_mk]

theorem State.gateSwap_mem (s : State) (p : Nat) (hm : s.memOk) : (State.gateSwap s p).memOk := by
  unfold State.gateSwap
  with_reducible repeat' first | assumption | intro _ | apply State.onGate_mem | apply State.wrI_mem | apply State.raise_mem | apply State.finishOp_mem | apply State.touchPort_mem | split | dsimp only | simp only [State.memOk_mk]

theorem State.gateSwapDue_mem (s : State) (hm : s.memOk) : s.gateSwapDue.memOk := by
  unfold State.gateSwapDue
  with_reducible repeat' first | assumption | intro _ | apply State.each_mem | apply State.gateSwap_mem | apply State.memOk_if | split | dsimp only | simp only [State.memOk_mk]

theorem execGateListSwap_mem (p : Nat) (s : State) (res : State) (h : execGateListSwap p s = .next res) (hm : s.memOk) : res.memOk := by
  unfold execGateListSwap done at h
  rw [← Host.Outcome.next.inj h]
  with_reducible repeat' first | assumption | apply State.gateSwap_mem | apply State.advance_mem | apply State.settle_mem | split | dsimp only | simp only [State.memOk_mk]

theorem execGateChange_mem (p : Nat) (s : State) (res : State) (h : execGateChange p s = .next res) (hm : s.memOk) : res.memOk := by
  unfold execGateChange done at h
  rw [← Host.Outcome.next.inj h]
  with_reducible repeat' first | assumption | intro _ | apply State.advance_mem | apply State.accruePort_mem | apply State.touchPort_mem | apply State.onGate_mem | apply State.memOk_if | apply State.settle_mem | split | dsimp only | simp only [State.memOk_mk]

theorem State.hoopChanged_mem (old : State) (s : State) (hm : s.memOk) : (State.hoopChanged old s).memOk := by
  unfold State.hoopChanged
  with_reducible repeat' first | assumption | intro _ | apply State.each_mem | apply State.onGate_mem | apply State.memOk_if | split | dsimp only | simp only [State.memOk_mk]

theorem State.gateWrite_mem (s : State) (hm : s.memOk) : (State.gateWrite s).memOk := by
  unfold State.gateWrite
  with_reducible repeat' first | assumption | intro _ | apply State.wr_mem | apply State.onGate_mem | apply State.memOk_if | split | dsimp only | simp only [State.memOk_mk]

theorem State.gateRead_mem (s : State) (hm : s.memOk) : (State.gateRead s).memOk := by
  unfold State.gateRead
  with_reducible repeat' first | assumption | apply State.wr_mem | dsimp only

theorem State.sweep_mem (s : State) (hm : s.memOk) : (State.sweep s).memOk := by
  unfold State.sweep
  with_reducible repeat' first | assumption | intro _ | apply State.advance_mem | apply State.inc_mem | apply State.raise_mem | apply State.showRing_mem | apply State.sampleOn_mem | apply State.memOk_if | split | dsimp only | simp only [State.memOk_mk]

theorem execSampleSweep_mem (s : State) (res : State) (h : execSampleSweep s = .next res) (hm : s.memOk) : res.memOk := by
  unfold execSampleSweep done at h
  rw [← Host.Outcome.next.inj h]
  with_reducible repeat' first | assumption | apply State.sweep_mem | apply State.settle_mem

theorem State.smpLoad_mem (s : State) (hm : s.memOk) : (State.smpLoad s).memOk := by
  unfold State.smpLoad
  with_reducible repeat' first | assumption | intro _ | apply State.each_mem | apply State.wrI_mem | split | dsimp only

theorem State.smpPop_mem (s : State) (hm : s.memOk) : (State.smpPop s).memOk := by
  unfold State.smpPop
  with_reducible repeat' first | assumption | apply State.showRing_mem | simp only [State.memOk_mk]

theorem State.setEntry_mem (s : State) (w table index : Nat) (e : List Nat) (hm : s.memOk) : (s.setEntry w table index e).memOk := by
  unfold State.setEntry
  with_reducible repeat' first | assumption | intro _ | apply canon_put | apply canon_upd | apply canon_nil | exact rfl | apply State.memOk.m1 | apply State.memOk.m2 | apply State.memOk.m3 | apply State.memOk.m4 | apply State.memOk.m5 | apply State.memOk.m6 | apply State.memOk_if | split | dsimp only | simp only [State.memOk_mk] | apply State.memOk_all

theorem State.parityBad_mem (s : State) (w : Nat) (t : Nat) (i : Nat) (hm : s.memOk) : (State.parityBad s w t i).memOk := by
  unfold State.parityBad
  with_reducible repeat' first | assumption | intro _ | apply State.setEntry_mem | apply State.inc_mem | apply State.wr_mem | apply State.raise_mem | apply State.memOk_if | split | dsimp only | simp only [State.memOk_mk]

theorem State.probe_mem (s : State) (w t : Nat) (k : List Nat) (d : Damage) (hm : s.memOk) : (s.probe w t k d).2.memOk := by
  unfold State.probe
  with_reducible repeat' first | assumption | intro _ | apply State.parityBad_mem | apply State.memOk_if | split | simp only [State.memOk_mk]

theorem State.probeAt_mem (s : State) (w t i : Nat) (d : Damage) (hm : s.memOk) : (s.probeAt w t i d).2.memOk := by
  unfold State.probeAt
  with_reducible repeat' first | assumption | intro _ | apply State.parityBad_mem | apply State.foldl_mem | apply State.memOk_if | split | dsimp only | simp only [State.memOk_mk]

theorem State.pipeCount_mem (s : State) (w : Nat) (f : Fld) (hm : s.memOk) : (State.pipeCount s w f).memOk := by
  unfold State.pipeCount
  with_reducible repeat' first | assumption | apply State.inc_mem

theorem State.queueLearn_mem (s : State) (w : Nat) (r : Req) (hm : s.memOk) : (State.queueLearn s w r).memOk := by
  unfold State.queueLearn
  with_reducible repeat' first | assumption | intro _ | apply State.raise_mem | apply State.pipeCount_mem | apply State.memOk_if | dsimp only | simp only [State.memOk_mk]

theorem State.requestLearn_mem (s : State) (port : Nat) (addr : Nat) (vid : Nat) (hm : s.memOk) : (State.requestLearn s port addr vid).memOk := by
  unfold State.requestLearn
  with_reducible repeat' first | assumption | intro _ | apply State.raise_mem | apply State.pipeCount_mem | apply State.queueLearn_mem | apply State.memOk_if | dsimp only | simp only [State.memOk_mk]

theorem State.setHit_mem (s : State) (w : Nat) (i : Nat) (hm : s.memOk) : (State.setHit s w i).memOk := by
  unfold State.setHit
  with_reducible repeat' first | assumption | intro _ | apply State.setEntry_mem | apply State.memOk_if | dsimp only | simp only [State.memOk_mk]

theorem State.source_mem (s : State) (port addr vid : Nat) (a b : Bool) (d : Damage) (hm : s.memOk) : (s.source port addr vid a b d).1.memOk := by
  unfold State.source
  with_reducible repeat' first | assumption | intro _ | apply State.probe_mem | apply State.raise_mem | apply State.pipeCount_mem | apply State.setHit_mem | apply State.requestLearn_mem | apply State.memOk_if | split | dsimp only | simp only [State.memOk_mk]

theorem State.sendCopy_mem (s : State) (f : Nat) (leaf : Nat) (edit : Edit) (hm : s.memOk) : (State.sendCopy s f leaf edit).memOk := by
  unfold State.sendCopy
  with_reducible repeat' first | assumption | intro _ | apply State.onFrame_mem | apply State.addCopy_mem | apply State.memOk_if | split | dsimp only | simp only [State.memOk_mk]

theorem State.copyTo_mem (s : State) (c : Ctx) (port : Nat) (subscr : Nat) (svc : Nat) (hm : s.memOk) : (State.copyTo s c port subscr svc).memOk := by
  unfold State.copyTo
  with_reducible repeat' first | assumption | intro _ | apply State.sendCopy_mem | dsimp only

theorem State.copyGroup_mem (s : State) (c : Ctx) (g subscr svc : Nat) (d : Damage) (hm : s.memOk) : (s.copyGroup c g subscr svc d).memOk := by
  unfold State.copyGroup
  with_reducible repeat' first | assumption | intro _ | apply State.probeAt_mem | apply State.pipeCount_mem | apply State.each_mem | apply State.copyTo_mem | apply State.memOk_if | split | dsimp only | simp only [State.memOk_mk]

theorem State.tryLen_mem (w : Nat) (v4 : Bool) (a : Nat) (d : Damage) (b : Option (Nat × Nat) × State) (l : Nat) (hm : b.2.memOk) : (State.tryLen w v4 a d b l).2.memOk := by
  unfold State.tryLen
  with_reducible repeat' first | assumption | intro _ | apply State.probe_mem | apply State.foldl_mem | apply State.memOk_if | split | dsimp only | simp only [State.memOk_mk]

theorem State.nextHop_mem (s : State) (w : Nat) (v4 : Bool) (a : Nat) (d : Damage) (hm : s.memOk) : (s.nextHop w v4 a d).2.memOk := by
  unfold State.nextHop
  dsimp only
  have h (l : List Nat) (x : State) (hx : x.memOk) : (l.foldl (State.tryLen w v4 a d) ((none : Option (Nat × Nat)), x)).2.memOk :=
    State.foldl_pair_mem l _ _ (fun b k hb => State.tryLen_mem w v4 a d b k hb) hx
  with_reducible repeat' first | assumption | intro _ | apply State.integErr_mem | apply State.probeAt_mem | apply h | apply State.foldl_mem | apply State.memOk_if | split | dsimp only | simp only [State.memOk_mk]

theorem State.trapTo_mem (s : State) (f : Nat) (ctx : Nat) (hm : s.memOk) : (State.trapTo s f ctx).memOk := by
  unfold State.trapTo
  with_reducible repeat' first | assumption | apply State.addHostCopy_mem

theorem State.route_mem (s : State) (c : Ctx) (l : List Byte) (v4 : Bool) (a : Nat) (d : Damage) (hm : s.memOk) : (State.route s c l v4 a d).memOk := by
  unfold State.route
  with_reducible repeat' first | assumption | intro _ | apply State.pipeCount_mem | apply State.trapTo_mem | apply State.nextHop_mem | apply State.probeAt_mem | apply State.sendCopy_mem | apply State.memOk_if | split | dsimp only | simp only [State.memOk_mk]

theorem State.destination_mem (s : State) (c : Ctx) (l : List Byte) (flood : Nat) (d : Damage) (hm : s.memOk) : (State.destination s c l flood d).memOk := by
  unfold State.destination
  with_reducible repeat' first | assumption | intro _ | apply State.probe_mem | apply State.pipeCount_mem | apply State.copyGroup_mem | apply State.copyTo_mem | apply State.trapTo_mem | apply State.route_mem | apply State.memOk_if | split | dsimp only | simp only [State.memOk_mk]

theorem State.txBad_mem (s : State) (src : Nat) (hm : s.memOk) : (State.txBad s src).memOk := by
  unfold State.txBad
  with_reducible repeat' first | assumption | intro _ | apply State.raise_mem | apply State.inc_mem | apply State.memOk_if

theorem State.decideCopies_mem (s : State) (f : Nat) (d : Damage) (hm : s.memOk) : (State.decideCopies s f d).memOk := by
  unfold State.decideCopies
  with_reducible repeat' first | assumption | intro _ | apply State.onFrame_mem | apply State.event_mem | apply State.pipeCount_mem | apply State.probe_mem | apply State.probeAt_mem | apply State.source_mem | apply State.destination_mem | apply State.memOk_if | split | dsimp only | simp only [State.memOk_mk]

theorem State.decide1_mem (s : State) (f : Nat) (d : Damage) (hm : s.memOk) : (State.decide1 s f d).memOk := by
  unfold State.decide1
  with_reducible repeat' first | assumption | intro _ | apply State.decideCopies_mem | apply State.txBad_mem | apply State.decideFrame_mem | apply State.memOk_if | dsimp only

theorem State.decideSend_mem (s : State) (src : Nat) (l : List Nat) (d : Damage) (hm : s.memOk) : (State.decideSend s src l d).memOk := by
  unfold State.decideSend
  with_reducible repeat' first | assumption | intro _ | apply State.decideCopies_mem | apply State.decideFrame_mem | apply State.txBad_mem | apply State.decide1_mem | apply State.foldl_mem | apply State.memOk_if | split | dsimp only

theorem State.sendDirect_mem (s : State) (src n : Nat) (hm : s.memOk) : (s.sendDirect src n).memOk := by
  induction n generalizing s with
  | zero => exact hm
  | succ n ih =>
    unfold State.sendDirect
    with_reducible repeat' first | assumption | intro _ | apply ih | apply State.decideFrame_mem | apply State.addCopy_mem | split

theorem State.lookupHost_mem (s : State) (f : Nat) (d : Damage) (hm : s.memOk) : (State.lookupHost s f d).memOk := by
  unfold State.lookupHost
  with_reducible repeat' first | assumption | intro _ | apply State.decideSend_mem | apply State.sendDirect_mem | apply State.memOk_if | split | dsimp only | simp only [State.memOk_mk]

theorem State.lookup_mem (s : State) (f : Nat) (d : Damage) (hm : s.memOk) : (State.lookup s f d).memOk := by
  unfold State.lookup
  with_reducible repeat' first | assumption | intro _ | apply State.decideFrame_mem | apply State.sendDirect_mem | apply State.lookupHost_mem | apply State.touchAll_mem | apply State.ptpRx_mem | apply State.decide1_mem | apply State.memOk_if | dsimp only

theorem execLookup_mem (f : Nat) (d : List (Nat × Nat)) (s : State) (res : State) (h : execLookup f d s = .next res) (hm : s.memOk) : res.memOk := by
  unfold execLookup done at h
  rw [← Host.Outcome.next.inj h]
  with_reducible repeat' first | assumption | apply State.lookup_mem | apply State.settle_mem

theorem execLearnCopyArrival_mem (w : Nat) (s : State) (res : State) (h : execLearnCopyArrival w s = .next res) (hm : s.memOk) : res.memOk := by
  unfold execLearnCopyArrival done at h
  rw [← Host.Outcome.next.inj h]
  with_reducible repeat' first | assumption | apply State.queueLearn_mem | apply State.settle_mem | split | dsimp only | simp only [State.memOk_mk]

theorem State.commitMove_mem (s : State) (w : Nat) (i : Nat) (addr : Nat) (vid : Nat) (cycle : Nat) (port : Nat) (hm : s.memOk) : (State.commitMove s w i addr vid cycle port).memOk := by
  unfold State.commitMove
  with_reducible repeat' first | assumption | intro _ | apply State.setEntry_mem | apply State.pipeCount_mem | apply State.wr_mem | apply State.raise_mem | apply State.memOk_if | split | dsimp only | simp only [State.memOk_mk]

theorem State.commitLearn_mem (s : State) (w : Nat) (addr : Nat) (vid : Nat) (cycle : Nat) (port : Nat) (hm : s.memOk) : (State.commitLearn s w addr vid cycle port).memOk := by
  unfold State.commitLearn
  with_reducible repeat' first | assumption | intro _ | apply State.setEntry_mem | apply State.commitMove_mem | apply State.raise_mem | apply State.pipeCount_mem | apply State.memOk_if | split | dsimp only | simp only [State.memOk_mk]

theorem State.commitFlush_mem (s : State) (w : Nat) (ctx : Nat) (count : Nat) (port : Nat) (vid : Nat) (hm : s.memOk) : (State.commitFlush s w ctx count port vid).memOk := by
  unfold State.commitFlush
  with_reducible repeat' first | assumption | intro _ | apply State.setEntry_mem | apply State.finish_mem | apply State.onCmd_mem | apply State.foldl_mem | apply State.memOk_if | split | dsimp only | simp only [State.memOk_mk]

theorem State.winDone_mem (s : State) (page : Nat) (result : Nat) (index : Nat) (hm : s.memOk) : (State.winDone s page result index).memOk := by
  unfold State.winDone
  with_reducible repeat' first | assumption | apply State.wr_mem | dsimp only | simp only [State.memOk_mk]

theorem State.showWords_mem (s : State) (page : Nat) (e : List Nat) (hm : s.memOk) : (State.showWords s page e).memOk := by
  unfold State.showWords
  with_reducible repeat' first | assumption | intro _ | apply State.each_mem | apply State.wrI_mem | apply State.memOk_if | split | dsimp only

theorem State.readBad_mem (s : State) (page : Nat) (t : Nat) (i : Nat) (hm : s.memOk) : (State.readBad s page t i).memOk := by
  unfold State.readBad
  with_reducible repeat' first | assumption | intro _ | apply State.integErr_mem | apply State.parityBad_mem | apply State.showWords_mem | apply State.winDone_mem | apply State.memOk_if | dsimp only

theorem State.winExec_mem (s : State) (page : Nat) (o : WinOp) (parity : Bool) (hm : s.memOk) : (State.winExec s page o parity).memOk := by
  unfold State.winExec
  with_reducible repeat' first | assumption | intro _ | apply State.winDone_mem | apply State.readBad_mem | apply State.showWords_mem | apply State.setEntry_mem | apply State.parityBad_mem | apply State.memOk_if | split | dsimp only | simp only [State.memOk_mk]

theorem State.winStart_mem (s : State) (page : Nat) (op : Nat) (hm : s.memOk) : (State.winStart s page op).memOk := by
  unfold State.winStart
  with_reducible repeat' first | assumption | intro _ | apply State.wr_mem | apply State.memOk_if | split | dsimp only | simp only [State.memOk_mk]

theorem State.commitReq_mem (s : State) (w : Nat) (hm : s.memOk) : (State.commitReq s w).memOk := by
  unfold State.commitReq
  with_reducible repeat' first | assumption | intro _ | apply State.advance_mem | apply State.commitLearn_mem | apply State.event_mem | apply State.winExec_mem | apply State.commitFlush_mem | split | dsimp only | simp only [State.memOk_mk]

theorem execLearnCommit_mem (w : Nat) (s : State) (res : State) (h : execLearnCommit w s = .next res) (hm : s.memOk) : res.memOk := by
  unfold execLearnCommit done at h
  rw [← Host.Outcome.next.inj h]
  with_reducible repeat' first | assumption | apply State.commitReq_mem | apply State.settle_mem

theorem State.drainTo_mem (s : State) (w n : Nat) (hm : s.memOk) : (s.drainTo w n).memOk := by
  induction n generalizing s with
  | zero => exact hm
  | succ n ih => exact State.memOk_if _ _ _ (fun _ => hm) (fun _ => ih _ (State.commitReq_mem _ _ hm))

theorem execTblOpComplete_mem (page : Nat) (parity : Bool) (s : State) (res : State) (h : execTblOpComplete page parity s = .next res) (hm : s.memOk) :
    res.memOk := by
  unfold execTblOpComplete done at h
  rw [← Host.Outcome.next.inj h]
  with_reducible repeat' first | assumption | intro _ | apply State.settle_mem | apply State.drainTo_mem | apply State.winExec_mem | apply State.memOk_if | split

theorem State.showShadow_mem (s : State) (hm : s.memOk) : (State.showShadow s).memOk := by
  unfold State.showShadow
  with_reducible repeat' first | assumption | apply State.wr_mem

theorem State.startWriteCritical_mem (k : Cmd) (s : State) (hm : s.memOk) : (State.startWriteCritical k s).memOk := by
  unfold State.startWriteCritical
  with_reducible repeat' first | assumption | intro _ | apply State.fly_mem | apply State.finish_mem | apply State.setEntry_mem | apply State.showShadow_mem | apply State.memOk_if | split | dsimp only | simp only [State.memOk_mk]

theorem State.compare_mem (s : State) (tbl : Bool) (sh : Bool) (hm : s.memOk) : (State.compare s tbl sh).memOk := by
  unfold State.compare
  with_reducible repeat' first | assumption | intro _ | apply State.each_mem | apply State.inc_mem | apply State.wr_mem | apply State.raise_mem | apply State.setEntry_mem | apply State.raiseIf_mem | apply State.memOk_if | split | dsimp only | simp only [State.memOk_mk]

theorem execShadowCompare_mem (tbl : Bool) (sh : Bool) (s : State) (res : State) (h : execShadowCompare tbl sh s = .next res) (hm : s.memOk) : res.memOk := by
  unfold execShadowCompare done at h
  rw [← Host.Outcome.next.inj h]
  with_reducible repeat' first | assumption | apply State.compare_mem | apply State.settle_mem

theorem State.startFlush_mem (k : Cmd) (s : State) (hm : s.memOk) : (State.startFlush k s).memOk := by
  unfold State.startFlush
  with_reducible repeat' first | assumption | intro _ | apply State.fly_mem | apply State.finish_mem | apply State.each_mem | apply State.memOk_if | split | dsimp only | simp only [State.memOk_mk]

theorem State.startFence_mem (k : Cmd) (s : State) (hm : s.memOk) : (State.startFence k s).memOk := by
  unfold State.startFence
  with_reducible repeat' first | assumption | intro _ | apply State.fly_mem | apply State.finish_mem | apply State.memOk_if | dsimp only | simp only [State.memOk_mk]

theorem State.fenceDone_mem (s : State) (hm : s.memOk) : s.fenceDone.memOk := by
  unfold State.fenceDone
  with_reducible repeat' first | assumption | intro _ | apply State.finish_mem | apply State.foldl_mem | apply State.memOk_if | split | dsimp only | simp only [State.memOk_mk]

theorem execFenceComplete_mem (s : State) (res : State) (h : execFenceComplete s = .next res) (hm : s.memOk) : res.memOk := by
  unfold execFenceComplete done at h
  rw [← Host.Outcome.next.inj h]
  with_reducible repeat' first | assumption | apply State.fenceDone_mem | apply State.settle_mem

theorem State.setArmed_mem (s : State) (t : Nat) (c : Nat) (b : Bool) (hm : s.memOk) : (State.setArmed s t c b).memOk := by
  unfold State.setArmed
  with_reducible repeat' first | assumption | intro _ | apply State.onTdc_mem | apply State.wr_mem | split | dsimp only | simp only [State.memOk_mk]

theorem State.showFifo_mem (s : State) (t : Nat) (c : Nat) (hm : s.memOk) : (State.showFifo s t c).memOk := by
  unfold State.showFifo
  with_reducible repeat' first | assumption | apply State.wr_mem

theorem State.noteRef_mem (s : State) (t : Nat) (c : Nat) (raw : Nat) (hm : s.memOk) : (State.noteRef s t c raw).memOk := by
  unfold State.noteRef
  with_reducible repeat' first | assumption | intro _ | apply State.onTcu_mem | apply State.memOk_if | split | dsimp only | simp only [State.memOk_mk]

theorem State.tdcEdge_mem (s : State) (t : Nat) (c : Nat) (raw : Nat) (rising : Bool) (marker : Bool) (hm : s.memOk) : (State.tdcEdge s t c raw rising marker).memOk := by
  unfold State.tdcEdge
  with_reducible repeat' first | assumption | intro _ | apply State.inc_mem | apply State.raise_mem | apply State.onTdc_mem | apply State.noteRef_mem | apply State.showFifo_mem | apply State.setArmed_mem | apply State.memOk_if | split | dsimp only | simp only [State.memOk_mk]

theorem State.armInternal_mem (s : State) (t : Nat) (c : Nat) (k : Nat) (hm : s.memOk) : (State.armInternal s t c k).memOk := by
  unfold State.armInternal
  with_reducible repeat' first | assumption | intro _ | apply State.setArmed_mem | apply State.onTdc_mem | apply State.memOk_if | split | dsimp only | simp only [State.memOk_mk]

theorem State.hoopArms_mem (s : State) (t : Nat) (hm : s.memOk) : (State.hoopArms s t).memOk := by
  unfold State.hoopArms
  with_reducible repeat' first | assumption | intro _ | apply State.armInternal_mem | apply State.each_mem

theorem State.armAtCommitted_mem (s : State) (t : Nat) (c : Nat) (hm : s.memOk) : (State.armAtCommitted s t c).memOk := by
  unfold State.armAtCommitted
  with_reducible repeat' first | assumption | intro _ | apply State.armInternal_mem | apply State.onTdc_mem | apply State.memOk_if

theorem State.gateEdge_mem (s : State) (t : Nat) (n : Nat) (hm : s.memOk) : (State.gateEdge s t n).memOk := by
  unfold State.gateEdge
  with_reducible repeat' first | assumption | intro _ | apply State.setArmed_mem | apply State.memOk_if | dsimp only

theorem State.armWritten_mem (old : State) (t : Nat) (c : Nat) (s : State) (hm : s.memOk) : (State.armWritten old t c s).memOk := by
  unfold State.armWritten
  with_reducible repeat' first | assumption | intro _ | apply State.setArmed_mem | apply State.memOk_if | dsimp only

theorem State.setRes_mem (s : State) (p : Nat) (w : Cap) (hm : s.memOk) : (State.setRes s p w).memOk := by
  unfold State.setRes
  with_reducible repeat' first | assumption | apply State.wrI_mem

theorem State.loadRes_mem (s : State) (t : Nat) (c : Nat) (hm : s.memOk) : (State.loadRes s t c).memOk := by
  unfold State.loadRes
  with_reducible repeat' first | assumption | apply State.setRes_mem

theorem State.popRes_mem (s : State) (t : Nat) (c : Nat) (hm : s.memOk) : (State.popRes s t c).memOk := by
  unfold State.popRes
  with_reducible repeat' first | assumption | intro _ | apply State.showFifo_mem | apply State.onTdc_mem | split | dsimp only | simp only [State.memOk_mk]

theorem State.lineLost_mem (s : State) (t : Nat) (c : Nat) (m : Nat) (hm : s.memOk) : (State.lineLost s t c m).memOk := by
  unfold State.lineLost
  with_reducible repeat' first | assumption | intro _ | apply State.raise_mem | apply State.wr_mem | apply State.memOk_if | dsimp only

theorem State.tdcRunStart_mem (s : State) (t : Nat) (c : Nat) (hm : s.memOk) : (State.tdcRunStart s t c).memOk := by
  unfold State.tdcRunStart
  with_reducible repeat' first | assumption | intro _ | apply State.wr_mem | apply State.onTdc_mem | apply State.runStart_mem | split | dsimp only | simp only [State.memOk_mk]

theorem execTdcCalStart_mem (t : Nat) (s : State) (res : State) (h : execTdcCalStart t s = .next res) (hm : s.memOk) : res.memOk := by
  unfold execTdcCalStart done at h
  rw [← Host.Outcome.next.inj h]
  with_reducible repeat' first | assumption | apply State.tdcRunStart_mem | apply State.settle_mem | split | simp only [State.memOk_mk]

theorem execCalDeferTimeout_mem (t : Nat) (c : Nat) (s : State) (res : State) (h : execCalDeferTimeout t c s = .next res) (hm : s.memOk) : res.memOk := by
  unfold execCalDeferTimeout done at h
  rw [← Host.Outcome.next.inj h]
  with_reducible repeat' first | assumption | intro _ | apply State.tdcRunStart_mem | apply State.memOk_if | apply State.settle_mem

theorem State.linesFound_mem (s : State) (p : Nat) (lines : Nat) (hm : s.memOk) : (State.linesFound s p lines).memOk := by
  unfold State.linesFound
  with_reducible repeat' first | assumption | intro _ | apply State.wr_mem | apply State.raiseIf_mem | dsimp only

theorem State.tdcRunFail_mem (s : State) (p : Nat) (hm : s.memOk) : (State.tdcRunFail s p).memOk := by
  unfold State.tdcRunFail
  with_reducible repeat' first | assumption | intro _ | apply State.wearFail_mem | apply State.runFail_mem | apply State.foldl_mem | apply State.memOk_if | split | dsimp only

theorem execTdcCalEnd_mem (t : Nat) (c : Nat) (hist : List Nat) (lines : Nat) (res : Int) (s : State) (next : State) (h : execTdcCalEnd t c hist lines res s = .next next) (hm : s.memOk) : next.memOk := by
  unfold execTdcCalEnd done at h
  rw [← Host.Outcome.next.inj h]
  with_reducible repeat' first | assumption | intro _ | apply State.settle_mem | apply State.wr_mem | apply State.linesFound_mem | apply State.onTdc_mem | apply State.runOk_mem | apply State.tdcRunFail_mem | apply State.memOk_if | split | dsimp only | simp only [State.memOk_mk]

theorem State.takeTable_mem (s : State) (t : Nat) (c : Nat) (l : List Nat) (lat : Nat) (hm : s.memOk) : (State.takeTable s t c l lat).memOk := by
  unfold State.takeTable
  with_reducible repeat' first | assumption | intro _ | apply State.wr_mem | apply State.onTdc_mem | split | dsimp only | simp only [State.memOk_mk]

theorem State.takeNew_mem (s : State) (t : Nat) (c : Nat) (r : TdcRest) (hm : s.memOk) : (State.takeNew s t c r).memOk := by
  unfold State.takeNew
  with_reducible repeat' first | assumption | intro _ | apply State.takeTable_mem | apply State.onTdc_mem | split | dsimp only | simp only [State.memOk_mk]

theorem State.takeRest_mem (s : State) (t : Nat) (c : Nat) (r : TdcRest) (hm : s.memOk) : (State.takeRest s t c r).memOk := by
  unfold State.takeRest
  with_reducible repeat' first | assumption | intro _ | apply State.takeTable_mem | apply State.wr_mem | apply State.onTdc_mem | split | dsimp only | simp only [State.memOk_mk]

theorem execTdcCalInstall_mem (t : Nat) (c : Nat) (s : State) (res : State) (h : execTdcCalInstall t c s = .next res) (hm : s.memOk) : res.memOk := by
  unfold execTdcCalInstall done at h
  rw [← Host.Outcome.next.inj h]
  with_reducible repeat' first | assumption | intro _ | apply State.settle_mem | apply State.takeNew_mem | apply State.calRunDone_mem | apply State.takeRest_mem | apply State.memOk_if | split | dsimp only | simp only [State.memOk_mk]

theorem execGateInputEdge_mem (n : Nat) (level : Bool) (s : State) (res : State) (h : execGateInputEdge n level s = .next res) (hm : s.memOk) : res.memOk := by
  unfold execGateInputEdge done at h
  rw [← Host.Outcome.next.inj h]
  with_reducible repeat' first | assumption | intro _ | apply State.both_mem | apply State.gateEdge_mem | apply State.memOk_if | apply State.settle_mem | split | dsimp only | simp only [State.memOk_mk]

theorem execTdcArmAtReached_mem (t : Nat) (c : Nat) (s : State) (res : State) (h : execTdcArmAtReached t c s = .next res) (hm : s.memOk) : res.memOk := by
  unfold execTdcArmAtReached done at h
  rw [← Host.Outcome.next.inj h]
  with_reducible repeat' first | assumption | intro _ | apply State.settle_mem | apply State.advance_mem | apply State.onTdc_mem | apply State.armInternal_mem | apply State.memOk_if | split | dsimp only | simp only [State.memOk_mk]

theorem execTdcWindowExpiry_mem (t : Nat) (c : Nat) (s : State) (res : State) (h : execTdcWindowExpiry t c s = .next res) (hm : s.memOk) : res.memOk := by
  unfold execTdcWindowExpiry done at h
  rw [← Host.Outcome.next.inj h]
  with_reducible repeat' first | assumption | intro _ | apply State.settle_mem | apply State.advance_mem | apply State.setArmed_mem | apply State.memOk_if | split | dsimp only | simp only [State.memOk_mk]

theorem execLineLockLost_mem (t : Nat) (c : Nat) (line : Nat) (s : State) (res : State) (h : execLineLockLost t c line s = .next res) (hm : s.memOk) : res.memOk := by
  unfold execLineLockLost done at h
  rw [← Host.Outcome.next.inj h]
  with_reducible repeat' first | assumption | apply State.lineLost_mem | apply State.settle_mem

theorem State.showClaims_mem (s : State) (hm : s.memOk) : (State.showClaims s).memOk := by
  unfold State.showClaims
  with_reducible repeat' first | assumption | apply State.wr_mem

theorem State.showLockstep_mem (s : State) (hm : s.memOk) : (State.showLockstep s).memOk := by
  unfold State.showLockstep
  with_reducible repeat' first | assumption | intro _ | apply State.both_mem | apply State.wr_mem | split | dsimp only

theorem State.setPhase_mem (s : State) (x : Phase) (hm : s.memOk) : (State.setPhase s x).memOk := by
  unfold State.setPhase
  with_reducible repeat' first | assumption | intro _ | apply State.quietOuts_mem | apply State.wr_mem | apply State.refreshValid_mem | apply State.memOk_if | split | dsimp only | simp only [State.memOk_mk]

theorem State.setAlignErr_mem (s : State) (t : Nat) (align : Int) (hm : s.memOk) : (State.setAlignErr s t align).memOk := by
  unfold State.setAlignErr
  with_reducible repeat' first | assumption | intro _ | apply State.wr_mem | apply State.onTcu_mem | split | dsimp only | simp only [State.memOk_mk]

theorem State.showLinks_mem (s : State) (hm : s.memOk) : (State.showLinks s).memOk := by
  unfold State.showLinks
  with_reducible repeat' first | assumption | intro _ | apply State.both_mem | apply State.wr_mem | split | dsimp only

theorem State.enterLastResort_mem (s : State) (hm : s.memOk) : (State.enterLastResort s).memOk := by
  unfold State.enterLastResort
  with_reducible repeat' first | assumption | intro _ | apply State.wr_mem | apply State.showLinks_mem | apply State.showLockstep_mem | apply State.setPhase_mem | apply State.refreshValid_mem | apply State.touchAll_mem | apply State.memOk_if | dsimp only | simp only [State.memOk_mk]

theorem State.oscLoss_mem (s : State) (hm : s.memOk) : (State.oscLoss s).memOk := by
  unfold State.oscLoss
  with_reducible repeat' first | assumption | intro _ | apply State.both_mem | apply State.onTcu_mem | apply State.setPhase_mem | split | dsimp only | simp only [State.memOk_mk]

theorem State.leaveLastResort_mem (s : State) (hm : s.memOk) : (State.leaveLastResort s).memOk := by
  unfold State.leaveLastResort
  with_reducible repeat' first | assumption | intro _ | apply State.setPhase_mem | apply State.oscLoss_mem | apply State.endHolds_mem | apply State.touchAll_mem | apply State.memOk_if | dsimp only

theorem State.revertCheck_mem (s : State) (hm : s.memOk) : (State.revertCheck s).memOk := by
  unfold State.revertCheck
  with_reducible repeat' first | assumption | intro _ | apply State.memOk_if | dsimp only | simp only [State.memOk_mk]

theorem State.switchoverMoved_mem (s : State) (new : Nat) (cause : Nat) (hm : s.memOk) : (State.switchoverMoved s new cause).memOk := by
  unfold State.switchoverMoved
  with_reducible repeat' first | assumption | intro _ | apply State.finishSt_mem | apply State.memOk_if | split | simp only [State.memOk_mk]

theorem State.moveToken_mem (s : State) (new : Nat) (cause : Nat) (hm : s.memOk) : (State.moveToken s new cause).memOk := by
  unfold State.moveToken
  with_reducible repeat' first | assumption | intro _ | apply State.wr_mem | apply State.setTcuState_mem | apply State.onTcu_mem | apply State.switchoverMoved_mem | apply State.inc_mem | apply State.showClaims_mem | apply State.showLockstep_mem | apply State.revertCheck_mem | apply State.memOk_if | split | dsimp only | simp only [State.memOk_mk]

theorem State.beginResync_mem (s : State) (t : Nat) (wait : Bool) (hm : s.memOk) : (State.beginResync s t wait).memOk := by
  unfold State.beginResync
  with_reducible repeat' first | assumption | intro _ | apply State.setTcuState_mem | apply State.wr_mem | apply State.onTcu_mem | apply State.showLinks_mem | apply State.showClaims_mem | apply State.showLockstep_mem | apply State.revertCheck_mem | split | dsimp only | simp only [State.memOk_mk]

theorem State.failWaiting_mem (s : State) (t : Nat) (op : Nat) (hm : s.memOk) : (State.failWaiting s t op).memOk := by
  unfold State.failWaiting
  with_reducible repeat' first | assumption | intro _ | apply State.finishSt_mem | apply State.memOk_if | split | simp only [State.memOk_mk]

theorem State.fwStageDone_mem (s : State) (t : Nat) (hm : s.memOk) : (State.fwStageDone s t).memOk := by
  unfold State.fwStageDone
  with_reducible repeat' first | assumption | intro _ | apply State.finishSt_mem | apply State.memOk_if | split | simp only [State.memOk_mk]

theorem State.setLock_mem (s : State) (t : Nat) (b : Bool) (hm : s.memOk) : (State.setLock s t b).memOk := by
  unfold State.setLock
  with_reducible repeat' first | assumption | intro _ | apply State.wr_mem | apply State.memOk_if | dsimp only

theorem State.relock_mem (s : State) (t : Nat) (hm : s.memOk) : (State.relock s t).memOk := by
  unfold State.relock
  with_reducible repeat' first | assumption | apply State.wr_mem | apply State.setLock_mem

theorem State.lockLost_mem (s : State) (t : Nat) (hm : s.memOk) : (State.lockLost s t).memOk := by
  unfold State.lockLost
  with_reducible repeat' first | assumption | apply State.bump_mem | apply State.raise_mem | apply State.wr_mem | apply State.setLock_mem | simp only [State.memOk_mk]

theorem State.runCut_mem (s : State) (t : Nat) (hm : s.memOk) : (State.runCut s t).memOk := by
  unfold State.runCut
  with_reducible repeat' first | assumption | intro _ | apply State.runEnd_mem | apply State.calRunDone_mem | apply State.pllSkip_mem | apply State.memOk_if | dsimp only

theorem State.takeToken_mem (s : State) (t : Nat) (hm : s.memOk) : (State.takeToken s t).memOk := by
  unfold State.takeToken
  with_reducible repeat' first | assumption | intro _ | apply State.moveToken_mem | apply State.beginResync_mem | apply State.memOk_if | dsimp only

theorem State.takeFree_mem (s : State) (t : Nat) (hm : s.memOk) : (State.takeFree s t).memOk := by
  unfold State.takeFree
  with_reducible repeat' first | assumption | intro _ | apply State.takeToken_mem | apply State.memOk_if | dsimp only

theorem State.failFault_mem (s : State) (t : Nat) (code : Nat) (hm : s.memOk) : (State.failFault s t code).memOk := by
  unfold State.failFault
  with_reducible repeat' first | assumption | intro _ | apply State.setFault_mem | apply State.memOk_if | dsimp only

theorem State.failTcu_mem (s : State) (t : Nat) (code : Nat) (hm : s.memOk) : (State.failTcu s t code).memOk := by
  unfold State.failTcu
  with_reducible repeat' first | assumption | intro _ | apply State.setTcuState_mem | apply State.wr_mem | apply State.onTcu_mem | apply State.raiseIf_mem | apply State.lockLost_mem | apply State.failFault_mem | apply State.runCut_mem | apply State.showClaims_mem | apply State.showLockstep_mem | apply State.revertCheck_mem | apply State.failWaiting_mem | apply State.moveToken_mem | apply State.enterLastResort_mem | apply State.takeFree_mem | apply State.memOk_if | split | dsimp only | simp only [State.memOk_mk]

theorem State.copyFld_mem (s : State) (p : Nat) (q : Nat) (f : Fld) (hm : s.memOk) : (State.copyFld s p q f).memOk := by
  unfold State.copyFld
  with_reducible repeat' first | assumption | intro _ | apply State.wrI_mem | apply State.foldl_mem | split | dsimp only

theorem State.mirrorArmed_mem (s : State) (a : Nat) (b : Nat) (p : Nat) (hm : s.memOk) : (State.mirrorArmed s a b p).memOk := by
  unfold State.mirrorArmed
  with_reducible repeat' first | assumption | intro _ | apply State.copyFld_mem | apply State.foldl_mem | split | dsimp only | simp only [State.memOk_mk]

theorem State.mirrorTables_mem (s : State) (a b : Nat) (hm : s.memOk) : (s.mirrorTables a b).memOk :=
  ⟨hm.m1, hm.m2, hm.m3, canon_foldl_put _ _ _ _ _ (canon_filter _ _ _ hm.m4), canon_foldl_put _ _ _ _ _ (canon_filter _ _ _ hm.m5), hm.m6⟩

theorem State.mirrorShadow_mem (s : State) (a : Nat) (b : Nat) (hm : s.memOk) : (State.mirrorShadow s a b).memOk := by
  unfold State.mirrorShadow
  with_reducible repeat' first | assumption | intro _ | apply State.foldl_mem | split | dsimp only | simp only [State.memOk_mk]

theorem State.mirrorPages_mem (s : State) (a : Nat) (b : Nat) (hm : s.memOk) : (State.mirrorPages s a b).memOk := by
  unfold State.mirrorPages
  with_reducible repeat' first | assumption | intro _ | apply State.mirrorShadow_mem | apply State.mirrorArmed_mem | apply State.mirrorTables_mem | apply State.foldl_mem | apply State.memOk_if | split | dsimp only

theorem State.selChanged_mem (s : State) (t : Nat) (go : Bool) (hm : s.memOk) : (State.selChanged s t go).memOk := by
  unfold State.selChanged
  with_reducible repeat' first | assumption | intro _ | apply State.onTcu_mem | split | dsimp only | simp only [State.memOk_mk]

theorem State.mirrorRate_mem (s : State) (a : Nat) (b : Nat) (hm : s.memOk) : (State.mirrorRate s a b).memOk := by
  unfold State.mirrorRate
  with_reducible repeat' first | assumption | intro _ | apply State.onTcu_mem | apply State.copyFld_mem | apply State.setRatio_mem | apply State.memOk_if | split | dsimp only | simp only [State.memOk_mk]

theorem State.mirrorAll_mem (s : State) (a : Nat) (b : Nat) (hm : s.memOk) : (State.mirrorAll s a b).memOk := by
  unfold State.mirrorAll
  with_reducible repeat' first | assumption | intro _ | apply State.onTcu_mem | apply State.copyFld_mem | apply State.mirrorRate_mem | apply State.selChanged_mem | apply State.foldl_mem | apply State.memOk_if | split | dsimp only | simp only [State.memOk_mk]

theorem State.alignDividers_mem (s : State) (a : Nat) (b : Nat) (hm : s.memOk) : (State.alignDividers s a b).memOk := by
  unfold State.alignDividers
  with_reducible repeat' first | assumption | intro _ | apply State.each_mem | apply State.onOutp_mem | split | dsimp only | simp only [State.memOk_mk]

theorem State.switchoverProceed_mem (s : State) (t : Nat) (hm : s.memOk) : (State.switchoverProceed s t).memOk := by
  unfold State.switchoverProceed
  with_reducible repeat' first | assumption | intro _ | apply State.moveToken_mem | apply State.memOk_if | split | simp only [State.memOk_mk]

theorem execResyncComplete_mem (t : Nat) (align : Int) (s : State) (res : State) (h : execResyncComplete t align s = .next res) (hm : s.memOk) : res.memOk := by
  unfold execResyncComplete done at h
  rw [← Host.Outcome.next.inj h]
  with_reducible repeat' first | assumption | intro _ | apply State.settle_mem | apply State.takeFree_mem | apply State.mirrorPages_mem | apply State.mirrorAll_mem | apply State.alignDividers_mem | apply State.setAlignErr_mem | apply State.wr_mem | apply State.raise_mem | apply State.setTcuState_mem | apply State.showLockstep_mem | apply State.revertCheck_mem | apply State.fwStageDone_mem | apply State.switchoverProceed_mem | apply State.memOk_if | dsimp only

theorem execResyncTimeout_mem (t : Nat) (s : State) (res : State) (h : execResyncTimeout t s = .next res) (hm : s.memOk) : res.memOk := by
  unfold execResyncTimeout done at h
  rw [← Host.Outcome.next.inj h]
  with_reducible repeat' first | assumption | intro _ | apply State.settle_mem | apply State.finishSt_mem | apply State.onTcu_mem | apply State.failTcu_mem | apply State.memOk_if | split | dsimp only | simp only [State.memOk_mk]

theorem execFailedRetryExpiry_mem (t : Nat) (s : State) (res : State) (h : execFailedRetryExpiry t s = .next res) (hm : s.memOk) : res.memOk := by
  unfold execFailedRetryExpiry done at h
  rw [← Host.Outcome.next.inj h]
  with_reducible repeat' first | assumption | intro _ | apply State.settle_mem | apply State.takeFree_mem | apply State.beginResync_mem | apply State.memOk_if | dsimp only

theorem execFailCauseGone_mem (t : Nat) (s : State) (res : State) (h : execFailCauseGone t s = .next res) (hm : s.memOk) : res.memOk := by
  unfold execFailCauseGone done at h
  rw [← Host.Outcome.next.inj h]
  with_reducible repeat' first | assumption | intro _ | apply State.settle_mem | apply State.onTcu_mem | apply State.relock_mem | apply State.beginResync_mem | apply State.takeFree_mem | apply State.memOk_if | split | dsimp only | simp only [State.memOk_mk]

theorem execFirstTokenGrant_mem (tenMs : Bool) (s : State) (res : State) (h : execFirstTokenGrant tenMs s = .next res) (hm : s.memOk) : res.memOk := by
  unfold execFirstTokenGrant done at h
  rw [← Host.Outcome.next.inj h]
  with_reducible repeat' first | assumption | intro _ | apply State.takeToken_mem | apply State.memOk_if | apply State.settle_mem | dsimp only

theorem State.reportMove_mem (s : State) (old : Option Nat) (new : Nat) (hm : s.memOk) : (State.reportMove s old new).memOk := by
  unfold State.reportMove
  with_reducible repeat' first | assumption | intro _ | apply State.raise_mem | apply State.raiseIf_mem | apply State.bcast_mem | split | dsimp only | simp only [State.memOk_mk]

theorem State.switchEpoch_mem (s : State) (hm : s.memOk) : (State.switchEpoch s).memOk := by
  unfold State.switchEpoch
  with_reducible repeat' first | assumption | intro _ | apply State.wr_mem | apply State.reportMove_mem | apply State.setAlignErr_mem | apply State.showLinks_mem | apply State.leaveLastResort_mem | apply State.refreshValid_mem | apply State.finishSt_mem | apply State.foldl_mem | apply State.memOk_if | split | dsimp only | simp only [State.memOk_mk]

theorem State.lockstepLost_mem (s : State) (hm : s.memOk) : (State.lockstepLost s).memOk := by
  unfold State.lockstepLost
  with_reducible repeat' first | assumption | intro _ | apply State.raise_mem | apply State.wr_mem | apply State.beginResync_mem | apply State.onTcu_mem | apply State.memOk_if | split | dsimp only | simp only [State.memOk_mk]

theorem execLockstepLost_mem (s : State) (res : State) (h : execLockstepLost s = .next res) (hm : s.memOk) : res.memOk := by
  unfold execLockstepLost done at h
  rw [← Host.Outcome.next.inj h]
  with_reducible repeat' first | assumption | apply State.lockstepLost_mem | apply State.settle_mem

theorem execRevertHoldoffExpiry_mem (s : State) (res : State) (h : execRevertHoldoffExpiry s = .next res) (hm : s.memOk) : res.memOk := by
  unfold execRevertHoldoffExpiry done at h
  rw [← Host.Outcome.next.inj h]
  with_reducible repeat' first | assumption | intro _ | apply State.settle_mem | apply State.advance_mem | apply State.moveToken_mem | apply State.memOk_if | dsimp only

theorem State.dualClaim_mem (s : State) (hm : s.memOk) : (State.dualClaim s).memOk := by
  unfold State.dualClaim
  with_reducible repeat' first | assumption | intro _ | apply State.raise_mem | apply State.beginResync_mem | apply State.wr_mem | apply State.moveToken_mem | apply State.memOk_if | dsimp only

theorem execDualClaim_mem (s : State) (res : State) (h : execDualClaim s = .next res) (hm : s.memOk) : res.memOk := by
  unfold execDualClaim done at h
  rw [← Host.Outcome.next.inj h]
  with_reducible repeat' first | assumption | intro _ | apply State.settle_mem | apply State.dualClaim_mem | dsimp only

theorem execTimeDisagree_mem (s : State) (res : State) (h : execTimeDisagree s = .next res) (hm : s.memOk) : res.memOk := by
  unfold execTimeDisagree done at h
  rw [← Host.Outcome.next.inj h]
  with_reducible repeat' first | assumption | intro _ | apply State.raise_mem | apply State.memOk_if | apply State.settle_mem | simp only [State.memOk_mk]

theorem execTimeJudgement_mem (ms : List (Nat × Int × Int)) (s : State) (res : State) (h : execTimeJudgement ms s = .next res) (hm : s.memOk) : res.memOk := by
  unfold execTimeJudgement done at h
  rw [← Host.Outcome.next.inj h]
  with_reducible repeat' first | assumption | intro _ | apply State.wr_mem | apply State.beginResync_mem | apply State.raise_mem | apply State.moveToken_mem | apply State.memOk_if | apply State.settle_mem | split | dsimp only | simp only [State.memOk_mk]

theorem execStandbyTcuFailure_mem (t : Nat) (code : Nat) (s : State) (res : State) (h : execStandbyTcuFailure t code s = .next res) (hm : s.memOk) : res.memOk := by
  unfold execStandbyTcuFailure done at h
  rw [← Host.Outcome.next.inj h]
  with_reducible repeat' first | assumption | intro _ | apply State.settle_mem | apply State.dualClaim_mem | apply State.failTcu_mem | apply State.memOk_if | dsimp only

theorem execStandbyReadyAfterAbandon_mem (t : Nat) (s : State) (res : State) (h : execStandbyReadyAfterAbandon t s = .next res) (hm : s.memOk) : res.memOk := by
  unfold execStandbyReadyAfterAbandon done at h
  rw [← Host.Outcome.next.inj h]
  with_reducible repeat' first | assumption | intro _ | apply State.settle_mem | apply State.relock_mem | apply State.runEnd_mem | apply State.onTcu_mem | apply State.pllSkip_mem | apply State.finishOp_mem | apply State.finishSt_mem | apply State.takeToken_mem | apply State.memOk_if | split | dsimp only | simp only [State.memOk_mk]

theorem execMirrorCheckWordsResumed_mem (t : Nat) (s : State) (res : State) (h : execMirrorCheckWordsResumed t s = .next res) (hm : s.memOk) : res.memOk := by
  unfold execMirrorCheckWordsResumed done at h
  rw [← Host.Outcome.next.inj h]
  with_reducible repeat' first | assumption | intro _ | apply State.settle_mem | apply State.wr_mem | apply State.beginResync_mem | apply State.memOk_if | dsimp only

theorem State.startSwitchover_mem (k : Cmd) (s : State) (hm : s.memOk) : (State.startSwitchover k s).memOk := by
  unfold State.startSwitchover
  with_reducible repeat' first | assumption | intro _ | apply State.finishSt_mem | apply State.fly_mem | apply State.moveToken_mem | apply State.memOk_if | dsimp only | simp only [State.memOk_mk]

theorem State.startFwStage_mem (k : Cmd) (s : State) (hm : s.memOk) : (State.startFwStage k s).memOk := by
  unfold State.startFwStage
  with_reducible repeat' first | assumption | intro _ | apply State.finishSt_mem | apply State.fly_mem | apply State.revertCheck_mem | apply State.showLockstep_mem | apply State.setTcuState_mem | apply State.memOk_if | dsimp only | simp only [State.memOk_mk]

theorem State.setFirm_mem (s : State) (t : Nat) (f : Firm) (hm : s.memOk) : (State.setFirm s t f).memOk := by
  unfold State.setFirm
  with_reducible repeat' first | assumption | intro _ | dsimp only | simp only [State.memOk_mk]

theorem State.showFirm_mem (s : State) (t : Nat) (hm : s.memOk) : (State.showFirm s t).memOk := by
  unfold State.showFirm
  with_reducible repeat' first | assumption | intro _ | apply State.wr_mem | dsimp only

theorem execTcuFwVerified_mem (signed : Bool) (version : Nat) (fmt : Nat) (s : State) (res : State) (h : execTcuFwVerified signed version fmt s = .next res) (hm : s.memOk) : res.memOk := by
  unfold execTcuFwVerified done at h
  rw [← Host.Outcome.next.inj h]
  with_reducible repeat' first | assumption | intro _ | apply State.settle_mem | apply State.setFirm_mem | apply State.showFirm_mem | apply State.beginResync_mem | apply State.onCmd_mem | apply State.finish_mem | apply State.finishSt_mem | apply State.memOk_if | split | dsimp only | simp only [State.memOk_mk]

theorem State.takePll_mem (s : State) (t : Nat) (r : Nat × Nat × Int × Nat) (hm : s.memOk) : (State.takePll s t r).memOk := by
  unfold State.takePll
  with_reducible repeat' first | assumption | intro _ | apply State.wr_mem | apply State.onTcu_mem | split | dsimp only | simp only [State.memOk_mk]

theorem State.pllRestore_mem (s : State) (t : Nat) (hm : s.memOk) : (State.pllRestore s t).memOk := by
  unfold State.pllRestore
  with_reducible repeat' first | assumption | intro _ | apply State.onTcu_mem | apply State.takePll_mem | split | dsimp only | simp only [State.memOk_mk]

theorem State.pllStart_mem (s : State) (t : Nat) (hm : s.memOk) : (State.pllStart s t).memOk := by
  unfold State.pllStart
  with_reducible repeat' first | assumption | intro _ | apply State.wr_mem | apply State.runStart_mem | apply State.onTcu_mem | apply State.setLock_mem | apply State.revertCheck_mem | apply State.showLockstep_mem | apply State.setTcuState_mem | apply State.memOk_if | split | dsimp only | simp only [State.memOk_mk]

theorem State.synCtlWritten_mem (s : State) (t : Nat) (v : Nat) (hm : s.memOk) : (State.synCtlWritten s t v).memOk := by
  unfold State.synCtlWritten
  with_reducible repeat' first | assumption | intro _ | apply State.raise_mem | apply State.pllStart_mem | apply State.onTcu_mem | apply State.memOk_if | split | dsimp only | simp only [State.memOk_mk]

theorem execPllCalStart_mem (t : Nat) (s : State) (res : State) (h : execPllCalStart t s = .next res) (hm : s.memOk) : res.memOk := by
  unfold execPllCalStart done at h
  rw [← Host.Outcome.next.inj h]
  with_reducible repeat' first | assumption | apply State.pllStart_mem | apply State.settle_mem

theorem State.pllLocked_mem (s : State) (t : Nat) (band : Nat) (vtune : Nat) (hm : s.memOk) : (State.pllLocked s t band vtune).memOk := by
  unfold State.pllLocked
  with_reducible repeat' first | assumption | intro _ | apply State.setLock_mem | apply State.wr_mem | apply State.setRatio_mem | apply State.onTcu_mem | apply State.runOk_mem | apply State.calRunDone_mem | apply State.pllRestore_mem | split | dsimp only | simp only [State.memOk_mk]

theorem execPllCalEnd_mem (t : Nat) (locked : Option Int) (band : Nat) (vtune : Nat) (s : State) (res : State) (h : execPllCalEnd t locked band vtune s = .next res) (hm : s.memOk) : res.memOk := by
  unfold execPllCalEnd done at h
  rw [← Host.Outcome.next.inj h]
  with_reducible repeat' first | assumption | intro _ | apply State.settle_mem | apply State.runFail_mem | apply State.pllSkip_mem | apply State.failTcu_mem | apply State.pllLocked_mem | apply State.setAlignErr_mem | apply State.setTcuState_mem | apply State.showLockstep_mem | apply State.revertCheck_mem | apply State.switchoverProceed_mem | apply State.memOk_if | split | dsimp only | simp only [State.memOk_mk]

theorem execRefmulLocked_mem (t : Nat) (s : State) (res : State) (h : execRefmulLocked t s = .next res) (hm : s.memOk) : res.memOk := by
  unfold execRefmulLocked done at h
  rw [← Host.Outcome.next.inj h]
  with_reducible repeat' first | assumption | intro _ | apply State.wr_mem | apply State.memOk_if | apply State.settle_mem | dsimp only

theorem execBandFound_mem (t : Nat) (band : Nat) (vtune : Nat) (s : State) (res : State) (h : execBandFound t band vtune s = .next res) (hm : s.memOk) : res.memOk := by
  unfold execBandFound done at h
  rw [← Host.Outcome.next.inj h]
  with_reducible repeat' first | assumption | intro _ | apply State.settle_mem | apply State.takePll_mem | apply State.wr_mem | apply State.memOk_if | split | dsimp only | simp only [State.memOk_mk]

theorem execSynLocked_mem (t : Nat) (s : State) (res : State) (h : execSynLocked t s = .next res) (hm : s.memOk) : res.memOk := by
  unfold execSynLocked done at h
  rw [← Host.Outcome.next.inj h]
  with_reducible repeat' first | assumption | intro _ | apply State.settle_mem | apply State.setLock_mem | apply State.setRatio_mem | apply State.onTcu_mem | apply State.runOk_mem | apply State.memOk_if | split | dsimp only | simp only [State.memOk_mk]

theorem State.setDivider_mem (s : State) (t : Nat) (n : Nat) (x : Int) (k : Int) (hm : s.memOk) : (State.setDivider s t n x k).memOk := by
  unfold State.setDivider
  with_reducible repeat' first | assumption | intro _ | apply State.onOutp_mem | apply State.emit_mem | split | dsimp only | simp only [State.memOk_mk]

theorem execSyncRestart_mem (t : Nat) (s : State) (res : State) (h : execSyncRestart t s = .next res) (hm : s.memOk) : res.memOk := by
  unfold execSyncRestart done at h
  rw [← Host.Outcome.next.inj h]
  with_reducible repeat' first | assumption | intro _ | apply State.settle_mem | apply State.advance_mem | apply State.onTcu_mem | apply State.each_mem | apply State.setDivider_mem | apply State.wr_mem | apply State.raise_mem | apply State.memOk_if | split | dsimp only | simp only [State.memOk_mk]

theorem State.klOne_mem (s : State) (t : Nat) (n : Nat) (hm : s.memOk) : (State.klOne s t n).memOk := by
  unfold State.klOne
  with_reducible repeat' first | assumption | intro _ | apply State.onOutp_mem | split | dsimp only | simp only [State.memOk_mk]

theorem State.klRephase_mem (s : State) (t : Nat) (hm : s.memOk) : (State.klRephase s t).memOk := by
  unfold State.klRephase
  with_reducible repeat' first | assumption | intro _ | apply State.klOne_mem | apply State.foldl_mem | split | dsimp only

theorem State.klTake_mem (s : State) (t : Nat) (n : Nat) (x : Int) (hm : s.memOk) : (State.klTake s t n x).memOk := by
  unfold State.klTake
  with_reducible repeat' first | assumption | intro _ | apply State.onOutp_mem | apply State.emit_mem | apply State.raiseIf_mem | split | dsimp only | simp only [State.memOk_mk]

theorem State.syncEdge_mem (s : State) (t : Nat) (rising : Bool) (hm : s.memOk) : (State.syncEdge s t rising).memOk := by
  unfold State.syncEdge
  with_reducible repeat' first | assumption | intro _ | apply State.onTcu_mem | apply State.memOk_if | split | dsimp only | simp only [State.memOk_mk]

theorem execSyncInEdge_mem (rising : Bool) (s : State) (res : State) (h : execSyncInEdge rising s = .next res) (hm : s.memOk) : res.memOk := by
  unfold execSyncInEdge done at h
  rw [← Host.Outcome.next.inj h]
  with_reducible repeat' first | assumption | intro _ | apply State.both_mem | apply State.syncEdge_mem | apply State.settle_mem | split | dsimp only

theorem State.setSel_mem (s : State) (t : Nat) (x : Nat) (hm : s.memOk) : (State.setSel s t x).memOk := by
  unfold State.setSel
  with_reducible repeat' first | assumption | intro _ | apply State.wr_mem | apply State.onTcu_mem | apply State.memOk_if | split | dsimp only | simp only [State.memOk_mk]

theorem State.driveRate_mem (s : State) (t : Nat) (hm : s.memOk) : (State.driveRate s t).memOk := by
  unfold State.driveRate
  with_reducible repeat' first | assumption | intro _ | apply State.useHostRate_mem | apply State.steer_mem | apply State.setRateOne_mem | apply State.memOk_if | dsimp only

theorem State.setEst_mem (s : State) (t : Nat) (e : Int) (hm : s.memOk) : (State.setEst s t e).memOk := by
  unfold State.setEst
  with_reducible repeat' first | assumption | intro _ | apply State.onTcu_mem | apply State.wrWide_mem | split | dsimp only | simp only [State.memOk_mk]

theorem State.dropRem_mem (s : State) (t : Nat) (all : Bool) (hm : s.memOk) : (State.dropRem s t all).memOk := by
  unfold State.dropRem
  with_reducible repeat' first | assumption | intro _ | apply State.onTcu_mem | apply State.showRem_mem | apply State.memOk_if | split | dsimp only | simp only [State.memOk_mk]

theorem State.enterHoldover_mem (s : State) (t : Nat) (hm : s.memOk) : (State.enterHoldover s t).memOk := by
  unfold State.enterHoldover
  with_reducible repeat' first | assumption | intro _ | apply State.setEst_mem | apply State.steer_mem | apply State.onTcu_mem | apply State.dropRem_mem | apply State.wr_mem | apply State.wrS_mem | apply State.setSel_mem | apply State.raise_mem | apply State.raiseIf_mem | apply State.memOk_if | split | dsimp only | simp only [State.memOk_mk]

theorem State.exitHoldover_mem (s : State) (t : Nat) (hm : s.memOk) : (State.exitHoldover s t).memOk := by
  unfold State.exitHoldover
  with_reducible repeat' first | assumption | apply State.raise_mem | apply State.wr_mem | dsimp only

theorem State.showSel_mem (s : State) (t : Nat) (x : Option Nat) (hm : s.memOk) : (State.showSel s t x).memOk := by
  unfold State.showSel
  with_reducible repeat' first | assumption | intro _ | apply State.wr_mem | apply State.onTcu_mem | apply State.each_mem | apply State.memOk_if | split | dsimp only | simp only [State.memOk_mk]

theorem State.domainSelectEnds_mem (s : State) (r : Nat) (hm : s.memOk) : (State.domainSelectEnds s r).memOk := by
  unfold State.domainSelectEnds
  with_reducible repeat' first | assumption | apply State.finish_mem | split | simp only [State.memOk_mk]

theorem State.showNext_mem (s : State) (t : Nat) (new : Option Nat) (hm : s.memOk) : (State.showNext s t new).memOk := by
  unfold State.showNext
  with_reducible repeat' first | assumption | intro _ | apply State.wr_mem | apply State.memOk_if | split | dsimp only | simp only [State.memOk_mk]

theorem State.reselectOne_mem (s : State) (t : Nat) (hm : s.memOk) : (State.reselectOne s t).memOk := by
  unfold State.reselectOne
  with_reducible repeat' first | assumption | intro _ | apply State.showNext_mem | apply State.enterHoldover_mem | apply State.showSel_mem | apply State.raise_mem | apply State.onTcu_mem | apply State.selChanged_mem | apply State.domainSelectEnds_mem | apply State.exitHoldover_mem | apply State.steer_mem | apply State.setSel_mem | apply State.dropRem_mem | apply State.memOk_if | split | dsimp only | simp only [State.memOk_mk]

theorem State.mirrorSel_mem (s : State) (t : Nat) (hm : s.memOk) : (State.mirrorSel s t).memOk := by
  unfold State.mirrorSel
  with_reducible repeat' first | assumption | intro _ | apply State.mirrorAll_mem | apply State.memOk_if | dsimp only

theorem State.reselect_mem (s : State) (t : Nat) (hm : s.memOk) : (State.reselect s t).memOk := by
  unfold State.reselect
  with_reducible repeat' first | assumption | intro _ | apply State.mirrorSel_mem | apply State.reselectOne_mem | apply State.memOk_if

theorem State.setCand_mem (s : State) (t : Nat) (k : Nat) (x : Nat) (hm : s.memOk) : (State.setCand s t k x).memOk := by
  unfold State.setCand
  with_reducible repeat' first | assumption | intro _ | apply State.wr_mem | apply State.wrI_mem | apply State.memOk_if | dsimp only

theorem State.candChange_mem (s : State) (t : Nat) (hm : s.memOk) : (State.candChange s t).memOk := by
  unfold State.candChange
  with_reducible repeat' first | assumption | apply State.raise_mem

theorem State.agree_mem (s : State) (t : Nat) (i : Nat) (j : Nat) (hm : s.memOk) : (State.agree s t i j).memOk := by
  unfold State.agree
  with_reducible repeat' first | assumption | intro _ | apply State.onTcu_mem | apply State.wr_mem | split | dsimp only | simp only [State.memOk_mk]

theorem State.agreeAll_mem (s : State) (t : Nat) (k : Nat) (hm : s.memOk) : (State.agreeAll s t k).memOk := by
  unfold State.agreeAll
  with_reducible repeat' first | assumption | intro _ | apply State.each_mem | apply State.agree_mem | apply State.memOk_if | split | dsimp only

theorem State.disqualify_mem (s : State) (t : Nat) (k : Nat) (reason : Nat) (hm : s.memOk) : (State.disqualify s t k reason).memOk := by
  unfold State.disqualify
  with_reducible repeat' first | assumption | intro _ | apply State.wrI_mem | apply State.setCand_mem | apply State.candChange_mem | apply State.reselect_mem | apply State.agreeAll_mem | apply State.memOk_if | dsimp only

theorem State.synceCands_mem (s : State) (hm : s.memOk) : (State.synceCands s).memOk := by
  unfold State.synceCands
  with_reducible repeat' first | assumption | intro _ | apply State.both_mem | apply State.each_mem | apply State.disqualify_mem | apply State.onCand_mem | apply State.memOk_if | split | dsimp only | simp only [State.memOk_mk]

theorem State.startSoak_mem (s : State) (t : Nat) (k : Nat) (noWtr : Bool) (hm : s.memOk) : (State.startSoak s t k noWtr).memOk := by
  unfold State.startSoak
  with_reducible repeat' first | assumption | intro _ | apply State.setCand_mem | apply State.onCand_mem | apply State.wrI_mem | split | dsimp only | simp only [State.memOk_mk]

theorem State.takeParams_mem (s : State) (t : Nat) (k : Nat) (hm : s.memOk) : (State.takeParams s t k).memOk := by
  unfold State.takeParams
  with_reducible repeat' first | assumption | intro _ | apply State.onCand_mem | split | dsimp only | simp only [State.memOk_mk]

theorem State.freshEdges_mem (s : State) (t : Nat) (k : Nat) (hm : s.memOk) : (State.freshEdges s t k).memOk := by
  unfold State.freshEdges
  with_reducible repeat' first | assumption | intro _ | apply State.onCand_mem | split | dsimp only | simp only [State.memOk_mk]

theorem State.restartCand_mem (s : State) (t : Nat) (k : Nat) (hm : s.memOk) : (State.restartCand s t k).memOk := by
  unfold State.restartCand
  with_reducible repeat' first | assumption | intro _ | apply State.freshEdges_mem | apply State.startSoak_mem | apply State.candChange_mem | apply State.agreeAll_mem | apply State.reselect_mem | apply State.memOk_if | dsimp only

theorem State.qualify_mem (s : State) (t : Nat) (k : Nat) (hm : s.memOk) : (State.qualify s t k).memOk := by
  unfold State.qualify
  with_reducible repeat' first | assumption | intro _ | apply State.onCand_mem | apply State.setCand_mem | apply State.reselect_mem | apply State.candChange_mem | apply State.wrI_mem | split | dsimp only | simp only [State.memOk_mk]

theorem State.wtrDone_mem (s : State) (t : Nat) (k : Nat) (hm : s.memOk) : (State.wtrDone s t k).memOk := by
  unfold State.wtrDone
  with_reducible repeat' first | assumption | intro _ | apply State.qualify_mem | apply State.memOk_if

theorem State.soakDone_mem (s : State) (t : Nat) (k : Nat) (hm : s.memOk) : (State.soakDone s t k).memOk := by
  unfold State.soakDone
  with_reducible repeat' first | assumption | intro _ | apply State.qualify_mem | apply State.setCand_mem | apply State.wrI_mem | apply State.wtrDone_mem | apply State.mirrorSel_mem | apply State.memOk_if | dsimp only

theorem State.todAdvance_mem (s : State) (t : Nat) (k : Nat) (hm : s.memOk) : (State.todAdvance s t k).memOk := by
  unfold State.todAdvance
  with_reducible repeat' first | assumption | intro _ | apply State.wrWide_mem | apply State.memOk_if | dsimp only

theorem State.candEdge_mem (s : State) (t : Nat) (k : Nat) (x : Nat) (hm : s.memOk) : (State.candEdge s t k x).memOk := by
  unfold State.candEdge
  with_reducible repeat' first | assumption | intro _ | apply State.onCand_mem | apply State.todAdvance_mem | apply State.memOk_if | split | dsimp only | simp only [State.memOk_mk]

theorem execTdcCapture_mem (t : Nat) (c : Nat) (raw : Nat) (rising : Bool) (marker : Bool) (s : State) (res : State) (h : execTdcCapture t c raw rising marker s = .next res) (hm : s.memOk) : res.memOk := by
  unfold execTdcCapture done at h
  rw [← Host.Outcome.next.inj h]
  with_reducible repeat' first | assumption | intro _ | apply State.settle_mem | apply State.tdcEdge_mem | apply State.candEdge_mem | apply State.memOk_if | split | dsimp only | simp only [State.memOk_mk]

theorem State.candEval_mem (s : State) (t : Nat) (m : CandMeas) (hm : s.memOk) : (State.candEval s t m).memOk := by
  unfold State.candEval
  with_reducible repeat' first | assumption | intro _ | apply State.candEdge_mem | apply State.wrI_mem | apply State.onCand_mem | apply State.disqualify_mem | apply State.startSoak_mem | apply State.foldl_mem | apply State.memOk_if | split | dsimp only | simp only [State.memOk_mk]

theorem State.setPtpState_mem (s : State) (t : Nat) (i : Nat) (x : Nat) (reason : Nat) (timer : Nat) (hm : s.memOk) : (State.setPtpState s t i x reason timer).memOk := by
  unfold State.setPtpState
  with_reducible repeat' first | assumption | intro _ | apply State.wr_mem | apply State.raise_mem | apply State.reselect_mem | apply State.memOk_if | dsimp only

theorem State.onTrk_mem (s : State) (t : Nat) (i : Nat) (f : Trk → Trk) (hm : s.memOk) : (State.onTrk s t i f).memOk := by
  unfold State.onTrk
  with_reducible repeat' first | assumption | intro _ | apply State.onTcu_mem | split | dsimp only | simp only [State.memOk_mk]

theorem State.ptpSoak_mem (s : State) (t : Nat) (i : Nat) (hm : s.memOk) : (State.ptpSoak s t i).memOk := by
  unfold State.ptpSoak
  with_reducible repeat' first | assumption | intro _ | apply State.onTrk_mem | apply State.setPtpState_mem | split | dsimp only | simp only [State.memOk_mk]

theorem State.ptpEnWritten_mem (s : State) (t : Nat) (i : Nat) (hm : s.memOk) : (State.ptpEnWritten s t i).memOk := by
  unfold State.ptpEnWritten
  with_reducible repeat' first | assumption | intro _ | apply State.setPtpState_mem | apply State.ptpSoak_mem | apply State.memOk_if | dsimp only

theorem State.ptpEval_mem (s : State) (t : Nat) (i : Nat) (hm : s.memOk) : (State.ptpEval s t i).memOk := by
  unfold State.ptpEval
  with_reducible repeat' first | assumption | intro _ | apply State.ptpEnWritten_mem | apply State.ptpSoak_mem | apply State.setPtpState_mem | apply State.onTrk_mem | apply State.wr_mem | apply State.memOk_if | split | dsimp only | simp only [State.memOk_mk]

theorem State.estUpdate_mem (s : State) (t : Nat) (hm : s.memOk) : (State.estUpdate s t).memOk := by
  unfold State.estUpdate
  with_reducible repeat' first | assumption | intro _ | apply State.onTcu_mem | apply State.wr_mem | apply State.setEst_mem | apply State.memOk_if | split | dsimp only | simp only [State.memOk_mk]

theorem State.driftGuard_mem (s : State) (t : Nat) (hm : s.memOk) : (State.driftGuard s t).memOk := by
  unfold State.driftGuard
  with_reducible repeat' first | assumption | intro _ | apply State.onTcu_mem | apply State.steer_mem | apply State.raise_mem | apply State.disqualify_mem | apply State.setPtpState_mem | apply State.memOk_if | split | dsimp only | simp only [State.memOk_mk]

theorem State.disagreeCount_mem (s : State) (t : Nat) (hm : s.memOk) : (State.disagreeCount s t).memOk := by
  unfold State.disagreeCount
  with_reducible repeat' first | assumption | intro _ | apply State.each_mem | apply State.onTcu_mem | apply State.agree_mem | apply State.memOk_if | split | dsimp only | simp only [State.memOk_mk]

theorem execCandSecondEval_mem (t : Nat) (ms : List CandMeas) (s : State) (res : State) (h : execCandSecondEval t ms s = .next res) (hm : s.memOk) : res.memOk := by
  unfold execCandSecondEval done at h
  rw [← Host.Outcome.next.inj h]
  with_reducible repeat' first | assumption | intro _ | apply State.settle_mem | apply State.each_mem | apply State.takeParams_mem | apply State.candEval_mem | apply State.ptpEval_mem | apply State.estUpdate_mem | apply State.driftGuard_mem | apply State.disagreeCount_mem | apply State.reselect_mem | apply State.foldl_mem | apply State.memOk_if | split | dsimp only

theorem execCandLoss_mem (t : Nat) (k : Nat) (s : State) (res : State) (h : execCandLoss t k s = .next res) (hm : s.memOk) : res.memOk := by
  unfold execCandLoss done at h
  rw [← Host.Outcome.next.inj h]
  with_reducible repeat' first | assumption | intro _ | apply State.settle_mem | apply State.advance_mem | apply State.onCand_mem | apply State.disqualify_mem | apply State.memOk_if | split | dsimp only | simp only [State.memOk_mk]

theorem execCandSoakComplete_mem (t : Nat) (k : Nat) (s : State) (res : State) (h : execCandSoakComplete t k s = .next res) (hm : s.memOk) : res.memOk := by
  unfold execCandSoakComplete done at h
  rw [← Host.Outcome.next.inj h]
  with_reducible repeat' first | assumption | intro _ | apply State.soakDone_mem | apply State.memOk_if | apply State.settle_mem

theorem execCandWtrComplete_mem (t : Nat) (k : Nat) (s : State) (res : State) (h : execCandWtrComplete t k s = .next res) (hm : s.memOk) : res.memOk := by
  unfold execCandWtrComplete done at h
  rw [← Host.Outcome.next.inj h]
  with_reducible repeat' first | assumption | intro _ | apply State.wtrDone_mem | apply State.memOk_if | apply State.settle_mem

theorem execDisagreementDetected_mem (t : Nat) (a : Nat) (b : Nat) (s : State) (res : State) (h : execDisagreementDetected t a b s = .next res) (hm : s.memOk) : res.memOk := by
  unfold execDisagreementDetected done at h
  rw [← Host.Outcome.next.inj h]
  with_reducible repeat' first | assumption | intro _ | apply State.settle_mem | apply State.disqualify_mem | apply State.wr_mem | apply State.raiseIf_mem | apply State.onTcu_mem | apply State.reselect_mem | apply State.foldl_mem | apply State.memOk_if | split | dsimp only | simp only [State.memOk_mk]

theorem State.servoRate_mem (s : State) (t : Nat) (err : Int) (hm : s.memOk) : (State.servoRate s t err).memOk := by
  unfold State.servoRate
  with_reducible repeat' first | assumption | intro _ | apply State.bump_mem | apply State.onTcu_mem | apply State.steer_mem | apply State.memOk_if | split | dsimp only | simp only [State.memOk_mk]

theorem State.servoRemainder_mem (s : State) (t : Nat) (hm : s.memOk) : (State.servoRemainder s t).memOk := by
  unfold State.servoRemainder
  with_reducible repeat' first | assumption | intro _ | apply State.bump_mem | apply State.steer_mem | apply State.memOk_if | dsimp only

theorem State.noteError_mem (s : State) (t : Nat) (err : Int) (hm : s.memOk) : (State.noteError s t err).memOk := by
  unfold State.noteError
  with_reducible repeat' first | assumption | intro _ | apply State.onTcu_mem | apply State.memOk_if | split | dsimp only | simp only [State.memOk_mk]

theorem State.servo_mem (s : State) (t : Nat) (x : Int) (hm : s.memOk) : (State.servo s t x).memOk := by
  unfold State.servo
  with_reducible repeat' first | assumption | intro _ | apply State.servoRemainder_mem | apply State.onTcu_mem | apply State.wrSat_mem | apply State.raiseIf_mem | apply State.noteError_mem | apply State.onFollowers_mem | apply State.servoRate_mem | apply State.memOk_if | split | dsimp only | simp only [State.memOk_mk]

theorem execServoUpdate_mem (t : Nat) (x : Int) (s : State) (res : State) (h : execServoUpdate t x s = .next res) (hm : s.memOk) : res.memOk := by
  unfold execServoUpdate done at h
  rw [← Host.Outcome.next.inj h]
  with_reducible repeat' first | assumption | intro _ | apply State.settle_mem | apply State.servo_mem | apply State.mirrorSel_mem | apply State.wrSat_mem | apply State.memOk_if | split | dsimp only | simp only [State.memOk_mk]

theorem State.lock_mem (s : State) (t : Nat) (hm : s.memOk) : (State.lock s t).memOk := by
  unfold State.lock
  with_reducible repeat' first | assumption | intro _ | apply State.setSel_mem | apply State.raise_mem | apply State.onTcu_mem | apply State.domainSelectEnds_mem | apply State.mirrorSel_mem | apply State.both_mem | apply State.klRephase_mem | apply State.bump_mem | apply State.memOk_if | split | dsimp only | simp only [State.memOk_mk]

theorem execLockDeclared_mem (t : Nat) (s : State) (res : State) (h : execLockDeclared t s = .next res) (hm : s.memOk) : res.memOk := by
  unfold execLockDeclared done at h
  rw [← Host.Outcome.next.inj h]
  with_reducible repeat' first | assumption | intro _ | apply State.settle_mem | apply State.advance_mem | apply State.lock_mem | apply State.memOk_if | split | dsimp only | simp only [State.memOk_mk]

theorem State.slewEnds_mem (s : State) (t : Nat) (hm : s.memOk) : (State.slewEnds s t).memOk := by
  unfold State.slewEnds
  with_reducible repeat' first | assumption | intro _ | apply State.advance_mem | apply State.slewDone_mem | apply State.onFollowers_mem | apply State.steer_mem | apply State.mirrorSel_mem | apply State.memOk_if | split | dsimp only

theorem State.holdSecond_mem (s : State) (t : Nat) (hm : s.memOk) : (State.holdSecond s t).memOk := by
  unfold State.holdSecond
  with_reducible repeat' first | assumption | intro _ | apply State.inc_mem | apply State.onTcu_mem | apply State.wr_mem | apply State.raise_mem | apply State.quietOuts_mem | apply State.memOk_if | split | dsimp only | simp only [State.memOk_mk]

theorem execHoldoverSecond_mem (t : Nat) (s : State) (res : State) (h : execHoldoverSecond t s = .next res) (hm : s.memOk) : res.memOk := by
  unfold execHoldoverSecond done at h
  rw [← Host.Outcome.next.inj h]
  with_reducible repeat' first | assumption | intro _ | apply State.mirrorSel_mem | apply State.holdSecond_mem | apply State.memOk_if | apply State.settle_mem | dsimp only

theorem State.candOff_mem (s : State) (t : Nat) (k : Nat) (hm : s.memOk) : (State.candOff s t k).memOk := by
  unfold State.candOff
  with_reducible repeat' first | assumption | intro _ | apply State.setCand_mem | apply State.wrI_mem | apply State.candChange_mem | apply State.agreeAll_mem | apply State.reselect_mem | apply State.memOk_if | dsimp only

theorem State.candWritten_mem (old : State) (t : Nat) (k : Nat) (s : State) (hm : s.memOk) : (State.candWritten old t k s).memOk := by
  unfold State.candWritten
  with_reducible repeat' first | assumption | intro _ | apply State.freshEdges_mem | apply State.takeParams_mem | apply State.candOff_mem | apply State.mirrorSel_mem | apply State.startSoak_mem | apply State.restartCand_mem | apply State.memOk_if | dsimp only

theorem State.synceWritten_mem (old : State) (t : Nat) (s : State) (hm : s.memOk) : (State.synceWritten old t s).memOk := by
  unfold State.synceWritten
  with_reducible repeat' first | assumption | intro _ | apply State.each_mem | apply State.restartCand_mem | apply State.mirrorSel_mem | apply State.memOk_if | split | dsimp only

theorem State.startDomainSelect_mem (k : Cmd) (s : State) (hm : s.memOk) : (State.startDomainSelect k s).memOk := by
  unfold State.startDomainSelect
  with_reducible repeat' first | assumption | intro _ | apply State.fly_mem | apply State.finish_mem | apply State.finishSt_mem | apply State.onFollowers_mem | apply State.wr_mem | apply State.reselect_mem | apply State.memOk_if | split | dsimp only | simp only [State.memOk_mk]

theorem State.txRecord_mem (s : State) (i : Nat) (ws : List Nat) (hm : s.memOk) : (State.txRecord s i ws).memOk := by
  unfold State.txRecord
  with_reducible repeat' first | assumption | intro _ | apply State.both_mem | apply State.raise_mem | apply State.inc_mem | apply State.wr_mem | apply State.memOk_if | split | dsimp only | simp only [State.memOk_mk]

theorem State.dropTx_mem (s : State) (p : Nat) (hm : s.memOk) : (State.dropTx s p).memOk := by
  unfold State.dropTx
  with_reducible repeat' first | assumption | intro _ | apply State.copyLeaves_mem | apply State.onTx_mem | apply State.fenceFrame_mem | apply State.quietNow_mem | apply State.touchPort_mem | split | dsimp only | simp only [State.memOk_mk]

theorem State.patchTx_mem (s : State) (p : Nat) (i : Nat) (l : List Byte) (m : Msg1588) (ch : Changes) (hm : s.memOk) : (State.patchTx s p i l m ch).memOk := by
  unfold State.patchTx
  with_reducible repeat' first | assumption | intro _ | apply State.onTx_mem | apply State.ptpCause_mem | apply State.ptpCount_mem | apply State.dropTx_mem | apply State.memOk_if | split | dsimp only | simp only [State.memOk_mk]

theorem State.storeFu_mem (s : State) (port : Nat) (u : Fu) (hm : s.memOk) : (State.storeFu s port u).memOk := by
  unfold State.storeFu
  with_reducible repeat' first | assumption | intro _ | split | dsimp only | simp only [State.memOk_mk]

theorem State.trapOut_mem (s : State) (f : Nat) (i : Nat) (reason : Nat) (m : Msg1588) (hm : s.memOk) : (State.trapOut s f i reason m).memOk := by
  unfold State.trapOut
  with_reducible repeat' first | assumption | intro _ | apply State.onFrame_mem | apply State.trapToEngine_mem | apply State.ptpTrap_mem | apply State.memOk_if | split | dsimp only | simp only [State.memOk_mk]

theorem State.recordTx_mem (s : State) (port : Nat) (i : Nat) (m : Msg1588) (t : Int) (hm : s.memOk) : (State.recordTx s port i m t).memOk := by
  unfold State.recordTx
  with_reducible repeat' first | assumption | intro _ | apply State.txRecord_mem | apply State.memOk_if | dsimp only

theorem State.leaveOwn_mem (s : State) (port : Nat) (i : Nat) (r : List Byte) (l : List Byte) (m : Msg1588) (t : Int) (hm : s.memOk) : (State.leaveOwn s port i r l m t).memOk := by
  unfold State.leaveOwn
  with_reducible repeat' first | assumption | intro _ | apply State.ptpCount_mem | apply State.dropTx_mem | apply State.recordTx_mem | apply State.patchTx_mem | apply State.memOk_if | split | dsimp only | simp only [State.memOk_mk]

theorem State.leaveFwd_mem (s : State) (port : Nat) (i : Nat) (l : List Byte) (m : Msg1588) (t : Int) (q : PtpIn) (hm : s.memOk) : (State.leaveFwd s port i l m t q).memOk := by
  unfold State.leaveFwd
  with_reducible repeat' first | assumption | intro _ | apply State.ptpCount_mem | apply State.dropTx_mem | apply State.recordTx_mem | apply State.storeFu_mem | apply State.source_mem | apply State.patchTx_mem | apply State.ptpCause_mem | apply State.memOk_if | split | dsimp only | simp only [State.memOk_mk]

theorem State.leaveOther_mem (s : State) (port : Nat) (i : Nat) (f : Nat) (x : Frame) (l : List Byte) (m : Msg1588) (t : Int) (hm : s.memOk) : (State.leaveOther s port i f x l m t).memOk := by
  unfold State.leaveOther
  with_reducible repeat' first | assumption | intro _ | apply State.trapOut_mem | apply State.dropTx_mem | apply State.ptpCount_mem | apply State.leaveFwd_mem | apply State.recordTx_mem | apply State.memOk_if | split | dsimp only | simp only [State.memOk_mk]

theorem State.ptpTx_mem (s : State) (port : Nat) (tpcs : Int) (hm : s.memOk) : (State.ptpTx s port tpcs).memOk := by
  unfold State.ptpTx
  with_reducible repeat' first | assumption | intro _ | apply State.inc_mem | apply State.leaveOwn_mem | apply State.leaveOther_mem | apply State.memOk_if | split | dsimp only | simp only [State.memOk_mk]

theorem execPtpEventTx_mem (port : Nat) (tpcs : Int) (s : State) (res : State) (h : execPtpEventTx port tpcs s = .next res) (hm : s.memOk) : res.memOk := by
  unfold execPtpEventTx done at h
  rw [← Host.Outcome.next.inj h]
  with_reducible repeat' first | assumption | apply State.ptpTx_mem | apply State.settle_mem

theorem execFuEntryExpiry_mem (port : Nat) (s : State) (res : State) (h : execFuEntryExpiry port s = .next res) (hm : s.memOk) : res.memOk := by
  unfold execFuEntryExpiry done at h
  rw [← Host.Outcome.next.inj h]
  with_reducible repeat' first | assumption | intro _ | apply State.settle_mem | apply State.advance_mem | split | dsimp only | simp only [State.memOk_mk]

theorem State.txtsLoad_mem (s : State) (t : Nat) (i : Nat) (hm : s.memOk) : (State.txtsLoad s t i).memOk := by
  unfold State.txtsLoad
  with_reducible repeat' first | assumption | intro _ | apply State.each_mem | apply State.wrI_mem | split | dsimp only

theorem State.txtsPop_mem (s : State) (t : Nat) (i : Nat) (hm : s.memOk) : (State.txtsPop s t i).memOk := by
  unfold State.txtsPop
  with_reducible repeat' first | assumption | apply State.wr_mem | dsimp only | simp only [State.memOk_mk]

theorem State.trkClear_mem (s : State) (t : Nat) (i : Nat) (hm : s.memOk) : (State.trkClear s t i).memOk := by
  unfold State.trkClear
  with_reducible repeat' first | assumption | intro _ | apply State.wr_mem | apply State.onTrk_mem | split | dsimp only | simp only [State.memOk_mk]

theorem State.trkMode_mem (old : State) (t : Nat) (i : Nat) (s : State) (hm : s.memOk) : (State.trkMode old t i s).memOk := by
  unfold State.trkMode
  with_reducible repeat' first | assumption | intro _ | apply State.onTrk_mem | apply State.memOk_if | split | dsimp only | simp only [State.memOk_mk]

theorem State.smpPush_mem (s : State) (t : Nat) (i : Nat) (hm : s.memOk) : (State.smpPush s t i).memOk := by
  unfold State.smpPush
  with_reducible repeat' first | assumption | intro _ | apply State.wr_mem | apply State.raise_mem | apply State.onTrk_mem | apply State.mirrorSel_mem | apply State.setPtpState_mem | apply State.bump_mem | apply State.memOk_if | split | dsimp only | simp only [State.memOk_mk]

theorem State.snapTrk_mem (s : State) (t : Nat) (hm : s.memOk) : (State.snapTrk s t).memOk := by
  unfold State.snapTrk
  with_reducible repeat' first | assumption | intro _ | apply State.each_mem | apply State.wr_mem | apply State.memOk_if | split | dsimp only

theorem State.showDev_mem (s : State) (p : Nat) (d : Int) (hm : s.memOk) : (State.showDev s p d).memOk := by
  unfold State.showDev
  with_reducible repeat' first | assumption | intro _ | apply State.wrSat_mem | apply State.memOk_if | dsimp only

theorem State.ebRead_mem (s : State) (p : Nat) (hm : s.memOk) : (State.ebRead s p).memOk := by
  unfold State.ebRead
  with_reducible repeat' first | assumption | apply State.wr_mem | dsimp only

theorem State.rxStart_mem (s : State) (p : Nat) (f : Nat) (l : List Byte) (tpcs : Int) (start4 : Bool) (d : Int) (hm : s.memOk) : (State.rxStart s p f l tpcs start4 d).memOk := by
  unfold State.rxStart
  with_reducible repeat' first | assumption | intro _ | apply State.showDev_mem | apply State.setFrame_mem | apply State.grow_mem | apply State.touchAll_mem | apply State.memOk_if | dsimp only

theorem execFrameRxStart_mem (p : Nat) (f : Nat) (l : List Byte) (tpcs : Int) (start4 : Bool) (d : Int) (s : State) (res : State) (h : execFrameRxStart p f l tpcs start4 d s = .next res) (hm : s.memOk) : res.memOk := by
  unfold execFrameRxStart done at h
  rw [← Host.Outcome.next.inj h]
  with_reducible repeat' first | assumption | apply State.rxStart_mem | apply State.settle_mem

theorem execCellArrival_mem (f : Nat) (l : List Byte) (s : State) (res : State) (h : execCellArrival f l s = .next res) (hm : s.memOk) : res.memOk := by
  unfold execCellArrival done at h
  rw [← Host.Outcome.next.inj h]
  with_reducible repeat' first | assumption | intro _ | apply State.touchAll_mem | apply State.grow_mem | apply State.memOk_if | apply State.settle_mem

theorem State.countBad_mem (s : State) (p : Nat) (v : Verdict) (hm : s.memOk) : (State.countBad s p v).memOk := by
  unfold State.countBad
  with_reducible repeat' first | assumption | apply State.sticky_mem | apply State.inc_mem | split | simp only [State.memOk_mk]

theorem State.giveEngines_mem (s : State) (x : Frame) (hm : s.memOk) : (State.giveEngines s x).memOk := by
  unfold State.giveEngines
  with_reducible repeat' first | assumption | intro _ | apply State.trapToEngine_mem | apply State.foldl_mem | split | dsimp only

theorem State.pauseEnd_mem (s : State) (p : Nat) (hm : s.memOk) : (State.pauseEnd s p).memOk := by
  unfold State.pauseEnd
  with_reducible repeat' first | assumption | intro _ | apply State.touchPort_mem | apply State.onMac_mem | apply State.wr_mem | split | dsimp only | simp only [State.memOk_mk]

theorem State.pauseRx_mem (s : State) (p : Nat) (quanta : Nat) (hm : s.memOk) : (State.pauseRx s p quanta).memOk := by
  unfold State.pauseRx
  with_reducible repeat' first | assumption | intro _ | apply State.inc_mem | apply State.pauseEnd_mem | apply State.sticky_mem | apply State.wr_mem | apply State.touchPort_mem | apply State.onMac_mem | apply State.memOk_if | split | dsimp only | simp only [State.memOk_mk]

theorem State.macControl_mem (s : State) (p : Nat) (l : List Byte) (hm : s.memOk) : (State.macControl s p l).memOk := by
  unfold State.macControl
  with_reducible repeat' first | assumption | intro _ | apply State.sticky_mem | apply State.inc_mem | apply State.pauseRx_mem | apply State.memOk_if | split | dsimp only

theorem State.pauseFrame_mem (s : State) (p : Nat) (quanta : Nat) (hm : s.memOk) : (State.pauseFrame s p quanta).memOk := by
  unfold State.pauseFrame
  with_reducible repeat' first | assumption | intro _ | apply State.pauseRx_mem | apply State.onMac_mem | apply State.inc_mem | apply State.memOk_if | split | simp only [State.memOk_mk]

theorem execPauseRx_mem (p : Nat) (quanta : Nat) (s : State) (res : State) (h : execPauseRx p quanta s = .next res) (hm : s.memOk) : res.memOk := by
  unfold execPauseRx done at h
  rw [← Host.Outcome.next.inj h]
  with_reducible repeat' first | assumption | apply State.pauseFrame_mem | apply State.settle_mem

theorem State.countErrs_mem (s : State) (p : Nat) (errs : List Nat) (hm : s.memOk) : (State.countErrs s p errs).memOk := by
  unfold State.countErrs
  with_reducible repeat' first | assumption | intro _ | apply State.each_mem | apply State.addI_mem | apply State.memOk_if | split | dsimp only

theorem State.rxEnd_mem (s : State) (f : Nat) (errs : List Nat) (cut : Bool) (hm : s.memOk) : (State.rxEnd s f errs cut).memOk := by
  unfold State.rxEnd
  with_reducible repeat' first | assumption | intro _ | apply State.countErrs_mem | apply State.inc_mem | apply State.onMac_mem | apply State.macControl_mem | apply State.countBad_mem | apply State.freeFrame_mem | apply State.onFrame_mem | apply State.reap_mem | apply State.touchAll_mem | apply State.giveEngines_mem | apply State.memOk_if | split | dsimp only | simp only [State.memOk_mk]

theorem execFrameRxEnd_mem (f : Nat) (errs : List Nat) (cut : Bool) (s : State) (res : State) (h : execFrameRxEnd f errs cut s = .next res) (hm : s.memOk) : res.memOk := by
  unfold execFrameRxEnd done at h
  rw [← Host.Outcome.next.inj h]
  with_reducible repeat' first | assumption | intro _ | apply State.settle_mem | apply State.rxEnd_mem | dsimp only

theorem execPauseTimerExpiry_mem (p : Nat) (s : State) (res : State) (h : execPauseTimerExpiry p s = .next res) (hm : s.memOk) : res.memOk := by
  unfold execPauseTimerExpiry done at h
  rw [← Host.Outcome.next.inj h]
  with_reducible repeat' first | assumption | intro _ | apply State.pauseEnd_mem | apply State.advance_mem | apply State.memOk_if | apply State.settle_mem | dsimp only

theorem execPauseRefresh_mem (p : Nat) (s : State) (res : State) (h : execPauseRefresh p s = .next res) (hm : s.memOk) : res.memOk := by
  unfold execPauseRefresh done at h
  rw [← Host.Outcome.next.inj h]
  with_reducible repeat' first | assumption | intro _ | apply State.settle_mem | apply State.advance_mem | apply State.onMac_mem | apply State.memOk_if | split | dsimp only | simp only [State.memOk_mk]

theorem State.settlePause_mem (s : State) (p : Nat) (hm : s.memOk) : (State.settlePause s p).memOk := by
  unfold State.settlePause
  with_reducible repeat' first | assumption | intro _ | apply State.wr_mem | apply State.onMac_mem | apply State.memOk_if | split | dsimp only | simp only [State.memOk_mk]

theorem State.octetsRead_mem (s : State) (p : Nat) (tx : Bool) (hm : s.memOk) : (s.octetsRead p tx).2.memOk := by
  unfold State.octetsRead
  with_reducible repeat' first | assumption | intro _ | apply State.wr_mem | apply State.onMac_mem | apply State.memOk_if | split | dsimp only | simp only [State.memOk_mk]

theorem State.enter_mem (s : State) (d : TxDesc) (src : Nat) (f : Nat) (r : List Byte) (l : List Byte) (hm : s.memOk) : (State.enter s d src f r l).memOk := by
  unfold State.enter
  with_reducible repeat' first | assumption | intro _ | apply State.bump_mem | apply State.setFrame_mem | apply State.grow_mem | apply State.freeFrame_mem | apply State.onFrame_mem | apply State.memOk_if | split | dsimp only | simp only [State.memOk_mk]

theorem State.submit_mem (s : State) (src : Nat) (w2 : Nat) (w3 : Nat) (f : Nat) (l : List Byte) (hm : s.memOk) : (State.submit s src w2 w3 f l).memOk := by
  unfold State.submit
  with_reducible repeat' first | assumption | intro _ | apply State.txBad_mem | apply State.ptpCount_mem | apply State.enter_mem | apply State.sendDirect_mem | apply State.touchAll_mem | apply State.foldl_mem | apply State.memOk_if | split | dsimp only | simp only [State.memOk_mk]

theorem State.prodWritten_mem (old : State) (c : Nat) (prod : Fld) (cons : Fld) (size : Nat) (s : State) (hm : s.memOk) : (State.prodWritten old c prod cons size s).memOk := by
  unfold State.prodWritten
  with_reducible repeat' first | assumption | intro _ | apply State.raise_mem | apply State.wr_mem | apply State.memOk_if | dsimp only

theorem State.hostTx_mem (s : State) (src : Nat) (ds : List (List Nat)) (l : Option (List Byte)) (f : Nat) (hm : s.memOk) : (State.hostTx s src ds l f).memOk := by
  unfold State.hostTx
  with_reducible repeat' first | assumption | intro _ | apply State.submit_mem | apply State.raise_mem | apply State.wr_mem | apply State.txBad_mem | apply State.onHost_mem | apply State.memOk_if | split | dsimp only | simp only [State.memOk_mk]

theorem execHostTxFrame_mem (src : Nat) (ds : List (List Nat)) (l : Option (List Byte)) (f : Nat) (s : State) (res : State) (h : execHostTxFrame src ds l f s = .next res) (hm : s.memOk) : res.memOk := by
  unfold execHostTxFrame done at h
  rw [← Host.Outcome.next.inj h]
  with_reducible repeat' first | assumption | apply State.hostTx_mem | apply State.settle_mem

theorem State.txfWrite_mem (s : State) (c : Nat) (v : Nat) (hm : s.memOk) : (State.txfWrite s c v).memOk := by
  unfold State.txfWrite
  with_reducible repeat' first | assumption | intro _ | apply State.onHost_mem | apply State.txBad_mem | apply State.raise_mem | apply State.memOk_if | split | dsimp only | simp only [State.memOk_mk]

theorem State.inbandPacket_mem (s : State) (port : Nat) (sa : Nat) (l : List Byte) (hm : s.memOk) : (State.inbandPacket s port sa l).memOk := by
  unfold State.inbandPacket
  with_reducible repeat' first | assumption | intro _ | apply State.inc_mem | apply State.onHost_mem | apply State.memOk_if | split | dsimp only | simp only [State.memOk_mk]

theorem execInbandPacketRx_mem (port : Nat) (sa : Nat) (l : List Byte) (s : State) (res : State) (h : execInbandPacketRx port sa l s = .next res) (hm : s.memOk) : res.memOk := by
  unfold execInbandPacketRx done at h
  rw [← Host.Outcome.next.inj h]
  with_reducible repeat' first | assumption | apply State.inbandPacket_mem | apply State.settle_mem

theorem State.rxDrop_mem (s : State) (c : Nat) (hm : s.memOk) : (State.rxDrop s c).memOk := by
  unfold State.rxDrop
  with_reducible repeat' first | assumption | apply State.raise_mem | apply State.inc_mem

theorem State.giveHost_mem (s : State) (c : Nat) (k : HostCopy) (x : Frame) (hm : s.memOk) : (State.giveHost s c k x).memOk := by
  unfold State.giveHost
  with_reducible repeat' first | assumption | intro _ | apply State.rxDrop_mem | apply State.emit_mem | apply State.wr_mem | apply State.raise_mem | apply State.onHost_mem | apply State.inbandSend_mem | apply State.bump_mem | apply State.foldl_mem | apply State.memOk_if | split | dsimp only | simp only [State.memOk_mk]

theorem State.hostRx_mem (s : State) (c : Nat) (corr : List Nat) (bad : Option Nat) (hm : s.memOk) : (State.hostRx s c corr bad).memOk := by
  unfold State.hostRx
  with_reducible repeat' first | assumption | intro _ | apply State.onHost_mem | apply State.copyGone_mem | apply State.corrected_mem | apply State.uncorrectable_mem | apply State.hurtFrame_mem | apply State.rxDrop_mem | apply State.breakChain_mem | apply State.bump_mem | apply State.giveHost_mem | apply State.memOk_if | split | dsimp only | simp only [State.memOk_mk]

theorem execHostRxDelivery_mem (c : Nat) (corr : List Nat) (bad : Option Nat) (s : State) (res : State) (h : execHostRxDelivery c corr bad s = .next res) (hm : s.memOk) : res.memOk := by
  unfold execHostRxDelivery done at h
  rw [← Host.Outcome.next.inj h]
  with_reducible repeat' first | assumption | apply State.hostRx_mem | apply State.settle_mem

theorem State.rxfRead_mem (s : State) (c : Nat) (hm : s.memOk) : (s.rxfRead c).2.memOk := by
  unfold State.rxfRead
  with_reducible repeat' first | assumption | intro _ | apply State.onHost_mem | apply State.memOk_if | split | dsimp only | simp only [State.memOk_mk]

theorem State.packetReset_mem (s : State) (c : Nat) (hm : s.memOk) : (State.packetReset s c).memOk := by
  unfold State.packetReset
  with_reducible repeat' first | assumption | intro _ | apply State.wr_mem | apply State.foldl_mem | split | dsimp only

theorem State.voqLatch_mem (s : State) (hm : s.memOk) : (State.voqLatch s).memOk := by
  unfold State.voqLatch
  with_reducible repeat' first | assumption | apply State.wr_mem | split | dsimp only | simp only [State.memOk_mk]

theorem State.wipeVat_mem (s : State) (hm : s.memOk) : (State.wipeVat s).memOk := by
  unfold State.wipeVat
  with_reducible repeat' first | assumption | intro _ | apply State.each_mem | apply State.setCharge_mem | apply State.showPress_mem | split | dsimp only | simp only [State.memOk_mk]

theorem State.walkStart_mem (s : State) (reclaim : Bool) (periodic : Bool) (hm : s.memOk) : (State.walkStart s reclaim periodic).memOk := by
  unfold State.walkStart
  with_reducible repeat' first | assumption | intro _ | apply State.wr_mem | split | dsimp only | simp only [State.memOk_mk]

theorem State.startWheyAudit_mem (k : Cmd) (s : State) (hm : s.memOk) : (State.startWheyAudit k s).memOk := by
  unfold State.startWheyAudit
  with_reducible repeat' first | assumption | apply State.walkStart_mem | apply State.fly_mem | split | simp only [State.memOk_mk]

theorem State.walkOver_mem (s : State) (hm : s.memOk) : (State.walkOver s).memOk := by
  unfold State.walkOver
  with_reducible repeat' first | assumption | intro _ | apply State.wr_mem | apply State.walkStart_mem | apply State.onCmd_mem | split | dsimp only | simp only [State.memOk_mk]

theorem State.walkEnd_mem (s : State) (hm : s.memOk) : (State.walkEnd s).memOk := by
  unfold State.walkEnd
  with_reducible repeat' first | assumption | intro _ | apply State.wr_mem | apply State.freeCell_mem | apply State.raise_mem | apply State.raiseIf_mem | apply State.finish_mem | apply State.walkOver_mem | apply State.foldl_mem | apply State.memOk_if | split | dsimp only | simp only [State.memOk_mk]

theorem execWheyWalkEnd_mem (s : State) (res : State) (h : execWheyWalkEnd s = .next res) (hm : s.memOk) : res.memOk := by
  unfold execWheyWalkEnd done at h
  rw [← Host.Outcome.next.inj h]
  with_reducible repeat' first | assumption | apply State.walkEnd_mem | apply State.settle_mem

theorem State.wheyWritten_mem (old : State) (s : State) (hm : s.memOk) : (State.wheyWritten old s).memOk := by
  unfold State.wheyWritten
  with_reducible repeat' first | assumption | intro _ | apply State.memOk_if | dsimp only | simp only [State.memOk_mk]

theorem execWheyPeriodicStart_mem (s : State) (res : State) (h : execWheyPeriodicStart s = .next res) (hm : s.memOk) : res.memOk := by
  unfold execWheyPeriodicStart done at h
  rw [← Host.Outcome.next.inj h]
  with_reducible repeat' first | assumption | intro _ | apply State.settle_mem | apply State.advance_mem | apply State.inc_mem | apply State.walkStart_mem | apply State.memOk_if | split | dsimp only | simp only [State.memOk_mk]

theorem State.onLane_mem (s : State) (p : Nat) (f : Lane → Lane) (hm : s.memOk) : (State.onLane s p f).memOk := by
  unfold State.onLane
  with_reducible repeat' first | assumption | simp only [State.memOk_mk]

theorem State.setLink_mem (s : State) (p : Nat) (x : Nat) (hm : s.memOk) : (State.setLink s p x).memOk := by
  unfold State.setLink
  with_reducible repeat' first | assumption | apply State.wr_mem

theorem State.setLat_mem (s : State) (p : Nat) (hm : s.memOk) : (State.setLat s p).memOk := by
  unfold State.setLat
  with_reducible repeat' first | assumption | intro _ | apply State.raiseIf_mem | apply State.wr_mem | apply State.memOk_if | dsimp only

theorem State.setMode_mem (s : State) (p : Nat) (x : Nat) (hm : s.memOk) : (State.setMode s p x).memOk := by
  unfold State.setMode
  with_reducible repeat' first | assumption | apply State.setLat_mem | apply State.wr_mem

theorem State.loadFir_mem (s : State) (p : Nat) (hm : s.memOk) : (State.loadFir s p).memOk := by
  unfold State.loadFir
  with_reducible repeat' first | assumption | apply State.wr_mem | dsimp only

theorem State.firWritten_mem (s : State) (p : Nat) (hm : s.memOk) : (State.firWritten s p).memOk := by
  unfold State.firWritten
  with_reducible repeat' first | assumption | intro _ | apply State.loadFir_mem | apply State.memOk_if

theorem State.openLane_mem (s : State) (p : Nat) (hm : s.memOk) : (State.openLane s p).memOk := by
  unfold State.openLane
  with_reducible repeat' first | assumption | intro _ | apply State.onLane_mem | split | dsimp only | simp only [State.memOk_mk]

theorem State.squelch_mem (s : State) (p : Nat) (hm : s.memOk) : (State.squelch s p).memOk := by
  unfold State.squelch
  with_reducible repeat' first | assumption | intro _ | apply State.onLane_mem | split | dsimp only | simp only [State.memOk_mk]

theorem State.unsquelch_mem (s : State) (p : Nat) (hm : s.memOk) : (State.unsquelch s p).memOk := by
  unfold State.unsquelch
  with_reducible repeat' first | assumption | intro _ | apply State.onLane_mem | split | dsimp only | simp only [State.memOk_mk]

theorem State.eyeEnd_mem (s : State) (p : Nat) (aborted : Bool) (hm : s.memOk) : (State.eyeEnd s p aborted).memOk := by
  unfold State.eyeEnd
  with_reducible repeat' first | assumption | apply State.wr_mem | apply State.raise_mem | dsimp only

theorem State.eyeBegin_mem (s : State) (p : Nat) (hm : s.memOk) : (State.eyeBegin s p).memOk := by
  unfold State.eyeBegin
  with_reducible repeat' first | assumption | intro _ | apply State.eyeEnd_mem | apply State.wr_mem | apply State.onLane_mem | apply State.memOk_if | split | dsimp only | simp only [State.memOk_mk]

theorem State.eyeStart_mem (s : State) (p : Nat) (hm : s.memOk) : (State.eyeStart s p).memOk := by
  unfold State.eyeStart
  with_reducible repeat' first | assumption | intro _ | apply State.wr_mem | apply State.eyeBegin_mem | apply State.memOk_if | dsimp only

theorem State.eyeResume_mem (s : State) (p : Nat) (hm : s.memOk) : (State.eyeResume s p).memOk := by
  unfold State.eyeResume
  with_reducible repeat' first | assumption | intro _ | apply State.eyeBegin_mem | apply State.memOk_if

theorem State.eyeLost_mem (s : State) (p : Nat) (hm : s.memOk) : (State.eyeLost s p).memOk := by
  unfold State.eyeLost
  with_reducible repeat' first | assumption | intro _ | apply State.eyeEnd_mem | apply State.memOk_if

theorem execEyeDone_mem (p : Nat) (errs : Nat) (s : State) (res : State) (h : execEyeDone p errs s = .next res) (hm : s.memOk) : res.memOk := by
  unfold execEyeDone done at h
  rw [← Host.Outcome.next.inj h]
  with_reducible repeat' first | assumption | intro _ | apply State.settle_mem | apply State.advance_mem | apply State.wr_mem | apply State.eyeEnd_mem | apply State.memOk_if | dsimp only

theorem State.lockClear_mem (s : State) (p : Nat) (hm : s.memOk) : (State.lockClear s p).memOk := by
  unfold State.lockClear
  with_reducible repeat' first | assumption | apply State.wr_mem | apply State.eyeLost_mem

theorem State.attempt_mem (s : State) (p : Nat) (hm : s.memOk) : (State.attempt s p).memOk := by
  unfold State.attempt
  with_reducible repeat' first | assumption | intro _ | apply State.unsquelch_mem | apply State.loadFir_mem | apply State.lockClear_mem | apply State.emit_mem | apply State.wr_mem | apply State.setLink_mem | dsimp only

theorem State.restoreAdv_mem (s : State) (p : Nat) (hm : s.memOk) : (State.restoreAdv s p).memOk := by
  unfold State.restoreAdv
  with_reducible repeat' first | assumption | intro _ | apply State.wr_mem | apply State.onLane_mem | split | dsimp only | simp only [State.memOk_mk]

theorem State.startAn_mem (s : State) (p : Nat) (hm : s.memOk) : (State.startAn s p).memOk := by
  unfold State.startAn
  with_reducible repeat' first | assumption | intro _ | apply State.onLane_mem | apply State.emit_mem | apply State.memOk_if | split | dsimp only | simp only [State.memOk_mk]

theorem State.startC37_mem (s : State) (p : Nat) (hm : s.memOk) : (State.startC37 s p).memOk := by
  unfold State.startC37
  with_reducible repeat' first | assumption | intro _ | apply State.onLane_mem | apply State.emit_mem | split | dsimp only | simp only [State.memOk_mk]

theorem State.restartAn_mem (s : State) (p : Nat) (hm : s.memOk) : (State.restartAn s p).memOk := by
  unfold State.restartAn
  with_reducible repeat' first | assumption | intro _ | apply State.restoreAdv_mem | apply State.unsquelch_mem | apply State.lockClear_mem | apply State.setMode_mem | apply State.startAn_mem | apply State.setLink_mem | dsimp only

theorem State.linkUp_mem (s : State) (p : Nat) (hm : s.memOk) : (State.linkUp s p).memOk := by
  unfold State.linkUp
  with_reducible repeat' first | assumption | intro _ | apply State.inbandDrop_mem | apply State.flushPort_mem | apply State.setLink_mem | apply State.raise_mem | apply State.onLane_mem | apply State.settlePause_mem | apply State.touchPort_mem | split | dsimp only | simp only [State.memOk_mk]

theorem State.lockCheck_mem (s : State) (p : Nat) (hm : s.memOk) : (State.lockCheck s p).memOk := by
  unfold State.lockCheck
  with_reducible repeat' first | assumption | intro _ | apply State.linkUp_mem | apply State.memOk_if | dsimp only

theorem State.putPattern_mem (s : State) (p : Nat) (hm : s.memOk) : (State.putPattern s p).memOk := by
  unfold State.putPattern
  with_reducible repeat' first | assumption | intro _ | apply State.emit_mem | apply State.memOk_if | dsimp only

theorem State.locking_mem (s : State) (p : Nat) (hm : s.memOk) : (State.locking s p).memOk := by
  unfold State.locking
  with_reducible repeat' first | assumption | intro _ | apply State.setLink_mem | apply State.putPattern_mem | apply State.lockCheck_mem | dsimp only

theorem State.patStop_mem (s : State) (p : Nat) (hm : s.memOk) : (State.patStop s p).memOk := by
  unfold State.patStop
  with_reducible repeat' first | assumption | intro _ | apply State.wr_mem | apply State.memOk_if | dsimp only | simp only [State.memOk_mk]

theorem State.patWritten_mem (old : State) (p : Nat) (s : State) (hm : s.memOk) : (State.patWritten old p s).memOk := by
  unfold State.patWritten
  with_reducible repeat' first | assumption | intro _ | apply State.wr_mem | apply State.putPattern_mem | apply State.memOk_if | dsimp only | simp only [State.memOk_mk]

theorem State.linkDown_mem (s : State) (p : Nat) (hm : s.memOk) : (State.linkDown s p).memOk := by
  unfold State.linkDown
  with_reducible repeat' first | assumption | intro _ | apply State.patStop_mem | apply State.txAbort_mem | apply State.gwDrop_mem | apply State.raise_mem | apply State.inc_mem | apply State.wr_mem | apply State.restartAn_mem | apply State.attempt_mem | apply State.squelch_mem | apply State.setLink_mem | apply State.startC37_mem | apply State.touchPort_mem | apply State.synceCands_mem | apply State.memOk_if | dsimp only

theorem State.enablePort_mem (s : State) (p : Nat) (mode : Nat) (test : Bool) (hm : s.memOk) : (State.enablePort s p mode test).memOk := by
  unfold State.enablePort
  with_reducible repeat' first | assumption | intro _ | apply State.openLane_mem | apply State.onLane_mem | apply State.restoreAdv_mem | apply State.wr_mem | apply State.setMode_mem | apply State.lockClear_mem | apply State.startAn_mem | apply State.setLink_mem | apply State.attempt_mem | apply State.startC37_mem | apply State.loadFir_mem | apply State.putPattern_mem | apply State.memOk_if | split | dsimp only | simp only [State.memOk_mk]

theorem State.startPortEnable_mem (k : Cmd) (s : State) (hm : s.memOk) : (State.startPortEnable k s).memOk := by
  unfold State.startPortEnable
  with_reducible repeat' first | assumption | intro _ | apply State.fly_mem | apply State.finishSt_mem | apply State.enablePort_mem | apply State.memOk_if | dsimp only

theorem State.showLp_mem (s : State) (p : Nat) (lp : Nat) (hm : s.memOk) : (State.showLp s p lp).memOk := by
  unfold State.showLp
  with_reducible repeat' first | assumption | intro _ | apply State.wr_mem | split | dsimp only

theorem State.anMode_mem (s : State) (p : Nat) (mode : Nat) (hm : s.memOk) : (State.anMode s p mode).memOk := by
  unfold State.anMode
  with_reducible repeat' first | assumption | intro _ | apply State.raise_mem | apply State.wr_mem | apply State.setMode_mem | apply State.locking_mem | apply State.onLane_mem | apply State.loadFir_mem | apply State.attempt_mem | apply State.memOk_if | split | dsimp only | simp only [State.memOk_mk]

theorem State.anResolved_mem (s : State) (p : Nat) (lp : Nat) (hm : s.memOk) : (State.anResolved s p lp).memOk := by
  unfold State.anResolved
  with_reducible repeat' first | assumption | intro _ | apply State.showLp_mem | apply State.emit_mem | apply State.restoreAdv_mem | apply State.startAn_mem | apply State.wr_mem | apply State.raise_mem | apply State.inc_mem | apply State.onLane_mem | apply State.anMode_mem | apply State.memOk_if | split | dsimp only | simp only [State.memOk_mk]

theorem execAnResolved_mem (p : Nat) (lp : Nat) (s : State) (res : State) (h : execAnResolved p lp s = .next res) (hm : s.memOk) : res.memOk := by
  unfold execAnResolved done at h
  rw [← Host.Outcome.next.inj h]
  with_reducible repeat' first | assumption | apply State.anResolved_mem | apply State.settle_mem

theorem execClause37LinkTimer_mem (p : Nat) (s : State) (res : State) (h : execClause37LinkTimer p s = .next res) (hm : s.memOk) : res.memOk := by
  unfold execClause37LinkTimer done at h
  rw [← Host.Outcome.next.inj h]
  with_reducible repeat' first | assumption | intro _ | apply State.lockCheck_mem | apply State.onLane_mem | apply State.wr_mem | apply State.memOk_if | apply State.settle_mem | split | dsimp only | simp only [State.memOk_mk]

theorem execClause37Complete_mem (p : Nat) (pause : Bool) (asm : Bool) (s : State) (res : State) (h : execClause37Complete p pause asm s = .next res) (hm : s.memOk) : res.memOk := by
  unfold execClause37Complete done at h
  rw [← Host.Outcome.next.inj h]
  with_reducible repeat' first | assumption | intro _ | apply State.wr_mem | apply State.raise_mem | apply State.lockCheck_mem | apply State.onLane_mem | apply State.memOk_if | apply State.settle_mem | split | dsimp only | simp only [State.memOk_mk]

theorem State.trainRequest_mem (s : State) (p : Nat) (kind : Nat) (pre : Nat) (main : Nat) (post : Nat) (hm : s.memOk) : (State.trainRequest s p kind pre main post).memOk := by
  unfold State.trainRequest
  with_reducible repeat' first | assumption | intro _ | apply State.wr_mem | apply State.emit_mem | apply State.loadFir_mem | apply State.memOk_if | split | dsimp only

theorem execTrainingRequest_mem (p : Nat) (kind : Nat) (pre : Nat) (main : Nat) (post : Nat) (s : State) (res : State) (h : execTrainingRequest p kind pre main post s = .next res) (hm : s.memOk) : res.memOk := by
  unfold execTrainingRequest done at h
  rw [← Host.Outcome.next.inj h]
  with_reducible repeat' first | assumption | apply State.trainRequest_mem | apply State.settle_mem

theorem execTrainingComplete_mem (p : Nat) (s : State) (res : State) (h : execTrainingComplete p s = .next res) (hm : s.memOk) : res.memOk := by
  unfold execTrainingComplete done at h
  rw [← Host.Outcome.next.inj h]
  with_reducible repeat' first | assumption | intro _ | apply State.locking_mem | apply State.memOk_if | apply State.settle_mem | dsimp only

theorem execMaxWaitExpiry_mem (p : Nat) (s : State) (res : State) (h : execMaxWaitExpiry p s = .next res) (hm : s.memOk) : res.memOk := by
  unfold execMaxWaitExpiry done at h
  rw [← Host.Outcome.next.inj h]
  with_reducible repeat' first | assumption | intro _ | apply State.settle_mem | apply State.inc_mem | apply State.raise_mem | apply State.restartAn_mem | apply State.onLane_mem | apply State.emit_mem | apply State.setLink_mem | apply State.memOk_if | split | dsimp only | simp only [State.memOk_mk]

theorem execBackoffExpiry_mem (p : Nat) (s : State) (res : State) (h : execBackoffExpiry p s = .next res) (hm : s.memOk) : res.memOk := by
  unfold execBackoffExpiry done at h
  rw [← Host.Outcome.next.inj h]
  with_reducible repeat' first | assumption | intro _ | apply State.settle_mem | apply State.advance_mem | apply State.attempt_mem | apply State.memOk_if | dsimp only

theorem execTrainingFrameLock_mem (p : Nat) (s : State) (res : State) (h : execTrainingFrameLock p s = .next res) (hm : s.memOk) : res.memOk := by
  unfold execTrainingFrameLock done at h
  rw [← Host.Outcome.next.inj h]
  with_reducible repeat' first | assumption | intro _ | apply State.attempt_mem | apply State.memOk_if | apply State.settle_mem | dsimp only

theorem execQuietExpiry_mem (p : Nat) (s : State) (res : State) (h : execQuietExpiry p s = .next res) (hm : s.memOk) : res.memOk := by
  unfold execQuietExpiry done at h
  rw [← Host.Outcome.next.inj h]
  with_reducible repeat' first | assumption | intro _ | apply State.settle_mem | apply State.restartAn_mem | apply State.unsquelch_mem | apply State.emit_mem | apply State.setLink_mem | apply State.memOk_if | dsimp only

theorem execSignalStable_mem (p : Nat) (s : State) (res : State) (h : execSignalStable p s = .next res) (hm : s.memOk) : res.memOk := by
  unfold execSignalStable done at h
  rw [← Host.Outcome.next.inj h]
  with_reducible repeat' first | assumption | intro _ | apply State.attempt_mem | apply State.memOk_if | apply State.settle_mem | dsimp only

theorem State.portLos_mem (s : State) (p : Nat) (seen : Bool) (hm : s.memOk) : (State.portLos s p seen).memOk := by
  unfold State.portLos
  with_reducible repeat' first | assumption | intro _ | apply State.setLink_mem | apply State.squelch_mem | apply State.memOk_if

theorem execLanePllLost_mem (p : Nat) (locked : Bool) (s : State) (res : State) (h : execLanePllLost p locked s = .next res) (hm : s.memOk) : res.memOk := by
  unfold execLanePllLost done at h
  rw [← Host.Outcome.next.inj h]
  with_reducible repeat' first | assumption | intro _ | apply State.raiseIf_mem | apply State.wr_mem | apply State.memOk_if | apply State.settle_mem | dsimp only

theorem State.showBusy_mem (s : State) (p : Nat) (hm : s.memOk) : (State.showBusy s p).memOk := by
  unfold State.showBusy
  with_reducible repeat' first | assumption | intro _ | apply State.wr_mem | split | dsimp only

theorem State.discardVoq_mem (s : State) (k : Cmd) (v : Nat) (hm : s.memOk) : (State.discardVoq s k v).memOk := by
  unfold State.discardVoq
  with_reducible repeat' first | assumption | intro _ | apply State.onCmd_mem | apply State.onVoq_mem | apply State.copyGone_mem | apply State.quietIf_mem | apply State.foldl_mem | apply State.memOk_if | split | dsimp only | simp only [State.memOk_mk]

theorem State.discardAll_mem (s : State) (k : Cmd) (hm : s.memOk) : (State.discardAll s k).memOk := by
  unfold State.discardAll
  with_reducible repeat' first | assumption | intro _ | apply State.touchPort_mem | apply State.discardVoq_mem | apply State.onCmd_mem | apply State.foldl_mem | split | dsimp only | simp only [State.memOk_mk]

theorem State.portDisabled_mem (s : State) (p : Nat) (hm : s.memOk) : (State.portDisabled s p).memOk := by
  unfold State.portDisabled
  with_reducible repeat' first | assumption | intro _ | apply State.patStop_mem | apply State.squelch_mem | apply State.lockClear_mem | apply State.setMode_mem | apply State.wr_mem | apply State.txAbort_mem | apply State.gwDrop_mem | apply State.setLink_mem | apply State.synceCands_mem | apply State.memOk_if | split | dsimp only

theorem State.drainDone_mem (s : State) (k : Cmd) (hm : s.memOk) : (State.drainDone s k).memOk := by
  unfold State.drainDone
  with_reducible repeat' first | assumption | intro _ | apply State.showBusy_mem | apply State.finish_mem | apply State.memOk_if

theorem State.drainCheck_mem (s : State) (k : Cmd) (hm : s.memOk) : (State.drainCheck s k).memOk := by
  unfold State.drainCheck
  with_reducible repeat' first | assumption | intro _ | apply State.drainDone_mem | apply State.portDisabled_mem | apply State.memOk_if

theorem State.startPortDisable_mem (k : Cmd) (s : State) (hm : s.memOk) : (State.startPortDisable k s).memOk := by
  unfold State.startPortDisable
  with_reducible repeat' first | assumption | intro _ | apply State.fly_mem | apply State.finishSt_mem | apply State.showBusy_mem | apply State.drainCheck_mem | apply State.discardAll_mem | apply State.memOk_if | dsimp only

theorem State.startQueueDisable_mem (k : Cmd) (s : State) (hm : s.memOk) : (State.startQueueDisable k s).memOk := by
  unfold State.startQueueDisable
  with_reducible repeat' first | assumption | intro _ | apply State.showBusy_mem | apply State.fly_mem | apply State.onVoq_mem | apply State.drainCheck_mem | apply State.discardAll_mem | apply State.foldl_mem | apply State.memOk_if | split | dsimp only | simp only [State.memOk_mk]

theorem State.startQueueEnable_mem (k : Cmd) (s : State) (hm : s.memOk) : (State.startQueueEnable k s).memOk := by
  unfold State.startQueueEnable
  with_reducible repeat' first | assumption | intro _ | apply State.finishSt_mem | apply State.onVoq_mem | apply State.fly_mem | apply State.foldl_mem | split | dsimp only | simp only [State.memOk_mk]

theorem State.onTrunk_mem (s : State) (n : Nat) (f : Trunk → Trunk) (hm : s.memOk) : (State.onTrunk s n f).memOk := by
  unfold State.onTrunk
  with_reducible repeat' first | assumption | simp only [State.memOk_mk]

theorem State.onNt_mem (s : State) (t : Nat) (n : Nat) (f : NtTime → NtTime) (hm : s.memOk) : (State.onNt s t n f).memOk := by
  unfold State.onNt
  with_reducible repeat' first | assumption | simp only [State.memOk_mk]

theorem State.setTstate_mem (s : State) (n : Nat) (x : Nat) (hm : s.memOk) : (State.setTstate s n x).memOk := by
  unfold State.setTstate
  with_reducible repeat' first | assumption | apply State.wr_mem

theorem State.lanes4_mem (s : State) (n : Nat) (f : Nat → State → State) (h : ∀ i a, a.memOk → (f i a).memOk) (hm : s.memOk) : (State.lanes4 s n f).memOk := by
  unfold State.lanes4
  with_reducible repeat' first | assumption | intro _ | apply State.each_mem | apply h | split | dsimp only

theorem State.badBlock_mem (s : State) (n : Nat) (hm : s.memOk) : (State.badBlock s n).memOk := by
  unfold State.badBlock
  with_reducible repeat' first | assumption | apply State.inc_mem

theorem State.showNt_mem (s : State) (n : Nat) (hm : s.memOk) : (State.showNt s n).memOk := by
  unfold State.showNt
  with_reducible repeat' first | assumption | intro _ | apply State.wr_mem | apply State.wrSat_mem | apply State.memOk_if | split | dsimp only | simp only [State.memOk_mk]

theorem State.judgeEst_mem (s : State) (t : Nat) (n : Nat) (hm : s.memOk) : (State.judgeEst s t n).memOk := by
  unfold State.judgeEst
  with_reducible repeat' first | assumption | intro _ | apply State.onNt_mem | apply State.raiseIf_mem | split | dsimp only | simp only [State.memOk_mk]

theorem State.estWritten_mem (s : State) (n : Nat) (hm : s.memOk) : (State.estWritten s n).memOk := by
  unfold State.estWritten
  with_reducible repeat' first | assumption | intro _ | apply State.showNt_mem | apply State.both_mem | apply State.judgeEst_mem | apply State.memOk_if | split | dsimp only

theorem State.addDelta_mem (s : State) (t : Nat) (n : Nat) (d : Int) (hm : s.memOk) : (State.addDelta s t n d).memOk := by
  unfold State.addDelta
  with_reducible repeat' first | assumption | intro _ | apply State.onNt_mem | apply State.judgeEst_mem | apply State.memOk_if | split | dsimp only | simp only [State.memOk_mk]

theorem State.pairUp_mem (s : State) (t : Nat) (n : Nat) (hm : s.memOk) : (State.pairUp s t n).memOk := by
  unfold State.pairUp
  with_reducible repeat' first | assumption | intro _ | apply State.addDelta_mem | apply State.onNt_mem | apply State.memOk_if | split | dsimp only | simp only [State.memOk_mk]

theorem State.trunkCands_mem (s : State) (n : Nat) (reason : Nat) (hm : s.memOk) : (State.trunkCands s n reason).memOk := by
  unfold State.trunkCands
  with_reducible repeat' first | assumption | intro _ | apply State.both_mem | apply State.each_mem | apply State.disqualify_mem | apply State.onCand_mem | apply State.memOk_if | split | dsimp only | simp only [State.memOk_mk]

theorem State.showFill_mem (s : State) (n : Nat) (lane : Nat) (hm : s.memOk) : (State.showFill s n lane).memOk := by
  unfold State.showFill
  with_reducible repeat' first | assumption | intro _ | apply State.wr_mem | dsimp only

theorem State.noteMark_mem (s : State) (n : Nat) (lane : Nat) (k : Nat) (tpcs : Int) (hm : s.memOk) : (State.noteMark s n lane k tpcs).memOk := by
  unfold State.noteMark
  with_reducible repeat' first | assumption | intro _ | apply State.onTrunk_mem | apply State.showFill_mem | apply State.both_mem | apply State.wrI_mem | apply State.memOk_if | split | dsimp only | simp only [State.memOk_mk]

theorem State.markerRx_mem (s : State) (n : Nat) (lane : Nat) (kind : Nat) (p : Nat) (tpcs : Int) (hm : s.memOk) : (State.markerRx s n lane kind p tpcs).memOk := by
  unfold State.markerRx
  with_reducible repeat' first | assumption | intro _ | apply State.badBlock_mem | apply State.noteMark_mem | apply State.onTrunk_mem | apply State.showNt_mem | apply State.both_mem | apply State.pairUp_mem | apply State.memOk_if | split | dsimp only | simp only [State.memOk_mk]

theorem execMarkerBlockRx_mem (n : Nat) (lane : Nat) (kind : Nat) (p : Nat) (tpcs : Int) (s : State) (res : State) (h : execMarkerBlockRx n lane kind p tpcs s = .next res) (hm : s.memOk) : res.memOk := by
  unfold execMarkerBlockRx done at h
  rw [← Host.Outcome.next.inj h]
  with_reducible repeat' first | assumption | apply State.markerRx_mem | apply State.settle_mem

theorem State.echoRx_mem (s : State) (n : Nat) (kind : Nat) (p : Nat) (hm : s.memOk) : (State.echoRx s n kind p).memOk := by
  unfold State.echoRx
  with_reducible repeat' first | assumption | intro _ | apply State.badBlock_mem | apply State.showNt_mem | apply State.both_mem | apply State.onTrunk_mem | apply State.judgeEst_mem | apply State.memOk_if | split | dsimp only | simp only [State.memOk_mk]

theorem execEchoRx_mem (n : Nat) (kind : Nat) (p : Nat) (s : State) (res : State) (h : execEchoRx n kind p s = .next res) (hm : s.memOk) : res.memOk := by
  unfold execEchoRx done at h
  rw [← Host.Outcome.next.inj h]
  with_reducible repeat' first | assumption | apply State.echoRx_mem | apply State.settle_mem

theorem State.timeRx_mem (s : State) (n : Nat) (kind : Nat) (p : Nat) (hm : s.memOk) : (State.timeRx s n kind p).memOk := by
  unfold State.timeRx
  with_reducible repeat' first | assumption | intro _ | apply State.badBlock_mem | apply State.onTrunk_mem | apply State.wr_mem | apply State.trunkCands_mem | apply State.memOk_if | split | dsimp only | simp only [State.memOk_mk]

theorem execTimeBlockRx_mem (n : Nat) (kind : Nat) (p : Nat) (s : State) (res : State) (h : execTimeBlockRx n kind p s = .next res) (hm : s.memOk) : res.memOk := by
  unfold execTimeBlockRx done at h
  rw [← Host.Outcome.next.inj h]
  with_reducible repeat' first | assumption | apply State.timeRx_mem | apply State.settle_mem

theorem execTimeBlockLoss_mem (n : Nat) (s : State) (res : State) (h : execTimeBlockLoss n s = .next res) (hm : s.memOk) : res.memOk := by
  unfold execTimeBlockLoss done at h
  rw [← Host.Outcome.next.inj h]
  with_reducible repeat' first | assumption | intro _ | apply State.trunkCands_mem | apply State.memOk_if | apply State.settle_mem | dsimp only

theorem State.markerSeen_mem (s : State) (t : Nat) (n : Nat) (m : Nat) (t3 : Int) (hm : s.memOk) : (State.markerSeen s t n m t3).memOk := by
  unfold State.markerSeen
  with_reducible repeat' first | assumption | intro _ | apply State.onNt_mem | apply State.pairUp_mem | apply State.onTrunk_mem | apply State.showNt_mem | apply State.memOk_if | split | dsimp only | simp only [State.memOk_mk]

theorem execEpochMarkerCapture_mem (t : Nat) (n : Nat) (raw : Nat) (marker : Bool) (m : Nat) (s : State) (res : State) (h : execEpochMarkerCapture t n raw marker m s = .next res) (hm : s.memOk) : res.memOk := by
  unfold execEpochMarkerCapture done at h
  rw [← Host.Outcome.next.inj h]
  with_reducible repeat' first | assumption | intro _ | apply State.markerSeen_mem | apply State.tdcEdge_mem | apply State.onNt_mem | apply State.memOk_if | apply State.settle_mem | split | dsimp only | simp only [State.memOk_mk]

theorem State.firstEnds_mem (s : State) (n : Nat) (r : Nat) (hm : s.memOk) : (State.firstEnds s n r).memOk := by
  unfold State.firstEnds
  with_reducible repeat' first | assumption | apply State.finishOp_mem

theorem State.trunkAttempt_mem (s : State) (n : Nat) (hm : s.memOk) : (State.trunkAttempt s n).memOk := by
  unfold State.trunkAttempt
  with_reducible repeat' first | assumption | intro _ | apply State.lanes4_mem | apply State.unsquelch_mem | apply State.loadFir_mem | apply State.lockClear_mem | apply State.emit_mem | apply State.setTstate_mem | split | dsimp only

theorem State.trunkFails_mem (s : State) (n : Nat) (cause : Nat) (hm : s.memOk) : (State.trunkFails s n cause).memOk := by
  unfold State.trunkFails
  with_reducible repeat' first | assumption | intro _ | apply State.wr_mem | apply State.raise_mem | apply State.onTrunk_mem | apply State.lanes4_mem | apply State.emit_mem | apply State.setTstate_mem | apply State.firstEnds_mem | split | dsimp only | simp only [State.memOk_mk]

theorem State.enableTrunk_mem (s : State) (n : Nat) (hm : s.memOk) : (State.enableTrunk s n).memOk := by
  unfold State.enableTrunk
  with_reducible repeat' first | assumption | intro _ | apply State.lanes4_mem | apply State.openLane_mem | apply State.showDev_mem | apply State.onTrunk_mem | apply State.wr_mem | apply State.trunkAttempt_mem | split | dsimp only

theorem State.startHello_mem (s : State) (n : Nat) (hm : s.memOk) : (State.startHello s n).memOk := by
  unfold State.startHello
  with_reducible repeat' first | assumption | intro _ | apply State.setTstate_mem | apply State.onTrunk_mem | split | dsimp only | simp only [State.memOk_mk]

theorem execTrunkTrainingComplete_mem (n : Nat) (s : State) (res : State) (h : execTrunkTrainingComplete n s = .next res) (hm : s.memOk) : res.memOk := by
  unfold execTrunkTrainingComplete done at h
  rw [← Host.Outcome.next.inj h]
  with_reducible repeat' first | assumption | intro _ | apply State.settle_mem | apply State.onTrunk_mem | apply State.each_mem | apply State.showFill_mem | apply State.setTstate_mem | apply State.memOk_if | split | dsimp only | simp only [State.memOk_mk]

theorem execTrunkMaxWaitExpiry_mem (n : Nat) (s : State) (res : State) (h : execTrunkMaxWaitExpiry n s = .next res) (hm : s.memOk) : res.memOk := by
  unfold execTrunkMaxWaitExpiry done at h
  rw [← Host.Outcome.next.inj h]
  with_reducible repeat' first | assumption | intro _ | apply State.trunkFails_mem | apply State.inc_mem | apply State.memOk_if | apply State.settle_mem | dsimp only

theorem execTrunkBackoffExpiry_mem (n : Nat) (s : State) (res : State) (h : execTrunkBackoffExpiry n s = .next res) (hm : s.memOk) : res.memOk := by
  unfold execTrunkBackoffExpiry done at h
  rw [← Host.Outcome.next.inj h]
  with_reducible repeat' first | assumption | intro _ | apply State.settle_mem | apply State.advance_mem | apply State.trunkAttempt_mem | apply State.memOk_if | dsimp only

theorem execTrunkFrameLock_mem (n : Nat) (s : State) (res : State) (h : execTrunkFrameLock n s = .next res) (hm : s.memOk) : res.memOk := by
  unfold execTrunkFrameLock done at h
  rw [← Host.Outcome.next.inj h]
  with_reducible repeat' first | assumption | intro _ | apply State.trunkAttempt_mem | apply State.memOk_if | apply State.settle_mem | dsimp only

theorem execTrunkQuietExpiry_mem (n : Nat) (s : State) (res : State) (h : execTrunkQuietExpiry n s = .next res) (hm : s.memOk) : res.memOk := by
  unfold execTrunkQuietExpiry done at h
  rw [← Host.Outcome.next.inj h]
  with_reducible repeat' first | assumption | intro _ | apply State.settle_mem | apply State.lanes4_mem | apply State.unsquelch_mem | apply State.emit_mem | apply State.setTstate_mem | apply State.memOk_if | split | dsimp only

theorem execTrunkSignalStable_mem (n : Nat) (s : State) (res : State) (h : execTrunkSignalStable n s = .next res) (hm : s.memOk) : res.memOk := by
  unfold execTrunkSignalStable done at h
  rw [← Host.Outcome.next.inj h]
  with_reducible repeat' first | assumption | intro _ | apply State.trunkAttempt_mem | apply State.memOk_if | apply State.settle_mem | split | dsimp only

theorem execTrunkAligned_mem (n : Nat) (skew : Nat) (s : State) (res : State) (h : execTrunkAligned n skew s = .next res) (hm : s.memOk) : res.memOk := by
  unfold execTrunkAligned done at h
  rw [← Host.Outcome.next.inj h]
  with_reducible repeat' first | assumption | intro _ | apply State.startHello_mem | apply State.wr_mem | apply State.memOk_if | apply State.settle_mem | dsimp only

theorem execTrunkAligningTimeout_mem (n : Nat) (s : State) (res : State) (h : execTrunkAligningTimeout n s = .next res) (hm : s.memOk) : res.memOk := by
  unfold execTrunkAligningTimeout done at h
  rw [← Host.Outcome.next.inj h]
  with_reducible repeat' first | assumption | intro _ | apply State.trunkFails_mem | apply State.inc_mem | apply State.memOk_if | apply State.settle_mem | dsimp only

theorem State.trunkDown_mem (s : State) (n : Nat) (hm : s.memOk) : (State.trunkDown s n).memOk := by
  unfold State.trunkDown
  with_reducible repeat' first | assumption | intro _ | apply State.raiseIf_mem | apply State.both_mem | apply State.onNt_mem | apply State.onTrunk_mem | apply State.wr_mem | apply State.trunkCands_mem | apply State.rxEnd_mem | apply State.txAbort_mem | apply State.foldl_mem | apply State.memOk_if | split | dsimp only | simp only [State.memOk_mk]

theorem State.trunkLost_mem (s : State) (n : Nat) (hm : s.memOk) : (State.trunkLost s n).memOk := by
  unfold State.trunkLost
  with_reducible repeat' first | assumption | intro _ | apply State.synceCands_mem | apply State.inc_mem | apply State.raise_mem | apply State.trunkDown_mem | apply State.trunkAttempt_mem | apply State.setTstate_mem | apply State.lanes4_mem | apply State.squelch_mem | apply State.touchPort_mem | apply State.memOk_if | split | dsimp only

theorem State.agreeHello_mem (s : State) (n : Nat) (h : Hello) (hm : s.memOk) : (State.agreeHello s n h).memOk := by
  unfold State.agreeHello
  with_reducible repeat' first | assumption | intro _ | apply State.wr_mem | apply State.raiseIf_mem | apply State.wrSat_mem | apply State.both_mem | apply State.onNt_mem | apply State.onTrunk_mem | apply State.flushPort_mem | apply State.raise_mem | apply State.setTstate_mem | apply State.firstEnds_mem | apply State.touchPort_mem | apply State.memOk_if | split | dsimp only | simp only [State.memOk_mk]

theorem State.helloRx_mem (s : State) (n : Nat) (lane : Nat) (kind : Nat) (p : Nat) (hm : s.memOk) : (State.helloRx s n lane kind p).memOk := by
  unfold State.helloRx
  with_reducible repeat' first | assumption | intro _ | apply State.badBlock_mem | apply State.trunkDown_mem | apply State.raise_mem | apply State.inc_mem | apply State.startHello_mem | apply State.touchPort_mem | apply State.trunkFails_mem | apply State.onTrunk_mem | apply State.agreeHello_mem | apply State.memOk_if | split | dsimp only | simp only [State.memOk_mk]

theorem execHelloRx_mem (n : Nat) (lane : Nat) (kind : Nat) (p : Nat) (s : State) (res : State) (h : execHelloRx n lane kind p s = .next res) (hm : s.memOk) : res.memOk := by
  unfold execHelloRx done at h
  rw [← Host.Outcome.next.inj h]
  with_reducible repeat' first | assumption | apply State.helloRx_mem | apply State.settle_mem

theorem execHelloTimeout_mem (n : Nat) (s : State) (res : State) (h : execHelloTimeout n s = .next res) (hm : s.memOk) : res.memOk := by
  unfold execHelloTimeout done at h
  rw [← Host.Outcome.next.inj h]
  with_reducible repeat' first | assumption | intro _ | apply State.trunkFails_mem | apply State.inc_mem | apply State.memOk_if | apply State.settle_mem | dsimp only

theorem execClause73PagesRx_mem (n : Nat) (s : State) (res : State) (h : execClause73PagesRx n s = .next res) (hm : s.memOk) : res.memOk := by
  unfold execClause73PagesRx done at h
  rw [← Host.Outcome.next.inj h]
  with_reducible repeat' first | assumption | intro _ | apply State.settle_mem | apply State.inc_mem | apply State.raise_mem | apply State.setTstate_mem | apply State.lanes4_mem | apply State.squelch_mem | apply State.enablePort_mem | apply State.firstEnds_mem | apply State.finishOp_mem | apply State.showBusy_mem | apply State.memOk_if | split | dsimp only

theorem execMarkerLoss_mem (n : Nat) (s : State) (res : State) (h : execMarkerLoss n s = .next res) (hm : s.memOk) : res.memOk := by
  unfold execMarkerLoss done at h
  rw [← Host.Outcome.next.inj h]
  with_reducible repeat' first | assumption | intro _ | apply State.trunkLost_mem | apply State.trunkCands_mem | apply State.memOk_if | apply State.settle_mem | dsimp only

theorem execRecentre_mem (n : Nat) (lane : Nat) (s : State) (res : State) (h : execRecentre n lane s = .next res) (hm : s.memOk) : res.memOk := by
  unfold execRecentre done at h
  rw [← Host.Outcome.next.inj h]
  with_reducible repeat' first | assumption | intro _ | apply State.settle_mem | apply State.onTrunk_mem | apply State.showFill_mem | apply State.inc_mem | apply State.raise_mem | apply State.memOk_if | split | dsimp only | simp only [State.memOk_mk]

theorem State.trunkOff_mem (s : State) (n : Nat) (hm : s.memOk) : (State.trunkOff s n).memOk := by
  unfold State.trunkOff
  with_reducible repeat' first | assumption | intro _ | apply State.synceCands_mem | apply State.inc_mem | apply State.trunkDown_mem | apply State.setTstate_mem | apply State.lanes4_mem | apply State.lockClear_mem | apply State.squelch_mem | apply State.memOk_if | split | dsimp only

theorem State.drainEnds_mem (s : State) (k : Cmd) (hm : s.memOk) : (State.drainEnds s k).memOk := by
  unfold State.drainEnds
  with_reducible repeat' first | assumption | intro _ | apply State.drainCheck_mem | apply State.drainDone_mem | apply State.trunkOff_mem | apply State.memOk_if

theorem State.startTrunkDisable_mem (k : Cmd) (s : State) (hm : s.memOk) : (State.startTrunkDisable k s).memOk := by
  unfold State.startTrunkDisable
  with_reducible repeat' first | assumption | intro _ | apply State.fly_mem | apply State.finishSt_mem | apply State.showBusy_mem | apply State.drainEnds_mem | apply State.discardAll_mem | apply State.memOk_if | dsimp only

theorem execDrainLimitExpiry_mem (op : Nat) (obj : Nat) (s : State) (res : State) (h : execDrainLimitExpiry op obj s = .next res) (hm : s.memOk) : res.memOk := by
  unfold execDrainLimitExpiry done at h
  rw [← Host.Outcome.next.inj h]
  with_reducible repeat' first | assumption | intro _ | apply State.settle_mem | apply State.toLimit_mem | apply State.discardAll_mem | apply State.drainEnds_mem | apply State.memOk_if | split | dsimp only | simp only [State.memOk_mk]

theorem execDrainComplete_mem (op : Nat) (obj : Nat) (s : State) (res : State) (h : execDrainComplete op obj s = .next res) (hm : s.memOk) : res.memOk := by
  unfold execDrainComplete done at h
  rw [← Host.Outcome.next.inj h]
  with_reducible repeat' first | assumption | intro _ | apply State.drainEnds_mem | apply State.memOk_if | apply State.settle_mem | split | simp only [State.memOk_mk]

theorem execLosDeclared_mem (p : Nat) (seen : Bool) (s : State) (res : State) (h : execLosDeclared p seen s = .next res) (hm : s.memOk) : res.memOk := by
  unfold execLosDeclared done at h
  rw [← Host.Outcome.next.inj h]
  with_reducible repeat' first | assumption | intro _ | apply State.raise_mem | apply State.inc_mem | apply State.wr_mem | apply State.firstEnds_mem | apply State.setTstate_mem | apply State.lanes4_mem | apply State.squelch_mem | apply State.portLos_mem | apply State.memOk_if | apply State.settle_mem | split | dsimp only

theorem execLosCleared_mem (p : Nat) (s : State) (res : State) (h : execLosCleared p s = .next res) (hm : s.memOk) : res.memOk := by
  unfold execLosCleared done at h
  rw [← Host.Outcome.next.inj h]
  with_reducible repeat' first | assumption | intro _ | apply State.wr_mem | apply State.memOk_if | apply State.settle_mem | dsimp only

theorem execBlockLockGained_mem (p : Nat) (s : State) (res : State) (h : execBlockLockGained p s = .next res) (hm : s.memOk) : res.memOk := by
  unfold execBlockLockGained done at h
  rw [← Host.Outcome.next.inj h]
  with_reducible repeat' first | assumption | intro _ | apply State.settle_mem | apply State.lock_mem | apply State.onTrunk_mem | apply State.showFill_mem | apply State.showDev_mem | apply State.wr_mem | apply State.lockCheck_mem | apply State.memOk_if | split | dsimp only | simp only [State.memOk_mk]

theorem execBlockLockLost_mem (p : Nat) (long : Bool) (sh : Nat) (s : State) (res : State) (h : execBlockLockLost p long sh s = .next res) (hm : s.memOk) : res.memOk := by
  unfold execBlockLockLost done at h
  rw [← Host.Outcome.next.inj h]
  with_reducible repeat' first | assumption | intro _ | apply State.synceCands_mem | apply State.eyeLost_mem | apply State.addI_mem | apply State.inc_mem | apply State.wr_mem | apply State.trunkLost_mem | apply State.linkDown_mem | apply State.memOk_if | apply State.settle_mem | dsimp only

theorem execHiBerSet_mem (p : Nat) (sh : Nat) (s : State) (res : State) (h : execHiBerSet p sh s = .next res) (hm : s.memOk) : res.memOk := by
  unfold execHiBerSet done at h
  rw [← Host.Outcome.next.inj h]
  with_reducible repeat' first | assumption | intro _ | apply State.wr_mem | apply State.addI_mem | apply State.raise_mem | apply State.inc_mem | apply State.trunkLost_mem | apply State.linkDown_mem | apply State.memOk_if | apply State.settle_mem | dsimp only

theorem State.cadBoth_mem (s : State) (f : Nat → State → State) (h : ∀ i a, a.memOk → (f i a).memOk) (hm : s.memOk) : (State.cadBoth s f).memOk := by
  unfold State.cadBoth
  with_reducible repeat' first | assumption | intro _ | apply State.both_mem | apply State.each_mem | apply h | apply State.memOk_if | split | dsimp only

theorem State.cadCount_mem (s : State) (f : Fld) (n : Nat) (hm : s.memOk) : (State.cadCount s f n).memOk := by
  unfold State.cadCount
  with_reducible repeat' first | assumption | intro _ | apply State.cadBoth_mem | apply State.incI_mem | split | dsimp only

theorem State.cadCause_mem (s : State) (b : Nat) (hm : s.memOk) : (State.cadCause s b).memOk := by
  unfold State.cadCause
  with_reducible repeat' first | assumption | intro _ | apply State.cadBoth_mem | apply State.raise_mem | split | dsimp only

theorem State.gwBoth_mem (s : State) (f : Nat → State → State) (h : ∀ i a, a.memOk → (f i a).memOk) (hm : s.memOk) : (State.gwBoth s f).memOk := by
  unfold State.gwBoth
  with_reducible repeat' first | assumption | intro _ | apply State.both_mem | apply State.each_mem | apply h | apply State.memOk_if | split | dsimp only

theorem State.cadErrCount_mem (s : State) (tbl : Nat) (idx : Nat) (i : Nat) (hm : s.memOk) : (State.cadErrCount s tbl idx i).memOk := by
  unfold State.cadErrCount
  with_reducible repeat' first | assumption | intro _ | apply State.both_mem | apply State.memOk_if | split | dsimp only | simp only [State.memOk_mk]

theorem State.cadStage_mem (s : State) (p : Nat) (i : Nat) (w : Nat) (hm : s.memOk) : (State.cadStage s p i w).memOk := by
  unfold State.cadStage
  with_reducible repeat' first | assumption | intro _ | apply State.wrI_mem | dsimp only

theorem State.cadPut_mem (s : State) (t tbl idx first : Nat) (ws : List Nat) (hm : s.memOk) : (s.cadPut t tbl idx first ws).memOk := by
  have h := canon_upd [] s.cadTab (cadKey t tbl idx) (fun vs => ((first, ws) :: vs.filter (fun v => decide (v.1 ≠ first))).take 8) hm.m5
  exact ⟨hm.m1, hm.m2, hm.m3, hm.m4, h, hm.m6⟩

theorem State.cadWrite_mem (s : State) (p : Nat) (hm : s.memOk) : (State.cadWrite s p).memOk := by
  unfold State.cadWrite
  with_reducible repeat' first | assumption | intro _ | apply State.wr_mem | apply State.raise_mem | apply State.both_mem | apply State.cadPut_mem | apply State.memOk_if | split | dsimp only

theorem State.cadRead_mem (s : State) (p : Nat) (hm : s.memOk) : (State.cadRead s p).memOk := by
  unfold State.cadRead
  with_reducible repeat' first | assumption | intro _ | apply State.each_mem | apply State.cadStage_mem | apply State.wr_mem | split | dsimp only

theorem State.onSrc_mem (s : State) (tbl : Nat) (idx : Nat) (hoop : Nat) (f : CadSrc → CadSrc) (hm : s.memOk) : (State.onSrc s tbl idx hoop f).memOk := by
  unfold State.onSrc
  with_reducible repeat' first | assumption | intro _ | split | dsimp only | simp only [State.memOk_mk]

theorem State.countMissing_mem (s : State) (tbl : Nat) (idx : Nat) (hoop : Nat) (hm : s.memOk) : (State.countMissing s tbl idx hoop).memOk := by
  unfold State.countMissing
  with_reducible repeat' first | assumption | intro _ | apply State.cadErrCount_mem | apply State.onSrc_mem | apply State.cadCause_mem | apply State.cadCount_mem | apply State.memOk_if | split | dsimp only | simp only [State.memOk_mk]

theorem State.countLate_mem (s : State) (tbl : Nat) (idx : Nat) (hoop : Nat) (hm : s.memOk) : (State.countLate s tbl idx hoop).memOk := by
  unfold State.countLate
  with_reducible repeat' first | assumption | intro _ | apply State.cadErrCount_mem | apply State.onSrc_mem | apply State.cadCause_mem | apply State.cadCount_mem | apply State.memOk_if | split | dsimp only | simp only [State.memOk_mk]

theorem State.countUnmapped_mem (s : State) (tbl : Nat) (idx : Nat) (hoop : Nat) (hm : s.memOk) : (State.countUnmapped s tbl idx hoop).memOk := by
  unfold State.countUnmapped
  with_reducible repeat' first | assumption | intro _ | apply State.gwBoth_mem | apply State.addI_mem | apply State.memOk_if | split | dsimp only

theorem State.misplaced_mem (s : State) (n : Nat) (hm : s.memOk) : (State.misplaced s n).memOk := by
  unfold State.misplaced
  with_reducible repeat' first | assumption | intro _ | apply State.cadCount_mem | apply State.cadCause_mem | dsimp only

theorem State.cadenceRx_mem (s : State) (n : Nat) (lane : Nat) (kind : Nat) (p : Nat) (count : Nat) (tpcs : Int) (hm : s.memOk) : (State.cadenceRx s n lane kind p count tpcs).memOk := by
  unfold State.cadenceRx
  with_reducible repeat' first | assumption | intro _ | apply State.badBlock_mem | apply State.misplaced_mem | apply State.cadErrCount_mem | apply State.cadCount_mem | apply State.cadCause_mem | apply State.countLate_mem | apply State.onSrc_mem | apply State.countUnmapped_mem | apply State.memOk_if | split | dsimp only | simp only [State.memOk_mk]

theorem execCadenceBlockRx_mem (n : Nat) (lane : Nat) (kind : Nat) (p : Nat) (count : Nat) (tpcs : Int) (s : State) (res : State) (h : execCadenceBlockRx n lane kind p count tpcs s = .next res) (hm : s.memOk) : res.memOk := by
  unfold execCadenceBlockRx done at h
  rw [← Host.Outcome.next.inj h]
  with_reducible repeat' first | assumption | apply State.cadenceRx_mem | apply State.settle_mem

theorem State.compareCopies_mem (s : State) (ga gb eq : Bool) (t k : Nat) (hm : s.memOk) : (s.compareCopies ga gb eq t k).1.memOk := by
  unfold State.compareCopies
  with_reducible repeat' first | assumption | intro _ | apply State.inc_mem | apply State.wr_mem | apply State.onTcu_mem | apply State.raise_mem | apply State.memOk_if | split | dsimp only | simp only [State.memOk_mk]

theorem State.egressOf_mem (s : State) (n slot pos tbl idx hoop : Nat) (hm : s.memOk) : (s.egressOf n slot pos tbl idx hoop).1.memOk := by
  unfold State.egressOf
  with_reducible repeat' first | assumption | intro _ | apply State.countMissing_mem | apply State.cadBoth_mem | apply State.wrI_mem | apply State.countLate_mem | apply State.memOk_if | split | dsimp only | simp only [State.memOk_mk]

theorem State.slotSend_mem (s : State) (n : Nat) (k : Nat) (m : Nat) (ga : Bool) (gb : Bool) (eq : Bool) (hm : s.memOk) : (State.slotSend s n k m ga gb eq).memOk := by
  unfold State.slotSend
  with_reducible repeat' first | assumption | intro _ | apply State.advance_mem | apply State.egressOf_mem | apply State.compareCopies_mem | apply State.emit_mem | apply State.cadCount_mem | apply State.event_mem | apply State.memOk_if | split | dsimp only | simp only [State.memOk_mk]

theorem execCadenceSlotSend_mem (n : Nat) (k : Nat) (m : Nat) (ga : Bool) (gb : Bool) (eq : Bool) (s : State) (res : State) (h : execCadenceSlotSend n k m ga gb eq s = .next res) (hm : s.memOk) : res.memOk := by
  unfold execCadenceSlotSend done at h
  rw [← Host.Outcome.next.inj h]
  with_reducible repeat' first | assumption | apply State.slotSend_mem | apply State.settle_mem

theorem State.sendBlock_mem (s : State) (n : Nat) (lane : Nat) (kind : Nat) (p : Nat) (hm : s.memOk) : (State.sendBlock s n lane kind p).memOk := by
  unfold State.sendBlock
  with_reducible repeat' first | assumption | intro _ | apply State.advance_mem | apply State.onTrunk_mem | apply State.emit_mem | split | dsimp only | simp only [State.memOk_mk]

theorem execHelloSend_mem (n : Nat) (lane : Nat) (s : State) (res : State) (h : execHelloSend n lane s = .next res) (hm : s.memOk) : res.memOk := by
  unfold execHelloSend done at h
  rw [← Host.Outcome.next.inj h]
  with_reducible repeat' first | assumption | intro _ | apply State.settle_mem | apply State.sendBlock_mem | apply State.memOk_if | dsimp only

theorem execTimeBlockSend_mem (n : Nat) (s : State) (res : State) (h : execTimeBlockSend n s = .next res) (hm : s.memOk) : res.memOk := by
  unfold execTimeBlockSend done at h
  rw [← Host.Outcome.next.inj h]
  with_reducible repeat' first | assumption | intro _ | apply State.settle_mem | apply State.sendBlock_mem | apply State.memOk_if | dsimp only

theorem execEchoSend_mem (n : Nat) (s : State) (res : State) (h : execEchoSend n s = .next res) (hm : s.memOk) : res.memOk := by
  unfold execEchoSend done at h
  rw [← Host.Outcome.next.inj h]
  with_reducible repeat' first | assumption | intro _ | apply State.settle_mem | apply State.onTrunk_mem | apply State.sendBlock_mem | apply State.memOk_if | split | dsimp only | simp only [State.memOk_mk]

theorem execMarkerSend_mem (n : Nat) (s : State) (res : State) (h : execMarkerSend n s = .next res) (hm : s.memOk) : res.memOk := by
  unfold execMarkerSend done at h
  rw [← Host.Outcome.next.inj h]
  with_reducible repeat' first | assumption | intro _ | apply State.advance_mem | apply State.emit_mem | apply State.onTrunk_mem | apply State.each_mem | apply State.memOk_if | apply State.settle_mem | split | dsimp only | simp only [State.memOk_mk]

theorem execHoopBoundary_mem (s : State) (res : State) (h : execHoopBoundary s = .next res) (hm : s.memOk) : res.memOk := by
  unfold execHoopBoundary done at h
  rw [← Host.Outcome.next.inj h]
  with_reducible repeat' first | assumption | intro _ | apply State.both_mem | apply State.advance_mem | apply State.onTcu_mem | apply State.hoopArms_mem | apply State.memOk_if | apply State.settle_mem | split | dsimp only | simp only [State.memOk_mk]

theorem State.cadCut_mem (old : State) (s : State) (hm : s.memOk) : (State.cadCut old s).memOk := by
  unfold State.cadCut
  with_reducible repeat' first | assumption | intro _ | apply State.each_mem | apply State.cadBoth_mem | apply State.addI_mem | apply State.memOk_if | split | dsimp only

theorem State.cadRenumber_mem (s : State) (hm : s.memOk) : s.cadRenumber.memOk := by
  have hk (g : List (Nat × List Nat) → List (Nat × List Nat)) (m : Store (List (Nat × List Nat))) (h : rising m = true) :
      rising (m.map (fun e => (e.1, g e.2))) = true := by
    induction m with
    | nil => rfl
    | cons e m ih =>
      cases m with
      | nil => rfl
      | cons e' m =>
        simp only [List.map_cons, rising, Bool.and_eq_true] at h ih ⊢
        exact ⟨h.1, ih h.2⟩
  have hc : canon [] (s.cadTab.map (fun e => (e.1, (e.2.take 1).map (fun v => (0, v.2))))) = true := by
    have h5 := hm.2.2.2.2.1
    simp only [canon, Bool.and_eq_true, List.all_eq_true, decide_eq_true_eq] at h5 ⊢
    refine ⟨hk (fun l => (l.take 1).map (fun v => (0, v.2))) _ h5.1, ?_⟩
    intro e he
    simp only [List.mem_map] at he
    obtain ⟨x, hx, rfl⟩ := he
    have := h5.2 x hx
    cases hx2 : x.2 with
    | nil => exact absurd hx2 this
    | cons a l => simp
  exact ⟨hm.1, hm.2.1, hm.2.2.1, hm.2.2.2.1, hc, hm.2.2.2.2.2⟩

theorem State.cadStart_mem (s : State) (hm : s.memOk) : (State.cadStart s).memOk := by
  unfold State.cadStart
  with_reducible repeat' first | assumption | intro _ | split | dsimp only | simp only [State.memOk_mk]

theorem State.cadCommitted_mem (old : State) (s : State) (hm : s.memOk) : (State.cadCommitted old s).memOk := by
  unfold State.cadCommitted
  with_reducible repeat' first | assumption | intro _ | apply State.cadCut_mem | apply State.cadRenumber_mem | apply State.cadStart_mem | apply State.memOk_if | dsimp only | simp only [State.memOk_mk]

theorem State.cadStepped_mem (old : State) (s : State) (hm : s.memOk) : (State.cadStepped old s).memOk := by
  unfold State.cadStepped
  with_reducible repeat' first | assumption | intro _ | apply State.cadCut_mem | apply State.cadRenumber_mem | apply State.cadStart_mem | dsimp only | simp only [State.memOk_mk]

theorem State.rcCommitted_mem (old : State) (n : Nat) (s : State) (hm : s.memOk) : (State.rcCommitted old n s).memOk := by
  unfold State.rcCommitted
  with_reducible repeat' first | assumption | intro _ | apply State.memOk_if | split | dsimp only | simp only [State.memOk_mk]

theorem State.gwWrite_mem (s : State) (p : Nat) (hm : s.memOk) : (s.gwWrite p).memOk := by
  unfold State.gwWrite
  extract_lets k ws r a
  have ha : a.memOk := State.wr_mem _ _ _ _ hm
  exact State.memOk_if _ _ _ (fun _ => State.raise_mem _ _ _ ha) (fun _ => State.both_mem _ _ (fun _ _ hx => State.memOk_if _ _ _
    (fun _ => ⟨hx.m1, hx.m2, hx.m3, canon_put _ _ _ _ hx.m4, hx.m5, hx.m6⟩) (fun _ => hx)) ha)

theorem State.gwRead_mem (s : State) (p : Nat) (hm : s.memOk) : (State.gwRead s p).memOk := by
  unfold State.gwRead
  with_reducible repeat' first | assumption | intro _ | apply State.each_mem | apply State.wr_mem | apply State.foldl_mem | split | dsimp only

theorem State.startTrunkEnable_mem (k : Cmd) (s : State) (hm : s.memOk) : (State.startTrunkEnable k s).memOk := by
  unfold State.startTrunkEnable
  with_reducible repeat' first | assumption | intro _ | apply State.fly_mem | apply State.finish_mem | apply State.enableTrunk_mem | apply State.memOk_if | split | dsimp only

theorem State.outWord_mem (s : State) (w m : Nat) (b : Int) (hm : s.memOk) : (s.outWord w m b).1.memOk := by
  unfold State.outWord
  with_reducible repeat' first | assumption | intro _ | apply State.countMissing_mem | apply State.countLate_mem | apply State.memOk_if | split | simp only [State.memOk_mk]

theorem State.compareBytes_mem (s : State) (len : Nat) (badA badB differ : List Nat) (hm : s.memOk) : (s.compareBytes len badA badB differ).1.memOk :=
  State.foldl_pair'_mem _ _ _ (fun _ _ h => State.compareCopies_mem _ _ _ _ _ _ h) hm

theorem State.gwRelease_mem (s : State) (k m : Nat) (badA badB differ : List Nat) (hm : s.memOk) : (s.gwRelease k m badA badB differ).memOk := by
  unfold State.gwRelease
  with_reducible repeat' first | assumption | intro _ | apply State.advance_mem | apply State.gwCount_mem | apply State.compareBytes_mem | apply State.gwBoth_mem | apply State.raise_mem | apply State.startGateway_mem | apply State.outWord_mem | apply State.foldl_pair'_mem | apply State.memOk_if | split | dsimp only | simp only [State.memOk_mk]

theorem execGwOutboundRelease_mem (k m : Nat) (badA badB differ : List Nat) (s : State) (res : State) (h : execGwOutboundRelease k m badA badB differ s = .next res)
    (hm : s.memOk) : res.memOk := by
  unfold execGwOutboundRelease done at h
  rw [← Host.Outcome.next.inj h]
  exact State.settle_mem _ (State.gwRelease_mem _ _ _ _ _ _ hm)

theorem State.gwFrameRx_mem (s : State) (f : Nat) (err : Nat) (cut : Bool) (tpcs : Int) (hm : s.memOk) : (State.gwFrameRx s f err cut tpcs).memOk := by
  unfold State.gwFrameRx
  with_reducible repeat' first | assumption | intro _ | apply State.onFrame_mem | apply State.rxEnd_mem | apply State.gwCount_mem | apply State.countLate_mem | apply State.onSrc_mem | apply State.countUnmapped_mem | apply State.foldl_mem | apply State.memOk_if | split | dsimp only | simp only [State.memOk_mk]

theorem execGwFrameRx_mem (f : Nat) (err : Nat) (cut : Bool) (tpcs : Int) (s : State) (res : State) (h : execGwFrameRx f err cut tpcs s = .next res) (hm : s.memOk) : res.memOk := by
  unfold execGwFrameRx done at h
  rw [← Host.Outcome.next.inj h]
  with_reducible repeat' first | assumption | apply State.gwFrameRx_mem | apply State.settle_mem

theorem State.gwClose_mem (s : State) (k : Nat) (m : Nat) (hm : s.memOk) : (State.gwClose s k m).memOk := by
  unfold State.gwClose
  with_reducible repeat' first | assumption | intro _ | apply State.advance_mem | apply State.gwCount_mem | apply State.gwBoth_mem | apply State.raise_mem | apply State.onSrc_mem | apply State.foldl_mem | apply State.memOk_if | split | dsimp only | simp only [State.memOk_mk]

theorem execGwWindowClose_mem (k : Nat) (m : Nat) (s : State) (res : State) (h : execGwWindowClose k m s = .next res) (hm : s.memOk) : res.memOk := by
  unfold execGwWindowClose done at h
  rw [← Host.Outcome.next.inj h]
  with_reducible repeat' first | assumption | apply State.gwClose_mem | apply State.settle_mem

theorem State.cadErrClear_mem (s : State) (t : Nat) (hm : s.memOk) : (State.cadErrClear s t).memOk := by
  unfold State.cadErrClear
  with_reducible repeat' first | assumption | intro _ | apply State.memOk_if | dsimp only | simp only [State.memOk_mk]

theorem State.slackClear_mem (s : State) (t : Nat) (n : Nat) (hm : s.memOk) : (State.slackClear s t n).memOk := by
  unfold State.slackClear
  with_reducible repeat' first | assumption | apply State.wrI_mem

theorem State.gwCntClear_mem (s : State) (t : Nat) (i : Nat) (hm : s.memOk) : (State.gwCntClear s t i).memOk := by
  unfold State.gwCntClear
  with_reducible repeat' first | assumption | intro _ | split | dsimp only | simp only [State.memOk_mk]

theorem execLpiEnter_mem (p : Nat) (rx : Bool) (s : State) (res : State) (h : execLpiEnter p rx s = .next res) (hm : s.memOk) : res.memOk := by
  unfold execLpiEnter done at h
  rw [← Host.Outcome.next.inj h]
  with_reducible repeat' first | assumption | intro _ | apply State.settle_mem | apply State.wr_mem | apply State.advance_mem | apply State.memOk_if | dsimp only

theorem execLpiWake_mem (p : Nat) (rx : Bool) (s : State) (res : State) (h : execLpiWake p rx s = .next res) (hm : s.memOk) : res.memOk := by
  unfold execLpiWake done at h
  rw [← Host.Outcome.next.inj h]
  with_reducible repeat' first | assumption | intro _ | apply State.wr_mem | apply State.memOk_if | apply State.settle_mem | dsimp only

theorem State.setAlign_mem (s : State) (t : Nat) (n : Nat) (x : Nat) (hm : s.memOk) : (State.setAlign s t n x).memOk := by
  unfold State.setAlign
  with_reducible repeat' first | assumption | intro _ | apply State.onOutp_mem | apply State.wr_mem | apply State.memOk_if | split | dsimp only | simp only [State.memOk_mk]

theorem State.outSlew_mem (s : State) (t : Nat) (n : Nat) (hm : s.memOk) : (State.outSlew s t n).memOk := by
  unfold State.outSlew
  with_reducible repeat' first | assumption | intro _ | apply State.wrSat_mem | apply State.memOk_if | dsimp only

theorem State.outFirstPlaced_mem (s : State) (t : Nat) (n : Nat) (hm : s.memOk) : (State.outFirstPlaced s t n).memOk := by
  unfold State.outFirstPlaced
  with_reducible repeat' first | assumption | intro _ | apply State.raise_mem | apply State.setAlign_mem | apply State.onOutp_mem | apply State.memOk_if | split | dsimp only | simp only [State.memOk_mk]

theorem State.outInstant_mem (s : State) (t : Nat) (n : Nat) (hm : s.memOk) : (State.outInstant s t n).memOk := by
  unfold State.outInstant
  with_reducible repeat' first | assumption | intro _ | apply State.advance_mem | apply State.onOutp_mem | apply State.outFirstPlaced_mem | apply State.outSlew_mem | apply State.emit_mem | apply State.memOk_if | split | dsimp only | simp only [State.memOk_mk]

theorem State.clkInstant_mem (s : State) (t : Nat) (n : Nat) (hm : s.memOk) : (State.clkInstant s t n).memOk := by
  unfold State.clkInstant
  with_reducible repeat' first | assumption | intro _ | apply State.advance_mem | apply State.onOutp_mem | apply State.klTake_mem | apply State.emit_mem | apply State.memOk_if | split | dsimp only | simp only [State.memOk_mk]

theorem execOutputPulseInstant_mem (t : Nat) (n : Nat) (s : State) (res : State) (h : execOutputPulseInstant t n s = .next res) (hm : s.memOk) : res.memOk := by
  unfold execOutputPulseInstant done at h
  rw [← Host.Outcome.next.inj h]
  with_reducible repeat' first | assumption | intro _ | apply State.settle_mem | apply State.clkInstant_mem | apply State.outInstant_mem | apply State.memOk_if | dsimp only

theorem State.averageDone_mem (s : State) (t : Nat) (n : Nat) (hm : s.memOk) : (State.averageDone s t n).memOk := by
  unfold State.averageDone
  with_reducible repeat' first | assumption | intro _ | apply State.onOutp_mem | apply State.wr_mem | apply State.raiseIf_mem | apply State.setAlign_mem | apply State.memOk_if | split | dsimp only | simp only [State.memOk_mk]

theorem execOutAlignAverageDone_mem (t : Nat) (n : Nat) (s : State) (res : State) (h : execOutAlignAverageDone t n s = .next res) (hm : s.memOk) : res.memOk := by
  unfold execOutAlignAverageDone done at h
  rw [← Host.Outcome.next.inj h]
  with_reducible repeat' first | assumption | apply State.averageDone_mem | apply State.settle_mem

theorem State.alignEdge_mem (s : State) (t : Nat) (n : Nat) (x : Int) (hm : s.memOk) : (State.alignEdge s t n x).memOk := by
  unfold State.alignEdge
  with_reducible repeat' first | assumption | intro _ | apply State.wr_mem | apply State.onOutp_mem | apply State.raise_mem | apply State.inc_mem | apply State.wrSat_mem | apply State.setAlign_mem | apply State.memOk_if | split | dsimp only | simp only [State.memOk_mk]

theorem execOutAlignEdge_mem (t : Nat) (n : Nat) (at_ : Int) (s : State) (res : State) (h : execOutAlignEdge t n at_ s = .next res) (hm : s.memOk) : res.memOk := by
  unfold execOutAlignEdge done at h
  rw [← Host.Outcome.next.inj h]
  with_reducible repeat' first | assumption | apply State.alignEdge_mem | apply State.settle_mem

theorem execOutAlignTimeout_mem (t : Nat) (n : Nat) (s : State) (res : State) (h : execOutAlignTimeout t n s = .next res) (hm : s.memOk) : res.memOk := by
  unfold execOutAlignTimeout done at h
  rw [← Host.Outcome.next.inj h]
  with_reducible repeat' first | assumption | intro _ | apply State.raise_mem | apply State.setAlign_mem | apply State.memOk_if | apply State.settle_mem | dsimp only

theorem State.outCommitted_mem (old : State) (t : Nat) (n : Nat) (s : State) (hm : s.memOk) : (State.outCommitted old t n s).memOk := by
  unfold State.outCommitted
  with_reducible repeat' first | assumption | intro _ | apply State.onOutp_mem | apply State.setAlign_mem | apply State.wr_mem | apply State.memOk_if | split | dsimp only | simp only [State.memOk_mk]

theorem State.onPerf_mem (s : State) (n : Nat) (f : Perf → Perf) (hm : s.memOk) : (State.onPerf s n f).memOk := by
  unfold State.onPerf
  with_reducible repeat' first | assumption | simp only [State.memOk_mk]

theorem State.perfCapture_mem (s : State) (n : Nat) (addr : Nat) (task : Nat) (hm : s.memOk) : (State.perfCapture s n addr task).memOk := by
  unfold State.perfCapture
  with_reducible repeat' first | assumption | intro _ | apply State.wr_mem | apply State.memOk_if | dsimp only

theorem State.perfAdd_mem (s : State) (n : Nat) (k : Nat) (addr : Nat) (task : Nat) (hm : s.memOk) : (State.perfAdd s n k addr task).memOk := by
  unfold State.perfAdd
  with_reducible repeat' first | assumption | intro _ | apply State.onPerf_mem | apply State.raise_mem | apply State.addI_mem | apply State.perfCapture_mem | apply State.memOk_if | split | dsimp only | simp only [State.memOk_mk]

theorem State.perfTake_mem (s : State) (n : Nat) (hm : s.memOk) : (State.perfTake s n).memOk := by
  unfold State.perfTake
  with_reducible repeat' first | assumption | intro _ | apply State.perfAdd_mem | apply State.bump_mem | apply State.memOk_if | dsimp only

theorem State.perfFreeze_mem (s : State) (n : Nat) (hm : s.memOk) : (State.perfFreeze s n).memOk := by
  unfold State.perfFreeze
  with_reducible repeat' first | assumption | intro _ | apply State.each_mem | apply State.perfTake_mem | apply State.wr_mem | apply State.memOk_if | split | dsimp only

theorem State.perfCount_mem (s : State) (n : Nat) (inc : Nat) (addr : Nat) (task : Nat) (hm : s.memOk) : (State.perfCount s n inc addr task).memOk := by
  unfold State.perfCount
  with_reducible repeat' first | assumption | intro _ | apply State.inc_mem | apply State.perfAdd_mem | apply State.perfFreeze_mem | apply State.memOk_if | dsimp only

theorem State.perfSwitched_mem (old : State) (n : Nat) (s : State) (hm : s.memOk) : (State.perfSwitched old n s).memOk := by
  unfold State.perfSwitched
  with_reducible repeat' first | assumption | intro _ | apply State.perfAdd_mem | apply State.bump_mem | apply State.memOk_if | dsimp only

theorem execPerfCounterOverflow_mem (n : Nat) (inc : Nat) (addr : Nat) (task : Nat) (s : State) (res : State) (h : execPerfCounterOverflow n inc addr task s = .next res) (hm : s.memOk) : res.memOk := by
  unfold execPerfCounterOverflow done at h
  rw [← Host.Outcome.next.inj h]
  with_reducible repeat' first | assumption | apply State.perfCount_mem | apply State.settle_mem

theorem State.perfLatch_mem (s : State) (n : Nat) (hm : s.memOk) : (State.perfLatch s n).memOk := by
  unfold State.perfLatch
  with_reducible repeat' first | assumption | intro _ | apply State.perfTake_mem | apply State.wr_mem | dsimp only

theorem State.perfStage_mem (s : State) (n : Nat) (v : Nat) (hm : s.memOk) : (State.perfStage s n v).memOk := by
  unfold State.perfStage
  with_reducible repeat' first | assumption | intro _ | apply State.onPerf_mem | split | dsimp only | simp only [State.memOk_mk]

theorem State.perfSet_mem (s : State) (n : Nat) (v : Nat) (hm : s.memOk) : (State.perfSet s n v).memOk := by
  unfold State.perfSet
  with_reducible repeat' first | assumption | intro _ | apply State.onPerf_mem | split | dsimp only | simp only [State.memOk_mk]

theorem State.suMark_mem (s : State) (u : Nat) (hm : s.memOk) : (State.suMark s u).memOk := by
  unfold State.suMark
  with_reducible repeat' first | assumption | intro _ | apply State.memOk_if | dsimp only | simp only [State.memOk_mk]

theorem State.suTake_mem (s : State) (u : Nat) (w : List Nat) (hm : s.memOk) : (State.suTake s u w).memOk := by
  unfold State.suTake
  with_reducible repeat' first | assumption | intro _ | apply State.each_mem | apply State.suMark_mem | apply State.memOk_if | split | dsimp only | simp only [State.memOk_mk]

theorem State.suStart_mem (s : State) (d : Nat) (hm : s.memOk) : (State.suStart s d).memOk := by
  unfold State.suStart
  with_reducible repeat' first | assumption | intro _ | apply State.each_mem | apply State.suMark_mem | apply State.memOk_if | split | dsimp only

theorem State.suStop_mem (s : State) (d : Nat) (hm : s.memOk) : (State.suStop s d).memOk := by
  unfold State.suStop
  with_reducible repeat' first | assumption | intro _ | apply State.each_mem | apply State.suTake_mem | apply State.bump_mem | apply State.memOk_if | split | dsimp only

theorem State.suSnap_mem (s : State) (w : List Nat) (hm : s.memOk) : (State.suSnap s w).memOk := by
  unfold State.suSnap
  with_reducible repeat' first | assumption | intro _ | apply State.each_mem | apply State.suTake_mem | apply State.wrI_mem | apply State.wr_mem | split | dsimp only

theorem State.engineSwap_mem (s : State) (e : Nat) (hm : s.memOk) : (State.engineSwap s e).memOk := by
  unfold State.engineSwap
  with_reducible repeat' first | assumption | intro _ | apply State.wr_mem | apply State.swapDone_mem | apply State.memOk_if | split | dsimp only | simp only [State.memOk_mk]

theorem execEngineSwap_mem (e : Nat) (s : State) (res : State) (h : execEngineSwap e s = .next res) (hm : s.memOk) : res.memOk := by
  unfold execEngineSwap done at h
  rw [← Host.Outcome.next.inj h]
  with_reducible repeat' first | assumption | apply State.engineSwap_mem | apply State.settle_mem

theorem execEngineSelfTestEnd_mem (e : Nat) (passed : Bool) (s : State) (res : State) (h : execEngineSelfTestEnd e passed s = .next res) (hm : s.memOk) : res.memOk := by
  unfold execEngineSelfTestEnd done at h
  rw [← Host.Outcome.next.inj h]
  with_reducible repeat' first | assumption | intro _ | apply State.wr_mem | apply State.wearSet_mem | apply State.wearFail_mem | apply State.memOk_if | apply State.settle_mem | dsimp only

theorem State.laneRested_mem (s : State) (p : Nat) (r : LaneRest) (hm : s.memOk) : (State.laneRested s p r).memOk := by
  unfold State.laneRested
  with_reducible repeat' first | assumption | intro _ | apply State.onLane_mem | apply State.setLat_mem | apply State.wr_mem | split | dsimp only | simp only [State.memOk_mk]

theorem State.laneRestore_mem (s : State) (p : Nat) (hm : s.memOk) : (State.laneRestore s p).memOk := by
  unfold State.laneRestore
  with_reducible repeat' first | assumption | intro _ | apply State.laneRested_mem | apply State.onLane_mem | apply State.memOk_if | split | dsimp only | simp only [State.memOk_mk]

theorem State.laneCalStart_mem (s : State) (p : Nat) (hm : s.memOk) : (State.laneCalStart s p).memOk := by
  unfold State.laneCalStart
  with_reducible repeat' first | assumption | intro _ | apply State.runStart_mem | apply State.onLane_mem | apply State.memOk_if | split | dsimp only | simp only [State.memOk_mk]

theorem execLaneCalStart_mem (p : Nat) (s : State) (res : State) (h : execLaneCalStart p s = .next res) (hm : s.memOk) : res.memOk := by
  unfold execLaneCalStart done at h
  rw [← Host.Outcome.next.inj h]
  with_reducible repeat' first | assumption | apply State.laneCalStart_mem | apply State.settle_mem

theorem State.retireNext_mem (s : State) (p : Nat) (ok : Bool) (hm : s.memOk) : (State.retireNext s p ok).memOk := by
  unfold State.retireNext
  with_reducible repeat' first | assumption | intro _ | apply State.onLane_mem | apply State.memOk_if | split | dsimp only | simp only [State.memOk_mk]

theorem State.laneOk_mem (s : State) (p : Nat) (hm : s.memOk) : (State.laneOk s p).memOk := by
  unfold State.laneOk
  with_reducible repeat' first | assumption | intro _ | apply State.onLane_mem | apply State.setLat_mem | apply State.runOk_mem | apply State.wr_mem | apply State.calRunDone_mem | apply State.retireNext_mem | apply State.laneRestore_mem | apply State.memOk_if | split | dsimp only | simp only [State.memOk_mk]

theorem State.laneFail_mem (s : State) (p : Nat) (slicer : Bool) (hm : s.memOk) : (State.laneFail s p slicer).memOk := by
  unfold State.laneFail
  with_reducible repeat' first | assumption | intro _ | apply State.onLane_mem | apply State.wearFail_mem | apply State.runFail_mem | apply State.wr_mem | apply State.retireNext_mem | apply State.laneRestore_mem | apply State.memOk_if | split | dsimp only | simp only [State.memOk_mk]

theorem State.recalFail_mem (s : State) (p : Nat) (hm : s.memOk) : (State.recalFail s p).memOk := by
  unfold State.recalFail
  with_reducible repeat' first | assumption | intro _ | apply State.laneFail_mem | apply State.onLane_mem | apply State.noteFail_mem | apply State.wearFail_mem | apply State.skipSects_mem | apply State.memOk_if | split | dsimp only | simp only [State.memOk_mk]

theorem State.laneCalEnd_mem (s : State) (p : Nat) (ok : Bool) (rx : Int) (tx : Int) (hm : s.memOk) : (State.laneCalEnd s p ok rx tx).memOk := by
  unfold State.laneCalEnd
  with_reducible repeat' first | assumption | intro _ | apply State.onLane_mem | apply State.setRes_mem | apply State.recalFail_mem | apply State.laneFail_mem | apply State.laneOk_mem | apply State.eyeResume_mem | apply State.memOk_if | split | dsimp only | simp only [State.memOk_mk]

theorem execLaneCalEnd_mem (p : Nat) (ok : Bool) (rx : Int) (tx : Int) (s : State) (res : State) (h : execLaneCalEnd p ok rx tx s = .next res) (hm : s.memOk) : res.memOk := by
  unfold execLaneCalEnd done at h
  rw [← Host.Outcome.next.inj h]
  with_reducible repeat' first | assumption | apply State.laneCalEnd_mem | apply State.settle_mem

theorem State.retireSet_mem (s : State) (p : Nat) (x : Nat) (hm : s.memOk) : (State.retireSet s p x).memOk := by
  unfold State.retireSet
  with_reducible repeat' first | assumption | intro _ | apply State.swapDone_mem | apply State.onLane_mem | split | dsimp only | simp only [State.memOk_mk]

theorem State.slicerSwapIn_mem (s : State) (p : Nat) (hm : s.memOk) : (State.slicerSwapIn s p).memOk := by
  unfold State.slicerSwapIn
  with_reducible repeat' first | assumption | intro _ | apply State.wr_mem | apply State.setLat_mem | apply State.retireSet_mem | apply State.laneOk_mem | apply State.onLane_mem | apply State.laneRested_mem | apply State.retireNext_mem | apply State.memOk_if | split | dsimp only | simp only [State.memOk_mk]

theorem execSlicerSwap_mem (p : Nat) (s : State) (res : State) (h : execSlicerSwap p s = .next res) (hm : s.memOk) : res.memOk := by
  unfold execSlicerSwap done at h
  rw [← Host.Outcome.next.inj h]
  with_reducible repeat' first | assumption | apply State.slicerSwapIn_mem | apply State.settle_mem

theorem State.startCalRun_mem (k : Cmd) (s : State) (hm : s.memOk) : (State.startCalRun k s).memOk := by
  unfold State.startCalRun
  with_reducible repeat' first | assumption | intro _ | apply State.fly_mem | apply State.finishSt_mem | apply State.memOk_if | split | dsimp only | simp only [State.memOk_mk]

theorem State.storeImage_mem (s : State) (ws : List Nat) (hm : s.memOk) : (s.storeImage ws).memOk := by
  have h (l : List (Nat × Nat)) (m : Store Nat) (hc : canon 0 m = true) : canon 0 (l.foldl (fun m e => put 0 m e.2 e.1) m) = true := by
    induction l generalizing m with
    | nil => exact hc
    | cons e l ih => exact ih _ (canon_put _ _ _ _ hc)
  exact ⟨hm.1, hm.2.1, h _ _ hm.2.2.1, hm.2.2.2⟩

theorem State.captureStart_mem (s : State) (hm : s.memOk) : (State.captureStart s).memOk := by
  unfold State.captureStart
  with_reducible repeat' first | assumption | intro _ | apply State.wr_mem | dsimp only

theorem execCaptureDone_mem (s : State) (res : State) (h : execCaptureDone s = .next res) (hm : s.memOk) : res.memOk := by
  unfold execCaptureDone done at h
  rw [← Host.Outcome.next.inj h]
  with_reducible repeat' first | assumption | intro _ | apply State.settle_mem | apply State.storeImage_mem | apply State.wr_mem | apply State.raise_mem | apply State.memOk_if | dsimp only

theorem State.applySect_mem (s t : State) (x : Sect) (h : s.applySect x = some t) (hm : s.memOk) : t.memOk := by
  unfold State.applySect at h
  dsimp only at h
  (repeat' split at h) <;> first
    | (cases h; done)
    | (cases h; first
        | exact State.onTdc_mem _ _ _ _ hm
        | exact State.onTcu_mem _ _ _ hm
        | exact State.onLane_mem _ _ _ hm
        | (simp only [State.memOk_mk]; exact hm)
        | exact hm)

theorem State.applyStart_mem (s : State) (hm : s.memOk) : s.applyStart.memOk := by
  unfold State.applyStart
  with_reducible repeat' first | assumption | intro _ | apply State.wr_mem | apply State.raise_mem | apply State.each_mem | apply State.laneRestore_mem | apply State.foldl_pair'_mem | apply State.memOk_if | split | dsimp only | simp only [State.memOk_mk] | apply State.applySect_mem

theorem execApplyDone_mem (s : State) (res : State) (h : execApplyDone s = .next res) (hm : s.memOk) : res.memOk := by
  unfold execApplyDone done at h
  rw [← Host.Outcome.next.inj h]
  with_reducible repeat' first | assumption | intro _ | apply State.settle_mem | apply State.wr_mem | apply State.raise_mem | apply State.memOk_if | dsimp only

theorem State.calCmd_mem (s : State) (v : Nat) (hm : s.memOk) : (State.calCmd s v).memOk := by
  unfold State.calCmd
  with_reducible repeat' first | assumption | intro _ | apply State.wr_mem | apply State.captureStart_mem | apply State.applyStart_mem | apply State.memOk_if | dsimp only

theorem State.imgNext_mem (s : State) (hm : s.memOk) : (State.imgNext s).memOk := by
  unfold State.imgNext
  with_reducible repeat' first | assumption | apply State.wr_mem

theorem State.imgWrite_mem (s : State) (v : Nat) (hm : s.memOk) : (s.imgWrite v).memOk := by
  unfold State.imgWrite
  with_reducible repeat' first | assumption | intro _ | apply State.imgNext_mem | apply canon_put | apply canon_upd | apply canon_nil | exact rfl | apply State.memOk.m1 | apply State.memOk.m2 | apply State.memOk.m3 | apply State.memOk.m4 | apply State.memOk.m5 | apply State.memOk.m6 | apply State.memOk_if | dsimp only | simp only [State.memOk_mk] | apply State.memOk_all

theorem State.lutWrite_mem (s : State) (t : Nat) (c : Nat) (v : Nat) (hm : s.memOk) : (State.lutWrite s t c v).memOk := by
  unfold State.lutWrite
  with_reducible repeat' first | assumption | intro _ | apply State.storeImage_mem | apply State.memOk_if | split | dsimp only | simp only [State.memOk_mk]

theorem State.restMiss_mem (s : State) (hm : s.memOk) : (State.restMiss s).memOk := by
  unfold State.restMiss
  with_reducible repeat' first | assumption | intro _ | apply State.raise_mem | apply State.wr_mem | apply State.memOk_if

theorem State.laneStartUp_mem (s : State) (p : Nat) (hm : s.memOk) : (State.laneStartUp s p).memOk := by
  unfold State.laneStartUp
  with_reducible repeat' first | assumption | intro _ | apply State.onLane_mem | apply State.setLat_mem | apply State.wr_mem | apply State.restMiss_mem | apply State.foldl_mem | apply State.memOk_if | split | dsimp only | simp only [State.memOk_mk]

theorem State.pllStartUp_mem (s : State) (t : Nat) (hm : s.memOk) : (State.pllStartUp s t).memOk := by
  unfold State.pllStartUp
  with_reducible repeat' first | assumption | intro _ | apply State.onTcu_mem | apply State.restMiss_mem | apply State.memOk_if | split | dsimp only | simp only [State.memOk_mk]

theorem State.tdcStartUp_mem (s : State) (t : Nat) (c : Nat) (hist : List Nat) (res : Int) (hm : s.memOk) : (State.tdcStartUp s t c hist res).memOk := by
  unfold State.tdcStartUp
  with_reducible repeat' first | assumption | intro _ | apply State.wr_mem | apply State.takeTable_mem | apply State.onTdc_mem | apply State.runStart_mem | apply State.takeNew_mem | apply State.runOk_mem | apply State.tdcRunFail_mem | apply State.restMiss_mem | apply State.memOk_if | split | dsimp only | simp only [State.memOk_mk]

theorem State.calCtlWritten_mem (s : State) (hm : s.memOk) : (State.calCtlWritten s).memOk := by
  unfold State.calCtlWritten
  with_reducible repeat' first | assumption | intro _ | apply State.both_mem | apply State.startRuns_mem | apply State.memOk_if | split | dsimp only

theorem State.mapStartUp_mem (s : State) (page : Nat) (hm : s.memOk) : (State.mapStartUp s page).memOk := by
  unfold State.mapStartUp
  with_reducible repeat' first | assumption | intro _ | apply State.wr_mem | apply State.setBank_mem | apply State.onLane_mem | apply State.foldl_mem | apply State.memOk_if | split | dsimp only | simp only [State.memOk_mk]

theorem State.wearUpdate_mem (s : State) (page : Nat) (slice : Nat) (monitor : Nat) (v : Nat) (hm : s.memOk) : (State.wearUpdate s page slice monitor v).memOk := by
  unfold State.wearUpdate
  with_reducible repeat' first | assumption | intro _ | apply State.wearSet_mem | apply State.wearFail_mem | apply State.memOk_if | split | dsimp only | simp only [State.memOk_mk]

theorem execWearUpdate_mem (page : Nat) (slice : Nat) (monitor : Nat) (v : Nat) (s : State) (res : State) (h : execWearUpdate page slice monitor v s = .next res) (hm : s.memOk) : res.memOk := by
  unfold execWearUpdate done at h
  rw [← Host.Outcome.next.inj h]
  with_reducible repeat' first | assumption | apply State.wearUpdate_mem | apply State.settle_mem

theorem State.swapBoundary_mem (s : State) (i : Nat) (table : List Nat) (hm : s.memOk) : (State.swapBoundary s i table).memOk := by
  unfold State.swapBoundary
  with_reducible repeat' first | assumption | intro _ | apply State.toCopyEnd_mem | apply State.bankSwap_mem | apply State.swapDone_mem | apply State.takeNew_mem | apply State.calRunDone_mem | apply State.onTdc_mem | apply State.wr_mem | apply State.retireSet_mem | apply State.engineSwap_mem | apply State.memOk_if | split | dsimp only | simp only [State.memOk_mk]

theorem execSpareSwap_mem (i : Nat) (table : List Nat) (s : State) (res : State) (h : execSpareSwap i table s = .next res) (hm : s.memOk) : res.memOk := by
  unfold execSpareSwap done at h
  rw [← Host.Outcome.next.inj h]
  with_reducible repeat' first | assumption | apply State.swapBoundary_mem | apply State.settle_mem

theorem execVatBankSwap_mem (src : Nat) (s : State) (res : State) (h : execVatBankSwap src s = .next res) (hm : s.memOk) : res.memOk := by
  unfold execVatBankSwap done at h
  rw [← Host.Outcome.next.inj h]
  with_reducible repeat' first | assumption | intro _ | apply State.swapBoundary_mem | apply State.settle_mem | split | dsimp only | simp only [State.memOk_mk]

theorem State.startSpareApprove_mem (k : Cmd) (s : State) (hm : s.memOk) : (State.startSpareApprove k s).memOk := by
  unfold State.startSpareApprove
  with_reducible repeat' first | assumption | intro _ | apply State.fly_mem | apply State.swapQueue_mem | apply State.finishSt_mem | apply State.memOk_if | split | dsimp only | simp only [State.memOk_mk]

theorem State.swapUndo_mem (s : State) (n : Nat) (hm : s.memOk) : (State.swapUndo s n).memOk := by
  unfold State.swapUndo
  with_reducible repeat' first | assumption | intro _ | apply State.onSwap_mem | apply State.wr_mem | apply State.onLane_mem | apply State.memOk_if | split | dsimp only | simp only [State.memOk_mk]

theorem State.swapsOff_mem (s : State) (d : Nat) (hm : s.memOk) : (State.swapsOff s d).memOk := by
  unfold State.swapsOff
  with_reducible repeat' first | assumption | intro _ | apply State.each_mem | apply State.swapCancel_mem | apply State.memOk_if | split | dsimp only | simp only [State.memOk_mk]

theorem State.restOff_mem (s : State) (d : Nat) (hm : s.memOk) : (State.restOff s d).memOk := by
  unfold State.restOff
  with_reducible repeat' first | assumption | intro _ | apply State.skipSects_mem | apply State.memOk_if | split | dsimp only

theorem State.caveWritten_mem (old : State) (off : Nat) (s : State) (hm : s.memOk) : (State.caveWritten old off s).memOk := by
  unfold State.caveWritten
  with_reducible repeat' first | assumption | intro _ | apply State.wearAgain_mem | apply State.caveLatch_mem | apply State.foldl_mem | apply State.memOk_if | split | dsimp only

theorem State.tdoOut_mem (s : State) (v : Nat) (hm : s.memOk) : (State.tdoOut s v).memOk := by
  unfold State.tdoOut
  with_reducible repeat' first | assumption | intro _ | apply State.emit_mem | apply State.memOk_if | dsimp only

theorem State.porstNow_mem (s : State) (hm : s.memOk) : (State.porstNow s).memOk := by
  unfold State.porstNow
  with_reducible repeat' first | assumption | intro _ | apply State.bump_mem | apply State.memOk_if | dsimp only | simp only [State.memOk_mk]

theorem State.scan_mem (s : State) (x : Nat) (hm : s.memOk) : (State.scan s x).memOk := by
  unfold State.scan
  with_reducible repeat' first | assumption | intro _ | apply State.tdoOut_mem | dsimp only | simp only [State.memOk_mk]

theorem State.jtag_mem (s : State) (i : Nat) (x : Nat) (hm : s.memOk) : (State.jtag s i x).memOk := by
  unfold State.jtag
  with_reducible repeat' first | assumption | intro _ | apply State.porstNow_mem | apply State.tdoOut_mem | apply State.scan_mem | apply State.memOk_if | split | dsimp only | simp only [State.memOk_mk]

theorem execJtagInstruction_mem (i : Nat) (pins : Nat) (s : State) (res : State) (h : execJtagInstruction i pins s = .next res) (hm : s.memOk) : res.memOk := by
  unfold execJtagInstruction done at h
  rw [← Host.Outcome.next.inj h]
  with_reducible repeat' first | assumption | intro _ | apply State.settle_mem | apply State.jtag_mem | dsimp only

theorem State.dropRegs_mem (s : State) (d : Nat) (hm : s.memOk) : (State.dropRegs s d).memOk := by
  unfold State.dropRegs
  with_reducible repeat' first | assumption | intro _ | split | dsimp only | simp only [State.memOk_mk]

theorem State.dropTcu_mem (s : State) (t : Nat) (hm : s.memOk) : (s.dropTcu t).memOk := by
  unfold State.dropTcu
  extract_lets a
  have ha : a.memOk := ⟨hm.m1, hm.m2, hm.m3, canon_filter _ _ _ hm.m4, canon_filter _ _ _ hm.m5, hm.m6⟩
  exact State.memOk_if _ _ _ (fun _ => ha) (fun _ => (State.memOk_mk a ..).mpr ha)

theorem State.dropCore_mem (s : State) (hm : s.memOk) : (s.dropCore).memOk := by
  unfold State.dropCore
  with_reducible repeat' first | assumption | apply canon_put | apply canon_upd | apply canon_nil | exact rfl | apply State.memOk.m1 | apply State.memOk.m2 | apply State.memOk.m3 | apply State.memOk.m4 | apply State.memOk.m5 | apply State.memOk.m6 | simp only [State.memOk_mk] | apply State.memOk_all

theorem State.dropGroup_mem (s : State) (g : Nat) (hm : s.memOk) : (State.dropGroup s g).memOk := by
  unfold State.dropGroup
  with_reducible repeat' first | assumption | intro _ | split | dsimp only | simp only [State.memOk_mk]

theorem State.wipeDomain_mem (s : State) (d : Nat) (hm : s.memOk) : (s.wipeDomain d).memOk := by
  unfold State.wipeDomain
  with_reducible repeat' first | assumption | intro _ | apply State.restOff_mem | apply State.showRunning_mem | apply State.each_mem | apply State.swapsOff_mem | apply State.dropRegs_mem | apply State.dropTcu_mem | apply State.dropCore_mem | apply State.wipeVat_mem | apply State.dropGroup_mem | apply State.wr_mem | apply canon_put | apply canon_upd | apply canon_nil | exact rfl | apply State.memOk.m1 | apply State.memOk.m2 | apply State.memOk.m3 | apply State.memOk.m4 | apply State.memOk.m5 | apply State.memOk.m6 | apply State.memOk_if | dsimp only | simp only [State.memOk_mk] | apply State.memOk_all

theorem State.spreadLevel_mem (s : State) (hm : s.memOk) : (State.spreadLevel s).memOk := by
  unfold State.spreadLevel
  with_reducible repeat' first | assumption | intro _ | apply State.wr_mem | apply State.accrueAll_mem | apply State.raise_mem | apply State.memOk_if | dsimp only

theorem State.startDomain_mem (s : State) (d : Nat) (hm : s.memOk) : (State.startDomain s d).memOk := by
  unfold State.startDomain
  with_reducible repeat' first | assumption | intro _ | apply State.mapStartUp_mem | apply State.wearStartUp_mem | apply State.setTcuState_mem | apply State.pllStartUp_mem | apply State.spreadLevel_mem | apply State.suStart_mem | apply State.wr_mem | apply State.each_mem | apply State.showPress_mem | apply State.laneStartUp_mem | apply State.foldl_mem | apply State.memOk_if | split | dsimp only

theorem State.switchedOn_mem (s : State) (d : Nat) (hm : s.memOk) : (State.switchedOn s d).memOk := by
  unfold State.switchedOn
  with_reducible repeat' first | assumption | intro _ | apply State.setPwr_mem | apply State.wr_mem | apply State.memOk_if | dsimp only

theorem State.startDomainOn_mem (k : Cmd) (s : State) (hm : s.memOk) : (State.startDomainOn k s).memOk := by
  unfold State.startDomainOn
  with_reducible repeat' first | assumption | intro _ | apply State.fly_mem | apply State.finishSt_mem | apply State.finish_mem | apply State.setPwr_mem | apply State.memOk_if | dsimp only

theorem execDomainWipeDone_mem (d : Nat) (s : State) (res : State) (h : execDomainWipeDone d s = .next res) (hm : s.memOk) : res.memOk := by
  unfold execDomainWipeDone done at h
  rw [← Host.Outcome.next.inj h]
  with_reducible repeat' first | assumption | intro _ | apply State.finishOp_mem | apply State.startDomain_mem | apply State.switchedOn_mem | apply State.wipeDomain_mem | apply State.memOk_if | apply State.settle_mem | dsimp only

theorem State.endTargets_mem (s : State) (d : Nat) (hm : s.memOk) : (State.endTargets s d).memOk := by
  unfold State.endTargets
  with_reducible repeat' first | assumption | intro _ | apply State.finishSt_mem | apply State.both_mem | apply State.onTcu_mem | apply State.swapUndo_mem | apply State.onGate_mem | apply State.foldl_mem | apply State.memOk_if | split | dsimp only | simp only [State.memOk_mk]

theorem State.groupCands_mem (s : State) (g : Nat) (hm : s.memOk) : (State.groupCands s g).memOk := by
  unfold State.groupCands
  with_reducible repeat' first | assumption | intro _ | apply State.both_mem | apply State.each_mem | apply State.disqualify_mem | apply State.onCand_mem | apply State.memOk_if | split | dsimp only | simp only [State.memOk_mk]

theorem State.startDomainOff_mem (k : Cmd) (s : State) (hm : s.memOk) : (State.startDomainOff k s).memOk := by
  unfold State.startDomainOff
  with_reducible repeat' first | assumption | intro _ | apply State.fly_mem | apply State.finish_mem | apply State.finishSt_mem | apply State.endTargets_mem | apply State.suStop_mem | apply State.setPwr_mem | apply State.groupCands_mem | apply State.memOk_if | dsimp only

theorem execDomainIsolated_mem (d : Nat) (s : State) (res : State) (h : execDomainIsolated d s = .next res) (hm : s.memOk) : res.memOk := by
  unfold execDomainIsolated done at h
  rw [← Host.Outcome.next.inj h]
  with_reducible repeat' first | assumption | intro _ | apply State.settle_mem | apply State.wipeDomain_mem | apply State.setPwr_mem | apply State.showClaims_mem | apply State.showLockstep_mem | apply State.revertCheck_mem | apply State.wr_mem | apply State.finishOp_mem | apply State.memOk_if | dsimp only

theorem State.clearRws_mem (s : State) (por : Bool) (hm : s.memOk) : (State.clearRws s por).memOk := by
  unfold State.clearRws
  with_reducible repeat' first | assumption | intro _ | split | dsimp only | simp only [State.memOk_mk]

/-! Resets, OTP and table completions. -/

theorem State.programLife_mem (s : State) (t : Nat) (h : List Nat) (hm : s.memOk) : (s.programLife t h).memOk := hm

theorem State.newLife_mem (s : State) (target : Nat) (hash : List Nat) (hm : s.memOk) : (State.newLife s target hash).memOk := by
  unfold State.newLife
  with_reducible repeat' first | assumption | intro _ | apply State.programLife_mem | apply State.clearRws_mem | dsimp only

theorem State.addCause_mem (s : State) (c : Nat) (hm : s.memOk) : (State.addCause s c).memOk := by
  unfold State.addCause
  with_reducible repeat' first | assumption | intro _ | apply State.clearRws_mem | apply State.bump_mem | apply State.newLife_mem | apply State.memOk_if | split | dsimp only | simp only [State.memOk_mk]

theorem State.intoReset_mem (s : State) (hm : s.memOk) : s.intoReset.memOk := by
  unfold State.intoReset
  dsimp only
  refine ⟨rfl, rfl, rfl, rfl, rfl, ?_⟩
  dsimp only
  split
  · exact canon_put _ _ _ _ hm.m6
  · exact hm.m6

theorem State.enterReset_mem (s : State) (c : Nat) (hm : s.memOk) : (s.enterReset c).memOk :=
  State.addCause_mem _ _ (State.memOk_if _ _ _ (fun _ => hm) (fun _ => State.intoReset_mem _ hm))

theorem State.toProgram_mem (s : State) (hm : s.memOk) : (State.toProgram s).memOk := by
  unfold State.toProgram
  with_reducible repeat' first | assumption | intro _ | apply State.intoReset_mem | apply State.memOk_if | split | dsimp only | simp only [State.memOk_mk]

theorem execPowerOnReset_mem (s : State) (res : State) (h : execPowerOnReset s = .next res) (hm : s.memOk) : res.memOk := by
  unfold execPowerOnReset done at h
  rw [← Host.Outcome.next.inj h]
  exact State.settle_mem _ (State.enterReset_mem _ _ hm)

theorem execPorst_mem (s : State) (res : State) (h : execPorst s = .next res) (hm : s.memOk) : res.memOk := by
  unfold execPorst done at h
  rw [← Host.Outcome.next.inj h]
  with_reducible repeat' first | assumption | apply State.settle_mem | apply State.enterReset_mem | simp only [State.memOk_mk]

theorem execDeviceResetDelayExpiry_mem (s : State) (res : State) (h : execDeviceResetDelayExpiry s = .next res) (hm : s.memOk) : res.memOk := by
  unfold execDeviceResetDelayExpiry done at h
  rw [← Host.Outcome.next.inj h]
  with_reducible repeat' first | assumption | intro _ | apply State.settle_mem | apply State.toLimit_mem | apply State.enterReset_mem | split | dsimp only | simp only [State.memOk_mk]

theorem State.recordCauses_mem (s : State) (hm : s.memOk) : (State.recordCauses s).memOk := by
  unfold State.recordCauses
  with_reducible repeat' first | assumption | intro _ | apply State.wr_mem | apply State.inc_mem | apply State.memOk_if | dsimp only

theorem State.showOtp_mem (s : State) (hm : s.memOk) : (State.showOtp s).memOk := by
  unfold State.showOtp
  with_reducible repeat' first | assumption | intro _ | apply State.wr_mem | apply State.each_mem | apply State.wrI_mem | apply State.memOk_if | split | dsimp only

theorem State.release_mem (s : State) (hcMap : Nat) (oscNom : Nat) (leadSel : Nat) (bootSrc : Nat) (hm : s.memOk) : (State.release s hcMap oscNom leadSel bootSrc).memOk := by
  unfold State.release
  with_reducible repeat' first | assumption | intro _ | apply State.recordCauses_mem | apply State.showOtp_mem | apply State.wr_mem | apply State.bump_mem | apply State.both_mem | apply State.each_mem | apply State.setPwr_mem | apply State.foldl_mem | split | dsimp only | simp only [State.memOk_mk]

theorem execResetRelease_mem (hcMap : Nat) (oscNom : Nat) (leadSel : Nat) (bootSrc : Nat) (s : State) (res : State) (h : execResetRelease hcMap oscNom leadSel bootSrc s = .next res) (hm : s.memOk) : res.memOk := by
  unfold execResetRelease done at h
  rw [← Host.Outcome.next.inj h]
  with_reducible repeat' first | assumption | intro _ | apply State.release_mem | apply State.memOk_if | apply State.settle_mem

theorem State.startAll_mem (s : State) (hm : s.memOk) : (State.startAll s).memOk := by
  unfold State.startAll
  with_reducible repeat' first | assumption | intro _ | apply State.startDomain_mem | apply State.foldl_mem | apply State.memOk_if | split | dsimp only | simp only [State.memOk_mk]

theorem execWipeComplete_mem (s : State) (res : State) (h : execWipeComplete s = .next res) (hm : s.memOk) : res.memOk := by
  unfold execWipeComplete done at h
  rw [← Host.Outcome.next.inj h]
  with_reducible repeat' first | assumption | intro _ | apply State.settle_mem | apply State.switchedOn_mem | apply State.wr_mem | apply State.startAll_mem | apply State.foldl_mem | apply State.memOk_if | split | dsimp only | simp only [State.memOk_mk]

theorem State.startDeviceReset_mem (k : Cmd) (s : State) (hm : s.memOk) : (State.startDeviceReset k s).memOk := by
  unfold State.startDeviceReset
  with_reducible repeat' first | assumption | apply State.bcast_mem | apply State.fly_mem

theorem State.thaw_mem (s : State) (hm : s.memOk) : (State.thaw s).memOk := by
  unfold State.thaw
  with_reducible repeat' first | assumption | intro _ | apply State.both_mem | apply State.driveRate_mem | apply State.memOk_if | split | dsimp only

theorem State.oscQualify_mem (s : State) (hm : s.memOk) : (State.oscQualify s).memOk := by
  unfold State.oscQualify
  with_reducible repeat' first | assumption | intro _ | apply State.wr_mem | apply State.setPhase_mem | apply State.thaw_mem | apply State.memOk_if | dsimp only

theorem execOscQualify_mem (s : State) (res : State) (h : execOscQualify s = .next res) (hm : s.memOk) : res.memOk := by
  unfold execOscQualify done at h
  rw [← Host.Outcome.next.inj h]
  with_reducible repeat' first | assumption | apply State.oscQualify_mem | apply State.settle_mem

theorem State.oscFail_mem (s : State) (hm : s.memOk) : (State.oscFail s).memOk := by
  unfold State.oscFail
  with_reducible repeat' first | assumption | apply State.bcast_mem | apply State.wr_mem

theorem execOscWaitTimeout_mem (s : State) (res : State) (h : execOscWaitTimeout s = .next res) (hm : s.memOk) : res.memOk := by
  unfold execOscWaitTimeout done at h
  rw [← Host.Outcome.next.inj h]
  with_reducible repeat' first | assumption | intro _ | apply State.oscFail_mem | apply State.memOk_if | apply State.settle_mem

theorem State.oscDisqualify_mem (s : State) (hm : s.memOk) : (State.oscDisqualify s).memOk := by
  unfold State.oscDisqualify
  with_reducible repeat' first | assumption | intro _ | apply State.wr_mem | apply State.oscLoss_mem | apply State.oscFail_mem | apply State.memOk_if | dsimp only

theorem execOscDisqualify_mem (s : State) (res : State) (h : execOscDisqualify s = .next res) (hm : s.memOk) : res.memOk := by
  unfold execOscDisqualify done at h
  rw [← Host.Outcome.next.inj h]
  with_reducible repeat' first | assumption | apply State.oscDisqualify_mem | apply State.settle_mem

theorem State.toRunsEnd_mem (s : State) (t : Nat) (hm : s.memOk) : (State.toRunsEnd s t).memOk := by
  unfold State.toRunsEnd
  with_reducible repeat' first | assumption | intro _ | apply State.advance_mem | split | dsimp only | simp only [State.memOk_mk]

theorem State.tcuReady_mem (s : State) (t : Nat) (hists : List (List Nat)) (res : List Int) (hm : s.memOk) : (State.tcuReady s t hists res).memOk := by
  unfold State.tcuReady
  with_reducible repeat' first | assumption | intro _ | apply State.toRunsEnd_mem | apply State.each_mem | apply State.tdcStartUp_mem | apply State.onTcu_mem | apply State.showFirm_mem | apply State.beginResync_mem | apply State.takeToken_mem | apply State.memOk_if | split | dsimp only | simp only [State.memOk_mk]

theorem execTcuReady_mem (t : Nat) (hists : List (List Nat)) (res : List Int) (s : State) (next : State) (h : execTcuReady t hists res s = .next next) (hm : s.memOk) : next.memOk := by
  unfold execTcuReady done at h
  rw [← Host.Outcome.next.inj h]
  with_reducible repeat' first | assumption | intro _ | apply State.settle_mem | apply State.tcuReady_mem | dsimp only

theorem execActiveFailure_mem (code : Nat) (s : State) (res : State) (h : execActiveFailure code s = .next res) (hm : s.memOk) : res.memOk := by
  unfold execActiveFailure done at h
  rw [← Host.Outcome.next.inj h]
  with_reducible repeat' first | assumption | intro _ | apply State.settle_mem | apply State.dualClaim_mem | apply State.failTcu_mem | apply State.memOk_if | dsimp only

theorem State.atSwitchEpoch_mem (s : State) (hm : s.memOk) : (State.atSwitchEpoch s).memOk := by
  unfold State.atSwitchEpoch
  with_reducible repeat' first | assumption | intro _ | apply State.toEpoch_mem | apply State.switchEpoch_mem | apply State.each_mem | apply State.showNt_mem | apply State.memOk_if | split | dsimp only

theorem execSwitchEpoch_mem (s : State) (res : State) (h : execSwitchEpoch s = .next res) (hm : s.memOk) : res.memOk := by
  unfold execSwitchEpoch done at h
  rw [← Host.Outcome.next.inj h]
  with_reducible repeat' first | assumption | apply State.atSwitchEpoch_mem | apply State.settle_mem

theorem execLastResortExit_mem (s : State) (res : State) (h : execLastResortExit s = .next res) (hm : s.memOk) : res.memOk := by
  unfold execLastResortExit done at h
  rw [← Host.Outcome.next.inj h]
  with_reducible repeat' first | assumption | intro _ | apply State.atSwitchEpoch_mem | apply State.memOk_if | apply State.settle_mem

theorem execBlockWedged_mem (page : Nat) (s : State) (res : State) (h : execBlockWedged page s = .next res) (hm : s.memOk) : res.memOk := by
  unfold execBlockWedged done at h
  rw [← Host.Outcome.next.inj h]
  with_reducible repeat' first | assumption | intro _ | apply State.failTcu_mem | apply State.setFault_mem | apply State.memOk_if | apply State.settle_mem

theorem execSupplyWarn_mem (i : Nat) (s : State) (res : State) (h : execSupplyWarn i s = .next res) (hm : s.memOk) : res.memOk := by
  unfold execSupplyWarn done at h
  rw [← Host.Outcome.next.inj h]
  with_reducible repeat' first | assumption | intro _ | apply State.wr_mem | apply State.bcast_mem | apply State.raise_mem | apply State.inc_mem | apply State.memOk_if | apply State.settle_mem | dsimp only

theorem execSupplyBelowClear_mem (i : Nat) (s : State) (res : State) (h : execSupplyBelowClear i s = .next res) (hm : s.memOk) : res.memOk := by
  unfold execSupplyBelowClear done at h
  rw [← Host.Outcome.next.inj h]
  with_reducible repeat' first | assumption | apply State.wr_mem | apply State.settle_mem | dsimp only

theorem execSupplySag_mem (i : Nat) (s : State) (res : State) (h : execSupplySag i s = .next res) (hm : s.memOk) : res.memOk := by
  unfold execSupplySag done at h
  rw [← Host.Outcome.next.inj h]
  with_reducible repeat' first | assumption | apply State.settle_mem | apply State.enterReset_mem | simp only [State.memOk_mk]

theorem State.govern_mem (s : State) (n : Nat) (hm : s.memOk) : (State.govern s n).memOk := by
  unfold State.govern
  with_reducible repeat' first | assumption | intro _ | apply State.wr_mem | apply State.raise_mem | apply State.inc_mem | apply State.spreadLevel_mem | apply State.bcast_mem | apply State.memOk_if | dsimp only

theorem State.noteCool_mem (s : State) (hm : s.memOk) : (State.noteCool s).memOk := by
  unfold State.noteCool
  with_reducible repeat' first | assumption | intro _ | apply State.memOk_if | dsimp only | simp only [State.memOk_mk]

theorem State.calTriggers_mem (s : State) (before : Nat → Int) (hm : s.memOk) : (State.calTriggers s before).memOk := by
  unfold State.calTriggers
  with_reducible repeat' first | assumption | intro _ | apply State.both_mem | apply State.each_mem | apply State.onTdc_mem | apply State.onTcu_mem | apply State.raiseIf_mem | apply State.onLane_mem | apply State.memOk_if | split | dsimp only | simp only [State.memOk_mk]

theorem State.convert_mem (s : State) (ts : List Int) (mv : List Nat) (hm : s.memOk) : (State.convert s ts mv).memOk := by
  unfold State.convert
  with_reducible repeat' first | assumption | intro _ | apply State.each_mem | apply State.wrI_mem | apply State.wrS_mem | apply State.wr_mem | apply State.toProgram_mem | apply State.enterReset_mem | apply State.noteCool_mem | apply State.govern_mem | apply State.calTriggers_mem | apply State.foldl_mem | apply State.memOk_if | split | dsimp only | simp only [State.memOk_mk]

theorem execSensorConversion_mem (ts : List Int) (mv : List Nat) (s : State) (res : State) (h : execSensorConversion ts mv s = .next res) (hm : s.memOk) :
    res.memOk := by
  unfold execSensorConversion done at h
  rw [← Host.Outcome.next.inj h]
  exact State.settle_mem _ (State.convert_mem _ _ _ hm)

theorem execBgDwellExpiry_mem (s : State) (res : State) (h : execBgDwellExpiry s = .next res) (hm : s.memOk) : res.memOk := by
  unfold execBgDwellExpiry done at h
  rw [← Host.Outcome.next.inj h]
  with_reducible repeat' first | assumption | intro _ | apply State.settle_mem | apply State.advance_mem | apply State.govern_mem | apply State.noteCool_mem | apply State.memOk_if | split | dsimp only | simp only [State.memOk_mk]

theorem execThermalRelease_mem (s : State) (res : State) (h : execThermalRelease s = .next res) (hm : s.memOk) : res.memOk := by
  unfold execThermalRelease done at h
  rw [← Host.Outcome.next.inj h]
  with_reducible repeat' first | assumption | intro _ | apply State.settle_mem | apply State.advance_mem | apply State.memOk_if | split | dsimp only | simp only [State.memOk_mk]

theorem State.bootReject_mem (s : State) (why : Nat) (hm : s.memOk) : (State.bootReject s why).memOk := by
  unfold State.bootReject
  with_reducible repeat' first | assumption | intro _ | apply State.each_mem | apply State.wipeEngine_mem | apply State.wr_mem | apply State.raise_mem | apply State.startAll_mem | apply State.memOk_if | split | dsimp only | simp only [State.memOk_mk]

theorem State.bootCal_mem (s : State) (l : List Byte) (hm : s.memOk) : (s.bootCal l).memOk := by
  unfold State.bootCal
  dsimp only
  split
  · exact State.wr_mem _ _ _ _ (State.storeImage_mem _ _ ⟨hm.1, hm.2.1, rfl, hm.2.2.2⟩)
  · exact hm

theorem State.bootFirmware_mem (s : State) (version : Nat) (fmt : Nat) (hm : s.memOk) : (State.bootFirmware s version fmt).memOk := by
  unfold State.bootFirmware
  with_reducible repeat' first | assumption | intro _ | apply State.both_mem | apply State.setFirm_mem | apply State.showFirm_mem | apply State.memOk_if | split | dsimp only | simp only [State.memOk_mk]

theorem State.bootEnd_mem (s : State) (l : List Byte) (end_ : Nat) (hm : s.memOk) : (State.bootEnd s l end_).memOk := by
  unfold State.bootEnd
  with_reducible repeat' first | assumption | intro _ | apply State.bootReject_mem | apply State.wr_mem | apply State.memOk_if | dsimp only | simp only [State.memOk_mk]

theorem State.bootLoad_mem (s : State) (l : List Byte) (signed : Bool) (version : Nat) (fmt : Nat) (hm : s.memOk) : (State.bootLoad s l signed version fmt).memOk := by
  unfold State.bootLoad
  with_reducible repeat' first | assumption | intro _ | apply State.bootReject_mem | apply State.bootCal_mem | apply State.bootFirmware_mem | apply State.installImage_mem | apply State.wr_mem | apply State.startAll_mem | apply State.bootEnd_mem | apply State.memOk_if | split | dsimp only | simp only [State.memOk_mk]

theorem execBootSectionLoaded_mem (flash : List Byte) (silent : Bool) (signed : Bool) (version : Nat) (fmt : Nat) (s : State) (res : State) (h : execBootSectionLoaded flash silent signed version fmt s = .next res) (hm : s.memOk) : res.memOk := by
  unfold execBootSectionLoaded done at h
  rw [← Host.Outcome.next.inj h]
  with_reducible repeat' first | assumption | intro _ | apply State.bootReject_mem | apply State.bootLoad_mem | apply State.memOk_if | apply State.settle_mem | split | simp only [State.memOk_mk]

theorem State.pushStart_mem (s : State) (v : Nat) (hm : s.memOk) : (State.pushStart s v).memOk := by
  unfold State.pushStart
  with_reducible repeat' first | assumption | intro _ | apply State.wr_mem | apply State.each_mem | apply State.wipeEngine_mem | apply State.memOk_if | split | dsimp only | simp only [State.memOk_mk]

theorem State.pushWord_mem (s : State) (v : Nat) (hm : s.memOk) : (State.pushWord s v).memOk := by
  unfold State.pushWord
  with_reducible repeat' first | assumption | intro _ | apply State.wr_mem | apply State.bootReject_mem | apply State.memOk_if | split | dsimp only | simp only [State.memOk_mk]

theorem execDeviceReady_mem (s : State) (res : State) (h : execDeviceReady s = .next res) (hm : s.memOk) : res.memOk := by
  unfold execDeviceReady done at h
  rw [← Host.Outcome.next.inj h]
  with_reducible repeat' first | assumption | intro _ | apply State.raise_mem | apply State.wr_mem | apply State.memOk_if | apply State.settle_mem

theorem State.startAdvance_mem (k : Cmd) (s : State) (hm : s.memOk) : (State.startAdvance k s).memOk := by
  unfold State.startAdvance
  with_reducible repeat' first | assumption | apply State.bcast_mem | apply State.fly_mem

theorem execLifecycleHoldExpiry_mem (s : State) (res : State) (h : execLifecycleHoldExpiry s = .next res) (hm : s.memOk) : res.memOk := by
  unfold execLifecycleHoldExpiry done at h
  rw [← Host.Outcome.next.inj h]
  with_reducible repeat' first | assumption | intro _ | apply State.settle_mem | apply State.toProgram_mem | dsimp only

theorem execLifecycleOtpDone_mem (s : State) (res : State) (h : execLifecycleOtpDone s = .next res) (hm : s.memOk) : res.memOk := by
  unfold execLifecycleOtpDone done at h
  rw [← Host.Outcome.next.inj h]
  with_reducible repeat' first | assumption | intro _ | apply State.settle_mem | apply State.bump_mem | apply State.newLife_mem | apply State.enterReset_mem | apply State.memOk_if | split | dsimp only | simp only [State.memOk_mk]

theorem State.otpStart_mem (s : State) (hm : s.memOk) : (State.otpStart s).memOk := by
  unfold State.otpStart
  with_reducible repeat' first | assumption | intro _ | apply State.wr_mem | apply State.memOk_if | dsimp only | simp only [State.memOk_mk]

theorem execOtpDone_mem (b : Nat) (s : State) (res : State) (h : execOtpDone b s = .next res) (hm : s.memOk) : res.memOk := by
  unfold execOtpDone done at h
  rw [← Host.Outcome.next.inj h]
  with_reducible repeat' first | assumption | intro _ | apply State.settle_mem | apply State.raise_mem | apply State.wr_mem | split | dsimp only | simp only [State.memOk_mk] | apply canon_put | apply State.memOk.m1 | apply State.memOk.m2 | apply State.memOk.m3 | apply State.memOk.m4 | apply State.memOk.m5 | apply State.memOk.m6 | apply State.memOk_all

theorem State.goLive_mem (s : State) (ps : List Nat) (hm : s.memOk) : (State.goLive s ps).memOk := by
  unfold State.goLive
  with_reducible repeat' first | assumption | intro _ | apply State.foldl_mem | split | dsimp only | simp only [State.memOk_mk]

theorem State.committed_mem (old : State) (p : Nat) (s : State) (hm : s.memOk) : (State.committed old p s).memOk := by
  unfold State.committed
  with_reducible repeat' first | assumption | intro _ | apply State.onFollowers_mem | apply State.copyFld_mem | apply State.useHostRate_mem | apply State.armAtCommitted_mem | apply State.onTcu_mem | apply State.outCommitted_mem | apply State.rcCommitted_mem | apply State.estWritten_mem | apply State.hoopChanged_mem | apply State.cadCommitted_mem | apply State.each_mem | apply State.pressOf_mem | apply State.shpCommit_mem | apply State.memOk_if | split | dsimp only | simp only [State.memOk_mk]

theorem State.disarm_mem (s : State) (p : Nat) (hm : s.memOk) : (State.disarm s p).memOk := by
  unfold State.disarm
  with_reducible repeat' first | assumption | apply State.wr_mem | simp only [State.memOk_mk]

theorem State.commitPage_mem (s : State) (p : Nat) (k : Nat) (ps : List Nat) (hm : s.memOk) : (State.commitPage s p k ps).memOk := by
  unfold State.commitPage
  with_reducible repeat' first | assumption | intro _ | apply State.disarm_mem | apply State.goLive_mem | apply State.raise_mem | apply State.wr_mem | apply State.committed_mem | apply State.raiseHdr_mem | apply State.memOk_if | split | dsimp only | simp only [State.memOk_mk]

theorem State.commitTogether_mem (s : State) (ps : List Nat) (hm : s.memOk) : (State.commitTogether s ps).memOk := by
  unfold State.commitTogether
  with_reducible repeat' first | assumption | intro _ | apply State.commitPage_mem | apply State.foldl_mem | split | dsimp only

theorem State.reachBoundary_mem (s : State) (p : Nat) (hm : s.memOk) : (State.reachBoundary s p).memOk := by
  unfold State.reachBoundary
  with_reducible repeat' first | assumption | intro _ | apply State.commitTogether_mem | apply State.advance_mem | apply State.memOk_if | split | dsimp only | simp only [State.memOk_mk]

theorem execCommitBoundary_mem (page : Nat) (s : State) (res : State) (h : execCommitBoundary page s = .next res) (hm : s.memOk) : res.memOk := by
  unfold execCommitBoundary done at h
  rw [← Host.Outcome.next.inj h]
  with_reducible repeat' first | assumption | apply State.reachBoundary_mem | apply State.settle_mem

theorem State.commitsPassed_mem (s : State) (from_ : Nat) (hm : s.memOk) : (State.commitsPassed s from_).memOk := by
  unfold State.commitsPassed
  with_reducible repeat' first | assumption | intro _ | apply State.commitTogether_mem | apply State.memOk_if | split | dsimp only | simp only [State.memOk_mk]

theorem State.armMirrored_mem (s : State) (p : Nat) (hm : s.memOk) : (State.armMirrored s p).memOk := by
  unfold State.armMirrored
  with_reducible repeat' first | assumption | intro _ | apply State.mirrorArmed_mem | apply State.disarm_mem | apply State.memOk_if | dsimp only

theorem State.shadowCtl_mem (old : State) (p : Nat) (v : Nat) (s : State) (hm : s.memOk) : (State.shadowCtl old p v s).memOk := by
  unfold State.shadowCtl
  with_reducible repeat' first | assumption | intro _ | apply State.wr_mem | apply State.commitPage_mem | apply State.raiseHdr_mem | apply State.disarm_mem | apply State.armMirrored_mem | apply State.memOk_if | split | dsimp only | simp only [State.memOk_mk]

theorem State.stepEpoch_mem (s : State) (hm : s.memOk) : (State.stepEpoch s).memOk := by
  unfold State.stepEpoch
  with_reducible repeat' first | assumption | intro _ | apply State.toEpoch_mem | apply State.each_mem | apply State.accruePort_mem | apply State.both_mem | apply State.applyStep_mem | apply State.finishSt_mem | apply State.refreshValid_mem | apply State.endHolds_mem | apply State.gateSwapDue_mem | apply State.touchPort_mem | apply State.cadStepped_mem | apply State.commitsPassed_mem | apply State.memOk_if | split | dsimp only | simp only [State.memOk_mk]

theorem execStepApply_mem (s : State) (res : State) (h : execStepApply s = .next res) (hm : s.memOk) : res.memOk := by
  unfold execStepApply done at h
  rw [← Host.Outcome.next.inj h]
  with_reducible repeat' first | assumption | apply State.stepEpoch_mem | apply State.settle_mem

theorem execSlewDone_mem (t : Nat) (s : State) (res : State) (h : execSlewDone t s = .next res) (hm : s.memOk) : res.memOk := by
  unfold execSlewDone done at h
  rw [← Host.Outcome.next.inj h]
  with_reducible repeat' first | assumption | intro _ | apply State.settle_mem | apply State.slewEnds_mem | apply State.slewDone_mem | apply State.memOk_if | dsimp only

theorem State.fieldWrite_mem (old : State) (p : Nat) (b : Blk) (v : Nat) (fi : Fld × Nat) (s : State) (hm : s.memOk) : (State.fieldWrite old p b v fi s).memOk := by
  unfold State.fieldWrite
  with_reducible repeat' first | assumption | intro _ | apply State.wrI_mem | apply State.memOk_if | split | dsimp only | simp only [State.memOk_mk]

theorem State.releaseCapture_mem (s : State) (p : Nat) (hm : s.memOk) : (State.releaseCapture s p).memOk := by
  unfold State.releaseCapture
  with_reducible repeat' first | assumption | intro _ | apply State.wr_mem | apply State.memOk_if

theorem State.fieldsWrite_mem (fs : List (Fld × Nat)) (s : State) (p : Nat) (b : Blk) (v : Nat) (t : State) (hm : t.memOk) :
    (fs.foldl (fun t fi => s.fieldWrite p b v fi t) t).memOk := State.foldl_mem _ _ _ (fun _ _ ha => State.fieldWrite_mem _ _ _ _ _ _ ha) hm

theorem State.checkedWrite_mem (eff : State → Nat → Nat → Nat → Nat → State → State) (ctx a size v : Nat) (s : State)
    (h : ∀ o c p f v a, a.memOk → (eff o c p f v a).memOk) (hm : s.memOk) : (s.checkedWrite eff ctx a size v).memOk := by
  unfold State.checkedWrite
  with_reducible repeat' first | assumption | intro _ | apply State.accErr_mem | apply State.fieldsWrite_mem | apply State.releaseCapture_mem | apply h | apply State.foldl_mem | apply State.memOk_if | split | dsimp only | simp only [State.memOk_mk]

theorem State.orphanCmds_mem (s : State) (c : Nat) (hm : s.memOk) : (State.orphanCmds s c).memOk := by
  unfold State.orphanCmds
  with_reducible repeat' first | assumption | intro _ | apply State.memOk_if | split | dsimp only | simp only [State.memOk_mk]

theorem State.detach_mem (s : State) (c : Nat) (hm : s.memOk) : (State.detach s c).memOk := by
  unfold State.detach
  with_reducible repeat' first | assumption | intro _ | apply State.wr_mem | apply State.orphanCmds_mem | apply State.onHost_mem | apply State.bcastTo_mem | apply State.memOk_if | split | dsimp only | simp only [State.memOk_mk]

theorem State.attach_mem (s : State) (c : Nat) (hm : s.memOk) : (State.attach s c).memOk := by
  unfold State.attach
  with_reducible repeat' first | assumption | intro _ | apply State.wr_mem | apply State.packetReset_mem | apply State.onHost_mem | apply State.foldl_mem | apply State.memOk_if | split | dsimp only | simp only [State.memOk_mk]

theorem execPcieLinkDown_mem (pf : Nat) (s : State) (res : State) (h : execPcieLinkDown pf s = .next res) (hm : s.memOk) : res.memOk := by
  unfold execPcieLinkDown done at h
  rw [← Host.Outcome.next.inj h]
  with_reducible repeat' first | assumption | apply State.detach_mem | apply State.settle_mem | split | simp only [State.memOk_mk]

theorem execPcieLinkUp_mem (pf : Nat) (s : State) (res : State) (h : execPcieLinkUp pf s = .next res) (hm : s.memOk) : res.memOk := by
  unfold execPcieLinkUp done at h
  rw [← Host.Outcome.next.inj h]
  with_reducible repeat' first | assumption | intro _ | apply State.attach_mem | apply State.memOk_if | apply State.settle_mem | split | simp only [State.memOk_mk]

theorem execPePerstAssert_mem (s : State) (res : State) (h : execPePerstAssert s = .next res) (hm : s.memOk) : res.memOk := by
  unfold execPePerstAssert done at h
  rw [← Host.Outcome.next.inj h]
  with_reducible repeat' first | assumption | intro _ | apply State.each_mem | apply State.detach_mem | apply State.memOk_if | apply State.settle_mem | split | dsimp only | simp only [State.memOk_mk]

theorem execPePerstRelease_mem (s : State) (res : State) (h : execPePerstRelease s = .next res) (hm : s.memOk) : res.memOk := by
  unfold execPePerstRelease done at h
  rw [← Host.Outcome.next.inj h]
  with_reducible repeat' first | assumption | apply State.settle_mem | simp only [State.memOk_mk]

theorem execMsixEnable_mem (pf : Nat) (s : State) (res : State) (h : execMsixEnable pf s = .next res) (hm : s.memOk) : res.memOk := by
  unfold execMsixEnable done at h
  rw [← Host.Outcome.next.inj h]
  with_reducible repeat' first | assumption | intro _ | apply State.onHost_mem | apply State.memOk_if | apply State.settle_mem | split | dsimp only | simp only [State.memOk_mk]

theorem execIntHoldoffExpiry_mem (hc : Nat) (s : State) (res : State) (h : execIntHoldoffExpiry hc s = .next res) (hm : s.memOk) : res.memOk := by
  unfold execIntHoldoffExpiry done at h
  rw [← Host.Outcome.next.inj h]
  with_reducible repeat' first | assumption | intro _ | apply State.settle_mem | apply State.advance_mem | apply State.onHost_mem | apply State.memOk_if | split | dsimp only | simp only [State.memOk_mk]

theorem State.abortCmd_mem (s : State) (k : Cmd) (hm : s.memOk) : (State.abortCmd s k).memOk := by
  unfold State.abortCmd
  with_reducible repeat' first | assumption | intro _ | apply State.finishSt_mem | apply State.drainEnds_mem | apply State.discardAll_mem | apply State.stopEnds_mem | apply State.trunkOff_mem | apply State.finish_mem | apply State.walkOver_mem | apply State.wrI_mem | apply State.onGate_mem | apply State.wipeEngine_mem | apply State.beginResync_mem | apply State.both_mem | apply State.onTcu_mem | apply State.swapUndo_mem | apply State.memOk_if | split | dsimp only | simp only [State.memOk_mk]

theorem State.startAbort_mem (k : Cmd) (s : State) (hm : s.memOk) : (State.startAbort k s).memOk := by
  unfold State.startAbort
  with_reducible repeat' first | assumption | intro _ | apply State.finishSt_mem | apply State.abortCmd_mem | apply State.memOk_if | split | simp only [State.memOk_mk]

theorem State.startQuery_mem (k : Cmd) (s : State) (hm : s.memOk) : (State.startQuery k s).memOk := by
  unfold State.startQuery
  with_reducible repeat' first | assumption | apply State.finish_mem

theorem State.startCmd_mem (k : Cmd) (s : State) (hm : s.memOk) : (State.startCmd k s).memOk := by
  unfold State.startCmd
  with_reducible repeat' first | assumption | apply State.finishSt_mem | apply State.startAbort_mem | apply State.startQuery_mem | apply State.startDomainOn_mem | apply State.startDomainOff_mem | apply State.startDeviceReset_mem | apply State.startAdvance_mem | apply State.startPortEnable_mem | apply State.startPortDisable_mem | apply State.startTrunkEnable_mem | apply State.startTrunkDisable_mem | apply State.startQueueDisable_mem | apply State.startQueueEnable_mem | apply State.startWriteCritical_mem | apply State.startFence_mem | apply State.startFlush_mem | apply State.startWheyAudit_mem | apply State.startGateInstall_mem | apply State.startTaskLoad_mem | apply State.startTaskStart_mem | apply State.startTaskStop_mem | apply State.startFwStage_mem | apply State.startSwitchover_mem | apply State.startTimeStep_mem | apply State.startDomainSelect_mem | apply State.startCalRun_mem | apply State.startSpareApprove_mem | split | simp only [State.memOk_mk]

theorem State.judgeStart_mem (s : State) (k : Cmd) (w0 : Nat) (w1 : Nat) (hm : s.memOk) : (State.judgeStart s k w0 w1).memOk := by
  unfold State.judgeStart
  with_reducible repeat' first | assumption | apply State.fly_mem | apply State.finish_mem | apply State.startCmd_mem | split | dsimp only | simp only [State.memOk_mk]

theorem State.takeRequest_mem (s : State) (op : Nat) (q : Request) (hm : s.memOk) : (State.takeRequest s op q).memOk := by
  unfold State.takeRequest
  with_reducible repeat' first | assumption | intro _ | apply State.judgeStart_mem | apply State.memOk_if | split | dsimp only

theorem State.release1_mem (s : State) (c : Nat) (hm : s.memOk) : (State.release1 s c).memOk := by
  unfold State.release1
  with_reducible repeat' first | assumption | intro _ | apply State.judgeStart_mem | apply State.memOk_if | split | dsimp only | simp only [State.memOk_mk]

theorem State.releaseHeld_mem (s : State) (hm : s.memOk) : (State.releaseHeld s).memOk := by
  unfold State.releaseHeld
  with_reducible repeat' first | assumption | intro _ | apply State.each_mem | apply State.release1_mem | split | dsimp only

theorem State.grantsPass_mem (s : State) (c : Nat) (hm : s.memOk) : (State.grantsPass s c).memOk := by
  unfold State.grantsPass
  with_reducible repeat' first | assumption | intro _ | apply State.memOk_if | split | dsimp only | simp only [State.memOk_mk]

theorem State.fetch_mem (s : State) (c : Nat) (words : List Nat) (hm : s.memOk) : (State.fetch s c words).memOk := by
  unfold State.fetch
  with_reducible repeat' first | assumption | intro _ | apply State.release1_mem | apply State.wr_mem | apply State.grantsPass_mem | apply State.fly_mem | apply State.judgeStart_mem | apply State.memOk_if | split | dsimp only | simp only [State.memOk_mk]

theorem execDescriptorFetch_mem (hc : Nat) (words : List Nat) (s : State) (res : State) (h : execDescriptorFetch hc words s = .next res) (hm : s.memOk) : res.memOk := by
  unfold execDescriptorFetch done at h
  rw [← Host.Outcome.next.inj h]
  with_reducible repeat' first | assumption | apply State.fetch_mem | apply State.settle_mem

theorem execNop_mem (q : Request) (s : State) (res : State) (h : execNop q s = .next res) (hm : s.memOk) : res.memOk := by
  unfold execNop done at h
  rw [← Host.Outcome.next.inj h]
  with_reducible repeat' first | assumption | apply State.takeRequest_mem | apply State.settle_mem

theorem execCmdAbort_mem (q : Request) (s : State) (res : State) (h : execCmdAbort q s = .next res) (hm : s.memOk) : res.memOk := by
  unfold execCmdAbort done at h
  rw [← Host.Outcome.next.inj h]
  with_reducible repeat' first | assumption | apply State.takeRequest_mem | apply State.settle_mem

theorem execCmdQuery_mem (q : Request) (s : State) (res : State) (h : execCmdQuery q s = .next res) (hm : s.memOk) : res.memOk := by
  unfold execCmdQuery done at h
  rw [← Host.Outcome.next.inj h]
  with_reducible repeat' first | assumption | apply State.takeRequest_mem | apply State.settle_mem

theorem execDomainOn_mem (q : Request) (s : State) (res : State) (h : execDomainOn q s = .next res) (hm : s.memOk) : res.memOk := by
  unfold execDomainOn done at h
  rw [← Host.Outcome.next.inj h]
  with_reducible repeat' first | assumption | apply State.takeRequest_mem | apply State.settle_mem

theorem execDomainOff_mem (q : Request) (s : State) (res : State) (h : execDomainOff q s = .next res) (hm : s.memOk) : res.memOk := by
  unfold execDomainOff done at h
  rw [← Host.Outcome.next.inj h]
  with_reducible repeat' first | assumption | apply State.takeRequest_mem | apply State.settle_mem

theorem execDeviceReset_mem (q : Request) (s : State) (res : State) (h : execDeviceReset q s = .next res) (hm : s.memOk) : res.memOk := by
  unfold execDeviceReset done at h
  rw [← Host.Outcome.next.inj h]
  with_reducible repeat' first | assumption | apply State.takeRequest_mem | apply State.settle_mem

theorem execLifecycleAdvance_mem (q : Request) (s : State) (res : State) (h : execLifecycleAdvance q s = .next res) (hm : s.memOk) : res.memOk := by
  unfold execLifecycleAdvance done at h
  rw [← Host.Outcome.next.inj h]
  with_reducible repeat' first | assumption | apply State.takeRequest_mem | apply State.settle_mem

theorem execPortEnable_mem (q : Request) (s : State) (res : State) (h : execPortEnable q s = .next res) (hm : s.memOk) : res.memOk := by
  unfold execPortEnable done at h
  rw [← Host.Outcome.next.inj h]
  with_reducible repeat' first | assumption | apply State.takeRequest_mem | apply State.settle_mem

theorem execPortDisable_mem (q : Request) (s : State) (res : State) (h : execPortDisable q s = .next res) (hm : s.memOk) : res.memOk := by
  unfold execPortDisable done at h
  rw [← Host.Outcome.next.inj h]
  with_reducible repeat' first | assumption | apply State.takeRequest_mem | apply State.settle_mem

theorem execTrunkEnable_mem (q : Request) (s : State) (res : State) (h : execTrunkEnable q s = .next res) (hm : s.memOk) : res.memOk := by
  unfold execTrunkEnable done at h
  rw [← Host.Outcome.next.inj h]
  with_reducible repeat' first | assumption | apply State.takeRequest_mem | apply State.settle_mem

theorem execTrunkDisable_mem (q : Request) (s : State) (res : State) (h : execTrunkDisable q s = .next res) (hm : s.memOk) : res.memOk := by
  unfold execTrunkDisable done at h
  rw [← Host.Outcome.next.inj h]
  with_reducible repeat' first | assumption | apply State.takeRequest_mem | apply State.settle_mem

theorem execQueueDisable_mem (q : Request) (s : State) (res : State) (h : execQueueDisable q s = .next res) (hm : s.memOk) : res.memOk := by
  unfold execQueueDisable done at h
  rw [← Host.Outcome.next.inj h]
  with_reducible repeat' first | assumption | apply State.takeRequest_mem | apply State.settle_mem

theorem execQueueEnable_mem (q : Request) (s : State) (res : State) (h : execQueueEnable q s = .next res) (hm : s.memOk) : res.memOk := by
  unfold execQueueEnable done at h
  rw [← Host.Outcome.next.inj h]
  with_reducible repeat' first | assumption | apply State.takeRequest_mem | apply State.settle_mem

theorem execTableWriteCritical_mem (q : Request) (s : State) (res : State) (h : execTableWriteCritical q s = .next res) (hm : s.memOk) : res.memOk := by
  unfold execTableWriteCritical done at h
  rw [← Host.Outcome.next.inj h]
  with_reducible repeat' first | assumption | apply State.takeRequest_mem | apply State.settle_mem

theorem execTableFence_mem (q : Request) (s : State) (res : State) (h : execTableFence q s = .next res) (hm : s.memOk) : res.memOk := by
  unfold execTableFence done at h
  rw [← Host.Outcome.next.inj h]
  with_reducible repeat' first | assumption | apply State.takeRequest_mem | apply State.settle_mem

theorem execTableFlush_mem (q : Request) (s : State) (res : State) (h : execTableFlush q s = .next res) (hm : s.memOk) : res.memOk := by
  unfold execTableFlush done at h
  rw [← Host.Outcome.next.inj h]
  with_reducible repeat' first | assumption | apply State.takeRequest_mem | apply State.settle_mem

theorem execWheyAudit_mem (q : Request) (s : State) (res : State) (h : execWheyAudit q s = .next res) (hm : s.memOk) : res.memOk := by
  unfold execWheyAudit done at h
  rw [← Host.Outcome.next.inj h]
  with_reducible repeat' first | assumption | apply State.takeRequest_mem | apply State.settle_mem

theorem execGateListInstall_mem (q : Request) (s : State) (res : State) (h : execGateListInstall q s = .next res) (hm : s.memOk) : res.memOk := by
  unfold execGateListInstall done at h
  rw [← Host.Outcome.next.inj h]
  with_reducible repeat' first | assumption | apply State.takeRequest_mem | apply State.settle_mem

theorem execTaskLoad_mem (q : Request) (s : State) (res : State) (h : execTaskLoad q s = .next res) (hm : s.memOk) : res.memOk := by
  unfold execTaskLoad done at h
  rw [← Host.Outcome.next.inj h]
  with_reducible repeat' first | assumption | apply State.takeRequest_mem | apply State.settle_mem

theorem execTaskStart_mem (q : Request) (s : State) (res : State) (h : execTaskStart q s = .next res) (hm : s.memOk) : res.memOk := by
  unfold execTaskStart done at h
  rw [← Host.Outcome.next.inj h]
  with_reducible repeat' first | assumption | apply State.takeRequest_mem | apply State.settle_mem

theorem execTaskStop_mem (q : Request) (s : State) (res : State) (h : execTaskStop q s = .next res) (hm : s.memOk) : res.memOk := by
  unfold execTaskStop done at h
  rw [← Host.Outcome.next.inj h]
  with_reducible repeat' first | assumption | apply State.takeRequest_mem | apply State.settle_mem

theorem execTcuFwStage_mem (q : Request) (s : State) (res : State) (h : execTcuFwStage q s = .next res) (hm : s.memOk) : res.memOk := by
  unfold execTcuFwStage done at h
  rw [← Host.Outcome.next.inj h]
  with_reducible repeat' first | assumption | apply State.takeRequest_mem | apply State.settle_mem

theorem execTcuSwitchover_mem (q : Request) (s : State) (res : State) (h : execTcuSwitchover q s = .next res) (hm : s.memOk) : res.memOk := by
  unfold execTcuSwitchover done at h
  rw [← Host.Outcome.next.inj h]
  with_reducible repeat' first | assumption | apply State.takeRequest_mem | apply State.settle_mem

theorem execTimeStep_mem (q : Request) (s : State) (res : State) (h : execTimeStep q s = .next res) (hm : s.memOk) : res.memOk := by
  unfold execTimeStep done at h
  rw [← Host.Outcome.next.inj h]
  with_reducible repeat' first | assumption | apply State.takeRequest_mem | apply State.settle_mem

theorem execTimeDomainSelect_mem (q : Request) (s : State) (res : State) (h : execTimeDomainSelect q s = .next res) (hm : s.memOk) : res.memOk := by
  unfold execTimeDomainSelect done at h
  rw [← Host.Outcome.next.inj h]
  with_reducible repeat' first | assumption | apply State.takeRequest_mem | apply State.settle_mem

theorem execCalRun_mem (q : Request) (s : State) (res : State) (h : execCalRun q s = .next res) (hm : s.memOk) : res.memOk := by
  unfold execCalRun done at h
  rw [← Host.Outcome.next.inj h]
  with_reducible repeat' first | assumption | apply State.takeRequest_mem | apply State.settle_mem

theorem execSpareApprove_mem (q : Request) (s : State) (res : State) (h : execSpareApprove q s = .next res) (hm : s.memOk) : res.memOk := by
  unfold execSpareApprove done at h
  rw [← Host.Outcome.next.inj h]
  with_reducible repeat' first | assumption | apply State.takeRequest_mem | apply State.settle_mem

theorem State.preRead_mem (s : State) (p : Nat) (b : Blk) (off : Nat) (hm : s.memOk) : (State.preRead s p b off).memOk := by
  unfold State.preRead
  with_reducible repeat' first | assumption | intro _ | apply State.loadRes_mem | apply State.txtsLoad_mem | apply State.smpLoad_mem | apply State.caveLatch_mem | apply State.memOk_if | split | dsimp only | simp only [State.memOk_mk]

theorem State.clearRead_mem (s : State) (p : Nat) (fs : List (Fld × Nat)) (hm : s.memOk) : (State.clearRead s p fs).memOk := by
  unfold State.clearRead
  with_reducible repeat' first | assumption | intro _ | apply State.wrI_mem | apply State.foldl_mem | apply State.memOk_if | split | dsimp only

theorem State.postRead_mem (s : State) (p : Nat) (b : Blk) (off : Nat) (hm : s.memOk) : (s.postRead p b off).memOk := by
  unfold State.postRead
  with_reducible repeat' first | assumption | intro _ | apply State.rxfRead_mem | apply State.popRes_mem | apply State.txtsPop_mem | apply State.smpPop_mem | apply State.ebRead_mem | apply State.octetsRead_mem | apply State.bump_mem | apply State.cadErrClear_mem | apply State.slackClear_mem | apply State.gwCntClear_mem | apply State.wr_mem | apply State.outNextWord_mem | apply State.shNext_mem | apply State.perfLatch_mem | apply State.imgNext_mem | apply State.memOk_if | split | dsimp only | simp only [State.memOk_mk]

theorem State.readVal_mem (s : State) (ctx a size : Nat) (hm : s.memOk) : (s.readVal ctx a size).2.memOk := by
  unfold State.readVal
  with_reducible repeat' first | assumption | intro _ | apply State.accErr_mem | apply State.preRead_mem | apply State.clearRead_mem | apply State.postRead_mem | apply State.memOk_if | split | dsimp only | simp only [State.memOk_mk]

theorem State.hostRead_mem (s : State) (ctx : Nat) (a : Nat) (size : Nat) (hm : s.memOk) : (State.hostRead s ctx a size).memOk := by
  unfold State.hostRead
  with_reducible repeat' first | assumption | intro _ | apply State.readVal_mem | apply State.emit_mem | apply State.memOk_if | dsimp only

theorem State.toTwin_mem (s : State) (p : Nat) (fs : List Fld) (hm : s.memOk) : (State.toTwin s p fs).memOk := by
  unfold State.toTwin
  with_reducible repeat' first | assumption | intro _ | apply State.copyFld_mem | apply State.foldl_mem | split | dsimp only

theorem State.toHolders_mem (old : State) (p : Nat) (fs : List Fld) (s : State) (hm : s.memOk) : (State.toHolders old p fs s).memOk := by
  unfold State.toHolders
  with_reducible repeat' first | assumption | intro _ | apply State.toTwin_mem | apply State.wr_mem | apply State.foldl_mem | apply State.memOk_if | split | dsimp only

theorem State.shadowToTwin_mem (s : State) (p : Nat) (f : Fld) (i : Nat) (hm : s.memOk) : (State.shadowToTwin s p f i).memOk := by
  unfold State.shadowToTwin
  with_reducible repeat' first | assumption | intro _ | apply State.memOk_if | split | dsimp only | simp only [State.memOk_mk]

theorem State.accepted_mem (s : State) (p : Nat) (fs : List Fld) (hm : s.memOk) : (State.accepted s p fs).memOk := by
  unfold State.accepted
  with_reducible repeat' first | assumption | intro _ | apply State.wr_mem | apply State.foldl_mem | split | dsimp only

theorem State.pageTaken_mem (s : State) (c : Nat) (p : Nat) (hm : s.memOk) : (State.pageTaken s c p).memOk := by
  unfold State.pageTaken
  with_reducible repeat' first | assumption | intro _ | apply State.memOk_if | split | dsimp only | simp only [State.memOk_mk]

theorem State.ownerWritten_mem (old : State) (p : Nat) (s : State) (hm : s.memOk) : (State.ownerWritten old p s).memOk := by
  unfold State.ownerWritten
  with_reducible repeat' first | assumption | intro _ | apply State.toTwin_mem | apply State.raiseHdr_mem | apply State.pageTaken_mem | apply State.bcastTo_mem | apply State.memOk_if | dsimp only

theorem State.causesWritten_mem (s : State) (p : Nat) (hm : s.memOk) : (State.causesWritten s p).memOk := by
  unfold State.causesWritten
  with_reducible repeat' first | assumption | apply State.raiseIf_mem | split | dsimp only | simp only [State.memOk_mk]

theorem State.hdrWritten_mem (old : State) (p : Nat) (off : Nat) (v : Nat) (s : State) (hm : s.memOk) : (State.hdrWritten old p off v s).memOk := by
  unfold State.hdrWritten
  with_reducible repeat' first | assumption | intro _ | apply State.ownerWritten_mem | apply State.causesWritten_mem | apply State.shadowCtl_mem | apply State.memOk_if

theorem State.hcWritten_mem (old : State) (c : Nat) (off : Nat) (v : Nat) (s : State) (hm : s.memOk) : (State.hcWritten old c off v s).memOk := by
  unfold State.hcWritten
  with_reducible repeat' first | assumption | intro _ | apply State.cplPump_mem | apply State.prodWritten_mem | apply State.onHost_mem | apply State.txfWrite_mem | apply State.memOk_if | split | dsimp only | simp only [State.memOk_mk]

theorem State.rateSrcWritten_mem (old : State) (t : Nat) (s : State) (hm : s.memOk) : (State.rateSrcWritten old t s).memOk := by
  unfold State.rateSrcWritten
  with_reducible repeat' first | assumption | intro _ | apply State.onFollowers_mem | apply State.copyFld_mem | apply State.driveRate_mem | apply State.memOk_if | split | dsimp only

theorem State.rateLimitWritten_mem (s : State) (t : Nat) (hm : s.memOk) : (State.rateLimitWritten s t).memOk := by
  unfold State.rateLimitWritten
  with_reducible repeat' first | assumption | intro _ | apply State.setRate_mem | apply State.setRateOne_mem | apply State.memOk_if | dsimp only

theorem State.timeWritten_mem (old : State) (t : Nat) (off : Nat) (v : Nat) (s : State) (hm : s.memOk) : (State.timeWritten old t off v s).memOk := by
  unfold State.timeWritten
  with_reducible repeat' first | assumption | intro _ | apply State.snap_mem | apply State.snapTrk_mem | apply State.rateSrcWritten_mem | apply State.rateLimitWritten_mem | apply State.memOk_if | dsimp only

theorem State.tdcWritten_mem (old : State) (t : Nat) (c : Nat) (off : Nat) (v : Nat) (s : State) (hm : s.memOk) : (State.tdcWritten old t c off v s).memOk := by
  unfold State.tdcWritten
  with_reducible repeat' first | assumption | intro _ | apply State.armWritten_mem | apply State.wr_mem | apply State.armInternal_mem | apply State.lutWrite_mem | apply State.memOk_if

theorem State.refselWritten_mem (old : State) (t : Nat) (off : Nat) (s : State) (hm : s.memOk) : (State.refselWritten old t off s).memOk := by
  unfold State.refselWritten
  with_reducible repeat' first | assumption | intro _ | apply State.reselect_mem | apply State.synceWritten_mem | apply State.candWritten_mem | apply State.memOk_if

theorem State.ptpWritten_mem (old : State) (t : Nat) (i : Nat) (off : Nat) (v : Nat) (s : State) (hm : s.memOk) : (State.ptpWritten old t i off v s).memOk := by
  unfold State.ptpWritten
  with_reducible repeat' first | assumption | intro _ | apply State.ptpEnWritten_mem | apply State.mirrorSel_mem | apply State.reselect_mem | apply State.trkMode_mem | apply State.trkClear_mem | apply State.smpPush_mem | apply State.memOk_if | dsimp only

theorem State.redWritten_mem (s : State) (p : Nat) (hm : s.memOk) : (State.redWritten s p).memOk := by
  unfold State.redWritten
  with_reducible repeat' first | assumption | intro _ | apply State.toTwin_mem | apply State.revertCheck_mem | dsimp only | simp only [State.memOk_mk]

theorem State.cadWritten_mem (old : State) (p : Nat) (off : Nat) (v : Nat) (s : State) (hm : s.memOk) : (State.cadWritten old p off v s).memOk := by
  unfold State.cadWritten
  with_reducible repeat' first | assumption | intro _ | apply State.toHolders_mem | apply State.shadowToTwin_mem | apply State.cadWrite_mem | apply State.cadRead_mem | apply State.accepted_mem | apply State.memOk_if | dsimp only

theorem State.gwWritten_mem (old : State) (p : Nat) (off : Nat) (v : Nat) (s : State) (hm : s.memOk) : (State.gwWritten old p off v s).memOk := by
  unfold State.gwWritten
  with_reducible repeat' first | assumption | intro _ | apply State.toHolders_mem | apply State.gwWrite_mem | apply State.gwRead_mem | apply State.accepted_mem | apply State.memOk_if | dsimp only

theorem State.tblWritten_mem (old : State) (p : Nat) (off : Nat) (v : Nat) (s : State) (hm : s.memOk) : (State.tblWritten old p off v s).memOk := by
  unfold State.tblWritten
  with_reducible repeat' first | assumption | intro _ | apply State.accepted_mem | apply State.winStart_mem | apply State.raiseIf_mem | apply State.memOk_if | dsimp only

theorem State.vatWritten_mem (off : Nat) (s : State) (hm : s.memOk) : (State.vatWritten off s).memOk := by
  unfold State.vatWritten
  with_reducible repeat' first | assumption | intro _ | apply State.each_mem | apply State.pressOf_mem | apply State.memOk_if | split | dsimp only

theorem State.shapeWritten_mem (off : Nat) (v : Nat) (s : State) (hm : s.memOk) : (State.shapeWritten off v s).memOk := by
  unfold State.shapeWritten
  with_reducible repeat' first | assumption | intro _ | apply State.shpWrite_mem | apply State.accepted_mem | apply State.shpRead_mem | apply State.memOk_if | dsimp only

theorem State.gateWritten_mem (old : State) (off : Nat) (v : Nat) (s : State) (hm : s.memOk) : (State.gateWritten old off v s).memOk := by
  unfold State.gateWritten
  with_reducible repeat' first | assumption | intro _ | apply State.gateWrite_mem | apply State.accepted_mem | apply State.gateRead_mem | apply State.touchPort_mem | apply State.accruePort_mem | apply State.memOk_if | dsimp only | simp only [State.memOk_mk]

theorem State.sampleWritten_mem (off : Nat) (s : State) (hm : s.memOk) : (State.sampleWritten off s).memOk := by
  unfold State.sampleWritten
  with_reducible repeat' first | assumption | intro _ | apply State.showRing_mem | apply State.wr_mem | apply State.memOk_if | dsimp only | simp only [State.memOk_mk]

theorem State.engWritten_mem (ctx : Nat) (e : Nat) (off : Nat) (v : Nat) (s : State) (hm : s.memOk) : (State.engWritten ctx e off v s).memOk := by
  unfold State.engWritten
  with_reducible repeat' first | assumption | intro _ | apply State.mbxStage_mem | apply State.mbxPush_mem | apply State.accepted_mem | apply State.mbxClear_mem | apply State.mbxPop_mem | apply State.memOk_if | dsimp only

theorem State.regEffect_mem (old : State) (ctx : Nat) (p : Nat) (off : Nat) (v : Nat) (s : State) (hm : s.memOk) : (State.regEffect old ctx p off v s).memOk := by
  unfold State.regEffect
  with_reducible repeat' first | assumption | intro _ | apply State.hdrWritten_mem | apply State.hcWritten_mem | apply State.timeWritten_mem | apply State.tdcWritten_mem | apply State.synCtlWritten_mem | apply State.refselWritten_mem | apply State.ptpWritten_mem | apply State.redWritten_mem | apply State.firWritten_mem | apply State.patWritten_mem | apply State.accruePort_mem | apply State.touchPort_mem | apply State.eyeStart_mem | apply State.estWritten_mem | apply State.cadWritten_mem | apply State.gwWritten_mem | apply State.tblWritten_mem | apply State.vatWritten_mem | apply State.voqLatch_mem | apply State.wheyWritten_mem | apply State.accrueAll_mem | apply State.shapeWritten_mem | apply State.gateWritten_mem | apply State.sampleWritten_mem | apply State.engWritten_mem | apply State.shWrite_mem | apply State.each_mem | apply State.perfSwitched_mem | apply State.perfSet_mem | apply State.perfStage_mem | apply State.suSnap_mem | apply State.bump_mem | apply State.calCtlWritten_mem | apply State.calCmd_mem | apply State.imgWrite_mem | apply State.caveWritten_mem | apply State.pushStart_mem | apply State.pushWord_mem | apply State.otpStart_mem | apply State.memOk_if | split | dsimp only | simp only [State.memOk_mk]

theorem State.hostWrite_mem (s : State) (ctx : Nat) (a : Nat) (size : Nat) (v : Nat) (hm : s.memOk) : (State.hostWrite s ctx a size v).memOk := by
  unfold State.hostWrite
  with_reducible repeat' first | assumption | intro _ | apply State.checkedWrite_mem | apply State.regEffect_mem | apply State.memOk_if | dsimp only

theorem State.write_mem (s : State) (ctx : Nat) (page : Nat) (off : Nat) (v : Nat) (hm : s.memOk) : (State.write s ctx page off v).memOk := by
  unfold State.write
  with_reducible repeat' first | assumption | apply State.hostWrite_mem

theorem State.read_mem (s : State) (ctx : Nat) (page : Nat) (off : Nat) (hm : s.memOk) : (State.read s ctx page off).memOk := by
  unfold State.read
  with_reducible repeat' first | assumption | apply State.hostRead_mem

theorem State.tick_mem (s : State) (hm : s.memOk) : (State.tick s).memOk := by
  unfold State.tick
  with_reducible repeat' first | assumption | apply State.settle_mem | apply State.advance_mem | apply State.releaseHeld_mem

theorem execSpiWriteFrame_mem (spi : Nat) (clocks : Nat) (addr : Nat) (data : Nat) (s : State) (res : State) (h : execSpiWriteFrame spi clocks addr data s = .next res) (hm : s.memOk) : res.memOk := by
  unfold execSpiWriteFrame done at h
  rw [← Host.Outcome.next.inj h]
  with_reducible repeat' first | assumption | intro _ | apply State.hostWrite_mem | apply State.memOk_if | apply State.settle_mem | split | simp only [State.memOk_mk]

theorem execSpiReadFrame_mem (spi : Nat) (clocks : Nat) (addr : Nat) (s : State) (res : State) (h : execSpiReadFrame spi clocks addr s = .next res) (hm : s.memOk) : res.memOk := by
  unfold execSpiReadFrame done at h
  rw [← Host.Outcome.next.inj h]
  with_reducible repeat' first | assumption | intro _ | apply State.emit_mem | apply State.hostRead_mem | apply State.memOk_if | apply State.settle_mem | split | dsimp only | simp only [State.memOk_mk]

theorem State.inbandOp_mem (s : State) (l : List Byte) (hm : s.memOk) : (s.inbandOp l).2.memOk := by
  unfold State.inbandOp
  with_reducible repeat' first | assumption | intro _ | apply State.readVal_mem | apply State.hostWrite_mem | apply State.foldl_mem | apply State.memOk_if | split | dsimp only | simp only [State.memOk_mk]

theorem State.inbandOps_mem (s : State) (l : List Byte) (n : Nat) (hm : s.memOk) : (s.inbandOps l n).2.memOk := by
  induction n generalizing s l with
  | zero => exact hm
  | succ n ih => exact ih _ _ (State.inbandOp_mem _ _ hm)

theorem State.inbandRequest_mem (s : State) (port sa : Nat) (l : List Byte) (hm : s.memOk) : (s.inbandRequest port sa l).memOk := by
  unfold State.inbandRequest
  with_reducible repeat' first | assumption | apply State.inc_mem | apply State.inbandSend_mem | apply State.onHost_mem | apply State.inbandOps_mem | unfold State.inbandRequest.answer | split | dsimp only

theorem execInbandRequest_mem (port : Nat) (sa : Nat) (payload : List Byte) (s : State) (res : State) (h : execInbandRequest port sa payload s = .next res) (hm : s.memOk) : res.memOk := by
  unfold execInbandRequest done at h
  rw [← Host.Outcome.next.inj h]
  with_reducible repeat' first | assumption | apply State.inbandRequest_mem | apply State.settle_mem

theorem execRegisterWrite_mem (ctx : Nat) (addr : Nat) (size : Nat) (data : Nat) (s : State) (res : State) (h : execRegisterWrite ctx addr size data s = .next res) (hm : s.memOk) : res.memOk := by
  unfold execRegisterWrite done at h
  rw [← Host.Outcome.next.inj h]
  with_reducible repeat' first | assumption | apply State.hostWrite_mem | apply State.settle_mem

theorem execCounterReadClear_mem (ctx : Nat) (addr : Nat) (s : State) (res : State) (h : execCounterReadClear ctx addr s = .next res) (hm : s.memOk) : res.memOk := by
  unfold execCounterReadClear done at h
  rw [← Host.Outcome.next.inj h]
  with_reducible repeat' first | assumption | apply State.hostRead_mem | apply State.settle_mem

theorem execAccessErrorRead_mem (ctx : Nat) (addr : Nat) (size : Nat) (s : State) (res : State) (h : execAccessErrorRead ctx addr size s = .next res) (hm : s.memOk) : res.memOk := by
  unfold execAccessErrorRead done at h
  rw [← Host.Outcome.next.inj h]
  with_reducible repeat' first | assumption | apply State.hostRead_mem | apply State.settle_mem

theorem execStatOctetsLoRead_mem (ctx : Nat) (port : Nat) (tx : Bool) (s : State) (res : State) (h : execStatOctetsLoRead ctx port tx s = .next res) (hm : s.memOk) : res.memOk := by
  unfold execStatOctetsLoRead done at h
  rw [← Host.Outcome.next.inj h]
  with_reducible repeat' first | assumption | intro _ | apply State.read_mem | apply State.memOk_if | apply State.settle_mem

theorem execHdrOwnerWrite_mem (ctx : Nat) (page : Nat) (data : Nat) (s : State) (res : State) (h : execHdrOwnerWrite ctx page data s = .next res) (hm : s.memOk) : res.memOk := by
  unfold execHdrOwnerWrite done at h
  rw [← Host.Outcome.next.inj h]
  with_reducible repeat' first | assumption | apply State.write_mem | apply State.settle_mem

theorem execLocked_mem (ctx : Nat) (page : Nat) (owner : Nat) (s : State) (res : State) (h : execLocked ctx page owner s = .next res) (hm : s.memOk) : res.memOk := by
  unfold execLocked done at h
  rw [← Host.Outcome.next.inj h]
  with_reducible repeat' first | assumption | apply State.write_mem | apply State.settle_mem

theorem execArm_mem (ctx : Nat) (page : Nat) (s : State) (res : State) (h : execArm ctx page s = .next res) (hm : s.memOk) : res.memOk := by
  unfold execArm done at h
  rw [← Host.Outcome.next.inj h]
  with_reducible repeat' first | assumption | apply State.write_mem | apply State.settle_mem

theorem execCancel_mem (ctx : Nat) (page : Nat) (s : State) (res : State) (h : execCancel ctx page s = .next res) (hm : s.memOk) : res.memOk := by
  unfold execCancel done at h
  rw [← Host.Outcome.next.inj h]
  with_reducible repeat' first | assumption | apply State.write_mem | apply State.settle_mem

theorem execCtxCtlWrite_mem (ctx : Nat) (data : Nat) (s : State) (res : State) (h : execCtxCtlWrite ctx data s = .next res) (hm : s.memOk) : res.memOk := by
  unfold execCtxCtlWrite done at h
  rw [← Host.Outcome.next.inj h]
  with_reducible repeat' first | assumption | apply State.write_mem | apply State.settle_mem

theorem execCmdProdWrite_mem (ctx : Nat) (data : Nat) (s : State) (res : State) (h : execCmdProdWrite ctx data s = .next res) (hm : s.memOk) : res.memOk := by
  unfold execCmdProdWrite done at h
  rw [← Host.Outcome.next.inj h]
  with_reducible repeat' first | assumption | apply State.write_mem | apply State.settle_mem

theorem execCplConsWrite_mem (ctx : Nat) (data : Nat) (s : State) (res : State) (h : execCplConsWrite ctx data s = .next res) (hm : s.memOk) : res.memOk := by
  unfold execCplConsWrite done at h
  rw [← Host.Outcome.next.inj h]
  with_reducible repeat' first | assumption | apply State.write_mem | apply State.settle_mem

theorem execIntRearm_mem (ctx : Nat) (s : State) (res : State) (h : execIntRearm ctx s = .next res) (hm : s.memOk) : res.memOk := by
  unfold execIntRearm done at h
  rw [← Host.Outcome.next.inj h]
  with_reducible repeat' first | assumption | apply State.write_mem | apply State.settle_mem

theorem execTxrProdWrite_mem (ctx : Nat) (data : Nat) (s : State) (res : State) (h : execTxrProdWrite ctx data s = .next res) (hm : s.memOk) : res.memOk := by
  unfold execTxrProdWrite done at h
  rw [← Host.Outcome.next.inj h]
  with_reducible repeat' first | assumption | apply State.write_mem | apply State.settle_mem

theorem execRxrProdWrite_mem (ctx : Nat) (data : Nat) (s : State) (res : State) (h : execRxrProdWrite ctx data s = .next res) (hm : s.memOk) : res.memOk := by
  unfold execRxrProdWrite done at h
  rw [← Host.Outcome.next.inj h]
  with_reducible repeat' first | assumption | apply State.write_mem | apply State.settle_mem

theorem execPktRxfDataRead_mem (ctx : Nat) (s : State) (res : State) (h : execPktRxfDataRead ctx s = .next res) (hm : s.memOk) : res.memOk := by
  unfold execPktRxfDataRead done at h
  rw [← Host.Outcome.next.inj h]
  with_reducible repeat' first | assumption | apply State.read_mem | apply State.settle_mem

theorem execPktTxfDataWrite_mem (ctx : Nat) (data : Nat) (s : State) (res : State) (h : execPktTxfDataWrite ctx data s = .next res) (hm : s.memOk) : res.memOk := by
  unfold execPktTxfDataWrite done at h
  rw [← Host.Outcome.next.inj h]
  with_reducible repeat' first | assumption | apply State.write_mem | apply State.settle_mem

theorem execTimeSnap_mem (ctx : Nat) (t : Nat) (s : State) (res : State) (h : execTimeSnap ctx t s = .next res) (hm : s.memOk) : res.memOk := by
  unfold execTimeSnap done at h
  rw [← Host.Outcome.next.inj h]
  with_reducible repeat' first | assumption | apply State.write_mem | apply State.settle_mem

theorem execTdcArmNow_mem (ctx : Nat) (t : Nat) (c : Nat) (s : State) (res : State) (h : execTdcArmNow ctx t c s = .next res) (hm : s.memOk) : res.memOk := by
  unfold execTdcArmNow done at h
  rw [← Host.Outcome.next.inj h]
  with_reducible repeat' first | assumption | apply State.write_mem | apply State.settle_mem

theorem execTdcRes0Read_mem (ctx : Nat) (t : Nat) (c : Nat) (s : State) (res : State) (h : execTdcRes0Read ctx t c s = .next res) (hm : s.memOk) : res.memOk := by
  unfold execTdcRes0Read done at h
  rw [← Host.Outcome.next.inj h]
  with_reducible repeat' first | assumption | apply State.read_mem | apply State.settle_mem

theorem execTdcRes4Read_mem (ctx : Nat) (t : Nat) (c : Nat) (s : State) (res : State) (h : execTdcRes4Read ctx t c s = .next res) (hm : s.memOk) : res.memOk := by
  unfold execTdcRes4Read done at h
  rw [← Host.Outcome.next.inj h]
  with_reducible repeat' first | assumption | apply State.read_mem | apply State.settle_mem

theorem execTdcLutDataWrite_mem (ctx : Nat) (t : Nat) (c : Nat) (data : Nat) (s : State) (res : State) (h : execTdcLutDataWrite ctx t c data s = .next res) (hm : s.memOk) : res.memOk := by
  unfold execTdcLutDataWrite done at h
  rw [← Host.Outcome.next.inj h]
  with_reducible repeat' first | assumption | apply State.write_mem | apply State.settle_mem

theorem execSynCtlWrite_mem (ctx : Nat) (t : Nat) (data : Nat) (s : State) (res : State) (h : execSynCtlWrite ctx t data s = .next res) (hm : s.memOk) : res.memOk := by
  unfold execSynCtlWrite done at h
  rw [← Host.Outcome.next.inj h]
  with_reducible repeat' first | assumption | apply State.write_mem | apply State.settle_mem

theorem execCandCfgWrite_mem (ctx : Nat) (t : Nat) (slot : Nat) (reg : Nat) (data : Nat) (s : State) (res : State) (h : execCandCfgWrite ctx t slot reg data s = .next res) (hm : s.memOk) : res.memOk := by
  unfold execCandCfgWrite done at h
  rw [← Host.Outcome.next.inj h]
  with_reducible repeat' first | assumption | apply State.write_mem | apply State.settle_mem

theorem execRefselSynceWrite_mem (ctx : Nat) (t : Nat) (data : Nat) (s : State) (res : State) (h : execRefselSynceWrite ctx t data s = .next res) (hm : s.memOk) : res.memOk := by
  unfold execRefselSynceWrite done at h
  rw [← Host.Outcome.next.inj h]
  with_reducible repeat' first | assumption | apply State.write_mem | apply State.settle_mem

theorem execRefselCtlWrite_mem (ctx : Nat) (t : Nat) (data : Nat) (s : State) (res : State) (h : execRefselCtlWrite ctx t data s = .next res) (hm : s.memOk) : res.memOk := by
  unfold execRefselCtlWrite done at h
  rw [← Host.Outcome.next.inj h]
  with_reducible repeat' first | assumption | apply State.write_mem | apply State.settle_mem

theorem execPtpTxts0Read_mem (ctx : Nat) (t : Nat) (i : Nat) (s : State) (res : State) (h : execPtpTxts0Read ctx t i s = .next res) (hm : s.memOk) : res.memOk := by
  unfold execPtpTxts0Read done at h
  rw [← Host.Outcome.next.inj h]
  with_reducible repeat' first | assumption | apply State.read_mem | apply State.settle_mem

theorem execPtpTxts3Read_mem (ctx : Nat) (t : Nat) (i : Nat) (s : State) (res : State) (h : execPtpTxts3Read ctx t i s = .next res) (hm : s.memOk) : res.memOk := by
  unfold execPtpTxts3Read done at h
  rw [← Host.Outcome.next.inj h]
  with_reducible repeat' first | assumption | apply State.read_mem | apply State.settle_mem

theorem execPtpTrkClear_mem (ctx : Nat) (t : Nat) (i : Nat) (s : State) (res : State) (h : execPtpTrkClear ctx t i s = .next res) (hm : s.memOk) : res.memOk := by
  unfold execPtpTrkClear done at h
  rw [← Host.Outcome.next.inj h]
  with_reducible repeat' first | assumption | apply State.write_mem | apply State.settle_mem

theorem execPtpSmpPush_mem (ctx : Nat) (t : Nat) (i : Nat) (s : State) (res : State) (h : execPtpSmpPush ctx t i s = .next res) (hm : s.memOk) : res.memOk := by
  unfold execPtpSmpPush done at h
  rw [← Host.Outcome.next.inj h]
  with_reducible repeat' first | assumption | apply State.write_mem | apply State.settle_mem

theorem execTcuRedCtlWrite_mem (ctx : Nat) (t : Nat) (data : Nat) (s : State) (res : State) (h : execTcuRedCtlWrite ctx t data s = .next res) (hm : s.memOk) : res.memOk := by
  unfold execTcuRedCtlWrite done at h
  rw [← Host.Outcome.next.inj h]
  with_reducible repeat' first | assumption | apply State.write_mem | apply State.settle_mem

theorem execEyeStart_mem (ctx : Nat) (port : Nat) (data : Nat) (s : State) (res : State) (h : execEyeStart ctx port data s = .next res) (hm : s.memOk) : res.memOk := by
  unfold execEyeStart done at h
  rw [← Host.Outcome.next.inj h]
  with_reducible repeat' first | assumption | apply State.write_mem | apply State.settle_mem

theorem execCadTblWrite_mem (ctx : Nat) (t : Nat) (s : State) (res : State) (h : execCadTblWrite ctx t s = .next res) (hm : s.memOk) : res.memOk := by
  unfold execCadTblWrite done at h
  rw [← Host.Outcome.next.inj h]
  with_reducible repeat' first | assumption | apply State.write_mem | apply State.settle_mem

theorem execCadTblRead_mem (ctx : Nat) (t : Nat) (s : State) (res : State) (h : execCadTblRead ctx t s = .next res) (hm : s.memOk) : res.memOk := by
  unfold execCadTblRead done at h
  rw [← Host.Outcome.next.inj h]
  with_reducible repeat' first | assumption | apply State.write_mem | apply State.settle_mem

theorem execGwTplWrite_mem (ctx : Nat) (t : Nat) (s : State) (res : State) (h : execGwTplWrite ctx t s = .next res) (hm : s.memOk) : res.memOk := by
  unfold execGwTplWrite done at h
  rw [← Host.Outcome.next.inj h]
  with_reducible repeat' first | assumption | apply State.write_mem | apply State.settle_mem

theorem execGwTplRead_mem (ctx : Nat) (t : Nat) (s : State) (res : State) (h : execGwTplRead ctx t s = .next res) (hm : s.memOk) : res.memOk := by
  unfold execGwTplRead done at h
  rw [← Host.Outcome.next.inj h]
  with_reducible repeat' first | assumption | apply State.write_mem | apply State.settle_mem

theorem execTblRead_mem (ctx : Nat) (w : Nat) (s : State) (res : State) (h : execTblRead ctx w s = .next res) (hm : s.memOk) : res.memOk := by
  unfold execTblRead done at h
  rw [← Host.Outcome.next.inj h]
  with_reducible repeat' first | assumption | apply State.write_mem | apply State.settle_mem

theorem execTblWrite_mem (ctx : Nat) (w : Nat) (s : State) (res : State) (h : execTblWrite ctx w s = .next res) (hm : s.memOk) : res.memOk := by
  unfold execTblWrite done at h
  rw [← Host.Outcome.next.inj h]
  with_reducible repeat' first | assumption | apply State.write_mem | apply State.settle_mem

theorem execTblLookup_mem (ctx : Nat) (w : Nat) (s : State) (res : State) (h : execTblLookup ctx w s = .next res) (hm : s.memOk) : res.memOk := by
  unfold execTblLookup done at h
  rw [← Host.Outcome.next.inj h]
  with_reducible repeat' first | assumption | apply State.write_mem | apply State.settle_mem

theorem execTblInsert_mem (ctx : Nat) (w : Nat) (s : State) (res : State) (h : execTblInsert ctx w s = .next res) (hm : s.memOk) : res.memOk := by
  unfold execTblInsert done at h
  rw [← Host.Outcome.next.inj h]
  with_reducible repeat' first | assumption | apply State.write_mem | apply State.settle_mem

theorem execTblDelete_mem (ctx : Nat) (w : Nat) (s : State) (res : State) (h : execTblDelete ctx w s = .next res) (hm : s.memOk) : res.memOk := by
  unfold execTblDelete done at h
  rw [← Host.Outcome.next.inj h]
  with_reducible repeat' first | assumption | apply State.write_mem | apply State.settle_mem

theorem execClearHit_mem (ctx : Nat) (w : Nat) (s : State) (res : State) (h : execClearHit ctx w s = .next res) (hm : s.memOk) : res.memOk := by
  unfold execClearHit done at h
  rw [← Host.Outcome.next.inj h]
  with_reducible repeat' first | assumption | apply State.write_mem | apply State.settle_mem

theorem execMactSeedWrite_mem (ctx : Nat) (w : Nat) (data : Nat) (s : State) (res : State) (h : execMactSeedWrite ctx w data s = .next res) (hm : s.memOk) : res.memOk := by
  unfold execMactSeedWrite done at h
  rw [← Host.Outcome.next.inj h]
  with_reducible repeat' first | assumption | apply State.write_mem | apply State.settle_mem

theorem execLpmLenWrite_mem (ctx : Nat) (w : Nat) (off : Nat) (data : Nat) (s : State) (res : State) (h : execLpmLenWrite ctx w off data s = .next res) (hm : s.memOk) : res.memOk := by
  unfold execLpmLenWrite done at h
  rw [← Host.Outcome.next.inj h]
  with_reducible repeat' first | assumption | apply State.write_mem | apply State.settle_mem

theorem execVoqSelWrite_mem (ctx : Nat) (data : Nat) (s : State) (res : State) (h : execVoqSelWrite ctx data s = .next res) (hm : s.memOk) : res.memOk := by
  unfold execVoqSelWrite done at h
  rw [← Host.Outcome.next.inj h]
  with_reducible repeat' first | assumption | apply State.write_mem | apply State.settle_mem

theorem execShpWrite_mem (ctx : Nat) (atCommit : Bool) (s : State) (res : State) (h : execShpWrite ctx atCommit s = .next res) (hm : s.memOk) : res.memOk := by
  unfold execShpWrite done at h
  rw [← Host.Outcome.next.inj h]
  with_reducible repeat' first | assumption | apply State.write_mem | apply State.settle_mem

theorem execShpRead_mem (ctx : Nat) (s : State) (res : State) (h : execShpRead ctx s = .next res) (hm : s.memOk) : res.memOk := by
  unfold execShpRead done at h
  rw [← Host.Outcome.next.inj h]
  with_reducible repeat' first | assumption | apply State.write_mem | apply State.settle_mem

theorem execGateWrite_mem (ctx : Nat) (s : State) (res : State) (h : execGateWrite ctx s = .next res) (hm : s.memOk) : res.memOk := by
  unfold execGateWrite done at h
  rw [← Host.Outcome.next.inj h]
  with_reducible repeat' first | assumption | apply State.write_mem | apply State.settle_mem

theorem execGateRead_mem (ctx : Nat) (s : State) (res : State) (h : execGateRead ctx s = .next res) (hm : s.memOk) : res.memOk := by
  unfold execGateRead done at h
  rw [← Host.Outcome.next.inj h]
  with_reducible repeat' first | assumption | apply State.write_mem | apply State.settle_mem

theorem execSmpRd0Read_mem (ctx : Nat) (s : State) (res : State) (h : execSmpRd0Read ctx s = .next res) (hm : s.memOk) : res.memOk := by
  unfold execSmpRd0Read done at h
  rw [← Host.Outcome.next.inj h]
  with_reducible repeat' first | assumption | apply State.read_mem | apply State.settle_mem

theorem execSmpRd3Read_mem (ctx : Nat) (s : State) (res : State) (h : execSmpRd3Read ctx s = .next res) (hm : s.memOk) : res.memOk := by
  unfold execSmpRd3Read done at h
  rw [← Host.Outcome.next.inj h]
  with_reducible repeat' first | assumption | apply State.read_mem | apply State.settle_mem

theorem execMbxPush_mem (ctx : Nat) (e : Nat) (s : State) (res : State) (h : execMbxPush ctx e s = .next res) (hm : s.memOk) : res.memOk := by
  unfold execMbxPush done at h
  rw [← Host.Outcome.next.inj h]
  with_reducible repeat' first | assumption | apply State.write_mem | apply State.settle_mem

theorem execMbxClear_mem (ctx : Nat) (e : Nat) (s : State) (res : State) (h : execMbxClear ctx e s = .next res) (hm : s.memOk) : res.memOk := by
  unfold execMbxClear done at h
  rw [← Host.Outcome.next.inj h]
  with_reducible repeat' first | assumption | apply State.write_mem | apply State.settle_mem

theorem execMbxDataWrite_mem (ctx : Nat) (e : Nat) (data : Nat) (s : State) (res : State) (h : execMbxDataWrite ctx e data s = .next res) (hm : s.memOk) : res.memOk := by
  unfold execMbxDataWrite done at h
  rw [← Host.Outcome.next.inj h]
  with_reducible repeat' first | assumption | apply State.write_mem | apply State.settle_mem

theorem execMbxOutPop_mem (ctx : Nat) (e : Nat) (s : State) (res : State) (h : execMbxOutPop ctx e s = .next res) (hm : s.memOk) : res.memOk := by
  unfold execMbxOutPop done at h
  rw [← Host.Outcome.next.inj h]
  with_reducible repeat' first | assumption | apply State.write_mem | apply State.settle_mem

theorem execMbxOutDataRead_mem (ctx : Nat) (e : Nat) (s : State) (res : State) (h : execMbxOutDataRead ctx e s = .next res) (hm : s.memOk) : res.memOk := by
  unfold execMbxOutDataRead done at h
  rw [← Host.Outcome.next.inj h]
  with_reducible repeat' first | assumption | apply State.read_mem | apply State.settle_mem

theorem execShDataAccess_mem (ctx : Nat) (write : Bool) (data : Nat) (s : State) (res : State) (h : execShDataAccess ctx write data s = .next res) (hm : s.memOk) : res.memOk := by
  unfold execShDataAccess done at h
  rw [← Host.Outcome.next.inj h]
  with_reducible repeat' first | assumption | intro _ | apply State.write_mem | apply State.read_mem | apply State.memOk_if | apply State.settle_mem

theorem execPcValLoRead_mem (ctx : Nat) (n : Nat) (s : State) (res : State) (h : execPcValLoRead ctx n s = .next res) (hm : s.memOk) : res.memOk := by
  unfold execPcValLoRead done at h
  rw [← Host.Outcome.next.inj h]
  with_reducible repeat' first | assumption | apply State.read_mem | apply State.settle_mem

theorem execPcValLoWrite_mem (ctx : Nat) (n : Nat) (data : Nat) (s : State) (res : State) (h : execPcValLoWrite ctx n data s = .next res) (hm : s.memOk) : res.memOk := by
  unfold execPcValLoWrite done at h
  rw [← Host.Outcome.next.inj h]
  with_reducible repeat' first | assumption | apply State.write_mem | apply State.settle_mem

theorem execPerfRunWrite_mem (ctx : Nat) (data : Nat) (s : State) (res : State) (h : execPerfRunWrite ctx data s = .next res) (hm : s.memOk) : res.memOk := by
  unfold execPerfRunWrite done at h
  rw [← Host.Outcome.next.inj h]
  with_reducible repeat' first | assumption | apply State.write_mem | apply State.settle_mem

theorem execSuSnap_mem (ctx : Nat) (s : State) (res : State) (h : execSuSnap ctx s = .next res) (hm : s.memOk) : res.memOk := by
  unfold execSuSnap done at h
  rw [← Host.Outcome.next.inj h]
  with_reducible repeat' first | assumption | apply State.write_mem | apply State.settle_mem

theorem execCalCapture_mem (ctx : Nat) (s : State) (res : State) (h : execCalCapture ctx s = .next res) (hm : s.memOk) : res.memOk := by
  unfold execCalCapture done at h
  rw [← Host.Outcome.next.inj h]
  with_reducible repeat' first | assumption | apply State.write_mem | apply State.settle_mem

theorem execCalApply_mem (ctx : Nat) (s : State) (res : State) (h : execCalApply ctx s = .next res) (hm : s.memOk) : res.memOk := by
  unfold execCalApply done at h
  rw [← Host.Outcome.next.inj h]
  with_reducible repeat' first | assumption | apply State.write_mem | apply State.settle_mem

theorem execCalImgDataAccess_mem (ctx : Nat) (write : Bool) (data : Nat) (s : State) (res : State) (h : execCalImgDataAccess ctx write data s = .next res) (hm : s.memOk) : res.memOk := by
  unfold execCalImgDataAccess done at h
  rw [← Host.Outcome.next.inj h]
  with_reducible repeat' first | assumption | intro _ | apply State.write_mem | apply State.read_mem | apply State.memOk_if | apply State.settle_mem

theorem execBootPushLenWrite_mem (ctx : Nat) (data : Nat) (s : State) (res : State) (h : execBootPushLenWrite ctx data s = .next res) (hm : s.memOk) : res.memOk := by
  unfold execBootPushLenWrite done at h
  rw [← Host.Outcome.next.inj h]
  with_reducible repeat' first | assumption | apply State.write_mem | apply State.settle_mem

theorem execBootPushDataWrite_mem (ctx : Nat) (data : Nat) (s : State) (res : State) (h : execBootPushDataWrite ctx data s = .next res) (hm : s.memOk) : res.memOk := by
  unfold execBootPushDataWrite done at h
  rw [← Host.Outcome.next.inj h]
  with_reducible repeat' first | assumption | apply State.write_mem | apply State.settle_mem

theorem execOtpProg_mem (ctx : Nat) (s : State) (res : State) (h : execOtpProg ctx s = .next res) (hm : s.memOk) : res.memOk := by
  unfold execOtpProg done at h
  rw [← Host.Outcome.next.inj h]
  with_reducible repeat' first | assumption | apply State.write_mem | apply State.settle_mem



end Sys2Proof.Machine
end

