-- ==== Sys2Proof/Laws/Regs.lean ====
section
/-! SUPPORT. Reading a register field after the operations that write registers: the field written, every other field, and what interrupts, errors and the end of a command leave. -/

namespace Sys2Proof.Machine

open Sys2Proof

/-! ### Places -/

theorem key_mod (p : Nat) (f : Fld) (i : Nat) : f.key p i % 32768 = f.place i := by
  simp only [Fld.key, Fld.place]; omega

theorem key_ne_of_place {f g : Fld} {i j : Nat} (p q : Nat) (h : f.place i ≠ g.place j) : g.key q j ≠ f.key p i := by
  intro e; apply h; rw [← key_mod p f i, ← key_mod q g j, e]

theorem key_ne_of_page {f g : Fld} {i j p q : Nat} (hf : f.inPage i = true) (hg : g.inPage j = true) (h : p ≠ q) : g.key q j ≠ f.key p i := by
  simp only [Fld.inPage, decide_eq_true_eq] at hf hg
  simp only [Fld.key]; intro e; apply h; omega

/-! ### The elementary write -/

@[simp] theorem State.rdI_wrI_same (s : State) (p : Nat) (f : Fld) (i v : Nat) : (s.wrI p f i v).rdI p f i = v % 2 ^ f.w := by
  simp [State.rdI, State.wrI]

theorem State.rdI_wrI_key (s : State) (p q : Nat) (f g : Fld) (i j v : Nat) (h : g.key q j ≠ f.key p i) :
    (s.wrI p f i v).rdI q g j = s.rdI q g j := by
  unfold State.rdI State.wrI; dsimp only; rw [look_put_other _ _ _ _ h]

/-- A write of one field leaves a field at another place of any page. -/
theorem State.rdI_wrI_place (s : State) (p q : Nat) (f g : Fld) (i j v : Nat) (h : f.place i ≠ g.place j) :
    (s.wrI p f i v).rdI q g j = s.rdI q g j := State.rdI_wrI_key s p q f g i j v (key_ne_of_place p q h)

/-- A write of one page leaves every field of another. -/
theorem State.rdI_wrI_page (s : State) {p q : Nat} (f g : Fld) (i j v : Nat) (hf : f.inPage i = true) (hg : g.inPage j = true) (h : p ≠ q) :
    (s.wrI p f i v).rdI q g j = s.rdI q g j := State.rdI_wrI_key s p q f g i j v (key_ne_of_page hf hg h)

/-! ### Whole fields -/

theorem State.rd_eq (s : State) (p : Nat) (f : Fld) : s.rd p f = s.rdI p f 0 := rfl
theorem State.wr_eq (s : State) (p : Nat) (f : Fld) (v : Nat) : s.wr p f v = s.wrI p f 0 v := rfl

@[simp] theorem State.rd_wr_same (s : State) (p : Nat) (f : Fld) (v : Nat) : (s.wr p f v).rd p f = v % 2 ^ f.w := State.rdI_wrI_same s p f 0 v

theorem State.rd_wr_place (s : State) (p q : Nat) (f g : Fld) (v : Nat) (h : f.place 0 ≠ g.place 0) : (s.wr p f v).rd q g = s.rd q g :=
  State.rdI_wrI_place s p q f g 0 0 v h

theorem State.rd_wr_page (s : State) {p q : Nat} (f g : Fld) (v : Nat) (hf : f.inPage 0 = true) (hg : g.inPage 0 = true) (h : p ≠ q) :
    (s.wr p f v).rd q g = s.rd q g := State.rdI_wrI_page s f g 0 0 v hf hg h

theorem State.rdI_wr_place (s : State) (p q : Nat) (f g : Fld) (j v : Nat) (h : f.place 0 ≠ g.place j) : (s.wr p f v).rdI q g j = s.rdI q g j :=
  State.rdI_wrI_place s p q f g 0 j v h

theorem State.rd_wrI_place (s : State) (p q : Nat) (f g : Fld) (i v : Nat) (h : f.place i ≠ g.place 0) : (s.wrI p f i v).rd q g = s.rd q g :=
  State.rdI_wrI_place s p q f g i 0 v h

theorem State.rd_lt (s : State) (p : Nat) (f : Fld) : s.rd p f < 2 ^ f.w := Nat.mod_lt _ (Nat.two_pow_pos _)
theorem State.rdI_lt (s : State) (p : Nat) (f : Fld) (i : Nat) : s.rdI p f i < 2 ^ f.w := Nat.mod_lt _ (Nat.two_pow_pos _)

/-! ### Reads see the registers alone -/

theorem State.rdI_congr {s t : State} (h : t.regs = s.regs) (p : Nat) (f : Fld) (i : Nat) : t.rdI p f i = s.rdI p f i := by
  unfold State.rdI; rw [h]

theorem State.rd_congr {s t : State} (h : t.regs = s.regs) (p : Nat) (f : Fld) : t.rd p f = s.rd p f := State.rdI_congr h p f 0

theorem State.flag_congr {s t : State} (h : t.regs = s.regs) (p : Nat) (f : Fld) : t.flag p f = s.flag p f := by
  unfold State.flag; rw [State.rd_congr h]

/-! ### Causes -/

theorem State.rd_setCause (s : State) (p q m : Nat) (g : Fld) (h : R.HDR.HDR_INT_CAUSE.place 0 ≠ g.place 0) : (s.setCause p m).rd q g = s.rd q g :=
  State.rd_wr_place _ _ _ _ _ _ h

theorem State.rd_raise (s : State) (p q b : Nat) (g : Fld) (h : R.HDR.HDR_INT_CAUSE.place 0 ≠ g.place 0) : (s.raise p b).rd q g = s.rd q g := by
  unfold State.raise; split
  · rfl
  · exact State.rd_setCause s p q _ g h

theorem State.rdI_raise (s : State) (p q b : Nat) (g : Fld) (j : Nat) (h : R.HDR.HDR_INT_CAUSE.place 0 ≠ g.place j) :
    (s.raise p b).rdI q g j = s.rdI q g j := by
  unfold State.raise; split
  · rfl
  · exact State.rdI_wrI_place _ _ _ _ _ _ _ _ h

theorem State.rd_raiseHdr (s : State) (p q b : Nat) (g : Fld) (h : R.HDR.HDR_INT_CAUSE.place 0 ≠ g.place 0) : (s.raiseHdr p b).rd q g = s.rd q g :=
  State.rd_setCause s p q _ g h

theorem State.rd_raiseIf (s : State) (c : Bool) (p q b : Nat) (g : Fld) (h : R.HDR.HDR_INT_CAUSE.place 0 ≠ g.place 0) :
    (s.raiseIf c p b).rd q g = s.rd q g := by
  unfold State.raiseIf; split
  · exact State.rd_raise s p q b g h
  · rfl

theorem State.rd_bcastTo (s : State) (c b q : Nat) (g : Fld) (h : R.HC.BCAST_CAUSE.place 0 ≠ g.place 0) : (s.bcastTo c b).rd q g = s.rd q g :=
  State.rd_wr_place _ _ _ _ _ _ h

/-! ### Folds over the numbers below a bound -/

/-- What each step of a counted fold keeps, the fold keeps. -/
theorem State.each_keeps {α : Type} (P : State → α) (n : Nat) (f : Nat → State → State) (s : State) (h : ∀ i a, P (f i a) = P a) : P (s.each n f) = P s := by
  unfold State.each
  generalize List.range n = l
  induction l generalizing s with
  | nil => rfl
  | cons b l ih => rw [List.foldl_cons, ih, h]

theorem State.rd_bcast (s : State) (b q : Nat) (g : Fld) (h : R.HC.BCAST_CAUSE.place 0 ≠ g.place 0) : (s.bcast b).rd q g = s.rd q g := by
  unfold State.bcast
  refine State.each_keeps (fun s => s.rd q g) 4 _ s (fun c a => ?_)
  split
  · exact State.rd_bcastTo a c b q g h
  · rfl

theorem or_testBit (a b : Nat) : (a ||| 2 ^ b).testBit b = true := by simp

/-- A cause raised on a page whose domain is on is recorded. -/
theorem State.raise_cause (s : State) (p b : Nat) (hb : b < 30) (h : s.pwr (pageDomain p) ≠ 0) :
    bitAt ((s.raise p b).rd p R.HDR.HDR_INT_CAUSE) b = true := by
  unfold State.raise; rw [if_neg h]
  unfold State.setCause bitAt
  rw [State.rd_wr_same, show R.HDR.HDR_INT_CAUSE.w = 30 from rfl, Nat.testBit_mod_two_pow]
  simp [hb]

/-- Causes stay recorded when more are raised. -/
theorem State.raise_keeps (s : State) (p q b c : Nat) (h : bitAt (s.rd p R.HDR.HDR_INT_CAUSE) c = true) :
    bitAt ((s.raise q b).rd p R.HDR.HDR_INT_CAUSE) c = true := by
  unfold State.raise; split
  · exact h
  · unfold State.setCause
    by_cases e : p = q
    · subst e
      have hc : c < 30 := by
        by_contra hn
        have := Nat.testBit_lt_two_pow (lt_of_lt_of_le (State.rd_lt s p R.HDR.HDR_INT_CAUSE) (Nat.pow_le_pow_right (by decide) (show 30 ≤ c by omega)))
        rw [bitAt, this] at h; cases h
      rw [State.rd_wr_same, show R.HDR.HDR_INT_CAUSE.w = 30 from rfl, bitAt, Nat.testBit_mod_two_pow]
      simp only [bitAt] at h
      simp [hc, h]
    · rw [State.rd_wr_page _ _ _ _ (by decide) (by decide) (Ne.symm e)]; exact h

end Sys2Proof.Machine
end

