-- ==== Sys2Proof/Laws/State.lean ====
section
/-! SUPPORT. What each elementary update of the state leaves: one lemma per update and field, true by unfolding. -/

namespace Sys2Proof.Machine

open Sys2Proof

section
variable (s : State) (p : Nat) (f : Fld) (i v : Nat)
@[simp] theorem State.wrI_pending : (s.wrI p f i v).pending = s.pending := rfl
@[simp] theorem State.wrI_shadow : (s.wrI p f i v).shadow = s.shadow := rfl
@[simp] theorem State.wrI_commitSec : (s.wrI p f i v).commitSec = s.commitSec := rfl
@[simp] theorem State.wrI_free : (s.wrI p f i v).free = s.free := rfl
@[simp] theorem State.wrI_out : (s.wrI p f i v).out = s.out := rfl
@[simp] theorem State.wrI_hosts : (s.wrI p f i v).hosts = s.hosts := rfl
@[simp] theorem State.wrI_cmds : (s.wrI p f i v).cmds = s.cmds := rfl
@[simp] theorem State.wrI_grants : (s.wrI p f i v).grants = s.grants := rfl
@[simp] theorem State.wrI_slots : (s.wrI p f i v).slots = s.slots := rfl
@[simp] theorem State.wrI_phase : (s.wrI p f i v).phase = s.phase := rfl
@[simp] theorem State.wrI_straps : (s.wrI p f i v).straps = s.straps := rfl
@[simp] theorem State.wrI_tcus : (s.wrI p f i v).tcus = s.tcus := rfl
@[simp] theorem State.wrI_fw : (s.wrI p f i v).fw = s.fw := rfl
@[simp] theorem State.wrI_gatePins : (s.wrI p f i v).gatePins = s.gatePins := rfl
@[simp] theorem State.wrI_calHead : (s.wrI p f i v).calHead = s.calHead := rfl
@[simp] theorem State.wrI_calRunning : (s.wrI p f i v).calRunning = s.calRunning := rfl
@[simp] theorem State.wrI_switch : (s.wrI p f i v).switch = s.switch := rfl
@[simp] theorem State.wrI_reverting : (s.wrI p f i v).reverting = s.reverting := rfl
@[simp] theorem State.wrI_revertAt : (s.wrI p f i v).revertAt = s.revertAt := rfl
@[simp] theorem State.wrI_judging : (s.wrI p f i v).judging = s.judging := rfl
@[simp] theorem State.wrI_up : (s.wrI p f i v).up = s.up := rfl
@[simp] theorem State.wrI_engines : (s.wrI p f i v).engines = s.engines := rfl
@[simp] theorem State.wrI_shmem : (s.wrI p f i v).shmem = s.shmem := rfl
@[simp] theorem State.wrI_frames : (s.wrI p f i v).frames = s.frames := rfl
@[simp] theorem State.wrI_cells : (s.wrI p f i v).cells = s.cells := rfl
@[simp] theorem State.wrI_nextS : (s.wrI p f i v).nextS = s.nextS := rfl
@[simp] theorem State.wrI_nextL : (s.wrI p f i v).nextL = s.nextL := rfl
@[simp] theorem State.wrI_voqs : (s.wrI p f i v).voqs = s.voqs := rfl
@[simp] theorem State.wrI_txs : (s.wrI p f i v).txs = s.txs := rfl
@[simp] theorem State.wrI_macs : (s.wrI p f i v).macs = s.macs := rfl
@[simp] theorem State.wrI_pressOwn : (s.wrI p f i v).pressOwn = s.pressOwn := rfl
@[simp] theorem State.wrI_pressShared : (s.wrI p f i v).pressShared = s.pressShared := rfl
@[simp] theorem State.wrI_fus : (s.wrI p f i v).fus = s.fus := rfl
@[simp] theorem State.wrI_txts : (s.wrI p f i v).txts = s.txts := rfl
@[simp] theorem State.wrI_walk : (s.wrI p f i v).walk = s.walk := rfl
@[simp] theorem State.wrI_wheyDue : (s.wrI p f i v).wheyDue = s.wheyDue := rfl
@[simp] theorem State.wrI_subs : (s.wrI p f i v).subs = s.subs := rfl
@[simp] theorem State.wrI_lostCopies : (s.wrI p f i v).lostCopies = s.lostCopies := rfl
@[simp] theorem State.wrI_fences : (s.wrI p f i v).fences = s.fences := rfl
@[simp] theorem State.wrI_nodes : (s.wrI p f i v).nodes = s.nodes := rfl
@[simp] theorem State.wrI_shpUntil : (s.wrI p f i v).shpUntil = s.shpUntil := rfl
@[simp] theorem State.wrI_heldShapes : (s.wrI p f i v).heldShapes = s.heldShapes := rfl
@[simp] theorem State.wrI_gates : (s.wrI p f i v).gates = s.gates := rfl
@[simp] theorem State.wrI_gateCopy : (s.wrI p f i v).gateCopy = s.gateCopy := rfl
@[simp] theorem State.wrI_gwq : (s.wrI p f i v).gwq = s.gwq := rfl
@[simp] theorem State.wrI_watch : (s.wrI p f i v).watch = s.watch := rfl
@[simp] theorem State.wrI_samples : (s.wrI p f i v).samples = s.samples := rfl
@[simp] theorem State.wrI_smpSeq : (s.wrI p f i v).smpSeq = s.smpSeq := rfl
@[simp] theorem State.wrI_smpSkipped : (s.wrI p f i v).smpSkipped = s.smpSkipped := rfl
@[simp] theorem State.wrI_smpAt : (s.wrI p f i v).smpAt = s.smpAt := rfl
@[simp] theorem State.wrI_smpUntil : (s.wrI p f i v).smpUntil = s.smpUntil := rfl
@[simp] theorem State.wrI_smpRun : (s.wrI p f i v).smpRun = s.smpRun := rfl
@[simp] theorem State.wrI_tabs : (s.wrI p f i v).tabs = s.tabs := rfl
@[simp] theorem State.wrI_learnq : (s.wrI p f i v).learnq = s.learnq := rfl
@[simp] theorem State.wrI_crossing : (s.wrI p f i v).crossing = s.crossing := rfl
@[simp] theorem State.wrI_learnAt : (s.wrI p f i v).learnAt = s.learnAt := rfl
@[simp] theorem State.wrI_moves : (s.wrI p f i v).moves = s.moves := rfl
@[simp] theorem State.wrI_hits : (s.wrI p f i v).hits = s.hits := rfl
@[simp] theorem State.wrI_winOps : (s.wrI p f i v).winOps = s.winOps := rfl
@[simp] theorem State.wrI_shadows : (s.wrI p f i v).shadows = s.shadows := rfl
@[simp] theorem State.wrI_slotNext : (s.wrI p f i v).slotNext = s.slotNext := rfl
@[simp] theorem State.wrI_slotFirst : (s.wrI p f i v).slotFirst = s.slotFirst := rfl
@[simp] theorem State.wrI_lanes : (s.wrI p f i v).lanes = s.lanes := rfl
@[simp] theorem State.wrI_trunks : (s.wrI p f i v).trunks = s.trunks := rfl
@[simp] theorem State.wrI_ntTimes : (s.wrI p f i v).ntTimes = s.ntTimes := rfl
@[simp] theorem State.wrI_cadTab : (s.wrI p f i v).cadTab = s.cadTab := rfl
@[simp] theorem State.wrI_cadSrc : (s.wrI p f i v).cadSrc = s.cadSrc := rfl
@[simp] theorem State.wrI_cadFrom : (s.wrI p f i v).cadFrom = s.cadFrom := rfl
@[simp] theorem State.wrI_cadOld : (s.wrI p f i v).cadOld = s.cadOld := rfl
@[simp] theorem State.wrI_cadRcs : (s.wrI p f i v).cadRcs = s.cadRcs := rfl
@[simp] theorem State.wrI_cadErr : (s.wrI p f i v).cadErr = s.cadErr := rfl
@[simp] theorem State.wrI_gwTpl : (s.wrI p f i v).gwTpl = s.gwTpl := rfl
@[simp] theorem State.wrI_gwWin : (s.wrI p f i v).gwWin = s.gwWin := rfl
@[simp] theorem State.wrI_gwCnt : (s.wrI p f i v).gwCnt = s.gwCnt := rfl
@[simp] theorem State.wrI_wear : (s.wrI p f i v).wear = s.wear := rfl
@[simp] theorem State.wrI_swaps : (s.wrI p f i v).swaps = s.swaps := rfl
@[simp] theorem State.wrI_swapNext : (s.wrI p f i v).swapNext = s.swapNext := rfl
@[simp] theorem State.wrI_caveRead : (s.wrI p f i v).caveRead = s.caveRead := rfl
@[simp] theorem State.wrI_swapWait : (s.wrI p f i v).swapWait = s.swapWait := rfl
@[simp] theorem State.wrI_rowMap : (s.wrI p f i v).rowMap = s.rowMap := rfl
@[simp] theorem State.wrI_image : (s.wrI p f i v).image = s.image := rfl
@[simp] theorem State.wrI_applied : (s.wrI p f i v).applied = s.applied := rfl
@[simp] theorem State.wrI_perfs : (s.wrI p f i v).perfs = s.perfs := rfl
@[simp] theorem State.wrI_slotUse : (s.wrI p f i v).slotUse = s.slotUse := rfl
@[simp] theorem State.wrI_events : (s.wrI p f i v).events = s.events := rfl
@[simp] theorem State.wrI_slotSeen : (s.wrI p f i v).slotSeen = s.slotSeen := rfl
@[simp] theorem State.wrI_resetCauses : (s.wrI p f i v).resetCauses = s.resetCauses := rfl
@[simp] theorem State.wrI_sagSupply : (s.wrI p f i v).sagSupply = s.sagSupply := rfl
@[simp] theorem State.wrI_porstLow : (s.wrI p f i v).porstLow = s.porstLow := rfl
@[simp] theorem State.wrI_outsAt : (s.wrI p f i v).outsAt = s.outsAt := rfl
@[simp] theorem State.wrI_tapIr : (s.wrI p f i v).tapIr = s.tapIr := rfl
@[simp] theorem State.wrI_bsr : (s.wrI p f i v).bsr = s.bsr := rfl
@[simp] theorem State.wrI_thermalHold : (s.wrI p f i v).thermalHold = s.thermalHold := rfl
@[simp] theorem State.wrI_coolAt : (s.wrI p f i v).coolAt = s.coolAt := rfl
@[simp] theorem State.wrI_hot : (s.wrI p f i v).hot = s.hot := rfl
@[simp] theorem State.wrI_wiping : (s.wrI p f i v).wiping = s.wiping := rfl
@[simp] theorem State.wrI_startWait : (s.wrI p f i v).startWait = s.startWait := rfl
@[simp] theorem State.wrI_onAtReset : (s.wrI p f i v).onAtReset = s.onAtReset := rfl
@[simp] theorem State.wrI_releasedAt : (s.wrI p f i v).releasedAt = s.releasedAt := rfl
@[simp] theorem State.wrI_serial : (s.wrI p f i v).serial = s.serial := rfl
@[simp] theorem State.wrI_lifeCycle : (s.wrI p f i v).lifeCycle = s.lifeCycle := rfl
@[simp] theorem State.wrI_keyHash : (s.wrI p f i v).keyHash = s.keyHash := rfl
@[simp] theorem State.wrI_otp : (s.wrI p f i v).otp = s.otp := rfl
@[simp] theorem State.wrI_otpProg : (s.wrI p f i v).otpProg = s.otpProg := rfl
@[simp] theorem State.wrI_lifeProg : (s.wrI p f i v).lifeProg = s.lifeProg := rfl
@[simp] theorem State.wrI_bootNext : (s.wrI p f i v).bootNext = s.bootNext := rfl
@[simp] theorem State.wrI_bootTcu : (s.wrI p f i v).bootTcu = s.bootTcu := rfl
@[simp] theorem State.wrI_booted : (s.wrI p f i v).booted = s.booted := rfl
@[simp] theorem State.wrI_pushLen : (s.wrI p f i v).pushLen = s.pushLen := rfl
@[simp] theorem State.wrI_pushed : (s.wrI p f i v).pushed = s.pushed := rfl
@[simp] theorem State.wrI_perstHigh : (s.wrI p f i v).perstHigh = s.perstHigh := rfl
end

section
variable (s : State) (p : Nat) (f : Fld) (v : Nat)
@[simp] theorem State.wr_pending : (s.wr p f v).pending = s.pending := rfl
@[simp] theorem State.wr_shadow : (s.wr p f v).shadow = s.shadow := rfl
@[simp] theorem State.wr_commitSec : (s.wr p f v).commitSec = s.commitSec := rfl
@[simp] theorem State.wr_free : (s.wr p f v).free = s.free := rfl
@[simp] theorem State.wr_out : (s.wr p f v).out = s.out := rfl
@[simp] theorem State.wr_hosts : (s.wr p f v).hosts = s.hosts := rfl
@[simp] theorem State.wr_cmds : (s.wr p f v).cmds = s.cmds := rfl
@[simp] theorem State.wr_grants : (s.wr p f v).grants = s.grants := rfl
@[simp] theorem State.wr_slots : (s.wr p f v).slots = s.slots := rfl
@[simp] theorem State.wr_phase : (s.wr p f v).phase = s.phase := rfl
@[simp] theorem State.wr_straps : (s.wr p f v).straps = s.straps := rfl
@[simp] theorem State.wr_tcus : (s.wr p f v).tcus = s.tcus := rfl
@[simp] theorem State.wr_fw : (s.wr p f v).fw = s.fw := rfl
@[simp] theorem State.wr_gatePins : (s.wr p f v).gatePins = s.gatePins := rfl
@[simp] theorem State.wr_calHead : (s.wr p f v).calHead = s.calHead := rfl
@[simp] theorem State.wr_calRunning : (s.wr p f v).calRunning = s.calRunning := rfl
@[simp] theorem State.wr_switch : (s.wr p f v).switch = s.switch := rfl
@[simp] theorem State.wr_reverting : (s.wr p f v).reverting = s.reverting := rfl
@[simp] theorem State.wr_revertAt : (s.wr p f v).revertAt = s.revertAt := rfl
@[simp] theorem State.wr_judging : (s.wr p f v).judging = s.judging := rfl
@[simp] theorem State.wr_up : (s.wr p f v).up = s.up := rfl
@[simp] theorem State.wr_engines : (s.wr p f v).engines = s.engines := rfl
@[simp] theorem State.wr_shmem : (s.wr p f v).shmem = s.shmem := rfl
@[simp] theorem State.wr_frames : (s.wr p f v).frames = s.frames := rfl
@[simp] theorem State.wr_cells : (s.wr p f v).cells = s.cells := rfl
@[simp] theorem State.wr_nextS : (s.wr p f v).nextS = s.nextS := rfl
@[simp] theorem State.wr_nextL : (s.wr p f v).nextL = s.nextL := rfl
@[simp] theorem State.wr_voqs : (s.wr p f v).voqs = s.voqs := rfl
@[simp] theorem State.wr_txs : (s.wr p f v).txs = s.txs := rfl
@[simp] theorem State.wr_macs : (s.wr p f v).macs = s.macs := rfl
@[simp] theorem State.wr_pressOwn : (s.wr p f v).pressOwn = s.pressOwn := rfl
@[simp] theorem State.wr_pressShared : (s.wr p f v).pressShared = s.pressShared := rfl
@[simp] theorem State.wr_fus : (s.wr p f v).fus = s.fus := rfl
@[simp] theorem State.wr_txts : (s.wr p f v).txts = s.txts := rfl
@[simp] theorem State.wr_walk : (s.wr p f v).walk = s.walk := rfl
@[simp] theorem State.wr_wheyDue : (s.wr p f v).wheyDue = s.wheyDue := rfl
@[simp] theorem State.wr_subs : (s.wr p f v).subs = s.subs := rfl
@[simp] theorem State.wr_lostCopies : (s.wr p f v).lostCopies = s.lostCopies := rfl
@[simp] theorem State.wr_fences : (s.wr p f v).fences = s.fences := rfl
@[simp] theorem State.wr_nodes : (s.wr p f v).nodes = s.nodes := rfl
@[simp] theorem State.wr_shpUntil : (s.wr p f v).shpUntil = s.shpUntil := rfl
@[simp] theorem State.wr_heldShapes : (s.wr p f v).heldShapes = s.heldShapes := rfl
@[simp] theorem State.wr_gates : (s.wr p f v).gates = s.gates := rfl
@[simp] theorem State.wr_gateCopy : (s.wr p f v).gateCopy = s.gateCopy := rfl
@[simp] theorem State.wr_gwq : (s.wr p f v).gwq = s.gwq := rfl
@[simp] theorem State.wr_watch : (s.wr p f v).watch = s.watch := rfl
@[simp] theorem State.wr_samples : (s.wr p f v).samples = s.samples := rfl
@[simp] theorem State.wr_smpSeq : (s.wr p f v).smpSeq = s.smpSeq := rfl
@[simp] theorem State.wr_smpSkipped : (s.wr p f v).smpSkipped = s.smpSkipped := rfl
@[simp] theorem State.wr_smpAt : (s.wr p f v).smpAt = s.smpAt := rfl
@[simp] theorem State.wr_smpUntil : (s.wr p f v).smpUntil = s.smpUntil := rfl
@[simp] theorem State.wr_smpRun : (s.wr p f v).smpRun = s.smpRun := rfl
@[simp] theorem State.wr_tabs : (s.wr p f v).tabs = s.tabs := rfl
@[simp] theorem State.wr_learnq : (s.wr p f v).learnq = s.learnq := rfl
@[simp] theorem State.wr_crossing : (s.wr p f v).crossing = s.crossing := rfl
@[simp] theorem State.wr_learnAt : (s.wr p f v).learnAt = s.learnAt := rfl
@[simp] theorem State.wr_moves : (s.wr p f v).moves = s.moves := rfl
@[simp] theorem State.wr_hits : (s.wr p f v).hits = s.hits := rfl
@[simp] theorem State.wr_winOps : (s.wr p f v).winOps = s.winOps := rfl
@[simp] theorem State.wr_shadows : (s.wr p f v).shadows = s.shadows := rfl
@[simp] theorem State.wr_slotNext : (s.wr p f v).slotNext = s.slotNext := rfl
@[simp] theorem State.wr_slotFirst : (s.wr p f v).slotFirst = s.slotFirst := rfl
@[simp] theorem State.wr_lanes : (s.wr p f v).lanes = s.lanes := rfl
@[simp] theorem State.wr_trunks : (s.wr p f v).trunks = s.trunks := rfl
@[simp] theorem State.wr_ntTimes : (s.wr p f v).ntTimes = s.ntTimes := rfl
@[simp] theorem State.wr_cadTab : (s.wr p f v).cadTab = s.cadTab := rfl
@[simp] theorem State.wr_cadSrc : (s.wr p f v).cadSrc = s.cadSrc := rfl
@[simp] theorem State.wr_cadFrom : (s.wr p f v).cadFrom = s.cadFrom := rfl
@[simp] theorem State.wr_cadOld : (s.wr p f v).cadOld = s.cadOld := rfl
@[simp] theorem State.wr_cadRcs : (s.wr p f v).cadRcs = s.cadRcs := rfl
@[simp] theorem State.wr_cadErr : (s.wr p f v).cadErr = s.cadErr := rfl
@[simp] theorem State.wr_gwTpl : (s.wr p f v).gwTpl = s.gwTpl := rfl
@[simp] theorem State.wr_gwWin : (s.wr p f v).gwWin = s.gwWin := rfl
@[simp] theorem State.wr_gwCnt : (s.wr p f v).gwCnt = s.gwCnt := rfl
@[simp] theorem State.wr_wear : (s.wr p f v).wear = s.wear := rfl
@[simp] theorem State.wr_swaps : (s.wr p f v).swaps = s.swaps := rfl
@[simp] theorem State.wr_swapNext : (s.wr p f v).swapNext = s.swapNext := rfl
@[simp] theorem State.wr_caveRead : (s.wr p f v).caveRead = s.caveRead := rfl
@[simp] theorem State.wr_swapWait : (s.wr p f v).swapWait = s.swapWait := rfl
@[simp] theorem State.wr_rowMap : (s.wr p f v).rowMap = s.rowMap := rfl
@[simp] theorem State.wr_image : (s.wr p f v).image = s.image := rfl
@[simp] theorem State.wr_applied : (s.wr p f v).applied = s.applied := rfl
@[simp] theorem State.wr_perfs : (s.wr p f v).perfs = s.perfs := rfl
@[simp] theorem State.wr_slotUse : (s.wr p f v).slotUse = s.slotUse := rfl
@[simp] theorem State.wr_events : (s.wr p f v).events = s.events := rfl
@[simp] theorem State.wr_slotSeen : (s.wr p f v).slotSeen = s.slotSeen := rfl
@[simp] theorem State.wr_resetCauses : (s.wr p f v).resetCauses = s.resetCauses := rfl
@[simp] theorem State.wr_sagSupply : (s.wr p f v).sagSupply = s.sagSupply := rfl
@[simp] theorem State.wr_porstLow : (s.wr p f v).porstLow = s.porstLow := rfl
@[simp] theorem State.wr_outsAt : (s.wr p f v).outsAt = s.outsAt := rfl
@[simp] theorem State.wr_tapIr : (s.wr p f v).tapIr = s.tapIr := rfl
@[simp] theorem State.wr_bsr : (s.wr p f v).bsr = s.bsr := rfl
@[simp] theorem State.wr_thermalHold : (s.wr p f v).thermalHold = s.thermalHold := rfl
@[simp] theorem State.wr_coolAt : (s.wr p f v).coolAt = s.coolAt := rfl
@[simp] theorem State.wr_hot : (s.wr p f v).hot = s.hot := rfl
@[simp] theorem State.wr_wiping : (s.wr p f v).wiping = s.wiping := rfl
@[simp] theorem State.wr_startWait : (s.wr p f v).startWait = s.startWait := rfl
@[simp] theorem State.wr_onAtReset : (s.wr p f v).onAtReset = s.onAtReset := rfl
@[simp] theorem State.wr_releasedAt : (s.wr p f v).releasedAt = s.releasedAt := rfl
@[simp] theorem State.wr_serial : (s.wr p f v).serial = s.serial := rfl
@[simp] theorem State.wr_lifeCycle : (s.wr p f v).lifeCycle = s.lifeCycle := rfl
@[simp] theorem State.wr_keyHash : (s.wr p f v).keyHash = s.keyHash := rfl
@[simp] theorem State.wr_otp : (s.wr p f v).otp = s.otp := rfl
@[simp] theorem State.wr_otpProg : (s.wr p f v).otpProg = s.otpProg := rfl
@[simp] theorem State.wr_lifeProg : (s.wr p f v).lifeProg = s.lifeProg := rfl
@[simp] theorem State.wr_bootNext : (s.wr p f v).bootNext = s.bootNext := rfl
@[simp] theorem State.wr_bootTcu : (s.wr p f v).bootTcu = s.bootTcu := rfl
@[simp] theorem State.wr_booted : (s.wr p f v).booted = s.booted := rfl
@[simp] theorem State.wr_pushLen : (s.wr p f v).pushLen = s.pushLen := rfl
@[simp] theorem State.wr_pushed : (s.wr p f v).pushed = s.pushed := rfl
@[simp] theorem State.wr_perstHigh : (s.wr p f v).perstHigh = s.perstHigh := rfl
end

section
variable (s : State) (p m : Nat)
@[simp] theorem State.setCause_pending : (s.setCause p m).pending = s.pending := rfl
@[simp] theorem State.setCause_shadow : (s.setCause p m).shadow = s.shadow := rfl
@[simp] theorem State.setCause_commitSec : (s.setCause p m).commitSec = s.commitSec := rfl
@[simp] theorem State.setCause_free : (s.setCause p m).free = s.free := rfl
@[simp] theorem State.setCause_out : (s.setCause p m).out = s.out := rfl
@[simp] theorem State.setCause_hosts : (s.setCause p m).hosts = s.hosts := rfl
@[simp] theorem State.setCause_cmds : (s.setCause p m).cmds = s.cmds := rfl
@[simp] theorem State.setCause_grants : (s.setCause p m).grants = s.grants := rfl
@[simp] theorem State.setCause_slots : (s.setCause p m).slots = s.slots := rfl
@[simp] theorem State.setCause_phase : (s.setCause p m).phase = s.phase := rfl
@[simp] theorem State.setCause_straps : (s.setCause p m).straps = s.straps := rfl
@[simp] theorem State.setCause_tcus : (s.setCause p m).tcus = s.tcus := rfl
@[simp] theorem State.setCause_fw : (s.setCause p m).fw = s.fw := rfl
@[simp] theorem State.setCause_gatePins : (s.setCause p m).gatePins = s.gatePins := rfl
@[simp] theorem State.setCause_calHead : (s.setCause p m).calHead = s.calHead := rfl
@[simp] theorem State.setCause_calRunning : (s.setCause p m).calRunning = s.calRunning := rfl
@[simp] theorem State.setCause_switch : (s.setCause p m).switch = s.switch := rfl
@[simp] theorem State.setCause_reverting : (s.setCause p m).reverting = s.reverting := rfl
@[simp] theorem State.setCause_revertAt : (s.setCause p m).revertAt = s.revertAt := rfl
@[simp] theorem State.setCause_judging : (s.setCause p m).judging = s.judging := rfl
@[simp] theorem State.setCause_up : (s.setCause p m).up = s.up := rfl
@[simp] theorem State.setCause_engines : (s.setCause p m).engines = s.engines := rfl
@[simp] theorem State.setCause_shmem : (s.setCause p m).shmem = s.shmem := rfl
@[simp] theorem State.setCause_frames : (s.setCause p m).frames = s.frames := rfl
@[simp] theorem State.setCause_cells : (s.setCause p m).cells = s.cells := rfl
@[simp] theorem State.setCause_nextS : (s.setCause p m).nextS = s.nextS := rfl
@[simp] theorem State.setCause_nextL : (s.setCause p m).nextL = s.nextL := rfl
@[simp] theorem State.setCause_voqs : (s.setCause p m).voqs = s.voqs := rfl
@[simp] theorem State.setCause_txs : (s.setCause p m).txs = s.txs := rfl
@[simp] theorem State.setCause_macs : (s.setCause p m).macs = s.macs := rfl
@[simp] theorem State.setCause_pressOwn : (s.setCause p m).pressOwn = s.pressOwn := rfl
@[simp] theorem State.setCause_pressShared : (s.setCause p m).pressShared = s.pressShared := rfl
@[simp] theorem State.setCause_fus : (s.setCause p m).fus = s.fus := rfl
@[simp] theorem State.setCause_txts : (s.setCause p m).txts = s.txts := rfl
@[simp] theorem State.setCause_walk : (s.setCause p m).walk = s.walk := rfl
@[simp] theorem State.setCause_wheyDue : (s.setCause p m).wheyDue = s.wheyDue := rfl
@[simp] theorem State.setCause_subs : (s.setCause p m).subs = s.subs := rfl
@[simp] theorem State.setCause_lostCopies : (s.setCause p m).lostCopies = s.lostCopies := rfl
@[simp] theorem State.setCause_fences : (s.setCause p m).fences = s.fences := rfl
@[simp] theorem State.setCause_nodes : (s.setCause p m).nodes = s.nodes := rfl
@[simp] theorem State.setCause_shpUntil : (s.setCause p m).shpUntil = s.shpUntil := rfl
@[simp] theorem State.setCause_heldShapes : (s.setCause p m).heldShapes = s.heldShapes := rfl
@[simp] theorem State.setCause_gates : (s.setCause p m).gates = s.gates := rfl
@[simp] theorem State.setCause_gateCopy : (s.setCause p m).gateCopy = s.gateCopy := rfl
@[simp] theorem State.setCause_gwq : (s.setCause p m).gwq = s.gwq := rfl
@[simp] theorem State.setCause_watch : (s.setCause p m).watch = s.watch := rfl
@[simp] theorem State.setCause_samples : (s.setCause p m).samples = s.samples := rfl
@[simp] theorem State.setCause_smpSeq : (s.setCause p m).smpSeq = s.smpSeq := rfl
@[simp] theorem State.setCause_smpSkipped : (s.setCause p m).smpSkipped = s.smpSkipped := rfl
@[simp] theorem State.setCause_smpAt : (s.setCause p m).smpAt = s.smpAt := rfl
@[simp] theorem State.setCause_smpUntil : (s.setCause p m).smpUntil = s.smpUntil := rfl
@[simp] theorem State.setCause_smpRun : (s.setCause p m).smpRun = s.smpRun := rfl
@[simp] theorem State.setCause_tabs : (s.setCause p m).tabs = s.tabs := rfl
@[simp] theorem State.setCause_learnq : (s.setCause p m).learnq = s.learnq := rfl
@[simp] theorem State.setCause_crossing : (s.setCause p m).crossing = s.crossing := rfl
@[simp] theorem State.setCause_learnAt : (s.setCause p m).learnAt = s.learnAt := rfl
@[simp] theorem State.setCause_moves : (s.setCause p m).moves = s.moves := rfl
@[simp] theorem State.setCause_hits : (s.setCause p m).hits = s.hits := rfl
@[simp] theorem State.setCause_winOps : (s.setCause p m).winOps = s.winOps := rfl
@[simp] theorem State.setCause_shadows : (s.setCause p m).shadows = s.shadows := rfl
@[simp] theorem State.setCause_slotNext : (s.setCause p m).slotNext = s.slotNext := rfl
@[simp] theorem State.setCause_slotFirst : (s.setCause p m).slotFirst = s.slotFirst := rfl
@[simp] theorem State.setCause_lanes : (s.setCause p m).lanes = s.lanes := rfl
@[simp] theorem State.setCause_trunks : (s.setCause p m).trunks = s.trunks := rfl
@[simp] theorem State.setCause_ntTimes : (s.setCause p m).ntTimes = s.ntTimes := rfl
@[simp] theorem State.setCause_cadTab : (s.setCause p m).cadTab = s.cadTab := rfl
@[simp] theorem State.setCause_cadSrc : (s.setCause p m).cadSrc = s.cadSrc := rfl
@[simp] theorem State.setCause_cadFrom : (s.setCause p m).cadFrom = s.cadFrom := rfl
@[simp] theorem State.setCause_cadOld : (s.setCause p m).cadOld = s.cadOld := rfl
@[simp] theorem State.setCause_cadRcs : (s.setCause p m).cadRcs = s.cadRcs := rfl
@[simp] theorem State.setCause_cadErr : (s.setCause p m).cadErr = s.cadErr := rfl
@[simp] theorem State.setCause_gwTpl : (s.setCause p m).gwTpl = s.gwTpl := rfl
@[simp] theorem State.setCause_gwWin : (s.setCause p m).gwWin = s.gwWin := rfl
@[simp] theorem State.setCause_gwCnt : (s.setCause p m).gwCnt = s.gwCnt := rfl
@[simp] theorem State.setCause_wear : (s.setCause p m).wear = s.wear := rfl
@[simp] theorem State.setCause_swaps : (s.setCause p m).swaps = s.swaps := rfl
@[simp] theorem State.setCause_swapNext : (s.setCause p m).swapNext = s.swapNext := rfl
@[simp] theorem State.setCause_caveRead : (s.setCause p m).caveRead = s.caveRead := rfl
@[simp] theorem State.setCause_swapWait : (s.setCause p m).swapWait = s.swapWait := rfl
@[simp] theorem State.setCause_rowMap : (s.setCause p m).rowMap = s.rowMap := rfl
@[simp] theorem State.setCause_image : (s.setCause p m).image = s.image := rfl
@[simp] theorem State.setCause_applied : (s.setCause p m).applied = s.applied := rfl
@[simp] theorem State.setCause_perfs : (s.setCause p m).perfs = s.perfs := rfl
@[simp] theorem State.setCause_slotUse : (s.setCause p m).slotUse = s.slotUse := rfl
@[simp] theorem State.setCause_events : (s.setCause p m).events = s.events := rfl
@[simp] theorem State.setCause_slotSeen : (s.setCause p m).slotSeen = s.slotSeen := rfl
@[simp] theorem State.setCause_resetCauses : (s.setCause p m).resetCauses = s.resetCauses := rfl
@[simp] theorem State.setCause_sagSupply : (s.setCause p m).sagSupply = s.sagSupply := rfl
@[simp] theorem State.setCause_porstLow : (s.setCause p m).porstLow = s.porstLow := rfl
@[simp] theorem State.setCause_outsAt : (s.setCause p m).outsAt = s.outsAt := rfl
@[simp] theorem State.setCause_tapIr : (s.setCause p m).tapIr = s.tapIr := rfl
@[simp] theorem State.setCause_bsr : (s.setCause p m).bsr = s.bsr := rfl
@[simp] theorem State.setCause_thermalHold : (s.setCause p m).thermalHold = s.thermalHold := rfl
@[simp] theorem State.setCause_coolAt : (s.setCause p m).coolAt = s.coolAt := rfl
@[simp] theorem State.setCause_hot : (s.setCause p m).hot = s.hot := rfl
@[simp] theorem State.setCause_wiping : (s.setCause p m).wiping = s.wiping := rfl
@[simp] theorem State.setCause_startWait : (s.setCause p m).startWait = s.startWait := rfl
@[simp] theorem State.setCause_onAtReset : (s.setCause p m).onAtReset = s.onAtReset := rfl
@[simp] theorem State.setCause_releasedAt : (s.setCause p m).releasedAt = s.releasedAt := rfl
@[simp] theorem State.setCause_serial : (s.setCause p m).serial = s.serial := rfl
@[simp] theorem State.setCause_lifeCycle : (s.setCause p m).lifeCycle = s.lifeCycle := rfl
@[simp] theorem State.setCause_keyHash : (s.setCause p m).keyHash = s.keyHash := rfl
@[simp] theorem State.setCause_otp : (s.setCause p m).otp = s.otp := rfl
@[simp] theorem State.setCause_otpProg : (s.setCause p m).otpProg = s.otpProg := rfl
@[simp] theorem State.setCause_lifeProg : (s.setCause p m).lifeProg = s.lifeProg := rfl
@[simp] theorem State.setCause_bootNext : (s.setCause p m).bootNext = s.bootNext := rfl
@[simp] theorem State.setCause_bootTcu : (s.setCause p m).bootTcu = s.bootTcu := rfl
@[simp] theorem State.setCause_booted : (s.setCause p m).booted = s.booted := rfl
@[simp] theorem State.setCause_pushLen : (s.setCause p m).pushLen = s.pushLen := rfl
@[simp] theorem State.setCause_pushed : (s.setCause p m).pushed = s.pushed := rfl
@[simp] theorem State.setCause_perstHigh : (s.setCause p m).perstHigh = s.perstHigh := rfl
end

section
variable (s : State) (c : Nat) (f : HostCtx → HostCtx)
@[simp] theorem State.onHost_pending : (s.onHost c f).pending = s.pending := rfl
@[simp] theorem State.onHost_regs : (s.onHost c f).regs = s.regs := rfl
@[simp] theorem State.onHost_shadow : (s.onHost c f).shadow = s.shadow := rfl
@[simp] theorem State.onHost_commitSec : (s.onHost c f).commitSec = s.commitSec := rfl
@[simp] theorem State.onHost_free : (s.onHost c f).free = s.free := rfl
@[simp] theorem State.onHost_out : (s.onHost c f).out = s.out := rfl
@[simp] theorem State.onHost_cmds : (s.onHost c f).cmds = s.cmds := rfl
@[simp] theorem State.onHost_grants : (s.onHost c f).grants = s.grants := rfl
@[simp] theorem State.onHost_slots : (s.onHost c f).slots = s.slots := rfl
@[simp] theorem State.onHost_phase : (s.onHost c f).phase = s.phase := rfl
@[simp] theorem State.onHost_straps : (s.onHost c f).straps = s.straps := rfl
@[simp] theorem State.onHost_tcus : (s.onHost c f).tcus = s.tcus := rfl
@[simp] theorem State.onHost_fw : (s.onHost c f).fw = s.fw := rfl
@[simp] theorem State.onHost_gatePins : (s.onHost c f).gatePins = s.gatePins := rfl
@[simp] theorem State.onHost_calHead : (s.onHost c f).calHead = s.calHead := rfl
@[simp] theorem State.onHost_calRunning : (s.onHost c f).calRunning = s.calRunning := rfl
@[simp] theorem State.onHost_switch : (s.onHost c f).switch = s.switch := rfl
@[simp] theorem State.onHost_reverting : (s.onHost c f).reverting = s.reverting := rfl
@[simp] theorem State.onHost_revertAt : (s.onHost c f).revertAt = s.revertAt := rfl
@[simp] theorem State.onHost_judging : (s.onHost c f).judging = s.judging := rfl
@[simp] theorem State.onHost_up : (s.onHost c f).up = s.up := rfl
@[simp] theorem State.onHost_engines : (s.onHost c f).engines = s.engines := rfl
@[simp] theorem State.onHost_shmem : (s.onHost c f).shmem = s.shmem := rfl
@[simp] theorem State.onHost_frames : (s.onHost c f).frames = s.frames := rfl
@[simp] theorem State.onHost_cells : (s.onHost c f).cells = s.cells := rfl
@[simp] theorem State.onHost_nextS : (s.onHost c f).nextS = s.nextS := rfl
@[simp] theorem State.onHost_nextL : (s.onHost c f).nextL = s.nextL := rfl
@[simp] theorem State.onHost_voqs : (s.onHost c f).voqs = s.voqs := rfl
@[simp] theorem State.onHost_txs : (s.onHost c f).txs = s.txs := rfl
@[simp] theorem State.onHost_macs : (s.onHost c f).macs = s.macs := rfl
@[simp] theorem State.onHost_pressOwn : (s.onHost c f).pressOwn = s.pressOwn := rfl
@[simp] theorem State.onHost_pressShared : (s.onHost c f).pressShared = s.pressShared := rfl
@[simp] theorem State.onHost_fus : (s.onHost c f).fus = s.fus := rfl
@[simp] theorem State.onHost_txts : (s.onHost c f).txts = s.txts := rfl
@[simp] theorem State.onHost_walk : (s.onHost c f).walk = s.walk := rfl
@[simp] theorem State.onHost_wheyDue : (s.onHost c f).wheyDue = s.wheyDue := rfl
@[simp] theorem State.onHost_subs : (s.onHost c f).subs = s.subs := rfl
@[simp] theorem State.onHost_lostCopies : (s.onHost c f).lostCopies = s.lostCopies := rfl
@[simp] theorem State.onHost_fences : (s.onHost c f).fences = s.fences := rfl
@[simp] theorem State.onHost_nodes : (s.onHost c f).nodes = s.nodes := rfl
@[simp] theorem State.onHost_shpUntil : (s.onHost c f).shpUntil = s.shpUntil := rfl
@[simp] theorem State.onHost_heldShapes : (s.onHost c f).heldShapes = s.heldShapes := rfl
@[simp] theorem State.onHost_gates : (s.onHost c f).gates = s.gates := rfl
@[simp] theorem State.onHost_gateCopy : (s.onHost c f).gateCopy = s.gateCopy := rfl
@[simp] theorem State.onHost_gwq : (s.onHost c f).gwq = s.gwq := rfl
@[simp] theorem State.onHost_watch : (s.onHost c f).watch = s.watch := rfl
@[simp] theorem State.onHost_samples : (s.onHost c f).samples = s.samples := rfl
@[simp] theorem State.onHost_smpSeq : (s.onHost c f).smpSeq = s.smpSeq := rfl
@[simp] theorem State.onHost_smpSkipped : (s.onHost c f).smpSkipped = s.smpSkipped := rfl
@[simp] theorem State.onHost_smpAt : (s.onHost c f).smpAt = s.smpAt := rfl
@[simp] theorem State.onHost_smpUntil : (s.onHost c f).smpUntil = s.smpUntil := rfl
@[simp] theorem State.onHost_smpRun : (s.onHost c f).smpRun = s.smpRun := rfl
@[simp] theorem State.onHost_tabs : (s.onHost c f).tabs = s.tabs := rfl
@[simp] theorem State.onHost_learnq : (s.onHost c f).learnq = s.learnq := rfl
@[simp] theorem State.onHost_crossing : (s.onHost c f).crossing = s.crossing := rfl
@[simp] theorem State.onHost_learnAt : (s.onHost c f).learnAt = s.learnAt := rfl
@[simp] theorem State.onHost_moves : (s.onHost c f).moves = s.moves := rfl
@[simp] theorem State.onHost_hits : (s.onHost c f).hits = s.hits := rfl
@[simp] theorem State.onHost_winOps : (s.onHost c f).winOps = s.winOps := rfl
@[simp] theorem State.onHost_shadows : (s.onHost c f).shadows = s.shadows := rfl
@[simp] theorem State.onHost_slotNext : (s.onHost c f).slotNext = s.slotNext := rfl
@[simp] theorem State.onHost_slotFirst : (s.onHost c f).slotFirst = s.slotFirst := rfl
@[simp] theorem State.onHost_lanes : (s.onHost c f).lanes = s.lanes := rfl
@[simp] theorem State.onHost_trunks : (s.onHost c f).trunks = s.trunks := rfl
@[simp] theorem State.onHost_ntTimes : (s.onHost c f).ntTimes = s.ntTimes := rfl
@[simp] theorem State.onHost_cadTab : (s.onHost c f).cadTab = s.cadTab := rfl
@[simp] theorem State.onHost_cadSrc : (s.onHost c f).cadSrc = s.cadSrc := rfl
@[simp] theorem State.onHost_cadFrom : (s.onHost c f).cadFrom = s.cadFrom := rfl
@[simp] theorem State.onHost_cadOld : (s.onHost c f).cadOld = s.cadOld := rfl
@[simp] theorem State.onHost_cadRcs : (s.onHost c f).cadRcs = s.cadRcs := rfl
@[simp] theorem State.onHost_cadErr : (s.onHost c f).cadErr = s.cadErr := rfl
@[simp] theorem State.onHost_gwTpl : (s.onHost c f).gwTpl = s.gwTpl := rfl
@[simp] theorem State.onHost_gwWin : (s.onHost c f).gwWin = s.gwWin := rfl
@[simp] theorem State.onHost_gwCnt : (s.onHost c f).gwCnt = s.gwCnt := rfl
@[simp] theorem State.onHost_wear : (s.onHost c f).wear = s.wear := rfl
@[simp] theorem State.onHost_swaps : (s.onHost c f).swaps = s.swaps := rfl
@[simp] theorem State.onHost_swapNext : (s.onHost c f).swapNext = s.swapNext := rfl
@[simp] theorem State.onHost_caveRead : (s.onHost c f).caveRead = s.caveRead := rfl
@[simp] theorem State.onHost_swapWait : (s.onHost c f).swapWait = s.swapWait := rfl
@[simp] theorem State.onHost_rowMap : (s.onHost c f).rowMap = s.rowMap := rfl
@[simp] theorem State.onHost_image : (s.onHost c f).image = s.image := rfl
@[simp] theorem State.onHost_applied : (s.onHost c f).applied = s.applied := rfl
@[simp] theorem State.onHost_perfs : (s.onHost c f).perfs = s.perfs := rfl
@[simp] theorem State.onHost_slotUse : (s.onHost c f).slotUse = s.slotUse := rfl
@[simp] theorem State.onHost_events : (s.onHost c f).events = s.events := rfl
@[simp] theorem State.onHost_slotSeen : (s.onHost c f).slotSeen = s.slotSeen := rfl
@[simp] theorem State.onHost_resetCauses : (s.onHost c f).resetCauses = s.resetCauses := rfl
@[simp] theorem State.onHost_sagSupply : (s.onHost c f).sagSupply = s.sagSupply := rfl
@[simp] theorem State.onHost_porstLow : (s.onHost c f).porstLow = s.porstLow := rfl
@[simp] theorem State.onHost_outsAt : (s.onHost c f).outsAt = s.outsAt := rfl
@[simp] theorem State.onHost_tapIr : (s.onHost c f).tapIr = s.tapIr := rfl
@[simp] theorem State.onHost_bsr : (s.onHost c f).bsr = s.bsr := rfl
@[simp] theorem State.onHost_thermalHold : (s.onHost c f).thermalHold = s.thermalHold := rfl
@[simp] theorem State.onHost_coolAt : (s.onHost c f).coolAt = s.coolAt := rfl
@[simp] theorem State.onHost_hot : (s.onHost c f).hot = s.hot := rfl
@[simp] theorem State.onHost_wiping : (s.onHost c f).wiping = s.wiping := rfl
@[simp] theorem State.onHost_startWait : (s.onHost c f).startWait = s.startWait := rfl
@[simp] theorem State.onHost_onAtReset : (s.onHost c f).onAtReset = s.onAtReset := rfl
@[simp] theorem State.onHost_releasedAt : (s.onHost c f).releasedAt = s.releasedAt := rfl
@[simp] theorem State.onHost_serial : (s.onHost c f).serial = s.serial := rfl
@[simp] theorem State.onHost_lifeCycle : (s.onHost c f).lifeCycle = s.lifeCycle := rfl
@[simp] theorem State.onHost_keyHash : (s.onHost c f).keyHash = s.keyHash := rfl
@[simp] theorem State.onHost_otp : (s.onHost c f).otp = s.otp := rfl
@[simp] theorem State.onHost_otpProg : (s.onHost c f).otpProg = s.otpProg := rfl
@[simp] theorem State.onHost_lifeProg : (s.onHost c f).lifeProg = s.lifeProg := rfl
@[simp] theorem State.onHost_bootNext : (s.onHost c f).bootNext = s.bootNext := rfl
@[simp] theorem State.onHost_bootTcu : (s.onHost c f).bootTcu = s.bootTcu := rfl
@[simp] theorem State.onHost_booted : (s.onHost c f).booted = s.booted := rfl
@[simp] theorem State.onHost_pushLen : (s.onHost c f).pushLen = s.pushLen := rfl
@[simp] theorem State.onHost_pushed : (s.onHost c f).pushed = s.pushed := rfl
@[simp] theorem State.onHost_perstHigh : (s.onHost c f).perstHigh = s.perstHigh := rfl
end

section
variable (s : State) (t : Nat) (f : Tcu → Tcu)
@[simp] theorem State.onTcu_pending : (s.onTcu t f).pending = s.pending := rfl
@[simp] theorem State.onTcu_regs : (s.onTcu t f).regs = s.regs := rfl
@[simp] theorem State.onTcu_shadow : (s.onTcu t f).shadow = s.shadow := rfl
@[simp] theorem State.onTcu_commitSec : (s.onTcu t f).commitSec = s.commitSec := rfl
@[simp] theorem State.onTcu_free : (s.onTcu t f).free = s.free := rfl
@[simp] theorem State.onTcu_out : (s.onTcu t f).out = s.out := rfl
@[simp] theorem State.onTcu_hosts : (s.onTcu t f).hosts = s.hosts := rfl
@[simp] theorem State.onTcu_cmds : (s.onTcu t f).cmds = s.cmds := rfl
@[simp] theorem State.onTcu_grants : (s.onTcu t f).grants = s.grants := rfl
@[simp] theorem State.onTcu_slots : (s.onTcu t f).slots = s.slots := rfl
@[simp] theorem State.onTcu_phase : (s.onTcu t f).phase = s.phase := rfl
@[simp] theorem State.onTcu_straps : (s.onTcu t f).straps = s.straps := rfl
@[simp] theorem State.onTcu_fw : (s.onTcu t f).fw = s.fw := rfl
@[simp] theorem State.onTcu_gatePins : (s.onTcu t f).gatePins = s.gatePins := rfl
@[simp] theorem State.onTcu_calHead : (s.onTcu t f).calHead = s.calHead := rfl
@[simp] theorem State.onTcu_calRunning : (s.onTcu t f).calRunning = s.calRunning := rfl
@[simp] theorem State.onTcu_switch : (s.onTcu t f).switch = s.switch := rfl
@[simp] theorem State.onTcu_reverting : (s.onTcu t f).reverting = s.reverting := rfl
@[simp] theorem State.onTcu_revertAt : (s.onTcu t f).revertAt = s.revertAt := rfl
@[simp] theorem State.onTcu_judging : (s.onTcu t f).judging = s.judging := rfl
@[simp] theorem State.onTcu_up : (s.onTcu t f).up = s.up := rfl
@[simp] theorem State.onTcu_engines : (s.onTcu t f).engines = s.engines := rfl
@[simp] theorem State.onTcu_shmem : (s.onTcu t f).shmem = s.shmem := rfl
@[simp] theorem State.onTcu_frames : (s.onTcu t f).frames = s.frames := rfl
@[simp] theorem State.onTcu_cells : (s.onTcu t f).cells = s.cells := rfl
@[simp] theorem State.onTcu_nextS : (s.onTcu t f).nextS = s.nextS := rfl
@[simp] theorem State.onTcu_nextL : (s.onTcu t f).nextL = s.nextL := rfl
@[simp] theorem State.onTcu_voqs : (s.onTcu t f).voqs = s.voqs := rfl
@[simp] theorem State.onTcu_txs : (s.onTcu t f).txs = s.txs := rfl
@[simp] theorem State.onTcu_macs : (s.onTcu t f).macs = s.macs := rfl
@[simp] theorem State.onTcu_pressOwn : (s.onTcu t f).pressOwn = s.pressOwn := rfl
@[simp] theorem State.onTcu_pressShared : (s.onTcu t f).pressShared = s.pressShared := rfl
@[simp] theorem State.onTcu_fus : (s.onTcu t f).fus = s.fus := rfl
@[simp] theorem State.onTcu_txts : (s.onTcu t f).txts = s.txts := rfl
@[simp] theorem State.onTcu_walk : (s.onTcu t f).walk = s.walk := rfl
@[simp] theorem State.onTcu_wheyDue : (s.onTcu t f).wheyDue = s.wheyDue := rfl
@[simp] theorem State.onTcu_subs : (s.onTcu t f).subs = s.subs := rfl
@[simp] theorem State.onTcu_lostCopies : (s.onTcu t f).lostCopies = s.lostCopies := rfl
@[simp] theorem State.onTcu_fences : (s.onTcu t f).fences = s.fences := rfl
@[simp] theorem State.onTcu_nodes : (s.onTcu t f).nodes = s.nodes := rfl
@[simp] theorem State.onTcu_shpUntil : (s.onTcu t f).shpUntil = s.shpUntil := rfl
@[simp] theorem State.onTcu_heldShapes : (s.onTcu t f).heldShapes = s.heldShapes := rfl
@[simp] theorem State.onTcu_gates : (s.onTcu t f).gates = s.gates := rfl
@[simp] theorem State.onTcu_gateCopy : (s.onTcu t f).gateCopy = s.gateCopy := rfl
@[simp] theorem State.onTcu_gwq : (s.onTcu t f).gwq = s.gwq := rfl
@[simp] theorem State.onTcu_watch : (s.onTcu t f).watch = s.watch := rfl
@[simp] theorem State.onTcu_samples : (s.onTcu t f).samples = s.samples := rfl
@[simp] theorem State.onTcu_smpSeq : (s.onTcu t f).smpSeq = s.smpSeq := rfl
@[simp] theorem State.onTcu_smpSkipped : (s.onTcu t f).smpSkipped = s.smpSkipped := rfl
@[simp] theorem State.onTcu_smpAt : (s.onTcu t f).smpAt = s.smpAt := rfl
@[simp] theorem State.onTcu_smpUntil : (s.onTcu t f).smpUntil = s.smpUntil := rfl
@[simp] theorem State.onTcu_smpRun : (s.onTcu t f).smpRun = s.smpRun := rfl
@[simp] theorem State.onTcu_tabs : (s.onTcu t f).tabs = s.tabs := rfl
@[simp] theorem State.onTcu_learnq : (s.onTcu t f).learnq = s.learnq := rfl
@[simp] theorem State.onTcu_crossing : (s.onTcu t f).crossing = s.crossing := rfl
@[simp] theorem State.onTcu_learnAt : (s.onTcu t f).learnAt = s.learnAt := rfl
@[simp] theorem State.onTcu_moves : (s.onTcu t f).moves = s.moves := rfl
@[simp] theorem State.onTcu_hits : (s.onTcu t f).hits = s.hits := rfl
@[simp] theorem State.onTcu_winOps : (s.onTcu t f).winOps = s.winOps := rfl
@[simp] theorem State.onTcu_shadows : (s.onTcu t f).shadows = s.shadows := rfl
@[simp] theorem State.onTcu_slotNext : (s.onTcu t f).slotNext = s.slotNext := rfl
@[simp] theorem State.onTcu_slotFirst : (s.onTcu t f).slotFirst = s.slotFirst := rfl
@[simp] theorem State.onTcu_lanes : (s.onTcu t f).lanes = s.lanes := rfl
@[simp] theorem State.onTcu_trunks : (s.onTcu t f).trunks = s.trunks := rfl
@[simp] theorem State.onTcu_ntTimes : (s.onTcu t f).ntTimes = s.ntTimes := rfl
@[simp] theorem State.onTcu_cadTab : (s.onTcu t f).cadTab = s.cadTab := rfl
@[simp] theorem State.onTcu_cadSrc : (s.onTcu t f).cadSrc = s.cadSrc := rfl
@[simp] theorem State.onTcu_cadFrom : (s.onTcu t f).cadFrom = s.cadFrom := rfl
@[simp] theorem State.onTcu_cadOld : (s.onTcu t f).cadOld = s.cadOld := rfl
@[simp] theorem State.onTcu_cadRcs : (s.onTcu t f).cadRcs = s.cadRcs := rfl
@[simp] theorem State.onTcu_cadErr : (s.onTcu t f).cadErr = s.cadErr := rfl
@[simp] theorem State.onTcu_gwTpl : (s.onTcu t f).gwTpl = s.gwTpl := rfl
@[simp] theorem State.onTcu_gwWin : (s.onTcu t f).gwWin = s.gwWin := rfl
@[simp] theorem State.onTcu_gwCnt : (s.onTcu t f).gwCnt = s.gwCnt := rfl
@[simp] theorem State.onTcu_wear : (s.onTcu t f).wear = s.wear := rfl
@[simp] theorem State.onTcu_swaps : (s.onTcu t f).swaps = s.swaps := rfl
@[simp] theorem State.onTcu_swapNext : (s.onTcu t f).swapNext = s.swapNext := rfl
@[simp] theorem State.onTcu_caveRead : (s.onTcu t f).caveRead = s.caveRead := rfl
@[simp] theorem State.onTcu_swapWait : (s.onTcu t f).swapWait = s.swapWait := rfl
@[simp] theorem State.onTcu_rowMap : (s.onTcu t f).rowMap = s.rowMap := rfl
@[simp] theorem State.onTcu_image : (s.onTcu t f).image = s.image := rfl
@[simp] theorem State.onTcu_applied : (s.onTcu t f).applied = s.applied := rfl
@[simp] theorem State.onTcu_perfs : (s.onTcu t f).perfs = s.perfs := rfl
@[simp] theorem State.onTcu_slotUse : (s.onTcu t f).slotUse = s.slotUse := rfl
@[simp] theorem State.onTcu_events : (s.onTcu t f).events = s.events := rfl
@[simp] theorem State.onTcu_slotSeen : (s.onTcu t f).slotSeen = s.slotSeen := rfl
@[simp] theorem State.onTcu_resetCauses : (s.onTcu t f).resetCauses = s.resetCauses := rfl
@[simp] theorem State.onTcu_sagSupply : (s.onTcu t f).sagSupply = s.sagSupply := rfl
@[simp] theorem State.onTcu_porstLow : (s.onTcu t f).porstLow = s.porstLow := rfl
@[simp] theorem State.onTcu_outsAt : (s.onTcu t f).outsAt = s.outsAt := rfl
@[simp] theorem State.onTcu_tapIr : (s.onTcu t f).tapIr = s.tapIr := rfl
@[simp] theorem State.onTcu_bsr : (s.onTcu t f).bsr = s.bsr := rfl
@[simp] theorem State.onTcu_thermalHold : (s.onTcu t f).thermalHold = s.thermalHold := rfl
@[simp] theorem State.onTcu_coolAt : (s.onTcu t f).coolAt = s.coolAt := rfl
@[simp] theorem State.onTcu_hot : (s.onTcu t f).hot = s.hot := rfl
@[simp] theorem State.onTcu_wiping : (s.onTcu t f).wiping = s.wiping := rfl
@[simp] theorem State.onTcu_startWait : (s.onTcu t f).startWait = s.startWait := rfl
@[simp] theorem State.onTcu_onAtReset : (s.onTcu t f).onAtReset = s.onAtReset := rfl
@[simp] theorem State.onTcu_releasedAt : (s.onTcu t f).releasedAt = s.releasedAt := rfl
@[simp] theorem State.onTcu_serial : (s.onTcu t f).serial = s.serial := rfl
@[simp] theorem State.onTcu_lifeCycle : (s.onTcu t f).lifeCycle = s.lifeCycle := rfl
@[simp] theorem State.onTcu_keyHash : (s.onTcu t f).keyHash = s.keyHash := rfl
@[simp] theorem State.onTcu_otp : (s.onTcu t f).otp = s.otp := rfl
@[simp] theorem State.onTcu_otpProg : (s.onTcu t f).otpProg = s.otpProg := rfl
@[simp] theorem State.onTcu_lifeProg : (s.onTcu t f).lifeProg = s.lifeProg := rfl
@[simp] theorem State.onTcu_bootNext : (s.onTcu t f).bootNext = s.bootNext := rfl
@[simp] theorem State.onTcu_bootTcu : (s.onTcu t f).bootTcu = s.bootTcu := rfl
@[simp] theorem State.onTcu_booted : (s.onTcu t f).booted = s.booted := rfl
@[simp] theorem State.onTcu_pushLen : (s.onTcu t f).pushLen = s.pushLen := rfl
@[simp] theorem State.onTcu_pushed : (s.onTcu t f).pushed = s.pushed := rfl
@[simp] theorem State.onTcu_perstHigh : (s.onTcu t f).perstHigh = s.perstHigh := rfl
end

section
variable (s : State) (e : Nat) (f : Engine → Engine)
@[simp] theorem State.onEng_pending : (s.onEng e f).pending = s.pending := rfl
@[simp] theorem State.onEng_regs : (s.onEng e f).regs = s.regs := rfl
@[simp] theorem State.onEng_shadow : (s.onEng e f).shadow = s.shadow := rfl
@[simp] theorem State.onEng_commitSec : (s.onEng e f).commitSec = s.commitSec := rfl
@[simp] theorem State.onEng_free : (s.onEng e f).free = s.free := rfl
@[simp] theorem State.onEng_out : (s.onEng e f).out = s.out := rfl
@[simp] theorem State.onEng_hosts : (s.onEng e f).hosts = s.hosts := rfl
@[simp] theorem State.onEng_cmds : (s.onEng e f).cmds = s.cmds := rfl
@[simp] theorem State.onEng_grants : (s.onEng e f).grants = s.grants := rfl
@[simp] theorem State.onEng_slots : (s.onEng e f).slots = s.slots := rfl
@[simp] theorem State.onEng_phase : (s.onEng e f).phase = s.phase := rfl
@[simp] theorem State.onEng_straps : (s.onEng e f).straps = s.straps := rfl
@[simp] theorem State.onEng_tcus : (s.onEng e f).tcus = s.tcus := rfl
@[simp] theorem State.onEng_fw : (s.onEng e f).fw = s.fw := rfl
@[simp] theorem State.onEng_gatePins : (s.onEng e f).gatePins = s.gatePins := rfl
@[simp] theorem State.onEng_calHead : (s.onEng e f).calHead = s.calHead := rfl
@[simp] theorem State.onEng_calRunning : (s.onEng e f).calRunning = s.calRunning := rfl
@[simp] theorem State.onEng_switch : (s.onEng e f).switch = s.switch := rfl
@[simp] theorem State.onEng_reverting : (s.onEng e f).reverting = s.reverting := rfl
@[simp] theorem State.onEng_revertAt : (s.onEng e f).revertAt = s.revertAt := rfl
@[simp] theorem State.onEng_judging : (s.onEng e f).judging = s.judging := rfl
@[simp] theorem State.onEng_up : (s.onEng e f).up = s.up := rfl
@[simp] theorem State.onEng_shmem : (s.onEng e f).shmem = s.shmem := rfl
@[simp] theorem State.onEng_frames : (s.onEng e f).frames = s.frames := rfl
@[simp] theorem State.onEng_cells : (s.onEng e f).cells = s.cells := rfl
@[simp] theorem State.onEng_nextS : (s.onEng e f).nextS = s.nextS := rfl
@[simp] theorem State.onEng_nextL : (s.onEng e f).nextL = s.nextL := rfl
@[simp] theorem State.onEng_voqs : (s.onEng e f).voqs = s.voqs := rfl
@[simp] theorem State.onEng_txs : (s.onEng e f).txs = s.txs := rfl
@[simp] theorem State.onEng_macs : (s.onEng e f).macs = s.macs := rfl
@[simp] theorem State.onEng_pressOwn : (s.onEng e f).pressOwn = s.pressOwn := rfl
@[simp] theorem State.onEng_pressShared : (s.onEng e f).pressShared = s.pressShared := rfl
@[simp] theorem State.onEng_fus : (s.onEng e f).fus = s.fus := rfl
@[simp] theorem State.onEng_txts : (s.onEng e f).txts = s.txts := rfl
@[simp] theorem State.onEng_walk : (s.onEng e f).walk = s.walk := rfl
@[simp] theorem State.onEng_wheyDue : (s.onEng e f).wheyDue = s.wheyDue := rfl
@[simp] theorem State.onEng_subs : (s.onEng e f).subs = s.subs := rfl
@[simp] theorem State.onEng_lostCopies : (s.onEng e f).lostCopies = s.lostCopies := rfl
@[simp] theorem State.onEng_fences : (s.onEng e f).fences = s.fences := rfl
@[simp] theorem State.onEng_nodes : (s.onEng e f).nodes = s.nodes := rfl
@[simp] theorem State.onEng_shpUntil : (s.onEng e f).shpUntil = s.shpUntil := rfl
@[simp] theorem State.onEng_heldShapes : (s.onEng e f).heldShapes = s.heldShapes := rfl
@[simp] theorem State.onEng_gates : (s.onEng e f).gates = s.gates := rfl
@[simp] theorem State.onEng_gateCopy : (s.onEng e f).gateCopy = s.gateCopy := rfl
@[simp] theorem State.onEng_gwq : (s.onEng e f).gwq = s.gwq := rfl
@[simp] theorem State.onEng_watch : (s.onEng e f).watch = s.watch := rfl
@[simp] theorem State.onEng_samples : (s.onEng e f).samples = s.samples := rfl
@[simp] theorem State.onEng_smpSeq : (s.onEng e f).smpSeq = s.smpSeq := rfl
@[simp] theorem State.onEng_smpSkipped : (s.onEng e f).smpSkipped = s.smpSkipped := rfl
@[simp] theorem State.onEng_smpAt : (s.onEng e f).smpAt = s.smpAt := rfl
@[simp] theorem State.onEng_smpUntil : (s.onEng e f).smpUntil = s.smpUntil := rfl
@[simp] theorem State.onEng_smpRun : (s.onEng e f).smpRun = s.smpRun := rfl
@[simp] theorem State.onEng_tabs : (s.onEng e f).tabs = s.tabs := rfl
@[simp] theorem State.onEng_learnq : (s.onEng e f).learnq = s.learnq := rfl
@[simp] theorem State.onEng_crossing : (s.onEng e f).crossing = s.crossing := rfl
@[simp] theorem State.onEng_learnAt : (s.onEng e f).learnAt = s.learnAt := rfl
@[simp] theorem State.onEng_moves : (s.onEng e f).moves = s.moves := rfl
@[simp] theorem State.onEng_hits : (s.onEng e f).hits = s.hits := rfl
@[simp] theorem State.onEng_winOps : (s.onEng e f).winOps = s.winOps := rfl
@[simp] theorem State.onEng_shadows : (s.onEng e f).shadows = s.shadows := rfl
@[simp] theorem State.onEng_slotNext : (s.onEng e f).slotNext = s.slotNext := rfl
@[simp] theorem State.onEng_slotFirst : (s.onEng e f).slotFirst = s.slotFirst := rfl
@[simp] theorem State.onEng_lanes : (s.onEng e f).lanes = s.lanes := rfl
@[simp] theorem State.onEng_trunks : (s.onEng e f).trunks = s.trunks := rfl
@[simp] theorem State.onEng_ntTimes : (s.onEng e f).ntTimes = s.ntTimes := rfl
@[simp] theorem State.onEng_cadTab : (s.onEng e f).cadTab = s.cadTab := rfl
@[simp] theorem State.onEng_cadSrc : (s.onEng e f).cadSrc = s.cadSrc := rfl
@[simp] theorem State.onEng_cadFrom : (s.onEng e f).cadFrom = s.cadFrom := rfl
@[simp] theorem State.onEng_cadOld : (s.onEng e f).cadOld = s.cadOld := rfl
@[simp] theorem State.onEng_cadRcs : (s.onEng e f).cadRcs = s.cadRcs := rfl
@[simp] theorem State.onEng_cadErr : (s.onEng e f).cadErr = s.cadErr := rfl
@[simp] theorem State.onEng_gwTpl : (s.onEng e f).gwTpl = s.gwTpl := rfl
@[simp] theorem State.onEng_gwWin : (s.onEng e f).gwWin = s.gwWin := rfl
@[simp] theorem State.onEng_gwCnt : (s.onEng e f).gwCnt = s.gwCnt := rfl
@[simp] theorem State.onEng_wear : (s.onEng e f).wear = s.wear := rfl
@[simp] theorem State.onEng_swaps : (s.onEng e f).swaps = s.swaps := rfl
@[simp] theorem State.onEng_swapNext : (s.onEng e f).swapNext = s.swapNext := rfl
@[simp] theorem State.onEng_caveRead : (s.onEng e f).caveRead = s.caveRead := rfl
@[simp] theorem State.onEng_swapWait : (s.onEng e f).swapWait = s.swapWait := rfl
@[simp] theorem State.onEng_rowMap : (s.onEng e f).rowMap = s.rowMap := rfl
@[simp] theorem State.onEng_image : (s.onEng e f).image = s.image := rfl
@[simp] theorem State.onEng_applied : (s.onEng e f).applied = s.applied := rfl
@[simp] theorem State.onEng_perfs : (s.onEng e f).perfs = s.perfs := rfl
@[simp] theorem State.onEng_slotUse : (s.onEng e f).slotUse = s.slotUse := rfl
@[simp] theorem State.onEng_events : (s.onEng e f).events = s.events := rfl
@[simp] theorem State.onEng_slotSeen : (s.onEng e f).slotSeen = s.slotSeen := rfl
@[simp] theorem State.onEng_resetCauses : (s.onEng e f).resetCauses = s.resetCauses := rfl
@[simp] theorem State.onEng_sagSupply : (s.onEng e f).sagSupply = s.sagSupply := rfl
@[simp] theorem State.onEng_porstLow : (s.onEng e f).porstLow = s.porstLow := rfl
@[simp] theorem State.onEng_outsAt : (s.onEng e f).outsAt = s.outsAt := rfl
@[simp] theorem State.onEng_tapIr : (s.onEng e f).tapIr = s.tapIr := rfl
@[simp] theorem State.onEng_bsr : (s.onEng e f).bsr = s.bsr := rfl
@[simp] theorem State.onEng_thermalHold : (s.onEng e f).thermalHold = s.thermalHold := rfl
@[simp] theorem State.onEng_coolAt : (s.onEng e f).coolAt = s.coolAt := rfl
@[simp] theorem State.onEng_hot : (s.onEng e f).hot = s.hot := rfl
@[simp] theorem State.onEng_wiping : (s.onEng e f).wiping = s.wiping := rfl
@[simp] theorem State.onEng_startWait : (s.onEng e f).startWait = s.startWait := rfl
@[simp] theorem State.onEng_onAtReset : (s.onEng e f).onAtReset = s.onAtReset := rfl
@[simp] theorem State.onEng_releasedAt : (s.onEng e f).releasedAt = s.releasedAt := rfl
@[simp] theorem State.onEng_serial : (s.onEng e f).serial = s.serial := rfl
@[simp] theorem State.onEng_lifeCycle : (s.onEng e f).lifeCycle = s.lifeCycle := rfl
@[simp] theorem State.onEng_keyHash : (s.onEng e f).keyHash = s.keyHash := rfl
@[simp] theorem State.onEng_otp : (s.onEng e f).otp = s.otp := rfl
@[simp] theorem State.onEng_otpProg : (s.onEng e f).otpProg = s.otpProg := rfl
@[simp] theorem State.onEng_lifeProg : (s.onEng e f).lifeProg = s.lifeProg := rfl
@[simp] theorem State.onEng_bootNext : (s.onEng e f).bootNext = s.bootNext := rfl
@[simp] theorem State.onEng_bootTcu : (s.onEng e f).bootTcu = s.bootTcu := rfl
@[simp] theorem State.onEng_booted : (s.onEng e f).booted = s.booted := rfl
@[simp] theorem State.onEng_pushLen : (s.onEng e f).pushLen = s.pushLen := rfl
@[simp] theorem State.onEng_pushed : (s.onEng e f).pushed = s.pushed := rfl
@[simp] theorem State.onEng_perstHigh : (s.onEng e f).perstHigh = s.perstHigh := rfl
end

section
variable (s : State) (o : Out)
@[simp] theorem State.emit_pending : (s.emit o).pending = s.pending := rfl
@[simp] theorem State.emit_regs : (s.emit o).regs = s.regs := rfl
@[simp] theorem State.emit_shadow : (s.emit o).shadow = s.shadow := rfl
@[simp] theorem State.emit_commitSec : (s.emit o).commitSec = s.commitSec := rfl
@[simp] theorem State.emit_free : (s.emit o).free = s.free := rfl
@[simp] theorem State.emit_hosts : (s.emit o).hosts = s.hosts := rfl
@[simp] theorem State.emit_cmds : (s.emit o).cmds = s.cmds := rfl
@[simp] theorem State.emit_grants : (s.emit o).grants = s.grants := rfl
@[simp] theorem State.emit_slots : (s.emit o).slots = s.slots := rfl
@[simp] theorem State.emit_phase : (s.emit o).phase = s.phase := rfl
@[simp] theorem State.emit_straps : (s.emit o).straps = s.straps := rfl
@[simp] theorem State.emit_tcus : (s.emit o).tcus = s.tcus := rfl
@[simp] theorem State.emit_fw : (s.emit o).fw = s.fw := rfl
@[simp] theorem State.emit_gatePins : (s.emit o).gatePins = s.gatePins := rfl
@[simp] theorem State.emit_calHead : (s.emit o).calHead = s.calHead := rfl
@[simp] theorem State.emit_calRunning : (s.emit o).calRunning = s.calRunning := rfl
@[simp] theorem State.emit_switch : (s.emit o).switch = s.switch := rfl
@[simp] theorem State.emit_reverting : (s.emit o).reverting = s.reverting := rfl
@[simp] theorem State.emit_revertAt : (s.emit o).revertAt = s.revertAt := rfl
@[simp] theorem State.emit_judging : (s.emit o).judging = s.judging := rfl
@[simp] theorem State.emit_up : (s.emit o).up = s.up := rfl
@[simp] theorem State.emit_engines : (s.emit o).engines = s.engines := rfl
@[simp] theorem State.emit_shmem : (s.emit o).shmem = s.shmem := rfl
@[simp] theorem State.emit_frames : (s.emit o).frames = s.frames := rfl
@[simp] theorem State.emit_cells : (s.emit o).cells = s.cells := rfl
@[simp] theorem State.emit_nextS : (s.emit o).nextS = s.nextS := rfl
@[simp] theorem State.emit_nextL : (s.emit o).nextL = s.nextL := rfl
@[simp] theorem State.emit_voqs : (s.emit o).voqs = s.voqs := rfl
@[simp] theorem State.emit_txs : (s.emit o).txs = s.txs := rfl
@[simp] theorem State.emit_macs : (s.emit o).macs = s.macs := rfl
@[simp] theorem State.emit_pressOwn : (s.emit o).pressOwn = s.pressOwn := rfl
@[simp] theorem State.emit_pressShared : (s.emit o).pressShared = s.pressShared := rfl
@[simp] theorem State.emit_fus : (s.emit o).fus = s.fus := rfl
@[simp] theorem State.emit_txts : (s.emit o).txts = s.txts := rfl
@[simp] theorem State.emit_walk : (s.emit o).walk = s.walk := rfl
@[simp] theorem State.emit_wheyDue : (s.emit o).wheyDue = s.wheyDue := rfl
@[simp] theorem State.emit_subs : (s.emit o).subs = s.subs := rfl
@[simp] theorem State.emit_lostCopies : (s.emit o).lostCopies = s.lostCopies := rfl
@[simp] theorem State.emit_fences : (s.emit o).fences = s.fences := rfl
@[simp] theorem State.emit_nodes : (s.emit o).nodes = s.nodes := rfl
@[simp] theorem State.emit_shpUntil : (s.emit o).shpUntil = s.shpUntil := rfl
@[simp] theorem State.emit_heldShapes : (s.emit o).heldShapes = s.heldShapes := rfl
@[simp] theorem State.emit_gates : (s.emit o).gates = s.gates := rfl
@[simp] theorem State.emit_gateCopy : (s.emit o).gateCopy = s.gateCopy := rfl
@[simp] theorem State.emit_gwq : (s.emit o).gwq = s.gwq := rfl
@[simp] theorem State.emit_watch : (s.emit o).watch = s.watch := rfl
@[simp] theorem State.emit_samples : (s.emit o).samples = s.samples := rfl
@[simp] theorem State.emit_smpSeq : (s.emit o).smpSeq = s.smpSeq := rfl
@[simp] theorem State.emit_smpSkipped : (s.emit o).smpSkipped = s.smpSkipped := rfl
@[simp] theorem State.emit_smpAt : (s.emit o).smpAt = s.smpAt := rfl
@[simp] theorem State.emit_smpUntil : (s.emit o).smpUntil = s.smpUntil := rfl
@[simp] theorem State.emit_smpRun : (s.emit o).smpRun = s.smpRun := rfl
@[simp] theorem State.emit_tabs : (s.emit o).tabs = s.tabs := rfl
@[simp] theorem State.emit_learnq : (s.emit o).learnq = s.learnq := rfl
@[simp] theorem State.emit_crossing : (s.emit o).crossing = s.crossing := rfl
@[simp] theorem State.emit_learnAt : (s.emit o).learnAt = s.learnAt := rfl
@[simp] theorem State.emit_moves : (s.emit o).moves = s.moves := rfl
@[simp] theorem State.emit_hits : (s.emit o).hits = s.hits := rfl
@[simp] theorem State.emit_winOps : (s.emit o).winOps = s.winOps := rfl
@[simp] theorem State.emit_shadows : (s.emit o).shadows = s.shadows := rfl
@[simp] theorem State.emit_slotNext : (s.emit o).slotNext = s.slotNext := rfl
@[simp] theorem State.emit_slotFirst : (s.emit o).slotFirst = s.slotFirst := rfl
@[simp] theorem State.emit_lanes : (s.emit o).lanes = s.lanes := rfl
@[simp] theorem State.emit_trunks : (s.emit o).trunks = s.trunks := rfl
@[simp] theorem State.emit_ntTimes : (s.emit o).ntTimes = s.ntTimes := rfl
@[simp] theorem State.emit_cadTab : (s.emit o).cadTab = s.cadTab := rfl
@[simp] theorem State.emit_cadSrc : (s.emit o).cadSrc = s.cadSrc := rfl
@[simp] theorem State.emit_cadFrom : (s.emit o).cadFrom = s.cadFrom := rfl
@[simp] theorem State.emit_cadOld : (s.emit o).cadOld = s.cadOld := rfl
@[simp] theorem State.emit_cadRcs : (s.emit o).cadRcs = s.cadRcs := rfl
@[simp] theorem State.emit_cadErr : (s.emit o).cadErr = s.cadErr := rfl
@[simp] theorem State.emit_gwTpl : (s.emit o).gwTpl = s.gwTpl := rfl
@[simp] theorem State.emit_gwWin : (s.emit o).gwWin = s.gwWin := rfl
@[simp] theorem State.emit_gwCnt : (s.emit o).gwCnt = s.gwCnt := rfl
@[simp] theorem State.emit_wear : (s.emit o).wear = s.wear := rfl
@[simp] theorem State.emit_swaps : (s.emit o).swaps = s.swaps := rfl
@[simp] theorem State.emit_swapNext : (s.emit o).swapNext = s.swapNext := rfl
@[simp] theorem State.emit_caveRead : (s.emit o).caveRead = s.caveRead := rfl
@[simp] theorem State.emit_swapWait : (s.emit o).swapWait = s.swapWait := rfl
@[simp] theorem State.emit_rowMap : (s.emit o).rowMap = s.rowMap := rfl
@[simp] theorem State.emit_image : (s.emit o).image = s.image := rfl
@[simp] theorem State.emit_applied : (s.emit o).applied = s.applied := rfl
@[simp] theorem State.emit_perfs : (s.emit o).perfs = s.perfs := rfl
@[simp] theorem State.emit_slotUse : (s.emit o).slotUse = s.slotUse := rfl
@[simp] theorem State.emit_events : (s.emit o).events = s.events := rfl
@[simp] theorem State.emit_slotSeen : (s.emit o).slotSeen = s.slotSeen := rfl
@[simp] theorem State.emit_resetCauses : (s.emit o).resetCauses = s.resetCauses := rfl
@[simp] theorem State.emit_sagSupply : (s.emit o).sagSupply = s.sagSupply := rfl
@[simp] theorem State.emit_porstLow : (s.emit o).porstLow = s.porstLow := rfl
@[simp] theorem State.emit_outsAt : (s.emit o).outsAt = s.outsAt := rfl
@[simp] theorem State.emit_tapIr : (s.emit o).tapIr = s.tapIr := rfl
@[simp] theorem State.emit_bsr : (s.emit o).bsr = s.bsr := rfl
@[simp] theorem State.emit_thermalHold : (s.emit o).thermalHold = s.thermalHold := rfl
@[simp] theorem State.emit_coolAt : (s.emit o).coolAt = s.coolAt := rfl
@[simp] theorem State.emit_hot : (s.emit o).hot = s.hot := rfl
@[simp] theorem State.emit_wiping : (s.emit o).wiping = s.wiping := rfl
@[simp] theorem State.emit_startWait : (s.emit o).startWait = s.startWait := rfl
@[simp] theorem State.emit_onAtReset : (s.emit o).onAtReset = s.onAtReset := rfl
@[simp] theorem State.emit_releasedAt : (s.emit o).releasedAt = s.releasedAt := rfl
@[simp] theorem State.emit_serial : (s.emit o).serial = s.serial := rfl
@[simp] theorem State.emit_lifeCycle : (s.emit o).lifeCycle = s.lifeCycle := rfl
@[simp] theorem State.emit_keyHash : (s.emit o).keyHash = s.keyHash := rfl
@[simp] theorem State.emit_otp : (s.emit o).otp = s.otp := rfl
@[simp] theorem State.emit_otpProg : (s.emit o).otpProg = s.otpProg := rfl
@[simp] theorem State.emit_lifeProg : (s.emit o).lifeProg = s.lifeProg := rfl
@[simp] theorem State.emit_bootNext : (s.emit o).bootNext = s.bootNext := rfl
@[simp] theorem State.emit_bootTcu : (s.emit o).bootTcu = s.bootTcu := rfl
@[simp] theorem State.emit_booted : (s.emit o).booted = s.booted := rfl
@[simp] theorem State.emit_pushLen : (s.emit o).pushLen = s.pushLen := rfl
@[simp] theorem State.emit_pushed : (s.emit o).pushed = s.pushed := rfl
@[simp] theorem State.emit_perstHigh : (s.emit o).perstHigh = s.perstHigh := rfl
end

section
variable (s : State) 
@[simp] theorem State.bump_pending : (s.bump).pending = s.pending := rfl
@[simp] theorem State.bump_regs : (s.bump).regs = s.regs := rfl
@[simp] theorem State.bump_shadow : (s.bump).shadow = s.shadow := rfl
@[simp] theorem State.bump_commitSec : (s.bump).commitSec = s.commitSec := rfl
@[simp] theorem State.bump_out : (s.bump).out = s.out := rfl
@[simp] theorem State.bump_hosts : (s.bump).hosts = s.hosts := rfl
@[simp] theorem State.bump_cmds : (s.bump).cmds = s.cmds := rfl
@[simp] theorem State.bump_grants : (s.bump).grants = s.grants := rfl
@[simp] theorem State.bump_slots : (s.bump).slots = s.slots := rfl
@[simp] theorem State.bump_phase : (s.bump).phase = s.phase := rfl
@[simp] theorem State.bump_straps : (s.bump).straps = s.straps := rfl
@[simp] theorem State.bump_tcus : (s.bump).tcus = s.tcus := rfl
@[simp] theorem State.bump_fw : (s.bump).fw = s.fw := rfl
@[simp] theorem State.bump_gatePins : (s.bump).gatePins = s.gatePins := rfl
@[simp] theorem State.bump_calHead : (s.bump).calHead = s.calHead := rfl
@[simp] theorem State.bump_calRunning : (s.bump).calRunning = s.calRunning := rfl
@[simp] theorem State.bump_switch : (s.bump).switch = s.switch := rfl
@[simp] theorem State.bump_reverting : (s.bump).reverting = s.reverting := rfl
@[simp] theorem State.bump_revertAt : (s.bump).revertAt = s.revertAt := rfl
@[simp] theorem State.bump_judging : (s.bump).judging = s.judging := rfl
@[simp] theorem State.bump_up : (s.bump).up = s.up := rfl
@[simp] theorem State.bump_engines : (s.bump).engines = s.engines := rfl
@[simp] theorem State.bump_shmem : (s.bump).shmem = s.shmem := rfl
@[simp] theorem State.bump_frames : (s.bump).frames = s.frames := rfl
@[simp] theorem State.bump_cells : (s.bump).cells = s.cells := rfl
@[simp] theorem State.bump_nextS : (s.bump).nextS = s.nextS := rfl
@[simp] theorem State.bump_nextL : (s.bump).nextL = s.nextL := rfl
@[simp] theorem State.bump_voqs : (s.bump).voqs = s.voqs := rfl
@[simp] theorem State.bump_txs : (s.bump).txs = s.txs := rfl
@[simp] theorem State.bump_macs : (s.bump).macs = s.macs := rfl
@[simp] theorem State.bump_pressOwn : (s.bump).pressOwn = s.pressOwn := rfl
@[simp] theorem State.bump_pressShared : (s.bump).pressShared = s.pressShared := rfl
@[simp] theorem State.bump_fus : (s.bump).fus = s.fus := rfl
@[simp] theorem State.bump_txts : (s.bump).txts = s.txts := rfl
@[simp] theorem State.bump_walk : (s.bump).walk = s.walk := rfl
@[simp] theorem State.bump_wheyDue : (s.bump).wheyDue = s.wheyDue := rfl
@[simp] theorem State.bump_subs : (s.bump).subs = s.subs := rfl
@[simp] theorem State.bump_lostCopies : (s.bump).lostCopies = s.lostCopies := rfl
@[simp] theorem State.bump_fences : (s.bump).fences = s.fences := rfl
@[simp] theorem State.bump_nodes : (s.bump).nodes = s.nodes := rfl
@[simp] theorem State.bump_shpUntil : (s.bump).shpUntil = s.shpUntil := rfl
@[simp] theorem State.bump_heldShapes : (s.bump).heldShapes = s.heldShapes := rfl
@[simp] theorem State.bump_gates : (s.bump).gates = s.gates := rfl
@[simp] theorem State.bump_gateCopy : (s.bump).gateCopy = s.gateCopy := rfl
@[simp] theorem State.bump_gwq : (s.bump).gwq = s.gwq := rfl
@[simp] theorem State.bump_watch : (s.bump).watch = s.watch := rfl
@[simp] theorem State.bump_samples : (s.bump).samples = s.samples := rfl
@[simp] theorem State.bump_smpSeq : (s.bump).smpSeq = s.smpSeq := rfl
@[simp] theorem State.bump_smpSkipped : (s.bump).smpSkipped = s.smpSkipped := rfl
@[simp] theorem State.bump_smpAt : (s.bump).smpAt = s.smpAt := rfl
@[simp] theorem State.bump_smpUntil : (s.bump).smpUntil = s.smpUntil := rfl
@[simp] theorem State.bump_smpRun : (s.bump).smpRun = s.smpRun := rfl
@[simp] theorem State.bump_tabs : (s.bump).tabs = s.tabs := rfl
@[simp] theorem State.bump_learnq : (s.bump).learnq = s.learnq := rfl
@[simp] theorem State.bump_crossing : (s.bump).crossing = s.crossing := rfl
@[simp] theorem State.bump_learnAt : (s.bump).learnAt = s.learnAt := rfl
@[simp] theorem State.bump_moves : (s.bump).moves = s.moves := rfl
@[simp] theorem State.bump_hits : (s.bump).hits = s.hits := rfl
@[simp] theorem State.bump_winOps : (s.bump).winOps = s.winOps := rfl
@[simp] theorem State.bump_shadows : (s.bump).shadows = s.shadows := rfl
@[simp] theorem State.bump_slotNext : (s.bump).slotNext = s.slotNext := rfl
@[simp] theorem State.bump_slotFirst : (s.bump).slotFirst = s.slotFirst := rfl
@[simp] theorem State.bump_lanes : (s.bump).lanes = s.lanes := rfl
@[simp] theorem State.bump_trunks : (s.bump).trunks = s.trunks := rfl
@[simp] theorem State.bump_ntTimes : (s.bump).ntTimes = s.ntTimes := rfl
@[simp] theorem State.bump_cadTab : (s.bump).cadTab = s.cadTab := rfl
@[simp] theorem State.bump_cadSrc : (s.bump).cadSrc = s.cadSrc := rfl
@[simp] theorem State.bump_cadFrom : (s.bump).cadFrom = s.cadFrom := rfl
@[simp] theorem State.bump_cadOld : (s.bump).cadOld = s.cadOld := rfl
@[simp] theorem State.bump_cadRcs : (s.bump).cadRcs = s.cadRcs := rfl
@[simp] theorem State.bump_cadErr : (s.bump).cadErr = s.cadErr := rfl
@[simp] theorem State.bump_gwTpl : (s.bump).gwTpl = s.gwTpl := rfl
@[simp] theorem State.bump_gwWin : (s.bump).gwWin = s.gwWin := rfl
@[simp] theorem State.bump_gwCnt : (s.bump).gwCnt = s.gwCnt := rfl
@[simp] theorem State.bump_wear : (s.bump).wear = s.wear := rfl
@[simp] theorem State.bump_swaps : (s.bump).swaps = s.swaps := rfl
@[simp] theorem State.bump_swapNext : (s.bump).swapNext = s.swapNext := rfl
@[simp] theorem State.bump_caveRead : (s.bump).caveRead = s.caveRead := rfl
@[simp] theorem State.bump_swapWait : (s.bump).swapWait = s.swapWait := rfl
@[simp] theorem State.bump_rowMap : (s.bump).rowMap = s.rowMap := rfl
@[simp] theorem State.bump_image : (s.bump).image = s.image := rfl
@[simp] theorem State.bump_applied : (s.bump).applied = s.applied := rfl
@[simp] theorem State.bump_perfs : (s.bump).perfs = s.perfs := rfl
@[simp] theorem State.bump_slotUse : (s.bump).slotUse = s.slotUse := rfl
@[simp] theorem State.bump_events : (s.bump).events = s.events := rfl
@[simp] theorem State.bump_slotSeen : (s.bump).slotSeen = s.slotSeen := rfl
@[simp] theorem State.bump_resetCauses : (s.bump).resetCauses = s.resetCauses := rfl
@[simp] theorem State.bump_sagSupply : (s.bump).sagSupply = s.sagSupply := rfl
@[simp] theorem State.bump_porstLow : (s.bump).porstLow = s.porstLow := rfl
@[simp] theorem State.bump_outsAt : (s.bump).outsAt = s.outsAt := rfl
@[simp] theorem State.bump_tapIr : (s.bump).tapIr = s.tapIr := rfl
@[simp] theorem State.bump_bsr : (s.bump).bsr = s.bsr := rfl
@[simp] theorem State.bump_thermalHold : (s.bump).thermalHold = s.thermalHold := rfl
@[simp] theorem State.bump_coolAt : (s.bump).coolAt = s.coolAt := rfl
@[simp] theorem State.bump_hot : (s.bump).hot = s.hot := rfl
@[simp] theorem State.bump_wiping : (s.bump).wiping = s.wiping := rfl
@[simp] theorem State.bump_startWait : (s.bump).startWait = s.startWait := rfl
@[simp] theorem State.bump_onAtReset : (s.bump).onAtReset = s.onAtReset := rfl
@[simp] theorem State.bump_releasedAt : (s.bump).releasedAt = s.releasedAt := rfl
@[simp] theorem State.bump_serial : (s.bump).serial = s.serial := rfl
@[simp] theorem State.bump_lifeCycle : (s.bump).lifeCycle = s.lifeCycle := rfl
@[simp] theorem State.bump_keyHash : (s.bump).keyHash = s.keyHash := rfl
@[simp] theorem State.bump_otp : (s.bump).otp = s.otp := rfl
@[simp] theorem State.bump_otpProg : (s.bump).otpProg = s.otpProg := rfl
@[simp] theorem State.bump_lifeProg : (s.bump).lifeProg = s.lifeProg := rfl
@[simp] theorem State.bump_bootNext : (s.bump).bootNext = s.bootNext := rfl
@[simp] theorem State.bump_bootTcu : (s.bump).bootTcu = s.bootTcu := rfl
@[simp] theorem State.bump_booted : (s.bump).booted = s.booted := rfl
@[simp] theorem State.bump_pushLen : (s.bump).pushLen = s.pushLen := rfl
@[simp] theorem State.bump_pushed : (s.bump).pushed = s.pushed := rfl
@[simp] theorem State.bump_perstHigh : (s.bump).perstHigh = s.perstHigh := rfl
end

section
variable (s : State) (e u n : Nat)
@[simp] theorem State.event_pending : (s.event e u n).pending = s.pending := by unfold State.event; split <;> rfl
@[simp] theorem State.event_regs : (s.event e u n).regs = s.regs := by unfold State.event; split <;> rfl
@[simp] theorem State.event_shadow : (s.event e u n).shadow = s.shadow := by unfold State.event; split <;> rfl
@[simp] theorem State.event_commitSec : (s.event e u n).commitSec = s.commitSec := by unfold State.event; split <;> rfl
@[simp] theorem State.event_free : (s.event e u n).free = s.free := by unfold State.event; split <;> rfl
@[simp] theorem State.event_out : (s.event e u n).out = s.out := by unfold State.event; split <;> rfl
@[simp] theorem State.event_hosts : (s.event e u n).hosts = s.hosts := by unfold State.event; split <;> rfl
@[simp] theorem State.event_cmds : (s.event e u n).cmds = s.cmds := by unfold State.event; split <;> rfl
@[simp] theorem State.event_grants : (s.event e u n).grants = s.grants := by unfold State.event; split <;> rfl
@[simp] theorem State.event_slots : (s.event e u n).slots = s.slots := by unfold State.event; split <;> rfl
@[simp] theorem State.event_phase : (s.event e u n).phase = s.phase := by unfold State.event; split <;> rfl
@[simp] theorem State.event_straps : (s.event e u n).straps = s.straps := by unfold State.event; split <;> rfl
@[simp] theorem State.event_tcus : (s.event e u n).tcus = s.tcus := by unfold State.event; split <;> rfl
@[simp] theorem State.event_fw : (s.event e u n).fw = s.fw := by unfold State.event; split <;> rfl
@[simp] theorem State.event_gatePins : (s.event e u n).gatePins = s.gatePins := by unfold State.event; split <;> rfl
@[simp] theorem State.event_calHead : (s.event e u n).calHead = s.calHead := by unfold State.event; split <;> rfl
@[simp] theorem State.event_calRunning : (s.event e u n).calRunning = s.calRunning := by unfold State.event; split <;> rfl
@[simp] theorem State.event_switch : (s.event e u n).switch = s.switch := by unfold State.event; split <;> rfl
@[simp] theorem State.event_reverting : (s.event e u n).reverting = s.reverting := by unfold State.event; split <;> rfl
@[simp] theorem State.event_revertAt : (s.event e u n).revertAt = s.revertAt := by unfold State.event; split <;> rfl
@[simp] theorem State.event_judging : (s.event e u n).judging = s.judging := by unfold State.event; split <;> rfl
@[simp] theorem State.event_up : (s.event e u n).up = s.up := by unfold State.event; split <;> rfl
@[simp] theorem State.event_engines : (s.event e u n).engines = s.engines := by unfold State.event; split <;> rfl
@[simp] theorem State.event_shmem : (s.event e u n).shmem = s.shmem := by unfold State.event; split <;> rfl
@[simp] theorem State.event_frames : (s.event e u n).frames = s.frames := by unfold State.event; split <;> rfl
@[simp] theorem State.event_cells : (s.event e u n).cells = s.cells := by unfold State.event; split <;> rfl
@[simp] theorem State.event_nextS : (s.event e u n).nextS = s.nextS := by unfold State.event; split <;> rfl
@[simp] theorem State.event_nextL : (s.event e u n).nextL = s.nextL := by unfold State.event; split <;> rfl
@[simp] theorem State.event_voqs : (s.event e u n).voqs = s.voqs := by unfold State.event; split <;> rfl
@[simp] theorem State.event_txs : (s.event e u n).txs = s.txs := by unfold State.event; split <;> rfl
@[simp] theorem State.event_macs : (s.event e u n).macs = s.macs := by unfold State.event; split <;> rfl
@[simp] theorem State.event_pressOwn : (s.event e u n).pressOwn = s.pressOwn := by unfold State.event; split <;> rfl
@[simp] theorem State.event_pressShared : (s.event e u n).pressShared = s.pressShared := by unfold State.event; split <;> rfl
@[simp] theorem State.event_fus : (s.event e u n).fus = s.fus := by unfold State.event; split <;> rfl
@[simp] theorem State.event_txts : (s.event e u n).txts = s.txts := by unfold State.event; split <;> rfl
@[simp] theorem State.event_walk : (s.event e u n).walk = s.walk := by unfold State.event; split <;> rfl
@[simp] theorem State.event_wheyDue : (s.event e u n).wheyDue = s.wheyDue := by unfold State.event; split <;> rfl
@[simp] theorem State.event_subs : (s.event e u n).subs = s.subs := by unfold State.event; split <;> rfl
@[simp] theorem State.event_lostCopies : (s.event e u n).lostCopies = s.lostCopies := by unfold State.event; split <;> rfl
@[simp] theorem State.event_fences : (s.event e u n).fences = s.fences := by unfold State.event; split <;> rfl
@[simp] theorem State.event_nodes : (s.event e u n).nodes = s.nodes := by unfold State.event; split <;> rfl
@[simp] theorem State.event_shpUntil : (s.event e u n).shpUntil = s.shpUntil := by unfold State.event; split <;> rfl
@[simp] theorem State.event_heldShapes : (s.event e u n).heldShapes = s.heldShapes := by unfold State.event; split <;> rfl
@[simp] theorem State.event_gates : (s.event e u n).gates = s.gates := by unfold State.event; split <;> rfl
@[simp] theorem State.event_gateCopy : (s.event e u n).gateCopy = s.gateCopy := by unfold State.event; split <;> rfl
@[simp] theorem State.event_gwq : (s.event e u n).gwq = s.gwq := by unfold State.event; split <;> rfl
@[simp] theorem State.event_watch : (s.event e u n).watch = s.watch := by unfold State.event; split <;> rfl
@[simp] theorem State.event_samples : (s.event e u n).samples = s.samples := by unfold State.event; split <;> rfl
@[simp] theorem State.event_smpSeq : (s.event e u n).smpSeq = s.smpSeq := by unfold State.event; split <;> rfl
@[simp] theorem State.event_smpSkipped : (s.event e u n).smpSkipped = s.smpSkipped := by unfold State.event; split <;> rfl
@[simp] theorem State.event_smpAt : (s.event e u n).smpAt = s.smpAt := by unfold State.event; split <;> rfl
@[simp] theorem State.event_smpUntil : (s.event e u n).smpUntil = s.smpUntil := by unfold State.event; split <;> rfl
@[simp] theorem State.event_smpRun : (s.event e u n).smpRun = s.smpRun := by unfold State.event; split <;> rfl
@[simp] theorem State.event_tabs : (s.event e u n).tabs = s.tabs := by unfold State.event; split <;> rfl
@[simp] theorem State.event_learnq : (s.event e u n).learnq = s.learnq := by unfold State.event; split <;> rfl
@[simp] theorem State.event_crossing : (s.event e u n).crossing = s.crossing := by unfold State.event; split <;> rfl
@[simp] theorem State.event_learnAt : (s.event e u n).learnAt = s.learnAt := by unfold State.event; split <;> rfl
@[simp] theorem State.event_moves : (s.event e u n).moves = s.moves := by unfold State.event; split <;> rfl
@[simp] theorem State.event_hits : (s.event e u n).hits = s.hits := by unfold State.event; split <;> rfl
@[simp] theorem State.event_winOps : (s.event e u n).winOps = s.winOps := by unfold State.event; split <;> rfl
@[simp] theorem State.event_shadows : (s.event e u n).shadows = s.shadows := by unfold State.event; split <;> rfl
@[simp] theorem State.event_slotNext : (s.event e u n).slotNext = s.slotNext := by unfold State.event; split <;> rfl
@[simp] theorem State.event_slotFirst : (s.event e u n).slotFirst = s.slotFirst := by unfold State.event; split <;> rfl
@[simp] theorem State.event_lanes : (s.event e u n).lanes = s.lanes := by unfold State.event; split <;> rfl
@[simp] theorem State.event_trunks : (s.event e u n).trunks = s.trunks := by unfold State.event; split <;> rfl
@[simp] theorem State.event_ntTimes : (s.event e u n).ntTimes = s.ntTimes := by unfold State.event; split <;> rfl
@[simp] theorem State.event_cadTab : (s.event e u n).cadTab = s.cadTab := by unfold State.event; split <;> rfl
@[simp] theorem State.event_cadSrc : (s.event e u n).cadSrc = s.cadSrc := by unfold State.event; split <;> rfl
@[simp] theorem State.event_cadFrom : (s.event e u n).cadFrom = s.cadFrom := by unfold State.event; split <;> rfl
@[simp] theorem State.event_cadOld : (s.event e u n).cadOld = s.cadOld := by unfold State.event; split <;> rfl
@[simp] theorem State.event_cadRcs : (s.event e u n).cadRcs = s.cadRcs := by unfold State.event; split <;> rfl
@[simp] theorem State.event_cadErr : (s.event e u n).cadErr = s.cadErr := by unfold State.event; split <;> rfl
@[simp] theorem State.event_gwTpl : (s.event e u n).gwTpl = s.gwTpl := by unfold State.event; split <;> rfl
@[simp] theorem State.event_gwWin : (s.event e u n).gwWin = s.gwWin := by unfold State.event; split <;> rfl
@[simp] theorem State.event_gwCnt : (s.event e u n).gwCnt = s.gwCnt := by unfold State.event; split <;> rfl
@[simp] theorem State.event_wear : (s.event e u n).wear = s.wear := by unfold State.event; split <;> rfl
@[simp] theorem State.event_swaps : (s.event e u n).swaps = s.swaps := by unfold State.event; split <;> rfl
@[simp] theorem State.event_swapNext : (s.event e u n).swapNext = s.swapNext := by unfold State.event; split <;> rfl
@[simp] theorem State.event_caveRead : (s.event e u n).caveRead = s.caveRead := by unfold State.event; split <;> rfl
@[simp] theorem State.event_swapWait : (s.event e u n).swapWait = s.swapWait := by unfold State.event; split <;> rfl
@[simp] theorem State.event_rowMap : (s.event e u n).rowMap = s.rowMap := by unfold State.event; split <;> rfl
@[simp] theorem State.event_image : (s.event e u n).image = s.image := by unfold State.event; split <;> rfl
@[simp] theorem State.event_applied : (s.event e u n).applied = s.applied := by unfold State.event; split <;> rfl
@[simp] theorem State.event_perfs : (s.event e u n).perfs = s.perfs := by unfold State.event; split <;> rfl
@[simp] theorem State.event_slotUse : (s.event e u n).slotUse = s.slotUse := by unfold State.event; split <;> rfl
@[simp] theorem State.event_slotSeen : (s.event e u n).slotSeen = s.slotSeen := by unfold State.event; split <;> rfl
@[simp] theorem State.event_resetCauses : (s.event e u n).resetCauses = s.resetCauses := by unfold State.event; split <;> rfl
@[simp] theorem State.event_sagSupply : (s.event e u n).sagSupply = s.sagSupply := by unfold State.event; split <;> rfl
@[simp] theorem State.event_porstLow : (s.event e u n).porstLow = s.porstLow := by unfold State.event; split <;> rfl
@[simp] theorem State.event_outsAt : (s.event e u n).outsAt = s.outsAt := by unfold State.event; split <;> rfl
@[simp] theorem State.event_tapIr : (s.event e u n).tapIr = s.tapIr := by unfold State.event; split <;> rfl
@[simp] theorem State.event_bsr : (s.event e u n).bsr = s.bsr := by unfold State.event; split <;> rfl
@[simp] theorem State.event_thermalHold : (s.event e u n).thermalHold = s.thermalHold := by unfold State.event; split <;> rfl
@[simp] theorem State.event_coolAt : (s.event e u n).coolAt = s.coolAt := by unfold State.event; split <;> rfl
@[simp] theorem State.event_hot : (s.event e u n).hot = s.hot := by unfold State.event; split <;> rfl
@[simp] theorem State.event_wiping : (s.event e u n).wiping = s.wiping := by unfold State.event; split <;> rfl
@[simp] theorem State.event_startWait : (s.event e u n).startWait = s.startWait := by unfold State.event; split <;> rfl
@[simp] theorem State.event_onAtReset : (s.event e u n).onAtReset = s.onAtReset := by unfold State.event; split <;> rfl
@[simp] theorem State.event_releasedAt : (s.event e u n).releasedAt = s.releasedAt := by unfold State.event; split <;> rfl
@[simp] theorem State.event_serial : (s.event e u n).serial = s.serial := by unfold State.event; split <;> rfl
@[simp] theorem State.event_lifeCycle : (s.event e u n).lifeCycle = s.lifeCycle := by unfold State.event; split <;> rfl
@[simp] theorem State.event_keyHash : (s.event e u n).keyHash = s.keyHash := by unfold State.event; split <;> rfl
@[simp] theorem State.event_otp : (s.event e u n).otp = s.otp := by unfold State.event; split <;> rfl
@[simp] theorem State.event_otpProg : (s.event e u n).otpProg = s.otpProg := by unfold State.event; split <;> rfl
@[simp] theorem State.event_lifeProg : (s.event e u n).lifeProg = s.lifeProg := by unfold State.event; split <;> rfl
@[simp] theorem State.event_bootNext : (s.event e u n).bootNext = s.bootNext := by unfold State.event; split <;> rfl
@[simp] theorem State.event_bootTcu : (s.event e u n).bootTcu = s.bootTcu := by unfold State.event; split <;> rfl
@[simp] theorem State.event_booted : (s.event e u n).booted = s.booted := by unfold State.event; split <;> rfl
@[simp] theorem State.event_pushLen : (s.event e u n).pushLen = s.pushLen := by unfold State.event; split <;> rfl
@[simp] theorem State.event_pushed : (s.event e u n).pushed = s.pushed := by unfold State.event; split <;> rfl
@[simp] theorem State.event_perstHigh : (s.event e u n).perstHigh = s.perstHigh := by unfold State.event; split <;> rfl
end

section
variable (s : State) (k : Cmd) (f : Cmd → Cmd)
@[simp] theorem State.onCmd_pending : (s.onCmd k f).pending = s.pending := rfl
@[simp] theorem State.onCmd_regs : (s.onCmd k f).regs = s.regs := rfl
@[simp] theorem State.onCmd_shadow : (s.onCmd k f).shadow = s.shadow := rfl
@[simp] theorem State.onCmd_commitSec : (s.onCmd k f).commitSec = s.commitSec := rfl
@[simp] theorem State.onCmd_free : (s.onCmd k f).free = s.free := rfl
@[simp] theorem State.onCmd_out : (s.onCmd k f).out = s.out := rfl
@[simp] theorem State.onCmd_hosts : (s.onCmd k f).hosts = s.hosts := rfl
@[simp] theorem State.onCmd_grants : (s.onCmd k f).grants = s.grants := rfl
@[simp] theorem State.onCmd_slots : (s.onCmd k f).slots = s.slots := rfl
@[simp] theorem State.onCmd_phase : (s.onCmd k f).phase = s.phase := rfl
@[simp] theorem State.onCmd_straps : (s.onCmd k f).straps = s.straps := rfl
@[simp] theorem State.onCmd_tcus : (s.onCmd k f).tcus = s.tcus := rfl
@[simp] theorem State.onCmd_fw : (s.onCmd k f).fw = s.fw := rfl
@[simp] theorem State.onCmd_gatePins : (s.onCmd k f).gatePins = s.gatePins := rfl
@[simp] theorem State.onCmd_calHead : (s.onCmd k f).calHead = s.calHead := rfl
@[simp] theorem State.onCmd_calRunning : (s.onCmd k f).calRunning = s.calRunning := rfl
@[simp] theorem State.onCmd_switch : (s.onCmd k f).switch = s.switch := rfl
@[simp] theorem State.onCmd_reverting : (s.onCmd k f).reverting = s.reverting := rfl
@[simp] theorem State.onCmd_revertAt : (s.onCmd k f).revertAt = s.revertAt := rfl
@[simp] theorem State.onCmd_judging : (s.onCmd k f).judging = s.judging := rfl
@[simp] theorem State.onCmd_up : (s.onCmd k f).up = s.up := rfl
@[simp] theorem State.onCmd_engines : (s.onCmd k f).engines = s.engines := rfl
@[simp] theorem State.onCmd_shmem : (s.onCmd k f).shmem = s.shmem := rfl
@[simp] theorem State.onCmd_frames : (s.onCmd k f).frames = s.frames := rfl
@[simp] theorem State.onCmd_cells : (s.onCmd k f).cells = s.cells := rfl
@[simp] theorem State.onCmd_nextS : (s.onCmd k f).nextS = s.nextS := rfl
@[simp] theorem State.onCmd_nextL : (s.onCmd k f).nextL = s.nextL := rfl
@[simp] theorem State.onCmd_voqs : (s.onCmd k f).voqs = s.voqs := rfl
@[simp] theorem State.onCmd_txs : (s.onCmd k f).txs = s.txs := rfl
@[simp] theorem State.onCmd_macs : (s.onCmd k f).macs = s.macs := rfl
@[simp] theorem State.onCmd_pressOwn : (s.onCmd k f).pressOwn = s.pressOwn := rfl
@[simp] theorem State.onCmd_pressShared : (s.onCmd k f).pressShared = s.pressShared := rfl
@[simp] theorem State.onCmd_fus : (s.onCmd k f).fus = s.fus := rfl
@[simp] theorem State.onCmd_txts : (s.onCmd k f).txts = s.txts := rfl
@[simp] theorem State.onCmd_walk : (s.onCmd k f).walk = s.walk := rfl
@[simp] theorem State.onCmd_wheyDue : (s.onCmd k f).wheyDue = s.wheyDue := rfl
@[simp] theorem State.onCmd_subs : (s.onCmd k f).subs = s.subs := rfl
@[simp] theorem State.onCmd_lostCopies : (s.onCmd k f).lostCopies = s.lostCopies := rfl
@[simp] theorem State.onCmd_fences : (s.onCmd k f).fences = s.fences := rfl
@[simp] theorem State.onCmd_nodes : (s.onCmd k f).nodes = s.nodes := rfl
@[simp] theorem State.onCmd_shpUntil : (s.onCmd k f).shpUntil = s.shpUntil := rfl
@[simp] theorem State.onCmd_heldShapes : (s.onCmd k f).heldShapes = s.heldShapes := rfl
@[simp] theorem State.onCmd_gates : (s.onCmd k f).gates = s.gates := rfl
@[simp] theorem State.onCmd_gateCopy : (s.onCmd k f).gateCopy = s.gateCopy := rfl
@[simp] theorem State.onCmd_gwq : (s.onCmd k f).gwq = s.gwq := rfl
@[simp] theorem State.onCmd_watch : (s.onCmd k f).watch = s.watch := rfl
@[simp] theorem State.onCmd_samples : (s.onCmd k f).samples = s.samples := rfl
@[simp] theorem State.onCmd_smpSeq : (s.onCmd k f).smpSeq = s.smpSeq := rfl
@[simp] theorem State.onCmd_smpSkipped : (s.onCmd k f).smpSkipped = s.smpSkipped := rfl
@[simp] theorem State.onCmd_smpAt : (s.onCmd k f).smpAt = s.smpAt := rfl
@[simp] theorem State.onCmd_smpUntil : (s.onCmd k f).smpUntil = s.smpUntil := rfl
@[simp] theorem State.onCmd_smpRun : (s.onCmd k f).smpRun = s.smpRun := rfl
@[simp] theorem State.onCmd_tabs : (s.onCmd k f).tabs = s.tabs := rfl
@[simp] theorem State.onCmd_learnq : (s.onCmd k f).learnq = s.learnq := rfl
@[simp] theorem State.onCmd_crossing : (s.onCmd k f).crossing = s.crossing := rfl
@[simp] theorem State.onCmd_learnAt : (s.onCmd k f).learnAt = s.learnAt := rfl
@[simp] theorem State.onCmd_moves : (s.onCmd k f).moves = s.moves := rfl
@[simp] theorem State.onCmd_hits : (s.onCmd k f).hits = s.hits := rfl
@[simp] theorem State.onCmd_winOps : (s.onCmd k f).winOps = s.winOps := rfl
@[simp] theorem State.onCmd_shadows : (s.onCmd k f).shadows = s.shadows := rfl
@[simp] theorem State.onCmd_slotNext : (s.onCmd k f).slotNext = s.slotNext := rfl
@[simp] theorem State.onCmd_slotFirst : (s.onCmd k f).slotFirst = s.slotFirst := rfl
@[simp] theorem State.onCmd_lanes : (s.onCmd k f).lanes = s.lanes := rfl
@[simp] theorem State.onCmd_trunks : (s.onCmd k f).trunks = s.trunks := rfl
@[simp] theorem State.onCmd_ntTimes : (s.onCmd k f).ntTimes = s.ntTimes := rfl
@[simp] theorem State.onCmd_cadTab : (s.onCmd k f).cadTab = s.cadTab := rfl
@[simp] theorem State.onCmd_cadSrc : (s.onCmd k f).cadSrc = s.cadSrc := rfl
@[simp] theorem State.onCmd_cadFrom : (s.onCmd k f).cadFrom = s.cadFrom := rfl
@[simp] theorem State.onCmd_cadOld : (s.onCmd k f).cadOld = s.cadOld := rfl
@[simp] theorem State.onCmd_cadRcs : (s.onCmd k f).cadRcs = s.cadRcs := rfl
@[simp] theorem State.onCmd_cadErr : (s.onCmd k f).cadErr = s.cadErr := rfl
@[simp] theorem State.onCmd_gwTpl : (s.onCmd k f).gwTpl = s.gwTpl := rfl
@[simp] theorem State.onCmd_gwWin : (s.onCmd k f).gwWin = s.gwWin := rfl
@[simp] theorem State.onCmd_gwCnt : (s.onCmd k f).gwCnt = s.gwCnt := rfl
@[simp] theorem State.onCmd_wear : (s.onCmd k f).wear = s.wear := rfl
@[simp] theorem State.onCmd_swaps : (s.onCmd k f).swaps = s.swaps := rfl
@[simp] theorem State.onCmd_swapNext : (s.onCmd k f).swapNext = s.swapNext := rfl
@[simp] theorem State.onCmd_caveRead : (s.onCmd k f).caveRead = s.caveRead := rfl
@[simp] theorem State.onCmd_swapWait : (s.onCmd k f).swapWait = s.swapWait := rfl
@[simp] theorem State.onCmd_rowMap : (s.onCmd k f).rowMap = s.rowMap := rfl
@[simp] theorem State.onCmd_image : (s.onCmd k f).image = s.image := rfl
@[simp] theorem State.onCmd_applied : (s.onCmd k f).applied = s.applied := rfl
@[simp] theorem State.onCmd_perfs : (s.onCmd k f).perfs = s.perfs := rfl
@[simp] theorem State.onCmd_slotUse : (s.onCmd k f).slotUse = s.slotUse := rfl
@[simp] theorem State.onCmd_events : (s.onCmd k f).events = s.events := rfl
@[simp] theorem State.onCmd_slotSeen : (s.onCmd k f).slotSeen = s.slotSeen := rfl
@[simp] theorem State.onCmd_resetCauses : (s.onCmd k f).resetCauses = s.resetCauses := rfl
@[simp] theorem State.onCmd_sagSupply : (s.onCmd k f).sagSupply = s.sagSupply := rfl
@[simp] theorem State.onCmd_porstLow : (s.onCmd k f).porstLow = s.porstLow := rfl
@[simp] theorem State.onCmd_outsAt : (s.onCmd k f).outsAt = s.outsAt := rfl
@[simp] theorem State.onCmd_tapIr : (s.onCmd k f).tapIr = s.tapIr := rfl
@[simp] theorem State.onCmd_bsr : (s.onCmd k f).bsr = s.bsr := rfl
@[simp] theorem State.onCmd_thermalHold : (s.onCmd k f).thermalHold = s.thermalHold := rfl
@[simp] theorem State.onCmd_coolAt : (s.onCmd k f).coolAt = s.coolAt := rfl
@[simp] theorem State.onCmd_hot : (s.onCmd k f).hot = s.hot := rfl
@[simp] theorem State.onCmd_wiping : (s.onCmd k f).wiping = s.wiping := rfl
@[simp] theorem State.onCmd_startWait : (s.onCmd k f).startWait = s.startWait := rfl
@[simp] theorem State.onCmd_onAtReset : (s.onCmd k f).onAtReset = s.onAtReset := rfl
@[simp] theorem State.onCmd_releasedAt : (s.onCmd k f).releasedAt = s.releasedAt := rfl
@[simp] theorem State.onCmd_serial : (s.onCmd k f).serial = s.serial := rfl
@[simp] theorem State.onCmd_lifeCycle : (s.onCmd k f).lifeCycle = s.lifeCycle := rfl
@[simp] theorem State.onCmd_keyHash : (s.onCmd k f).keyHash = s.keyHash := rfl
@[simp] theorem State.onCmd_otp : (s.onCmd k f).otp = s.otp := rfl
@[simp] theorem State.onCmd_otpProg : (s.onCmd k f).otpProg = s.otpProg := rfl
@[simp] theorem State.onCmd_lifeProg : (s.onCmd k f).lifeProg = s.lifeProg := rfl
@[simp] theorem State.onCmd_bootNext : (s.onCmd k f).bootNext = s.bootNext := rfl
@[simp] theorem State.onCmd_bootTcu : (s.onCmd k f).bootTcu = s.bootTcu := rfl
@[simp] theorem State.onCmd_booted : (s.onCmd k f).booted = s.booted := rfl
@[simp] theorem State.onCmd_pushLen : (s.onCmd k f).pushLen = s.pushLen := rfl
@[simp] theorem State.onCmd_pushed : (s.onCmd k f).pushed = s.pushed := rfl
@[simp] theorem State.onCmd_perstHigh : (s.onCmd k f).perstHigh = s.perstHigh := rfl
end

section
variable (s : State) (i : Nat) (f : SwapRec → SwapRec)
@[simp] theorem State.onSwap_pending : (s.onSwap i f).pending = s.pending := rfl
@[simp] theorem State.onSwap_regs : (s.onSwap i f).regs = s.regs := rfl
@[simp] theorem State.onSwap_shadow : (s.onSwap i f).shadow = s.shadow := rfl
@[simp] theorem State.onSwap_commitSec : (s.onSwap i f).commitSec = s.commitSec := rfl
@[simp] theorem State.onSwap_free : (s.onSwap i f).free = s.free := rfl
@[simp] theorem State.onSwap_out : (s.onSwap i f).out = s.out := rfl
@[simp] theorem State.onSwap_hosts : (s.onSwap i f).hosts = s.hosts := rfl
@[simp] theorem State.onSwap_cmds : (s.onSwap i f).cmds = s.cmds := rfl
@[simp] theorem State.onSwap_grants : (s.onSwap i f).grants = s.grants := rfl
@[simp] theorem State.onSwap_slots : (s.onSwap i f).slots = s.slots := rfl
@[simp] theorem State.onSwap_phase : (s.onSwap i f).phase = s.phase := rfl
@[simp] theorem State.onSwap_straps : (s.onSwap i f).straps = s.straps := rfl
@[simp] theorem State.onSwap_tcus : (s.onSwap i f).tcus = s.tcus := rfl
@[simp] theorem State.onSwap_fw : (s.onSwap i f).fw = s.fw := rfl
@[simp] theorem State.onSwap_gatePins : (s.onSwap i f).gatePins = s.gatePins := rfl
@[simp] theorem State.onSwap_calHead : (s.onSwap i f).calHead = s.calHead := rfl
@[simp] theorem State.onSwap_calRunning : (s.onSwap i f).calRunning = s.calRunning := rfl
@[simp] theorem State.onSwap_switch : (s.onSwap i f).switch = s.switch := rfl
@[simp] theorem State.onSwap_reverting : (s.onSwap i f).reverting = s.reverting := rfl
@[simp] theorem State.onSwap_revertAt : (s.onSwap i f).revertAt = s.revertAt := rfl
@[simp] theorem State.onSwap_judging : (s.onSwap i f).judging = s.judging := rfl
@[simp] theorem State.onSwap_up : (s.onSwap i f).up = s.up := rfl
@[simp] theorem State.onSwap_engines : (s.onSwap i f).engines = s.engines := rfl
@[simp] theorem State.onSwap_shmem : (s.onSwap i f).shmem = s.shmem := rfl
@[simp] theorem State.onSwap_frames : (s.onSwap i f).frames = s.frames := rfl
@[simp] theorem State.onSwap_cells : (s.onSwap i f).cells = s.cells := rfl
@[simp] theorem State.onSwap_nextS : (s.onSwap i f).nextS = s.nextS := rfl
@[simp] theorem State.onSwap_nextL : (s.onSwap i f).nextL = s.nextL := rfl
@[simp] theorem State.onSwap_voqs : (s.onSwap i f).voqs = s.voqs := rfl
@[simp] theorem State.onSwap_txs : (s.onSwap i f).txs = s.txs := rfl
@[simp] theorem State.onSwap_macs : (s.onSwap i f).macs = s.macs := rfl
@[simp] theorem State.onSwap_pressOwn : (s.onSwap i f).pressOwn = s.pressOwn := rfl
@[simp] theorem State.onSwap_pressShared : (s.onSwap i f).pressShared = s.pressShared := rfl
@[simp] theorem State.onSwap_fus : (s.onSwap i f).fus = s.fus := rfl
@[simp] theorem State.onSwap_txts : (s.onSwap i f).txts = s.txts := rfl
@[simp] theorem State.onSwap_walk : (s.onSwap i f).walk = s.walk := rfl
@[simp] theorem State.onSwap_wheyDue : (s.onSwap i f).wheyDue = s.wheyDue := rfl
@[simp] theorem State.onSwap_subs : (s.onSwap i f).subs = s.subs := rfl
@[simp] theorem State.onSwap_lostCopies : (s.onSwap i f).lostCopies = s.lostCopies := rfl
@[simp] theorem State.onSwap_fences : (s.onSwap i f).fences = s.fences := rfl
@[simp] theorem State.onSwap_nodes : (s.onSwap i f).nodes = s.nodes := rfl
@[simp] theorem State.onSwap_shpUntil : (s.onSwap i f).shpUntil = s.shpUntil := rfl
@[simp] theorem State.onSwap_heldShapes : (s.onSwap i f).heldShapes = s.heldShapes := rfl
@[simp] theorem State.onSwap_gates : (s.onSwap i f).gates = s.gates := rfl
@[simp] theorem State.onSwap_gateCopy : (s.onSwap i f).gateCopy = s.gateCopy := rfl
@[simp] theorem State.onSwap_gwq : (s.onSwap i f).gwq = s.gwq := rfl
@[simp] theorem State.onSwap_watch : (s.onSwap i f).watch = s.watch := rfl
@[simp] theorem State.onSwap_samples : (s.onSwap i f).samples = s.samples := rfl
@[simp] theorem State.onSwap_smpSeq : (s.onSwap i f).smpSeq = s.smpSeq := rfl
@[simp] theorem State.onSwap_smpSkipped : (s.onSwap i f).smpSkipped = s.smpSkipped := rfl
@[simp] theorem State.onSwap_smpAt : (s.onSwap i f).smpAt = s.smpAt := rfl
@[simp] theorem State.onSwap_smpUntil : (s.onSwap i f).smpUntil = s.smpUntil := rfl
@[simp] theorem State.onSwap_smpRun : (s.onSwap i f).smpRun = s.smpRun := rfl
@[simp] theorem State.onSwap_tabs : (s.onSwap i f).tabs = s.tabs := rfl
@[simp] theorem State.onSwap_learnq : (s.onSwap i f).learnq = s.learnq := rfl
@[simp] theorem State.onSwap_crossing : (s.onSwap i f).crossing = s.crossing := rfl
@[simp] theorem State.onSwap_learnAt : (s.onSwap i f).learnAt = s.learnAt := rfl
@[simp] theorem State.onSwap_moves : (s.onSwap i f).moves = s.moves := rfl
@[simp] theorem State.onSwap_hits : (s.onSwap i f).hits = s.hits := rfl
@[simp] theorem State.onSwap_winOps : (s.onSwap i f).winOps = s.winOps := rfl
@[simp] theorem State.onSwap_shadows : (s.onSwap i f).shadows = s.shadows := rfl
@[simp] theorem State.onSwap_slotNext : (s.onSwap i f).slotNext = s.slotNext := rfl
@[simp] theorem State.onSwap_slotFirst : (s.onSwap i f).slotFirst = s.slotFirst := rfl
@[simp] theorem State.onSwap_lanes : (s.onSwap i f).lanes = s.lanes := rfl
@[simp] theorem State.onSwap_trunks : (s.onSwap i f).trunks = s.trunks := rfl
@[simp] theorem State.onSwap_ntTimes : (s.onSwap i f).ntTimes = s.ntTimes := rfl
@[simp] theorem State.onSwap_cadTab : (s.onSwap i f).cadTab = s.cadTab := rfl
@[simp] theorem State.onSwap_cadSrc : (s.onSwap i f).cadSrc = s.cadSrc := rfl
@[simp] theorem State.onSwap_cadFrom : (s.onSwap i f).cadFrom = s.cadFrom := rfl
@[simp] theorem State.onSwap_cadOld : (s.onSwap i f).cadOld = s.cadOld := rfl
@[simp] theorem State.onSwap_cadRcs : (s.onSwap i f).cadRcs = s.cadRcs := rfl
@[simp] theorem State.onSwap_cadErr : (s.onSwap i f).cadErr = s.cadErr := rfl
@[simp] theorem State.onSwap_gwTpl : (s.onSwap i f).gwTpl = s.gwTpl := rfl
@[simp] theorem State.onSwap_gwWin : (s.onSwap i f).gwWin = s.gwWin := rfl
@[simp] theorem State.onSwap_gwCnt : (s.onSwap i f).gwCnt = s.gwCnt := rfl
@[simp] theorem State.onSwap_wear : (s.onSwap i f).wear = s.wear := rfl
@[simp] theorem State.onSwap_swapNext : (s.onSwap i f).swapNext = s.swapNext := rfl
@[simp] theorem State.onSwap_caveRead : (s.onSwap i f).caveRead = s.caveRead := rfl
@[simp] theorem State.onSwap_swapWait : (s.onSwap i f).swapWait = s.swapWait := rfl
@[simp] theorem State.onSwap_rowMap : (s.onSwap i f).rowMap = s.rowMap := rfl
@[simp] theorem State.onSwap_image : (s.onSwap i f).image = s.image := rfl
@[simp] theorem State.onSwap_applied : (s.onSwap i f).applied = s.applied := rfl
@[simp] theorem State.onSwap_perfs : (s.onSwap i f).perfs = s.perfs := rfl
@[simp] theorem State.onSwap_slotUse : (s.onSwap i f).slotUse = s.slotUse := rfl
@[simp] theorem State.onSwap_events : (s.onSwap i f).events = s.events := rfl
@[simp] theorem State.onSwap_slotSeen : (s.onSwap i f).slotSeen = s.slotSeen := rfl
@[simp] theorem State.onSwap_resetCauses : (s.onSwap i f).resetCauses = s.resetCauses := rfl
@[simp] theorem State.onSwap_sagSupply : (s.onSwap i f).sagSupply = s.sagSupply := rfl
@[simp] theorem State.onSwap_porstLow : (s.onSwap i f).porstLow = s.porstLow := rfl
@[simp] theorem State.onSwap_outsAt : (s.onSwap i f).outsAt = s.outsAt := rfl
@[simp] theorem State.onSwap_tapIr : (s.onSwap i f).tapIr = s.tapIr := rfl
@[simp] theorem State.onSwap_bsr : (s.onSwap i f).bsr = s.bsr := rfl
@[simp] theorem State.onSwap_thermalHold : (s.onSwap i f).thermalHold = s.thermalHold := rfl
@[simp] theorem State.onSwap_coolAt : (s.onSwap i f).coolAt = s.coolAt := rfl
@[simp] theorem State.onSwap_hot : (s.onSwap i f).hot = s.hot := rfl
@[simp] theorem State.onSwap_wiping : (s.onSwap i f).wiping = s.wiping := rfl
@[simp] theorem State.onSwap_startWait : (s.onSwap i f).startWait = s.startWait := rfl
@[simp] theorem State.onSwap_onAtReset : (s.onSwap i f).onAtReset = s.onAtReset := rfl
@[simp] theorem State.onSwap_releasedAt : (s.onSwap i f).releasedAt = s.releasedAt := rfl
@[simp] theorem State.onSwap_serial : (s.onSwap i f).serial = s.serial := rfl
@[simp] theorem State.onSwap_lifeCycle : (s.onSwap i f).lifeCycle = s.lifeCycle := rfl
@[simp] theorem State.onSwap_keyHash : (s.onSwap i f).keyHash = s.keyHash := rfl
@[simp] theorem State.onSwap_otp : (s.onSwap i f).otp = s.otp := rfl
@[simp] theorem State.onSwap_otpProg : (s.onSwap i f).otpProg = s.otpProg := rfl
@[simp] theorem State.onSwap_lifeProg : (s.onSwap i f).lifeProg = s.lifeProg := rfl
@[simp] theorem State.onSwap_bootNext : (s.onSwap i f).bootNext = s.bootNext := rfl
@[simp] theorem State.onSwap_bootTcu : (s.onSwap i f).bootTcu = s.bootTcu := rfl
@[simp] theorem State.onSwap_booted : (s.onSwap i f).booted = s.booted := rfl
@[simp] theorem State.onSwap_pushLen : (s.onSwap i f).pushLen = s.pushLen := rfl
@[simp] theorem State.onSwap_pushed : (s.onSwap i f).pushed = s.pushed := rfl
@[simp] theorem State.onSwap_perstHigh : (s.onSwap i f).perstHigh = s.perstHigh := rfl
end

section
variable (s : State) (p : Nat) (f : Mac → Mac)
@[simp] theorem State.onMac_pending : (s.onMac p f).pending = s.pending := rfl
@[simp] theorem State.onMac_regs : (s.onMac p f).regs = s.regs := rfl
@[simp] theorem State.onMac_shadow : (s.onMac p f).shadow = s.shadow := rfl
@[simp] theorem State.onMac_commitSec : (s.onMac p f).commitSec = s.commitSec := rfl
@[simp] theorem State.onMac_free : (s.onMac p f).free = s.free := rfl
@[simp] theorem State.onMac_out : (s.onMac p f).out = s.out := rfl
@[simp] theorem State.onMac_hosts : (s.onMac p f).hosts = s.hosts := rfl
@[simp] theorem State.onMac_cmds : (s.onMac p f).cmds = s.cmds := rfl
@[simp] theorem State.onMac_grants : (s.onMac p f).grants = s.grants := rfl
@[simp] theorem State.onMac_slots : (s.onMac p f).slots = s.slots := rfl
@[simp] theorem State.onMac_phase : (s.onMac p f).phase = s.phase := rfl
@[simp] theorem State.onMac_straps : (s.onMac p f).straps = s.straps := rfl
@[simp] theorem State.onMac_tcus : (s.onMac p f).tcus = s.tcus := rfl
@[simp] theorem State.onMac_fw : (s.onMac p f).fw = s.fw := rfl
@[simp] theorem State.onMac_gatePins : (s.onMac p f).gatePins = s.gatePins := rfl
@[simp] theorem State.onMac_calHead : (s.onMac p f).calHead = s.calHead := rfl
@[simp] theorem State.onMac_calRunning : (s.onMac p f).calRunning = s.calRunning := rfl
@[simp] theorem State.onMac_switch : (s.onMac p f).switch = s.switch := rfl
@[simp] theorem State.onMac_reverting : (s.onMac p f).reverting = s.reverting := rfl
@[simp] theorem State.onMac_revertAt : (s.onMac p f).revertAt = s.revertAt := rfl
@[simp] theorem State.onMac_judging : (s.onMac p f).judging = s.judging := rfl
@[simp] theorem State.onMac_up : (s.onMac p f).up = s.up := rfl
@[simp] theorem State.onMac_engines : (s.onMac p f).engines = s.engines := rfl
@[simp] theorem State.onMac_shmem : (s.onMac p f).shmem = s.shmem := rfl
@[simp] theorem State.onMac_frames : (s.onMac p f).frames = s.frames := rfl
@[simp] theorem State.onMac_cells : (s.onMac p f).cells = s.cells := rfl
@[simp] theorem State.onMac_nextS : (s.onMac p f).nextS = s.nextS := rfl
@[simp] theorem State.onMac_nextL : (s.onMac p f).nextL = s.nextL := rfl
@[simp] theorem State.onMac_voqs : (s.onMac p f).voqs = s.voqs := rfl
@[simp] theorem State.onMac_txs : (s.onMac p f).txs = s.txs := rfl
@[simp] theorem State.onMac_pressOwn : (s.onMac p f).pressOwn = s.pressOwn := rfl
@[simp] theorem State.onMac_pressShared : (s.onMac p f).pressShared = s.pressShared := rfl
@[simp] theorem State.onMac_fus : (s.onMac p f).fus = s.fus := rfl
@[simp] theorem State.onMac_txts : (s.onMac p f).txts = s.txts := rfl
@[simp] theorem State.onMac_walk : (s.onMac p f).walk = s.walk := rfl
@[simp] theorem State.onMac_wheyDue : (s.onMac p f).wheyDue = s.wheyDue := rfl
@[simp] theorem State.onMac_subs : (s.onMac p f).subs = s.subs := rfl
@[simp] theorem State.onMac_lostCopies : (s.onMac p f).lostCopies = s.lostCopies := rfl
@[simp] theorem State.onMac_fences : (s.onMac p f).fences = s.fences := rfl
@[simp] theorem State.onMac_nodes : (s.onMac p f).nodes = s.nodes := rfl
@[simp] theorem State.onMac_shpUntil : (s.onMac p f).shpUntil = s.shpUntil := rfl
@[simp] theorem State.onMac_heldShapes : (s.onMac p f).heldShapes = s.heldShapes := rfl
@[simp] theorem State.onMac_gates : (s.onMac p f).gates = s.gates := rfl
@[simp] theorem State.onMac_gateCopy : (s.onMac p f).gateCopy = s.gateCopy := rfl
@[simp] theorem State.onMac_gwq : (s.onMac p f).gwq = s.gwq := rfl
@[simp] theorem State.onMac_watch : (s.onMac p f).watch = s.watch := rfl
@[simp] theorem State.onMac_samples : (s.onMac p f).samples = s.samples := rfl
@[simp] theorem State.onMac_smpSeq : (s.onMac p f).smpSeq = s.smpSeq := rfl
@[simp] theorem State.onMac_smpSkipped : (s.onMac p f).smpSkipped = s.smpSkipped := rfl
@[simp] theorem State.onMac_smpAt : (s.onMac p f).smpAt = s.smpAt := rfl
@[simp] theorem State.onMac_smpUntil : (s.onMac p f).smpUntil = s.smpUntil := rfl
@[simp] theorem State.onMac_smpRun : (s.onMac p f).smpRun = s.smpRun := rfl
@[simp] theorem State.onMac_tabs : (s.onMac p f).tabs = s.tabs := rfl
@[simp] theorem State.onMac_learnq : (s.onMac p f).learnq = s.learnq := rfl
@[simp] theorem State.onMac_crossing : (s.onMac p f).crossing = s.crossing := rfl
@[simp] theorem State.onMac_learnAt : (s.onMac p f).learnAt = s.learnAt := rfl
@[simp] theorem State.onMac_moves : (s.onMac p f).moves = s.moves := rfl
@[simp] theorem State.onMac_hits : (s.onMac p f).hits = s.hits := rfl
@[simp] theorem State.onMac_winOps : (s.onMac p f).winOps = s.winOps := rfl
@[simp] theorem State.onMac_shadows : (s.onMac p f).shadows = s.shadows := rfl
@[simp] theorem State.onMac_slotNext : (s.onMac p f).slotNext = s.slotNext := rfl
@[simp] theorem State.onMac_slotFirst : (s.onMac p f).slotFirst = s.slotFirst := rfl
@[simp] theorem State.onMac_lanes : (s.onMac p f).lanes = s.lanes := rfl
@[simp] theorem State.onMac_trunks : (s.onMac p f).trunks = s.trunks := rfl
@[simp] theorem State.onMac_ntTimes : (s.onMac p f).ntTimes = s.ntTimes := rfl
@[simp] theorem State.onMac_cadTab : (s.onMac p f).cadTab = s.cadTab := rfl
@[simp] theorem State.onMac_cadSrc : (s.onMac p f).cadSrc = s.cadSrc := rfl
@[simp] theorem State.onMac_cadFrom : (s.onMac p f).cadFrom = s.cadFrom := rfl
@[simp] theorem State.onMac_cadOld : (s.onMac p f).cadOld = s.cadOld := rfl
@[simp] theorem State.onMac_cadRcs : (s.onMac p f).cadRcs = s.cadRcs := rfl
@[simp] theorem State.onMac_cadErr : (s.onMac p f).cadErr = s.cadErr := rfl
@[simp] theorem State.onMac_gwTpl : (s.onMac p f).gwTpl = s.gwTpl := rfl
@[simp] theorem State.onMac_gwWin : (s.onMac p f).gwWin = s.gwWin := rfl
@[simp] theorem State.onMac_gwCnt : (s.onMac p f).gwCnt = s.gwCnt := rfl
@[simp] theorem State.onMac_wear : (s.onMac p f).wear = s.wear := rfl
@[simp] theorem State.onMac_swaps : (s.onMac p f).swaps = s.swaps := rfl
@[simp] theorem State.onMac_swapNext : (s.onMac p f).swapNext = s.swapNext := rfl
@[simp] theorem State.onMac_caveRead : (s.onMac p f).caveRead = s.caveRead := rfl
@[simp] theorem State.onMac_swapWait : (s.onMac p f).swapWait = s.swapWait := rfl
@[simp] theorem State.onMac_rowMap : (s.onMac p f).rowMap = s.rowMap := rfl
@[simp] theorem State.onMac_image : (s.onMac p f).image = s.image := rfl
@[simp] theorem State.onMac_applied : (s.onMac p f).applied = s.applied := rfl
@[simp] theorem State.onMac_perfs : (s.onMac p f).perfs = s.perfs := rfl
@[simp] theorem State.onMac_slotUse : (s.onMac p f).slotUse = s.slotUse := rfl
@[simp] theorem State.onMac_events : (s.onMac p f).events = s.events := rfl
@[simp] theorem State.onMac_slotSeen : (s.onMac p f).slotSeen = s.slotSeen := rfl
@[simp] theorem State.onMac_resetCauses : (s.onMac p f).resetCauses = s.resetCauses := rfl
@[simp] theorem State.onMac_sagSupply : (s.onMac p f).sagSupply = s.sagSupply := rfl
@[simp] theorem State.onMac_porstLow : (s.onMac p f).porstLow = s.porstLow := rfl
@[simp] theorem State.onMac_outsAt : (s.onMac p f).outsAt = s.outsAt := rfl
@[simp] theorem State.onMac_tapIr : (s.onMac p f).tapIr = s.tapIr := rfl
@[simp] theorem State.onMac_bsr : (s.onMac p f).bsr = s.bsr := rfl
@[simp] theorem State.onMac_thermalHold : (s.onMac p f).thermalHold = s.thermalHold := rfl
@[simp] theorem State.onMac_coolAt : (s.onMac p f).coolAt = s.coolAt := rfl
@[simp] theorem State.onMac_hot : (s.onMac p f).hot = s.hot := rfl
@[simp] theorem State.onMac_wiping : (s.onMac p f).wiping = s.wiping := rfl
@[simp] theorem State.onMac_startWait : (s.onMac p f).startWait = s.startWait := rfl
@[simp] theorem State.onMac_onAtReset : (s.onMac p f).onAtReset = s.onAtReset := rfl
@[simp] theorem State.onMac_releasedAt : (s.onMac p f).releasedAt = s.releasedAt := rfl
@[simp] theorem State.onMac_serial : (s.onMac p f).serial = s.serial := rfl
@[simp] theorem State.onMac_lifeCycle : (s.onMac p f).lifeCycle = s.lifeCycle := rfl
@[simp] theorem State.onMac_keyHash : (s.onMac p f).keyHash = s.keyHash := rfl
@[simp] theorem State.onMac_otp : (s.onMac p f).otp = s.otp := rfl
@[simp] theorem State.onMac_otpProg : (s.onMac p f).otpProg = s.otpProg := rfl
@[simp] theorem State.onMac_lifeProg : (s.onMac p f).lifeProg = s.lifeProg := rfl
@[simp] theorem State.onMac_bootNext : (s.onMac p f).bootNext = s.bootNext := rfl
@[simp] theorem State.onMac_bootTcu : (s.onMac p f).bootTcu = s.bootTcu := rfl
@[simp] theorem State.onMac_booted : (s.onMac p f).booted = s.booted := rfl
@[simp] theorem State.onMac_pushLen : (s.onMac p f).pushLen = s.pushLen := rfl
@[simp] theorem State.onMac_pushed : (s.onMac p f).pushed = s.pushed := rfl
@[simp] theorem State.onMac_perstHigh : (s.onMac p f).perstHigh = s.perstHigh := rfl
end

section
variable (s : State) (f : Nat) (x : Frame)
@[simp] theorem State.setFrame_pending : (s.setFrame f x).pending = s.pending := rfl
@[simp] theorem State.setFrame_regs : (s.setFrame f x).regs = s.regs := rfl
@[simp] theorem State.setFrame_shadow : (s.setFrame f x).shadow = s.shadow := rfl
@[simp] theorem State.setFrame_commitSec : (s.setFrame f x).commitSec = s.commitSec := rfl
@[simp] theorem State.setFrame_free : (s.setFrame f x).free = s.free := rfl
@[simp] theorem State.setFrame_out : (s.setFrame f x).out = s.out := rfl
@[simp] theorem State.setFrame_hosts : (s.setFrame f x).hosts = s.hosts := rfl
@[simp] theorem State.setFrame_cmds : (s.setFrame f x).cmds = s.cmds := rfl
@[simp] theorem State.setFrame_grants : (s.setFrame f x).grants = s.grants := rfl
@[simp] theorem State.setFrame_slots : (s.setFrame f x).slots = s.slots := rfl
@[simp] theorem State.setFrame_phase : (s.setFrame f x).phase = s.phase := rfl
@[simp] theorem State.setFrame_straps : (s.setFrame f x).straps = s.straps := rfl
@[simp] theorem State.setFrame_tcus : (s.setFrame f x).tcus = s.tcus := rfl
@[simp] theorem State.setFrame_fw : (s.setFrame f x).fw = s.fw := rfl
@[simp] theorem State.setFrame_gatePins : (s.setFrame f x).gatePins = s.gatePins := rfl
@[simp] theorem State.setFrame_calHead : (s.setFrame f x).calHead = s.calHead := rfl
@[simp] theorem State.setFrame_calRunning : (s.setFrame f x).calRunning = s.calRunning := rfl
@[simp] theorem State.setFrame_switch : (s.setFrame f x).switch = s.switch := rfl
@[simp] theorem State.setFrame_reverting : (s.setFrame f x).reverting = s.reverting := rfl
@[simp] theorem State.setFrame_revertAt : (s.setFrame f x).revertAt = s.revertAt := rfl
@[simp] theorem State.setFrame_judging : (s.setFrame f x).judging = s.judging := rfl
@[simp] theorem State.setFrame_up : (s.setFrame f x).up = s.up := rfl
@[simp] theorem State.setFrame_engines : (s.setFrame f x).engines = s.engines := rfl
@[simp] theorem State.setFrame_shmem : (s.setFrame f x).shmem = s.shmem := rfl
@[simp] theorem State.setFrame_cells : (s.setFrame f x).cells = s.cells := rfl
@[simp] theorem State.setFrame_nextS : (s.setFrame f x).nextS = s.nextS := rfl
@[simp] theorem State.setFrame_nextL : (s.setFrame f x).nextL = s.nextL := rfl
@[simp] theorem State.setFrame_voqs : (s.setFrame f x).voqs = s.voqs := rfl
@[simp] theorem State.setFrame_txs : (s.setFrame f x).txs = s.txs := rfl
@[simp] theorem State.setFrame_macs : (s.setFrame f x).macs = s.macs := rfl
@[simp] theorem State.setFrame_pressOwn : (s.setFrame f x).pressOwn = s.pressOwn := rfl
@[simp] theorem State.setFrame_pressShared : (s.setFrame f x).pressShared = s.pressShared := rfl
@[simp] theorem State.setFrame_fus : (s.setFrame f x).fus = s.fus := rfl
@[simp] theorem State.setFrame_txts : (s.setFrame f x).txts = s.txts := rfl
@[simp] theorem State.setFrame_walk : (s.setFrame f x).walk = s.walk := rfl
@[simp] theorem State.setFrame_wheyDue : (s.setFrame f x).wheyDue = s.wheyDue := rfl
@[simp] theorem State.setFrame_subs : (s.setFrame f x).subs = s.subs := rfl
@[simp] theorem State.setFrame_lostCopies : (s.setFrame f x).lostCopies = s.lostCopies := rfl
@[simp] theorem State.setFrame_fences : (s.setFrame f x).fences = s.fences := rfl
@[simp] theorem State.setFrame_nodes : (s.setFrame f x).nodes = s.nodes := rfl
@[simp] theorem State.setFrame_shpUntil : (s.setFrame f x).shpUntil = s.shpUntil := rfl
@[simp] theorem State.setFrame_heldShapes : (s.setFrame f x).heldShapes = s.heldShapes := rfl
@[simp] theorem State.setFrame_gates : (s.setFrame f x).gates = s.gates := rfl
@[simp] theorem State.setFrame_gateCopy : (s.setFrame f x).gateCopy = s.gateCopy := rfl
@[simp] theorem State.setFrame_gwq : (s.setFrame f x).gwq = s.gwq := rfl
@[simp] theorem State.setFrame_watch : (s.setFrame f x).watch = s.watch := rfl
@[simp] theorem State.setFrame_samples : (s.setFrame f x).samples = s.samples := rfl
@[simp] theorem State.setFrame_smpSeq : (s.setFrame f x).smpSeq = s.smpSeq := rfl
@[simp] theorem State.setFrame_smpSkipped : (s.setFrame f x).smpSkipped = s.smpSkipped := rfl
@[simp] theorem State.setFrame_smpAt : (s.setFrame f x).smpAt = s.smpAt := rfl
@[simp] theorem State.setFrame_smpUntil : (s.setFrame f x).smpUntil = s.smpUntil := rfl
@[simp] theorem State.setFrame_smpRun : (s.setFrame f x).smpRun = s.smpRun := rfl
@[simp] theorem State.setFrame_tabs : (s.setFrame f x).tabs = s.tabs := rfl
@[simp] theorem State.setFrame_learnq : (s.setFrame f x).learnq = s.learnq := rfl
@[simp] theorem State.setFrame_crossing : (s.setFrame f x).crossing = s.crossing := rfl
@[simp] theorem State.setFrame_learnAt : (s.setFrame f x).learnAt = s.learnAt := rfl
@[simp] theorem State.setFrame_moves : (s.setFrame f x).moves = s.moves := rfl
@[simp] theorem State.setFrame_hits : (s.setFrame f x).hits = s.hits := rfl
@[simp] theorem State.setFrame_winOps : (s.setFrame f x).winOps = s.winOps := rfl
@[simp] theorem State.setFrame_shadows : (s.setFrame f x).shadows = s.shadows := rfl
@[simp] theorem State.setFrame_slotNext : (s.setFrame f x).slotNext = s.slotNext := rfl
@[simp] theorem State.setFrame_slotFirst : (s.setFrame f x).slotFirst = s.slotFirst := rfl
@[simp] theorem State.setFrame_lanes : (s.setFrame f x).lanes = s.lanes := rfl
@[simp] theorem State.setFrame_trunks : (s.setFrame f x).trunks = s.trunks := rfl
@[simp] theorem State.setFrame_ntTimes : (s.setFrame f x).ntTimes = s.ntTimes := rfl
@[simp] theorem State.setFrame_cadTab : (s.setFrame f x).cadTab = s.cadTab := rfl
@[simp] theorem State.setFrame_cadSrc : (s.setFrame f x).cadSrc = s.cadSrc := rfl
@[simp] theorem State.setFrame_cadFrom : (s.setFrame f x).cadFrom = s.cadFrom := rfl
@[simp] theorem State.setFrame_cadOld : (s.setFrame f x).cadOld = s.cadOld := rfl
@[simp] theorem State.setFrame_cadRcs : (s.setFrame f x).cadRcs = s.cadRcs := rfl
@[simp] theorem State.setFrame_cadErr : (s.setFrame f x).cadErr = s.cadErr := rfl
@[simp] theorem State.setFrame_gwTpl : (s.setFrame f x).gwTpl = s.gwTpl := rfl
@[simp] theorem State.setFrame_gwWin : (s.setFrame f x).gwWin = s.gwWin := rfl
@[simp] theorem State.setFrame_gwCnt : (s.setFrame f x).gwCnt = s.gwCnt := rfl
@[simp] theorem State.setFrame_wear : (s.setFrame f x).wear = s.wear := rfl
@[simp] theorem State.setFrame_swaps : (s.setFrame f x).swaps = s.swaps := rfl
@[simp] theorem State.setFrame_swapNext : (s.setFrame f x).swapNext = s.swapNext := rfl
@[simp] theorem State.setFrame_caveRead : (s.setFrame f x).caveRead = s.caveRead := rfl
@[simp] theorem State.setFrame_swapWait : (s.setFrame f x).swapWait = s.swapWait := rfl
@[simp] theorem State.setFrame_rowMap : (s.setFrame f x).rowMap = s.rowMap := rfl
@[simp] theorem State.setFrame_image : (s.setFrame f x).image = s.image := rfl
@[simp] theorem State.setFrame_applied : (s.setFrame f x).applied = s.applied := rfl
@[simp] theorem State.setFrame_perfs : (s.setFrame f x).perfs = s.perfs := rfl
@[simp] theorem State.setFrame_slotUse : (s.setFrame f x).slotUse = s.slotUse := rfl
@[simp] theorem State.setFrame_events : (s.setFrame f x).events = s.events := rfl
@[simp] theorem State.setFrame_slotSeen : (s.setFrame f x).slotSeen = s.slotSeen := rfl
@[simp] theorem State.setFrame_resetCauses : (s.setFrame f x).resetCauses = s.resetCauses := rfl
@[simp] theorem State.setFrame_sagSupply : (s.setFrame f x).sagSupply = s.sagSupply := rfl
@[simp] theorem State.setFrame_porstLow : (s.setFrame f x).porstLow = s.porstLow := rfl
@[simp] theorem State.setFrame_outsAt : (s.setFrame f x).outsAt = s.outsAt := rfl
@[simp] theorem State.setFrame_tapIr : (s.setFrame f x).tapIr = s.tapIr := rfl
@[simp] theorem State.setFrame_bsr : (s.setFrame f x).bsr = s.bsr := rfl
@[simp] theorem State.setFrame_thermalHold : (s.setFrame f x).thermalHold = s.thermalHold := rfl
@[simp] theorem State.setFrame_coolAt : (s.setFrame f x).coolAt = s.coolAt := rfl
@[simp] theorem State.setFrame_hot : (s.setFrame f x).hot = s.hot := rfl
@[simp] theorem State.setFrame_wiping : (s.setFrame f x).wiping = s.wiping := rfl
@[simp] theorem State.setFrame_startWait : (s.setFrame f x).startWait = s.startWait := rfl
@[simp] theorem State.setFrame_onAtReset : (s.setFrame f x).onAtReset = s.onAtReset := rfl
@[simp] theorem State.setFrame_releasedAt : (s.setFrame f x).releasedAt = s.releasedAt := rfl
@[simp] theorem State.setFrame_serial : (s.setFrame f x).serial = s.serial := rfl
@[simp] theorem State.setFrame_lifeCycle : (s.setFrame f x).lifeCycle = s.lifeCycle := rfl
@[simp] theorem State.setFrame_keyHash : (s.setFrame f x).keyHash = s.keyHash := rfl
@[simp] theorem State.setFrame_otp : (s.setFrame f x).otp = s.otp := rfl
@[simp] theorem State.setFrame_otpProg : (s.setFrame f x).otpProg = s.otpProg := rfl
@[simp] theorem State.setFrame_lifeProg : (s.setFrame f x).lifeProg = s.lifeProg := rfl
@[simp] theorem State.setFrame_bootNext : (s.setFrame f x).bootNext = s.bootNext := rfl
@[simp] theorem State.setFrame_bootTcu : (s.setFrame f x).bootTcu = s.bootTcu := rfl
@[simp] theorem State.setFrame_booted : (s.setFrame f x).booted = s.booted := rfl
@[simp] theorem State.setFrame_pushLen : (s.setFrame f x).pushLen = s.pushLen := rfl
@[simp] theorem State.setFrame_pushed : (s.setFrame f x).pushed = s.pushed := rfl
@[simp] theorem State.setFrame_perstHigh : (s.setFrame f x).perstHigh = s.perstHigh := rfl
end

section
variable (s : State) (p : Nat) (f : Tx → Tx)
@[simp] theorem State.onTx_pending : (s.onTx p f).pending = s.pending := rfl
@[simp] theorem State.onTx_regs : (s.onTx p f).regs = s.regs := rfl
@[simp] theorem State.onTx_shadow : (s.onTx p f).shadow = s.shadow := rfl
@[simp] theorem State.onTx_commitSec : (s.onTx p f).commitSec = s.commitSec := rfl
@[simp] theorem State.onTx_free : (s.onTx p f).free = s.free := rfl
@[simp] theorem State.onTx_out : (s.onTx p f).out = s.out := rfl
@[simp] theorem State.onTx_hosts : (s.onTx p f).hosts = s.hosts := rfl
@[simp] theorem State.onTx_cmds : (s.onTx p f).cmds = s.cmds := rfl
@[simp] theorem State.onTx_grants : (s.onTx p f).grants = s.grants := rfl
@[simp] theorem State.onTx_slots : (s.onTx p f).slots = s.slots := rfl
@[simp] theorem State.onTx_phase : (s.onTx p f).phase = s.phase := rfl
@[simp] theorem State.onTx_straps : (s.onTx p f).straps = s.straps := rfl
@[simp] theorem State.onTx_tcus : (s.onTx p f).tcus = s.tcus := rfl
@[simp] theorem State.onTx_fw : (s.onTx p f).fw = s.fw := rfl
@[simp] theorem State.onTx_gatePins : (s.onTx p f).gatePins = s.gatePins := rfl
@[simp] theorem State.onTx_calHead : (s.onTx p f).calHead = s.calHead := rfl
@[simp] theorem State.onTx_calRunning : (s.onTx p f).calRunning = s.calRunning := rfl
@[simp] theorem State.onTx_switch : (s.onTx p f).switch = s.switch := rfl
@[simp] theorem State.onTx_reverting : (s.onTx p f).reverting = s.reverting := rfl
@[simp] theorem State.onTx_revertAt : (s.onTx p f).revertAt = s.revertAt := rfl
@[simp] theorem State.onTx_judging : (s.onTx p f).judging = s.judging := rfl
@[simp] theorem State.onTx_up : (s.onTx p f).up = s.up := rfl
@[simp] theorem State.onTx_engines : (s.onTx p f).engines = s.engines := rfl
@[simp] theorem State.onTx_shmem : (s.onTx p f).shmem = s.shmem := rfl
@[simp] theorem State.onTx_frames : (s.onTx p f).frames = s.frames := rfl
@[simp] theorem State.onTx_cells : (s.onTx p f).cells = s.cells := rfl
@[simp] theorem State.onTx_nextS : (s.onTx p f).nextS = s.nextS := rfl
@[simp] theorem State.onTx_nextL : (s.onTx p f).nextL = s.nextL := rfl
@[simp] theorem State.onTx_voqs : (s.onTx p f).voqs = s.voqs := rfl
@[simp] theorem State.onTx_macs : (s.onTx p f).macs = s.macs := rfl
@[simp] theorem State.onTx_pressOwn : (s.onTx p f).pressOwn = s.pressOwn := rfl
@[simp] theorem State.onTx_pressShared : (s.onTx p f).pressShared = s.pressShared := rfl
@[simp] theorem State.onTx_fus : (s.onTx p f).fus = s.fus := rfl
@[simp] theorem State.onTx_txts : (s.onTx p f).txts = s.txts := rfl
@[simp] theorem State.onTx_walk : (s.onTx p f).walk = s.walk := rfl
@[simp] theorem State.onTx_wheyDue : (s.onTx p f).wheyDue = s.wheyDue := rfl
@[simp] theorem State.onTx_subs : (s.onTx p f).subs = s.subs := rfl
@[simp] theorem State.onTx_lostCopies : (s.onTx p f).lostCopies = s.lostCopies := rfl
@[simp] theorem State.onTx_fences : (s.onTx p f).fences = s.fences := rfl
@[simp] theorem State.onTx_nodes : (s.onTx p f).nodes = s.nodes := rfl
@[simp] theorem State.onTx_shpUntil : (s.onTx p f).shpUntil = s.shpUntil := rfl
@[simp] theorem State.onTx_heldShapes : (s.onTx p f).heldShapes = s.heldShapes := rfl
@[simp] theorem State.onTx_gates : (s.onTx p f).gates = s.gates := rfl
@[simp] theorem State.onTx_gateCopy : (s.onTx p f).gateCopy = s.gateCopy := rfl
@[simp] theorem State.onTx_gwq : (s.onTx p f).gwq = s.gwq := rfl
@[simp] theorem State.onTx_watch : (s.onTx p f).watch = s.watch := rfl
@[simp] theorem State.onTx_samples : (s.onTx p f).samples = s.samples := rfl
@[simp] theorem State.onTx_smpSeq : (s.onTx p f).smpSeq = s.smpSeq := rfl
@[simp] theorem State.onTx_smpSkipped : (s.onTx p f).smpSkipped = s.smpSkipped := rfl
@[simp] theorem State.onTx_smpAt : (s.onTx p f).smpAt = s.smpAt := rfl
@[simp] theorem State.onTx_smpUntil : (s.onTx p f).smpUntil = s.smpUntil := rfl
@[simp] theorem State.onTx_smpRun : (s.onTx p f).smpRun = s.smpRun := rfl
@[simp] theorem State.onTx_tabs : (s.onTx p f).tabs = s.tabs := rfl
@[simp] theorem State.onTx_learnq : (s.onTx p f).learnq = s.learnq := rfl
@[simp] theorem State.onTx_crossing : (s.onTx p f).crossing = s.crossing := rfl
@[simp] theorem State.onTx_learnAt : (s.onTx p f).learnAt = s.learnAt := rfl
@[simp] theorem State.onTx_moves : (s.onTx p f).moves = s.moves := rfl
@[simp] theorem State.onTx_hits : (s.onTx p f).hits = s.hits := rfl
@[simp] theorem State.onTx_winOps : (s.onTx p f).winOps = s.winOps := rfl
@[simp] theorem State.onTx_shadows : (s.onTx p f).shadows = s.shadows := rfl
@[simp] theorem State.onTx_slotNext : (s.onTx p f).slotNext = s.slotNext := rfl
@[simp] theorem State.onTx_slotFirst : (s.onTx p f).slotFirst = s.slotFirst := rfl
@[simp] theorem State.onTx_lanes : (s.onTx p f).lanes = s.lanes := rfl
@[simp] theorem State.onTx_trunks : (s.onTx p f).trunks = s.trunks := rfl
@[simp] theorem State.onTx_ntTimes : (s.onTx p f).ntTimes = s.ntTimes := rfl
@[simp] theorem State.onTx_cadTab : (s.onTx p f).cadTab = s.cadTab := rfl
@[simp] theorem State.onTx_cadSrc : (s.onTx p f).cadSrc = s.cadSrc := rfl
@[simp] theorem State.onTx_cadFrom : (s.onTx p f).cadFrom = s.cadFrom := rfl
@[simp] theorem State.onTx_cadOld : (s.onTx p f).cadOld = s.cadOld := rfl
@[simp] theorem State.onTx_cadRcs : (s.onTx p f).cadRcs = s.cadRcs := rfl
@[simp] theorem State.onTx_cadErr : (s.onTx p f).cadErr = s.cadErr := rfl
@[simp] theorem State.onTx_gwTpl : (s.onTx p f).gwTpl = s.gwTpl := rfl
@[simp] theorem State.onTx_gwWin : (s.onTx p f).gwWin = s.gwWin := rfl
@[simp] theorem State.onTx_gwCnt : (s.onTx p f).gwCnt = s.gwCnt := rfl
@[simp] theorem State.onTx_wear : (s.onTx p f).wear = s.wear := rfl
@[simp] theorem State.onTx_swaps : (s.onTx p f).swaps = s.swaps := rfl
@[simp] theorem State.onTx_swapNext : (s.onTx p f).swapNext = s.swapNext := rfl
@[simp] theorem State.onTx_caveRead : (s.onTx p f).caveRead = s.caveRead := rfl
@[simp] theorem State.onTx_swapWait : (s.onTx p f).swapWait = s.swapWait := rfl
@[simp] theorem State.onTx_rowMap : (s.onTx p f).rowMap = s.rowMap := rfl
@[simp] theorem State.onTx_image : (s.onTx p f).image = s.image := rfl
@[simp] theorem State.onTx_applied : (s.onTx p f).applied = s.applied := rfl
@[simp] theorem State.onTx_perfs : (s.onTx p f).perfs = s.perfs := rfl
@[simp] theorem State.onTx_slotUse : (s.onTx p f).slotUse = s.slotUse := rfl
@[simp] theorem State.onTx_events : (s.onTx p f).events = s.events := rfl
@[simp] theorem State.onTx_slotSeen : (s.onTx p f).slotSeen = s.slotSeen := rfl
@[simp] theorem State.onTx_resetCauses : (s.onTx p f).resetCauses = s.resetCauses := rfl
@[simp] theorem State.onTx_sagSupply : (s.onTx p f).sagSupply = s.sagSupply := rfl
@[simp] theorem State.onTx_porstLow : (s.onTx p f).porstLow = s.porstLow := rfl
@[simp] theorem State.onTx_outsAt : (s.onTx p f).outsAt = s.outsAt := rfl
@[simp] theorem State.onTx_tapIr : (s.onTx p f).tapIr = s.tapIr := rfl
@[simp] theorem State.onTx_bsr : (s.onTx p f).bsr = s.bsr := rfl
@[simp] theorem State.onTx_thermalHold : (s.onTx p f).thermalHold = s.thermalHold := rfl
@[simp] theorem State.onTx_coolAt : (s.onTx p f).coolAt = s.coolAt := rfl
@[simp] theorem State.onTx_hot : (s.onTx p f).hot = s.hot := rfl
@[simp] theorem State.onTx_wiping : (s.onTx p f).wiping = s.wiping := rfl
@[simp] theorem State.onTx_startWait : (s.onTx p f).startWait = s.startWait := rfl
@[simp] theorem State.onTx_onAtReset : (s.onTx p f).onAtReset = s.onAtReset := rfl
@[simp] theorem State.onTx_releasedAt : (s.onTx p f).releasedAt = s.releasedAt := rfl
@[simp] theorem State.onTx_serial : (s.onTx p f).serial = s.serial := rfl
@[simp] theorem State.onTx_lifeCycle : (s.onTx p f).lifeCycle = s.lifeCycle := rfl
@[simp] theorem State.onTx_keyHash : (s.onTx p f).keyHash = s.keyHash := rfl
@[simp] theorem State.onTx_otp : (s.onTx p f).otp = s.otp := rfl
@[simp] theorem State.onTx_otpProg : (s.onTx p f).otpProg = s.otpProg := rfl
@[simp] theorem State.onTx_lifeProg : (s.onTx p f).lifeProg = s.lifeProg := rfl
@[simp] theorem State.onTx_bootNext : (s.onTx p f).bootNext = s.bootNext := rfl
@[simp] theorem State.onTx_bootTcu : (s.onTx p f).bootTcu = s.bootTcu := rfl
@[simp] theorem State.onTx_booted : (s.onTx p f).booted = s.booted := rfl
@[simp] theorem State.onTx_pushLen : (s.onTx p f).pushLen = s.pushLen := rfl
@[simp] theorem State.onTx_pushed : (s.onTx p f).pushed = s.pushed := rfl
@[simp] theorem State.onTx_perstHigh : (s.onTx p f).perstHigh = s.perstHigh := rfl
end

section
variable (s : State) (v : Nat) (f : Voq → Voq)
@[simp] theorem State.onVoq_pending : (s.onVoq v f).pending = s.pending := rfl
@[simp] theorem State.onVoq_regs : (s.onVoq v f).regs = s.regs := rfl
@[simp] theorem State.onVoq_shadow : (s.onVoq v f).shadow = s.shadow := rfl
@[simp] theorem State.onVoq_commitSec : (s.onVoq v f).commitSec = s.commitSec := rfl
@[simp] theorem State.onVoq_free : (s.onVoq v f).free = s.free := rfl
@[simp] theorem State.onVoq_out : (s.onVoq v f).out = s.out := rfl
@[simp] theorem State.onVoq_hosts : (s.onVoq v f).hosts = s.hosts := rfl
@[simp] theorem State.onVoq_cmds : (s.onVoq v f).cmds = s.cmds := rfl
@[simp] theorem State.onVoq_grants : (s.onVoq v f).grants = s.grants := rfl
@[simp] theorem State.onVoq_slots : (s.onVoq v f).slots = s.slots := rfl
@[simp] theorem State.onVoq_phase : (s.onVoq v f).phase = s.phase := rfl
@[simp] theorem State.onVoq_straps : (s.onVoq v f).straps = s.straps := rfl
@[simp] theorem State.onVoq_tcus : (s.onVoq v f).tcus = s.tcus := rfl
@[simp] theorem State.onVoq_fw : (s.onVoq v f).fw = s.fw := rfl
@[simp] theorem State.onVoq_gatePins : (s.onVoq v f).gatePins = s.gatePins := rfl
@[simp] theorem State.onVoq_calHead : (s.onVoq v f).calHead = s.calHead := rfl
@[simp] theorem State.onVoq_calRunning : (s.onVoq v f).calRunning = s.calRunning := rfl
@[simp] theorem State.onVoq_switch : (s.onVoq v f).switch = s.switch := rfl
@[simp] theorem State.onVoq_reverting : (s.onVoq v f).reverting = s.reverting := rfl
@[simp] theorem State.onVoq_revertAt : (s.onVoq v f).revertAt = s.revertAt := rfl
@[simp] theorem State.onVoq_judging : (s.onVoq v f).judging = s.judging := rfl
@[simp] theorem State.onVoq_up : (s.onVoq v f).up = s.up := rfl
@[simp] theorem State.onVoq_engines : (s.onVoq v f).engines = s.engines := rfl
@[simp] theorem State.onVoq_shmem : (s.onVoq v f).shmem = s.shmem := rfl
@[simp] theorem State.onVoq_frames : (s.onVoq v f).frames = s.frames := rfl
@[simp] theorem State.onVoq_cells : (s.onVoq v f).cells = s.cells := rfl
@[simp] theorem State.onVoq_nextS : (s.onVoq v f).nextS = s.nextS := rfl
@[simp] theorem State.onVoq_nextL : (s.onVoq v f).nextL = s.nextL := rfl
@[simp] theorem State.onVoq_txs : (s.onVoq v f).txs = s.txs := rfl
@[simp] theorem State.onVoq_macs : (s.onVoq v f).macs = s.macs := rfl
@[simp] theorem State.onVoq_pressOwn : (s.onVoq v f).pressOwn = s.pressOwn := rfl
@[simp] theorem State.onVoq_pressShared : (s.onVoq v f).pressShared = s.pressShared := rfl
@[simp] theorem State.onVoq_fus : (s.onVoq v f).fus = s.fus := rfl
@[simp] theorem State.onVoq_txts : (s.onVoq v f).txts = s.txts := rfl
@[simp] theorem State.onVoq_walk : (s.onVoq v f).walk = s.walk := rfl
@[simp] theorem State.onVoq_wheyDue : (s.onVoq v f).wheyDue = s.wheyDue := rfl
@[simp] theorem State.onVoq_subs : (s.onVoq v f).subs = s.subs := rfl
@[simp] theorem State.onVoq_lostCopies : (s.onVoq v f).lostCopies = s.lostCopies := rfl
@[simp] theorem State.onVoq_fences : (s.onVoq v f).fences = s.fences := rfl
@[simp] theorem State.onVoq_nodes : (s.onVoq v f).nodes = s.nodes := rfl
@[simp] theorem State.onVoq_shpUntil : (s.onVoq v f).shpUntil = s.shpUntil := rfl
@[simp] theorem State.onVoq_heldShapes : (s.onVoq v f).heldShapes = s.heldShapes := rfl
@[simp] theorem State.onVoq_gates : (s.onVoq v f).gates = s.gates := rfl
@[simp] theorem State.onVoq_gateCopy : (s.onVoq v f).gateCopy = s.gateCopy := rfl
@[simp] theorem State.onVoq_gwq : (s.onVoq v f).gwq = s.gwq := rfl
@[simp] theorem State.onVoq_watch : (s.onVoq v f).watch = s.watch := rfl
@[simp] theorem State.onVoq_samples : (s.onVoq v f).samples = s.samples := rfl
@[simp] theorem State.onVoq_smpSeq : (s.onVoq v f).smpSeq = s.smpSeq := rfl
@[simp] theorem State.onVoq_smpSkipped : (s.onVoq v f).smpSkipped = s.smpSkipped := rfl
@[simp] theorem State.onVoq_smpAt : (s.onVoq v f).smpAt = s.smpAt := rfl
@[simp] theorem State.onVoq_smpUntil : (s.onVoq v f).smpUntil = s.smpUntil := rfl
@[simp] theorem State.onVoq_smpRun : (s.onVoq v f).smpRun = s.smpRun := rfl
@[simp] theorem State.onVoq_tabs : (s.onVoq v f).tabs = s.tabs := rfl
@[simp] theorem State.onVoq_learnq : (s.onVoq v f).learnq = s.learnq := rfl
@[simp] theorem State.onVoq_crossing : (s.onVoq v f).crossing = s.crossing := rfl
@[simp] theorem State.onVoq_learnAt : (s.onVoq v f).learnAt = s.learnAt := rfl
@[simp] theorem State.onVoq_moves : (s.onVoq v f).moves = s.moves := rfl
@[simp] theorem State.onVoq_hits : (s.onVoq v f).hits = s.hits := rfl
@[simp] theorem State.onVoq_winOps : (s.onVoq v f).winOps = s.winOps := rfl
@[simp] theorem State.onVoq_shadows : (s.onVoq v f).shadows = s.shadows := rfl
@[simp] theorem State.onVoq_slotNext : (s.onVoq v f).slotNext = s.slotNext := rfl
@[simp] theorem State.onVoq_slotFirst : (s.onVoq v f).slotFirst = s.slotFirst := rfl
@[simp] theorem State.onVoq_lanes : (s.onVoq v f).lanes = s.lanes := rfl
@[simp] theorem State.onVoq_trunks : (s.onVoq v f).trunks = s.trunks := rfl
@[simp] theorem State.onVoq_ntTimes : (s.onVoq v f).ntTimes = s.ntTimes := rfl
@[simp] theorem State.onVoq_cadTab : (s.onVoq v f).cadTab = s.cadTab := rfl
@[simp] theorem State.onVoq_cadSrc : (s.onVoq v f).cadSrc = s.cadSrc := rfl
@[simp] theorem State.onVoq_cadFrom : (s.onVoq v f).cadFrom = s.cadFrom := rfl
@[simp] theorem State.onVoq_cadOld : (s.onVoq v f).cadOld = s.cadOld := rfl
@[simp] theorem State.onVoq_cadRcs : (s.onVoq v f).cadRcs = s.cadRcs := rfl
@[simp] theorem State.onVoq_cadErr : (s.onVoq v f).cadErr = s.cadErr := rfl
@[simp] theorem State.onVoq_gwTpl : (s.onVoq v f).gwTpl = s.gwTpl := rfl
@[simp] theorem State.onVoq_gwWin : (s.onVoq v f).gwWin = s.gwWin := rfl
@[simp] theorem State.onVoq_gwCnt : (s.onVoq v f).gwCnt = s.gwCnt := rfl
@[simp] theorem State.onVoq_wear : (s.onVoq v f).wear = s.wear := rfl
@[simp] theorem State.onVoq_swaps : (s.onVoq v f).swaps = s.swaps := rfl
@[simp] theorem State.onVoq_swapNext : (s.onVoq v f).swapNext = s.swapNext := rfl
@[simp] theorem State.onVoq_caveRead : (s.onVoq v f).caveRead = s.caveRead := rfl
@[simp] theorem State.onVoq_swapWait : (s.onVoq v f).swapWait = s.swapWait := rfl
@[simp] theorem State.onVoq_rowMap : (s.onVoq v f).rowMap = s.rowMap := rfl
@[simp] theorem State.onVoq_image : (s.onVoq v f).image = s.image := rfl
@[simp] theorem State.onVoq_applied : (s.onVoq v f).applied = s.applied := rfl
@[simp] theorem State.onVoq_perfs : (s.onVoq v f).perfs = s.perfs := rfl
@[simp] theorem State.onVoq_slotUse : (s.onVoq v f).slotUse = s.slotUse := rfl
@[simp] theorem State.onVoq_events : (s.onVoq v f).events = s.events := rfl
@[simp] theorem State.onVoq_slotSeen : (s.onVoq v f).slotSeen = s.slotSeen := rfl
@[simp] theorem State.onVoq_resetCauses : (s.onVoq v f).resetCauses = s.resetCauses := rfl
@[simp] theorem State.onVoq_sagSupply : (s.onVoq v f).sagSupply = s.sagSupply := rfl
@[simp] theorem State.onVoq_porstLow : (s.onVoq v f).porstLow = s.porstLow := rfl
@[simp] theorem State.onVoq_outsAt : (s.onVoq v f).outsAt = s.outsAt := rfl
@[simp] theorem State.onVoq_tapIr : (s.onVoq v f).tapIr = s.tapIr := rfl
@[simp] theorem State.onVoq_bsr : (s.onVoq v f).bsr = s.bsr := rfl
@[simp] theorem State.onVoq_thermalHold : (s.onVoq v f).thermalHold = s.thermalHold := rfl
@[simp] theorem State.onVoq_coolAt : (s.onVoq v f).coolAt = s.coolAt := rfl
@[simp] theorem State.onVoq_hot : (s.onVoq v f).hot = s.hot := rfl
@[simp] theorem State.onVoq_wiping : (s.onVoq v f).wiping = s.wiping := rfl
@[simp] theorem State.onVoq_startWait : (s.onVoq v f).startWait = s.startWait := rfl
@[simp] theorem State.onVoq_onAtReset : (s.onVoq v f).onAtReset = s.onAtReset := rfl
@[simp] theorem State.onVoq_releasedAt : (s.onVoq v f).releasedAt = s.releasedAt := rfl
@[simp] theorem State.onVoq_serial : (s.onVoq v f).serial = s.serial := rfl
@[simp] theorem State.onVoq_lifeCycle : (s.onVoq v f).lifeCycle = s.lifeCycle := rfl
@[simp] theorem State.onVoq_keyHash : (s.onVoq v f).keyHash = s.keyHash := rfl
@[simp] theorem State.onVoq_otp : (s.onVoq v f).otp = s.otp := rfl
@[simp] theorem State.onVoq_otpProg : (s.onVoq v f).otpProg = s.otpProg := rfl
@[simp] theorem State.onVoq_lifeProg : (s.onVoq v f).lifeProg = s.lifeProg := rfl
@[simp] theorem State.onVoq_bootNext : (s.onVoq v f).bootNext = s.bootNext := rfl
@[simp] theorem State.onVoq_bootTcu : (s.onVoq v f).bootTcu = s.bootTcu := rfl
@[simp] theorem State.onVoq_booted : (s.onVoq v f).booted = s.booted := rfl
@[simp] theorem State.onVoq_pushLen : (s.onVoq v f).pushLen = s.pushLen := rfl
@[simp] theorem State.onVoq_pushed : (s.onVoq v f).pushed = s.pushed := rfl
@[simp] theorem State.onVoq_perstHigh : (s.onVoq v f).perstHigh = s.perstHigh := rfl
end

section
variable (s : State) (p : Nat) (f : Gate → Gate)
@[simp] theorem State.onGate_pending : (s.onGate p f).pending = s.pending := rfl
@[simp] theorem State.onGate_regs : (s.onGate p f).regs = s.regs := rfl
@[simp] theorem State.onGate_shadow : (s.onGate p f).shadow = s.shadow := rfl
@[simp] theorem State.onGate_commitSec : (s.onGate p f).commitSec = s.commitSec := rfl
@[simp] theorem State.onGate_free : (s.onGate p f).free = s.free := rfl
@[simp] theorem State.onGate_out : (s.onGate p f).out = s.out := rfl
@[simp] theorem State.onGate_hosts : (s.onGate p f).hosts = s.hosts := rfl
@[simp] theorem State.onGate_cmds : (s.onGate p f).cmds = s.cmds := rfl
@[simp] theorem State.onGate_grants : (s.onGate p f).grants = s.grants := rfl
@[simp] theorem State.onGate_slots : (s.onGate p f).slots = s.slots := rfl
@[simp] theorem State.onGate_phase : (s.onGate p f).phase = s.phase := rfl
@[simp] theorem State.onGate_straps : (s.onGate p f).straps = s.straps := rfl
@[simp] theorem State.onGate_tcus : (s.onGate p f).tcus = s.tcus := rfl
@[simp] theorem State.onGate_fw : (s.onGate p f).fw = s.fw := rfl
@[simp] theorem State.onGate_gatePins : (s.onGate p f).gatePins = s.gatePins := rfl
@[simp] theorem State.onGate_calHead : (s.onGate p f).calHead = s.calHead := rfl
@[simp] theorem State.onGate_calRunning : (s.onGate p f).calRunning = s.calRunning := rfl
@[simp] theorem State.onGate_switch : (s.onGate p f).switch = s.switch := rfl
@[simp] theorem State.onGate_reverting : (s.onGate p f).reverting = s.reverting := rfl
@[simp] theorem State.onGate_revertAt : (s.onGate p f).revertAt = s.revertAt := rfl
@[simp] theorem State.onGate_judging : (s.onGate p f).judging = s.judging := rfl
@[simp] theorem State.onGate_up : (s.onGate p f).up = s.up := rfl
@[simp] theorem State.onGate_engines : (s.onGate p f).engines = s.engines := rfl
@[simp] theorem State.onGate_shmem : (s.onGate p f).shmem = s.shmem := rfl
@[simp] theorem State.onGate_frames : (s.onGate p f).frames = s.frames := rfl
@[simp] theorem State.onGate_cells : (s.onGate p f).cells = s.cells := rfl
@[simp] theorem State.onGate_nextS : (s.onGate p f).nextS = s.nextS := rfl
@[simp] theorem State.onGate_nextL : (s.onGate p f).nextL = s.nextL := rfl
@[simp] theorem State.onGate_voqs : (s.onGate p f).voqs = s.voqs := rfl
@[simp] theorem State.onGate_txs : (s.onGate p f).txs = s.txs := rfl
@[simp] theorem State.onGate_macs : (s.onGate p f).macs = s.macs := rfl
@[simp] theorem State.onGate_pressOwn : (s.onGate p f).pressOwn = s.pressOwn := rfl
@[simp] theorem State.onGate_pressShared : (s.onGate p f).pressShared = s.pressShared := rfl
@[simp] theorem State.onGate_fus : (s.onGate p f).fus = s.fus := rfl
@[simp] theorem State.onGate_txts : (s.onGate p f).txts = s.txts := rfl
@[simp] theorem State.onGate_walk : (s.onGate p f).walk = s.walk := rfl
@[simp] theorem State.onGate_wheyDue : (s.onGate p f).wheyDue = s.wheyDue := rfl
@[simp] theorem State.onGate_subs : (s.onGate p f).subs = s.subs := rfl
@[simp] theorem State.onGate_lostCopies : (s.onGate p f).lostCopies = s.lostCopies := rfl
@[simp] theorem State.onGate_fences : (s.onGate p f).fences = s.fences := rfl
@[simp] theorem State.onGate_nodes : (s.onGate p f).nodes = s.nodes := rfl
@[simp] theorem State.onGate_shpUntil : (s.onGate p f).shpUntil = s.shpUntil := rfl
@[simp] theorem State.onGate_heldShapes : (s.onGate p f).heldShapes = s.heldShapes := rfl
@[simp] theorem State.onGate_gwq : (s.onGate p f).gwq = s.gwq := rfl
@[simp] theorem State.onGate_watch : (s.onGate p f).watch = s.watch := rfl
@[simp] theorem State.onGate_samples : (s.onGate p f).samples = s.samples := rfl
@[simp] theorem State.onGate_smpSeq : (s.onGate p f).smpSeq = s.smpSeq := rfl
@[simp] theorem State.onGate_smpSkipped : (s.onGate p f).smpSkipped = s.smpSkipped := rfl
@[simp] theorem State.onGate_smpAt : (s.onGate p f).smpAt = s.smpAt := rfl
@[simp] theorem State.onGate_smpUntil : (s.onGate p f).smpUntil = s.smpUntil := rfl
@[simp] theorem State.onGate_smpRun : (s.onGate p f).smpRun = s.smpRun := rfl
@[simp] theorem State.onGate_tabs : (s.onGate p f).tabs = s.tabs := rfl
@[simp] theorem State.onGate_learnq : (s.onGate p f).learnq = s.learnq := rfl
@[simp] theorem State.onGate_crossing : (s.onGate p f).crossing = s.crossing := rfl
@[simp] theorem State.onGate_learnAt : (s.onGate p f).learnAt = s.learnAt := rfl
@[simp] theorem State.onGate_moves : (s.onGate p f).moves = s.moves := rfl
@[simp] theorem State.onGate_hits : (s.onGate p f).hits = s.hits := rfl
@[simp] theorem State.onGate_winOps : (s.onGate p f).winOps = s.winOps := rfl
@[simp] theorem State.onGate_shadows : (s.onGate p f).shadows = s.shadows := rfl
@[simp] theorem State.onGate_slotNext : (s.onGate p f).slotNext = s.slotNext := rfl
@[simp] theorem State.onGate_slotFirst : (s.onGate p f).slotFirst = s.slotFirst := rfl
@[simp] theorem State.onGate_lanes : (s.onGate p f).lanes = s.lanes := rfl
@[simp] theorem State.onGate_trunks : (s.onGate p f).trunks = s.trunks := rfl
@[simp] theorem State.onGate_ntTimes : (s.onGate p f).ntTimes = s.ntTimes := rfl
@[simp] theorem State.onGate_cadTab : (s.onGate p f).cadTab = s.cadTab := rfl
@[simp] theorem State.onGate_cadSrc : (s.onGate p f).cadSrc = s.cadSrc := rfl
@[simp] theorem State.onGate_cadFrom : (s.onGate p f).cadFrom = s.cadFrom := rfl
@[simp] theorem State.onGate_cadOld : (s.onGate p f).cadOld = s.cadOld := rfl
@[simp] theorem State.onGate_cadRcs : (s.onGate p f).cadRcs = s.cadRcs := rfl
@[simp] theorem State.onGate_cadErr : (s.onGate p f).cadErr = s.cadErr := rfl
@[simp] theorem State.onGate_gwTpl : (s.onGate p f).gwTpl = s.gwTpl := rfl
@[simp] theorem State.onGate_gwWin : (s.onGate p f).gwWin = s.gwWin := rfl
@[simp] theorem State.onGate_gwCnt : (s.onGate p f).gwCnt = s.gwCnt := rfl
@[simp] theorem State.onGate_wear : (s.onGate p f).wear = s.wear := rfl
@[simp] theorem State.onGate_swaps : (s.onGate p f).swaps = s.swaps := rfl
@[simp] theorem State.onGate_swapNext : (s.onGate p f).swapNext = s.swapNext := rfl
@[simp] theorem State.onGate_caveRead : (s.onGate p f).caveRead = s.caveRead := rfl
@[simp] theorem State.onGate_swapWait : (s.onGate p f).swapWait = s.swapWait := rfl
@[simp] theorem State.onGate_rowMap : (s.onGate p f).rowMap = s.rowMap := rfl
@[simp] theorem State.onGate_image : (s.onGate p f).image = s.image := rfl
@[simp] theorem State.onGate_applied : (s.onGate p f).applied = s.applied := rfl
@[simp] theorem State.onGate_perfs : (s.onGate p f).perfs = s.perfs := rfl
@[simp] theorem State.onGate_slotUse : (s.onGate p f).slotUse = s.slotUse := rfl
@[simp] theorem State.onGate_events : (s.onGate p f).events = s.events := rfl
@[simp] theorem State.onGate_slotSeen : (s.onGate p f).slotSeen = s.slotSeen := rfl
@[simp] theorem State.onGate_resetCauses : (s.onGate p f).resetCauses = s.resetCauses := rfl
@[simp] theorem State.onGate_sagSupply : (s.onGate p f).sagSupply = s.sagSupply := rfl
@[simp] theorem State.onGate_porstLow : (s.onGate p f).porstLow = s.porstLow := rfl
@[simp] theorem State.onGate_outsAt : (s.onGate p f).outsAt = s.outsAt := rfl
@[simp] theorem State.onGate_tapIr : (s.onGate p f).tapIr = s.tapIr := rfl
@[simp] theorem State.onGate_bsr : (s.onGate p f).bsr = s.bsr := rfl
@[simp] theorem State.onGate_thermalHold : (s.onGate p f).thermalHold = s.thermalHold := rfl
@[simp] theorem State.onGate_coolAt : (s.onGate p f).coolAt = s.coolAt := rfl
@[simp] theorem State.onGate_hot : (s.onGate p f).hot = s.hot := rfl
@[simp] theorem State.onGate_wiping : (s.onGate p f).wiping = s.wiping := rfl
@[simp] theorem State.onGate_startWait : (s.onGate p f).startWait = s.startWait := rfl
@[simp] theorem State.onGate_onAtReset : (s.onGate p f).onAtReset = s.onAtReset := rfl
@[simp] theorem State.onGate_releasedAt : (s.onGate p f).releasedAt = s.releasedAt := rfl
@[simp] theorem State.onGate_serial : (s.onGate p f).serial = s.serial := rfl
@[simp] theorem State.onGate_lifeCycle : (s.onGate p f).lifeCycle = s.lifeCycle := rfl
@[simp] theorem State.onGate_keyHash : (s.onGate p f).keyHash = s.keyHash := rfl
@[simp] theorem State.onGate_otp : (s.onGate p f).otp = s.otp := rfl
@[simp] theorem State.onGate_otpProg : (s.onGate p f).otpProg = s.otpProg := rfl
@[simp] theorem State.onGate_lifeProg : (s.onGate p f).lifeProg = s.lifeProg := rfl
@[simp] theorem State.onGate_bootNext : (s.onGate p f).bootNext = s.bootNext := rfl
@[simp] theorem State.onGate_bootTcu : (s.onGate p f).bootTcu = s.bootTcu := rfl
@[simp] theorem State.onGate_booted : (s.onGate p f).booted = s.booted := rfl
@[simp] theorem State.onGate_pushLen : (s.onGate p f).pushLen = s.pushLen := rfl
@[simp] theorem State.onGate_pushed : (s.onGate p f).pushed = s.pushed := rfl
@[simp] theorem State.onGate_perstHigh : (s.onGate p f).perstHigh = s.perstHigh := rfl
end

section
variable (s : State) (n : Nat) (f : Node → Node)
@[simp] theorem State.onNode_pending : (s.onNode n f).pending = s.pending := rfl
@[simp] theorem State.onNode_regs : (s.onNode n f).regs = s.regs := rfl
@[simp] theorem State.onNode_shadow : (s.onNode n f).shadow = s.shadow := rfl
@[simp] theorem State.onNode_commitSec : (s.onNode n f).commitSec = s.commitSec := rfl
@[simp] theorem State.onNode_free : (s.onNode n f).free = s.free := rfl
@[simp] theorem State.onNode_out : (s.onNode n f).out = s.out := rfl
@[simp] theorem State.onNode_hosts : (s.onNode n f).hosts = s.hosts := rfl
@[simp] theorem State.onNode_cmds : (s.onNode n f).cmds = s.cmds := rfl
@[simp] theorem State.onNode_grants : (s.onNode n f).grants = s.grants := rfl
@[simp] theorem State.onNode_slots : (s.onNode n f).slots = s.slots := rfl
@[simp] theorem State.onNode_phase : (s.onNode n f).phase = s.phase := rfl
@[simp] theorem State.onNode_straps : (s.onNode n f).straps = s.straps := rfl
@[simp] theorem State.onNode_tcus : (s.onNode n f).tcus = s.tcus := rfl
@[simp] theorem State.onNode_fw : (s.onNode n f).fw = s.fw := rfl
@[simp] theorem State.onNode_gatePins : (s.onNode n f).gatePins = s.gatePins := rfl
@[simp] theorem State.onNode_calHead : (s.onNode n f).calHead = s.calHead := rfl
@[simp] theorem State.onNode_calRunning : (s.onNode n f).calRunning = s.calRunning := rfl
@[simp] theorem State.onNode_switch : (s.onNode n f).switch = s.switch := rfl
@[simp] theorem State.onNode_reverting : (s.onNode n f).reverting = s.reverting := rfl
@[simp] theorem State.onNode_revertAt : (s.onNode n f).revertAt = s.revertAt := rfl
@[simp] theorem State.onNode_judging : (s.onNode n f).judging = s.judging := rfl
@[simp] theorem State.onNode_up : (s.onNode n f).up = s.up := rfl
@[simp] theorem State.onNode_engines : (s.onNode n f).engines = s.engines := rfl
@[simp] theorem State.onNode_shmem : (s.onNode n f).shmem = s.shmem := rfl
@[simp] theorem State.onNode_frames : (s.onNode n f).frames = s.frames := rfl
@[simp] theorem State.onNode_cells : (s.onNode n f).cells = s.cells := rfl
@[simp] theorem State.onNode_nextS : (s.onNode n f).nextS = s.nextS := rfl
@[simp] theorem State.onNode_nextL : (s.onNode n f).nextL = s.nextL := rfl
@[simp] theorem State.onNode_voqs : (s.onNode n f).voqs = s.voqs := rfl
@[simp] theorem State.onNode_txs : (s.onNode n f).txs = s.txs := rfl
@[simp] theorem State.onNode_macs : (s.onNode n f).macs = s.macs := rfl
@[simp] theorem State.onNode_pressOwn : (s.onNode n f).pressOwn = s.pressOwn := rfl
@[simp] theorem State.onNode_pressShared : (s.onNode n f).pressShared = s.pressShared := rfl
@[simp] theorem State.onNode_fus : (s.onNode n f).fus = s.fus := rfl
@[simp] theorem State.onNode_txts : (s.onNode n f).txts = s.txts := rfl
@[simp] theorem State.onNode_walk : (s.onNode n f).walk = s.walk := rfl
@[simp] theorem State.onNode_wheyDue : (s.onNode n f).wheyDue = s.wheyDue := rfl
@[simp] theorem State.onNode_subs : (s.onNode n f).subs = s.subs := rfl
@[simp] theorem State.onNode_lostCopies : (s.onNode n f).lostCopies = s.lostCopies := rfl
@[simp] theorem State.onNode_fences : (s.onNode n f).fences = s.fences := rfl
@[simp] theorem State.onNode_shpUntil : (s.onNode n f).shpUntil = s.shpUntil := rfl
@[simp] theorem State.onNode_heldShapes : (s.onNode n f).heldShapes = s.heldShapes := rfl
@[simp] theorem State.onNode_gates : (s.onNode n f).gates = s.gates := rfl
@[simp] theorem State.onNode_gateCopy : (s.onNode n f).gateCopy = s.gateCopy := rfl
@[simp] theorem State.onNode_gwq : (s.onNode n f).gwq = s.gwq := rfl
@[simp] theorem State.onNode_watch : (s.onNode n f).watch = s.watch := rfl
@[simp] theorem State.onNode_samples : (s.onNode n f).samples = s.samples := rfl
@[simp] theorem State.onNode_smpSeq : (s.onNode n f).smpSeq = s.smpSeq := rfl
@[simp] theorem State.onNode_smpSkipped : (s.onNode n f).smpSkipped = s.smpSkipped := rfl
@[simp] theorem State.onNode_smpAt : (s.onNode n f).smpAt = s.smpAt := rfl
@[simp] theorem State.onNode_smpUntil : (s.onNode n f).smpUntil = s.smpUntil := rfl
@[simp] theorem State.onNode_smpRun : (s.onNode n f).smpRun = s.smpRun := rfl
@[simp] theorem State.onNode_tabs : (s.onNode n f).tabs = s.tabs := rfl
@[simp] theorem State.onNode_learnq : (s.onNode n f).learnq = s.learnq := rfl
@[simp] theorem State.onNode_crossing : (s.onNode n f).crossing = s.crossing := rfl
@[simp] theorem State.onNode_learnAt : (s.onNode n f).learnAt = s.learnAt := rfl
@[simp] theorem State.onNode_moves : (s.onNode n f).moves = s.moves := rfl
@[simp] theorem State.onNode_hits : (s.onNode n f).hits = s.hits := rfl
@[simp] theorem State.onNode_winOps : (s.onNode n f).winOps = s.winOps := rfl
@[simp] theorem State.onNode_shadows : (s.onNode n f).shadows = s.shadows := rfl
@[simp] theorem State.onNode_slotNext : (s.onNode n f).slotNext = s.slotNext := rfl
@[simp] theorem State.onNode_slotFirst : (s.onNode n f).slotFirst = s.slotFirst := rfl
@[simp] theorem State.onNode_lanes : (s.onNode n f).lanes = s.lanes := rfl
@[simp] theorem State.onNode_trunks : (s.onNode n f).trunks = s.trunks := rfl
@[simp] theorem State.onNode_ntTimes : (s.onNode n f).ntTimes = s.ntTimes := rfl
@[simp] theorem State.onNode_cadTab : (s.onNode n f).cadTab = s.cadTab := rfl
@[simp] theorem State.onNode_cadSrc : (s.onNode n f).cadSrc = s.cadSrc := rfl
@[simp] theorem State.onNode_cadFrom : (s.onNode n f).cadFrom = s.cadFrom := rfl
@[simp] theorem State.onNode_cadOld : (s.onNode n f).cadOld = s.cadOld := rfl
@[simp] theorem State.onNode_cadRcs : (s.onNode n f).cadRcs = s.cadRcs := rfl
@[simp] theorem State.onNode_cadErr : (s.onNode n f).cadErr = s.cadErr := rfl
@[simp] theorem State.onNode_gwTpl : (s.onNode n f).gwTpl = s.gwTpl := rfl
@[simp] theorem State.onNode_gwWin : (s.onNode n f).gwWin = s.gwWin := rfl
@[simp] theorem State.onNode_gwCnt : (s.onNode n f).gwCnt = s.gwCnt := rfl
@[simp] theorem State.onNode_wear : (s.onNode n f).wear = s.wear := rfl
@[simp] theorem State.onNode_swaps : (s.onNode n f).swaps = s.swaps := rfl
@[simp] theorem State.onNode_swapNext : (s.onNode n f).swapNext = s.swapNext := rfl
@[simp] theorem State.onNode_caveRead : (s.onNode n f).caveRead = s.caveRead := rfl
@[simp] theorem State.onNode_swapWait : (s.onNode n f).swapWait = s.swapWait := rfl
@[simp] theorem State.onNode_rowMap : (s.onNode n f).rowMap = s.rowMap := rfl
@[simp] theorem State.onNode_image : (s.onNode n f).image = s.image := rfl
@[simp] theorem State.onNode_applied : (s.onNode n f).applied = s.applied := rfl
@[simp] theorem State.onNode_perfs : (s.onNode n f).perfs = s.perfs := rfl
@[simp] theorem State.onNode_slotUse : (s.onNode n f).slotUse = s.slotUse := rfl
@[simp] theorem State.onNode_events : (s.onNode n f).events = s.events := rfl
@[simp] theorem State.onNode_slotSeen : (s.onNode n f).slotSeen = s.slotSeen := rfl
@[simp] theorem State.onNode_resetCauses : (s.onNode n f).resetCauses = s.resetCauses := rfl
@[simp] theorem State.onNode_sagSupply : (s.onNode n f).sagSupply = s.sagSupply := rfl
@[simp] theorem State.onNode_porstLow : (s.onNode n f).porstLow = s.porstLow := rfl
@[simp] theorem State.onNode_outsAt : (s.onNode n f).outsAt = s.outsAt := rfl
@[simp] theorem State.onNode_tapIr : (s.onNode n f).tapIr = s.tapIr := rfl
@[simp] theorem State.onNode_bsr : (s.onNode n f).bsr = s.bsr := rfl
@[simp] theorem State.onNode_thermalHold : (s.onNode n f).thermalHold = s.thermalHold := rfl
@[simp] theorem State.onNode_coolAt : (s.onNode n f).coolAt = s.coolAt := rfl
@[simp] theorem State.onNode_hot : (s.onNode n f).hot = s.hot := rfl
@[simp] theorem State.onNode_wiping : (s.onNode n f).wiping = s.wiping := rfl
@[simp] theorem State.onNode_startWait : (s.onNode n f).startWait = s.startWait := rfl
@[simp] theorem State.onNode_onAtReset : (s.onNode n f).onAtReset = s.onAtReset := rfl
@[simp] theorem State.onNode_releasedAt : (s.onNode n f).releasedAt = s.releasedAt := rfl
@[simp] theorem State.onNode_serial : (s.onNode n f).serial = s.serial := rfl
@[simp] theorem State.onNode_lifeCycle : (s.onNode n f).lifeCycle = s.lifeCycle := rfl
@[simp] theorem State.onNode_keyHash : (s.onNode n f).keyHash = s.keyHash := rfl
@[simp] theorem State.onNode_otp : (s.onNode n f).otp = s.otp := rfl
@[simp] theorem State.onNode_otpProg : (s.onNode n f).otpProg = s.otpProg := rfl
@[simp] theorem State.onNode_lifeProg : (s.onNode n f).lifeProg = s.lifeProg := rfl
@[simp] theorem State.onNode_bootNext : (s.onNode n f).bootNext = s.bootNext := rfl
@[simp] theorem State.onNode_bootTcu : (s.onNode n f).bootTcu = s.bootTcu := rfl
@[simp] theorem State.onNode_booted : (s.onNode n f).booted = s.booted := rfl
@[simp] theorem State.onNode_pushLen : (s.onNode n f).pushLen = s.pushLen := rfl
@[simp] theorem State.onNode_pushed : (s.onNode n f).pushed = s.pushed := rfl
@[simp] theorem State.onNode_perstHigh : (s.onNode n f).perstHigh = s.perstHigh := rfl
end

section
variable (s : State) (w table index : Nat) (e : List Nat)
@[simp] theorem State.setEntry_pending : (s.setEntry w table index e).pending = s.pending := rfl
@[simp] theorem State.setEntry_regs : (s.setEntry w table index e).regs = s.regs := rfl
@[simp] theorem State.setEntry_shadow : (s.setEntry w table index e).shadow = s.shadow := rfl
@[simp] theorem State.setEntry_commitSec : (s.setEntry w table index e).commitSec = s.commitSec := rfl
@[simp] theorem State.setEntry_free : (s.setEntry w table index e).free = s.free := rfl
@[simp] theorem State.setEntry_out : (s.setEntry w table index e).out = s.out := rfl
@[simp] theorem State.setEntry_hosts : (s.setEntry w table index e).hosts = s.hosts := rfl
@[simp] theorem State.setEntry_cmds : (s.setEntry w table index e).cmds = s.cmds := rfl
@[simp] theorem State.setEntry_grants : (s.setEntry w table index e).grants = s.grants := rfl
@[simp] theorem State.setEntry_slots : (s.setEntry w table index e).slots = s.slots := rfl
@[simp] theorem State.setEntry_phase : (s.setEntry w table index e).phase = s.phase := rfl
@[simp] theorem State.setEntry_straps : (s.setEntry w table index e).straps = s.straps := rfl
@[simp] theorem State.setEntry_tcus : (s.setEntry w table index e).tcus = s.tcus := rfl
@[simp] theorem State.setEntry_fw : (s.setEntry w table index e).fw = s.fw := rfl
@[simp] theorem State.setEntry_gatePins : (s.setEntry w table index e).gatePins = s.gatePins := rfl
@[simp] theorem State.setEntry_calHead : (s.setEntry w table index e).calHead = s.calHead := rfl
@[simp] theorem State.setEntry_calRunning : (s.setEntry w table index e).calRunning = s.calRunning := rfl
@[simp] theorem State.setEntry_switch : (s.setEntry w table index e).switch = s.switch := rfl
@[simp] theorem State.setEntry_reverting : (s.setEntry w table index e).reverting = s.reverting := rfl
@[simp] theorem State.setEntry_revertAt : (s.setEntry w table index e).revertAt = s.revertAt := rfl
@[simp] theorem State.setEntry_judging : (s.setEntry w table index e).judging = s.judging := rfl
@[simp] theorem State.setEntry_up : (s.setEntry w table index e).up = s.up := rfl
@[simp] theorem State.setEntry_engines : (s.setEntry w table index e).engines = s.engines := rfl
@[simp] theorem State.setEntry_shmem : (s.setEntry w table index e).shmem = s.shmem := rfl
@[simp] theorem State.setEntry_frames : (s.setEntry w table index e).frames = s.frames := rfl
@[simp] theorem State.setEntry_cells : (s.setEntry w table index e).cells = s.cells := rfl
@[simp] theorem State.setEntry_nextS : (s.setEntry w table index e).nextS = s.nextS := rfl
@[simp] theorem State.setEntry_nextL : (s.setEntry w table index e).nextL = s.nextL := rfl
@[simp] theorem State.setEntry_voqs : (s.setEntry w table index e).voqs = s.voqs := rfl
@[simp] theorem State.setEntry_txs : (s.setEntry w table index e).txs = s.txs := rfl
@[simp] theorem State.setEntry_macs : (s.setEntry w table index e).macs = s.macs := rfl
@[simp] theorem State.setEntry_pressOwn : (s.setEntry w table index e).pressOwn = s.pressOwn := rfl
@[simp] theorem State.setEntry_pressShared : (s.setEntry w table index e).pressShared = s.pressShared := rfl
@[simp] theorem State.setEntry_fus : (s.setEntry w table index e).fus = s.fus := rfl
@[simp] theorem State.setEntry_txts : (s.setEntry w table index e).txts = s.txts := rfl
@[simp] theorem State.setEntry_walk : (s.setEntry w table index e).walk = s.walk := rfl
@[simp] theorem State.setEntry_wheyDue : (s.setEntry w table index e).wheyDue = s.wheyDue := rfl
@[simp] theorem State.setEntry_subs : (s.setEntry w table index e).subs = s.subs := rfl
@[simp] theorem State.setEntry_lostCopies : (s.setEntry w table index e).lostCopies = s.lostCopies := rfl
@[simp] theorem State.setEntry_fences : (s.setEntry w table index e).fences = s.fences := rfl
@[simp] theorem State.setEntry_nodes : (s.setEntry w table index e).nodes = s.nodes := rfl
@[simp] theorem State.setEntry_shpUntil : (s.setEntry w table index e).shpUntil = s.shpUntil := rfl
@[simp] theorem State.setEntry_heldShapes : (s.setEntry w table index e).heldShapes = s.heldShapes := rfl
@[simp] theorem State.setEntry_gates : (s.setEntry w table index e).gates = s.gates := rfl
@[simp] theorem State.setEntry_gateCopy : (s.setEntry w table index e).gateCopy = s.gateCopy := rfl
@[simp] theorem State.setEntry_gwq : (s.setEntry w table index e).gwq = s.gwq := rfl
@[simp] theorem State.setEntry_watch : (s.setEntry w table index e).watch = s.watch := rfl
@[simp] theorem State.setEntry_samples : (s.setEntry w table index e).samples = s.samples := rfl
@[simp] theorem State.setEntry_smpSeq : (s.setEntry w table index e).smpSeq = s.smpSeq := rfl
@[simp] theorem State.setEntry_smpSkipped : (s.setEntry w table index e).smpSkipped = s.smpSkipped := rfl
@[simp] theorem State.setEntry_smpAt : (s.setEntry w table index e).smpAt = s.smpAt := rfl
@[simp] theorem State.setEntry_smpUntil : (s.setEntry w table index e).smpUntil = s.smpUntil := rfl
@[simp] theorem State.setEntry_smpRun : (s.setEntry w table index e).smpRun = s.smpRun := rfl
@[simp] theorem State.setEntry_learnq : (s.setEntry w table index e).learnq = s.learnq := rfl
@[simp] theorem State.setEntry_crossing : (s.setEntry w table index e).crossing = s.crossing := rfl
@[simp] theorem State.setEntry_learnAt : (s.setEntry w table index e).learnAt = s.learnAt := rfl
@[simp] theorem State.setEntry_moves : (s.setEntry w table index e).moves = s.moves := rfl
@[simp] theorem State.setEntry_hits : (s.setEntry w table index e).hits = s.hits := rfl
@[simp] theorem State.setEntry_winOps : (s.setEntry w table index e).winOps = s.winOps := rfl
@[simp] theorem State.setEntry_shadows : (s.setEntry w table index e).shadows = s.shadows := rfl
@[simp] theorem State.setEntry_slotNext : (s.setEntry w table index e).slotNext = s.slotNext := rfl
@[simp] theorem State.setEntry_slotFirst : (s.setEntry w table index e).slotFirst = s.slotFirst := rfl
@[simp] theorem State.setEntry_lanes : (s.setEntry w table index e).lanes = s.lanes := rfl
@[simp] theorem State.setEntry_trunks : (s.setEntry w table index e).trunks = s.trunks := rfl
@[simp] theorem State.setEntry_ntTimes : (s.setEntry w table index e).ntTimes = s.ntTimes := rfl
@[simp] theorem State.setEntry_cadTab : (s.setEntry w table index e).cadTab = s.cadTab := rfl
@[simp] theorem State.setEntry_cadSrc : (s.setEntry w table index e).cadSrc = s.cadSrc := rfl
@[simp] theorem State.setEntry_cadFrom : (s.setEntry w table index e).cadFrom = s.cadFrom := rfl
@[simp] theorem State.setEntry_cadOld : (s.setEntry w table index e).cadOld = s.cadOld := rfl
@[simp] theorem State.setEntry_cadRcs : (s.setEntry w table index e).cadRcs = s.cadRcs := rfl
@[simp] theorem State.setEntry_cadErr : (s.setEntry w table index e).cadErr = s.cadErr := rfl
@[simp] theorem State.setEntry_gwTpl : (s.setEntry w table index e).gwTpl = s.gwTpl := rfl
@[simp] theorem State.setEntry_gwWin : (s.setEntry w table index e).gwWin = s.gwWin := rfl
@[simp] theorem State.setEntry_gwCnt : (s.setEntry w table index e).gwCnt = s.gwCnt := rfl
@[simp] theorem State.setEntry_wear : (s.setEntry w table index e).wear = s.wear := rfl
@[simp] theorem State.setEntry_swaps : (s.setEntry w table index e).swaps = s.swaps := rfl
@[simp] theorem State.setEntry_swapNext : (s.setEntry w table index e).swapNext = s.swapNext := rfl
@[simp] theorem State.setEntry_caveRead : (s.setEntry w table index e).caveRead = s.caveRead := rfl
@[simp] theorem State.setEntry_swapWait : (s.setEntry w table index e).swapWait = s.swapWait := rfl
@[simp] theorem State.setEntry_rowMap : (s.setEntry w table index e).rowMap = s.rowMap := rfl
@[simp] theorem State.setEntry_image : (s.setEntry w table index e).image = s.image := rfl
@[simp] theorem State.setEntry_applied : (s.setEntry w table index e).applied = s.applied := rfl
@[simp] theorem State.setEntry_perfs : (s.setEntry w table index e).perfs = s.perfs := rfl
@[simp] theorem State.setEntry_slotUse : (s.setEntry w table index e).slotUse = s.slotUse := rfl
@[simp] theorem State.setEntry_events : (s.setEntry w table index e).events = s.events := rfl
@[simp] theorem State.setEntry_slotSeen : (s.setEntry w table index e).slotSeen = s.slotSeen := rfl
@[simp] theorem State.setEntry_resetCauses : (s.setEntry w table index e).resetCauses = s.resetCauses := rfl
@[simp] theorem State.setEntry_sagSupply : (s.setEntry w table index e).sagSupply = s.sagSupply := rfl
@[simp] theorem State.setEntry_porstLow : (s.setEntry w table index e).porstLow = s.porstLow := rfl
@[simp] theorem State.setEntry_outsAt : (s.setEntry w table index e).outsAt = s.outsAt := rfl
@[simp] theorem State.setEntry_tapIr : (s.setEntry w table index e).tapIr = s.tapIr := rfl
@[simp] theorem State.setEntry_bsr : (s.setEntry w table index e).bsr = s.bsr := rfl
@[simp] theorem State.setEntry_thermalHold : (s.setEntry w table index e).thermalHold = s.thermalHold := rfl
@[simp] theorem State.setEntry_coolAt : (s.setEntry w table index e).coolAt = s.coolAt := rfl
@[simp] theorem State.setEntry_hot : (s.setEntry w table index e).hot = s.hot := rfl
@[simp] theorem State.setEntry_wiping : (s.setEntry w table index e).wiping = s.wiping := rfl
@[simp] theorem State.setEntry_startWait : (s.setEntry w table index e).startWait = s.startWait := rfl
@[simp] theorem State.setEntry_onAtReset : (s.setEntry w table index e).onAtReset = s.onAtReset := rfl
@[simp] theorem State.setEntry_releasedAt : (s.setEntry w table index e).releasedAt = s.releasedAt := rfl
@[simp] theorem State.setEntry_serial : (s.setEntry w table index e).serial = s.serial := rfl
@[simp] theorem State.setEntry_lifeCycle : (s.setEntry w table index e).lifeCycle = s.lifeCycle := rfl
@[simp] theorem State.setEntry_keyHash : (s.setEntry w table index e).keyHash = s.keyHash := rfl
@[simp] theorem State.setEntry_otp : (s.setEntry w table index e).otp = s.otp := rfl
@[simp] theorem State.setEntry_otpProg : (s.setEntry w table index e).otpProg = s.otpProg := rfl
@[simp] theorem State.setEntry_lifeProg : (s.setEntry w table index e).lifeProg = s.lifeProg := rfl
@[simp] theorem State.setEntry_bootNext : (s.setEntry w table index e).bootNext = s.bootNext := rfl
@[simp] theorem State.setEntry_bootTcu : (s.setEntry w table index e).bootTcu = s.bootTcu := rfl
@[simp] theorem State.setEntry_booted : (s.setEntry w table index e).booted = s.booted := rfl
@[simp] theorem State.setEntry_pushLen : (s.setEntry w table index e).pushLen = s.pushLen := rfl
@[simp] theorem State.setEntry_pushed : (s.setEntry w table index e).pushed = s.pushed := rfl
@[simp] theorem State.setEntry_perstHigh : (s.setEntry w table index e).perstHigh = s.perstHigh := rfl
end

section
variable (s : State) (p : Nat) (f : Lane → Lane)
@[simp] theorem State.onLane_pending : (s.onLane p f).pending = s.pending := rfl
@[simp] theorem State.onLane_regs : (s.onLane p f).regs = s.regs := rfl
@[simp] theorem State.onLane_shadow : (s.onLane p f).shadow = s.shadow := rfl
@[simp] theorem State.onLane_commitSec : (s.onLane p f).commitSec = s.commitSec := rfl
@[simp] theorem State.onLane_free : (s.onLane p f).free = s.free := rfl
@[simp] theorem State.onLane_out : (s.onLane p f).out = s.out := rfl
@[simp] theorem State.onLane_hosts : (s.onLane p f).hosts = s.hosts := rfl
@[simp] theorem State.onLane_cmds : (s.onLane p f).cmds = s.cmds := rfl
@[simp] theorem State.onLane_grants : (s.onLane p f).grants = s.grants := rfl
@[simp] theorem State.onLane_slots : (s.onLane p f).slots = s.slots := rfl
@[simp] theorem State.onLane_phase : (s.onLane p f).phase = s.phase := rfl
@[simp] theorem State.onLane_straps : (s.onLane p f).straps = s.straps := rfl
@[simp] theorem State.onLane_tcus : (s.onLane p f).tcus = s.tcus := rfl
@[simp] theorem State.onLane_fw : (s.onLane p f).fw = s.fw := rfl
@[simp] theorem State.onLane_gatePins : (s.onLane p f).gatePins = s.gatePins := rfl
@[simp] theorem State.onLane_calHead : (s.onLane p f).calHead = s.calHead := rfl
@[simp] theorem State.onLane_calRunning : (s.onLane p f).calRunning = s.calRunning := rfl
@[simp] theorem State.onLane_switch : (s.onLane p f).switch = s.switch := rfl
@[simp] theorem State.onLane_reverting : (s.onLane p f).reverting = s.reverting := rfl
@[simp] theorem State.onLane_revertAt : (s.onLane p f).revertAt = s.revertAt := rfl
@[simp] theorem State.onLane_judging : (s.onLane p f).judging = s.judging := rfl
@[simp] theorem State.onLane_up : (s.onLane p f).up = s.up := rfl
@[simp] theorem State.onLane_engines : (s.onLane p f).engines = s.engines := rfl
@[simp] theorem State.onLane_shmem : (s.onLane p f).shmem = s.shmem := rfl
@[simp] theorem State.onLane_frames : (s.onLane p f).frames = s.frames := rfl
@[simp] theorem State.onLane_cells : (s.onLane p f).cells = s.cells := rfl
@[simp] theorem State.onLane_nextS : (s.onLane p f).nextS = s.nextS := rfl
@[simp] theorem State.onLane_nextL : (s.onLane p f).nextL = s.nextL := rfl
@[simp] theorem State.onLane_voqs : (s.onLane p f).voqs = s.voqs := rfl
@[simp] theorem State.onLane_txs : (s.onLane p f).txs = s.txs := rfl
@[simp] theorem State.onLane_macs : (s.onLane p f).macs = s.macs := rfl
@[simp] theorem State.onLane_pressOwn : (s.onLane p f).pressOwn = s.pressOwn := rfl
@[simp] theorem State.onLane_pressShared : (s.onLane p f).pressShared = s.pressShared := rfl
@[simp] theorem State.onLane_fus : (s.onLane p f).fus = s.fus := rfl
@[simp] theorem State.onLane_txts : (s.onLane p f).txts = s.txts := rfl
@[simp] theorem State.onLane_walk : (s.onLane p f).walk = s.walk := rfl
@[simp] theorem State.onLane_wheyDue : (s.onLane p f).wheyDue = s.wheyDue := rfl
@[simp] theorem State.onLane_subs : (s.onLane p f).subs = s.subs := rfl
@[simp] theorem State.onLane_lostCopies : (s.onLane p f).lostCopies = s.lostCopies := rfl
@[simp] theorem State.onLane_fences : (s.onLane p f).fences = s.fences := rfl
@[simp] theorem State.onLane_nodes : (s.onLane p f).nodes = s.nodes := rfl
@[simp] theorem State.onLane_shpUntil : (s.onLane p f).shpUntil = s.shpUntil := rfl
@[simp] theorem State.onLane_heldShapes : (s.onLane p f).heldShapes = s.heldShapes := rfl
@[simp] theorem State.onLane_gates : (s.onLane p f).gates = s.gates := rfl
@[simp] theorem State.onLane_gateCopy : (s.onLane p f).gateCopy = s.gateCopy := rfl
@[simp] theorem State.onLane_gwq : (s.onLane p f).gwq = s.gwq := rfl
@[simp] theorem State.onLane_watch : (s.onLane p f).watch = s.watch := rfl
@[simp] theorem State.onLane_samples : (s.onLane p f).samples = s.samples := rfl
@[simp] theorem State.onLane_smpSeq : (s.onLane p f).smpSeq = s.smpSeq := rfl
@[simp] theorem State.onLane_smpSkipped : (s.onLane p f).smpSkipped = s.smpSkipped := rfl
@[simp] theorem State.onLane_smpAt : (s.onLane p f).smpAt = s.smpAt := rfl
@[simp] theorem State.onLane_smpUntil : (s.onLane p f).smpUntil = s.smpUntil := rfl
@[simp] theorem State.onLane_smpRun : (s.onLane p f).smpRun = s.smpRun := rfl
@[simp] theorem State.onLane_tabs : (s.onLane p f).tabs = s.tabs := rfl
@[simp] theorem State.onLane_learnq : (s.onLane p f).learnq = s.learnq := rfl
@[simp] theorem State.onLane_crossing : (s.onLane p f).crossing = s.crossing := rfl
@[simp] theorem State.onLane_learnAt : (s.onLane p f).learnAt = s.learnAt := rfl
@[simp] theorem State.onLane_moves : (s.onLane p f).moves = s.moves := rfl
@[simp] theorem State.onLane_hits : (s.onLane p f).hits = s.hits := rfl
@[simp] theorem State.onLane_winOps : (s.onLane p f).winOps = s.winOps := rfl
@[simp] theorem State.onLane_shadows : (s.onLane p f).shadows = s.shadows := rfl
@[simp] theorem State.onLane_slotNext : (s.onLane p f).slotNext = s.slotNext := rfl
@[simp] theorem State.onLane_slotFirst : (s.onLane p f).slotFirst = s.slotFirst := rfl
@[simp] theorem State.onLane_trunks : (s.onLane p f).trunks = s.trunks := rfl
@[simp] theorem State.onLane_ntTimes : (s.onLane p f).ntTimes = s.ntTimes := rfl
@[simp] theorem State.onLane_cadTab : (s.onLane p f).cadTab = s.cadTab := rfl
@[simp] theorem State.onLane_cadSrc : (s.onLane p f).cadSrc = s.cadSrc := rfl
@[simp] theorem State.onLane_cadFrom : (s.onLane p f).cadFrom = s.cadFrom := rfl
@[simp] theorem State.onLane_cadOld : (s.onLane p f).cadOld = s.cadOld := rfl
@[simp] theorem State.onLane_cadRcs : (s.onLane p f).cadRcs = s.cadRcs := rfl
@[simp] theorem State.onLane_cadErr : (s.onLane p f).cadErr = s.cadErr := rfl
@[simp] theorem State.onLane_gwTpl : (s.onLane p f).gwTpl = s.gwTpl := rfl
@[simp] theorem State.onLane_gwWin : (s.onLane p f).gwWin = s.gwWin := rfl
@[simp] theorem State.onLane_gwCnt : (s.onLane p f).gwCnt = s.gwCnt := rfl
@[simp] theorem State.onLane_wear : (s.onLane p f).wear = s.wear := rfl
@[simp] theorem State.onLane_swaps : (s.onLane p f).swaps = s.swaps := rfl
@[simp] theorem State.onLane_swapNext : (s.onLane p f).swapNext = s.swapNext := rfl
@[simp] theorem State.onLane_caveRead : (s.onLane p f).caveRead = s.caveRead := rfl
@[simp] theorem State.onLane_swapWait : (s.onLane p f).swapWait = s.swapWait := rfl
@[simp] theorem State.onLane_rowMap : (s.onLane p f).rowMap = s.rowMap := rfl
@[simp] theorem State.onLane_image : (s.onLane p f).image = s.image := rfl
@[simp] theorem State.onLane_applied : (s.onLane p f).applied = s.applied := rfl
@[simp] theorem State.onLane_perfs : (s.onLane p f).perfs = s.perfs := rfl
@[simp] theorem State.onLane_slotUse : (s.onLane p f).slotUse = s.slotUse := rfl
@[simp] theorem State.onLane_events : (s.onLane p f).events = s.events := rfl
@[simp] theorem State.onLane_slotSeen : (s.onLane p f).slotSeen = s.slotSeen := rfl
@[simp] theorem State.onLane_resetCauses : (s.onLane p f).resetCauses = s.resetCauses := rfl
@[simp] theorem State.onLane_sagSupply : (s.onLane p f).sagSupply = s.sagSupply := rfl
@[simp] theorem State.onLane_porstLow : (s.onLane p f).porstLow = s.porstLow := rfl
@[simp] theorem State.onLane_outsAt : (s.onLane p f).outsAt = s.outsAt := rfl
@[simp] theorem State.onLane_tapIr : (s.onLane p f).tapIr = s.tapIr := rfl
@[simp] theorem State.onLane_bsr : (s.onLane p f).bsr = s.bsr := rfl
@[simp] theorem State.onLane_thermalHold : (s.onLane p f).thermalHold = s.thermalHold := rfl
@[simp] theorem State.onLane_coolAt : (s.onLane p f).coolAt = s.coolAt := rfl
@[simp] theorem State.onLane_hot : (s.onLane p f).hot = s.hot := rfl
@[simp] theorem State.onLane_wiping : (s.onLane p f).wiping = s.wiping := rfl
@[simp] theorem State.onLane_startWait : (s.onLane p f).startWait = s.startWait := rfl
@[simp] theorem State.onLane_onAtReset : (s.onLane p f).onAtReset = s.onAtReset := rfl
@[simp] theorem State.onLane_releasedAt : (s.onLane p f).releasedAt = s.releasedAt := rfl
@[simp] theorem State.onLane_serial : (s.onLane p f).serial = s.serial := rfl
@[simp] theorem State.onLane_lifeCycle : (s.onLane p f).lifeCycle = s.lifeCycle := rfl
@[simp] theorem State.onLane_keyHash : (s.onLane p f).keyHash = s.keyHash := rfl
@[simp] theorem State.onLane_otp : (s.onLane p f).otp = s.otp := rfl
@[simp] theorem State.onLane_otpProg : (s.onLane p f).otpProg = s.otpProg := rfl
@[simp] theorem State.onLane_lifeProg : (s.onLane p f).lifeProg = s.lifeProg := rfl
@[simp] theorem State.onLane_bootNext : (s.onLane p f).bootNext = s.bootNext := rfl
@[simp] theorem State.onLane_bootTcu : (s.onLane p f).bootTcu = s.bootTcu := rfl
@[simp] theorem State.onLane_booted : (s.onLane p f).booted = s.booted := rfl
@[simp] theorem State.onLane_pushLen : (s.onLane p f).pushLen = s.pushLen := rfl
@[simp] theorem State.onLane_pushed : (s.onLane p f).pushed = s.pushed := rfl
@[simp] theorem State.onLane_perstHigh : (s.onLane p f).perstHigh = s.perstHigh := rfl
end

section
variable (s : State) (n : Nat) (f : Trunk → Trunk)
@[simp] theorem State.onTrunk_pending : (s.onTrunk n f).pending = s.pending := rfl
@[simp] theorem State.onTrunk_regs : (s.onTrunk n f).regs = s.regs := rfl
@[simp] theorem State.onTrunk_shadow : (s.onTrunk n f).shadow = s.shadow := rfl
@[simp] theorem State.onTrunk_commitSec : (s.onTrunk n f).commitSec = s.commitSec := rfl
@[simp] theorem State.onTrunk_free : (s.onTrunk n f).free = s.free := rfl
@[simp] theorem State.onTrunk_out : (s.onTrunk n f).out = s.out := rfl
@[simp] theorem State.onTrunk_hosts : (s.onTrunk n f).hosts = s.hosts := rfl
@[simp] theorem State.onTrunk_cmds : (s.onTrunk n f).cmds = s.cmds := rfl
@[simp] theorem State.onTrunk_grants : (s.onTrunk n f).grants = s.grants := rfl
@[simp] theorem State.onTrunk_slots : (s.onTrunk n f).slots = s.slots := rfl
@[simp] theorem State.onTrunk_phase : (s.onTrunk n f).phase = s.phase := rfl
@[simp] theorem State.onTrunk_straps : (s.onTrunk n f).straps = s.straps := rfl
@[simp] theorem State.onTrunk_tcus : (s.onTrunk n f).tcus = s.tcus := rfl
@[simp] theorem State.onTrunk_fw : (s.onTrunk n f).fw = s.fw := rfl
@[simp] theorem State.onTrunk_gatePins : (s.onTrunk n f).gatePins = s.gatePins := rfl
@[simp] theorem State.onTrunk_calHead : (s.onTrunk n f).calHead = s.calHead := rfl
@[simp] theorem State.onTrunk_calRunning : (s.onTrunk n f).calRunning = s.calRunning := rfl
@[simp] theorem State.onTrunk_switch : (s.onTrunk n f).switch = s.switch := rfl
@[simp] theorem State.onTrunk_reverting : (s.onTrunk n f).reverting = s.reverting := rfl
@[simp] theorem State.onTrunk_revertAt : (s.onTrunk n f).revertAt = s.revertAt := rfl
@[simp] theorem State.onTrunk_judging : (s.onTrunk n f).judging = s.judging := rfl
@[simp] theorem State.onTrunk_up : (s.onTrunk n f).up = s.up := rfl
@[simp] theorem State.onTrunk_engines : (s.onTrunk n f).engines = s.engines := rfl
@[simp] theorem State.onTrunk_shmem : (s.onTrunk n f).shmem = s.shmem := rfl
@[simp] theorem State.onTrunk_frames : (s.onTrunk n f).frames = s.frames := rfl
@[simp] theorem State.onTrunk_cells : (s.onTrunk n f).cells = s.cells := rfl
@[simp] theorem State.onTrunk_nextS : (s.onTrunk n f).nextS = s.nextS := rfl
@[simp] theorem State.onTrunk_nextL : (s.onTrunk n f).nextL = s.nextL := rfl
@[simp] theorem State.onTrunk_voqs : (s.onTrunk n f).voqs = s.voqs := rfl
@[simp] theorem State.onTrunk_txs : (s.onTrunk n f).txs = s.txs := rfl
@[simp] theorem State.onTrunk_macs : (s.onTrunk n f).macs = s.macs := rfl
@[simp] theorem State.onTrunk_pressOwn : (s.onTrunk n f).pressOwn = s.pressOwn := rfl
@[simp] theorem State.onTrunk_pressShared : (s.onTrunk n f).pressShared = s.pressShared := rfl
@[simp] theorem State.onTrunk_fus : (s.onTrunk n f).fus = s.fus := rfl
@[simp] theorem State.onTrunk_txts : (s.onTrunk n f).txts = s.txts := rfl
@[simp] theorem State.onTrunk_walk : (s.onTrunk n f).walk = s.walk := rfl
@[simp] theorem State.onTrunk_wheyDue : (s.onTrunk n f).wheyDue = s.wheyDue := rfl
@[simp] theorem State.onTrunk_subs : (s.onTrunk n f).subs = s.subs := rfl
@[simp] theorem State.onTrunk_lostCopies : (s.onTrunk n f).lostCopies = s.lostCopies := rfl
@[simp] theorem State.onTrunk_fences : (s.onTrunk n f).fences = s.fences := rfl
@[simp] theorem State.onTrunk_nodes : (s.onTrunk n f).nodes = s.nodes := rfl
@[simp] theorem State.onTrunk_shpUntil : (s.onTrunk n f).shpUntil = s.shpUntil := rfl
@[simp] theorem State.onTrunk_heldShapes : (s.onTrunk n f).heldShapes = s.heldShapes := rfl
@[simp] theorem State.onTrunk_gates : (s.onTrunk n f).gates = s.gates := rfl
@[simp] theorem State.onTrunk_gateCopy : (s.onTrunk n f).gateCopy = s.gateCopy := rfl
@[simp] theorem State.onTrunk_gwq : (s.onTrunk n f).gwq = s.gwq := rfl
@[simp] theorem State.onTrunk_watch : (s.onTrunk n f).watch = s.watch := rfl
@[simp] theorem State.onTrunk_samples : (s.onTrunk n f).samples = s.samples := rfl
@[simp] theorem State.onTrunk_smpSeq : (s.onTrunk n f).smpSeq = s.smpSeq := rfl
@[simp] theorem State.onTrunk_smpSkipped : (s.onTrunk n f).smpSkipped = s.smpSkipped := rfl
@[simp] theorem State.onTrunk_smpAt : (s.onTrunk n f).smpAt = s.smpAt := rfl
@[simp] theorem State.onTrunk_smpUntil : (s.onTrunk n f).smpUntil = s.smpUntil := rfl
@[simp] theorem State.onTrunk_smpRun : (s.onTrunk n f).smpRun = s.smpRun := rfl
@[simp] theorem State.onTrunk_tabs : (s.onTrunk n f).tabs = s.tabs := rfl
@[simp] theorem State.onTrunk_learnq : (s.onTrunk n f).learnq = s.learnq := rfl
@[simp] theorem State.onTrunk_crossing : (s.onTrunk n f).crossing = s.crossing := rfl
@[simp] theorem State.onTrunk_learnAt : (s.onTrunk n f).learnAt = s.learnAt := rfl
@[simp] theorem State.onTrunk_moves : (s.onTrunk n f).moves = s.moves := rfl
@[simp] theorem State.onTrunk_hits : (s.onTrunk n f).hits = s.hits := rfl
@[simp] theorem State.onTrunk_winOps : (s.onTrunk n f).winOps = s.winOps := rfl
@[simp] theorem State.onTrunk_shadows : (s.onTrunk n f).shadows = s.shadows := rfl
@[simp] theorem State.onTrunk_slotNext : (s.onTrunk n f).slotNext = s.slotNext := rfl
@[simp] theorem State.onTrunk_slotFirst : (s.onTrunk n f).slotFirst = s.slotFirst := rfl
@[simp] theorem State.onTrunk_lanes : (s.onTrunk n f).lanes = s.lanes := rfl
@[simp] theorem State.onTrunk_ntTimes : (s.onTrunk n f).ntTimes = s.ntTimes := rfl
@[simp] theorem State.onTrunk_cadTab : (s.onTrunk n f).cadTab = s.cadTab := rfl
@[simp] theorem State.onTrunk_cadSrc : (s.onTrunk n f).cadSrc = s.cadSrc := rfl
@[simp] theorem State.onTrunk_cadFrom : (s.onTrunk n f).cadFrom = s.cadFrom := rfl
@[simp] theorem State.onTrunk_cadOld : (s.onTrunk n f).cadOld = s.cadOld := rfl
@[simp] theorem State.onTrunk_cadRcs : (s.onTrunk n f).cadRcs = s.cadRcs := rfl
@[simp] theorem State.onTrunk_cadErr : (s.onTrunk n f).cadErr = s.cadErr := rfl
@[simp] theorem State.onTrunk_gwTpl : (s.onTrunk n f).gwTpl = s.gwTpl := rfl
@[simp] theorem State.onTrunk_gwWin : (s.onTrunk n f).gwWin = s.gwWin := rfl
@[simp] theorem State.onTrunk_gwCnt : (s.onTrunk n f).gwCnt = s.gwCnt := rfl
@[simp] theorem State.onTrunk_wear : (s.onTrunk n f).wear = s.wear := rfl
@[simp] theorem State.onTrunk_swaps : (s.onTrunk n f).swaps = s.swaps := rfl
@[simp] theorem State.onTrunk_swapNext : (s.onTrunk n f).swapNext = s.swapNext := rfl
@[simp] theorem State.onTrunk_caveRead : (s.onTrunk n f).caveRead = s.caveRead := rfl
@[simp] theorem State.onTrunk_swapWait : (s.onTrunk n f).swapWait = s.swapWait := rfl
@[simp] theorem State.onTrunk_rowMap : (s.onTrunk n f).rowMap = s.rowMap := rfl
@[simp] theorem State.onTrunk_image : (s.onTrunk n f).image = s.image := rfl
@[simp] theorem State.onTrunk_applied : (s.onTrunk n f).applied = s.applied := rfl
@[simp] theorem State.onTrunk_perfs : (s.onTrunk n f).perfs = s.perfs := rfl
@[simp] theorem State.onTrunk_slotUse : (s.onTrunk n f).slotUse = s.slotUse := rfl
@[simp] theorem State.onTrunk_events : (s.onTrunk n f).events = s.events := rfl
@[simp] theorem State.onTrunk_slotSeen : (s.onTrunk n f).slotSeen = s.slotSeen := rfl
@[simp] theorem State.onTrunk_resetCauses : (s.onTrunk n f).resetCauses = s.resetCauses := rfl
@[simp] theorem State.onTrunk_sagSupply : (s.onTrunk n f).sagSupply = s.sagSupply := rfl
@[simp] theorem State.onTrunk_porstLow : (s.onTrunk n f).porstLow = s.porstLow := rfl
@[simp] theorem State.onTrunk_outsAt : (s.onTrunk n f).outsAt = s.outsAt := rfl
@[simp] theorem State.onTrunk_tapIr : (s.onTrunk n f).tapIr = s.tapIr := rfl
@[simp] theorem State.onTrunk_bsr : (s.onTrunk n f).bsr = s.bsr := rfl
@[simp] theorem State.onTrunk_thermalHold : (s.onTrunk n f).thermalHold = s.thermalHold := rfl
@[simp] theorem State.onTrunk_coolAt : (s.onTrunk n f).coolAt = s.coolAt := rfl
@[simp] theorem State.onTrunk_hot : (s.onTrunk n f).hot = s.hot := rfl
@[simp] theorem State.onTrunk_wiping : (s.onTrunk n f).wiping = s.wiping := rfl
@[simp] theorem State.onTrunk_startWait : (s.onTrunk n f).startWait = s.startWait := rfl
@[simp] theorem State.onTrunk_onAtReset : (s.onTrunk n f).onAtReset = s.onAtReset := rfl
@[simp] theorem State.onTrunk_releasedAt : (s.onTrunk n f).releasedAt = s.releasedAt := rfl
@[simp] theorem State.onTrunk_serial : (s.onTrunk n f).serial = s.serial := rfl
@[simp] theorem State.onTrunk_lifeCycle : (s.onTrunk n f).lifeCycle = s.lifeCycle := rfl
@[simp] theorem State.onTrunk_keyHash : (s.onTrunk n f).keyHash = s.keyHash := rfl
@[simp] theorem State.onTrunk_otp : (s.onTrunk n f).otp = s.otp := rfl
@[simp] theorem State.onTrunk_otpProg : (s.onTrunk n f).otpProg = s.otpProg := rfl
@[simp] theorem State.onTrunk_lifeProg : (s.onTrunk n f).lifeProg = s.lifeProg := rfl
@[simp] theorem State.onTrunk_bootNext : (s.onTrunk n f).bootNext = s.bootNext := rfl
@[simp] theorem State.onTrunk_bootTcu : (s.onTrunk n f).bootTcu = s.bootTcu := rfl
@[simp] theorem State.onTrunk_booted : (s.onTrunk n f).booted = s.booted := rfl
@[simp] theorem State.onTrunk_pushLen : (s.onTrunk n f).pushLen = s.pushLen := rfl
@[simp] theorem State.onTrunk_pushed : (s.onTrunk n f).pushed = s.pushed := rfl
@[simp] theorem State.onTrunk_perstHigh : (s.onTrunk n f).perstHigh = s.perstHigh := rfl
end

section
variable (s : State) (t n : Nat) (f : NtTime → NtTime)
@[simp] theorem State.onNt_pending : (s.onNt t n f).pending = s.pending := rfl
@[simp] theorem State.onNt_regs : (s.onNt t n f).regs = s.regs := rfl
@[simp] theorem State.onNt_shadow : (s.onNt t n f).shadow = s.shadow := rfl
@[simp] theorem State.onNt_commitSec : (s.onNt t n f).commitSec = s.commitSec := rfl
@[simp] theorem State.onNt_free : (s.onNt t n f).free = s.free := rfl
@[simp] theorem State.onNt_out : (s.onNt t n f).out = s.out := rfl
@[simp] theorem State.onNt_hosts : (s.onNt t n f).hosts = s.hosts := rfl
@[simp] theorem State.onNt_cmds : (s.onNt t n f).cmds = s.cmds := rfl
@[simp] theorem State.onNt_grants : (s.onNt t n f).grants = s.grants := rfl
@[simp] theorem State.onNt_slots : (s.onNt t n f).slots = s.slots := rfl
@[simp] theorem State.onNt_phase : (s.onNt t n f).phase = s.phase := rfl
@[simp] theorem State.onNt_straps : (s.onNt t n f).straps = s.straps := rfl
@[simp] theorem State.onNt_tcus : (s.onNt t n f).tcus = s.tcus := rfl
@[simp] theorem State.onNt_fw : (s.onNt t n f).fw = s.fw := rfl
@[simp] theorem State.onNt_gatePins : (s.onNt t n f).gatePins = s.gatePins := rfl
@[simp] theorem State.onNt_calHead : (s.onNt t n f).calHead = s.calHead := rfl
@[simp] theorem State.onNt_calRunning : (s.onNt t n f).calRunning = s.calRunning := rfl
@[simp] theorem State.onNt_switch : (s.onNt t n f).switch = s.switch := rfl
@[simp] theorem State.onNt_reverting : (s.onNt t n f).reverting = s.reverting := rfl
@[simp] theorem State.onNt_revertAt : (s.onNt t n f).revertAt = s.revertAt := rfl
@[simp] theorem State.onNt_judging : (s.onNt t n f).judging = s.judging := rfl
@[simp] theorem State.onNt_up : (s.onNt t n f).up = s.up := rfl
@[simp] theorem State.onNt_engines : (s.onNt t n f).engines = s.engines := rfl
@[simp] theorem State.onNt_shmem : (s.onNt t n f).shmem = s.shmem := rfl
@[simp] theorem State.onNt_frames : (s.onNt t n f).frames = s.frames := rfl
@[simp] theorem State.onNt_cells : (s.onNt t n f).cells = s.cells := rfl
@[simp] theorem State.onNt_nextS : (s.onNt t n f).nextS = s.nextS := rfl
@[simp] theorem State.onNt_nextL : (s.onNt t n f).nextL = s.nextL := rfl
@[simp] theorem State.onNt_voqs : (s.onNt t n f).voqs = s.voqs := rfl
@[simp] theorem State.onNt_txs : (s.onNt t n f).txs = s.txs := rfl
@[simp] theorem State.onNt_macs : (s.onNt t n f).macs = s.macs := rfl
@[simp] theorem State.onNt_pressOwn : (s.onNt t n f).pressOwn = s.pressOwn := rfl
@[simp] theorem State.onNt_pressShared : (s.onNt t n f).pressShared = s.pressShared := rfl
@[simp] theorem State.onNt_fus : (s.onNt t n f).fus = s.fus := rfl
@[simp] theorem State.onNt_txts : (s.onNt t n f).txts = s.txts := rfl
@[simp] theorem State.onNt_walk : (s.onNt t n f).walk = s.walk := rfl
@[simp] theorem State.onNt_wheyDue : (s.onNt t n f).wheyDue = s.wheyDue := rfl
@[simp] theorem State.onNt_subs : (s.onNt t n f).subs = s.subs := rfl
@[simp] theorem State.onNt_lostCopies : (s.onNt t n f).lostCopies = s.lostCopies := rfl
@[simp] theorem State.onNt_fences : (s.onNt t n f).fences = s.fences := rfl
@[simp] theorem State.onNt_nodes : (s.onNt t n f).nodes = s.nodes := rfl
@[simp] theorem State.onNt_shpUntil : (s.onNt t n f).shpUntil = s.shpUntil := rfl
@[simp] theorem State.onNt_heldShapes : (s.onNt t n f).heldShapes = s.heldShapes := rfl
@[simp] theorem State.onNt_gates : (s.onNt t n f).gates = s.gates := rfl
@[simp] theorem State.onNt_gateCopy : (s.onNt t n f).gateCopy = s.gateCopy := rfl
@[simp] theorem State.onNt_gwq : (s.onNt t n f).gwq = s.gwq := rfl
@[simp] theorem State.onNt_watch : (s.onNt t n f).watch = s.watch := rfl
@[simp] theorem State.onNt_samples : (s.onNt t n f).samples = s.samples := rfl
@[simp] theorem State.onNt_smpSeq : (s.onNt t n f).smpSeq = s.smpSeq := rfl
@[simp] theorem State.onNt_smpSkipped : (s.onNt t n f).smpSkipped = s.smpSkipped := rfl
@[simp] theorem State.onNt_smpAt : (s.onNt t n f).smpAt = s.smpAt := rfl
@[simp] theorem State.onNt_smpUntil : (s.onNt t n f).smpUntil = s.smpUntil := rfl
@[simp] theorem State.onNt_smpRun : (s.onNt t n f).smpRun = s.smpRun := rfl
@[simp] theorem State.onNt_tabs : (s.onNt t n f).tabs = s.tabs := rfl
@[simp] theorem State.onNt_learnq : (s.onNt t n f).learnq = s.learnq := rfl
@[simp] theorem State.onNt_crossing : (s.onNt t n f).crossing = s.crossing := rfl
@[simp] theorem State.onNt_learnAt : (s.onNt t n f).learnAt = s.learnAt := rfl
@[simp] theorem State.onNt_moves : (s.onNt t n f).moves = s.moves := rfl
@[simp] theorem State.onNt_hits : (s.onNt t n f).hits = s.hits := rfl
@[simp] theorem State.onNt_winOps : (s.onNt t n f).winOps = s.winOps := rfl
@[simp] theorem State.onNt_shadows : (s.onNt t n f).shadows = s.shadows := rfl
@[simp] theorem State.onNt_slotNext : (s.onNt t n f).slotNext = s.slotNext := rfl
@[simp] theorem State.onNt_slotFirst : (s.onNt t n f).slotFirst = s.slotFirst := rfl
@[simp] theorem State.onNt_lanes : (s.onNt t n f).lanes = s.lanes := rfl
@[simp] theorem State.onNt_trunks : (s.onNt t n f).trunks = s.trunks := rfl
@[simp] theorem State.onNt_cadTab : (s.onNt t n f).cadTab = s.cadTab := rfl
@[simp] theorem State.onNt_cadSrc : (s.onNt t n f).cadSrc = s.cadSrc := rfl
@[simp] theorem State.onNt_cadFrom : (s.onNt t n f).cadFrom = s.cadFrom := rfl
@[simp] theorem State.onNt_cadOld : (s.onNt t n f).cadOld = s.cadOld := rfl
@[simp] theorem State.onNt_cadRcs : (s.onNt t n f).cadRcs = s.cadRcs := rfl
@[simp] theorem State.onNt_cadErr : (s.onNt t n f).cadErr = s.cadErr := rfl
@[simp] theorem State.onNt_gwTpl : (s.onNt t n f).gwTpl = s.gwTpl := rfl
@[simp] theorem State.onNt_gwWin : (s.onNt t n f).gwWin = s.gwWin := rfl
@[simp] theorem State.onNt_gwCnt : (s.onNt t n f).gwCnt = s.gwCnt := rfl
@[simp] theorem State.onNt_wear : (s.onNt t n f).wear = s.wear := rfl
@[simp] theorem State.onNt_swaps : (s.onNt t n f).swaps = s.swaps := rfl
@[simp] theorem State.onNt_swapNext : (s.onNt t n f).swapNext = s.swapNext := rfl
@[simp] theorem State.onNt_caveRead : (s.onNt t n f).caveRead = s.caveRead := rfl
@[simp] theorem State.onNt_swapWait : (s.onNt t n f).swapWait = s.swapWait := rfl
@[simp] theorem State.onNt_rowMap : (s.onNt t n f).rowMap = s.rowMap := rfl
@[simp] theorem State.onNt_image : (s.onNt t n f).image = s.image := rfl
@[simp] theorem State.onNt_applied : (s.onNt t n f).applied = s.applied := rfl
@[simp] theorem State.onNt_perfs : (s.onNt t n f).perfs = s.perfs := rfl
@[simp] theorem State.onNt_slotUse : (s.onNt t n f).slotUse = s.slotUse := rfl
@[simp] theorem State.onNt_events : (s.onNt t n f).events = s.events := rfl
@[simp] theorem State.onNt_slotSeen : (s.onNt t n f).slotSeen = s.slotSeen := rfl
@[simp] theorem State.onNt_resetCauses : (s.onNt t n f).resetCauses = s.resetCauses := rfl
@[simp] theorem State.onNt_sagSupply : (s.onNt t n f).sagSupply = s.sagSupply := rfl
@[simp] theorem State.onNt_porstLow : (s.onNt t n f).porstLow = s.porstLow := rfl
@[simp] theorem State.onNt_outsAt : (s.onNt t n f).outsAt = s.outsAt := rfl
@[simp] theorem State.onNt_tapIr : (s.onNt t n f).tapIr = s.tapIr := rfl
@[simp] theorem State.onNt_bsr : (s.onNt t n f).bsr = s.bsr := rfl
@[simp] theorem State.onNt_thermalHold : (s.onNt t n f).thermalHold = s.thermalHold := rfl
@[simp] theorem State.onNt_coolAt : (s.onNt t n f).coolAt = s.coolAt := rfl
@[simp] theorem State.onNt_hot : (s.onNt t n f).hot = s.hot := rfl
@[simp] theorem State.onNt_wiping : (s.onNt t n f).wiping = s.wiping := rfl
@[simp] theorem State.onNt_startWait : (s.onNt t n f).startWait = s.startWait := rfl
@[simp] theorem State.onNt_onAtReset : (s.onNt t n f).onAtReset = s.onAtReset := rfl
@[simp] theorem State.onNt_releasedAt : (s.onNt t n f).releasedAt = s.releasedAt := rfl
@[simp] theorem State.onNt_serial : (s.onNt t n f).serial = s.serial := rfl
@[simp] theorem State.onNt_lifeCycle : (s.onNt t n f).lifeCycle = s.lifeCycle := rfl
@[simp] theorem State.onNt_keyHash : (s.onNt t n f).keyHash = s.keyHash := rfl
@[simp] theorem State.onNt_otp : (s.onNt t n f).otp = s.otp := rfl
@[simp] theorem State.onNt_otpProg : (s.onNt t n f).otpProg = s.otpProg := rfl
@[simp] theorem State.onNt_lifeProg : (s.onNt t n f).lifeProg = s.lifeProg := rfl
@[simp] theorem State.onNt_bootNext : (s.onNt t n f).bootNext = s.bootNext := rfl
@[simp] theorem State.onNt_bootTcu : (s.onNt t n f).bootTcu = s.bootTcu := rfl
@[simp] theorem State.onNt_booted : (s.onNt t n f).booted = s.booted := rfl
@[simp] theorem State.onNt_pushLen : (s.onNt t n f).pushLen = s.pushLen := rfl
@[simp] theorem State.onNt_pushed : (s.onNt t n f).pushed = s.pushed := rfl
@[simp] theorem State.onNt_perstHigh : (s.onNt t n f).perstHigh = s.perstHigh := rfl
end

section
variable (s : State) (n : Nat) (f : Perf → Perf)
@[simp] theorem State.onPerf_pending : (s.onPerf n f).pending = s.pending := rfl
@[simp] theorem State.onPerf_regs : (s.onPerf n f).regs = s.regs := rfl
@[simp] theorem State.onPerf_shadow : (s.onPerf n f).shadow = s.shadow := rfl
@[simp] theorem State.onPerf_commitSec : (s.onPerf n f).commitSec = s.commitSec := rfl
@[simp] theorem State.onPerf_free : (s.onPerf n f).free = s.free := rfl
@[simp] theorem State.onPerf_out : (s.onPerf n f).out = s.out := rfl
@[simp] theorem State.onPerf_hosts : (s.onPerf n f).hosts = s.hosts := rfl
@[simp] theorem State.onPerf_cmds : (s.onPerf n f).cmds = s.cmds := rfl
@[simp] theorem State.onPerf_grants : (s.onPerf n f).grants = s.grants := rfl
@[simp] theorem State.onPerf_slots : (s.onPerf n f).slots = s.slots := rfl
@[simp] theorem State.onPerf_phase : (s.onPerf n f).phase = s.phase := rfl
@[simp] theorem State.onPerf_straps : (s.onPerf n f).straps = s.straps := rfl
@[simp] theorem State.onPerf_tcus : (s.onPerf n f).tcus = s.tcus := rfl
@[simp] theorem State.onPerf_fw : (s.onPerf n f).fw = s.fw := rfl
@[simp] theorem State.onPerf_gatePins : (s.onPerf n f).gatePins = s.gatePins := rfl
@[simp] theorem State.onPerf_calHead : (s.onPerf n f).calHead = s.calHead := rfl
@[simp] theorem State.onPerf_calRunning : (s.onPerf n f).calRunning = s.calRunning := rfl
@[simp] theorem State.onPerf_switch : (s.onPerf n f).switch = s.switch := rfl
@[simp] theorem State.onPerf_reverting : (s.onPerf n f).reverting = s.reverting := rfl
@[simp] theorem State.onPerf_revertAt : (s.onPerf n f).revertAt = s.revertAt := rfl
@[simp] theorem State.onPerf_judging : (s.onPerf n f).judging = s.judging := rfl
@[simp] theorem State.onPerf_up : (s.onPerf n f).up = s.up := rfl
@[simp] theorem State.onPerf_engines : (s.onPerf n f).engines = s.engines := rfl
@[simp] theorem State.onPerf_shmem : (s.onPerf n f).shmem = s.shmem := rfl
@[simp] theorem State.onPerf_frames : (s.onPerf n f).frames = s.frames := rfl
@[simp] theorem State.onPerf_cells : (s.onPerf n f).cells = s.cells := rfl
@[simp] theorem State.onPerf_nextS : (s.onPerf n f).nextS = s.nextS := rfl
@[simp] theorem State.onPerf_nextL : (s.onPerf n f).nextL = s.nextL := rfl
@[simp] theorem State.onPerf_voqs : (s.onPerf n f).voqs = s.voqs := rfl
@[simp] theorem State.onPerf_txs : (s.onPerf n f).txs = s.txs := rfl
@[simp] theorem State.onPerf_macs : (s.onPerf n f).macs = s.macs := rfl
@[simp] theorem State.onPerf_pressOwn : (s.onPerf n f).pressOwn = s.pressOwn := rfl
@[simp] theorem State.onPerf_pressShared : (s.onPerf n f).pressShared = s.pressShared := rfl
@[simp] theorem State.onPerf_fus : (s.onPerf n f).fus = s.fus := rfl
@[simp] theorem State.onPerf_txts : (s.onPerf n f).txts = s.txts := rfl
@[simp] theorem State.onPerf_walk : (s.onPerf n f).walk = s.walk := rfl
@[simp] theorem State.onPerf_wheyDue : (s.onPerf n f).wheyDue = s.wheyDue := rfl
@[simp] theorem State.onPerf_subs : (s.onPerf n f).subs = s.subs := rfl
@[simp] theorem State.onPerf_lostCopies : (s.onPerf n f).lostCopies = s.lostCopies := rfl
@[simp] theorem State.onPerf_fences : (s.onPerf n f).fences = s.fences := rfl
@[simp] theorem State.onPerf_nodes : (s.onPerf n f).nodes = s.nodes := rfl
@[simp] theorem State.onPerf_shpUntil : (s.onPerf n f).shpUntil = s.shpUntil := rfl
@[simp] theorem State.onPerf_heldShapes : (s.onPerf n f).heldShapes = s.heldShapes := rfl
@[simp] theorem State.onPerf_gates : (s.onPerf n f).gates = s.gates := rfl
@[simp] theorem State.onPerf_gateCopy : (s.onPerf n f).gateCopy = s.gateCopy := rfl
@[simp] theorem State.onPerf_gwq : (s.onPerf n f).gwq = s.gwq := rfl
@[simp] theorem State.onPerf_watch : (s.onPerf n f).watch = s.watch := rfl
@[simp] theorem State.onPerf_samples : (s.onPerf n f).samples = s.samples := rfl
@[simp] theorem State.onPerf_smpSeq : (s.onPerf n f).smpSeq = s.smpSeq := rfl
@[simp] theorem State.onPerf_smpSkipped : (s.onPerf n f).smpSkipped = s.smpSkipped := rfl
@[simp] theorem State.onPerf_smpAt : (s.onPerf n f).smpAt = s.smpAt := rfl
@[simp] theorem State.onPerf_smpUntil : (s.onPerf n f).smpUntil = s.smpUntil := rfl
@[simp] theorem State.onPerf_smpRun : (s.onPerf n f).smpRun = s.smpRun := rfl
@[simp] theorem State.onPerf_tabs : (s.onPerf n f).tabs = s.tabs := rfl
@[simp] theorem State.onPerf_learnq : (s.onPerf n f).learnq = s.learnq := rfl
@[simp] theorem State.onPerf_crossing : (s.onPerf n f).crossing = s.crossing := rfl
@[simp] theorem State.onPerf_learnAt : (s.onPerf n f).learnAt = s.learnAt := rfl
@[simp] theorem State.onPerf_moves : (s.onPerf n f).moves = s.moves := rfl
@[simp] theorem State.onPerf_hits : (s.onPerf n f).hits = s.hits := rfl
@[simp] theorem State.onPerf_winOps : (s.onPerf n f).winOps = s.winOps := rfl
@[simp] theorem State.onPerf_shadows : (s.onPerf n f).shadows = s.shadows := rfl
@[simp] theorem State.onPerf_slotNext : (s.onPerf n f).slotNext = s.slotNext := rfl
@[simp] theorem State.onPerf_slotFirst : (s.onPerf n f).slotFirst = s.slotFirst := rfl
@[simp] theorem State.onPerf_lanes : (s.onPerf n f).lanes = s.lanes := rfl
@[simp] theorem State.onPerf_trunks : (s.onPerf n f).trunks = s.trunks := rfl
@[simp] theorem State.onPerf_ntTimes : (s.onPerf n f).ntTimes = s.ntTimes := rfl
@[simp] theorem State.onPerf_cadTab : (s.onPerf n f).cadTab = s.cadTab := rfl
@[simp] theorem State.onPerf_cadSrc : (s.onPerf n f).cadSrc = s.cadSrc := rfl
@[simp] theorem State.onPerf_cadFrom : (s.onPerf n f).cadFrom = s.cadFrom := rfl
@[simp] theorem State.onPerf_cadOld : (s.onPerf n f).cadOld = s.cadOld := rfl
@[simp] theorem State.onPerf_cadRcs : (s.onPerf n f).cadRcs = s.cadRcs := rfl
@[simp] theorem State.onPerf_cadErr : (s.onPerf n f).cadErr = s.cadErr := rfl
@[simp] theorem State.onPerf_gwTpl : (s.onPerf n f).gwTpl = s.gwTpl := rfl
@[simp] theorem State.onPerf_gwWin : (s.onPerf n f).gwWin = s.gwWin := rfl
@[simp] theorem State.onPerf_gwCnt : (s.onPerf n f).gwCnt = s.gwCnt := rfl
@[simp] theorem State.onPerf_wear : (s.onPerf n f).wear = s.wear := rfl
@[simp] theorem State.onPerf_swaps : (s.onPerf n f).swaps = s.swaps := rfl
@[simp] theorem State.onPerf_swapNext : (s.onPerf n f).swapNext = s.swapNext := rfl
@[simp] theorem State.onPerf_caveRead : (s.onPerf n f).caveRead = s.caveRead := rfl
@[simp] theorem State.onPerf_swapWait : (s.onPerf n f).swapWait = s.swapWait := rfl
@[simp] theorem State.onPerf_rowMap : (s.onPerf n f).rowMap = s.rowMap := rfl
@[simp] theorem State.onPerf_image : (s.onPerf n f).image = s.image := rfl
@[simp] theorem State.onPerf_applied : (s.onPerf n f).applied = s.applied := rfl
@[simp] theorem State.onPerf_slotUse : (s.onPerf n f).slotUse = s.slotUse := rfl
@[simp] theorem State.onPerf_events : (s.onPerf n f).events = s.events := rfl
@[simp] theorem State.onPerf_slotSeen : (s.onPerf n f).slotSeen = s.slotSeen := rfl
@[simp] theorem State.onPerf_resetCauses : (s.onPerf n f).resetCauses = s.resetCauses := rfl
@[simp] theorem State.onPerf_sagSupply : (s.onPerf n f).sagSupply = s.sagSupply := rfl
@[simp] theorem State.onPerf_porstLow : (s.onPerf n f).porstLow = s.porstLow := rfl
@[simp] theorem State.onPerf_outsAt : (s.onPerf n f).outsAt = s.outsAt := rfl
@[simp] theorem State.onPerf_tapIr : (s.onPerf n f).tapIr = s.tapIr := rfl
@[simp] theorem State.onPerf_bsr : (s.onPerf n f).bsr = s.bsr := rfl
@[simp] theorem State.onPerf_thermalHold : (s.onPerf n f).thermalHold = s.thermalHold := rfl
@[simp] theorem State.onPerf_coolAt : (s.onPerf n f).coolAt = s.coolAt := rfl
@[simp] theorem State.onPerf_hot : (s.onPerf n f).hot = s.hot := rfl
@[simp] theorem State.onPerf_wiping : (s.onPerf n f).wiping = s.wiping := rfl
@[simp] theorem State.onPerf_startWait : (s.onPerf n f).startWait = s.startWait := rfl
@[simp] theorem State.onPerf_onAtReset : (s.onPerf n f).onAtReset = s.onAtReset := rfl
@[simp] theorem State.onPerf_releasedAt : (s.onPerf n f).releasedAt = s.releasedAt := rfl
@[simp] theorem State.onPerf_serial : (s.onPerf n f).serial = s.serial := rfl
@[simp] theorem State.onPerf_lifeCycle : (s.onPerf n f).lifeCycle = s.lifeCycle := rfl
@[simp] theorem State.onPerf_keyHash : (s.onPerf n f).keyHash = s.keyHash := rfl
@[simp] theorem State.onPerf_otp : (s.onPerf n f).otp = s.otp := rfl
@[simp] theorem State.onPerf_otpProg : (s.onPerf n f).otpProg = s.otpProg := rfl
@[simp] theorem State.onPerf_lifeProg : (s.onPerf n f).lifeProg = s.lifeProg := rfl
@[simp] theorem State.onPerf_bootNext : (s.onPerf n f).bootNext = s.bootNext := rfl
@[simp] theorem State.onPerf_bootTcu : (s.onPerf n f).bootTcu = s.bootTcu := rfl
@[simp] theorem State.onPerf_booted : (s.onPerf n f).booted = s.booted := rfl
@[simp] theorem State.onPerf_pushLen : (s.onPerf n f).pushLen = s.pushLen := rfl
@[simp] theorem State.onPerf_pushed : (s.onPerf n f).pushed = s.pushed := rfl
@[simp] theorem State.onPerf_perstHigh : (s.onPerf n f).perstHigh = s.perstHigh := rfl
end

section
variable (s : State) (p b : Nat)
@[simp] theorem State.raise_pending : (s.raise p b).pending = s.pending := by unfold State.raise; split <;> rfl
@[simp] theorem State.raise_shadow : (s.raise p b).shadow = s.shadow := by unfold State.raise; split <;> rfl
@[simp] theorem State.raise_commitSec : (s.raise p b).commitSec = s.commitSec := by unfold State.raise; split <;> rfl
@[simp] theorem State.raise_free : (s.raise p b).free = s.free := by unfold State.raise; split <;> rfl
@[simp] theorem State.raise_out : (s.raise p b).out = s.out := by unfold State.raise; split <;> rfl
@[simp] theorem State.raise_hosts : (s.raise p b).hosts = s.hosts := by unfold State.raise; split <;> rfl
@[simp] theorem State.raise_cmds : (s.raise p b).cmds = s.cmds := by unfold State.raise; split <;> rfl
@[simp] theorem State.raise_grants : (s.raise p b).grants = s.grants := by unfold State.raise; split <;> rfl
@[simp] theorem State.raise_slots : (s.raise p b).slots = s.slots := by unfold State.raise; split <;> rfl
@[simp] theorem State.raise_phase : (s.raise p b).phase = s.phase := by unfold State.raise; split <;> rfl
@[simp] theorem State.raise_straps : (s.raise p b).straps = s.straps := by unfold State.raise; split <;> rfl
@[simp] theorem State.raise_tcus : (s.raise p b).tcus = s.tcus := by unfold State.raise; split <;> rfl
@[simp] theorem State.raise_fw : (s.raise p b).fw = s.fw := by unfold State.raise; split <;> rfl
@[simp] theorem State.raise_gatePins : (s.raise p b).gatePins = s.gatePins := by unfold State.raise; split <;> rfl
@[simp] theorem State.raise_calHead : (s.raise p b).calHead = s.calHead := by unfold State.raise; split <;> rfl
@[simp] theorem State.raise_calRunning : (s.raise p b).calRunning = s.calRunning := by unfold State.raise; split <;> rfl
@[simp] theorem State.raise_switch : (s.raise p b).switch = s.switch := by unfold State.raise; split <;> rfl
@[simp] theorem State.raise_reverting : (s.raise p b).reverting = s.reverting := by unfold State.raise; split <;> rfl
@[simp] theorem State.raise_revertAt : (s.raise p b).revertAt = s.revertAt := by unfold State.raise; split <;> rfl
@[simp] theorem State.raise_judging : (s.raise p b).judging = s.judging := by unfold State.raise; split <;> rfl
@[simp] theorem State.raise_up : (s.raise p b).up = s.up := by unfold State.raise; split <;> rfl
@[simp] theorem State.raise_engines : (s.raise p b).engines = s.engines := by unfold State.raise; split <;> rfl
@[simp] theorem State.raise_shmem : (s.raise p b).shmem = s.shmem := by unfold State.raise; split <;> rfl
@[simp] theorem State.raise_frames : (s.raise p b).frames = s.frames := by unfold State.raise; split <;> rfl
@[simp] theorem State.raise_cells : (s.raise p b).cells = s.cells := by unfold State.raise; split <;> rfl
@[simp] theorem State.raise_nextS : (s.raise p b).nextS = s.nextS := by unfold State.raise; split <;> rfl
@[simp] theorem State.raise_nextL : (s.raise p b).nextL = s.nextL := by unfold State.raise; split <;> rfl
@[simp] theorem State.raise_voqs : (s.raise p b).voqs = s.voqs := by unfold State.raise; split <;> rfl
@[simp] theorem State.raise_txs : (s.raise p b).txs = s.txs := by unfold State.raise; split <;> rfl
@[simp] theorem State.raise_macs : (s.raise p b).macs = s.macs := by unfold State.raise; split <;> rfl
@[simp] theorem State.raise_pressOwn : (s.raise p b).pressOwn = s.pressOwn := by unfold State.raise; split <;> rfl
@[simp] theorem State.raise_pressShared : (s.raise p b).pressShared = s.pressShared := by unfold State.raise; split <;> rfl
@[simp] theorem State.raise_fus : (s.raise p b).fus = s.fus := by unfold State.raise; split <;> rfl
@[simp] theorem State.raise_txts : (s.raise p b).txts = s.txts := by unfold State.raise; split <;> rfl
@[simp] theorem State.raise_walk : (s.raise p b).walk = s.walk := by unfold State.raise; split <;> rfl
@[simp] theorem State.raise_wheyDue : (s.raise p b).wheyDue = s.wheyDue := by unfold State.raise; split <;> rfl
@[simp] theorem State.raise_subs : (s.raise p b).subs = s.subs := by unfold State.raise; split <;> rfl
@[simp] theorem State.raise_lostCopies : (s.raise p b).lostCopies = s.lostCopies := by unfold State.raise; split <;> rfl
@[simp] theorem State.raise_fences : (s.raise p b).fences = s.fences := by unfold State.raise; split <;> rfl
@[simp] theorem State.raise_nodes : (s.raise p b).nodes = s.nodes := by unfold State.raise; split <;> rfl
@[simp] theorem State.raise_shpUntil : (s.raise p b).shpUntil = s.shpUntil := by unfold State.raise; split <;> rfl
@[simp] theorem State.raise_heldShapes : (s.raise p b).heldShapes = s.heldShapes := by unfold State.raise; split <;> rfl
@[simp] theorem State.raise_gates : (s.raise p b).gates = s.gates := by unfold State.raise; split <;> rfl
@[simp] theorem State.raise_gateCopy : (s.raise p b).gateCopy = s.gateCopy := by unfold State.raise; split <;> rfl
@[simp] theorem State.raise_gwq : (s.raise p b).gwq = s.gwq := by unfold State.raise; split <;> rfl
@[simp] theorem State.raise_watch : (s.raise p b).watch = s.watch := by unfold State.raise; split <;> rfl
@[simp] theorem State.raise_samples : (s.raise p b).samples = s.samples := by unfold State.raise; split <;> rfl
@[simp] theorem State.raise_smpSeq : (s.raise p b).smpSeq = s.smpSeq := by unfold State.raise; split <;> rfl
@[simp] theorem State.raise_smpSkipped : (s.raise p b).smpSkipped = s.smpSkipped := by unfold State.raise; split <;> rfl
@[simp] theorem State.raise_smpAt : (s.raise p b).smpAt = s.smpAt := by unfold State.raise; split <;> rfl
@[simp] theorem State.raise_smpUntil : (s.raise p b).smpUntil = s.smpUntil := by unfold State.raise; split <;> rfl
@[simp] theorem State.raise_smpRun : (s.raise p b).smpRun = s.smpRun := by unfold State.raise; split <;> rfl
@[simp] theorem State.raise_tabs : (s.raise p b).tabs = s.tabs := by unfold State.raise; split <;> rfl
@[simp] theorem State.raise_learnq : (s.raise p b).learnq = s.learnq := by unfold State.raise; split <;> rfl
@[simp] theorem State.raise_crossing : (s.raise p b).crossing = s.crossing := by unfold State.raise; split <;> rfl
@[simp] theorem State.raise_learnAt : (s.raise p b).learnAt = s.learnAt := by unfold State.raise; split <;> rfl
@[simp] theorem State.raise_moves : (s.raise p b).moves = s.moves := by unfold State.raise; split <;> rfl
@[simp] theorem State.raise_hits : (s.raise p b).hits = s.hits := by unfold State.raise; split <;> rfl
@[simp] theorem State.raise_winOps : (s.raise p b).winOps = s.winOps := by unfold State.raise; split <;> rfl
@[simp] theorem State.raise_shadows : (s.raise p b).shadows = s.shadows := by unfold State.raise; split <;> rfl
@[simp] theorem State.raise_slotNext : (s.raise p b).slotNext = s.slotNext := by unfold State.raise; split <;> rfl
@[simp] theorem State.raise_slotFirst : (s.raise p b).slotFirst = s.slotFirst := by unfold State.raise; split <;> rfl
@[simp] theorem State.raise_lanes : (s.raise p b).lanes = s.lanes := by unfold State.raise; split <;> rfl
@[simp] theorem State.raise_trunks : (s.raise p b).trunks = s.trunks := by unfold State.raise; split <;> rfl
@[simp] theorem State.raise_ntTimes : (s.raise p b).ntTimes = s.ntTimes := by unfold State.raise; split <;> rfl
@[simp] theorem State.raise_cadTab : (s.raise p b).cadTab = s.cadTab := by unfold State.raise; split <;> rfl
@[simp] theorem State.raise_cadSrc : (s.raise p b).cadSrc = s.cadSrc := by unfold State.raise; split <;> rfl
@[simp] theorem State.raise_cadFrom : (s.raise p b).cadFrom = s.cadFrom := by unfold State.raise; split <;> rfl
@[simp] theorem State.raise_cadOld : (s.raise p b).cadOld = s.cadOld := by unfold State.raise; split <;> rfl
@[simp] theorem State.raise_cadRcs : (s.raise p b).cadRcs = s.cadRcs := by unfold State.raise; split <;> rfl
@[simp] theorem State.raise_cadErr : (s.raise p b).cadErr = s.cadErr := by unfold State.raise; split <;> rfl
@[simp] theorem State.raise_gwTpl : (s.raise p b).gwTpl = s.gwTpl := by unfold State.raise; split <;> rfl
@[simp] theorem State.raise_gwWin : (s.raise p b).gwWin = s.gwWin := by unfold State.raise; split <;> rfl
@[simp] theorem State.raise_gwCnt : (s.raise p b).gwCnt = s.gwCnt := by unfold State.raise; split <;> rfl
@[simp] theorem State.raise_wear : (s.raise p b).wear = s.wear := by unfold State.raise; split <;> rfl
@[simp] theorem State.raise_swaps : (s.raise p b).swaps = s.swaps := by unfold State.raise; split <;> rfl
@[simp] theorem State.raise_swapNext : (s.raise p b).swapNext = s.swapNext := by unfold State.raise; split <;> rfl
@[simp] theorem State.raise_caveRead : (s.raise p b).caveRead = s.caveRead := by unfold State.raise; split <;> rfl
@[simp] theorem State.raise_swapWait : (s.raise p b).swapWait = s.swapWait := by unfold State.raise; split <;> rfl
@[simp] theorem State.raise_rowMap : (s.raise p b).rowMap = s.rowMap := by unfold State.raise; split <;> rfl
@[simp] theorem State.raise_image : (s.raise p b).image = s.image := by unfold State.raise; split <;> rfl
@[simp] theorem State.raise_applied : (s.raise p b).applied = s.applied := by unfold State.raise; split <;> rfl
@[simp] theorem State.raise_perfs : (s.raise p b).perfs = s.perfs := by unfold State.raise; split <;> rfl
@[simp] theorem State.raise_slotUse : (s.raise p b).slotUse = s.slotUse := by unfold State.raise; split <;> rfl
@[simp] theorem State.raise_events : (s.raise p b).events = s.events := by unfold State.raise; split <;> rfl
@[simp] theorem State.raise_slotSeen : (s.raise p b).slotSeen = s.slotSeen := by unfold State.raise; split <;> rfl
@[simp] theorem State.raise_resetCauses : (s.raise p b).resetCauses = s.resetCauses := by unfold State.raise; split <;> rfl
@[simp] theorem State.raise_sagSupply : (s.raise p b).sagSupply = s.sagSupply := by unfold State.raise; split <;> rfl
@[simp] theorem State.raise_porstLow : (s.raise p b).porstLow = s.porstLow := by unfold State.raise; split <;> rfl
@[simp] theorem State.raise_outsAt : (s.raise p b).outsAt = s.outsAt := by unfold State.raise; split <;> rfl
@[simp] theorem State.raise_tapIr : (s.raise p b).tapIr = s.tapIr := by unfold State.raise; split <;> rfl
@[simp] theorem State.raise_bsr : (s.raise p b).bsr = s.bsr := by unfold State.raise; split <;> rfl
@[simp] theorem State.raise_thermalHold : (s.raise p b).thermalHold = s.thermalHold := by unfold State.raise; split <;> rfl
@[simp] theorem State.raise_coolAt : (s.raise p b).coolAt = s.coolAt := by unfold State.raise; split <;> rfl
@[simp] theorem State.raise_hot : (s.raise p b).hot = s.hot := by unfold State.raise; split <;> rfl
@[simp] theorem State.raise_wiping : (s.raise p b).wiping = s.wiping := by unfold State.raise; split <;> rfl
@[simp] theorem State.raise_startWait : (s.raise p b).startWait = s.startWait := by unfold State.raise; split <;> rfl
@[simp] theorem State.raise_onAtReset : (s.raise p b).onAtReset = s.onAtReset := by unfold State.raise; split <;> rfl
@[simp] theorem State.raise_releasedAt : (s.raise p b).releasedAt = s.releasedAt := by unfold State.raise; split <;> rfl
@[simp] theorem State.raise_serial : (s.raise p b).serial = s.serial := by unfold State.raise; split <;> rfl
@[simp] theorem State.raise_lifeCycle : (s.raise p b).lifeCycle = s.lifeCycle := by unfold State.raise; split <;> rfl
@[simp] theorem State.raise_keyHash : (s.raise p b).keyHash = s.keyHash := by unfold State.raise; split <;> rfl
@[simp] theorem State.raise_otp : (s.raise p b).otp = s.otp := by unfold State.raise; split <;> rfl
@[simp] theorem State.raise_otpProg : (s.raise p b).otpProg = s.otpProg := by unfold State.raise; split <;> rfl
@[simp] theorem State.raise_lifeProg : (s.raise p b).lifeProg = s.lifeProg := by unfold State.raise; split <;> rfl
@[simp] theorem State.raise_bootNext : (s.raise p b).bootNext = s.bootNext := by unfold State.raise; split <;> rfl
@[simp] theorem State.raise_bootTcu : (s.raise p b).bootTcu = s.bootTcu := by unfold State.raise; split <;> rfl
@[simp] theorem State.raise_booted : (s.raise p b).booted = s.booted := by unfold State.raise; split <;> rfl
@[simp] theorem State.raise_pushLen : (s.raise p b).pushLen = s.pushLen := by unfold State.raise; split <;> rfl
@[simp] theorem State.raise_pushed : (s.raise p b).pushed = s.pushed := by unfold State.raise; split <;> rfl
@[simp] theorem State.raise_perstHigh : (s.raise p b).perstHigh = s.perstHigh := by unfold State.raise; split <;> rfl
end

section
variable (s : State) (p b : Nat)
@[simp] theorem State.raiseHdr_pending : (s.raiseHdr p b).pending = s.pending := rfl
@[simp] theorem State.raiseHdr_shadow : (s.raiseHdr p b).shadow = s.shadow := rfl
@[simp] theorem State.raiseHdr_commitSec : (s.raiseHdr p b).commitSec = s.commitSec := rfl
@[simp] theorem State.raiseHdr_free : (s.raiseHdr p b).free = s.free := rfl
@[simp] theorem State.raiseHdr_out : (s.raiseHdr p b).out = s.out := rfl
@[simp] theorem State.raiseHdr_hosts : (s.raiseHdr p b).hosts = s.hosts := rfl
@[simp] theorem State.raiseHdr_cmds : (s.raiseHdr p b).cmds = s.cmds := rfl
@[simp] theorem State.raiseHdr_grants : (s.raiseHdr p b).grants = s.grants := rfl
@[simp] theorem State.raiseHdr_slots : (s.raiseHdr p b).slots = s.slots := rfl
@[simp] theorem State.raiseHdr_phase : (s.raiseHdr p b).phase = s.phase := rfl
@[simp] theorem State.raiseHdr_straps : (s.raiseHdr p b).straps = s.straps := rfl
@[simp] theorem State.raiseHdr_tcus : (s.raiseHdr p b).tcus = s.tcus := rfl
@[simp] theorem State.raiseHdr_fw : (s.raiseHdr p b).fw = s.fw := rfl
@[simp] theorem State.raiseHdr_gatePins : (s.raiseHdr p b).gatePins = s.gatePins := rfl
@[simp] theorem State.raiseHdr_calHead : (s.raiseHdr p b).calHead = s.calHead := rfl
@[simp] theorem State.raiseHdr_calRunning : (s.raiseHdr p b).calRunning = s.calRunning := rfl
@[simp] theorem State.raiseHdr_switch : (s.raiseHdr p b).switch = s.switch := rfl
@[simp] theorem State.raiseHdr_reverting : (s.raiseHdr p b).reverting = s.reverting := rfl
@[simp] theorem State.raiseHdr_revertAt : (s.raiseHdr p b).revertAt = s.revertAt := rfl
@[simp] theorem State.raiseHdr_judging : (s.raiseHdr p b).judging = s.judging := rfl
@[simp] theorem State.raiseHdr_up : (s.raiseHdr p b).up = s.up := rfl
@[simp] theorem State.raiseHdr_engines : (s.raiseHdr p b).engines = s.engines := rfl
@[simp] theorem State.raiseHdr_shmem : (s.raiseHdr p b).shmem = s.shmem := rfl
@[simp] theorem State.raiseHdr_frames : (s.raiseHdr p b).frames = s.frames := rfl
@[simp] theorem State.raiseHdr_cells : (s.raiseHdr p b).cells = s.cells := rfl
@[simp] theorem State.raiseHdr_nextS : (s.raiseHdr p b).nextS = s.nextS := rfl
@[simp] theorem State.raiseHdr_nextL : (s.raiseHdr p b).nextL = s.nextL := rfl
@[simp] theorem State.raiseHdr_voqs : (s.raiseHdr p b).voqs = s.voqs := rfl
@[simp] theorem State.raiseHdr_txs : (s.raiseHdr p b).txs = s.txs := rfl
@[simp] theorem State.raiseHdr_macs : (s.raiseHdr p b).macs = s.macs := rfl
@[simp] theorem State.raiseHdr_pressOwn : (s.raiseHdr p b).pressOwn = s.pressOwn := rfl
@[simp] theorem State.raiseHdr_pressShared : (s.raiseHdr p b).pressShared = s.pressShared := rfl
@[simp] theorem State.raiseHdr_fus : (s.raiseHdr p b).fus = s.fus := rfl
@[simp] theorem State.raiseHdr_txts : (s.raiseHdr p b).txts = s.txts := rfl
@[simp] theorem State.raiseHdr_walk : (s.raiseHdr p b).walk = s.walk := rfl
@[simp] theorem State.raiseHdr_wheyDue : (s.raiseHdr p b).wheyDue = s.wheyDue := rfl
@[simp] theorem State.raiseHdr_subs : (s.raiseHdr p b).subs = s.subs := rfl
@[simp] theorem State.raiseHdr_lostCopies : (s.raiseHdr p b).lostCopies = s.lostCopies := rfl
@[simp] theorem State.raiseHdr_fences : (s.raiseHdr p b).fences = s.fences := rfl
@[simp] theorem State.raiseHdr_nodes : (s.raiseHdr p b).nodes = s.nodes := rfl
@[simp] theorem State.raiseHdr_shpUntil : (s.raiseHdr p b).shpUntil = s.shpUntil := rfl
@[simp] theorem State.raiseHdr_heldShapes : (s.raiseHdr p b).heldShapes = s.heldShapes := rfl
@[simp] theorem State.raiseHdr_gates : (s.raiseHdr p b).gates = s.gates := rfl
@[simp] theorem State.raiseHdr_gateCopy : (s.raiseHdr p b).gateCopy = s.gateCopy := rfl
@[simp] theorem State.raiseHdr_gwq : (s.raiseHdr p b).gwq = s.gwq := rfl
@[simp] theorem State.raiseHdr_watch : (s.raiseHdr p b).watch = s.watch := rfl
@[simp] theorem State.raiseHdr_samples : (s.raiseHdr p b).samples = s.samples := rfl
@[simp] theorem State.raiseHdr_smpSeq : (s.raiseHdr p b).smpSeq = s.smpSeq := rfl
@[simp] theorem State.raiseHdr_smpSkipped : (s.raiseHdr p b).smpSkipped = s.smpSkipped := rfl
@[simp] theorem State.raiseHdr_smpAt : (s.raiseHdr p b).smpAt = s.smpAt := rfl
@[simp] theorem State.raiseHdr_smpUntil : (s.raiseHdr p b).smpUntil = s.smpUntil := rfl
@[simp] theorem State.raiseHdr_smpRun : (s.raiseHdr p b).smpRun = s.smpRun := rfl
@[simp] theorem State.raiseHdr_tabs : (s.raiseHdr p b).tabs = s.tabs := rfl
@[simp] theorem State.raiseHdr_learnq : (s.raiseHdr p b).learnq = s.learnq := rfl
@[simp] theorem State.raiseHdr_crossing : (s.raiseHdr p b).crossing = s.crossing := rfl
@[simp] theorem State.raiseHdr_learnAt : (s.raiseHdr p b).learnAt = s.learnAt := rfl
@[simp] theorem State.raiseHdr_moves : (s.raiseHdr p b).moves = s.moves := rfl
@[simp] theorem State.raiseHdr_hits : (s.raiseHdr p b).hits = s.hits := rfl
@[simp] theorem State.raiseHdr_winOps : (s.raiseHdr p b).winOps = s.winOps := rfl
@[simp] theorem State.raiseHdr_shadows : (s.raiseHdr p b).shadows = s.shadows := rfl
@[simp] theorem State.raiseHdr_slotNext : (s.raiseHdr p b).slotNext = s.slotNext := rfl
@[simp] theorem State.raiseHdr_slotFirst : (s.raiseHdr p b).slotFirst = s.slotFirst := rfl
@[simp] theorem State.raiseHdr_lanes : (s.raiseHdr p b).lanes = s.lanes := rfl
@[simp] theorem State.raiseHdr_trunks : (s.raiseHdr p b).trunks = s.trunks := rfl
@[simp] theorem State.raiseHdr_ntTimes : (s.raiseHdr p b).ntTimes = s.ntTimes := rfl
@[simp] theorem State.raiseHdr_cadTab : (s.raiseHdr p b).cadTab = s.cadTab := rfl
@[simp] theorem State.raiseHdr_cadSrc : (s.raiseHdr p b).cadSrc = s.cadSrc := rfl
@[simp] theorem State.raiseHdr_cadFrom : (s.raiseHdr p b).cadFrom = s.cadFrom := rfl
@[simp] theorem State.raiseHdr_cadOld : (s.raiseHdr p b).cadOld = s.cadOld := rfl
@[simp] theorem State.raiseHdr_cadRcs : (s.raiseHdr p b).cadRcs = s.cadRcs := rfl
@[simp] theorem State.raiseHdr_cadErr : (s.raiseHdr p b).cadErr = s.cadErr := rfl
@[simp] theorem State.raiseHdr_gwTpl : (s.raiseHdr p b).gwTpl = s.gwTpl := rfl
@[simp] theorem State.raiseHdr_gwWin : (s.raiseHdr p b).gwWin = s.gwWin := rfl
@[simp] theorem State.raiseHdr_gwCnt : (s.raiseHdr p b).gwCnt = s.gwCnt := rfl
@[simp] theorem State.raiseHdr_wear : (s.raiseHdr p b).wear = s.wear := rfl
@[simp] theorem State.raiseHdr_swaps : (s.raiseHdr p b).swaps = s.swaps := rfl
@[simp] theorem State.raiseHdr_swapNext : (s.raiseHdr p b).swapNext = s.swapNext := rfl
@[simp] theorem State.raiseHdr_caveRead : (s.raiseHdr p b).caveRead = s.caveRead := rfl
@[simp] theorem State.raiseHdr_swapWait : (s.raiseHdr p b).swapWait = s.swapWait := rfl
@[simp] theorem State.raiseHdr_rowMap : (s.raiseHdr p b).rowMap = s.rowMap := rfl
@[simp] theorem State.raiseHdr_image : (s.raiseHdr p b).image = s.image := rfl
@[simp] theorem State.raiseHdr_applied : (s.raiseHdr p b).applied = s.applied := rfl
@[simp] theorem State.raiseHdr_perfs : (s.raiseHdr p b).perfs = s.perfs := rfl
@[simp] theorem State.raiseHdr_slotUse : (s.raiseHdr p b).slotUse = s.slotUse := rfl
@[simp] theorem State.raiseHdr_events : (s.raiseHdr p b).events = s.events := rfl
@[simp] theorem State.raiseHdr_slotSeen : (s.raiseHdr p b).slotSeen = s.slotSeen := rfl
@[simp] theorem State.raiseHdr_resetCauses : (s.raiseHdr p b).resetCauses = s.resetCauses := rfl
@[simp] theorem State.raiseHdr_sagSupply : (s.raiseHdr p b).sagSupply = s.sagSupply := rfl
@[simp] theorem State.raiseHdr_porstLow : (s.raiseHdr p b).porstLow = s.porstLow := rfl
@[simp] theorem State.raiseHdr_outsAt : (s.raiseHdr p b).outsAt = s.outsAt := rfl
@[simp] theorem State.raiseHdr_tapIr : (s.raiseHdr p b).tapIr = s.tapIr := rfl
@[simp] theorem State.raiseHdr_bsr : (s.raiseHdr p b).bsr = s.bsr := rfl
@[simp] theorem State.raiseHdr_thermalHold : (s.raiseHdr p b).thermalHold = s.thermalHold := rfl
@[simp] theorem State.raiseHdr_coolAt : (s.raiseHdr p b).coolAt = s.coolAt := rfl
@[simp] theorem State.raiseHdr_hot : (s.raiseHdr p b).hot = s.hot := rfl
@[simp] theorem State.raiseHdr_wiping : (s.raiseHdr p b).wiping = s.wiping := rfl
@[simp] theorem State.raiseHdr_startWait : (s.raiseHdr p b).startWait = s.startWait := rfl
@[simp] theorem State.raiseHdr_onAtReset : (s.raiseHdr p b).onAtReset = s.onAtReset := rfl
@[simp] theorem State.raiseHdr_releasedAt : (s.raiseHdr p b).releasedAt = s.releasedAt := rfl
@[simp] theorem State.raiseHdr_serial : (s.raiseHdr p b).serial = s.serial := rfl
@[simp] theorem State.raiseHdr_lifeCycle : (s.raiseHdr p b).lifeCycle = s.lifeCycle := rfl
@[simp] theorem State.raiseHdr_keyHash : (s.raiseHdr p b).keyHash = s.keyHash := rfl
@[simp] theorem State.raiseHdr_otp : (s.raiseHdr p b).otp = s.otp := rfl
@[simp] theorem State.raiseHdr_otpProg : (s.raiseHdr p b).otpProg = s.otpProg := rfl
@[simp] theorem State.raiseHdr_lifeProg : (s.raiseHdr p b).lifeProg = s.lifeProg := rfl
@[simp] theorem State.raiseHdr_bootNext : (s.raiseHdr p b).bootNext = s.bootNext := rfl
@[simp] theorem State.raiseHdr_bootTcu : (s.raiseHdr p b).bootTcu = s.bootTcu := rfl
@[simp] theorem State.raiseHdr_booted : (s.raiseHdr p b).booted = s.booted := rfl
@[simp] theorem State.raiseHdr_pushLen : (s.raiseHdr p b).pushLen = s.pushLen := rfl
@[simp] theorem State.raiseHdr_pushed : (s.raiseHdr p b).pushed = s.pushed := rfl
@[simp] theorem State.raiseHdr_perstHigh : (s.raiseHdr p b).perstHigh = s.perstHigh := rfl
end

section
variable (s : State) (c : Bool) (p b : Nat)
@[simp] theorem State.raiseIf_pending : (s.raiseIf c p b).pending = s.pending := by unfold State.raiseIf; split <;> simp
@[simp] theorem State.raiseIf_shadow : (s.raiseIf c p b).shadow = s.shadow := by unfold State.raiseIf; split <;> simp
@[simp] theorem State.raiseIf_commitSec : (s.raiseIf c p b).commitSec = s.commitSec := by unfold State.raiseIf; split <;> simp
@[simp] theorem State.raiseIf_free : (s.raiseIf c p b).free = s.free := by unfold State.raiseIf; split <;> simp
@[simp] theorem State.raiseIf_out : (s.raiseIf c p b).out = s.out := by unfold State.raiseIf; split <;> simp
@[simp] theorem State.raiseIf_hosts : (s.raiseIf c p b).hosts = s.hosts := by unfold State.raiseIf; split <;> simp
@[simp] theorem State.raiseIf_cmds : (s.raiseIf c p b).cmds = s.cmds := by unfold State.raiseIf; split <;> simp
@[simp] theorem State.raiseIf_grants : (s.raiseIf c p b).grants = s.grants := by unfold State.raiseIf; split <;> simp
@[simp] theorem State.raiseIf_slots : (s.raiseIf c p b).slots = s.slots := by unfold State.raiseIf; split <;> simp
@[simp] theorem State.raiseIf_phase : (s.raiseIf c p b).phase = s.phase := by unfold State.raiseIf; split <;> simp
@[simp] theorem State.raiseIf_straps : (s.raiseIf c p b).straps = s.straps := by unfold State.raiseIf; split <;> simp
@[simp] theorem State.raiseIf_tcus : (s.raiseIf c p b).tcus = s.tcus := by unfold State.raiseIf; split <;> simp
@[simp] theorem State.raiseIf_fw : (s.raiseIf c p b).fw = s.fw := by unfold State.raiseIf; split <;> simp
@[simp] theorem State.raiseIf_gatePins : (s.raiseIf c p b).gatePins = s.gatePins := by unfold State.raiseIf; split <;> simp
@[simp] theorem State.raiseIf_calHead : (s.raiseIf c p b).calHead = s.calHead := by unfold State.raiseIf; split <;> simp
@[simp] theorem State.raiseIf_calRunning : (s.raiseIf c p b).calRunning = s.calRunning := by unfold State.raiseIf; split <;> simp
@[simp] theorem State.raiseIf_switch : (s.raiseIf c p b).switch = s.switch := by unfold State.raiseIf; split <;> simp
@[simp] theorem State.raiseIf_reverting : (s.raiseIf c p b).reverting = s.reverting := by unfold State.raiseIf; split <;> simp
@[simp] theorem State.raiseIf_revertAt : (s.raiseIf c p b).revertAt = s.revertAt := by unfold State.raiseIf; split <;> simp
@[simp] theorem State.raiseIf_judging : (s.raiseIf c p b).judging = s.judging := by unfold State.raiseIf; split <;> simp
@[simp] theorem State.raiseIf_up : (s.raiseIf c p b).up = s.up := by unfold State.raiseIf; split <;> simp
@[simp] theorem State.raiseIf_engines : (s.raiseIf c p b).engines = s.engines := by unfold State.raiseIf; split <;> simp
@[simp] theorem State.raiseIf_shmem : (s.raiseIf c p b).shmem = s.shmem := by unfold State.raiseIf; split <;> simp
@[simp] theorem State.raiseIf_frames : (s.raiseIf c p b).frames = s.frames := by unfold State.raiseIf; split <;> simp
@[simp] theorem State.raiseIf_cells : (s.raiseIf c p b).cells = s.cells := by unfold State.raiseIf; split <;> simp
@[simp] theorem State.raiseIf_nextS : (s.raiseIf c p b).nextS = s.nextS := by unfold State.raiseIf; split <;> simp
@[simp] theorem State.raiseIf_nextL : (s.raiseIf c p b).nextL = s.nextL := by unfold State.raiseIf; split <;> simp
@[simp] theorem State.raiseIf_voqs : (s.raiseIf c p b).voqs = s.voqs := by unfold State.raiseIf; split <;> simp
@[simp] theorem State.raiseIf_txs : (s.raiseIf c p b).txs = s.txs := by unfold State.raiseIf; split <;> simp
@[simp] theorem State.raiseIf_macs : (s.raiseIf c p b).macs = s.macs := by unfold State.raiseIf; split <;> simp
@[simp] theorem State.raiseIf_pressOwn : (s.raiseIf c p b).pressOwn = s.pressOwn := by unfold State.raiseIf; split <;> simp
@[simp] theorem State.raiseIf_pressShared : (s.raiseIf c p b).pressShared = s.pressShared := by unfold State.raiseIf; split <;> simp
@[simp] theorem State.raiseIf_fus : (s.raiseIf c p b).fus = s.fus := by unfold State.raiseIf; split <;> simp
@[simp] theorem State.raiseIf_txts : (s.raiseIf c p b).txts = s.txts := by unfold State.raiseIf; split <;> simp
@[simp] theorem State.raiseIf_walk : (s.raiseIf c p b).walk = s.walk := by unfold State.raiseIf; split <;> simp
@[simp] theorem State.raiseIf_wheyDue : (s.raiseIf c p b).wheyDue = s.wheyDue := by unfold State.raiseIf; split <;> simp
@[simp] theorem State.raiseIf_subs : (s.raiseIf c p b).subs = s.subs := by unfold State.raiseIf; split <;> simp
@[simp] theorem State.raiseIf_lostCopies : (s.raiseIf c p b).lostCopies = s.lostCopies := by unfold State.raiseIf; split <;> simp
@[simp] theorem State.raiseIf_fences : (s.raiseIf c p b).fences = s.fences := by unfold State.raiseIf; split <;> simp
@[simp] theorem State.raiseIf_nodes : (s.raiseIf c p b).nodes = s.nodes := by unfold State.raiseIf; split <;> simp
@[simp] theorem State.raiseIf_shpUntil : (s.raiseIf c p b).shpUntil = s.shpUntil := by unfold State.raiseIf; split <;> simp
@[simp] theorem State.raiseIf_heldShapes : (s.raiseIf c p b).heldShapes = s.heldShapes := by unfold State.raiseIf; split <;> simp
@[simp] theorem State.raiseIf_gates : (s.raiseIf c p b).gates = s.gates := by unfold State.raiseIf; split <;> simp
@[simp] theorem State.raiseIf_gateCopy : (s.raiseIf c p b).gateCopy = s.gateCopy := by unfold State.raiseIf; split <;> simp
@[simp] theorem State.raiseIf_gwq : (s.raiseIf c p b).gwq = s.gwq := by unfold State.raiseIf; split <;> simp
@[simp] theorem State.raiseIf_watch : (s.raiseIf c p b).watch = s.watch := by unfold State.raiseIf; split <;> simp
@[simp] theorem State.raiseIf_samples : (s.raiseIf c p b).samples = s.samples := by unfold State.raiseIf; split <;> simp
@[simp] theorem State.raiseIf_smpSeq : (s.raiseIf c p b).smpSeq = s.smpSeq := by unfold State.raiseIf; split <;> simp
@[simp] theorem State.raiseIf_smpSkipped : (s.raiseIf c p b).smpSkipped = s.smpSkipped := by unfold State.raiseIf; split <;> simp
@[simp] theorem State.raiseIf_smpAt : (s.raiseIf c p b).smpAt = s.smpAt := by unfold State.raiseIf; split <;> simp
@[simp] theorem State.raiseIf_smpUntil : (s.raiseIf c p b).smpUntil = s.smpUntil := by unfold State.raiseIf; split <;> simp
@[simp] theorem State.raiseIf_smpRun : (s.raiseIf c p b).smpRun = s.smpRun := by unfold State.raiseIf; split <;> simp
@[simp] theorem State.raiseIf_tabs : (s.raiseIf c p b).tabs = s.tabs := by unfold State.raiseIf; split <;> simp
@[simp] theorem State.raiseIf_learnq : (s.raiseIf c p b).learnq = s.learnq := by unfold State.raiseIf; split <;> simp
@[simp] theorem State.raiseIf_crossing : (s.raiseIf c p b).crossing = s.crossing := by unfold State.raiseIf; split <;> simp
@[simp] theorem State.raiseIf_learnAt : (s.raiseIf c p b).learnAt = s.learnAt := by unfold State.raiseIf; split <;> simp
@[simp] theorem State.raiseIf_moves : (s.raiseIf c p b).moves = s.moves := by unfold State.raiseIf; split <;> simp
@[simp] theorem State.raiseIf_hits : (s.raiseIf c p b).hits = s.hits := by unfold State.raiseIf; split <;> simp
@[simp] theorem State.raiseIf_winOps : (s.raiseIf c p b).winOps = s.winOps := by unfold State.raiseIf; split <;> simp
@[simp] theorem State.raiseIf_shadows : (s.raiseIf c p b).shadows = s.shadows := by unfold State.raiseIf; split <;> simp
@[simp] theorem State.raiseIf_slotNext : (s.raiseIf c p b).slotNext = s.slotNext := by unfold State.raiseIf; split <;> simp
@[simp] theorem State.raiseIf_slotFirst : (s.raiseIf c p b).slotFirst = s.slotFirst := by unfold State.raiseIf; split <;> simp
@[simp] theorem State.raiseIf_lanes : (s.raiseIf c p b).lanes = s.lanes := by unfold State.raiseIf; split <;> simp
@[simp] theorem State.raiseIf_trunks : (s.raiseIf c p b).trunks = s.trunks := by unfold State.raiseIf; split <;> simp
@[simp] theorem State.raiseIf_ntTimes : (s.raiseIf c p b).ntTimes = s.ntTimes := by unfold State.raiseIf; split <;> simp
@[simp] theorem State.raiseIf_cadTab : (s.raiseIf c p b).cadTab = s.cadTab := by unfold State.raiseIf; split <;> simp
@[simp] theorem State.raiseIf_cadSrc : (s.raiseIf c p b).cadSrc = s.cadSrc := by unfold State.raiseIf; split <;> simp
@[simp] theorem State.raiseIf_cadFrom : (s.raiseIf c p b).cadFrom = s.cadFrom := by unfold State.raiseIf; split <;> simp
@[simp] theorem State.raiseIf_cadOld : (s.raiseIf c p b).cadOld = s.cadOld := by unfold State.raiseIf; split <;> simp
@[simp] theorem State.raiseIf_cadRcs : (s.raiseIf c p b).cadRcs = s.cadRcs := by unfold State.raiseIf; split <;> simp
@[simp] theorem State.raiseIf_cadErr : (s.raiseIf c p b).cadErr = s.cadErr := by unfold State.raiseIf; split <;> simp
@[simp] theorem State.raiseIf_gwTpl : (s.raiseIf c p b).gwTpl = s.gwTpl := by unfold State.raiseIf; split <;> simp
@[simp] theorem State.raiseIf_gwWin : (s.raiseIf c p b).gwWin = s.gwWin := by unfold State.raiseIf; split <;> simp
@[simp] theorem State.raiseIf_gwCnt : (s.raiseIf c p b).gwCnt = s.gwCnt := by unfold State.raiseIf; split <;> simp
@[simp] theorem State.raiseIf_wear : (s.raiseIf c p b).wear = s.wear := by unfold State.raiseIf; split <;> simp
@[simp] theorem State.raiseIf_swaps : (s.raiseIf c p b).swaps = s.swaps := by unfold State.raiseIf; split <;> simp
@[simp] theorem State.raiseIf_swapNext : (s.raiseIf c p b).swapNext = s.swapNext := by unfold State.raiseIf; split <;> simp
@[simp] theorem State.raiseIf_caveRead : (s.raiseIf c p b).caveRead = s.caveRead := by unfold State.raiseIf; split <;> simp
@[simp] theorem State.raiseIf_swapWait : (s.raiseIf c p b).swapWait = s.swapWait := by unfold State.raiseIf; split <;> simp
@[simp] theorem State.raiseIf_rowMap : (s.raiseIf c p b).rowMap = s.rowMap := by unfold State.raiseIf; split <;> simp
@[simp] theorem State.raiseIf_image : (s.raiseIf c p b).image = s.image := by unfold State.raiseIf; split <;> simp
@[simp] theorem State.raiseIf_applied : (s.raiseIf c p b).applied = s.applied := by unfold State.raiseIf; split <;> simp
@[simp] theorem State.raiseIf_perfs : (s.raiseIf c p b).perfs = s.perfs := by unfold State.raiseIf; split <;> simp
@[simp] theorem State.raiseIf_slotUse : (s.raiseIf c p b).slotUse = s.slotUse := by unfold State.raiseIf; split <;> simp
@[simp] theorem State.raiseIf_events : (s.raiseIf c p b).events = s.events := by unfold State.raiseIf; split <;> simp
@[simp] theorem State.raiseIf_slotSeen : (s.raiseIf c p b).slotSeen = s.slotSeen := by unfold State.raiseIf; split <;> simp
@[simp] theorem State.raiseIf_resetCauses : (s.raiseIf c p b).resetCauses = s.resetCauses := by unfold State.raiseIf; split <;> simp
@[simp] theorem State.raiseIf_sagSupply : (s.raiseIf c p b).sagSupply = s.sagSupply := by unfold State.raiseIf; split <;> simp
@[simp] theorem State.raiseIf_porstLow : (s.raiseIf c p b).porstLow = s.porstLow := by unfold State.raiseIf; split <;> simp
@[simp] theorem State.raiseIf_outsAt : (s.raiseIf c p b).outsAt = s.outsAt := by unfold State.raiseIf; split <;> simp
@[simp] theorem State.raiseIf_tapIr : (s.raiseIf c p b).tapIr = s.tapIr := by unfold State.raiseIf; split <;> simp
@[simp] theorem State.raiseIf_bsr : (s.raiseIf c p b).bsr = s.bsr := by unfold State.raiseIf; split <;> simp
@[simp] theorem State.raiseIf_thermalHold : (s.raiseIf c p b).thermalHold = s.thermalHold := by unfold State.raiseIf; split <;> simp
@[simp] theorem State.raiseIf_coolAt : (s.raiseIf c p b).coolAt = s.coolAt := by unfold State.raiseIf; split <;> simp
@[simp] theorem State.raiseIf_hot : (s.raiseIf c p b).hot = s.hot := by unfold State.raiseIf; split <;> simp
@[simp] theorem State.raiseIf_wiping : (s.raiseIf c p b).wiping = s.wiping := by unfold State.raiseIf; split <;> simp
@[simp] theorem State.raiseIf_startWait : (s.raiseIf c p b).startWait = s.startWait := by unfold State.raiseIf; split <;> simp
@[simp] theorem State.raiseIf_onAtReset : (s.raiseIf c p b).onAtReset = s.onAtReset := by unfold State.raiseIf; split <;> simp
@[simp] theorem State.raiseIf_releasedAt : (s.raiseIf c p b).releasedAt = s.releasedAt := by unfold State.raiseIf; split <;> simp
@[simp] theorem State.raiseIf_serial : (s.raiseIf c p b).serial = s.serial := by unfold State.raiseIf; split <;> simp
@[simp] theorem State.raiseIf_lifeCycle : (s.raiseIf c p b).lifeCycle = s.lifeCycle := by unfold State.raiseIf; split <;> simp
@[simp] theorem State.raiseIf_keyHash : (s.raiseIf c p b).keyHash = s.keyHash := by unfold State.raiseIf; split <;> simp
@[simp] theorem State.raiseIf_otp : (s.raiseIf c p b).otp = s.otp := by unfold State.raiseIf; split <;> simp
@[simp] theorem State.raiseIf_otpProg : (s.raiseIf c p b).otpProg = s.otpProg := by unfold State.raiseIf; split <;> simp
@[simp] theorem State.raiseIf_lifeProg : (s.raiseIf c p b).lifeProg = s.lifeProg := by unfold State.raiseIf; split <;> simp
@[simp] theorem State.raiseIf_bootNext : (s.raiseIf c p b).bootNext = s.bootNext := by unfold State.raiseIf; split <;> simp
@[simp] theorem State.raiseIf_bootTcu : (s.raiseIf c p b).bootTcu = s.bootTcu := by unfold State.raiseIf; split <;> simp
@[simp] theorem State.raiseIf_booted : (s.raiseIf c p b).booted = s.booted := by unfold State.raiseIf; split <;> simp
@[simp] theorem State.raiseIf_pushLen : (s.raiseIf c p b).pushLen = s.pushLen := by unfold State.raiseIf; split <;> simp
@[simp] theorem State.raiseIf_pushed : (s.raiseIf c p b).pushed = s.pushed := by unfold State.raiseIf; split <;> simp
@[simp] theorem State.raiseIf_perstHigh : (s.raiseIf c p b).perstHigh = s.perstHigh := by unfold State.raiseIf; split <;> simp
end

/-! ### The end of a command: message interrupts change the contexts' delivery state, what is put out, and the count of free values -/

section
variable (s : State)
@[simp] theorem State.deliver_pending (c : Nat) : (s.deliver c).pending = s.pending := by unfold State.deliver; dsimp only; (repeat' split) <;> rfl
@[simp] theorem State.settle_pending : s.settle.pending = s.pending := by unfold State.settle State.each; simp [List.range, List.range.loop]
@[simp] theorem State.deliver_regs (c : Nat) : (s.deliver c).regs = s.regs := by unfold State.deliver; dsimp only; (repeat' split) <;> rfl
@[simp] theorem State.settle_regs : s.settle.regs = s.regs := by unfold State.settle State.each; simp [List.range, List.range.loop]
@[simp] theorem State.deliver_shadow (c : Nat) : (s.deliver c).shadow = s.shadow := by unfold State.deliver; dsimp only; (repeat' split) <;> rfl
@[simp] theorem State.settle_shadow : s.settle.shadow = s.shadow := by unfold State.settle State.each; simp [List.range, List.range.loop]
@[simp] theorem State.deliver_commitSec (c : Nat) : (s.deliver c).commitSec = s.commitSec := by unfold State.deliver; dsimp only; (repeat' split) <;> rfl
@[simp] theorem State.settle_commitSec : s.settle.commitSec = s.commitSec := by unfold State.settle State.each; simp [List.range, List.range.loop]
@[simp] theorem State.deliver_cmds (c : Nat) : (s.deliver c).cmds = s.cmds := by unfold State.deliver; dsimp only; (repeat' split) <;> rfl
@[simp] theorem State.settle_cmds : s.settle.cmds = s.cmds := by unfold State.settle State.each; simp [List.range, List.range.loop]
@[simp] theorem State.deliver_grants (c : Nat) : (s.deliver c).grants = s.grants := by unfold State.deliver; dsimp only; (repeat' split) <;> rfl
@[simp] theorem State.settle_grants : s.settle.grants = s.grants := by unfold State.settle State.each; simp [List.range, List.range.loop]
@[simp] theorem State.deliver_slots (c : Nat) : (s.deliver c).slots = s.slots := by unfold State.deliver; dsimp only; (repeat' split) <;> rfl
@[simp] theorem State.settle_slots : s.settle.slots = s.slots := by unfold State.settle State.each; simp [List.range, List.range.loop]
@[simp] theorem State.deliver_phase (c : Nat) : (s.deliver c).phase = s.phase := by unfold State.deliver; dsimp only; (repeat' split) <;> rfl
@[simp] theorem State.settle_phase : s.settle.phase = s.phase := by unfold State.settle State.each; simp [List.range, List.range.loop]
@[simp] theorem State.deliver_straps (c : Nat) : (s.deliver c).straps = s.straps := by unfold State.deliver; dsimp only; (repeat' split) <;> rfl
@[simp] theorem State.settle_straps : s.settle.straps = s.straps := by unfold State.settle State.each; simp [List.range, List.range.loop]
@[simp] theorem State.deliver_tcus (c : Nat) : (s.deliver c).tcus = s.tcus := by unfold State.deliver; dsimp only; (repeat' split) <;> rfl
@[simp] theorem State.settle_tcus : s.settle.tcus = s.tcus := by unfold State.settle State.each; simp [List.range, List.range.loop]
@[simp] theorem State.deliver_fw (c : Nat) : (s.deliver c).fw = s.fw := by unfold State.deliver; dsimp only; (repeat' split) <;> rfl
@[simp] theorem State.settle_fw : s.settle.fw = s.fw := by unfold State.settle State.each; simp [List.range, List.range.loop]
@[simp] theorem State.deliver_gatePins (c : Nat) : (s.deliver c).gatePins = s.gatePins := by unfold State.deliver; dsimp only; (repeat' split) <;> rfl
@[simp] theorem State.settle_gatePins : s.settle.gatePins = s.gatePins := by unfold State.settle State.each; simp [List.range, List.range.loop]
@[simp] theorem State.deliver_calHead (c : Nat) : (s.deliver c).calHead = s.calHead := by unfold State.deliver; dsimp only; (repeat' split) <;> rfl
@[simp] theorem State.settle_calHead : s.settle.calHead = s.calHead := by unfold State.settle State.each; simp [List.range, List.range.loop]
@[simp] theorem State.deliver_calRunning (c : Nat) : (s.deliver c).calRunning = s.calRunning := by unfold State.deliver; dsimp only; (repeat' split) <;> rfl
@[simp] theorem State.settle_calRunning : s.settle.calRunning = s.calRunning := by unfold State.settle State.each; simp [List.range, List.range.loop]
@[simp] theorem State.deliver_switch (c : Nat) : (s.deliver c).switch = s.switch := by unfold State.deliver; dsimp only; (repeat' split) <;> rfl
@[simp] theorem State.settle_switch : s.settle.switch = s.switch := by unfold State.settle State.each; simp [List.range, List.range.loop]
@[simp] theorem State.deliver_reverting (c : Nat) : (s.deliver c).reverting = s.reverting := by unfold State.deliver; dsimp only; (repeat' split) <;> rfl
@[simp] theorem State.settle_reverting : s.settle.reverting = s.reverting := by unfold State.settle State.each; simp [List.range, List.range.loop]
@[simp] theorem State.deliver_revertAt (c : Nat) : (s.deliver c).revertAt = s.revertAt := by unfold State.deliver; dsimp only; (repeat' split) <;> rfl
@[simp] theorem State.settle_revertAt : s.settle.revertAt = s.revertAt := by unfold State.settle State.each; simp [List.range, List.range.loop]
@[simp] theorem State.deliver_judging (c : Nat) : (s.deliver c).judging = s.judging := by unfold State.deliver; dsimp only; (repeat' split) <;> rfl
@[simp] theorem State.settle_judging : s.settle.judging = s.judging := by unfold State.settle State.each; simp [List.range, List.range.loop]
@[simp] theorem State.deliver_up (c : Nat) : (s.deliver c).up = s.up := by unfold State.deliver; dsimp only; (repeat' split) <;> rfl
@[simp] theorem State.settle_up : s.settle.up = s.up := by unfold State.settle State.each; simp [List.range, List.range.loop]
@[simp] theorem State.deliver_engines (c : Nat) : (s.deliver c).engines = s.engines := by unfold State.deliver; dsimp only; (repeat' split) <;> rfl
@[simp] theorem State.settle_engines : s.settle.engines = s.engines := by unfold State.settle State.each; simp [List.range, List.range.loop]
@[simp] theorem State.deliver_shmem (c : Nat) : (s.deliver c).shmem = s.shmem := by unfold State.deliver; dsimp only; (repeat' split) <;> rfl
@[simp] theorem State.settle_shmem : s.settle.shmem = s.shmem := by unfold State.settle State.each; simp [List.range, List.range.loop]
@[simp] theorem State.deliver_frames (c : Nat) : (s.deliver c).frames = s.frames := by unfold State.deliver; dsimp only; (repeat' split) <;> rfl
@[simp] theorem State.settle_frames : s.settle.frames = s.frames := by unfold State.settle State.each; simp [List.range, List.range.loop]
@[simp] theorem State.deliver_cells (c : Nat) : (s.deliver c).cells = s.cells := by unfold State.deliver; dsimp only; (repeat' split) <;> rfl
@[simp] theorem State.settle_cells : s.settle.cells = s.cells := by unfold State.settle State.each; simp [List.range, List.range.loop]
@[simp] theorem State.deliver_nextS (c : Nat) : (s.deliver c).nextS = s.nextS := by unfold State.deliver; dsimp only; (repeat' split) <;> rfl
@[simp] theorem State.settle_nextS : s.settle.nextS = s.nextS := by unfold State.settle State.each; simp [List.range, List.range.loop]
@[simp] theorem State.deliver_nextL (c : Nat) : (s.deliver c).nextL = s.nextL := by unfold State.deliver; dsimp only; (repeat' split) <;> rfl
@[simp] theorem State.settle_nextL : s.settle.nextL = s.nextL := by unfold State.settle State.each; simp [List.range, List.range.loop]
@[simp] theorem State.deliver_voqs (c : Nat) : (s.deliver c).voqs = s.voqs := by unfold State.deliver; dsimp only; (repeat' split) <;> rfl
@[simp] theorem State.settle_voqs : s.settle.voqs = s.voqs := by unfold State.settle State.each; simp [List.range, List.range.loop]
@[simp] theorem State.deliver_txs (c : Nat) : (s.deliver c).txs = s.txs := by unfold State.deliver; dsimp only; (repeat' split) <;> rfl
@[simp] theorem State.settle_txs : s.settle.txs = s.txs := by unfold State.settle State.each; simp [List.range, List.range.loop]
@[simp] theorem State.deliver_macs (c : Nat) : (s.deliver c).macs = s.macs := by unfold State.deliver; dsimp only; (repeat' split) <;> rfl
@[simp] theorem State.settle_macs : s.settle.macs = s.macs := by unfold State.settle State.each; simp [List.range, List.range.loop]
@[simp] theorem State.deliver_pressOwn (c : Nat) : (s.deliver c).pressOwn = s.pressOwn := by unfold State.deliver; dsimp only; (repeat' split) <;> rfl
@[simp] theorem State.settle_pressOwn : s.settle.pressOwn = s.pressOwn := by unfold State.settle State.each; simp [List.range, List.range.loop]
@[simp] theorem State.deliver_pressShared (c : Nat) : (s.deliver c).pressShared = s.pressShared := by unfold State.deliver; dsimp only; (repeat' split) <;> rfl
@[simp] theorem State.settle_pressShared : s.settle.pressShared = s.pressShared := by unfold State.settle State.each; simp [List.range, List.range.loop]
@[simp] theorem State.deliver_fus (c : Nat) : (s.deliver c).fus = s.fus := by unfold State.deliver; dsimp only; (repeat' split) <;> rfl
@[simp] theorem State.settle_fus : s.settle.fus = s.fus := by unfold State.settle State.each; simp [List.range, List.range.loop]
@[simp] theorem State.deliver_txts (c : Nat) : (s.deliver c).txts = s.txts := by unfold State.deliver; dsimp only; (repeat' split) <;> rfl
@[simp] theorem State.settle_txts : s.settle.txts = s.txts := by unfold State.settle State.each; simp [List.range, List.range.loop]
@[simp] theorem State.deliver_walk (c : Nat) : (s.deliver c).walk = s.walk := by unfold State.deliver; dsimp only; (repeat' split) <;> rfl
@[simp] theorem State.settle_walk : s.settle.walk = s.walk := by unfold State.settle State.each; simp [List.range, List.range.loop]
@[simp] theorem State.deliver_wheyDue (c : Nat) : (s.deliver c).wheyDue = s.wheyDue := by unfold State.deliver; dsimp only; (repeat' split) <;> rfl
@[simp] theorem State.settle_wheyDue : s.settle.wheyDue = s.wheyDue := by unfold State.settle State.each; simp [List.range, List.range.loop]
@[simp] theorem State.deliver_subs (c : Nat) : (s.deliver c).subs = s.subs := by unfold State.deliver; dsimp only; (repeat' split) <;> rfl
@[simp] theorem State.settle_subs : s.settle.subs = s.subs := by unfold State.settle State.each; simp [List.range, List.range.loop]
@[simp] theorem State.deliver_lostCopies (c : Nat) : (s.deliver c).lostCopies = s.lostCopies := by unfold State.deliver; dsimp only; (repeat' split) <;> rfl
@[simp] theorem State.settle_lostCopies : s.settle.lostCopies = s.lostCopies := by unfold State.settle State.each; simp [List.range, List.range.loop]
@[simp] theorem State.deliver_fences (c : Nat) : (s.deliver c).fences = s.fences := by unfold State.deliver; dsimp only; (repeat' split) <;> rfl
@[simp] theorem State.settle_fences : s.settle.fences = s.fences := by unfold State.settle State.each; simp [List.range, List.range.loop]
@[simp] theorem State.deliver_nodes (c : Nat) : (s.deliver c).nodes = s.nodes := by unfold State.deliver; dsimp only; (repeat' split) <;> rfl
@[simp] theorem State.settle_nodes : s.settle.nodes = s.nodes := by unfold State.settle State.each; simp [List.range, List.range.loop]
@[simp] theorem State.deliver_shpUntil (c : Nat) : (s.deliver c).shpUntil = s.shpUntil := by unfold State.deliver; dsimp only; (repeat' split) <;> rfl
@[simp] theorem State.settle_shpUntil : s.settle.shpUntil = s.shpUntil := by unfold State.settle State.each; simp [List.range, List.range.loop]
@[simp] theorem State.deliver_heldShapes (c : Nat) : (s.deliver c).heldShapes = s.heldShapes := by unfold State.deliver; dsimp only; (repeat' split) <;> rfl
@[simp] theorem State.settle_heldShapes : s.settle.heldShapes = s.heldShapes := by unfold State.settle State.each; simp [List.range, List.range.loop]
@[simp] theorem State.deliver_gates (c : Nat) : (s.deliver c).gates = s.gates := by unfold State.deliver; dsimp only; (repeat' split) <;> rfl
@[simp] theorem State.settle_gates : s.settle.gates = s.gates := by unfold State.settle State.each; simp [List.range, List.range.loop]
@[simp] theorem State.deliver_gateCopy (c : Nat) : (s.deliver c).gateCopy = s.gateCopy := by unfold State.deliver; dsimp only; (repeat' split) <;> rfl
@[simp] theorem State.settle_gateCopy : s.settle.gateCopy = s.gateCopy := by unfold State.settle State.each; simp [List.range, List.range.loop]
@[simp] theorem State.deliver_gwq (c : Nat) : (s.deliver c).gwq = s.gwq := by unfold State.deliver; dsimp only; (repeat' split) <;> rfl
@[simp] theorem State.settle_gwq : s.settle.gwq = s.gwq := by unfold State.settle State.each; simp [List.range, List.range.loop]
@[simp] theorem State.deliver_watch (c : Nat) : (s.deliver c).watch = s.watch := by unfold State.deliver; dsimp only; (repeat' split) <;> rfl
@[simp] theorem State.settle_watch : s.settle.watch = s.watch := by unfold State.settle State.each; simp [List.range, List.range.loop]
@[simp] theorem State.deliver_samples (c : Nat) : (s.deliver c).samples = s.samples := by unfold State.deliver; dsimp only; (repeat' split) <;> rfl
@[simp] theorem State.settle_samples : s.settle.samples = s.samples := by unfold State.settle State.each; simp [List.range, List.range.loop]
@[simp] theorem State.deliver_smpSeq (c : Nat) : (s.deliver c).smpSeq = s.smpSeq := by unfold State.deliver; dsimp only; (repeat' split) <;> rfl
@[simp] theorem State.settle_smpSeq : s.settle.smpSeq = s.smpSeq := by unfold State.settle State.each; simp [List.range, List.range.loop]
@[simp] theorem State.deliver_smpSkipped (c : Nat) : (s.deliver c).smpSkipped = s.smpSkipped := by unfold State.deliver; dsimp only; (repeat' split) <;> rfl
@[simp] theorem State.settle_smpSkipped : s.settle.smpSkipped = s.smpSkipped := by unfold State.settle State.each; simp [List.range, List.range.loop]
@[simp] theorem State.deliver_smpAt (c : Nat) : (s.deliver c).smpAt = s.smpAt := by unfold State.deliver; dsimp only; (repeat' split) <;> rfl
@[simp] theorem State.settle_smpAt : s.settle.smpAt = s.smpAt := by unfold State.settle State.each; simp [List.range, List.range.loop]
@[simp] theorem State.deliver_smpUntil (c : Nat) : (s.deliver c).smpUntil = s.smpUntil := by unfold State.deliver; dsimp only; (repeat' split) <;> rfl
@[simp] theorem State.settle_smpUntil : s.settle.smpUntil = s.smpUntil := by unfold State.settle State.each; simp [List.range, List.range.loop]
@[simp] theorem State.deliver_smpRun (c : Nat) : (s.deliver c).smpRun = s.smpRun := by unfold State.deliver; dsimp only; (repeat' split) <;> rfl
@[simp] theorem State.settle_smpRun : s.settle.smpRun = s.smpRun := by unfold State.settle State.each; simp [List.range, List.range.loop]
@[simp] theorem State.deliver_tabs (c : Nat) : (s.deliver c).tabs = s.tabs := by unfold State.deliver; dsimp only; (repeat' split) <;> rfl
@[simp] theorem State.settle_tabs : s.settle.tabs = s.tabs := by unfold State.settle State.each; simp [List.range, List.range.loop]
@[simp] theorem State.deliver_learnq (c : Nat) : (s.deliver c).learnq = s.learnq := by unfold State.deliver; dsimp only; (repeat' split) <;> rfl
@[simp] theorem State.settle_learnq : s.settle.learnq = s.learnq := by unfold State.settle State.each; simp [List.range, List.range.loop]
@[simp] theorem State.deliver_crossing (c : Nat) : (s.deliver c).crossing = s.crossing := by unfold State.deliver; dsimp only; (repeat' split) <;> rfl
@[simp] theorem State.settle_crossing : s.settle.crossing = s.crossing := by unfold State.settle State.each; simp [List.range, List.range.loop]
@[simp] theorem State.deliver_learnAt (c : Nat) : (s.deliver c).learnAt = s.learnAt := by unfold State.deliver; dsimp only; (repeat' split) <;> rfl
@[simp] theorem State.settle_learnAt : s.settle.learnAt = s.learnAt := by unfold State.settle State.each; simp [List.range, List.range.loop]
@[simp] theorem State.deliver_moves (c : Nat) : (s.deliver c).moves = s.moves := by unfold State.deliver; dsimp only; (repeat' split) <;> rfl
@[simp] theorem State.settle_moves : s.settle.moves = s.moves := by unfold State.settle State.each; simp [List.range, List.range.loop]
@[simp] theorem State.deliver_hits (c : Nat) : (s.deliver c).hits = s.hits := by unfold State.deliver; dsimp only; (repeat' split) <;> rfl
@[simp] theorem State.settle_hits : s.settle.hits = s.hits := by unfold State.settle State.each; simp [List.range, List.range.loop]
@[simp] theorem State.deliver_winOps (c : Nat) : (s.deliver c).winOps = s.winOps := by unfold State.deliver; dsimp only; (repeat' split) <;> rfl
@[simp] theorem State.settle_winOps : s.settle.winOps = s.winOps := by unfold State.settle State.each; simp [List.range, List.range.loop]
@[simp] theorem State.deliver_shadows (c : Nat) : (s.deliver c).shadows = s.shadows := by unfold State.deliver; dsimp only; (repeat' split) <;> rfl
@[simp] theorem State.settle_shadows : s.settle.shadows = s.shadows := by unfold State.settle State.each; simp [List.range, List.range.loop]
@[simp] theorem State.deliver_slotNext (c : Nat) : (s.deliver c).slotNext = s.slotNext := by unfold State.deliver; dsimp only; (repeat' split) <;> rfl
@[simp] theorem State.settle_slotNext : s.settle.slotNext = s.slotNext := by unfold State.settle State.each; simp [List.range, List.range.loop]
@[simp] theorem State.deliver_slotFirst (c : Nat) : (s.deliver c).slotFirst = s.slotFirst := by unfold State.deliver; dsimp only; (repeat' split) <;> rfl
@[simp] theorem State.settle_slotFirst : s.settle.slotFirst = s.slotFirst := by unfold State.settle State.each; simp [List.range, List.range.loop]
@[simp] theorem State.deliver_lanes (c : Nat) : (s.deliver c).lanes = s.lanes := by unfold State.deliver; dsimp only; (repeat' split) <;> rfl
@[simp] theorem State.settle_lanes : s.settle.lanes = s.lanes := by unfold State.settle State.each; simp [List.range, List.range.loop]
@[simp] theorem State.deliver_trunks (c : Nat) : (s.deliver c).trunks = s.trunks := by unfold State.deliver; dsimp only; (repeat' split) <;> rfl
@[simp] theorem State.settle_trunks : s.settle.trunks = s.trunks := by unfold State.settle State.each; simp [List.range, List.range.loop]
@[simp] theorem State.deliver_ntTimes (c : Nat) : (s.deliver c).ntTimes = s.ntTimes := by unfold State.deliver; dsimp only; (repeat' split) <;> rfl
@[simp] theorem State.settle_ntTimes : s.settle.ntTimes = s.ntTimes := by unfold State.settle State.each; simp [List.range, List.range.loop]
@[simp] theorem State.deliver_cadTab (c : Nat) : (s.deliver c).cadTab = s.cadTab := by unfold State.deliver; dsimp only; (repeat' split) <;> rfl
@[simp] theorem State.settle_cadTab : s.settle.cadTab = s.cadTab := by unfold State.settle State.each; simp [List.range, List.range.loop]
@[simp] theorem State.deliver_cadSrc (c : Nat) : (s.deliver c).cadSrc = s.cadSrc := by unfold State.deliver; dsimp only; (repeat' split) <;> rfl
@[simp] theorem State.settle_cadSrc : s.settle.cadSrc = s.cadSrc := by unfold State.settle State.each; simp [List.range, List.range.loop]
@[simp] theorem State.deliver_cadFrom (c : Nat) : (s.deliver c).cadFrom = s.cadFrom := by unfold State.deliver; dsimp only; (repeat' split) <;> rfl
@[simp] theorem State.settle_cadFrom : s.settle.cadFrom = s.cadFrom := by unfold State.settle State.each; simp [List.range, List.range.loop]
@[simp] theorem State.deliver_cadOld (c : Nat) : (s.deliver c).cadOld = s.cadOld := by unfold State.deliver; dsimp only; (repeat' split) <;> rfl
@[simp] theorem State.settle_cadOld : s.settle.cadOld = s.cadOld := by unfold State.settle State.each; simp [List.range, List.range.loop]
@[simp] theorem State.deliver_cadRcs (c : Nat) : (s.deliver c).cadRcs = s.cadRcs := by unfold State.deliver; dsimp only; (repeat' split) <;> rfl
@[simp] theorem State.settle_cadRcs : s.settle.cadRcs = s.cadRcs := by unfold State.settle State.each; simp [List.range, List.range.loop]
@[simp] theorem State.deliver_cadErr (c : Nat) : (s.deliver c).cadErr = s.cadErr := by unfold State.deliver; dsimp only; (repeat' split) <;> rfl
@[simp] theorem State.settle_cadErr : s.settle.cadErr = s.cadErr := by unfold State.settle State.each; simp [List.range, List.range.loop]
@[simp] theorem State.deliver_gwTpl (c : Nat) : (s.deliver c).gwTpl = s.gwTpl := by unfold State.deliver; dsimp only; (repeat' split) <;> rfl
@[simp] theorem State.settle_gwTpl : s.settle.gwTpl = s.gwTpl := by unfold State.settle State.each; simp [List.range, List.range.loop]
@[simp] theorem State.deliver_gwWin (c : Nat) : (s.deliver c).gwWin = s.gwWin := by unfold State.deliver; dsimp only; (repeat' split) <;> rfl
@[simp] theorem State.settle_gwWin : s.settle.gwWin = s.gwWin := by unfold State.settle State.each; simp [List.range, List.range.loop]
@[simp] theorem State.deliver_gwCnt (c : Nat) : (s.deliver c).gwCnt = s.gwCnt := by unfold State.deliver; dsimp only; (repeat' split) <;> rfl
@[simp] theorem State.settle_gwCnt : s.settle.gwCnt = s.gwCnt := by unfold State.settle State.each; simp [List.range, List.range.loop]
@[simp] theorem State.deliver_wear (c : Nat) : (s.deliver c).wear = s.wear := by unfold State.deliver; dsimp only; (repeat' split) <;> rfl
@[simp] theorem State.settle_wear : s.settle.wear = s.wear := by unfold State.settle State.each; simp [List.range, List.range.loop]
@[simp] theorem State.deliver_swaps (c : Nat) : (s.deliver c).swaps = s.swaps := by unfold State.deliver; dsimp only; (repeat' split) <;> rfl
@[simp] theorem State.settle_swaps : s.settle.swaps = s.swaps := by unfold State.settle State.each; simp [List.range, List.range.loop]
@[simp] theorem State.deliver_swapNext (c : Nat) : (s.deliver c).swapNext = s.swapNext := by unfold State.deliver; dsimp only; (repeat' split) <;> rfl
@[simp] theorem State.settle_swapNext : s.settle.swapNext = s.swapNext := by unfold State.settle State.each; simp [List.range, List.range.loop]
@[simp] theorem State.deliver_caveRead (c : Nat) : (s.deliver c).caveRead = s.caveRead := by unfold State.deliver; dsimp only; (repeat' split) <;> rfl
@[simp] theorem State.settle_caveRead : s.settle.caveRead = s.caveRead := by unfold State.settle State.each; simp [List.range, List.range.loop]
@[simp] theorem State.deliver_swapWait (c : Nat) : (s.deliver c).swapWait = s.swapWait := by unfold State.deliver; dsimp only; (repeat' split) <;> rfl
@[simp] theorem State.settle_swapWait : s.settle.swapWait = s.swapWait := by unfold State.settle State.each; simp [List.range, List.range.loop]
@[simp] theorem State.deliver_rowMap (c : Nat) : (s.deliver c).rowMap = s.rowMap := by unfold State.deliver; dsimp only; (repeat' split) <;> rfl
@[simp] theorem State.settle_rowMap : s.settle.rowMap = s.rowMap := by unfold State.settle State.each; simp [List.range, List.range.loop]
@[simp] theorem State.deliver_image (c : Nat) : (s.deliver c).image = s.image := by unfold State.deliver; dsimp only; (repeat' split) <;> rfl
@[simp] theorem State.settle_image : s.settle.image = s.image := by unfold State.settle State.each; simp [List.range, List.range.loop]
@[simp] theorem State.deliver_applied (c : Nat) : (s.deliver c).applied = s.applied := by unfold State.deliver; dsimp only; (repeat' split) <;> rfl
@[simp] theorem State.settle_applied : s.settle.applied = s.applied := by unfold State.settle State.each; simp [List.range, List.range.loop]
@[simp] theorem State.deliver_perfs (c : Nat) : (s.deliver c).perfs = s.perfs := by unfold State.deliver; dsimp only; (repeat' split) <;> rfl
@[simp] theorem State.settle_perfs : s.settle.perfs = s.perfs := by unfold State.settle State.each; simp [List.range, List.range.loop]
@[simp] theorem State.deliver_slotUse (c : Nat) : (s.deliver c).slotUse = s.slotUse := by unfold State.deliver; dsimp only; (repeat' split) <;> rfl
@[simp] theorem State.settle_slotUse : s.settle.slotUse = s.slotUse := by unfold State.settle State.each; simp [List.range, List.range.loop]
@[simp] theorem State.deliver_events (c : Nat) : (s.deliver c).events = s.events := by unfold State.deliver; dsimp only; (repeat' split) <;> rfl
@[simp] theorem State.settle_events : s.settle.events = s.events := by unfold State.settle State.each; simp [List.range, List.range.loop]
@[simp] theorem State.deliver_slotSeen (c : Nat) : (s.deliver c).slotSeen = s.slotSeen := by unfold State.deliver; dsimp only; (repeat' split) <;> rfl
@[simp] theorem State.settle_slotSeen : s.settle.slotSeen = s.slotSeen := by unfold State.settle State.each; simp [List.range, List.range.loop]
@[simp] theorem State.deliver_resetCauses (c : Nat) : (s.deliver c).resetCauses = s.resetCauses := by unfold State.deliver; dsimp only; (repeat' split) <;> rfl
@[simp] theorem State.settle_resetCauses : s.settle.resetCauses = s.resetCauses := by unfold State.settle State.each; simp [List.range, List.range.loop]
@[simp] theorem State.deliver_sagSupply (c : Nat) : (s.deliver c).sagSupply = s.sagSupply := by unfold State.deliver; dsimp only; (repeat' split) <;> rfl
@[simp] theorem State.settle_sagSupply : s.settle.sagSupply = s.sagSupply := by unfold State.settle State.each; simp [List.range, List.range.loop]
@[simp] theorem State.deliver_porstLow (c : Nat) : (s.deliver c).porstLow = s.porstLow := by unfold State.deliver; dsimp only; (repeat' split) <;> rfl
@[simp] theorem State.settle_porstLow : s.settle.porstLow = s.porstLow := by unfold State.settle State.each; simp [List.range, List.range.loop]
@[simp] theorem State.deliver_outsAt (c : Nat) : (s.deliver c).outsAt = s.outsAt := by unfold State.deliver; dsimp only; (repeat' split) <;> rfl
@[simp] theorem State.settle_outsAt : s.settle.outsAt = s.outsAt := by unfold State.settle State.each; simp [List.range, List.range.loop]
@[simp] theorem State.deliver_tapIr (c : Nat) : (s.deliver c).tapIr = s.tapIr := by unfold State.deliver; dsimp only; (repeat' split) <;> rfl
@[simp] theorem State.settle_tapIr : s.settle.tapIr = s.tapIr := by unfold State.settle State.each; simp [List.range, List.range.loop]
@[simp] theorem State.deliver_bsr (c : Nat) : (s.deliver c).bsr = s.bsr := by unfold State.deliver; dsimp only; (repeat' split) <;> rfl
@[simp] theorem State.settle_bsr : s.settle.bsr = s.bsr := by unfold State.settle State.each; simp [List.range, List.range.loop]
@[simp] theorem State.deliver_thermalHold (c : Nat) : (s.deliver c).thermalHold = s.thermalHold := by unfold State.deliver; dsimp only; (repeat' split) <;> rfl
@[simp] theorem State.settle_thermalHold : s.settle.thermalHold = s.thermalHold := by unfold State.settle State.each; simp [List.range, List.range.loop]
@[simp] theorem State.deliver_coolAt (c : Nat) : (s.deliver c).coolAt = s.coolAt := by unfold State.deliver; dsimp only; (repeat' split) <;> rfl
@[simp] theorem State.settle_coolAt : s.settle.coolAt = s.coolAt := by unfold State.settle State.each; simp [List.range, List.range.loop]
@[simp] theorem State.deliver_hot (c : Nat) : (s.deliver c).hot = s.hot := by unfold State.deliver; dsimp only; (repeat' split) <;> rfl
@[simp] theorem State.settle_hot : s.settle.hot = s.hot := by unfold State.settle State.each; simp [List.range, List.range.loop]
@[simp] theorem State.deliver_wiping (c : Nat) : (s.deliver c).wiping = s.wiping := by unfold State.deliver; dsimp only; (repeat' split) <;> rfl
@[simp] theorem State.settle_wiping : s.settle.wiping = s.wiping := by unfold State.settle State.each; simp [List.range, List.range.loop]
@[simp] theorem State.deliver_startWait (c : Nat) : (s.deliver c).startWait = s.startWait := by unfold State.deliver; dsimp only; (repeat' split) <;> rfl
@[simp] theorem State.settle_startWait : s.settle.startWait = s.startWait := by unfold State.settle State.each; simp [List.range, List.range.loop]
@[simp] theorem State.deliver_onAtReset (c : Nat) : (s.deliver c).onAtReset = s.onAtReset := by unfold State.deliver; dsimp only; (repeat' split) <;> rfl
@[simp] theorem State.settle_onAtReset : s.settle.onAtReset = s.onAtReset := by unfold State.settle State.each; simp [List.range, List.range.loop]
@[simp] theorem State.deliver_releasedAt (c : Nat) : (s.deliver c).releasedAt = s.releasedAt := by unfold State.deliver; dsimp only; (repeat' split) <;> rfl
@[simp] theorem State.settle_releasedAt : s.settle.releasedAt = s.releasedAt := by unfold State.settle State.each; simp [List.range, List.range.loop]
@[simp] theorem State.deliver_serial (c : Nat) : (s.deliver c).serial = s.serial := by unfold State.deliver; dsimp only; (repeat' split) <;> rfl
@[simp] theorem State.settle_serial : s.settle.serial = s.serial := by unfold State.settle State.each; simp [List.range, List.range.loop]
@[simp] theorem State.deliver_lifeCycle (c : Nat) : (s.deliver c).lifeCycle = s.lifeCycle := by unfold State.deliver; dsimp only; (repeat' split) <;> rfl
@[simp] theorem State.settle_lifeCycle : s.settle.lifeCycle = s.lifeCycle := by unfold State.settle State.each; simp [List.range, List.range.loop]
@[simp] theorem State.deliver_keyHash (c : Nat) : (s.deliver c).keyHash = s.keyHash := by unfold State.deliver; dsimp only; (repeat' split) <;> rfl
@[simp] theorem State.settle_keyHash : s.settle.keyHash = s.keyHash := by unfold State.settle State.each; simp [List.range, List.range.loop]
@[simp] theorem State.deliver_otp (c : Nat) : (s.deliver c).otp = s.otp := by unfold State.deliver; dsimp only; (repeat' split) <;> rfl
@[simp] theorem State.settle_otp : s.settle.otp = s.otp := by unfold State.settle State.each; simp [List.range, List.range.loop]
@[simp] theorem State.deliver_otpProg (c : Nat) : (s.deliver c).otpProg = s.otpProg := by unfold State.deliver; dsimp only; (repeat' split) <;> rfl
@[simp] theorem State.settle_otpProg : s.settle.otpProg = s.otpProg := by unfold State.settle State.each; simp [List.range, List.range.loop]
@[simp] theorem State.deliver_lifeProg (c : Nat) : (s.deliver c).lifeProg = s.lifeProg := by unfold State.deliver; dsimp only; (repeat' split) <;> rfl
@[simp] theorem State.settle_lifeProg : s.settle.lifeProg = s.lifeProg := by unfold State.settle State.each; simp [List.range, List.range.loop]
@[simp] theorem State.deliver_bootNext (c : Nat) : (s.deliver c).bootNext = s.bootNext := by unfold State.deliver; dsimp only; (repeat' split) <;> rfl
@[simp] theorem State.settle_bootNext : s.settle.bootNext = s.bootNext := by unfold State.settle State.each; simp [List.range, List.range.loop]
@[simp] theorem State.deliver_bootTcu (c : Nat) : (s.deliver c).bootTcu = s.bootTcu := by unfold State.deliver; dsimp only; (repeat' split) <;> rfl
@[simp] theorem State.settle_bootTcu : s.settle.bootTcu = s.bootTcu := by unfold State.settle State.each; simp [List.range, List.range.loop]
@[simp] theorem State.deliver_booted (c : Nat) : (s.deliver c).booted = s.booted := by unfold State.deliver; dsimp only; (repeat' split) <;> rfl
@[simp] theorem State.settle_booted : s.settle.booted = s.booted := by unfold State.settle State.each; simp [List.range, List.range.loop]
@[simp] theorem State.deliver_pushLen (c : Nat) : (s.deliver c).pushLen = s.pushLen := by unfold State.deliver; dsimp only; (repeat' split) <;> rfl
@[simp] theorem State.settle_pushLen : s.settle.pushLen = s.pushLen := by unfold State.settle State.each; simp [List.range, List.range.loop]
@[simp] theorem State.deliver_pushed (c : Nat) : (s.deliver c).pushed = s.pushed := by unfold State.deliver; dsimp only; (repeat' split) <;> rfl
@[simp] theorem State.settle_pushed : s.settle.pushed = s.pushed := by unfold State.settle State.each; simp [List.range, List.range.loop]
@[simp] theorem State.deliver_perstHigh (c : Nat) : (s.deliver c).perstHigh = s.perstHigh := by unfold State.deliver; dsimp only; (repeat' split) <;> rfl
@[simp] theorem State.settle_perstHigh : s.settle.perstHigh = s.perstHigh := by unfold State.settle State.each; simp [List.range, List.range.loop]
end

end Sys2Proof.Machine
end

