-- ==== Sys2Proof/Laws/Records.lean ====
section
/-! SUPPORT. Reading a record after an update of it, of another one or of the registers; reads at the end of a command. -/

namespace Sys2Proof.Machine

open Sys2Proof

@[simp] theorem State.host_onHost_same (s : State) (c : Nat) (f : HostCtx → HostCtx) : (s.onHost c f).host c = f (s.host c) := look_upd_same _ _ _ _
theorem State.host_onHost_ne (s : State) (a c : Nat) (f : HostCtx → HostCtx) (h : a ≠ c) : (s.onHost c f).host a = s.host a := look_upd_ne _ _ _ h
@[simp] theorem State.host_wrI (s : State) (q : Nat) (f : Fld) (i v a : Nat) : (s.wrI q f i v).host a = s.host a := rfl
@[simp] theorem State.host_wr (s : State) (q : Nat) (f : Fld) (v a : Nat) : (s.wr q f v).host a = s.host a := rfl

@[simp] theorem State.tcu_onTcu_same (s : State) (t : Nat) (f : Tcu → Tcu) : (s.onTcu t f).tcu t = f (s.tcu t) := look_upd_same _ _ _ _
theorem State.tcu_onTcu_ne (s : State) (a t : Nat) (f : Tcu → Tcu) (h : a ≠ t) : (s.onTcu t f).tcu a = s.tcu a := look_upd_ne _ _ _ h
@[simp] theorem State.tcu_wrI (s : State) (q : Nat) (f : Fld) (i v a : Nat) : (s.wrI q f i v).tcu a = s.tcu a := rfl
@[simp] theorem State.tcu_wr (s : State) (q : Nat) (f : Fld) (v a : Nat) : (s.wr q f v).tcu a = s.tcu a := rfl
@[simp] theorem State.tcu_raise (s : State) (q b a : Nat) : (s.raise q b).tcu a = s.tcu a := by unfold State.tcu; simp
@[simp] theorem State.tcu_settle (s : State) (a : Nat) : s.settle.tcu a = s.tcu a := by unfold State.tcu; simp

@[simp] theorem State.eng_onEng_same (s : State) (e : Nat) (f : Engine → Engine) : (s.onEng e f).eng e = f (s.eng e) := look_upd_same _ _ _ _
theorem State.eng_onEng_ne (s : State) (a e : Nat) (f : Engine → Engine) (h : a ≠ e) : (s.onEng e f).eng a = s.eng a := look_upd_ne _ _ _ h
@[simp] theorem State.eng_wrI (s : State) (q : Nat) (f : Fld) (i v a : Nat) : (s.wrI q f i v).eng a = s.eng a := rfl
@[simp] theorem State.eng_wr (s : State) (q : Nat) (f : Fld) (v a : Nat) : (s.wr q f v).eng a = s.eng a := rfl
@[simp] theorem State.eng_raise (s : State) (q b a : Nat) : (s.raise q b).eng a = s.eng a := by unfold State.eng; simp
@[simp] theorem State.eng_settle (s : State) (a : Nat) : s.settle.eng a = s.eng a := by unfold State.eng; simp

@[simp] theorem State.mac_onMac_same (s : State) (p : Nat) (f : Mac → Mac) : (s.onMac p f).mac p = f (s.mac p) := look_upd_same _ _ _ _
theorem State.mac_onMac_ne (s : State) (a p : Nat) (f : Mac → Mac) (h : a ≠ p) : (s.onMac p f).mac a = s.mac a := look_upd_ne _ _ _ h
@[simp] theorem State.mac_wrI (s : State) (q : Nat) (f : Fld) (i v a : Nat) : (s.wrI q f i v).mac a = s.mac a := rfl
@[simp] theorem State.mac_wr (s : State) (q : Nat) (f : Fld) (v a : Nat) : (s.wr q f v).mac a = s.mac a := rfl
@[simp] theorem State.mac_raise (s : State) (q b a : Nat) : (s.raise q b).mac a = s.mac a := by unfold State.mac; simp
@[simp] theorem State.mac_settle (s : State) (a : Nat) : s.settle.mac a = s.mac a := by unfold State.mac; simp

@[simp] theorem State.tx_onTx_same (s : State) (p : Nat) (f : Tx → Tx) : (s.onTx p f).tx p = f (s.tx p) := look_upd_same _ _ _ _
theorem State.tx_onTx_ne (s : State) (a p : Nat) (f : Tx → Tx) (h : a ≠ p) : (s.onTx p f).tx a = s.tx a := look_upd_ne _ _ _ h
@[simp] theorem State.tx_wrI (s : State) (q : Nat) (f : Fld) (i v a : Nat) : (s.wrI q f i v).tx a = s.tx a := rfl
@[simp] theorem State.tx_wr (s : State) (q : Nat) (f : Fld) (v a : Nat) : (s.wr q f v).tx a = s.tx a := rfl
@[simp] theorem State.tx_raise (s : State) (q b a : Nat) : (s.raise q b).tx a = s.tx a := by unfold State.tx; simp
@[simp] theorem State.tx_settle (s : State) (a : Nat) : s.settle.tx a = s.tx a := by unfold State.tx; simp

@[simp] theorem State.voq_onVoq_same (s : State) (v : Nat) (f : Voq → Voq) : (s.onVoq v f).voq v = f (s.voq v) := look_upd_same _ _ _ _
theorem State.voq_onVoq_ne (s : State) (a v : Nat) (f : Voq → Voq) (h : a ≠ v) : (s.onVoq v f).voq a = s.voq a := look_upd_ne _ _ _ h
@[simp] theorem State.voq_wrI (s : State) (q : Nat) (f : Fld) (i v a : Nat) : (s.wrI q f i v).voq a = s.voq a := rfl
@[simp] theorem State.voq_wr (s : State) (q : Nat) (f : Fld) (v a : Nat) : (s.wr q f v).voq a = s.voq a := rfl
@[simp] theorem State.voq_raise (s : State) (q b a : Nat) : (s.raise q b).voq a = s.voq a := by unfold State.voq; simp
@[simp] theorem State.voq_settle (s : State) (a : Nat) : s.settle.voq a = s.voq a := by unfold State.voq; simp

@[simp] theorem State.gate_onGate_same (s : State) (p : Nat) (f : Gate → Gate) : (s.onGate p f).gate p = f (s.gate p) := look_upd_same _ _ _ _
theorem State.gate_onGate_ne (s : State) (a p : Nat) (f : Gate → Gate) (h : a ≠ p) : (s.onGate p f).gate a = s.gate a := look_upd_ne _ _ _ h
@[simp] theorem State.gate_wrI (s : State) (q : Nat) (f : Fld) (i v a : Nat) : (s.wrI q f i v).gate a = s.gate a := rfl
@[simp] theorem State.gate_wr (s : State) (q : Nat) (f : Fld) (v a : Nat) : (s.wr q f v).gate a = s.gate a := rfl
@[simp] theorem State.gate_raise (s : State) (q b a : Nat) : (s.raise q b).gate a = s.gate a := by unfold State.gate; simp
@[simp] theorem State.gate_settle (s : State) (a : Nat) : s.settle.gate a = s.gate a := by unfold State.gate; simp

@[simp] theorem State.node_onNode_same (s : State) (n : Nat) (f : Node → Node) : (s.onNode n f).node n = f (s.node n) := look_upd_same _ _ _ _
theorem State.node_onNode_ne (s : State) (a n : Nat) (f : Node → Node) (h : a ≠ n) : (s.onNode n f).node a = s.node a := look_upd_ne _ _ _ h
@[simp] theorem State.node_wrI (s : State) (q : Nat) (f : Fld) (i v a : Nat) : (s.wrI q f i v).node a = s.node a := rfl
@[simp] theorem State.node_wr (s : State) (q : Nat) (f : Fld) (v a : Nat) : (s.wr q f v).node a = s.node a := rfl
@[simp] theorem State.node_raise (s : State) (q b a : Nat) : (s.raise q b).node a = s.node a := by unfold State.node; simp
@[simp] theorem State.node_settle (s : State) (a : Nat) : s.settle.node a = s.node a := by unfold State.node; simp

@[simp] theorem State.lane_onLane_same (s : State) (p : Nat) (f : Lane → Lane) : (s.onLane p f).lane p = f (s.lane p) := look_upd_same _ _ _ _
theorem State.lane_onLane_ne (s : State) (a p : Nat) (f : Lane → Lane) (h : a ≠ p) : (s.onLane p f).lane a = s.lane a := look_upd_ne _ _ _ h
@[simp] theorem State.lane_wrI (s : State) (q : Nat) (f : Fld) (i v a : Nat) : (s.wrI q f i v).lane a = s.lane a := rfl
@[simp] theorem State.lane_wr (s : State) (q : Nat) (f : Fld) (v a : Nat) : (s.wr q f v).lane a = s.lane a := rfl
@[simp] theorem State.lane_raise (s : State) (q b a : Nat) : (s.raise q b).lane a = s.lane a := by unfold State.lane; simp
@[simp] theorem State.lane_settle (s : State) (a : Nat) : s.settle.lane a = s.lane a := by unfold State.lane; simp

@[simp] theorem State.trunk_onTrunk_same (s : State) (n : Nat) (f : Trunk → Trunk) : (s.onTrunk n f).trunk n = f (s.trunk n) := look_upd_same _ _ _ _
theorem State.trunk_onTrunk_ne (s : State) (a n : Nat) (f : Trunk → Trunk) (h : a ≠ n) : (s.onTrunk n f).trunk a = s.trunk a := look_upd_ne _ _ _ h
@[simp] theorem State.trunk_wrI (s : State) (q : Nat) (f : Fld) (i v a : Nat) : (s.wrI q f i v).trunk a = s.trunk a := rfl
@[simp] theorem State.trunk_wr (s : State) (q : Nat) (f : Fld) (v a : Nat) : (s.wr q f v).trunk a = s.trunk a := rfl
@[simp] theorem State.trunk_raise (s : State) (q b a : Nat) : (s.raise q b).trunk a = s.trunk a := by unfold State.trunk; simp
@[simp] theorem State.trunk_settle (s : State) (a : Nat) : s.settle.trunk a = s.trunk a := by unfold State.trunk; simp

@[simp] theorem State.perf_onPerf_same (s : State) (n : Nat) (f : Perf → Perf) : (s.onPerf n f).perf n = f (s.perf n) := look_upd_same _ _ _ _
theorem State.perf_onPerf_ne (s : State) (a n : Nat) (f : Perf → Perf) (h : a ≠ n) : (s.onPerf n f).perf a = s.perf a := look_upd_ne _ _ _ h
@[simp] theorem State.perf_wrI (s : State) (q : Nat) (f : Fld) (i v a : Nat) : (s.wrI q f i v).perf a = s.perf a := rfl
@[simp] theorem State.perf_wr (s : State) (q : Nat) (f : Fld) (v a : Nat) : (s.wr q f v).perf a = s.perf a := rfl
@[simp] theorem State.perf_raise (s : State) (q b a : Nat) : (s.raise q b).perf a = s.perf a := by unfold State.perf; simp
@[simp] theorem State.perf_settle (s : State) (a : Nat) : s.settle.perf a = s.perf a := by unfold State.perf; simp

@[simp] theorem State.swapRec_onSwap_same (s : State) (i : Nat) (f : SwapRec → SwapRec) : (s.onSwap i f).swapRec i = f (s.swapRec i) := look_upd_same _ _ _ _
theorem State.swapRec_onSwap_ne (s : State) (a i : Nat) (f : SwapRec → SwapRec) (h : a ≠ i) : (s.onSwap i f).swapRec a = s.swapRec a := look_upd_ne _ _ _ h
@[simp] theorem State.swapRec_wrI (s : State) (q : Nat) (f : Fld) (i v a : Nat) : (s.wrI q f i v).swapRec a = s.swapRec a := rfl
@[simp] theorem State.swapRec_wr (s : State) (q : Nat) (f : Fld) (v a : Nat) : (s.wr q f v).swapRec a = s.swapRec a := rfl
@[simp] theorem State.swapRec_raise (s : State) (q b a : Nat) : (s.raise q b).swapRec a = s.swapRec a := by unfold State.swapRec; simp
@[simp] theorem State.swapRec_settle (s : State) (a : Nat) : s.settle.swapRec a = s.swapRec a := by unfold State.swapRec; simp

@[simp] theorem State.frame_setFrame_same (s : State) (f : Nat) (x : Frame) : (s.setFrame f x).frame f = x := look_put_same _ _ _ _
theorem State.frame_setFrame_ne (s : State) (a f : Nat) (x : Frame) (h : a ≠ f) : (s.setFrame f x).frame a = s.frame a := look_put_ne _ _ _ h
@[simp] theorem State.frame_wrI (s : State) (q : Nat) (f : Fld) (i v a : Nat) : (s.wrI q f i v).frame a = s.frame a := rfl
@[simp] theorem State.frame_settle (s : State) (a : Nat) : s.settle.frame a = s.frame a := by unfold State.frame; simp

/-! ### Registers -/

@[simp] theorem State.rdI_settle (s : State) (p : Nat) (f : Fld) (i : Nat) : s.settle.rdI p f i = s.rdI p f i := State.rdI_congr (by simp) p f i
@[simp] theorem State.rd_settle (s : State) (p : Nat) (f : Fld) : s.settle.rd p f = s.rd p f := State.rd_congr (by simp) p f
@[simp] theorem State.flag_settle (s : State) (p : Nat) (f : Fld) : s.settle.flag p f = s.flag p f := State.flag_congr (by simp) p f
@[simp] theorem State.pwr_settle (s : State) (d : Nat) : s.settle.pwr d = s.pwr d := by unfold State.pwr; simp
@[simp] theorem State.attached_settle (s : State) (c : Nat) : s.settle.attached c = s.attached c := by unfold State.attached; simp

@[simp] theorem State.rdI_onHost (s : State) (c : Nat) (h : HostCtx → HostCtx) (p : Nat) (f : Fld) (i : Nat) : (s.onHost c h).rdI p f i = s.rdI p f i := rfl
@[simp] theorem State.rd_onHost (s : State) (c : Nat) (h : HostCtx → HostCtx) (p : Nat) (f : Fld) : (s.onHost c h).rd p f = s.rd p f := rfl
@[simp] theorem State.rdI_onTcu (s : State) (t : Nat) (h : Tcu → Tcu) (p : Nat) (f : Fld) (i : Nat) : (s.onTcu t h).rdI p f i = s.rdI p f i := rfl
@[simp] theorem State.rd_onTcu (s : State) (t : Nat) (h : Tcu → Tcu) (p : Nat) (f : Fld) : (s.onTcu t h).rd p f = s.rd p f := rfl
@[simp] theorem State.rdI_onEng (s : State) (e : Nat) (h : Engine → Engine) (p : Nat) (f : Fld) (i : Nat) : (s.onEng e h).rdI p f i = s.rdI p f i := rfl
@[simp] theorem State.rd_onEng (s : State) (e : Nat) (h : Engine → Engine) (p : Nat) (f : Fld) : (s.onEng e h).rd p f = s.rd p f := rfl
@[simp] theorem State.rdI_emit (s : State) (o : Out) (p : Nat) (f : Fld) (i : Nat) : (s.emit o).rdI p f i = s.rdI p f i := rfl
@[simp] theorem State.rd_emit (s : State) (o : Out) (p : Nat) (f : Fld) : (s.emit o).rd p f = s.rd p f := rfl
@[simp] theorem State.rdI_bump (s : State)  (p : Nat) (f : Fld) (i : Nat) : (s.bump).rdI p f i = s.rdI p f i := rfl
@[simp] theorem State.rd_bump (s : State)  (p : Nat) (f : Fld) : (s.bump).rd p f = s.rd p f := rfl
@[simp] theorem State.rdI_onMac (s : State) (n : Nat) (h : Mac → Mac) (p : Nat) (f : Fld) (i : Nat) : (s.onMac n h).rdI p f i = s.rdI p f i := rfl
@[simp] theorem State.rd_onMac (s : State) (n : Nat) (h : Mac → Mac) (p : Nat) (f : Fld) : (s.onMac n h).rd p f = s.rd p f := rfl
@[simp] theorem State.rdI_setFrame (s : State) (n : Nat) (x : Frame) (p : Nat) (f : Fld) (i : Nat) : (s.setFrame n x).rdI p f i = s.rdI p f i := rfl
@[simp] theorem State.rd_setFrame (s : State) (n : Nat) (x : Frame) (p : Nat) (f : Fld) : (s.setFrame n x).rd p f = s.rd p f := rfl
@[simp] theorem State.rdI_onTx (s : State) (n : Nat) (h : Tx → Tx) (p : Nat) (f : Fld) (i : Nat) : (s.onTx n h).rdI p f i = s.rdI p f i := rfl
@[simp] theorem State.rd_onTx (s : State) (n : Nat) (h : Tx → Tx) (p : Nat) (f : Fld) : (s.onTx n h).rd p f = s.rd p f := rfl
@[simp] theorem State.rdI_onVoq (s : State) (n : Nat) (h : Voq → Voq) (p : Nat) (f : Fld) (i : Nat) : (s.onVoq n h).rdI p f i = s.rdI p f i := rfl
@[simp] theorem State.rd_onVoq (s : State) (n : Nat) (h : Voq → Voq) (p : Nat) (f : Fld) : (s.onVoq n h).rd p f = s.rd p f := rfl
@[simp] theorem State.rdI_onGate (s : State) (n : Nat) (h : Gate → Gate) (p : Nat) (f : Fld) (i : Nat) : (s.onGate n h).rdI p f i = s.rdI p f i := rfl
@[simp] theorem State.rd_onGate (s : State) (n : Nat) (h : Gate → Gate) (p : Nat) (f : Fld) : (s.onGate n h).rd p f = s.rd p f := rfl
@[simp] theorem State.rdI_onNode (s : State) (n : Nat) (h : Node → Node) (p : Nat) (f : Fld) (i : Nat) : (s.onNode n h).rdI p f i = s.rdI p f i := rfl
@[simp] theorem State.rd_onNode (s : State) (n : Nat) (h : Node → Node) (p : Nat) (f : Fld) : (s.onNode n h).rd p f = s.rd p f := rfl
@[simp] theorem State.rdI_onLane (s : State) (n : Nat) (h : Lane → Lane) (p : Nat) (f : Fld) (i : Nat) : (s.onLane n h).rdI p f i = s.rdI p f i := rfl
@[simp] theorem State.rd_onLane (s : State) (n : Nat) (h : Lane → Lane) (p : Nat) (f : Fld) : (s.onLane n h).rd p f = s.rd p f := rfl
@[simp] theorem State.rdI_onTrunk (s : State) (n : Nat) (h : Trunk → Trunk) (p : Nat) (f : Fld) (i : Nat) : (s.onTrunk n h).rdI p f i = s.rdI p f i := rfl
@[simp] theorem State.rd_onTrunk (s : State) (n : Nat) (h : Trunk → Trunk) (p : Nat) (f : Fld) : (s.onTrunk n h).rd p f = s.rd p f := rfl
@[simp] theorem State.rdI_onNt (s : State) (m n : Nat) (h : NtTime → NtTime) (p : Nat) (f : Fld) (i : Nat) : (s.onNt m n h).rdI p f i = s.rdI p f i := rfl
@[simp] theorem State.rd_onNt (s : State) (m n : Nat) (h : NtTime → NtTime) (p : Nat) (f : Fld) : (s.onNt m n h).rd p f = s.rd p f := rfl
@[simp] theorem State.rdI_onPerf (s : State) (n : Nat) (h : Perf → Perf) (p : Nat) (f : Fld) (i : Nat) : (s.onPerf n h).rdI p f i = s.rdI p f i := rfl
@[simp] theorem State.rd_onPerf (s : State) (n : Nat) (h : Perf → Perf) (p : Nat) (f : Fld) : (s.onPerf n h).rd p f = s.rd p f := rfl
@[simp] theorem State.rdI_onSwap (s : State) (n : Nat) (h : SwapRec → SwapRec) (p : Nat) (f : Fld) (i : Nat) : (s.onSwap n h).rdI p f i = s.rdI p f i := rfl
@[simp] theorem State.rd_onSwap (s : State) (n : Nat) (h : SwapRec → SwapRec) (p : Nat) (f : Fld) : (s.onSwap n h).rd p f = s.rd p f := rfl
@[simp] theorem State.rdI_onCmd (s : State) (k : Cmd) (h : Cmd → Cmd) (p : Nat) (f : Fld) (i : Nat) : (s.onCmd k h).rdI p f i = s.rdI p f i := rfl
@[simp] theorem State.rd_onCmd (s : State) (k : Cmd) (h : Cmd → Cmd) (p : Nat) (f : Fld) : (s.onCmd k h).rd p f = s.rd p f := rfl

/-- A command that ends in `done` answers a next state, the state given with its interrupts delivered. -/
theorem done_next (s : State) : done s = .next s.settle := rfl

end Sys2Proof.Machine
end

