-- ==== Sys2Proof/Laws/Host.lean ====
section
/-! SUPPORT. What an accepted host write and an accepted host read come to: one lemma each, from which a register's own effect follows. -/

namespace Sys2Proof.Machine

open Sys2Proof

theorem addrPage_reg {p off : Nat} (hp : p < 4096) (ho : off < 4096) : addrPage (regAddr p off) = p := by
  unfold addrPage regAddr; omega

theorem addrOff_reg {p off : Nat} (ho : off < 4096) (h4 : off % 4 = 0) : addrOff (regAddr p off) = off := by
  unfold addrOff regAddr; omega

theorem regAddr_mod {p off : Nat} (h4 : off % 4 = 0) : regAddr p off % 4 = 0 := by
  unfold regAddr; omega

theorem pageBlk_lt {p : Nat} {b : Blk} (h : pageBlk p = some b) : p < 4096 := by
  by_contra hn
  have : pageBlk p = none := by
    unfold pageBlk
    simp (disch := omega) only [if_neg]
  rw [this] at h; cases h

/-- The errors of a write whose fields have none. -/
theorem foldl_or_zero {α : Type} (g : α → Nat) (l : List α) (h : ∀ x ∈ l, g x = 0) : l.foldl (fun e x => e ||| g x) 0 = 0 := by
  induction l with
  | nil => rfl
  | cons x l ih => rw [List.foldl_cons, h x (by simp)]; exact ih (fun y hy => h y (by simp [hy]))

/-- The fields at a register of a page that a context may write. -/
theorem State.addrFields_reg (s : State) {p off : Nat} {b : Blk} (hb : pageBlk p = some b) (ho : off < 4096) (h4 : off % 4 = 0)
    (hn : s.noRings p = false ∨ off < 0x400) : s.addrFields (regAddr p off) = fieldsAt b off := by
  unfold State.addrFields
  rw [addrPage_reg (pageBlk_lt hb) ho, hb, addrOff_reg ho h4]
  dsimp only
  rw [if_neg]
  rintro ⟨h1, h2⟩
  rcases hn with hn | hn
  · rw [hn] at h1; cases h1
  · omega

/-- A write that breaks no rule: each field takes its value by its access type, and the register's own effect follows. -/
theorem State.write_ok (s : State) {ctx p off v : Nat} {b : Blk} (hw : s.writes ctx p) (hb : pageBlk p = some b) (ho : off < 4096)
    (h4 : off % 4 = 0) (hne4 : off ≠ 4) (h18 : off ≠ 0x018) (he : p ≠ pageEspare) (hn : s.noRings p = false ∨ off < 0x400)
    (hne : fieldsAt b off ≠ []) (hf : ∀ fi ∈ fieldsAt b off, s.fieldErr p b (v % 2 ^ 32) fi = 0) :
    s.write ctx p off v = s.regEffect ctx p off (v % 2 ^ 32) ((fieldsAt b off).foldl (fun t fi => s.fieldWrite p b (v % 2 ^ 32) fi t) s) := by
  obtain ⟨hc, hown, hon, _⟩ := hw
  have hp := pageBlk_lt hb
  have e1 : s.writeErrs ctx (regAddr p off) 4 = 0 := by
    unfold State.writeErrs State.mapErrs State.mayWrite State.pageOff
    rw [State.addrFields_reg s hb ho h4 hn, addrPage_reg hp ho, addrOff_reg ho h4, regAddr_mod h4]
    simp [hne, he, hne4, hown]
    intro h; exact absurd hon h
  have e2 : s.writeMask ctx (regAddr p off) 4 (v % 2 ^ 32) = 0 := by
    unfold State.writeMask State.fieldErrs
    rw [e1, State.addrFields_reg s hb ho h4 hn, addrPage_reg hp ho, hb, regAddr_mod h4]
    dsimp only
    rw [foldl_or_zero _ _ hf]; rfl
  unfold State.write State.hostWrite
  rw [if_pos hc]
  unfold State.checkedWrite
  dsimp only
  rw [e1, e2, State.addrFields_reg s hb ho h4 hn, addrPage_reg hp ho, addrOff_reg ho h4, hb]
  dsimp only
  rw [if_neg (by simp), if_neg h18]
  unfold State.accErr
  rw [if_pos rfl]

/-- A read that breaks no rule and is not one that returns 0: its value, and its effect. -/
theorem State.read_ok (s : State) {ctx p off : Nat} {b : Blk} (hc : s.canAccess ctx = true) (hb : pageBlk p = some b) (ho : off < 4096)
    (h4 : off % 4 = 0) (hn : s.noRings p = false ∨ off < 0x400) (hne : fieldsAt b off ≠ []) (hz : s.readsZero ctx p b off = false) :
    s.read ctx p off = ((((s.preRead p b off).postRead p b off).clearRead p (fieldsAt b off)).emit
      (.read ctx (regAddr p off) ((s.preRead p b off).wordVal p b (fieldsAt b off)))) := by
  have hp := pageBlk_lt hb
  have e1 : s.mapErrs (regAddr p off) 4 = 0 := by
    unfold State.mapErrs
    rw [State.addrFields_reg s hb ho h4 hn, regAddr_mod h4]
    simp [hne]
  unfold State.read State.hostRead
  rw [if_neg (by simp [hc])]
  unfold State.readVal
  dsimp only
  rw [e1, addrPage_reg hp ho, addrOff_reg ho h4, hb, State.addrFields_reg s hb ho h4 hn]
  dsimp only
  rw [if_neg (by simp), hz]
  rfl

/-- A page of a context that may read it does not read 0, unless it is another context's own page or holds a hidden counter. -/
theorem State.readsZero_false (s : State) {ctx p off : Nat} {b : Blk} (hr : s.reads ctx p) (hb : b ≠ .hc ∨ p = pageHC ctx)
    (hs : perfSecret b off = false) : s.readsZero ctx p b off = false := by
  obtain ⟨_, hon, hw⟩ := hr
  unfold State.readsZero State.pageOff State.windowShut
  rw [show s.pwr (pageDomain p) = 2 from hon, hs, hw]
  rcases hb with hb | hb
  · simp [hb]
  · simp [hb]

end Sys2Proof.Machine
end

