-- ==== Sys2Proof/Laws/Sealed.lean ====
section
/-! SUPPORT. What the operations and commands leave: the queue of waiting commands and what OTP holds (the serial number, the
life-cycle state, the customer key hash and the user words, R411–R415) are as before, whatever else they do. The lemmas are
generated, one per definition; the exceptions (a life-cycle advance, OTP programming, entering reset) have none. -/

open Sys2Proof Sys2Proof.Machine
namespace Sys2Proof.Machine
/-- The commands that wait, and what OTP holds: what only a step, a life-cycle advance and OTP programming change. -/
def State.sealed (s : State) : List Instr × Nat × Nat × List Nat × Store Nat := (s.pending, s.serial, s.lifeCycle, s.keyHash, s.otp)

/-- An update of the other fields leaves the sealed ones. -/
@[simp] theorem State.sealed_mk (s : State) (regs : Store Nat) (shadow : Store Nat) (commitSec : Store Nat) (free : Nat) (out : List Out) (hosts : Store HostCtx) (cmds : List Cmd) (grants : List (Nat × Nat × Nat)) (slots : Store Slot) (phase : Phase) (straps : Straps) (tcus : Store Tcu) (fw : Store Firm) (gatePins : Nat) (calHead : List Nat) (calRunning : List Nat) (switch : List (Option Nat × Nat × Nat)) (reverting : Bool) (revertAt : Nat) (judging : Bool) (up : Nat) (engines : Store Engine) (shmem : Store Word) (frames : Store Frame) (cells : Store Nat) (nextS : Nat) (nextL : Nat) (voqs : Store Voq) (txs : Store Tx) (macs : Store Mac) (pressOwn : Nat) (pressShared : Nat) (fus : Store (List Fu)) (txts : Store (List (List Nat))) (walk : Option Walk) (wheyDue : Nat) (subs : Nat) (lostCopies : Nat) (fences : List Fence) (nodes : Store Node) (shpUntil : Nat) (heldShapes : List (Nat × NodeCfg)) (gates : Store Gate) (gateCopy : Store Gate) (gwq : Store (List GwFrame)) (watch : Store Nat) (samples : List (List Nat)) (smpSeq : Nat) (smpSkipped : Nat) (smpAt : Option Nat) (smpUntil : Nat) (smpRun : Option Sweep) (tabs : Store (List Nat)) (learnq : Store (List Req)) (crossing : Store (List Req)) (learnAt : Store Nat) (moves : Store (List (Nat × Nat × Nat × Nat))) (hits : Nat × List Nat) (winOps : Store (Option WinOp)) (shadows : Store Shadow) (slotNext : Nat) (slotFirst : List Nat) (lanes : Store Lane) (trunks : Store Trunk) (ntTimes : Store NtTime) (cadTab : Store (List (Nat × List Nat))) (cadSrc : List CadSrc) (cadFrom : Nat) (cadOld : Option HoopCfg) (cadRcs : Store (List (Nat × Nat))) (cadErr : Store (List Nat)) (gwTpl : Store (List Nat)) (gwWin : Store (Option (Nat × Bool))) (gwCnt : Store (List Nat)) (wear : Store Nat) (swaps : Store SwapRec) (swapNext : Nat) (caveRead : SwapRec) (swapWait : List SwapWait) (rowMap : Store Nat) (image : Store Nat) (applied : Bool) (perfs : Store Perf) (slotUse : Store Nat) (events : Store (Nat × Nat)) (slotSeen : Store Nat) (resetCauses : Nat) (sagSupply : Nat) (porstLow : Bool) (outsAt : Option Nat) (tapIr : Nat) (bsr : Nat) (thermalHold : Bool) (coolAt : Option Nat) (hot : Nat) (wiping : Bool) (startWait : Bool) (onAtReset : Nat) (releasedAt : Nat) (otpProg : Option (Nat × Nat)) (lifeProg : Option (Nat × List Nat)) (bootNext : Nat) (bootTcu : Bool) (booted : Bool) (pushLen : Option Nat) (pushed : List Byte) (perstHigh : Bool) :
    State.sealed { pending := s.pending, regs := regs, shadow := shadow, commitSec := commitSec, free := free, out := out, hosts := hosts, cmds := cmds, grants := grants, slots := slots, phase := phase, straps := straps, tcus := tcus, fw := fw, gatePins := gatePins, calHead := calHead, calRunning := calRunning, switch := switch, reverting := reverting, revertAt := revertAt, judging := judging, up := up, engines := engines, shmem := shmem, frames := frames, cells := cells, nextS := nextS, nextL := nextL, voqs := voqs, txs := txs, macs := macs, pressOwn := pressOwn, pressShared := pressShared, fus := fus, txts := txts, walk := walk, wheyDue := wheyDue, subs := subs, lostCopies := lostCopies, fences := fences, nodes := nodes, shpUntil := shpUntil, heldShapes := heldShapes, gates := gates, gateCopy := gateCopy, gwq := gwq, watch := watch, samples := samples, smpSeq := smpSeq, smpSkipped := smpSkipped, smpAt := smpAt, smpUntil := smpUntil, smpRun := smpRun, tabs := tabs, learnq := learnq, crossing := crossing, learnAt := learnAt, moves := moves, hits := hits, winOps := winOps, shadows := shadows, slotNext := slotNext, slotFirst := slotFirst, lanes := lanes, trunks := trunks, ntTimes := ntTimes, cadTab := cadTab, cadSrc := cadSrc, cadFrom := cadFrom, cadOld := cadOld, cadRcs := cadRcs, cadErr := cadErr, gwTpl := gwTpl, gwWin := gwWin, gwCnt := gwCnt, wear := wear, swaps := swaps, swapNext := swapNext, caveRead := caveRead, swapWait := swapWait, rowMap := rowMap, image := image, applied := applied, perfs := perfs, slotUse := slotUse, events := events, slotSeen := slotSeen, resetCauses := resetCauses, sagSupply := sagSupply, porstLow := porstLow, outsAt := outsAt, tapIr := tapIr, bsr := bsr, thermalHold := thermalHold, coolAt := coolAt, hot := hot, wiping := wiping, startWait := startWait, onAtReset := onAtReset, releasedAt := releasedAt, serial := s.serial, lifeCycle := s.lifeCycle, keyHash := s.keyHash, otp := s.otp, otpProg := otpProg, lifeProg := lifeProg, bootNext := bootNext, bootTcu := bootTcu, booted := booted, pushLen := pushLen, pushed := pushed, perstHigh := perstHigh } = s.sealed := by cases s; rfl

@[simp] theorem State.sealed_ite (p : Prop) [Decidable p] (a b : State) : (if p then a else b).sealed = if p then a.sealed else b.sealed := apply_ite _ _ _ _

@[simp] theorem State.foldl_sealed {β : Type} (l : List β) (f : State → β → State) (s : State) (h : ∀ a b, (f a b).sealed = a.sealed) :
    (l.foldl f s).sealed = s.sealed := by
  induction l generalizing s with
  | nil => rfl
  | cons b l ih => rw [List.foldl_cons, ih, h]

theorem State.foldl_pair_sealed {β γ : Type} (l : List β) (f : γ × State → β → γ × State) (x : γ × State) (h : ∀ a b, (f a b).2.sealed = a.2.sealed) :
    (l.foldl f x).2.sealed = x.2.sealed := by
  induction l generalizing x with
  | nil => rfl
  | cons b l ih => rw [List.foldl_cons, ih, h]
theorem State.foldl_pair'_sealed {β γ : Type} (l : List β) (f : State × γ → β → State × γ) (x : State × γ) (h : ∀ a b, (f a b).1.sealed = a.1.sealed) :
    (l.foldl f x).1.sealed = x.1.sealed := by
  induction l generalizing x with
  | nil => rfl
  | cons b l ih => rw [List.foldl_cons, ih, h]

@[simp] theorem State.wrI_sealed (s : State) (p : Nat) (f : Fld) (i : Nat) (v : Nat) : (State.wrI s p f i v).sealed = s.sealed := by
  unfold State.wrI; simp

@[simp] theorem State.wr_sealed (s : State) (p : Nat) (f : Fld) (v : Nat) : (State.wr s p f v).sealed = s.sealed := by
  unfold State.wr; simp

@[simp] theorem State.wrS_sealed (s : State) (p : Nat) (f : Fld) (v : Int) : (State.wrS s p f v).sealed = s.sealed := by
  unfold State.wrS; simp

@[simp] theorem State.wrSat_sealed (s : State) (p : Nat) (f : Fld) (v : Int) : (State.wrSat s p f v).sealed = s.sealed := by
  unfold State.wrSat; simp

@[simp] theorem State.addI_sealed (s : State) (p : Nat) (f : Fld) (i : Nat) (n : Nat) : (State.addI s p f i n).sealed = s.sealed := by
  unfold State.addI; simp

@[simp] theorem State.inc_sealed (s : State) (p : Nat) (f : Fld) : (State.inc s p f).sealed = s.sealed := by
  unfold State.inc; simp

@[simp] theorem State.incI_sealed (s : State) (p : Nat) (f : Fld) (i : Nat) : (State.incI s p f i).sealed = s.sealed := by
  unfold State.incI; simp

@[simp] theorem State.wrWide_sealed (s : State) (p : Nat) (hi : Fld) (lo : Fld) (v : Nat) : (State.wrWide s p hi lo v).sealed = s.sealed := by
  unfold State.wrWide; simp

@[simp] theorem State.onHost_sealed (s : State) (c : Nat) (f : HostCtx → HostCtx) : (State.onHost s c f).sealed = s.sealed := by
  unfold State.onHost; simp

@[simp] theorem State.onTcu_sealed (s : State) (t : Nat) (f : Tcu → Tcu) : (State.onTcu s t f).sealed = s.sealed := by
  unfold State.onTcu; simp

@[simp] theorem State.onTdc_sealed (s : State) (t : Nat) (c : Nat) (f : Tdc → Tdc) : (State.onTdc s t c f).sealed = s.sealed := by
  unfold State.onTdc; simp

@[simp] theorem State.onCand_sealed (s : State) (t : Nat) (k : Nat) (f : Cand → Cand) : (State.onCand s t k f).sealed = s.sealed := by
  unfold State.onCand; simp

@[simp] theorem State.onOutp_sealed (s : State) (t : Nat) (n : Nat) (f : Outp → Outp) : (State.onOutp s t n f).sealed = s.sealed := by
  unfold State.onOutp; simp

@[simp] theorem State.onEng_sealed (s : State) (e : Nat) (f : Engine → Engine) : (State.onEng s e f).sealed = s.sealed := by
  unfold State.onEng; simp

@[simp] theorem State.emit_sealed (s : State) (o : Out) : (State.emit s o).sealed = s.sealed := by
  unfold State.emit; simp

@[simp] theorem State.bump_sealed (s : State) : (State.bump s).sealed = s.sealed := by
  unfold State.bump; simp

@[simp] theorem State.event_sealed (s : State) (e : Nat) (u : Nat) (n : Nat) : (State.event s e u n).sealed = s.sealed := by
  unfold State.event; simp

@[simp] theorem State.setPwr_sealed (s : State) (d : Nat) (st : Nat) : (State.setPwr s d st).sealed = s.sealed := by
  unfold State.setPwr; simp

@[simp] theorem State.both_sealed (s : State) (f : Nat → State → State) (h : ∀ i a, (f i a).sealed = a.sealed) : (State.both s f).sealed = s.sealed := by
  unfold State.both; (repeat' split) <;> simp_all

@[simp] theorem State.each_sealed (s : State) (n : Nat) (f : Nat → State → State) (h : ∀ i a, (f i a).sealed = a.sealed) : (State.each s n f).sealed = s.sealed := by
  unfold State.each; (repeat' split) <;> simp_all

@[simp] theorem State.setCause_sealed (s : State) (p : Nat) (m : Nat) : (State.setCause s p m).sealed = s.sealed := by
  unfold State.setCause; simp

@[simp] theorem State.raise_sealed (s : State) (p : Nat) (b : Nat) : (State.raise s p b).sealed = s.sealed := by
  unfold State.raise; simp

@[simp] theorem State.raiseIf_sealed (s : State) (c : Bool) (p : Nat) (b : Nat) : (State.raiseIf s c p b).sealed = s.sealed := by
  unfold State.raiseIf; simp

@[simp] theorem State.raiseHdr_sealed (s : State) (p : Nat) (b : Nat) : (State.raiseHdr s p b).sealed = s.sealed := by
  unfold State.raiseHdr; simp

@[simp] theorem State.accErr_sealed (s : State) (p : Nat) (ctx : Nat) (off : Nat) (write : Bool) (m : Nat) : (State.accErr s p ctx off write m).sealed = s.sealed := by
  unfold State.accErr; simp

@[simp] theorem State.integErr_sealed (s : State) (p : Nat) (b : Nat) : (State.integErr s p b).sealed = s.sealed := by
  unfold State.integErr; simp

@[simp] theorem State.setFault_sealed (s : State) (p : Nat) (code : Nat) : (State.setFault s p code).sealed = s.sealed := by
  unfold State.setFault; simp

@[simp] theorem State.clearFault_sealed (s : State) (p : Nat) : (State.clearFault s p).sealed = s.sealed := by
  unfold State.clearFault; simp

@[simp] theorem State.bcastTo_sealed (s : State) (c : Nat) (b : Nat) : (State.bcastTo s c b).sealed = s.sealed := by
  unfold State.bcastTo; simp

@[simp] theorem State.bcast_sealed (s : State) (b : Nat) : (State.bcast s b).sealed = s.sealed := by
  unfold State.bcast; simp

@[simp] theorem State.inbandSend_sealed (s : State) (c : Nat) (l : List Byte) : (State.inbandSend s c l).sealed = s.sealed := by
  unfold State.inbandSend; simp

@[simp] theorem State.deliver_sealed (s : State) (c : Nat) : (State.deliver s c).sealed = s.sealed := by
  unfold State.deliver; simp

@[simp] theorem State.settle_sealed (s : State) : (State.settle s).sealed = s.sealed := by
  unfold State.settle; simp

@[simp] theorem State.cplStore_sealed (s : State) (c : Nat) (slot : Nat) (ws : List Nat) : (State.cplStore s c slot ws).sealed = s.sealed := by
  unfold State.cplStore; simp

@[simp] theorem State.cplWrite_sealed (s : State) (c : Nat) (e : Cpl) : (State.cplWrite s c e).sealed = s.sealed := by
  unfold State.cplWrite; simp

@[simp] theorem State.cplFlush_sealed (s : State) (c : Nat) (l : List Cpl) : (s.cplFlush c l).sealed = s.sealed := by
  induction l generalizing s with
  | nil => simp [State.cplFlush]
  | cons e es ih => unfold State.cplFlush; split <;> simp [ih]

@[simp] theorem State.cplPump_sealed (s : State) (c : Nat) : (s.cplPump c).sealed = s.sealed := by
  unfold State.cplPump; split <;> simp

@[simp] theorem State.cplPost_sealed (s : State) (c : Nat) (e : Cpl) : (State.cplPost s c e).sealed = s.sealed := by
  unfold State.cplPost; simp

@[simp] theorem State.setSlot_sealed (s : State) (k : Cmd) (status : Nat) : (State.setSlot s k status).sealed = s.sealed := by
  unfold State.setSlot; simp

@[simp] theorem State.fly_sealed (s : State) (k : Cmd) : (State.fly s k).sealed = s.sealed := by
  unfold State.fly; simp

@[simp] theorem State.onCmd_sealed (s : State) (k : Cmd) (f : Cmd → Cmd) : (State.onCmd s k f).sealed = s.sealed := by
  unfold State.onCmd; simp

@[simp] theorem State.endSlot_sealed (s : State) (k : Cmd) (status : Nat) : (State.endSlot s k status).sealed = s.sealed := by
  unfold State.endSlot; simp

@[simp] theorem State.finish_sealed (s : State) (k : Cmd) (status : Nat) (detail : Nat) (r0 : Nat) (r1 : Nat) : (State.finish s k status detail r0 r1).sealed = s.sealed := by
  unfold State.finish; simp

@[simp] theorem State.finishSt_sealed (s : State) (k : Cmd) (status : Nat) : (State.finishSt s k status).sealed = s.sealed := by
  unfold State.finishSt; simp

@[simp] theorem State.finishOp_sealed (s : State) (op : Nat) (arg0 : Nat) (status : Nat) (r0 : Nat) (r1 : Nat) : (State.finishOp s op arg0 status r0 r1).sealed = s.sealed := by
  unfold State.finishOp; (repeat' split) <;> simp_all

@[simp] theorem State.showRing_sealed (s : State) : (State.showRing s).sealed = s.sealed := by
  unfold State.showRing; simp

@[simp] theorem State.sampleOn_sealed (s : State) : (State.sampleOn s).sealed = s.sealed := by
  unfold State.sampleOn; dsimp only; (repeat' split) <;> simp

@[simp] theorem State.setTcuState_sealed (s : State) (t : Nat) (x : Nat) : (State.setTcuState s t x).sealed = s.sealed := by
  unfold State.setTcuState; simp

@[simp] theorem State.onGate_sealed (s : State) (p : Nat) (f : Gate → Gate) : (State.onGate s p f).sealed = s.sealed := by
  unfold State.onGate; simp

@[simp] theorem State.endHolds_sealed (s : State) : (State.endHolds s).sealed = s.sealed := by
  unfold State.endHolds; simp

@[simp] theorem State.onFollowers_sealed (s : State) (f : Nat → State → State) (h : ∀ i a, (f i a).sealed = a.sealed) : (State.onFollowers s f).sealed = s.sealed := by
  unfold State.onFollowers; (repeat' split) <;> simp_all

@[simp] theorem State.setRatio_sealed (s : State) (t : Nat) (r : Int) : (State.setRatio s t r).sealed = s.sealed := by
  unfold State.setRatio; simp

@[simp] theorem State.compensate_sealed (s : State) (t : Nat) (dr : Int) : (State.compensate s t dr).sealed = s.sealed := by
  unfold State.compensate; simp

@[simp] theorem State.setRateOne_sealed (s : State) (t : Nat) (r : Int) : (State.setRateOne s t r).sealed = s.sealed := by
  unfold State.setRateOne; simp

@[simp] theorem State.setRate_sealed (s : State) (r : Int) : (State.setRate s r).sealed = s.sealed := by
  unfold State.setRate; simp

@[simp] theorem State.steer_sealed (s : State) (t : Nat) (held : Int) (slew : Int) : (State.steer s t held slew).sealed = s.sealed := by
  unfold State.steer; simp

@[simp] theorem State.useHostRate_sealed (s : State) (t : Nat) : (State.useHostRate s t).sealed = s.sealed := by
  unfold State.useHostRate; simp

@[simp] theorem State.showRem_sealed (s : State) (t : Nat) : (State.showRem s t).sealed = s.sealed := by
  unfold State.showRem; simp

@[simp] theorem State.slewOn_sealed (s : State) (t : Nat) (d : Nat) : (State.slewOn s t d).sealed = s.sealed := by
  unfold State.slewOn; simp

@[simp] theorem State.startRuns_sealed (s : State) (t : Nat) (a : Nat) : (State.startRuns s t a).sealed = s.sealed := by
  unfold State.startRuns; simp

@[simp] theorem State.linesLock_sealed (s : State) (t : Nat) : (State.linesLock s t).sealed = s.sealed := by
  unfold State.linesLock; dsimp only; (repeat' split) <;> simp

@[simp] theorem State.advance_sealed (s : State) (d : Nat) : (State.advance s d).sealed = s.sealed := by
  unfold State.advance; simp

@[simp] theorem State.toLimit_sealed (s : State) (k : Cmd) (d : Nat) : (State.toLimit s k d).sealed = s.sealed := by
  unfold State.toLimit; simp

@[simp] theorem State.toEpoch_sealed (s : State) (t : Nat) : (State.toEpoch s t).sealed = s.sealed := by
  unfold State.toEpoch; simp

@[simp] theorem State.snap_sealed (s : State) (t : Nat) : (State.snap s t).sealed = s.sealed := by
  unfold State.snap; simp

@[simp] theorem State.quietOuts_sealed (s : State) (f : Nat → Nat → Bool) : (State.quietOuts s f).sealed = s.sealed := by
  unfold State.quietOuts; simp

@[simp] theorem State.setTimeValid_sealed (s : State) (v : Bool) : (State.setTimeValid s v).sealed = s.sealed := by
  unfold State.setTimeValid; simp

@[simp] theorem State.refreshValid_sealed (s : State) : (State.refreshValid s).sealed = s.sealed := by
  unfold State.refreshValid; simp

@[simp] theorem State.reqStep_sealed (s : State) (amount : Int) (acquire : Bool) (host : Bool) : (State.reqStep s amount acquire host).sealed = s.sealed := by
  unfold State.reqStep; simp

@[simp] theorem State.applyStep_sealed (s : State) (t : Nat) : (State.applyStep s t).sealed = s.sealed := by
  unfold State.applyStep; dsimp only; (repeat' split) <;> simp

@[simp] theorem State.slewDone_sealed (s : State) (t : Nat) : (State.slewDone s t).sealed = s.sealed := by
  unfold State.slewDone; simp

@[simp] theorem State.startTimeStep_sealed (k : Cmd) (s : State) : (State.startTimeStep k s).sealed = s.sealed := by
  unfold State.startTimeStep; simp

@[simp] theorem State.showRunning_sealed (s : State) : (State.showRunning s).sealed = s.sealed := by
  unfold State.showRunning; simp

@[simp] theorem State.runStart_sealed (s : State) (p : Nat) : (State.runStart s p).sealed = s.sealed := by
  unfold State.runStart; simp

@[simp] theorem State.runEnd_sealed (s : State) (p : Nat) : (State.runEnd s p).sealed = s.sealed := by
  unfold State.runEnd; simp

@[simp] theorem State.calRunDone_sealed (s : State) (p : Nat) (ok : Bool) : (State.calRunDone s p ok).sealed = s.sealed := by
  unfold State.calRunDone; simp

@[simp] theorem State.runOk_sealed (s : State) (p : Nat) : (State.runOk s p).sealed = s.sealed := by
  unfold State.runOk; simp

@[simp] theorem State.noteFail_sealed (s : State) (p : Nat) : (State.noteFail s p).sealed = s.sealed := by
  unfold State.noteFail; simp

@[simp] theorem State.runFail_sealed (s : State) (p : Nat) : (State.runFail s p).sealed = s.sealed := by
  unfold State.runFail; simp

@[simp] theorem State.skipSects_sealed (s : State) (n : Nat) : (State.skipSects s n).sealed = s.sealed := by
  unfold State.skipSects; simp

@[simp] theorem State.pllSkip_sealed (s : State) (t : Nat) : (State.pllSkip s t).sealed = s.sealed := by
  unfold State.pllSkip; simp

@[simp] theorem State.setBank_sealed (s : State) (b : Nat) (role : Nat) (l : Nat) : (State.setBank s b role l).sealed = s.sealed := by
  unfold State.setBank; simp

@[simp] theorem State.bankCopy_sealed (s : State) (src : Nat) (spare : Nat) : (State.bankCopy s src spare).sealed = s.sealed := by
  unfold State.bankCopy; simp

@[simp] theorem State.toCopyEnd_sealed (s : State) (since : Nat) : (State.toCopyEnd s since).sealed = s.sealed := by
  unfold State.toCopyEnd; simp

@[simp] theorem State.bankSwap_sealed (s : State) (src : Nat) (spare : Nat) : (State.bankSwap s src spare).sealed = s.sealed := by
  unfold State.bankSwap; simp

@[simp] theorem State.setWear_sealed (s : State) (page : Nat) (index : Nat) (slice : Nat) : (State.setWear s page index slice).sealed = s.sealed := by
  unfold State.setWear; simp

@[simp] theorem State.showWear_sealed (s : State) (page : Nat) (slice : Nat) : (State.showWear s page slice).sealed = s.sealed := by
  unfold State.showWear; simp

@[simp] theorem State.onSwap_sealed (s : State) (i : Nat) (f : SwapRec → SwapRec) : (State.onSwap s i f).sealed = s.sealed := by
  unfold State.onSwap; simp

@[simp] theorem State.caveLatch_sealed (s : State) : (State.caveLatch s).sealed = s.sealed := by
  unfold State.caveLatch; simp

@[simp] theorem State.swapQueue_sealed (s : State) (i : Nat) : (State.swapQueue s i).sealed = s.sealed := by
  unfold State.swapQueue; first | (simp; done) | (dsimp only; (repeat' split) <;> simp)

@[simp] theorem State.swapRecord_sealed (s : State) (w : SwapWait) (spare : Nat) (i : Nat) : (State.swapRecord s w spare i).sealed = s.sealed := by
  unfold State.swapRecord; simp

@[simp] theorem State.exhausted_sealed (s : State) (page : Nat) : (State.exhausted s page).sealed = s.sealed := by
  unfold State.exhausted; simp

@[simp] theorem State.swapDue_sealed (s : State) (w : SwapWait) : (State.swapDue s w).sealed = s.sealed := by
  unfold State.swapDue; (repeat' split) <;> simp_all

@[simp] theorem State.swapPump_sealed (s : State) : (State.swapPump s).sealed = s.sealed := by
  unfold State.swapPump; simp

@[simp] theorem State.swapDone_sealed (s : State) (i : Nat) : (State.swapDone s i).sealed = s.sealed := by
  unfold State.swapDone; simp

@[simp] theorem State.swapCancel_sealed (s : State) (i : Nat) : (State.swapCancel s i).sealed = s.sealed := by
  unfold State.swapCancel; simp

@[simp] theorem State.wearSet_sealed (s : State) (page : Nat) (slice : Nat) (monitor : Nat) (index : Nat) (failing : Bool) : (State.wearSet s page slice monitor index failing).sealed = s.sealed := by
  unfold State.wearSet; simp

@[simp] theorem State.wearFail_sealed (s : State) (page : Nat) (slice : Nat) (monitor : Nat) : (State.wearFail s page slice monitor).sealed = s.sealed := by
  unfold State.wearFail; simp

@[simp] theorem State.wearAgain_sealed (s : State) (page : Nat) (was : Nat) : (State.wearAgain s page was).sealed = s.sealed := by
  unfold State.wearAgain; simp

@[simp] theorem State.wearStartUp_sealed (s : State) (page : Nat) : (State.wearStartUp s page).sealed = s.sealed := by
  unfold State.wearStartUp; simp

@[simp] theorem State.setTask_sealed (s : State) (e : Nat) (t : Nat) (x : Nat) : (State.setTask s e t x).sealed = s.sealed := by
  unfold State.setTask; simp

@[simp] theorem State.setInbox_sealed (s : State) (e : Nat) (t : Nat) (l : List Msg) : (State.setInbox s e t l).sealed = s.sealed := by
  unfold State.setInbox; simp

@[simp] theorem State.enqueueMsg_sealed (s : State) (e : Nat) (t : Nat) (m : Msg) : (State.enqueueMsg s e t m).sealed = s.sealed := by
  unfold State.enqueueMsg; simp

@[simp] theorem State.deliverMsg_sealed (s : State) (e : Nat) (t : Nat) (m : Msg) : (State.deliverMsg s e t m).sealed = s.sealed := by
  unfold State.deliverMsg; simp

theorem execMailboxMessageArrival_sealed (e : Nat) (t : Nat) (src : Nat) (m : Mail) (s : State) (res : State) (h : execMailboxMessageArrival e t src m s = .next res) : res.sealed = s.sealed := by
  unfold execMailboxMessageArrival done at h; rw [← Host.Outcome.next.inj h]; simp

@[simp] theorem State.trapToEngine_sealed (s : State) (e : Nat) (reason : Nat) (port : Nat) (l : List Byte) : (State.trapToEngine s e reason port l).sealed = s.sealed := by
  unfold State.trapToEngine; simp

theorem execDispatch_sealed (e : Nat) (s : State) (res : State) (h : execDispatch e s = .next res) : res.sealed = s.sealed := by
  unfold execDispatch done at h
  rw [← Host.Outcome.next.inj h]; dsimp only; (repeat' split) <;> simp

@[simp] theorem State.engFree_sealed (s : State) (e : Nat) : (State.engFree s e).sealed = s.sealed := by
  unfold State.engFree; simp

@[simp] theorem State.sendOut_sealed (s : State) (e : Nat) (t : Nat) (ms : List Mail) : (State.sendOut s e t ms).sealed = s.sealed := by
  unfold State.sendOut; simp

@[simp] theorem State.ranTask_sealed (s : State) (e : Nat) (t : Nat) (taken : Nat) (sent : List Mail) : (State.ranTask s e t taken sent).sealed = s.sealed := by
  unfold State.ranTask; simp

@[simp] theorem State.leave_sealed (s : State) (e : Nat) (x : Nat) (taken : Nat) (sent : List Mail) : (State.leave s e x taken sent).sealed = s.sealed := by
  unfold State.leave; dsimp only; (repeat' split) <;> simp

theorem execTaskSliceEnd_sealed (e : Nat) (taken : Nat) (sent : List Mail) (s : State) (res : State) (h : execTaskSliceEnd e taken sent s = .next res) : res.sealed = s.sealed := by
  unfold execTaskSliceEnd done at h; rw [← Host.Outcome.next.inj h]; simp

theorem execTaskYield_sealed (e : Nat) (taken : Nat) (sent : List Mail) (s : State) (res : State) (h : execTaskYield e taken sent s = .next res) : res.sealed = s.sealed := by
  unfold execTaskYield done at h; rw [← Host.Outcome.next.inj h]; simp

@[simp] theorem State.waitTask_sealed (s : State) (e : Nat) (timer : Bool) (sent : List Mail) : (State.waitTask s e timer sent).sealed = s.sealed := by
  unfold State.waitTask; dsimp only; (repeat' split) <;> simp

theorem execTaskWait_sealed (e : Nat) (timer : Bool) (sent : List Mail) (s : State) (res : State) (h : execTaskWait e timer sent s = .next res) : res.sealed = s.sealed := by
  unfold execTaskWait done at h; rw [← Host.Outcome.next.inj h]; simp

@[simp] theorem State.timerExpired_sealed (s : State) (e : Nat) (t : Nat) : (State.timerExpired s e t).sealed = s.sealed := by
  unfold State.timerExpired; simp

theorem execTaskTimerExpiry_sealed (e : Nat) (t : Nat) (s : State) (res : State) (h : execTaskTimerExpiry e t s = .next res) : res.sealed = s.sealed := by
  unfold execTaskTimerExpiry done at h; rw [← Host.Outcome.next.inj h]; simp

@[simp] theorem State.taskFault_sealed (s : State) (e : Nat) (code : Nat) : (State.taskFault s e code).sealed = s.sealed := by
  unfold State.taskFault; (repeat' split) <;> simp_all

theorem execTaskFault_sealed (e : Nat) (code : Nat) (s : State) (res : State) (h : execTaskFault e code s = .next res) : res.sealed = s.sealed := by
  unfold execTaskFault done at h
  rw [← Host.Outcome.next.inj h]; simp

@[simp] theorem State.openTask_sealed (s : State) (e : Nat) (t : Nat) : (State.openTask s e t).sealed = s.sealed := by
  unfold State.openTask; simp

@[simp] theorem State.startTaskStart_sealed (k : Cmd) (s : State) : (State.startTaskStart k s).sealed = s.sealed := by
  unfold State.startTaskStart; simp

@[simp] theorem State.closeTask_sealed (s : State) (e : Nat) (t : Nat) : (State.closeTask s e t).sealed = s.sealed := by
  unfold State.closeTask; simp

@[simp] theorem State.stopFaulted_sealed (s : State) (k : Cmd) : (State.stopFaulted s k).sealed = s.sealed := by
  unfold State.stopFaulted; simp

@[simp] theorem State.stopEnds_sealed (s : State) (k : Cmd) : (State.stopEnds s k).sealed = s.sealed := by
  unfold State.stopEnds; simp

@[simp] theorem State.startTaskStop_sealed (k : Cmd) (s : State) : (State.startTaskStop k s).sealed = s.sealed := by
  unfold State.startTaskStop; simp

theorem execTaskDrainEnd_sealed (e : Nat) (t : Nat) (limit : Bool) (s : State) (res : State) (h : execTaskDrainEnd e t limit s = .next res) : res.sealed = s.sealed := by
  unfold execTaskDrainEnd done at h; dsimp only at h; (repeat' split at h) <;> (rw [← Host.Outcome.next.inj h]; simp)

@[simp] theorem State.wipeEngine_sealed (s : State) (e : Nat) : (State.wipeEngine s e).sealed = s.sealed := by
  unfold State.wipeEngine; simp

@[simp] theorem State.installImage_sealed (s : State) (e : Nat) (l : List Byte) : (State.installImage s e l).sealed = s.sealed := by
  unfold State.installImage; simp

@[simp] theorem State.startTaskLoad_sealed (k : Cmd) (s : State) : (State.startTaskLoad k s).sealed = s.sealed := by
  unfold State.startTaskLoad; simp

theorem execImageVerified_sealed (e : Nat) (image : List Byte) (signed : Bool) (s : State) (res : State) (h : execImageVerified e image signed s = .next res) : res.sealed = s.sealed := by
  unfold execImageVerified done at h; rw [← Host.Outcome.next.inj h]; dsimp only; (repeat' split) <;> simp

@[simp] theorem State.showStaged_sealed (s : State) (e : Nat) : (State.showStaged s e).sealed = s.sealed := by
  unfold State.showStaged; simp

@[simp] theorem State.mbxStage_sealed (s : State) (e : Nat) (v : Nat) : (State.mbxStage s e v).sealed = s.sealed := by
  unfold State.mbxStage; simp

@[simp] theorem State.mbxClear_sealed (s : State) (e : Nat) : (State.mbxClear s e).sealed = s.sealed := by
  unfold State.mbxClear; simp

@[simp] theorem State.mbxPush_sealed (s : State) (ctx : Nat) (e : Nat) : (State.mbxPush s ctx e).sealed = s.sealed := by
  unfold State.mbxPush; simp

@[simp] theorem State.mbxPop_sealed (s : State) (e : Nat) : (State.mbxPop s e).sealed = s.sealed := by
  unfold State.mbxPop; simp

@[simp] theorem State.outNextWord_sealed (s : State) (e : Nat) : (State.outNextWord s e).sealed = s.sealed := by
  unfold State.outNextWord; simp

@[simp] theorem State.shNext_sealed (s : State) : (State.shNext s).sealed = s.sealed := by
  unfold State.shNext; simp

@[simp] theorem State.shWrite_sealed (s : State) (v : Nat) : (State.shWrite s v).sealed = s.sealed := by
  unfold State.shWrite; simp

@[simp] theorem State.setCharge_sealed (s : State) (o : Nat) (v : Nat) : (State.setCharge s o v).sealed = s.sealed := by
  unfold State.setCharge; simp

@[simp] theorem State.onMac_sealed (s : State) (p : Nat) (f : Mac → Mac) : (State.onMac s p f).sealed = s.sealed := by
  unfold State.onMac; simp

@[simp] theorem State.showPress_sealed (s : State) (p : Nat) : (State.showPress s p).sealed = s.sealed := by
  unfold State.showPress; simp

@[simp] theorem State.pressOf_sealed (s : State) (p : Nat) : (State.pressOf s p).sealed = s.sealed := by
  show (State.showPress _ p).sealed = s.sealed
  rw [State.showPress_sealed]; rfl

@[simp] theorem State.refreshPress_sealed (s : State) (o : Nat) : (State.refreshPress s o).sealed = s.sealed := by
  unfold State.refreshPress; simp

theorem State.takeCell_sealed (s : State) (o : Nat) (b : Bool) (x : Nat × State) (h : s.takeCell o b = some x) : x.2.sealed = s.sealed := by
  unfold State.takeCell at h
  dsimp only at h
  split at h
  · cases h
  · split at h
    · cases h
    · cases h; simp

@[simp] theorem State.freeCell_sealed (s : State) (ptr : Nat) : (State.freeCell s ptr).sealed = s.sealed := by
  unfold State.freeCell; simp

@[simp] theorem State.setFrame_sealed (s : State) (f : Nat) (x : Frame) : (State.setFrame s f x).sealed = s.sealed := by
  unfold State.setFrame; simp

@[simp] theorem State.onFrame_sealed (s : State) (f : Nat) (g : Frame → Frame) : (State.onFrame s f g).sealed = s.sealed := by
  unfold State.onFrame; simp

@[simp] theorem State.onTx_sealed (s : State) (p : Nat) (f : Tx → Tx) : (State.onTx s p f).sealed = s.sealed := by
  unfold State.onTx; simp

@[simp] theorem State.fenceFrame_sealed (s : State) (f : Nat) : (State.fenceFrame s f).sealed = s.sealed := by
  unfold State.fenceFrame; simp

@[simp] theorem State.slotOf_sealed (s : State) (f : Nat) : (State.slotOf s f).sealed = s.sealed := by
  unfold State.slotOf; dsimp only; (repeat' split) <;> simp

@[simp] theorem State.freeFrame_sealed (s : State) (f : Nat) : (State.freeFrame s f).sealed = s.sealed := by
  unfold State.freeFrame; simp

@[simp] theorem State.reap_sealed (s : State) (f : Nat) : (State.reap s f).sealed = s.sealed := by
  unfold State.reap; simp

@[simp] theorem State.outOfReach_sealed (s : State) (cells : List Nat) (frames : List Nat) (n : Nat) : (State.outOfReach s cells frames n).sealed = s.sealed := by
  unfold State.outOfReach; (repeat' split) <;> simp_all

@[simp] theorem State.copyGone_sealed (s : State) (f : Nat) : (State.copyGone s f).sealed = s.sealed := by
  unfold State.copyGone; simp

@[simp] theorem State.store_sealed (s : State) (f n : Nat) : (s.store f n).sealed = s.sealed := by
  induction n generalizing s with
  | zero => rfl
  | succ n ih =>
    unfold State.store
    dsimp only
    split
    · rfl
    · split
      · simp
      · split
        · rename_i h; rw [ih, State.onFrame_sealed, State.takeCell_sealed _ _ _ _ h]
        · split <;> simp

@[simp] theorem State.grow_sealed (s : State) (f : Nat) (l : List Byte) : (s.grow f l).sealed = s.sealed := by
  unfold State.grow; dsimp only; split <;> simp

@[simp] theorem State.onVoq_sealed (s : State) (v : Nat) (f : Voq → Voq) : (State.onVoq s v f).sealed = s.sealed := by
  unfold State.onVoq; simp

@[simp] theorem State.noCopy_sealed (s : State) : (State.noCopy s).sealed = s.sealed := by
  unfold State.noCopy; simp

@[simp] theorem State.addCopy_sealed (s : State) (f : Nat) (leaf : Nat) (edit : Edit) : (State.addCopy s f leaf edit).sealed = s.sealed := by
  unfold State.addCopy; simp

@[simp] theorem State.addHostCopy_sealed (s : State) (f : Nat) (c : Nat) (reason : Nat) (r : List Byte) : (State.addHostCopy s f c reason r).sealed = s.sealed := by
  unfold State.addHostCopy; simp

@[simp] theorem State.decideFrame_sealed (s : State) (f : Nat) : (State.decideFrame s f).sealed = s.sealed := by
  unfold State.decideFrame; simp

@[simp] theorem State.sticky_sealed (s : State) (p : Nat) (b : Nat) : (State.sticky s p b).sealed = s.sealed := by
  unfold State.sticky; simp

@[simp] theorem State.ptpBoth_sealed (s : State) (i : Nat) (f : Nat → State → State) (h : ∀ i a, (f i a).sealed = a.sealed) : (State.ptpBoth s i f).sealed = s.sealed := by
  unfold State.ptpBoth; (repeat' split) <;> simp_all

@[simp] theorem State.ptpCount_sealed (s : State) (i : Nat) (f : Fld) : (State.ptpCount s i f).sealed = s.sealed := by
  unfold State.ptpCount; simp

@[simp] theorem State.ptpCause_sealed (s : State) (i : Nat) (b : Nat) : (State.ptpCause s i b).sealed = s.sealed := by
  unfold State.ptpCause; simp

@[simp] theorem State.ptpTrap_sealed (s : State) (f : Nat) (i : Nat) (reason : Nat) (r : List Byte) : (State.ptpTrap s f i reason r).sealed = s.sealed := by
  unfold State.ptpTrap; simp

@[simp] theorem State.ptpRx_sealed (s : State) (f : Nat) : (State.ptpRx s f).sealed = s.sealed := by
  unfold State.ptpRx; dsimp only; (repeat' split) <;> simp

theorem execPtpMessageRx_sealed (f : Nat) (s : State) (res : State) (h : execPtpMessageRx f s = .next res) : res.sealed = s.sealed := by
  unfold execPtpMessageRx done at h; rw [← Host.Outcome.next.inj h]; simp

@[simp] theorem State.onNode_sealed (s : State) (n : Nat) (f : Node → Node) : (State.onNode s n f).sealed = s.sealed := by
  unfold State.onNode; simp

@[simp] theorem State.accruePort_sealed (s : State) (p : Nat) : (State.accruePort s p).sealed = s.sealed := by
  unfold State.accruePort; simp

@[simp] theorem State.accrueAll_sealed (s : State) : (State.accrueAll s).sealed = s.sealed := by
  unfold State.accrueAll; simp

@[simp] theorem State.quietNow_sealed (s : State) (p : Nat) : (State.quietNow s p).sealed = s.sealed := by
  unfold State.quietNow; simp

@[simp] theorem State.popVoq_sealed (s : State) (v : Nat) : (State.popVoq s v).sealed = s.sealed := by
  unfold State.popVoq; (repeat' split) <;> simp_all

@[simp] theorem State.copyLeaves_sealed (s : State) (x : Tx) (v : Nat) (c : Copy) : (State.copyLeaves s x v c).sealed = s.sealed := by
  unfold State.copyLeaves; simp

@[simp] theorem State.flushVoq_sealed (s : State) (v n : Nat) : (s.flushVoq v n).sealed = s.sealed := by
  induction n generalizing s with
  | zero => rfl
  | succ n ih => unfold State.flushVoq; split <;> simp [ih]

@[simp] theorem State.flushPort_sealed (s : State) (p : Nat) : (s.flushPort p).sealed = s.sealed := by
  unfold State.flushPort; simp

@[simp] theorem State.touchPort_sealed (s : State) (p : Nat) : (State.touchPort s p).sealed = s.sealed := by
  unfold State.touchPort; simp

@[simp] theorem State.touchAll_sealed (s : State) : (State.touchAll s).sealed = s.sealed := by
  unfold State.touchAll; simp

theorem State.drr_sealed (s : State) (q : Nat) (nd ch : Nat → Nat) (cs : List Nat) (n : Nat) (x : Nat × State) (h : s.drr q nd ch cs n = some x) :
    x.2.sealed = s.sealed := by
  induction n generalizing s with
  | zero => simp [State.drr] at h
  | succ n ih =>
    unfold State.drr at h
    dsimp only at h
    split at h
    · cases h; simp
    · split at h
      · cases h
      · have := ih _ h; simpa using this

theorem State.grantIn_sealed (s : State) (p svc : Nat) (vs fs : List Nat) (g : Grant) (h : s.grantIn p svc vs fs = some g) : g.2.sealed = s.sealed := by
  unfold State.grantIn at h
  dsimp only at h
  split at h
  · cases h
  · simp only [Option.map_eq_some_iff] at h; obtain ⟨_, _, rfl⟩ := h; rfl
  · split at h
    · rename_i u s' h2
      simp only [Option.map_eq_some_iff] at h; obtain ⟨_, _, rfl⟩ := h
      exact State.drr_sealed _ _ _ _ _ _ (u, s') h2
    · cases h

theorem State.grant_sealed (s : State) (p : Nat) (g : Grant) (h : s.grant p = some g) : g.2.sealed = s.sealed := by
  unfold State.grant at h
  dsimp only at h
  split at h
  · cases h
  · exact State.grantIn_sealed _ _ _ _ _ _ h
  · split at h
    · rename_i h2
      rw [State.grantIn_sealed _ _ _ _ _ _ h]; exact State.drr_sealed _ _ _ _ _ _ _ h2
    · cases h

@[simp] theorem State.startCopy_sealed (s : State) (p : Nat) (v : Nat) (c : Copy) : (State.startCopy s p v c).sealed = s.sealed := by
  unfold State.startCopy; simp

@[simp] theorem State.startPause_sealed (s : State) (p : Nat) (q : Nat) : (State.startPause s p q).sealed = s.sealed := by
  unfold State.startPause; simp

@[simp] theorem State.gwCount_sealed (s : State) (k : Nat) (i : Nat) : (State.gwCount s k i).sealed = s.sealed := by
  unfold State.gwCount; simp

@[simp] theorem State.quietIf_sealed (s : State) (p : Nat) (b : Bool) : (State.quietIf s p b).sealed = s.sealed := by
  unfold State.quietIf; simp

@[simp] theorem State.gwDrop_sealed (s : State) (p : Nat) : (State.gwDrop s p).sealed = s.sealed := by
  unfold State.gwDrop; simp

@[simp] theorem State.startGateway_sealed (s : State) (p : Nat) (g : GwFrame) : (State.startGateway s p g).sealed = s.sealed := by
  unfold State.startGateway; simp

@[simp] theorem State.startInband_sealed (s : State) (p : Nat) (l : List Byte) : (State.startInband s p l).sealed = s.sealed := by
  unfold State.startInband; simp

@[simp] theorem State.inbandDrop_sealed (s : State) (p : Nat) : (State.inbandDrop s p).sealed = s.sealed := by
  unfold State.inbandDrop; simp

@[simp] theorem State.lineStart_sealed (s : State) (p : Nat) : (State.lineStart s p).sealed = s.sealed := by
  unfold State.lineStart; simp

@[simp] theorem State.decideNext_sealed (s : State) (p : Nat) : (State.decideNext s p).sealed = s.sealed := by
  unfold State.decideNext
  split
  · rfl
  · next v s' h =>
    split
    · rfl
    · simpa using State.grant_sealed s p _ h

@[simp] theorem State.startNext_sealed (s : State) (p : Nat) : (State.startNext s p).sealed = s.sealed := by
  unfold State.startNext; dsimp only; (repeat' split) <;> simp

@[simp] theorem State.schedule_sealed (s : State) (p : Nat) : (State.schedule s p).sealed = s.sealed := by
  unfold State.schedule; simp

@[simp] theorem State.queueLost_sealed (s : State) (v : Nat) : (State.queueLost s v).sealed = s.sealed := by
  unfold State.queueLost; simp

theorem execSchedulerDecision_sealed (p : Nat) (lost : List Nat) (s : State) (res : State) (h : execSchedulerDecision p lost s = .next res) : res.sealed = s.sealed := by
  unfold execSchedulerDecision done at h; rw [← Host.Outcome.next.inj h]; simp

@[simp] theorem State.limitTx_sealed (s : State) (p : Nat) (c : Copy) : (State.limitTx s p c).sealed = s.sealed := by
  unfold State.limitTx; (repeat' split) <;> simp_all

@[simp] theorem State.corrected_sealed (s : State) (banks : List Nat) : (State.corrected s banks).sealed = s.sealed := by
  unfold State.corrected; simp

@[simp] theorem State.uncorrectable_sealed (s : State) (bank : Nat) : (State.uncorrectable s bank).sealed = s.sealed := by
  unfold State.uncorrectable; simp

@[simp] theorem State.hurtFrame_sealed (s : State) (f : Nat) (b : Nat) (n : Nat) : (State.hurtFrame s f b n).sealed = s.sealed := by
  unfold State.hurtFrame; (repeat' split) <;> simp

@[simp] theorem State.breakChain_sealed (s : State) (f : Nat) (n : Nat) : (State.breakChain s f n).sealed = s.sealed := by
  unfold State.breakChain; simp

@[simp] theorem State.depart_sealed (s : State) (p : Nat) (corr : List Nat) (bad : Option (Nat × Nat)) (link : Bool) : (State.depart s p corr bad link).sealed = s.sealed := by
  unfold State.depart; dsimp only; (repeat' split) <;> simp

theorem execCopyDepart_sealed (p : Nat) (corr : List Nat) (bad : Option (Nat × Nat)) (link : Bool) (s : State) (res : State) (h : execCopyDepart p corr bad link s = .next res) : res.sealed = s.sealed := by
  unfold execCopyDepart done at h; rw [← Host.Outcome.next.inj h]; simp

@[simp] theorem State.countTx_sealed (s : State) (p : Nat) (n : Nat) : (State.countTx s p n).sealed = s.sealed := by
  unfold State.countTx; simp

@[simp] theorem State.refund_sealed (s : State) (p : Nat) (x : Tx) (n : Nat) : (State.refund s p x n).sealed = s.sealed := by
  unfold State.refund; simp

@[simp] theorem State.lineFree_sealed (s : State) (p : Nat) : (State.lineFree s p).sealed = s.sealed := by
  unfold State.lineFree; simp

@[simp] theorem State.deal_sealed (s : State) (p : Nat) (l : List Byte) : (State.deal s p l).sealed = s.sealed := by
  unfold State.deal; simp

@[simp] theorem State.txEnd_sealed (s : State) (p : Nat) : (State.txEnd s p).sealed = s.sealed := by
  unfold State.txEnd; dsimp only; (repeat' split) <;> simp

theorem execFrameTxEnd_sealed (p : Nat) (s : State) (res : State) (h : execFrameTxEnd p s = .next res) : res.sealed = s.sealed := by
  unfold execFrameTxEnd done at h; rw [← Host.Outcome.next.inj h]; simp

@[simp] theorem State.txAbort_sealed (s : State) (p : Nat) : (State.txAbort s p).sealed = s.sealed := by
  unfold State.txAbort; dsimp only; (repeat' split) <;> simp

@[simp] theorem State.configNode_sealed (s : State) (n : Nat) (c : NodeCfg) : (State.configNode s n c).sealed = s.sealed := by
  unfold State.configNode; simp

@[simp] theorem State.shpBusy_sealed (s : State) : (State.shpBusy s).sealed = s.sealed := by
  unfold State.shpBusy; simp

@[simp] theorem State.shpWrite_sealed (s : State) (held : Bool) : (State.shpWrite s held).sealed = s.sealed := by
  unfold State.shpWrite; simp

@[simp] theorem State.shpCommit_sealed (s : State) : (State.shpCommit s).sealed = s.sealed := by
  unfold State.shpCommit; simp

@[simp] theorem State.shpRead_sealed (s : State) : (State.shpRead s).sealed = s.sealed := by
  unfold State.shpRead; simp

@[simp] theorem State.startGateInstall_sealed (k : Cmd) (s : State) : (State.startGateInstall k s).sealed = s.sealed := by
  unfold State.startGateInstall; simp

@[simp] theorem State.gateSwap_sealed (s : State) (p : Nat) : (State.gateSwap s p).sealed = s.sealed := by
  unfold State.gateSwap; dsimp only; (repeat' split) <;> simp

@[simp] theorem State.gateSwapDue_sealed (s : State) : s.gateSwapDue.sealed = s.sealed := by
  unfold State.gateSwapDue; apply State.each_sealed; intro p a; split
  · split <;> simp
  · rfl

theorem execGateListSwap_sealed (p : Nat) (s : State) (res : State) (h : execGateListSwap p s = .next res) : res.sealed = s.sealed := by
  unfold execGateListSwap done at h; dsimp only at h; (repeat' split at h) <;> (rw [← Host.Outcome.next.inj h]; simp)

theorem execGateChange_sealed (p : Nat) (s : State) (res : State) (h : execGateChange p s = .next res) : res.sealed = s.sealed := by
  unfold execGateChange done at h; rw [← Host.Outcome.next.inj h]; dsimp only; (repeat' split) <;> simp

@[simp] theorem State.hoopChanged_sealed (old : State) (s : State) : (State.hoopChanged old s).sealed = s.sealed := by
  unfold State.hoopChanged; simp

@[simp] theorem State.gateWrite_sealed (s : State) : (State.gateWrite s).sealed = s.sealed := by
  unfold State.gateWrite; simp

@[simp] theorem State.gateRead_sealed (s : State) : (State.gateRead s).sealed = s.sealed := by
  unfold State.gateRead; simp

@[simp] theorem State.sweep_sealed (s : State) : (State.sweep s).sealed = s.sealed := by
  unfold State.sweep; simp

theorem execSampleSweep_sealed (s : State) (res : State) (h : execSampleSweep s = .next res) : res.sealed = s.sealed := by
  unfold execSampleSweep done at h; rw [← Host.Outcome.next.inj h]; simp

@[simp] theorem State.smpLoad_sealed (s : State) : (State.smpLoad s).sealed = s.sealed := by
  unfold State.smpLoad; simp

@[simp] theorem State.smpPop_sealed (s : State) : (State.smpPop s).sealed = s.sealed := by
  unfold State.smpPop; simp

@[simp] theorem State.setEntry_sealed (s : State) (w : Nat) (table : Nat) (index : Nat) (e : List Nat) : (State.setEntry s w table index e).sealed = s.sealed := by
  unfold State.setEntry; simp

@[simp] theorem State.parityBad_sealed (s : State) (w : Nat) (t : Nat) (i : Nat) : (State.parityBad s w t i).sealed = s.sealed := by
  unfold State.parityBad; dsimp only; (repeat' split) <;> simp

@[simp] theorem State.probe_sealed (s : State) (w t : Nat) (k : List Nat) (d : Damage) : (s.probe w t k d).2.sealed = s.sealed := by
  unfold State.probe; split
  · rfl
  · split <;> simp

@[simp] theorem State.probeAt_sealed (s : State) (w t i : Nat) (d : Damage) : (s.probeAt w t i d).2.sealed = s.sealed := by
  unfold State.probeAt; split
  · rfl
  · split <;> simp

@[simp] theorem State.pipeCount_sealed (s : State) (w : Nat) (f : Fld) : (State.pipeCount s w f).sealed = s.sealed := by
  unfold State.pipeCount; simp

@[simp] theorem State.queueLearn_sealed (s : State) (w : Nat) (r : Req) : (State.queueLearn s w r).sealed = s.sealed := by
  unfold State.queueLearn; simp

@[simp] theorem State.requestLearn_sealed (s : State) (port : Nat) (addr : Nat) (vid : Nat) : (State.requestLearn s port addr vid).sealed = s.sealed := by
  unfold State.requestLearn; simp

@[simp] theorem State.setHit_sealed (s : State) (w : Nat) (i : Nat) : (State.setHit s w i).sealed = s.sealed := by
  unfold State.setHit; simp

@[simp] theorem State.source_sealed (s : State) (port addr vid : Nat) (a b : Bool) (d : Damage) : (s.source port addr vid a b d).1.sealed = s.sealed := by
  unfold State.source; dsimp only; (repeat' split) <;> simp

@[simp] theorem State.sendCopy_sealed (s : State) (f : Nat) (leaf : Nat) (edit : Edit) : (State.sendCopy s f leaf edit).sealed = s.sealed := by
  unfold State.sendCopy; simp

@[simp] theorem State.copyTo_sealed (s : State) (c : Ctx) (port : Nat) (subscr : Nat) (svc : Nat) : (State.copyTo s c port subscr svc).sealed = s.sealed := by
  unfold State.copyTo; simp

@[simp] theorem State.copyGroup_sealed (s : State) (c : Ctx) (g subscr svc : Nat) (d : Damage) : (s.copyGroup c g subscr svc d).sealed = s.sealed := by
  unfold State.copyGroup; dsimp only; split <;> simp

theorem State.ite_snd_sealed {γ : Type} (p : Prop) [Decidable p] (a b : γ × State) : (if p then a else b).2.sealed = if p then a.2.sealed else b.2.sealed := by
  split <;> rfl
@[simp] theorem State.tryLen_sealed (w : Nat) (v4 : Bool) (a : Nat) (d : Damage) (b : Option (Nat × Nat) × State) (l : Nat) :
    (State.tryLen w v4 a d b l).2.sealed = b.2.sealed := by
  unfold State.tryLen
  dsimp only
  (repeat' split) <;> simp

@[simp] theorem State.nextHop_sealed (s : State) (w : Nat) (v4 : Bool) (a : Nat) (d : Damage) : (s.nextHop w v4 a d).2.sealed = s.sealed := by
  unfold State.nextHop
  dsimp only
  have h (l : List Nat) (x : State) : (l.foldl (State.tryLen w v4 a d) ((none : Option (Nat × Nat)), x)).2.sealed = x.sealed :=
    State.foldl_pair_sealed l _ _ (fun b k => State.tryLen_sealed w v4 a d b k)
  split
  · dsimp only; rw [h]; split <;> simp
  · rw [State.ite_snd_sealed]; dsimp only; rw [ite_self, h]; split <;> simp

@[simp] theorem State.trapTo_sealed (s : State) (f : Nat) (ctx : Nat) : (State.trapTo s f ctx).sealed = s.sealed := by
  unfold State.trapTo; simp

@[simp] theorem State.route_sealed (s : State) (c : Ctx) (l : List Byte) (v4 : Bool) (a : Nat) (d : Damage) : (State.route s c l v4 a d).sealed = s.sealed := by
  unfold State.route; dsimp only; (repeat' split) <;> simp

@[simp] theorem State.destination_sealed (s : State) (c : Ctx) (l : List Byte) (flood : Nat) (d : Damage) : (State.destination s c l flood d).sealed = s.sealed := by
  unfold State.destination; dsimp only; (repeat' split) <;> simp

@[simp] theorem State.txBad_sealed (s : State) (src : Nat) : (State.txBad s src).sealed = s.sealed := by
  unfold State.txBad; simp

@[simp] theorem State.decideCopies_sealed (s : State) (f : Nat) (d : Damage) : (State.decideCopies s f d).sealed = s.sealed := by
  unfold State.decideCopies; dsimp only; (repeat' split) <;> simp

@[simp] theorem State.decide1_sealed (s : State) (f : Nat) (d : Damage) : (State.decide1 s f d).sealed = s.sealed := by
  unfold State.decide1; simp

@[simp] theorem State.decideSend_sealed (s : State) (src : Nat) (l : List Nat) (d : Damage) : (State.decideSend s src l d).sealed = s.sealed := by
  unfold State.decideSend; simp

@[simp] theorem State.sendDirect_sealed (s : State) (src n : Nat) : (s.sendDirect src n).sealed = s.sealed := by
  induction n generalizing s with
  | zero => rfl
  | succ n ih => unfold State.sendDirect; (repeat' split) <;> simp [ih]

@[simp] theorem State.lookupHost_sealed (s : State) (f : Nat) (d : Damage) : (State.lookupHost s f d).sealed = s.sealed := by
  unfold State.lookupHost; dsimp only; (repeat' split) <;> simp

@[simp] theorem State.lookup_sealed (s : State) (f : Nat) (d : Damage) : (State.lookup s f d).sealed = s.sealed := by
  unfold State.lookup; simp

theorem execLookup_sealed (f : Nat) (d : List (Nat × Nat)) (s : State) (res : State) (h : execLookup f d s = .next res) : res.sealed = s.sealed := by
  unfold execLookup done at h; rw [← Host.Outcome.next.inj h]; simp

theorem execLearnCopyArrival_sealed (w : Nat) (s : State) (res : State) (h : execLearnCopyArrival w s = .next res) : res.sealed = s.sealed := by
  unfold execLearnCopyArrival done at h; dsimp only at h; (repeat' split at h) <;> (rw [← Host.Outcome.next.inj h]; simp)

@[simp] theorem State.commitMove_sealed (s : State) (w : Nat) (i : Nat) (addr : Nat) (vid : Nat) (cycle : Nat) (port : Nat) : (State.commitMove s w i addr vid cycle port).sealed = s.sealed := by
  unfold State.commitMove; dsimp only; (repeat' split) <;> simp

@[simp] theorem State.commitLearn_sealed (s : State) (w : Nat) (addr : Nat) (vid : Nat) (cycle : Nat) (port : Nat) : (State.commitLearn s w addr vid cycle port).sealed = s.sealed := by
  unfold State.commitLearn; dsimp only; (repeat' split) <;> simp

@[simp] theorem State.commitFlush_sealed (s : State) (w : Nat) (ctx : Nat) (count : Nat) (port : Nat) (vid : Nat) : (State.commitFlush s w ctx count port vid).sealed = s.sealed := by
  unfold State.commitFlush; dsimp only; (repeat' split) <;> simp

@[simp] theorem State.winDone_sealed (s : State) (page : Nat) (result : Nat) (index : Nat) : (State.winDone s page result index).sealed = s.sealed := by
  unfold State.winDone; simp

@[simp] theorem State.showWords_sealed (s : State) (page : Nat) (e : List Nat) : (State.showWords s page e).sealed = s.sealed := by
  unfold State.showWords; simp

@[simp] theorem State.readBad_sealed (s : State) (page : Nat) (t : Nat) (i : Nat) : (State.readBad s page t i).sealed = s.sealed := by
  unfold State.readBad; simp

@[simp] theorem State.winExec_sealed (s : State) (page : Nat) (o : WinOp) (parity : Bool) : (State.winExec s page o parity).sealed = s.sealed := by
  unfold State.winExec; dsimp only; (repeat' split) <;> simp

@[simp] theorem State.winStart_sealed (s : State) (page : Nat) (op : Nat) : (State.winStart s page op).sealed = s.sealed := by
  unfold State.winStart; simp

@[simp] theorem State.commitReq_sealed (s : State) (w : Nat) : (State.commitReq s w).sealed = s.sealed := by
  unfold State.commitReq; dsimp only; (repeat' split) <;> simp

theorem execLearnCommit_sealed (w : Nat) (s : State) (res : State) (h : execLearnCommit w s = .next res) : res.sealed = s.sealed := by
  unfold execLearnCommit done at h; rw [← Host.Outcome.next.inj h]; simp

@[simp] theorem State.showShadow_sealed (s : State) : (State.showShadow s).sealed = s.sealed := by
  unfold State.showShadow; simp

@[simp] theorem State.startWriteCritical_sealed (k : Cmd) (s : State) : (State.startWriteCritical k s).sealed = s.sealed := by
  unfold State.startWriteCritical; dsimp only; (repeat' split) <;> simp

@[simp] theorem State.compare_sealed (s : State) (tbl : Bool) (sh : Bool) : (State.compare s tbl sh).sealed = s.sealed := by
  unfold State.compare; dsimp only; (repeat' split) <;> simp

theorem execShadowCompare_sealed (tbl : Bool) (sh : Bool) (s : State) (res : State) (h : execShadowCompare tbl sh s = .next res) : res.sealed = s.sealed := by
  unfold execShadowCompare done at h; rw [← Host.Outcome.next.inj h]; simp

@[simp] theorem State.startFlush_sealed (k : Cmd) (s : State) : (State.startFlush k s).sealed = s.sealed := by
  unfold State.startFlush; simp

@[simp] theorem State.startFence_sealed (k : Cmd) (s : State) : (State.startFence k s).sealed = s.sealed := by
  unfold State.startFence; simp

@[simp] theorem State.fenceDone_sealed (s : State) : s.fenceDone.sealed = s.sealed := by
  unfold State.fenceDone; apply State.foldl_sealed; intro a x; split
  · rfl
  · dsimp only; split <;> simp

theorem execFenceComplete_sealed (s : State) (res : State) (h : execFenceComplete s = .next res) : res.sealed = s.sealed := by
  unfold execFenceComplete done at h; rw [← Host.Outcome.next.inj h]; simp

@[simp] theorem State.setArmed_sealed (s : State) (t : Nat) (c : Nat) (b : Bool) : (State.setArmed s t c b).sealed = s.sealed := by
  unfold State.setArmed; simp

@[simp] theorem State.showFifo_sealed (s : State) (t : Nat) (c : Nat) : (State.showFifo s t c).sealed = s.sealed := by
  unfold State.showFifo; simp

@[simp] theorem State.noteRef_sealed (s : State) (t : Nat) (c : Nat) (raw : Nat) : (State.noteRef s t c raw).sealed = s.sealed := by
  unfold State.noteRef; simp

@[simp] theorem State.tdcEdge_sealed (s : State) (t : Nat) (c : Nat) (raw : Nat) (rising : Bool) (marker : Bool) : (State.tdcEdge s t c raw rising marker).sealed = s.sealed := by
  unfold State.tdcEdge; simp

@[simp] theorem State.armInternal_sealed (s : State) (t : Nat) (c : Nat) (k : Nat) : (State.armInternal s t c k).sealed = s.sealed := by
  unfold State.armInternal; simp

@[simp] theorem State.hoopArms_sealed (s : State) (t : Nat) : (State.hoopArms s t).sealed = s.sealed := by
  unfold State.hoopArms; simp

@[simp] theorem State.armAtCommitted_sealed (s : State) (t : Nat) (c : Nat) : (State.armAtCommitted s t c).sealed = s.sealed := by
  unfold State.armAtCommitted; split <;> simp

@[simp] theorem State.gateEdge_sealed (s : State) (t : Nat) (n : Nat) : (State.gateEdge s t n).sealed = s.sealed := by
  unfold State.gateEdge; simp

@[simp] theorem State.armWritten_sealed (old : State) (t : Nat) (c : Nat) (s : State) : (State.armWritten old t c s).sealed = s.sealed := by
  unfold State.armWritten; simp

@[simp] theorem State.setRes_sealed (s : State) (p : Nat) (w : Cap) : (State.setRes s p w).sealed = s.sealed := by
  unfold State.setRes; simp

@[simp] theorem State.loadRes_sealed (s : State) (t : Nat) (c : Nat) : (State.loadRes s t c).sealed = s.sealed := by
  unfold State.loadRes; simp

@[simp] theorem State.popRes_sealed (s : State) (t : Nat) (c : Nat) : (State.popRes s t c).sealed = s.sealed := by
  unfold State.popRes; simp

@[simp] theorem State.lineLost_sealed (s : State) (t : Nat) (c : Nat) (m : Nat) : (State.lineLost s t c m).sealed = s.sealed := by
  unfold State.lineLost; simp

@[simp] theorem State.tdcRunStart_sealed (s : State) (t : Nat) (c : Nat) : (State.tdcRunStart s t c).sealed = s.sealed := by
  unfold State.tdcRunStart; simp

theorem execTdcCalStart_sealed (t : Nat) (s : State) (res : State) (h : execTdcCalStart t s = .next res) : res.sealed = s.sealed := by
  unfold execTdcCalStart done at h; (repeat' split at h) <;> (rw [← Host.Outcome.next.inj h]; simp)

theorem execCalDeferTimeout_sealed (t : Nat) (c : Nat) (s : State) (res : State) (h : execCalDeferTimeout t c s = .next res) : res.sealed = s.sealed := by
  unfold execCalDeferTimeout done at h; rw [← Host.Outcome.next.inj h]; simp

@[simp] theorem State.linesFound_sealed (s : State) (p : Nat) (lines : Nat) : (State.linesFound s p lines).sealed = s.sealed := by
  unfold State.linesFound; simp

@[simp] theorem State.tdcRunFail_sealed (s : State) (p : Nat) : (State.tdcRunFail s p).sealed = s.sealed := by
  unfold State.tdcRunFail; simp

theorem execTdcCalEnd_sealed (t : Nat) (c : Nat) (hist : List Nat) (lines : Nat) (res : Int) (s : State) (next : State) (h : execTdcCalEnd t c hist lines res s = .next next) : next.sealed = s.sealed := by
  unfold execTdcCalEnd done at h
  rw [← Host.Outcome.next.inj h]; simp

@[simp] theorem State.takeTable_sealed (s : State) (t : Nat) (c : Nat) (l : List Nat) (lat : Nat) : (State.takeTable s t c l lat).sealed = s.sealed := by
  unfold State.takeTable; simp

@[simp] theorem State.takeNew_sealed (s : State) (t : Nat) (c : Nat) (r : TdcRest) : (State.takeNew s t c r).sealed = s.sealed := by
  unfold State.takeNew; simp

@[simp] theorem State.takeRest_sealed (s : State) (t : Nat) (c : Nat) (r : TdcRest) : (State.takeRest s t c r).sealed = s.sealed := by
  unfold State.takeRest; simp

theorem execTdcCalInstall_sealed (t : Nat) (c : Nat) (s : State) (res : State) (h : execTdcCalInstall t c s = .next res) : res.sealed = s.sealed := by
  unfold execTdcCalInstall done at h
  rw [← Host.Outcome.next.inj h]; dsimp only; (repeat' split) <;> simp

theorem execGateInputEdge_sealed (n : Nat) (level : Bool) (s : State) (res : State) (h : execGateInputEdge n level s = .next res) : res.sealed = s.sealed := by
  unfold execGateInputEdge done at h; rw [← Host.Outcome.next.inj h]; simp

theorem execTdcArmAtReached_sealed (t : Nat) (c : Nat) (s : State) (res : State) (h : execTdcArmAtReached t c s = .next res) : res.sealed = s.sealed := by
  unfold execTdcArmAtReached done at h
  rw [← Host.Outcome.next.inj h]; simp

theorem execTdcWindowExpiry_sealed (t c : Nat) (s : State) (res : State) (h : execTdcWindowExpiry t c s = .next res) : res.sealed = s.sealed := by
  unfold execTdcWindowExpiry done at h; rw [← Host.Outcome.next.inj h]; split <;> (try split) <;> (try split) <;> simp

theorem execLineLockLost_sealed (t : Nat) (c : Nat) (line : Nat) (s : State) (res : State) (h : execLineLockLost t c line s = .next res) : res.sealed = s.sealed := by
  unfold execLineLockLost done at h; rw [← Host.Outcome.next.inj h]; simp

@[simp] theorem State.showClaims_sealed (s : State) : (State.showClaims s).sealed = s.sealed := by
  unfold State.showClaims; simp

@[simp] theorem State.showLockstep_sealed (s : State) : (State.showLockstep s).sealed = s.sealed := by
  unfold State.showLockstep; simp

@[simp] theorem State.setPhase_sealed (s : State) (x : Phase) : (State.setPhase s x).sealed = s.sealed := by
  unfold State.setPhase; simp

@[simp] theorem State.setAlignErr_sealed (s : State) (t : Nat) (align : Int) : (State.setAlignErr s t align).sealed = s.sealed := by
  unfold State.setAlignErr; simp

@[simp] theorem State.showLinks_sealed (s : State) : (State.showLinks s).sealed = s.sealed := by
  unfold State.showLinks; simp

@[simp] theorem State.enterLastResort_sealed (s : State) : (State.enterLastResort s).sealed = s.sealed := by
  unfold State.enterLastResort; simp

@[simp] theorem State.oscLoss_sealed (s : State) : (State.oscLoss s).sealed = s.sealed := by
  unfold State.oscLoss; simp

@[simp] theorem State.leaveLastResort_sealed (s : State) : (State.leaveLastResort s).sealed = s.sealed := by
  unfold State.leaveLastResort; simp

@[simp] theorem State.revertCheck_sealed (s : State) : (State.revertCheck s).sealed = s.sealed := by
  unfold State.revertCheck; simp

@[simp] theorem State.switchoverMoved_sealed (s : State) (new : Nat) (cause : Nat) : (State.switchoverMoved s new cause).sealed = s.sealed := by
  unfold State.switchoverMoved; (repeat' split) <;> simp_all

@[simp] theorem State.moveToken_sealed (s : State) (new : Nat) (cause : Nat) : (State.moveToken s new cause).sealed = s.sealed := by
  unfold State.moveToken; dsimp only; (repeat' split) <;> simp

@[simp] theorem State.beginResync_sealed (s : State) (t : Nat) (wait : Bool) : (State.beginResync s t wait).sealed = s.sealed := by
  unfold State.beginResync; simp

@[simp] theorem State.failWaiting_sealed (s : State) (t : Nat) (op : Nat) : (State.failWaiting s t op).sealed = s.sealed := by
  unfold State.failWaiting; (repeat' split) <;> simp_all

@[simp] theorem State.fwStageDone_sealed (s : State) (t : Nat) : (State.fwStageDone s t).sealed = s.sealed := by
  unfold State.fwStageDone; (repeat' split) <;> simp_all

@[simp] theorem State.setLock_sealed (s : State) (t : Nat) (b : Bool) : (State.setLock s t b).sealed = s.sealed := by
  unfold State.setLock; simp

@[simp] theorem State.relock_sealed (s : State) (t : Nat) : (State.relock s t).sealed = s.sealed := by
  unfold State.relock; simp

@[simp] theorem State.lockLost_sealed (s : State) (t : Nat) : (State.lockLost s t).sealed = s.sealed := by
  unfold State.lockLost; simp

@[simp] theorem State.runCut_sealed (s : State) (t : Nat) : (State.runCut s t).sealed = s.sealed := by
  unfold State.runCut; simp

@[simp] theorem State.takeToken_sealed (s : State) (t : Nat) : (State.takeToken s t).sealed = s.sealed := by
  unfold State.takeToken; simp

@[simp] theorem State.takeFree_sealed (s : State) (t : Nat) : (State.takeFree s t).sealed = s.sealed := by
  unfold State.takeFree; simp

@[simp] theorem State.failFault_sealed (s : State) (t : Nat) (code : Nat) : (State.failFault s t code).sealed = s.sealed := by
  unfold State.failFault; simp

@[simp] theorem State.failTcu_sealed (s : State) (t : Nat) (code : Nat) : (State.failTcu s t code).sealed = s.sealed := by
  unfold State.failTcu; simp

@[simp] theorem State.copyFld_sealed (s : State) (p : Nat) (q : Nat) (f : Fld) : (State.copyFld s p q f).sealed = s.sealed := by
  unfold State.copyFld; simp

@[simp] theorem State.mirrorArmed_sealed (s : State) (a : Nat) (b : Nat) (p : Nat) : (State.mirrorArmed s a b p).sealed = s.sealed := by
  unfold State.mirrorArmed; simp

@[simp] theorem State.mirrorTables_sealed (s : State) (a : Nat) (b : Nat) : (State.mirrorTables s a b).sealed = s.sealed := by
  unfold State.mirrorTables; simp

@[simp] theorem State.mirrorShadow_sealed (s : State) (a : Nat) (b : Nat) : (State.mirrorShadow s a b).sealed = s.sealed := by
  unfold State.mirrorShadow; simp

@[simp] theorem State.mirrorPages_sealed (s : State) (a : Nat) (b : Nat) : (State.mirrorPages s a b).sealed = s.sealed := by
  unfold State.mirrorPages; simp

@[simp] theorem State.selChanged_sealed (s : State) (t : Nat) (go : Bool) : (State.selChanged s t go).sealed = s.sealed := by
  unfold State.selChanged; simp

@[simp] theorem State.mirrorRate_sealed (s : State) (a : Nat) (b : Nat) : (State.mirrorRate s a b).sealed = s.sealed := by
  unfold State.mirrorRate; simp

@[simp] theorem State.mirrorAll_sealed (s : State) (a : Nat) (b : Nat) : (State.mirrorAll s a b).sealed = s.sealed := by
  unfold State.mirrorAll; simp

@[simp] theorem State.alignDividers_sealed (s : State) (a : Nat) (b : Nat) : (State.alignDividers s a b).sealed = s.sealed := by
  unfold State.alignDividers; simp

@[simp] theorem State.switchoverProceed_sealed (s : State) (t : Nat) : (State.switchoverProceed s t).sealed = s.sealed := by
  unfold State.switchoverProceed; (repeat' split) <;> simp_all

theorem execResyncComplete_sealed (t : Nat) (align : Int) (s : State) (res : State) (h : execResyncComplete t align s = .next res) : res.sealed = s.sealed := by
  unfold execResyncComplete done at h
  rw [← Host.Outcome.next.inj h]; simp

theorem execResyncTimeout_sealed (t : Nat) (s : State) (res : State) (h : execResyncTimeout t s = .next res) : res.sealed = s.sealed := by
  unfold execResyncTimeout done at h
  rw [← Host.Outcome.next.inj h]; dsimp only; (repeat' split) <;> simp

theorem execFailedRetryExpiry_sealed (t : Nat) (s : State) (res : State) (h : execFailedRetryExpiry t s = .next res) : res.sealed = s.sealed := by
  unfold execFailedRetryExpiry done at h
  rw [← Host.Outcome.next.inj h]; simp

theorem execFailCauseGone_sealed (t : Nat) (s : State) (res : State) (h : execFailCauseGone t s = .next res) : res.sealed = s.sealed := by
  unfold execFailCauseGone done at h
  rw [← Host.Outcome.next.inj h]; simp

theorem execFirstTokenGrant_sealed (tenMs : Bool) (s : State) (res : State) (h : execFirstTokenGrant tenMs s = .next res) : res.sealed = s.sealed := by
  unfold execFirstTokenGrant done at h; rw [← Host.Outcome.next.inj h]; simp

@[simp] theorem State.reportMove_sealed (s : State) (old : Option Nat) (new : Nat) : (State.reportMove s old new).sealed = s.sealed := by
  unfold State.reportMove; dsimp only; (repeat' split) <;> simp

@[simp] theorem State.switchEpoch_sealed (s : State) : (State.switchEpoch s).sealed = s.sealed := by
  unfold State.switchEpoch; dsimp only; (repeat' split) <;> simp

@[simp] theorem State.lockstepLost_sealed (s : State) : (State.lockstepLost s).sealed = s.sealed := by
  unfold State.lockstepLost; simp

theorem execLockstepLost_sealed (s : State) (res : State) (h : execLockstepLost s = .next res) : res.sealed = s.sealed := by
  unfold execLockstepLost done at h; rw [← Host.Outcome.next.inj h]; simp

theorem execRevertHoldoffExpiry_sealed (s : State) (res : State) (h : execRevertHoldoffExpiry s = .next res) : res.sealed = s.sealed := by
  unfold execRevertHoldoffExpiry done at h
  rw [← Host.Outcome.next.inj h]; simp

@[simp] theorem State.dualClaim_sealed (s : State) : (State.dualClaim s).sealed = s.sealed := by
  unfold State.dualClaim; simp

theorem execDualClaim_sealed (s : State) (res : State) (h : execDualClaim s = .next res) : res.sealed = s.sealed := by
  unfold execDualClaim done at h
  rw [← Host.Outcome.next.inj h]; simp

theorem execTimeDisagree_sealed (s : State) (res : State) (h : execTimeDisagree s = .next res) : res.sealed = s.sealed := by
  unfold execTimeDisagree done at h; rw [← Host.Outcome.next.inj h]; simp

theorem execTimeJudgement_sealed (ms : List (Nat × Int × Int)) (s : State) (res : State) (h : execTimeJudgement ms s = .next res) : res.sealed = s.sealed := by
  unfold execTimeJudgement done at h; rw [← Host.Outcome.next.inj h]; simp

theorem execStandbyTcuFailure_sealed (t : Nat) (code : Nat) (s : State) (res : State) (h : execStandbyTcuFailure t code s = .next res) : res.sealed = s.sealed := by
  unfold execStandbyTcuFailure done at h
  rw [← Host.Outcome.next.inj h]; simp

theorem execStandbyReadyAfterAbandon_sealed (t : Nat) (s : State) (res : State) (h : execStandbyReadyAfterAbandon t s = .next res) : res.sealed = s.sealed := by
  unfold execStandbyReadyAfterAbandon done at h
  rw [← Host.Outcome.next.inj h]; dsimp only; (repeat' split) <;> simp

theorem execMirrorCheckWordsResumed_sealed (t : Nat) (s : State) (res : State) (h : execMirrorCheckWordsResumed t s = .next res) : res.sealed = s.sealed := by
  unfold execMirrorCheckWordsResumed done at h
  rw [← Host.Outcome.next.inj h]; dsimp only; (repeat' split) <;> simp

@[simp] theorem State.startSwitchover_sealed (k : Cmd) (s : State) : (State.startSwitchover k s).sealed = s.sealed := by
  unfold State.startSwitchover; simp

@[simp] theorem State.startFwStage_sealed (k : Cmd) (s : State) : (State.startFwStage k s).sealed = s.sealed := by
  unfold State.startFwStage; simp

@[simp] theorem State.setFirm_sealed (s : State) (t : Nat) (f : Firm) : (State.setFirm s t f).sealed = s.sealed := by
  unfold State.setFirm; simp

@[simp] theorem State.showFirm_sealed (s : State) (t : Nat) : (State.showFirm s t).sealed = s.sealed := by
  unfold State.showFirm; simp

theorem execTcuFwVerified_sealed (signed : Bool) (version : Nat) (fmt : Nat) (s : State) (res : State) (h : execTcuFwVerified signed version fmt s = .next res) : res.sealed = s.sealed := by
  unfold execTcuFwVerified done at h
  rw [← Host.Outcome.next.inj h]; dsimp only; (repeat' split) <;> simp

@[simp] theorem State.takePll_sealed (s : State) (t : Nat) (r : Nat × Nat × Int × Nat) : (State.takePll s t r).sealed = s.sealed := by
  unfold State.takePll; simp

@[simp] theorem State.pllRestore_sealed (s : State) (t : Nat) : (State.pllRestore s t).sealed = s.sealed := by
  unfold State.pllRestore; (repeat' split) <;> simp_all

@[simp] theorem State.pllStart_sealed (s : State) (t : Nat) : (State.pllStart s t).sealed = s.sealed := by
  unfold State.pllStart; dsimp only; (repeat' split) <;> simp

@[simp] theorem State.synCtlWritten_sealed (s : State) (t : Nat) (v : Nat) : (State.synCtlWritten s t v).sealed = s.sealed := by
  unfold State.synCtlWritten; simp

theorem execPllCalStart_sealed (t : Nat) (s : State) (res : State) (h : execPllCalStart t s = .next res) : res.sealed = s.sealed := by
  unfold execPllCalStart done at h; rw [← Host.Outcome.next.inj h]; simp

@[simp] theorem State.pllLocked_sealed (s : State) (t : Nat) (band : Nat) (vtune : Nat) : (State.pllLocked s t band vtune).sealed = s.sealed := by
  unfold State.pllLocked; simp

theorem execPllCalEnd_sealed (t : Nat) (locked : Option Int) (band : Nat) (vtune : Nat) (s : State) (res : State) (h : execPllCalEnd t locked band vtune s = .next res) : res.sealed = s.sealed := by
  unfold execPllCalEnd done at h
  rw [← Host.Outcome.next.inj h]; dsimp only; (repeat' split) <;> simp

theorem execRefmulLocked_sealed (t : Nat) (s : State) (res : State) (h : execRefmulLocked t s = .next res) : res.sealed = s.sealed := by
  unfold execRefmulLocked done at h; rw [← Host.Outcome.next.inj h]; simp

theorem execBandFound_sealed (t : Nat) (band : Nat) (vtune : Nat) (s : State) (res : State) (h : execBandFound t band vtune s = .next res) : res.sealed = s.sealed := by
  unfold execBandFound done at h; dsimp only at h; (repeat' split at h) <;> (rw [← Host.Outcome.next.inj h]; simp)

theorem execSynLocked_sealed (t : Nat) (s : State) (res : State) (h : execSynLocked t s = .next res) : res.sealed = s.sealed := by
  unfold execSynLocked done at h
  rw [← Host.Outcome.next.inj h]; dsimp only; (repeat' split) <;> simp

@[simp] theorem State.setDivider_sealed (s : State) (t : Nat) (n : Nat) (x : Int) (k : Int) : (State.setDivider s t n x k).sealed = s.sealed := by
  unfold State.setDivider; simp

theorem execSyncRestart_sealed (t : Nat) (s : State) (res : State) (h : execSyncRestart t s = .next res) : res.sealed = s.sealed := by
  unfold execSyncRestart done at h
  rw [← Host.Outcome.next.inj h]; dsimp only; (repeat' split) <;> simp

@[simp] theorem State.klOne_sealed (s : State) (t : Nat) (n : Nat) : (State.klOne s t n).sealed = s.sealed := by
  unfold State.klOne; simp

@[simp] theorem State.klRephase_sealed (s : State) (t : Nat) : (State.klRephase s t).sealed = s.sealed := by
  unfold State.klRephase; simp

@[simp] theorem State.klTake_sealed (s : State) (t : Nat) (n : Nat) (x : Int) : (State.klTake s t n x).sealed = s.sealed := by
  unfold State.klTake; dsimp only; (repeat' split) <;> simp

@[simp] theorem State.syncEdge_sealed (s : State) (t : Nat) (rising : Bool) : (State.syncEdge s t rising).sealed = s.sealed := by
  unfold State.syncEdge; simp

theorem execSyncInEdge_sealed (rising : Bool) (s : State) (res : State) (h : execSyncInEdge rising s = .next res) : res.sealed = s.sealed := by
  unfold execSyncInEdge done at h; rw [← Host.Outcome.next.inj h]; simp

@[simp] theorem State.setSel_sealed (s : State) (t : Nat) (x : Nat) : (State.setSel s t x).sealed = s.sealed := by
  unfold State.setSel; simp

@[simp] theorem State.driveRate_sealed (s : State) (t : Nat) : (State.driveRate s t).sealed = s.sealed := by
  unfold State.driveRate; simp

@[simp] theorem State.setEst_sealed (s : State) (t : Nat) (e : Int) : (State.setEst s t e).sealed = s.sealed := by
  unfold State.setEst; simp

@[simp] theorem State.dropRem_sealed (s : State) (t : Nat) (all : Bool) : (State.dropRem s t all).sealed = s.sealed := by
  unfold State.dropRem; simp

@[simp] theorem State.enterHoldover_sealed (s : State) (t : Nat) : (State.enterHoldover s t).sealed = s.sealed := by
  unfold State.enterHoldover; simp

@[simp] theorem State.exitHoldover_sealed (s : State) (t : Nat) : (State.exitHoldover s t).sealed = s.sealed := by
  unfold State.exitHoldover; simp

@[simp] theorem State.showSel_sealed (s : State) (t : Nat) (x : Option Nat) : (State.showSel s t x).sealed = s.sealed := by
  unfold State.showSel; simp

@[simp] theorem State.domainSelectEnds_sealed (s : State) (r : Nat) : (State.domainSelectEnds s r).sealed = s.sealed := by
  unfold State.domainSelectEnds; (repeat' split) <;> simp_all

@[simp] theorem State.showNext_sealed (s : State) (t : Nat) (new : Option Nat) : (State.showNext s t new).sealed = s.sealed := by
  unfold State.showNext; dsimp only; (repeat' split) <;> simp

@[simp] theorem State.reselectOne_sealed (s : State) (t : Nat) : (State.reselectOne s t).sealed = s.sealed := by
  unfold State.reselectOne; dsimp only; (repeat' split) <;> simp

@[simp] theorem State.mirrorSel_sealed (s : State) (t : Nat) : (State.mirrorSel s t).sealed = s.sealed := by
  unfold State.mirrorSel; simp

@[simp] theorem State.reselect_sealed (s : State) (t : Nat) : (State.reselect s t).sealed = s.sealed := by
  unfold State.reselect; simp

@[simp] theorem State.setCand_sealed (s : State) (t : Nat) (k : Nat) (x : Nat) : (State.setCand s t k x).sealed = s.sealed := by
  unfold State.setCand; simp

@[simp] theorem State.candChange_sealed (s : State) (t : Nat) : (State.candChange s t).sealed = s.sealed := by
  unfold State.candChange; simp

@[simp] theorem State.agree_sealed (s : State) (t : Nat) (i : Nat) (j : Nat) : (State.agree s t i j).sealed = s.sealed := by
  unfold State.agree; simp

@[simp] theorem State.agreeAll_sealed (s : State) (t : Nat) (k : Nat) : (State.agreeAll s t k).sealed = s.sealed := by
  unfold State.agreeAll; simp

@[simp] theorem State.disqualify_sealed (s : State) (t : Nat) (k : Nat) (reason : Nat) : (State.disqualify s t k reason).sealed = s.sealed := by
  unfold State.disqualify; simp

@[simp] theorem State.synceCands_sealed (s : State) : (State.synceCands s).sealed = s.sealed := by
  unfold State.synceCands; simp

@[simp] theorem State.startSoak_sealed (s : State) (t : Nat) (k : Nat) (noWtr : Bool) : (State.startSoak s t k noWtr).sealed = s.sealed := by
  unfold State.startSoak; simp

@[simp] theorem State.takeParams_sealed (s : State) (t : Nat) (k : Nat) : (State.takeParams s t k).sealed = s.sealed := by
  unfold State.takeParams; simp

@[simp] theorem State.freshEdges_sealed (s : State) (t : Nat) (k : Nat) : (State.freshEdges s t k).sealed = s.sealed := by
  unfold State.freshEdges; simp

@[simp] theorem State.restartCand_sealed (s : State) (t : Nat) (k : Nat) : (State.restartCand s t k).sealed = s.sealed := by
  unfold State.restartCand; simp

@[simp] theorem State.qualify_sealed (s : State) (t : Nat) (k : Nat) : (State.qualify s t k).sealed = s.sealed := by
  unfold State.qualify; simp

@[simp] theorem State.wtrDone_sealed (s : State) (t : Nat) (k : Nat) : (State.wtrDone s t k).sealed = s.sealed := by
  unfold State.wtrDone; simp

@[simp] theorem State.soakDone_sealed (s : State) (t : Nat) (k : Nat) : (State.soakDone s t k).sealed = s.sealed := by
  unfold State.soakDone; simp

@[simp] theorem State.todAdvance_sealed (s : State) (t : Nat) (k : Nat) : (State.todAdvance s t k).sealed = s.sealed := by
  unfold State.todAdvance; simp

@[simp] theorem State.candEdge_sealed (s : State) (t : Nat) (k : Nat) (x : Nat) : (State.candEdge s t k x).sealed = s.sealed := by
  unfold State.candEdge; simp

theorem execTdcCapture_sealed (t : Nat) (c : Nat) (raw : Nat) (rising : Bool) (marker : Bool) (s : State) (res : State) (h : execTdcCapture t c raw rising marker s = .next res) : res.sealed = s.sealed := by
  unfold execTdcCapture done at h
  rw [← Host.Outcome.next.inj h]; dsimp only; (repeat' split) <;> simp

@[simp] theorem State.candEval_sealed (s : State) (t : Nat) (m : CandMeas) : (State.candEval s t m).sealed = s.sealed := by
  unfold State.candEval; simp

@[simp] theorem State.setPtpState_sealed (s : State) (t : Nat) (i : Nat) (x : Nat) (reason : Nat) (timer : Nat) : (State.setPtpState s t i x reason timer).sealed = s.sealed := by
  unfold State.setPtpState; simp

@[simp] theorem State.onTrk_sealed (s : State) (t : Nat) (i : Nat) (f : Trk → Trk) : (State.onTrk s t i f).sealed = s.sealed := by
  unfold State.onTrk; simp

@[simp] theorem State.ptpSoak_sealed (s : State) (t : Nat) (i : Nat) : (State.ptpSoak s t i).sealed = s.sealed := by
  unfold State.ptpSoak; simp

@[simp] theorem State.ptpEnWritten_sealed (s : State) (t : Nat) (i : Nat) : (State.ptpEnWritten s t i).sealed = s.sealed := by
  unfold State.ptpEnWritten; simp

@[simp] theorem State.ptpEval_sealed (s : State) (t : Nat) (i : Nat) : (State.ptpEval s t i).sealed = s.sealed := by
  unfold State.ptpEval; simp

@[simp] theorem State.estUpdate_sealed (s : State) (t : Nat) : (State.estUpdate s t).sealed = s.sealed := by
  unfold State.estUpdate; simp

@[simp] theorem State.driftGuard_sealed (s : State) (t : Nat) : (State.driftGuard s t).sealed = s.sealed := by
  unfold State.driftGuard; dsimp only; (repeat' split) <;> simp

@[simp] theorem State.disagreeCount_sealed (s : State) (t : Nat) : (State.disagreeCount s t).sealed = s.sealed := by
  unfold State.disagreeCount; simp

theorem execCandSecondEval_sealed (t : Nat) (ms : List CandMeas) (s : State) (res : State) (h : execCandSecondEval t ms s = .next res) : res.sealed = s.sealed := by
  unfold execCandSecondEval done at h
  rw [← Host.Outcome.next.inj h]; simp

theorem execCandLoss_sealed (t : Nat) (k : Nat) (s : State) (res : State) (h : execCandLoss t k s = .next res) : res.sealed = s.sealed := by
  unfold execCandLoss done at h
  rw [← Host.Outcome.next.inj h]; simp

theorem execCandSoakComplete_sealed (t : Nat) (k : Nat) (s : State) (res : State) (h : execCandSoakComplete t k s = .next res) : res.sealed = s.sealed := by
  unfold execCandSoakComplete done at h; rw [← Host.Outcome.next.inj h]; simp

theorem execCandWtrComplete_sealed (t : Nat) (k : Nat) (s : State) (res : State) (h : execCandWtrComplete t k s = .next res) : res.sealed = s.sealed := by
  unfold execCandWtrComplete done at h; rw [← Host.Outcome.next.inj h]; simp

theorem execDisagreementDetected_sealed (t : Nat) (a : Nat) (b : Nat) (s : State) (res : State) (h : execDisagreementDetected t a b s = .next res) : res.sealed = s.sealed := by
  unfold execDisagreementDetected done at h
  rw [← Host.Outcome.next.inj h]; dsimp only; (repeat' split) <;> simp

@[simp] theorem State.servoRate_sealed (s : State) (t : Nat) (err : Int) : (State.servoRate s t err).sealed = s.sealed := by
  unfold State.servoRate; simp

@[simp] theorem State.servoRemainder_sealed (s : State) (t : Nat) : (State.servoRemainder s t).sealed = s.sealed := by
  unfold State.servoRemainder; simp

@[simp] theorem State.noteError_sealed (s : State) (t : Nat) (err : Int) : (State.noteError s t err).sealed = s.sealed := by
  unfold State.noteError; simp

@[simp] theorem State.servo_sealed (s : State) (t : Nat) (x : Int) : (State.servo s t x).sealed = s.sealed := by
  unfold State.servo; dsimp only; (repeat' split) <;> simp

theorem execServoUpdate_sealed (t : Nat) (x : Int) (s : State) (res : State) (h : execServoUpdate t x s = .next res) : res.sealed = s.sealed := by
  unfold execServoUpdate done at h
  rw [← Host.Outcome.next.inj h]
  rw [State.settle_sealed]
  split
  · rfl
  · split
    · simp
    · split <;> simp

@[simp] theorem State.lock_sealed (s : State) (t : Nat) : (State.lock s t).sealed = s.sealed := by
  unfold State.lock; dsimp only; (repeat' split) <;> simp

theorem execLockDeclared_sealed (t : Nat) (s : State) (res : State) (h : execLockDeclared t s = .next res) : res.sealed = s.sealed := by
  unfold execLockDeclared done at h; rw [← Host.Outcome.next.inj h]; split <;> (try split) <;> (try split) <;> simp

@[simp] theorem State.slewEnds_sealed (s : State) (t : Nat) : (State.slewEnds s t).sealed = s.sealed := by
  unfold State.slewEnds; simp

@[simp] theorem State.holdSecond_sealed (s : State) (t : Nat) : (State.holdSecond s t).sealed = s.sealed := by
  unfold State.holdSecond; simp

theorem execHoldoverSecond_sealed (t : Nat) (s : State) (res : State) (h : execHoldoverSecond t s = .next res) : res.sealed = s.sealed := by
  unfold execHoldoverSecond done at h; rw [← Host.Outcome.next.inj h]; simp

@[simp] theorem State.candOff_sealed (s : State) (t : Nat) (k : Nat) : (State.candOff s t k).sealed = s.sealed := by
  unfold State.candOff; simp

@[simp] theorem State.candWritten_sealed (old : State) (t : Nat) (k : Nat) (s : State) : (State.candWritten old t k s).sealed = s.sealed := by
  unfold State.candWritten; simp

@[simp] theorem State.synceWritten_sealed (old : State) (t : Nat) (s : State) : (State.synceWritten old t s).sealed = s.sealed := by
  unfold State.synceWritten; simp

@[simp] theorem State.startDomainSelect_sealed (k : Cmd) (s : State) : (State.startDomainSelect k s).sealed = s.sealed := by
  unfold State.startDomainSelect; simp

@[simp] theorem State.txRecord_sealed (s : State) (i : Nat) (ws : List Nat) : (State.txRecord s i ws).sealed = s.sealed := by
  unfold State.txRecord; simp

@[simp] theorem State.dropTx_sealed (s : State) (p : Nat) : (State.dropTx s p).sealed = s.sealed := by
  unfold State.dropTx; dsimp only; (repeat' split) <;> simp

@[simp] theorem State.patchTx_sealed (s : State) (p : Nat) (i : Nat) (l : List Byte) (m : Msg1588) (ch : Changes) : (State.patchTx s p i l m ch).sealed = s.sealed := by
  unfold State.patchTx; simp

@[simp] theorem State.storeFu_sealed (s : State) (port : Nat) (u : Fu) : (State.storeFu s port u).sealed = s.sealed := by
  unfold State.storeFu; simp

@[simp] theorem State.trapOut_sealed (s : State) (f : Nat) (i : Nat) (reason : Nat) (m : Msg1588) : (State.trapOut s f i reason m).sealed = s.sealed := by
  unfold State.trapOut; simp

@[simp] theorem State.recordTx_sealed (s : State) (port : Nat) (i : Nat) (m : Msg1588) (t : Int) : (State.recordTx s port i m t).sealed = s.sealed := by
  unfold State.recordTx; simp

@[simp] theorem State.leaveOwn_sealed (s : State) (port : Nat) (i : Nat) (r : List Byte) (l : List Byte) (m : Msg1588) (t : Int) : (State.leaveOwn s port i r l m t).sealed = s.sealed := by
  unfold State.leaveOwn; (repeat' split) <;> simp_all

@[simp] theorem State.leaveFwd_sealed (s : State) (port : Nat) (i : Nat) (l : List Byte) (m : Msg1588) (t : Int) (q : PtpIn) : (State.leaveFwd s port i l m t q).sealed = s.sealed := by
  unfold State.leaveFwd; dsimp only; (repeat' split) <;> simp

@[simp] theorem State.leaveOther_sealed (s : State) (port : Nat) (i : Nat) (f : Nat) (x : Frame) (l : List Byte) (m : Msg1588) (t : Int) : (State.leaveOther s port i f x l m t).sealed = s.sealed := by
  unfold State.leaveOther; dsimp only; (repeat' split) <;> simp

@[simp] theorem State.ptpTx_sealed (s : State) (port : Nat) (tpcs : Int) : (State.ptpTx s port tpcs).sealed = s.sealed := by
  unfold State.ptpTx; dsimp only; (repeat' split) <;> simp

theorem execPtpEventTx_sealed (port : Nat) (tpcs : Int) (s : State) (res : State) (h : execPtpEventTx port tpcs s = .next res) : res.sealed = s.sealed := by
  unfold execPtpEventTx done at h; rw [← Host.Outcome.next.inj h]; simp

theorem execFuEntryExpiry_sealed (port : Nat) (s : State) (res : State) (h : execFuEntryExpiry port s = .next res) : res.sealed = s.sealed := by
  unfold execFuEntryExpiry done at h
  rw [← Host.Outcome.next.inj h]; dsimp only; (repeat' split) <;> simp

@[simp] theorem State.txtsLoad_sealed (s : State) (t : Nat) (i : Nat) : (State.txtsLoad s t i).sealed = s.sealed := by
  unfold State.txtsLoad; simp

@[simp] theorem State.txtsPop_sealed (s : State) (t : Nat) (i : Nat) : (State.txtsPop s t i).sealed = s.sealed := by
  unfold State.txtsPop; simp

@[simp] theorem State.trkClear_sealed (s : State) (t : Nat) (i : Nat) : (State.trkClear s t i).sealed = s.sealed := by
  unfold State.trkClear; simp

@[simp] theorem State.trkMode_sealed (old : State) (t : Nat) (i : Nat) (s : State) : (State.trkMode old t i s).sealed = s.sealed := by
  unfold State.trkMode; simp

@[simp] theorem State.smpPush_sealed (s : State) (t : Nat) (i : Nat) : (State.smpPush s t i).sealed = s.sealed := by
  unfold State.smpPush; simp

@[simp] theorem State.snapTrk_sealed (s : State) (t : Nat) : (State.snapTrk s t).sealed = s.sealed := by
  unfold State.snapTrk; simp

@[simp] theorem State.showDev_sealed (s : State) (p : Nat) (d : Int) : (State.showDev s p d).sealed = s.sealed := by
  unfold State.showDev; simp

@[simp] theorem State.ebRead_sealed (s : State) (p : Nat) : (State.ebRead s p).sealed = s.sealed := by
  unfold State.ebRead; simp

@[simp] theorem State.rxStart_sealed (s : State) (p : Nat) (f : Nat) (l : List Byte) (tpcs : Int) (start4 : Bool) (d : Int) : (State.rxStart s p f l tpcs start4 d).sealed = s.sealed := by
  unfold State.rxStart; simp

theorem execFrameRxStart_sealed (p : Nat) (f : Nat) (l : List Byte) (tpcs : Int) (start4 : Bool) (d : Int) (s : State) (res : State) (h : execFrameRxStart p f l tpcs start4 d s = .next res) : res.sealed = s.sealed := by
  unfold execFrameRxStart done at h; rw [← Host.Outcome.next.inj h]; simp

theorem execCellArrival_sealed (f : Nat) (l : List Byte) (s : State) (res : State) (h : execCellArrival f l s = .next res) : res.sealed = s.sealed := by
  unfold execCellArrival done at h; rw [← Host.Outcome.next.inj h]; simp

@[simp] theorem State.countBad_sealed (s : State) (p : Nat) (v : Verdict) : (State.countBad s p v).sealed = s.sealed := by
  unfold State.countBad; (repeat' split) <;> simp_all

@[simp] theorem State.giveEngines_sealed (s : State) (x : Frame) : (State.giveEngines s x).sealed = s.sealed := by
  unfold State.giveEngines; simp

@[simp] theorem State.pauseEnd_sealed (s : State) (p : Nat) : (State.pauseEnd s p).sealed = s.sealed := by
  unfold State.pauseEnd; simp

@[simp] theorem State.pauseRx_sealed (s : State) (p : Nat) (quanta : Nat) : (State.pauseRx s p quanta).sealed = s.sealed := by
  unfold State.pauseRx; simp

@[simp] theorem State.macControl_sealed (s : State) (p : Nat) (l : List Byte) : (State.macControl s p l).sealed = s.sealed := by
  unfold State.macControl; simp

@[simp] theorem State.pauseFrame_sealed (s : State) (p : Nat) (quanta : Nat) : (State.pauseFrame s p quanta).sealed = s.sealed := by
  unfold State.pauseFrame; simp

theorem execPauseRx_sealed (p : Nat) (quanta : Nat) (s : State) (res : State) (h : execPauseRx p quanta s = .next res) : res.sealed = s.sealed := by
  unfold execPauseRx done at h; rw [← Host.Outcome.next.inj h]; simp

@[simp] theorem State.countErrs_sealed (s : State) (p : Nat) (errs : List Nat) : (State.countErrs s p errs).sealed = s.sealed := by
  unfold State.countErrs; simp

@[simp] theorem State.rxEnd_sealed (s : State) (f : Nat) (errs : List Nat) (cut : Bool) : (State.rxEnd s f errs cut).sealed = s.sealed := by
  unfold State.rxEnd; simp

theorem execFrameRxEnd_sealed (f : Nat) (errs : List Nat) (cut : Bool) (s : State) (res : State) (h : execFrameRxEnd f errs cut s = .next res) : res.sealed = s.sealed := by
  unfold execFrameRxEnd done at h
  rw [← Host.Outcome.next.inj h]; simp

theorem execPauseTimerExpiry_sealed (p : Nat) (s : State) (res : State) (h : execPauseTimerExpiry p s = .next res) : res.sealed = s.sealed := by
  unfold execPauseTimerExpiry done at h; rw [← Host.Outcome.next.inj h]; simp

theorem execPauseRefresh_sealed (p : Nat) (s : State) (res : State) (h : execPauseRefresh p s = .next res) : res.sealed = s.sealed := by
  unfold execPauseRefresh done at h
  rw [← Host.Outcome.next.inj h]; simp

@[simp] theorem State.settlePause_sealed (s : State) (p : Nat) : (State.settlePause s p).sealed = s.sealed := by
  unfold State.settlePause; simp

@[simp] theorem State.octetsRead_sealed (s : State) (p : Nat) (tx : Bool) : (s.octetsRead p tx).2.sealed = s.sealed := by
  unfold State.octetsRead; simp

@[simp] theorem State.enter_sealed (s : State) (d : TxDesc) (src : Nat) (f : Nat) (r : List Byte) (l : List Byte) : (State.enter s d src f r l).sealed = s.sealed := by
  unfold State.enter; simp

@[simp] theorem State.submit_sealed (s : State) (src : Nat) (w2 : Nat) (w3 : Nat) (f : Nat) (l : List Byte) : (State.submit s src w2 w3 f l).sealed = s.sealed := by
  unfold State.submit; dsimp only; (repeat' split) <;> simp

@[simp] theorem State.prodWritten_sealed (old : State) (c : Nat) (prod : Fld) (cons : Fld) (size : Nat) (s : State) : (State.prodWritten old c prod cons size s).sealed = s.sealed := by
  unfold State.prodWritten; simp

@[simp] theorem State.hostTx_sealed (s : State) (src : Nat) (ds : List (List Nat)) (l : Option (List Byte)) (f : Nat) : (State.hostTx s src ds l f).sealed = s.sealed := by
  unfold State.hostTx; dsimp only; (repeat' split) <;> simp

theorem execHostTxFrame_sealed (src : Nat) (ds : List (List Nat)) (l : Option (List Byte)) (f : Nat) (s : State) (res : State) (h : execHostTxFrame src ds l f s = .next res) : res.sealed = s.sealed := by
  unfold execHostTxFrame done at h; rw [← Host.Outcome.next.inj h]; simp

@[simp] theorem State.txfWrite_sealed (s : State) (c : Nat) (v : Nat) : (State.txfWrite s c v).sealed = s.sealed := by
  unfold State.txfWrite; simp

@[simp] theorem State.inbandPacket_sealed (s : State) (port : Nat) (sa : Nat) (l : List Byte) : (State.inbandPacket s port sa l).sealed = s.sealed := by
  unfold State.inbandPacket; simp

theorem execInbandPacketRx_sealed (port : Nat) (sa : Nat) (l : List Byte) (s : State) (res : State) (h : execInbandPacketRx port sa l s = .next res) : res.sealed = s.sealed := by
  unfold execInbandPacketRx done at h; rw [← Host.Outcome.next.inj h]; simp

@[simp] theorem State.rxDrop_sealed (s : State) (c : Nat) : (State.rxDrop s c).sealed = s.sealed := by
  unfold State.rxDrop; simp

@[simp] theorem State.giveHost_sealed (s : State) (c : Nat) (k : HostCopy) (x : Frame) : (State.giveHost s c k x).sealed = s.sealed := by
  unfold State.giveHost; simp

@[simp] theorem State.hostRx_sealed (s : State) (c : Nat) (corr : List Nat) (bad : Option Nat) : (State.hostRx s c corr bad).sealed = s.sealed := by
  unfold State.hostRx; dsimp only; (repeat' split) <;> simp

theorem execHostRxDelivery_sealed (c : Nat) (corr : List Nat) (bad : Option Nat) (s : State) (res : State) (h : execHostRxDelivery c corr bad s = .next res) : res.sealed = s.sealed := by
  unfold execHostRxDelivery done at h; rw [← Host.Outcome.next.inj h]; simp

@[simp] theorem State.rxfRead_sealed (s : State) (c : Nat) : (s.rxfRead c).2.sealed = s.sealed := by
  unfold State.rxfRead; split <;> simp

@[simp] theorem State.packetReset_sealed (s : State) (c : Nat) : (State.packetReset s c).sealed = s.sealed := by
  unfold State.packetReset; simp

@[simp] theorem State.voqLatch_sealed (s : State) : (State.voqLatch s).sealed = s.sealed := by
  unfold State.voqLatch; simp

@[simp] theorem State.wipeVat_sealed (s : State) : (State.wipeVat s).sealed = s.sealed := by
  unfold State.wipeVat; simp

@[simp] theorem State.walkStart_sealed (s : State) (reclaim : Bool) (periodic : Bool) : (State.walkStart s reclaim periodic).sealed = s.sealed := by
  unfold State.walkStart; simp

@[simp] theorem State.startWheyAudit_sealed (k : Cmd) (s : State) : (State.startWheyAudit k s).sealed = s.sealed := by
  unfold State.startWheyAudit; (repeat' split) <;> simp_all

@[simp] theorem State.walkOver_sealed (s : State) : (State.walkOver s).sealed = s.sealed := by
  unfold State.walkOver; dsimp only; (repeat' split) <;> simp

@[simp] theorem State.walkEnd_sealed (s : State) : (State.walkEnd s).sealed = s.sealed := by
  unfold State.walkEnd; dsimp only; (repeat' split) <;> simp

theorem execWheyWalkEnd_sealed (s : State) (res : State) (h : execWheyWalkEnd s = .next res) : res.sealed = s.sealed := by
  unfold execWheyWalkEnd done at h; rw [← Host.Outcome.next.inj h]; simp

@[simp] theorem State.wheyWritten_sealed (old : State) (s : State) : (State.wheyWritten old s).sealed = s.sealed := by
  unfold State.wheyWritten; simp

theorem execWheyPeriodicStart_sealed (s : State) (res : State) (h : execWheyPeriodicStart s = .next res) : res.sealed = s.sealed := by
  unfold execWheyPeriodicStart done at h
  rw [← Host.Outcome.next.inj h]; dsimp only; (repeat' split) <;> simp

@[simp] theorem State.onLane_sealed (s : State) (p : Nat) (f : Lane → Lane) : (State.onLane s p f).sealed = s.sealed := by
  unfold State.onLane; simp

@[simp] theorem State.setLink_sealed (s : State) (p : Nat) (x : Nat) : (State.setLink s p x).sealed = s.sealed := by
  unfold State.setLink; simp

@[simp] theorem State.setLat_sealed (s : State) (p : Nat) : (State.setLat s p).sealed = s.sealed := by
  unfold State.setLat; simp

@[simp] theorem State.setMode_sealed (s : State) (p : Nat) (x : Nat) : (State.setMode s p x).sealed = s.sealed := by
  unfold State.setMode; simp

@[simp] theorem State.loadFir_sealed (s : State) (p : Nat) : (State.loadFir s p).sealed = s.sealed := by
  unfold State.loadFir; simp

@[simp] theorem State.firWritten_sealed (s : State) (p : Nat) : (State.firWritten s p).sealed = s.sealed := by
  unfold State.firWritten; simp

@[simp] theorem State.openLane_sealed (s : State) (p : Nat) : (State.openLane s p).sealed = s.sealed := by
  unfold State.openLane; simp

@[simp] theorem State.squelch_sealed (s : State) (p : Nat) : (State.squelch s p).sealed = s.sealed := by
  unfold State.squelch; simp

@[simp] theorem State.unsquelch_sealed (s : State) (p : Nat) : (State.unsquelch s p).sealed = s.sealed := by
  unfold State.unsquelch; simp

@[simp] theorem State.eyeEnd_sealed (s : State) (p : Nat) (aborted : Bool) : (State.eyeEnd s p aborted).sealed = s.sealed := by
  unfold State.eyeEnd; simp

@[simp] theorem State.eyeBegin_sealed (s : State) (p : Nat) : (State.eyeBegin s p).sealed = s.sealed := by
  unfold State.eyeBegin; simp

@[simp] theorem State.eyeStart_sealed (s : State) (p : Nat) : (State.eyeStart s p).sealed = s.sealed := by
  unfold State.eyeStart; simp

@[simp] theorem State.eyeResume_sealed (s : State) (p : Nat) : (State.eyeResume s p).sealed = s.sealed := by
  unfold State.eyeResume; simp

@[simp] theorem State.eyeLost_sealed (s : State) (p : Nat) : (State.eyeLost s p).sealed = s.sealed := by
  unfold State.eyeLost; simp

theorem execEyeDone_sealed (p : Nat) (errs : Nat) (s : State) (res : State) (h : execEyeDone p errs s = .next res) : res.sealed = s.sealed := by
  unfold execEyeDone done at h
  rw [← Host.Outcome.next.inj h]; simp

@[simp] theorem State.lockClear_sealed (s : State) (p : Nat) : (State.lockClear s p).sealed = s.sealed := by
  unfold State.lockClear; simp

@[simp] theorem State.attempt_sealed (s : State) (p : Nat) : (State.attempt s p).sealed = s.sealed := by
  unfold State.attempt; simp

@[simp] theorem State.restoreAdv_sealed (s : State) (p : Nat) : (State.restoreAdv s p).sealed = s.sealed := by
  unfold State.restoreAdv; simp

@[simp] theorem State.startAn_sealed (s : State) (p : Nat) : (State.startAn s p).sealed = s.sealed := by
  unfold State.startAn; simp

@[simp] theorem State.startC37_sealed (s : State) (p : Nat) : (State.startC37 s p).sealed = s.sealed := by
  unfold State.startC37; simp

@[simp] theorem State.restartAn_sealed (s : State) (p : Nat) : (State.restartAn s p).sealed = s.sealed := by
  unfold State.restartAn; simp

@[simp] theorem State.linkUp_sealed (s : State) (p : Nat) : (State.linkUp s p).sealed = s.sealed := by
  unfold State.linkUp; simp

@[simp] theorem State.lockCheck_sealed (s : State) (p : Nat) : (State.lockCheck s p).sealed = s.sealed := by
  unfold State.lockCheck; simp

@[simp] theorem State.putPattern_sealed (s : State) (p : Nat) : (State.putPattern s p).sealed = s.sealed := by
  unfold State.putPattern; simp

@[simp] theorem State.locking_sealed (s : State) (p : Nat) : (State.locking s p).sealed = s.sealed := by
  unfold State.locking; simp

@[simp] theorem State.patStop_sealed (s : State) (p : Nat) : (State.patStop s p).sealed = s.sealed := by
  unfold State.patStop; simp

@[simp] theorem State.patWritten_sealed (old : State) (p : Nat) (s : State) : (State.patWritten old p s).sealed = s.sealed := by
  unfold State.patWritten; simp

@[simp] theorem State.linkDown_sealed (s : State) (p : Nat) : (State.linkDown s p).sealed = s.sealed := by
  unfold State.linkDown; dsimp only; (repeat' split) <;> simp

@[simp] theorem State.enablePort_sealed (s : State) (p : Nat) (mode : Nat) (test : Bool) : (State.enablePort s p mode test).sealed = s.sealed := by
  unfold State.enablePort; simp

@[simp] theorem State.startPortEnable_sealed (k : Cmd) (s : State) : (State.startPortEnable k s).sealed = s.sealed := by
  unfold State.startPortEnable; simp

@[simp] theorem State.showLp_sealed (s : State) (p : Nat) (lp : Nat) : (State.showLp s p lp).sealed = s.sealed := by
  unfold State.showLp; simp

@[simp] theorem State.anMode_sealed (s : State) (p : Nat) (mode : Nat) : (State.anMode s p mode).sealed = s.sealed := by
  unfold State.anMode; simp

@[simp] theorem State.anResolved_sealed (s : State) (p : Nat) (lp : Nat) : (State.anResolved s p lp).sealed = s.sealed := by
  unfold State.anResolved; dsimp only; (repeat' split) <;> simp

theorem execAnResolved_sealed (p : Nat) (lp : Nat) (s : State) (res : State) (h : execAnResolved p lp s = .next res) : res.sealed = s.sealed := by
  unfold execAnResolved done at h; rw [← Host.Outcome.next.inj h]; simp

theorem execClause37LinkTimer_sealed (p : Nat) (s : State) (res : State) (h : execClause37LinkTimer p s = .next res) : res.sealed = s.sealed := by
  unfold execClause37LinkTimer done at h; rw [← Host.Outcome.next.inj h]; simp

theorem execClause37Complete_sealed (p : Nat) (pause : Bool) (asm : Bool) (s : State) (res : State) (h : execClause37Complete p pause asm s = .next res) : res.sealed = s.sealed := by
  unfold execClause37Complete done at h; rw [← Host.Outcome.next.inj h]; simp

@[simp] theorem State.trainRequest_sealed (s : State) (p : Nat) (kind : Nat) (pre : Nat) (main : Nat) (post : Nat) : (State.trainRequest s p kind pre main post).sealed = s.sealed := by
  unfold State.trainRequest; simp

theorem execTrainingRequest_sealed (p : Nat) (kind : Nat) (pre : Nat) (main : Nat) (post : Nat) (s : State) (res : State) (h : execTrainingRequest p kind pre main post s = .next res) : res.sealed = s.sealed := by
  unfold execTrainingRequest done at h; rw [← Host.Outcome.next.inj h]; simp

theorem execTrainingComplete_sealed (p : Nat) (s : State) (res : State) (h : execTrainingComplete p s = .next res) : res.sealed = s.sealed := by
  unfold execTrainingComplete done at h; rw [← Host.Outcome.next.inj h]; simp

theorem execMaxWaitExpiry_sealed (p : Nat) (s : State) (res : State) (h : execMaxWaitExpiry p s = .next res) : res.sealed = s.sealed := by
  unfold execMaxWaitExpiry done at h
  rw [← Host.Outcome.next.inj h]; simp

theorem execBackoffExpiry_sealed (p : Nat) (s : State) (res : State) (h : execBackoffExpiry p s = .next res) : res.sealed = s.sealed := by
  unfold execBackoffExpiry done at h
  rw [← Host.Outcome.next.inj h]; simp

theorem execTrainingFrameLock_sealed (p : Nat) (s : State) (res : State) (h : execTrainingFrameLock p s = .next res) : res.sealed = s.sealed := by
  unfold execTrainingFrameLock done at h; rw [← Host.Outcome.next.inj h]; simp

theorem execQuietExpiry_sealed (p : Nat) (s : State) (res : State) (h : execQuietExpiry p s = .next res) : res.sealed = s.sealed := by
  unfold execQuietExpiry done at h
  rw [← Host.Outcome.next.inj h]; simp

theorem execSignalStable_sealed (p : Nat) (s : State) (res : State) (h : execSignalStable p s = .next res) : res.sealed = s.sealed := by
  unfold execSignalStable done at h; rw [← Host.Outcome.next.inj h]; simp

@[simp] theorem State.portLos_sealed (s : State) (p : Nat) (seen : Bool) : (State.portLos s p seen).sealed = s.sealed := by
  unfold State.portLos; simp

theorem execLanePllLost_sealed (p : Nat) (locked : Bool) (s : State) (res : State) (h : execLanePllLost p locked s = .next res) : res.sealed = s.sealed := by
  unfold execLanePllLost done at h; rw [← Host.Outcome.next.inj h]; simp

@[simp] theorem State.showBusy_sealed (s : State) (p : Nat) : (State.showBusy s p).sealed = s.sealed := by
  unfold State.showBusy; simp

@[simp] theorem State.discardVoq_sealed (s : State) (k : Cmd) (v : Nat) : (State.discardVoq s k v).sealed = s.sealed := by
  unfold State.discardVoq; simp

@[simp] theorem State.discardAll_sealed (s : State) (k : Cmd) : (State.discardAll s k).sealed = s.sealed := by
  unfold State.discardAll; simp

@[simp] theorem State.portDisabled_sealed (s : State) (p : Nat) : (State.portDisabled s p).sealed = s.sealed := by
  unfold State.portDisabled; simp

@[simp] theorem State.drainDone_sealed (s : State) (k : Cmd) : (State.drainDone s k).sealed = s.sealed := by
  unfold State.drainDone; simp

@[simp] theorem State.drainCheck_sealed (s : State) (k : Cmd) : (State.drainCheck s k).sealed = s.sealed := by
  unfold State.drainCheck; simp

@[simp] theorem State.startPortDisable_sealed (k : Cmd) (s : State) : (State.startPortDisable k s).sealed = s.sealed := by
  unfold State.startPortDisable; simp

@[simp] theorem State.startQueueDisable_sealed (k : Cmd) (s : State) : (State.startQueueDisable k s).sealed = s.sealed := by
  unfold State.startQueueDisable; simp

@[simp] theorem State.startQueueEnable_sealed (k : Cmd) (s : State) : (State.startQueueEnable k s).sealed = s.sealed := by
  unfold State.startQueueEnable; simp

@[simp] theorem State.onTrunk_sealed (s : State) (n : Nat) (f : Trunk → Trunk) : (State.onTrunk s n f).sealed = s.sealed := by
  unfold State.onTrunk; simp

@[simp] theorem State.onNt_sealed (s : State) (t : Nat) (n : Nat) (f : NtTime → NtTime) : (State.onNt s t n f).sealed = s.sealed := by
  unfold State.onNt; simp

@[simp] theorem State.setTstate_sealed (s : State) (n : Nat) (x : Nat) : (State.setTstate s n x).sealed = s.sealed := by
  unfold State.setTstate; simp

@[simp] theorem State.lanes4_sealed (s : State) (n : Nat) (f : Nat → State → State) (h : ∀ i a, (f i a).sealed = a.sealed) : (State.lanes4 s n f).sealed = s.sealed := by
  unfold State.lanes4; (repeat' split) <;> simp_all

@[simp] theorem State.badBlock_sealed (s : State) (n : Nat) : (State.badBlock s n).sealed = s.sealed := by
  unfold State.badBlock; simp

@[simp] theorem State.showNt_sealed (s : State) (n : Nat) : (State.showNt s n).sealed = s.sealed := by
  unfold State.showNt; dsimp only; (repeat' split) <;> simp

@[simp] theorem State.judgeEst_sealed (s : State) (t : Nat) (n : Nat) : (State.judgeEst s t n).sealed = s.sealed := by
  unfold State.judgeEst; simp

@[simp] theorem State.estWritten_sealed (s : State) (n : Nat) : (State.estWritten s n).sealed = s.sealed := by
  unfold State.estWritten; simp

@[simp] theorem State.addDelta_sealed (s : State) (t : Nat) (n : Nat) (d : Int) : (State.addDelta s t n d).sealed = s.sealed := by
  unfold State.addDelta; simp

@[simp] theorem State.pairUp_sealed (s : State) (t : Nat) (n : Nat) : (State.pairUp s t n).sealed = s.sealed := by
  unfold State.pairUp; dsimp only; (repeat' split) <;> simp

@[simp] theorem State.trunkCands_sealed (s : State) (n : Nat) (reason : Nat) : (State.trunkCands s n reason).sealed = s.sealed := by
  unfold State.trunkCands; simp

@[simp] theorem State.showFill_sealed (s : State) (n : Nat) (lane : Nat) : (State.showFill s n lane).sealed = s.sealed := by
  unfold State.showFill; simp

@[simp] theorem State.noteMark_sealed (s : State) (n : Nat) (lane : Nat) (k : Nat) (tpcs : Int) : (State.noteMark s n lane k tpcs).sealed = s.sealed := by
  unfold State.noteMark; simp

@[simp] theorem State.markerRx_sealed (s : State) (n : Nat) (lane : Nat) (kind : Nat) (p : Nat) (tpcs : Int) : (State.markerRx s n lane kind p tpcs).sealed = s.sealed := by
  unfold State.markerRx; simp

theorem execMarkerBlockRx_sealed (n : Nat) (lane : Nat) (kind : Nat) (p : Nat) (tpcs : Int) (s : State) (res : State) (h : execMarkerBlockRx n lane kind p tpcs s = .next res) : res.sealed = s.sealed := by
  unfold execMarkerBlockRx done at h; rw [← Host.Outcome.next.inj h]; simp

@[simp] theorem State.echoRx_sealed (s : State) (n : Nat) (kind : Nat) (p : Nat) : (State.echoRx s n kind p).sealed = s.sealed := by
  unfold State.echoRx; dsimp only; (repeat' split) <;> simp

theorem execEchoRx_sealed (n : Nat) (kind : Nat) (p : Nat) (s : State) (res : State) (h : execEchoRx n kind p s = .next res) : res.sealed = s.sealed := by
  unfold execEchoRx done at h; rw [← Host.Outcome.next.inj h]; simp

@[simp] theorem State.timeRx_sealed (s : State) (n : Nat) (kind : Nat) (p : Nat) : (State.timeRx s n kind p).sealed = s.sealed := by
  unfold State.timeRx; simp

theorem execTimeBlockRx_sealed (n : Nat) (kind : Nat) (p : Nat) (s : State) (res : State) (h : execTimeBlockRx n kind p s = .next res) : res.sealed = s.sealed := by
  unfold execTimeBlockRx done at h; rw [← Host.Outcome.next.inj h]; simp

theorem execTimeBlockLoss_sealed (n : Nat) (s : State) (res : State) (h : execTimeBlockLoss n s = .next res) : res.sealed = s.sealed := by
  unfold execTimeBlockLoss done at h; rw [← Host.Outcome.next.inj h]; simp

@[simp] theorem State.markerSeen_sealed (s : State) (t : Nat) (n : Nat) (m : Nat) (t3 : Int) : (State.markerSeen s t n m t3).sealed = s.sealed := by
  unfold State.markerSeen; simp

theorem execEpochMarkerCapture_sealed (t : Nat) (n : Nat) (raw : Nat) (marker : Bool) (m : Nat) (s : State) (res : State) (h : execEpochMarkerCapture t n raw marker m s = .next res) : res.sealed = s.sealed := by
  unfold execEpochMarkerCapture done at h; rw [← Host.Outcome.next.inj h]; simp

@[simp] theorem State.firstEnds_sealed (s : State) (n : Nat) (r : Nat) : (State.firstEnds s n r).sealed = s.sealed := by
  unfold State.firstEnds; simp

@[simp] theorem State.trunkAttempt_sealed (s : State) (n : Nat) : (State.trunkAttempt s n).sealed = s.sealed := by
  unfold State.trunkAttempt; simp

@[simp] theorem State.trunkFails_sealed (s : State) (n : Nat) (cause : Nat) : (State.trunkFails s n cause).sealed = s.sealed := by
  unfold State.trunkFails; simp

@[simp] theorem State.enableTrunk_sealed (s : State) (n : Nat) : (State.enableTrunk s n).sealed = s.sealed := by
  unfold State.enableTrunk; simp

@[simp] theorem State.startHello_sealed (s : State) (n : Nat) : (State.startHello s n).sealed = s.sealed := by
  unfold State.startHello; simp

theorem execTrunkTrainingComplete_sealed (n : Nat) (s : State) (res : State) (h : execTrunkTrainingComplete n s = .next res) : res.sealed = s.sealed := by
  unfold execTrunkTrainingComplete done at h
  rw [← Host.Outcome.next.inj h]; simp

theorem execTrunkMaxWaitExpiry_sealed (n : Nat) (s : State) (res : State) (h : execTrunkMaxWaitExpiry n s = .next res) : res.sealed = s.sealed := by
  unfold execTrunkMaxWaitExpiry done at h; rw [← Host.Outcome.next.inj h]; simp

theorem execTrunkBackoffExpiry_sealed (n : Nat) (s : State) (res : State) (h : execTrunkBackoffExpiry n s = .next res) : res.sealed = s.sealed := by
  unfold execTrunkBackoffExpiry done at h
  rw [← Host.Outcome.next.inj h]; simp

theorem execTrunkFrameLock_sealed (n : Nat) (s : State) (res : State) (h : execTrunkFrameLock n s = .next res) : res.sealed = s.sealed := by
  unfold execTrunkFrameLock done at h; rw [← Host.Outcome.next.inj h]; simp

theorem execTrunkQuietExpiry_sealed (n : Nat) (s : State) (res : State) (h : execTrunkQuietExpiry n s = .next res) : res.sealed = s.sealed := by
  unfold execTrunkQuietExpiry done at h
  rw [← Host.Outcome.next.inj h]; simp

theorem execTrunkSignalStable_sealed (n : Nat) (s : State) (res : State) (h : execTrunkSignalStable n s = .next res) : res.sealed = s.sealed := by
  unfold execTrunkSignalStable done at h; rw [← Host.Outcome.next.inj h]; simp

theorem execTrunkAligned_sealed (n : Nat) (skew : Nat) (s : State) (res : State) (h : execTrunkAligned n skew s = .next res) : res.sealed = s.sealed := by
  unfold execTrunkAligned done at h; rw [← Host.Outcome.next.inj h]; simp

theorem execTrunkAligningTimeout_sealed (n : Nat) (s : State) (res : State) (h : execTrunkAligningTimeout n s = .next res) : res.sealed = s.sealed := by
  unfold execTrunkAligningTimeout done at h; rw [← Host.Outcome.next.inj h]; simp

@[simp] theorem State.trunkDown_sealed (s : State) (n : Nat) : (State.trunkDown s n).sealed = s.sealed := by
  unfold State.trunkDown; simp

@[simp] theorem State.trunkLost_sealed (s : State) (n : Nat) : (State.trunkLost s n).sealed = s.sealed := by
  unfold State.trunkLost; simp

@[simp] theorem State.agreeHello_sealed (s : State) (n : Nat) (h : Hello) : (State.agreeHello s n h).sealed = s.sealed := by
  unfold State.agreeHello; dsimp only; (repeat' split) <;> simp

@[simp] theorem State.helloRx_sealed (s : State) (n : Nat) (lane : Nat) (kind : Nat) (p : Nat) : (State.helloRx s n lane kind p).sealed = s.sealed := by
  unfold State.helloRx; dsimp only; (repeat' split) <;> simp

theorem execHelloRx_sealed (n : Nat) (lane : Nat) (kind : Nat) (p : Nat) (s : State) (res : State) (h : execHelloRx n lane kind p s = .next res) : res.sealed = s.sealed := by
  unfold execHelloRx done at h; rw [← Host.Outcome.next.inj h]; simp

theorem execHelloTimeout_sealed (n : Nat) (s : State) (res : State) (h : execHelloTimeout n s = .next res) : res.sealed = s.sealed := by
  unfold execHelloTimeout done at h; rw [← Host.Outcome.next.inj h]; simp

theorem execClause73PagesRx_sealed (n : Nat) (s : State) (res : State) (h : execClause73PagesRx n s = .next res) : res.sealed = s.sealed := by
  unfold execClause73PagesRx done at h
  rw [← Host.Outcome.next.inj h]; simp

theorem execMarkerLoss_sealed (n : Nat) (s : State) (res : State) (h : execMarkerLoss n s = .next res) : res.sealed = s.sealed := by
  unfold execMarkerLoss done at h; rw [← Host.Outcome.next.inj h]; simp

theorem execRecentre_sealed (n : Nat) (lane : Nat) (s : State) (res : State) (h : execRecentre n lane s = .next res) : res.sealed = s.sealed := by
  unfold execRecentre done at h
  rw [← Host.Outcome.next.inj h]; simp

@[simp] theorem State.trunkOff_sealed (s : State) (n : Nat) : (State.trunkOff s n).sealed = s.sealed := by
  unfold State.trunkOff; simp

@[simp] theorem State.drainEnds_sealed (s : State) (k : Cmd) : (State.drainEnds s k).sealed = s.sealed := by
  unfold State.drainEnds; simp

@[simp] theorem State.startTrunkDisable_sealed (k : Cmd) (s : State) : (State.startTrunkDisable k s).sealed = s.sealed := by
  unfold State.startTrunkDisable; simp

theorem execDrainLimitExpiry_sealed (op : Nat) (obj : Nat) (s : State) (res : State) (h : execDrainLimitExpiry op obj s = .next res) : res.sealed = s.sealed := by
  unfold execDrainLimitExpiry done at h
  (repeat' split at h) <;> (rw [← Host.Outcome.next.inj h]; simp)

theorem execDrainComplete_sealed (op : Nat) (obj : Nat) (s : State) (res : State) (h : execDrainComplete op obj s = .next res) : res.sealed = s.sealed := by
  unfold execDrainComplete done at h; (repeat' split at h) <;> (rw [← Host.Outcome.next.inj h]; simp)

theorem execLosDeclared_sealed (p : Nat) (seen : Bool) (s : State) (res : State) (h : execLosDeclared p seen s = .next res) : res.sealed = s.sealed := by
  unfold execLosDeclared done at h; rw [← Host.Outcome.next.inj h]; simp

theorem execLosCleared_sealed (p : Nat) (s : State) (res : State) (h : execLosCleared p s = .next res) : res.sealed = s.sealed := by
  unfold execLosCleared done at h; rw [← Host.Outcome.next.inj h]; simp

theorem execBlockLockGained_sealed (p : Nat) (s : State) (res : State) (h : execBlockLockGained p s = .next res) : res.sealed = s.sealed := by
  unfold execBlockLockGained done at h
  rw [← Host.Outcome.next.inj h]; simp

theorem execBlockLockLost_sealed (p : Nat) (long : Bool) (sh : Nat) (s : State) (res : State) (h : execBlockLockLost p long sh s = .next res) : res.sealed = s.sealed := by
  unfold execBlockLockLost done at h; rw [← Host.Outcome.next.inj h]; simp

theorem execHiBerSet_sealed (p : Nat) (sh : Nat) (s : State) (res : State) (h : execHiBerSet p sh s = .next res) : res.sealed = s.sealed := by
  unfold execHiBerSet done at h; rw [← Host.Outcome.next.inj h]; simp

@[simp] theorem State.cadBoth_sealed (s : State) (f : Nat → State → State) (h : ∀ i a, (f i a).sealed = a.sealed) : (State.cadBoth s f).sealed = s.sealed := by
  unfold State.cadBoth; (repeat' split) <;> simp_all

@[simp] theorem State.cadCount_sealed (s : State) (f : Fld) (n : Nat) : (State.cadCount s f n).sealed = s.sealed := by
  unfold State.cadCount; simp

@[simp] theorem State.cadCause_sealed (s : State) (b : Nat) : (State.cadCause s b).sealed = s.sealed := by
  unfold State.cadCause; simp

@[simp] theorem State.gwBoth_sealed (s : State) (f : Nat → State → State) (h : ∀ i a, (f i a).sealed = a.sealed) : (State.gwBoth s f).sealed = s.sealed := by
  unfold State.gwBoth; (repeat' split) <;> simp_all

@[simp] theorem State.cadErrCount_sealed (s : State) (tbl : Nat) (idx : Nat) (i : Nat) : (State.cadErrCount s tbl idx i).sealed = s.sealed := by
  unfold State.cadErrCount; simp

@[simp] theorem State.cadStage_sealed (s : State) (p : Nat) (i : Nat) (w : Nat) : (State.cadStage s p i w).sealed = s.sealed := by
  unfold State.cadStage; simp

@[simp] theorem State.cadPut_sealed (s : State) (t : Nat) (tbl : Nat) (idx : Nat) (first : Nat) (ws : List Nat) : (State.cadPut s t tbl idx first ws).sealed = s.sealed := by
  unfold State.cadPut; simp

@[simp] theorem State.cadWrite_sealed (s : State) (p : Nat) : (State.cadWrite s p).sealed = s.sealed := by
  unfold State.cadWrite; simp

@[simp] theorem State.cadRead_sealed (s : State) (p : Nat) : (State.cadRead s p).sealed = s.sealed := by
  unfold State.cadRead; simp

@[simp] theorem State.onSrc_sealed (s : State) (tbl : Nat) (idx : Nat) (hoop : Nat) (f : CadSrc → CadSrc) : (State.onSrc s tbl idx hoop f).sealed = s.sealed := by
  unfold State.onSrc; simp

@[simp] theorem State.countMissing_sealed (s : State) (tbl : Nat) (idx : Nat) (hoop : Nat) : (State.countMissing s tbl idx hoop).sealed = s.sealed := by
  unfold State.countMissing; simp

@[simp] theorem State.countLate_sealed (s : State) (tbl : Nat) (idx : Nat) (hoop : Nat) : (State.countLate s tbl idx hoop).sealed = s.sealed := by
  unfold State.countLate; simp

@[simp] theorem State.countUnmapped_sealed (s : State) (tbl : Nat) (idx : Nat) (hoop : Nat) : (State.countUnmapped s tbl idx hoop).sealed = s.sealed := by
  unfold State.countUnmapped; simp

@[simp] theorem State.misplaced_sealed (s : State) (n : Nat) : (State.misplaced s n).sealed = s.sealed := by
  unfold State.misplaced; simp

@[simp] theorem State.cadenceRx_sealed (s : State) (n : Nat) (lane : Nat) (kind : Nat) (p : Nat) (count : Nat) (tpcs : Int) : (State.cadenceRx s n lane kind p count tpcs).sealed = s.sealed := by
  unfold State.cadenceRx; dsimp only; (repeat' split) <;> simp

theorem execCadenceBlockRx_sealed (n : Nat) (lane : Nat) (kind : Nat) (p : Nat) (count : Nat) (tpcs : Int) (s : State) (res : State) (h : execCadenceBlockRx n lane kind p count tpcs s = .next res) : res.sealed = s.sealed := by
  unfold execCadenceBlockRx done at h; rw [← Host.Outcome.next.inj h]; simp

@[simp] theorem State.compareCopies_sealed (s : State) (ga gb eq : Bool) (t k : Nat) : (s.compareCopies ga gb eq t k).1.sealed = s.sealed := by
  unfold State.compareCopies; dsimp only; (repeat' split) <;> simp

@[simp] theorem State.egressOf_sealed (s : State) (n slot pos tbl idx hoop : Nat) : (s.egressOf n slot pos tbl idx hoop).1.sealed = s.sealed := by
  unfold State.egressOf; dsimp only; (repeat' split) <;> simp

@[simp] theorem State.slotSend_sealed (s : State) (n : Nat) (k : Nat) (m : Nat) (ga : Bool) (gb : Bool) (eq : Bool) : (State.slotSend s n k m ga gb eq).sealed = s.sealed := by
  unfold State.slotSend; dsimp only; (repeat' split) <;> simp

theorem execCadenceSlotSend_sealed (n : Nat) (k : Nat) (m : Nat) (ga : Bool) (gb : Bool) (eq : Bool) (s : State) (res : State) (h : execCadenceSlotSend n k m ga gb eq s = .next res) : res.sealed = s.sealed := by
  unfold execCadenceSlotSend done at h; rw [← Host.Outcome.next.inj h]; simp

@[simp] theorem State.sendBlock_sealed (s : State) (n : Nat) (lane : Nat) (kind : Nat) (p : Nat) : (State.sendBlock s n lane kind p).sealed = s.sealed := by
  unfold State.sendBlock; simp

theorem execHelloSend_sealed (n : Nat) (lane : Nat) (s : State) (res : State) (h : execHelloSend n lane s = .next res) : res.sealed = s.sealed := by
  unfold execHelloSend done at h
  rw [← Host.Outcome.next.inj h]; simp

theorem execTimeBlockSend_sealed (n : Nat) (s : State) (res : State) (h : execTimeBlockSend n s = .next res) : res.sealed = s.sealed := by
  unfold execTimeBlockSend done at h
  rw [← Host.Outcome.next.inj h]; simp

theorem execEchoSend_sealed (n : Nat) (s : State) (res : State) (h : execEchoSend n s = .next res) : res.sealed = s.sealed := by
  unfold execEchoSend done at h; dsimp only at h; (repeat' split at h) <;> (rw [← Host.Outcome.next.inj h]; simp)

theorem execMarkerSend_sealed (n : Nat) (s : State) (res : State) (h : execMarkerSend n s = .next res) : res.sealed = s.sealed := by
  unfold execMarkerSend done at h; rw [← Host.Outcome.next.inj h]; simp

theorem execHoopBoundary_sealed (s : State) (res : State) (h : execHoopBoundary s = .next res) : res.sealed = s.sealed := by
  unfold execHoopBoundary done at h; rw [← Host.Outcome.next.inj h]; simp

@[simp] theorem State.cadCut_sealed (old : State) (s : State) : (State.cadCut old s).sealed = s.sealed := by
  unfold State.cadCut; simp

@[simp] theorem State.cadRenumber_sealed (s : State) : (State.cadRenumber s).sealed = s.sealed := by
  unfold State.cadRenumber; simp

@[simp] theorem State.cadStart_sealed (s : State) : (State.cadStart s).sealed = s.sealed := by
  unfold State.cadStart; simp

@[simp] theorem State.cadCommitted_sealed (old : State) (s : State) : (State.cadCommitted old s).sealed = s.sealed := by
  unfold State.cadCommitted; simp

@[simp] theorem State.cadStepped_sealed (old : State) (s : State) : (State.cadStepped old s).sealed = s.sealed := by
  unfold State.cadStepped; simp

@[simp] theorem State.rcCommitted_sealed (old : State) (n : Nat) (s : State) : (State.rcCommitted old n s).sealed = s.sealed := by
  unfold State.rcCommitted; simp

@[simp] theorem State.gwWrite_sealed (s : State) (p : Nat) : (State.gwWrite s p).sealed = s.sealed := by
  unfold State.gwWrite; simp

@[simp] theorem State.gwRead_sealed (s : State) (p : Nat) : (State.gwRead s p).sealed = s.sealed := by
  unfold State.gwRead; simp

@[simp] theorem State.startTrunkEnable_sealed (k : Cmd) (s : State) : (State.startTrunkEnable k s).sealed = s.sealed := by
  unfold State.startTrunkEnable; simp

@[simp] theorem State.outWord_sealed (s : State) (w m : Nat) (b : Int) : (s.outWord w m b).1.sealed = s.sealed := by
  unfold State.outWord; (repeat' split) <;> simp

@[simp] theorem State.compareBytes_sealed (s : State) (len : Nat) (badA badB differ : List Nat) : (s.compareBytes len badA badB differ).1.sealed = s.sealed :=
  State.foldl_pair'_sealed _ _ _ (fun _ _ => by simp)

@[simp] theorem State.gwRelease_sealed (s : State) (k m : Nat) (badA badB differ : List Nat) : (s.gwRelease k m badA badB differ).sealed = s.sealed := by
  unfold State.gwRelease
  dsimp only
  split
  · rfl
  · split
    · simp
    · (repeat' split) <;> simp [State.foldl_pair'_sealed]

theorem execGwOutboundRelease_sealed (k m : Nat) (badA badB differ : List Nat) (s : State) (res : State) (h : execGwOutboundRelease k m badA badB differ s = .next res) :
    res.sealed = s.sealed := by
  unfold execGwOutboundRelease done at h; rw [← Host.Outcome.next.inj h]; simp

@[simp] theorem State.gwFrameRx_sealed (s : State) (f : Nat) (err : Nat) (cut : Bool) (tpcs : Int) : (State.gwFrameRx s f err cut tpcs).sealed = s.sealed := by
  unfold State.gwFrameRx; dsimp only; (repeat' split) <;> simp

theorem execGwFrameRx_sealed (f : Nat) (err : Nat) (cut : Bool) (tpcs : Int) (s : State) (res : State) (h : execGwFrameRx f err cut tpcs s = .next res) : res.sealed = s.sealed := by
  unfold execGwFrameRx done at h; rw [← Host.Outcome.next.inj h]; simp

@[simp] theorem State.gwClose_sealed (s : State) (k : Nat) (m : Nat) : (State.gwClose s k m).sealed = s.sealed := by
  unfold State.gwClose; simp

theorem execGwWindowClose_sealed (k : Nat) (m : Nat) (s : State) (res : State) (h : execGwWindowClose k m s = .next res) : res.sealed = s.sealed := by
  unfold execGwWindowClose done at h; rw [← Host.Outcome.next.inj h]; simp

@[simp] theorem State.cadErrClear_sealed (s : State) (t : Nat) : (State.cadErrClear s t).sealed = s.sealed := by
  unfold State.cadErrClear; simp

@[simp] theorem State.slackClear_sealed (s : State) (t : Nat) (n : Nat) : (State.slackClear s t n).sealed = s.sealed := by
  unfold State.slackClear; simp

@[simp] theorem State.gwCntClear_sealed (s : State) (t : Nat) (i : Nat) : (State.gwCntClear s t i).sealed = s.sealed := by
  unfold State.gwCntClear; simp

theorem execLpiEnter_sealed (p : Nat) (rx : Bool) (s : State) (res : State) (h : execLpiEnter p rx s = .next res) : res.sealed = s.sealed := by
  unfold execLpiEnter done at h
  rw [← Host.Outcome.next.inj h]; simp

theorem execLpiWake_sealed (p : Nat) (rx : Bool) (s : State) (res : State) (h : execLpiWake p rx s = .next res) : res.sealed = s.sealed := by
  unfold execLpiWake done at h; rw [← Host.Outcome.next.inj h]; simp

@[simp] theorem State.setAlign_sealed (s : State) (t : Nat) (n : Nat) (x : Nat) : (State.setAlign s t n x).sealed = s.sealed := by
  unfold State.setAlign; simp

@[simp] theorem State.outSlew_sealed (s : State) (t : Nat) (n : Nat) : (State.outSlew s t n).sealed = s.sealed := by
  unfold State.outSlew; simp

@[simp] theorem State.outFirstPlaced_sealed (s : State) (t : Nat) (n : Nat) : (State.outFirstPlaced s t n).sealed = s.sealed := by
  unfold State.outFirstPlaced; simp

@[simp] theorem State.outInstant_sealed (s : State) (t : Nat) (n : Nat) : (State.outInstant s t n).sealed = s.sealed := by
  unfold State.outInstant; simp

@[simp] theorem State.clkInstant_sealed (s : State) (t : Nat) (n : Nat) : (State.clkInstant s t n).sealed = s.sealed := by
  unfold State.clkInstant; simp

theorem execOutputPulseInstant_sealed (t : Nat) (n : Nat) (s : State) (res : State) (h : execOutputPulseInstant t n s = .next res) : res.sealed = s.sealed := by
  unfold execOutputPulseInstant done at h
  rw [← Host.Outcome.next.inj h]; simp

@[simp] theorem State.averageDone_sealed (s : State) (t : Nat) (n : Nat) : (State.averageDone s t n).sealed = s.sealed := by
  unfold State.averageDone; simp

theorem execOutAlignAverageDone_sealed (t : Nat) (n : Nat) (s : State) (res : State) (h : execOutAlignAverageDone t n s = .next res) : res.sealed = s.sealed := by
  unfold execOutAlignAverageDone done at h; rw [← Host.Outcome.next.inj h]; simp

@[simp] theorem State.alignEdge_sealed (s : State) (t : Nat) (n : Nat) (x : Int) : (State.alignEdge s t n x).sealed = s.sealed := by
  unfold State.alignEdge; dsimp only; (repeat' split) <;> simp

theorem execOutAlignEdge_sealed (t : Nat) (n : Nat) (at_ : Int) (s : State) (res : State) (h : execOutAlignEdge t n at_ s = .next res) : res.sealed = s.sealed := by
  unfold execOutAlignEdge done at h; rw [← Host.Outcome.next.inj h]; simp

theorem execOutAlignTimeout_sealed (t : Nat) (n : Nat) (s : State) (res : State) (h : execOutAlignTimeout t n s = .next res) : res.sealed = s.sealed := by
  unfold execOutAlignTimeout done at h; rw [← Host.Outcome.next.inj h]; simp

@[simp] theorem State.outCommitted_sealed (old : State) (t : Nat) (n : Nat) (s : State) : (State.outCommitted old t n s).sealed = s.sealed := by
  unfold State.outCommitted; simp

@[simp] theorem State.onPerf_sealed (s : State) (n : Nat) (f : Perf → Perf) : (State.onPerf s n f).sealed = s.sealed := by
  unfold State.onPerf; simp

@[simp] theorem State.perfCapture_sealed (s : State) (n : Nat) (addr : Nat) (task : Nat) : (State.perfCapture s n addr task).sealed = s.sealed := by
  unfold State.perfCapture; simp

@[simp] theorem State.perfAdd_sealed (s : State) (n : Nat) (k : Nat) (addr : Nat) (task : Nat) : (State.perfAdd s n k addr task).sealed = s.sealed := by
  unfold State.perfAdd; simp

@[simp] theorem State.perfTake_sealed (s : State) (n : Nat) : (State.perfTake s n).sealed = s.sealed := by
  unfold State.perfTake; simp

@[simp] theorem State.perfFreeze_sealed (s : State) (n : Nat) : (State.perfFreeze s n).sealed = s.sealed := by
  unfold State.perfFreeze; simp

@[simp] theorem State.perfCount_sealed (s : State) (n : Nat) (inc : Nat) (addr : Nat) (task : Nat) : (State.perfCount s n inc addr task).sealed = s.sealed := by
  unfold State.perfCount; simp

@[simp] theorem State.perfSwitched_sealed (old : State) (n : Nat) (s : State) : (State.perfSwitched old n s).sealed = s.sealed := by
  unfold State.perfSwitched; simp

theorem execPerfCounterOverflow_sealed (n : Nat) (inc : Nat) (addr : Nat) (task : Nat) (s : State) (res : State) (h : execPerfCounterOverflow n inc addr task s = .next res) : res.sealed = s.sealed := by
  unfold execPerfCounterOverflow done at h; rw [← Host.Outcome.next.inj h]; simp

@[simp] theorem State.perfLatch_sealed (s : State) (n : Nat) : (State.perfLatch s n).sealed = s.sealed := by
  unfold State.perfLatch; simp

@[simp] theorem State.perfStage_sealed (s : State) (n : Nat) (v : Nat) : (State.perfStage s n v).sealed = s.sealed := by
  unfold State.perfStage; simp

@[simp] theorem State.perfSet_sealed (s : State) (n : Nat) (v : Nat) : (State.perfSet s n v).sealed = s.sealed := by
  unfold State.perfSet; simp

@[simp] theorem State.suMark_sealed (s : State) (u : Nat) : (State.suMark s u).sealed = s.sealed := by
  unfold State.suMark; simp

@[simp] theorem State.suTake_sealed (s : State) (u : Nat) (w : List Nat) : (State.suTake s u w).sealed = s.sealed := by
  unfold State.suTake; simp

@[simp] theorem State.suStart_sealed (s : State) (d : Nat) : (State.suStart s d).sealed = s.sealed := by
  unfold State.suStart; simp

@[simp] theorem State.suStop_sealed (s : State) (d : Nat) : (State.suStop s d).sealed = s.sealed := by
  unfold State.suStop; simp

@[simp] theorem State.suSnap_sealed (s : State) (w : List Nat) : (State.suSnap s w).sealed = s.sealed := by
  unfold State.suSnap; simp

@[simp] theorem State.engineSwap_sealed (s : State) (e : Nat) : (State.engineSwap s e).sealed = s.sealed := by
  unfold State.engineSwap; dsimp only; (repeat' split) <;> simp

theorem execEngineSwap_sealed (e : Nat) (s : State) (res : State) (h : execEngineSwap e s = .next res) : res.sealed = s.sealed := by
  unfold execEngineSwap done at h; rw [← Host.Outcome.next.inj h]; simp

theorem execEngineSelfTestEnd_sealed (e : Nat) (passed : Bool) (s : State) (res : State) (h : execEngineSelfTestEnd e passed s = .next res) : res.sealed = s.sealed := by
  unfold execEngineSelfTestEnd done at h; rw [← Host.Outcome.next.inj h]; simp

@[simp] theorem State.laneRested_sealed (s : State) (p : Nat) (r : LaneRest) : (State.laneRested s p r).sealed = s.sealed := by
  unfold State.laneRested; simp

@[simp] theorem State.laneRestore_sealed (s : State) (p : Nat) : (State.laneRestore s p).sealed = s.sealed := by
  unfold State.laneRestore; dsimp only; (repeat' split) <;> simp

@[simp] theorem State.laneCalStart_sealed (s : State) (p : Nat) : (State.laneCalStart s p).sealed = s.sealed := by
  unfold State.laneCalStart; simp

theorem execLaneCalStart_sealed (p : Nat) (s : State) (res : State) (h : execLaneCalStart p s = .next res) : res.sealed = s.sealed := by
  unfold execLaneCalStart done at h; rw [← Host.Outcome.next.inj h]; simp

@[simp] theorem State.retireNext_sealed (s : State) (p : Nat) (ok : Bool) : (State.retireNext s p ok).sealed = s.sealed := by
  unfold State.retireNext; simp

@[simp] theorem State.laneOk_sealed (s : State) (p : Nat) : (State.laneOk s p).sealed = s.sealed := by
  unfold State.laneOk; simp

@[simp] theorem State.laneFail_sealed (s : State) (p : Nat) (slicer : Bool) : (State.laneFail s p slicer).sealed = s.sealed := by
  unfold State.laneFail; simp

@[simp] theorem State.recalFail_sealed (s : State) (p : Nat) : (State.recalFail s p).sealed = s.sealed := by
  unfold State.recalFail; simp

@[simp] theorem State.laneCalEnd_sealed (s : State) (p : Nat) (ok : Bool) (rx : Int) (tx : Int) : (State.laneCalEnd s p ok rx tx).sealed = s.sealed := by
  unfold State.laneCalEnd; simp

theorem execLaneCalEnd_sealed (p : Nat) (ok : Bool) (rx : Int) (tx : Int) (s : State) (res : State) (h : execLaneCalEnd p ok rx tx s = .next res) : res.sealed = s.sealed := by
  unfold execLaneCalEnd done at h; rw [← Host.Outcome.next.inj h]; simp

@[simp] theorem State.retireSet_sealed (s : State) (p : Nat) (x : Nat) : (State.retireSet s p x).sealed = s.sealed := by
  unfold State.retireSet; (repeat' split) <;> simp_all

@[simp] theorem State.slicerSwapIn_sealed (s : State) (p : Nat) : (State.slicerSwapIn s p).sealed = s.sealed := by
  unfold State.slicerSwapIn; simp

theorem execSlicerSwap_sealed (p : Nat) (s : State) (res : State) (h : execSlicerSwap p s = .next res) : res.sealed = s.sealed := by
  unfold execSlicerSwap done at h; rw [← Host.Outcome.next.inj h]; simp

@[simp] theorem State.startCalRun_sealed (k : Cmd) (s : State) : (State.startCalRun k s).sealed = s.sealed := by
  unfold State.startCalRun; simp

@[simp] theorem State.storeImage_sealed (s : State) (ws : List Nat) : (State.storeImage s ws).sealed = s.sealed := by
  unfold State.storeImage; simp

@[simp] theorem State.captureStart_sealed (s : State) : (State.captureStart s).sealed = s.sealed := by
  unfold State.captureStart; simp

theorem execCaptureDone_sealed (s : State) (res : State) (h : execCaptureDone s = .next res) : res.sealed = s.sealed := by
  unfold execCaptureDone done at h
  rw [← Host.Outcome.next.inj h]; simp

theorem State.applySect_sealed (s t : State) (x : Sect) (h : s.applySect x = some t) : t.sealed = s.sealed := by
  unfold State.applySect at h
  dsimp only at h
  (repeat' split at h) <;> first | (cases h; simp; done) | (cases h; done)

@[simp] theorem State.applyStart_sealed (s : State) : s.applyStart.sealed = s.sealed := by
  unfold State.applyStart
  dsimp only
  split
  · simp
  · rw [State.each_sealed]
    · simp only [State.wr_sealed]
      rw [State.foldl_pair'_sealed]
      · simp
      · intro a x; split
        · rename_i h; exact State.applySect_sealed _ _ _ h
        · rfl
    · simp

theorem execApplyDone_sealed (s : State) (res : State) (h : execApplyDone s = .next res) : res.sealed = s.sealed := by
  unfold execApplyDone done at h
  rw [← Host.Outcome.next.inj h]; simp

@[simp] theorem State.calCmd_sealed (s : State) (v : Nat) : (State.calCmd s v).sealed = s.sealed := by
  unfold State.calCmd; simp

@[simp] theorem State.imgNext_sealed (s : State) : (State.imgNext s).sealed = s.sealed := by
  unfold State.imgNext; simp

@[simp] theorem State.imgWrite_sealed (s : State) (v : Nat) : (State.imgWrite s v).sealed = s.sealed := by
  unfold State.imgWrite; simp

@[simp] theorem State.lutWrite_sealed (s : State) (t : Nat) (c : Nat) (v : Nat) : (State.lutWrite s t c v).sealed = s.sealed := by
  unfold State.lutWrite; simp

@[simp] theorem State.restMiss_sealed (s : State) : (State.restMiss s).sealed = s.sealed := by
  unfold State.restMiss; simp

@[simp] theorem State.laneStartUp_sealed (s : State) (p : Nat) : (State.laneStartUp s p).sealed = s.sealed := by
  unfold State.laneStartUp; simp

@[simp] theorem State.pllStartUp_sealed (s : State) (t : Nat) : (State.pllStartUp s t).sealed = s.sealed := by
  unfold State.pllStartUp; (repeat' split) <;> simp_all

@[simp] theorem State.tdcStartUp_sealed (s : State) (t : Nat) (c : Nat) (hist : List Nat) (res : Int) : (State.tdcStartUp s t c hist res).sealed = s.sealed := by
  unfold State.tdcStartUp; dsimp only; (repeat' split) <;> simp

@[simp] theorem State.calCtlWritten_sealed (s : State) : (State.calCtlWritten s).sealed = s.sealed := by
  unfold State.calCtlWritten; simp

@[simp] theorem State.mapStartUp_sealed (s : State) (page : Nat) : (State.mapStartUp s page).sealed = s.sealed := by
  unfold State.mapStartUp; dsimp only; (repeat' split) <;> simp

@[simp] theorem State.wearUpdate_sealed (s : State) (page : Nat) (slice : Nat) (monitor : Nat) (v : Nat) : (State.wearUpdate s page slice monitor v).sealed = s.sealed := by
  unfold State.wearUpdate; dsimp only; (repeat' split) <;> simp

theorem execWearUpdate_sealed (page : Nat) (slice : Nat) (monitor : Nat) (v : Nat) (s : State) (res : State) (h : execWearUpdate page slice monitor v s = .next res) : res.sealed = s.sealed := by
  unfold execWearUpdate done at h; rw [← Host.Outcome.next.inj h]; simp

@[simp] theorem State.swapBoundary_sealed (s : State) (i : Nat) (table : List Nat) : (State.swapBoundary s i table).sealed = s.sealed := by
  unfold State.swapBoundary; dsimp only; (repeat' split) <;> simp

theorem execSpareSwap_sealed (i : Nat) (table : List Nat) (s : State) (res : State) (h : execSpareSwap i table s = .next res) : res.sealed = s.sealed := by
  unfold execSpareSwap done at h; rw [← Host.Outcome.next.inj h]; simp

theorem execVatBankSwap_sealed (src : Nat) (s : State) (res : State) (h : execVatBankSwap src s = .next res) : res.sealed = s.sealed := by
  unfold execVatBankSwap done at h; (repeat' split at h) <;> (rw [← Host.Outcome.next.inj h]; simp)

@[simp] theorem State.startSpareApprove_sealed (k : Cmd) (s : State) : (State.startSpareApprove k s).sealed = s.sealed := by
  unfold State.startSpareApprove; dsimp only; (repeat' split) <;> simp

@[simp] theorem State.swapUndo_sealed (s : State) (n : Nat) : (State.swapUndo s n).sealed = s.sealed := by
  unfold State.swapUndo; dsimp only; (repeat' split) <;> simp

@[simp] theorem State.swapsOff_sealed (s : State) (d : Nat) : (State.swapsOff s d).sealed = s.sealed := by
  unfold State.swapsOff; simp

@[simp] theorem State.restOff_sealed (s : State) (d : Nat) : (State.restOff s d).sealed = s.sealed := by
  unfold State.restOff; simp

@[simp] theorem State.caveWritten_sealed (old : State) (off : Nat) (s : State) : (State.caveWritten old off s).sealed = s.sealed := by
  unfold State.caveWritten; simp

@[simp] theorem State.tdoOut_sealed (s : State) (v : Nat) : (State.tdoOut s v).sealed = s.sealed := by
  unfold State.tdoOut; simp

@[simp] theorem State.porstNow_sealed (s : State) : (State.porstNow s).sealed = s.sealed := by
  unfold State.porstNow; simp

@[simp] theorem State.scan_sealed (s : State) (x : Nat) : (State.scan s x).sealed = s.sealed := by
  unfold State.scan; simp

@[simp] theorem State.jtag_sealed (s : State) (i : Nat) (x : Nat) : (State.jtag s i x).sealed = s.sealed := by
  unfold State.jtag; dsimp only; (repeat' split) <;> simp

theorem execJtagInstruction_sealed (i : Nat) (pins : Nat) (s : State) (res : State) (h : execJtagInstruction i pins s = .next res) : res.sealed = s.sealed := by
  unfold execJtagInstruction done at h
  rw [← Host.Outcome.next.inj h]; simp

@[simp] theorem State.dropRegs_sealed (s : State) (d : Nat) : (State.dropRegs s d).sealed = s.sealed := by
  unfold State.dropRegs; simp

@[simp] theorem State.dropTcu_sealed (s : State) (t : Nat) : (State.dropTcu s t).sealed = s.sealed := by
  unfold State.dropTcu; simp

@[simp] theorem State.dropCore_sealed (s : State) : (State.dropCore s).sealed = s.sealed := by
  unfold State.dropCore; simp

@[simp] theorem State.dropGroup_sealed (s : State) (g : Nat) : (State.dropGroup s g).sealed = s.sealed := by
  unfold State.dropGroup; simp

@[simp] theorem State.wipeDomain_sealed (s : State) (d : Nat) : (State.wipeDomain s d).sealed = s.sealed := by
  unfold State.wipeDomain; simp

@[simp] theorem State.spreadLevel_sealed (s : State) : (State.spreadLevel s).sealed = s.sealed := by
  unfold State.spreadLevel; simp

@[simp] theorem State.startDomain_sealed (s : State) (d : Nat) : (State.startDomain s d).sealed = s.sealed := by
  unfold State.startDomain; simp

@[simp] theorem State.switchedOn_sealed (s : State) (d : Nat) : (State.switchedOn s d).sealed = s.sealed := by
  unfold State.switchedOn; simp

@[simp] theorem State.startDomainOn_sealed (k : Cmd) (s : State) : (State.startDomainOn k s).sealed = s.sealed := by
  unfold State.startDomainOn; simp

theorem execDomainWipeDone_sealed (d : Nat) (s : State) (res : State) (h : execDomainWipeDone d s = .next res) : res.sealed = s.sealed := by
  unfold execDomainWipeDone done at h
  rw [← Host.Outcome.next.inj h]; simp

@[simp] theorem State.endTargets_sealed (s : State) (d : Nat) : (State.endTargets s d).sealed = s.sealed := by
  unfold State.endTargets; simp

@[simp] theorem State.groupCands_sealed (s : State) (g : Nat) : (State.groupCands s g).sealed = s.sealed := by
  unfold State.groupCands; simp

@[simp] theorem State.startDomainOff_sealed (k : Cmd) (s : State) : (State.startDomainOff k s).sealed = s.sealed := by
  unfold State.startDomainOff; simp

theorem execDomainIsolated_sealed (d : Nat) (s : State) (res : State) (h : execDomainIsolated d s = .next res) : res.sealed = s.sealed := by
  unfold execDomainIsolated done at h; rw [← Host.Outcome.next.inj h]; simp

@[simp] theorem State.clearRws_sealed (s : State) (por : Bool) : (State.clearRws s por).sealed = s.sealed := by
  unfold State.clearRws; simp

@[simp] theorem State.recordCauses_sealed (s : State) : (State.recordCauses s).sealed = s.sealed := by
  unfold State.recordCauses; simp

@[simp] theorem State.showOtp_sealed (s : State) : (State.showOtp s).sealed = s.sealed := by
  unfold State.showOtp; simp

@[simp] theorem State.release_sealed (s : State) (hcMap : Nat) (oscNom : Nat) (leadSel : Nat) (bootSrc : Nat) : (State.release s hcMap oscNom leadSel bootSrc).sealed = s.sealed := by
  unfold State.release; simp

theorem execResetRelease_sealed (hcMap : Nat) (oscNom : Nat) (leadSel : Nat) (bootSrc : Nat) (s : State) (res : State) (h : execResetRelease hcMap oscNom leadSel bootSrc s = .next res) : res.sealed = s.sealed := by
  unfold execResetRelease done at h; rw [← Host.Outcome.next.inj h]; simp

@[simp] theorem State.startAll_sealed (s : State) : (State.startAll s).sealed = s.sealed := by
  unfold State.startAll; simp

theorem execWipeComplete_sealed (s : State) (res : State) (h : execWipeComplete s = .next res) : res.sealed = s.sealed := by
  unfold execWipeComplete done at h
  rw [← Host.Outcome.next.inj h]; simp

@[simp] theorem State.startDeviceReset_sealed (k : Cmd) (s : State) : (State.startDeviceReset k s).sealed = s.sealed := by
  unfold State.startDeviceReset; simp

@[simp] theorem State.thaw_sealed (s : State) : (State.thaw s).sealed = s.sealed := by
  unfold State.thaw; simp

@[simp] theorem State.oscQualify_sealed (s : State) : (State.oscQualify s).sealed = s.sealed := by
  unfold State.oscQualify; simp

theorem execOscQualify_sealed (s : State) (res : State) (h : execOscQualify s = .next res) : res.sealed = s.sealed := by
  unfold execOscQualify done at h; rw [← Host.Outcome.next.inj h]; simp

@[simp] theorem State.oscFail_sealed (s : State) : (State.oscFail s).sealed = s.sealed := by
  unfold State.oscFail; simp

theorem execOscWaitTimeout_sealed (s : State) (res : State) (h : execOscWaitTimeout s = .next res) : res.sealed = s.sealed := by
  unfold execOscWaitTimeout done at h; rw [← Host.Outcome.next.inj h]; simp

@[simp] theorem State.oscDisqualify_sealed (s : State) : (State.oscDisqualify s).sealed = s.sealed := by
  unfold State.oscDisqualify; dsimp only; (repeat' split) <;> simp

theorem execOscDisqualify_sealed (s : State) (res : State) (h : execOscDisqualify s = .next res) : res.sealed = s.sealed := by
  unfold execOscDisqualify done at h; rw [← Host.Outcome.next.inj h]; simp

@[simp] theorem State.toRunsEnd_sealed (s : State) (t : Nat) : (State.toRunsEnd s t).sealed = s.sealed := by
  unfold State.toRunsEnd; dsimp only; (repeat' split) <;> simp

@[simp] theorem State.tcuReady_sealed (s : State) (t : Nat) (hists : List (List Nat)) (res : List Int) : (State.tcuReady s t hists res).sealed = s.sealed := by
  unfold State.tcuReady; simp

theorem execTcuReady_sealed (t : Nat) (hists : List (List Nat)) (res : List Int) (s : State) (next : State) (h : execTcuReady t hists res s = .next next) : next.sealed = s.sealed := by
  unfold execTcuReady done at h
  rw [← Host.Outcome.next.inj h]; simp

theorem execActiveFailure_sealed (code : Nat) (s : State) (res : State) (h : execActiveFailure code s = .next res) : res.sealed = s.sealed := by
  unfold execActiveFailure done at h
  rw [← Host.Outcome.next.inj h]; simp

@[simp] theorem State.atSwitchEpoch_sealed (s : State) : (State.atSwitchEpoch s).sealed = s.sealed := by
  unfold State.atSwitchEpoch; simp

theorem execSwitchEpoch_sealed (s : State) (res : State) (h : execSwitchEpoch s = .next res) : res.sealed = s.sealed := by
  unfold execSwitchEpoch done at h; rw [← Host.Outcome.next.inj h]; simp

theorem execLastResortExit_sealed (s : State) (res : State) (h : execLastResortExit s = .next res) : res.sealed = s.sealed := by
  unfold execLastResortExit done at h; rw [← Host.Outcome.next.inj h]; simp

theorem execBlockWedged_sealed (page : Nat) (s : State) (res : State) (h : execBlockWedged page s = .next res) : res.sealed = s.sealed := by
  unfold execBlockWedged done at h; rw [← Host.Outcome.next.inj h]; simp

theorem execSupplyWarn_sealed (i : Nat) (s : State) (res : State) (h : execSupplyWarn i s = .next res) : res.sealed = s.sealed := by
  unfold execSupplyWarn done at h; rw [← Host.Outcome.next.inj h]; simp

theorem execSupplyBelowClear_sealed (i : Nat) (s : State) (res : State) (h : execSupplyBelowClear i s = .next res) : res.sealed = s.sealed := by
  unfold execSupplyBelowClear done at h; rw [← Host.Outcome.next.inj h]; simp

@[simp] theorem State.govern_sealed (s : State) (n : Nat) : (State.govern s n).sealed = s.sealed := by
  unfold State.govern; simp

@[simp] theorem State.noteCool_sealed (s : State) : (State.noteCool s).sealed = s.sealed := by
  unfold State.noteCool; simp

@[simp] theorem State.calTriggers_sealed (s : State) (before : Nat → Int) : (State.calTriggers s before).sealed = s.sealed := by
  unfold State.calTriggers; simp

theorem execBgDwellExpiry_sealed (s : State) (res : State) (h : execBgDwellExpiry s = .next res) : res.sealed = s.sealed := by
  unfold execBgDwellExpiry done at h
  rw [← Host.Outcome.next.inj h]; dsimp only; (repeat' split) <;> simp

theorem execThermalRelease_sealed (s : State) (res : State) (h : execThermalRelease s = .next res) : res.sealed = s.sealed := by
  unfold execThermalRelease done at h
  rw [← Host.Outcome.next.inj h]; dsimp only; (repeat' split) <;> simp

@[simp] theorem State.bootReject_sealed (s : State) (why : Nat) : (State.bootReject s why).sealed = s.sealed := by
  unfold State.bootReject; simp

@[simp] theorem State.bootCal_sealed (s : State) (l : List Byte) : (State.bootCal s l).sealed = s.sealed := by
  unfold State.bootCal; simp

@[simp] theorem State.bootFirmware_sealed (s : State) (version : Nat) (fmt : Nat) : (State.bootFirmware s version fmt).sealed = s.sealed := by
  unfold State.bootFirmware; simp

@[simp] theorem State.bootEnd_sealed (s : State) (l : List Byte) (end_ : Nat) : (State.bootEnd s l end_).sealed = s.sealed := by
  unfold State.bootEnd; first | (simp; done) | (dsimp only; (repeat' split) <;> simp)

@[simp] theorem State.bootLoad_sealed (s : State) (l : List Byte) (signed : Bool) (version : Nat) (fmt : Nat) : (State.bootLoad s l signed version fmt).sealed = s.sealed := by
  unfold State.bootLoad; (repeat' split) <;> first | (simp_all; done) | (dsimp only at *; (repeat' split) <;> first | (simp_all; done) | (simp_all; (repeat' split) <;> simp_all))

theorem execBootSectionLoaded_sealed (flash : List Byte) (silent : Bool) (signed : Bool) (version : Nat) (fmt : Nat) (s : State) (res : State) (h : execBootSectionLoaded flash silent signed version fmt s = .next res) : res.sealed = s.sealed := by
  unfold execBootSectionLoaded done at h; (repeat' split at h) <;> (rw [← Host.Outcome.next.inj h]; simp)

@[simp] theorem State.pushStart_sealed (s : State) (v : Nat) : (State.pushStart s v).sealed = s.sealed := by
  unfold State.pushStart; simp

@[simp] theorem State.pushWord_sealed (s : State) (v : Nat) : (State.pushWord s v).sealed = s.sealed := by
  unfold State.pushWord; dsimp only; (repeat' split) <;> simp

theorem execDeviceReady_sealed (s : State) (res : State) (h : execDeviceReady s = .next res) : res.sealed = s.sealed := by
  unfold execDeviceReady done at h; rw [← Host.Outcome.next.inj h]; simp

@[simp] theorem State.startAdvance_sealed (k : Cmd) (s : State) : (State.startAdvance k s).sealed = s.sealed := by
  unfold State.startAdvance; simp

@[simp] theorem State.otpStart_sealed (s : State) : (State.otpStart s).sealed = s.sealed := by
  unfold State.otpStart; dsimp only; (repeat' split) <;> simp

@[simp] theorem State.goLive_sealed (s : State) (ps : List Nat) : (State.goLive s ps).sealed = s.sealed := by
  unfold State.goLive; simp

@[simp] theorem State.committed_sealed (old : State) (p : Nat) (s : State) : (State.committed old p s).sealed = s.sealed := by
  unfold State.committed; dsimp only; (repeat' split) <;> simp

@[simp] theorem State.disarm_sealed (s : State) (p : Nat) : (State.disarm s p).sealed = s.sealed := by
  unfold State.disarm; simp

@[simp] theorem State.commitPage_sealed (s : State) (p : Nat) (k : Nat) (ps : List Nat) : (State.commitPage s p k ps).sealed = s.sealed := by
  unfold State.commitPage; dsimp only; (repeat' split) <;> simp

@[simp] theorem State.commitTogether_sealed (s : State) (ps : List Nat) : (State.commitTogether s ps).sealed = s.sealed := by
  unfold State.commitTogether; simp

@[simp] theorem State.reachBoundary_sealed (s : State) (p : Nat) : (State.reachBoundary s p).sealed = s.sealed := by
  unfold State.reachBoundary; dsimp only; (repeat' split) <;> simp

theorem execCommitBoundary_sealed (page : Nat) (s : State) (res : State) (h : execCommitBoundary page s = .next res) : res.sealed = s.sealed := by
  unfold execCommitBoundary done at h; rw [← Host.Outcome.next.inj h]; simp

@[simp] theorem State.commitsPassed_sealed (s : State) (from_ : Nat) : (State.commitsPassed s from_).sealed = s.sealed := by
  unfold State.commitsPassed; simp

@[simp] theorem State.armMirrored_sealed (s : State) (p : Nat) : (State.armMirrored s p).sealed = s.sealed := by
  unfold State.armMirrored; simp

@[simp] theorem State.shadowCtl_sealed (old : State) (p : Nat) (v : Nat) (s : State) : (State.shadowCtl old p v s).sealed = s.sealed := by
  unfold State.shadowCtl; dsimp only; (repeat' split) <;> simp

@[simp] theorem State.stepEpoch_sealed (s : State) : (State.stepEpoch s).sealed = s.sealed := by
  unfold State.stepEpoch; dsimp only; (repeat' split) <;> simp

theorem execStepApply_sealed (s : State) (res : State) (h : execStepApply s = .next res) : res.sealed = s.sealed := by
  unfold execStepApply done at h; rw [← Host.Outcome.next.inj h]; simp

theorem execSlewDone_sealed (t : Nat) (s : State) (res : State) (h : execSlewDone t s = .next res) : res.sealed = s.sealed := by
  unfold execSlewDone done at h
  rw [← Host.Outcome.next.inj h]; simp

@[simp] theorem State.fieldWrite_sealed (old : State) (p : Nat) (b : Blk) (v : Nat) (fi : Fld × Nat) (s : State) : (State.fieldWrite old p b v fi s).sealed = s.sealed := by
  unfold State.fieldWrite; dsimp only; (repeat' split) <;> simp

@[simp] theorem State.releaseCapture_sealed (s : State) (p : Nat) : (State.releaseCapture s p).sealed = s.sealed := by
  unfold State.releaseCapture; simp

@[simp] theorem State.fieldsWrite_sealed (fs : List (Fld × Nat)) (s : State) (p : Nat) (b : Blk) (v : Nat) (t : State) :
    (fs.foldl (fun t fi => s.fieldWrite p b v fi t) t).sealed = t.sealed := State.foldl_sealed _ _ _ (by simp)
@[simp] theorem State.checkedWrite_sealed (eff : State → Nat → Nat → Nat → Nat → State → State) (ctx a size v : Nat) (s : State)
    (h : ∀ o c p f v a, (eff o c p f v a).sealed = a.sealed) : (s.checkedWrite eff ctx a size v).sealed = s.sealed := by
  unfold State.checkedWrite
  dsimp only
  split
  · simp
  · split
    · simp
    · rw [State.accErr_sealed, h]; split <;> simp

@[simp] theorem State.orphanCmds_sealed (s : State) (c : Nat) : (State.orphanCmds s c).sealed = s.sealed := by
  unfold State.orphanCmds; simp

@[simp] theorem State.detach_sealed (s : State) (c : Nat) : (State.detach s c).sealed = s.sealed := by
  unfold State.detach; simp

@[simp] theorem State.attach_sealed (s : State) (c : Nat) : (State.attach s c).sealed = s.sealed := by
  unfold State.attach; simp

theorem execPcieLinkDown_sealed (pf : Nat) (s : State) (res : State) (h : execPcieLinkDown pf s = .next res) : res.sealed = s.sealed := by
  unfold execPcieLinkDown done at h; (repeat' split at h) <;> (rw [← Host.Outcome.next.inj h]; simp)

theorem execPcieLinkUp_sealed (pf : Nat) (s : State) (res : State) (h : execPcieLinkUp pf s = .next res) : res.sealed = s.sealed := by
  unfold execPcieLinkUp done at h; (repeat' split at h) <;> (rw [← Host.Outcome.next.inj h]; simp)

theorem execPePerstAssert_sealed (s : State) (res : State) (h : execPePerstAssert s = .next res) : res.sealed = s.sealed := by
  unfold execPePerstAssert done at h; rw [← Host.Outcome.next.inj h]; simp

theorem execPePerstRelease_sealed (s : State) (res : State) (h : execPePerstRelease s = .next res) : res.sealed = s.sealed := by
  unfold execPePerstRelease done at h; rw [← Host.Outcome.next.inj h]; simp

theorem execMsixEnable_sealed (pf : Nat) (s : State) (res : State) (h : execMsixEnable pf s = .next res) : res.sealed = s.sealed := by
  unfold execMsixEnable done at h; (repeat' split at h) <;> (rw [← Host.Outcome.next.inj h]; simp)

theorem execIntHoldoffExpiry_sealed (hc : Nat) (s : State) (res : State) (h : execIntHoldoffExpiry hc s = .next res) : res.sealed = s.sealed := by
  unfold execIntHoldoffExpiry done at h
  rw [← Host.Outcome.next.inj h]; simp

@[simp] theorem State.abortCmd_sealed (s : State) (k : Cmd) : (State.abortCmd s k).sealed = s.sealed := by
  unfold State.abortCmd; simp

@[simp] theorem State.startAbort_sealed (k : Cmd) (s : State) : (State.startAbort k s).sealed = s.sealed := by
  unfold State.startAbort; (repeat' split) <;> simp_all

@[simp] theorem State.startQuery_sealed (k : Cmd) (s : State) : (State.startQuery k s).sealed = s.sealed := by
  unfold State.startQuery; simp

@[simp] theorem State.startCmd_sealed (k : Cmd) (s : State) : (State.startCmd k s).sealed = s.sealed := by
  unfold State.startCmd; (repeat' split) <;> simp_all

@[simp] theorem State.judgeStart_sealed (s : State) (k : Cmd) (w0 : Nat) (w1 : Nat) : (State.judgeStart s k w0 w1).sealed = s.sealed := by
  unfold State.judgeStart; dsimp only; (repeat' split) <;> simp

@[simp] theorem State.takeRequest_sealed (s : State) (op : Nat) (q : Request) : (State.takeRequest s op q).sealed = s.sealed := by
  unfold State.takeRequest; simp

@[simp] theorem State.release1_sealed (s : State) (c : Nat) : (State.release1 s c).sealed = s.sealed := by
  unfold State.release1; (repeat' split) <;> simp_all

@[simp] theorem State.releaseHeld_sealed (s : State) : (State.releaseHeld s).sealed = s.sealed := by
  unfold State.releaseHeld; simp

@[simp] theorem State.grantsPass_sealed (s : State) (c : Nat) : (State.grantsPass s c).sealed = s.sealed := by
  unfold State.grantsPass; simp

@[simp] theorem State.fetch_sealed (s : State) (c : Nat) (words : List Nat) : (State.fetch s c words).sealed = s.sealed := by
  unfold State.fetch; simp

theorem execDescriptorFetch_sealed (hc : Nat) (words : List Nat) (s : State) (res : State) (h : execDescriptorFetch hc words s = .next res) : res.sealed = s.sealed := by
  unfold execDescriptorFetch done at h; rw [← Host.Outcome.next.inj h]; simp

theorem execNop_sealed (q : Request) (s : State) (res : State) (h : execNop q s = .next res) : res.sealed = s.sealed := by
  unfold execNop done at h; rw [← Host.Outcome.next.inj h]; simp

theorem execCmdAbort_sealed (q : Request) (s : State) (res : State) (h : execCmdAbort q s = .next res) : res.sealed = s.sealed := by
  unfold execCmdAbort done at h; rw [← Host.Outcome.next.inj h]; simp

theorem execCmdQuery_sealed (q : Request) (s : State) (res : State) (h : execCmdQuery q s = .next res) : res.sealed = s.sealed := by
  unfold execCmdQuery done at h; rw [← Host.Outcome.next.inj h]; simp

theorem execDomainOn_sealed (q : Request) (s : State) (res : State) (h : execDomainOn q s = .next res) : res.sealed = s.sealed := by
  unfold execDomainOn done at h; rw [← Host.Outcome.next.inj h]; simp

theorem execDomainOff_sealed (q : Request) (s : State) (res : State) (h : execDomainOff q s = .next res) : res.sealed = s.sealed := by
  unfold execDomainOff done at h; rw [← Host.Outcome.next.inj h]; simp

theorem execDeviceReset_sealed (q : Request) (s : State) (res : State) (h : execDeviceReset q s = .next res) : res.sealed = s.sealed := by
  unfold execDeviceReset done at h; rw [← Host.Outcome.next.inj h]; simp

theorem execLifecycleAdvance_sealed (q : Request) (s : State) (res : State) (h : execLifecycleAdvance q s = .next res) : res.sealed = s.sealed := by
  unfold execLifecycleAdvance done at h; rw [← Host.Outcome.next.inj h]; simp

theorem execPortEnable_sealed (q : Request) (s : State) (res : State) (h : execPortEnable q s = .next res) : res.sealed = s.sealed := by
  unfold execPortEnable done at h; rw [← Host.Outcome.next.inj h]; simp

theorem execPortDisable_sealed (q : Request) (s : State) (res : State) (h : execPortDisable q s = .next res) : res.sealed = s.sealed := by
  unfold execPortDisable done at h; rw [← Host.Outcome.next.inj h]; simp

theorem execTrunkEnable_sealed (q : Request) (s : State) (res : State) (h : execTrunkEnable q s = .next res) : res.sealed = s.sealed := by
  unfold execTrunkEnable done at h; rw [← Host.Outcome.next.inj h]; simp

theorem execTrunkDisable_sealed (q : Request) (s : State) (res : State) (h : execTrunkDisable q s = .next res) : res.sealed = s.sealed := by
  unfold execTrunkDisable done at h; rw [← Host.Outcome.next.inj h]; simp

theorem execQueueDisable_sealed (q : Request) (s : State) (res : State) (h : execQueueDisable q s = .next res) : res.sealed = s.sealed := by
  unfold execQueueDisable done at h; rw [← Host.Outcome.next.inj h]; simp

theorem execQueueEnable_sealed (q : Request) (s : State) (res : State) (h : execQueueEnable q s = .next res) : res.sealed = s.sealed := by
  unfold execQueueEnable done at h; rw [← Host.Outcome.next.inj h]; simp

theorem execTableWriteCritical_sealed (q : Request) (s : State) (res : State) (h : execTableWriteCritical q s = .next res) : res.sealed = s.sealed := by
  unfold execTableWriteCritical done at h; rw [← Host.Outcome.next.inj h]; simp

theorem execTableFence_sealed (q : Request) (s : State) (res : State) (h : execTableFence q s = .next res) : res.sealed = s.sealed := by
  unfold execTableFence done at h; rw [← Host.Outcome.next.inj h]; simp

theorem execTableFlush_sealed (q : Request) (s : State) (res : State) (h : execTableFlush q s = .next res) : res.sealed = s.sealed := by
  unfold execTableFlush done at h; rw [← Host.Outcome.next.inj h]; simp

theorem execWheyAudit_sealed (q : Request) (s : State) (res : State) (h : execWheyAudit q s = .next res) : res.sealed = s.sealed := by
  unfold execWheyAudit done at h; rw [← Host.Outcome.next.inj h]; simp

theorem execGateListInstall_sealed (q : Request) (s : State) (res : State) (h : execGateListInstall q s = .next res) : res.sealed = s.sealed := by
  unfold execGateListInstall done at h; rw [← Host.Outcome.next.inj h]; simp

theorem execTaskLoad_sealed (q : Request) (s : State) (res : State) (h : execTaskLoad q s = .next res) : res.sealed = s.sealed := by
  unfold execTaskLoad done at h; rw [← Host.Outcome.next.inj h]; simp

theorem execTaskStart_sealed (q : Request) (s : State) (res : State) (h : execTaskStart q s = .next res) : res.sealed = s.sealed := by
  unfold execTaskStart done at h; rw [← Host.Outcome.next.inj h]; simp

theorem execTaskStop_sealed (q : Request) (s : State) (res : State) (h : execTaskStop q s = .next res) : res.sealed = s.sealed := by
  unfold execTaskStop done at h; rw [← Host.Outcome.next.inj h]; simp

theorem execTcuFwStage_sealed (q : Request) (s : State) (res : State) (h : execTcuFwStage q s = .next res) : res.sealed = s.sealed := by
  unfold execTcuFwStage done at h; rw [← Host.Outcome.next.inj h]; simp

theorem execTcuSwitchover_sealed (q : Request) (s : State) (res : State) (h : execTcuSwitchover q s = .next res) : res.sealed = s.sealed := by
  unfold execTcuSwitchover done at h; rw [← Host.Outcome.next.inj h]; simp

theorem execTimeStep_sealed (q : Request) (s : State) (res : State) (h : execTimeStep q s = .next res) : res.sealed = s.sealed := by
  unfold execTimeStep done at h; rw [← Host.Outcome.next.inj h]; simp

theorem execTimeDomainSelect_sealed (q : Request) (s : State) (res : State) (h : execTimeDomainSelect q s = .next res) : res.sealed = s.sealed := by
  unfold execTimeDomainSelect done at h; rw [← Host.Outcome.next.inj h]; simp

theorem execCalRun_sealed (q : Request) (s : State) (res : State) (h : execCalRun q s = .next res) : res.sealed = s.sealed := by
  unfold execCalRun done at h; rw [← Host.Outcome.next.inj h]; simp

theorem execSpareApprove_sealed (q : Request) (s : State) (res : State) (h : execSpareApprove q s = .next res) : res.sealed = s.sealed := by
  unfold execSpareApprove done at h; rw [← Host.Outcome.next.inj h]; simp

@[simp] theorem State.preRead_sealed (s : State) (p : Nat) (b : Blk) (off : Nat) : (State.preRead s p b off).sealed = s.sealed := by
  unfold State.preRead; dsimp only; (repeat' split) <;> simp

@[simp] theorem State.clearRead_sealed (s : State) (p : Nat) (fs : List (Fld × Nat)) : (State.clearRead s p fs).sealed = s.sealed := by
  unfold State.clearRead; simp

@[simp] theorem State.postRead_sealed (s : State) (p : Nat) (b : Blk) (off : Nat) : (s.postRead p b off).sealed = s.sealed := by
  unfold State.postRead; dsimp only; (repeat' split) <;> simp

@[simp] theorem State.readVal_sealed (s : State) (ctx a size : Nat) : (s.readVal ctx a size).2.sealed = s.sealed := by
  unfold State.readVal; dsimp only; (repeat' split) <;> simp

@[simp] theorem State.hostRead_sealed (s : State) (ctx : Nat) (a : Nat) (size : Nat) : (State.hostRead s ctx a size).sealed = s.sealed := by
  unfold State.hostRead; simp

@[simp] theorem State.toTwin_sealed (s : State) (p : Nat) (fs : List Fld) : (State.toTwin s p fs).sealed = s.sealed := by
  unfold State.toTwin; simp

@[simp] theorem State.toHolders_sealed (old : State) (p : Nat) (fs : List Fld) (s : State) : (State.toHolders old p fs s).sealed = s.sealed := by
  unfold State.toHolders; simp

@[simp] theorem State.shadowToTwin_sealed (s : State) (p : Nat) (f : Fld) (i : Nat) : (State.shadowToTwin s p f i).sealed = s.sealed := by
  unfold State.shadowToTwin; dsimp only; (repeat' split) <;> simp

@[simp] theorem State.accepted_sealed (s : State) (p : Nat) (fs : List Fld) : (State.accepted s p fs).sealed = s.sealed := by
  unfold State.accepted; simp

@[simp] theorem State.pageTaken_sealed (s : State) (c : Nat) (p : Nat) : (State.pageTaken s c p).sealed = s.sealed := by
  unfold State.pageTaken; simp

@[simp] theorem State.ownerWritten_sealed (old : State) (p : Nat) (s : State) : (State.ownerWritten old p s).sealed = s.sealed := by
  unfold State.ownerWritten; simp

@[simp] theorem State.causesWritten_sealed (s : State) (p : Nat) : (State.causesWritten s p).sealed = s.sealed := by
  unfold State.causesWritten; dsimp only; (repeat' split) <;> simp

@[simp] theorem State.hdrWritten_sealed (old : State) (p : Nat) (off : Nat) (v : Nat) (s : State) : (State.hdrWritten old p off v s).sealed = s.sealed := by
  unfold State.hdrWritten; simp

@[simp] theorem State.hcWritten_sealed (old : State) (c : Nat) (off : Nat) (v : Nat) (s : State) : (State.hcWritten old c off v s).sealed = s.sealed := by
  unfold State.hcWritten; simp

@[simp] theorem State.rateSrcWritten_sealed (old : State) (t : Nat) (s : State) : (State.rateSrcWritten old t s).sealed = s.sealed := by
  unfold State.rateSrcWritten; simp

@[simp] theorem State.rateLimitWritten_sealed (s : State) (t : Nat) : (State.rateLimitWritten s t).sealed = s.sealed := by
  unfold State.rateLimitWritten; dsimp only; (repeat' split) <;> simp

@[simp] theorem State.timeWritten_sealed (old : State) (t : Nat) (off : Nat) (v : Nat) (s : State) : (State.timeWritten old t off v s).sealed = s.sealed := by
  unfold State.timeWritten; simp

@[simp] theorem State.tdcWritten_sealed (old : State) (t : Nat) (c : Nat) (off : Nat) (v : Nat) (s : State) : (State.tdcWritten old t c off v s).sealed = s.sealed := by
  unfold State.tdcWritten; simp

@[simp] theorem State.refselWritten_sealed (old : State) (t : Nat) (off : Nat) (s : State) : (State.refselWritten old t off s).sealed = s.sealed := by
  unfold State.refselWritten; simp

@[simp] theorem State.ptpWritten_sealed (old : State) (t : Nat) (i : Nat) (off : Nat) (v : Nat) (s : State) : (State.ptpWritten old t i off v s).sealed = s.sealed := by
  unfold State.ptpWritten; simp

@[simp] theorem State.redWritten_sealed (s : State) (p : Nat) : (State.redWritten s p).sealed = s.sealed := by
  unfold State.redWritten; simp

@[simp] theorem State.cadWritten_sealed (old : State) (p : Nat) (off : Nat) (v : Nat) (s : State) : (State.cadWritten old p off v s).sealed = s.sealed := by
  unfold State.cadWritten; simp

@[simp] theorem State.gwWritten_sealed (old : State) (p : Nat) (off : Nat) (v : Nat) (s : State) : (State.gwWritten old p off v s).sealed = s.sealed := by
  unfold State.gwWritten; simp

@[simp] theorem State.tblWritten_sealed (old : State) (p : Nat) (off : Nat) (v : Nat) (s : State) : (State.tblWritten old p off v s).sealed = s.sealed := by
  unfold State.tblWritten; simp

@[simp] theorem State.vatWritten_sealed (off : Nat) (s : State) : (State.vatWritten off s).sealed = s.sealed := by
  unfold State.vatWritten; simp

@[simp] theorem State.shapeWritten_sealed (off : Nat) (v : Nat) (s : State) : (State.shapeWritten off v s).sealed = s.sealed := by
  unfold State.shapeWritten; simp

@[simp] theorem State.gateWritten_sealed (old : State) (off : Nat) (v : Nat) (s : State) : (State.gateWritten old off v s).sealed = s.sealed := by
  unfold State.gateWritten; simp

@[simp] theorem State.sampleWritten_sealed (off : Nat) (s : State) : (State.sampleWritten off s).sealed = s.sealed := by
  unfold State.sampleWritten; simp

@[simp] theorem State.engWritten_sealed (ctx : Nat) (e : Nat) (off : Nat) (v : Nat) (s : State) : (State.engWritten ctx e off v s).sealed = s.sealed := by
  unfold State.engWritten; simp

@[simp] theorem State.regEffect_sealed (old : State) (ctx : Nat) (p : Nat) (off : Nat) (v : Nat) (s : State) : (State.regEffect old ctx p off v s).sealed = s.sealed := by
  unfold State.regEffect; dsimp only; (repeat' split) <;> simp

@[simp] theorem State.hostWrite_sealed (s : State) (ctx : Nat) (a : Nat) (size : Nat) (v : Nat) : (State.hostWrite s ctx a size v).sealed = s.sealed := by
  unfold State.hostWrite; simp

@[simp] theorem State.write_sealed (s : State) (ctx : Nat) (page : Nat) (off : Nat) (v : Nat) : (State.write s ctx page off v).sealed = s.sealed := by
  unfold State.write; simp

@[simp] theorem State.read_sealed (s : State) (ctx : Nat) (page : Nat) (off : Nat) : (State.read s ctx page off).sealed = s.sealed := by
  unfold State.read; simp

@[simp] theorem State.tick_sealed (s : State) : (State.tick s).sealed = s.sealed := by
  unfold State.tick; simp

theorem execSpiWriteFrame_sealed (spi : Nat) (clocks : Nat) (addr : Nat) (data : Nat) (s : State) (res : State) (h : execSpiWriteFrame spi clocks addr data s = .next res) : res.sealed = s.sealed := by
  unfold execSpiWriteFrame done at h; (repeat' split at h) <;> (rw [← Host.Outcome.next.inj h]; simp)

theorem execSpiReadFrame_sealed (spi : Nat) (clocks : Nat) (addr : Nat) (s : State) (res : State) (h : execSpiReadFrame spi clocks addr s = .next res) : res.sealed = s.sealed := by
  unfold execSpiReadFrame done at h; rw [← Host.Outcome.next.inj h]; dsimp only; (repeat' split) <;> simp

@[simp] theorem State.inbandOp_sealed (s : State) (l : List Byte) : (s.inbandOp l).2.sealed = s.sealed := by
  unfold State.inbandOp; dsimp only; (repeat' split) <;> simp

@[simp] theorem State.inbandOps_sealed (s : State) (l : List Byte) (n : Nat) : (s.inbandOps l n).2.sealed = s.sealed := by
  induction n generalizing s l with
  | zero => rfl
  | succ n ih => unfold State.inbandOps; simp [ih]

@[simp] theorem State.inbandRequest_sealed (s : State) (port sa : Nat) (l : List Byte) : (s.inbandRequest port sa l).sealed = s.sealed := by
  unfold State.inbandRequest; dsimp only; (repeat' split) <;> simp [State.inbandRequest.answer]

theorem execInbandRequest_sealed (port : Nat) (sa : Nat) (payload : List Byte) (s : State) (res : State) (h : execInbandRequest port sa payload s = .next res) : res.sealed = s.sealed := by
  unfold execInbandRequest done at h; rw [← Host.Outcome.next.inj h]; simp

theorem execRegisterWrite_sealed (ctx : Nat) (addr : Nat) (size : Nat) (data : Nat) (s : State) (res : State) (h : execRegisterWrite ctx addr size data s = .next res) : res.sealed = s.sealed := by
  unfold execRegisterWrite done at h; rw [← Host.Outcome.next.inj h]; simp

theorem execCounterReadClear_sealed (ctx : Nat) (addr : Nat) (s : State) (res : State) (h : execCounterReadClear ctx addr s = .next res) : res.sealed = s.sealed := by
  unfold execCounterReadClear done at h; rw [← Host.Outcome.next.inj h]; simp

theorem execAccessErrorRead_sealed (ctx : Nat) (addr : Nat) (size : Nat) (s : State) (res : State) (h : execAccessErrorRead ctx addr size s = .next res) : res.sealed = s.sealed := by
  unfold execAccessErrorRead done at h; rw [← Host.Outcome.next.inj h]; simp

theorem execStatOctetsLoRead_sealed (ctx : Nat) (port : Nat) (tx : Bool) (s : State) (res : State) (h : execStatOctetsLoRead ctx port tx s = .next res) : res.sealed = s.sealed := by
  unfold execStatOctetsLoRead done at h; rw [← Host.Outcome.next.inj h]; simp

theorem execHdrOwnerWrite_sealed (ctx : Nat) (page : Nat) (data : Nat) (s : State) (res : State) (h : execHdrOwnerWrite ctx page data s = .next res) : res.sealed = s.sealed := by
  unfold execHdrOwnerWrite done at h; rw [← Host.Outcome.next.inj h]; simp

theorem execLocked_sealed (ctx : Nat) (page : Nat) (owner : Nat) (s : State) (res : State) (h : execLocked ctx page owner s = .next res) : res.sealed = s.sealed := by
  unfold execLocked done at h; rw [← Host.Outcome.next.inj h]; simp

theorem execArm_sealed (ctx : Nat) (page : Nat) (s : State) (res : State) (h : execArm ctx page s = .next res) : res.sealed = s.sealed := by
  unfold execArm done at h; rw [← Host.Outcome.next.inj h]; simp

theorem execCancel_sealed (ctx : Nat) (page : Nat) (s : State) (res : State) (h : execCancel ctx page s = .next res) : res.sealed = s.sealed := by
  unfold execCancel done at h; rw [← Host.Outcome.next.inj h]; simp

theorem execCtxCtlWrite_sealed (ctx : Nat) (data : Nat) (s : State) (res : State) (h : execCtxCtlWrite ctx data s = .next res) : res.sealed = s.sealed := by
  unfold execCtxCtlWrite done at h; rw [← Host.Outcome.next.inj h]; simp

theorem execCmdProdWrite_sealed (ctx : Nat) (data : Nat) (s : State) (res : State) (h : execCmdProdWrite ctx data s = .next res) : res.sealed = s.sealed := by
  unfold execCmdProdWrite done at h; rw [← Host.Outcome.next.inj h]; simp

theorem execCplConsWrite_sealed (ctx : Nat) (data : Nat) (s : State) (res : State) (h : execCplConsWrite ctx data s = .next res) : res.sealed = s.sealed := by
  unfold execCplConsWrite done at h; rw [← Host.Outcome.next.inj h]; simp

theorem execIntRearm_sealed (ctx : Nat) (s : State) (res : State) (h : execIntRearm ctx s = .next res) : res.sealed = s.sealed := by
  unfold execIntRearm done at h; rw [← Host.Outcome.next.inj h]; simp

theorem execTxrProdWrite_sealed (ctx : Nat) (data : Nat) (s : State) (res : State) (h : execTxrProdWrite ctx data s = .next res) : res.sealed = s.sealed := by
  unfold execTxrProdWrite done at h; rw [← Host.Outcome.next.inj h]; simp

theorem execRxrProdWrite_sealed (ctx : Nat) (data : Nat) (s : State) (res : State) (h : execRxrProdWrite ctx data s = .next res) : res.sealed = s.sealed := by
  unfold execRxrProdWrite done at h; rw [← Host.Outcome.next.inj h]; simp

theorem execPktRxfDataRead_sealed (ctx : Nat) (s : State) (res : State) (h : execPktRxfDataRead ctx s = .next res) : res.sealed = s.sealed := by
  unfold execPktRxfDataRead done at h; rw [← Host.Outcome.next.inj h]; simp

theorem execPktTxfDataWrite_sealed (ctx : Nat) (data : Nat) (s : State) (res : State) (h : execPktTxfDataWrite ctx data s = .next res) : res.sealed = s.sealed := by
  unfold execPktTxfDataWrite done at h; rw [← Host.Outcome.next.inj h]; simp

theorem execTimeSnap_sealed (ctx : Nat) (t : Nat) (s : State) (res : State) (h : execTimeSnap ctx t s = .next res) : res.sealed = s.sealed := by
  unfold execTimeSnap done at h; rw [← Host.Outcome.next.inj h]; simp

theorem execTdcArmNow_sealed (ctx : Nat) (t : Nat) (c : Nat) (s : State) (res : State) (h : execTdcArmNow ctx t c s = .next res) : res.sealed = s.sealed := by
  unfold execTdcArmNow done at h; rw [← Host.Outcome.next.inj h]; simp

theorem execTdcRes0Read_sealed (ctx : Nat) (t : Nat) (c : Nat) (s : State) (res : State) (h : execTdcRes0Read ctx t c s = .next res) : res.sealed = s.sealed := by
  unfold execTdcRes0Read done at h; rw [← Host.Outcome.next.inj h]; simp

theorem execTdcRes4Read_sealed (ctx : Nat) (t : Nat) (c : Nat) (s : State) (res : State) (h : execTdcRes4Read ctx t c s = .next res) : res.sealed = s.sealed := by
  unfold execTdcRes4Read done at h; rw [← Host.Outcome.next.inj h]; simp

theorem execTdcLutDataWrite_sealed (ctx : Nat) (t : Nat) (c : Nat) (data : Nat) (s : State) (res : State) (h : execTdcLutDataWrite ctx t c data s = .next res) : res.sealed = s.sealed := by
  unfold execTdcLutDataWrite done at h; rw [← Host.Outcome.next.inj h]; simp

theorem execSynCtlWrite_sealed (ctx : Nat) (t : Nat) (data : Nat) (s : State) (res : State) (h : execSynCtlWrite ctx t data s = .next res) : res.sealed = s.sealed := by
  unfold execSynCtlWrite done at h; rw [← Host.Outcome.next.inj h]; simp

theorem execCandCfgWrite_sealed (ctx : Nat) (t : Nat) (slot : Nat) (reg : Nat) (data : Nat) (s : State) (res : State) (h : execCandCfgWrite ctx t slot reg data s = .next res) : res.sealed = s.sealed := by
  unfold execCandCfgWrite done at h; rw [← Host.Outcome.next.inj h]; simp

theorem execRefselSynceWrite_sealed (ctx : Nat) (t : Nat) (data : Nat) (s : State) (res : State) (h : execRefselSynceWrite ctx t data s = .next res) : res.sealed = s.sealed := by
  unfold execRefselSynceWrite done at h; rw [← Host.Outcome.next.inj h]; simp

theorem execRefselCtlWrite_sealed (ctx : Nat) (t : Nat) (data : Nat) (s : State) (res : State) (h : execRefselCtlWrite ctx t data s = .next res) : res.sealed = s.sealed := by
  unfold execRefselCtlWrite done at h; rw [← Host.Outcome.next.inj h]; simp

theorem execPtpTxts0Read_sealed (ctx : Nat) (t : Nat) (i : Nat) (s : State) (res : State) (h : execPtpTxts0Read ctx t i s = .next res) : res.sealed = s.sealed := by
  unfold execPtpTxts0Read done at h; rw [← Host.Outcome.next.inj h]; simp

theorem execPtpTxts3Read_sealed (ctx : Nat) (t : Nat) (i : Nat) (s : State) (res : State) (h : execPtpTxts3Read ctx t i s = .next res) : res.sealed = s.sealed := by
  unfold execPtpTxts3Read done at h; rw [← Host.Outcome.next.inj h]; simp

theorem execPtpTrkClear_sealed (ctx : Nat) (t : Nat) (i : Nat) (s : State) (res : State) (h : execPtpTrkClear ctx t i s = .next res) : res.sealed = s.sealed := by
  unfold execPtpTrkClear done at h; rw [← Host.Outcome.next.inj h]; simp

theorem execPtpSmpPush_sealed (ctx : Nat) (t : Nat) (i : Nat) (s : State) (res : State) (h : execPtpSmpPush ctx t i s = .next res) : res.sealed = s.sealed := by
  unfold execPtpSmpPush done at h; rw [← Host.Outcome.next.inj h]; simp

theorem execTcuRedCtlWrite_sealed (ctx : Nat) (t : Nat) (data : Nat) (s : State) (res : State) (h : execTcuRedCtlWrite ctx t data s = .next res) : res.sealed = s.sealed := by
  unfold execTcuRedCtlWrite done at h; rw [← Host.Outcome.next.inj h]; simp

theorem execEyeStart_sealed (ctx : Nat) (port : Nat) (data : Nat) (s : State) (res : State) (h : execEyeStart ctx port data s = .next res) : res.sealed = s.sealed := by
  unfold execEyeStart done at h; rw [← Host.Outcome.next.inj h]; simp

theorem execCadTblWrite_sealed (ctx : Nat) (t : Nat) (s : State) (res : State) (h : execCadTblWrite ctx t s = .next res) : res.sealed = s.sealed := by
  unfold execCadTblWrite done at h; rw [← Host.Outcome.next.inj h]; simp

theorem execCadTblRead_sealed (ctx : Nat) (t : Nat) (s : State) (res : State) (h : execCadTblRead ctx t s = .next res) : res.sealed = s.sealed := by
  unfold execCadTblRead done at h; rw [← Host.Outcome.next.inj h]; simp

theorem execGwTplWrite_sealed (ctx : Nat) (t : Nat) (s : State) (res : State) (h : execGwTplWrite ctx t s = .next res) : res.sealed = s.sealed := by
  unfold execGwTplWrite done at h; rw [← Host.Outcome.next.inj h]; simp

theorem execGwTplRead_sealed (ctx : Nat) (t : Nat) (s : State) (res : State) (h : execGwTplRead ctx t s = .next res) : res.sealed = s.sealed := by
  unfold execGwTplRead done at h; rw [← Host.Outcome.next.inj h]; simp

theorem execTblRead_sealed (ctx : Nat) (w : Nat) (s : State) (res : State) (h : execTblRead ctx w s = .next res) : res.sealed = s.sealed := by
  unfold execTblRead done at h; rw [← Host.Outcome.next.inj h]; simp

theorem execTblWrite_sealed (ctx : Nat) (w : Nat) (s : State) (res : State) (h : execTblWrite ctx w s = .next res) : res.sealed = s.sealed := by
  unfold execTblWrite done at h; rw [← Host.Outcome.next.inj h]; simp

theorem execTblLookup_sealed (ctx : Nat) (w : Nat) (s : State) (res : State) (h : execTblLookup ctx w s = .next res) : res.sealed = s.sealed := by
  unfold execTblLookup done at h; rw [← Host.Outcome.next.inj h]; simp

theorem execTblInsert_sealed (ctx : Nat) (w : Nat) (s : State) (res : State) (h : execTblInsert ctx w s = .next res) : res.sealed = s.sealed := by
  unfold execTblInsert done at h; rw [← Host.Outcome.next.inj h]; simp

theorem execTblDelete_sealed (ctx : Nat) (w : Nat) (s : State) (res : State) (h : execTblDelete ctx w s = .next res) : res.sealed = s.sealed := by
  unfold execTblDelete done at h; rw [← Host.Outcome.next.inj h]; simp

theorem execClearHit_sealed (ctx : Nat) (w : Nat) (s : State) (res : State) (h : execClearHit ctx w s = .next res) : res.sealed = s.sealed := by
  unfold execClearHit done at h; rw [← Host.Outcome.next.inj h]; simp

theorem execMactSeedWrite_sealed (ctx : Nat) (w : Nat) (data : Nat) (s : State) (res : State) (h : execMactSeedWrite ctx w data s = .next res) : res.sealed = s.sealed := by
  unfold execMactSeedWrite done at h; rw [← Host.Outcome.next.inj h]; simp

theorem execLpmLenWrite_sealed (ctx : Nat) (w : Nat) (off : Nat) (data : Nat) (s : State) (res : State) (h : execLpmLenWrite ctx w off data s = .next res) : res.sealed = s.sealed := by
  unfold execLpmLenWrite done at h; rw [← Host.Outcome.next.inj h]; simp

theorem execVoqSelWrite_sealed (ctx : Nat) (data : Nat) (s : State) (res : State) (h : execVoqSelWrite ctx data s = .next res) : res.sealed = s.sealed := by
  unfold execVoqSelWrite done at h; rw [← Host.Outcome.next.inj h]; simp

theorem execShpWrite_sealed (ctx : Nat) (atCommit : Bool) (s : State) (res : State) (h : execShpWrite ctx atCommit s = .next res) : res.sealed = s.sealed := by
  unfold execShpWrite done at h; rw [← Host.Outcome.next.inj h]; simp

theorem execShpRead_sealed (ctx : Nat) (s : State) (res : State) (h : execShpRead ctx s = .next res) : res.sealed = s.sealed := by
  unfold execShpRead done at h; rw [← Host.Outcome.next.inj h]; simp

theorem execGateWrite_sealed (ctx : Nat) (s : State) (res : State) (h : execGateWrite ctx s = .next res) : res.sealed = s.sealed := by
  unfold execGateWrite done at h; rw [← Host.Outcome.next.inj h]; simp

theorem execGateRead_sealed (ctx : Nat) (s : State) (res : State) (h : execGateRead ctx s = .next res) : res.sealed = s.sealed := by
  unfold execGateRead done at h; rw [← Host.Outcome.next.inj h]; simp

theorem execSmpRd0Read_sealed (ctx : Nat) (s : State) (res : State) (h : execSmpRd0Read ctx s = .next res) : res.sealed = s.sealed := by
  unfold execSmpRd0Read done at h; rw [← Host.Outcome.next.inj h]; simp

theorem execSmpRd3Read_sealed (ctx : Nat) (s : State) (res : State) (h : execSmpRd3Read ctx s = .next res) : res.sealed = s.sealed := by
  unfold execSmpRd3Read done at h; rw [← Host.Outcome.next.inj h]; simp

theorem execMbxPush_sealed (ctx : Nat) (e : Nat) (s : State) (res : State) (h : execMbxPush ctx e s = .next res) : res.sealed = s.sealed := by
  unfold execMbxPush done at h; rw [← Host.Outcome.next.inj h]; simp

theorem execMbxClear_sealed (ctx : Nat) (e : Nat) (s : State) (res : State) (h : execMbxClear ctx e s = .next res) : res.sealed = s.sealed := by
  unfold execMbxClear done at h; rw [← Host.Outcome.next.inj h]; simp

theorem execMbxDataWrite_sealed (ctx : Nat) (e : Nat) (data : Nat) (s : State) (res : State) (h : execMbxDataWrite ctx e data s = .next res) : res.sealed = s.sealed := by
  unfold execMbxDataWrite done at h; rw [← Host.Outcome.next.inj h]; simp

theorem execMbxOutPop_sealed (ctx : Nat) (e : Nat) (s : State) (res : State) (h : execMbxOutPop ctx e s = .next res) : res.sealed = s.sealed := by
  unfold execMbxOutPop done at h; rw [← Host.Outcome.next.inj h]; simp

theorem execMbxOutDataRead_sealed (ctx : Nat) (e : Nat) (s : State) (res : State) (h : execMbxOutDataRead ctx e s = .next res) : res.sealed = s.sealed := by
  unfold execMbxOutDataRead done at h; rw [← Host.Outcome.next.inj h]; simp

theorem execShDataAccess_sealed (ctx : Nat) (write : Bool) (data : Nat) (s : State) (res : State) (h : execShDataAccess ctx write data s = .next res) : res.sealed = s.sealed := by
  unfold execShDataAccess done at h; rw [← Host.Outcome.next.inj h]; simp

theorem execPcValLoRead_sealed (ctx : Nat) (n : Nat) (s : State) (res : State) (h : execPcValLoRead ctx n s = .next res) : res.sealed = s.sealed := by
  unfold execPcValLoRead done at h; rw [← Host.Outcome.next.inj h]; simp

theorem execPcValLoWrite_sealed (ctx : Nat) (n : Nat) (data : Nat) (s : State) (res : State) (h : execPcValLoWrite ctx n data s = .next res) : res.sealed = s.sealed := by
  unfold execPcValLoWrite done at h; rw [← Host.Outcome.next.inj h]; simp

theorem execPerfRunWrite_sealed (ctx : Nat) (data : Nat) (s : State) (res : State) (h : execPerfRunWrite ctx data s = .next res) : res.sealed = s.sealed := by
  unfold execPerfRunWrite done at h; rw [← Host.Outcome.next.inj h]; simp

theorem execSuSnap_sealed (ctx : Nat) (s : State) (res : State) (h : execSuSnap ctx s = .next res) : res.sealed = s.sealed := by
  unfold execSuSnap done at h; rw [← Host.Outcome.next.inj h]; simp

theorem execCalCapture_sealed (ctx : Nat) (s : State) (res : State) (h : execCalCapture ctx s = .next res) : res.sealed = s.sealed := by
  unfold execCalCapture done at h; rw [← Host.Outcome.next.inj h]; simp

theorem execCalApply_sealed (ctx : Nat) (s : State) (res : State) (h : execCalApply ctx s = .next res) : res.sealed = s.sealed := by
  unfold execCalApply done at h; rw [← Host.Outcome.next.inj h]; simp

theorem execCalImgDataAccess_sealed (ctx : Nat) (write : Bool) (data : Nat) (s : State) (res : State) (h : execCalImgDataAccess ctx write data s = .next res) : res.sealed = s.sealed := by
  unfold execCalImgDataAccess done at h; rw [← Host.Outcome.next.inj h]; simp

theorem execBootPushLenWrite_sealed (ctx : Nat) (data : Nat) (s : State) (res : State) (h : execBootPushLenWrite ctx data s = .next res) : res.sealed = s.sealed := by
  unfold execBootPushLenWrite done at h; rw [← Host.Outcome.next.inj h]; simp

theorem execBootPushDataWrite_sealed (ctx : Nat) (data : Nat) (s : State) (res : State) (h : execBootPushDataWrite ctx data s = .next res) : res.sealed = s.sealed := by
  unfold execBootPushDataWrite done at h; rw [← Host.Outcome.next.inj h]; simp

theorem execOtpProg_sealed (ctx : Nat) (s : State) (res : State) (h : execOtpProg ctx s = .next res) : res.sealed = s.sealed := by
  unfold execOtpProg done at h; rw [← Host.Outcome.next.inj h]; simp



end Sys2Proof.Machine
end

