-- ==== Sys2Proof/Tests/Slice0.lean ====
section
/-! SUPPORT. The author's tests: a smoke test of well-formedness, a few commands run on small states with results taken from the spec,
and for every clause with hypotheses of a statement a state and operands that meet them all (`wit_<statement>_<clause>`). -/

namespace Sys2Proof.Tests

open Sys2Proof Sys2Proof.Machine

set_option linter.unusedVariables false
set_option Elab.async false

/-- A state in which the device runs: every domain is on, every context attached, TCU A holds the token and TCU B stands by. -/
def on : State :=
  let s : State := { State.reset with phase := .running, perstHigh := true, bootNext := 1 }
  let s := (s.wr pagePwr R.PWR.PWR_STAT 0xAAAAAAA).wr pageBoot R.BOOT.BOOT_STAT_READY 1
  let s := s.each 4 (fun c a => a.wr (pageHC c) R.HC.CTX_STAT_ATTACHED 1)
  let s := (s.wr pageArb R.ARB.ARB_STAT_HOLDER_VALID 1).wr (pageCtl 0) R.CTL.TCU_STAT_STATE tsActive
  let s := s.wr (pageCtl 1) R.CTL.TCU_STAT_STATE tsStandby
  s.each 2 (fun t a => a.onTcu t (fun u => { u with clk := true, ready := true }))

/-- A request of HC0 for a page, the fourth that it has submitted. -/
def req (page : Nat) (args : List Nat) : Request := { ctx := 0, count := 3, tag := 9, intOn := true, page := page, args := args }

/-- A command of HC0 in flight, the third that it submitted. -/
def cmd (op page : Nat) (args : List Nat) : Cmd :=
  { ctx := 0, count := 2, handle := 2, tag := 0, intOn := false, afterPrev := false, op := op, page := page, args := args }

/-- Octets given as numbers. -/
def oct (l : List Nat) : List Byte := l.map (BitVec.ofNat 8)

/-- The octets of a Sync message in an Ethernet frame of 64 octets, without a true FCS. -/
def syncOctets : List Byte :=
  oct ([0x01, 0x1B, 0x19, 0, 0, 0, 2, 0, 0, 0, 0, 1, 0x88, 0xF7, 0, 2, 0, 44] ++ List.replicate 46 0)

/-- A running device with PTP instance 0 enabled in role `r` on port 1. -/
def ptpOn (r : Nat) : State :=
  (on.wr (pagePtp 0 0) R.PTP.PTP_CTL_EN 1).wr (pagePtp 0 0) R.PTP.PTP_CTL_ROLE r |>.wrI (pagePtp 0 0) R.PTP.PTP_PORT_CFG_EN 1 1
    |>.wrI (pagePtp 0 0) R.PTP.PTP_PORT_CFG_L2 1 1

/-- A candidate slot of TCU A in a state, with a source. -/
def cand (k src st : Nat) : State := (on.wrI (pageRefsel 0) R.REFSEL.CAND_CFG_SRC k src).wrI (pageRefsel 0) R.REFSEL.CAND_CFG_EN k 1 |>.wrI (pageRefsel 0) R.REFSEL.CAND_STAT_STATE k st

/-- Octets of little-endian words. -/
def words (l : List Nat) : List Byte := (l.map (leOct 4)).flatten

/-- An engine image with one task that starts by itself. -/
def engImage : List Byte :=
  words ([0x4B454E47, 1, 0x10002, 1, 4, 0, 0, 0, 0x0A130000, 0x08000800, 1, 0] ++ List.replicate 60 0 ++ [0x13] ++ List.replicate 16 1)

/-- A boot image whose first section of two is that engine image, for engine 2. -/
def bootImage : List Byte := words [0x4B424F54, 1, 420, 2, 0, 1, 0, 0, 0x203, 356, 0, 0] ++ engImage

/-- A running device with trunk `n` in a state. -/
def nt (n st : Nat) : State := on.wr (pageNT n) R.NT.TRUNK_STAT_STATE st

/-- The gateway on, with one template: number 3, on port 5, which is up. -/
def gw (ws : List Nat) : State :=
  { ((on.wr (pageGw 0) R.GW.GW_CTL_EN 1).setLink 5 lkUp).wr (pageCad 0) R.CAD.CAD_CTL_EN 1 with gwTpl := [(3, ws)] }

/-- An inbound gateway frame of template 3 for hoop 5. -/
def gwIn : List Byte :=
  let l := oct [2, 0, 0, 0, 0, 9, 2, 0, 0, 0, 0, 7] ++ beOct 2 34998 ++ beOct 4 5 ++ beOct 2 3 ++ beOct 2 2 ++ oct [1, 2, 3, 4, 5, 6, 7, 8, 9, 10, 11, 12] ++ oct (List.replicate 26 0)
  l ++ fcsOf l

/-- Puts an entry into the first free way of its key. -/
def put1 (s : State) (e : List Nat) : State := s.setEntry 0 tMac ((s.freeWay 0 tMac e).getD 0) e

/-- VLAN 1 has ports 5 and 6 in group 9, and the address 02-00-00-00-00-09 is learned at port 6, which is up. -/
def fwd : State :=
  let s := ((on.setLink 6 lkUp).setLink 5 lkUp).wr (pagePipe 0) R.PIPE.PIPE_CTL_EN 1
  put1 (put1 (s.setEntry 0 tGroup 9 [0x60, 0, 0x20, 2 ^ 31]) ((macKey 0 1 1).set 2 9)) ((macKey 0x020000000009 1 0).set 2 (6 + 2 ^ 17))

/-- The words of the learned entry of `fwd`, and its index. -/
def fwdAt : Nat := (fwd.findKey 0 tMac (macKey 0x020000000009 1 0)).getD 0

/-- A frame that a host gave port 5, to the address that `fwd` knows. -/
def hostFrame : Frame := { port := 5, host := true, owner := 5, octets := gwIn, complete := true }

/-- A frame of 64 octets received at port 4. -/
def lineFrame : Frame := { port := 4, owner := 4, octets := gwIn, stored := 64, complete := true, decided := true, copies := 1 }

/-- Port 5 is up, with one copy of that frame in its queue of ingress 4 and leaf 640. -/
def oneCopy : State := ((on.setLink 5 lkUp).setFrame 7 lineFrame).onVoq (voqOf 4 640) (fun v => { v with copies := [{ frame := 7, leaf := 640 }] })


/-- `oneCopy` with its port busy since 0, at device time `n` ns. -/
def busyTx (n : Nat) : State := { oneCopy with up := n }.onTx 5 (fun x => { x with kind := .pause 9, octets := List.replicate 60 0#8 })

/-- `oneCopy` with its copy granted. -/
def picked : State := oneCopy.onMac 5 (fun m => { m with pick := some (voqOf 4 640, { frame := 7, leaf := 640 }) })

/-- The in-band port 6, up, with one frame waiting. -/
def inb : State :=
  let s : State := { on.setLink 6 lkUp with straps := { on.straps with hcMap := 2 } }
  (s.wr pageInb R.INB.INB_PORT 6).onHost 3 (fun h => { h with inbq := [oct [1, 2, 3]] })

/-- Counter `n` counts event 1 in edge mode, with reload value 5, while its group runs. -/
def perfed (n : Nat) : State :=
  on.wr pagePerfCtl R.PERF.PERF_CTL_RUN 1 |>.wr (pagePerf n) R.PERFC.PC_CTL_EN 1 |>.wr (pagePerf n) R.PERFC.PC_CTL_EVENT 1
    |>.wr (pagePerf n) R.PERFC.PC_CTL_RELOAD_EN 1 |>.wr (pagePerf n) R.PERFC.PC_RELOAD_LO 5

/-- A critical entry in table 2, index 9. -/
def critAt9 : State := on.setEntry 0 2 9 [0x60, 0, 0, 2 ^ 31 + 2 ^ 19]

/-! ### Well-formedness: an ill-formed command for each check is refused -/

/-- A request that breaks one width at a time is ill formed; the unbroken one is well formed. -/
theorem test_wf_request :
    (Instr.nop (req 0 [1, 2])).wf = true ∧ (Instr.nop { req 0 [] with ctx := 4 }).wf = false ∧ (Instr.nop (req 4096 [])).wf = false ∧
    (Instr.nop { req 0 [] with tag := 65536 }).wf = false ∧ (Instr.nop (req 0 [0, 0, 0, 0, 0, 0, 0])).wf = false ∧
    (Instr.nop (req 0 [4294967296])).wf = false := by decide

/-- Accesses: context, address, size and word. -/
theorem test_wf_access :
    (Instr.registerWrite 3 0xFFFFFC 4 0xFFFFFFFF).wf = true ∧ (Instr.registerWrite 4 0 4 0).wf = false ∧
    (Instr.registerWrite 0 0x1000000 4 0).wf = false ∧ (Instr.registerWrite 0 0 3 0).wf = false ∧
    (Instr.registerWrite 0 0 4 4294967296).wf = false ∧ (Instr.arm 0 4096).wf = false ∧ (Instr.pcieLinkUp 2).wf = false ∧
    (Instr.spiReadFrame 2 16 0).wf = false ∧ (Instr.inbandRequest 0 (2 ^ 48) []).wf = false ∧ (Instr.inbandRequest 48 0 []).wf = false ∧
    (Instr.descriptorFetch 0 [4294967296]).wf = false := by decide

/-- The timing units: TCU, channel, code, line, instance, candidate, register, output and gate. -/
theorem test_wf_timing :
    (Instr.tdcCapture 1 23 511 true false).wf = true ∧ (Instr.tdcCapture 2 0 0 true false).wf = false ∧ (Instr.tdcCapture 0 24 0 true false).wf = false ∧
    (Instr.tdcCapture 0 0 512 true false).wf = false ∧ (Instr.lineLockLost 0 0 5).wf = false ∧ (Instr.ptpTrkClear 0 0 2).wf = false ∧
    (Instr.candLoss 0 16).wf = false ∧ (Instr.candCfgWrite 0 0 0 7 0).wf = false ∧ (Instr.outAlignTimeout 0 8).wf = false ∧
    (Instr.gateInputEdge 8 true).wf = false ∧ (Instr.activeFailure 256).wf = false := by decide

/-- Lines, trunks, tables, engines, counters and the rest. -/
theorem test_wf_units :
    (Instr.trunkFrameLock 12).wf = false ∧ (Instr.recentre 0 3).wf = false ∧ (Instr.echoRx 0 4 (2 ^ 48)).wf = false ∧ (Instr.learnCommit 2).wf = false ∧
    (Instr.tblRead 0 4).wf = false ∧ (Instr.tblOpComplete 0x0C7 false).wf = false ∧ (Instr.lpmLenWrite 0 2 0 0).wf = false ∧
    (Instr.dispatch 8).wf = false ∧ (Instr.taskTimerExpiry 0 16).wf = false ∧ (Instr.pcValLoRead 0 64).wf = false ∧ (Instr.vatBankSwap 36).wf = false ∧
    (Instr.spareSwap 16 []).wf = false ∧ (Instr.supplyWarn 6).wf = false ∧ (Instr.domainWipeDone 0).wf = false ∧ (Instr.pauseRx 0 65536).wf = false ∧
    (Instr.resetRelease 4 0 0 0).wf = false ∧ (Instr.taskWait 0 true [⟨0, 0, 2041, List.replicate 511 0⟩]).wf = false := by decide

/-! ### States that the frames and the invariants speak of -/

/-- A command answers some next state: every meaning does. -/
theorem test_every_command_answers (i : Instr) (s : State) : ∃ u, exec i s = .next u := by cases i <;> exact ⟨_, rfl⟩

theorem wit_TdcCommandsKeepOtherChannels_1 : ∃ s u : State, ∃ t c : Nat, t < 2 ∧ c < 24 ∧ exec (.tdcCapture t c 300 true false) s = .next u :=
  ⟨on.onTdc 1 14 (fun d => { d with armed := true }), _, 1, 14, by decide, by decide, rfl⟩

theorem wit_AStepRunsTheFrontCommand_2 : ∃ s : State, s.pending = [] ∧ ∀ k ∈ s.cmds, k.started = true :=
  ⟨{ on with cmds := [{ cmd 0x42 0x040 [] with started := true }] }, by decide +kernel⟩

theorem wit_EveryStepKeepsMemoryAndOtpWellFormed_1 : ∃ s u : State, Memory.wf s = true ∧ s.lifeCycle ≤ 3 ∧ step s = .next u :=
  ⟨{ on with shmem := [(5, 7)], otp := [(3, 1)], lifeCycle := 2, pending := [.hoopBoundary] }, _, by decide +kernel, by decide, rfl⟩

theorem wit_EveryStepMovesOtpForwardOnly_1 : ∃ s u : State, step s = .next u :=
  ⟨{ on with lifeProg := some (2, []), pending := [.lifecycleOtpDone] }, _, rfl⟩

theorem wit_ReadsAndWindowAccessesKeepTheRest_1 : ∃ s u : State, ∃ ctx a : Nat, a < 2 ^ 24 ∧ ctx < 4 ∧ exec (.counterReadClear ctx a) s = .next u :=
  ⟨on, _, 3, 2 ^ 24 - 4, by decide, by decide, rfl⟩

theorem wit_ReadsAndWindowAccessesKeepTheRest_2 : ∃ s u : State, ∃ e : Nat, e < 8 ∧ exec (.mbxDataWrite 0 e 5) s = .next u := ⟨on, _, 7, by decide, rfl⟩

theorem wit_EngineAndLaneCommandsKeepTheRest_1 : ∃ s u : State, ∃ e : Nat, e < 8 ∧ exec (.dispatch e) s = .next u := ⟨on, _, 7, by decide, rfl⟩

theorem wit_EngineAndLaneCommandsKeepTheRest_2 : ∃ s u : State, ∃ p : Nat, p < 48 ∧ exec (.lpiEnter p true) s = .next u := ⟨on, _, 47, by decide, rfl⟩

theorem wit_TableCommandsKeepTheRest_1 : ∃ s u : State, ∃ page : Nat, 0x0C3 ≤ page ∧ page ≤ 0x0C6 ∧ exec (.tblOpComplete page true) s = .next u :=
  ⟨on, _, 0x0C6, by decide, by decide, rfl⟩

theorem wit_TimingEventsKeepTheRest_1 : ∃ s u : State, ∃ t c : Nat, t < 2 ∧ c < 24 ∧ exec (.calDeferTimeout t c) s = .next u :=
  ⟨on, _, 1, 23, by decide, by decide, rfl⟩

theorem wit_TrunkAndCadenceEventsKeepTheRest_1 : ∃ s u : State, ∃ n : Nat, n < 12 ∧ exec (.trunkFrameLock n) s = .next u := ⟨nt 11 4, _, 11, by decide, rfl⟩

theorem wit_SwitchEventsKeepTheRest_1 : ∃ s u : State, ∃ p : Nat, p < 48 ∧ exec (.frameTxEnd p) s = .next u := ⟨on, _, 47, by decide, rfl⟩

theorem wit_ServiceEventsKeepTheRest_1 : ∃ s u : State, exec (.supplyWarn 5) s = .next u := ⟨on, _, rfl⟩

theorem wit_RequestsKeepTheRest_1 : ∃ s u : State, exec (.trunkEnable (req (pageNT 3) [])) s = .next u := ⟨on, _, rfl⟩

/-! ### What some commands do, with results that the spec states -/

/-- Commands run in the order they came, and an empty queue lets 1 ns go by. -/
theorem test_step_order : (match step { on with pending := [.pePerstAssert, .pePerstRelease] } with
    | .next u => decide (u.pending = [.pePerstRelease]) && !u.perstHigh | _ => false) = true := by decide +kernel

/-- R72: an ideal line's table is 128k + 64. -/
theorem test_ideal_table : ((fineTable (List.replicate 512 80)).getD 511 0, (fineTable (List.replicate 512 80)).getD 0 0) = (65472, 64) := by decide +kernel

/-- R62: a step that is no multiple of 64 ns steps by the nearest multiple and leaves the rest to the slew. -/
theorem test_step_rounds : (round64 (100 * 65536), round64 (31 * 65536), round64 (-100 * 65536)) = (128, 0, -128) := by decide +kernel

/-- R9, R38: an owner's write is taken, and one of another context is refused and recorded. -/
theorem test_owner_writes : (match exec (.registerWrite 1 (regAddr pageBoot 0x00C) 4 5) on with
    | .next u => decide (u.rd pageBoot R.HDR.HDR_ERR_CAUSE_ACC ≠ 0) | _ => false) = true := by decide +kernel

/-- R399, R400: a power-on reset enters the reset state. -/
theorem test_power_on : (match exec .powerOnReset on with
    | .next u => decide (u.phase = .reset ∧ u.tokenHeld = false ∧ u.cmds = []) | _ => false) = true := by decide +kernel

/-- R183: a port counter at its limit stays there. -/
theorem test_counter_saturates : ((on.wr (pagePort 3) R.PORT.CNT_LOS 0xFFFFFFFF).addI (pagePort 3) R.PORT.CNT_LOS 0 9).rd (pagePort 3) R.PORT.CNT_LOS = 0xFFFFFFFF := by
  decide +kernel

/-- The reset state's memories are canonical. -/
theorem test_reset_memory : Memory.wf State.reset = true := by decide

theorem wit_TimeCommandsAndSyncInTakeEffect_1 : ∃ (s : State), ∃ (ctx : Nat), ∃ (t : Nat), t < 2 ∧ s.writes ctx (pageTime t) :=
  ⟨on.onTcu 1 (fun u => { u with now := 5000000000123456789, cyc := 1000000000000 }), 0, 1, by decide +kernel⟩

theorem wit_TimeCommandsAndSyncInTakeEffect_2 : ∃ (s : State), ∃ (t : Nat), t < 2 ∧ s.pageOn (pageTime t) ∧ (s.tcu t).slewing = true ∧ (s.decides t = false ∨ (s.tcu t).rem = 0 ∨ 0 < (s.tcu t).slew * (s.tcu t).rem) :=
  ⟨(on.wr (pageTime 1) R.TIME.STEP_REM 7).onTcu 1 (fun u => { u with rem := 7 * 2 ^ 32, slewing := true }), 1, by decide +kernel⟩

theorem wit_TimeCommandsAndSyncInTakeEffect_3 : ∃ (s : State), ∃ (t : Nat), t < 2 ∧ (s.tcu t).slewing = true ∧ s.decides t = true ∧ (s.tcu t).rem ≠ 0 ∧ (s.tcu t).slew * (s.tcu t).rem ≤ 0 :=
  ⟨on.onTcu 0 (fun u => { u with rem := 7 * 2 ^ 32, slewing := true, slew := -1 }), 0, by decide +kernel⟩

theorem wit_TimeCommandsAndSyncInTakeEffect_4 : ∃ (s : State), ∃ (q : Request), s.accepts 0x42 q ∧ s.tokenHeld = true :=
  ⟨on, req (pageTime 0) [1, 0, 0, 0, 0, 0], by decide +kernel⟩

theorem wit_TimeCommandsAndSyncInTakeEffect_5 : ∃ (s : State), ∃ q, (s.tcu s.lead).step = some q ∧ s.lead < 2 ∧ (s.tcu s.lead).clk = true ∧ (s.tcu s.lead).now < counterMod - 64 :=
  ⟨on.onTcu 0 (fun u => { u with now := 1000, step := some ⟨100 * 65536, true, true⟩ }), ⟨100 * 65536, true, true⟩, by decide +kernel⟩

theorem wit_TimeCommandsAndSyncInTakeEffect_6 : ∃ (s : State), ∃ q, (s.tcu s.lead).step = some q ∧ s.lead < 2 ∧ s.pageOn (pageTime s.lead) ∧ (round64 q.amount = 0 ∨ s.armedPages = []) :=
  ⟨on.onTcu 0 (fun u => { u with now := 1000, step := some ⟨100 * 65536, true, true⟩ }), ⟨100 * 65536, true, true⟩, by decide +kernel⟩

theorem wit_TimeCommandsAndSyncInTakeEffect_7 : ∃ (s : State), ∃ t, ∃ (rising : Bool), t < 2 ∧ s.flag (pageSynth t) R.SYNTH.SYNC_CTL_EN = true ∧ s.flag (pageSynth t) R.SYNTH.SYNC_CTL_EDGE ≠ rising ∧ (s.tcu t).syncE = none ∧ (s.tcu t).clk = true :=
  ⟨(on.wr (pageSynth 1) R.SYNTH.SYNC_CTL_EN 1), 1, true, by decide +kernel⟩

theorem wit_TimeCommandsAndSyncInTakeEffect_8 : ∃ (s : State), ∃ (t : Nat), ∃ e, ∃ m, t < 2 ∧ s.pageOn (pageSynth t) ∧ (s.tcu t).syncE = some (e, m) :=
  ⟨on.onTcu 1 (fun u => { u with syncE := some (7000000064, 3) }), 1, 7000000064, 3, by decide +kernel⟩

theorem wit_TdcChannelsArmAndCapture_1 : ∃ (s : State), ∃ (ctx : Nat), ∃ (t : Nat), ∃ (c : Nat), t < 2 ∧ isEvent c = true ∧ s.writes ctx (pageTdc t c) ∧ s.rd (pageTdc t c) R.TDC.TDC_ARM_SRC = 4 ∧ s.rd (pageTdc t c) R.TDC.TDC_ARM_INT_SRC = 0 :=
  ⟨(on.wr (pageTdc 1 14) R.TDC.TDC_ARM_SRC 4), 0, 1, 14, by decide +kernel⟩

theorem wit_TdcChannelsArmAndCapture_2 : ∃ (s : State), ∃ (n : Nat), ∃ (level : Bool), n < 8 ∧ bitAt s.gatePins n ≠ level :=
  ⟨(on.wr (pageTdc 1 14) R.TDC.TDC_ARM_SRC 2), 2, true, by decide +kernel⟩

theorem wit_TdcChannelsArmAndCapture_3 : ∃ (s : State), ∃ (t : Nat), ∃ (c : Nat), t < 2 ∧ isEvent c = true ∧ (s.tdc t c).armAt = true ∧ s.rd (pageTdc t c) R.TDC.TDC_ARM_SRC = 4 ∧ s.rd (pageTdc t c) R.TDC.TDC_ARM_INT_SRC = 2 ∧ s.rd (pageTdc t c) R.TDC.TDC_WINDOW ≠ 0 :=
  ⟨(((on.wr (pageTdc 1 14) R.TDC.TDC_ARM_SRC 4).wr (pageTdc 1 14) R.TDC.TDC_ARM_INT_SRC 2).wr (pageTdc 1 14) R.TDC.TDC_WINDOW 5).onTdc 1 14 (fun d => { d with armAt := true }), 1, 14, by decide +kernel⟩

theorem wit_TdcChannelsArmAndCapture_4 : ∃ (s : State), ∃ (t : Nat), ∃ (c : Nat), ∃ e, t < 2 ∧ isEvent c = true ∧ (s.tdc t c).armed = true ∧ (s.tdc t c).winEnd = some e :=
  ⟨on.onTdc 1 14 (fun d => { d with armed := true, winEnd := some 500 }), 1, 14, 500, by decide +kernel⟩

theorem wit_TdcChannelsArmAndCapture_5 : ∃ (s : State), ∃ (t : Nat), ∃ (c : Nat), ∃ (raw : Nat), ∃ (rising : Bool), ∃ (marker : Bool), t < 2 ∧ c < 24 ∧ raw < 512 ∧ s.pageOn (pageTdc t c) ∧ s.tdcArmed t c = true ∧ s.edgeSel t c rising = true ∧ s.flag (pageTdc t c) R.TDC.TDC_STAT_CAL_RUNNING = false ∧ (s.tdc t c).last.any (fun l => tooNear ((s.up : Int) * 65536 - (s.tdc t c).fine raw) l) = false ∧ (s.tdc t c).fifo.length < 64 :=
  ⟨on.onTdc 1 14 (fun d => { d with armed := true }), 1, 14, 300, true, false, by decide +kernel⟩

theorem wit_TdcChannelsArmAndCapture_6 : ∃ (s : State), ∃ (ctx : Nat), ∃ (t : Nat), ∃ (c : Nat), ∃ e, ∃ l, t < 2 ∧ c < 24 ∧ s.reads ctx (pageTdc t c) ∧ (s.tdc t c).fifo = e :: l :=
  ⟨on.onTdc 1 14 (fun d => { d with fifo := [⟨1, 2, 3, 4, 5⟩, ⟨6, 7, 8, 9, 10⟩] }), 2, 1, 14, ⟨1, 2, 3, 4, 5⟩, [⟨6, 7, 8, 9, 10⟩], by decide +kernel⟩

theorem wit_TdcChannelsArmAndCapture_7 : ∃ (s : State), ∃ (ctx : Nat), ∃ (t : Nat), ∃ (c : Nat), ∃ e, ∃ l, t < 2 ∧ c < 24 ∧ s.reads ctx (pageTdc t c) ∧ (s.tdc t c).fifo = e :: l :=
  ⟨(on.onTdc 1 14 (fun d => { d with fifo := [⟨1, 2, 3, 4, 5⟩, ⟨6, 7, 8, 9, 10⟩] })).wrI (pageTdc 1 14) R.TDC.TDC_RES 4 77, 2, 1, 14, ⟨1, 2, 3, 4, 5⟩, [⟨6, 7, 8, 9, 10⟩], by decide +kernel⟩

theorem wit_TdcChannelsArmAndCapture_8 : ∃ (s : State), ∃ (t : Nat), ∃ (c : Nat), ∃ (m : Nat), t < 2 ∧ c < 24 ∧ m < 5 ∧ s.pageOn (pageTdc t c) ∧ bitAt (s.rd (pageTdc t c) R.TDC.TDC_STAT_LINE_LOCK) m = true :=
  ⟨(on.wr (pageTdc 1 14) R.TDC.TDC_STAT_LINE_LOCK 31), 1, 14, 4, by decide +kernel⟩

theorem wit_TdcAndSynthRunsFollowTheirRules_1 : ∃ (s : State), ∃ (t : Nat), ∃ c, t < 2 ∧ s.nextTdc t = some c ∧ c < 24 :=
  ⟨on.onTdc 1 14 (fun d => { d with due := true }), 1, 14, by decide +kernel⟩

theorem wit_TdcAndSynthRunsFollowTheirRules_2 : ∃ (s : State), ∃ (t : Nat), ∃ (c : Nat), t < 2 ∧ isEvent c = true ∧ s.gateIdle t c = false ∧ s.tdcEligible t c true = true :=
  ⟨(on.wr (pageTdc 1 14) R.TDC.TDC_ARM_CAL_DEFER 1).onTdc 1 14 (fun d => { d with due := true, armed := true }), 1, 14, by decide +kernel⟩

theorem wit_TdcAndSynthRunsFollowTheirRules_3 : ∃ (s : State), ∃ (t : Nat), ∃ (c : Nat), ∃ (hist : List Nat), ∃ (lines : Nat), ∃ (res : Int), t < 2 ∧ c < 24 ∧ lines % 32 = 31 ∧ s.calRunning.contains (pageTdc t c) = true :=
  ⟨{ on.wr (pageTdc 1 14) R.TDC.TDC_STAT_CAL_RUNNING 1 with calRunning := [pageTdc 1 14] }, 1, 14, [80, 81], 31, 66, by decide +kernel⟩

theorem wit_TdcAndSynthRunsFollowTheirRules_4 : ∃ (s : State), ∃ (t : Nat), ∃ (c : Nat), ∃ r, t < 2 ∧ c < 24 ∧ s.gateIdle t c = true ∧ s.flag (pageTdc t c) R.TDC.TDC_STAT_CAL_RUNNING = false ∧ (s.tdc t c).newLut = some r ∧ (s.tdc t c).rest = none :=
  ⟨on.onTdc 1 14 (fun d => { d with newLut := some ⟨[5, 6], 70, -3, 9⟩ }), 1, 14, ⟨[5, 6], 70, -3, 9⟩, by decide +kernel⟩

theorem wit_TdcAndSynthRunsFollowTheirRules_5 : ∃ (s : State), ∃ (ctx : Nat), ∃ (t : Nat), ∃ (v : Nat), t < 2 ∧ v < 2 ^ 32 ∧ s.writes ctx (pageSynth t) ∧ s.allows (pageSynth t) 0x040 v ∧ bits v 0 2 ≠ s.rd (pageSynth t) R.SYNTH.SYN_CTL_REF_PATH ∧ s.tcuState t ≠ tsStandby :=
  ⟨on, 0, 0, 1, by decide +kernel⟩

theorem wit_TdcAndSynthRunsFollowTheirRules_6 : ∃ (s : State), ∃ (ctx : Nat), ∃ (t : Nat), ∃ (v : Nat), t < 2 ∧ v < 2 ^ 32 ∧ s.writes ctx (pageSynth t) ∧ s.allows (pageSynth t) 0x040 v ∧ bits v 0 2 ≠ s.rd (pageSynth t) R.SYNTH.SYN_CTL_REF_PATH ∧ s.tcuState t = tsStandby ∧ (¬(s.tokenHeld = true ∧ s.active = t)) :=
  ⟨on, 0, 1, 5, by decide +kernel⟩

theorem wit_TdcAndSynthRunsFollowTheirRules_7 : ∃ (s : State), ∃ (t : Nat), t < 2 ∧ s.tcuState t = tsStandby ∧ s.runsOpen = true ∧ s.pllDue t = true :=
  ⟨on.onTcu 1 (fun u => { u with pllDue := true }), 1, by decide +kernel⟩

theorem wit_TdcAndSynthRunsFollowTheirRules_8 : ∃ (s : State), ∃ (t : Nat), ∃ (band : Nat), ∃ (vtune : Nat), ∃ (align : Int), t < 2 ∧ band < 64 ∧ vtune < 256 ∧ s.tcuState t = tsCalibrating ∧ s.calRunning.contains (pageSynth t) = true ∧ -3 ≤ align ∧ align ≤ 3 ∧ (s.tcu t).pllRest = none ∧ s.findOp 0x41 = none :=
  ⟨{ on.wr (pageCtl 1) R.CTL.TCU_STAT_STATE tsCalibrating with calRunning := [pageSynth 1] }, 1, 33, 200, -3, by decide +kernel⟩

theorem wit_TdcAndSynthRunsFollowTheirRules_9 : ∃ (s : State), ∃ (t : Nat), t < 2 ∧ s.starting t = true ∧ s.phase ≠ .reset ∧ s.phase ≠ .oscWait :=
  ⟨(on.wr (pageCtl 1) R.CTL.TCU_STAT_STATE tsStarting), 1, by decide +kernel⟩

theorem wit_TdcAndSynthRunsFollowTheirRules_10 : ∃ (s : State), ∃ (t : Nat), ∃ (band : Nat), ∃ (vtune : Nat), t < 2 ∧ band < 64 ∧ vtune < 256 ∧ s.starting t = true ∧ s.flag (pageSynth t) R.SYNTH.SYN_STAT_REFMUL_LOCK = true ∧ (s.tcu t).pllRest.isSome = true ∨ s.runsOpen = true :=
  ⟨((on.wr (pageCtl 1) R.CTL.TCU_STAT_STATE tsStarting).wr (pageSynth 1) R.SYNTH.SYN_STAT_REFMUL_LOCK 1), 1, 33, 200, by decide +kernel⟩

theorem wit_TdcAndSynthRunsFollowTheirRules_11 : ∃ (s : State), ∃ (t : Nat), t < 2 ∧ s.starting t = true ∧ s.flag (pageSynth t) R.SYNTH.SYN_STAT_BAND_VALID = true :=
  ⟨((on.wr (pageCtl 1) R.CTL.TCU_STAT_STATE tsStarting).wr (pageSynth 1) R.SYNTH.SYN_STAT_BAND_VALID 1), 1, by decide +kernel⟩

theorem wit_TheTokenMovesAndTheSwitchEpochFollows_1 : ∃ (s : State), ∃ (tenMs : Bool), s.tokenHeld = false ∧ s.phase ≠ .lastResort ∧ (s.tcu (s.straps.leadSel % 2)).ready = true ∧ s.tcuState (s.straps.leadSel % 2) = tsStarting :=
  ⟨(((on.wr pageArb R.ARB.ARB_STAT_HOLDER_VALID 0).wr (pageCtl 0) R.CTL.TCU_STAT_STATE tsStarting).wr (pageCtl 1) R.CTL.TCU_STAT_STATE tsStarting), false, by decide +kernel⟩

theorem wit_TheTokenMovesAndTheSwitchEpochFollows_2 : ∃ (s : State), ∃ (q : Request), s.accepts 0x41 q ∧ s.tokenHeld = true ∧ s.tcuState (1 - s.active) = tsStandby ∧ s.isOn (2 - s.active) = true :=
  ⟨on, req (pageCtl 0) [1, 0, 0, 0, 0, 0], by decide +kernel⟩

theorem wit_TheTokenMovesAndTheSwitchEpochFollows_3 : ∃ (s : State), ∃ h, h = s.rd redPage R.CTL.TCU_RED_CTL_HOME ∧ s.reverting = true ∧ s.flag redPage R.CTL.TCU_RED_CTL_REVERT = true ∧ s.tokenHeld = true ∧ s.active ≠ h ∧ s.tcuState h = tsStandby :=
  ⟨{ ((on.wr (pageCtl 0) R.CTL.TCU_RED_CTL_REVERT 1).wr (pageCtl 0) R.CTL.TCU_RED_CTL_HOME 1).both (fun t a => (a.wr (pageCtl t) R.CTL.TCU_RED_CTL_REVERT 1).wr (pageCtl t) R.CTL.TCU_RED_CTL_HOME 1) with reverting := true }, 1, by decide +kernel⟩

theorem wit_TheTokenMovesAndTheSwitchEpochFollows_4 : ∃ (s : State), ∃ (t : Nat), t < 2 ∧ s.tokenHeld = false ∧ (s.tcuState t = tsCalibrating ∨ s.tcuState t = tsUpdating) :=
  ⟨(on.wr pageArb R.ARB.ARB_STAT_HOLDER_VALID 0).wr (pageCtl 1) R.CTL.TCU_STAT_STATE tsCalibrating, 1, by decide +kernel⟩

theorem wit_TheTokenMovesAndTheSwitchEpochFollows_5 : ∃ (s : State), ∃ old, ∃ new, ∃ cause, (old, new, cause) ∈ s.switch ∧ new < 2 ∧ s.pageOn (pageCtl new) ∧ s.tokenHeld = true :=
  ⟨{ (on.wr pageArb R.ARB.ARB_STAT_HOLDER 1) with switch := [(some 1, 0, 2), (some 0, 1, 1)] }, some 1, 0, 2, by decide +kernel⟩

theorem wit_TheTokenMovesAndTheSwitchEpochFollows_6 : ∃ (s : State), s.switch ≠ [] ∧ s.tokenHeld = true ∧ s.phase = .lastResort :=
  ⟨({ on with switch := [(none, 0, 0)], phase := .lastResort } : State).wr pageRind R.RIND.RIND_CLK_STAT_OSC_OK 1, by decide +kernel⟩

theorem wit_ResynchronisationEndsAndFailuresAreShown_1 : ∃ (s : State), ∃ (t : Nat), ∃ (align : Int), t < 2 ∧ s.tcuState t = tsSyncing ∧ s.tokenHeld = true ∧ (s.tcu t).waitMirror = false ∧ s.sameFormat = true ∧ -3 ≤ align ∧ align ≤ 3 ∧ s.findOp 0x40 = none ∧ s.findOp 0x41 = none :=
  ⟨(on.wr (pageCtl 1) R.CTL.TCU_STAT_STATE tsSyncing), 1, -3, by decide +kernel⟩

theorem wit_ResynchronisationEndsAndFailuresAreShown_2 : ∃ (s : State), ∃ (t : Nat), t < 2 ∧ s.tcuState t = tsSyncing ∧ (s.tcu t).waitMirror = false ∧ s.findOp 0x41 = none ∧ (s.tcu t).tries = 0 :=
  ⟨(on.wr (pageCtl 1) R.CTL.TCU_STAT_STATE tsSyncing), 1, by decide +kernel⟩

theorem wit_ResynchronisationEndsAndFailuresAreShown_3 : ∃ (s : State), ∃ (t : Nat), t < 2 ∧ s.tcuState t = tsSyncing ∧ (s.tcu t).waitMirror = false ∧ s.findOp 0x41 = none ∧ (s.tcu t).tries ≠ 0 ∧ s.active ≠ t ∧ s.findOp 0x40 = none :=
  ⟨(on.wr (pageCtl 1) R.CTL.TCU_STAT_STATE tsSyncing).onTcu 1 (fun u => { u with tries := 1 }), 1, by decide +kernel⟩

theorem wit_ResynchronisationEndsAndFailuresAreShown_4 : ∃ (s : State), ∃ (t : Nat), t < 2 ∧ s.tcuState t = tsFailed ∧ s.rd (pageCtl t) R.CTL.TCU_STAT_FAIL_CODE = 5 ∧ s.tokenHeld = true ∧ s.active ≠ t ∧ s.flag (pageCtl t) R.CTL.TCU_MIRROR_STAT_LINK_OK = true :=
  ⟨((on.wr (pageCtl 1) R.CTL.TCU_STAT_STATE tsFailed).wr (pageCtl 1) R.CTL.TCU_STAT_FAIL_CODE 5).wr (pageCtl 1) R.CTL.TCU_MIRROR_STAT_LINK_OK 1, 1, by decide +kernel⟩

theorem wit_ResynchronisationEndsAndFailuresAreShown_5 : ∃ (s : State), ∃ (t : Nat), t < 2 ∧ s.tcuState t = tsFailed ∧ 1 ≤ s.rd (pageCtl t) R.CTL.TCU_STAT_FAIL_CODE ∧ s.rd (pageCtl t) R.CTL.TCU_STAT_FAIL_CODE ≤ 3 ∧ s.tokenHeld = true :=
  ⟨(on.wr (pageCtl 1) R.CTL.TCU_STAT_STATE tsFailed).wr (pageCtl 1) R.CTL.TCU_STAT_FAIL_CODE 3, 1, by decide +kernel⟩

theorem wit_ResynchronisationEndsAndFailuresAreShown_6 : ∃ (s : State), ∃ (t : Nat), t < 2 ∧ s.tcuState t = tsSyncing ∧ (s.tcu t).waitMirror = true ∧ s.tokenHeld = true ∧ s.active ≠ t :=
  ⟨(on.wr (pageCtl 1) R.CTL.TCU_STAT_STATE tsSyncing).onTcu 1 (fun u => { u with waitMirror := true }), 1, by decide +kernel⟩

theorem wit_ResynchronisationEndsAndFailuresAreShown_7 : ∃ (s : State), ∃ (code : Nat), s.tokenHeld = true ∧ s.tcuState s.active = tsActive ∧ s.tcuState (1 - s.active) = tsStandby ∧ s.isOn (2 - s.active) = true ∧ code < 256 ∧ code ≠ 3 :=
  ⟨on, 2, by decide +kernel⟩

theorem wit_ResynchronisationEndsAndFailuresAreShown_8 : ∃ (s : State), ∃ (t : Nat), ∃ (code : Nat), t < 2 ∧ s.tcuState t = tsStandby ∧ s.tokenHeld = true ∧ s.active ≠ t ∧ code < 256 ∧ code ≠ 3 :=
  ⟨on, 1, 4, by decide +kernel⟩

theorem wit_TcuDisputesAndSettings_1 : ∃ (s : State), s.tokenHeld = true ∧ s.tcuState (1 - s.active) = tsStandby ∧ 16 ≤ (s.tcu s.active).lsHoop :=
  ⟨on.onTcu 0 (fun u => { u with lsHoop := 16 }), by decide +kernel⟩

theorem wit_TcuDisputesAndSettings_2 : ∃ (s : State), ∃ w, w = s.straps.leadSel % 2 ∧ s.tokenHeld = true ∧ s.tcuState (1 - s.active) = tsStandby :=
  ⟨on, 0, by decide +kernel⟩

theorem wit_TcuDisputesAndSettings_3 : ∃ (s : State), s.tokenHeld = true ∧ s.tcuState (1 - s.active) = tsStandby ∧ s.judging = false :=
  ⟨on, by decide +kernel⟩

theorem wit_TcuDisputesAndSettings_4 : ∃ (s : State), ∃ (ms : List (Nat × Int × Int)), s.judging = true :=
  ⟨{ on with judging := true }, [(1, -5, 7), (40, 3, 3)], by decide +kernel⟩

theorem wit_TcuDisputesAndSettings_5 : ∃ (s : State), s.judging = true ∧ s.tcuState (1 - s.active) = tsStandby :=
  ⟨{ on with judging := true }, by decide +kernel⟩

theorem wit_TcuDisputesAndSettings_6 : ∃ (s : State), ∃ (ctx : Nat), ∃ (t : Nat), ∃ (v : Nat), t < 2 ∧ v < 2 ^ 32 ∧ s.writes ctx (pageCtl t) ∧ s.allows (pageCtl t) 0x040 v :=
  ⟨on, 0, 1, 0x100FF1, by decide +kernel⟩

theorem wit_TcuDisputesAndSettings_7 : ∃ (s : State), ∃ (q : Request), s.accepts 0x40 q ∧ s.tokenHeld = true ∧ s.tcuState (1 - s.active) = tsStandby :=
  ⟨on, req (pageCtl 0) [0, 0, 64, 0, 0, 0], by decide +kernel⟩

theorem wit_TcuDisputesAndSettings_8 : ∃ (s : State), ∃ k, ∃ t, ∃ (version : Nat), ∃ (fmt : Nat), s.findOp 0x40 = some k ∧ k.stage = t + 1 ∧ t < 2 ∧ s.tcuState t = tsUpdating ∧ fmt = s.rd (pageCtl (1 - t)) R.CTL.TCU_FW_VER_FMT ∧ version < 2 ^ 16 :=
  ⟨{ (on.wr (pageCtl 1) R.CTL.TCU_STAT_STATE tsUpdating) with cmds := [{ cmd 0x40 (pageCtl 0) [0, 0, 64] with stage := 2 }] }, { cmd 0x40 (pageCtl 0) [0, 0, 64] with stage := 2 }, 1, 0x201, 0, by decide +kernel⟩

theorem wit_CandidatesAndSelectionSettings_1 : ∃ (s : State), ∃ (t : Nat), ∃ (m : CandMeas), t < 2 :=
  ⟨cand 3 1 csSoaking, 0, ⟨3, -77, [4]⟩, by decide +kernel⟩

theorem wit_CandidatesAndSelectionSettings_2 : ∃ (s : State), ∃ (t : Nat), ∃ (m : CandMeas), t < 2 ∧ m.slot < 16 ∧ s.decides t = true ∧ s.cstate t m.slot = csQual ∧ s.srcAvail t (s.csrc t m.slot) = true ∧ m.fofs.natAbs > s.rdI (pageRefsel t) R.REFSEL.CAND_FWIN m.slot :=
  ⟨cand 3 1 csQual, 0, ⟨3, -10001, [4]⟩, by decide +kernel⟩

theorem wit_CandidatesAndSelectionSettings_3 : ∃ (s : State), ∃ (t : Nat), ∃ (k : Nat), t < 2 ∧ k < 16 ∧ s.decides t = true ∧ (s.cstate t k = csSoaking ∨ s.cstate t k = csWait ∨ s.cstate t k = csQual) :=
  ⟨cand 3 1 csQual, 0, 3, by decide +kernel⟩

theorem wit_CandidatesAndSelectionSettings_4 : ∃ (s : State), ∃ (t : Nat), ∃ (k : Nat), t < 2 ∧ k < 16 ∧ s.decides t = true ∧ s.cstate t k = csSoaking ∧ (s.cand t k).good = true ∧ (s.cand t k).wasQual = false ∧ (s.cand t k).fSoak ≤ (s.cand t k).fGood ∧ (s.cand t k).pSoak ≤ (s.cand t k).pGood :=
  ⟨(cand 3 1 csSoaking).onCand 0 3 (fun c => { c with good := true, fGood := 10, pGood := 12 }), 0, 3, by decide +kernel⟩

theorem wit_CandidatesAndSelectionSettings_5 : ∃ (s : State), ∃ (t : Nat), ∃ (k : Nat), t < 2 ∧ k < 16 ∧ s.decides t = true ∧ s.cstate t k = csWait ∧ s.rdI (pageRefsel t) R.REFSEL.CAND_STAT_TIMER k = 0 :=
  ⟨cand 3 1 csWait, 0, 3, by decide +kernel⟩

theorem wit_CandidatesAndSelectionSettings_6 : ∃ (s : State), ∃ (t : Nat), ∃ (i : Nat), ∃ (j : Nat), t < 2 ∧ i < j ∧ j < 16 ∧ s.decides t = true ∧ s.isQual t i = true ∧ s.isQual t j = true ∧ 3 ≤ look 0 (s.tcu t).dis (16 * i + j) ∧ (s.cfofs t i).natAbs ≤ (s.cand t i).fwin ∧ (s.cfofs t j).natAbs > (s.cand t j).fwin :=
  ⟨(((cand 3 1 csQual).wrI (pageRefsel 0) R.REFSEL.CAND_CFG_SRC 5 2).wrI (pageRefsel 0) R.REFSEL.CAND_STAT_STATE 5 csQual |>.wrI (pageRefsel 0) R.REFSEL.CAND_FOFS 5 20000).onTcu 0 (fun u => { u with dis := [(16 * 3 + 5, 3)] }), 0, 3, 5, by decide +kernel⟩

theorem wit_CandidatesAndSelectionSettings_7 : ∃ (s : State), ∃ (ctx : Nat), ∃ (t : Nat), ∃ (k : Nat), ∃ (r : Nat), ∃ (v : Nat), t < 2 ∧ k < 16 ∧ r < 7 ∧ v < 2 ^ 32 ∧ s.writes ctx (pageRefsel t) ∧ s.allows (pageRefsel t) (0x100 + 0x20 * k + 4 * r) v :=
  ⟨cand 3 1 csQual, 0, 0, 3, 0, 0x0901, by decide +kernel⟩

theorem wit_CandidatesAndSelectionSettings_8 : ∃ (s : State), ∃ (ctx : Nat), ∃ (t : Nat), ∃ (k : Nat), ∃ (v : Nat), t < 2 ∧ k < 16 ∧ v < 2 ^ 30 ∧ s.decides t = true ∧ s.writes ctx (pageRefsel t) ∧ s.allows (pageRefsel t) (0x104 + 0x20 * k) v ∧ s.csrc t k ≠ 0 ∧ s.rdI (pageRefsel t) R.REFSEL.CAND_CFG_EN k = 1 ∧ s.cstate t k ≠ csDisabled ∧ v ≠ s.rdI (pageRefsel t) R.REFSEL.CAND_FREQ k :=
  ⟨cand 3 1 csQual, 0, 0, 3, 5000000, by decide +kernel⟩

theorem wit_CandidatesAndSelectionSettings_9 : ∃ (s : State), ∃ (ctx : Nat), ∃ (t : Nat), ∃ (v : Nat), t < 2 ∧ v < 2 ^ 32 ∧ s.writes ctx (pageRefsel t) ∧ s.allows (pageRefsel t) 0x060 v :=
  ⟨cand 3 0x18 csQual, 0, 0, 0x0305, by decide +kernel⟩

theorem wit_CandidatesAndSelectionSettings_10 : ∃ (s : State), ∃ (ctx : Nat), ∃ (t : Nat), ∃ (v : Nat), t < 2 ∧ v < 2 ^ 32 ∧ s.writes ctx (pageRefsel t) ∧ s.allows (pageRefsel t) 0x040 v :=
  ⟨on, 0, 0, 0x172, by decide +kernel⟩

theorem wit_ServoHoldoverAndOutputsRun_1 : ∃ (s : State), ∃ (t : Nat), ∃ (x : Int), ∃ sel, t < 2 ∧ (s.tcu t).clk = true ∧ s.curSel t = some sel :=
  ⟨((on.wr (pageRefsel 0) R.REFSEL.REFSEL_STAT_SEL_VALID 1).wr (pageRefsel 0) R.REFSEL.REFSEL_STAT_SEL 3), 0, 123456, 3, by decide +kernel⟩

theorem wit_ServoHoldoverAndOutputsRun_2 : ∃ (s : State), ∃ (t : Nat), ∃ (x : Int), ∃ sel, t < 2 ∧ s.decides t = true ∧ (s.tcu t).clk = true ∧ s.curSel t = some sel ∧ s.timeValid = false ∧ (16 ≤ sel ∨ s.cclass t sel ≠ 0) ∧ (s.selOffset t sel x).2 = true ∧ (s.tcu t).step = none ∧ (s.tcu t).acquired = false ∧ s.phase ≠ .oscLost :=
  ⟨(((cand 3 8 csQual).wr (pageRefsel 0) R.REFSEL.REFSEL_STAT_SEL_VALID 1).wr (pageRefsel 0) R.REFSEL.REFSEL_STAT_SEL 3), 0, 123456789, 3, by decide +kernel⟩

theorem wit_ServoHoldoverAndOutputsRun_3 : ∃ (s : State), ∃ (t : Nat), ∃ a, t < 2 ∧ s.decides t = true ∧ s.selState t = ssAcquiring ∧ (s.tcu t).within = some a :=
  ⟨(on.wr (pageRefsel 0) R.REFSEL.REFSEL_STAT_STATE ssAcquiring).onTcu 0 (fun u => { u with within := some 5 }), 0, 5, by decide +kernel⟩

theorem wit_ServoHoldoverAndOutputsRun_4 : ∃ (s : State), ∃ (t : Nat), t < 2 ∧ s.decides t = true ∧ s.selState t = ssHoldover :=
  ⟨(on.wr (pageRefsel 0) R.REFSEL.REFSEL_STAT_STATE ssHoldover), 0, by decide +kernel⟩

theorem wit_ServoHoldoverAndOutputsRun_5 : ∃ (s : State), ∃ (t : Nat), ∃ (n : Nat), t < 2 ∧ n < 8 ∧ s.rd (pageOut t n) R.OUT.OUT_CTL_MODE ≠ 0 ∧ s.rd (pageOut t n) R.OUT.OUT_PERIOD ≠ 0 ∧ s.outAligned (pageOut t n) = false ∧ (s.tcu t).clk = true ∧ s.outQuiet t n = false ∧ s.atBall t = true :=
  ⟨(on.wr (pageOut 0 2) R.OUT.OUT_CTL_MODE 1 |>.wr (pageOut 0 2) R.OUT.OUT_CTL_EN 1 |>.wr (pageOut 0 2) R.OUT.OUT_CTL_QUIET 0 |>.wr (pageOut 0 2) R.OUT.OUT_PERIOD 1000).onTcu 0 (fun u => { u with now := 5500 }), 0, 2, by decide +kernel⟩

theorem wit_ServoHoldoverAndOutputsRun_6 : ∃ (s : State), ∃ (t : Nat), ∃ (n : Nat), ∃ x, t < 2 ∧ n < 8 ∧ s.rd (pageOut t n) R.OUT.OUT_CTL_MODE = 0 ∧ s.rd (pageOut t n) R.OUT.OUT_DIV_INT ≠ 0 ∧ (s.tcu t).clk = true ∧ s.outQuiet t n = false ∧ s.atBall t = true ∧ x = s.clkNext t n :=
  ⟨((on.wr (pageOut 0 2) R.OUT.OUT_CTL_EN 1 |>.wr (pageOut 0 2) R.OUT.OUT_CTL_QUIET 0 |>.wr (pageOut 0 2) R.OUT.OUT_DIV_INT 100).onOutp 0 2 (fun o => { o with clk := some 0 })), 0, 2, (1677721600, 1), by decide +kernel⟩

theorem wit_ServoHoldoverAndOutputsRun_7 : ∃ (s : State), ∃ (t : Nat), ∃ (n : Nat), t < 2 ∧ n < 8 ∧ s.outAligned (pageOut t n) = true ∧ (s.outp t n).averaging = true ∧ s.avgNeed (pageOut t n) ≤ (s.outp t n).edges.length ∧ 0 < divEven (average ((s.outp t n).edges.take (s.avgNeed (pageOut t n)))).2 1000 ∧ divEven (average ((s.outp t n).edges.take (s.avgNeed (pageOut t n)))).2 1000 % s.rd (pageOut t n) R.OUT.OUT_PERIOD = 0 :=
  ⟨((on.wr (pageOut 0 2) R.OUT.OUT_CTL_MODE 1).wr (pageOut 0 2) R.OUT.OUT_ALIGN_SRC 0x11 |>.wr (pageOut 0 2) R.OUT.OUT_CTL_EN 1 |>.wr (pageOut 0 2) R.OUT.OUT_PERIOD 1000).onOutp 0 2 (fun o => { o with edges := (List.range 64).map (fun i => ((64 - i : Nat) : Int) * 1000000) }), 0, 2, by decide +kernel⟩

theorem wit_ServoHoldoverAndOutputsRun_8 : ∃ (s : State), ∃ (t : Nat), ∃ (n : Nat), ∃ (x : Int), ∃ c, t < 2 ∧ n < 8 ∧ s.outAligned (pageOut t n) = true ∧ s.alignChannel t n = some c ∧ (s.outp t n).averaging = true :=
  ⟨((on.wr (pageOut 0 2) R.OUT.OUT_CTL_MODE 1).wr (pageOut 0 2) R.OUT.OUT_ALIGN_SRC 0x11).onOutp 0 2 (fun o => { o with edges := [5] }), 0, 2, 1000000, 12, by decide +kernel⟩

theorem wit_ServoHoldoverAndOutputsRun_9 : ∃ (s : State), ∃ (t : Nat), ∃ (n : Nat), t < 2 ∧ n < 8 ∧ s.pageOn (pageOut t n) ∧ s.rd (pageOut t n) R.OUT.OUT_STAT_ALIGN = 2 :=
  ⟨on.wr (pageOut 0 2) R.OUT.OUT_STAT_ALIGN 2, 0, 2, by decide +kernel⟩

theorem wit_PtpMessagesAndHostCommands_1 : ∃ (s : State), ∃ (f : Nat), ∃ m, ∃ i, s.frame f ≠ noFrame ∧ (s.frame f).decided = false ∧ (s.frame f).host = false ∧ (s.frame f).seen = false ∧ msgOf (s.frame f).octets = some m ∧ s.isLane (s.frame f).port = false ∧ s.instOf (s.frame f).port m = some i ∧ (hdrOf (s.frame f).octets).da ≠ 0x0180C200000E ∧ s.actAt i (s.frame f).port m = .residence ∧ s.flag (s.ptpPage i) R.PTP.PTP_CTL_TC_COPY = false :=
  ⟨(ptpOn 2).setFrame 7 { port := 1, owner := 1, octets := syncOctets, tpcs := 99 }, 7, ⟨0, 14, 0, 0, 0, 0, 0, 44, false, 0, 0, 0⟩, 0, by decide +kernel⟩

theorem wit_PtpMessagesAndHostCommands_2 : ∃ (s : State), ∃ (p : Nat), ∃ x, ∃ v, ∃ c, ∃ m, ∃ i, ∃ (tpcs : Int), p < 48 ∧ s.tx p = x ∧ x.kind = .copy v c ∧ x.patch = [] ∧ x.left = false ∧ s.isLane p = false ∧ msgOf (s.copyOctets c (s.frame c.frame).octets) = some m ∧ (s.frame c.frame).origin = none ∧ (s.frame c.frame).ptp = none ∧ s.instOf p m = some i ∧ isEventMsg m.typ = true ∧ ((s.frame c.frame).host = true ∨ s.actAt i p m = .residence) :=
  ⟨((ptpOn 2).setFrame 7 { port := 2, host := true, owner := 2, octets := syncOctets }).onTx 1 (fun t => { t with kind := .copy 5 { frame := 7, leaf := 8 } }), 1, { kind := .copy 5 { frame := 7, leaf := 8 } }, 5, { frame := 7, leaf := 8 }, ⟨0, 14, 0, 0, 0, 0, 0, 44, false, 0, 0, 0⟩, 0, 1000, by decide +kernel⟩

theorem wit_PtpMessagesAndHostCommands_3 : ∃ (s : State), ∃ (p : Nat), ∃ x, ∃ v, ∃ c, ∃ m, ∃ i, ∃ (tpcs : Int), p < 48 ∧ s.tx p = x ∧ x.kind = .copy v c ∧ s.isLane p = true ∧ msgOf (s.copyOctets c (s.frame c.frame).octets) = some m ∧ (s.frame c.frame).origin = none ∧ (s.frame c.frame).ptp = none ∧ s.instOf p m = some i ∧ isEventMsg m.typ = true :=
  ⟨(((ptpOn 2).wrI (pagePtp 0 0) R.PTP.PTP_PORT_CFG_EN 4 1 |>.wrI (pagePtp 0 0) R.PTP.PTP_PORT_CFG_L2 4 1 |>.wr (pageNT 1) R.NT.TRUNK_STAT_STATE tkUp).setFrame 7 { port := 2, owner := 2, octets := syncOctets }).onTx 4 (fun t => { t with kind := .copy 5 { frame := 7, leaf := 8 } }), 4, { kind := .copy 5 { frame := 7, leaf := 8 } }, 5, { frame := 7, leaf := 8 }, ⟨0, 14, 0, 0, 0, 0, 0, 44, false, 0, 0, 0⟩, 0, 1000, by decide +kernel⟩

theorem wit_PtpMessagesAndHostCommands_4 : ∃ (s : State), ∃ (p : Nat), ∃ e, ∃ l, p < 48 ∧ look [] s.fus p = e :: l :=
  ⟨{ on with fus := [(3, [⟨0, 1, 2, 3, 0, 500⟩, ⟨0, 1, 3, 3, 0, 700⟩])] }, 3, ⟨0, 1, 2, 3, 0, 500⟩, [⟨0, 1, 3, 3, 0, 700⟩], by decide +kernel⟩

theorem wit_PtpMessagesAndHostCommands_5 : ∃ (s : State), ∃ (ctx : Nat), ∃ (t : Nat), ∃ (i : Nat), ∃ ws, ∃ l, t < 2 ∧ i < 2 ∧ s.reads ctx (pagePtp t i) ∧ look [] s.txts (2 * t + i) = ws :: l :=
  ⟨{ on with txts := [(3, [[1, 2, 3, 4], [5, 6, 7, 8]])] }, 0, 1, 1, [1, 2, 3, 4], [[5, 6, 7, 8]], by decide +kernel⟩

theorem wit_PtpMessagesAndHostCommands_6 : ∃ (s : State), ∃ (ctx : Nat), ∃ (t : Nat), ∃ (i : Nat), ∃ ws, ∃ l, t < 2 ∧ i < 2 ∧ s.reads ctx (pagePtp t i) ∧ look [] s.txts (2 * t + i) = ws :: l :=
  ⟨{ on with txts := [(3, [[1, 2, 3, 4], [5, 6, 7, 8]])] }, 0, 1, 1, [1, 2, 3, 4], [[5, 6, 7, 8]], by decide +kernel⟩

theorem wit_PtpMessagesAndHostCommands_7 : ∃ (s : State), ∃ (ctx : Nat), ∃ (t : Nat), ∃ (i : Nat), t < 2 ∧ i < 2 ∧ s.writes ctx (pagePtp t i) :=
  ⟨on, 0, 0, 1, by decide +kernel⟩

theorem wit_PtpMessagesAndHostCommands_8 : ∃ (s : State), ∃ (ctx : Nat), ∃ (t : Nat), ∃ (i : Nat), t < 2 ∧ i < 2 ∧ s.writes ctx (pagePtp t i) ∧ s.flag (pagePtp t i) R.PTP.PTP_TRK_CTL_MODE = false ∧ s.decides t = true ∧ (look {} (s.tcu t).trks i).loaded = false ∧ ((s.tcu t).now : Int) ≤ s.smpInstant t (pagePtp t i) + 2000000000 :=
  ⟨(on.wr (pagePtp 0 1) R.PTP.PTP_SMP_OFS_NS 500).wr (pagePtp 0 1) R.PTP.PTP_SMP_AT_SEC 0, 0, 0, 1, by decide +kernel⟩

theorem wit_PtpMessagesAndHostCommands_9 : ∃ (s : State), ∃ (q : Request), ∃ k, ∃ d, s.accepts 0x43 q ∧ k = s.cmdOf 0x43 q ∧ k.arg 0 = d ∧ s.tokenHeld = true ∧ s.active < 2 :=
  ⟨on, req (pagePtp 0 0) [1, 0, 0, 0, 0, 0], on.cmdOf 0x43 (req (pagePtp 0 0) [1, 0, 0, 0, 0, 0]), 1, by decide +kernel⟩

theorem wit_AnOwnersWriteTakesEffect_1 : ∃ (s : State), ∃ (ctx : Nat), ∃ p, ∃ (v : Nat), (pageBlk p).isSome ∧ p ≠ pageEspare ∧ s.canAccess ctx = true ∧ s.owner p = ctx :=
  ⟨on, 0, 0x41, 0x4FFFFFFF, by decide +kernel⟩

theorem wit_AnOwnersWriteTakesEffect_2 : ∃ (s : State), ∃ (ctx : Nat), ∃ p, ∃ (v : Nat), (pageBlk p).isSome ∧ p ≠ pageEspare ∧ s.canAccess ctx = true ∧ s.owner p = ctx :=
  ⟨on.setPwr 1 0, 0, 0x41, 0xFFFFFFF5, by decide +kernel⟩

theorem wit_AnOwnersWriteTakesEffect_3 : ∃ (s : State), ∃ (ctx : Nat), ∃ p, ∃ (v : Nat), (pageBlk p).isSome ∧ p ≠ pageEspare ∧ s.canAccess ctx = true ∧ s.owner p = ctx :=
  ⟨(on.setPwr 1 0).wr 0x41 R.HDR.HDR_INT_CAUSE 0x3000007, 0, 0x41, 0xF2000005, by decide +kernel⟩

theorem wit_AnOwnersWriteTakesEffect_4 : ∃ (s : State), ∃ (ctx : Nat), ∃ p, ∃ (v : Nat), (pageBlk p).isSome ∧ p ≠ pageEspare ∧ s.canAccess ctx = true ∧ s.owner p = ctx :=
  ⟨(on.setPwr 1 0).wr 0x41 R.HDR.HDR_ERR_CAUSE_ACC 5 |>.wr 0x41 R.HDR.HDR_ERR_CAPTURE_VALID 1, 0, 0x41, 0xFF, by decide +kernel⟩

theorem wit_AnOwnersWriteTakesEffect_5 : ∃ (s : State), ∃ p, ∃ (v : Nat), (pageBlk p).isSome ∧ p ≠ pageEspare ∧ s.canAccess 0 = true :=
  ⟨on, 0x41, 0x100, by decide +kernel⟩

theorem wit_AnOwnersWriteTakesEffect_6 : ∃ (s : State), ∃ (ctx : Nat), ∃ p, ∃ off, ∃ (v : Nat), (pageBlk p).isSome ∧ p ≠ pageEspare ∧ s.canAccess ctx = true ∧ s.owner p = ctx ∧ [0x000, 0x008, 0x01C, 0x028, 0x02C].contains off = true :=
  ⟨on.setPwr 1 0, 0, 0x41, 0x008, 0xFFFFFFFF, by decide +kernel⟩

theorem wit_AnOwnersWriteTakesEffect_7 : ∃ (s : State), ∃ (ctx : Nat), ∃ p, ∃ b, ∃ (v : Nat), pageBlk p = some b ∧ p ≠ pageEspare ∧ s.writes ctx p ∧ s.armed p = false :=
  ⟨on, 0, pagePort 5, .port, 0x00110005, by decide +kernel⟩

theorem wit_AnOwnersWriteTakesEffect_8 : ∃ (s : State), ∃ (c : Nat), ∃ (v : Nat), c < 4 ∧ s.writes c (pageHC c) :=
  ⟨on, 2, 12, by decide +kernel⟩

theorem wit_AnOwnersWriteTakesEffect_9 : ∃ (s : State), ∃ (ctx : Nat), ∃ (v : Nat), s.writes ctx pageCaldir :=
  ⟨on, 0, 1, by decide +kernel⟩

theorem wit_AnOwnersWriteTakesEffect_10 : ∃ (s : State), ∃ (ctx : Nat), ∃ (v : Nat), s.writes ctx pageSupply :=
  ⟨on, 0, 500, by decide +kernel⟩

theorem wit_ARefusedWriteChangesOnlyTheErrorRecord_1 : ∃ (s : State), ∃ (ctx : Nat), ∃ (a : Nat), ∃ (size : Nat), ∃ (v : Nat), a < 2 ^ 24 ∧ s.canAccess ctx = true ∧ (pageBlk (addrPage a)).isSome ∧ s.writeErrs ctx a size ≠ 0 :=
  ⟨on, 1, regAddr 0x41 0x010, 4, 5, by decide +kernel⟩

theorem wit_OwnershipPassesByHdrOwner_1 : ∃ (s : State), ∃ (p : Nat), ∃ (n : Nat), (pageBlk p).isSome ∧ fixedOwner p = false ∧ s.canAccess 0 = true ∧ s.flag p R.HDR.HDR_OWNER_LOCKED = false ∧ n < 4 :=
  ⟨on, 0x41, 2, by decide +kernel⟩

theorem wit_OwnershipPassesByHdrOwner_2 : ∃ (s : State), ∃ (p : Nat), ∃ (n : Nat), (pageBlk p).isSome ∧ fixedOwner p = false ∧ s.canAccess 0 = true ∧ s.flag p R.HDR.HDR_OWNER_LOCKED = false ∧ n < 4 :=
  ⟨on, 0x81, 3, by decide +kernel⟩

theorem wit_OwnershipPassesByHdrOwner_3 : ∃ (s : State), ∃ (p : Nat), ∃ (n : Nat), (pageBlk p).isSome ∧ fixedOwner p = false ∧ s.canAccess 0 = true ∧ s.flag p R.HDR.HDR_OWNER_LOCKED = true ∧ n < 4 :=
  ⟨(on.wr 0x41 R.HDR.HDR_OWNER_LOCKED 1), 0x41, 2, by decide +kernel⟩

theorem wit_CommitsArmCancelAndTakeEffect_1 : ∃ (s : State), ∃ (ctx : Nat), ∃ p, ∃ v, p < 48 ∧ v < 2 ^ 32 ∧ s.writes ctx (pagePort p) :=
  ⟨on, 0, 5, 0x12345678, by decide +kernel⟩

theorem wit_CommitsArmCancelAndTakeEffect_2 : ∃ (s : State), ∃ (ctx : Nat), ∃ (p : Nat), (pageBlk p).isSome ∧ p ≠ pageEspare ∧ s.writes ctx p ∧ s.boundary p ≠ 0 ∧ s.boundary p ≠ 7 :=
  ⟨(on.wr (pagePort 5) R.HDR.HDR_COMMIT_AT_BOUNDARY 2), 0, pagePort 5, by decide +kernel⟩

theorem wit_CommitsArmCancelAndTakeEffect_3 : ∃ (s : State), ∃ (ctx : Nat), ∃ (p : Nat), (pageBlk p).isSome ∧ p ≠ pageEspare ∧ s.writes ctx p :=
  ⟨(on.wr (pagePort 5) R.HDR.HDR_SHADOW_CTL_ARM 1), 0, pagePort 5, by decide +kernel⟩

theorem wit_CommitsArmCancelAndTakeEffect_4 : ∃ (s : State), ∃ (ctx : Nat), ∃ p, ∃ x, p < 48 ∧ x < 2 ^ 32 ∧ s.writes ctx (pagePort p) ∧ s.boundary (pagePort p) = 0 ∧ s.armed (pagePort p) = false ∧ s.shadow.filter (fun e => onPages [pagePort p] e.1) = [(R.PORT.EXT_DLY_RX.key (pagePort p) 0, x)] :=
  ⟨{ on with shadow := [(R.PORT.EXT_DLY_RX.key (pagePort 5) 0, 77)] }, 0, 5, 77, by decide +kernel⟩

theorem wit_CommitsArmCancelAndTakeEffect_5 : ∃ (s : State), ∃ p, ∃ x, ∃ y, p < 48 ∧ x < 2 ^ 32 ∧ s.armed (pagePort p) = true ∧ s.armedPages = [pagePort p] ∧ s.commitAt (pagePort p) = some y ∧ s.shadow.filter (fun e => onPages [pagePort p] e.1) = [(R.PORT.EXT_DLY_RX.key (pagePort p) 0, x)] :=
  ⟨{ ((on.wr (pagePort 5) R.HDR.HDR_SHADOW_CTL_ARM 1).wr (pagePort 5) R.HDR.HDR_COMMIT_AT_BOUNDARY 1) with shadow := [(R.PORT.EXT_DLY_RX.key (pagePort 5) 0, 77)] }, 5, 77, 6400, by decide +kernel⟩

theorem wit_RingsAndDescriptorsAreHandled_1 : ∃ (s : State), ∃ (c : Nat), ∃ (v : Nat), c < 4 ∧ s.writes c (pageHC c) :=
  ⟨on, 2, 7, by decide +kernel⟩

theorem wit_RingsAndDescriptorsAreHandled_2 : ∃ (s : State), ∃ (c : Nat), ∃ (v : Nat), c < 4 ∧ v < 2 ^ 32 ∧ s.writes c (pageHC c) :=
  ⟨on, 2, 60, by decide +kernel⟩

theorem wit_RingsAndDescriptorsAreHandled_3 : ∃ (s : State), ∃ (c : Nat), ∃ (v : Nat), ∃ e, c < 4 ∧ v < 2 ^ 32 ∧ s.writes c (pageHC c) ∧ (s.host c).held = [e] ∧ s.flag (pageHC c) R.HC.CTX_CTL_CPL_EN = true ∧ (s.rd (pageHC c) R.HC.CPL_PROD + 2 ^ 32 - v) % 2 ^ 32 < s.cplSize c :=
  ⟨(on.wr (pageHC 2) R.HC.CTX_CTL_CPL_EN 1).onHost 2 (fun h => { h with held := [⟨5, 6, 0, 0, 8, 9, true⟩] }), 2, 0, ⟨5, 6, 0, 0, 8, 9, true⟩, by decide +kernel⟩

theorem wit_RingsAndDescriptorsAreHandled_4 : ∃ (s : State), ∃ (c : Nat), ∃ (ws : List Nat), c < 4 ∧ s.mayFetch c = true ∧ bits ((s.descWords c ws).getD 0 0) 0 8 = 0 ∧ bits ((s.descWords c ws).getD 0 0) 9 7 = 0 ∧ bits ((s.descWords c ws).getD 1 0) 12 20 = 0 ∧ (pageBlk (bits ((s.descWords c ws).getD 1 0) 0 12)).isSome :=
  ⟨((on.wr (pageHC 0) R.HC.CTX_CTL_CMD_EN 1).wr (pageHC 0) R.HC.CMD_PROD 1), 0, [0, 0x41, 0, 0, 0, 0, 0, 0], by decide +kernel⟩

theorem wit_RingsAndDescriptorsAreHandled_5 : ∃ (s : State), ∃ (c : Nat), ∃ (ws : List Nat), ∃ j, c < 4 ∧ s.mayFetch c = true ∧ bitAt ((s.descWords c ws).getD 0 0) 9 = true ∧ j ∈ s.cmds ∧ j.ctx = c :=
  ⟨{ ((on.wr (pageHC 0) R.HC.CTX_CTL_CMD_EN 1).wr (pageHC 0) R.HC.CMD_PROD 4 |>.wr (pageHC 0) R.HC.CMD_CONS 3) with cmds := [cmd 0x29 (pagePipe 0) [1, 0, 0, 0, 0, 0]] }, 0, [0x200, 0x41, 0, 0, 0, 0, 0, 0], cmd 0x29 (pagePipe 0) [1, 0, 0, 0, 0, 0], by decide +kernel⟩

theorem wit_MessageInterruptsAndPcieLinks_1 : ∃ (s : State), ∃ (c : Nat), c < 4 ∧ s.writes c (pageHC c) ∧ s.flag (pageHC c) R.HC.CTX_CTL_INT_PIN = false ∧ s.kind c = kPcie ∧ (s.host c).msix = true ∧ (s.host c).holdoff = false :=
  ⟨on.onHost 1 (fun h => { h with msix := true }), 1, by decide +kernel⟩

theorem wit_MessageInterruptsAndPcieLinks_2 : ∃ (s : State), ∃ (c : Nat), c < 4 ∧ s.attached c = true ∧ s.flag (pageHC c) R.HC.CTX_CTL_INT_PIN = false ∧ s.kind c = kPcie ∧ (s.host c).msix = true ∧ (s.host c).armed = true :=
  ⟨((on.wr (pageHC 1) R.HC.BCAST_CAUSE 1).wr (pageHC 1) R.HC.BCAST_ENABLE 1).onHost 1 (fun h => { h with msix := true, holdoff := true }), 1, by decide +kernel⟩

theorem wit_MessageInterruptsAndPcieLinks_3 : ∃ (s : State), ∃ (pf : Nat), ∃ c, s.pfCtx pf = some c ∧ s.attached c = true ∧ s.flag (pageHC c) R.HC.CTX_CTL_INT_PIN = false ∧ (s.host c).armed = true ∧ (s.host c).holdoff = false :=
  ⟨((on.wr (pageHC 1) R.HC.BCAST_CAUSE 1).wr (pageHC 1) R.HC.BCAST_ENABLE 1), 1, 1, by decide +kernel⟩

theorem wit_MessageInterruptsAndPcieLinks_4 : ∃ (s : State), ∃ (pf : Nat), ∃ c, s.pfCtx pf = some c ∧ s.attached c = true :=
  ⟨on, 1, 1, by decide +kernel⟩

theorem wit_MessageInterruptsAndPcieLinks_5 : ∃ (s : State), ∃ (pf : Nat), ∃ c, s.pfCtx pf = some c ∧ s.attached c = false ∧ s.perstHigh = true ∧ s.phase ≠ .reset :=
  ⟨(on.wr (pageHC 1) R.HC.CTX_STAT_ATTACHED 0).wr (pageHC 1) R.HC.CMD_PROD 5, 1, 1, by decide +kernel⟩

theorem wit_SpiAndInbandFramesAreAccesses_1 : ∃ (s : State), ∃ (spi : Nat), ∃ c, ∃ p, ∃ (v : Nat), ∃ (n : Nat), s.spiCtx spi = some c ∧ (pageBlk p).isSome ∧ p ≠ pageEspare ∧ s.writes c p :=
  ⟨on, 0, 2, 0x12, 0x155, 64, by decide +kernel⟩

theorem wit_SpiAndInbandFramesAreAccesses_2 : ∃ (s : State), ∃ (spi : Nat), ∃ c, ∃ p, ∃ (n : Nat), s.spiCtx spi = some c ∧ (pageBlk p).isSome ∧ pageBlk p ≠ some .hc ∧ s.reads c p ∧ 96 ≤ n :=
  ⟨(on.wr 0x41 R.HDR.HDR_INT_ENABLE 0x33), 1, 3, 0x41, 96, by decide +kernel⟩

theorem wit_SpiAndInbandFramesAreAccesses_3 : ∃ (s : State), ∃ (port : Nat), ∃ (sa : Nat), ∃ p, ∃ seq, ∃ v, s.kind 3 = kInband ∧ port = s.rd pageInb R.INB.INB_PORT ∧ sa = s.rd pageInb R.INB.INB_SA_HI * 2 ^ 32 + s.rd pageInb R.INB.INB_SA_LO ∧ (s.host 3).inbLast = none ∧ (pageBlk p).isSome ∧ p ≠ pageEspare ∧ s.writes 3 p ∧ seq < 2 ^ 16 ∧ v < 2 ^ 30 :=
  ⟨({ on with straps := { hcMap := 2 } }.wr 0x41 R.HDR.HDR_OWNER_OWNER 3), 0, 0, 0x41, 77, 0x155, by decide +kernel⟩

theorem wit_SpiAndInbandFramesAreAccesses_4 : ∃ (s : State), ∃ (port : Nat), ∃ (sa : Nat), ∃ seq, ∃ reply, ∃ (ops : List Byte), s.kind 3 = kInband ∧ s.canAccess 3 = true ∧ port = s.rd pageInb R.INB.INB_PORT ∧ sa = s.rd pageInb R.INB.INB_SA_HI * 2 ^ 32 + s.rd pageInb R.INB.INB_SA_LO ∧ (s.host 3).inbLast = some (seq, reply) ∧ seq < 2 ^ 16 ∧ ops.length = 8 :=
  ⟨{ on with straps := { hcMap := 2 } }.onHost 3 (fun h => { h with inbLast := some (77, [1, 2]) }), 0, 0, 77, [1, 2], oct [2, 0, 0, 0, 0, 0, 0, 0], by decide +kernel⟩

theorem wit_ControlCommandsComplete_1 : ∃ (s : State), ∃ (q : Request), s.accepts 0x00 q :=
  ⟨on, req 0x41 [], by decide +kernel⟩

theorem wit_ControlCommandsComplete_2 : ∃ (s : State), ∃ (q : Request), s.accepts 0x02 q ∧ s.attached (q.ctx % 4) = true ∧ s.cplRoom (q.ctx % 4) = true ∧ (s.host (q.ctx % 4)).held = [] ∧ (s.cmdOf 0x02 q).arg 0 % 4096 ≠ (s.cmdOf 0x02 q).handle % 4096 :=
  ⟨{ (on.wr (pageHC 0) R.HC.CTX_CTL_CPL_EN 1) with slots := [(2, ⟨0, 7⟩)] }, req 0x41 [2], by decide +kernel⟩

theorem wit_ControlCommandsComplete_3 : ∃ (s : State), ∃ (q : Request), ∃ j, s.accepts 0x01 q ∧ j.count ≠ q.count ∧ j.handle ≠ (s.cmdOf 0x01 q).handle ∧ j.started = false ∧ s.abortable j = true ∧ s.handleLive (q.ctx % 4) ((s.cmdOf 0x01 q).arg 0 % 65536) = true ∧ s.byHandle (q.ctx % 4) ((s.cmdOf 0x01 q).arg 0 % 65536) = some j :=
  ⟨{ on with cmds := [{ cmd 0x29 (pagePipe 0) [1] with started := false }], slots := [(2, ⟨0, 0xFF⟩)] }, req 0x41 [2], { cmd 0x29 (pagePipe 0) [1] with started := false }, by decide +kernel⟩

theorem wit_DomainsSwitchOnAndOff_1 : ∃ (s : State), ∃ (q : Request), s.accepts 0x10 q ∧ s.lifeCycle ≠ 3 ∧ s.pwr ((s.cmdOf 0x10 q).arg 0) = 0 ∧ s.ruleOn ((s.cmdOf 0x10 q).arg 0) = 0 :=
  ⟨(on.setPwr 9 0), req pagePwr [9], by decide +kernel⟩

theorem wit_DomainsSwitchOnAndOff_2 : ∃ (s : State), ∃ (d : Nat), d ∈ domains ∧ s.pwr d = 1 ∧ (s.wiping = false ∨ (s.findCmd 0x10 d).isSome = true) :=
  ⟨(on.setPwr 3 1), 3, by decide +kernel⟩

theorem wit_DomainsSwitchOnAndOff_3 : ∃ (s : State), ∃ (q : Request), s.accepts 0x11 q ∧ s.pwr ((s.cmdOf 0x11 q).arg 0) = 2 ∧ s.ruleOff ((s.cmdOf 0x11 q).arg 0) = 0 ∧ (2 < (s.cmdOf 0x11 q).arg 0 ∨ s.tcuState (domTcu ((s.cmdOf 0x11 q).arg 0)) ≠ tsFailed) :=
  ⟨on, req pagePwr [13], by decide +kernel⟩

theorem wit_DomainsSwitchOnAndOff_4 : ∃ (s : State), ∃ (d : Nat), d ∈ domains ∧ s.pwr d = 3 :=
  ⟨(on.setPwr 3 3), 3, by decide +kernel⟩

theorem wit_ResetsKeepOnlyWhatIsKept_1 : ∃ (s : State), ∃ (q : Request), s.accepts 0x12 q :=
  ⟨on, req pageRind [5], by decide +kernel⟩

theorem wit_ResetsKeepOnlyWhatIsKept_2 : ∃ (s : State), s.phase ≠ .reset ∧ (s.findOp 0x12).isSome :=
  ⟨{ on with cmds := [cmd 0x12 pageRind [5]] }, by decide +kernel⟩

theorem wit_ResetsKeepOnlyWhatIsKept_5 : ∃ (s : State), ∃ (i : Nat), i < 6 :=
  ⟨on, 2, by decide +kernel⟩

theorem wit_OscillatorReleaseAndWipeLeadToBoot_1 : ∃ (s : State), (s.phase = .oscWait ∨ s.phase = .oscLost) ∧ s.straps.oscNom ≠ 3 :=
  ⟨{ on.wr pageArb R.ARB.ARB_STAT_HOLDER_VALID 0 with phase := .oscWait }, by decide +kernel⟩

theorem wit_OscillatorReleaseAndWipeLeadToBoot_2 : ∃ (s : State), s.phase = .lastResort ∧ s.straps.oscNom ≠ 3 :=
  ⟨{ on.wr pageArb R.ARB.ARB_STAT_HOLDER_VALID 0 with phase := .lastResort }, by decide +kernel⟩

theorem wit_OscillatorReleaseAndWipeLeadToBoot_3 : ∃ (s : State), s.phase = .oscWait :=
  ⟨{ on with phase := .oscWait }, by decide +kernel⟩

theorem wit_OscillatorReleaseAndWipeLeadToBoot_4 : ∃ (s : State), s.phase = .lastResort ∧ s.flag pageRind R.RIND.RIND_CLK_STAT_OSC_OK = true :=
  ⟨{ on.wr pageArb R.ARB.ARB_STAT_HOLDER_VALID 0 |>.wr pageRind R.RIND.RIND_CLK_STAT_OSC_OK 1 with phase := .lastResort }, by decide +kernel⟩

theorem wit_OscillatorReleaseAndWipeLeadToBoot_5 : ∃ (s : State), s.phase = .running :=
  ⟨on, by decide +kernel⟩

theorem wit_OscillatorReleaseAndWipeLeadToBoot_6 : ∃ (s : State), ∃ (t : Nat), ∃ (hists : List (List Nat)), ∃ (lats : List Int), t < 2 ∧ s.starting t = true ∧ (s.tcu t).clk = true ∧ (s.tcu t).ready = false ∧ s.runsWait t = false :=
  ⟨(on.wr (pageCtl 1) R.CTL.TCU_STAT_STATE tsStarting).onTcu 1 (fun u => { u with ready := false }), 1, [], [], by decide +kernel⟩

theorem wit_OscillatorReleaseAndWipeLeadToBoot_7 : ∃ (s : State), ∃ (hc : Nat), ∃ (osc : Nat), ∃ (lead : Nat), ∃ (src : Nat), s.phase = .reset ∧ s.thermalHold = false ∧ s.lifeProg = none ∧ lead < 2 :=
  ⟨State.reset, 2, 1, 1, 3, by decide +kernel⟩

theorem wit_OscillatorReleaseAndWipeLeadToBoot_8 : ∃ (s : State), s.wiping = true :=
  ⟨{ (on.setPwr 8 1) with wiping := true, straps := { bootSrc := 1 } }, by decide +kernel⟩

theorem wit_SuppliesAndSensorsAreWatched_1 : ∃ (s : State), ∃ (i : Nat), i < 6 ∧ s.phase ≠ .reset ∧ bitAt (s.rd pageSupply R.SUPPLY.SUP_STAT_BELOW) i = false :=
  ⟨on, 3, by decide +kernel⟩

theorem wit_SuppliesAndSensorsAreWatched_2 : ∃ (s : State), ∃ (i : Nat), i < 6 :=
  ⟨on.wr pageSupply R.SUPPLY.SUP_STAT_BELOW 0x3F, 4, by decide +kernel⟩

theorem wit_SuppliesAndSensorsAreWatched_3 : ∃ (s : State), ∃ (ts : List Int), ∃ (mv : List Nat), s.phase ≠ .reset ∧ s.hot = 0 :=
  ⟨on, [-100, 200, 300, 400, 500, 600], [800, 900, 1000, 1100, 1200, 3300], by decide +kernel⟩

theorem wit_SuppliesAndSensorsAreWatched_4 : ∃ (s : State), ∃ (ts : List Int), ∃ (mv : List Nat), ∃ k, k < 6 ∧ bitAt s.hot k = true ∧ 135 * 16 ≤ ts.getD k 0 :=
  ⟨{ on with hot := 4 }, [0, 0, 2160, 0, 0, 0], [], 2, by decide +kernel⟩

theorem wit_SuppliesAndSensorsAreWatched_5 : ∃ (s : State), ∃ a, s.thermalHold = false ∧ s.coolAt = some a ∧ s.rd pageSupply R.SUPPLY.BG_STAT_THERMAL ≠ 0 ∧ s.tMax < s.bgT (s.rd pageSupply R.SUPPLY.BG_STAT_THERMAL) - 4 * (s.rd pageSupply R.SUPPLY.BG_CTL_HYST : Int) :=
  ⟨{ on.wr pageSupply R.SUPPLY.BG_STAT_THERMAL 1 with coolAt := some 50 }, 50, by decide +kernel⟩

theorem wit_SuppliesAndSensorsAreWatched_6 : ∃ (s : State), ∃ a, s.thermalHold = true ∧ s.coolAt = some a ∧ s.tMax < 4 * (s.rd pageSupply R.SUPPLY.THERM_CTL : Int) :=
  ⟨{ State.reset with thermalHold := true, coolAt := some 50 }, 50, by decide +kernel⟩

theorem wit_TheBootImageAndOtpMoveForward_1 : ∃ (s : State), ∃ (flash : List Byte), ∃ (ver : Nat), ∃ (fmt : Nat), ∃ e, ∃ x, ∃ nx, s.flag pageBoot R.BOOT.BOOT_STAT_LOADING = true ∧ s.pushLen = none ∧ bootHeaderBad flash = false ∧ bootSection flash s.bootNext 32 = some (3, e, x, nx) ∧ e < 8 ∧ s.imageStatus e x x.length true = 0 ∧ s.startWait = false ∧ s.bootNext + 1 ≠ leWord flash 12 :=
  ⟨on.wr pageBoot R.BOOT.BOOT_STAT_LOADING 1 |> (fun s => { s with bootNext := 0 }), bootImage, 0, 0, 2, engImage, 404, by decide +kernel⟩

theorem wit_TheBootImageAndOtpMoveForward_2 : ∃ (s : State), ∃ (ctx : Nat), ∃ (v : Nat), v < 2 ^ 32 ∧ s.writes ctx pageBoot ∧ s.flag pageBoot R.BOOT.BOOT_STAT_WAIT_PUSH = true :=
  ⟨(on.wr pageBoot R.BOOT.BOOT_STAT_WAIT_PUSH 1), 0, 4096, by decide +kernel⟩

theorem wit_TheBootImageAndOtpMoveForward_3 : ∃ (s : State), ∃ (ctx : Nat), ∃ (v : Nat), ∃ n, v < 2 ^ 32 ∧ s.writes ctx pageBoot ∧ s.pushLen = some n ∧ s.pushed.length + 4 < n ∧ s.pushed.length + 4 ≠ 32 :=
  ⟨{ (on.wr pageBoot R.BOOT.BOOT_STAT_LOADING 1) with pushLen := some 100, pushed := oct [1, 2, 3, 4] }, 0, 0x11223344, 100, by decide +kernel⟩

theorem wit_TheBootImageAndOtpMoveForward_4 : ∃ (s : State), s.readyNow = true ∧ s.flag pageBoot R.BOOT.BOOT_STAT_READY = false :=
  ⟨{ [8, 9, 10, 11, 12, 13].foldl (fun a d => a.setPwr d 0) (on.wr pageBoot R.BOOT.BOOT_STAT_READY 0) with booted := true, up := 5000 }, by decide +kernel⟩

theorem wit_TheBootImageAndOtpMoveForward_5 : ∃ (s : State), ∃ (q : Request), s.accepts 0x13 q :=
  ⟨on, req pageLc [1, 0, 0xFFFFFFFF], by decide +kernel⟩

theorem wit_TheBootImageAndOtpMoveForward_6 : ∃ (s : State), ∃ k, s.findOp 0x13 = some k :=
  ⟨{ on with cmds := [cmd 0x13 pageLc [1, 0, 0]] }, cmd 0x13 pageLc [1, 0, 0], by decide +kernel⟩

theorem wit_TheBootImageAndOtpMoveForward_7 : ∃ (s : State), ∃ n, ∃ hash, s.lifeProg = some (n, hash) ∧ bitAt s.resetCauses 4 = false ∧ s.lifeCycle < n ∧ n < 4 :=
  ⟨{ State.reset with lifeProg := some (1, [1, 2, 3, 4, 5, 6, 7, 8]) }, 1, [1, 2, 3, 4, 5, 6, 7, 8], by decide +kernel⟩

theorem wit_TheBootImageAndOtpMoveForward_8 : ∃ (s : State), ∃ (ctx : Nat), s.writes ctx pageLc ∧ s.lifeCycle < 2 ∧ s.otpProg = none :=
  ⟨on.wr pageLc R.LC.OTP_ADDR 3, 0, by decide +kernel⟩

theorem wit_TheBootImageAndOtpMoveForward_9 : ∃ (s : State), ∃ a, ∃ v, ∃ (got : Nat), s.otpProg = some (a, v) :=
  ⟨{ on with otpProg := some (3, 5) }, 3, 5, 7, by decide +kernel⟩

theorem wit_TheBootImageAndOtpMoveForward_10 : ∃ (s : State), ∃ (pins : Nat), s.outsOpen = true :=
  ⟨{ on with outsAt := some 0 }, 3, by decide +kernel⟩

theorem wit_TheBootImageAndOtpMoveForward_11 : ∃ (s : State), ∃ (x : Nat), s.outsOpen = true ∧ s.porstLow = false :=
  ⟨{ on with outsAt := some 0 }, 2 ^ 80 * 5 + 7, by decide +kernel⟩

theorem wit_TheBootImageAndOtpMoveForward_12 : ∃ (s : State), ∃ (x : Nat), s.outsOpen = true ∧ s.porstLow = false :=
  ⟨{ on with outsAt := some 0 }, 2 ^ 80 * 5 + 7, by decide +kernel⟩

theorem wit_TheBootImageAndOtpMoveForward_13 : ∃ (s : State), ∃ (p : Nat), (pageBlk p).isSome ∧ s.pageOn p ∧ isTcu p = false :=
  ⟨on, 0x185, by decide +kernel⟩

theorem wit_TheBootImageAndOtpMoveForward_14 : ∃ (s : State), ∃ t, t < 2 ∧ s.pageOn (pageTime t) ∧ s.tcuState t = tsStandby ∧ (s.tokenHeld = true → s.active ≠ t) :=
  ⟨on, 1, by decide +kernel⟩

theorem wit_PortsNegotiateAndTrain_1 : ∃ (s : State), ∃ (q : Request), ∃ p, ∃ m, s.accepts 0x20 q ∧ (s.cmdOf 0x20 q).arg 0 = p ∧ (s.cmdOf 0x20 q).arg 1 % 16 = m ∧ s.tokenHeld = true ∧ s.isOn (8 + p / 8) = true ∧ s.isLane p = false ∧ s.link p = lkDisabled :=
  ⟨on, req (pagePort 5) [5, 0], 5, 0, by decide +kernel⟩

theorem wit_PortsNegotiateAndTrain_2 : ∃ (s : State), ∃ (p : Nat), ∃ (lp : Nat), p < 48 ∧ s.pageOn (pagePort p) ∧ s.link p = lkAn ∧ (s.lane p).withdrawn = none :=
  ⟨(on.setLink 5 lkAn).onLane 5 (fun l => { l with adv := 0x605 }), 5, 0x00000400, by decide +kernel⟩

theorem wit_PortsNegotiateAndTrain_3 : ∃ (s : State), ∃ (p : Nat), ∃ (lp : Nat), ∃ x, p < 48 ∧ s.link p = lkAn ∧ (s.lane p).withdrawn = some x ∧ x ≠ techBits lp ∧ bitAt lp 24 = false ∧ bitAt lp 25 = false :=
  ⟨(on.setLink 5 lkAn).onLane 5 (fun l => { l with adv := 5, withdrawn := some 0x600 }), 5, 0x400, 0x600, by decide +kernel⟩

theorem wit_PortsNegotiateAndTrain_4 : ∃ (s : State), ∃ (p : Nat), p < 48 ∧ s.inC37 p = true ∧ s.flag (pagePort p) R.PORT.PORT_STAT_HI_BER = false :=
  ⟨(on.setLink 5 lkLocking).wr (pagePort 5) R.PORT.PORT_STAT_MODE 1 |>.wr (pagePort 5) R.PORT.PORT_STAT_BLOCK_LOCK 1, 5, by decide +kernel⟩

theorem wit_PortsNegotiateAndTrain_5 : ∃ (s : State), ∃ (p : Nat), ∃ (pause : Bool), ∃ (asm : Bool), p < 48 ∧ s.inC37 p = true ∧ s.flag (pagePort p) R.PORT.PORT_STAT_HI_BER = false :=
  ⟨(on.setLink 5 lkLocking).wr (pagePort 5) R.PORT.PORT_STAT_MODE 1 |>.wr (pagePort 5) R.PORT.PORT_STAT_BLOCK_LOCK 1, 5, true, false, by decide +kernel⟩

theorem wit_PortsNegotiateAndTrain_6 : ∃ (s : State), ∃ (p : Nat), ∃ (a : Nat), ∃ (b : Nat), ∃ (c : Nat), p < 48 ∧ s.link p = lkTraining :=
  ⟨(on.setLink 5 lkTraining).wr (pagePort 5) R.PORT.TX_FIR_LIVE_C_MAIN 30, 5, 0, 0, 0, by decide +kernel⟩

theorem wit_PortsNegotiateAndTrain_7 : ∃ (s : State), ∃ (p : Nat), p < 48 ∧ s.link p = lkTraining ∧ s.flag (pagePort p) R.PORT.PORT_STAT_BLOCK_LOCK = false :=
  ⟨on.setLink 5 lkTraining, 5, by decide +kernel⟩

theorem wit_PortsNegotiateAndTrain_8 : ∃ (s : State), ∃ (p : Nat), p < 48 ∧ s.pageOn (pagePort p) ∧ s.link p = lkTraining :=
  ⟨on.setLink 5 lkTraining, 5, by decide +kernel⟩

theorem wit_PortsNegotiateAndTrain_9 : ∃ (s : State), ∃ (p : Nat), p < 48 ∧ s.link p = lkBackoff :=
  ⟨(on.setLink 5 lkBackoff).onLane 5 (fun l => { l with till := 2000000000 }), 5, by decide +kernel⟩

theorem wit_PortsNegotiateAndTrain_10 : ∃ (s : State), ∃ (p : Nat), p < 48 ∧ s.link p = lkBackoff :=
  ⟨on.setLink 5 lkBackoff, 5, by decide +kernel⟩

theorem wit_PortsNegotiateAndTrain_11 : ∃ (s : State), ∃ (p : Nat), p < 48 ∧ s.link p = lkQuiet :=
  ⟨on.setLink 5 lkQuiet, 5, by decide +kernel⟩

theorem wit_PortsNegotiateAndTrain_12 : ∃ (s : State), ∃ (p : Nat), p < 48 ∧ s.link p = lkWait ∧ s.signal p = true :=
  ⟨(on.setLink 5 lkWait).wr (pagePort 5) R.PORT.PORT_STAT_SIGNAL 1, 5, by decide +kernel⟩

theorem wit_ReceiversEyesAndLowPowerIdle_1 : ∃ (s : State), ∃ (p : Nat), p < 48 ∧ s.pageOn (pagePort p) ∧ s.signal p = true ∧ s.isLane p = false ∧ s.link p = lkTraining :=
  ⟨(on.setLink 5 lkTraining).wr (pagePort 5) R.PORT.PORT_STAT_SIGNAL 1, 5, by decide +kernel⟩

theorem wit_ReceiversEyesAndLowPowerIdle_2 : ∃ (s : State), ∃ (p : Nat), p < 48 ∧ s.isOn (8 + p / 8) = true :=
  ⟨on.setLink 5 lkWait, 5, by decide +kernel⟩

theorem wit_ReceiversEyesAndLowPowerIdle_3 : ∃ (s : State), ∃ (p : Nat), p < 48 ∧ s.pageOn (pagePort p) ∧ s.link p = lkLocking ∧ s.mode p ≠ 1 :=
  ⟨(on.setLink 5 lkLocking).wr (pagePort 5) R.PORT.PORT_STAT_MODE 5, 5, by decide +kernel⟩

theorem wit_ReceiversEyesAndLowPowerIdle_4 : ∃ (s : State), ∃ (p : Nat), ∃ (sh : Nat), p < 48 ∧ s.pageOn (pagePort p) ∧ s.isLane p = false ∧ s.link p = lkUp ∧ s.flag (pagePort p) R.PORT.PORT_STAT_BLOCK_LOCK = true ∧ (s.lane p).an = false ∧ trained (s.mode p) = false :=
  ⟨((on.setLink 5 lkUp).wr (pagePort 5) R.PORT.PORT_STAT_MODE 2).wr (pagePort 5) R.PORT.PORT_STAT_BLOCK_LOCK 1, 5, 3, by decide +kernel⟩

theorem wit_ReceiversEyesAndLowPowerIdle_5 : ∃ (s : State), ∃ (p : Nat), ∃ (sh : Nat), p < 48 ∧ s.pageOn (pagePort p) ∧ s.laneOn p = true ∧ s.isLane p = false ∧ s.link p ≠ lkUp ∧ s.flag (pagePort p) R.PORT.PORT_STAT_HI_BER = false :=
  ⟨((on.setLink 5 lkLocking).wr (pagePort 5) R.PORT.PORT_STAT_MODE 2), 5, 3, by decide +kernel⟩

theorem wit_ReceiversEyesAndLowPowerIdle_6 : ∃ (s : State), ∃ (p : Nat), p < 48 ∧ s.isOn (8 + p / 8) = true ∧ bitAt (s.rd (pageGrp (p / 8)) R.GRP.G_STAT_PLL) (p % 8) = true ∧ s.laneOn p = true :=
  ⟨((on.setLink 5 lkLocking).wr (pageGrp 0) R.GRP.G_STAT_PLL 0xFF), 5, by decide +kernel⟩

theorem wit_ReceiversEyesAndLowPowerIdle_7 : ∃ (s : State), ∃ (ctx : Nat), ∃ (p : Nat), ∃ (v : Nat), p < 48 ∧ v < 2 ^ 32 ∧ s.writes ctx (pagePort p) ∧ s.allows (pagePort p) 0x0B0 (v / 2 * 2 + 1) ∧ s.flag (pagePort p) R.PORT.EYE_CTL_START = false ∧ s.flag (pagePort p) R.PORT.PORT_STAT_BLOCK_LOCK = true ∧ (s.lane p).retired = 0 :=
  ⟨(on.setLink 5 lkUp).wr (pagePort 5) R.PORT.PORT_STAT_BLOCK_LOCK 1, 0, 5, 1, by decide +kernel⟩

theorem wit_ReceiversEyesAndLowPowerIdle_8 : ∃ (s : State), ∃ (p : Nat), ∃ (errs : Nat), p < 48 ∧ s.pageOn (pagePort p) ∧ s.flag (pagePort p) R.PORT.EYE_STAT_BUSY = true :=
  ⟨(on.setLink 5 lkUp).wr (pagePort 5) R.PORT.EYE_STAT_BUSY 1, 5, 123456, by decide +kernel⟩

theorem wit_ReceiversEyesAndLowPowerIdle_9 : ∃ (s : State), ∃ (p : Nat), p < 48 ∧ s.eee p = true :=
  ⟨(on.setLink 5 lkUp).wr (pagePort 5) R.PORT.PORT_STAT_MODE 2 |>.wr (pagePort 5) R.PORT.EEE_CTL_EN 1, 5, by decide +kernel⟩

theorem wit_ReceiversEyesAndLowPowerIdle_10 : ∃ (s : State), ∃ (p : Nat), p < 48 ∧ s.eee p = true ∧ s.sends p = false ∧ s.keptAwake p = false :=
  ⟨(on.setLink 5 lkUp).wr (pagePort 5) R.PORT.PORT_STAT_MODE 2 |>.wr (pagePort 5) R.PORT.EEE_CTL_EN 1, 5, by decide +kernel⟩

theorem wit_ReceiversEyesAndLowPowerIdle_11 : ∃ (s : State), ∃ (p : Nat), p < 48 :=
  ⟨(on.setLink 5 lkUp).wr (pagePort 5) R.PORT.PORT_STAT_LPI_TX 1, 5, by decide +kernel⟩

theorem wit_ReceiversEyesAndLowPowerIdle_12 : ∃ (s : State), ∃ (p : Nat), p < 48 :=
  ⟨(on.setLink 5 lkUp).wr (pagePort 5) R.PORT.PORT_STAT_LPI_RX 1, 5, by decide +kernel⟩

theorem wit_DisableCommandsDrainTheirWork_1 : ∃ (s : State), ∃ (q : Request), ∃ p, s.accepts 0x21 q ∧ (s.cmdOf 0x21 q).arg 0 = p ∧ bitAt ((s.cmdOf 0x21 q).arg 1) 0 = false ∧ s.isLane p = false ∧ s.link p ≠ lkDisabled :=
  ⟨(on.setLink 5 lkUp), req (pagePort 5) [5, 0, 100], 5, by decide +kernel⟩

theorem wit_DisableCommandsDrainTheirWork_2 : ∃ (s : State), ∃ (q : Request), ∃ p, s.accepts 0x21 q ∧ (s.cmdOf 0x21 q).arg 0 = p ∧ bitAt ((s.cmdOf 0x21 q).arg 1) 0 = true ∧ s.isLane p = false ∧ s.link p ≠ lkDisabled ∧ s.voqs = [] ∧ (s.tx p).kind = .idle :=
  ⟨(on.setLink 5 lkUp), req (pagePort 5) [5, 1, 0], 5, by decide +kernel⟩

theorem wit_DisableCommandsDrainTheirWork_3 : ∃ (s : State), ∃ (p : Nat), ∃ k, p < 48 ∧ s.findCmd 0x21 p = some k ∧ k.ctx < 4 ∧ s.handleLive k.ctx k.handle = true ∧ s.current k = k ∧ k.r0 = 0 ∧ s.voqs = [] ∧ (s.tx p).kind = .idle :=
  ⟨{ on.setLink 5 lkUp with cmds := [cmd 0x21 (pagePort 5) [5, 0, 100]], slots := [(2, ⟨0, 0xFF⟩)] }, 5, cmd 0x21 (pagePort 5) [5, 0, 100], by decide +kernel⟩

theorem wit_DisableCommandsDrainTheirWork_4 : ∃ (s : State), ∃ (p : Nat), ∃ k, p < 48 ∧ s.findCmd 0x21 p = some k ∧ k.ctx < 4 ∧ s.handleLive k.ctx k.handle = true ∧ s.current k = k ∧ k.stage = 0 ∧ k.r0 = 0 ∧ s.voqs = [] ∧ (s.tx p).kind = .idle :=
  ⟨{ on.setLink 5 lkUp with cmds := [cmd 0x21 (pagePort 5) [5, 0, 100]], slots := [(2, ⟨0, 0xFF⟩)] }, 5, cmd 0x21 (pagePort 5) [5, 0, 100], by decide +kernel⟩

theorem wit_DisableCommandsDrainTheirWork_5 : ∃ (s : State), ∃ (q : Request), ∃ n, s.accepts 0x23 q ∧ (s.cmdOf 0x23 q).arg 0 = n ∧ bitAt ((s.cmdOf 0x23 q).arg 1) 0 = false ∧ s.tstate n ≠ tkDisabled ∧ s.tstate n ≠ tkFallback :=
  ⟨on.wr (pageNT 3) R.NT.TRUNK_STAT_STATE tkUp, req (pageNT 3) [3, 0, 100], 3, by decide +kernel⟩

theorem wit_DisableCommandsDrainTheirWork_6 : ∃ (s : State), ∃ (q : Request), s.accepts 0x24 q ∧ bitAt ((s.cmdOf 0x24 q).arg 1) 8 = false :=
  ⟨on, req (pagePort 5) [5 * 128, 1, 100], by decide +kernel⟩

theorem wit_DisableCommandsDrainTheirWork_7 : ∃ (s : State), ∃ (q : Request), s.accepts 0x25 q :=
  ⟨on.onVoq (voqOf 4 640) (fun v => { v with opened := false }), req (pagePort 5) [voqOf 4 640, 0], by decide +kernel⟩

theorem wit_TrunksFollowTheirStatesAndAgree_1 : ∃ (s : State), ∃ (q : Request), ∃ n, s.accepts 0x22 q ∧ (s.cmdOf 0x22 q).arg 0 = n ∧ s.tokenHeld = true ∧ s.isOn (8 + n / 2) = true ∧ (∀ i, i < 4 → s.link (4 * n + i) = lkDisabled) ∧ s.tstate n = tkDisabled ∧ s.tplOnTrunk n = none :=
  ⟨on, req (pageNT 3) [3], 3, by decide +kernel⟩

theorem wit_TrunksFollowTheirStatesAndAgree_2 : ∃ (s : State), ∃ (q : Request), ∃ n, ∃ k, s.accepts 0x22 q ∧ (s.cmdOf 0x22 q).arg 0 = n ∧ s.tplOnTrunk n = some k :=
  ⟨{ on.wr (pageGw 0) R.GW.GW_CTL_EN 1 with gwTpl := [(3, [0x20031, 0, 0x200, 9, 0x200, 7, 1000, 0])] }, req (pageNT 3) [3], 3, 3, by decide +kernel⟩

theorem wit_TrunksFollowTheirStatesAndAgree_3 : ∃ (s : State), ∃ (n : Nat), n < 12 ∧ s.tstate n = tkTraining :=
  ⟨nt 3 tkTraining, 3, by decide +kernel⟩

theorem wit_TrunksFollowTheirStatesAndAgree_4 : ∃ (s : State), ∃ (n : Nat), n < 12 ∧ s.pageOn (pageNT n) ∧ s.tstate n = tkTraining :=
  ⟨nt 3 tkTraining, 3, by decide +kernel⟩

theorem wit_TrunksFollowTheirStatesAndAgree_5 : ∃ (s : State), ∃ (n : Nat), n < 12 ∧ s.tstate n = tkBackoff :=
  ⟨(nt 3 tkBackoff).onTrunk 3 (fun x => { x with till := 2000000000 }), 3, by decide +kernel⟩

theorem wit_TrunksFollowTheirStatesAndAgree_6 : ∃ (s : State), ∃ (n : Nat), n < 12 ∧ s.tstate n = tkBackoff :=
  ⟨nt 3 tkBackoff, 3, by decide +kernel⟩

theorem wit_TrunksFollowTheirStatesAndAgree_7 : ∃ (s : State), ∃ (n : Nat), n < 12 ∧ s.tstate n = tkQuiet :=
  ⟨nt 3 tkQuiet, 3, by decide +kernel⟩

theorem wit_TrunksFollowTheirStatesAndAgree_8 : ∃ (s : State), ∃ (n : Nat), n < 12 ∧ s.tstate n = tkWaitSig ∧ (∀ i, i < 4 → s.signal (4 * n + i) = true) :=
  ⟨(nt 3 tkWaitSig).each 4 (fun i a => a.wr (pagePort (12 + i)) R.PORT.PORT_STAT_SIGNAL 1), 3, by decide +kernel⟩

theorem wit_TrunksFollowTheirStatesAndAgree_9 : ∃ (s : State), ∃ (n : Nat), ∃ (skew : Nat), n < 12 ∧ skew ≤ 16 ∧ s.tstate n = tkAligning ∧ (∀ i, i < 4 → s.flag (pagePort (4 * n + i)) R.PORT.PORT_STAT_BLOCK_LOCK = true ∧ s.flag (pagePort (4 * n + i)) R.PORT.PORT_STAT_HI_BER = false) :=
  ⟨(nt 3 tkAligning).each 4 (fun i a => a.wr (pagePort (12 + i)) R.PORT.PORT_STAT_BLOCK_LOCK 1), 3, 16, by decide +kernel⟩

theorem wit_TrunksFollowTheirStatesAndAgree_10 : ∃ (s : State), ∃ (n : Nat), n < 12 ∧ s.pageOn (pageNT n) ∧ s.tstate n = tkAligning :=
  ⟨nt 3 tkAligning, 3, by decide +kernel⟩

theorem wit_TrunksFollowTheirStatesAndAgree_11 : ∃ (s : State), ∃ (n : Nat), ∃ (lane : Nat), ∃ (p : Nat), ∃ gen, ∃ feat, n < 12 ∧ lane < 3 ∧ s.pageOn (pageNT n) ∧ s.tstate n = tkHello ∧ blockOk kHello p = true ∧ (helloOf p).lane = lane ∧ s.resolveGen n (helloOf p) = some (gen, feat) ∧ (helloOf p).ack = true ∧ (helloOf p).genSel = gen ∧ (helloOf p).feat = feat ∧ 3 ≤ (s.trunk n).run0 + b2n (lane == 0) ∧ 3 ≤ (s.trunk n).run1 + b2n (lane == 1) ∧ 3 ≤ (s.trunk n).run2 + b2n (lane == 2) :=
  ⟨(nt 3 tkHello).onTrunk 3 (fun x => { x with run0 := 2, run1 := 3, run2 := 3 }), 3, 0, sealBlock kHello (helloBits ⟨3, 3, 0, 77, 5, 0, true⟩), 3, 0, by decide +kernel⟩

theorem wit_TrunksFollowTheirStatesAndAgree_12 : ∃ (s : State), ∃ (n : Nat), n < 12 ∧ s.pageOn (pageNT n) ∧ s.tstate n = tkHello :=
  ⟨nt 3 tkHello, 3, by decide +kernel⟩

theorem wit_TrunksFollowTheirStatesAndAgree_13 : ∃ (s : State), ∃ (n : Nat), n < 12 ∧ s.pageOn (pageNT n) ∧ (s.tstate n = tkTraining ∨ s.tstate n = tkBackoff ∨ s.tstate n = tkWaitSig) :=
  ⟨nt 3 tkTraining, 3, by decide +kernel⟩

theorem wit_TrunksFollowTheirStatesAndAgree_14 : ∃ (s : State), ∃ (n : Nat), n < 12 ∧ s.pageOn (pageNT n) ∧ s.tstate n = tkUp :=
  ⟨nt 3 tkUp, 3, by decide +kernel⟩

theorem wit_TrunksFollowTheirStatesAndAgree_15 : ∃ (s : State), ∃ (n : Nat), ∃ t, ∃ k, n < 12 ∧ t < 2 ∧ k < 16 ∧ s.tstate n = tkUp ∧ s.decides t = true ∧ s.csrc t k = 8 + n ∧ s.cstate t k = csQual :=
  ⟨((nt 3 tkUp).wrI (pageRefsel 0) R.REFSEL.CAND_CFG_SRC 5 11).wrI (pageRefsel 0) R.REFSEL.CAND_STAT_STATE 5 csQual |>.wrI (pageRefsel 0) R.REFSEL.CAND_CFG_EN 5 1, 3, 0, 5, by decide +kernel⟩

theorem wit_TrunksFollowTheirStatesAndAgree_16 : ∃ (s : State), ∃ (n : Nat), ∃ v, n < 12 ∧ s.pageOn (pageNT n) ∧ s.tone n = true ∧ (s.trunk n).fill 0 = v ∧ v ≠ 0 :=
  ⟨((nt 3 tkUp).wr (pageNT 3) R.NT.TRUNK_EB_EB0 2).onTrunk 3 (fun x => { x with ebRef := [(0, some (2 * qBlock + 5))], dly := [(0, [0])] }), 3, 2, by decide +kernel⟩

theorem wit_TrunkBlocksAreSentAndReceived_1 : ∃ (s : State), ∃ (n : Nat), n < 12 ∧ s.tone n = true :=
  ⟨nt 3 tkUp, 3, by decide +kernel⟩

theorem wit_TrunkBlocksAreSentAndReceived_2 : ∃ (s : State), ∃ (n : Nat), ∃ (lane : Nat), n < 12 ∧ lane < 3 ∧ s.tstate n = tkHello :=
  ⟨nt 3 tkHello, 3, 2, by decide +kernel⟩

theorem wit_TrunkBlocksAreSentAndReceived_3 : ∃ (s : State), ∃ (n : Nat), n < 12 ∧ s.tone n = true :=
  ⟨(nt 3 tkUp).onTcu 0 (fun u => { u with now := 12345678901234567890 }), 3, by decide +kernel⟩

theorem wit_TrunkBlocksAreSentAndReceived_4 : ∃ (s : State), ∃ (n : Nat), ∃ m, ∃ x, ∃ es, n < 12 ∧ s.tone n = true ∧ (s.trunk n).echoes = (m, x) :: es :=
  ⟨(nt 3 tkUp).onTrunk 3 (fun x => { x with echoes := [(17, -5), (18, 6)] }), 3, 17, -5, [(18, 6)], by decide +kernel⟩

theorem wit_TrunkBlocksAreSentAndReceived_5 : ∃ (s : State), ∃ (n : Nat), ∃ (lane : Nat), ∃ (kind : Nat), ∃ (p : Nat), ∃ (tpcs : Int), n < 12 ∧ lane < 3 ∧ s.tone n = true ∧ blockOk kind p = false :=
  ⟨nt 3 tkUp, 3, 1, kMarker, 0, 5000, by decide +kernel⟩

theorem wit_TrunkBlocksAreSentAndReceived_6 : ∃ (s : State), ∃ (n : Nat), ∃ (p : Nat), ∃ (tpcs : Int), n < 12 ∧ s.tone n = true ∧ blockOk kMarker p = true ∧ bits p 0 10 ≤ 824 ∧ bits p 10 7 = markOfs (bits p 0 10) ∧ (s.trunk n).known = true :=
  ⟨(nt 3 tkUp).onTrunk 3 (fun x => { x with known := true }), 3, sealBlock kMarker (markerBits 500 0), 5000000000, by decide +kernel⟩

theorem wit_TrunkBlocksAreSentAndReceived_7 : ∃ (s : State), ∃ (n : Nat), ∃ (p : Nat), ∃ k, ∃ x, n < 12 ∧ s.tone n = true ∧ blockOk kEcho p = true ∧ (s.trunk n).us.find? (fun e => e.1 % 825 == bits p 0 10) = some (k, x) :=
  ⟨(nt 3 tkUp).onTrunk 3 (fun x => { x with us := [(830, 77)], sent := some 830 }), 3, sealBlock kEcho (5 + 100 * 1024), 830, 77, by decide +kernel⟩

theorem wit_TrunkBlocksAreSentAndReceived_8 : ∃ (s : State), ∃ (n : Nat), ∃ (p : Nat), n < 12 ∧ s.tone n = true ∧ blockOk kTime p = true :=
  ⟨nt 3 tkUp, 3, sealBlock kTime (1000 + 2 ^ 47), by decide +kernel⟩

theorem wit_TrunkBlocksAreSentAndReceived_9 : ∃ (s : State), ∃ (t : Nat), ∃ (n : Nat), ∃ (raw : Nat), ∃ (m : Nat), t < 2 ∧ n < 12 ∧ s.tone n = true ∧ (s.tcu t).clk = true ∧ s.flag (pageTdc t n) R.TDC.TDC_STAT_CAL_RUNNING = false :=
  ⟨nt 3 tkUp, 1, 3, 200, 17, by decide +kernel⟩

theorem wit_CadenceAndGatewayTablesAreWritten_1 : ∃ (s : State), ∃ (ctx : Nat), ∃ (t : Nat), t < 2 ∧ s.writes ctx (pageCad t) :=
  ⟨on.wr (pageCad 0) R.CAD.CAD_TBL_SEL_INDEX 7 |>.wrI (pageCad 0) R.CAD.CAD_TBL_D_SLOT 0 5 |>.wrI (pageCad 0) R.CAD.CAD_TBL_D_TARGET 0 15 |>.wrI (pageCad 0) R.CAD.CAD_TBL_D_V 0 1, 0, 0, by decide +kernel⟩

theorem wit_CadenceAndGatewayTablesAreWritten_2 : ∃ (s : State), ∃ (ctx : Nat), ∃ (t : Nat), ∃ i, t < 2 ∧ i < 4 ∧ s.writes ctx (pageCad t) :=
  ⟨{ on with cadTab := [(9, [(0, [0x800F0005, 6, 7, 8])])] }.wr (pageCad 0) R.CAD.CAD_TBL_SEL_INDEX 9, 0, 0, 3, by decide +kernel⟩

theorem wit_CadenceAndGatewayTablesAreWritten_3 : ∃ (s : State), ∃ (ctx : Nat), ∃ (t : Nat), t < 2 ∧ s.writes ctx (pageGw t) :=
  ⟨on.wr (pageGw 0) R.GW.GW_TPL_SEL 5 |>.wr (pageGw 0) R.GW.GW_TPL_W0_EN 1 |>.wr (pageGw 0) R.GW.GW_TPL_W0_WCNT 1, 0, 0, by decide +kernel⟩

theorem wit_CadenceAndGatewayTablesAreWritten_4 : ∃ (s : State), ∃ (ctx : Nat), ∃ (t : Nat), ∃ i, t < 2 ∧ i < 8 ∧ s.writes ctx (pageGw t) :=
  ⟨(gw [1, 2, 3, 4, 5, 6, 7, 8]).wr (pageGw 0) R.GW.GW_TPL_SEL 3, 0, 0, 4, by decide +kernel⟩

theorem wit_CadenceBlocksAndGatewayFramesPass_1 : ∃ (s : State), 0 < s.hoop ∧ (s.tcu s.active).clk = true ∧ (s.hoopOf s.now + 1) * s.hoop < counterMod ∧ s.active < 2 :=
  ⟨on, by decide +kernel⟩

theorem wit_CadenceBlocksAndGatewayFramesPass_2 : ∃ (s : State), ∃ (n : Nat), ∃ (lane : Nat), ∃ (p : Nat), ∃ (count : Nat), ∃ (tpcs : Int), ∃ mk, ∃ hoop, ∃ d, ∃ rc, n < 12 ∧ lane < 3 ∧ s.tstate n = tkUp ∧ s.cadOn = true ∧ s.phase ≠ .lastResort ∧ look 0 (s.trunk n).marks lane = mk + 1 ∧ s.peerHoop n ((mk * 524288 + markOfs (mk % 825)) / 66 + (if count = 1 then 0 else count)) =
      some (hoop, 4 * d, rc, true) ∧ 3 * d + lane < rc ∧ bits p 48 8 = blockCrc 0xC3 (p % 2 ^ 48) ∧ (s.src n (3 * d + lane) hoop).missed = false :=
  ⟨(nt 1 tkUp).wr (pageCad 0) R.CAD.CAD_CTL_EN 1 |>.wr (pageNT 1) R.NT.TRUNK_CAD_RES 1000 |>.onTrunk 1 (fun x => { x with marks := [(2, 101)] }), 1, 2, sealBlock 0xC3 0xABCDEF, 2, 777, 100, 65, 230, 1000, by decide +kernel⟩

theorem wit_CadenceBlocksAndGatewayFramesPass_3 : ∃ (s : State), ∃ (n : Nat), ∃ (k : Nat), ∃ (m : Nat), ∃ (gb : Bool), ∃ (eq : Bool), ∃ tbl, ∃ idx, ∃ hoop, ∃ p, ∃ t, n < 12 ∧ k < s.rcFor n m ∧ k < 8192 ∧ s.cadOn = true ∧ s.tstate n = tkUp ∧ s.cadFrom ≤ m ∧ s.fills n k m = some (tbl, idx, hoop) ∧ s.phase ≠ .lastResort ∧ s.disabling n = false ∧ s.disabling tbl = false ∧ (tbl < 12 → s.tstate tbl = tkUp) ∧ (s.src tbl idx hoop).blk = some (.good, p, t) ∧ 0 ≤ (sentPos (s.slotPos n k m) : Int) * qBlock - t - 4 * qNs - egressCross (sentPos (s.slotPos n k m)) :=
  ⟨{ (nt 1 tkUp).wr (pageNT 2) R.NT.TRUNK_STAT_STATE tkUp |>.wr (pageCad 0) R.CAD.CAD_CTL_EN 1 |>.wr (pageNT 1) R.NT.TRUNK_CAD_RES 1000 with cadTab := [(2 * 8192 + 3, [(0, [0x80010004, 0, 0, 0])])], cadSrc := [{ tbl := 2, idx := 3, hoop := 10, blk := some (.good, 0xABCDEF, 0) }] }, 1, 4, 10, true, true, 2, 3, 10, 0xABCDEF, 0, by decide +kernel⟩

theorem wit_CadenceBlocksAndGatewayFramesPass_4 : ∃ (s : State), ∃ (k : Nat), ∃ (m : Nat), ∃ (badB : List Nat), ∃ (differ : List Nat), k < 512 ∧ s.flag (pageGw s.lead) R.GW.GW_CTL_EN = true ∧ s.tplOn k = true ∧ s.tplIn k = false ∧ s.tplPort k < 48 ∧ s.portUp (s.tplPort k) = true ∧ s.isLane (s.tplPort k) = false ∧ s.phase ≠ .lastResort ∧ (∀ i, i < s.tplBits k 0 16 7 → s.fills 15 (s.tplBits k 1 0 13 + i) m = none) :=
  ⟨gw [0x20015, 0, 0x200, 9, 0x200, 7, 1000, 0], 3, 5, [3], [3], by decide +kernel⟩

theorem wit_CadenceBlocksAndGatewayFramesPass_5 : ∃ (s : State), ∃ (f : Nat), ∃ (tpcs : Int), ∃ k, ∃ h, s.frame f ≠ noFrame ∧ (s.frame f).host = false ∧ (s.frame f).complete = false ∧ (s.frame f).decided = false ∧ s.gwMatch (s.frame f).port (s.frame f).octets = some k ∧ judge (s.frame f) false false = .good ∧ h = (tpcs / ((s.hoop : Int) * qNs)).toNat ∧ (s.tplBits k 6 0 20 : Int) * qNs ≤ tpcs - (h * s.hoop : Nat) * qNs ∧ tpcs - (h * s.hoop : Nat) * qNs ≤ (s.tplBits k 7 0 20 : Int) * qNs ∧ s.gwHeaderOk k h (s.frame f).octets = true ∧ look none s.gwWin k = none :=
  ⟨(gw [0x20017, 40, 0, 0, 7, 0x200, 0, 20000]).setFrame 8 { port := 5, owner := 5, octets := gwIn }, 8, 5 * 31250 * 54067200 + 1000, 3, 5, by decide +kernel⟩

theorem wit_CadenceBlocksAndGatewayFramesPass_6 : ∃ (s : State), ∃ (k : Nat), ∃ (m : Nat), k < 512 ∧ s.flag (pageGw s.lead) R.GW.GW_CTL_EN = true ∧ s.tplOn k = true ∧ s.tplIn k = true ∧ look none s.gwWin k = none :=
  ⟨gw [0x20017, 40, 0, 0, 7, 0x200, 0, 20000], 3, 5, by decide +kernel⟩

theorem wit_FramesAreReceivedJudgedAndForwarded_1 : ∃ (s : State), ∃ (p : Nat), ∃ (f : Nat), ∃ (l : List Byte), ∃ (tpcs : Int), ∃ (st : Bool), ∃ (d : Int), p < 48 ∧ s.isLane p = false ∧ s.portUp p = true ∧ s.closing p = false ∧ s.frame f = noFrame ∧ s.inTx f = false :=
  ⟨on.setLink 5 lkUp, 5, 7, gwIn, 100, true, 3, by decide +kernel⟩

theorem wit_FramesAreReceivedJudgedAndForwarded_2 : ∃ (s : State), ∃ (f : Nat), ∃ (l : List Byte), s.frame f ≠ noFrame ∧ (s.frame f).host = false ∧ (s.frame f).tooLong = false ∧ (s.frame f).complete = false :=
  ⟨(on.setLink 5 lkUp).setFrame 7 { port := 5, owner := 5, octets := gwIn.take 20 }, 7, gwIn.drop 20, by decide +kernel⟩

theorem wit_FramesAreReceivedJudgedAndForwarded_3 : ∃ (s : State), ∃ (f : Nat), ∃ (errs : List Nat), ∃ (cut : Bool), s.frame f ≠ noFrame ∧ (s.frame f).host = false ∧ (s.frame f).complete = false ∧ (s.frame f).dropped = false ∧ (s.frame f).port < 48 :=
  ⟨(on.setLink 5 lkUp).setFrame 7 { port := 5, owner := 5, octets := gwIn }, 7, [], false, by decide +kernel⟩

theorem wit_FramesAreReceivedJudgedAndForwarded_4 : ∃ (s : State), ∃ (f : Nat), s.frame f ≠ noFrame ∧ ((s.frame f).host = true ∧ s.frames.filter (fun e => e.2.host && !e.2.decided) = [(f, s.frame f)] ∨
      (s.frame f).host = false ∧ (s.frame f).seen = true ∧ s.gwMatch (s.frame f).port (s.frame f).octets = none) ∧ (s.frame f).direct = none ∧ (s.frame f).decided = false ∧ (s.frame f).complete = true ∧ (s.frame f).port < 48 ∧ (hdrOf (s.frame f).octets).etype ≠ 0x8808 ∧ (hdrOf (s.frame f).octets).etype ≠ 0x88B5 ∧ s.findKey (pipeOf (s.frame f).port) tMac (macKey 0 (s.classify (s.frame f).port (hdrOf (s.frame f).octets)).vid 1) = none :=
  ⟨on.setFrame 7 hostFrame, 7, by decide +kernel⟩

theorem wit_FramesAreReceivedJudgedAndForwarded_5 : ∃ (s : State), ∃ (f : Nat), ∃ x, ∃ w, ∃ k, ∃ v, ∃ i, ∃ e, ∃ g, ∃ dst, s.frame f = x ∧ x ≠ noFrame ∧ (x.host = true ∧ s.frames.filter (fun e => e.2.host && !e.2.decided) = [(f, x)] ∨ x.host = false ∧ x.seen = true ∧
      s.gwMatch x.port x.octets = none ∧ s.rdI (pagePipe w) R.PIPE.PIPE_PORT_CFG_LEARN (x.port % 24) = 0) ∧ x.direct = none ∧ x.decided = false ∧ x.complete = true ∧ x.refused = false ∧ x.port < 48 ∧ (hdrOf x.octets).etype ≠ 0x8808 ∧ (hdrOf x.octets).etype ≠ 0x88B5 ∧ w = pipeOf x.port ∧ k = s.classify x.port (hdrOf x.octets) ∧ s.flag (pagePipe w) R.PIPE.PIPE_CTL_EN = true ∧ s.findKey w tMac (macKey 0 k.vid 1) = some v ∧ g = s.entry w tGroup (bits (wordAt (s.entry w tMac v) 2) 0 12) ∧ entryValid tGroup g = true ∧ s.rdI (pagePipe w) R.PIPE.PIPE_PORT_CFG_IFILTER (x.port % 24) = 0 ∧ s.findKey w tMac (macKey (hdrOf x.octets).sa k.vid 0) = none ∧ (hdrOf x.octets).da / 2 ^ 4 ≠ 0x0180C200000 ∧ s.findKey w tMac (macKey (hdrOf x.octets).da k.vid 0) = some i ∧ e = s.entry w tMac i ∧ bits (wordAt e 2) 14 2 = 0 ∧ bitAt (wordAt e 2) 20 = false ∧ bitAt (wordAt e 2) 21 = false ∧ bitAt (wordAt e 2) 13 = false ∧ dst = bits (wordAt e 2) 0 6 ∧ dst ≠ x.port ∧ s.takes dst = true ∧ (s.voq (voqOf x.port (leafOf dst k.subscr k.svc))).opened = true ∧ s.copyRecords < 262144 :=
  ⟨fwd.setFrame 7 hostFrame, 7, hostFrame, 0, fwd.classify 5 (hdrOf gwIn), (fwd.findKey 0 tMac (macKey 0 1 1)).getD 0, fwdAt, (macKey 0x020000000009 1 0).set 2 (6 + 2 ^ 17), [0x60, 0, 0x20, 2 ^ 31], 6, by decide +kernel⟩

theorem wit_PortsServeAndSendFrames_1 : ∃ (s : State), ∃ (p : Nat), ∃ q, p < 48 ∧ s.portVoqs p = [] ∧ (s.tx p).kind = .idle ∧ s.portUp p = true ∧ s.flag (pagePort p) R.PORT.PORT_STAT_LPI_TX = false ∧ s.isLane p = false ∧ (s.mac p).due = some q :=
  ⟨(on.setLink 5 lkUp).onMac 5 (fun m => { m with due := some 77 }), 5, 77, by decide +kernel⟩

theorem wit_PortsServeAndSendFrames_2 : ∃ (s : State), ∃ (p : Nat), ∃ l, p < 48 ∧ s.portVoqs p = [] ∧ look [] s.gwq p = [] ∧ (s.tx p).kind = .idle ∧ s.portUp p = true ∧ s.flag (pagePort p) R.PORT.PORT_STAT_LPI_TX = false ∧ s.isLane p = false ∧ (s.mac p).due = none ∧ s.inbandNext p = some l :=
  ⟨inb, 6, oct [1, 2, 3], by decide +kernel⟩

theorem wit_PortsServeAndSendFrames_3 : ∃ (s : State), ∃ (p : Nat), ∃ l, p < 48 ∧ (s.tx p).kind = .inband l ∧ (s.tx p).stomp = false :=
  ⟨inb.onTx 6 (fun t => { t with kind := .inband (oct [1, 2, 3]), octets := List.replicate 60 9#8 }), 6, oct [1, 2, 3], by decide +kernel⟩

theorem wit_PortsServeAndSendFrames_4 : ∃ (s m : State), ∃ (p : Nat), ∃ v, ∃ c, p < 48 ∧ m = s.touchPort p ∧ (m.tx p).kind ≠ .idle ∧ m.portUp p = true ∧ m.flag (pagePort p) R.PORT.PORT_STAT_LPI_TX = false ∧ (m.mac p).pick = none ∧ m.portVoqs p = [v] ∧ voqIngress v < 48 ∧ m.eligible v = true ∧ m.pathState (voqLeaf v) < 2 ∧ m.headOf v = some c ∧ c.leaf = voqLeaf v :=
  ⟨busyTx 0, (busyTx 0).touchPort 5, 5, voqOf 4 640, { frame := 7, leaf := 640 }, by decide +kernel⟩

theorem wit_PortsServeAndSendFrames_5 : ∃ (s m : State), ∃ (p : Nat), ∃ v, ∃ c, p < 48 ∧ m = s.touchPort p ∧ (m.tx p).kind = .idle ∧ m.portUp p = true ∧ m.flag (pagePort p) R.PORT.PORT_STAT_LPI_TX = false ∧ (m.mac p).due = none ∧ m.gwReady p = none ∧ m.inbandNext p = none ∧ (m.mac p).pick = some (v, c) ∧ m.headOf v = some c ∧ m.headOk c.frame p = true :=
  ⟨picked, picked.touchPort 5, 5, voqOf 4 640, { frame := 7, leaf := 640 }, by decide +kernel⟩

theorem wit_PortsServeAndSendFrames_6 : ∃ (s m : State), ∃ (p : Nat), ∃ v, ∃ c, p < 48 ∧ m = s.touchPort p ∧ (m.tx p).kind = .idle ∧ m.portUp p = true ∧ m.flag (pagePort p) R.PORT.PORT_STAT_LPI_TX = false ∧ (m.mac p).due = none ∧ m.gwReady p = none ∧ m.inbandNext p = none ∧ (m.mac p).pick = none ∧ m.portVoqs p = [v] ∧ voqIngress v < 48 ∧ m.eligible v = true ∧ m.pathState (voqLeaf v) < 2 ∧ m.headOf v = some c ∧ c.leaf = voqLeaf v :=
  ⟨oneCopy, oneCopy.touchPort 5, 5, voqOf 4 640, { frame := 7, leaf := 640 }, by decide +kernel⟩

theorem wit_PortsServeAndSendFrames_7 : ∃ (s : State), ∃ (p : Nat), ∃ v, ∃ c, p < 48 ∧ (s.tx p).kind = .copy v c ∧ (s.tx p).left = false ∧ (s.frame c.frame).complete = true ∧ (s.frame c.frame).bad = false ∧ (s.frame c.frame).refused = false ∧ (s.frame c.frame).hurt = none ∧ s.outgrown p c = none ∧ (s.tx p).orphan = false :=
  ⟨oneCopy.onTx 5 (fun t => { t with kind := .copy (voqOf 4 640) { frame := 7, leaf := 640 } }), 5, voqOf 4 640, { frame := 7, leaf := 640 }, by decide +kernel⟩

theorem wit_PortsServeAndSendFrames_8 : ∃ (s : State), ∃ (p : Nat), ∃ v, ∃ c, ∃ l, ∃ n, p < 48 ∧ (s.tx p).kind = .copy v c ∧ (s.tx p).left = false ∧ (s.frame c.frame).hurt = some (l, n) ∧ l < 32 :=
  ⟨(oneCopy.onTx 5 (fun t => { t with kind := .copy (voqOf 4 640) { frame := 7, leaf := 640 } })).onFrame 7 (fun f => { f with hurt := some (3, 10) }), 5, voqOf 4 640, { frame := 7, leaf := 640 }, 3, 10, by decide +kernel⟩

theorem wit_PortsServeAndSendFrames_9 : ∃ (s : State), ∃ (p : Nat), ∃ v, ∃ c, p < 48 ∧ (s.tx p).kind = .copy v c ∧ (s.tx p).left = true ∧ (s.tx p).stomp = false :=
  ⟨oneCopy.onTx 5 (fun t => { t with kind := .copy (voqOf 4 640) { frame := 7, leaf := 640 }, left := true, octets := body gwIn }), 5, voqOf 4 640, { frame := 7, leaf := 640 }, by decide +kernel⟩

theorem wit_PortsServeAndSendFrames_10 : ∃ (s : State), ∃ (p : Nat), ∃ v, ∃ c, ∃ i, p < 48 ∧ (s.tx p).kind = .copy v c ∧ (s.tx p).left = true ∧ (s.tx p).stomp = false ∧ s.isLane p = true ∧ i < 3 :=
  ⟨(nt 1 tkUp).onTx 4 (fun t => { t with kind := .copy 5 { frame := 7, leaf := 512 }, left := true, octets := body gwIn }) |>.onTrunk 1 (fun x => { x with turn := 2 }), 4, 5, { frame := 7, leaf := 512 }, 1, by decide +kernel⟩

theorem wit_PortsServeAndSendFrames_11 : ∃ (s : State), ∃ (ctx : Nat), ∃ (p : Nat), ∃ (tx : Bool), p < 48 ∧ s.reads ctx (pagePort p) :=
  ⟨on.onMac 5 (fun m => { m with rxOct := 0x123456789A }), 2, 5, false, by decide +kernel⟩

theorem wit_AddressesAreLearnedAndFlushed_1 : ∃ (s : State), ∃ (w : Nat), ∃ r, ∃ rs, w < 2 ∧ look [] s.crossing w = r :: rs ∧ learns (look [] s.learnq w) < 4096 :=
  ⟨{ on with crossing := [(0, [⟨5, 3, .learn 0x0200000000AA 1 true⟩])] }, 0, ⟨5, 3, .learn 0x0200000000AA 1 true⟩, [], by decide +kernel⟩

theorem wit_AddressesAreLearnedAndFlushed_2 : ∃ (s : State), ∃ (w : Nat), ∃ r, ∃ rs, ∃ addr, ∃ vid, ∃ cp, w < 2 ∧ s.pageOn (pagePipe w) ∧ look [] s.learnq w = r :: rs ∧ r.kind = .learn addr vid cp ∧ s.findKey w tMac (macKey addr vid 0) = none :=
  ⟨{ on with learnq := [(0, [⟨5, 3, .learn 0x0200000000AA 1 false⟩])] }, 0, ⟨5, 3, .learn 0x0200000000AA 1 false⟩, [], 0x0200000000AA, 1, false, by decide +kernel⟩

theorem wit_AddressesAreLearnedAndFlushed_3 : ∃ (s : State), ∃ (w : Nat), ∃ r, ∃ rs, ∃ addr, ∃ vid, ∃ cp, ∃ i, ∃ e, w < 2 ∧ look [] s.learnq w = r :: rs ∧ r.kind = .learn addr vid cp ∧ r.port < 48 ∧ s.findKey w tMac (macKey addr vid 0) = some i ∧ e = s.entry w tMac i ∧ 3 ≤ e.length ∧ bitAt (wordAt e 2) 16 = false ∧ bitAt (wordAt e 2) 18 = false ∧ bitAt (wordAt e 2) 19 = false ∧ bits (wordAt e 2) 0 6 ≠ r.port ∧ (look [] s.moves w).find? (fun m => m.1 == addr * 4096 + vid) = none :=
  ⟨{ fwd with learnq := [(0, [⟨5, 3, .learn 0x020000000009 1 false⟩])] }, 0, ⟨5, 3, .learn 0x020000000009 1 false⟩, [], 0x020000000009, 1, false, fwdAt, (macKey 0x020000000009 1 0).set 2 (6 + 2 ^ 17), by decide +kernel⟩

theorem wit_AddressesAreLearnedAndFlushed_4 : ∃ (s : State), ∃ (q : Request), s.accepts 0x2A q ∧ bits ((s.cmdOf 0x2A q).arg 0) 0 2 ≠ 0 :=
  ⟨on, req (pageMact 0) [3, 0xFFFF, 0xFFFF], by decide +kernel⟩

theorem wit_AddressesAreLearnedAndFlushed_5 : ∃ (s : State), ∃ (w : Nat), ∃ r, ∃ rs, ∃ c, ∃ n, ∃ port, ∃ vid, ∃ k, w < 2 ∧ look [] s.learnq w = r :: rs ∧ r.kind = .flush c n port vid ∧ s.cmds.find? (fun k => k.is c n) = some k :=
  ⟨{ fwd with learnq := [(0, [⟨5, 65, .flush 0 2 6 0xFFFF⟩])], cmds := [cmd 0x2A (pageMact 0) [1, 6, 0xFFFF]] }, 0, ⟨5, 65, .flush 0 2 6 0xFFFF⟩, [], 0, 2, 6, 0xFFFF, cmd 0x2A (pageMact 0) [1, 6, 0xFFFF], by decide +kernel⟩

theorem wit_TableWindowsAndCriticalEntries_1 : ∃ (s : State), ∃ ctx, ∃ w, ∃ o, ∃ i, w < 4 ∧ s.writes ctx (pageWin w) ∧ s.flag (pageWin w) R.TBL.TBL_STAT_BUSY = false ∧ (o, i) ∈ [(oRead, Instr.tblRead ctx w), (oWrite, .tblWrite ctx w), (oLookup, .tblLookup ctx w), (oInsert, .tblInsert ctx w),
      (oDelete, .tblDelete ctx w), (oClearHit, .clearHit ctx w)] :=
  ⟨on, 0, 2, oRead, .tblRead 0 2, by decide +kernel⟩

theorem wit_TableWindowsAndCriticalEntries_2 : ∃ (s : State), ∃ w, ∃ t, ∃ i, ∃ ws, w < 4 ∧ (if w < 2 then t = 1 ∨ t = 2 else 3 ≤ t ∧ t ≤ 7) ∧ i < tabSize t ∧ s.rd (pageWin w) R.TBL.TBL_SEL_TABLE = t ∧ look none s.winOps (pageWin w) = some ⟨oRead, t, i, ws, false⟩ :=
  ⟨{ (on.wr (pageWin 2) R.TBL.TBL_SEL_TABLE 3).setEntry 0 3 7 [1, 2, 3] with winOps := [(pageWin 2, some ⟨oRead, 3, 7, [], false⟩)] }, 2, 3, 7, [], by decide +kernel⟩

theorem wit_TableWindowsAndCriticalEntries_3 : ∃ (s : State), ∃ w, ∃ t, ∃ i, ∃ ws, 2 ≤ w ∧ w < 4 ∧ 3 ≤ t ∧ t ≤ 7 ∧ i < tabSize t ∧ look none s.winOps (pageWin w) = some ⟨oWrite, t, i, ws, false⟩ :=
  ⟨{ on with winOps := [(pageWin 2, some ⟨oWrite, 3, 7, [0x11, 2 ^ 31 + 5, 6], false⟩)] }, 2, 3, 7, [0x11, 2 ^ 31 + 5, 6], by decide +kernel⟩

theorem wit_TableWindowsAndCriticalEntries_4 : ∃ (s : State), ∃ w, ∃ i, ∃ ws, ∃ c, ∃ e, w < 2 ∧ look none s.winOps (pageMact w) = some ⟨oInsert, tMac, i, ws, true⟩ ∧ look [] s.learnq w = [⟨c, 64, .window oInsert i ws⟩] ∧ e = maskEntry tMac ws ∧ layoutOk tMac e = true ∧ entryCrit tMac e = false :=
  ⟨{ on with winOps := [(pageMact 0, some ⟨oInsert, tMac, 0, (macKey 0xAB 1 0).set 2 5, true⟩)], learnq := [(0, [⟨9, 64, .window oInsert 0 ((macKey 0xAB 1 0).set 2 5)⟩])] }, 0, 0, (macKey 0xAB 1 0).set 2 5, 9, (macKey 0xAB 1 0).set 2 5, by decide +kernel⟩

theorem wit_TableWindowsAndCriticalEntries_5 : ∃ (s : State), ∃ w, ∃ t, ∃ i, ∃ ws, w < 4 ∧ (if w < 2 then t = 1 ∨ t = 2 else 3 ≤ t ∧ t ≤ 5) ∧ i < tabSize t ∧ entryCrit t (s.entry (w % 2) t i) = false ∧ look none s.winOps (pageWin w) = some ⟨oRead, t, i, ws, false⟩ :=
  ⟨{ (on.wr (pageWin 2) R.TBL.TBL_SEL_TABLE 3).setEntry 0 3 7 [1, 2 ^ 31 + 2, 3] with winOps := [(pageWin 2, some ⟨oRead, 3, 7, [], false⟩)] }, 2, 3, 7, [], by decide +kernel⟩

theorem wit_TableWindowsAndCriticalEntries_6 : ∃ (s : State), ∃ w, ∃ i, ∃ ws, ∃ e, w < 2 ∧ look none s.winOps (pageMact w) = some ⟨oLookup, tMac, i, ws, false⟩ ∧ e = maskEntry tMac ws ∧ keyOk tMac e = true :=
  ⟨{ fwd with winOps := [(pageMact 0, some ⟨oLookup, tMac, 0, (macKey 0x020000000009 1 0).set 2 50, false⟩)] }, 0, 0, (macKey 0x020000000009 1 0).set 2 50, maskEntry 1 ((macKey 0x020000000009 1 0).set 2 50), by decide +kernel⟩

theorem wit_TableWindowsAndCriticalEntries_7 : ∃ (s : State), ∃ w, ∃ i, ∃ ws, ∃ c, ∃ e, ∃ j, w < 2 ∧ look none s.winOps (pageMact w) = some ⟨oDelete, tMac, i, ws, true⟩ ∧ look [] s.learnq w = [⟨c, 64, .window oDelete i ws⟩] ∧ e = maskEntry tMac ws ∧ keyOk tMac e = true ∧ s.findKey w tMac e = some j :=
  ⟨{ fwd with winOps := [(pageMact 0, some ⟨oDelete, tMac, 0, macKey 0x020000000009 1 0, true⟩)], learnq := [(0, [⟨9, 64, .window oDelete 0 (macKey 0x020000000009 1 0)⟩])] }, 0, 0, macKey 0x020000000009 1 0, 9, macKey 0x020000000009 1 0, fwdAt, by decide +kernel⟩

theorem wit_TableWindowsAndCriticalEntries_8 : ∃ (s : State), ∃ (ctx : Nat), ∃ (w : Nat), ∃ (v : Nat), w < 2 ∧ v < 2 ^ 32 ∧ s.writes ctx (pageMact w) :=
  ⟨on, 0, 0, 0x1234, by decide +kernel⟩

theorem wit_TableWindowsAndCriticalEntries_9 : ∃ (s : State), ∃ (ctx : Nat), ∃ (w : Nat), ∃ l, ∃ (v : Nat), w < 2 ∧ 1 ≤ l ∧ l ≤ 32 ∧ v < 2 ^ 32 ∧ s.writes ctx (pageLpm w) ∧ s.allows (pageLpm w) (0x100 + 4 * l) v :=
  ⟨on, 0, 0, 24, 64 + 4 * 4096 + 2 ^ 16, by decide +kernel⟩

theorem wit_TableWindowsAndCriticalEntries_10 : ∃ (s : State), ∃ (q : Request), ∃ k, ∃ t, ∃ w, ∃ e, s.accepts 0x28 q ∧ k = s.cmdOf 0x28 q ∧ t = bits (k.arg 0) 0 4 ∧ w = bits (k.arg 0) 8 1 ∧ (t = tGroup ∨ t = tNh) ∧ e = maskEntry t [k.arg 2, k.arg 3, k.arg 4, k.arg 5] :=
  ⟨on, req (pageShadow) [2, 9, 0x60, 0, 0, 2 ^ 31 + 2 ^ 19], on.cmdOf 0x28 (req (pageShadow) [2, 9, 0x60, 0, 0, 2 ^ 31 + 2 ^ 19]), 2, 0, maskEntry 2 [0x60, 0, 0, 2 ^ 31 + 2 ^ 19], by decide +kernel⟩

theorem wit_TableWindowsAndCriticalEntries_11 : ∃ (s : State), ∃ (q : Request), ∃ k, ∃ w, ∃ e, s.phase ≠ .reset ∧ k = s.cmdOf 0x28 q ∧ (s.fly k).judgeCmd { k with args := [k.arg 0, k.arg 1, 0, 0, 0, 2 ^ 31 + 2 ^ 19] } 0 0 = none ∧ bits (k.arg 0) 0 4 = tGroup ∧ w = bits (k.arg 0) 8 1 ∧ e = maskEntry tGroup [k.arg 2, k.arg 3, k.arg 4, k.arg 5] ∧ entryValid tGroup e = false ∧ entryCrit tGroup e = false ∧ entryCrit tGroup (s.entry w tGroup (k.arg 1)) = false :=
  ⟨fwd, req (pageShadow) [2, 9, 0x60, 0, 0, 0], fwd.cmdOf 0x28 (req (pageShadow) [2, 9, 0x60, 0, 0, 0]), 0, maskEntry 2 [0x60, 0, 0, 0], by decide +kernel⟩

theorem wit_TableWindowsAndCriticalEntries_12 : ∃ (s : State), ∃ n, ∃ ns, ∃ x, s.pageOn pageShadow ∧ s.flag pageShadow R.SHADOW.SHADOW_CTL_EN = true ∧ s.slotFirst = n :: ns ∧ look noShadow s.shadows n = x :=
  ⟨{ on with slotFirst := [3, 5], shadows := [(3, ⟨0, 2, 9, [1, 2, 3, 2 ^ 31 + 2 ^ 19]⟩)] }, 3, [5], ⟨0, 2, 9, [1, 2, 3, 2 ^ 31 + 2 ^ 19]⟩, by decide +kernel⟩

theorem wit_TableWindowsAndCriticalEntries_13 : ∃ (s : State), ∃ n, ∃ ns, ∃ (bad : Bool), s.pageOn pageShadow ∧ s.flag pageShadow R.SHADOW.SHADOW_CTL_EN = true ∧ s.slotFirst = n :: ns :=
  ⟨{ on with slotFirst := [3], shadows := [(3, ⟨0, 2, 9, [1, 2, 3, 2 ^ 31 + 2 ^ 19]⟩)] }, 3, [], true, by decide +kernel⟩

theorem wit_TableWindowsAndCriticalEntries_14 : ∃ (s : State), ∃ (q : Request), ∃ k, ∃ l, s.accepts 0x29 q ∧ k = s.cmdOf 0x29 q ∧ l = s.fenced (bits (k.arg 0) 0 2) :=
  ⟨on, req (pagePipe 0) [1], on.cmdOf 0x29 (req (pagePipe 0) [1]), [], by decide +kernel⟩

theorem wit_TableWindowsAndCriticalEntries_15 : ∃ (s : State), ∃ k, s.fences = [⟨k.ctx, k.count, []⟩] ∧ k.ctx < 4 ∧ s.handleLive k.ctx k.handle = true ∧ s.cmds.find? (fun j => j.is k.ctx k.count) = some k :=
  ⟨{ on with fences := [⟨0, 2, []⟩], cmds := [cmd 0x29 (pagePipe 0) [1]], slots := [(2, ⟨0, 0xFF⟩)] }, cmd 0x29 (pagePipe 0) [1], by decide +kernel⟩

theorem wit_QueuesBanksAndShapersAreManaged_1 : ∃ (s : State), ∃ (q : Request), s.accepts 0x2B q ∧ s.walk = none :=
  ⟨oneCopy, req pageWhey [1], by decide +kernel⟩

theorem wit_QueuesBanksAndShapersAreManaged_2 : ∃ (s : State), s.rd pageWhey R.WHEY.WHEY_CTL_PERIOD ≠ 0 :=
  ⟨oneCopy.wr pageWhey R.WHEY.WHEY_CTL_PERIOD 5, by decide +kernel⟩

theorem wit_QueuesBanksAndShapersAreManaged_3 : ∃ (s : State), ∃ w, s.pageOn pageWhey ∧ s.walk = some w ∧ s.findOp 0x2B = none :=
  ⟨{ oneCopy.setFrame 7 { lineFrame with cells := [3] } with walk := some ⟨[3, 4], [7], 2, true, false⟩, cells := [(3, 4), (4, 4)], lostCopies := 3 }, ⟨[3, 4], [7], 2, true, false⟩, by decide +kernel⟩

theorem wit_QueuesBanksAndShapersAreManaged_4 : ∃ (s : State), ∃ (src : Nat), ∃ i, (List.range 16).find? (fun i => (s.swapRec i).kind == 0 && (s.swapRec i).state == 3 && (s.swapRec i).slice == src) = some i ∧ s.flag pageCave R.CAVE.CAVE_CTL_EN = true ∧ s.swapWait = [] ∧ src < 36 ∧ (s.swapRec i).spare < 36 ∧ (s.swapRec i).spare ≠ src ∧ s.pageOn (pageVB (s.swapRec i).spare) :=
  ⟨{ on with swaps := put {} [] 2 { number := 3, state := 3, kind := 0, page := pageVB 5, slice := 5, spare := 32 } }, 5, 2, by decide +kernel⟩

theorem wit_QueuesBanksAndShapersAreManaged_5 : ∃ (s : State), ∃ (ctx : Nat), ∃ (v : Nat), v < 294912 ∧ s.writes ctx pageVoq :=
  ⟨oneCopy, 0, voqOf 4 640, by decide +kernel⟩

theorem wit_QueuesBanksAndShapersAreManaged_6 : ∃ (s : State), ∃ (ctx : Nat), ∃ n, s.writes ctx pageShape ∧ s.rd pageShape R.SHAPE.SHP_SEL = n :=
  ⟨on.wr pageShape R.SHAPE.SHP_SEL 100 |>.wr pageShape R.SHAPE.SHP_CIR 5000, 0, 100, by decide +kernel⟩

theorem wit_QueuesBanksAndShapersAreManaged_7 : ∃ (s : State), ∃ (ctx : Nat), ∃ (v : Nat), ∃ i, s.writes ctx pageShape ∧ s.up < s.shpUntil ∧ i < 6 :=
  ⟨{ on with shpUntil := on.up + 50 }, 0, 99, 1, by decide +kernel⟩

theorem wit_QueuesBanksAndShapersAreManaged_8 : ∃ (s : State), ∃ (ctx : Nat), ∃ n, s.writes ctx pageShape ∧ s.rd pageShape R.SHAPE.SHP_SEL = n ∧ n ≤ 6575 ∧ s.heldShapes.length < 64 :=
  ⟨on.wr pageShape R.SHAPE.SHP_SEL 100 |>.wr pageShape R.SHAPE.SHP_CIR 5000, 0, 100, by decide +kernel⟩

theorem wit_QueuesBanksAndShapersAreManaged_9 : ∃ (s : State), ∃ (ctx : Nat), ∃ n, s.writes ctx pageShape ∧ s.rd pageShape R.SHAPE.SHP_SEL = n :=
  ⟨on.wr pageShape R.SHAPE.SHP_SEL 100 |>.onNode 100 (fun x => { x with cfg := { cir := 55, pir := 66, quantum := 77 } }), 0, 100, by decide +kernel⟩

theorem wit_GatesAndSamplingFollowTheirLists_1 : ∃ (s : State), ∃ (ctx : Nat), ∃ p, ∃ i, s.writes ctx pageGate ∧ s.rd pageGate R.GATE.GATE_SEL_PORT = p ∧ s.rd pageGate R.GATE.GATE_SEL_ENTRY = i ∧ (s.gate p).inst = none :=
  ⟨on.wr pageGate R.GATE.GATE_SEL_PORT 5 |>.wr pageGate R.GATE.GATE_SEL_LIST 1 |>.wr pageGate R.GATE.GATE_SEL_ENTRY 3 |>.wr pageGate R.GATE.GATE_D1 100, 0, 5, 3, by decide +kernel⟩

theorem wit_GatesAndSamplingFollowTheirLists_2 : ∃ (s : State), ∃ (ctx : Nat), s.writes ctx pageGate :=
  ⟨(on.wr pageGate R.GATE.GATE_SEL_PORT 5 |>.wr pageGate R.GATE.GATE_SEL_LIST 1 |>.wr pageGate R.GATE.GATE_SEL_ENTRY 3).onGate 5 (fun g => { g with pend := { entries := put (0, 0) [] 3 (7, 100) } }), 0, by decide +kernel⟩

theorem wit_GatesAndSamplingFollowTheirLists_3 : ∃ (s : State), ∃ (q : Request), ∃ p, s.accepts 0x30 q ∧ (s.cmdOf 0x30 q).arg 0 = p ∧ s.rdI pageGate R.GATE.GATE_CTL_STRICT p = 0 ∧ 0 < s.hoop :=
  ⟨on.wrI pageGate R.GATE.GATE_PEND_LEN 5 2 |>.wrI pageGate R.GATE.GATE_PEND_CYCLE_CYCLE 5 5000, req pageGate [5], 5, by decide +kernel⟩

theorem wit_GatesAndSamplingFollowTheirLists_4 : ∃ (s : State), ∃ (p : Nat), ∃ i, ∃ k, p < 48 ∧ s.pageOn pageGate ∧ (s.gate p).inst = some i ∧ s.findCmd 0x30 p = some k ∧ k.ctx < 4 ∧ s.handleLive k.ctx k.handle = true :=
  ⟨{ on.onGate 5 (fun g => { g with pend := { entries := put (0, 0) [] 0 (255, 5000), len := 1, cycle := 5000 }, inst := some ⟨5000, 1⟩ }) with cmds := [cmd 0x30 pageGate [5]], slots := [(2, ⟨0, 0xFF⟩)] }, 5, ⟨5000, 1⟩, cmd 0x30 pageGate [5], by decide +kernel⟩

theorem wit_GatesAndSamplingFollowTheirLists_5 : ∃ (s : State), ∃ (p : Nat), ∃ b, p < 48 ∧ s.nextBoundary p = some b ∧ s.active < 2 ∧ (s.tcu s.active).clk = true ∧ s.now ≤ b ∧ b < counterMod :=
  ⟨(on.onGate 5 (fun g => { g with active := { entries := put (0, 0) (put (0, 0) [] 0 (255, 2000)) 1 (3, 3000), len := 2, cycle := 5000 }, valid := true })).wrI pageGate R.GATE.GATE_CTL_EN 5 1, 5, 2000, by decide +kernel⟩

theorem wit_GatesAndSamplingFollowTheirLists_6 : ∃ (s : State), ∃ ws, s.flag pageSample R.SAMPLE.SMP_CTL_EN = true ∧ s.smpUntil ≤ s.core ∧ s.smpRun = none ∧ ws = (s.watch.map (fun e => e.2)).filter (fun w => bitAt w 31) ∧ s.samples.length + 1 + ws.length ≤ 8192 :=
  ⟨{ on.wr pageSample R.SAMPLE.SMP_CTL_EN 1 with watch := put 0 (put 0 [] 3 (2 ^ 31 + 5)) 4 7 }, [2 ^ 31 + 5], by decide +kernel⟩

theorem wit_GatesAndSamplingFollowTheirLists_7 : ∃ (s : State), ∃ w, s.rd pageWhey R.WHEY.WHEY_CTL_PERIOD ≠ 0 ∧ s.smpRun = some w ∧ w.todo ≠ [] ∧ s.core ≤ w.next :=
  ⟨{ on.wr pageWhey R.WHEY.WHEY_CTL_PERIOD 5 with smpRun := some ⟨7, [2 ^ 31 + 5, 2 ^ 31 + 6, 2 ^ 31 + 7], on.core⟩, wheyDue := on.up }, ⟨7, [2 ^ 31 + 5, 2 ^ 31 + 6, 2 ^ 31 + 7], on.core⟩, by decide +kernel⟩

theorem wit_GatesAndSamplingFollowTheirLists_8 : ∃ (s : State), ∃ (ctx : Nat), s.reads ctx pageSample :=
  ⟨{ on with samples := [[1, 2, 3, 4], [5, 6, 7, 8]] }, 0, by decide +kernel⟩

theorem wit_GatesAndSamplingFollowTheirLists_9 : ∃ (s : State), ∃ (ctx : Nat), s.reads ctx pageSample :=
  ⟨{ on with samples := [[1, 2, 3, 4], [5, 6, 7, 8]] }, 0, by decide +kernel⟩

theorem wit_PauseAndHostFramesAreHandled_1 : ∃ (s : State), ∃ (p : Nat), ∃ (q : Nat), p < 48 ∧ s.isLane p = false ∧ s.portUp p = true ∧ q < 65536 :=
  ⟨on.setLink 5 lkUp |>.wr (pagePort 5) R.PORT.MAC_PAUSE_STAT_RX_RES 1, 5, 100, by decide +kernel⟩

theorem wit_PauseAndHostFramesAreHandled_2 : ∃ (s : State), ∃ (p : Nat), p < 48 ∧ s.flag (pagePort p) R.PORT.MAC_PAUSE_STAT_PAUSED = true :=
  ⟨on.wr (pagePort 5) R.PORT.MAC_PAUSE_STAT_PAUSED 1, 5, by decide +kernel⟩

theorem wit_PauseAndHostFramesAreHandled_3 : ∃ (s : State), ∃ (p : Nat), p < 48 ∧ s.isLane p = false ∧ s.flag (pagePort p) R.PORT.MAC_PAUSE_STAT_XOFF = true ∧ s.flag (pagePort p) R.PORT.MAC_PAUSE_STAT_TX_RES = true ∧ (s.mac p).due = none :=
  ⟨on.wr (pagePort 5) R.PORT.MAC_PAUSE_STAT_XOFF 1 |>.wr (pagePort 5) R.PORT.MAC_PAUSE_STAT_TX_RES 1, 5, by decide +kernel⟩

theorem wit_PauseAndHostFramesAreHandled_4 : ∃ (s : State), ∃ (c : Nat), ∃ (v : Nat), c < 4 ∧ v < 2 ^ 32 ∧ s.writes c (pageHC c) :=
  ⟨on, 1, 5, by decide +kernel⟩

theorem wit_PauseAndHostFramesAreHandled_5 : ∃ (s : State), ∃ (c : Nat), ∃ (v : Nat), c < 4 ∧ v < 2 ^ 32 ∧ s.writes c (pageHC c) :=
  ⟨on, 1, 5, by decide +kernel⟩

theorem wit_PauseAndHostFramesAreHandled_6 : ∃ (s : State), ∃ (c : Nat), ∃ (ds : List (List Nat)), ∃ (l : Option (List Byte)), ∃ (f : Nat), c < 4 ∧ s.flag (pageHC c) R.HC.PKT_CTL_TX_EN = true ∧ s.attached c = true ∧ s.kind c = kPcie ∧ descsOk ds = true ∧ ds.length ≤ (s.rd (pageHC c) R.HC.TXR_PROD + 2 ^ 32 - s.rd (pageHC c) R.HC.TXR_CONS) % 2 ^ 32 :=
  ⟨on.wr (pageHC 0) R.HC.PKT_CTL_TX_EN 1 |>.wr (pageHC 0) R.HC.TXR_PROD 2, 0, [[0, 0, 100, 0], [0, 0, 0x10064, 0]], none, 9, by decide +kernel⟩

theorem wit_PauseAndHostFramesAreHandled_7 : ∃ (s : State), ∃ (c : Nat), ∃ q, ∃ qs, ∃ d, ∃ (f : Nat), ∃ g, c < 4 ∧ s.flag (pageHC c) R.HC.PKT_CTL_TX_EN = true ∧ s.attached c = true ∧ s.kind c ≠ kPcie ∧ (s.host c).txq = q :: qs ∧ d = txDesc (q.1.getD 2 0) (q.1.getD 3 0) ∧ d.direct = false ∧ d.tso = false ∧ d.csum = false ∧ d.ptp = false ∧ d.port < 48 ∧ 60 ≤ q.2.length ∧ g = s.freeRecord f :=
  ⟨(on.wr (pageHC 2) R.HC.PKT_CTL_TX_EN 1 |>.setLink 6 lkUp).onHost 2 (fun h => { h with txq := [([0, 0, 60, 6], body gwIn)] }), 2, ([0, 0, 60, 6], body gwIn), [], txDesc 60 6, 9, 9, by decide +kernel⟩

theorem wit_PauseAndHostFramesAreHandled_8 : ∃ (s : State), ∃ (c : Nat), ∃ k, ∃ ks, ∃ x, ∃ ws, c < 4 ∧ s.kind c = kSpi ∧ s.attached c = true ∧ s.flag (pageHC c) R.HC.PKT_CTL_RX_EN = true ∧ (s.host c).rxq = k :: ks ∧ s.frame k.frame = x ∧ x.complete = true ∧ x.bad = false ∧ x.refused = false ∧ x.hurt = none ∧ ws = 0#32 :: 0#32 :: (rxWords k x (k.rec_ ++ body x.octets).length true).map (BitVec.ofNat 32) ++ wordsOf (k.rec_ ++ body x.octets) :=
  ⟨((on.wr (pageHC 2) R.HC.PKT_CTL_RX_EN 1).setFrame 7 lineFrame).onHost 2 (fun h => { h with rxq := [⟨7, false, 1, oct [1, 2, 3, 4]⟩] }), 2, ⟨7, false, 1, oct [1, 2, 3, 4]⟩, [], lineFrame, 0#32 :: 0#32 :: (rxWords ⟨7, false, 1, oct [1, 2, 3, 4]⟩ lineFrame 64 true).map (BitVec.ofNat 32) ++ wordsOf (oct [1, 2, 3, 4] ++ body gwIn), by decide +kernel⟩

theorem wit_PauseAndHostFramesAreHandled_9 : ∃ (s : State), ∃ (c : Nat), ∃ w, ∃ ws, ∃ fs, c < 4 ∧ s.reads c (pageHC c) ∧ (s.host c).rxf = (w :: ws) :: fs :=
  ⟨on.onHost 2 (fun h => { h with rxf := [[5#32, 6#32], [7#32]] }), 2, 5#32, [6#32], [[7#32]], by decide +kernel⟩

theorem wit_PauseAndHostFramesAreHandled_10 : ∃ (s : State), ∃ (c : Nat), ∃ (v : Nat), ∃ ws, ∃ len, c < 4 ∧ v < 2 ^ 32 ∧ s.writes c (pageHC c) ∧ s.kind c = kSpi ∧ ws = (s.host c).txf ++ [BitVec.ofNat 32 (if (s.host c).txf = [] then s.txfSpace c else v)] ∧ len = bits ((ws.getD 2 0#32).toNat) 0 16 :=
  ⟨on.onHost 2 (fun h => { h with txf := [1#32, 2#32, 8#32, 6#32, 9#32] }), 2, 77, [1#32, 2#32, 8#32, 6#32, 9#32, 77#32], 8, by decide +kernel⟩

theorem wit_PauseAndHostFramesAreHandled_11 : ∃ (s : State), ∃ (port : Nat), ∃ (sa : Nat), ∃ (l : List Byte), s.kind 3 = kInband :=
  ⟨{ on with straps := { hcMap := 2 } }, 0, 0, oct ([1, 0, 5, 0, 1, 0, 0, 0, 2, 0, 0, 0, 60, 0, 0, 0, 6, 0, 0, 0] ++ List.replicate 64 9), by decide +kernel⟩

theorem wit_TasksLoadStartAndStop_1 : ∃ (s : State), ∃ (q : Request), ∃ k, ∃ e, s.accepts 0x38 q ∧ k = s.cmdOf 0x38 q ∧ k.arg 0 = e :=
  ⟨on, req (pageEng 2) [2, 0, 0, 356], on.cmdOf 0x38 (req (pageEng 2) [2, 0, 0, 356]), 2, by decide +kernel⟩

theorem wit_TasksLoadStartAndStop_2 : ∃ (s : State), ∃ (e : Nat), ∃ (image : List Byte), ∃ (signed : Bool), ∃ k, ∃ l, e < 8 ∧ s.findCmd 0x38 e = some k ∧ k.ctx < 4 ∧ s.handleLive k.ctx k.handle = true ∧ l = s.loadSource k image ∧ s.pageOn (pageEng e) :=
  ⟨{ on with slots := [(2, ⟨0, 0xFF⟩)], cmds := [cmd 0x38 (pageEng 2) [2, 0, 0, 356]] }, 2, engImage, true, cmd 0x38 (pageEng 2) [2, 0, 0, 356], engImage, by decide +kernel⟩

theorem wit_TasksLoadStartAndStop_3 : ∃ (s : State), ∃ (q : Request), ∃ k, ∃ e, ∃ t, s.accepts 0x39 q ∧ k = s.cmdOf 0x39 q ∧ k.arg 0 = e ∧ k.arg 1 = t :=
  ⟨(on.setTask 2 0 tkLoaded), req (pageEng 2) [2, 0], on.cmdOf 0x39 (req (pageEng 2) [2, 0]), 2, 0, by decide +kernel⟩

theorem wit_TasksLoadStartAndStop_4 : ∃ (s : State), ∃ (q : Request), ∃ k, ∃ e, ∃ t, s.accepts 0x3A q ∧ k = s.cmdOf 0x3A q ∧ k.arg 0 = e ∧ k.arg 1 = t ∧ (s.taskState e t = tkWaiting ∨ s.taskState e t = tkRunnable ∨ s.taskState e t = tkRunning) :=
  ⟨((on.setTask 2 0 tkWaiting).setInbox 2 0 [⟨1, 2, 3, 4, [5#32]⟩]), req (pageEng 2) [2, 0, 0, 1000], on.cmdOf 0x3A (req (pageEng 2) [2, 0, 0, 1000]), 2, 0, by decide +kernel⟩

theorem wit_TasksLoadStartAndStop_5 : ∃ (s : State), ∃ (q : Request), ∃ k, ∃ e, ∃ t, s.accepts 0x3A q ∧ k = s.cmdOf 0x3A q ∧ k.arg 0 = e ∧ k.arg 1 = t ∧ (s.taskState e t = tkFaulted ∨ s.taskState e t = tkLoaded ∨ s.taskState e t = tkEmpty) :=
  ⟨((on.setTask 2 0 tkFaulted).setInbox 2 0 [⟨1, 2, 3, 4, [5#32]⟩]), req (pageEng 2) [2, 0, 1], on.cmdOf 0x3A (req (pageEng 2) [2, 0, 1]), 2, 0, by decide +kernel⟩

theorem wit_TasksLoadStartAndStop_6 : ∃ (s : State), ∃ (e : Nat), ∃ (t : Nat), ∃ (limit : Bool), ∃ k, e < 8 ∧ t < 16 ∧ s.cmds.find? (fun k => k.op == 0x3A && k.started && k.arg 0 == e && k.arg 1 == t) = some k ∧ k.ctx < 4 ∧ s.handleLive k.ctx k.handle = true ∧ s.taskState e t = tkStopping ∧ (limit = true ∨ s.inbox e t = []) :=
  ⟨{ (on.setTask 2 0 tkStopping).setInbox 2 0 [⟨1, 2, 3, 4, [5#32]⟩] with slots := [(2, ⟨0, 0xFF⟩)], cmds := [cmd 0x3A (pageEng 2) [2, 0, 0, 9]] }, 2, 0, true, cmd 0x3A (pageEng 2) [2, 0, 0, 9], by decide +kernel⟩

theorem wit_EnginesRunTheirTasksAndWindows_1 : ∃ (s : State), ∃ (e : Nat), ∃ t, e < 8 ∧ s.phase ≠ .reset ∧ s.phase ≠ .oscWait ∧ s.running e = none ∧ s.pickTask e = some t :=
  ⟨(on.setTask 2 3 tkRunnable), 2, 3, by decide +kernel⟩

theorem wit_EnginesRunTheirTasksAndWindows_2 : ∃ (s : State), ∃ (e : Nat), e < 8 ∧ (s.phase = .reset ∨ s.phase = .oscWait) :=
  ⟨{ on.setTask 2 3 tkRunnable with phase := .oscWait }, 2, by decide +kernel⟩

theorem wit_EnginesRunTheirTasksAndWindows_3 : ∃ (s : State), ∃ e, ∃ t, ∃ taken, ∃ i, e < 8 ∧ t < 16 ∧ s.running e = some t ∧ s.taskState e t = tkRunning ∧ i ∈ [Instr.taskSliceEnd e taken [], .taskYield e taken []] :=
  ⟨((on.setTask 2 3 tkRunning).wr (pageEng 2) R.ENGE.ENG_E_STAT_RUNNING 1 |>.wr (pageEng 2) R.ENGE.ENG_E_STAT_TASK 3).setInbox 2 3 [⟨1, 2, 3, 4, [5#32]⟩], 2, 3, 1, .taskYield 2 1 [], by decide +kernel⟩

theorem wit_EnginesRunTheirTasksAndWindows_4 : ∃ (s : State), ∃ (e : Nat), ∃ t, ∃ (timer : Bool), e < 8 ∧ t < 16 ∧ s.running e = some t ∧ s.taskState e t = tkRunning :=
  ⟨((on.setTask 2 3 tkRunning).wr (pageEng 2) R.ENGE.ENG_E_STAT_RUNNING 1 |>.wr (pageEng 2) R.ENGE.ENG_E_STAT_TASK 3).setInbox 2 3 [⟨1, 2, 3, 4, [5#32]⟩], 2, 3, true, by decide +kernel⟩

theorem wit_EnginesRunTheirTasksAndWindows_5 : ∃ (s : State), ∃ (e : Nat), ∃ (t : Nat), e < 8 ∧ t < 16 ∧ s.taskState e t = tkWaiting ∧ bitAt (s.eng e).timers t = true :=
  ⟨(on.setTask 2 3 tkWaiting).onEng 2 (fun g => { g with timers := 8 }), 2, 3, by decide +kernel⟩

theorem wit_EnginesRunTheirTasksAndWindows_6 : ∃ (s : State), ∃ (e : Nat), ∃ t, ∃ code, ∃ region, e < 8 ∧ t < 16 ∧ 1 ≤ code ∧ code ≤ 3 ∧ region < 16 ∧ (code = 2 → bitAt (s.rdI pageEngc R.ENG.ENG_SH_MASK e) region = false) ∧ s.running e = some t ∧ s.taskState e t = tkRunning ∧ s.pageOn (pageEng e) :=
  ⟨((on.setTask 2 3 tkRunning).wr (pageEng 2) R.ENGE.ENG_E_STAT_RUNNING 1 |>.wr (pageEng 2) R.ENGE.ENG_E_STAT_TASK 3 |>.wrI pageEngc R.ENG.ENG_SH_MASK 2 16), 2, 3, 2, 5, by decide +kernel⟩

theorem wit_EnginesRunTheirTasksAndWindows_7 : ∃ (s : State), ∃ (e : Nat), ∃ t, ∃ (code : Nat), e < 8 ∧ t < 16 ∧ s.running e = some t ∧ (s.taskState e t ≠ tkRunning ∨ code % 16 = 0 ∨ 3 < code % 16 ∨
      (code % 16 = 2 ∧ bitAt (s.rdI pageEngc R.ENG.ENG_SH_MASK e) (code / 16 % 16) = true)) :=
  ⟨((on.setTask 2 3 tkStopping).wr (pageEng 2) R.ENGE.ENG_E_STAT_RUNNING 1 |>.wr (pageEng 2) R.ENGE.ENG_E_STAT_TASK 3), 2, 3, 1, by decide +kernel⟩

theorem wit_EnginesRunTheirTasksAndWindows_8 : ∃ (s : State), ∃ (e : Nat), ∃ (t : Nat), ∃ (src : Nat), ∃ (m : Mail), ∃ x, e < 8 ∧ t < 16 ∧ s.pageOn (pageEng e) ∧ x = (⟨src, m.typ, m.tag, m.len, m.payload⟩ : Msg) :=
  ⟨((on.setTask 2 3 tkWaiting).wrI (pageEng 2) R.ENGE.TASK_DESC (4 * 3 + 1) 0x08000800).onEng 2 (fun g => { g with opened := 8 }), 2, 3, 5, ⟨1, 7, 4, [5#32]⟩, ⟨5, 1, 7, 4, [5#32]⟩, by decide +kernel⟩

theorem wit_EnginesRunTheirTasksAndWindows_9 : ∃ (s : State), ∃ (ctx : Nat), ∃ (e : Nat), ∃ h, ∃ need, ∃ t, ∃ x, e < 8 ∧ s.writes ctx (pageEng e) ∧ h = s.rd (pageEng e) R.ENGE.MBX_HDR ∧ need = (bits h 0 12 + 3) / 4 ∧ t = s.rd (pageEng e) R.ENGE.MBX_SEL ∧ x = (⟨ctx, bits h 24 8, s.rd (pageEng e) R.ENGE.MBX_TAG, bits h 0 12, (s.eng e).staged.take need⟩ : Msg) :=
  ⟨(((on.setTask 2 3 tkWaiting).wrI (pageEng 2) R.ENGE.TASK_DESC (4 * 3 + 1) 0x08000800).wr (pageEng 2) R.ENGE.MBX_HDR (4 + 7 * 2 ^ 24) |>.wr (pageEng 2) R.ENGE.MBX_SEL 3).onEng 2 (fun g => { g with opened := 8, staged := [5#32] }), 0, 2, 4 + 7 * 2 ^ 24, 1, 3, ⟨0, 7, 0, 4, [5#32]⟩, by decide +kernel⟩

theorem wit_EnginesRunTheirTasksAndWindows_10 : ∃ (s : State), ∃ (ctx : Nat), ∃ (e : Nat), e < 8 ∧ s.writes ctx (pageEng e) :=
  ⟨on.onEng 2 (fun g => { g with staged := [5#32] }), 0, 2, by decide +kernel⟩

theorem wit_EnginesRunTheirTasksAndWindows_11 : ∃ (s : State), ∃ (ctx : Nat), ∃ (e : Nat), ∃ (v : Nat), e < 8 ∧ v < 2 ^ 32 ∧ s.writes ctx (pageEng e) ∧ (s.eng e).staged.length < 510 :=
  ⟨on.onEng 2 (fun g => { g with staged := [5#32] }), 0, 2, 9, by decide +kernel⟩

theorem wit_EnginesRunTheirTasksAndWindows_12 : ∃ (s : State), ∃ (ctx : Nat), ∃ (e : Nat), e < 8 ∧ s.writes ctx (pageEng e) :=
  ⟨on.onEng 2 (fun g => { g with outq := [(3, ⟨1, 2, 3, 4, [5#32]⟩), (4, ⟨1, 2, 3, 4, [5#32]⟩)], outIdx := 1 }), 0, 2, by decide +kernel⟩

theorem wit_EnginesRunTheirTasksAndWindows_13 : ∃ (s : State), ∃ (ctx : Nat), ∃ (e : Nat), ∃ x, ∃ xs, e < 8 ∧ s.reads ctx (pageEng e) ∧ (s.eng e).outq = x :: xs :=
  ⟨on.onEng 2 (fun g => { g with outq := [(3, ⟨1, 2, 3, 8, [5#32, 6#32]⟩), (4, ⟨1, 2, 3, 4, [5#32]⟩)], outIdx := 1 }), 0, 2, (3, ⟨1, 2, 3, 8, [5#32, 6#32]⟩), [(4, ⟨1, 2, 3, 4, [5#32]⟩)], by decide +kernel⟩

theorem wit_EnginesRunTheirTasksAndWindows_14 : ∃ (s : State), ∃ (ctx : Nat), ∃ (v : Nat), v < 2 ^ 32 ∧ s.writes ctx pageEshared :=
  ⟨(on.wr pageEshared R.ESHARED.SH_ADDR (2 ^ 18 - 1)), 0, 9, by decide +kernel⟩

theorem wit_EnginesRunTheirTasksAndWindows_15 : ∃ (s : State), ∃ (ctx : Nat), ∃ (v : Nat), s.reads ctx pageEshared :=
  ⟨{ (on.wr pageEshared R.ESHARED.SH_ADDR 77) with shmem := [(77, 5#32)] }, 1, 0, by decide +kernel⟩

theorem wit_EnginesRunTheirTasksAndWindows_16 : ∃ (s : State), ∃ (e : Nat), ∃ i, e < 8 ∧ s.engSwap e = some i ∧ s.running e = none ∧ s.flag pageCave R.CAVE.CAVE_CTL_EN = true ∧ s.swapWait = [] :=
  ⟨{ (on.wr pageCave R.CAVE.CAVE_CTL_EN 1) with swaps := [(1, { number := 3, state := 3, kind := 3, page := pageEngc, slice := 2 })] }, 2, 1, by decide +kernel⟩

theorem wit_EnginesRunTheirTasksAndWindows_17 : ∃ (s : State), ∃ (e : Nat), ∃ (passed : Bool), e < 8 ∧ s.isOn 5 = true ∧ s.flag pageCave R.CAVE.CAVE_CTL_EN = true :=
  ⟨(on.wr pageCave R.CAVE.CAVE_CTL_EN 1), 2, false, by decide +kernel⟩

theorem wit_CountersCountAndAreRead_1 : ∃ (s : State), ∃ (n : Nat), ∃ (inc : Nat), ∃ (addr : Nat), ∃ (task : Nat), ∃ x, ∃ b, n < 64 ∧ inc < 2 ^ 48 ∧ s.perfOn n = true ∧ x = (s.perf n).count + s.perfDue n + (if s.flag (pagePerf n) R.PERFC.PC_CTL_MODE then inc else min inc 1) ∧ b = (if s.flag (pagePerf n) R.PERFC.PC_CTL_RELOAD_EN then s.rdWide (pagePerf n) R.PERFC.PC_RELOAD_HI R.PERFC.PC_RELOAD_LO else 0) :=
  ⟨(perfed 3).onPerf 3 (fun x => { x with count := 2 ^ 48 - 1 }), 3, 7, 0, 0, 2 ^ 48 - 1 + 1, 5, by decide +kernel⟩

theorem wit_CountersCountAndAreRead_2 : ∃ (s : State), ∃ (n : Nat), ∃ (inc : Nat), ∃ (addr : Nat), ∃ (task : Nat), n < 64 ∧ s.perfOn n = false :=
  ⟨on, 3, 7, 0, 0, by decide +kernel⟩

theorem wit_CountersCountAndAreRead_3 : ∃ (s : State), ∃ (ctx : Nat), ∃ (n : Nat), ∃ x, n < 64 ∧ s.reads ctx (pagePerf n) ∧ s.perfHidden ctx (pagePerf n) = false ∧ x = (s.perf n).count + s.perfDue n ∧ x < 2 ^ 48 :=
  ⟨on.onPerf 3 (fun x => { x with count := 0x923456789ABC }), 0, 3, 0x923456789ABC, by decide +kernel⟩

theorem wit_CountersCountAndAreRead_4 : ∃ (s : State), ∃ (ctx : Nat), ∃ (n : Nat), ∃ (v : Nat), n < 64 ∧ v < 2 ^ 32 ∧ s.writes ctx (pagePerf n) :=
  ⟨on.onPerf 3 (fun x => { x with count := 0x923456789ABC, staged := 7 }), 0, 3, 77, by decide +kernel⟩

theorem wit_CountersCountAndAreRead_5 : ∃ (s : State), ∃ (ctx : Nat), ∃ (v : Nat), v < 4 ∧ s.writes ctx pagePerfCtl :=
  ⟨on, 0, 3, by decide +kernel⟩

theorem wit_CountersCountAndAreRead_6 : ∃ (s : State), ∃ (ctx : Nat), s.writes ctx pageSu :=
  ⟨(on.wr pageSu R.SU.SU_SEQ (2 ^ 32 - 1)), 0, by decide +kernel⟩

theorem wit_CountersCountAndAreRead_7 : ∃ (s : State), ∃ (ctx : Nat), ∃ k, s.writes ctx pageSu ∧ k < 10 ∧ s.isOn (suDomain k) = true ∧ (k < 2 → s.suNew k 0 0x10 k + s.suNew k 1 0x11 k + s.suNew k 2 0x12 k ≤ suCycles k s.up - suCycles k (look 0 s.slotSeen (8 * k + 7))) :=
  ⟨{ on with up := 100000, events := [(64 * 0x10, (9, 4)), (64 * 0x11, (8, 4))], slotUse := [(0, 2 ^ 48 - 1)] }, 0, 0, by decide +kernel⟩

theorem wit_LaneRunsAndCalibrationImages_1 : ∃ (s : State), ∃ (q : Request), ∃ k, ∃ ts, s.accepts 0x48 q ∧ k = s.cmdOf 0x48 q ∧ calTargets (k.arg 0) (k.arg 1) = some ts :=
  ⟨on, req pageCaldir [pagePort 5, 0], on.cmdOf 0x48 (req pageCaldir [pagePort 5, 0]), [pagePort 5], by decide +kernel⟩

theorem wit_LaneRunsAndCalibrationImages_2 : ∃ (s : State), ∃ (p : Nat), p < 48 ∧ s.isOn (8 + p / 8) = true ∧ s.eyeBusy p = false ∧ (s.lane p).recal = false ∧ (s.lane p).run = 0 ∧ s.laneDue p = true ∧ s.runsOpen = true :=
  ⟨on.onLane 5 (fun l => { l with due := true }), 5, by decide +kernel⟩

theorem wit_LaneRunsAndCalibrationImages_3 : ∃ (s : State), ∃ (p : Nat), ∃ (rx : Int), ∃ (tx : Int), p < 48 ∧ (s.lane p).recal = false ∧ (s.lane p).run = 1 ∧ s.flag (pagePort p) R.PORT.EYE_STAT_WAIT = false :=
  ⟨on.onLane 5 (fun l => { l with run := 1 }), 5, 77, 99, by decide +kernel⟩

theorem wit_LaneRunsAndCalibrationImages_4 : ∃ (s : State), ∃ (p : Nat), ∃ (rx : Int), ∃ (tx : Int), p < 48 ∧ (s.lane p).recal = false ∧ (s.lane p).run = 1 ∧ (s.lane p).rest = none ∧ s.pageOn (pagePort p) ∧ s.flag (pagePort p) R.PORT.EYE_STAT_WAIT = false :=
  ⟨on.onLane 5 (fun l => { l with run := 1 }), 5, 77, 99, by decide +kernel⟩

theorem wit_LaneRunsAndCalibrationImages_5 : ∃ (s : State), ∃ (p : Nat), p < 48 ∧ (s.lane p).run = 2 ∧ s.eyeBusy p = false ∧ (s.lane p).borrowed = false ∧ (s.lane p).recal = false ∧ (s.lane p).retiring = false ∧ s.setIn p < 2 :=
  ⟨on.onLane 5 (fun l => { l with run := 2 }), 5, by decide +kernel⟩

theorem wit_LaneRunsAndCalibrationImages_6 : ∃ (s : State), ∃ (ctx : Nat), s.writes ctx pageCaldir :=
  ⟨on, 0, by decide +kernel⟩

theorem wit_LaneRunsAndCalibrationImages_7 : ∃ (s : State), s.flag pageCaldir R.CALDIR.CAL_STAT_CAPTURING = true :=
  ⟨on.wr pageCaldir R.CALDIR.CAL_STAT_CAPTURING 1, by decide +kernel⟩

theorem wit_LaneRunsAndCalibrationImages_8 : ∃ (s : State), ∃ (ctx : Nat), s.writes ctx pageCaldir ∧ s.calBusy = false :=
  ⟨on, 0, by decide +kernel⟩

theorem wit_LaneRunsAndCalibrationImages_9 : ∃ (s : State), s.flag pageCaldir R.CALDIR.CAL_STAT_APPLYING = true ∧ s.restWaits = false :=
  ⟨on.wr pageCaldir R.CALDIR.CAL_STAT_APPLYING 1, by decide +kernel⟩

theorem wit_LaneRunsAndCalibrationImages_10 : ∃ (s : State), ∃ (ctx : Nat), ∃ (v : Nat), v < 2 ^ 32 ∧ s.writes ctx pageCaldir ∧ s.calBusy = false :=
  ⟨(on.wr pageCaldir R.CALDIR.CAL_IMG_ADDR 32767), 0, 9, by decide +kernel⟩

theorem wit_LaneRunsAndCalibrationImages_11 : ∃ (s : State), ∃ (ctx : Nat), ∃ (v : Nat), s.reads ctx pageCaldir :=
  ⟨{ on with image := [(0, 9)] }, 0, 0, by decide +kernel⟩

theorem wit_LaneRunsAndCalibrationImages_12 : ∃ (s : State), ∃ (ctx : Nat), ∃ (t : Nat), ∃ (c : Nat), ∃ (v : Nat), t < 2 ∧ c < 24 ∧ v < 2 ^ 16 ∧ s.writes ctx (pageTdc t c) :=
  ⟨(on.wr pageCaldir R.CALDIR.CAL_CTL_RESTORE_OPEN 1 |>.wr (pageTdc 1 20) R.TDC.TDC_LUT_IDX 511), 0, 1, 20, 9, by decide +kernel⟩

theorem wit_WearIsWatchedAndSparesTakeOver_1 : ∃ (s : State), ∃ (page : Nat), ∃ (slice : Nat), ∃ (v : Nat), s.flag pageCave R.CAVE.CAVE_CTL_EN = true ∧ (wearKind page).isSome ∧ s.pageOn page :=
  ⟨(on.wr pageCave R.CAVE.CAVE_CTL_EN 1 |>.wr pageCave R.CAVE.CAVE_CE_LIM 20), pageVat, 3, 5, by decide +kernel⟩

theorem wit_WearIsWatchedAndSparesTakeOver_2 : ∃ (s : State), ∃ (page : Nat), ∃ (slice : Nat), ∃ (v : Nat), s.flag pageCave R.CAVE.CAVE_CTL_EN = true ∧ (wearKind page).isSome ∧ s.pageOn page :=
  ⟨(on.wr pageCave R.CAVE.CAVE_CTL_EN 1), pagePort 3, 1, 5, by decide +kernel⟩

theorem wit_WearIsWatchedAndSparesTakeOver_3 : ∃ (s : State), ∃ (q : Request), ∃ k, s.accepts 0x49 q ∧ k = s.cmdOf 0x49 q :=
  ⟨{ (on.wr pageCave R.CAVE.CAVE_CTL_EN 1) with swaps := [(1, { number := 3, state := 1, kind := 2, page := pagePort 5, slice := 1 })] }, req pageCave [3], on.cmdOf 0x49 (req pageCave [3]), by decide +kernel⟩

theorem wit_WearIsWatchedAndSparesTakeOver_4 : ∃ (s : State), ∃ (i : Nat), ∃ (table : List Nat), i < 16 ∧ (s.swapRec i).state = 3 ∧ (s.swapRec i).kind = 4 ∧ s.flag pageCave R.CAVE.CAVE_CTL_EN = true ∧ s.swapWait = [] :=
  ⟨{ (on.wr pageCave R.CAVE.CAVE_CTL_EN 1) with swaps := [(1, { number := 3, state := 3, kind := 4, page := 0x0C3, slice := 9, spare := 4 })] }, 1, [], by decide +kernel⟩

theorem wit_AccessesOtherThanAlignedWordsHaveNoEffect_1 : ∃ (s : State), ∃ (ctx : Nat), ∃ (a : Nat), ∃ (size : Nat), ∃ (v : Nat), a < 2 ^ 24 ∧ s.canAccess ctx = true ∧ (size ≠ 4 ∨ a % 4 ≠ 0) :=
  ⟨on, 0, regAddr (pageTdc 1 14) 0x040, 2, 7, by decide +kernel⟩

theorem wit_AccessesOtherThanAlignedWordsHaveNoEffect_2 : ∃ (s : State), ∃ (ctx : Nat), ∃ (a : Nat), ∃ (size : Nat), a < 2 ^ 24 ∧ s.canAccess ctx = true ∧ (size ≠ 4 ∨ a % 4 ≠ 0) :=
  ⟨on, 2, 0xFFF041, 4, by decide +kernel⟩

theorem wit_PortCountersSaturateAndClearWhenRead_1 : ∃ (s : State), ∃ p, ∃ f, ∃ (n : Nat), p < 48 ∧ f ∈ R.PORT.rows ∧ f.clr = true ∧ f.w = 32 :=
  ⟨on.wr (pagePort 5) R.PORT.CNT_SH_ERR 0xFFFFFFFE, 5, R.PORT.CNT_SH_ERR, 7, by decide +kernel⟩

theorem wit_PortCountersSaturateAndClearWhenRead_2 : ∃ (s : State), ∃ (p : Nat), p < 48 ∧ s.pageOn (pagePort p) ∧ s.signal p = true ∧ s.isLane p = false ∧ s.link p = lkTraining ∧ s.rd (pagePort p) R.PORT.CNT_LOS = 0xFFFFFFFF :=
  ⟨on.wr (pagePort 5) R.PORT.CNT_LOS 0xFFFFFFFF |>.wr (pagePort 5) R.PORT.PORT_STAT_SIGNAL 1 |>.setLink 5 lkTraining, 5, by decide +kernel⟩

theorem wit_PortCountersSaturateAndClearWhenRead_3 : ∃ (s : State), ∃ (ctx : Nat), ∃ p, ∃ f, p < 48 ∧ s.reads ctx (pagePort p) ∧ f ∈ R.PORT.rows ∧ f.clr = true ∧ f.w = 32 :=
  ⟨on.wr (pagePort 5) R.PORT.CNT_SH_ERR 9, 2, 5, R.PORT.CNT_SH_ERR, by decide +kernel⟩

theorem wit_TheCorrectionTableTakesBinCentres_3 : ∃ (s : State), ∃ (t : Nat), ∃ (c : Nat), ∃ (hist : List Nat), ∃ (lines : Nat), ∃ (res : Int), t < 2 ∧ c < 24 ∧ lines % 32 = 31 ∧ s.calRunning.contains (pageTdc t c) = true :=
  ⟨{ on.wr (pageTdc 1 20) R.TDC.TDC_STAT_CAL_RUNNING 1 with calRunning := [pageTdc 1 20] }, 1, 20, List.replicate 512 80, 31, 9, by decide +kernel⟩

theorem wit_TheCorrectionTableTakesBinCentres_4 : ∃ (s : State), ∃ (t : Nat), ∃ (c : Nat), ∃ hist, ∃ lat, ∃ z, ∃ n, ∃ k, t < 2 ∧ c < 24 ∧ k < 512 ∧ s.gateIdle t c = true ∧ s.flag (pageTdc t c) R.TDC.TDC_STAT_CAL_RUNNING = false ∧ (s.tdc t c).newLut = some ⟨fineTable hist, lat, z, n⟩ ∧ (s.tdc t c).rest = none :=
  ⟨on.onTdc 1 20 (fun d => { d with newLut := some ⟨fineTable (List.replicate 512 80), 9, 33, 44⟩ }), 1, 20, List.replicate 512 80, 9, 33, 44, 511, by decide +kernel⟩

theorem wit_ResetAndAdvanceExcludeEachOther_1 : ∃ (s : State), ∃ (q : Request), ({ s with cmds := [] } : State).accepts 0x12 q ∧ (s.findOp 0x13).isSome ∨ (s.findOp 0x12).isSome :=
  ⟨{ on with cmds := [cmd 0x13 pageLc [1]] }, req pageRind [5], by decide +kernel⟩

theorem wit_ResetAndAdvanceExcludeEachOther_2 : ∃ (s : State), ∃ (q : Request), ({ s with cmds := [] } : State).accepts 0x13 q ∧ (s.findOp 0x12).isSome :=
  ⟨{ on with cmds := [cmd 0x12 pageRind [5]] }, req pageLc [1, 0, 0xFFFFFFFF], by decide +kernel⟩

theorem wit_ResetAndAdvanceExcludeEachOther_3 : ∃ (s : State), ∃ (q : Request), ∃ j, s.accepts 0x01 q ∧ s.handleLive (q.ctx % 4) ((s.cmdOf 0x01 q).arg 0 % 65536) = true ∧ j.handle ≠ (s.cmdOf 0x01 q).handle ∧ j.op = 0x12 ∧ j.started = true ∧ j.count ≠ q.count ∧ (∀ k ∈ s.cmds, k.op = 0x12 → k = j) ∧ s.byHandle (q.ctx % 4) ((s.cmdOf 0x01 q).arg 0 % 65536) = some j :=
  ⟨{ on with cmds := [cmd 0x12 pageRind [5]], slots := [(2, ⟨0, 0xFF⟩)] }, req 0x41 [2], cmd 0x12 pageRind [5], by decide +kernel⟩

theorem wit_TheKeyHashIsProgrammedOnLeavingBlank_1 : ∃ (s : State), ∃ k, s.findOp 0x13 = some k :=
  ⟨{ on with cmds := [cmd 0x13 pageLc [1]] }, cmd 0x13 pageLc [1], by decide +kernel⟩

theorem wit_TheKeyHashIsProgrammedOnLeavingBlank_2 : ∃ (s : State), ∃ n, ∃ hash, s.lifeProg = some (n, hash) ∧ bitAt s.resetCauses 4 = false ∧ s.lifeCycle = 0 ∧ s.keyHash = [] ∧ 0 < n ∧ n < 4 :=
  ⟨{ on with lifeProg := some (1, [7]) }, 1, [7], by decide +kernel⟩

theorem wit_TheKeyHashIsProgrammedOnLeavingBlank_3 : ∃ (s u : State), s.lifeCycle ≠ 0 ∧ step s = .next u :=
  ⟨{ on with lifeCycle := 1 }, _, by decide +kernel, rfl⟩

theorem wit_TheKeyHashIsProgrammedOnLeavingBlank_4 : ∃ (s : State), ∃ (hc : Nat), ∃ (osc : Nat), ∃ (lead : Nat), ∃ (src : Nat), s.phase = .reset ∧ s.thermalHold = false ∧ s.lifeProg = none :=
  ⟨State.reset, 0, 0, 1, 0, by decide +kernel⟩

theorem wit_WearReportsApprovalsAndSwapsComplete_1 : ∃ (s : State), ∃ (page : Nat), ∃ (slice : Nat), ∃ (m : Nat), ∃ (v : Nat), ∃ lim, s.flag pageCave R.CAVE.CAVE_CTL_EN = true ∧ (wearKind page).isSome ∧ s.pageOn page ∧ 1 ≤ m ∧ m ≤ 7 ∧ lim = s.rd pageCave R.CAVE.CAVE_CE_LIM :=
  ⟨(on.wr pageCave R.CAVE.CAVE_CTL_EN 1 |>.wr pageCave R.CAVE.CAVE_CE_LIM 20), pageVat, 3, 1, 5, 20, by decide +kernel⟩

theorem wit_WearReportsApprovalsAndSwapsComplete_2 : ∃ (s : State), ∃ (q : Request), ∃ k, ∃ i, s.accepts 0x49 q ∧ k = s.cmdOf 0x49 q ∧ s.swapNumbered (k.arg 0) = some i ∧ (s.swapRec i).state = 1 :=
  ⟨{ (on.wr pageCave R.CAVE.CAVE_CTL_EN 1) with swaps := [(1, { number := 3, state := 1, kind := 2, page := pagePort 5, slice := 1 })] }, req pageCave [3], on.cmdOf 0x49 (req pageCave [3]), 1, by decide +kernel⟩

theorem wit_WearReportsApprovalsAndSwapsComplete_3 : ∃ (s : State), ∃ (q : Request), ∃ k, s.accepts 0x49 q ∧ k = s.cmdOf 0x49 q ∧ (∀ i, s.swapNumbered (k.arg 0) = some i → (s.swapRec i).state ≠ 1) :=
  ⟨{ (on.wr pageCave R.CAVE.CAVE_CTL_EN 1) with swaps := [(1, { number := 3, state := 4, kind := 2, page := pagePort 5, slice := 1 })] }, req pageCave [3], on.cmdOf 0x49 (req pageCave [3]), by decide +kernel⟩

theorem wit_WearReportsApprovalsAndSwapsComplete_4 : ∃ (s : State), ∃ (i : Nat), ∃ (table : List Nat), ∃ r, i < 16 ∧ r = s.swapRec i ∧ (r.state = 2 ∨ r.state = 3) ∧ s.flag pageCave R.CAVE.CAVE_CTL_EN = true ∧ r.kind = 0 ∧ r.page = pageVat ∧ r.slice < 36 ∧ r.spare < 36 ∧ r.slice ≠ r.spare :=
  ⟨{ (on.wr pageCave R.CAVE.CAVE_CTL_EN 1) with swaps := [(1, { number := 3, state := 3, kind := 0, page := pageVat, slice := 1, spare := 33 })] }, 1, [], ({ number := 3, state := 3, kind := 0, page := pageVat, slice := 1, spare := 33 } : SwapRec), by decide +kernel⟩

theorem wit_WearReportsApprovalsAndSwapsComplete_5 : ∃ (s : State), ∃ (i : Nat), ∃ (table : List Nat), ∃ r, ∃ t, ∃ c, i < 16 ∧ r = s.swapRec i ∧ (r.state = 2 ∨ r.state = 3) ∧ s.flag pageCave R.CAVE.CAVE_CTL_EN = true ∧ r.kind = 1 ∧ t < 2 ∧ c < 24 ∧ r.page = pageTdc t c ∧ r.slice < 4 ∧ s.gateIdle t c = true ∧ s.flag r.page R.TDC.TDC_STAT_CAL_RUNNING = false :=
  ⟨{ (on.wr pageCave R.CAVE.CAVE_CTL_EN 1) with swaps := [(1, { number := 3, state := 2, kind := 1, page := pageTdc 0 3, slice := 3, spare := 4 })] }, 1, (List.replicate 256 80), ({ number := 3, state := 2, kind := 1, page := pageTdc 0 3, slice := 3, spare := 4 } : SwapRec), 0, 3, by decide +kernel⟩

theorem wit_WearReportsApprovalsAndSwapsComplete_6 : ∃ (s : State), ∃ (i : Nat), ∃ (table : List Nat), ∃ r, ∃ p, i < 16 ∧ r = s.swapRec i ∧ r.state = 2 ∧ s.flag pageCave R.CAVE.CAVE_CTL_EN = true ∧ r.kind = 2 ∧ p < 48 ∧ r.page = pagePort p ∧ r.slice < 2 ∧ s.slicerSwap p r.slice = some i ∧ s.setIn p ≠ r.slice ∧ (s.lane p).run = 0 ∧ (s.lane p).recal = false ∧ s.eyeBusy p = false :=
  ⟨{ (on.wr pageCave R.CAVE.CAVE_CTL_EN 1) with swaps := [(1, { number := 3, state := 2, kind := 2, page := pagePort 5, slice := 1, spare := 0 })] }, 1, [], ({ number := 3, state := 2, kind := 2, page := pagePort 5, slice := 1, spare := 0 } : SwapRec), 5, by decide +kernel⟩

theorem wit_WearReportsApprovalsAndSwapsComplete_7 : ∃ (s : State), ∃ (i : Nat), ∃ (table : List Nat), ∃ r, i < 16 ∧ r = s.swapRec i ∧ r.state = 3 ∧ s.flag pageCave R.CAVE.CAVE_CTL_EN = true ∧ r.kind = 3 ∧ r.page = pageEngc ∧ r.slice < 8 ∧ s.engSwap r.slice = some i ∧ s.running r.slice = none :=
  ⟨{ (on.wr pageCave R.CAVE.CAVE_CTL_EN 1) with swaps := [(1, { number := 3, state := 3, kind := 3, page := pageEngc, slice := 7, spare := 8 })] }, 1, [], ({ number := 3, state := 3, kind := 3, page := pageEngc, slice := 7, spare := 8 } : SwapRec), by decide +kernel⟩

theorem wit_WearReportsApprovalsAndSwapsComplete_8 : ∃ (s : State), ∃ (i : Nat), ∃ (table : List Nat), ∃ r, i < 16 ∧ r = s.swapRec i ∧ (r.state = 2 ∨ r.state = 3) ∧ s.flag pageCave R.CAVE.CAVE_CTL_EN = true ∧ r.kind = 4 ∧ wearKind r.page = some 4 :=
  ⟨{ (on.wr pageCave R.CAVE.CAVE_CTL_EN 1) with swaps := [(1, { number := 3, state := 3, kind := 4, page := 0x0C3, slice := 9, spare := 4 })] }, 1, [], ({ number := 3, state := 3, kind := 4, page := 0x0C3, slice := 9, spare := 4 } : SwapRec), by decide +kernel⟩

end Sys2Proof.Tests
end

section
open Sys2Proof Sys2Proof.Machine
namespace Sys2Proof.Machine

/-- Before anything is written, a field reads as its reset value. -/
@[simp] theorem State.rdI_reset (p : Nat) (f : Fld) (i : Nat) : State.reset.rdI p f i = f.reset p i % 2 ^ f.w := rfl

/-- Held in reset, the device answers no context. -/
theorem State.canAccess_reset (c : Nat) : State.reset.canAccess c = false := by
  simp [State.canAccess, State.reset]

/-- At reset `PWR_STAT` shows every domain but PD_RIND off. -/
theorem State.pwr_reset {d : Nat} (h : 1 ≤ d) : State.reset.pwr d = 0 := by
  have hd : d ≠ 0 := by omega
  simp [State.pwr, hd, State.rd_eq, bits, Fld.reset, R.PWR.PWR_STAT]

/-- Settles O44: the reset state has an empty register store, so each field reads its reset value. -/
theorem resetIsAsTheSpecSays : Obligations.ResetIsAsTheSpecSays := by
  unfold Obligations.ResetIsAsTheSpecSays
  refine ⟨rfl, rfl, rfl, by decide, State.rdI_reset, fun d h _ => State.pwr_reset h, fun c _ => State.canAccess_reset c,
    by decide, rfl, rfl, rfl, rfl, rfl, rfl, rfl, rfl, rfl⟩

/-- A running device whose shaper window is busy for the next nanosecond, context HC0 being attached. -/
def shaperBusy : State :=
  { State.reset with phase := .running, shpUntil := 1, regs := [(R.HC.CTX_STAT_ATTACHED.key (pageHC 0) 0, 1)] }

/-- While the shaper window is busy, the lock of its registers takes in the header of its page, which the owner's write of
`HDR_INT_ENABLE` then does not reach. -/
theorem shaperBusy_refuses_intEnable :
    ((shaperBusy.hostWrite 0 (regAddr pageShape 0x010) 4 1).settle).rd pageShape R.HDR.HDR_INT_ENABLE = 0 := by
  rw [State.rd_settle]; decide +kernel

/-- Refutes O11: its first clause lets the owner of any page but ESPARE write `HDR_INT_ENABLE`, but the lock of a busy shaper window
(`State.lockedField`) takes in every offset up to 0x054 of page SHAPE, the header's among them: HC0's write of 1 is refused with
ACC_ARMED. -/
theorem not_anOwnersWriteTakesEffect : ¬ Obligations.AnOwnersWriteTakesEffect := by
  unfold Obligations.AnOwnersWriteTakesEffect
  rintro ⟨hEnable, -⟩
  obtain ⟨u, hu, hv, -⟩ := hEnable shaperBusy 0 pageShape 1 (by decide) (by decide) (by decide) (by decide)
  obtain rfl : (shaperBusy.hostWrite 0 (regAddr pageShape 0x010) 4 1).settle = u := by
    injection hu
  rw [shaperBusy_refuses_intEnable] at hv
  exact absurd hv (by decide)
end Sys2Proof.Machine
end

section
/-! SUPPORT. Accesses that record an error alone (R6), and O50. -/

open Sys2Proof Sys2Proof.Machine
namespace Sys2Proof.Machine

/-! ### Words of a page -/

/-- Fields that begin in different words of a page stand at different places. -/
theorem place_ne_of_word {f g : Fld} {i j : Nat} (h : f.word i ≠ g.word j) : f.place i ≠ g.place j :=
  fun e => h (congrArg (· / 32) e)

/-- A write of one field leaves the fields of every other page and of every other word. -/
theorem State.rdI_wrI_off (s : State) {p q : Nat} {f g : Fld} {i j : Nat} (v : Nat) (hf : f.inPage i = true) (hg : g.inPage j = true)
    (h : q ≠ p ∨ f.word i ≠ g.word j) : (s.wrI p g j v).rdI q f i = s.rdI q f i := by
  rcases h with h | h
  · exact State.rdI_wrI_page s g f j i v hg hf (Ne.symm h)
  · exact State.rdI_wrI_place s p q g f j i v (Ne.symm (place_ne_of_word h))

theorem State.rdI_wr_off (s : State) {p q : Nat} {f : Fld} {i : Nat} (g : Fld) (v : Nat) (hf : f.inPage i = true) (hg : g.inPage 0 = true)
    (h : q ≠ p ∨ f.word i ≠ g.word 0) : (s.wr p g v).rdI q f i = s.rdI q f i := State.rdI_wrI_off s v hf hg h

/-! ### The error record -/

/-- From `s` to `t` registers alone have changed. -/
def State.RegsOnly (s t : State) : Prop := t = { s with regs := t.regs }

theorem State.RegsOnly.refl (s : State) : s.RegsOnly s := rfl

theorem State.RegsOnly.wr {s t : State} (h : s.RegsOnly t) (p : Nat) (f : Fld) (v : Nat) : s.RegsOnly (t.wr p f v) := by
  unfold State.RegsOnly at h ⊢; rw [h]; rfl

theorem State.RegsOnly.ite {s t u : State} (c : Prop) [Decidable c] (ht : s.RegsOnly t) (hu : s.RegsOnly u) :
    s.RegsOnly (if c then t else u) := by
  split
  · exact ht
  · exact hu

/-- Recording an access error changes registers alone. -/
theorem State.accErr_regsOnly (s : State) (p ctx off : Nat) (w : Bool) (m : Nat) : s.RegsOnly (s.accErr p ctx off w m) := by
  unfold State.accErr State.raiseHdr State.setCause
  have hAcc := (State.RegsOnly.refl s).ite (m % 64 = 0) ((State.RegsOnly.refl s).wr p R.HDR.HDR_ERR_CAUSE_ACC
    (s.rd p R.HDR.HDR_ERR_CAUSE_ACC ||| m % 64))
  generalize (if m % 64 = 0 then s else s.wr p R.HDR.HDR_ERR_CAUSE_ACC (s.rd p R.HDR.HDR_ERR_CAUSE_ACC ||| m % 64)) = a at hAcc ⊢
  dsimp only
  have hInteg := hAcc.ite (m / 256 % 8 = 0) (hAcc.wr p R.HDR.HDR_ERR_CAUSE_INTEG (a.rd p R.HDR.HDR_ERR_CAUSE_INTEG ||| m / 256 % 8))
  refine (State.RegsOnly.refl s).ite _ ((hInteg.ite _ ?_).wr _ _ _)
  exact ((((hInteg.wr _ _ _).wr _ _ _).wr _ _ _).wr _ _ _).wr _ _ _

/-- Of a page's registers, recording an access error changes `HDR_INT_CAUSE`, `HDR_ERR_CAUSE` and `HDR_ERR_CAPTURE` (R36, R37). -/
theorem State.rdI_accErr (s : State) (p ctx off : Nat) (w : Bool) (m : Nat) {q : Nat} {f : Fld} {i : Nat} (hf : f.inPage i = true)
    (h : q ≠ p ∨ (f.word i ≠ 3 ∧ f.word i ≠ 6 ∧ f.word i ≠ 7)) : (s.accErr p ctx off w m).rdI q f i = s.rdI q f i := by
  have h3 : q ≠ p ∨ f.word i ≠ 3 := h.imp_right (·.1)
  have h6 : q ≠ p ∨ f.word i ≠ 6 := h.imp_right (·.2.1)
  have h7 : q ≠ p ∨ f.word i ≠ 7 := h.imp_right (·.2.2)
  unfold State.accErr State.raiseHdr State.setCause
  dsimp only
  split_ifs <;>
    simp only [State.rdI_wr_off _ R.HDR.HDR_INT_CAUSE _ hf rfl h3, State.rdI_wr_off _ R.HDR.HDR_ERR_CAUSE_ACC _ hf rfl h6,
      State.rdI_wr_off _ R.HDR.HDR_ERR_CAUSE_INTEG _ hf rfl h6, State.rdI_wr_off _ R.HDR.HDR_ERR_CAPTURE_OFFSET _ hf rfl h7,
      State.rdI_wr_off _ R.HDR.HDR_ERR_CAPTURE_CTX _ hf rfl h7, State.rdI_wr_off _ R.HDR.HDR_ERR_CAPTURE_WRITE _ hf rfl h7,
      State.rdI_wr_off _ R.HDR.HDR_ERR_CAPTURE_CODE _ hf rfl h7, State.rdI_wr_off _ R.HDR.HDR_ERR_CAPTURE_VALID _ hf rfl h7]

/-- `HDR_ERR_CAUSE.ACC` takes the bits of the errors recorded. -/
theorem State.accErr_acc (s : State) (p ctx off : Nat) (w : Bool) (m : Nat) :
    (s.accErr p ctx off w m).rd p R.HDR.HDR_ERR_CAUSE_ACC = s.rd p R.HDR.HDR_ERR_CAUSE_ACC ||| m % 64 := by
  have hlt : s.rd p R.HDR.HDR_ERR_CAUSE_ACC ||| m % 64 < 2 ^ 6 :=
    Nat.or_lt_two_pow (State.rd_lt s p R.HDR.HDR_ERR_CAUSE_ACC) (Nat.mod_lt m (by decide))
  have hw : (if m % 64 = 0 then s else s.wr p R.HDR.HDR_ERR_CAUSE_ACC (s.rd p R.HDR.HDR_ERR_CAUSE_ACC ||| m % 64)).rd p
      R.HDR.HDR_ERR_CAUSE_ACC = s.rd p R.HDR.HDR_ERR_CAUSE_ACC ||| m % 64 := by
    split
    case isTrue h => rw [h, Nat.or_zero]
    case isFalse => rw [State.rd_wr_same]; exact Nat.mod_eq_of_lt hlt
  unfold State.accErr State.raiseHdr
  by_cases h0 : m = 0
  · simp [h0]
  · rw [if_neg h0, State.rd_setCause _ _ _ _ _ (by decide), ← hw]
    split_ifs <;> simp (disch := decide) [State.rd_wr_place]

/-- An alignment error recorded shows in `HDR_ERR_CAUSE` (R6, R36). -/
theorem State.accErr_align (s : State) (p ctx off : Nat) (w : Bool) {m : Nat} (h : m.testBit 0 = true) :
    bitAt ((s.accErr p ctx off w m).rd p R.HDR.HDR_ERR_CAUSE_ACC) 0 = true := by
  rw [State.accErr_acc, bitAt, Nat.testBit_or, show 64 = 2 ^ 6 from rfl, Nat.testBit_mod_two_pow, h]
  simp

/-! ### The end of a command -/

/-- From `s` to `t` nothing has changed but what was put out and, at the contexts, the interrupts and in-band notices sent. -/
structure State.Sends (s t : State) : Prop where
  eq : t = { s with hosts := t.hosts, out := t.out, free := t.free }
  host : ∀ c, t.host c =
    { s.host c with armed := (t.host c).armed, holdoff := (t.host c).holdoff, holdTo := (t.host c).holdTo, inbq := (t.host c).inbq }
  out : ∃ l, t.out = l ++ s.out

theorem State.Sends.refl (s : State) : s.Sends s := ⟨rfl, fun _ => rfl, [], rfl⟩

theorem State.Sends.trans {s t u : State} (h : s.Sends t) (k : t.Sends u) : s.Sends u := by
  obtain ⟨l, hl⟩ := h.out
  obtain ⟨m, hm⟩ := k.out
  refine ⟨?_, fun c => ?_, m ++ l, by rw [hm, hl, List.append_assoc]⟩
  · rw [k.eq, h.eq]
  · rw [k.host c, h.host c]

/-- An interrupt or a notice sent to one context. -/
theorem State.Sends.onHost (s : State) (c : Nat) (f : HostCtx → HostCtx)
    (hf : ∀ h, f h = { h with armed := (f h).armed, holdoff := (f h).holdoff, holdTo := (f h).holdTo, inbq := (f h).inbq }) :
    s.Sends (s.onHost c f) := by
  refine ⟨rfl, fun a => ?_, [], rfl⟩
  by_cases h : a = c
  · subst h; rw [State.host_onHost_same]; exact hf _
  · rw [State.host_onHost_ne _ _ _ _ h]

theorem State.Sends.emit (s : State) (o : Out) : s.Sends (s.emit o) := ⟨rfl, fun _ => rfl, [o], rfl⟩
theorem State.Sends.bump (s : State) : s.Sends s.bump := ⟨rfl, fun _ => rfl, [], rfl⟩

theorem State.deliver_sends (s : State) (c : Nat) : s.Sends (s.deliver c) := by
  unfold State.deliver
  dsimp only
  split_ifs
  · exact .refl s
  · exact (State.Sends.onHost s c _ fun _ => rfl).trans (.emit _ _)
  · exact .refl s
  · exact ((State.Sends.onHost s c _ fun _ => rfl).trans (.onHost _ c _ fun _ => rfl)).trans (.bump _)
  · exact .refl s

/-- What relates each step of a counted fold to its start relates the fold's end to it. -/
theorem State.each_rel {R : State → State → Prop} (hr : ∀ s, R s s) (ht : ∀ {s t u}, R s t → R t u → R s u) (n : Nat)
    (f : Nat → State → State) (h : ∀ i a, R a (f i a)) (s : State) : R s (s.each n f) := by
  unfold State.each
  generalize List.range n = l
  induction l generalizing s with
  | nil => exact hr s
  | cons i l ih => exact ht (h i s) (ih (f i s))

/-- The end of a command sends what is due, and leaves the rest (R58). -/
theorem State.settle_sends (s : State) : s.Sends s.settle :=
  State.each_rel State.Sends.refl State.Sends.trans 4 _ (fun c a => a.deliver_sends c) s

theorem State.RegsOnly.out {s t : State} (h : s.RegsOnly t) : t.out = s.out := by rw [h]

/-- The data of a read is put out before what the end of the command sends. -/
theorem State.returned_settle {s t : State} (h : t.out = s.out) (ctx a v : Nat) :
    s.returned (t.emit (.read ctx a v)).settle ctx a v := by
  obtain ⟨l, hl⟩ := (t.emit (.read ctx a v)).settle_sends.out
  exact ⟨l, by rw [hl, ← h]; rfl⟩

/-! ### Accesses that are not of one aligned word (R6) -/

/-- An access that is not of one aligned word makes ACC_ALIGN. -/
theorem State.mapErrs_align (s : State) {a size : Nat} (h : size ≠ 4 ∨ a % 4 ≠ 0) : (s.mapErrs a size).testBit 0 = true := by
  have hn : ¬ (size = 4 ∧ a % 4 = 0) := by tauto
  simp [State.mapErrs, hn, eAlign]

theorem State.writeErrs_align (s : State) (ctx : Nat) {a size : Nat} (h : size ≠ 4 ∨ a % 4 ≠ 0) :
    (s.writeErrs ctx a size).testBit 0 = true := by
  unfold State.writeErrs
  dsimp only
  split
  · exact s.mapErrs_align h
  · rw [Nat.testBit_or, Nat.testBit_or, s.mapErrs_align h]; rfl

theorem State.writeMask_align (s : State) (ctx v : Nat) {a size : Nat} (h : size ≠ 4 ∨ a % 4 ≠ 0) :
    (s.writeMask ctx a size v).testBit 0 = true := by
  unfold State.writeMask
  dsimp only
  split
  · exact s.writeErrs_align ctx h
  · split
    · rw [Nat.testBit_or, s.writeErrs_align ctx h]; rfl
    · exact s.writeErrs_align ctx h

theorem ne_zero_of_testBit {n i : Nat} (h : n.testBit i = true) : n ≠ 0 := by
  rintro rfl; simp at h

/-- A write that is not of one aligned word does no more than record its errors. -/
theorem State.hostWrite_misaligned (s : State) {ctx a size : Nat} (v : Nat) (hc : s.canAccess ctx = true) (h : size ≠ 4 ∨ a % 4 ≠ 0) :
    s.hostWrite ctx a size v = s.accErr (errPage ctx a) ctx (addrOff a) true (s.writeMask ctx a size v) := by
  have hw : s.writeErrs ctx a size ≠ 0 := ne_zero_of_testBit (s.writeErrs_align ctx h)
  unfold State.hostWrite State.checkedWrite
  dsimp only
  rw [if_pos hc]
  cases hb : pageBlk (addrPage a) with
  | none => rfl
  | some b => simp [hw, errPage, hb]

/-- A read that is not of one aligned word returns 0 and does no more than record its errors. -/
theorem State.hostRead_misaligned (s : State) {ctx a size : Nat} (hc : s.canAccess ctx = true) (h : size ≠ 4 ∨ a % 4 ≠ 0) :
    s.hostRead ctx a size = (s.accErr (errPage ctx a) ctx (addrOff a) false (s.mapErrs a size)).emit (.read ctx a 0) := by
  have hm : s.mapErrs a size ≠ 0 := ne_zero_of_testBit (s.mapErrs_align h)
  simp [State.hostRead, State.readVal, hc, hm]

/-- A command that changes registers alone and then ends leaves all else as it was, but for what is sent. -/
theorem State.RegsOnly.onlyRegs {s t u : State} (hr : s.RegsOnly t) (hs : t.Sends u) : s.onlyRegs u := by
  obtain ⟨r, rfl⟩ : ∃ r, t = { s with regs := r } := ⟨_, hr⟩
  have hh := hs.host
  obtain ⟨h, o, n, rfl⟩ : ∃ h o n, u = { ({ s with regs := r } : State) with hosts := h, out := o, free := n } := ⟨_, _, _, hs.eq⟩
  exact ⟨rfl, fun c _ => hh c⟩

/-- Settles O50: an access that is not of one aligned word comes to the record of its errors alone, of which ACC_ALIGN is one. -/
theorem accessesOtherThanAlignedWordsHaveNoEffect : Obligations.AccessesOtherThanAlignedWordsHaveNoEffect := by
  unfold Obligations.AccessesOtherThanAlignedWordsHaveNoEffect
  refine ⟨fun s ctx a size v ha hc h => ?write, fun s ctx a size ha hc h => ?read⟩
  case write =>
    have he := s.hostWrite_misaligned (v % 2 ^ 32) hc h
    refine ⟨_, rfl, ?_⟩
    rw [Nat.mod_eq_of_lt ha, he]
    refine ⟨(s.accErr_regsOnly _ _ _ _ _).onlyRegs (State.settle_sends _), fun q f i hf hq => ?_, ?_⟩
    · rw [State.rdI_settle]; exact s.rdI_accErr _ _ _ _ _ hf hq
    · rw [State.rd_settle]; exact s.accErr_align _ _ _ _ (s.writeMask_align ctx _ h)
  case read =>
    have he := s.hostRead_misaligned hc h
    have hs := (State.Sends.emit (s.accErr (errPage ctx a) ctx (addrOff a) false (s.mapErrs a size)) (.read ctx a 0)).trans
      (State.settle_sends _)
    refine ⟨_, rfl, ?_⟩
    rw [Nat.mod_eq_of_lt ha, he]
    refine ⟨State.returned_settle (s.accErr_regsOnly _ _ _ _ _).out _ _ _, (s.accErr_regsOnly _ _ _ _ _).onlyRegs hs,
      fun q f i hf hq => ?_, ?_⟩
    · rw [State.rdI_settle, State.rdI_emit]; exact s.rdI_accErr _ _ _ _ _ hf hq
    · rw [State.rd_settle, State.rd_emit]; exact s.accErr_align _ _ _ _ (s.mapErrs_align h)

end Sys2Proof.Machine
end

section
/-! SUPPORT. Changes that are confined to the registers of one page. -/

open Sys2Proof Sys2Proof.Machine
namespace Sys2Proof.Machine

/-! ### Fields at a register -/

/-- The element of a field that stands at an offset has that offset. -/
theorem Fld.offAt_of_idxAt {f : Fld} {o i : Nat} (h : f.idxAt o = some i) : f.offAt i = o := by
  unfold Fld.idxAt at h
  unfold Fld.offAt
  split_ifs at h with hn ho hr
  · obtain rfl := Option.some.inj h
    omega
  · obtain rfl := Option.some.inj h
    obtain ⟨hle, hmod, -⟩ := hr
    have := Nat.mul_div_cancel' (Nat.dvd_of_mod_eq_zero hmod)
    omega

/-- Every field of every register map begins within its word. -/
theorem Blk.rows_lo (b : Blk) : ∀ f ∈ b.rows, f.lo < 32 := by
  cases b <;> decide +kernel

theorem mem_fieldsAt {b : Blk} {off : Nat} {f : Fld} {i : Nat} (h : (f, i) ∈ fieldsAt b off) : f.lo < 32 ∧ f.offAt i = off := by
  unfold fieldsAt at h
  obtain ⟨g, hg, hm⟩ := List.mem_filterMap.1 h
  obtain ⟨j, hj, he⟩ := Option.map_eq_some_iff.1 hm
  obtain ⟨rfl, rfl⟩ := Prod.mk.inj he
  refine ⟨?_, Fld.offAt_of_idxAt hj⟩
  split at hg
  · exact (show ∀ f ∈ R.HDR.rows, f.lo < 32 by decide) g hg
  · exact b.rows_lo g hg

/-- A field that stands at a register of a page stands within the page. -/
theorem inPage_of_mem_fieldsAt {b : Blk} {off : Nat} {f : Fld} {i : Nat} (ho : off ≤ 4092) (h : (f, i) ∈ fieldsAt b off) :
    f.inPage i = true := by
  obtain ⟨hlo, hoff⟩ := mem_fieldsAt h
  simp only [Fld.inPage, hoff, decide_eq_true_eq]
  omega

/-! ### Confined to a page -/

/-- A part of the state that the registers are no part of. -/
structure State.View (α : Type) where
  val : State → α
  regs (s : State) (m : Store Nat) : val { s with regs := m } = val s

/-- From `s` to `u` registers of page `p` alone have changed, and what the view shows stands. -/
structure State.Confined {α : Type} (k : State.View α) (p : Nat) (s u : State) : Prop where
  regs : ∀ q f j, f.inPage j = true → q ≠ p → u.rdI q f j = s.rdI q f j
  rest : k.val u = k.val s

section
variable {α : Type} {k : State.View α} {p : Nat} {s t u : State}

theorem State.Confined.refl (s : State) : State.Confined k p s s := ⟨fun _ _ _ _ _ => rfl, rfl⟩

theorem State.Confined.trans (h : State.Confined k p s t) (g : State.Confined k p t u) : State.Confined k p s u :=
  ⟨fun q f j hf hq => (g.regs q f j hf hq).trans (h.regs q f j hf hq), g.rest.trans h.rest⟩

/-- An update of what is neither a register nor in view keeps the change confined. -/
theorem State.Confined.upd (h : State.Confined k p s t) (hr : u.regs = t.regs) (hk : k.val u = k.val t) : State.Confined k p s u :=
  h.trans ⟨fun q f j _ _ => State.rdI_congr hr q f j, hk⟩

/-- A write of a field of the page. -/
theorem State.Confined.wrI (h : State.Confined k p s t) (f : Fld) (i v : Nat) (hf : f.inPage i = true) :
    State.Confined k p s (t.wrI p f i v) :=
  h.trans ⟨fun _ g j hg hq => State.rdI_wrI_page t f g i j v hf hg (Ne.symm hq), k.regs t _⟩

theorem State.Confined.wr (h : State.Confined k p s t) (f : Fld) (v : Nat) (hf : f.inPage 0 = true) :
    State.Confined k p s (t.wr p f v) := h.wrI f 0 v hf

theorem State.Confined.ite (c : Prop) [Decidable c] (h : State.Confined k p s t) (g : State.Confined k p s u) :
    State.Confined k p s (if c then t else u) := by
  split
  · exact h
  · exact g

theorem State.Confined.raise (h : State.Confined k p s t) (b : Nat) : State.Confined k p s (t.raise p b) := by
  unfold State.raise State.setCause
  exact h.ite _ (h.wr _ _ rfl)

theorem State.Confined.raiseIf (h : State.Confined k p s t) (c : Bool) (b : Nat) : State.Confined k p s (t.raiseIf c p b) := by
  unfold State.raiseIf
  exact (h.raise b).ite _ h

theorem State.Confined.accErr (h : State.Confined k p s t) (ctx off : Nat) (w : Bool) (m : Nat) :
    State.Confined k p s (t.accErr p ctx off w m) := by
  refine h.trans ⟨fun q f j hf hq => t.rdI_accErr p ctx off w m hf (.inl hq), ?_⟩
  rw [t.accErr_regsOnly p ctx off w m]
  exact k.regs _ _

theorem State.Confined.foldl {β : Type} (l : List β) (f : State → β → State) (h : State.Confined k p s t)
    (hf : ∀ a, ∀ b ∈ l, State.Confined k p a (f a b)) : State.Confined k p s (l.foldl f t) := by
  induction l generalizing t with
  | nil => exact h
  | cons b l ih => exact ih (h.trans (hf t b (by simp))) fun a c hc => hf a c (by simp [hc])

theorem State.Confined.each (n : Nat) (f : Nat → State → State) (h : State.Confined k p s t)
    (hf : ∀ a i, i < n → State.Confined k p a (f i a)) : State.Confined k p s (t.each n f) :=
  h.foldl _ _ fun a i hi => hf a i (List.mem_range.1 hi)

end

/-- What a read of a register leaves: the memories, what is on its way, and the device time. -/
def behindReads := State.View.mk (fun s : State =>
  (s.shmem, s.tabs, s.image, s.gwTpl, s.cadTab, s.otp, s.frames, s.voqs, s.cmds, s.shadow, s.up, s.lanes, s.trunks)) fun _ _ => rfl

/-- What a command of a register window leaves. -/
def behindWindows := State.View.mk (fun s : State => (s.frames, s.voqs, s.cmds, s.lanes, s.trunks, s.otp, s.up)) fun _ _ => rfl

theorem State.Confined.window {p : Nat} {s u : State} (h : State.Confined behindReads p s u) : State.Confined behindWindows p s u := by
  refine ⟨h.regs, ?_⟩
  have hr := h.rest
  simp only [behindReads, behindWindows, Prod.mk.injEq] at hr ⊢
  tauto

/-! ### The pages of the blocks that a read changes -/

/-- The page of a block from its TCU and its number, for the blocks whose registers a read can change. -/
def Blk.page (b : Blk) (t n p : Nat) : Nat :=
  match b with
  | .tdc => pageTdc t n
  | .ptp => pagePtp t n
  | .cad => pageCad t
  | .gw => pageGw t
  | .port => pagePort n
  | .enge => pageEng n
  | .perfc => pagePerf n
  | .sample => pageSample
  | .eshared => pageEshared
  | .caldir => pageCaldir
  | _ => p

theorem pageBlk_below {p : Nat} {b : Blk} (h : pageBlk p = some b) : p < 0x250 := by
  by_contra hn
  have : pageBlk p = none := by
    unfold pageBlk
    simp (disch := omega) only [if_neg]
  rw [this] at h; cases h

/-- A page is that of its block, its TCU and its number. -/
theorem Blk.page_eq {p : Nat} {b : Blk} (h : pageBlk p = some b) : b.page (b2n (isTcuB p)) (pageIndex p) p = p := by
  have all : ∀ p < 0x250, ∀ b ∈ pageBlk p, b.page (b2n (isTcuB p)) (pageIndex p) p = p := by decide +kernel
  exact all p (pageBlk_below h) b h

end Sys2Proof.Machine
end

section
/-! SUPPORT. What the effects of a read change: each is confined to its page. -/

open Sys2Proof Sys2Proof.Machine
namespace Sys2Proof.Machine

/-- An element of an array stands within the page where a later one does. -/
theorem Fld.inPage_of_le {f : Fld} {i n : Nat} (h : i ≤ n) (hn : f.inPage n = true) : f.inPage i = true := by
  have := Nat.mul_le_mul_left f.stride h
  simp only [Fld.inPage, decide_eq_true_eq] at hn ⊢
  simp only [Fld.offAt] at hn ⊢
  omega

/-! ### What the reads of registers do -/

theorem State.setRes_confined (s : State) (p : Nat) (w : Cap) : State.Confined behindReads p s (s.setRes p w) := by
  unfold State.setRes
  exact .wrI (.wrI (.wrI (.wrI (.wrI (.refl s) _ _ _ rfl) _ _ _ rfl) _ _ _ rfl) _ _ _ rfl) _ _ _ rfl

theorem State.loadRes_confined (s : State) {t c p : Nat} (hp : pageTdc t c = p) : State.Confined behindReads p s (s.loadRes t c) :=
  hp ▸ s.setRes_confined _ _

theorem State.txtsLoad_confined (s : State) {t i p : Nat} (hp : pagePtp t i = p) : State.Confined behindReads p s (s.txtsLoad t i) := by
  subst hp
  unfold State.txtsLoad
  exact .each 4 _ (.refl s) fun a j hj => .wrI (.refl a) _ _ _ (Fld.inPage_of_le hj.le rfl)

theorem State.smpLoad_confined (s : State) : State.Confined behindReads pageSample s s.smpLoad := by
  unfold State.smpLoad
  exact .each 4 _ (.refl s) fun a j hj => .wrI (.refl a) _ _ _ (Fld.inPage_of_le hj.le rfl)

/-- The load of a read buffer before a read changes the page read alone (R79, R129, R341, R388). -/
theorem State.preRead_confined (s : State) {p : Nat} {b : Blk} (hb : pageBlk p = some b) (off : Nat) :
    State.Confined behindReads p s (s.preRead p b off) := by
  have hp := Blk.page_eq hb
  unfold State.preRead
  cases b
  case tdc => exact .ite _ (s.loadRes_confined hp) (.refl s)
  case ptp => exact .ite _ (s.txtsLoad_confined hp) (.refl s)
  case sample =>
    obtain rfl : pageSample = p := hp
    exact .ite _ s.smpLoad_confined (.refl s)
  case cave => exact .ite _ (.upd (.refl s) rfl rfl) (.refl s)
  all_goals exact .refl s

theorem State.rxfRead_confined (s : State) (p c : Nat) : State.Confined behindReads p s (s.rxfRead c).2 := by
  unfold State.rxfRead
  split
  · exact .upd (.refl s) rfl rfl
  · exact .upd (.refl s) rfl rfl
  · exact .refl s

theorem State.popRes_confined (s : State) {t c p : Nat} (hp : pageTdc t c = p) : State.Confined behindReads p s (s.popRes t c) := by
  subst hp
  unfold State.popRes State.showFifo
  refine .wr (.upd (.refl s) ?_ ?_) _ _ ?_ <;> rfl

theorem State.txtsPop_confined (s : State) {t i p : Nat} (hp : pagePtp t i = p) : State.Confined behindReads p s (s.txtsPop t i) := by
  subst hp
  unfold State.txtsPop
  refine .wr (.upd (.refl s) ?_ ?_) _ _ ?_ <;> rfl

theorem State.smpPop_confined (s : State) : State.Confined behindReads pageSample s s.smpPop := by
  unfold State.smpPop State.showRing
  refine .raiseIf (.wr (.upd (.refl s) ?_ ?_) _ _ ?_) _ _ <;> rfl

theorem State.ebRead_confined (s : State) {n p : Nat} (hp : pagePort n = p) : State.Confined behindReads p s (s.ebRead n) := by
  subst hp
  unfold State.ebRead
  exact .wr (.wr (.refl s) _ _ rfl) _ _ rfl

theorem State.octetsRead_confined (s : State) {n p : Nat} (hp : pagePort n = p) (tx : Bool) :
    State.Confined behindReads p s (s.octetsRead n tx).2 := by
  subst hp
  unfold State.octetsRead
  exact .upd (.wr (.refl s) (if tx then R.PORT.STAT_TX_OCTETS_HI else R.PORT.STAT_RX_OCTETS_HI) _ (by cases tx <;> decide)) rfl rfl

theorem State.slackClear_confined (s : State) {t n p : Nat} (hp : pageCad t = p) (h : n ≤ 11) :
    State.Confined behindReads p s (s.slackClear t n) := by
  subst hp
  unfold State.slackClear
  exact .wrI (.refl s) _ _ _ (Fld.inPage_of_le h rfl)

theorem State.cadErrClear_confined (s : State) (p t : Nat) : State.Confined behindReads p s (s.cadErrClear t) :=
  .ite _ (.refl s) (.upd (.refl s) rfl rfl)

theorem State.shNext_confined (s : State) : State.Confined behindReads pageEshared s s.shNext := by
  unfold State.shNext
  exact .wr (.refl s) _ _ rfl

theorem State.imgNext_confined (s : State) : State.Confined behindReads pageCaldir s s.imgNext := by
  unfold State.imgNext
  exact .wr (.refl s) _ _ rfl

theorem State.perfCapture_confined (s : State) (n addr task : Nat) : State.Confined behindReads (pagePerf n) s (s.perfCapture n addr task) := by
  unfold State.perfCapture
  exact .wr (.wr (.wr (.wr (.refl s) _ _ rfl) _ _ rfl) _ _ rfl) _ _ rfl

theorem State.Confined.onPerf {p : Nat} {s t : State} (h : State.Confined behindReads p s t) (n : Nat) (f : Perf → Perf) :
    State.Confined behindReads p s (t.onPerf n f) := h.upd rfl rfl

theorem State.perfAdd_confined (s : State) (n k addr task : Nat) : State.Confined behindReads (pagePerf n) s (s.perfAdd n k addr task) := by
  unfold State.perfAdd State.addI
  dsimp only
  split
  · exact .onPerf (.refl s) _ _
  · refine .trans ?_ (State.perfCapture_confined _ _ _ _)
    exact .wrI (.raise (.onPerf (.refl s) _ _) _) _ _ _ (by decide)

theorem State.perfTake_confined (s : State) (n : Nat) : State.Confined behindReads (pagePerf n) s (s.perfTake n) :=
  .ite _ (.refl s) (.upd (s.perfAdd_confined _ _ _ _) rfl rfl)

theorem State.perfLatch_confined (s : State) {n p : Nat} (hp : pagePerf n = p) : State.Confined behindReads p s (s.perfLatch n) := by
  subst hp
  unfold State.perfLatch
  exact .wr (s.perfTake_confined n) _ _ rfl

/-- What a read brings about once its value is taken changes the page read alone. -/
theorem State.postRead_confined (s : State) {p : Nat} {b : Blk} (hb : pageBlk p = some b) (off : Nat) :
    State.Confined behindReads p s (s.postRead p b off) := by
  have hp := Blk.page_eq hb
  unfold State.postRead
  cases b
  case hc => exact .ite _ (s.rxfRead_confined _ _) (.refl s)
  case tdc => exact .ite _ (s.popRes_confined hp) (.refl s)
  case ptp => exact .ite _ (s.txtsPop_confined hp) (.refl s)
  case sample =>
    obtain rfl : pageSample = p := hp
    exact .ite _ s.smpPop_confined (.refl s)
  case port =>
    exact .ite _ (s.ebRead_confined hp) (.ite _ (s.octetsRead_confined hp _) (.ite _ (s.octetsRead_confined hp _)
      (.ite _ (.upd (.refl s) rfl rfl) (.refl s))))
  case cad =>
    refine .ite _ (s.cadErrClear_confined _ _) ?_
    split
    case isTrue h => exact s.slackClear_confined hp (by omega)
    case isFalse => exact .refl s
  case gw => exact .ite _ (.upd (.refl s) rfl rfl) (.refl s)
  case mact => exact .ite _ (.wr (.refl s) _ _ rfl) (.refl s)
  case lpm => exact .ite _ (.wr (.refl s) _ _ rfl) (.refl s)
  case shadow => exact .ite _ (.wr (.refl s) _ _ rfl) (.refl s)
  case enge => exact .ite _ (.upd (.refl s) rfl rfl) (.refl s)
  case eshared =>
    obtain rfl : pageEshared = p := hp
    exact .ite _ s.shNext_confined (.refl s)
  case perfc => exact .ite _ (s.perfLatch_confined hp) (.refl s)
  case caldir =>
    obtain rfl : pageCaldir = p := hp
    exact .ite _ s.imgNext_confined (.refl s)
  all_goals exact .refl s

end Sys2Proof.Machine
end

section
/-! SUPPORT. A read and a write of the register window, each confined to its page. -/

open Sys2Proof Sys2Proof.Machine
namespace Sys2Proof.Machine

/-! ### A read of the register window -/

/-- The numbers 16 and 17 of E0 and E1 are those of no context. -/
theorem State.engineReaches_ctx (s : State) {ctx : Nat} (h : ctx < 4) (a : Nat) (w : Bool) : s.engineReaches ctx a w = false := by
  have h16 : ctx ≠ 16 := by omega
  have h17 : ctx ≠ 17 := by omega
  simp [State.engineReaches, h16, h17]

theorem addrOff_le (a : Nat) : addrOff a ≤ 4092 := by
  unfold addrOff; omega

/-- The fields of a register stand within its page. -/
theorem State.addrFields_inPage (s : State) {a i : Nat} {f : Fld} (h : (f, i) ∈ s.addrFields a) : f.inPage i = true := by
  unfold State.addrFields at h
  split at h
  · simp at h
  · split at h
    · simp at h
    · exact inPage_of_mem_fieldsAt (addrOff_le a) h

theorem State.clearRead_confined (s : State) (p a : Nat) (t : State) :
    State.Confined behindReads p t (t.clearRead p (s.addrFields a)) := by
  unfold State.clearRead
  exact .foldl _ _ (.refl t) fun u fi hfi => .ite _ (.wrI (.refl u) _ _ _ (s.addrFields_inPage hfi)) (.refl u)

theorem errPage_of_blk {a : Nat} {b : Blk} (ctx : Nat) (h : pageBlk (addrPage a) = some b) : errPage ctx a = addrPage a := by
  simp [errPage, h]

/-- A read changes registers of the page that records its error alone: the page addressed, or the reader's own (R34). -/
theorem State.readVal_confined (s : State) (ctx a size : Nat) :
    State.Confined behindReads (errPage ctx a) s (s.readVal ctx a size).2 := by
  unfold State.readVal
  dsimp only
  split
  · exact .accErr (.refl s) _ _ _ _
  split
  · exact .refl s
  next b hb =>
    rw [errPage_of_blk ctx hb]
    split
    · exact .refl s
    · exact ((s.preRead_confined hb _).trans (State.postRead_confined _ hb _)).trans (s.clearRead_confined _ a _)

theorem State.hostRead_confined (s : State) {ctx : Nat} (a size : Nat) :
    State.Confined behindReads (errPage ctx a) s (s.hostRead ctx a size) := by
  unfold State.hostRead
  exact .ite _ (.refl s) (.upd (s.readVal_confined ctx a size) rfl rfl)

theorem State.Confined.settle {p : Nat} {s t : State} (h : State.Confined behindReads p s t) : State.Confined behindReads p s t.settle :=
  h.upd (by simp) (by simp [behindReads])

theorem State.Confined.settle_window {p : Nat} {s t : State} (h : State.Confined behindWindows p s t) :
    State.Confined behindWindows p s t.settle :=
  h.upd (by simp) (by simp [behindWindows])

theorem State.read_confined (s : State) (ctx : Nat) {p off : Nat} {b : Blk} (hb : pageBlk p = some b) (ho : off < 4096) :
    State.Confined behindWindows p s (s.read ctx p off).settle := by
  have h := (s.hostRead_confined (ctx := ctx) (regAddr p off) 4).settle.window
  have hp := addrPage_reg (pageBlk_lt hb) ho
  rwa [errPage_of_blk (b := b) ctx (by rw [hp, hb]), hp] at h

/-! ### A write of the register window -/

theorem State.fieldWrite_confined (old : State) (p : Nat) (b : Blk) (v : Nat) {fi : Fld × Nat} (h : fi.1.inPage fi.2 = true) (s : State) :
    State.Confined behindWindows p s (old.fieldWrite p b v fi s) := by
  unfold State.fieldWrite
  dsimp only
  split
  · exact .refl s
  split
  case h_1 => exact .refl s
  case h_2 => exact .refl s
  case h_3 => exact .ite _ (.upd (.refl s) rfl rfl) (.wrI (.refl s) _ _ _ h)
  case h_4 => exact .ite _ (.upd (.refl s) rfl rfl) (.wrI (.refl s) _ _ _ h)
  case h_5 => exact .wrI (.refl s) _ _ _ h
  case h_6 => exact .wrI (.refl s) _ _ _ h

theorem State.releaseCapture_confined (s : State) (p : Nat) : State.Confined behindWindows p s (s.releaseCapture p) := by
  unfold State.releaseCapture
  exact .ite _ (.wr (.refl s) _ _ rfl) (.refl s)

/-- A write by a context changes registers of the page addressed alone where the register's own effect does. -/
theorem State.write_confined (s : State) {ctx p off v : Nat} {b : Blk} (hctx : ctx < 4) (hb : pageBlk p = some b) (ho : off < 4096)
    (h4 : off % 4 = 0) (he : ∀ t, State.Confined behindWindows p t (s.regEffect ctx p off (v % 2 ^ 32) t)) :
    State.Confined behindWindows p s (s.write ctx p off v).settle := by
  refine State.Confined.settle_window ?_
  have hp := addrPage_reg (pageBlk_lt hb) ho
  unfold State.write State.hostWrite State.checkedWrite
  dsimp only
  rw [s.engineReaches_ctx hctx, hp, addrOff_reg ho h4, hb]
  split
  · refine .ite _ (.accErr (.refl s) _ _ _ _) (.accErr (.trans ?_ (he _)) _ _ _ _)
    have hf : State.Confined behindWindows p s ((s.addrFields (regAddr p off)).foldl (fun t fi => s.fieldWrite p b (v % 2 ^ 32) fi t) s) :=
      .foldl _ _ (.refl s) fun t fi hfi => s.fieldWrite_confined p b _ (s.addrFields_inPage hfi) t
    exact .ite _ (hf.trans (State.releaseCapture_confined _ _)) hf
  · rw [if_neg (by simp)]
    exact .refl s

end Sys2Proof.Machine
end

section
/-! SUPPORT. What the command registers of the windows do: each effect is confined to its page. -/

open Sys2Proof Sys2Proof.Machine
namespace Sys2Proof.Machine

/-! ### What the writes of command registers do -/

theorem State.accepted_confined (s : State) (p : Nat) (fs : List Fld) (h : ∀ f ∈ fs, f.inPage 0 = true) :
    State.Confined behindWindows p s (s.accepted p fs) := by
  unfold State.accepted
  exact .foldl _ _ (.refl s) fun a f hf => .wr (.refl a) _ _ (h f hf)

theorem State.Confined.onTdc {p : Nat} {s u : State} (h : State.Confined behindWindows p s u) (t c : Nat) (f : Tdc → Tdc) :
    State.Confined behindWindows p s (u.onTdc t c f) := h.upd rfl rfl

theorem State.setArmed_confined (s : State) (t c : Nat) (b : Bool) : State.Confined behindWindows (pageTdc t c) s (s.setArmed t c b) := by
  unfold State.setArmed
  exact .wr (.wr (.onTdc (.refl s) _ _ _) _ _ rfl) _ _ rfl

theorem State.armInternal_confined (s : State) (t c k : Nat) : State.Confined behindWindows (pageTdc t c) s (s.armInternal t c k) := by
  unfold State.armInternal
  exact .ite _ (.onTdc (s.setArmed_confined t c true) _ _ _) (.refl s)

theorem State.cadRead_confined (s : State) (p : Nat) : State.Confined behindWindows p s (s.cadRead p) := by
  unfold State.cadRead
  refine .wr (.wr (.wr (.each 4 _ (.refl s) fun a i hi => ?_) _ _ rfl) _ _ rfl) _ _ rfl
  unfold State.cadStage
  exact .wrI (.wrI (.wrI (.wrI (.refl a) _ _ _ (Fld.inPage_of_le hi.le rfl)) _ _ _ (Fld.inPage_of_le hi.le rfl)) _ _ _
    (Fld.inPage_of_le hi.le rfl)) _ _ _ (Fld.inPage_of_le hi.le rfl)

theorem gwWords_inPage : ∀ ws ∈ R.GW.words, ∀ f ∈ ws, f.inPage 0 = true := by decide

theorem State.gwRead_confined (s : State) (p : Nat) : State.Confined behindWindows p s (s.gwRead p) := by
  unfold State.gwRead
  refine .wr (.each 8 _ (.refl s) fun a i hi => .foldl _ _ (.refl a) fun b f hf => .wr (.refl b) _ _ ?_) _ _ rfl
  by_cases hi : i < R.GW.words.length
  · exact gwWords_inPage _ (List.getElem_mem hi) f (by simpa [hi] using hf)
  · simp [hi] at hf

theorem State.showStaged_confined (s : State) (e : Nat) : State.Confined behindWindows (pageEng e) s (s.showStaged e) :=
  .wr (.refl s) _ _ rfl

theorem State.mbxStage_confined (s : State) (e v : Nat) : State.Confined behindWindows (pageEng e) s (s.mbxStage e v) := by
  unfold State.mbxStage
  refine .trans (.upd (.refl s) ?_ ?_) (State.showStaged_confined _ e) <;> rfl

theorem State.mbxClear_confined (s : State) (e : Nat) : State.Confined behindWindows (pageEng e) s (s.mbxClear e) := by
  unfold State.mbxClear
  refine .trans (.upd (.refl s) ?_ ?_) (State.showStaged_confined _ e) <;> rfl

theorem State.enqueueMsg_confined (s : State) (e : Nat) {t : Nat} (ht : t < 16) (m : Msg) :
    State.Confined behindWindows (pageEng e) s (s.enqueueMsg e t m) := by
  unfold State.enqueueMsg State.setTask
  have h : State.Confined behindWindows (pageEng e) s (((s.setInbox e t (s.inbox e t ++ [m])).event 0x2A e 1).emit
      (.message e t (m.len + m.src * 2 ^ 16 + m.typ * 2 ^ 24) m.tag m.payload)) := .upd (.refl s) rfl rfl
  exact .ite _ (.wrI h _ _ _ (Fld.inPage_of_le ht.le rfl)) h

theorem State.mbxPush_confined (s : State) (ctx e : Nat) : State.Confined behindWindows (pageEng e) s (s.mbxPush ctx e) := by
  unfold State.mbxPush
  dsimp only
  have h : State.Confined behindWindows (pageEng e) s (((s.wr (pageEng e) R.ENGE.MBX_STAT_FULL 0).wr (pageEng e) R.ENGE.MBX_STAT_SHORT 0).wr
      (pageEng e) R.ENGE.MBX_PUSH_PUSH 0) := .wr (.wr (.wr (.refl s) _ _ rfl) _ _ rfl) _ _ rfl
  exact .ite _ (.wr h _ _ rfl) (.ite _ (.wr h _ _ rfl) ((h.trans (State.enqueueMsg_confined _ e (State.rd_lt s _ R.ENGE.MBX_SEL) _)).trans
    (State.mbxClear_confined _ e)))

theorem State.shWrite_confined (s : State) (v : Nat) : State.Confined behindWindows pageEshared s (s.shWrite v) := by
  unfold State.shWrite
  refine .trans (.upd (.refl s) ?_ ?_) (State.shNext_confined _).window <;> rfl

theorem State.imgWrite_confined (s : State) (v : Nat) : State.Confined behindWindows pageCaldir s (s.imgWrite v) := by
  unfold State.imgWrite
  refine .trans ?_ (State.imgNext_confined _).window
  exact .ite _ (.refl s) (.upd (.refl s) rfl rfl)

theorem State.voqLatch_confined (s : State) : State.Confined behindWindows pageVoq s s.voqLatch := by
  unfold State.voqLatch
  exact .wr (.wr (.wr (.wr (.wr (.refl s) _ _ rfl) _ _ rfl) _ _ rfl) _ _ rfl) _ _ rfl

theorem State.gateWrite_confined (s : State) : State.Confined behindWindows pageGate s s.gateWrite := by
  unfold State.gateWrite
  refine .ite _ (.wr (.refl s) _ _ rfl) (.ite _ (.wr (.refl s) _ _ rfl) (.wr (.upd (.refl s) ?_ ?_) _ _ ?_)) <;> rfl

theorem State.gateRead_confined (s : State) : State.Confined behindWindows pageGate s s.gateRead := by
  unfold State.gateRead
  exact .wr (.wr (.wr (.refl s) _ _ rfl) _ _ rfl) _ _ rfl

theorem State.accruePort_confined (s : State) (p q : Nat) : State.Confined behindWindows p s (s.accruePort q) := by
  unfold State.accruePort
  exact .foldl _ _ (.refl s) fun a n _ => .ite _ (.upd (.refl a) rfl rfl) (.refl a)

theorem State.shpBusy_confined (s : State) (p : Nat) : State.Confined behindWindows p s s.shpBusy := .upd (.refl s) rfl rfl

/-- A write of the shaper window that is held until the page's commit. -/
theorem State.shpWrite_confined (s : State) : State.Confined behindWindows pageShape s (s.shpWrite true) := by
  unfold State.shpWrite
  have h := s.shpBusy_confined pageShape
  refine .ite _ (.raise (.wr h _ _ rfl) _) ?_
  rw [if_pos rfl]
  have hAccepted : State.Confined behindWindows pageShape s (s.shpBusy.wr pageShape R.SHAPE.SHP_STAT_REJECT 0) := .wr h _ _ rfl
  refine .wr (.upd hAccepted ?_ ?_) _ _ ?_ <;> rfl

theorem State.shpRead_confined (s : State) : State.Confined behindWindows pageShape s s.shpRead := by
  unfold State.shpRead State.wrSat
  have h := (s.shpBusy_confined pageShape).trans
    (State.accruePort_confined s.shpBusy pageShape (nodePort (s.shpBusy.rd pageShape R.SHAPE.SHP_SEL)))
  iterate 13 refine .wr ?_ _ _ rfl
  exact h

theorem State.suMark_confined (s : State) (p u : Nat) : State.Confined behindWindows p s (s.suMark u) := by
  unfold State.suMark
  exact .upd (.refl s) rfl rfl

theorem State.slotUse_confined (s : State) (p : Nat) (f : Store Nat → Store Nat) :
    State.Confined behindWindows p s { s with slotUse := f s.slotUse } := .upd (.refl s) rfl rfl

theorem State.suTake_confined (s : State) (p u : Nat) (w : List Nat) : State.Confined behindWindows p s (s.suTake u w) := by
  unfold State.suTake
  refine .ite _ (.refl s) (.trans (.each _ _ (.refl s) fun a k _ => ?_) (State.suMark_confined _ p u))
  exact a.slotUse_confined p fun m => put 0 m (8 * u + k) ((look 0 m (8 * u + k) + (s.suSlots u w).getD k 0) % 2 ^ 48)

theorem State.suSnap_confined (s : State) (w : List Nat) : State.Confined behindWindows pageSu s (s.suSnap w) := by
  unfold State.suSnap
  refine .wr (.wr (.each 10 _ (.refl s) fun a u hu => .each _ _ (a.suTake_confined _ _ _) fun b k hk => ?_) _ _ rfl) _ _ rfl
  have hk : 16 * u + 2 * k + 1 ≤ 158 := by
    have : slotCats u ≤ 7 := by unfold slotCats; split <;> omega
    omega
  exact .wrI (.wrI (.refl b) _ _ _ (Fld.inPage_of_le (Nat.le_of_succ_le hk) rfl)) _ _ _ (Fld.inPage_of_le hk rfl)

end Sys2Proof.Machine
end

section
/-! SUPPORT. The effect of a write of each window's command register on its own page. -/

open Sys2Proof Sys2Proof.Machine
namespace Sys2Proof.Machine

/-! ### The pages of the replicated blocks -/

theorem pageBlk_pageTdc {t c : Nat} (ht : t < 2) (hc : c < 24) : pageBlk (pageTdc t c) = some .tdc :=
  (show ∀ t < 2, ∀ c < 24, pageBlk (pageTdc t c) = some .tdc by decide) t ht c hc

theorem pageBlk_pagePtp {t i : Nat} (ht : t < 2) (hi : i < 2) : pageBlk (pagePtp t i) = some .ptp :=
  (show ∀ t < 2, ∀ i < 2, pageBlk (pagePtp t i) = some .ptp by decide) t ht i hi

theorem pageBlk_pageCad {t : Nat} (ht : t < 2) : pageBlk (pageCad t) = some .cad :=
  (show ∀ t < 2, pageBlk (pageCad t) = some .cad by decide) t ht

theorem pageBlk_pageGw {t : Nat} (ht : t < 2) : pageBlk (pageGw t) = some .gw :=
  (show ∀ t < 2, pageBlk (pageGw t) = some .gw by decide) t ht

theorem pageBlk_pageEng {e : Nat} (he : e < 8) : pageBlk (pageEng e) = some .enge :=
  (show ∀ e < 8, pageBlk (pageEng e) = some .enge by decide) e he

theorem pageBlk_pagePort {p : Nat} (hp : p < 48) : pageBlk (pagePort p) = some .port :=
  (show ∀ p < 48, pageBlk (pagePort p) = some .port by decide) p hp

theorem pageBlk_pageHC {c : Nat} (hc : c < 4) : pageBlk (pageHC c) = some .hc :=
  (show ∀ c < 4, pageBlk (pageHC c) = some .hc by decide) c hc

theorem pageBlk_pagePerf {n : Nat} (hn : n < 64) : pageBlk (pagePerf n) = some .perfc :=
  (show ∀ n < 64, pageBlk (pagePerf n) = some .perfc by decide) n hn

/-! ### The effect of a write on its own page

Where the window is open, the effect of a write of a block register is its block's; where it is shut there is none (R403). -/

section
variable {s t : State} {ctx v p : Nat}

theorem State.regEffect_tdcArmNow (hb : pageBlk p = some .tdc) : State.Confined behindWindows p t (s.regEffect ctx p 0x044 v t) := by
  have hp : pageTdc (b2n (isTcuB p)) (pageIndex p) = p := Blk.page_eq hb
  have h := t.armInternal_confined (b2n (isTcuB p)) (pageIndex p) 0
  have hr : State.Confined behindWindows p t (if bitAt v 0 then (t.armInternal (b2n (isTcuB p)) (pageIndex p) 0).wr
      (pageTdc (b2n (isTcuB p)) (pageIndex p)) R.TDC.TDC_ARM_NOW_NOW 0 else t) := by
    rw [hp] at h ⊢
    exact .ite _ (.wr h _ _ rfl) (.refl t)
  unfold State.regEffect
  rw [hb]
  exact .ite _ (.refl t) hr

theorem State.regEffect_cadRead (hb : pageBlk p = some .cad) : State.Confined behindWindows p t (s.regEffect ctx p 0x064 2 t) := by
  unfold State.regEffect
  rw [hb]
  exact .ite _ (.refl t) ((t.cadRead_confined p).trans (State.accepted_confined _ p _ (by decide)))

theorem State.regEffect_gwRead (hb : pageBlk p = some .gw) : State.Confined behindWindows p t (s.regEffect ctx p 0x070 2 t) := by
  unfold State.regEffect
  rw [hb]
  exact .ite _ (.refl t) ((t.gwRead_confined p).trans (State.accepted_confined _ p _ (by decide)))

theorem State.regEffect_mbxStage (hb : pageBlk p = some .enge) : State.Confined behindWindows p t (s.regEffect ctx p 0x05C v t) := by
  have hp : pageEng (pageIndex p) = p := Blk.page_eq hb
  have h := t.mbxStage_confined (pageIndex p) v
  rw [hp] at h
  unfold State.regEffect
  rw [hb]
  exact .ite _ (.refl t) h

theorem State.regEffect_mbxPush (hb : pageBlk p = some .enge) : State.Confined behindWindows p t (s.regEffect ctx p 0x060 1 t) := by
  have hp : pageEng (pageIndex p) = p := Blk.page_eq hb
  have h := (t.mbxPush_confined ctx (pageIndex p)).trans
    (State.accepted_confined _ _ [R.ENGE.MBX_PUSH_PUSH, R.ENGE.MBX_PUSH_CLEAR] (by decide))
  have hr : State.Confined behindWindows p t ((t.mbxPush ctx (pageIndex p)).accepted (pageEng (pageIndex p))
      [R.ENGE.MBX_PUSH_PUSH, R.ENGE.MBX_PUSH_CLEAR]) := by
    rw [hp] at h ⊢; exact h
  unfold State.regEffect
  rw [hb]
  exact .ite _ (.refl t) hr

theorem State.regEffect_mbxClear (hb : pageBlk p = some .enge) : State.Confined behindWindows p t (s.regEffect ctx p 0x060 2 t) := by
  have hp : pageEng (pageIndex p) = p := Blk.page_eq hb
  have h := (t.mbxClear_confined (pageIndex p)).trans
    (State.accepted_confined _ _ [R.ENGE.MBX_PUSH_PUSH, R.ENGE.MBX_PUSH_CLEAR] (by decide))
  have hr : State.Confined behindWindows p t ((t.mbxClear (pageIndex p)).accepted (pageEng (pageIndex p))
      [R.ENGE.MBX_PUSH_PUSH, R.ENGE.MBX_PUSH_CLEAR]) := by
    rw [hp] at h ⊢; exact h
  unfold State.regEffect
  rw [hb]
  exact .ite _ (.refl t) hr

theorem State.regEffect_mbxPop (hb : pageBlk p = some .enge) : State.Confined behindWindows p t (s.regEffect ctx p 0x07C 1 t) := by
  have hp : pageEng (pageIndex p) = p := Blk.page_eq hb
  have h : State.Confined behindWindows p t (t.mbxPop (pageIndex p)) := .upd (.refl t) rfl rfl
  have hr := h.trans (State.accepted_confined (t.mbxPop (pageIndex p)) p [R.ENGE.MBX_OUT_POP_POP] (by decide))
  unfold State.regEffect
  rw [hb]
  refine .ite _ (.refl t) ?_
  show State.Confined behindWindows p t ((t.mbxPop (pageIndex p)).accepted (pageEng (pageIndex p)) [R.ENGE.MBX_OUT_POP_POP])
  rw [hp]
  exact hr

theorem State.regEffect_shWrite : State.Confined behindWindows pageEshared t (s.regEffect ctx pageEshared 0x044 v t) :=
  .ite _ (.refl t) (t.shWrite_confined v)

theorem State.regEffect_imgWrite : State.Confined behindWindows pageCaldir t (s.regEffect ctx pageCaldir 0x054 v t) :=
  .ite _ (.refl t) (t.imgWrite_confined v)

theorem State.regEffect_voqLatch : State.Confined behindWindows pageVoq t (s.regEffect ctx pageVoq 0x040 v t) :=
  .ite _ (.refl t) t.voqLatch_confined

theorem State.regEffect_shpWrite : State.Confined behindWindows pageShape t (s.regEffect ctx pageShape 0x058 5 t) :=
  .ite _ (.refl t) (t.shpWrite_confined.trans (State.accepted_confined _ _ _ (by decide)))

theorem State.regEffect_shpRead : State.Confined behindWindows pageShape t (s.regEffect ctx pageShape 0x058 2 t) :=
  .ite _ (.refl t) (t.shpRead_confined.trans (State.accepted_confined _ _ _ (by decide)))

theorem State.regEffect_gateWrite : State.Confined behindWindows pageGate t (s.regEffect ctx pageGate 0x04C 1 t) :=
  .ite _ (.refl t) (t.gateWrite_confined.trans (State.accepted_confined _ _ _ (by decide)))

theorem State.regEffect_gateRead : State.Confined behindWindows pageGate t (s.regEffect ctx pageGate 0x04C 2 t) :=
  .ite _ (.refl t) (t.gateRead_confined.trans (State.accepted_confined _ _ _ (by decide)))

theorem State.regEffect_su : s.regEffect ctx pageSu 0x040 1 t =
    if s.windowShut pageSu 0x040 then t else (t.suSnap (Config.slotsUsed t.free)).bump := rfl

theorem State.bump_confined (u : State) (p : Nat) : State.Confined behindWindows p u u.bump := by
  unfold State.bump
  exact .upd (.refl u) rfl rfl

theorem State.regEffect_suSnap : State.Confined behindWindows pageSu t (s.regEffect ctx pageSu 0x040 1 t) := by
  rw [State.regEffect_su]
  exact .ite _ (.refl t) ((t.suSnap_confined _).trans (State.bump_confined _ _))

theorem State.perfSet_confined (u : State) (p n v : Nat) : State.Confined behindWindows p u (u.perfSet n v) := by
  unfold State.perfSet State.onPerf
  exact .upd (.refl u) rfl rfl

theorem State.regEffect_perfSet (hb : pageBlk p = some .perfc) : State.Confined behindWindows p t (s.regEffect ctx p 0x044 v t) := by
  unfold State.regEffect
  rw [hb]
  exact .ite _ (.refl t) (t.perfSet_confined p _ v)

end

end Sys2Proof.Machine
end

section
/-! SUPPORT. The commands that read or write one register of a window, and O47. -/

open Sys2Proof Sys2Proof.Machine
namespace Sys2Proof.Machine

/-! ### The commands that read or write one register -/

theorem settle_of_done {t u : State} (h : done t = .next u) : t.settle = u := Host.Outcome.next.inj h

/-- What a read leaves, by name. -/
theorem State.Confined.reads_rest {p : Nat} {s u : State} (h : State.Confined behindReads p s u) :
    u.shmem = s.shmem ∧ u.tabs = s.tabs ∧ u.image = s.image ∧ u.gwTpl = s.gwTpl ∧ u.cadTab = s.cadTab ∧ u.otp = s.otp ∧
    u.frames = s.frames ∧ u.voqs = s.voqs ∧ u.cmds = s.cmds ∧ u.shadow = s.shadow ∧ u.up = s.up := by
  have hr := h.rest
  simp only [behindReads, Prod.mk.injEq] at hr
  tauto

/-- What a command of a window leaves, by name. -/
theorem State.Confined.windows_rest {p : Nat} {s u : State} (h : State.Confined behindWindows p s u) :
    u.frames = s.frames ∧ u.voqs = s.voqs ∧ u.cmds = s.cmds ∧ u.lanes = s.lanes ∧ u.trunks = s.trunks ∧ u.otp = s.otp ∧ u.up = s.up := by
  have hr := h.rest
  simpa only [behindWindows, Prod.mk.injEq] using hr

section
variable {s u : State} {ctx p q off : Nat} {b : Blk}

/-- A read of one register changes that page alone. -/
theorem confined_of_read (hq : q = p) (hb : pageBlk p = some b) (ho : off < 4096) (hu : done (s.read ctx q off) = .next u) :
    State.Confined behindWindows p s u := by
  subst hq
  exact settle_of_done hu ▸ s.read_confined ctx hb ho

/-- A write of one register changes that page alone where the register's own effect does. -/
theorem confined_of_write {v : Nat} (hctx : ctx < 4) (hq : q = p) (hb : pageBlk p = some b) (ho : off < 4096) (h4 : off % 4 = 0)
    (he : ∀ t, State.Confined behindWindows p t (s.regEffect ctx p off (v % 2 ^ 32) t)) (hu : done (s.write ctx q off v) = .next u) :
    State.Confined behindWindows p s u := by
  subst hq
  exact settle_of_done hu ▸ s.write_confined hctx hb ho h4 he

end

/-- The commands of O47 that read one register, each with the page that it reads. -/
def readCommands (ctx t c e n k v : Nat) (b : Bool) : List (Nat × Instr) :=
  [(pageTdc t c, Instr.tdcRes0Read ctx t c), (pageTdc t c, .tdcRes4Read ctx t c),
    (pagePtp t (c % 2), .ptpTxts0Read ctx t (c % 2)), (pagePtp t (c % 2), .ptpTxts3Read ctx t (c % 2)), (pageEng e, .mbxOutDataRead ctx e),
    (pageEshared, .shDataAccess ctx false v), (pageSample, .smpRd0Read ctx), (pageSample, .smpRd3Read ctx),
    (pagePort k, .statOctetsLoRead ctx k b), (pageHC ctx, .pktRxfDataRead ctx), (pagePerf n, .pcValLoRead ctx n),
    (pageCaldir, .calImgDataAccess ctx false v)]

/-- The commands of O47 that write one register, each with the page that it writes. -/
def writeCommands (ctx t c e n v : Nat) : List (Nat × Instr) :=
  [(pageTdc t c, Instr.tdcArmNow ctx t c), (pageCad t, .cadTblRead ctx t), (pageGw t, .gwTplRead ctx t),
    (pageEng e, .mbxPush ctx e), (pageEng e, .mbxClear ctx e), (pageEng e, .mbxDataWrite ctx e v), (pageEng e, .mbxOutPop ctx e),
    (pageEshared, .shDataAccess ctx true v), (pageVoq, .voqSelWrite ctx v), (pageShape, .shpWrite ctx true), (pageShape, .shpRead ctx),
    (pageGate, .gateWrite ctx), (pageGate, .gateRead ctx), (pagePerf n, .pcValLoWrite ctx n v), (pageSu, .suSnap ctx),
    (pageCaldir, .calImgDataAccess ctx true v)]

section
variable {s u : State} {ctx t c e n k p v : Nat} {b : Bool} {i : Instr} (hctx : ctx < 4) (ht : t < 2) (hc : c < 24) (he : e < 8) (hn : n < 64)
include hctx ht hc he hn

/-- Each command that reads one register of a window changes the register's page alone. -/
theorem confined_of_readCommand (hk : k < 48) (hi : (p, i) ∈ readCommands ctx t c e n k v b)
    (hu : exec i s = .next u) : State.Confined behindWindows p s u := by
  have htdc := congrArg₂ pageTdc (Nat.mod_eq_of_lt ht) (Nat.mod_eq_of_lt hc)
  have hptp := congrArg₂ pagePtp (Nat.mod_eq_of_lt ht) (Nat.mod_mod c 2)
  have heng := congrArg pageEng (Nat.mod_eq_of_lt he)
  have hbTdc := pageBlk_pageTdc ht hc
  have hbPtp := pageBlk_pagePtp ht (Nat.mod_lt c two_pos)
  simp only [readCommands, List.mem_cons, List.not_mem_nil, or_false, Prod.mk.injEq] at hi
  rcases hi with ⟨rfl, rfl⟩ | ⟨rfl, rfl⟩ | ⟨rfl, rfl⟩ | ⟨rfl, rfl⟩ | ⟨rfl, rfl⟩ | ⟨rfl, rfl⟩ | ⟨rfl, rfl⟩ | ⟨rfl, rfl⟩ |
    ⟨rfl, rfl⟩ | ⟨rfl, rfl⟩ | ⟨rfl, rfl⟩ | ⟨rfl, rfl⟩
  · exact confined_of_read (off := 0x070) htdc hbTdc (by decide) hu
  · exact confined_of_read (off := 0x080) htdc hbTdc (by decide) hu
  · exact confined_of_read (off := 0x0A0) hptp hbPtp (by decide) hu
  · exact confined_of_read (off := 0x0AC) hptp hbPtp (by decide) hu
  · exact confined_of_read (off := 0x078) heng (pageBlk_pageEng he) (by decide) hu
  · exact confined_of_read (off := 0x044) rfl (b := .eshared) rfl (by decide) hu
  · exact confined_of_read (off := 0x060) rfl (b := .sample) rfl (by decide) hu
  · exact confined_of_read (off := 0x06C) rfl (b := .sample) rfl (by decide) hu
  · cases b
    · exact confined_of_read (off := 0x144) (congrArg pagePort (Nat.mod_eq_of_lt hk)) (pageBlk_pagePort hk) (by decide) hu
    · exact confined_of_read (off := 0x150) (congrArg pagePort (Nat.mod_eq_of_lt hk)) (pageBlk_pagePort hk) (by decide) hu
  · exact confined_of_read (off := 0x184) rfl (pageBlk_pageHC hctx) (by decide) hu
  · exact confined_of_read (off := 0x044) (congrArg pagePerf (Nat.mod_eq_of_lt hn)) (pageBlk_pagePerf hn) (by decide) hu
  · exact confined_of_read (off := 0x054) rfl (b := .caldir) rfl (by decide) hu

/-- Each command that writes one register of a window changes the register's page alone. -/
theorem confined_of_writeCommand (hi : (p, i) ∈ writeCommands ctx t c e n v) (hu : exec i s = .next u) : State.Confined behindWindows p s u := by
  have ht2 := Nat.mod_eq_of_lt ht
  have heng := congrArg pageEng (Nat.mod_eq_of_lt he)
  have hbTdc := pageBlk_pageTdc ht hc
  have hbCad := pageBlk_pageCad ht
  have hbGw := pageBlk_pageGw ht
  have hbEng := pageBlk_pageEng he
  have hbPerf := pageBlk_pagePerf hn
  simp only [writeCommands, List.mem_cons, List.not_mem_nil, or_false, Prod.mk.injEq] at hi
  rcases hi with ⟨rfl, rfl⟩ | ⟨rfl, rfl⟩ | ⟨rfl, rfl⟩ | ⟨rfl, rfl⟩ | ⟨rfl, rfl⟩ | ⟨rfl, rfl⟩ | ⟨rfl, rfl⟩ | ⟨rfl, rfl⟩ |
    ⟨rfl, rfl⟩ | ⟨rfl, rfl⟩ | ⟨rfl, rfl⟩ | ⟨rfl, rfl⟩ | ⟨rfl, rfl⟩ | ⟨rfl, rfl⟩ | ⟨rfl, rfl⟩ | ⟨rfl, rfl⟩
  · exact confined_of_write (off := 0x044) (v := 1) hctx (congrArg₂ pageTdc ht2 (Nat.mod_eq_of_lt hc)) hbTdc (by decide) rfl
      (fun _ => State.regEffect_tdcArmNow hbTdc) hu
  · exact confined_of_write (off := 0x064) (v := 2) hctx (congrArg pageCad ht2) hbCad (by decide) rfl (fun _ => State.regEffect_cadRead hbCad) hu
  · exact confined_of_write (off := 0x070) (v := 2) hctx (congrArg pageGw ht2) hbGw (by decide) rfl (fun _ => State.regEffect_gwRead hbGw) hu
  · exact confined_of_write (off := 0x060) (v := 1) hctx heng hbEng (by decide) rfl (fun _ => State.regEffect_mbxPush hbEng) hu
  · exact confined_of_write (off := 0x060) (v := 2) hctx heng hbEng (by decide) rfl (fun _ => State.regEffect_mbxClear hbEng) hu
  · exact confined_of_write (off := 0x05C) hctx heng hbEng (by decide) rfl (fun _ => State.regEffect_mbxStage hbEng) hu
  · exact confined_of_write (off := 0x07C) (v := 1) hctx heng hbEng (by decide) rfl (fun _ => State.regEffect_mbxPop hbEng) hu
  · exact confined_of_write (off := 0x044) hctx rfl (b := .eshared) rfl (by decide) rfl (fun _ => State.regEffect_shWrite) hu
  · exact confined_of_write (off := 0x040) hctx rfl (b := .voq) rfl (by decide) rfl (fun _ => State.regEffect_voqLatch) hu
  · exact confined_of_write (off := 0x058) (v := 5) hctx rfl (b := .shape) rfl (by decide) rfl (fun _ => State.regEffect_shpWrite) hu
  · exact confined_of_write (off := 0x058) (v := 2) hctx rfl (b := .shape) rfl (by decide) rfl (fun _ => State.regEffect_shpRead) hu
  · exact confined_of_write (off := 0x04C) (v := 1) hctx rfl (b := .gate) rfl (by decide) rfl (fun _ => State.regEffect_gateWrite) hu
  · exact confined_of_write (off := 0x04C) (v := 2) hctx rfl (b := .gate) rfl (by decide) rfl (fun _ => State.regEffect_gateRead) hu
  · exact confined_of_write (off := 0x044) hctx (congrArg pagePerf (Nat.mod_eq_of_lt hn)) hbPerf (by decide) rfl
      (fun _ => State.regEffect_perfSet hbPerf) hu
  · exact confined_of_write (off := 0x040) (v := 1) hctx rfl (b := .su) rfl (by decide) rfl (fun _ => State.regEffect_suSnap) hu
  · exact confined_of_write (off := 0x054) hctx rfl (b := .caldir) rfl (by decide) rfl (fun _ => State.regEffect_imgWrite) hu

end

/-- A read of the window changes the page addressed or the reader's own alone (R34). -/
theorem confined_of_windowRead {s u : State} {ctx a size : Nat} (hu : done (s.hostRead ctx a size) = .next u) :
    State.Confined behindReads (errPage ctx a) s u :=
  settle_of_done hu ▸ (s.hostRead_confined a size).settle

/-- Settles O47: a read records in the page addressed or the reader's own (`confined_of_windowRead`), and each window command is one
read or one write of its page, whose effects are confined to it. -/
theorem readsAndWindowAccessesKeepTheRest : Obligations.ReadsAndWindowAccessesKeepTheRest := by
  unfold Obligations.ReadsAndWindowAccessesKeepTheRest
  refine ⟨fun s u ctx a size ha hctx hu => ?_, fun s u ctx p i t c e n k b v hctx ht hc he hn hk hi hu => ?_⟩
  · have h : State.Confined behindReads (errPage ctx a) s u := by
      rcases hu with hu | hu
      · rw [show exec (.counterReadClear ctx a) s = done (s.hostRead ctx (a % 2 ^ 24) 4) from rfl, Nat.mod_eq_of_lt ha] at hu
        exact confined_of_windowRead hu
      · rw [show exec (.accessErrorRead ctx a size) s = done (s.hostRead ctx (a % 2 ^ 24) size) from rfl, Nat.mod_eq_of_lt ha] at hu
        exact confined_of_windowRead hu
    refine ⟨fun q f i hf hq hr => h.regs q f i hf ?_, h.reads_rest⟩
    unfold errPage
    split
    · exact hq
    · exact hr
  · have h : State.Confined behindWindows p s u := by
      have hrw : (p, i) ∈ readCommands ctx t c e n k v b ++ writeCommands ctx t c e n v := by
        refine List.subset_def.1 ?_ hi
        cases b <;> simp only [readCommands, writeCommands, List.cons_subset, List.nil_subset, List.mem_append, List.mem_cons, true_or,
          or_true, and_true]
      rcases List.mem_append.1 hrw with hr | hw
      · exact confined_of_readCommand hctx ht hc he hn hk hr hu
      · exact confined_of_writeCommand hctx ht hc he hn hw hu
    exact ⟨fun q f j hf hq _ => h.regs q f j hf hq, h.windows_rest⟩

end Sys2Proof.Machine
end

section
/-! SUPPORT. The state of a task, its inbox and its timers after the operations on an engine. -/

open Sys2Proof Sys2Proof.Machine
namespace Sys2Proof.Machine

/-! ### The state of a task -/

theorem place_taskState {t : Nat} (ht : t < 16) : R.ENGE.TASK_STAT_STATE.place t = 4096 + 32 * t := by
  simp only [Fld.place, Fld.offAt, R.ENGE.TASK_STAT_STATE]
  omega

/-- A field of the engine page that stands outside the words of TASK_STAT. -/
def Fld.apartFromTasks (f : Fld) : Bool := f.place 0 < 4096 || 4608 ≤ f.place 0

theorem Fld.apartFromTasks_ne {f : Fld} {t : Nat} (hf : f.apartFromTasks = true) (ht : t < 16) :
    R.ENGE.TASK_STAT_STATE.place t ≠ f.place 0 := by
  simp only [Fld.apartFromTasks, Bool.or_eq_true, decide_eq_true_eq] at hf
  rw [place_taskState ht]
  omega

section
variable (s : State) (e : Nat) {t : Nat}

@[simp] theorem State.taskState_setTask_same (x : Nat) : (s.setTask e t x).taskState e t = x % 8 := State.rdI_wrI_same _ _ _ _ _

theorem State.taskState_congr {u : State} (h : u.regs = s.regs) : u.taskState e t = s.taskState e t := State.rdI_congr h _ _ _

theorem State.rd_setTask (p : Nat) (f : Fld) (x : Nat) (ht : t < 16) (hf : f.apartFromTasks = true) : (s.setTask e t x).rd p f = s.rd p f :=
  State.rd_wrI_place _ _ _ _ _ _ _ (Fld.apartFromTasks_ne hf ht)

theorem State.taskState_wr (p : Nat) (f : Fld) (v : Nat) (ht : t < 16) (hf : f.apartFromTasks = true) :
    (s.wr p f v).taskState e t = s.taskState e t :=
  State.rdI_wr_place _ _ _ _ _ _ _ (Fld.apartFromTasks_ne hf ht).symm

theorem State.taskState_raise (p b : Nat) (ht : t < 16) : (s.raise p b).taskState e t = s.taskState e t :=
  State.rdI_raise _ _ _ _ _ _ (Fld.apartFromTasks_ne (by decide) ht).symm

@[simp] theorem State.taskState_onEng (f : Engine → Engine) (d : Nat) : (s.onEng d f).taskState e t = s.taskState e t := rfl

@[simp] theorem State.taskState_settle : s.settle.taskState e t = s.taskState e t := s.rdI_settle _ _ _

@[simp] theorem State.eng_setTask (x d : Nat) : (s.setTask e t x).eng d = s.eng d := rfl

@[simp] theorem State.eng_event (k i n d : Nat) : (s.event k i n).eng d = s.eng d := by
  unfold State.eng; rw [s.event_engines]

@[simp] theorem State.taskState_event (k i n : Nat) : (s.event k i n).taskState e t = s.taskState e t := State.taskState_congr _ _ (by simp)

end

/-- The task of an engine that runs one, from its two fields (R353). -/
theorem State.running_eq_some {s : State} {e t : Nat} :
    s.running e = some t ↔ s.flag (pageEng e) R.ENGE.ENG_E_STAT_RUNNING = true ∧ s.rd (pageEng e) R.ENGE.ENG_E_STAT_TASK = t := by
  unfold State.running
  split <;> simp_all

theorem State.running_of_free {s : State} {e : Nat} (h : s.rd (pageEng e) R.ENGE.ENG_E_STAT_RUNNING = 0) : s.running e = none := by
  simp [State.running, State.flag, h]

theorem State.running_lt {s : State} {e t : Nat} (h : s.running e = some t) : t < 16 := by
  obtain ⟨-, rfl⟩ := State.running_eq_some.1 h
  exact State.rd_lt _ _ _

/-! ### A task gives up its engine -/

section
variable {s : State} {e t : Nat}

@[simp] theorem State.inbox_settle (s : State) (e t : Nat) : s.settle.inbox e t = s.inbox e t := by
  unfold State.inbox; rw [s.eng_settle]

@[simp] theorem State.inbox_setTask (s : State) (e t x d i : Nat) : (s.setTask e t x).inbox d i = s.inbox d i := rfl

@[simp] theorem State.inbox_engFree (s : State) (e d i : Nat) : (s.engFree e).inbox d i = s.inbox d i := rfl

@[simp] theorem State.inbox_setInbox_same (s : State) (e t : Nat) (l : List Msg) : (s.setInbox e t l).inbox e t = l := by
  simp [State.inbox, State.setInbox]

/-- A task that runs and gives up its engine without a message: its inbox, the engine and its state (R353). -/
theorem State.leave_eq (x taken : Nat) (hr : s.running e = some t) (hs : s.taskState e t = tkRunning) :
    s.leave e x taken [] = ((s.setInbox e t ((s.inbox e t).drop taken)).engFree e).setTask e t x := by
  have ht := State.running_lt hr
  have hs' : ((s.ranTask e t taken []).engFree e).taskState e t = tkRunning := by
    unfold State.engFree
    rw [State.taskState_wr _ _ _ _ _ ht (by decide)]
    exact hs
  unfold State.leave
  rw [hr]
  dsimp only
  rw [if_pos hs']
  rfl

theorem State.rd_running_engFree (s : State) (e : Nat) : (s.engFree e).rd (pageEng e) R.ENGE.ENG_E_STAT_RUNNING = 0 := State.rd_wr_same _ _ _ _

theorem State.running_leave (x taken : Nat) (hr : s.running e = some t) (hs : s.taskState e t = tkRunning) :
    (s.leave e x taken []).settle.running e = none := by
  have ht := State.running_lt hr
  refine State.running_of_free ?_
  rw [State.rd_settle, State.leave_eq x taken hr hs, State.rd_setTask _ _ _ _ _ ht (by decide), State.rd_running_engFree]

theorem State.taskState_leave (x taken : Nat) (hr : s.running e = some t) (hs : s.taskState e t = tkRunning) :
    (s.leave e x taken []).settle.taskState e t = x % 8 := by
  rw [State.taskState_settle, State.leave_eq x taken hr hs, State.taskState_setTask_same]

theorem State.eng_leave (x taken : Nat) (hr : s.running e = some t) (hs : s.taskState e t = tkRunning) :
    (s.leave e x taken []).settle.eng e = (s.setInbox e t ((s.inbox e t).drop taken)).eng e := by
  rw [State.eng_settle, State.leave_eq x taken hr hs]
  rfl

theorem State.inbox_leave (x taken : Nat) (hr : s.running e = some t) (hs : s.taskState e t = tkRunning) :
    (s.leave e x taken []).settle.inbox e t = (s.inbox e t).drop taken := by
  unfold State.inbox
  rw [State.eng_leave x taken hr hs]
  exact State.inbox_setInbox_same s e t _

end

/-! ### Domains and the engine page -/

theorem State.pwr_of_rd {s u : State} (h : u.rd pagePwr R.PWR.PWR_STAT = s.rd pagePwr R.PWR.PWR_STAT) (d : Nat) : u.pwr d = s.pwr d := by
  unfold State.pwr; rw [h]

theorem State.pwr_wrI (s : State) {p : Nat} {f : Fld} {i : Nat} (v d : Nat) (hf : f.inPage i = true) (hp : p ≠ pagePwr) :
    (s.wrI p f i v).pwr d = s.pwr d :=
  State.pwr_of_rd (State.rdI_wrI_page _ _ _ _ _ _ hf (by decide) hp) d

theorem pageEng_ne {e q : Nat} (he : e < 8) (hq : q < pageEng 0 ∨ pageEng 7 < q) : pageEng e ≠ q := by
  simp only [pageEng] at hq ⊢
  omega

/-! ### The timers of a task -/

theorem testBit_set_bit (n t : Nat) : bitAt (n ||| 2 ^ t) t = true := by simp [bitAt]

theorem testBit_sub_bit (n t : Nat) : bitAt (n - bits n t 1 * 2 ^ t) t = false := by
  have h : bits n t 1 = n / 2 ^ t % 2 := by simp [bits, Nat.shiftRight_eq_div_pow]
  simp only [bitAt, Nat.testBit_eq_decide_div_mod_eq, h, decide_eq_false_iff_not]
  rw [mul_comm, Nat.sub_mul_div_of_le]
  · omega
  · calc 2 ^ t * (n / 2 ^ t % 2) ≤ 2 ^ t * (n / 2 ^ t) := Nat.mul_le_mul_left _ (Nat.mod_le _ _)
      _ ≤ n := Nat.mul_div_le n _

end Sys2Proof.Machine
end

section
/-! SUPPORT. Runs of the commands by which a task gives up its engine or faults. -/

open Sys2Proof Sys2Proof.Machine
namespace Sys2Proof.Machine

/-! ### The engine clauses of O39: tasks -/

/-- A command that ends in `done` runs to the state given with its interrupts delivered. -/
theorem runs_done {i : Instr} {s v : State} {P : State → Prop} (h : exec i s = done v) (hp : P v.settle) : Runs i s P := ⟨_, h, hp⟩

theorem exec_slice_or_yield {e taken : Nat} {i : Instr} (he : e < 8) (hi : i ∈ [Instr.taskSliceEnd e taken [], .taskYield e taken []]) (s : State) :
    exec i s = done (s.leave e tkRunnable taken []) := by
  have he8 := Nat.mod_eq_of_lt he
  simp only [List.mem_cons, List.not_mem_nil, or_false] at hi
  rcases hi with rfl | rfl
  · show done (s.leave (e % 8) tkRunnable taken []) = _
    rw [he8]
  · show done (s.leave (e % 8) tkRunnable taken []) = _
    rw [he8]

theorem runs_taskLeaves {s : State} {e t taken : Nat} {i : Instr} (he : e < 8) (hr : s.running e = some t) (hs : s.taskState e t = tkRunning)
    (hi : i ∈ [Instr.taskSliceEnd e taken [], .taskYield e taken []]) :
    Runs i s (fun u => u.running e = none ∧ u.taskState e t = tkRunnable ∧ u.inbox e t = (s.inbox e t).drop taken) :=
  runs_done (exec_slice_or_yield he hi s)
    ⟨State.running_leave _ _ hr hs, State.taskState_leave _ _ hr hs, State.inbox_leave _ _ hr hs⟩

/-- The mask of the timers after a task waits, with its timer or without (R353). -/
def timersAfterWait (n t : Nat) (timer : Bool) : Nat := if timer then n ||| 2 ^ t else n - bits n t 1 * 2 ^ t

theorem bitAt_timersAfterWait (n t : Nat) (timer : Bool) : bitAt (timersAfterWait n t timer) t = timer := by
  unfold timersAfterWait
  cases timer
  · exact testBit_sub_bit n t
  · exact testBit_set_bit n t

/-- A task's timer set or cleared, as a wait leaves it. -/
def State.setTimer (s : State) (e t : Nat) (timer : Bool) : State :=
  s.onEng e fun g => { g with timers := timersAfterWait g.timers t timer }

theorem State.waitTask_eq {s : State} {e t : Nat} (timer : Bool) (sent : List Mail) (hr : s.running e = some t) :
    s.waitTask e timer sent = (s.setTimer e t timer).leave e tkWaiting (if timer then 0 else (s.inbox e t).length) sent := by
  unfold State.waitTask
  rw [hr]
  rfl

theorem runs_taskWait {s : State} {e t : Nat} {timer : Bool} (he : e < 8) (hr : s.running e = some t) (hs : s.taskState e t = tkRunning) :
    Runs (.taskWait e timer []) s (fun u => u.running e = none ∧ u.taskState e t = tkWaiting ∧ bitAt (u.eng e).timers t = timer ∧
      u.inbox e t = if timer then s.inbox e t else []) := by
  have hx : exec (.taskWait e timer []) s = done (s.waitTask e timer []) := by
    show done (s.waitTask (e % 8) timer []) = _
    rw [Nat.mod_eq_of_lt he]
  rw [State.waitTask_eq timer [] hr] at hx
  have hr' : (s.setTimer e t timer).running e = some t := hr
  have hs' : (s.setTimer e t timer).taskState e t = tkRunning := hs
  have hb : ((s.setTimer e t timer).inbox e t) = s.inbox e t := by simp [State.setTimer, State.inbox]
  refine runs_done hx ⟨State.running_leave _ _ hr' hs', State.taskState_leave _ _ hr' hs', ?_, ?_⟩
  · rw [State.eng_leave _ _ hr' hs']
    simpa [State.setInbox, State.setTimer] using bitAt_timersAfterWait (s.eng e).timers t timer
  · rw [State.inbox_leave _ _ hr' hs', hb]
    cases timer <;> simp

theorem runs_taskTimerExpiry {s : State} {e t : Nat} (he : e < 8) (ht : t < 16) (hs : s.taskState e t = tkWaiting)
    (hb : bitAt (s.eng e).timers t = true) : Runs (.taskTimerExpiry e t) s (fun u => u.taskState e t = tkRunnable) := by
  refine runs_done (v := s.timerExpired e t) ?_ ?_
  · show done (s.timerExpired (e % 8) (t % 16)) = _
    rw [Nat.mod_eq_of_lt he, Nat.mod_eq_of_lt ht]
  · unfold State.timerExpired
    rw [if_pos ⟨hs, hb⟩, State.taskState_settle, State.taskState_setTask_same]
    rfl

/-! ### Faults -/

theorem exec_taskFault {e : Nat} (he : e < 8) (code : Nat) (s : State) :
    exec (.taskFault e code) s = done (if s.faultable e code then s.taskFault e (code % 16) else s) := by
  show done (if s.faultable (e % 8) code then s.taskFault (e % 8) (code % 16) else s) = _
  rw [Nat.mod_eq_of_lt he]

/-- A fault that stops the task that runs (R354). -/
theorem State.taskFault_eq {s : State} {e t : Nat} (code : Nat) (hr : s.running e = some t) (hs : s.taskState e t = tkRunning) :
    s.taskFault e code = (((s.engFree e).setTask e t tkFaulted).wrI (pageEng e) R.ENGE.TASK_STAT_FAULT_CODE t code).raise (pageEng e) 2 := by
  unfold State.taskFault
  rw [hr]
  exact if_neg (not_not.2 hs)

theorem State.taskFault_of_not_running {s : State} {e t : Nat} (code : Nat) (hr : s.running e = some t) (hs : s.taskState e t ≠ tkRunning) :
    s.taskFault e code = s := by
  unfold State.taskFault
  rw [hr]
  exact if_pos hs

theorem faultCode_place_ne {t : Nat} (ht : t < 16) : R.ENGE.TASK_STAT_FAULT_CODE.place t ≠ R.ENGE.TASK_STAT_STATE.place t := by
  have h : R.ENGE.TASK_STAT_FAULT_CODE.place t = 4100 + 32 * t := by
    simp only [Fld.place, Fld.offAt, R.ENGE.TASK_STAT_FAULT_CODE]
    omega
  rw [h, place_taskState ht]
  omega

theorem faultCode_apart {f : Fld} {t : Nat} (ht : t < 16) (hf : f.apartFromTasks = true) : R.ENGE.TASK_STAT_FAULT_CODE.place t ≠ f.place 0 := by
  have h : R.ENGE.TASK_STAT_FAULT_CODE.place t = 4100 + 32 * t := by
    simp only [Fld.place, Fld.offAt, R.ENGE.TASK_STAT_FAULT_CODE]
    omega
  simp only [Fld.apartFromTasks, Bool.or_eq_true, decide_eq_true_eq] at hf
  omega

theorem State.faultable_of_code {s : State} {e code region : Nat} (h1 : 1 ≤ code) (h3 : code ≤ 3) (hreg : region < 16)
    (hm : code = 2 → bitAt (s.rdI pageEngc R.ENG.ENG_SH_MASK e) region = false) :
    s.faultable e (code + 16 * region) = true ∧ (code + 16 * region) % 16 = code := by
  have hc : (code + 16 * region) % 16 = code := by omega
  have hr : (code + 16 * region) / 16 % 16 = region := by omega
  refine ⟨?_, hc⟩
  unfold State.faultable
  rw [hc, hr]
  by_cases h2 : code = 2
  · simp [h2, hm h2]
  · simp [h1, h3, h2]

theorem runs_taskFault {s : State} {e t code region : Nat} (he : e < 8) (h1 : 1 ≤ code) (h3 : code ≤ 3) (hreg : region < 16)
    (hm : code = 2 → bitAt (s.rdI pageEngc R.ENG.ENG_SH_MASK e) region = false) (hr : s.running e = some t) (hs : s.taskState e t = tkRunning)
    (hon : s.pageOn (pageEng e)) :
    Runs (.taskFault e (code + 16 * region)) s (fun u => u.taskState e t = tkFaulted ∧ u.rdI (pageEng e) R.ENGE.TASK_STAT_FAULT_CODE t = code ∧
      u.running e = none ∧ u.cause (pageEng e) 2 = true) := by
  have ht := State.running_lt hr
  obtain ⟨hf, hc⟩ := State.faultable_of_code h1 h3 hreg hm
  have hx := exec_taskFault he (code + 16 * region) s
  rw [if_pos hf, hc, State.taskFault_eq code hr hs] at hx
  refine runs_done hx ⟨?_, ?_, ?_, ?_⟩
  · rw [State.taskState_settle, State.taskState_raise _ _ _ _ ht]
    exact (State.rdI_wrI_place _ _ _ _ _ _ _ _ (faultCode_place_ne ht)).trans (State.taskState_setTask_same _ _ _)
  · rw [State.rdI_settle, State.rdI_raise _ _ _ _ _ _ (faultCode_apart ht (by decide)).symm, State.rdI_wrI_same]
    exact Nat.mod_eq_of_lt (show code < 16 by omega)
  · refine State.running_of_free ?_
    rw [State.rd_settle, State.rd_raise _ _ _ _ _ (by decide), State.rd_wrI_place _ _ _ _ _ _ _ (faultCode_apart ht (by decide)),
      State.rd_setTask _ _ _ _ _ ht (by decide), State.rd_running_engFree]
  · unfold State.cause
    rw [State.rd_settle]
    refine State.raise_cause _ _ _ (by decide) ?_
    have hp := pageEng_ne he (q := pagePwr) (by decide)
    have hin : R.ENGE.TASK_STAT_FAULT_CODE.inPage t = true := Fld.inPage_of_le ht.le (by decide)
    have hst : R.ENGE.TASK_STAT_STATE.inPage t = true := Fld.inPage_of_le ht.le (by decide)
    rw [State.pwr_wrI _ _ _ hin hp, State.setTask, State.pwr_wrI _ _ _ hst hp, State.engFree, State.wr_eq, State.pwr_wrI _ _ _ (by decide) hp, hon]
    decide

/-- A task that drains does not fault, and an access that the mask permits is no fault (R12, R357). -/
theorem runs_noFault {s : State} {e t code : Nat} (he : e < 8) (hr : s.running e = some t)
    (h : s.taskState e t ≠ tkRunning ∨ code % 16 = 0 ∨ 3 < code % 16 ∨
      (code % 16 = 2 ∧ bitAt (s.rdI pageEngc R.ENG.ENG_SH_MASK e) (code / 16 % 16) = true)) :
    Runs (.taskFault e code) s (fun u => u.taskState e t = s.taskState e t ∧ u.engines = s.engines ∧ u.regs = s.regs) := by
  have hx : exec (.taskFault e code) s = done s := by
    rw [exec_taskFault he code s]
    rcases h with h | h
    · rw [State.taskFault_of_not_running _ hr h, ite_self]
    · have hn : s.faultable e code = false := by
        unfold State.faultable
        rcases h with h | h | ⟨h, hb⟩
        · simp [h]
        · simp only [Bool.and_eq_false_iff, decide_eq_false_iff_not]
          left
          omega
        · simp [h, hb]
      simp [hn]
  exact runs_done hx ⟨s.taskState_settle e, s.settle_engines, s.settle_regs⟩

end Sys2Proof.Machine
end

section
/-! SUPPORT. Runs of the dispatch of a task and of the arrival of a message. -/

open Sys2Proof Sys2Proof.Machine
namespace Sys2Proof.Machine

/-! ### The engine clauses of O39: dispatch -/

/-- A fold that keeps what it has or takes the element at hand ends with what it had or with an element. -/
theorem mem_of_foldl_takes {α : Type} {f : Option α → α → Option α} (hf : ∀ a b, f a b = a ∨ f a b = some b) {l : List α} {a : Option α}
    {x : α} (h : l.foldl f a = some x) : a = some x ∨ x ∈ l := by
  induction l generalizing a with
  | nil => exact .inl h
  | cons y l ih =>
    rcases ih h with hy | hm
    · rcases hf a y with ha | ha
      · exact .inl (ha ▸ hy)
      · exact .inr (by simp [Option.some.inj (ha.symm.trans hy)])
    · exact .inr (List.mem_cons_of_mem _ hm)

theorem State.pickTask_lt {s : State} {e t : Nat} (h : s.pickTask e = some t) : t < 16 := by
  unfold State.pickTask at h
  have hk : none = some t ∨ t ∈ (List.range 16).map fun i => ((s.eng e).last + 1 + i) % 16 := by
    refine mem_of_foldl_takes (fun a b => ?_) h
    split
    · exact .inl rfl
    · cases a
      · exact .inr rfl
      · dsimp only
        split
        · exact .inr rfl
        · exact .inl rfl
  rcases hk with hn | hm
  · cases hn
  · obtain ⟨i, -, rfl⟩ := List.mem_map.1 hm
    exact Nat.mod_lt _ (by decide)

/-- The state after task `t` takes engine `e` (R353). -/
def State.dispatched (s : State) (e t : Nat) : State :=
  (((if s.taskState e t = tkRunnable then s.setTask e t tkRunning else s).event 0x27 e 1).wr (pageEng e) R.ENGE.ENG_E_STAT_TASK t
    |>.wr (pageEng e) R.ENGE.ENG_E_STAT_RUNNING 1).onEng e fun g => { g with last := t }

theorem exec_dispatch {s : State} {e t : Nat} (he : e < 8) (hreset : s.phase ≠ .reset) (hosc : s.phase ≠ .oscWait)
    (hr : s.running e = none) (hp : s.pickTask e = some t) : exec (.dispatch e) s = done (s.dispatched e t) := by
  show execDispatch e s = _
  unfold execDispatch
  simp only [Nat.mod_eq_of_lt he, hreset, hosc, or_self, if_false, hr, hp]
  rfl

theorem State.events_event (s : State) (k i : Nat) :
    (look (0, 0) (s.event k i 1).events (64 * k + i)).1 = (look (0, 0) s.events (64 * k + i)).1 + 1 := by
  unfold State.event
  simp

theorem runs_dispatch {s : State} {e t : Nat} (he : e < 8) (hreset : s.phase ≠ .reset) (hosc : s.phase ≠ .oscWait)
    (hr : s.running e = none) (hp : s.pickTask e = some t) :
    Runs (.dispatch e) s (fun u => u.running e = some t ∧ (u.eng e).last = t ∧
      u.taskState e t = (if s.taskState e t = tkRunnable then tkRunning else s.taskState e t) ∧
      (look (0, 0) u.events (64 * 0x27 + e)).1 = (look (0, 0) s.events (64 * 0x27 + e)).1 + 1) := by
  have ht := State.pickTask_lt hp
  refine runs_done (exec_dispatch he hreset hosc hr hp) ⟨State.running_eq_some.2 ⟨?_, ?_⟩, ?_, ?_, ?_⟩
  · rw [State.flag_settle, State.flag]
    exact bne_iff_ne.2 (by rw [State.dispatched, State.rd_onEng, State.rd_wr_same]; decide)
  · rw [State.rd_settle, State.dispatched, State.rd_onEng, State.rd_wr_place _ _ _ _ _ _ (by decide), State.rd_wr_same]
    exact Nat.mod_eq_of_lt ht
  · rw [State.eng_settle, State.dispatched, State.eng_onEng_same]
  · rw [State.taskState_settle, State.dispatched, State.taskState_onEng, State.taskState_wr _ _ _ _ _ ht (by decide),
      State.taskState_wr _ _ _ _ _ ht (by decide), State.taskState_event]
    split
    · exact State.taskState_setTask_same _ _ _
    · rfl
  · rw [State.settle_events]
    exact (State.events_event _ 0x27 e).trans (by split <;> rfl)

/-- Before the oscillator is there no task starts (R15). -/
theorem runs_dispatch_early {s : State} {e : Nat} (h : s.phase = .reset ∨ s.phase = .oscWait) :
    Runs (.dispatch e) s (fun u => u.engines = s.engines ∧ u.regs = s.regs) := by
  refine runs_done (v := s) ?_ ⟨s.settle_engines, s.settle_regs⟩
  show execDispatch e s = _
  unfold execDispatch
  dsimp only
  rw [if_pos h]

/-! ### Messages to a task -/

theorem satNat_lt (w n : Nat) : satNat w n < 2 ^ w := by
  unfold satNat
  split
  · assumption
  · exact Nat.sub_lt (Nat.two_pow_pos w) one_pos

@[simp] theorem State.eng_emit (s : State) (o : Out) (d : Nat) : (s.emit o).eng d = s.eng d := rfl

theorem State.eng_enqueueMsg (s : State) (e t : Nat) (m : Msg) (d : Nat) :
    (s.enqueueMsg e t m).eng d = (s.setInbox e t (s.inbox e t ++ [m])).eng d := by
  unfold State.enqueueMsg
  dsimp only
  split <;> simp

/-- What a message that fits changes: the inbox of the task, and its state where it waits (R354). -/
theorem State.inbox_enqueueMsg (s : State) (e t : Nat) (m : Msg) : (s.enqueueMsg e t m).inbox e t = s.inbox e t ++ [m] := by
  unfold State.inbox
  rw [State.eng_enqueueMsg]
  exact State.inbox_setInbox_same s e t _

theorem State.taskState_enqueueMsg (s : State) (e t : Nat) (m : Msg) :
    (s.enqueueMsg e t m).taskState e t = if s.taskState e t = tkWaiting then tkRunnable else s.taskState e t := by
  have h : ∀ o, (((s.setInbox e t (s.inbox e t ++ [m])).event 0x2A e 1).emit o).taskState e t = s.taskState e t :=
    fun o => State.taskState_congr _ _ (by simp [State.setInbox])
  unfold State.enqueueMsg
  dsimp only
  rw [h]
  split
  · exact State.taskState_setTask_same _ _ _
  · exact h _

theorem runs_messageArrival {s : State} {e t src : Nat} {m : Mail} {x : Msg} (he : e < 8) (ht : t < 16) (hon : s.pageOn (pageEng e))
    (hx : x = (⟨src, m.typ, m.tag, m.len, m.payload⟩ : Msg)) :
    Runs (.mailboxMessageArrival e t src m) s (fun u =>
      if s.fits e t x = true then u.inbox e t = s.inbox e t ++ [x] ∧
        u.taskState e t = (if s.taskState e t = tkWaiting then tkRunnable else s.taskState e t)
      else u.inbox e t = s.inbox e t ∧ u.cause (pageEng e) 1 = true ∧
        u.rd (pageEng e) R.ENGE.ENG_CNT_MBX_DROP = satNat 32 (s.rd (pageEng e) R.ENGE.ENG_CNT_MBX_DROP + 1)) := by
  refine runs_done (v := s.deliverMsg e t x) ?_ ?_
  · show done (s.deliverMsg (e % 8) (t % 16) _) = _
    rw [Nat.mod_eq_of_lt he, Nat.mod_eq_of_lt ht, hx]
  · unfold State.deliverMsg
    split
    · rw [State.inbox_settle, State.taskState_settle]
      exact ⟨s.inbox_enqueueMsg e t x, s.taskState_enqueueMsg e t x⟩
    · refine ⟨?_, ?_, ?_⟩
      · rw [State.inbox_settle]
        unfold State.inbox
        rw [State.eng_raise]
        rfl
      · unfold State.cause
        rw [State.rd_settle]
        refine State.raise_cause _ _ _ (by decide) ?_
        rw [State.inc, State.addI, State.pwr_wrI _ _ _ (by decide) (pageEng_ne he (q := pagePwr) (by decide)), hon]
        decide
      · rw [State.rd_settle, State.rd_raise _ _ _ _ _ (by decide), State.inc, State.addI]
        refine (State.rdI_wrI_same _ _ _ _ _).trans (Nat.mod_eq_of_lt (satNat_lt 32 _))

end Sys2Proof.Machine
end

section
/-! SUPPORT. Writes of the mailbox window's registers, and runs of its staging, clearing and removal. -/

open Sys2Proof Sys2Proof.Machine
namespace Sys2Proof.Machine

/-! ### The mailbox window: writes of its command registers -/

theorem pageIndex_pageEng {e : Nat} (he : e < 8) : pageIndex (pageEng e) = e :=
  (show ∀ e < 8, pageIndex (pageEng e) = e by decide) e he

/-- No engine page is a context's own, which alone may be without rings. -/
theorem State.noRings_pageEng (s : State) {e : Nat} (he : e < 8) : s.noRings (pageEng e) = false := by
  have h : ¬ (0x010 ≤ pageEng e ∧ pageEng e ≤ 0x013) := by
    unfold pageEng
    omega
  simp [State.noRings, h]

theorem pageEng_ne_espare {e : Nat} (he : e < 8) : pageEng e ≠ pageEspare :=
  (show ∀ e < 8, pageEng e ≠ pageEspare by decide) e he

/-- A field outside the header that takes every value and is not double-buffered. -/
def Fld.plain (f : Fld) : Bool := f ≠ R.HDR.HDR_COMMIT_AT_BOUNDARY && f ≠ R.HDR.HDR_OWNER_OWNER && f.off ≠ 0x024 && !f.db && f.legal == .any

/-- A plain field of an engine's page or of the shared memory's breaks no rule (R7). -/
theorem State.fieldErr_plain (s : State) (p v i : Nat) {b : Blk} {f : Fld} (hb : b = .enge ∨ b = .eshared) (hf : f.plain = true) :
    s.fieldErr p b v (f, i) = 0 := by
  simp only [Fld.plain, Bool.and_eq_true, decide_eq_true_eq, ne_eq, Bool.not_eq_true', beq_iff_eq] at hf
  obtain ⟨⟨⟨⟨hBoundary, hOwner⟩, hArm⟩, hdb⟩, hl⟩ := hf
  rcases hb with rfl | rfl <;>
    simp [State.fieldErr, State.readsOnly, State.ruleOk, State.lockedField, hBoundary, hOwner, hArm, hdb, hl, Legal.ok]

section
variable {s : State} {ctx e : Nat} (he : e < 8) (hw : s.writes ctx (pageEng e))
include he hw

/-- The effect of a write of an engine's block register, no memory being wiped. -/
theorem State.regEffect_enge (off v : Nat) (ho : 0x040 ≤ off) (t : State) :
    s.regEffect ctx (pageEng e) off v t = t.engWritten ctx e off v := by
  have hwin : s.windowShut (pageEng e) off = false := by simp [State.windowShut, hw.2.2.2]
  unfold State.regEffect
  dsimp only
  rw [hwin, pageBlk_pageEng he, pageIndex_pageEng he, if_neg (by decide), if_neg (Nat.not_lt.2 ho)]

/-- A write of a register of the mailbox window that breaks no rule. -/
theorem State.write_enge {off v : Nat} {fs : List (Fld × Nat)} (hfs : fieldsAt .enge off = fs) (hne : fs ≠ []) (h4 : off % 4 = 0)
    (ho : 0x040 ≤ off) (h400 : off < 0x400) (hf : ∀ fi ∈ fs, s.fieldErr (pageEng e) .enge (v % 2 ^ 32) fi = 0) :
    s.write ctx (pageEng e) off v =
      (fs.foldl (fun t fi => s.fieldWrite (pageEng e) .enge (v % 2 ^ 32) fi t) s).engWritten ctx e off (v % 2 ^ 32) := by
  subst hfs
  rw [State.write_ok s hw (pageBlk_pageEng he) (by omega) h4 (by omega) (by omega) (pageEng_ne_espare he) (.inr h400) hne hf,
    State.regEffect_enge he hw off _ ho]

omit he in
/-- A command bit takes a 1 that is written, and keeps a 1 that stands (R8). -/
theorem State.fieldWrite_w1s {f : Fld} (v : Nat) (hacc : f.acc = .w1s) (hf : f.plain = true) (t : State) :
    s.fieldWrite (pageEng e) .enge v (f, 0) t = t.wr (pageEng e) f (t.rd (pageEng e) f ||| bits v f.lo f.w) := by
  have hk : s.keeps (pageEng e) .enge v f 0 = false := by
    have hOwner : f ≠ R.HDR.HDR_OWNER_OWNER := by
      rintro rfl
      exact absurd hf (by decide)
    simp [State.keeps, State.windowShut, hw.2.2.2, hOwner]
  unfold State.fieldWrite
  dsimp only
  rw [State.fieldErr_plain s _ _ _ (.inl rfl) hf, hk, hacc]
  simp
  rfl

/-- A write of MBX_PUSH: its two bits, and its effect (R360). -/
theorem State.write_mbxPush (v : Nat) : ∃ a b, s.write ctx (pageEng e) 0x060 v =
    ((s.wr (pageEng e) R.ENGE.MBX_PUSH_PUSH a).wr (pageEng e) R.ENGE.MBX_PUSH_CLEAR b).engWritten ctx e 0x060 (v % 2 ^ 32) := by
  rw [State.write_enge he hw (fs := [(R.ENGE.MBX_PUSH_PUSH, 0), (R.ENGE.MBX_PUSH_CLEAR, 0)]) (by decide) (by decide) (by decide)
    (by decide) (by decide) (List.forall_mem_cons.2 ⟨State.fieldErr_plain s _ _ _ (.inl rfl) (by decide),
      List.forall_mem_cons.2 ⟨State.fieldErr_plain s _ _ _ (.inl rfl) (by decide), by simp⟩⟩)]
  simp only [List.foldl]
  rw [State.fieldWrite_w1s hw _ rfl (by decide), State.fieldWrite_w1s hw _ rfl (by decide)]
  exact ⟨_, _, rfl⟩


/-- A write of MBX_DATA stages its word (R360). -/
theorem State.write_mbxData (v : Nat) : s.write ctx (pageEng e) 0x05C v = s.mbxStage e (v % 2 ^ 32) := by
  rw [State.write_enge he hw (fs := [(R.ENGE.MBX_DATA, 0)]) (by decide) (by decide) (by decide) (by decide) (by decide)
    (List.forall_mem_cons.2 ⟨State.fieldErr_plain s _ _ _ (.inl rfl) (by decide), by simp⟩)]
  have hf : s.fieldWrite (pageEng e) .enge (v % 2 ^ 32) (R.ENGE.MBX_DATA, 0) s = s := by
    unfold State.fieldWrite
    dsimp only
    split <;> rfl
  simp only [List.foldl]
  rw [hf]
  rfl

/-- A write of MBX_OUT_POP: its bit, and its effect (R355). -/
theorem State.write_mbxOutPop (v : Nat) : ∃ a, s.write ctx (pageEng e) 0x07C v =
    (s.wr (pageEng e) R.ENGE.MBX_OUT_POP_POP a).engWritten ctx e 0x07C (v % 2 ^ 32) := by
  rw [State.write_enge he hw (fs := [(R.ENGE.MBX_OUT_POP_POP, 0)]) (by decide) (by decide) (by decide) (by decide) (by decide)
    (List.forall_mem_cons.2 ⟨State.fieldErr_plain s _ _ _ (.inl rfl) (by decide), by simp⟩)]
  simp only [List.foldl]
  rw [State.fieldWrite_w1s hw _ rfl (by decide)]
  exact ⟨_, rfl⟩

end

/-! ### The mailbox window: what its commands do -/

theorem runs_mbxDataWrite {s : State} {ctx e v : Nat} (he : e < 8) (hv : v < 2 ^ 32) (hw : s.writes ctx (pageEng e))
    (hroom : (s.eng e).staged.length < 510) :
    Runs (.mbxDataWrite ctx e v) s (fun u => (u.eng e).staged = (s.eng e).staged ++ [BitVec.ofNat 32 v] ∧
      u.rd (pageEng e) R.ENGE.MBX_STAT_STAGED = (s.eng e).staged.length + 1) := by
  have hx : exec (.mbxDataWrite ctx e v) s = done (s.mbxStage e v) := by
    show done (s.write ctx (pageEng (e % 8)) 0x05C v) = _
    rw [Nat.mod_eq_of_lt he, State.write_mbxData he hw, Nat.mod_eq_of_lt hv]
  refine runs_done hx ⟨?_, ?_⟩
  · rw [State.eng_settle, State.mbxStage, State.showStaged, State.eng_wr, State.eng_onEng_same, if_pos hroom]
  · rw [State.rd_settle, State.mbxStage, State.showStaged, State.rd_wr_same, State.eng_onEng_same, if_pos hroom, List.length_append]
    exact Nat.mod_eq_of_lt (by show (s.eng e).staged.length + 1 < 2048; omega)

theorem runs_mbxClear {s : State} {ctx e : Nat} (he : e < 8) (hw : s.writes ctx (pageEng e)) :
    Runs (.mbxClear ctx e) s (fun u => (u.eng e).staged = [] ∧ u.rd (pageEng e) R.ENGE.MBX_STAT_STAGED = 0) := by
  obtain ⟨a, b, hab⟩ := State.write_mbxPush he hw 2
  have hx : exec (.mbxClear ctx e) s = done (((((s.wr (pageEng e) R.ENGE.MBX_PUSH_PUSH a).wr (pageEng e) R.ENGE.MBX_PUSH_CLEAR b).mbxClear e).wr
      (pageEng e) R.ENGE.MBX_PUSH_PUSH 0).wr (pageEng e) R.ENGE.MBX_PUSH_CLEAR 0) := by
    show done (s.write ctx (pageEng (e % 8)) 0x060 2) = _
    rw [Nat.mod_eq_of_lt he, hab]
    rfl
  refine runs_done hx ⟨?_, ?_⟩
  · rw [State.eng_settle, State.eng_wr, State.eng_wr, State.mbxClear, State.showStaged, State.eng_wr, State.eng_onEng_same]
  · rw [State.rd_settle, State.rd_wr_place _ _ _ _ _ _ (by decide), State.rd_wr_place _ _ _ _ _ _ (by decide), State.mbxClear,
      State.showStaged, State.rd_wr_same, State.eng_onEng_same]
    rfl

theorem runs_mbxOutPop {s : State} {ctx e : Nat} (he : e < 8) (hw : s.writes ctx (pageEng e)) :
    Runs (.mbxOutPop ctx e) s (fun u => (u.eng e).outq = (s.eng e).outq.drop 1 ∧ (u.eng e).outIdx = 0) := by
  obtain ⟨a, ha⟩ := State.write_mbxOutPop he hw 1
  have hx : exec (.mbxOutPop ctx e) s = done (((s.wr (pageEng e) R.ENGE.MBX_OUT_POP_POP a).mbxPop e).wr (pageEng e) R.ENGE.MBX_OUT_POP_POP 0) := by
    show done (s.write ctx (pageEng (e % 8)) 0x07C 1) = _
    rw [Nat.mod_eq_of_lt he, ha]
    rfl
  refine runs_done hx ?_
  rw [State.eng_settle, State.eng_wr, State.mbxPop, State.eng_onEng_same]
  exact ⟨rfl, rfl⟩

end Sys2Proof.Machine
end

section
/-! SUPPORT. Runs of a push of the mailbox window. -/

open Sys2Proof Sys2Proof.Machine
namespace Sys2Proof.Machine

/-! ### The mailbox window: a push -/

/-- The message that the window stages (R360). -/
def State.stagedMsg (s : State) (ctx e : Nat) : Msg :=
  ⟨ctx, bits (s.rd (pageEng e) R.ENGE.MBX_HDR) 24 8, s.rd (pageEng e) R.ENGE.MBX_TAG, bits (s.rd (pageEng e) R.ENGE.MBX_HDR) 0 12,
    (s.eng e).staged.take ((bits (s.rd (pageEng e) R.ENGE.MBX_HDR) 0 12 + 3) / 4)⟩

/-- Fewer words than the message's length says are staged, or the length is too large (R360). -/
def State.stagedShort (s : State) (e : Nat) : Prop :=
  (s.eng e).staged.length < (bits (s.rd (pageEng e) R.ENGE.MBX_HDR) 0 12 + 3) / 4 ∨ bits (s.rd (pageEng e) R.ENGE.MBX_HDR) 0 12 > 2040

/-- The window as a push finds it: its status and its command bit cleared. -/
def State.pushBegun (s : State) (e : Nat) : State :=
  ((s.wr (pageEng e) R.ENGE.MBX_STAT_FULL 0).wr (pageEng e) R.ENGE.MBX_STAT_SHORT 0).wr (pageEng e) R.ENGE.MBX_PUSH_PUSH 0

section
variable (s : State) (ctx e : Nat)

theorem State.mbxPush_short (h : s.stagedShort e) : s.mbxPush ctx e = (s.pushBegun e).wr (pageEng e) R.ENGE.MBX_STAT_SHORT 1 := if_pos h

theorem State.mbxPush_full (h : ¬ s.stagedShort e)
    (hf : (s.pushBegun e).fits e (s.rd (pageEng e) R.ENGE.MBX_SEL) (s.stagedMsg ctx e) = false) :
    s.mbxPush ctx e = (s.pushBegun e).wr (pageEng e) R.ENGE.MBX_STAT_FULL 1 :=
  (if_neg h).trans (if_pos ((Bool.not_eq_true _).mpr hf))

theorem State.mbxPush_fits (h : ¬ s.stagedShort e)
    (hf : (s.pushBegun e).fits e (s.rd (pageEng e) R.ENGE.MBX_SEL) (s.stagedMsg ctx e) = true) :
    s.mbxPush ctx e = ((s.pushBegun e).enqueueMsg e (s.rd (pageEng e) R.ENGE.MBX_SEL) (s.stagedMsg ctx e)).mbxClear e :=
  (if_neg h).trans (if_neg (not_not.2 hf))

end

/-- A write of the engine page below its tables leaves whether a message fits. -/
theorem State.fits_wr (s : State) (p : Nat) (f : Fld) (v e : Nat) {t : Nat} (m : Msg) (hf : f.place 0 < 2048) (ht : t < 16) :
    (s.wr p f v).fits e t m = s.fits e t m := by
  have hd : (s.wr p f v).taskDesc e t 1 = s.taskDesc e t 1 := by
    refine State.rdI_wr_place _ _ _ _ _ _ _ (Nat.ne_of_lt (Nat.lt_of_lt_of_le hf ?_))
    simp only [Fld.place, Fld.offAt, R.ENGE.TASK_DESC]
    omega
  unfold State.fits
  rw [hd]
  rfl

/-- The message of a push leaves the fields outside the words of TASK_STAT. -/
theorem State.rd_enqueueMsg (s : State) (e : Nat) {t : Nat} (m : Msg) (p : Nat) (f : Fld) (ht : t < 16) (hf : f.apartFromTasks = true) :
    (s.enqueueMsg e t m).rd p f = s.rd p f := by
  have h : ∀ o, (((s.setInbox e t (s.inbox e t ++ [m])).event 0x2A e 1).emit o).rd p f = s.rd p f :=
    fun o => State.rd_congr (by simp [State.setInbox]) p f
  unfold State.enqueueMsg
  dsimp only
  split
  · rw [State.rd_setTask _ _ _ _ _ ht hf, h]
  · exact h _

/-- The state that a write of MBX_PUSH leaves to its effect: its two bits alone are written. -/
def State.pushWritten (s : State) (e a b : Nat) : State :=
  (s.wr (pageEng e) R.ENGE.MBX_PUSH_PUSH a).wr (pageEng e) R.ENGE.MBX_PUSH_CLEAR b

/-- Its command bits are no other field of the window. -/
def Fld.notPush (f : Fld) : Bool := R.ENGE.MBX_PUSH_PUSH.place 0 ≠ f.place 0 && R.ENGE.MBX_PUSH_CLEAR.place 0 ≠ f.place 0

section
variable (s : State) (ctx e a b : Nat)

theorem State.rd_pushWritten {f : Fld} (p : Nat) (hf : f.notPush = true) : (s.pushWritten e a b).rd p f = s.rd p f := by
  simp only [Fld.notPush, Bool.and_eq_true, decide_eq_true_eq] at hf
  rw [State.pushWritten, State.rd_wr_place _ _ _ _ _ _ hf.2, State.rd_wr_place _ _ _ _ _ _ hf.1]

theorem State.eng_pushWritten (d : Nat) : (s.pushWritten e a b).eng d = s.eng d := rfl

theorem State.inbox_pushWritten (d t : Nat) : (s.pushWritten e a b).inbox d t = s.inbox d t := rfl

theorem State.stagedMsg_pushWritten : (s.pushWritten e a b).stagedMsg ctx e = s.stagedMsg ctx e := by
  unfold State.stagedMsg
  rw [State.rd_pushWritten _ _ _ _ _ (by decide), State.rd_pushWritten _ _ _ _ _ (by decide)]
  rfl

theorem State.stagedShort_pushWritten : (s.pushWritten e a b).stagedShort e ↔ s.stagedShort e := by
  unfold State.stagedShort
  rw [State.rd_pushWritten _ _ _ _ _ (by decide)]
  rfl

theorem State.fits_pushBegun {t : Nat} (m : Msg) (ht : t < 16) : ((s.pushWritten e a b).pushBegun e).fits e t m = s.fits e t m := by
  rw [State.pushBegun, State.fits_wr _ _ _ _ _ _ (by decide) ht, State.fits_wr _ _ _ _ _ _ (by decide) ht,
    State.fits_wr _ _ _ _ _ _ (by decide) ht, State.pushWritten, State.fits_wr _ _ _ _ _ _ (by decide) ht,
    State.fits_wr _ _ _ _ _ _ (by decide) ht]

/-- A message that is pushed stands in the task's inbox, and the window is empty (R354, R360). -/
theorem State.pushed_message (m : Msg) {t : Nat} (ht : t < 16) :
    ((s.pushBegun e).enqueueMsg e t m |>.mbxClear e).inbox e t = s.inbox e t ++ [m] ∧
    (((s.pushBegun e).enqueueMsg e t m |>.mbxClear e).eng e).staged = [] ∧
    ((s.pushBegun e).enqueueMsg e t m |>.mbxClear e).rd (pageEng e) R.ENGE.MBX_STAT_FULL = 0 := by
  refine ⟨?_, ?_, ?_⟩
  · unfold State.inbox
    rw [State.mbxClear, State.showStaged, State.eng_wr, State.eng_onEng_same]
    exact (s.pushBegun e).inbox_enqueueMsg e t m
  · rw [State.mbxClear, State.showStaged, State.eng_wr, State.eng_onEng_same]
  · rw [State.mbxClear, State.showStaged, State.rd_wr_place _ _ _ _ _ _ (by decide), State.rd_onEng,
      State.rd_enqueueMsg _ _ _ _ _ ht (by decide), State.pushBegun, State.rd_wr_place _ _ _ _ _ _ (by decide),
      State.rd_wr_place _ _ _ _ _ _ (by decide), State.rd_wr_same]
    rfl

end

theorem runs_mbxPush {s : State} {ctx e h need t : Nat} {x : Msg} (he : e < 8) (hw : s.writes ctx (pageEng e))
    (hh : h = s.rd (pageEng e) R.ENGE.MBX_HDR) (hneed : need = (bits h 0 12 + 3) / 4) (ht : t = s.rd (pageEng e) R.ENGE.MBX_SEL)
    (hx : x = (⟨ctx, bits h 24 8, s.rd (pageEng e) R.ENGE.MBX_TAG, bits h 0 12, (s.eng e).staged.take need⟩ : Msg)) :
    Runs (.mbxPush ctx e) s (fun u =>
      if (s.eng e).staged.length < need ∨ bits h 0 12 > 2040 then u.rd (pageEng e) R.ENGE.MBX_STAT_SHORT = 1 ∧ u.engines = s.engines
      else if s.fits e t x = true then u.inbox e t = s.inbox e t ++ [x] ∧ (u.eng e).staged = [] ∧ u.rd (pageEng e) R.ENGE.MBX_STAT_FULL = 0
      else u.rd (pageEng e) R.ENGE.MBX_STAT_FULL = 1 ∧ u.engines = s.engines) := by
  have ht16 : t < 16 := ht ▸ State.rd_lt _ _ R.ENGE.MBX_SEL
  have hmsg : x = s.stagedMsg ctx e := by subst hh hneed; exact hx
  obtain ⟨a, b, hab⟩ := State.write_mbxPush he hw 1
  have hexec : exec (.mbxPush ctx e) s = done (((s.pushWritten e a b).mbxPush ctx e).pushWritten e 0 0) := by
    show done (s.write ctx (pageEng (e % 8)) 0x060 1) = _
    rw [Nat.mod_eq_of_lt he, hab]
    rfl
  have hfits := s.fits_pushBegun e a b x ht16
  have hsel : (s.pushWritten e a b).rd (pageEng e) R.ENGE.MBX_SEL = t := by rw [s.rd_pushWritten e a b _ (by decide), ht]
  have hstaged := (s.stagedMsg_pushWritten ctx e a b).trans hmsg.symm
  have hshort : (s.pushWritten e a b).stagedShort e ↔ (s.eng e).staged.length < need ∨ bits h 0 12 > 2040 := by
    subst hh hneed
    exact s.stagedShort_pushWritten e a b
  refine runs_done hexec ?_
  split
  case isTrue hs =>
    rw [State.mbxPush_short _ _ _ (hshort.2 hs)]
    refine ⟨?_, State.settle_engines _⟩
    rw [State.rd_settle, State.rd_pushWritten _ _ _ _ _ (by decide), State.rd_wr_same]
    rfl
  case isFalse hs =>
    split
    case isTrue hf =>
      rw [State.mbxPush_fits _ _ _ (mt hshort.1 hs) (by rw [hsel, hstaged, hfits, hf]), hsel, hstaged, State.inbox_settle, State.eng_settle,
        State.rd_settle, State.rd_pushWritten _ _ _ _ _ (by decide), State.inbox_pushWritten, State.eng_pushWritten,
        ← s.inbox_pushWritten e a b e t]
      exact (s.pushWritten e a b).pushed_message e x ht16
    case isFalse hf =>
      rw [State.mbxPush_full _ _ _ (mt hshort.1 hs) (by rw [hsel, hstaged, hfits]; exact Bool.eq_false_iff.2 hf)]
      refine ⟨?_, State.settle_engines _⟩
      rw [State.rd_settle, State.rd_pushWritten _ _ _ _ _ (by decide), State.rd_wr_same]
      rfl

end Sys2Proof.Machine
end

section
/-! SUPPORT. Runs of the data windows of an engine's outbound queue and of the shared memory. -/

open Sys2Proof Sys2Proof.Machine
namespace Sys2Proof.Machine

/-! ### The data windows of an engine and of the shared memory -/

theorem State.outData_lt (s : State) (e : Nat) : s.outData e < 2 ^ 32 := by
  unfold State.outData
  split
  · exact BitVec.isLt _
  · decide

/-- A read of MBX_OUT_DATA shows the next word of the message that leads the queue (R355). -/
theorem State.read_mbxOutData {s : State} {ctx e : Nat} (he : e < 8) (hr : s.reads ctx (pageEng e)) :
    s.read ctx (pageEng e) 0x078 = (s.outNextWord e).emit (.read ctx (regAddr (pageEng e) 0x078) (s.outData e)) := by
  obtain ⟨hc, hon, hwipe⟩ := hr
  have hz := s.readsZero_false (b := .enge) (off := 0x078) ⟨hc, hon, hwipe⟩ (.inl (by decide)) rfl
  have hv : s.wordVal (pageEng e) .enge (fieldsAt .enge 0x078) = s.outData e := by
    rw [show fieldsAt .enge 0x078 = [(R.ENGE.MBX_OUT_DATA, 0)] from rfl]
    show 0 + s.outData (pageIndex (pageEng e)) % 2 ^ 32 * 2 ^ 0 = _
    rw [pageIndex_pageEng he, Nat.mod_eq_of_lt (s.outData_lt e)]
    omega
  rw [State.read_ok s hc (pageBlk_pageEng he) (by decide) (by decide) (.inr (by decide)) (by decide) hz]
  show (((s.outNextWord (pageIndex (pageEng e))).clearRead _ _).emit (.read ctx _ (s.wordVal _ _ _))) = _
  rw [hv, pageIndex_pageEng he]
  rfl

theorem runs_mbxOutDataRead {s : State} {ctx e : Nat} {x : Nat × Msg} {xs : List (Nat × Msg)} (he : e < 8) (hr : s.reads ctx (pageEng e))
    (hq : (s.eng e).outq = x :: xs) :
    Runs (.mbxOutDataRead ctx e) s (fun u =>
      s.returned u ctx (regAddr (pageEng e) 0x078) (x.2.payload.getD (s.eng e).outIdx 0).toNat ∧ (u.eng e).outIdx = (s.eng e).outIdx + 1 ∧
      (u.eng e).outq = x :: xs) := by
  have hv : s.outData e = (x.2.payload.getD (s.eng e).outIdx 0).toNat := by
    unfold State.outData
    rw [hq]
  have hx : exec (.mbxOutDataRead ctx e) s = done ((s.outNextWord e).emit (.read ctx (regAddr (pageEng e) 0x078) (s.outData e))) := by
    show done (s.read ctx (pageEng (e % 8)) 0x078) = _
    rw [Nat.mod_eq_of_lt he, State.read_mbxOutData he hr]
  rw [hv] at hx
  refine runs_done hx ⟨State.returned_settle (t := s.outNextWord e) rfl _ _ _, ?_, ?_⟩
  · rw [State.eng_settle, State.eng_emit, State.outNextWord, State.eng_onEng_same]
  · rw [State.eng_settle, State.eng_emit, State.outNextWord, State.eng_onEng_same, hq]

/-- A write of SH_DATA writes the shared memory at SH_ADDR, which moves on (R357). -/
theorem State.write_shData {s : State} {ctx : Nat} (v : Nat) (hw : s.writes ctx pageEshared) :
    s.write ctx pageEshared 0x044 v = s.shWrite (v % 2 ^ 32) := by
  have hwin : s.windowShut pageEshared 0x044 = false := by simp [State.windowShut, hw.2.2.2]
  have hf : s.fieldWrite pageEshared .eshared (v % 2 ^ 32) (R.ESHARED.SH_DATA, 0) s = s := by
    unfold State.fieldWrite
    dsimp only
    rw [if_pos (.inr (by simp [State.keeps, R.ESHARED.SH_DATA, Fld.offAt]))]
  have herr : ∀ fi ∈ fieldsAt .eshared 0x044, s.fieldErr pageEshared .eshared (v % 2 ^ 32) fi = 0 := by
    rw [show fieldsAt .eshared 0x044 = [(R.ESHARED.SH_DATA, 0)] from rfl]
    exact List.forall_mem_cons.2 ⟨State.fieldErr_plain s _ _ _ (.inr rfl) (by decide), by simp⟩
  rw [State.write_ok (b := .eshared) s hw rfl (by decide) (by decide) (by decide) (by decide) (by decide) (.inr (by decide)) (by decide) herr]
  show s.regEffect ctx pageEshared 0x044 (v % 2 ^ 32) (s.fieldWrite pageEshared .eshared (v % 2 ^ 32) (R.ESHARED.SH_DATA, 0) s) = _
  rw [hf]
  unfold State.regEffect
  dsimp only
  rw [hwin]
  rfl

theorem runs_shDataWrite {s : State} {ctx v : Nat} (hv : v < 2 ^ 32) (hw : s.writes ctx pageEshared) :
    Runs (.shDataAccess ctx true v) s (fun u =>
      u.shmem = put 0#32 s.shmem (s.rd pageEshared R.ESHARED.SH_ADDR) (BitVec.ofNat 32 v) ∧
      u.rd pageEshared R.ESHARED.SH_ADDR = (s.rd pageEshared R.ESHARED.SH_ADDR + 1) % 2 ^ 18) := by
  have hx : exec (.shDataAccess ctx true v) s = done (s.shWrite v) := by
    show done (s.write ctx pageEshared 0x044 v) = _
    rw [State.write_shData v hw, Nat.mod_eq_of_lt hv]
  refine runs_done hx ⟨State.settle_shmem _, ?_⟩
  rw [State.rd_settle, State.shWrite, State.shNext, State.rd_wr_same]
  rfl

/-- A read of SH_DATA shows the shared memory at SH_ADDR, which moves on (R357). -/
theorem State.read_shData {s : State} {ctx : Nat} (hr : s.reads ctx pageEshared) :
    s.read ctx pageEshared 0x044 = s.shNext.emit (.read ctx (regAddr pageEshared 0x044) s.shData) := by
  obtain ⟨hc, hon, hwipe⟩ := hr
  have hz := s.readsZero_false (b := .eshared) (off := 0x044) ⟨hc, hon, hwipe⟩ (.inl (by decide)) rfl
  have hv : s.wordVal pageEshared .eshared (fieldsAt .eshared 0x044) = s.shData := by
    show 0 + s.shData % 2 ^ 32 * 2 ^ 0 = s.shData
    rw [Nat.mod_eq_of_lt (show s.shData < 2 ^ 32 from BitVec.isLt _)]
    omega
  rw [State.read_ok (b := .eshared) s hc rfl (by decide) (by decide) (.inr (by decide)) (by decide) hz]
  show (s.shNext.emit (.read ctx _ (s.wordVal _ _ _))) = _
  rw [hv]

theorem runs_shDataRead {s : State} {ctx v : Nat} (hr : s.reads ctx pageEshared) :
    Runs (.shDataAccess ctx false v) s (fun u =>
      s.returned u ctx (regAddr pageEshared 0x044) (look 0#32 s.shmem (s.rd pageEshared R.ESHARED.SH_ADDR)).toNat ∧ u.shmem = s.shmem ∧
      u.rd pageEshared R.ESHARED.SH_ADDR = (s.rd pageEshared R.ESHARED.SH_ADDR + 1) % 2 ^ 18) := by
  have hx : exec (.shDataAccess ctx false v) s = done (s.shNext.emit (.read ctx (regAddr pageEshared 0x044) s.shData)) := by
    show done (s.read ctx pageEshared 0x044) = _
    rw [State.read_shData hr]
  refine runs_done hx ⟨State.returned_settle (t := s.shNext) rfl _ _ _, State.settle_shmem _, ?_⟩
  rw [State.rd_settle, State.rd_emit, State.shNext, State.rd_wr_same]
  rfl

end Sys2Proof.Machine
end

section
/-! SUPPORT. The end of a command and of a swap, and the run by which the spare engine takes over. -/

open Sys2Proof Sys2Proof.Machine
namespace Sys2Proof.Machine

/-! ### The end of a command changes its context's page alone -/

/-- What the end of a command leaves of the spares' service: its records, and what waits for one. -/
def behindCompletions := State.View.mk (fun s : State => (s.swaps, s.swapWait)) fun _ _ => rfl

section
variable (s : State) (c : Nat)

theorem State.onHost_confined (p : Nat) (f : HostCtx → HostCtx) : State.Confined behindCompletions p s (s.onHost c f) := by
  unfold State.onHost
  exact .upd (.refl s) rfl rfl

theorem State.cplStore_confined (i : Nat) (ws : List Nat) : State.Confined behindCompletions (pageHC c) s (s.cplStore c i ws) := by
  unfold State.cplStore
  refine .ite _ (.refl s) (.each 4 _ (.refl s) fun a j hj => .wrI (.refl a) _ _ _ ?_)
  have hle : i % 64 * 4 + j ≤ 255 := by omega
  exact Fld.inPage_of_le hle (by decide)

theorem State.cplWrite_confined (e : Cpl) : State.Confined behindCompletions (pageHC c) s (s.cplWrite c e) := by
  have h (i : Nat) (ws : List Nat) (o : Out) : State.Confined behindCompletions (pageHC c) s ((s.cplStore c i ws).emit o) :=
    .upd (s.cplStore_confined c i ws) rfl rfl
  unfold State.cplWrite
  exact .raiseIf (.wr (h _ _ _) _ _ (by decide)) _ _

theorem State.cplFlush_confined (es : List Cpl) : State.Confined behindCompletions (pageHC c) s (s.cplFlush c es) := by
  induction es generalizing s with
  | nil => exact s.onHost_confined c _ _
  | cons e es ih => exact .ite _ ((s.cplWrite_confined c e).trans (ih _)) (s.onHost_confined c _ _)

theorem State.cplPump_confined : State.Confined behindCompletions (pageHC c) s (s.cplPump c) := by
  unfold State.cplPump
  exact .ite _ (s.onHost_confined c _ _) (.wr (s.cplFlush_confined c _) _ _ (by decide))

theorem State.cplPost_confined (e : Cpl) : State.Confined behindCompletions (pageHC c) s (s.cplPost c e) := by
  unfold State.cplPost
  exact .ite _ (.refl s) (.raiseIf ((s.onHost_confined c _ _).trans (State.cplPump_confined _ c)) _ _)

theorem State.endSlot_confined (p : Nat) (k : Cmd) (status : Nat) : State.Confined behindCompletions p s (s.endSlot k status) := by
  unfold State.endSlot State.setSlot
  exact .ite _ (.ite _ (.refl s) (.upd (.refl s) rfl rfl)) (.refl s)

theorem State.endSlot_removed_confined (p : Nat) (l : List Cmd) (k : Cmd) (status : Nat) :
    State.Confined behindCompletions p s (({ s with cmds := l } : State).endSlot k status) := by
  have h : State.Confined behindCompletions p s { s with cmds := l } := .upd (.refl s) rfl rfl
  exact h.trans (State.endSlot_confined _ p k status)

theorem State.finish_confined (k : Cmd) (status detail r0 r1 : Nat) :
    State.Confined behindCompletions (pageHC k.ctx) s (s.finish k status detail r0 r1) := by
  unfold State.finish
  exact (s.endSlot_removed_confined _ _ k status).trans (State.cplPost_confined _ _ _)

/-- A command of no context posts no completion. -/
theorem State.finish_outside {k : Cmd} (hk : 4 ≤ k.ctx) (status detail r0 r1 p : Nat) :
    State.Confined behindCompletions p s (s.finish k status detail r0 r1) := by
  unfold State.finish State.cplPost
  rw [if_pos hk]
  exact s.endSlot_removed_confined p _ k status

/-- The end of an operation's command changes registers of a context's page alone. -/
theorem State.finishOp_confined (op arg0 status r0 r1 : Nat) :
    ∃ c < 4, State.Confined behindCompletions (pageHC c) s (s.finishOp op arg0 status r0 r1) := by
  unfold State.finishOp
  split
  next k _ =>
    by_cases hk : k.ctx < 4
    · exact ⟨k.ctx, hk, s.finish_confined k _ _ _ _⟩
    · exact ⟨0, by decide, s.finish_outside (Nat.le_of_not_lt hk) _ _ _ _ _⟩
  · exact ⟨0, by decide, .refl s⟩

end

/-! ### A swap that is done -/

section
variable (s : State) (i : Nat)

/-- The state of a swap's record, its page and the cave where the swap ends, before its command's completion (R383). -/
def State.swapEnds : State :=
  let r := s.swapRec i
  let s := (((s.onSwap i fun r => { r with state := 4 }).raiseHdr r.page hSpare).raise pageCave 1).inc pageCave R.CAVE.CAVE_STAT_SWAPS
  s.wr r.page R.HDR.HDR_SPARE_STAT_USED (if r.kind = 4 then s.rowShare r.page else satNat 4 (s.rd r.page R.HDR.HDR_SPARE_STAT_USED + 1))

theorem State.swapDone_eq : s.swapDone i = ((s.swapEnds i).finishOp 0x49 (s.swapRec i).number stOk 0 0).swapPump := rfl

/-- With no swap that waits, the spares' service takes up none. -/
theorem State.swapPump_idle (h : s.swapWait = []) : s.swapPump = { s with swapWait := [] } := by
  unfold State.swapPump
  rw [h]
  rfl

theorem State.swapEnds_swaps : (s.swapEnds i).swaps = upd {} s.swaps i fun r => { r with state := 4 } := by
  simp [State.swapEnds, State.inc, State.addI, State.onSwap]

theorem State.swapEnds_swapWait : (s.swapEnds i).swapWait = s.swapWait := by
  simp [State.swapEnds, State.inc, State.addI]

/-- A block register of another page than the cave's stands. -/
theorem State.rd_swapEnds {q : Nat} {f : Fld} (hf : f.inPage 0 = true) (hq : pageCave ≠ q) (h512 : 512 ≤ f.place 0) :
    (s.swapEnds i).rd q f = s.rd q f := by
  have hu : R.HDR.HDR_SPARE_STAT_USED.place 0 ≠ f.place 0 := by
    have : R.HDR.HDR_SPARE_STAT_USED.place 0 < 512 := by decide
    omega
  have hc : R.HDR.HDR_INT_CAUSE.place 0 ≠ f.place 0 := by
    have : R.HDR.HDR_INT_CAUSE.place 0 < 512 := by decide
    omega
  unfold State.swapEnds
  dsimp only
  rw [State.rd_wr_place _ _ _ _ _ _ hu, State.inc, State.addI, ← State.wr_eq, State.rd_wr_page _ _ _ _ (by decide) hf hq,
    State.rd_raise _ _ _ _ _ hc, State.rd_raiseHdr _ _ _ _ _ hc, State.rd_onSwap]

/-- Where no swap waits, a swap that is done leaves the block registers of other pages than the cave's and the contexts'. -/
theorem State.rd_swapDone {q : Nat} {f : Fld} (hw : s.swapWait = []) (hf : f.inPage 0 = true) (hq : pageCave ≠ q)
    (hc : ∀ c < 4, q ≠ pageHC c) (h512 : 512 ≤ f.place 0) : (s.swapDone i).rd q f = s.rd q f := by
  obtain ⟨c, hc4, h⟩ := (s.swapEnds i).finishOp_confined 0x49 (s.swapRec i).number stOk 0 0
  have hwait := (congrArg Prod.snd h.rest).trans ((s.swapEnds_swapWait i).trans hw)
  rw [State.swapDone_eq, State.swapPump_idle _ hwait]
  exact (h.regs q f 0 hf (hc c hc4)).trans (s.rd_swapEnds i hf hq h512)

theorem State.swapRec_swapDone (hw : s.swapWait = []) : ((s.swapDone i).swapRec i).state = 4 := by
  obtain ⟨c, -, h⟩ := (s.swapEnds i).finishOp_confined 0x49 (s.swapRec i).number stOk 0 0
  have hwait := (congrArg Prod.snd h.rest).trans ((s.swapEnds_swapWait i).trans hw)
  have hswaps := (congrArg Prod.fst h.rest).trans (s.swapEnds_swaps i)
  have h4 : (s.swapDone i).swaps = upd {} s.swaps i fun r => { r with state := 4 } := by
    rw [State.swapDone_eq, State.swapPump_idle _ hwait]
    exact hswaps
  unfold State.swapRec
  rw [h4, look_upd_same]

end

/-! ### The spare engine takes over -/

/-- The state of the two pages after the spare engine takes the place of engine `e` (R358). -/
def State.sparePlaced (s : State) (e : Nat) : State :=
  ((s.wr (pageEng e) R.ENGE.ENG_E_STAT_PHYS 8).wr pageEngc R.ENG.ENG_STAT_SPARE_FOR e).wr pageEngc R.ENG.ENG_STAT_SPARE_IN_USE 1

theorem exec_engineSwap {s : State} {e i : Nat} (he : e < 8) (hi : s.engSwap e = some i) (hr : s.running e = none)
    (hen : s.flag pageCave R.CAVE.CAVE_CTL_EN = true) : exec (.engineSwap e) s = done ((s.sparePlaced e).swapDone i) := by
  have hno : ¬ ((s.running e).isSome ∨ ¬ s.flag pageCave R.CAVE.CAVE_CTL_EN) := by simp [hr, hen]
  show done (s.engineSwap (e % 8)) = _
  rw [Nat.mod_eq_of_lt he]
  unfold State.engineSwap
  rw [hi]
  dsimp only
  rw [if_neg hno]
  rfl

theorem runs_engineSwap {s : State} {e i : Nat} (he : e < 8) (hi : s.engSwap e = some i) (hr : s.running e = none)
    (hen : s.flag pageCave R.CAVE.CAVE_CTL_EN = true) (hw : s.swapWait = []) :
    Runs (.engineSwap e) s (fun u => u.rd (pageEng e) R.ENGE.ENG_E_STAT_PHYS = 8 ∧ u.flag pageEngc R.ENG.ENG_STAT_SPARE_IN_USE = true ∧
      u.rd pageEngc R.ENG.ENG_STAT_SPARE_FOR = e ∧ (u.swapRec i).state = 4) := by
  have hwait : (s.sparePlaced e).swapWait = [] := hw
  have hcave : pageCave ≠ pageEng e := (pageEng_ne he (by decide)).symm
  have hcom : pageEngc ≠ pageEng e := (pageEng_ne he (by decide)).symm
  have hctx : ∀ c < 4, pageEng e ≠ pageHC c := fun c hc => pageEng_ne he (.inl (by simp only [pageHC, pageEng]; omega))
  have hctxc : ∀ c < 4, pageEngc ≠ pageHC c := by decide
  refine runs_done (exec_engineSwap he hi hr hen) ⟨?_, ?_, ?_, ?_⟩
  · rw [State.rd_settle, State.rd_swapDone _ _ hwait (by decide) hcave hctx (by decide), State.sparePlaced,
      State.rd_wr_page _ _ _ _ (by decide) (by decide) hcom, State.rd_wr_page _ _ _ _ (by decide) (by decide) hcom, State.rd_wr_same]
    rfl
  · rw [State.flag_settle, State.flag, State.rd_swapDone _ _ hwait (by decide) (by decide) hctxc (by decide), State.sparePlaced,
      State.rd_wr_same]
    rfl
  · rw [State.rd_settle, State.rd_swapDone _ _ hwait (by decide) (by decide) hctxc (by decide), State.sparePlaced,
      State.rd_wr_place _ _ _ _ _ _ (by decide), State.rd_wr_same]
    exact Nat.mod_eq_of_lt he
  · unfold State.swapRec
    rw [State.settle_swaps]
    exact (s.sparePlaced e).swapRec_swapDone i hwait

end Sys2Proof.Machine
end

section
/-! SUPPORT. What the spares' service writes when an engine's monitor reports. -/

open Sys2Proof Sys2Proof.Machine
namespace Sys2Proof.Machine

/-! ### What the spares' service writes for an engine: page headers alone -/

/-- From `s` to `u` registers of page headers alone have changed, and no wear. -/
structure State.InHeaders (s u : State) : Prop where
  regs : ∀ q f j, 512 ≤ Fld.place f j → u.rdI q f j = s.rdI q f j
  wear : u.wear = s.wear

section
variable {s t u : State}

theorem State.InHeaders.refl (s : State) : State.InHeaders s s := ⟨fun _ _ _ _ => rfl, rfl⟩

theorem State.InHeaders.trans (h : State.InHeaders s t) (g : State.InHeaders t u) : State.InHeaders s u :=
  ⟨fun q f j hf => (g.regs q f j hf).trans (h.regs q f j hf), g.wear.trans h.wear⟩

theorem State.InHeaders.upd (h : State.InHeaders s t) (hr : u.regs = t.regs) (hw : u.wear = t.wear) : State.InHeaders s u :=
  h.trans ⟨fun q f j _ => State.rdI_congr hr q f j, hw⟩

theorem State.InHeaders.wr (h : State.InHeaders s t) (p : Nat) (f : Fld) (v : Nat) (hf : f.place 0 < 512) : State.InHeaders s (t.wr p f v) :=
  h.trans ⟨fun q g j hg => State.rdI_wr_place _ _ _ _ _ _ _ (by omega), rfl⟩

theorem State.InHeaders.ite (c : Prop) [Decidable c] (h : State.InHeaders s t) (g : State.InHeaders s u) :
    State.InHeaders s (if c then t else u) := by
  split
  · exact h
  · exact g

theorem State.InHeaders.raise (h : State.InHeaders s t) (p b : Nat) : State.InHeaders s (t.raise p b) :=
  h.ite _ (h.wr _ _ _ (by decide))

theorem State.InHeaders.raiseHdr (h : State.InHeaders s t) (p b : Nat) : State.InHeaders s (t.raiseHdr p b) := h.wr _ _ _ (by decide)

theorem State.InHeaders.raiseIf (h : State.InHeaders s t) (c : Bool) (p b : Nat) : State.InHeaders s (t.raiseIf c p b) :=
  State.InHeaders.ite _ (h.raise p b) h

theorem State.InHeaders.onSwap (h : State.InHeaders s t) (i : Nat) (f : SwapRec → SwapRec) : State.InHeaders s (t.onSwap i f) := by
  unfold State.onSwap
  exact h.upd rfl rfl

end

section
variable (s : State)

theorem State.setWear_inHeaders (p index slice : Nat) : State.InHeaders s (s.setWear p index slice) :=
  .wr (.wr (.refl s) _ _ _ (by decide)) _ _ _ (by decide)

theorem State.showWear_inHeaders (p slice : Nat) : State.InHeaders s (s.showWear p slice) := by
  unfold State.showWear
  have h := s.setWear_inHeaders p (s.worst p).1 (s.worst p).2
  exact .ite _ (h.trans (State.setWear_inHeaders _ _ _ _)) h

theorem State.exhausted_inHeaders (p : Nat) : State.InHeaders s (s.exhausted p) := by
  unfold State.exhausted State.setFault
  have h := (State.InHeaders.refl s).raise pageCave 2
  exact .ite _ h (.wr (.wr h _ _ _ (by decide)) _ _ _ (by decide))

/-- A swap of an engine that is taken up waits for its engine alone (R383). -/
theorem State.swapQueue_inHeaders (i : Nat) (h : (s.swapRec i).kind = 3) : State.InHeaders s (s.swapQueue i) := by
  unfold State.swapQueue
  dsimp only
  rw [h, if_neg (by decide), if_neg (by simp)]
  exact (State.InHeaders.refl s).onSwap _ _

theorem State.swapRecord_inHeaders (w : SwapWait) (x i : Nat) (hk : wearKind w.page = some 3) : State.InHeaders s (s.swapRecord w x i) := by
  unfold State.swapRecord
  dsimp only
  have h : ∀ (r : SwapRec) (n : Nat), State.InHeaders s { s.onSwap i (fun _ => r) with swapNext := n } :=
    fun r n => ((State.InHeaders.refl s).onSwap i fun _ => r).upd rfl rfl
  refine .ite _ ((h _ _).trans (State.swapQueue_inHeaders _ _ ?_)) (((h _ _).raiseHdr _ _).raise _ _)
  simp [State.swapRec, State.onSwap, hk]

theorem State.swapDue_inHeaders (w : SwapWait) (hk : wearKind w.page = some 3) : State.InHeaders s (s.swapDue w) := by
  unfold State.swapDue
  refine .ite _ (.refl s) ?_
  split
  · exact s.exhausted_inHeaders _
  · split
    · exact .ite _ (.refl s) ((State.InHeaders.refl s).upd rfl rfl)
    · exact s.swapRecord_inHeaders w _ _ hk

/-- A monitor of an engine that reports sets its wear, and what follows stands in page headers. -/
theorem State.wearSet_inHeaders {page slice monitor index : Nat} (failing : Bool) (hk : wearKind page = some 3)
    (hon : s.flag pageCave R.CAVE.CAVE_CTL_EN = true) (hs : slice < sliceCount page) (hp : s.pageOff page = false) :
    State.InHeaders { s with wear := put 0 s.wear (wearKey page slice monitor) (min 255 index) } (s.wearSet page slice monitor index failing) := by
  have hno : ¬ (¬ s.flag pageCave R.CAVE.CAVE_CTL_EN ∨ sliceCount page ≤ slice ∨ s.pageOff page) := by
    simp [hon, hs, hp]
  unfold State.wearSet
  rw [if_neg hno]
  dsimp only
  have h := (State.showWear_inHeaders { s with wear := put 0 s.wear (wearKey page slice monitor) (min 255 index) } page slice).raiseIf
  exact .ite _ ((h _ _ _).trans (State.swapDue_inHeaders _ _ hk)) (h _ _ _)

end

end Sys2Proof.Machine
end

section
/-! SUPPORT. The run of an engine's self-test, and O39. -/

open Sys2Proof Sys2Proof.Machine
namespace Sys2Proof.Machine

/-! ### A self-test of an engine -/

/-- A mask with bit `e` set to `b`, as the self-test shows its result (R383). -/
def withBit (v e : Nat) (b : Bool) : Nat := v - bits v e 1 * 2 ^ e + b2n b * 2 ^ e

theorem bitAt_withBit {v e : Nat} (he : e < 8) (b : Bool) : bitAt (withBit v e b % 2 ^ 8) e = b := by
  have h0 := testBit_sub_bit v e
  have hq : (v - bits v e 1 * 2 ^ e) / 2 ^ e % 2 = 0 := by
    simpa [bitAt, Nat.testBit_eq_decide_div_mod_eq] using h0
  rw [bitAt, Nat.testBit_mod_two_pow, decide_eq_true he, Bool.true_and, Nat.testBit_eq_decide_div_mod_eq, withBit,
    Nat.add_mul_div_right _ _ (Nat.two_pow_pos e)]
  cases b <;> simp [b2n, Nat.add_mod, hq]

/-- The state after the self-test of an engine shows its result. -/
def State.selfTested (s : State) (e : Nat) (passed : Bool) : State :=
  s.wr pageCave R.CAVE.CAVE_ST_FAIL_E (withBit (s.rd pageCave R.CAVE.CAVE_ST_FAIL_E) e !passed)

/-- The wear index that a self-test reports. -/
def selfTestIndex (passed : Bool) : Nat := if passed then 0 else 255

theorem exec_engineSelfTestEnd {s : State} {e : Nat} (passed : Bool) (he : e < 8) (hon : s.isOn 5 = true)
    (hen : s.flag pageCave R.CAVE.CAVE_CTL_EN = true) : exec (.engineSelfTestEnd e passed) s =
      done ((s.selfTested e passed).wearSet pageEngc e mSelfTest (selfTestIndex passed) !passed) := by
  have h9 : e % 9 = e := Nat.mod_eq_of_lt (by omega)
  have h8 : e ≠ 8 := by omega
  show execEngineSelfTestEnd e passed s = _
  unfold execEngineSelfTestEnd
  rw [h9]
  dsimp only
  rw [if_neg (by simp [hon, hen]), if_neg h8]
  cases passed <;> rfl

theorem runs_engineSelfTestEnd {s : State} {e : Nat} {passed : Bool} (he : e < 8) (hon : s.isOn 5 = true)
    (hen : s.flag pageCave R.CAVE.CAVE_CTL_EN = true) :
    Runs (.engineSelfTestEnd e passed) s (fun u => bitAt (u.rd pageCave R.CAVE.CAVE_ST_FAIL_E) e = !passed ∧
      (passed = false → look 0 u.wear (wearKey pageEngc e mSelfTest) = 255)) := by
  have hen' : (s.selfTested e passed).flag pageCave R.CAVE.CAVE_CTL_EN = true := by
    rw [State.flag, State.selfTested, State.rd_wr_place _ _ _ _ _ _ (by decide)]
    exact hen
  have hpwr : (s.selfTested e passed).pwr 5 = s.pwr 5 := State.pwr_wrI _ _ _ (by decide) (by decide)
  have hoff : (s.selfTested e passed).pageOff pageEngc = false := by
    have h5 : s.pwr 5 = 2 := eq_of_beq hon
    rw [State.pageOff, show pageDomain pageEngc = 5 from rfl, hpwr, h5]
    rfl
  have h := (s.selfTested e passed).wearSet_inHeaders (monitor := mSelfTest) (index := selfTestIndex passed) (!passed) (page := pageEngc) rfl hen'
    (show e < 9 by omega) hoff
  refine runs_done (exec_engineSelfTestEnd passed he hon hen) ⟨?_, fun hp => ?_⟩
  · rw [State.rd_settle]
    have hr : _ = (s.selfTested e passed).rd pageCave R.CAVE.CAVE_ST_FAIL_E := h.regs pageCave R.CAVE.CAVE_ST_FAIL_E 0 (by decide)
    rw [State.rd_eq, hr, State.selfTested, State.rd_wr_same]
    exact bitAt_withBit he _
  · rw [State.settle_wear, h.wear]
    dsimp only
    rw [look_put_same, hp]
    rfl

/-- Settles O39: each clause is the run of one engine command, by the lemma of that command above. -/
theorem enginesRunTheirTasksAndWindows : Obligations.EnginesRunTheirTasksAndWindows := by
  unfold Obligations.EnginesRunTheirTasksAndWindows
  exact ⟨fun s e t he h1 h2 hr hp => runs_dispatch he h1 h2 hr hp,
    fun s e _ h => runs_dispatch_early h,
    fun s e t taken i he _ hr hs hi => runs_taskLeaves he hr hs hi,
    fun s e t timer he _ hr hs => runs_taskWait he hr hs,
    fun s e t he ht hs hb => runs_taskTimerExpiry he ht hs hb,
    fun s e t code region he _ h1 h3 hreg hm hr hs hon => runs_taskFault he h1 h3 hreg hm hr hs hon,
    fun s e t code he _ hr h => runs_noFault he hr h,
    fun s e t src m x he ht hon hx => runs_messageArrival he ht hon hx,
    fun s ctx e h need t x he hw hh hneed ht hx => runs_mbxPush he hw hh hneed ht hx,
    fun s ctx e he hw => runs_mbxClear he hw,
    fun s ctx e v he hv hw hroom => runs_mbxDataWrite he hv hw hroom,
    fun s ctx e he hw => runs_mbxOutPop he hw,
    fun s ctx e x xs he hr hq => runs_mbxOutDataRead he hr hq,
    fun s ctx v hv hw => runs_shDataWrite hv hw,
    fun s ctx v hr => runs_shDataRead hr,
    fun s e i he hi hr hen hw => runs_engineSwap he hi hr hen hw,
    fun s e passed he hon hen => runs_engineSelfTestEnd he hon hen⟩

end Sys2Proof.Machine
end

section
/-! SUPPORT. Writes that are refused (R25, R34, R36, R38), and O12. -/

open Sys2Proof Sys2Proof.Machine
namespace Sys2Proof.Machine

/-- The errors of a write take in those of its access. -/
theorem State.writeMask_ne_zero (s : State) {ctx a size : Nat} (v : Nat) (h : s.writeErrs ctx a size ≠ 0) : s.writeMask ctx a size v ≠ 0 := by
  unfold State.writeMask
  dsimp only
  split
  · exact h
  · split
    · exact fun e => h (Nat.or_eq_zero_iff.1 e).1
    · exact h

/-- A write of an allocated page that is refused does no more than record its errors on that page. -/
theorem State.hostWrite_refused (s : State) {ctx a size : Nat} (v : Nat) (hc : s.canAccess ctx = true) (hb : (pageBlk (addrPage a)).isSome)
    (he : s.writeErrs ctx a size ≠ 0) :
    s.hostWrite ctx a size v = s.accErr (addrPage a) ctx (addrOff a) true (s.writeMask ctx a size v) := by
  obtain ⟨b, hb⟩ := Option.isSome_iff_exists.1 hb
  unfold State.hostWrite State.checkedWrite
  dsimp only
  rw [if_pos hc, hb]
  dsimp only
  rw [if_pos he]

/-- A cause that is set is recorded, and those recorded before stay (R36). -/
theorem State.cause_setCause (s : State) (p m : Nat) {b : Nat} (hb : b < 30) :
    (s.setCause p m).cause p b = (s.cause p b || bitAt m b) := by
  unfold State.cause State.setCause bitAt
  rw [State.rd_wr_same, show R.HDR.HDR_INT_CAUSE.w = 30 from rfl, Nat.testBit_mod_two_pow, Nat.testBit_or]
  simp [hb]

theorem State.cause_raiseHdr (s : State) (p : Nat) {b : Nat} (hb : b < 30) : (s.raiseHdr p b).cause p b = true := by
  rw [State.raiseHdr, State.cause_setCause s p _ hb, bitAt, Nat.testBit_two_pow_self, Bool.or_true]

/-- An error that is recorded raises ERR (R36). -/
theorem State.accErr_raises (s : State) (p ctx off : Nat) (w : Bool) {m : Nat} (hm : m ≠ 0) : (s.accErr p ctx off w m).cause p hErr = true := by
  unfold State.accErr
  rw [if_neg hm]
  exact State.cause_raiseHdr _ _ (by decide)

@[simp] theorem State.cause_settle (s : State) (p b : Nat) : s.settle.cause p b = s.cause p b := by
  unfold State.cause; rw [State.rd_settle]

/-- Settles O12: a refused write comes to the record of its errors on the page addressed, which changes registers alone. -/
theorem aRefusedWriteChangesOnlyTheErrorRecord : Obligations.ARefusedWriteChangesOnlyTheErrorRecord := by
  unfold Obligations.ARefusedWriteChangesOnlyTheErrorRecord
  intro s ctx a size v ha hc hb he
  have hw := s.hostWrite_refused (v % 2 ^ 32) hc hb he
  refine ⟨_, rfl, ?_⟩
  rw [Nat.mod_eq_of_lt ha, hw]
  have hr := s.accErr_regsOnly (addrPage a) ctx (addrOff a) true (s.writeMask ctx a size (v % 2 ^ 32))
  refine ⟨fun q f i hf hq => ?_, ?_, ?_, ?_⟩
  · rw [State.rdI_settle]; exact s.rdI_accErr _ _ _ _ _ hf hq
  · rw [State.rd_settle]; exact s.accErr_acc _ _ _ _ _
  · rw [State.cause_settle]; exact s.accErr_raises _ _ _ _ (s.writeMask_ne_zero _ he)
  · rw [hr]; simp

end Sys2Proof.Machine
end

section
/-! SUPPORT. Changes that leave the block registers of the Rind pages and of the TCUs' control pages. -/

open Sys2Proof Sys2Proof.Machine
namespace Sys2Proof.Machine

/-! ### The base of the device -/

/-- The pages of the Rind and the control pages of the two TCUs. -/
def basePage (p : Nat) : Bool := decide (p < 0x010) || p == pageCtl 0 || p == pageCtl 1

/-- A field element that stands among the block registers of its page, past the header (R35). -/
def Fld.blockReg (f : Fld) (i : Nat) : Bool := decide (512 ≤ f.place i) && f.inPage i

/-- A field of a page's header other than `HDR_INT_CAUSE`. -/
def Fld.quietHdr (f : Fld) : Bool := decide (f.place 0 < 512) && f.place 0 != R.HDR.HDR_INT_CAUSE.place 0

theorem basePage_eq_false {p : Nat} (h : 0x010 ≤ p) (h0 : p ≠ pageCtl 0) (h1 : p ≠ pageCtl 1) : basePage p = false := by
  simp [basePage, h0, h1, h]

theorem basePage_pageCtl {t : Nat} (ht : t < 2) : basePage (pageCtl t) = true := by
  have : ∀ t < 2, basePage (pageCtl t) = true := by decide
  exact this t ht

/-- A page of a TCU that is not its control page. -/
theorem basePage_tpage (t : Nat) {r : Nat} (h : 0x40 < r) (h' : r < 0x80) : basePage (tpage t r) = false := by
  apply basePage_eq_false <;> simp only [tpage, pageCtl] <;> omega

@[simp] theorem basePage_pageTime (t : Nat) : basePage (pageTime t) = false := basePage_tpage t (by decide) (by decide)
@[simp] theorem basePage_pageSynth (t : Nat) : basePage (pageSynth t) = false := basePage_tpage t (by decide) (by decide)
@[simp] theorem basePage_pageRefsel (t : Nat) : basePage (pageRefsel t) = false := basePage_tpage t (by decide) (by decide)
@[simp] theorem basePage_pageHold (t : Nat) : basePage (pageHold t) = false := basePage_tpage t (by decide) (by decide)
@[simp] theorem basePage_pageTdc (t : Nat) {c : Nat} (hc : c < 24) : basePage (pageTdc t c) = false := basePage_tpage t (by omega) (by omega)
@[simp] theorem basePage_pagePtp (t : Nat) {i : Nat} (hi : i < 2) : basePage (pagePtp t i) = false := basePage_tpage t (by omega) (by omega)

/-- The pages from `0x0C0` on are no base pages. -/
theorem basePage_above {p : Nat} (h : 0x0C0 ≤ p) : basePage p = false := by
  refine basePage_eq_false (by omega) ?_ ?_ <;> simp only [pageCtl, tpage] <;> omega

@[simp] theorem basePage_pagePort (p : Nat) : basePage (pagePort p) = false := basePage_above (by simp only [pagePort]; omega)
@[simp] theorem basePage_pageNT (n : Nat) : basePage (pageNT n) = false := basePage_above (by simp only [pageNT]; omega)
@[simp] theorem basePage_pageVB (b : Nat) : basePage (pageVB b) = false := basePage_above (by simp only [pageVB]; omega)
@[simp] theorem basePage_pageGrp (g : Nat) : basePage (pageGrp g) = false := basePage_above (by simp only [pageGrp]; omega)

@[simp] theorem basePage_pageHC {c : Nat} (hc : c < 4) : basePage (pageHC c) = false := by
  apply basePage_eq_false <;> simp only [pageHC, pageCtl, tpage] <;> omega

/-- The clock phase, the moves of the token that wait, how far the wipe and the start have come, and the memories of the forwarding
pipelines and of the engines, and the device time. -/
structure Base where
  phase : Phase
  switch : List (Option Nat × Nat × Nat)
  wiping : Bool
  startWait : Bool
  tabs : Store (List Nat)
  engines : Store Engine
  shmem : Store Word
  up : Nat

def State.base (s : State) : Base := ⟨s.phase, s.switch, s.wiping, s.startWait, s.tabs, s.engines, s.shmem, s.up⟩

/-- From `s` to `u` the block registers of the base pages stand, but for those at the places `E`; causes recorded on these pages stay
recorded; and what `State.base` shows stands. -/
structure State.KeepsBase (E : List Nat) (s u : State) : Prop where
  regs : ∀ p f j, basePage p = true → f.blockReg j = true → f.place j ∉ E → u.rdI p f j = s.rdI p f j
  causes : R.HDR.HDR_INT_CAUSE.place 0 ∉ E → ∀ p b, basePage p = true → s.cause p b = true → u.cause p b = true
  rest : u.base = s.base

theorem Fld.blockReg_iff {f : Fld} {i : Nat} : f.blockReg i = true ↔ 512 ≤ f.place i ∧ f.inPage i = true := by
  simp [Fld.blockReg]

theorem Fld.blockReg_ne_hdr {f g : Fld} {i j : Nat} (hf : f.blockReg i = true) (hg : g.place j < 512) : f.place i ≠ g.place j := by
  have := (Fld.blockReg_iff.1 hf).1
  omega

section
variable {E : List Nat} {s t u : State}

theorem State.cause_congr (h : u.regs = t.regs) (p b : Nat) : u.cause p b = t.cause p b := by
  unfold State.cause; rw [State.rd_congr h]

theorem State.KeepsBase.refl (s : State) : State.KeepsBase E s s := ⟨fun _ _ _ _ _ _ => rfl, fun _ _ _ _ h => h, rfl⟩

theorem State.KeepsBase.trans (h : State.KeepsBase E s t) (g : State.KeepsBase E t u) : State.KeepsBase E s u :=
  ⟨fun p f j hp hf hE => (g.regs p f j hp hf hE).trans (h.regs p f j hp hf hE),
    fun hE p b hp hb => g.causes hE p b hp (h.causes hE p b hp hb), g.rest.trans h.rest⟩

theorem State.KeepsBase.mono {F : List Nat} (h : State.KeepsBase E s u) (hs : ∀ x ∈ E, x ∈ F) : State.KeepsBase F s u :=
  ⟨fun p f j hp hf hF => h.regs p f j hp hf fun hE => hF (hs _ hE), fun hF => h.causes fun hE => hF (hs _ hE), h.rest⟩

/-- What keeps every base register keeps those but some. -/
theorem State.KeepsBase.widen (h : State.KeepsBase [] s u) : State.KeepsBase E s u := h.mono (by simp)

/-- An update of what is neither a register nor part of the base. -/
theorem State.KeepsBase.upd (h : State.KeepsBase E s t) (hr : u.regs = t.regs) (hb : u.base = t.base) : State.KeepsBase E s u :=
  h.trans ⟨fun p f j _ _ _ => State.rdI_congr hr p f j, fun _ p b _ hc => by rwa [State.cause_congr hr], hb⟩

theorem State.KeepsBase.ite {c : Prop} {_ : Decidable c} (h : State.KeepsBase E s t) (g : State.KeepsBase E s u) :
    State.KeepsBase E s (if c then t else u) := by
  split
  · exact h
  · exact g

theorem State.KeepsBase.foldl {β : Type} {l : List β} {f : State → β → State} (h : State.KeepsBase E s t)
    (hf : ∀ a, ∀ b ∈ l, State.KeepsBase E s a → State.KeepsBase E s (f a b)) : State.KeepsBase E s (l.foldl f t) := by
  induction l generalizing t with
  | nil => exact h
  | cons b l ih => exact ih (hf t b (by simp) h) fun a c hc => hf a c (by simp [hc])

theorem State.KeepsBase.each {n : Nat} {f : Nat → State → State} (h : State.KeepsBase E s t)
    (hf : ∀ a i, i < n → State.KeepsBase E s a → State.KeepsBase E s (f i a)) : State.KeepsBase E s (t.each n f) :=
  h.foldl fun a i hi => hf a i (List.mem_range.1 hi)

theorem State.KeepsBase.both {f : Nat → State → State} (h : State.KeepsBase E s t)
    (hf : ∀ a i, i < 2 → State.KeepsBase E s a → State.KeepsBase E s (f i a)) : State.KeepsBase E s (t.both f) :=
  hf _ 1 (by decide) (hf _ 0 (by decide) h)

section
variable {p i v b m : Nat} {f g : Fld}

/-- A write on another page. -/
theorem State.KeepsBase.wrI (h : State.KeepsBase E s t) (hp : basePage p = false) (hf : f.inPage i = true) :
    State.KeepsBase E s (t.wrI p f i v) := by
  have hne (q : Nat) (hq : basePage q = true) : p ≠ q := by rintro rfl; rw [hp] at hq; cases hq
  refine h.trans ⟨fun q g j hq hg hE => ?_, fun _ q b hq hb => ?_, rfl⟩
  · exact State.rdI_wrI_page _ _ _ _ _ _ hf (Fld.blockReg_iff.1 hg).2 (hne q hq)
  · unfold State.cause at hb ⊢
    rwa [State.rd, State.rdI_wrI_page _ _ _ _ _ _ hf (by decide) (hne q hq)]

theorem State.KeepsBase.wr (h : State.KeepsBase E s t) (hp : basePage p = false) (hf : f.inPage 0 = true) :
    State.KeepsBase E s (t.wr p f v) := h.wrI hp hf

theorem State.KeepsBase.wrS {v : Int} (h : State.KeepsBase E s t) (hp : basePage p = false) (hf : f.inPage 0 = true) :
    State.KeepsBase E s (t.wrS p f v) := h.wr hp hf

theorem State.KeepsBase.wrSat {v : Int} (h : State.KeepsBase E s t) (hp : basePage p = false) (hf : f.inPage 0 = true) :
    State.KeepsBase E s (t.wrSat p f v) := h.wr hp hf

theorem State.KeepsBase.wrWide (h : State.KeepsBase E s t) (hp : basePage p = false) (hf : f.inPage 0 = true) (hg : g.inPage 0 = true) :
    State.KeepsBase E s (t.wrWide p f g v) := (h.wr hp hf).wr hp hg

theorem State.KeepsBase.inc (h : State.KeepsBase E s t) (hp : basePage p = false) (hf : f.inPage 0 = true) :
    State.KeepsBase E s (t.inc p f) := h.wr hp hf

/-- A write of a register that is excepted. -/
theorem State.KeepsBase.wrAt (h : State.KeepsBase E s t) (hE : f.place 0 ∈ E) : State.KeepsBase E s (t.wr p f v) := by
  refine h.trans ⟨fun q g j _ _ hg => State.rdI_wr_place _ _ _ _ _ _ _ fun e => hg (e ▸ hE), fun hc q b _ hb => ?_, rfl⟩
  unfold State.cause at hb ⊢
  rwa [State.rd_wr_place _ _ _ _ _ _ fun e => hc (e ▸ hE)]

/-- A write of a header field other than the causes. -/
theorem State.KeepsBase.wrHdr (h : State.KeepsBase E s t) (hf : f.quietHdr = true) : State.KeepsBase E s (t.wr p f v) := by
  simp only [Fld.quietHdr, Bool.and_eq_true, decide_eq_true_eq, bne_iff_ne] at hf
  obtain ⟨hlt, hne⟩ := hf
  refine h.trans ⟨fun q g j _ hg _ => State.rdI_wr_place _ _ _ _ _ _ _ (Fld.blockReg_ne_hdr hg hlt).symm, fun _ q b _ hb => ?_, rfl⟩
  unfold State.cause at hb ⊢
  rwa [State.rd_wr_place _ _ _ _ _ _ hne]

theorem State.cause_lt {p b : Nat} (h : s.cause p b = true) : b < 30 := by
  by_contra hn
  have hlt := lt_of_lt_of_le (State.rd_lt s p R.HDR.HDR_INT_CAUSE) (Nat.pow_le_pow_right (by decide) (show 30 ≤ b by omega))
  rw [State.cause, bitAt, Nat.testBit_lt_two_pow hlt] at h
  cases h

theorem State.KeepsBase.setCause (h : State.KeepsBase E s t) : State.KeepsBase E s (t.setCause p m) := by
  refine h.trans ⟨fun q g j _ hg _ => State.rdI_wr_place _ _ _ _ _ _ _ (Fld.blockReg_ne_hdr hg (by decide)).symm, fun _ q b _ hb => ?_, rfl⟩
  by_cases hq : q = p
  · subst hq
    rw [State.cause_setCause _ _ _ (State.cause_lt hb), hb, Bool.true_or]
  · unfold State.cause at hb ⊢
    rwa [State.setCause, State.rd_wr_page _ _ _ _ (by decide) (by decide) (Ne.symm hq)]

theorem State.KeepsBase.raise (h : State.KeepsBase E s t) : State.KeepsBase E s (t.raise p b) := .ite h h.setCause
theorem State.KeepsBase.raiseHdr (h : State.KeepsBase E s t) : State.KeepsBase E s (t.raiseHdr p b) := h.setCause
theorem State.KeepsBase.raiseIf {c : Bool} (h : State.KeepsBase E s t) : State.KeepsBase E s (t.raiseIf c p b) := .ite h.raise h

theorem State.KeepsBase.setFault (h : State.KeepsBase E s t) : State.KeepsBase E s (t.setFault p v) :=
  (h.wrHdr (by decide)).wrHdr (by decide)

theorem State.KeepsBase.clearFault (h : State.KeepsBase E s t) : State.KeepsBase E s (t.clearFault p) :=
  (h.wrHdr (by decide)).wrHdr (by decide)

theorem State.KeepsBase.onTcu {f : Tcu → Tcu} (h : State.KeepsBase E s t) : State.KeepsBase E s (t.onTcu i f) := h.upd rfl rfl
theorem State.KeepsBase.onHost {f : HostCtx → HostCtx} (h : State.KeepsBase E s t) : State.KeepsBase E s (t.onHost i f) := h.upd rfl rfl
theorem State.KeepsBase.onLane {f : Lane → Lane} (h : State.KeepsBase E s t) : State.KeepsBase E s (t.onLane i f) := h.upd rfl rfl
theorem State.KeepsBase.emit {o : Out} (h : State.KeepsBase E s t) : State.KeepsBase E s (t.emit o) := h.upd rfl rfl

theorem State.KeepsBase.bcast (h : State.KeepsBase E s t) : State.KeepsBase E s (t.bcast b) :=
  h.each fun _ _ hc h => .ite (h.wr (basePage_pageHC hc) (by decide)) h

theorem State.KeepsBase.settle (h : State.KeepsBase E s t) : State.KeepsBase E s t.settle := h.upd (by simp) (by simp [State.base])
end

/-! ### What the relation says of the registers that commands read -/

theorem State.KeepsBase.rd (h : State.KeepsBase E s u) {p : Nat} (f : Fld) (hp : basePage p = true)
    (hE : f.place 0 ∉ E) (hf : f.blockReg 0 = true) : u.rd p f = s.rd p f := h.regs p f 0 hp hf hE

theorem State.KeepsBase.flag (h : State.KeepsBase E s u) {p : Nat} (f : Fld) (hp : basePage p = true)
    (hE : f.place 0 ∉ E) (hf : f.blockReg 0 = true) : u.flag p f = s.flag p f := by
  unfold State.flag; rw [h.rd f hp hE hf]

theorem State.KeepsBase.tokenHeld (h : State.KeepsBase E s u) (hE : R.ARB.ARB_STAT_HOLDER_VALID.place 0 ∉ E) : u.tokenHeld = s.tokenHeld :=
  h.flag _ (by decide) hE (by decide)

theorem State.KeepsBase.active (h : State.KeepsBase E s u) (hE : R.ARB.ARB_STAT_HOLDER.place 0 ∉ E) : u.active = s.active :=
  h.rd _ (by decide) hE (by decide)

theorem State.KeepsBase.tcuState (h : State.KeepsBase E s u) {t : Nat} (ht : t < 2) (hE : R.CTL.TCU_STAT_STATE.place 0 ∉ E) :
    u.tcuState t = s.tcuState t := h.rd _ (basePage_pageCtl ht) hE (by decide)

theorem State.KeepsBase.pwr (h : State.KeepsBase E s u) (d : Nat) (hE : R.PWR.PWR_STAT.place 0 ∉ E) : u.pwr d = s.pwr d :=
  State.pwr_of_rd (h.rd _ (by decide) hE (by decide)) d

theorem State.KeepsBase.phase (h : State.KeepsBase E s u) : u.phase = s.phase := congrArg Base.phase h.rest
theorem State.KeepsBase.switch (h : State.KeepsBase E s u) : u.switch = s.switch := congrArg Base.switch h.rest
theorem State.KeepsBase.wiping (h : State.KeepsBase E s u) : u.wiping = s.wiping := congrArg Base.wiping h.rest
theorem State.KeepsBase.startWait (h : State.KeepsBase E s u) : u.startWait = s.startWait := congrArg Base.startWait h.rest
theorem State.KeepsBase.tabs (h : State.KeepsBase E s u) : u.tabs = s.tabs := congrArg Base.tabs h.rest
theorem State.KeepsBase.engines (h : State.KeepsBase E s u) : u.engines = s.engines := congrArg Base.engines h.rest
theorem State.KeepsBase.shmem (h : State.KeepsBase E s u) : u.shmem = s.shmem := congrArg Base.shmem h.rest
theorem State.KeepsBase.up (h : State.KeepsBase E s u) : u.up = s.up := congrArg Base.up h.rest

end

end Sys2Proof.Machine
end

section
/-! SUPPORT. Completions, the passing of time, the rate word and the selection of the reference leave the base registers. -/

open Sys2Proof Sys2Proof.Machine
namespace Sys2Proof.Machine

namespace State.KeepsBase
section
variable {E : List Nat} {s u : State} {t c k i p q x : Nat} {f : Fld}

/-! ### Completions -/

theorem cplStore {ws : List Nat} (h : KeepsBase E s u) (hc : c < 4) : KeepsBase E s (u.cplStore c i ws) :=
  .ite h (h.each fun _ _ hj h => h.wrI (basePage_pageHC hc) (Fld.inPage_of_le (n := 255) (by omega) (by decide)))

theorem cplWrite {e : Cpl} (h : KeepsBase E s u) (hc : c < 4) : KeepsBase E s (u.cplWrite c e) :=
  ((h.cplStore hc).emit.wr (basePage_pageHC hc) (by decide)).raiseIf

theorem cplFlush {es : List Cpl} (h : KeepsBase E s u) (hc : c < 4) : KeepsBase E s (u.cplFlush c es) := by
  induction es generalizing u with
  | nil => exact h.onHost
  | cons e es ih => exact .ite (ih (h.cplWrite hc)) h.onHost

theorem cplPump (h : KeepsBase E s u) (hc : c < 4) : KeepsBase E s (u.cplPump c) :=
  .ite h.onHost ((h.cplFlush hc).wr (basePage_pageHC hc) (by decide))

theorem cplPost {e : Cpl} (h : KeepsBase E s u) : KeepsBase E s (u.cplPost c e) := by
  unfold State.cplPost
  split
  · exact h
  · exact (h.onHost.cplPump (by omega)).raiseIf

theorem endSlot {k : Cmd} (h : KeepsBase E s u) : KeepsBase E s (u.endSlot k x) := .ite (.ite h (h.upd rfl rfl)) h

/-- The end of a command. -/
theorem finish {k : Cmd} {status detail r0 r1 : Nat} (h : KeepsBase E s u) : KeepsBase E s (u.finish k status detail r0 r1) :=
  .cplPost (.endSlot (h.upd rfl rfl))

theorem finishSt {k : Cmd} (h : KeepsBase E s u) : KeepsBase E s (u.finishSt k x) := h.finish

theorem finishOp {op arg0 status r0 r1 : Nat} (h : KeepsBase E s u) : KeepsBase E s (u.finishOp op arg0 status r0 r1) := by
  unfold State.finishOp
  split
  · exact h.finish
  · exact h

/-! ### The passing of time -/

theorem showRing (h : KeepsBase E s u) : KeepsBase E s u.showRing := (h.wr (basePage_above (by decide)) (by decide)).raiseIf

theorem sampleOn (h : KeepsBase E s u) : KeepsBase E s u.sampleOn := by
  unfold State.sampleOn
  split
  · exact h
  · exact .ite h (.showRing (h.upd rfl rfl))

theorem showRem (h : KeepsBase E s u) : KeepsBase E s (u.showRem t) := h.wrSat (by simp) (by decide)

theorem slewOn (h : KeepsBase E s u) : KeepsBase E s (u.slewOn t x) := .ite h h.onTcu.showRem

theorem startRuns (h : KeepsBase E s u) : KeepsBase E s (u.startRuns t x) :=
  (h.each fun _ _ hc h => (h.wr (basePage_pageTdc t hc) (by decide))).onTcu

theorem linesLock (h : KeepsBase E s u) : KeepsBase E s (u.linesLock t) := by
  unfold State.linesLock
  split
  · exact h
  · have hl : KeepsBase E s (u.each 24 fun c x => x.wr (pageTdc t c) R.TDC.TDC_STAT_LINE_LOCK 0x1F) :=
      h.each fun _ _ hc h => h.wr (basePage_pageTdc t hc) (by decide)
    exact .ite h (.ite hl.onTcu (.ite hl.onTcu hl.onTcu.startRuns))

/-- The passing of device time (R59, R60) moves `up` alone of the base. -/
theorem advance (s : State) (d : Nat) : KeepsBase E { s with up := s.up + d } (s.advance d) :=
  .sampleOn (.both (.refl _) fun _ _ _ h => h.slewOn.onTcu.linesLock)

/-! ### The rate word -/

theorem setRatio {r : Int} (h : KeepsBase E s u) : KeepsBase E s (u.setRatio t r) := .ite h (((h.wr (by simp) (by decide)).wr (by simp) (by decide)).wr (by simp) (by decide))

theorem compensate {r : Int} (h : KeepsBase E s u) : KeepsBase E s (u.compensate t r) := h.each fun _ _ _ h => .ite h h.onTcu

theorem setRateOne {r : Int} (h : KeepsBase E s u) : KeepsBase E s (u.setRateOne t r) :=
  .ite h (h.raiseIf.wrWide (by simp) (by decide) (by decide)).setRatio.onTcu.compensate

theorem steer {held slew : Int} (h : KeepsBase E s u) : KeepsBase E s (u.steer t held slew) := .ite h h.setRateOne.onTcu

theorem useHostRate (h : KeepsBase E s u) : KeepsBase E s (u.useHostRate t) := .ite h.setRateOne.onTcu h

theorem driveRate (h : KeepsBase E s u) : KeepsBase E s (u.driveRate t) := .ite h.useHostRate (.ite h.steer h.setRateOne)

theorem thaw (h : KeepsBase E s u) : KeepsBase E s u.thaw := h.both fun _ _ _ h => .ite h h.driveRate

/-! ### Selection -/

theorem setSel (h : KeepsBase E s u) : KeepsBase E s (u.setSel t x) := .ite (h.wr (by simp) (by decide)) (h.wr (by simp) (by decide)).onTcu
theorem setEst {e : Int} (h : KeepsBase E s u) : KeepsBase E s (u.setEst t e) := (h.wrWide (by simp) (by decide) (by decide)).onTcu
theorem dropRem {all : Bool} (h : KeepsBase E s u) : KeepsBase E s (u.dropRem t all) := .ite h h.onTcu.showRem

theorem enterHoldover (h : KeepsBase E s u) : KeepsBase E s (u.enterHoldover t) :=
  ((((h.setEst.steer.onTcu.dropRem.wr (by simp) (by decide)).wr (by simp) (by decide)).wr (by simp) (by decide)).wrS (by simp) (by decide)).setSel.raise.raiseIf

theorem exitHoldover (h : KeepsBase E s u) : KeepsBase E s (u.exitHoldover t) := ((h.wr (by simp) (by decide)).wr (by simp) (by decide)).raise

theorem showSel {y : Option Nat} (h : KeepsBase E s u) : KeepsBase E s (u.showSel t y) :=
  (KeepsBase.ite ((h.wr (by simp) (by decide)).wr (by simp) (by decide)) (h.wr (by simp) (by decide))).onTcu.each fun _ _ hi h => h.wr (basePage_pagePtp t hi) (by decide)

theorem domainSelectEnds (h : KeepsBase E s u) : KeepsBase E s (u.domainSelectEnds x) := by
  unfold State.domainSelectEnds
  split
  · exact h.finish
  · exact h

theorem showNext {y : Option Nat} (h : KeepsBase E s u) : KeepsBase E s (u.showNext t y) := by
  unfold State.showNext
  dsimp only
  split
  · exact .ite ((h.wr (by simp) (by decide)).wr (by simp) (by decide)) (h.wr (by simp) (by decide))
  · exact h.wr (by simp) (by decide)

theorem selChanged {go : Bool} (h : KeepsBase E s u) : KeepsBase E s (u.selChanged t go) := h.onTcu

theorem reselectOne (h : KeepsBase E s u) : KeepsBase E s (u.reselectOne t) := by
  unfold State.reselectOne
  dsimp only
  refine .ite (.ite h.showNext.enterHoldover h.showNext) ?_
  have hs {y z : Option Nat} {go : Bool} : KeepsBase E s (((((((u.showNext t y).showSel t z).raise (pageRefsel t) 0).onTcu t
      (fun u => { u with dphi := [] })).selChanged t go).domainSelectEnds 3)) := h.showNext.showSel.raise.onTcu.selChanged.domainSelectEnds
  split
  · exact (KeepsBase.ite hs.exitHoldover (.ite hs.onTcu hs.steer)).onTcu.setSel
  · exact .ite hs.enterHoldover hs.steer.dropRem.setSel

/-! ### The mirror of the selection -/

theorem copyFld (h : KeepsBase E s u) (hq : basePage q = false) (hf : ∀ i < f.n, f.inPage i = true) :
    KeepsBase E s (u.copyFld p q f) :=
  h.foldl fun _ i hi h => h.wrI hq (hf i (List.mem_range.1 hi))

theorem mirrorRate {b : Nat} (h : KeepsBase E s u) : KeepsBase E s (u.mirrorRate t b) :=
  .ite h ((h.onTcu.copyFld (basePage_pageTime b) (by decide)).copyFld (basePage_pageTime b) (by decide)).setRatio

theorem mirroredRegs_inPage : ∀ e ∈ mirroredRegs, (0x40 < e.1 ∧ e.1 < 0x80) ∧ ∀ f ∈ e.2, ∀ i < f.n, f.inPage i = true := by decide

theorem mirrorAll {b : Nat} (h : KeepsBase E s u) : KeepsBase E s (u.mirrorAll t b) := by
  unfold State.mirrorAll
  dsimp only
  have hc : KeepsBase E s (mirroredRegs.foldl (fun s e => e.2.foldl (fun s f => s.copyFld (tpage t e.1) (tpage b e.1) f) s)
      (u.onTcu b fun v => v.adopt (u.tcu t))) := by
    refine h.onTcu.foldl fun y e he h => h.foldl fun z f hf h => ?_
    obtain ⟨⟨h40, h80⟩, hreg⟩ := mirroredRegs_inPage e he
    exact h.copyFld (basePage_tpage b h40 h80) (hreg f hf)
  exact .ite hc.mirrorRate hc.mirrorRate.selChanged

theorem mirrorSel (h : KeepsBase E s u) : KeepsBase E s (u.mirrorSel t) := .ite h.mirrorAll h
theorem reselect (h : KeepsBase E s u) : KeepsBase E s (u.reselect t) := .ite h.reselectOne.mirrorSel h

/-! ### Candidates -/

/-- A field of one of the 16 candidates of a TCU. -/
theorem wrCand (h : KeepsBase E s u) (hk : k < 16) (hn : f.inPage 15 = true) : KeepsBase E s (u.wrI (pageRefsel t) f k x) :=
  h.wrI (basePage_pageRefsel t) (Fld.inPage_of_le (by omega) hn)

theorem setCand (h : KeepsBase E s u) (hk : k < 16) : KeepsBase E s (u.setCand t k x) := (h.wrCand hk (by decide)).wr (by simp) (by decide)
theorem candChange (h : KeepsBase E s u) : KeepsBase E s (u.candChange t) := h.raise
theorem agree {j : Nat} (h : KeepsBase E s u) : KeepsBase E s (u.agree t i j) := h.onTcu.wr (by simp) (by decide)
theorem agreeAll (h : KeepsBase E s u) : KeepsBase E s (u.agreeAll t k) := h.each fun _ _ _ h => .ite h.agree (.ite h.agree h)

theorem disqualify (h : KeepsBase E s u) (hk : k < 16) : KeepsBase E s (u.disqualify t k x) :=
  .ite h (((h.setCand hk).wrCand hk (by decide)).wrCand hk (by decide)).candChange.agreeAll.reselect

theorem onCand {g : Cand → Cand} (h : KeepsBase E s u) : KeepsBase E s (u.onCand t k g) := h.onTcu

/-- The candidates of a group that is switched off (R28). -/
theorem groupCands (h : KeepsBase E s u) : KeepsBase E s (u.groupCands x) :=
  h.both fun _ _ _ h => .ite h (h.each fun _ _ hk h => .ite (h.onCand.disqualify hk) h)

end
end State.KeepsBase

end Sys2Proof.Machine
end

section
/-! SUPPORT. Wear, spares and the start-up of a domain leave the base registers. -/

open Sys2Proof Sys2Proof.Machine
namespace Sys2Proof.Machine

/-- The pages of the base have no slices that wear. -/
theorem wearKind_of_basePage {p : Nat} (h : basePage p = true) : wearKind p = none := by
  have hall : ∀ q < 0x81, basePage q = true → wearKind q = none := by decide
  refine hall p ?_ h
  by_contra hp
  rw [basePage_eq_false (by omega) (by simp only [pageCtl, tpage]; omega) (by simp only [pageCtl, tpage]; omega)] at h
  cases h

theorem basePage_of_wearKind {p k : Nat} (h : wearKind p = some k) : basePage p = false := by
  by_contra hb
  rw [wearKind_of_basePage (by simpa using hb)] at h
  cases h

@[simp] theorem basePage_pageCaldir : basePage pageCaldir = false := by decide
@[simp] theorem basePage_pageSched : basePage pageSched = false := by decide
@[simp] theorem basePage_pageEngc : basePage pageEngc = false := by decide

/-- The registers of the base that the start-up of a domain writes. -/
def startShown : List Nat := [R.ENGE.ENG_E_STAT_PHYS.place 0, R.CTL.TCU_STAT_STATE.place 0, R.CTL.TCU_STAT_FAIL_CODE.place 0]

namespace State.KeepsBase
section
variable {E : List Nat} {s u : State} {t c d i p x y z : Nat}

/-! ### Wear and spares -/

theorem setWear (h : KeepsBase E s u) : KeepsBase E s (u.setWear p x y) := (h.wrHdr (by decide)).wrHdr (by decide)

theorem exhausted (h : KeepsBase E s u) : KeepsBase E s (u.exhausted p) := .ite h.raise h.raise.setFault

theorem setBank (h : KeepsBase E s u) : KeepsBase E s (u.setBank x y z) := ((h.wr (by simp) (by decide)).wr (by simp) (by decide)).wr (by simp) (by decide)

theorem bankCopy (h : KeepsBase E s u) : KeepsBase E s (u.bankCopy x y) := h.setBank.wr (by simp) (by decide)

theorem onSwap {f : SwapRec → SwapRec} (h : KeepsBase E s u) : KeepsBase E s (u.onSwap i f) := h.upd rfl rfl

theorem swapQueue (h : KeepsBase E s u) : KeepsBase E s (u.swapQueue i) :=
  .ite h.onSwap.bankCopy (.ite (h.upd rfl rfl) h.onSwap)

theorem swapRecord {w : SwapWait} (h : KeepsBase E s u) : KeepsBase E s (u.swapRecord w x i) := by
  have hr {f : SwapRec → SwapRec} {n : Nat} : KeepsBase E s { u.onSwap i f with swapNext := n } := h.upd rfl rfl
  exact .ite hr.swapQueue hr.raiseHdr.raise

theorem swapDue {w : SwapWait} (h : KeepsBase E s u) : KeepsBase E s (u.swapDue w) := by
  unfold State.swapDue
  refine .ite h ?_
  split
  · exact h.exhausted
  · split
    · exact .ite h (h.upd rfl rfl)
    · exact h.swapRecord

theorem wearAgain (h : KeepsBase E s u) : KeepsBase E s (u.wearAgain p x) := .ite h (h.foldl fun _ _ _ h => .ite h.swapDue h)

/-! ### The start-up of a domain (R381, R397) -/

theorem wearStartUp (h : KeepsBase E s u) : KeepsBase E s (u.wearStartUp p) :=
  (KeepsBase.ite (h.setWear.each fun _ _ _ h => h.setWear) h.setWear).wearAgain

/-- A saved map of spares may show an engine's spare (`ENG_E_STAT_PHYS`), which is the one register here that stands at a place of the base. -/
theorem mapStartUp (h : KeepsBase E s u) (hE : R.ENGE.ENG_E_STAT_PHYS.place 0 ∈ E) : KeepsBase E s (u.mapStartUp p) := by
  unfold State.mapStartUp
  split
  · exact h
  · refine .ite (KeepsBase.wrHdr (h.upd rfl rfl) (by decide)) (h.foldl fun a w _ h => ?_)
    dsimp only
    split
    · exact (h.setBank.wr (by simp) (by decide)).wrHdr (by decide)
    next hk => exact (h.wr (basePage_of_wearKind hk) (by decide)).wrHdr (by decide)
    next hk => exact (h.onLane.wr (basePage_of_wearKind hk) (by decide)).wrHdr (by decide)
    next hk => exact (((h.wrAt hE).wr (basePage_of_wearKind hk) (by decide)).wr (basePage_of_wearKind hk) (by decide)).wrHdr (by decide)
    · exact h

theorem restMiss (h : KeepsBase E s u) : KeepsBase E s u.restMiss := .ite h (h.wr (by simp) (by decide)).raise

theorem pllStartUp (h : KeepsBase E s u) : KeepsBase E s (u.pllStartUp t) := by
  unfold State.pllStartUp
  split
  · exact .ite h.onTcu h
  · exact h.restMiss

theorem onNode {f : Node → Node} (h : KeepsBase E s u) : KeepsBase E s (u.onNode i f) := h.upd rfl rfl
theorem accrueAll (h : KeepsBase E s u) : KeepsBase E s u.accrueAll := h.foldl fun _ _ _ h => h.onNode

theorem spreadLevel (h : KeepsBase E s u) : KeepsBase E s u.spreadLevel := by
  have ha {v : Nat} : KeepsBase E s (if u.isOn 3 then (u.accrueAll).wr pageSched R.SCHED.SCHED_STAT v else u) := .ite (h.accrueAll.wr (by simp) (by decide)) h
  exact .ite (ha.wr (by simp) (by decide)).raise ha

theorem suMark (h : KeepsBase E s u) : KeepsBase E s (u.suMark x) := h.upd rfl rfl
theorem suStart (h : KeepsBase E s u) : KeepsBase E s (u.suStart d) := h.each fun _ _ _ h => .ite h.suMark h

theorem onMac {f : Mac → Mac} (h : KeepsBase E s u) : KeepsBase E s (u.onMac i f) := h.upd rfl rfl
theorem showPress (h : KeepsBase E s u) : KeepsBase E s (u.showPress p) := .ite h (.ite (h.wr (by simp) (by decide)) (h.wr (by simp) (by decide)).onMac)
theorem setLat (h : KeepsBase E s u) : KeepsBase E s (u.setLat p) := ((h.wr (by simp) (by decide)).wr (by simp) (by decide)).raiseIf

theorem laneStartUp (h : KeepsBase E s u) : KeepsBase E s (u.laneStartUp p) :=
  .ite ((h.onLane.setLat.wr (by simp) (by decide)).wrHdr (by decide)) (h.onLane.setLat.wr (by simp) (by decide)).onLane.restMiss

/-- A TCU's state and its failure code are written by `setTcuState`. -/
theorem setTcuState (h : KeepsBase E s u) (hE : R.CTL.TCU_STAT_STATE.place 0 ∈ E)
    (hF : R.CTL.TCU_STAT_FAIL_CODE.place 0 ∈ E) : KeepsBase E s (u.setTcuState t x) := by
  have hw {v w : Nat} : KeepsBase E s { (((u.wr (pageCtl t) R.CTL.TCU_STAT_STATE v).raise (pageCtl t) 0).wr (pageSynth t) R.SYNTH.SYN_STAT_ACTIVE w) with
      judging := false } := ((h.wrAt hE).raise.wr (by simp) (by decide)).upd rfl rfl
  exact .ite h (.ite (hw.wrAt hF) hw)

/-- What a domain's start-up writes of the base. -/
theorem startDomain (h : KeepsBase E s u) (hP : R.ENGE.ENG_E_STAT_PHYS.place 0 ∈ E)
    (hE : R.CTL.TCU_STAT_STATE.place 0 ∈ E) (hF : R.CTL.TCU_STAT_FAIL_CODE.place 0 ∈ E) :
    KeepsBase E s (u.startDomain d) := by
  have hm : KeepsBase E s (mapPages.foldl (fun a p => if pageDomain p = d then (a.mapStartUp p).wearStartUp p else a) u) :=
    h.foldl fun _ _ _ h => .ite (h.mapStartUp hP).wearStartUp h
  exact .ite (hm.setTcuState hE hF).pllStartUp (.ite hm.spreadLevel.suStart (.ite ((hm.wr (by simp) (by decide)).each fun _ _ _ h => h.showPress.laneStartUp) hm))

end
end State.KeepsBase

end Sys2Proof.Machine
end

section
/-! SUPPORT. Commands that are accepted, and commands in flight: what leaves them, and the end of other commands. -/

open Sys2Proof Sys2Proof.Machine
namespace Sys2Proof.Machine

/-! ### Requests that are accepted -/

/-- A request that passes every check of R456 starts its command. -/
theorem State.takeRequest_of_accepts {s : State} {op : Nat} {q : Request} (h : s.accepts op q) :
    s.takeRequest op q = State.startCmd (s.cmdOf op q) (s.fly (s.cmdOf op q)) := by
  obtain ⟨hr, hj⟩ := h
  unfold State.takeRequest State.judgeStart
  dsimp only
  rw [if_neg hr]
  change (match (s.fly (s.cmdOf op q)).judgeCmd (s.cmdOf op q) 0 0 with | some r => _ | none => _) = _
  rw [hj]
  rfl

/-- An accepted command names an object that exists. -/
theorem State.noObject_of_judgeCmd {s : State} {k : Cmd} {w0 w1 : Nat} (h : s.judgeCmd k w0 w1 = none) : s.noObject k = none := by
  by_contra hn
  obtain ⟨r, hr⟩ := Option.ne_none_iff_exists'.1 hn
  unfold State.judgeCmd at h
  rw [hr] at h
  (repeat' split at h) <;> simp_all

/-- An accepted DOMAIN_ON or DOMAIN_OFF names one of the domains of R54. -/
theorem State.domain_of_accepts {s : State} {op : Nat} {q : Request} (hop : op = 0x10 ∨ op = 0x11) (h : s.accepts op q) :
    (s.cmdOf op q).arg 0 ∈ domains := by
  have hn := State.noObject_of_judgeCmd h.2
  have hk : (s.cmdOf op q).op = op := rfl
  unfold State.noObject at hn
  rw [hk, if_neg (by rcases hop with rfl | rfl <;> decide), if_pos hop] at hn
  by_contra hd
  rw [if_neg (by simpa using hd)] at hn
  cases hn

/-! ### The list of commands in flight -/

section
variable (s : State)

@[simp] theorem State.setSlot_cmds (k : Cmd) (x : Nat) : (s.setSlot k x).cmds = s.cmds := by unfold State.setSlot; split <;> rfl
@[simp] theorem State.endSlot_cmds (k : Cmd) (x : Nat) : (s.endSlot k x).cmds = s.cmds := by unfold State.endSlot; split <;> simp

theorem State.fly_cmds (k : Cmd) : (s.fly k).cmds = s.cmds.filter (fun j => ! j.is k.ctx k.count) ++ [{ k with since := s.up }] := by
  simp [State.fly]

theorem State.each_cmds (n : Nat) (f : Nat → State → State) (h : ∀ i a, (f i a).cmds = a.cmds) : (s.each n f).cmds = s.cmds :=
  State.each_keeps State.cmds n f s h

theorem State.foldl_cmds {β : Type} (l : List β) (f : State → β → State) (h : ∀ a b, (f a b).cmds = a.cmds) : (l.foldl f s).cmds = s.cmds := by
  induction l generalizing s with
  | nil => rfl
  | cons b l ih => exact (ih _).trans (h s b)

@[simp] theorem State.cplStore_cmds (c i : Nat) (ws : List Nat) : (s.cplStore c i ws).cmds = s.cmds := by
  unfold State.cplStore
  split
  · rfl
  · exact State.each_cmds _ _ _ fun _ _ => rfl

@[simp] theorem State.cplFlush_cmds (c : Nat) (es : List Cpl) : (s.cplFlush c es).cmds = s.cmds := by
  induction es generalizing s with
  | nil => rfl
  | cons e es ih =>
    unfold State.cplFlush
    split
    · simp [ih, State.cplWrite]
    · rfl

@[simp] theorem State.cplPost_cmds (c : Nat) (e : Cpl) : (s.cplPost c e).cmds = s.cmds := by
  unfold State.cplPost State.cplPump
  split
  · rfl
  · dsimp only
    split <;> simp

/-- The end of a command takes the commands of its name out of flight. -/
theorem State.finish_cmds (k : Cmd) (status detail r0 r1 : Nat) :
    (s.finish k status detail r0 r1).cmds = s.cmds.filter (fun j => ! j.is k.ctx k.count) := by
  simp [State.finish]

/-! ### A command that goes on while others end -/

/-- The command of `k`'s name runs, and what bears its name has its opcode. -/
def State.carries (k : Cmd) : Prop := s.inFlight k ∧ ∀ j ∈ s.cmds, j.is k.ctx k.count = true → j.op = k.op

end

section
variable {s u : State} {k : Cmd}

theorem Cmd.is_iff {j : Cmd} {c n : Nat} : j.is c n = true ↔ j.ctx = c ∧ j.count = n := by simp [Cmd.is]

theorem State.carries.congr (h : s.carries k) (hc : u.cmds = s.cmds) : u.carries k := by
  unfold State.carries State.inFlight at *
  rwa [hc]

theorem State.carries_fly (s : State) (hk : k.started = true) : (s.fly k).carries k := by
  constructor
  · exact ⟨{ k with since := s.up }, by rw [State.fly_cmds]; simp only [List.mem_append, List.mem_singleton, or_true], rfl, rfl, hk⟩
  · intro j hj hi
    rw [State.fly_cmds] at hj
    simp only [List.mem_append, List.mem_filter, hi] at hj
    obtain ⟨_, hc⟩ | hj := hj
    · cases hc
    · rw [List.mem_singleton.1 hj]

/-- A command goes on when one of another name ends. -/
theorem State.carries.finish (h : s.carries k) {j : Cmd} (hj : j.is k.ctx k.count = false) (status detail r0 r1 : Nat) :
    (s.finish j status detail r0 r1).carries k := by
  obtain ⟨⟨i, hi, hctx, hcnt, hst⟩, hop⟩ := h
  constructor
  · refine ⟨i, ?_, hctx, hcnt, hst⟩
    rw [State.finish_cmds]
    refine List.mem_filter.2 ⟨hi, ?_⟩
    rw [Cmd.is, hctx, hcnt] 
    rw [Cmd.is] at hj
    simp only [Bool.not_eq_true', Bool.and_eq_false_iff, beq_eq_false_iff_ne] at hj ⊢
    exact hj.imp Ne.symm Ne.symm
  · intro i hi
    rw [State.finish_cmds] at hi
    exact hop i (List.mem_filter.1 hi).1

/-- In flight, what has another opcode has another name. -/
theorem State.carries.is_false (h : s.carries k) {j : Cmd} (hj : j ∈ s.cmds) (hop : j.op ≠ k.op) : j.is k.ctx k.count = false := by
  by_contra hi
  exact hop (h.2 j hj (by simpa using hi))

theorem State.carries.finishSt (h : s.carries k) {j : Cmd} (hj : j.is k.ctx k.count = false) (status : Nat) : (s.finishSt j status).carries k :=
  h.finish hj _ _ _ _

end

/-! ### A command goes on while a selector chooses again -/

namespace State.carries
section
variable {s u : State} {k : Cmd} {t i x p q : Nat}

theorem ite {c : Prop} {_ : Decidable c} (h : s.carries k) (g : u.carries k) : (if c then s else u).carries k := by
  split
  · exact h
  · exact g

theorem foldl {β : Type} {l : List β} {f : State → β → State} (h : s.carries k) (hf : ∀ a, ∀ b ∈ l, a.carries k → (f a b).carries k) :
    (l.foldl f s).carries k := by
  induction l generalizing s with
  | nil => exact h
  | cons b l ih => exact ih (hf s b (by simp) h) fun a c hc => hf a c (by simp [hc])

theorem each {n : Nat} {f : Nat → State → State} (h : s.carries k) (hf : ∀ a i, a.carries k → (f i a).carries k) : (s.each n f).carries k :=
  h.foldl fun a i _ => hf a i

theorem both {f : Nat → State → State} (h : s.carries k) (hf : ∀ a i, a.carries k → (f i a).carries k) : (s.both f).carries k :=
  hf _ 1 (hf _ 0 h)

theorem wrI {f : Fld} (h : s.carries k) : (s.wrI p f i x).carries k := h.congr rfl
theorem wr {f : Fld} (h : s.carries k) : (s.wr p f x).carries k := h.wrI
theorem wrS {f : Fld} {v : Int} (h : s.carries k) : (s.wrS p f v).carries k := h.wr
theorem wrWide {f g : Fld} (h : s.carries k) : (s.wrWide p f g x).carries k := h.wr.wr
theorem raise (h : s.carries k) : (s.raise p x).carries k := .ite h h.wr
theorem raiseIf {c : Bool} (h : s.carries k) : (s.raiseIf c p x).carries k := .ite h.raise h
theorem onTcu {f : Tcu → Tcu} (h : s.carries k) : (s.onTcu t f).carries k := h.congr rfl
theorem showRem (h : s.carries k) : (s.showRem t).carries k := h.wr
theorem setRatio {r : Int} (h : s.carries k) : (s.setRatio t r).carries k := .ite h h.wr.wr.wr
theorem compensate {r : Int} (h : s.carries k) : (s.compensate t r).carries k := h.each fun _ _ h => .ite h h.onTcu
theorem setRateOne {r : Int} (h : s.carries k) : (s.setRateOne t r).carries k := .ite h h.raiseIf.wrWide.setRatio.onTcu.compensate
theorem steer {held slew : Int} (h : s.carries k) : (s.steer t held slew).carries k := .ite h h.setRateOne.onTcu
theorem setSel (h : s.carries k) : (s.setSel t x).carries k := .ite h.wr h.wr.onTcu
theorem setEst {e : Int} (h : s.carries k) : (s.setEst t e).carries k := h.wrWide.onTcu
theorem dropRem {all : Bool} (h : s.carries k) : (s.dropRem t all).carries k := .ite h h.onTcu.showRem

theorem enterHoldover (h : s.carries k) : (s.enterHoldover t).carries k := h.setEst.steer.onTcu.dropRem.wr.wr.wr.wrS.setSel.raise.raiseIf
theorem exitHoldover (h : s.carries k) : (s.exitHoldover t).carries k := h.wr.wr.raise

theorem showSel {y : Option Nat} (h : s.carries k) : (s.showSel t y).carries k := (State.carries.ite h.wr.wr h.wr).onTcu.each fun _ _ h => h.wr

theorem showNext {y : Option Nat} (h : s.carries k) : (s.showNext t y).carries k := by
  unfold State.showNext
  dsimp only
  split
  · exact .ite h.wr.wr h.wr
  · exact h.wr

theorem selChanged {go : Bool} (h : s.carries k) : (s.selChanged t go).carries k := h.onTcu

/-- A new selection ends TIME_DOMAIN_SELECT, and no other command. -/
theorem domainSelectEnds (h : s.carries k) (hk : k.op ≠ 0x43) : (s.domainSelectEnds x).carries k := by
  unfold State.domainSelectEnds State.findOp
  split
  next j hj =>
    have hop := List.find?_some hj
    simp only [Bool.and_eq_true, beq_iff_eq] at hop
    exact h.finish (h.is_false (List.mem_of_find?_eq_some hj) (by rw [hop.1]; exact hk.symm)) _ _ _ _
  next => exact h

theorem reselectOne (h : s.carries k) (hk : k.op ≠ 0x43) : (s.reselectOne t).carries k := by
  unfold State.reselectOne
  dsimp only
  refine .ite (.ite h.showNext.enterHoldover h.showNext) ?_
  have hs {y z : Option Nat} {go : Bool} : (((((((s.showNext t y).showSel t z).raise (pageRefsel t) 0).onTcu t
      (fun u => { u with dphi := [] })).selChanged t go).domainSelectEnds 3)).carries k :=
    h.showNext.showSel.raise.onTcu.selChanged.domainSelectEnds hk
  split
  · exact (State.carries.ite hs.exitHoldover (.ite hs.onTcu hs.steer)).onTcu.setSel
  · exact .ite hs.enterHoldover hs.steer.dropRem.setSel

theorem copyFld {f : Fld} (h : s.carries k) : (s.copyFld p q f).carries k := h.foldl fun _ _ _ h => h.wrI
theorem mirrorRate {b : Nat} (h : s.carries k) : (s.mirrorRate t b).carries k := .ite h h.onTcu.copyFld.copyFld.setRatio

theorem mirrorAll {b : Nat} (h : s.carries k) : (s.mirrorAll t b).carries k := by
  have hc : (mirroredRegs.foldl (fun s e => e.2.foldl (fun s f => s.copyFld (tpage t e.1) (tpage b e.1) f) s)
      (s.onTcu b fun v => v.adopt (s.tcu t))).carries k := h.onTcu.foldl fun _ _ _ h => h.foldl fun _ _ _ h => h.copyFld
  exact .ite hc.mirrorRate hc.mirrorRate.selChanged

theorem mirrorSel (h : s.carries k) : (s.mirrorSel t).carries k := .ite h.mirrorAll h
theorem reselect (h : s.carries k) (hk : k.op ≠ 0x43) : (s.reselect t).carries k := .ite (h.reselectOne hk).mirrorSel h
theorem setCand (h : s.carries k) : (s.setCand t i x).carries k := h.wrI.wr
theorem agree {j : Nat} (h : s.carries k) : (s.agree t i j).carries k := h.onTcu.wr
theorem agreeAll (h : s.carries k) : (s.agreeAll t i).carries k := h.each fun _ _ h => .ite h.agree (.ite h.agree h)

theorem disqualify (h : s.carries k) (hk : k.op ≠ 0x43) : (s.disqualify t i x).carries k :=
  .ite h (State.carries.reselect (.agreeAll (.raise h.setCand.wrI.wrI)) hk)

/-- The candidates of a group that is switched off (R28). -/
theorem groupCands (h : s.carries k) (hk : k.op ≠ 0x43) : (s.groupCands x).carries k :=
  h.both fun _ _ h => .ite h (h.each fun _ _ h => .ite (State.carries.disqualify h.onTcu hk) h)

end
end State.carries

end Sys2Proof.Machine
end

section
/-! SUPPORT. The power states of the domains, the end of a domain's commands and the wipe (R24, R26, R398), and O19. -/

open Sys2Proof Sys2Proof.Machine
namespace Sys2Proof.Machine

/-! ### The power states in `PWR_STAT` -/

theorem bits_pair (v d : Nat) : bits v (2 * d) 2 = v / 4 ^ d % 4 := by
  rw [bits, Nat.shiftRight_eq_div_pow, pow_mul]; rfl

/-- `v` with base-4 digit `d` replaced by that of `x`. -/
def putPair (v d x : Nat) : Nat := v - bits v (2 * d) 2 * 4 ^ d + x % 4 * 4 ^ d

theorem putPair_eq (v d x : Nat) : putPair v d x = 4 ^ d * (v / 4 ^ d - v / 4 ^ d % 4 + x % 4) + v % 4 ^ d := by
  have hv := Nat.div_add_mod v (4 ^ d)
  have hle : 4 ^ d * (v / 4 ^ d % 4) ≤ 4 ^ d * (v / 4 ^ d) := Nat.mul_le_mul_left _ (Nat.mod_le _ _)
  rw [putPair, bits_pair, Nat.mul_add, Nat.mul_sub, Nat.mul_comm (v / 4 ^ d % 4), Nat.mul_comm (x % 4)]
  omega

theorem putPair_div (v d x : Nat) : putPair v d x / 4 ^ d = v / 4 ^ d - v / 4 ^ d % 4 + x % 4 := by
  have h4 : 0 < 4 ^ d := by positivity
  rw [putPair_eq, Nat.mul_add_div h4, Nat.div_eq_of_lt (Nat.mod_lt _ h4), Nat.add_zero]

theorem putPair_mod (v d x : Nat) : putPair v d x % 4 ^ d = v % 4 ^ d := by
  rw [putPair_eq, Nat.mul_add_mod, Nat.mod_mod]

theorem bits_putPair (v d x e : Nat) : bits (putPair v d x) (2 * e) 2 = if e = d then x % 4 else bits v (2 * e) 2 := by
  rw [bits_pair, bits_pair]
  split
  next h => subst h; rw [putPair_div]; omega
  next h =>
    rcases Nat.lt_or_gt_of_ne h with h | h
    · obtain ⟨c, hc⟩ : 4 ^ e * 4 ∣ 4 ^ d := Nat.pow_dvd_pow (m := e + 1) 4 (by omega)
      have hm (w : Nat) : w / 4 ^ e % 4 = w % 4 ^ d % (4 ^ e * 4) / 4 ^ e := by
        rw [hc, Nat.mod_mul_right_mod, Nat.mod_mul_right_div_self]
      rw [hm, hm v, putPair_mod]
    · obtain ⟨c, rfl⟩ : ∃ c, e = d + 1 + c := ⟨e - d - 1, by omega⟩
      have hm (w : Nat) : w / 4 ^ (d + 1 + c) = w / 4 ^ d / 4 / 4 ^ c := by
        rw [pow_add, pow_succ, Nat.div_div_eq_div_mul, Nat.div_div_eq_div_mul, Nat.mul_assoc]
      rw [hm, hm v, putPair_div]
      congr 2
      generalize v / 4 ^ d = a
      omega

theorem putPair_lt {v d n : Nat} (x : Nat) (hv : v < 4 ^ n) (hd : d < n) : putPair v d x < 4 ^ n := by
  obtain ⟨c, rfl⟩ : ∃ c, n = d + (c + 1) := ⟨n - d - 1, by omega⟩
  rw [pow_add, Nat.mul_comm, ← Nat.div_lt_iff_lt_mul (by positivity), pow_succ] at hv ⊢
  rw [putPair_div]
  generalize v / 4 ^ d = a at hv ⊢
  omega

/-- `PWR_STAT` after the state of a domain is set (R398, R421). -/
theorem State.pwr_setPwr (s : State) {d : Nat} (st e : Nat) (h0 : d ≠ 0) (hd : d < 14) :
    (s.setPwr d st).pwr e = if e = d then st % 4 else s.pwr e := by
  have hlt : putPair (s.rd pagePwr R.PWR.PWR_STAT) d st < 4 ^ 14 := putPair_lt st (State.rd_lt s pagePwr R.PWR.PWR_STAT) hd
  have hrd : (s.setPwr d st).rd pagePwr R.PWR.PWR_STAT = putPair (s.rd pagePwr R.PWR.PWR_STAT) d st :=
    (State.rd_wr_same _ _ _ _).trans (Nat.mod_eq_of_lt hlt)
  unfold State.pwr
  rw [hrd, bits_putPair]
  by_cases he : e = 0
  · subst he; simp [h0.symm]
  · simp [he]

/-! ### Commands on a domain that switches off (R398) -/

namespace State.KeepsBase
section
variable {E : List Nat} {s u : State} {d n x p : Nat}

theorem setPwr (h : KeepsBase E s u) (hE : R.PWR.PWR_STAT.place 0 ∈ E) : KeepsBase E s (u.setPwr d x) := h.wrAt hE

theorem setSlot {k : Cmd} (h : KeepsBase E s u) : KeepsBase E s (u.setSlot k x) := .ite h (h.upd rfl rfl)
theorem fly {k : Cmd} (h : KeepsBase E s u) : KeepsBase E s (u.fly k) := .setSlot (h.upd rfl rfl)
theorem onGate {f : Gate → Gate} (h : KeepsBase E s u) : KeepsBase E s (u.onGate p f) := h.upd rfl rfl

theorem swapUndo (h : KeepsBase E s u) : KeepsBase E s (u.swapUndo n) := by
  unfold State.swapUndo
  split
  · exact h
  · exact .ite h (.ite ((h.onSwap.wr (by simp) (by decide)).wr (by simp) (by decide)) (.ite h.onSwap.onLane h.onSwap))

theorem endTargets (h : KeepsBase E s u) : KeepsBase E s (u.endTargets d) := by
  refine h.foldl fun a k _ h => ?_
  dsimp only
  have h1 : KeepsBase E s (if k.op = 0x42 then (a.finishSt k stWrongState).both (fun t a => a.onTcu t (fun u => { u with step := none }))
      else a.finishSt k stWrongState) := .ite (h.finishSt.both fun _ _ _ h => h.onTcu) h.finishSt
  exact .ite (KeepsBase.ite h1.swapUndo h1).onGate (.ite h1.swapUndo h1)

theorem suTake {w : List Nat} (h : KeepsBase E s u) : KeepsBase E s (u.suTake x w) := by
  unfold State.suTake
  exact .ite h (.suMark (h.each fun _ _ _ h => h.upd rfl rfl))

theorem bump (h : KeepsBase E s u) : KeepsBase E s u.bump := h.upd rfl rfl

theorem suStop (h : KeepsBase E s u) : KeepsBase E s (u.suStop d) :=
  .ite h (.bump (h.each fun _ _ _ h => .ite h.suTake h))

end
end State.KeepsBase

namespace State.carries
section
variable {s : State} {k : Cmd} {d n x : Nat}

theorem onGate {f : Gate → Gate} (h : s.carries k) : (s.onGate n f).carries k := h.congr rfl

theorem swapUndo (h : s.carries k) : (s.swapUndo n).carries k := by
  refine h.congr ?_
  unfold State.swapUndo
  dsimp only
  (repeat' split) <;> rfl

/-- DOMAIN_ON and DOMAIN_OFF go on when the commands on the domain end (R398). -/
theorem endTargets (h : s.carries k) (hk : k.op = 0x10 ∨ k.op = 0x11) : (s.endTargets d).carries k := by
  refine h.foldl fun a j hj ha => ?_
  obtain ⟨hmem, hop⟩ := List.mem_filter.1 hj
  simp only [Bool.and_eq_true, bne_iff_ne] at hop
  obtain ⟨⟨-, h10⟩, h11⟩ := hop
  have hf : (a.finishSt j stWrongState).carries k := ha.finishSt (h.is_false hmem (by omega)) _
  dsimp only
  have h1 : State.carries (if j.op = 0x42 then (a.finishSt j stWrongState).both (fun t a => a.onTcu t (fun u => { u with step := none }))
      else a.finishSt j stWrongState) k := .ite (hf.both fun _ _ h => h.onTcu) hf
  exact .ite (State.carries.onGate (.ite h1.swapUndo h1)) (.ite h1.swapUndo h1)

theorem suMark (h : s.carries k) : (s.suMark x).carries k := h.congr rfl

theorem suTake {w : List Nat} (h : s.carries k) : (s.suTake x w).carries k := by
  unfold State.suTake
  exact .ite h (.suMark (h.each fun _ _ h => h.congr rfl))

theorem bump (h : s.carries k) : s.bump.carries k := h.congr rfl
theorem suStop (h : s.carries k) : (s.suStop d).carries k := .ite h (.bump (h.each fun _ _ h => .ite h.suTake h))

theorem setPwr (h : s.carries k) : (s.setPwr d x).carries k := h.wr

end
end State.carries

/-! ### The wipe of a domain (R26) -/

/-- A wipe leaves nothing in the tables of PD_CORE, the engines and the shared memory of PD_ENG. -/
theorem State.wipeDomain_core (s : State) : (s.wipeDomain 3).tabs = [] := rfl
theorem State.wipeDomain_eng (s : State) : (s.wipeDomain 5).engines = [] ∧ (s.wipeDomain 5).shmem = [] := ⟨rfl, rfl⟩

/-- From a state that has been wiped, what keeps the base holds nothing of the domain's memories. -/
theorem State.KeepsBase.wiped {E : List Nat} {s u : State} {d : Nat} (h : State.KeepsBase E (s.wipeDomain d) u) :
    (d = 3 → u.tabs = []) ∧ (d = 5 → u.engines = [] ∧ u.shmem = []) := by
  refine ⟨?_, ?_⟩
  · rintro rfl
    rw [h.tabs, State.wipeDomain_core]
  · rintro rfl
    rw [h.engines, h.shmem]
    exact s.wipeDomain_eng

/-! ### Switching a domain on and off -/

theorem domains_bounds {d : Nat} (h : d ∈ domains) : d ≠ 0 ∧ d < 14 := by
  have : ∀ d ∈ domains, d ≠ 0 ∧ d < 14 := by decide
  exact this d h

theorem State.pwr_setPwr_self (s : State) {d : Nat} (st : Nat) (h : d ∈ domains) : (s.setPwr d st).pwr d = st % 4 := by
  obtain ⟨h0, hd⟩ := domains_bounds h
  rw [State.pwr_setPwr s st d h0 hd, if_pos rfl]

theorem State.startCmd_domainOn (s : State) {k : Cmd} (h : k.op = 0x10) : State.startCmd k s = State.startDomainOn k s := by
  unfold State.startCmd
  rw [h]
  rfl

theorem State.startCmd_domainOff (s : State) {k : Cmd} (h : k.op = 0x11) : State.startCmd k s = State.startDomainOff k s := by
  unfold State.startCmd
  rw [h]
  rfl

@[simp] theorem State.pwr_fly (s : State) (k : Cmd) (d : Nat) : (s.fly k).pwr d = s.pwr d := by
  unfold State.fly State.setSlot
  split <;> rfl

@[simp] theorem State.tcuState_fly (s : State) (k : Cmd) (t : Nat) : (s.fly k).tcuState t = s.tcuState t := by
  unfold State.fly State.setSlot
  split <;> rfl

@[simp] theorem State.fly_lifeCycle (s : State) (k : Cmd) : (s.fly k).lifeCycle = s.lifeCycle := by
  unfold State.fly State.setSlot
  split <;> rfl

/-- DOMAIN_ON of a domain that is off and whose rule holds switches it on (R24). -/
theorem State.startDomainOn_eq {s : State} {k : Cmd} (hlc : s.lifeCycle ≠ 3) (hoff : s.pwr (k.arg 0) = 0) (hrule : s.ruleOn (k.arg 0) = 0) :
    State.startDomainOn k s = (s.fly k).setPwr (k.arg 0) 1 := by
  have hcomes : (s.fly k).comesOn (k.arg 0) = false := by simp [State.comesOn, hoff]
  have hr : (s.fly k).ruleOn (k.arg 0) = 0 := by simpa [State.ruleOn, State.isOn] using hrule
  unfold State.startDomainOn
  dsimp only
  rw [if_neg (by simpa using hlc), if_neg (by simp [hcomes]), if_neg (by simp [hr])]

theorem runs_domainOn {s : State} {q : Request} (hq : s.accepts 0x10 q) (hlc : s.lifeCycle ≠ 3) (hoff : s.pwr ((s.cmdOf 0x10 q).arg 0) = 0)
    (hrule : s.ruleOn ((s.cmdOf 0x10 q).arg 0) = 0) :
    Runs (.domainOn q) s (fun u => u.pwr ((s.cmdOf 0x10 q).arg 0) = 1 ∧ u.inFlight (s.cmdOf 0x10 q)) := by
  have hd := State.domain_of_accepts (.inl rfl) hq
  have htake := State.takeRequest_of_accepts hq
  generalize hk : s.cmdOf 0x10 q = k at *
  rw [State.startCmd_domainOn _ (hk ▸ rfl), State.startDomainOn_eq (by simpa using hlc) (by simpa using hoff)
    (by simpa [State.ruleOn, State.isOn] using hrule)] at htake
  refine runs_done (v := s.takeRequest 0x10 q) rfl ?_
  rw [htake]
  refine ⟨?_, ?_⟩
  · rw [State.pwr_settle, State.pwr_setPwr_self _ _ hd]
  · exact ((State.carries_fly (s.fly k) (hk ▸ rfl)).setPwr.congr (State.settle_cmds _)).1

/-- The end of a domain's ramp and wipe (R26, R398). -/
theorem runs_domainWipeDone {s : State} {d : Nat} (hd : d ∈ domains) (hp : s.pwr d = 1)
    (hw : s.wiping = false ∨ (s.findCmd 0x10 d).isSome = true) :
    Runs (.domainWipeDone d) s (fun u => u.pwr d = 2 ∧ (d = 3 → u.tabs = []) ∧ (d = 5 → u.engines = [] ∧ u.shmem = [])) := by
  have hcond : ¬ (¬ domains.contains d ∨ s.pwr d ≠ 1 ∨ (s.wiping ∧ (s.findCmd 0x10 d).isNone)) := by
    obtain hw | hw := hw
    · simp [hd, hp, hw]
    · simp [hd, hp, Option.isSome_iff_ne_none.1 hw]
  generalize hv : ((s.wipeDomain d).setPwr d 2) = v
  have hpv : v.pwr d = 2 := by rw [← hv, State.pwr_setPwr_self _ _ hd]
  have hon : State.KeepsBase startShown v ((s.wipeDomain d).switchedOn d) := by
    subst hv
    exact .ite ((State.KeepsBase.refl _).wr (by simp) (by decide)) (.refl _)
  have hend {c : Prop} {_ : Decidable c} : State.KeepsBase startShown v ((if c then (s.wipeDomain d).switchedOn d
      else ((s.wipeDomain d).switchedOn d).startDomain d).finishOp 0x10 d stOk 0 0).settle :=
    (State.KeepsBase.ite hon (hon.startDomain (by decide) (by decide) (by decide))).finishOp.settle
  refine runs_done (congrArg done (if_neg hcond)) ⟨?_, ?_⟩
  · rw [hend.pwr d (by decide), hpv]
  · have hset : State.KeepsBase (R.PWR.PWR_STAT.place 0 :: startShown) (s.wipeDomain d) v := hv ▸ ((State.KeepsBase.refl _).setPwr (by decide))
    exact (hset.trans (hend.mono (by decide))).wiped

/-- The rules of R24 for switching a domain off read what a command's start leaves. -/
theorem State.ruleOff_fly (s : State) (k : Cmd) (d : Nat) : (s.fly k).ruleOff d = s.ruleOff d := by
  unfold State.fly State.setSlot
  split <;> rfl

/-- DOMAIN_OFF of a domain that is on and whose rule holds ends the commands on it and isolates it (R24, R398). -/
theorem State.startDomainOff_eq {s : State} {k : Cmd} (hon : s.pwr (k.arg 0) = 2) (hrule : s.ruleOff (k.arg 0) = 0)
    (hfail : 2 < k.arg 0 ∨ s.tcuState (domTcu (k.arg 0)) ≠ tsFailed) :
    State.startDomainOff k s = (if 8 ≤ k.arg 0 then ((((s.fly k).endTargets (k.arg 0)).suStop (k.arg 0)).setPwr (k.arg 0) 3).groupCands (k.arg 0 - 8)
      else (((s.fly k).endTargets (k.arg 0)).suStop (k.arg 0)).setPwr (k.arg 0) 3) := by
  unfold State.startDomainOff
  dsimp only
  rw [if_neg (by simp [hon]), if_neg (by simp [State.ruleOff_fly, hrule]), if_neg]
  rintro ⟨hd, hf, -⟩
  rw [State.tcuState_fly] at hf
  obtain hd' | hf' := hfail
  · omega
  · exact hf' hf

theorem runs_domainOff {s : State} {q : Request} (hq : s.accepts 0x11 q) (hon : s.pwr ((s.cmdOf 0x11 q).arg 0) = 2)
    (hrule : s.ruleOff ((s.cmdOf 0x11 q).arg 0) = 0)
    (hfail : 2 < (s.cmdOf 0x11 q).arg 0 ∨ s.tcuState (domTcu ((s.cmdOf 0x11 q).arg 0)) ≠ tsFailed) :
    Runs (.domainOff q) s (fun u => u.pwr ((s.cmdOf 0x11 q).arg 0) = 3 ∧ u.inFlight (s.cmdOf 0x11 q)) := by
  have hd := State.domain_of_accepts (.inr rfl) hq
  have htake := State.takeRequest_of_accepts hq
  generalize hk : s.cmdOf 0x11 q = k at *
  have hop : k.op = 0x11 := hk ▸ rfl
  rw [State.startCmd_domainOff _ hop, State.startDomainOff_eq (by simpa using hon)
    (by rw [State.ruleOff_fly, hrule]) (by simpa using hfail)] at htake
  generalize hv : (((s.fly k).fly k).endTargets (k.arg 0)).suStop (k.arg 0) = v at htake
  have hcar : (v.setPwr (k.arg 0) 3).carries k :=
    hv ▸ ((State.carries_fly (s.fly k) (hk ▸ rfl)).endTargets (.inr hop)).suStop.setPwr
  have hpw : (v.setPwr (k.arg 0) 3).pwr (k.arg 0) = 3 := State.pwr_setPwr_self _ _ hd
  refine runs_done (v := s.takeRequest 0x11 q) rfl ?_
  rw [htake]
  refine ⟨?_, ?_⟩
  · exact ((State.KeepsBase.ite (State.KeepsBase.refl (E := []) _).groupCands (.refl _)).settle.pwr _ (by decide)).trans hpw
  · exact ((State.carries.ite (hcar.groupCands (by rw [hop]; decide)) hcar).congr (State.settle_cmds _)).1

/-! ### The claims and the lockstep of the TCUs -/

namespace State.KeepsBase
section
variable {E : List Nat} {s u : State}

theorem showClaims (h : KeepsBase E s u) (hA : R.ARB.ARB_STAT_CLAIM_A.place 0 ∈ E)
    (hB : R.ARB.ARB_STAT_CLAIM_B.place 0 ∈ E) : KeepsBase E s u.showClaims := (h.wrAt hA).wrAt hB

theorem showLockstep (h : KeepsBase E s u) (hE : R.CTL.TCU_STAT_LOCKSTEP.place 0 ∈ E) : KeepsBase E s u.showLockstep := by
  unfold State.showLockstep
  exact h.both fun _ _ _ h => h.wrAt hE

theorem revertCheck (h : KeepsBase E s u) : KeepsBase E s u.revertCheck := .ite h (h.upd rfl rfl)

end
end State.KeepsBase

/-- The registers that show the loss of a TCU's domain: the claims, the lockstep and the TCU's lock. -/
def lossShown : List Nat := [R.ARB.ARB_STAT_CLAIM_A.place 0, R.ARB.ARB_STAT_CLAIM_B.place 0, R.CTL.TCU_STAT_LOCKSTEP.place 0,
  R.RIND.RIND_CLK_STAT_TCUA_LOCK.place 0, R.RIND.RIND_CLK_STAT_TCUB_LOCK.place 0]

/-- The end of a domain's isolation (R398). -/
theorem runs_domainIsolated {s : State} {d : Nat} (hd : d ∈ domains) (hp : s.pwr d = 3) :
    Runs (.domainIsolated d) s (fun u => u.pwr d = 0 ∧ (d = 3 → u.tabs = []) ∧ (d = 5 → u.engines = [] ∧ u.shmem = [])) := by
  have hcond : ¬ (¬ domains.contains d ∨ s.pwr d ≠ 3) := by simp [hd, hp]
  refine runs_done (congrArg done (if_neg hcond)) ?_
  generalize hv : (s.wipeDomain d).setPwr d 0 = v
  have hset : State.KeepsBase (R.PWR.PWR_STAT.place 0 :: lossShown) (s.wipeDomain d) v := hv ▸ ((State.KeepsBase.refl _).setPwr (by decide))
  have hpv : v.pwr d = 0 := hv ▸ State.pwr_setPwr_self _ _ hd
  have hloss : State.KeepsBase lossShown v (v.showClaims.showLockstep.revertCheck.wr pageRind
      (if d = 1 then R.RIND.RIND_CLK_STAT_TCUA_LOCK else R.RIND.RIND_CLK_STAT_TCUB_LOCK) 0) := by
    have hrev : State.KeepsBase lossShown v v.showClaims.showLockstep.revertCheck :=
      (((State.KeepsBase.refl v).showClaims (by decide) (by decide)).showLockstep (by decide)).revertCheck
    split
    · exact hrev.wrAt (by decide)
    · exact hrev.wrAt (by decide)
  have hend : State.KeepsBase lossShown v ((if d ≤ 2 then v.showClaims.showLockstep.revertCheck.wr pageRind
      (if d = 1 then R.RIND.RIND_CLK_STAT_TCUA_LOCK else R.RIND.RIND_CLK_STAT_TCUB_LOCK) 0 else v).finishOp 0x11 d stOk 0 0).settle :=
    (State.KeepsBase.ite hloss (.refl v)).finishOp.settle
  exact ⟨(hend.pwr d (by decide)).trans hpv, (hset.trans (hend.mono (by decide))).wiped⟩

/-- Settles O19: a switch of a domain sets its two bits of `PWR_STAT`, and its wipe leaves nothing of its memories; what starts up
or ends with it writes neither. -/
theorem domainsSwitchOnAndOff : Obligations.DomainsSwitchOnAndOff :=
  ⟨fun _ _ hq hlc hoff hrule => runs_domainOn hq hlc hoff hrule,
    fun _ _ hd hp hw => runs_domainWipeDone hd hp hw,
    fun _ _ hq hon hrule hfail => runs_domainOff hq hon hrule hfail,
    fun _ _ hd hp => runs_domainIsolated hd hp⟩

end Sys2Proof.Machine
end

section
/-! SUPPORT. The clock phase, the queues and the trunk figures leave the base registers, and the switch of the token in them. -/

open Sys2Proof Sys2Proof.Machine
namespace Sys2Proof.Machine

/-- The registers that show the clock phase and TIME_VALID. -/
def phaseShown : List Nat := [R.RIND.RIND_CLK_STAT_TIME_VALID.place 0, R.RIND.RIND_CLK_STAT_PHASE.place 0]

@[simp] theorem basePage_pageVat : basePage pageVat = false := by decide
@[simp] theorem basePage_pageGate : basePage pageGate = false := by decide

theorem leafPort_lt (v : Nat) : leafPort (voqLeaf v) < 48 := by
  unfold leafPort voqLeaf
  omega

namespace State.KeepsBase
section
variable {E : List Nat} {s u : State} {e f i n o p t v x : Nat}

/-! ### Frames, cells and queues -/

theorem event (h : KeepsBase E s u) : KeepsBase E s (u.event e x n) := .ite h (h.upd rfl rfl)
theorem sticky (h : KeepsBase E s u) : KeepsBase E s (u.sticky p x) := .ite h (h.wr (by simp) (by decide)).raise

theorem pressOf (h : KeepsBase E s u) : KeepsBase E s (u.pressOf p) := .showPress (h.upd rfl rfl)
theorem refreshPress (h : KeepsBase E s u) : KeepsBase E s (u.refreshPress o) := .ite (h.each fun _ _ _ h => h.pressOf) (.ite h.pressOf h)

theorem setCharge (h : KeepsBase E s u) : KeepsBase E s (u.setCharge o x) := by
  unfold State.setCharge
  split
  next ho => exact h.wrI basePage_pageVat (Fld.inPage_of_le (n := 47) (by omega) (by decide))
  next => exact h.wr (by simp) (by decide)

theorem freeCell (h : KeepsBase E s u) : KeepsBase E s (u.freeCell x) := by
  unfold State.freeCell
  exact .ite h (.refreshPress (.setCharge (h.upd rfl rfl)))

theorem setFrame {x : Frame} (h : KeepsBase E s u) : KeepsBase E s (u.setFrame f x) := h.upd rfl rfl
theorem onFrame {g : Frame → Frame} (h : KeepsBase E s u) : KeepsBase E s (u.onFrame f g) := h.setFrame
theorem fenceFrame (h : KeepsBase E s u) : KeepsBase E s (u.fenceFrame f) := .ite h (h.upd rfl rfl)

theorem slotOf (h : KeepsBase E s u) : KeepsBase E s (u.slotOf f) := by
  unfold State.slotOf
  dsimp only
  split
  · exact h.event
  · exact h

theorem freeFrame (h : KeepsBase E s u) : KeepsBase E s (u.freeFrame f) := by
  have hc : KeepsBase E s (((u.slotOf f).frame f).cells.foldl (fun a c => a.freeCell c) (u.slotOf f)) :=
    h.slotOf.foldl fun _ _ _ h => h.freeCell
  exact .fenceFrame (hc.upd rfl rfl)

theorem reap (h : KeepsBase E s u) : KeepsBase E s (u.reap f) :=
  .ite h (.ite h.freeFrame (.ite (KeepsBase.onFrame (h.foldl fun _ _ _ h => h.freeCell)).fenceFrame h.fenceFrame))

theorem copyGone (h : KeepsBase E s u) : KeepsBase E s (u.copyGone f) := .ite h h.onFrame.reap
theorem onVoq {g : Voq → Voq} (h : KeepsBase E s u) : KeepsBase E s (u.onVoq v g) := h.upd rfl rfl

theorem popVoq (h : KeepsBase E s u) : KeepsBase E s (u.popVoq v) := by
  unfold State.popVoq
  split
  · exact h
  · exact h.onVoq.copyGone.onMac

theorem flushVoq (h : KeepsBase E s u) : KeepsBase E s (u.flushVoq v n) := by
  induction n generalizing u with
  | zero => exact h
  | succ n ih =>
    unfold State.flushVoq
    split
    · exact h
    · exact ih (.popVoq (.ite (h.event.inc (by simp) (by decide)).sticky (.ite (KeepsBase.raise (h.event.wrI basePage_pageGate
        (Fld.inPage_of_le (n := 47) (Nat.le_of_lt_succ (leafPort_lt v)) (by decide)))) h.event)))

theorem flushPort (h : KeepsBase E s u) : KeepsBase E s (u.flushPort p) := h.foldl fun _ _ _ h => h.flushVoq
theorem accruePort (h : KeepsBase E s u) : KeepsBase E s (u.accruePort p) := h.foldl fun _ _ _ h => .ite h.onNode h
theorem touchPort (h : KeepsBase E s u) : KeepsBase E s (u.touchPort p) := h.flushPort.accruePort.foldl fun _ _ _ h => .ite h.onNode h
theorem touchAll (h : KeepsBase E s u) : KeepsBase E s u.touchAll := h.each fun _ _ _ h => .ite h h.touchPort
theorem endHolds (h : KeepsBase E s u) : KeepsBase E s u.endHolds := h.each fun _ _ _ h => h.onGate

/-! ### The trunk figures -/

theorem showNt (h : KeepsBase E s u) : KeepsBase E s (u.showNt n) := by
  unfold State.showNt
  dsimp only
  split
  · exact (((((((h.wr (by simp) (by decide)).wr (by simp) (by decide)).wrSat (by simp) (by decide)).wrSat (by simp) (by decide)).wr (by simp) (by decide)).wr (by simp) (by decide)).wrSat (by simp) (by decide)).wrSat (by simp) (by decide)
  · exact ((((((h.wr (by simp) (by decide)).wr (by simp) (by decide)).wrSat (by simp) (by decide)).wrSat (by simp) (by decide)).wr (by simp) (by decide)).wr (by simp) (by decide)).wrSat (by simp) (by decide)

/-! ### TIME_VALID and the clock phase (R15, R20) -/

theorem quietOuts {g : Nat → Nat → Bool} (h : KeepsBase E s u) : KeepsBase E s (u.quietOuts g) :=
  h.each fun _ _ _ h => h.each fun _ _ _ h => .ite h.onTcu h

theorem setTimeValid {b : Bool} (h : KeepsBase E s u) (hE : R.RIND.RIND_CLK_STAT_TIME_VALID.place 0 ∈ E) :
    KeepsBase E s (u.setTimeValid b) :=
  .ite h (((KeepsBase.ite h h.quietOuts).wrAt hE).bcast)

theorem refreshValid (h : KeepsBase E s u) (hE : R.RIND.RIND_CLK_STAT_TIME_VALID.place 0 ∈ E) : KeepsBase E s u.refreshValid :=
  h.setTimeValid hE

/-- The change of the phase: what follows it shows it. -/
theorem setPhase (s : State) (x : Phase) : KeepsBase phaseShown { s with phase := x } (s.setPhase x) := by
  have h : KeepsBase phaseShown { s with phase := x } { s with phase := x } := .refl _
  exact ((KeepsBase.ite h h.quietOuts).wrAt (by decide)).refreshValid (by decide)

/-! ### The TCUs at the switch of the token -/

theorem setAlignErr {a : Int} (h : KeepsBase E s u) (hE : R.CTL.TCU_ALIGN_ERR.place 0 ∈ E) : KeepsBase E s (u.setAlignErr t a) :=
  (h.wrAt hE).onTcu

theorem showLinks (h : KeepsBase E s u) (hE : R.CTL.TCU_MIRROR_STAT_LINK_OK.place 0 ∈ E) : KeepsBase E s u.showLinks :=
  h.both fun _ _ _ h => h.wrAt hE

theorem reportMove {old : Option Nat} (h : KeepsBase E s u) : KeepsBase E s (u.reportMove old n) := by
  unfold State.reportMove
  dsimp only
  split
  · exact h.raise.raiseIf.raise.bcast
  · exact h.raise.raise.bcast

end
end State.KeepsBase

end Sys2Proof.Machine
end

section
/-! SUPPORT. The move of the token and its switch epoch (R155). -/

open Sys2Proof Sys2Proof.Machine
namespace Sys2Proof.Machine

/-! ### The state of a TCU (R148) -/

section
variable (s : State) {t v : Nat} (x : Nat)

/-- What setting a TCU's state writes besides that state stands at other places or on other pages. -/
theorem State.tcuState_setTcuState (h : s.tcuState t ≠ x) :
    (s.setTcuState t x).tcuState v = (s.wr (pageCtl t) R.CTL.TCU_STAT_STATE x).tcuState v := by
  have hsyn : pageSynth t ≠ pageCtl v := by simp only [pageSynth, pageCtl, tpage]; omega
  have hw (y : Nat) : State.tcuState { ((s.wr (pageCtl t) R.CTL.TCU_STAT_STATE x).raise (pageCtl t) 0).wr (pageSynth t) R.SYNTH.SYN_STAT_ACTIVE y
      with judging := false } v = (s.wr (pageCtl t) R.CTL.TCU_STAT_STATE x).tcuState v :=
    (State.rd_wr_page _ _ _ _ (by decide) (by decide) hsyn).trans (State.rd_raise _ _ _ _ _ (by decide))
  unfold State.setTcuState
  rw [if_neg h]
  dsimp only
  split
  · exact (State.rd_wr_place _ _ _ _ _ _ (by decide)).trans (hw _)
  · exact hw _

theorem State.tcuState_setTcuState_self (hx : x < 8) : (s.setTcuState t x).tcuState t = x := by
  by_cases h : s.tcuState t = x
  · rw [State.setTcuState, if_pos h, h]
  · rw [State.tcuState_setTcuState s x h]
    exact (State.rd_wr_same _ _ _ _).trans (Nat.mod_eq_of_lt hx)

theorem State.tcuState_setTcuState_ne (hv : v ≠ t) : (s.setTcuState t x).tcuState v = s.tcuState v := by
  by_cases h : s.tcuState t = x
  · rw [State.setTcuState, if_pos h]
  · rw [State.tcuState_setTcuState s x h]
    exact State.rd_wr_page _ _ _ _ (by decide) (by decide) (by simp only [pageCtl, tpage]; omega)

end

/-! ### The move of the token -/

/-- The arbiter shows the holder of the token and the cause of the move. -/
def State.showHolder (s : State) (new cause : Nat) : State :=
  ((s.wr pageArb R.ARB.ARB_STAT_HOLDER new).wr pageArb R.ARB.ARB_STAT_HOLDER_VALID 1).wr pageArb R.ARB.ARB_STAT_LAST_CAUSE cause

/-- An active holder that loses the token to another TCU is its standby. -/
def State.oldSteps (s : State) (old : Option Nat) (new : Nat) : State :=
  match old with
  | some o => if o ≠ new ∧ s.tcuState o = tsActive then s.setTcuState o tsStandby else s
  | none => s

/-- The first part of the token's move: the arbiter shows it, and both TCUs have their new states. -/
def State.changeHolder (s : State) (old : Option Nat) (new cause : Nat) : State :=
  (((s.showHolder new cause).oldSteps old new).setTcuState new tsActive).onTcu new (fun u => { u with waitMirror := false, tries := 0 })

/-- The second part: the move is counted, with the new holder and the arbiter. -/
def State.countMove (s : State) (new cause : Nat) : State :=
  ((s.switchoverMoved new cause).inc (pageCtl new) R.CTL.TCU_SW_CNT).inc pageArb R.ARB.ARB_MOVES

/-- The holder of the token, if there is one. -/
def State.holder (s : State) : Option Nat := if s.tokenHeld then some s.active else none

/-- The move of the token ends with its entry for the switch epoch and what is shown of the TCUs. -/
theorem State.moveToken_eq (s : State) (new cause : Nat) :
    s.moveToken new cause = (State.showClaims { (s.changeHolder s.holder new cause).countMove new cause with
      switch := ((s.changeHolder s.holder new cause).countMove new cause).switch ++ [(s.holder, new, cause)] }).showLockstep.revertCheck := rfl

/-- The registers of the token (R155). -/
def holderShown : List Nat := [R.ARB.ARB_STAT_HOLDER.place 0, R.ARB.ARB_STAT_HOLDER_VALID.place 0, R.ARB.ARB_STAT_LAST_CAUSE.place 0]

/-- The registers of a TCU's state. -/
def statesShown : List Nat := [R.CTL.TCU_STAT_STATE.place 0, R.CTL.TCU_STAT_FAIL_CODE.place 0]

/-- The registers that count the token's moves. -/
def countsShown : List Nat := [R.CTL.TCU_SW_CNT.place 0, R.ARB.ARB_MOVES.place 0]

/-- The registers that show claims and lockstep. -/
def claimsShown : List Nat := [R.ARB.ARB_STAT_CLAIM_A.place 0, R.ARB.ARB_STAT_CLAIM_B.place 0, R.CTL.TCU_STAT_LOCKSTEP.place 0]

section
variable {E : List Nat} {s u : State} {old : Option Nat} {new cause t : Nat}

theorem State.KeepsBase.oldSteps (h : State.KeepsBase E s u) (hE : R.CTL.TCU_STAT_STATE.place 0 ∈ E)
    (hF : R.CTL.TCU_STAT_FAIL_CODE.place 0 ∈ E) : State.KeepsBase E s (u.oldSteps old new) := by
  unfold State.oldSteps
  split
  · exact .ite (h.setTcuState hE hF) h
  · exact h

theorem State.KeepsBase.switchoverMoved (h : State.KeepsBase E s u) : State.KeepsBase E s (u.switchoverMoved new cause) := by
  unfold State.switchoverMoved
  split
  · exact .ite h (.ite h h.finishSt)
  · exact h

theorem State.changeHolder_states (s : State) (old : Option Nat) (new cause : Nat) :
    State.KeepsBase statesShown (s.showHolder new cause) (s.changeHolder old new cause) :=
  (((State.KeepsBase.refl _).oldSteps (by decide) (by decide)).setTcuState (by decide) (by decide)).onTcu

theorem State.changeHolder_keeps (s : State) (old : Option Nat) (new cause : Nat) :
    State.KeepsBase (holderShown ++ statesShown) s (s.changeHolder old new cause) := by
  have hh : State.KeepsBase (holderShown ++ statesShown) s (s.showHolder new cause) :=
    (((State.KeepsBase.refl s).wrAt (by decide)).wrAt (by decide)).wrAt (by decide)
  exact hh.trans ((s.changeHolder_states old new cause).mono (by decide))

theorem State.countMove_keeps (s : State) (new cause : Nat) : State.KeepsBase countsShown s (s.countMove new cause) :=
  ((State.KeepsBase.refl s).switchoverMoved.wrAt (by decide)).wrAt (by decide)

theorem State.claims_keep (s : State) : State.KeepsBase claimsShown s s.showClaims.showLockstep.revertCheck :=
  (((State.KeepsBase.refl s).showClaims (by decide) (by decide)).showLockstep (by decide)).revertCheck

/-- A counter that counts one. -/
theorem State.rd_inc (s : State) (p : Nat) (f : Fld) : (s.inc p f).rd p f = satNat f.w (s.rd p f + 1) :=
  (State.rd_wr_same _ _ _ _).trans (Nat.mod_eq_of_lt (satNat_lt _ _))

/-- What a register that the end of the token's move does not write shows after the move. -/
theorem State.rd_moveToken (s : State) (new cause : Nat) {p : Nat} {f : Fld} (hp : basePage p = true) (hE : f.place 0 ∉ claimsShown)
    (hf : f.blockReg 0 = true) : (s.moveToken new cause).rd p f = ((s.changeHolder s.holder new cause).countMove new cause).rd p f := by
  generalize hv : (s.changeHolder s.holder new cause).countMove new cause = v
  have hm : s.moveToken new cause = (State.showClaims { v with switch := v.switch ++ [(s.holder, new, cause)] }).showLockstep.revertCheck :=
    hv ▸ s.moveToken_eq new cause
  rw [hm, (State.claims_keep _).rd f hp hE hf]
  rfl

/-- What a register that shows neither claims nor counts shows after the token's move. -/
theorem State.rd_moveToken_change (s : State) (new cause : Nat) {p : Nat} {f : Fld} (hp : basePage p = true)
    (hE : f.place 0 ∉ claimsShown ++ countsShown) (hf : f.blockReg 0 = true) :
    (s.moveToken new cause).rd p f = (s.changeHolder s.holder new cause).rd p f := by
  rw [List.mem_append, not_or] at hE
  rw [State.rd_moveToken s new cause hp hE.1 hf, (State.countMove_keeps _ new cause).rd f hp hE.2 hf]

/-- What a register of the token itself shows after its move. -/
theorem State.rd_moveToken_holder (s : State) (new cause : Nat) {f : Fld} (hE : f.place 0 ∉ claimsShown ++ countsShown)
    (hS : f.place 0 ∉ statesShown) (hf : f.blockReg 0 = true) :
    (s.moveToken new cause).rd pageArb f = (s.showHolder new cause).rd pageArb f :=
  (s.rd_moveToken_change new cause (by decide) hE hf).trans ((s.changeHolder_states s.holder new cause).rd f (by decide) hS hf)

/-- The arbiter shows the move (R155). -/
theorem State.moveToken_arb (s : State) {new cause : Nat} (hn : new < 2) (hc : cause < 8) :
    (s.moveToken new cause).tokenHeld = true ∧ (s.moveToken new cause).active = new ∧
      (s.moveToken new cause).rd pageArb R.ARB.ARB_STAT_LAST_CAUSE = cause := by
  refine ⟨?_, ?_, ?_⟩
  · unfold State.tokenHeld State.flag
    rw [s.rd_moveToken_holder new cause (by decide) (by decide) (by decide), State.showHolder, State.rd_wr_place _ _ _ _ _ _ (by decide),
      State.rd_wr_same]
    rfl
  · unfold State.active
    rw [s.rd_moveToken_holder new cause (by decide) (by decide) (by decide), State.showHolder, State.rd_wr_place _ _ _ _ _ _ (by decide),
      State.rd_wr_place _ _ _ _ _ _ (by decide), State.rd_wr_same]
    exact Nat.mod_eq_of_lt hn
  · rw [s.rd_moveToken_holder new cause (by decide) (by decide) (by decide), State.showHolder, State.rd_wr_same]
    exact Nat.mod_eq_of_lt hc

/-- The new holder is ACTIVE (R148). -/
theorem State.moveToken_tcuState (s : State) {new : Nat} (cause : Nat) (hn : new < 2) : (s.moveToken new cause).tcuState new = tsActive :=
  (s.rd_moveToken_change new cause (basePage_pageCtl hn) (by decide) (by decide)).trans (State.tcuState_setTcuState_self _ _ (by decide))

/-- The arbiter counts the move (R155). -/
theorem State.moveToken_moves (s : State) (new cause : Nat) :
    (s.moveToken new cause).rd pageArb R.ARB.ARB_MOVES = satNat 32 (s.rd pageArb R.ARB.ARB_MOVES + 1) := by
  have hk : State.KeepsBase [R.CTL.TCU_SW_CNT.place 0] (s.changeHolder s.holder new cause)
      (((s.changeHolder s.holder new cause).switchoverMoved new cause).inc (pageCtl new) R.CTL.TCU_SW_CNT) :=
    (State.KeepsBase.refl _).switchoverMoved.wrAt (by decide)
  rw [s.rd_moveToken new cause (by decide) (by decide) (by decide), State.countMove, State.rd_inc, hk.rd _ (by decide) (by decide) (by decide),
    (s.changeHolder_keeps _ new cause).rd _ (by decide) (by decide) (by decide)]
  rfl

/-- The new holder counts the move (R155). -/
theorem State.moveToken_swCnt (s : State) {new : Nat} (cause : Nat) (hn : new < 2) :
    (s.moveToken new cause).rd (pageCtl new) R.CTL.TCU_SW_CNT = satNat 32 (s.rd (pageCtl new) R.CTL.TCU_SW_CNT + 1) := by
  have hp := basePage_pageCtl hn
  have hk : State.KeepsBase (holderShown ++ statesShown) s ((s.changeHolder s.holder new cause).switchoverMoved new cause) :=
    (s.changeHolder_keeps s.holder new cause).switchoverMoved
  have hc := State.rd_inc ((s.changeHolder s.holder new cause).switchoverMoved new cause) (pageCtl new) R.CTL.TCU_SW_CNT
  rw [hk.rd _ hp (by decide) (by decide)] at hc
  rw [s.rd_moveToken new cause hp (by decide) (by decide)]
  exact (State.rd_wr_place _ _ _ _ _ _ (by decide)).trans hc

/-- The move waits for its switch epoch, and takes no time. -/
theorem State.moveToken_rest (s : State) (new cause : Nat) :
    (s.moveToken new cause).switch = s.switch ++ [(s.holder, new, cause)] ∧ (s.moveToken new cause).up = s.up := by
  have hk : State.KeepsBase (holderShown ++ statesShown ++ countsShown) s ((s.changeHolder s.holder new cause).countMove new cause) :=
    ((s.changeHolder_keeps _ new cause).mono (by decide)).trans ((State.countMove_keeps _ new cause).mono (by decide))
  rw [State.moveToken_eq]
  exact ⟨(State.claims_keep _).switch.trans (by rw [hk.switch]), (State.claims_keep _).up.trans hk.up⟩

end

/-! ### The token is taken where none holds it (R150, R158) -/

/-- The registers that a resynchronisation writes after the TCU's state. -/
def resyncShown : List Nat := [R.CTL.TCU_MIRROR_STAT_TABLES_EQ.place 0, R.CTL.TCU_MIRROR_STAT_LINK_OK.place 0] ++ claimsShown

theorem State.beginResync_keeps (s : State) (t : Nat) (w : Bool) : State.KeepsBase resyncShown (s.setTcuState t tsSyncing) (s.beginResync t w) := by
  unfold State.beginResync
  exact (((((State.KeepsBase.refl _).wrAt (by decide)).onTcu.showLinks (by decide)).showClaims (by decide) (by decide)).showLockstep
    (by decide)).revertCheck

theorem State.tcuState_beginResync_ne (s : State) {t o : Nat} (w : Bool) (ht : t < 2) (h : t ≠ o) : (s.beginResync o w).tcuState t = s.tcuState t :=
  ((s.beginResync_keeps o w).tcuState ht (by decide)).trans (State.tcuState_setTcuState_ne _ _ h)

theorem State.tcuState_beginResync_self (s : State) {t : Nat} (w : Bool) (ht : t < 2) : (s.beginResync t w).tcuState t = tsSyncing :=
  ((s.beginResync_keeps t w).tcuState ht (by decide)).trans (State.tcuState_setTcuState_self _ _ (by decide))

/-- A TCU that takes the token holds it and is ACTIVE. -/
theorem State.takeToken_shows (s : State) {t : Nat} (ht : t < 2) : (s.takeToken t).tokenHeld = true ∧ (s.takeToken t).active = t ∧
    (s.takeToken t).tcuState t = tsActive ∧
    (s.takeToken t).rd pageArb R.ARB.ARB_STAT_LAST_CAUSE = (if s.phase = .lastResort then tcExit else tcFirst) := by
  unfold State.takeToken
  dsimp only
  generalize hc : (if s.phase = Phase.lastResort then tcExit else tcFirst) = c
  have hc8 : c < 8 := by rw [← hc]; split <;> decide
  obtain ⟨hheld, hact, hcause⟩ := s.moveToken_arb ht hc8
  have hst := s.moveToken_tcuState c ht
  split
  · have hk : State.KeepsBase (statesShown ++ resyncShown) (s.moveToken t c) ((s.moveToken t c).beginResync (1 - t) false) :=
      ((State.KeepsBase.refl _).setTcuState (by decide) (by decide)).trans ((State.beginResync_keeps _ _ _).mono (by decide))
    refine ⟨(hk.tokenHeld (by decide)).trans hheld, (hk.active (by decide)).trans hact, ?_,
      (hk.rd _ (by decide) (by decide) (by decide)).trans hcause⟩
    rw [State.tcuState_beginResync_ne _ _ ht (by omega), hst]
  · exact ⟨hheld, hact, hst, hcause⟩

end Sys2Proof.Machine
end

section
/-! SUPPORT. The switch epoch (R155) and the end of the Last resort phase (R19), and O5. -/

open Sys2Proof Sys2Proof.Machine
namespace Sys2Proof.Machine

/-! ### TCU_SWITCHOVER runs while the token moves -/

namespace State.carries
section
variable {s : State} {k : Cmd} {old : Option Nat} {new t x p : Nat}

theorem inc {f : Fld} (h : s.carries k) : (s.inc p f).carries k := h.wr

theorem setTcuState (h : s.carries k) : (s.setTcuState t x).carries k := by
  refine h.congr ?_
  unfold State.setTcuState
  dsimp only
  (repeat' split) <;> simp

theorem oldSteps (h : s.carries k) : (s.oldSteps old new).carries k := by
  unfold State.oldSteps
  split
  · exact .ite h.setTcuState h
  · exact h

/-- A move by command ends no command (R161). -/
theorem switchoverMoved (h : s.carries k) : (s.switchoverMoved new tcHost).carries k := by
  unfold State.switchoverMoved
  split <;> exact h

theorem claims (h : s.carries k) : s.showClaims.showLockstep.revertCheck.carries k := by
  refine h.congr ?_
  unfold State.revertCheck
  dsimp only
  split <;> rfl

theorem moveToken (h : s.carries k) : (s.moveToken new tcHost).carries k := by
  have hc : (s.changeHolder s.holder new tcHost).carries k := (State.carries.oldSteps h.wr.wr.wr).setTcuState.onTcu
  have hm : ((s.changeHolder s.holder new tcHost).countMove new tcHost).carries k := hc.switchoverMoved.inc.inc
  rw [State.moveToken_eq]
  exact State.carries.claims (hm.congr rfl)

end
end State.carries

@[simp] theorem State.tokenHeld_settle (s : State) : s.settle.tokenHeld = s.tokenHeld := State.flag_settle s _ _
@[simp] theorem State.active_settle (s : State) : s.settle.active = s.active := State.rd_settle s _ _
@[simp] theorem State.tcuState_settle (s : State) (t : Nat) : s.settle.tcuState t = s.tcuState t := State.rd_settle s _ _

/-! ### The four ways in which the token moves -/

theorem State.holder_of_tokenHeld {s : State} (h : s.tokenHeld = true) : s.holder = some s.active := by rw [State.holder, if_pos h]

theorem State.active_lt (s : State) : s.active < 2 := State.rd_lt s pageArb R.ARB.ARB_STAT_HOLDER

/-- The first grant (R150). -/
theorem runs_firstTokenGrant {s : State} {tenMs : Bool} (hh : s.tokenHeld = false) (hp : s.phase ≠ .lastResort)
    (hr : (s.tcu (s.straps.leadSel % 2)).ready = true) (hst : s.tcuState (s.straps.leadSel % 2) = tsStarting) :
    Runs (.firstTokenGrant tenMs) s (fun u => u.tokenHeld = true ∧ u.active = s.straps.leadSel % 2 ∧
      u.tcuState (s.straps.leadSel % 2) = tsActive ∧ u.rd pageArb R.ARB.ARB_STAT_LAST_CAUSE = 0) := by
  have hexec : exec (.firstTokenGrant tenMs) s = done (s.takeToken (s.straps.leadSel % 2)) := by
    change execFirstTokenGrant tenMs s = _
    unfold execFirstTokenGrant
    simp [hh, hr, hst]
  refine runs_done hexec ?_
  simp only [State.tokenHeld_settle, State.active_settle, State.rd_settle, State.tcuState_settle]
  have h := s.takeToken_shows (t := s.straps.leadSel % 2) (by omega)
  rw [if_neg hp] at h
  exact h

theorem State.startCmd_switchover (s : State) {k : Cmd} (h : k.op = 0x41) : State.startCmd k s = State.startSwitchover k s := by
  unfold State.startCmd
  rw [h]
  rfl

/-- TCU_SWITCHOVER to a standby moves the token at once (R161). -/
theorem State.startSwitchover_eq {s : State} {k : Cmd} (hh : s.tokenHeld = true) (hst : s.tcuState (1 - s.active) = tsStandby)
    (hon : s.isOn (2 - s.active) = true) :
    State.startSwitchover k s = (s.fly { k with stage := 1 - s.active + 1 }).moveToken (1 - s.active) tcHost := by
  have ha := s.active_lt
  rw [show 2 - s.active = 1 + (1 - s.active) by omega] at hon
  unfold State.startSwitchover
  simp [hh, hst, hon]

theorem runs_tcuSwitchover {s : State} {q : Request} (hq : s.accepts 0x41 q) (hh : s.tokenHeld = true) (hst : s.tcuState (1 - s.active) = tsStandby)
    (hon : s.isOn (2 - s.active) = true) :
    Runs (.tcuSwitchover q) s (fun u => u.active = 1 - s.active ∧ u.tcuState (1 - s.active) = tsActive ∧
      u.rd pageArb R.ARB.ARB_STAT_LAST_CAUSE = 1 ∧ u.rd pageArb R.ARB.ARB_MOVES = satNat 32 (s.rd pageArb R.ARB.ARB_MOVES + 1) ∧
      u.rd (pageCtl (1 - s.active)) R.CTL.TCU_SW_CNT = satNat 32 (s.rd (pageCtl (1 - s.active)) R.CTL.TCU_SW_CNT + 1) ∧
      u.switch = s.switch ++ [(some s.active, 1 - s.active, tcHost)] ∧ u.inFlight (s.cmdOf 0x41 q)) := by
  have htake := State.takeRequest_of_accepts hq
  generalize hk : s.cmdOf 0x41 q = k at *
  have hn : 1 - s.active < 2 := by omega
  have hf : State.KeepsBase [] s (s.fly k) := (State.KeepsBase.refl s).fly
  have ha : (s.fly k).active = s.active := hf.active (by decide)
  have hh' : (s.fly k).tokenHeld = true := (hf.tokenHeld (by decide)).trans hh
  rw [State.startCmd_switchover _ (hk ▸ rfl), State.startSwitchover_eq hh' (by rw [ha, State.tcuState_fly, hst])
    (by rw [ha, State.isOn, State.pwr_fly]; exact hon), ha] at htake
  generalize hk' : { k with stage := 1 - s.active + 1 } = k' at htake
  have hg : State.KeepsBase [] s ((s.fly k).fly k') := hf.fly
  have hcar : (((s.fly k).fly k').moveToken (1 - s.active) tcHost).carries k' := (State.carries_fly _ (hk' ▸ hk ▸ rfl)).moveToken
  generalize (s.fly k).fly k' = v at *
  obtain ⟨-, hact, hcause⟩ := v.moveToken_arb hn (cause := tcHost) (by decide)
  have hsw := (v.moveToken_rest (1 - s.active) tcHost).1
  have hold : v.holder = some s.active := by
    rw [State.holder_of_tokenHeld ((hg.tokenHeld (by decide)).trans hh), hg.active (by decide)]
  refine runs_done (v := s.takeRequest 0x41 q) rfl ?_
  rw [htake]
  simp only [State.active_settle, State.rd_settle, State.tcuState_settle, State.settle_switch]
  refine ⟨hact, v.moveToken_tcuState _ hn, hcause, ?_, ?_, ?_, ?_⟩
  · rw [State.moveToken_moves, hg.rd _ (by decide) (by decide) (by decide)]
  · exact (v.moveToken_swCnt _ hn).trans (by rw [hg.rd _ (basePage_pageCtl hn) (by decide) (by decide)])
  · rw [hsw, hg.switch, hold]
  · subst hk'
    exact (hcar.congr (State.settle_cmds _)).1

/-- The revert hold-off expires (R160). -/
theorem runs_revertHoldoffExpiry {s : State} {h : Nat} (hhome : h = s.rd redPage R.CTL.TCU_RED_CTL_HOME) (hrev : s.reverting = true)
    (hon : s.flag redPage R.CTL.TCU_RED_CTL_REVERT = true) (hh : s.tokenHeld = true) (ha : s.active ≠ h) (hst : s.tcuState h = tsStandby) :
    Runs .revertHoldoffExpiry s (fun u => u.up = s.up + (s.revertAt - s.up) ∧ u.active = h ∧ u.tcuState h = tsActive ∧
      u.rd pageArb R.ARB.ARB_STAT_LAST_CAUSE = 3) := by
  have hn : h < 2 := by rw [hhome]; exact State.rd_lt s redPage R.CTL.TCU_RED_CTL_HOME
  have hexec : exec .revertHoldoffExpiry s = done ((s.advance (s.revertAt - s.up)).moveToken h tcRevert) := by
    change execRevertHoldoffExpiry s = _
    unfold execRevertHoldoffExpiry
    simp [← hhome, hrev, hon, hh, ha, hst]
  have hup : (s.advance (s.revertAt - s.up)).up = s.up + (s.revertAt - s.up) := (State.KeepsBase.advance (E := []) s _).up
  generalize s.advance (s.revertAt - s.up) = v at *
  obtain ⟨-, hact, hcause⟩ := v.moveToken_arb hn (cause := tcRevert) (by decide)
  refine runs_done hexec ?_
  simp only [State.active_settle, State.rd_settle, State.tcuState_settle, State.settle_up]
  exact ⟨(v.moveToken_rest h tcRevert).2.trans hup, hact, v.moveToken_tcuState _ hn, hcause⟩

/-- A TCU that becomes ready after the active failed takes the token (R158). -/
theorem runs_standbyReadyAfterAbandon {s : State} {t : Nat} (ht : t < 2) (hh : s.tokenHeld = false)
    (hst : s.tcuState t = tsCalibrating ∨ s.tcuState t = tsUpdating) :
    Runs (.standbyReadyAfterAbandon t) s (fun u => u.tokenHeld = true ∧ u.active = t ∧ u.tcuState t = tsActive) := by
  have hexec : ∃ v : State, exec (.standbyReadyAfterAbandon t) s = done (v.takeToken t) := by
    change ∃ v : State, execStandbyReadyAfterAbandon t s = _
    unfold execStandbyReadyAfterAbandon
    rw [Nat.mod_eq_of_lt ht]
    dsimp only
    rw [if_neg (by simp [hh, hst])]
    exact ⟨_, rfl⟩
  obtain ⟨v, hv⟩ := hexec
  obtain ⟨hheld, hact, hact', -⟩ := v.takeToken_shows ht
  refine runs_done hv ?_
  simp only [State.tokenHeld_settle, State.active_settle, State.tcuState_settle]
  exact ⟨hheld, hact, hact'⟩

/-! ### The switch epoch (R155) -/

section
variable {s u : State} {old : Option Nat} {new cause : Nat}

/-- The cause of a page that is on is recorded. -/
theorem State.cause_raise {p b : Nat} (hb : b < 30) (hp : s.pwr (pageDomain p) = 2) : (s.raise p b).cause p b = true :=
  State.raise_cause s p b hb (by rw [hp]; decide)

/-- The arbiter and the new holder report a move (R155). -/
theorem State.reportMove_causes (hn : new < 2) (hon : s.pageOn (pageCtl new)) :
    (s.reportMove old new).cause pageArb 0 = true ∧ (s.reportMove old new).cause (pageCtl new) 1 = true := by
  have hctl : (s.raise (pageCtl new) 1).cause (pageCtl new) 1 = true := State.cause_raise (by decide) hon
  have hmid : ∃ v, State.KeepsBase [] (s.raise (pageCtl new) 1) v ∧ s.reportMove old new = (v.raise pageArb 0).bcast bTcuSwitch := by
    unfold State.reportMove
    cases old with
    | some o => exact ⟨_, (State.KeepsBase.refl _).raiseIf, rfl⟩
    | none => exact ⟨_, .refl _, rfl⟩
  obtain ⟨v, hv, he⟩ := hmid
  have harb : (v.raise pageArb 0).cause pageArb 0 = true := State.cause_raise (by decide) rfl
  have hend : State.KeepsBase [] (v.raise pageArb 0) ((v.raise pageArb 0).bcast bTcuSwitch) := (State.KeepsBase.refl _).bcast
  rw [he]
  exact ⟨hend.causes (by decide) _ _ (by decide) harb,
    (hv.raise.bcast).causes (by decide) _ _ (basePage_pageCtl hn) hctl⟩

/-- The report of every move that waits. -/
def State.reportMoves (s : State) (l : List (Option Nat × Nat × Nat)) : State := l.foldl (fun a m => a.reportMove m.1 m.2.1) s

theorem State.KeepsBase.reportMoves {E : List Nat} {l : List (Option Nat × Nat × Nat)} (h : State.KeepsBase E s u) :
    State.KeepsBase E s (u.reportMoves l) := h.foldl fun _ _ _ h => h.reportMove

theorem State.reportMoves_causes {l : List (Option Nat × Nat × Nat)} (hm : (old, new, cause) ∈ l) (hn : new < 2) (hon : s.pageOn (pageCtl new)) :
    (s.reportMoves l).cause pageArb 0 = true ∧ (s.reportMoves l).cause (pageCtl new) 1 = true := by
  obtain ⟨l₁, l₂, rfl⟩ := List.append_of_mem hm
  have hsplit : s.reportMoves (l₁ ++ (old, new, cause) :: l₂) = ((s.reportMoves l₁).reportMove old new).reportMoves l₂ := by
    simp [State.reportMoves]
  have hk : State.KeepsBase [] s (s.reportMoves l₁) := (State.KeepsBase.refl s).reportMoves
  obtain ⟨harb, hctl⟩ := (s.reportMoves l₁).reportMove_causes (old := old) hn ((hk.pwr _ (by decide)).trans hon)
  have hend : State.KeepsBase [] _ (((s.reportMoves l₁).reportMove old new).reportMoves l₂) := (State.KeepsBase.refl _).reportMoves
  rw [hsplit]
  exact ⟨hend.causes (by decide) _ _ (by decide) harb, hend.causes (by decide) _ _ (basePage_pageCtl hn) hctl⟩

/-- At the switch epoch no move waits any more, and the SerDes reference follows the holder. -/
def State.epochStart (s : State) : State := ({ s with switch := [] } : State).wr pageRind R.RIND.RIND_CLK_STAT_SDS_REF_SRC (1 + s.active)

/-- The phase that follows the Last resort phase (R15, R19).
Log entry 88: while OSC_IN is disqualified it is the Oscillator lost phase. -/
def State.phaseAfterLastResort (s : State) : Phase := if s.flag pageRind R.RIND.RIND_CLK_STAT_OSC_OK then .running else .oscLost

/-- The Last resort phase ends in the phase that follows it. -/
theorem State.leaveLastResort_keeps (s : State) :
    ∃ v, State.KeepsBase [] s v ∧ State.KeepsBase phaseShown { v with phase := s.phaseAfterLastResort } s.leaveLastResort := by
  unfold State.leaveLastResort State.phaseAfterLastResort
  split
  · exact ⟨s, .refl s, (State.KeepsBase.setPhase s .running).endHolds.touchAll⟩
  · exact ⟨_, (State.KeepsBase.refl s).both fun _ _ _ h => h.onTcu, (State.KeepsBase.setPhase _ .oscLost).endHolds.touchAll⟩

/-- The phase at the switch epoch: the Last resort phase ends, and else TIME_VALID follows the holder. -/
def State.epochPhase (s : State) : State := if s.phase = .lastResort then s.leaveLastResort else s.refreshValid

/-- Of the phase and the registers that show it alone the change is seen, and only the Last resort phase ends. -/
theorem State.epochPhase_keeps (s : State) : ∃ v x, State.KeepsBase [] s v ∧ State.KeepsBase phaseShown { v with phase := x } s.epochPhase ∧
    (s.phase = .lastResort → x = s.phaseAfterLastResort) := by
  unfold State.epochPhase
  split
  · obtain ⟨v, hv, hl⟩ := s.leaveLastResort_keeps
    exact ⟨v, _, hv, hl, fun _ => rfl⟩
  next h => exact ⟨s, s.phase, .refl s, (State.KeepsBase.refl s).refreshValid (by decide), fun hp => absurd hp h⟩

/-- The SerDes reference and the links have moved. -/
def State.epochLinks (s : State) : State := ((s.epochStart.reportMoves s.switch).setAlignErr s.active 0).showLinks

/-- A TCU_SWITCHOVER to the holder `a` that waited for the epoch completes (R161). -/
def State.endSwitchover (s : State) (a : Nat) : State :=
  match s.findOp 0x41 with
  | some k => if k.stage = a + 1 then s.finishSt k stOk else s
  | none => s

theorem State.KeepsBase.endSwitchover {E : List Nat} {a : Nat} (h : State.KeepsBase E s u) : State.KeepsBase E s (u.endSwitchover a) := by
  unfold State.endSwitchover
  split
  · exact .ite h.finishSt h
  · exact h

theorem State.switchEpoch_eq (hs : s.switch ≠ []) (hh : s.tokenHeld = true) : s.switchEpoch = s.epochLinks.epochPhase.endSwitchover s.active := by
  unfold State.switchEpoch
  rw [if_neg (by simp [hs, hh])]
  rfl

/-- The registers of the links at the epoch. -/
def linksShown : List Nat := [R.CTL.TCU_ALIGN_ERR.place 0, R.CTL.TCU_MIRROR_STAT_LINK_OK.place 0]

theorem State.epochLinks_keeps (s : State) : State.KeepsBase linksShown (s.epochStart.reportMoves s.switch) s.epochLinks :=
  ((State.KeepsBase.refl _).setAlignErr (by decide)).showLinks (by decide)

theorem State.epochLinks_start (s : State) : State.KeepsBase linksShown s.epochStart s.epochLinks :=
  State.KeepsBase.trans (State.KeepsBase.reportMoves (.refl _)) s.epochLinks_keeps

theorem State.epochStart_keeps (s : State) : State.KeepsBase [R.RIND.RIND_CLK_STAT_SDS_REF_SRC.place 0] { s with switch := [] } s.epochStart :=
  (State.KeepsBase.refl _).wrAt (by decide)

/-- What stands at the end of the switch epoch: no move waits, and the SerDes reference is that of the holder. -/
theorem State.switchEpoch_shows (hs : s.switch ≠ []) (hh : s.tokenHeld = true) :
    s.switchEpoch.switch = [] ∧ s.switchEpoch.rd pageRind R.RIND.RIND_CLK_STAT_SDS_REF_SRC = 1 + s.active ∧ s.switchEpoch.active = s.active := by
  obtain ⟨v, x, hv, hx, -⟩ := s.epochLinks.epochPhase_keeps
  have hl := s.epochLinks_start.trans (hv.mono (by decide))
  have hend := hx.endSwitchover (a := s.active)
  have ha := s.active_lt
  rw [State.switchEpoch_eq hs hh]
  refine ⟨?_, ?_, ?_⟩
  · exact hend.switch.trans hl.switch
  · refine (hend.rd _ (by decide) (by decide) (by decide)).trans ((hl.rd _ (by decide) (by decide) (by decide)).trans ?_)
    exact (State.rd_wr_same _ _ _ _).trans (Nat.mod_eq_of_lt (by change 1 + s.active < 4; omega))
  · exact (hend.active (by decide)).trans ((hl.active (by decide)).trans (s.epochStart_keeps.active (by decide)))

/-- The arbiter and each new holder report the move (R155). -/
theorem State.switchEpoch_causes (hm : (old, new, cause) ∈ s.switch) (hn : new < 2) (hon : s.pageOn (pageCtl new)) (hh : s.tokenHeld = true) :
    s.switchEpoch.cause pageArb 0 = true ∧ s.switchEpoch.cause (pageCtl new) 1 = true := by
  obtain ⟨v, x, hv, hx, -⟩ := s.epochLinks.epochPhase_keeps
  obtain ⟨harb, hctl⟩ := s.epochStart.reportMoves_causes hm hn ((s.epochStart_keeps.pwr _ (by decide)).trans hon)
  have hl := s.epochLinks_keeps.trans (hv.mono (by decide))
  have hend := hx.endSwitchover (a := s.active)
  rw [State.switchEpoch_eq (List.ne_nil_of_mem hm) hh]
  exact ⟨hend.causes (by decide) _ _ (by decide) (hl.causes (by decide) _ _ (by decide) harb),
    hend.causes (by decide) _ _ (basePage_pageCtl hn) (hl.causes (by decide) _ _ (basePage_pageCtl hn) hctl)⟩

/-- The switch epoch ends the Last resort phase (R19). -/
theorem State.switchEpoch_phase (hs : s.switch ≠ []) (hh : s.tokenHeld = true) (hp : s.phase = .lastResort) :
    s.switchEpoch.phase = s.phaseAfterLastResort := by
  obtain ⟨v, x, hv, hx, hlast⟩ := s.epochLinks.epochPhase_keeps
  have hosc : s.epochLinks.flag pageRind R.RIND.RIND_CLK_STAT_OSC_OK = s.flag pageRind R.RIND.RIND_CLK_STAT_OSC_OK :=
    (s.epochLinks_start.flag _ (by decide) (by decide) (by decide)).trans (s.epochStart_keeps.flag _ (by decide) (by decide) (by decide))
  have hx' : x = s.phaseAfterLastResort := by
    rw [hlast (s.epochLinks_start.phase.trans hp), State.phaseAfterLastResort, hosc, State.phaseAfterLastResort]
  rw [State.switchEpoch_eq hs hh]
  exact hx.endSwitchover.phase.trans hx'

/-- From the next epoch of the leading TCU on, the switch epoch and the trunk figures. -/
theorem State.atSwitchEpoch_keeps (hs : s.switch ≠ []) : State.KeepsBase [] (s.toEpoch s.lead).switchEpoch s.atSwitchEpoch := by
  unfold State.atSwitchEpoch
  rw [if_neg hs]
  exact (State.KeepsBase.refl _).each fun _ _ _ h => h.showNt

/-- The time up to the epoch moves nothing of the base but `up`. -/
theorem State.toEpoch_keeps (s : State) (t : Nat) : ∃ n, State.KeepsBase [] { s with up := n } (s.toEpoch t) := ⟨_, State.KeepsBase.advance s _⟩

end

theorem runs_switchEpoch {s : State} {old : Option Nat} {new cause : Nat} (hm : (old, new, cause) ∈ s.switch) (hn : new < 2)
    (hon : s.pageOn (pageCtl new)) (hh : s.tokenHeld = true) :
    Runs .switchEpoch s (fun u => u.switch = [] ∧ u.rd pageRind R.RIND.RIND_CLK_STAT_SDS_REF_SRC = 1 + s.active ∧ u.active = s.active ∧
      u.cause pageArb 0 = true ∧ u.cause (pageCtl new) 1 = true) := by
  obtain ⟨n, he⟩ := s.toEpoch_keeps s.lead
  have hk := (State.atSwitchEpoch_keeps (List.ne_nil_of_mem hm)).settle
  generalize s.toEpoch s.lead = v at *
  have hact : v.active = s.active := he.active (by decide)
  have hheld : v.tokenHeld = true := (he.tokenHeld (by decide)).trans hh
  have hm' : (old, new, cause) ∈ v.switch := he.switch ▸ hm
  obtain ⟨hsw, hsrc, ha⟩ := State.switchEpoch_shows (List.ne_nil_of_mem hm') hheld
  obtain ⟨harb, hctl⟩ := State.switchEpoch_causes hm' hn ((he.pwr _ (by decide)).trans hon) hheld
  exact runs_done rfl ⟨hk.switch.trans hsw, (hk.rd _ (by decide) (by decide) (by decide)).trans (hact ▸ hsrc),
    (hk.active (by decide)).trans (ha.trans hact), hk.causes (by decide) _ _ (by decide) harb,
    hk.causes (by decide) _ _ (basePage_pageCtl hn) hctl⟩

theorem runs_lastResortExit {s : State} (hs : s.switch ≠ []) (hh : s.tokenHeld = true) (hp : s.phase = .lastResort) :
    Runs .lastResortExit s (fun u => u.phase = (if s.flag pageRind R.RIND.RIND_CLK_STAT_OSC_OK = true then .running else .oscLost) ∧
      u.switch = [] ∧ u.rd pageRind R.RIND.RIND_CLK_STAT_SDS_REF_SRC = 1 + s.active) := by
  obtain ⟨n, he⟩ := s.toEpoch_keeps s.lead
  have hk := (State.atSwitchEpoch_keeps hs).settle
  generalize s.toEpoch s.lead = v at *
  have hact : v.active = s.active := he.active (by decide)
  have hheld : v.tokenHeld = true := (he.tokenHeld (by decide)).trans hh
  have hs' : v.switch ≠ [] := fun h => hs (he.switch.symm.trans h)
  have hosc : v.flag pageRind R.RIND.RIND_CLK_STAT_OSC_OK = s.flag pageRind R.RIND.RIND_CLK_STAT_OSC_OK :=
    he.flag _ (by decide) (by decide) (by decide)
  obtain ⟨hsw, hsrc, -⟩ := State.switchEpoch_shows hs' hheld
  have hph := State.switchEpoch_phase hs' hheld (he.phase.trans hp)
  refine runs_done (congrArg done (if_pos ⟨hp, hh⟩)) ⟨hk.phase.trans (hph.trans ?_), hk.switch.trans hsw,
    (hk.rd _ (by decide) (by decide) (by decide)).trans (hact ▸ hsrc)⟩
  rw [State.phaseAfterLastResort, hosc]

/-- Settles O5: a move of the token sets the holder, its state and the counts, which nothing after it in the step writes; the epoch clears
the moves that wait and writes the SerDes reference, and only what it reports, the links and the phase change after that. -/
theorem theTokenMovesAndTheSwitchEpochFollows : Obligations.TheTokenMovesAndTheSwitchEpochFollows :=
  ⟨fun _ _ hh hp hr hst => runs_firstTokenGrant hh hp hr hst,
    fun _ _ hq hh hst hon => runs_tcuSwitchover hq hh hst hon,
    fun _ _ hhome hrev hon hh ha hst => runs_revertHoldoffExpiry hhome hrev hon hh ha hst,
    fun _ _ ht hh hst => runs_standbyReadyAfterAbandon ht hh hst,
    fun _ _ _ _ hm hn hon hh => runs_switchEpoch hm hn hon hh,
    fun _ hs hh hp => runs_lastResortExit hs hh hp⟩

end Sys2Proof.Machine
end

section
/-! SUPPORT. Broadcasts to the attached contexts and the oscillator (R15, R16, R17, R49). -/

open Sys2Proof Sys2Proof.Machine
namespace Sys2Proof.Machine

/-- A fold keeps what each of its steps keeps. -/
theorem State.foldl_inv {β : Type} {P : State → Prop} {s : State} {l : List β} {f : State → β → State} (h : P s)
    (hf : ∀ a, ∀ b ∈ l, P a → P (f a b)) : P (l.foldl f s) := by
  induction l generalizing s with
  | nil => exact h
  | cons b l ih => exact ih (hf s b (by simp) h) fun a c hc => hf a c (by simp [hc])

/-! ### A broadcast reaches every attached context (R49) -/

section
variable (s : State) {b c : Nat}

theorem State.attached_bcastTo (d : Nat) : (s.bcastTo d b).attached c = s.attached c := by
  unfold State.attached State.flag
  rw [State.rd_bcastTo _ _ _ _ _ (by decide)]

/-- A context that is told has the cause. -/
theorem State.bcastSet_bcastTo (hb : b < 8) : (s.bcastTo c b).bcastSet c b = true := by
  unfold State.bcastSet State.bcastTo bitAt
  rw [State.rd_wr_same, show R.HC.BCAST_CAUSE.w = 8 from rfl, Nat.testBit_mod_two_pow, Nat.testBit_or, Nat.testBit_two_pow_self]
  simp [hb]

/-- A cause of R49 stays while others are told. -/
theorem State.bcastSet_bcastTo_keep (hb : b < 8) (d : Nat) (h : s.bcastSet c b = true) : (s.bcastTo d b).bcastSet c b = true := by
  by_cases hd : d = c
  · subst hd
    exact s.bcastSet_bcastTo hb
  · have hp : pageHC d ≠ pageHC c := by simp only [pageHC]; omega
    unfold State.bcastSet State.bcastTo
    rw [State.rd_wr_page _ _ _ _ (by decide) (by decide) hp]
    exact h

/-- One context of a broadcast. -/
def State.bcastStep (d b : Nat) : State := if s.attached d then s.bcastTo d b else s

theorem State.attached_bcastStep (d : Nat) : (s.bcastStep d b).attached c = s.attached c := by
  unfold State.bcastStep
  split
  · exact s.attached_bcastTo d
  · rfl

/-- Every attached context among those told has the cause. -/
theorem State.bcastSet_foldl {l : List Nat} (hb : b < 8) (hc : c ∈ l) (ha : s.attached c = true) :
    (l.foldl (fun a d => a.bcastStep d b) s).bcastSet c b = true := by
  induction l generalizing s with
  | nil => cases hc
  | cons d l ih =>
    rw [List.foldl_cons]
    rcases List.mem_cons.1 hc with rfl | hc
    · refine State.foldl_inv (P := fun a => a.bcastSet c b = true) ?_ fun a d _ h => ?_
      · rw [State.bcastStep, if_pos ha]
        exact s.bcastSet_bcastTo hb
      · unfold State.bcastStep
        split
        · exact a.bcastSet_bcastTo_keep hb d h
        · exact h
    · exact ih _ hc (by rwa [State.attached_bcastStep])

/-- Every attached context has the cause after the broadcast. -/
theorem State.bcastSet_bcast (hb : b < 8) (hc : c < 4) (ha : s.attached c = true) : (s.bcast b).bcastSet c b = true :=
  s.bcastSet_foldl hb (List.mem_range.2 hc) ha

end

/-! ### OSC_FAIL (R16, R17) -/

section
variable (s : State)

/-- The register that shows OSC_FAIL. -/
def failShown : List Nat := [R.RIND.RIND_CLK_STAT_OSC_FAIL.place 0]

theorem State.oscFail_keeps : State.KeepsBase failShown s s.oscFail := ((State.KeepsBase.refl s).wrAt (by decide)).bcast

/-- OSC_FAIL is raised on the page and to every attached context. -/
theorem State.oscFail_shows : s.oscFail.flag pageRind R.RIND.RIND_CLK_STAT_OSC_FAIL = true ∧
    ∀ c, c < 4 → s.attached c = true → s.oscFail.bcastSet c 0 = true := by
  have hb (a : State) : State.KeepsBase [] a (a.bcast bOscFail) := (State.KeepsBase.refl a).bcast
  refine ⟨?_, fun c hc ha => ?_⟩
  · rw [State.oscFail, (hb _).flag _ (by decide) (by decide) (by decide), State.flag, State.rd_wr_same]
    rfl
  · refine State.bcastSet_bcast _ (by decide) hc ?_
    rw [State.attached, State.flag, State.rd_wr_place _ _ _ _ _ _ (by decide)]
    exact ha

end

/-! ### The phases of the oscillator (R15) -/

section
variable (s : State)

/-- The phase set is shown (R15). -/
theorem State.setPhase_running : (s.setPhase .running).rd pageRind R.RIND.RIND_CLK_STAT_PHASE = 1 := by
  have hv (a : State) : State.KeepsBase [R.RIND.RIND_CLK_STAT_TIME_VALID.place 0] a a.refreshValid := (State.KeepsBase.refl a).refreshValid (by decide)
  unfold State.setPhase
  dsimp only
  exact ((hv _).rd _ (by decide) (by decide) (by decide)).trans (State.rd_wr_same _ _ _ _)

/-- What a qualified OSC_IN shows: it is good, and the Rind and the core run from it. -/
def State.oscShown : State :=
  ((s.wr pageRind R.RIND.RIND_CLK_STAT_OSC_OK 1).wr pageRind R.RIND.RIND_CLK_STAT_RIND_SRC 1).wr pageRind R.RIND.RIND_CLK_STAT_CORE_LOCK 1

theorem State.oscShown_shows : s.oscShown.flag pageRind R.RIND.RIND_CLK_STAT_OSC_OK = true ∧ s.oscShown.rd pageRind R.RIND.RIND_CLK_STAT_RIND_SRC = 1 ∧
    s.oscShown.flag pageRind R.RIND.RIND_CLK_STAT_CORE_LOCK = true := by
  unfold State.oscShown State.flag
  refine ⟨?_, ?_, ?_⟩
  · rw [State.rd_wr_place _ _ _ _ _ _ (by decide), State.rd_wr_place _ _ _ _ _ _ (by decide), State.rd_wr_same]
    rfl
  · rw [State.rd_wr_place _ _ _ _ _ _ (by decide), State.rd_wr_same]
    rfl
  · rw [State.rd_wr_same]
    rfl

end

/-- OSC_IN is qualified where the device waits for it or has lost it: the Running phase (R15, R16). -/
theorem runs_oscQualify {s : State} (hp : s.phase = .oscWait ∨ s.phase = .oscLost) (ho : s.straps.oscNom ≠ 3) :
    Runs .oscQualify s (fun u => u.phase = .running ∧ u.flag pageRind R.RIND.RIND_CLK_STAT_OSC_OK = true ∧
      u.rd pageRind R.RIND.RIND_CLK_STAT_RIND_SRC = 1 ∧ u.flag pageRind R.RIND.RIND_CLK_STAT_CORE_LOCK = true ∧
      u.rd pageRind R.RIND.RIND_CLK_STAT_PHASE = 1) := by
  have hexec : s.oscQualify = if s.phase == .oscLost then (s.oscShown.setPhase .running).thaw else s.oscShown.setPhase .running := by
    have h1 : ¬ (s.phase = .reset ∨ s.phase = .running ∨ s.straps.oscNom = 3) := by obtain h | h := hp <;> simp [h, ho]
    have h2 : ¬ s.oscShown.phase = .lastResort := by change ¬ s.phase = .lastResort; obtain h | h := hp <;> simp [h]
    unfold State.oscQualify
    rw [if_neg h1]
    exact if_neg h2
  have hk : State.KeepsBase [] (s.oscShown.setPhase .running) s.oscQualify.settle := by
    rw [hexec]
    exact (State.KeepsBase.ite (State.KeepsBase.refl _).thaw (.refl _)).settle
  have hset := (State.KeepsBase.setPhase s.oscShown .running).trans (hk.mono (by decide))
  obtain ⟨hok, hsrc, hcore⟩ := s.oscShown_shows
  exact runs_done rfl ⟨hset.phase, (hset.flag _ (by decide) (by decide) (by decide)).trans hok,
    (hset.rd _ (by decide) (by decide) (by decide)).trans hsrc, (hset.flag _ (by decide) (by decide) (by decide)).trans hcore,
    (hk.rd _ (by decide) (by decide) (by decide)).trans s.oscShown.setPhase_running⟩

/-- In the Last resort phase the qualification of OSC_IN is shown, and the phase goes on (R17). -/
theorem runs_oscQualify_lastResort {s : State} (hp : s.phase = .lastResort) (ho : s.straps.oscNom ≠ 3) :
    Runs .oscQualify s (fun u => u.phase = .lastResort ∧ u.flag pageRind R.RIND.RIND_CLK_STAT_OSC_OK = true ∧
      u.rd pageRind R.RIND.RIND_CLK_STAT_RIND_SRC = 1) := by
  have hexec : s.oscQualify = s.oscShown := by
    unfold State.oscQualify
    rw [if_neg (by simp [hp, ho])]
    exact if_pos hp
  obtain ⟨hok, hsrc, -⟩ := s.oscShown_shows
  have hk : State.KeepsBase [] s.oscShown s.oscQualify.settle := hexec ▸ (State.KeepsBase.refl _).settle
  exact runs_done rfl ⟨hk.phase.trans hp, (hk.flag _ (by decide) (by decide) (by decide)).trans hok,
    (hk.rd _ (by decide) (by decide) (by decide)).trans hsrc⟩

@[simp] theorem State.bcastSet_settle (s : State) (c b : Nat) : s.settle.bcastSet c b = s.bcastSet c b := by
  unfold State.bcastSet
  rw [State.rd_settle]

/-- OSC_IN is not qualified 5 ms after release (R16). -/
theorem runs_oscWaitTimeout {s : State} (hp : s.phase = .oscWait) :
    Runs .oscWaitTimeout s (fun u => u.phase = .oscWait ∧ u.flag pageRind R.RIND.RIND_CLK_STAT_OSC_FAIL = true ∧
      ∀ c, c < 4 → s.attached c = true → u.bcastSet c 0 = true) := by
  obtain ⟨hfail, hset⟩ := s.oscFail_shows
  refine runs_done (congrArg done (if_pos hp)) ⟨s.oscFail_keeps.settle.phase.trans hp, ?_, fun c hc ha => ?_⟩
  · rw [State.flag_settle, hfail]
  · rw [State.bcastSet_settle, hset c hc ha]

/-- OSC_IN is disqualified: it is good no more, and the Rind runs from the internal oscillator (R16, R17). -/
def State.oscGone (s : State) : State := (s.wr pageRind R.RIND.RIND_CLK_STAT_OSC_OK 0).wr pageRind R.RIND.RIND_CLK_STAT_RIND_SRC 0

theorem State.oscGone_shows (s : State) : s.oscGone.flag pageRind R.RIND.RIND_CLK_STAT_OSC_OK = false ∧
    s.oscGone.rd pageRind R.RIND.RIND_CLK_STAT_RIND_SRC = 0 := by
  unfold State.oscGone State.flag
  refine ⟨?_, ?_⟩
  · rw [State.rd_wr_place _ _ _ _ _ _ (by decide), State.rd_wr_same]
    rfl
  · rw [State.rd_wr_same]
    rfl

theorem State.attached_oscGone (s : State) (c : Nat) : s.oscGone.attached c = s.attached c := by
  have hp : pageRind ≠ pageHC c := by simp only [pageRind, pageHC]; omega
  unfold State.oscGone State.attached State.flag
  rw [State.rd_wr_page _ _ _ _ (by decide) (by decide) hp, State.rd_wr_page _ _ _ _ (by decide) (by decide) hp]

theorem State.oscDisqualify_eq {s : State} (h : s.phase = .running ∨ (s.phase = .lastResort ∧ s.flag pageRind R.RIND.RIND_CLK_STAT_OSC_OK)) :
    s.oscDisqualify = (if s.phase = .running then s.oscGone.oscLoss else s.oscGone).oscFail := by
  unfold State.oscDisqualify
  rw [if_neg (not_not.2 h)]
  rfl

/-- In the Last resort phase OSC_IN falls out, and the phase goes on (log entry 88). -/
theorem runs_oscDisqualify_lastResort {s : State} (hp : s.phase = .lastResort) (hok : s.flag pageRind R.RIND.RIND_CLK_STAT_OSC_OK = true) :
    Runs .oscDisqualify s (fun u => u.phase = .lastResort ∧ u.flag pageRind R.RIND.RIND_CLK_STAT_OSC_OK = false ∧
      u.rd pageRind R.RIND.RIND_CLK_STAT_RIND_SRC = 0 ∧ u.flag pageRind R.RIND.RIND_CLK_STAT_OSC_FAIL = true ∧
      ∀ c, c < 4 → s.attached c = true → u.bcastSet c 0 = true) := by
  have hexec : s.oscDisqualify = s.oscGone.oscFail := by rw [State.oscDisqualify_eq (.inr ⟨hp, hok⟩), if_neg (by simp [hp])]
  obtain ⟨hgone, hsrc⟩ := s.oscGone_shows
  obtain ⟨hfail, hset⟩ := s.oscGone.oscFail_shows
  have hk := s.oscGone.oscFail_keeps
  refine runs_done (congrArg done hexec) ⟨hk.settle.phase.trans hp, (hk.settle.flag _ (by decide) (by decide) (by decide)).trans hgone,
    (hk.settle.rd _ (by decide) (by decide) (by decide)).trans hsrc, ?_, fun c hc ha => ?_⟩
  · rw [State.flag_settle, hfail]
  · rw [State.bcastSet_settle, hset c hc (by rwa [State.attached_oscGone])]

end Sys2Proof.Machine
end

section
/-! SUPPORT. The loss of OSC_IN while Running (R15, R17). -/

open Sys2Proof Sys2Proof.Machine
namespace Sys2Proof.Machine

/-! ### What a change of the phase keeps -/

section
variable {P : State → Prop} {s : State}

theorem State.bcast_inv {b : Nat} (h : P s) (hb : ∀ a c, P a → P (a.bcastTo c b)) : P (s.bcast b) := by
  unfold State.bcast State.each
  refine State.foldl_inv h fun a c _ ha => ?_
  dsimp only
  split
  · exact hb a c ha
  · exact ha

theorem State.quietOuts_inv {g : Nat → Nat → Bool} (h : P s) (hq : ∀ a t n, P a → P (a.onOutp t n (fun o => { o with started := false }))) :
    P (s.quietOuts g) := by
  unfold State.quietOuts State.each
  refine State.foldl_inv h fun a t _ ha => State.foldl_inv ha fun b n _ hb => ?_
  dsimp only
  split
  · exact hq b t n hb
  · exact hb

/-- A change of the phase quiets outputs, writes RIND and tells the contexts of TIME_VALID. -/
theorem State.setPhase_inv {x : Phase} (h : P { s with phase := x })
    (hq : ∀ a t n, P a → P (a.onOutp t n (fun o => { o with started := false }))) (hw : ∀ a f v, f.inPage 0 = true → P a → P (a.wr pageRind f v))
    (hb : ∀ a c, P a → P (a.bcastTo c bTimeValid)) : P (s.setPhase x) := by
  have hquiet (a : State) (g : Nat → Nat → Bool) (ha : P a) : P (a.quietOuts g) := State.quietOuts_inv ha hq
  have hvalid (a : State) (v : Bool) (ha : P a) : P (a.setTimeValid v) := by
    unfold State.setTimeValid
    split
    · exact ha
    · dsimp only
      refine State.bcast_inv (hw _ _ _ (by decide) ?_) hb
      split
      · exact ha
      · exact hquiet _ _ ha
  unfold State.setPhase State.refreshValid
  dsimp only
  refine hvalid _ _ (hw _ _ _ (by decide) ?_)
  split
  · exact h
  · exact hquiet _ _ h

end

/-! ### The loss of OSC_IN -/

section
variable (s : State)

/-- TIME_VALID after it is set. -/
theorem State.timeValid_setTimeValid (v : Bool) : (s.setTimeValid v).timeValid = v := by
  unfold State.setTimeValid
  split
  next h => exact h
  next h =>
    have hb (a : State) : State.KeepsBase [] a (a.bcast bTimeValid) := (State.KeepsBase.refl a).bcast
    dsimp only
    rw [State.timeValid, (hb _).flag _ (by decide) (by decide) (by decide), State.flag, State.rd_wr_same]
    cases v <;> rfl

/-- No TCU's servo follows a reference. -/
def State.noneAcquired : Prop := ∀ t, t < 2 → (s.tcu t).acquired = false

theorem State.noneAcquired_onTcu {s : State} (h : s.noneAcquired) (t : Nat) (f : Tcu → Tcu) (hf : ∀ u, (f u).acquired = u.acquired) :
    (s.onTcu t f).noneAcquired := by
  intro v hv
  by_cases e : v = t
  · subst e
    rw [State.tcu_onTcu_same, hf, h v hv]
  · rw [State.tcu_onTcu_ne _ _ _ _ e, h v hv]

/-- The loss of OSC_IN ends what the servos follow (R15). -/
theorem State.oscLoss_noneAcquired : s.oscLoss.noneAcquired := by
  have hboth : State.noneAcquired (s.both (fun t a => a.onTcu t (fun u => { u with
      acquired := false, noTod := false, reacquire := u.acquired || u.reacquire }))) := by
    intro t ht
    unfold State.both
    obtain rfl | rfl : t = 0 ∨ t = 1 := by omega
    · rw [State.tcu_onTcu_ne _ _ _ _ (by decide), State.tcu_onTcu_same]
    · rw [State.tcu_onTcu_same]
  exact State.setPhase_inv (P := State.noneAcquired) hboth (fun a t n h => State.noneAcquired_onTcu h t _ fun _ => rfl) (fun _ _ _ _ h => h)
    (fun _ _ h => h)

/-- No context is detached by the loss of OSC_IN. -/
theorem State.attached_oscLoss {c : Nat} (h : s.attached c = true) : s.oscLoss.attached c = true := by
  have hp : pageRind ≠ pageHC c := by simp only [pageRind, pageHC]; omega
  refine State.setPhase_inv (P := fun a => a.attached c = true) h (fun _ _ _ h => h) (fun a f v hf h => ?_)
    (fun a d h => by rwa [State.attached_bcastTo])
  rw [State.attached, State.flag, State.rd_wr_page _ _ _ _ hf (by decide) hp]
  exact h

theorem State.oscLoss_timeValid : s.oscLoss.timeValid = false := by
  unfold State.oscLoss State.setPhase State.refreshValid
  rw [State.timeValid_setTimeValid]
  rfl

end

/-- While Running, the loss of OSC_IN leads to the Oscillator lost phase (R15, R17). -/
theorem runs_oscDisqualify_running {s : State} (hp : s.phase = .running) :
    Runs .oscDisqualify s (fun u => u.phase = .oscLost ∧ u.flag pageRind R.RIND.RIND_CLK_STAT_OSC_OK = false ∧ u.timeValid = false ∧
      u.flag pageRind R.RIND.RIND_CLK_STAT_OSC_FAIL = true ∧ (∀ t, t < 2 → (u.tcu t).acquired = false) ∧
      ∀ c, c < 4 → s.attached c = true → u.bcastSet c 0 = true) := by
  have hexec : s.oscDisqualify = s.oscGone.oscLoss.oscFail := by rw [State.oscDisqualify_eq (.inl hp), if_pos hp]
  have hv : ∃ v, State.KeepsBase [] s.oscGone v ∧ State.KeepsBase phaseShown { v with phase := .oscLost } s.oscGone.oscLoss :=
    ⟨_, (State.KeepsBase.refl _).both fun _ _ _ h => h.onTcu, State.KeepsBase.setPhase _ .oscLost⟩
  obtain ⟨v, hg, hloss⟩ := hv
  obtain ⟨hgone, -⟩ := s.oscGone_shows
  obtain ⟨hfail, hset⟩ := s.oscGone.oscLoss.oscFail_shows
  have hk := s.oscGone.oscLoss.oscFail_keeps
  have hacq : s.oscGone.oscLoss.oscFail.noneAcquired := State.bcast_inv (P := State.noneAcquired) s.oscGone.oscLoss_noneAcquired fun _ _ h => h
  refine runs_done (congrArg done hexec) ⟨hk.settle.phase.trans hloss.phase, ?_, ?_, ?_, fun t ht => ?_, fun c hc ha => ?_⟩
  · exact (hk.settle.flag _ (by decide) (by decide) (by decide)).trans ((hloss.flag _ (by decide) (by decide) (by decide)).trans
      ((hg.flag _ (by decide) (by decide) (by decide)).trans hgone))
  · exact (hk.settle.flag _ (by decide) (by decide) (by decide)).trans s.oscGone.oscLoss_timeValid
  · rw [State.flag_settle, hfail]
  · rw [State.tcu_settle, hacq t ht]
  · rw [State.bcastSet_settle, hset c hc (State.attached_oscLoss _ (by rwa [State.attached_oscGone]))]

end Sys2Proof.Machine
end

section
/-! SUPPORT. The end of a TCU's start-up runs (R88, R148). -/

open Sys2Proof Sys2Proof.Machine
namespace Sys2Proof.Machine

namespace State.KeepsBase
section
variable {E : List Nat} {s u : State} {t c p x y i j : Nat}

/-! ### The start-up of a channel (R88, R378) -/

theorem onTdc {f : Tdc → Tdc} (h : KeepsBase E s u) : KeepsBase E s (u.onTdc t c f) := h.onTcu

theorem takeTable {l : List Nat} (h : KeepsBase E s u) (hc : c < 24) : KeepsBase E s (u.takeTable t c l x) :=
  h.onTdc.wr (basePage_pageTdc t hc) (by decide)

theorem takeNew {r : TdcRest} (h : KeepsBase E s u) (hc : c < 24) : KeepsBase E s (u.takeNew t c r) := (h.takeTable hc).onTdc
theorem showRunning (h : KeepsBase E s u) : KeepsBase E s u.showRunning := h.wr (by simp) (by decide)
theorem runStart (h : KeepsBase E s u) : KeepsBase E s (u.runStart p) := .showRunning (h.upd rfl rfl)
theorem runEnd (h : KeepsBase E s u) : KeepsBase E s (u.runEnd p) := .showRunning (h.upd rfl rfl)

theorem runOk (h : KeepsBase E s u) : KeepsBase E s (u.runOk p) := by
  have hr {v w : Nat} : KeepsBase E s ((((u.runEnd p).wr p R.HDR.HDR_CAL_COUNT v).wr p R.HDR.HDR_CAL_LAST w).raiseHdr p hCalDone) :=
    ((h.runEnd.wrHdr (by decide)).wrHdr (by decide)).raiseHdr
  exact .ite hr.clearFault hr

theorem noteFail (h : KeepsBase E s u) : KeepsBase E s (u.noteFail p) := by
  have hn : KeepsBase E s (((u.inc pageCaldir R.CALDIR.CAL_CNT_FAIL).raise pageCaldir 0).raiseHdr p hCalDone) :=
    (h.inc (by simp) (by decide)).raise.raiseHdr
  exact .ite hn hn.setFault

theorem onCmd {k : Cmd} {f : Cmd → Cmd} (h : KeepsBase E s u) : KeepsBase E s (u.onCmd k f) := h.upd rfl rfl

theorem calRunDone {ok : Bool} (h : KeepsBase E s u) : KeepsBase E s (u.calRunDone p ok) :=
  h.foldl fun _ _ _ h => .ite h.finish (.ite h.finishSt h.onCmd)

theorem runFail (h : KeepsBase E s u) : KeepsBase E s (u.runFail p) := h.runEnd.noteFail.calRunDone
theorem showWear (h : KeepsBase E s u) : KeepsBase E s (u.showWear p x) := .ite h.setWear.setWear h.setWear

theorem wearSet {failing : Bool} (h : KeepsBase E s u) : KeepsBase E s (u.wearSet p x i j failing) := by
  have hu {m : Store Nat} : KeepsBase E s { u with wear := m } := h.upd rfl rfl
  unfold State.wearSet
  refine .ite h ?_
  dsimp only
  exact .ite hu.showWear.raiseIf.swapDue hu.showWear.raiseIf

theorem tdcRunFail (h : KeepsBase E s u) : KeepsBase E s (u.tdcRunFail p) := h.runFail.foldl fun _ _ _ h => .ite h h.wearSet

theorem tdcStartUp {hist : List Nat} {res : Int} (h : KeepsBase E s u) (hc : c < 24) : KeepsBase E s (u.tdcStartUp t c hist res) := by
  have hp := basePage_pageTdc t hc
  unfold State.tdcStartUp
  dsimp only
  split
  · exact ((h.wr hp (by decide)).takeTable hc).onTdc.wr (by simp) (by decide)
  · have hr {f : Tdc → Tdc} : KeepsBase E s (((u.wr (pageTdc t c) R.TDC.TDC_STAT_CAL_RUNNING 0).runStart (pageTdc t c)).onTdc t c f) :=
      (h.wr hp (by decide)).runStart.onTdc
    exact (KeepsBase.ite (hr.takeNew hc).runOk hr.tdcRunFail).restMiss

end
end State.KeepsBase

/-! ### The time of the runs -/

/-- The state at another device time. -/
def State.atTime (s : State) (n : Nat) : State := { s with up := n }

section
variable {E : List Nat} {s u : State}

theorem State.KeepsBase.atTime (h : State.KeepsBase E s u) (n : Nat) : State.KeepsBase E (s.atTime n) (u.atTime n) :=
  ⟨h.regs, h.causes, congrArg (fun b : Base => { b with up := n }) h.rest⟩

/-- Time that passes after another change of the time alone. -/
theorem State.KeepsBase.advanceAt {n : Nat} (h : State.KeepsBase E (s.atTime n) u) (d : Nat) :
    ∃ m, State.KeepsBase E (s.atTime m) (u.advance d) :=
  ⟨u.up + d, (show State.KeepsBase E (s.atTime (u.up + d)) (u.atTime (u.up + d)) from h.atTime (u.up + d)).trans (State.KeepsBase.advance u d)⟩

/-- Only the time moves on to the end of the runs. -/
theorem State.toRunsEnd_keeps (s : State) (t : Nat) : ∃ n, State.KeepsBase [] (s.atTime n) (s.toRunsEnd t) := by
  have hs : State.KeepsBase [] (s.atTime s.up) s := ⟨fun _ _ _ _ _ _ => rfl, fun _ _ _ _ h => h, rfl⟩
  unfold State.toRunsEnd
  cases (s.tcu t).lockAt with
  | none =>
    dsimp only
    split
    · exact hs.advanceAt _
    · exact ⟨_, hs⟩
  | some a =>
    obtain ⟨n, hn⟩ := hs.advanceAt (a + 50000 - s.up)
    dsimp only
    split
    · exact hn.advanceAt _
    · exact ⟨n, hn⟩

end

/-! ### A ready TCU stays ready when it resynchronises or takes the token -/

/-- TCU `t` is ready. -/
def State.isReady (s : State) (t : Nat) : Prop := (s.tcu t).ready = true

namespace State.isReady
section
variable {s u : State} {t v x p : Nat}

theorem congr (h : s.isReady t) (hc : u.tcus = s.tcus) : u.isReady t := by
  unfold State.isReady State.tcu at *
  rwa [hc]

theorem onTcu {f : Tcu → Tcu} (h : s.isReady t) (hf : ∀ w, (f w).ready = w.ready) : (s.onTcu v f).isReady t := by
  unfold State.isReady at *
  by_cases e : t = v
  · subst e
    rw [State.tcu_onTcu_same, hf, h]
  · rw [State.tcu_onTcu_ne _ _ _ _ e, h]

end
end State.isReady

section
variable (s : State) (t x : Nat)

@[simp] theorem State.setTcuState_tcus : (s.setTcuState t x).tcus = s.tcus := by
  unfold State.setTcuState
  dsimp only
  (repeat' split) <;> simp

theorem State.claims_tcus : s.showClaims.showLockstep.revertCheck.tcus = s.tcus := by
  unfold State.revertCheck
  dsimp only
  split <;> rfl

@[simp] theorem State.cplStore_tcus (c i : Nat) (ws : List Nat) : (s.cplStore c i ws).tcus = s.tcus := by
  unfold State.cplStore
  split
  · rfl
  · exact State.each_keeps State.tcus _ _ _ fun _ _ => rfl

@[simp] theorem State.cplFlush_tcus (c : Nat) (es : List Cpl) : (s.cplFlush c es).tcus = s.tcus := by
  induction es generalizing s with
  | nil => rfl
  | cons e es ih =>
    unfold State.cplFlush
    split
    · simp [ih, State.cplWrite]
    · rfl

@[simp] theorem State.cplPost_tcus (c : Nat) (e : Cpl) : (s.cplPost c e).tcus = s.tcus := by
  unfold State.cplPost State.cplPump
  split
  · rfl
  · dsimp only
    split <;> simp

@[simp] theorem State.finishSt_tcus (k : Cmd) (status : Nat) : (s.finishSt k status).tcus = s.tcus := by
  simp only [State.finishSt, State.finish, State.cplPost_tcus]
  unfold State.endSlot State.setSlot
  (repeat' split) <;> rfl

@[simp] theorem State.switchoverMoved_tcus (new cause : Nat) : (s.switchoverMoved new cause).tcus = s.tcus := by
  unfold State.switchoverMoved
  (repeat' split) <;> simp

@[simp] theorem State.oldSteps_tcus (old : Option Nat) (new : Nat) : (s.oldSteps old new).tcus = s.tcus := by
  unfold State.oldSteps
  (repeat' split) <;> simp

end

section
variable {s : State} {t v : Nat}

theorem State.isReady.wr {p : Nat} {f : Fld} {x : Nat} (h : s.isReady t) : (s.wr p f x).isReady t := h
theorem State.isReady.setTcuState {x : Nat} (h : s.isReady t) : (s.setTcuState v x).isReady t := h.congr (s.setTcuState_tcus v x)
theorem State.isReady.showLinks (h : s.isReady t) : s.showLinks.isReady t := h.congr rfl
theorem State.isReady.claims (h : s.isReady t) : s.showClaims.showLockstep.revertCheck.isReady t := h.congr s.claims_tcus

theorem State.isReady.beginResync (h : s.isReady t) (w : Bool) : (s.beginResync v w).isReady t := by
  unfold State.beginResync
  exact (State.isReady.onTcu (h.setTcuState.wr) (by intro; rfl)).showLinks.claims

theorem State.isReady.changeHolder {old : Option Nat} (h : s.isReady t) (cause : Nat) : (s.changeHolder old v cause).isReady t := by
  have ho : ((s.showHolder v cause).oldSteps old v).isReady t := State.isReady.congr h.wr.wr.wr (State.oldSteps_tcus _ _ _)
  unfold State.changeHolder
  exact State.isReady.onTcu ho.setTcuState (by intro; rfl)

theorem State.isReady.countMove (h : s.isReady t) (cause : Nat) : (s.countMove v cause).isReady t :=
  State.isReady.wr (State.isReady.wr (h.congr (s.switchoverMoved_tcus v cause)))

theorem State.isReady.moveToken (h : s.isReady t) (cause : Nat) : (s.moveToken v cause).isReady t := by
  have hm := (h.changeHolder (old := s.holder) (v := v) cause).countMove (v := v) cause
  rw [State.moveToken_eq]
  generalize (s.changeHolder s.holder v cause).countMove v cause = a at *
  exact State.isReady.claims (State.isReady.congr hm rfl)

theorem State.isReady.takeToken (h : s.isReady t) : (s.takeToken v).isReady t := by
  have hm := h.moveToken (v := v) (if s.phase = .lastResort then tcExit else tcFirst)
  unfold State.takeToken
  dsimp only
  generalize s.moveToken v (if s.phase = .lastResort then tcExit else tcFirst) = a at *
  split
  · exact hm.beginResync false
  · exact hm

end

/-! ### A TCU is ready (R148) -/

/-- The registers of a TCU's firmware. -/
def firmShown : List Nat := [R.CTL.TCU_FW_VER_VER.place 0, R.CTL.TCU_FW_VER_FMT.place 0, R.CTL.TCU_FW_VER_BANK.place 0]

/-- A TCU's runs end: the channels have their tables, and its firmware runs. -/
def State.runsEnded (s : State) (t : Nat) (hists : List (List Nat)) (res : List Int) : State :=
  (((s.toRunsEnd t).each 24 (fun c a => a.tdcStartUp t c (hists.getD c []) (res.getD c 0))).onTcu t
    (fun u => { u with ready := true, runsHeld := false })).showFirm t

theorem State.runsEnded_keeps (s : State) (t : Nat) (hists : List (List Nat)) (res : List Int) :
    ∃ n, State.KeepsBase firmShown (s.atTime n) (s.runsEnded t hists res) := by
  obtain ⟨n, hn⟩ := s.toRunsEnd_keeps t
  have hall : State.KeepsBase firmShown (s.atTime n) ((s.toRunsEnd t).each 24 (fun c a => a.tdcStartUp t c (hists.getD c []) (res.getD c 0))) :=
    hn.widen.each fun _ _ hc h => h.tdcStartUp hc
  exact ⟨n, ((hall.onTcu.wrAt (by decide)).wrAt (by decide)).wrAt (by decide)⟩

theorem State.isReady_runsEnded (s : State) (t : Nat) (hists : List (List Nat)) (res : List Int) : (s.runsEnded t hists res).isReady t := by
  unfold State.runsEnded
  generalize (s.toRunsEnd t).each 24 (fun c a => a.tdcStartUp t c (hists.getD c []) (res.getD c 0)) = a
  have ha : State.isReady (a.onTcu t (fun u => { u with ready := true, runsHeld := false })) t := by rw [State.isReady, State.tcu_onTcu_same]
  exact ha.wr.wr.wr

theorem runs_tcuReady {s : State} {t : Nat} (hists : List (List Nat)) (lats : List Int) (ht : t < 2) (hst : s.starting t = true)
    (hclk : (s.tcu t).clk = true) (hr : (s.tcu t).ready = false) (hw : s.runsWait t = false) :
    Runs (.tcuReady t hists lats) s (fun u => (u.tcu t).ready = true ∧
      (if s.tokenHeld = true then u.tcuState t = tsSyncing
       else if s.phase = .lastResort then u.tokenHeld = true ∧ u.active = t ∧ u.tcuState t = tsActive
       else u.tcuState t = tsStarting)) := by
  have hexec : s.tcuReady (t % 2) hists lats = (if (s.runsEnded t hists lats).tokenHeld then (s.runsEnded t hists lats).beginResync t false
      else if (s.runsEnded t hists lats).phase = .lastResort then (s.runsEnded t hists lats).takeToken t else s.runsEnded t hists lats) := by
    rw [Nat.mod_eq_of_lt ht]
    exact if_neg (by simp [hst, hclk, hr, hw])
  obtain ⟨n, hk⟩ := s.runsEnded_keeps t hists lats
  have hready := s.isReady_runsEnded t hists lats
  refine runs_done (congrArg done hexec) ?_
  generalize s.runsEnded t hists lats = v at *
  have hheld : v.tokenHeld = s.tokenHeld := hk.tokenHeld (by decide)
  have hstate : v.tcuState t = tsStarting := (hk.tcuState ht (by decide)).trans (eq_of_beq hst)
  have hphase : v.phase = s.phase := hk.phase
  rw [hheld, hphase]
  simp only [State.tcu_settle, State.tcuState_settle, State.tokenHeld_settle, State.active_settle]
  by_cases hh : s.tokenHeld = true
  · rw [if_pos hh, if_pos hh]
    exact ⟨hready.beginResync false, v.tcuState_beginResync_self false ht⟩
  · rw [if_neg hh, if_neg hh]
    by_cases hp : s.phase = .lastResort
    · rw [if_pos hp, if_pos hp]
      obtain ⟨hheld', hact, hs, -⟩ := v.takeToken_shows ht
      exact ⟨hready.takeToken, hheld', hact, hs⟩
    · rw [if_neg hp, if_neg hp]
      exact ⟨hready, hstate⟩

end Sys2Proof.Machine
end

section
/-! SUPPORT. The release of reset (R42, R397, R401). -/

open Sys2Proof Sys2Proof.Machine
namespace Sys2Proof.Machine

/-! ### The steps of a release -/

/-- The straps are latched, the sensor readings are at their reset values, and the wipe begins. -/
def State.relStart (s : State) (hcMap oscNom leadSel bootSrc : Nat) : State :=
  { ({ s with straps := ⟨hcMap % 4, oscNom % 4, leadSel % 2, bootSrc % 4⟩, regs := s.regs.filter (fun e => !sensorKey e.1) } : State) with
    phase := .oscWait, wiping := true, porstLow := false, hot := 0, releasedAt := s.up }

/-- OTP and a nonce are shown. -/
def State.relNonce (s : State) : State :=
  ((State.showOtp { s with resetCauses := 0 }).wr pageLc R.LC.LC_NONCE (Config.nonce s.free)).bump

/-- The leading TCU and the boot source are shown. -/
def State.relLead (s : State) : State :=
  ((s.wr pageArb R.ARB.ARB_STAT_LEAD_SEL s.straps.leadSel).wr pageBoot R.BOOT.BOOT_STAT_SRC s.straps.bootSrc).both
    (fun t a => a.wr (pageCtl t) R.CTL.TCU_RED_CTL_HOME a.straps.leadSel)

/-- One context's attachment. -/
def State.relAttach (s : State) (c : Nat) : State :=
  let p := pageHC c
  let a := (s.wr p R.HC.CTX_STAT_PORT (s.kind c)).wr p R.HC.CTX_STAT_ATTACHED (b2n (s.kind c != kPcie))
  a.wr p R.HC.CTX_CTL_INT_PIN (b2n (a.kind c == kSpi))

/-- The domains that come on at release. -/
def State.relOn (s : State) : List Nat := domains.filter (fun d => !s.bootOff d)

/-- The domains of `on` switch on. -/
def State.relDomains (s : State) (on : List Nat) : State :=
  on.foldl (fun a d => a.setPwr d 1)
    { s.setPwr 0 2 with onAtReset := on.foldl (fun m d => m + 2 ^ d) 0, outsAt := some (s.outsAt.getD (s.up + 10000)) }

/-- Every context is attached or not. -/
def State.relContexts (s : State) : State := s.each 4 (fun c a => a.relAttach c)

theorem State.release_eq (s : State) (hcMap oscNom leadSel bootSrc : Nat) : s.release hcMap oscNom leadSel bootSrc =
    (s.relStart hcMap oscNom leadSel bootSrc).recordCauses.relNonce.relLead.relContexts.relDomains
      (s.relStart hcMap oscNom leadSel bootSrc).recordCauses.relNonce.relLead.relContexts.relOn := rfl

/-! ### What the steps leave -/

/-- What a release sets that is no register: the phase, the wipe, the straps and the life-cycle state. -/
def State.relSet (s : State) : Phase × Bool × Straps × Nat := (s.phase, s.wiping, s.straps, s.lifeCycle)

section
variable {P : State → Prop} {s : State}

/-- OTP is shown on its own page. -/
theorem State.showOtp_inv (h : P s) (hw : ∀ a f i v, f.inPage i = true → P a → P (a.wrI pageLc f i v)) : P s.showOtp := by
  have h4 := hw _ R.LC.LC_SERIAL_HI 0 (s.serial / 2 ^ 32) (by decide) (hw _ R.LC.LC_SERIAL_LO 0 (s.serial % 2 ^ 32) (by decide)
    (hw _ R.LC.LC_STAT_KEY_SET 0 (b2n (s.keyHash != [])) (by decide) (hw _ R.LC.LC_STAT_STATE 0 s.lifeCycle (by decide) h)))
  unfold State.showOtp
  dsimp only
  split
  · exact h4
  · exact State.foldl_inv h4 fun a i hi ha => hw a _ i _ (Fld.inPage_of_le (n := 7) (by have := List.mem_range.1 hi; omega) (by decide)) ha

theorem State.relNonce_inv (h : P { s with resetCauses := 0 }) (hb : ∀ a, P a → P a.bump)
    (hw : ∀ a f i v, f.inPage i = true → P a → P (a.wrI pageLc f i v)) : P s.relNonce :=
  hb _ (hw _ _ _ _ (by decide) (State.showOtp_inv h hw))

/-- The leading TCU and the boot source are shown on pages other than RIND. -/
theorem State.relLead_inv (h : P s) (hw : ∀ a p f v, p ≠ pageRind → f.inPage 0 = true → P a → P (a.wr p f v)) : P s.relLead :=
  hw _ _ _ _ (by decide) (by decide) (hw _ _ _ _ (by decide) (by decide) (hw _ _ _ _ (by decide) (by decide)
    (hw _ _ _ _ (by decide) (by decide) h)))

theorem State.relContexts_inv (h : P s) (hw : ∀ a c f v, f.inPage 0 = true → P a → P (a.wr (pageHC c) f v)) : P s.relContexts :=
  State.foldl_inv h fun _ _ _ ha => hw _ _ _ _ (by decide) (hw _ _ _ _ (by decide) (hw _ _ _ _ (by decide) ha))

theorem State.relDomains_inv {on : List Nat} (h : P s) (ho : ∀ a m o, P a → P { a with onAtReset := m, outsAt := o })
    (hw : ∀ a v, P a → P (a.wr pagePwr R.PWR.PWR_STAT v)) : P (s.relDomains on) :=
  State.foldl_inv (ho _ _ _ (hw _ _ h)) fun _ _ _ ha => hw _ _ ha

end

section
variable (s : State)

theorem State.recordCauses_relSet : s.recordCauses.relSet = s.relSet := by
  unfold State.recordCauses
  dsimp only
  (repeat' split) <;> rfl

theorem State.relContexts_relSet : s.relContexts.relSet = s.relSet :=
  State.relContexts_inv (P := fun a => a.relSet = s.relSet) rfl (fun _ _ _ _ _ h => h)

theorem State.relDomains_relSet (on : List Nat) : (s.relDomains on).relSet = s.relSet :=
  State.relDomains_inv (P := fun a => a.relSet = s.relSet) rfl (fun _ _ _ h => h) (fun _ _ h => h)

/-! ### The cause of the highest priority (R401) -/

theorem lastCause_lt (m : Nat) : lastCause m < 8 := by
  unfold lastCause
  cases h : [rcPor, rcThermal, rcSag, rcPorst, rcLife, rcHost].find? (bitAt m) with
  | none => decide
  | some c =>
    have hc : ∀ c ∈ [rcPor, rcThermal, rcSag, rcPorst, rcLife, rcHost], c < 8 := by decide
    exact hc c (List.mem_of_find?_eq_some h)

theorem State.recordCauses_last : s.recordCauses.rd pageRind R.RIND.RIND_RESET_CAUSE_LAST = lastCause s.resetCauses := by
  have hl (a : State) : (a.wr pageRind R.RIND.RIND_RESET_CAUSE_LAST (lastCause s.resetCauses)).rd pageRind R.RIND.RIND_RESET_CAUSE_LAST =
      lastCause s.resetCauses := (State.rd_wr_same _ _ _ _).trans (Nat.mod_eq_of_lt (lastCause_lt _))
  have hc (a : State) : (a.inc pageRind R.RIND.RIND_RESET_CAUSE_COUNT).rd pageRind R.RIND.RIND_RESET_CAUSE_LAST =
      a.rd pageRind R.RIND.RIND_RESET_CAUSE_LAST := State.rd_wr_place _ _ _ _ _ _ (by decide)
  have hg (a : State) (v : Nat) : (a.wr pageRind R.RIND.RIND_RESET_CAUSE_SAG_SUPPLY v).rd pageRind R.RIND.RIND_RESET_CAUSE_LAST =
      a.rd pageRind R.RIND.RIND_RESET_CAUSE_LAST := State.rd_wr_place _ _ _ _ _ _ (by decide)
  unfold State.recordCauses
  dsimp only
  (repeat' split) <;> simp only [hc, hg, hl]

theorem State.relNonce_relSet : s.relNonce.relSet = s.relSet :=
  State.relNonce_inv (P := fun a => a.relSet = s.relSet) rfl (fun _ h => h) (fun _ _ _ _ _ h => h)

theorem State.relLead_relSet : s.relLead.relSet = s.relSet :=
  State.relLead_inv (P := fun a => a.relSet = s.relSet) rfl (fun _ _ _ _ _ _ h => h)

/-- After the causes the release writes nothing on RIND. -/
theorem State.release_last {f : Fld} (hf : f.inPage 0 = true) (on : List Nat) :
    (s.relNonce.relLead.relContexts.relDomains on).rd pageRind f = s.rd pageRind f := by
  have hw (a : State) (p : Nat) (g : Fld) (v : Nat) (hp : p ≠ pageRind) (hg : g.inPage 0 = true) (h : a.rd pageRind f = s.rd pageRind f) :
      (a.wr p g v).rd pageRind f = s.rd pageRind f := (State.rd_wr_page _ _ _ _ hg hf hp).trans h
  have hn : s.relNonce.rd pageRind f = s.rd pageRind f :=
    State.relNonce_inv (P := fun a => a.rd pageRind f = s.rd pageRind f) rfl (fun _ h => h)
      (fun _ _ _ _ hg h => (State.rdI_wrI_page _ _ _ _ _ _ hg hf (by decide)).trans h)
  have hl : s.relNonce.relLead.rd pageRind f = s.rd pageRind f := State.relLead_inv (P := fun a => a.rd pageRind f = s.rd pageRind f) hn hw
  have hc : s.relNonce.relLead.relContexts.rd pageRind f = s.rd pageRind f :=
    State.relContexts_inv (P := fun a => a.rd pageRind f = s.rd pageRind f) hl
      (fun a c g v => hw a _ g v (by simp only [pageHC, pageRind]; omega))
  exact State.relDomains_inv (P := fun a => a.rd pageRind f = s.rd pageRind f) hc (fun _ _ _ h => h)
    (fun a v => hw a _ _ v (by decide) (by decide))

/-! ### The contexts (R42) -/

theorem State.kind_relAttach (c d : Nat) : (s.relAttach c).kind d = s.kind d := rfl

theorem State.attached_relAttach_self (c : Nat) : (s.relAttach c).attached c = (s.kind c != kPcie) := by
  unfold State.relAttach State.attached State.flag
  dsimp only
  rw [State.rd_wr_place _ _ _ _ _ _ (by decide), State.rd_wr_same]
  cases s.kind c != kPcie <;> rfl

theorem State.attached_relAttach_ne {c d : Nat} (h : c ≠ d) : (s.relAttach d).attached c = s.attached c := by
  have hp : pageHC d ≠ pageHC c := by simp only [pageHC]; omega
  unfold State.relAttach State.attached State.flag
  dsimp only
  rw [State.rd_wr_page _ _ _ _ (by decide) (by decide) hp, State.rd_wr_page _ _ _ _ (by decide) (by decide) hp,
    State.rd_wr_page _ _ _ _ (by decide) (by decide) hp]

/-- SPI and in-band contexts are attached, and PCIe contexts are not. -/
theorem State.attached_relContexts {c : Nat} (hc : c < 4) : s.relContexts.attached c = (s.kind c != kPcie) := by
  have hall : ∀ l : List Nat, l.Nodup → ∀ a : State, a.straps = s.straps →
      (l.foldl (fun a c => a.relAttach c) a).attached c = if c ∈ l then s.kind c != kPcie else a.attached c := by
    intro l
    induction l with
    | nil => intro _ a _; rfl
    | cons d l ih =>
      intro hn a ha
      obtain ⟨hd, hn⟩ := List.nodup_cons.1 hn
      rw [List.foldl_cons, ih hn (a.relAttach d) ha]
      by_cases hcd : c = d
      · subst hcd
        rw [if_neg hd, if_pos (by simp), State.attached_relAttach_self, State.kind, State.kind, ha]
      · simp [hcd, State.attached_relAttach_ne _ hcd]
  refine (hall (List.range 4) List.nodup_range s rfl).trans ?_
  rw [if_pos (List.mem_range.2 hc)]

theorem State.attached_relDomains (on : List Nat) (c : Nat) : (s.relDomains on).attached c = s.attached c := by
  have hp : pagePwr ≠ pageHC c := by simp only [pagePwr, pageHC]; omega
  exact State.relDomains_inv (P := fun a => a.attached c = s.attached c) rfl (fun _ _ _ h => h)
    (fun _ _ h => (congrArg (· != 0) (State.rd_wr_page _ _ _ _ (by decide) (by decide) hp)).trans h)

/-! ### The domains (R397) -/

/-- Every domain that comes on is switched on. -/
theorem State.pwr_relDomains {on : List Nat} {d : Nat} (hon : ∀ e ∈ on, e ∈ domains) (hd : d ∈ on) : (s.relDomains on).pwr d = 1 := by
  obtain ⟨l₁, l₂, rfl⟩ := List.append_of_mem hd
  unfold State.relDomains
  rw [List.foldl_append, List.foldl_cons]
  refine State.foldl_inv (P := fun a => a.pwr d = 1) (State.pwr_setPwr_self _ 1 (hon d hd)) fun a e he h => ?_
  obtain ⟨h0, h14⟩ := domains_bounds (hon e (by simp [he]))
  rw [State.pwr_setPwr a 1 d h0 h14]
  split
  · rfl
  · exact h

end

/-- The leading TCU's domain comes on, but in a device that is RETIRED (R397, R413). -/
theorem State.lead_mem_relOn {s : State} (hl : s.straps.leadSel < 2) (hlc : s.lifeCycle ≠ 3) : 1 + s.straps.leadSel ∈ s.relOn := by
  refine List.mem_filter.2 ⟨?_, ?_⟩
  · have : ∀ l < 2, 1 + l ∈ domains := by decide
    exact this _ hl
  · have hd : 1 + s.straps.leadSel ≤ 2 := by omega
    simp [State.bootOff, hlc, hd, domTcu]

theorem runs_resetRelease {s : State} {hc osc lead src : Nat} (hp : s.phase = .reset) (ht : s.thermalHold = false) (hlp : s.lifeProg = none)
    (hl : lead < 2) :
    Runs (.resetRelease hc osc lead src) s (fun u => u.phase = .oscWait ∧ u.wiping = true ∧ u.straps = ⟨hc % 4, osc % 4, lead, src % 4⟩ ∧
      u.rd pageRind R.RIND.RIND_RESET_CAUSE_LAST = lastCause s.resetCauses ∧
      (∀ c, c < 4 → u.attached c = decide (hcKind hc c ≠ kPcie)) ∧
      (s.lifeCycle ≠ 3 → u.pwr (1 + lead) = 1)) := by
  have hexec := State.release_eq s hc osc lead src
  have hstart : (s.relStart hc osc lead src).relSet = (.oscWait, true, ⟨hc % 4, osc % 4, lead, src % 4⟩, s.lifeCycle) := by
    rw [← Nat.mod_eq_of_lt hl]
    simp [State.relSet, State.relStart]
  have hlast : (s.relStart hc osc lead src).recordCauses.rd pageRind R.RIND.RIND_RESET_CAUSE_LAST = lastCause s.resetCauses :=
    State.recordCauses_last _
  have hv := (State.recordCauses_relSet _).trans hstart
  generalize (s.relStart hc osc lead src).recordCauses = v at *
  have hw : v.relNonce.relLead.relContexts.relSet = _ :=
    ((State.relContexts_relSet _).trans ((State.relLead_relSet _).trans (State.relNonce_relSet v))).trans hv
  have hm : v.relNonce.relLead.relSet = _ := ((State.relLead_relSet _).trans (State.relNonce_relSet v)).trans hv
  have hr := State.release_last v (f := R.RIND.RIND_RESET_CAUSE_LAST) (by decide) v.relNonce.relLead.relContexts.relOn
  have ha (c : Nat) (hc : c < 4) := (State.attached_relDomains v.relNonce.relLead.relContexts v.relNonce.relLead.relContexts.relOn c).trans
    (State.attached_relContexts _ hc)
  generalize v.relNonce.relLead = w at *
  have hu := (State.relDomains_relSet w.relContexts w.relContexts.relOn).trans hw
  simp only [State.relSet, Prod.mk.injEq] at hw hm hu
  obtain ⟨-, -, hstraps, hlc⟩ := hw
  obtain ⟨hphase, hwiping, hstraps', -⟩ := hu
  refine runs_done (congrArg done ((if_neg (by simp [hp, ht, hlp])).trans hexec)) ?_
  simp only [State.rd_settle, State.attached_settle, State.pwr_settle, State.settle_straps, State.settle_phase, State.settle_wiping]
  refine ⟨hphase, hwiping, hstraps', hr.trans hlast, fun c hc4 => ?_, fun hl3 => ?_⟩
  · have hkind : hcKind (hc % 4) c = hcKind hc c := by simp only [hcKind, Nat.mod_mod]
    rw [ha c hc4, State.kind, hm.2.2.1, hkind]
    by_cases hk : hcKind hc c = kPcie <;> simp [hk]
  · have hmem := State.lead_mem_relOn (s := w.relContexts) (by rw [hstraps]; exact hl) (by rw [hlc]; exact hl3)
    rw [hstraps] at hmem
    exact State.pwr_relDomains _ (fun e he => (List.mem_filter.1 he).1) hmem

end Sys2Proof.Machine
end

section
/-! SUPPORT. The end of the wipe after reset (R397, R403, R404, R408), and O21. -/

open Sys2Proof Sys2Proof.Machine
namespace Sys2Proof.Machine

/-! ### The start-up of a domain and the states of the TCUs -/

/-- The register of the base that a saved map of spares writes. -/
def mapShown : List Nat := [R.ENGE.ENG_E_STAT_PHYS.place 0]

/-- The maps and the wear of a domain's pages at its start-up (R381). -/
def State.startMaps (s : State) (d : Nat) : State :=
  mapPages.foldl (fun a p => if pageDomain p = d then (a.mapStartUp p).wearStartUp p else a) s

theorem State.startMaps_keeps (s : State) (d : Nat) : State.KeepsBase mapShown s (s.startMaps d) :=
  (State.KeepsBase.refl s).foldl fun _ _ _ h => .ite (h.mapStartUp (by decide)).wearStartUp h

section
variable (s : State) {d t : Nat}

theorem State.startDomain_tcu (hd : d ≤ 2) : s.startDomain d = ((s.startMaps d).setTcuState (domTcu d) tsStarting).pllStartUp (domTcu d) := if_pos hd

/-- A TCU whose domain starts up is STARTING (R148). -/
theorem State.tcuState_startDomain_self (ht : t < 2) : (s.startDomain (1 + t)).tcuState t = tsStarting := by
  have hpll (a : State) : State.KeepsBase [] a (a.pllStartUp t) := (State.KeepsBase.refl a).pllStartUp
  have hdom : domTcu (1 + t) = t := by simp only [domTcu]; omega
  rw [State.startDomain_tcu s (by omega), hdom, (hpll _).tcuState ht (by decide), State.tcuState_setTcuState_self _ _ (by decide)]

/-- The start-up of another domain leaves a TCU's state. -/
theorem State.tcuState_startDomain_ne (ht : t < 2) (h0 : d ≠ 0) (hd : d ≠ 1 + t) : (s.startDomain d).tcuState t = s.tcuState t := by
  have hm := (s.startMaps_keeps d).tcuState ht (by decide)
  by_cases h2 : d ≤ 2
  · have hpll (a : State) (v : Nat) : State.KeepsBase [] a (a.pllStartUp v) := (State.KeepsBase.refl a).pllStartUp
    have hne : t ≠ domTcu d := by simp only [domTcu]; omega
    rw [State.startDomain_tcu s h2, (hpll _ _).tcuState ht (by decide), State.tcuState_setTcuState_ne _ _ hne, hm]
  · have hk : State.KeepsBase mapShown s (s.startDomain d) := by
      have hmaps := s.startMaps_keeps d
      unfold State.startDomain
      dsimp only
      rw [if_neg h2]
      exact .ite hmaps.spreadLevel.suStart (.ite ((hmaps.wr (by simp) (by decide)).each fun _ _ _ h => h.showPress.laneStartUp) hmaps)
    exact hk.tcuState ht (by decide)

end

/-! ### The domains switch on -/

/-- At the end of the wipe domain `d` is on, but for one that its own DOMAIN_ON switches on. -/
def State.wipedOn (s : State) (d : Nat) : State := if s.pwr d = 1 ∧ (s.findCmd 0x10 d).isNone then s.switchedOn d else s

/-- Every domain that the wipe brings on. -/
def State.allOn (s : State) : State := domains.foldl (fun a d => a.wipedOn d) s

section
variable {P : State → Prop} {s : State}

theorem pageSynth_ne_pageCaldir (t : Nat) : pageSynth t ≠ pageCaldir := by simp only [pageSynth, tpage, pageCaldir]; omega

/-- A domain that comes on is shown in `PWR_STAT`, and the frequency strap on a TCU's synthesizer page. -/
theorem State.wipedOn_inv {d : Nat} (h : P s) (hw : ∀ a p f v, p ≠ pageCaldir → f.inPage 0 = true → P a → P (a.wr p f v)) : P (s.wipedOn d) := by
  have hset : P (s.setPwr d 2) := hw _ _ _ _ (by decide) (by decide) h
  unfold State.wipedOn State.switchedOn
  dsimp only
  split
  · split
    · exact hw _ _ _ _ (pageSynth_ne_pageCaldir _) (by decide) hset
    · exact hset
  · exact h

theorem State.allOn_inv (h : P s) (hw : ∀ a p f v, p ≠ pageCaldir → f.inPage 0 = true → P a → P (a.wr p f v)) : P s.allOn :=
  State.foldl_inv h fun _ _ _ ha => State.wipedOn_inv ha hw

end

section
variable (s : State) {d : Nat}

theorem State.wipedOn_keeps (d : Nat) : State.KeepsBase [R.PWR.PWR_STAT.place 0] s (s.wipedOn d) := by
  have hset : State.KeepsBase [R.PWR.PWR_STAT.place 0] s (s.setPwr d 2) := (State.KeepsBase.refl s).setPwr (by decide)
  exact .ite (.ite (hset.wr (by simp) (by decide)) hset) (.refl s)

theorem State.allOn_keeps : State.KeepsBase [R.PWR.PWR_STAT.place 0] s s.allOn :=
  (State.KeepsBase.refl s).foldl fun a d _ h => h.trans (a.wipedOn_keeps d)

theorem State.allOn_cmds : s.allOn.cmds = s.cmds := State.allOn_inv (P := fun a => a.cmds = s.cmds) rfl (fun _ _ _ _ _ _ h => h)

theorem State.pwr_switchedOn (e : Nat) (hd : d ∈ domains) : (s.switchedOn d).pwr e = if e = d then 2 else s.pwr e := by
  obtain ⟨h0, h14⟩ := domains_bounds hd
  have hk : State.KeepsBase [] (s.setPwr d 2) (s.switchedOn d) := .ite ((State.KeepsBase.refl _).wr (by simp) (by decide)) (.refl _)
  rw [hk.pwr e (by decide), State.pwr_setPwr s 2 e h0 h14]

/-- A domain that comes on leaves the others as they are. -/
theorem State.pwr_wipedOn {e : Nat} (he : e ∈ domains) : (s.wipedOn e).pwr d = s.pwr d ∨ (s.wipedOn e).pwr d = 2 := by
  unfold State.wipedOn
  split
  · rw [State.pwr_switchedOn s d he]
    split
    · exact .inr rfl
    · exact .inl rfl
  · exact .inl rfl

/-- A domain that is wiped at the end comes on, unless its own DOMAIN_ON is in flight. -/
theorem State.pwr_allOn (hd : d ∈ domains) (hp : s.pwr d = 1) (hc : s.findCmd 0x10 d = none) : s.allOn.pwr d = 2 := by
  obtain ⟨l₁, l₂, hl⟩ := List.append_of_mem hd
  have hfirst : (l₁.foldl (fun a e => a.wipedOn e) s).cmds = s.cmds ∧
      ((l₁.foldl (fun a e => a.wipedOn e) s).pwr d = 1 ∨ (l₁.foldl (fun a e => a.wipedOn e) s).pwr d = 2) := by
    refine State.foldl_inv (P := fun a => a.cmds = s.cmds ∧ (a.pwr d = 1 ∨ a.pwr d = 2)) ⟨rfl, .inl hp⟩ fun a e he h => ⟨?_, ?_⟩
    · exact State.wipedOn_inv (P := fun b => b.cmds = s.cmds) h.1 (fun _ _ _ _ _ _ h => h)
    · obtain h1 | h2 := State.pwr_wipedOn a (d := d) (e := e) (by rw [hl]; simp [he])
      · rw [h1]; exact h.2
      · exact .inr h2
  generalize hv : l₁.foldl (fun a e => a.wipedOn e) s = v at hfirst
  have hon : (v.wipedOn d).pwr d = 2 := by
    obtain ⟨hcmds, hp1 | hp2⟩ := hfirst
    · have hcv : (v.findCmd 0x10 d).isNone := by
        unfold State.findCmd at hc ⊢
        rw [hcmds, hc]
        rfl
      rw [State.wipedOn, if_pos ⟨hp1, hcv⟩, State.pwr_switchedOn v d hd, if_pos rfl]
    · obtain h1 | h2 := State.pwr_wipedOn v (d := d) hd
      · rw [h1, hp2]
      · exact h2
  unfold State.allOn
  rw [hl, List.foldl_append, List.foldl_cons, hv]
  refine State.foldl_inv (P := fun a => a.pwr d = 2) hon fun a e he h => ?_
  obtain h1 | h2 := State.pwr_wipedOn a (d := d) (e := e) (by rw [hl]; simp [he])
  · rwa [h1]
  · exact h2

end

/-! ### The boot image is read or awaited, and the domains that are on start up -/

/-- The wipe after reset is over. -/
def State.wipeOver (s : State) : State := { s with wiping := false }

/-- Start-up waits for nothing. -/
def State.startFree (s : State) : State := { s with startWait := false }

/-- Start-up waits for the first section of the image. -/
def State.startAwaits (s : State) : State := { s with startWait := true }

/-- The boot image is read from flash, awaited from the host, or done without (R404). -/
def State.bootStarted (s : State) : State :=
  if s.bootSrc ≤ 1 then s.wr pageBoot R.BOOT.BOOT_STAT_LOADING 1
  else if s.bootSrc = 2 then s.wr pageBoot R.BOOT.BOOT_STAT_WAIT_PUSH 1 else s

/-- The registers that say whether the boot image is read or awaited. -/
def bootShown : List Nat := [R.BOOT.BOOT_STAT_LOADING.place 0, R.BOOT.BOOT_STAT_WAIT_PUSH.place 0]

/-- The end of the wipe, by its three parts. -/
theorem execWipeComplete_eq {s : State} (hw : s.wiping = true) :
    execWipeComplete s = done (if s.wipeOver.allOn.bootStarted.startHeld then s.wipeOver.allOn.bootStarted.startAwaits
      else s.wipeOver.allOn.bootStarted.startAll) :=
  congrArg done (if_neg (by simp [hw]))

section
variable (s : State)

theorem State.bootStarted_keeps : State.KeepsBase bootShown s s.bootStarted :=
  .ite ((State.KeepsBase.refl s).wrAt (by decide)) (.ite ((State.KeepsBase.refl s).wrAt (by decide)) (.refl s))

theorem State.bootStarted_loading {s : State} (h : s.bootSrc ≤ 1) : s.bootStarted.flag pageBoot R.BOOT.BOOT_STAT_LOADING = true := by
  rw [State.bootStarted, if_pos h, State.flag, State.rd_wr_same]
  rfl

theorem State.bootStarted_waitPush {s : State} (h : s.bootSrc = 2) : s.bootStarted.flag pageBoot R.BOOT.BOOT_STAT_WAIT_PUSH = true := by
  rw [State.bootStarted, if_neg (by omega), if_pos h, State.flag, State.rd_wr_same]
  rfl

/-- What the hold of the start-up reads besides LOADING. -/
def State.holdInputs (s : State) : Bool × Nat × Nat := (s.flag pageCaldir R.CALDIR.CAL_CTL_USE_RESTORED, s.bootSrc, s.bootNext)

theorem State.holdInputs_wr (a : State) (p : Nat) (f : Fld) (v : Nat) (hp : p ≠ pageCaldir) (hf : f.inPage 0 = true) :
    (a.wr p f v).holdInputs = a.holdInputs := by
  have hflag : (a.wr p f v).flag pageCaldir R.CALDIR.CAL_CTL_USE_RESTORED = a.flag pageCaldir R.CALDIR.CAL_CTL_USE_RESTORED := by
    rw [State.flag, State.rd_wr_page a f R.CALDIR.CAL_CTL_USE_RESTORED v hf (by decide) hp, State.flag]
  rw [State.holdInputs, hflag]
  rfl

theorem State.holdInputs_allOn : s.allOn.holdInputs = s.holdInputs :=
  State.allOn_inv (P := fun a => a.holdInputs = s.holdInputs) rfl fun a p f v hp hf h => (a.holdInputs_wr p f v hp hf).trans h

theorem State.holdInputs_bootStarted : s.bootStarted.holdInputs = s.holdInputs := by
  unfold State.bootStarted
  split
  · exact s.holdInputs_wr _ _ _ (by decide) (by decide)
  · split
    · exact s.holdInputs_wr _ _ _ (by decide) (by decide)
    · rfl

/-- The TCUs wait for the first section of a flash image where its calibration values are to be used (R408). -/
theorem State.startHeld_bootStarted : s.bootStarted.startHeld = true ↔
    s.flag pageCaldir R.CALDIR.CAL_CTL_USE_RESTORED = true ∧ s.bootSrc ≤ 1 ∧ s.bootNext = 0 := by
  have hin := s.holdInputs_bootStarted
  simp only [State.holdInputs, Prod.mk.injEq] at hin
  obtain ⟨huse, hsrc, hnext⟩ := hin
  simp only [State.startHeld, huse, hsrc, hnext, Bool.and_eq_true, decide_eq_true_eq, beq_iff_eq]
  constructor
  · rintro ⟨⟨⟨hu, hb⟩, -⟩, hn⟩
    exact ⟨hu, hb, hn⟩
  · rintro ⟨hu, hb, hn⟩
    exact ⟨⟨⟨hu, hb⟩, State.bootStarted_loading hb⟩, hn⟩

/-- A domain that is on starts up. -/
def State.startIfOn (s : State) (d : Nat) : State := if s.isOn d then s.startDomain d else s

theorem State.startIfOn_keeps (d : Nat) : State.KeepsBase startShown s (s.startIfOn d) :=
  .ite ((State.KeepsBase.refl s).startDomain (by decide) (by decide) (by decide)) (.refl s)

theorem State.startAll_keeps : State.KeepsBase startShown s.startFree s.startAll :=
  (State.KeepsBase.refl s.startFree).foldl fun a d _ h => h.trans (a.startIfOn_keeps d)

theorem mem_domains_tcu {t : Nat} (ht : t < 2) : 1 + t ∈ domains := by
  have : ∀ t < 2, 1 + t ∈ domains := by decide
  exact this t ht

/-- When the domains that are on start up, every TCU that is on is STARTING. -/
theorem State.tcuState_startAll {s : State} {t : Nat} (ht : t < 2) (hon : s.isOn (1 + t) = true) : s.startAll.tcuState t = tsStarting := by
  obtain ⟨l₁, l₂, hl⟩ := List.append_of_mem (mem_domains_tcu ht)
  have hfirst : State.KeepsBase startShown s.startFree (l₁.foldl State.startIfOn s.startFree) :=
    (State.KeepsBase.refl s.startFree).foldl fun a d _ h => h.trans (a.startIfOn_keeps d)
  generalize hv : l₁.foldl State.startIfOn s.startFree = v at hfirst
  have hself : (v.startIfOn (1 + t)).tcuState t = tsStarting := by
    have hvon : v.isOn (1 + t) = true := by
      rw [State.isOn, hfirst.pwr (1 + t) (by decide)]
      exact hon
    rw [State.startIfOn, if_pos hvon, State.tcuState_startDomain_self v ht]
  have hsplit : s.startAll = l₂.foldl State.startIfOn (v.startIfOn (1 + t)) := by
    change domains.foldl State.startIfOn s.startFree = _
    rw [hl, List.foldl_append, List.foldl_cons, hv]
  rw [hsplit]
  refine State.foldl_inv (P := fun a => a.tcuState t = tsStarting) hself fun a d hd h => ?_
  unfold State.startIfOn
  split
  · by_cases he : d = 1 + t
    · rw [he, State.tcuState_startDomain_self a ht]
    · rw [State.tcuState_startDomain_ne a ht (domains_bounds (by rw [hl]; simp [hd])).1 he, h]
  · exact h

end

theorem runs_wipeComplete {s : State} (hw : s.wiping = true) :
    Runs .wipeComplete s (fun u => u.wiping = false ∧ (∀ d ∈ domains, s.pwr d = 1 → s.findCmd 0x10 d = none → u.pwr d = 2) ∧
      (s.bootSrc ≤ 1 → u.flag pageBoot R.BOOT.BOOT_STAT_LOADING = true) ∧
      (s.bootSrc = 2 → u.flag pageBoot R.BOOT.BOOT_STAT_WAIT_PUSH = true) ∧
      (if s.flag pageCaldir R.CALDIR.CAL_CTL_USE_RESTORED = true ∧ s.bootSrc ≤ 1 ∧ s.bootNext = 0 then u.startWait = true
       else u.startWait = false ∧ ∀ t, t < 2 → s.pwr (1 + t) = 1 → s.findCmd 0x10 (1 + t) = none → u.tcuState t = tsStarting)) := by
  have hin : s.wipeOver.allOn.holdInputs = s.holdInputs := s.wipeOver.holdInputs_allOn
  simp only [State.holdInputs, Prod.mk.injEq] at hin
  obtain ⟨huse, hsrc, hnext⟩ := hin
  have hpwr (d : Nat) (hd : d ∈ domains) (h1 : s.pwr d = 1) (hc : s.findCmd 0x10 d = none) : s.wipeOver.allOn.pwr d = 2 :=
    State.pwr_allOn s.wipeOver hd h1 hc
  have hwip : s.wipeOver.allOn.wiping = false := s.wipeOver.allOn_keeps.wiping
  have hexec := execWipeComplete_eq hw
  have hheld := s.wipeOver.allOn.startHeld_bootStarted
  generalize s.wipeOver.allOn = v at *
  rw [huse, hsrc, hnext] at hheld
  have hboot := v.bootStarted_keeps
  have hload (h : s.bootSrc ≤ 1) := State.bootStarted_loading (s := v) (hsrc ▸ h)
  have hpush (h : s.bootSrc = 2) := State.bootStarted_waitPush (s := v) (hsrc ▸ h)
  have hwip2 := hboot.wiping.trans hwip
  have hpwr2 (d : Nat) (hd : d ∈ domains) (h1 : s.pwr d = 1) (hc : s.findCmd 0x10 d = none) : v.bootStarted.pwr d = 2 :=
    (hboot.pwr d (by decide)).trans (hpwr d hd h1 hc)
  generalize v.bootStarted = w at *
  by_cases hh : w.startHeld = true
  · rw [if_pos hh] at hexec
    refine runs_done hexec ?_
    rw [if_pos (hheld.1 hh)]
    simp only [State.flag, State.rd_settle, State.pwr_settle, State.settle_wiping, State.settle_startWait]
    exact ⟨hwip2, hpwr2, hload, hpush, rfl⟩
  · rw [if_neg hh] at hexec
    refine runs_done hexec ?_
    rw [if_neg fun h => hh (hheld.2 h)]
    simp only [State.flag, State.rd_settle, State.pwr_settle, State.tcuState_settle, State.settle_wiping,
      State.settle_startWait]
    have hst := w.startAll_keeps
    refine ⟨hst.wiping.trans hwip2, fun d hd h1 hc => (hst.pwr d (by decide)).trans (hpwr2 d hd h1 hc), fun h => ?_, fun h => ?_, hst.startWait,
      fun t ht h1 hc => State.tcuState_startAll ht ?_⟩
    · exact (hst.flag R.BOOT.BOOT_STAT_LOADING (by decide) (by decide) (by decide)).trans (hload h)
    · exact (hst.flag R.BOOT.BOOT_STAT_WAIT_PUSH (by decide) (by decide) (by decide)).trans (hpush h)
    · rw [State.isOn, hpwr2 _ (mem_domains_tcu ht) h1 hc]
      rfl

/-- Settles O21: the oscillator's events go through the phase they set and the broadcasts they raise; a TCU that is ready goes by the token;
release and the end of the wipe are taken apart into their parts, and each part keeps what the others show. -/
theorem oscillatorReleaseAndWipeLeadToBoot : Obligations.OscillatorReleaseAndWipeLeadToBoot :=
  ⟨fun _ hp ho => runs_oscQualify hp ho, fun _ hp ho => runs_oscQualify_lastResort hp ho, fun _ hp => runs_oscWaitTimeout hp,
    fun _ hp hok => runs_oscDisqualify_lastResort hp hok, fun _ hp => runs_oscDisqualify_running hp,
    fun _ _ hists lats ht hst hclk hr hw => runs_tcuReady hists lats ht hst hclk hr hw,
    fun _ _ _ _ _ hp ht hlp hl => runs_resetRelease hp ht hlp hl, fun _ hw => runs_wipeComplete hw⟩

end Sys2Proof.Machine
end

section
/-! REFUTATIONS of O13, O14, O16, O17, O32 and O37, each by a concrete state. -/

open Sys2Proof Sys2Proof.Machine
namespace Sys2Proof.Machine

/-- `shaperBusy` with PD_CORE on and the page SHAPE owned by `c`, an attached context; the commits of the page take effect at the boundary of code 1. -/
def shaperBusyFor (c : Nat) : State :=
  { shaperBusy with
    regs := [(R.HC.CTX_STAT_ATTACHED.key (pageHC c) 0, 1), (R.PWR.PWR_STAT.key pagePwr 0, 2 * 4 ^ 3),
      (R.HDR.HDR_OWNER_OWNER.key pageShape 0, c), (R.HDR.HDR_COMMIT_AT_BOUNDARY.key pageShape 0, 1)] }

/-- While the shaper window is busy, HC0's write of 1 to the `HDR_OWNER` of its page leaves the page to HC0. -/
theorem shaperBusy_refuses_owner : (shaperBusy.write 0 pageShape 0x004 1).settle.owner pageShape = 0 := by
  rw [State.owner, State.rd_settle]; decide +kernel

/-- Refutes O13: the lock of a busy shaper window (`State.lockedField`) takes in every offset up to 0x054 of page SHAPE, that of `HDR_OWNER`
among them, so that HC0's write of it is refused with ACC_ARMED though the page is neither fixed nor locked. -/
theorem not_ownershipPassesByHdrOwner : ¬ Obligations.OwnershipPassesByHdrOwner := by
  unfold Obligations.OwnershipPassesByHdrOwner
  rintro ⟨hPass, -⟩
  obtain ⟨u, hu, hv, -⟩ := hPass shaperBusy pageShape 1 (by decide) (by decide) (by decide +kernel) (by decide +kernel) (by decide)
  obtain rfl : (shaperBusy.write 0 pageShape 0x004 1).settle = u := by injection hu
  rw [shaperBusy_refuses_owner] at hv
  exact absurd hv (by decide)

/-- The owner's write of ARM to a page whose shaper window is busy arms nothing. -/
theorem shaperBusy_refuses_arm : ((shaperBusyFor 0).write 0 pageShape 0x020 1).settle.armed pageShape = false := by
  rw [State.armed, State.flag, State.rd_settle]; decide +kernel

/-- Refutes O14: its second clause arms a commit on any page but ESPARE whose boundary lies ahead, but the lock of a busy shaper window takes in
`HDR_SHADOW_CTL` of page SHAPE: the owner's ARM is refused with ACC_ARMED. -/
theorem not_commitsArmCancelAndTakeEffect : ¬ Obligations.CommitsArmCancelAndTakeEffect := by
  unfold Obligations.CommitsArmCancelAndTakeEffect
  rintro ⟨-, hArm, -⟩
  obtain ⟨u, hu, hv, -⟩ := hArm (shaperBusyFor 0) 0 pageShape (by decide) (by decide) (by decide +kernel) (by decide +kernel) (by decide +kernel)
  obtain rfl : ((shaperBusyFor 0).write 0 pageShape 0x020 1).settle = u := by injection hu
  rw [shaperBusy_refuses_arm] at hv
  exact absurd hv (by decide)

/-- A whole SPI frame that writes `HDR_INT_ENABLE` of page SHAPE while the shaper window is busy leaves the register 0. -/
theorem shaperBusy_refuses_spi :
    ((shaperBusyFor 2).hostWrite 2 (regAddr pageShape 0x010) 4 1).settle.rd pageShape R.HDR.HDR_INT_ENABLE = 0 := by
  rw [State.rd_settle]; decide +kernel

/-- Refutes O17: its first clause lets a whole SPI frame of the page's owner write `HDR_INT_ENABLE`, but the lock of a busy shaper window refuses
it on page SHAPE, as it refuses any owner's write there. -/
theorem not_spiAndInbandFramesAreAccesses : ¬ Obligations.SpiAndInbandFramesAreAccesses := by
  unfold Obligations.SpiAndInbandFramesAreAccesses
  rintro ⟨hSpi, -⟩
  obtain ⟨u, hu, hv⟩ := hSpi (shaperBusyFor 2) 0 2 pageShape 1 64 (by decide) (by decide) (by decide) (by decide +kernel)
  obtain rfl : ((shaperBusyFor 2).hostWrite 2 (regAddr pageShape 0x010) 4 1).settle = u := by injection hu
  rw [shaperBusy_refuses_spi] at hv
  exact absurd hv (by decide)

/-- HC0 by PCIe with MSI-X armed and in holdoff until 100 ns, no interrupt pending, and a sampling sweep whose one record is due in that time and
fills the ring to `SMP_THRESH`. -/
def sweepInHoldoff : State :=
  { State.reset with
    phase := .running, hosts := [(0, { msix := true, holdoff := true, holdTo := 100 })]
    smpRun := some { instant := 0, todo := [0], next := 0 }
    regs := [(R.HC.CTX_STAT_ATTACHED.key (pageHC 0) 0, 1), (R.PWR.PWR_STAT.key pagePwr 0, 2 * 4 ^ 3),
      (R.SAMPLE.SMP_THRESH.key pageSample 0, 1), (R.HDR.HDR_INT_ENABLE.key pageSample 0, 1)] }

/-- The record written on the way to the end of the holdoff raises SMP_DATA, whose message is sent. -/
theorem sweepInHoldoff_sends :
    (((sweepInHoldoff.advance ((sweepInHoldoff.host 0).holdTo - sweepInHoldoff.up)).onHost 0
      (fun h => { h with holdoff := false })).settle.host 0).armed = false := by decide +kernel

/-- Refutes O16: its second clause takes an interrupt that was not pending before INT_HOLDOFF_EXPIRY for one that is not pending when the holdoff
ends, but the time that passes up to the end writes the sweep's records, and so may raise SMP_DATA (`State.sampleOn`). -/
theorem not_messageInterruptsAndPcieLinks : ¬ Obligations.MessageInterruptsAndPcieLinks := by
  unfold Obligations.MessageInterruptsAndPcieLinks
  rintro ⟨-, hExpiry, -⟩
  obtain ⟨u, hu, hv⟩ := hExpiry sweepInHoldoff 0 (by decide) (by decide +kernel) (by decide +kernel) (by decide) (by decide) (by decide)
  obtain rfl : ((sweepInHoldoff.advance ((sweepInHoldoff.host 0).holdTo - sweepInHoldoff.up)).onHost 0
      (fun h => { h with holdoff := false })).settle = u := by injection hu
  have hnone : sweepInHoldoff.intTop 0 = 0 := by decide +kernel
  rw [if_pos hnone, sweepInHoldoff_sends] at hv
  exact absurd hv.1 (by decide)

/-- HC3 on the in-band port, an interrupt of its own page pending and armed, and one payload waiting for port 0, which is UP and idle. -/
def noticeBehindFrame : State :=
  { State.reset with
    straps := { hcMap := 2 }, phase := .running, hosts := [(3, { inbq := [[]] })]
    regs := [(R.HC.CTX_STAT_ATTACHED.key (pageHC 3) 0, 1), (R.PORT.PORT_STAT_LINK.key (pagePort 0) 0, 7),
      (R.HDR.HDR_INT_CAUSE.key (pageHC 3) 0, 1), (R.HDR.HDR_INT_ENABLE.key (pageHC 3) 0, 1)] }

/-- After port 0 has taken the payload, the notice of the interrupt waits in its place. -/
theorem noticeBehindFrame_waits : (((noticeBehindFrame.schedule 0).settle).host 3).inbq ≠ [] := by decide +kernel

/-- Refutes O32: its second clause says that the in-band port takes one payload and leaves the rest of the queue, but an interrupt of HC3 that is
pending and armed puts its notice into the same queue at the end of the instruction (`State.deliver`). -/
theorem not_portsServeAndSendFrames : ¬ Obligations.PortsServeAndSendFrames := by
  unfold Obligations.PortsServeAndSendFrames
  rintro ⟨-, hInband, -⟩
  obtain ⟨u, hu, -, -, hv⟩ := hInband noticeBehindFrame 0 [] (by decide) (by decide +kernel) (by decide) (by decide) (by decide +kernel)
    (by decide +kernel) (by decide +kernel) (by decide) (by decide +kernel)
  obtain rfl : (noticeBehindFrame.schedule 0).settle = u := by injection hu
  exact noticeBehindFrame_waits hv

/-- Port 1 is a lane of trunk 0, which is UP, and may hold no cell; HC2, by SPI, has a frame of 60 octets waiting for port 1. -/
def frameForLane : State :=
  { State.reset with
    hosts := [(2, { txq := [([0, 0, 0, 1], List.replicate 60 0#8)] })]
    regs := [(R.HC.CTX_STAT_ATTACHED.key (pageHC 2) 0, 1), (R.HC.PKT_CTL_TX_EN.key (pageHC 2) 0, 1),
      (R.NT.TRUNK_STAT_STATE.key (pageNT 0) 0, 7), (R.VAT.VAT_MAX.key pageVat 1, 0)] }

/-- The frame is dropped: its record is gone. -/
theorem frameForLane_record : ((frameForLane.hostTx 2 [] none 0).settle.frame 0).octets = [] := by decide +kernel

/-- The drop is not counted under port 1. -/
theorem frameForLane_count : (frameForLane.hostTx 2 [] none 0).settle.rdI pageVat R.VAT.VAT_CNT_DROP 1 = 0 := by decide +kernel

/-- Refutes O37: its seventh clause counts a host frame that finds no cell in `VAT_CNT_DROP` of the port in its descriptor, but the frame counts
under its forwarding port (`State.store`), which for a lane of an enabled trunk is the trunk's port (`State.fwdPort`). -/
theorem not_pauseAndHostFramesAreHandled : ¬ Obligations.PauseAndHostFramesAreHandled := by
  unfold Obligations.PauseAndHostFramesAreHandled
  rintro ⟨-, -, -, -, -, -, hHost, -⟩
  obtain ⟨u, hu, -, hv⟩ := hHost frameForLane 2 ([0, 0, 0, 1], List.replicate 60 0#8) [] (txDesc 0 1) 0 0 (by decide) (by decide +kernel)
    (by decide +kernel) (by decide) (by decide) (by decide) (by decide) (by decide) (by decide) (by decide) (by decide) (by decide) (by decide)
  obtain rfl : (frameForLane.hostTx 2 [] none 0).settle = u := by injection hu
  have hport : (txDesc 0 1).port = 1 := by decide
  rw [frameForLane_record, hport, frameForLane_count] at hv
  rcases hv with ⟨hoct, -⟩ | hdrop
  · exact absurd hoct (by simp)
  · exact absurd hdrop (by decide +kernel)

end Sys2Proof.Machine
end

section
/-! SUPPORT. Completions: what handing one over changes (R52), and what a command's slot shows (R51). -/

open Sys2Proof Sys2Proof.Machine
namespace Sys2Proof.Machine

/-! ### Registers changed -/

/-- From `s` to `u` registers at the pages and places of `E` alone have changed. -/
def State.Only (E : Nat → Nat → Prop) (s u : State) : Prop :=
  ∀ q f j, f.inPage j = true → ¬ E q (f.place j) → u.rdI q f j = s.rdI q f j

section
variable {E : Nat → Nat → Prop} {s t u : State}

theorem State.Only.refl (s : State) : State.Only E s s := fun _ _ _ _ _ => rfl

theorem State.Only.trans (h : State.Only E s t) (k : State.Only E t u) : State.Only E s u :=
  fun q f j hf hq => (k q f j hf hq).trans (h q f j hf hq)

theorem State.Only.mono {F : Nat → Nat → Prop} (h : State.Only E s t) (hEF : ∀ q x, E q x → F q x) : State.Only F s t :=
  fun q f j hf hq => h q f j hf fun hE => hq (hEF _ _ hE)

/-- An update of what is no register. -/
theorem State.Only.of_regs (h : u.regs = s.regs) : State.Only E s u := fun q f j _ _ => State.rdI_congr h q f j

theorem State.Only.upd (h : State.Only E s t) (hr : u.regs = t.regs) : State.Only E s u := h.trans (.of_regs hr)

theorem State.Only.wrI (h : State.Only E s t) {p : Nat} {f : Fld} {i : Nat} (v : Nat) (hf : f.inPage i = true) (hE : E p (f.place i)) :
    State.Only E s (t.wrI p f i v) := by
  refine h.trans fun q g j hg hq => ?_
  by_cases hpl : f.place i = g.place j
  · refine State.rdI_wrI_page t f g i j v hf hg fun hpq => hq ?_
    rwa [← hpl, ← hpq]
  · exact State.rdI_wrI_place t p q f g i j v hpl

theorem State.Only.wr (h : State.Only E s t) {p : Nat} {f : Fld} (v : Nat) (hf : f.inPage 0 = true) (hE : E p (f.place 0)) :
    State.Only E s (t.wr p f v) := h.wrI v hf hE

theorem State.Only.ite {c : Prop} [Decidable c] (h : State.Only E s t) (k : State.Only E s u) : State.Only E s (if c then t else u) := by
  split
  · exact h
  · exact k

theorem State.Only.raise (h : State.Only E s t) {p : Nat} (b : Nat) (hE : E p (R.HDR.HDR_INT_CAUSE.place 0)) : State.Only E s (t.raise p b) := by
  unfold State.raise State.setCause
  exact .ite h (h.wr _ rfl hE)

theorem State.Only.raiseIf (h : State.Only E s t) {p : Nat} (c : Bool) (b : Nat) (hE : E p (R.HDR.HDR_INT_CAUSE.place 0)) :
    State.Only E s (t.raiseIf c p b) := by
  unfold State.raiseIf
  exact .ite (h.raise b hE) h

theorem State.Only.foldl {β : Type} (l : List β) (f : State → β → State) (h : State.Only E s t) (hf : ∀ a, ∀ b ∈ l, State.Only E a (f a b)) :
    State.Only E s (l.foldl f t) := by
  induction l generalizing t with
  | nil => exact h
  | cons b l ih => exact ih (h.trans (hf t b (by simp))) fun a c hc => hf a c (by simp [hc])

theorem State.Only.each (n : Nat) (f : Nat → State → State) (h : State.Only E s t) (hf : ∀ a i, i < n → State.Only E a (f i a)) :
    State.Only E s (t.each n f) := h.foldl _ _ fun a i hi => hf a i (List.mem_range.1 hi)

/-- A register that the change does not reach. -/
theorem State.Only.rd (h : State.Only E s t) {q : Nat} {f : Fld} (hf : f.inPage 0 = true) (hq : ¬ E q (f.place 0)) : t.rd q f = s.rd q f :=
  h q f 0 hf hq

theorem State.Only.flag (h : State.Only E s t) {q : Nat} {f : Fld} (hf : f.inPage 0 = true) (hq : ¬ E q (f.place 0)) : t.flag q f = s.flag q f := by
  rw [State.flag, State.flag, h.rd hf hq]

end

/-! ### Handing over completions -/

/-- The places of a context's own page that completions change: the ring, its PROD, STALLED and the causes. -/
def cplPlace (x : Nat) : Bool :=
  x == R.HC.CPL_PROD.place 0 || x == R.HC.CTX_STAT_STALLED.place 0 || x == R.HDR.HDR_INT_CAUSE.place 0 ||
    decide (R.HC.CPL_RING.place 0 ≤ x ∧ x < R.HC.CMD_RING.place 0)

theorem cplPlace_ring {n : Nat} (h : n < 256) : cplPlace (R.HC.CPL_RING.place n) = true := by
  have hp : R.HC.CPL_RING.place n = 8192 + 32 * n := by
    show (1024 + 4 * n) * 8 % 32768 = _
    omega
  refine Bool.or_eq_true_iff.2 (.inr (decide_eq_true ?_))
  rw [hp]
  exact ⟨by show 8192 ≤ _; omega, by show _ < 16384; omega⟩

/-- What completions of context `c` change of the registers. -/
def cplReach (c q x : Nat) : Prop := q = pageHC c ∧ cplPlace x = true

theorem not_cplReach {c q x : Nat} (h : cplPlace x = false) : ¬ cplReach c q x := fun hE => by
  rw [hE.2] at h; cases h

/-- From `s` to `u` nothing but registers, what the contexts hold, and what was put out has changed. -/
def State.HostsOnly (s u : State) : Prop := u = { s with regs := u.regs, hosts := u.hosts, out := u.out }

theorem State.HostsOnly.refl (s : State) : s.HostsOnly s := rfl

theorem State.HostsOnly.wrI (s : State) (p : Nat) (f : Fld) (i v : Nat) : s.HostsOnly (s.wrI p f i v) := rfl
theorem State.HostsOnly.wr (s : State) (p : Nat) (f : Fld) (v : Nat) : s.HostsOnly (s.wr p f v) := rfl
theorem State.HostsOnly.onHost (s : State) (c : Nat) (f : HostCtx → HostCtx) : s.HostsOnly (s.onHost c f) := rfl
theorem State.HostsOnly.emit (s : State) (o : Out) : s.HostsOnly (s.emit o) := rfl

theorem State.HostsOnly.trans {s t u : State} (h : s.HostsOnly t) (k : t.HostsOnly u) : s.HostsOnly u := by
  unfold State.HostsOnly at *
  rw [k, h]

section
variable (s : State) (c : Nat)

theorem State.raiseIf_hostsOnly (b : Bool) (p n : Nat) : s.HostsOnly (s.raiseIf b p n) := by
  unfold State.raiseIf State.raise
  (repeat' split) <;> rfl

theorem State.cplStore_hostsOnly (i : Nat) (ws : List Nat) : s.HostsOnly (s.cplStore c i ws) := by
  unfold State.cplStore
  split
  · rfl
  · exact State.each_rel State.HostsOnly.refl State.HostsOnly.trans 4 _ (fun _ _ => .wrI _ _ _ _ _) s

theorem State.cplStore_hosts (i : Nat) (ws : List Nat) : (s.cplStore c i ws).hosts = s.hosts := by
  unfold State.cplStore
  split
  · rfl
  · exact State.each_keeps State.hosts 4 _ s fun _ _ => rfl

theorem State.cplStore_out (i : Nat) (ws : List Nat) : (s.cplStore c i ws).out = s.out := by
  unfold State.cplStore
  split
  · rfl
  · exact State.each_keeps State.out 4 _ s fun _ _ => rfl

theorem State.cplWrite_hostsOnly (e : Cpl) : s.HostsOnly (s.cplWrite c e) :=
  (((s.cplStore_hostsOnly c _ _).trans (.emit _ _)).trans (.wr _ _ _ _)).trans (State.raiseIf_hostsOnly _ _ _ _)

theorem State.cplFlush_hostsOnly (es : List Cpl) : s.HostsOnly (s.cplFlush c es) := by
  induction es generalizing s with
  | nil => rfl
  | cons e es ih =>
    unfold State.cplFlush
    split
    · exact (s.cplWrite_hostsOnly c e).trans (ih _)
    · rfl

theorem State.cplPump_hostsOnly : s.HostsOnly (s.cplPump c) := by
  unfold State.cplPump
  split
  · rfl
  · exact (s.cplFlush_hostsOnly c _).trans (.wr _ _ _ _)

theorem State.cplPost_hostsOnly (e : Cpl) : s.HostsOnly (s.cplPost c e) := by
  unfold State.cplPost
  split
  · rfl
  · exact ((State.HostsOnly.onHost s c _).trans (State.cplPump_hostsOnly _ c)).trans (State.raiseIf_hostsOnly _ _ _ _)

theorem State.cplStore_only (i : Nat) (ws : List Nat) : State.Only (cplReach c) s (s.cplStore c i ws) := by
  unfold State.cplStore
  refine .ite (.refl s) (.each 4 _ (.refl s) fun a j hj => .wrI (.refl a) _ ?_ ⟨rfl, ?_⟩)
  · exact Fld.inPage_of_le (n := 255) (by omega) (by decide)
  · have hlt : i % 64 * 4 + j < 256 := by omega
    exact cplPlace_ring hlt

theorem State.cplWrite_only (e : Cpl) : State.Only (cplReach c) s (s.cplWrite c e) := by
  have h (i : Nat) (ws : List Nat) (o : Out) : State.Only (cplReach c) s ((s.cplStore c i ws).emit o) := .upd (s.cplStore_only c i ws) rfl
  exact .raiseIf (.wr (h _ _ _) _ rfl ⟨rfl, by decide⟩) _ _ ⟨rfl, by decide⟩

theorem State.cplFlush_only (es : List Cpl) : State.Only (cplReach c) s (s.cplFlush c es) := by
  induction es generalizing s with
  | nil => exact .of_regs rfl
  | cons e es ih => exact .ite ((s.cplWrite_only c e).trans (ih _)) (.of_regs rfl)

theorem State.cplPump_only : State.Only (cplReach c) s (s.cplPump c) := by
  unfold State.cplPump
  exact .ite (.of_regs rfl) (.wr (s.cplFlush_only c _) _ rfl ⟨rfl, by decide⟩)

theorem State.cplPost_only (e : Cpl) : State.Only (cplReach c) s (s.cplPost c e) := by
  unfold State.cplPost
  exact .ite (.refl s) (.raiseIf (.trans (.of_regs rfl) (State.cplPump_only _ c)) _ _ ⟨rfl, by decide⟩)

/-- One completion written: its entry is put out, PROD moves on, and the store of those held is as it was (R50, R52). -/
theorem State.cplWrite_out (e : Cpl) :
    ∃ w1, (s.cplWrite c e).out = Out.completion c (e.handle + e.tag * 65536) w1 e.r0 e.r1 :: s.out := by
  unfold State.cplWrite
  simp only [State.raiseIf_out, State.wr_out]
  refine ⟨e.status + e.detail * 256 + s.rd (pageHC c) R.HC.CPL_PROD / s.cplSize c % 2 * 2 ^ 31, ?_⟩
  show _ :: (s.cplStore c _ _).out = _
  rw [State.cplStore_out]

end

/-- A context's one completion is written at once where the ring has room (R52). -/
theorem State.cplPump_writes {s : State} {c : Nat} {e : Cpl} (ha : s.attached c = true) (hh : (s.host c).held = [e]) (hr : s.cplRoom c = true) :
    s.cplPump c = (((s.cplWrite c e).onHost c fun h => { h with held := [] }).wr (pageHC c) R.HC.CTX_STAT_STALLED 0) := by
  unfold State.cplPump
  rw [if_neg (by simp [ha]), hh]
  simp [State.cplFlush, hr, b2n]

/-- A completion is put out as it is handed over, where nothing is held and the ring has room (R52). -/
theorem State.cplPost_out {s : State} {c : Nat} (e : Cpl) (hc : c < 4) (ha : s.attached c = true) (hh : (s.host c).held = [])
    (hr : s.cplRoom c = true) : ∃ w1, (s.cplPost c e).out = Out.completion c (e.handle + e.tag * 65536) w1 e.r0 e.r1 :: s.out := by
  obtain ⟨w1, hw⟩ := (s.onHost c fun h => { h with held := h.held ++ [e] }).cplWrite_out c e
  refine ⟨w1, ?_⟩
  unfold State.cplPost
  rw [if_neg (by omega)]
  dsimp only
  rw [State.raiseIf_out, State.cplPump_writes (s := s.onHost c _) (e := e) ha (by rw [State.host_onHost_same, hh]; rfl) hr]
  exact hw

/-! ### What a handle's slot shows -/

/-- What the device remembers of the handle `h` of context `c` (R51). -/
abbrev State.slot (s : State) (c h : Nat) : Slot := look { gen := 16, status := 0 } s.slots (slotKey c h)

section
variable {s : State} {k : Cmd} (hk : k.ctx < 4)
include hk

theorem State.slot_setSlot_same (x : Nat) : (s.setSlot k x).slot k.ctx k.handle = { gen := k.handle / 4096, status := x } := by
  unfold State.setSlot
  rw [if_neg (by omega)]
  exact look_put_same _ _ _ _

theorem State.slot_setSlot_ne (x : Nat) {c h : Nat} (hne : slotKey c h ≠ slotKey k.ctx k.handle) :
    (s.setSlot k x).slot c h = s.slot c h := by
  unfold State.setSlot
  rw [if_neg (by omega)]
  exact look_put_ne _ _ _ hne

/-- A command taken into flight shows as running under its handle (R51). -/
theorem State.slot_fly_same : (s.fly k).slot k.ctx k.handle = { gen := k.handle / 4096, status := 0xFF } := State.slot_setSlot_same hk _

theorem State.slot_fly_ne {c h : Nat} (hne : slotKey c h ≠ slotKey k.ctx k.handle) : (s.fly k).slot c h = s.slot c h :=
  State.slot_setSlot_ne hk _ hne

omit hk in
theorem State.finish_slots (st d r0 r1 : Nat) :
    (s.finish k st d r0 r1).slots = (({ s with cmds := s.cmds.filter (fun j => ! j.is k.ctx k.count) } : State).endSlot k st).slots := by
  unfold State.finish
  rw [State.cplPost_hostsOnly]

/-- A command that ends leaves its status under its handle, if the handle is still its own (R51). -/
theorem State.slot_finish_same (hg : (s.slot k.ctx k.handle).gen = k.handle / 4096) (st d r0 r1 : Nat) :
    (s.finish k st d r0 r1).slot k.ctx k.handle = { gen := k.handle / 4096, status := st } := by
  rw [State.slot, State.finish_slots]
  unfold State.endSlot
  rw [if_pos hg]
  exact State.slot_setSlot_same hk st

theorem State.slot_finish_ne {c h : Nat} (hne : slotKey c h ≠ slotKey k.ctx k.handle) (st d r0 r1 : Nat) :
    (s.finish k st d r0 r1).slot c h = s.slot c h := by
  rw [State.slot, State.finish_slots]
  unfold State.endSlot
  split
  · exact State.slot_setSlot_ne hk st hne
  · rfl

/-- A command that starts and ends at once leaves its status. -/
theorem State.slot_fly_finish (st d r0 r1 : Nat) :
    ((s.fly k).finish k st d r0 r1).slot k.ctx k.handle = { gen := k.handle / 4096, status := st } :=
  State.slot_finish_same hk (by rw [State.slot_fly_same hk]) st d r0 r1

end

theorem State.not_inFlight_finish (s : State) (k : Cmd) (st d r0 r1 : Nat) : ¬ (s.finish k st d r0 r1).inFlight k := by
  rintro ⟨j, hj, hc, hn, -⟩
  rw [State.finish_cmds, List.mem_filter] at hj
  simp [Cmd.is, hc, hn] at hj

end Sys2Proof.Machine
end

section
/-! PROOF. O18: the control requests complete. -/

open Sys2Proof Sys2Proof.Machine
namespace Sys2Proof.Machine

theorem State.cmdOf_ctx_lt (s : State) (op : Nat) (q : Request) : (s.cmdOf op q).ctx < 4 := Nat.mod_lt _ (by decide)

theorem State.statusOf_settle (s : State) (k : Cmd) : s.settle.statusOf k = s.statusOf k := by
  rw [State.statusOf, State.statusOf, State.settle_slots]

theorem State.startCmd_nop {k : Cmd} (h : k.op = 0x00) (s : State) : State.startCmd k s = s.finishSt k stOk := by
  unfold State.startCmd
  rw [h]
  rfl

theorem State.startCmd_abort {k : Cmd} (h : k.op = 0x01) (s : State) : State.startCmd k s = State.startAbort k s := by
  unfold State.startCmd
  rw [h]
  rfl

theorem State.startCmd_query {k : Cmd} (h : k.op = 0x02) (s : State) : State.startCmd k s = State.startQuery k s := by
  unfold State.startCmd
  rw [h]
  rfl

/-- An accepted NOP, CMD_ABORT or CMD_QUERY starts on the state in which it has been taken into flight. -/
theorem runs_nop {s : State} {q : Request} (h : s.accepts 0x00 q) :
    Runs (.nop q) s (fun u => u.statusOf (s.cmdOf 0x00 q) = 0 ∧ ¬ u.inFlight (s.cmdOf 0x00 q)) := by
  refine runs_done (v := (s.fly (s.cmdOf 0x00 q)).finish (s.cmdOf 0x00 q) stOk 0 0 0) ?_ ⟨?_, ?_⟩
  · show done (s.takeRequest 0x00 q) = _
    rw [State.takeRequest_of_accepts h, State.startCmd_nop rfl]
    rfl
  · rw [State.statusOf_settle]
    exact congrArg Slot.status (State.slot_fly_finish (s.cmdOf_ctx_lt _ _) _ _ _ _)
  · unfold State.inFlight
    rw [State.settle_cmds]
    exact State.not_inFlight_finish _ _ _ _ _ _

/-- A command taken into flight changes the commands and their slots alone. -/
theorem State.fly_eq (s : State) (k : Cmd) : s.fly k = { s with cmds := (s.fly k).cmds, slots := (s.fly k).slots } := by
  unfold State.fly State.setSlot
  split <;> rfl

theorem State.fly_out (s : State) (k : Cmd) : (s.fly k).out = s.out := by rw [State.fly_eq]

theorem State.endSlot_eq (s : State) (k : Cmd) (st : Nat) : s.endSlot k st = { s with slots := (s.endSlot k st).slots } := by
  unfold State.endSlot State.setSlot
  (repeat' split) <;> rfl

/-- A command whose context is attached, holds no completion and has room puts its completion out as it ends (R52). -/
theorem State.finish_out {s : State} {k : Cmd} (hc : k.ctx < 4) (ha : s.attached k.ctx = true) (hh : (s.host k.ctx).held = [])
    (hr : s.cplRoom k.ctx = true) (st d r0 r1 : Nat) :
    ∃ w1, (s.finish k st d r0 r1).out = Out.completion k.ctx (k.handle + k.tag * 65536) w1 r0 r1 :: s.out := by
  unfold State.finish
  rw [State.endSlot_eq]
  exact State.cplPost_out _ hc ha hh hr

theorem runs_cmdQuery {s : State} {q : Request} (h : s.accepts 0x02 q) (ha : s.attached (q.ctx % 4) = true) (hr : s.cplRoom (q.ctx % 4) = true)
    (hh : (s.host (q.ctx % 4)).held = []) (hne : (s.cmdOf 0x02 q).arg 0 % 4096 ≠ (s.cmdOf 0x02 q).handle % 4096) :
    Runs (.cmdQuery q) s (fun u => ∃ l w0 w1, u.out = l ++ Out.completion (q.ctx % 4) w0 w1
      (s.slot (q.ctx % 4) ((s.cmdOf 0x02 q).arg 0)).status 0 :: s.out) := by
  have hc : (s.cmdOf 0x02 q).ctx < 4 := s.cmdOf_ctx_lt _ _
  have hctx : (s.cmdOf 0x02 q).ctx = q.ctx % 4 := rfl
  have hop : (s.cmdOf 0x02 q).op = 0x02 := rfl
  have htake := State.takeRequest_of_accepts h
  generalize s.cmdOf 0x02 q = k at *
  rw [← hctx] at ha hr hh ⊢
  have hslot : (s.fly k).slot k.ctx (k.arg 0) = s.slot k.ctx (k.arg 0) := by
    refine State.slot_fly_ne hc fun hkey => hne ?_
    exact Nat.add_left_cancel hkey
  have hx : exec (.cmdQuery q) s = done ((s.fly k).finish k stOk 0 (s.slot k.ctx (k.arg 0)).status 0) := by
    show done (s.takeRequest 0x02 q) = _
    rw [htake, State.startCmd_query hop, State.startQuery, ← hslot]
    rfl
  refine runs_done hx ?_
  obtain ⟨w1, hout⟩ := State.finish_out (s := s.fly k) hc (by rw [State.fly_eq]; exact ha) (by rw [State.fly_eq]; exact hh)
    (by rw [State.fly_eq]; exact hr) stOk 0 (s.slot k.ctx (k.arg 0)).status 0
  obtain ⟨l, hl⟩ := (State.settle_sends ((s.fly k).finish k stOk 0 (s.slot k.ctx (k.arg 0)).status 0)).out
  rw [hout, State.fly_out] at hl
  exact ⟨l, _, w1, hl⟩

/-! ### CMD_ABORT -/

/-- A command under another name is found by its handle as before when one is taken into flight. -/
theorem State.byHandle_fly {s : State} {k j : Cmd} {c h : Nat} (hj : s.byHandle c h = some j) (hn : j.count ≠ k.count) :
    (s.fly k).byHandle c h = some j := by
  obtain ⟨hp, as, bs, hl, has⟩ := List.find?_eq_some_iff_append.1 hj
  rw [State.byHandle, State.fly_cmds, hl, List.filter_append, List.filter_cons_of_pos (by simp [Cmd.is, hn]), List.append_assoc]
  refine List.find?_eq_some_iff_append.2 ⟨hp, as.filter (fun j => !j.is k.ctx k.count), _, rfl, fun a ha => ?_⟩
  exact has a (List.mem_of_mem_filter ha)

/-- An accepted CMD_ABORT names a handle that is live while the command itself is in flight (R54). -/
theorem State.handleLive_of_accepts {s : State} {q : Request} (h : s.accepts 0x01 q) :
    (s.fly (s.cmdOf 0x01 q)).handleLive (q.ctx % 4) ((s.cmdOf 0x01 q).arg 0 % 65536) = true := by
  have hn := State.noObject_of_judgeCmd h.2
  have hk : (s.cmdOf 0x01 q).op = 0x01 := rfl
  unfold State.noObject at hn
  rw [hk, if_pos (.inl rfl)] at hn
  by_contra hl
  dsimp only at hn
  split at hn
  · cases hn
  · rw [if_pos (by exact hl)] at hn
    cases hn

theorem runs_cmdAbort {s : State} {q : Request} {j : Cmd} (h : s.accepts 0x01 q) (hn : j.count ≠ q.count)
    (hne : j.handle ≠ (s.cmdOf 0x01 q).handle) (hst : j.started = false) (hab : s.abortable j = true)
    (hlive : s.handleLive (q.ctx % 4) ((s.cmdOf 0x01 q).arg 0 % 65536) = true)
    (hj : s.byHandle (q.ctx % 4) ((s.cmdOf 0x01 q).arg 0 % 65536) = some j) :
    Runs (.cmdAbort q) s (fun u => u.statusOf j = 0x09 ∧ ∀ k ∈ u.cmds, k.ctx ≠ j.ctx ∨ k.count ≠ j.count) := by
  have hkc : (s.cmdOf 0x01 q).ctx < 4 := s.cmdOf_ctx_lt _ _
  have hctx : (s.cmdOf 0x01 q).ctx = q.ctx % 4 := rfl
  have hlive' := State.handleLive_of_accepts h
  have hkn : (s.cmdOf 0x01 q).count = q.count := rfl
  have hop : (s.cmdOf 0x01 q).op = 0x01 := rfl
  have htake := State.takeRequest_of_accepts h
  generalize s.cmdOf 0x01 q = k at *
  obtain ⟨hjc, hjh⟩ : j.ctx = q.ctx % 4 ∧ j.handle = k.arg 0 % 65536 := by
    simpa using List.find?_some hj
  rw [← hjc, ← hjh] at hlive hlive' hj
  -- the slot of the command that is aborted is not that of CMD_ABORT, which would show another handle
  have hkey : slotKey j.ctx j.handle ≠ slotKey k.ctx k.handle := by
    intro hkey
    have hgen : ((s.fly k).slot j.ctx j.handle).gen = j.handle / 4096 := eq_of_beq hlive'
    have hsame : (s.fly k).slot j.ctx j.handle = (s.fly k).slot k.ctx k.handle := by rw [State.slot, State.slot, hkey]
    rw [hsame, State.slot_fly_same hkc] at hgen
    rw [hctx, hjc, slotKey, slotKey] at hkey
    refine hne ?_
    dsimp only at hgen
    omega
  have hstart : State.startCmd k (s.fly k) = ((s.fly k).finishSt k stOk).finishSt j stAborted := by
    have hab' : (s.fly k).abortable j = true := by rw [← hab]; simp [State.abortable, hst]
    rw [State.startCmd_abort hop, State.startAbort, hctx, ← hjc, ← hjh, State.byHandle_fly hj (by rw [hkn]; exact hn)]
    dsimp only
    rw [if_pos hab']
    unfold State.abortCmd
    dsimp only
    rw [if_pos (by simp [hst])]
  have hx : exec (.cmdAbort q) s = done (((s.fly k).finishSt k stOk).finishSt j stAborted) := by
    show done (s.takeRequest 0x01 q) = _
    rw [htake, hstart]
  refine runs_done hx ⟨?_, fun i hi => ?_⟩
  · have hjc4 : j.ctx < 4 := by omega
    rw [State.statusOf_settle]
    refine congrArg Slot.status (State.slot_finish_same hjc4 ?_ _ _ _ _)
    rw [State.finishSt, State.slot_finish_ne hkc hkey, State.slot_fly_ne hkc hkey]
    exact eq_of_beq hlive
  · rw [State.settle_cmds, State.finishSt, State.finish_cmds, List.mem_filter] at hi
    simpa [Cmd.is, not_and_or] using hi.2

/-- Settles O18: an accepted request starts on the state in which it has been taken into flight; its own slot is not the one it names, so that
the status it returns, or the command it ends, is that of the handle named. -/
theorem controlCommandsComplete : Obligations.ControlCommandsComplete :=
  ⟨fun _ _ h => runs_nop h, fun _ _ h ha hr hh hne => runs_cmdQuery h ha hr hh hne,
    fun _ _ _ h hn hne hst hab hlive hj => runs_cmdAbort h hn hne hst hab hlive hj⟩

end Sys2Proof.Machine
end

section
/-! PROOF. O15: the command and completion rings, and the fetching of descriptors. -/

open Sys2Proof Sys2Proof.Machine
namespace Sys2Proof.Machine

/-! ### Writes of a context's own registers (R48) -/

/-- A field of the whole word takes the word written. -/
theorem bits_word {v : Nat} (hv : v < 2 ^ 32) : bits (v % 2 ^ 32) 0 32 = v := by
  rw [bits, Nat.shiftRight_zero, Nat.mod_mod, Nat.mod_eq_of_lt hv]

theorem testBit_bits (v lo w i : Nat) : (bits v lo w).testBit i = (decide (i < w) && bitAt v (lo + i)) := by
  rw [bits, Nat.testBit_mod_two_pow, Nat.testBit_shiftRight]
  rfl

/-- A field within a word sees the word alone. -/
theorem bits_mod_word (v lo w : Nat) (h : lo + w ≤ 32) : bits (v % 2 ^ 32) lo w = bits v lo w := by
  refine Nat.eq_of_testBit_eq fun i => ?_
  rw [testBit_bits, testBit_bits, bitAt, bitAt, Nat.testBit_mod_two_pow]
  by_cases hi : i < w
  · simp [show lo + i < 32 by omega]
  · simp [hi]

theorem bits_lt (v lo w : Nat) : bits v lo w < 2 ^ w := Nat.mod_lt _ (Nat.two_pow_pos w)

section
variable {s : State} {c : Nat} (hc : c < 4) (hw : s.writes c (pageHC c))
include hc hw

omit hw in
theorem pageIndex_pageHC : pageIndex (pageHC c) = c := (show ∀ c < 4, pageIndex (pageHC c) = c by decide) c hc

omit hw in
theorem pageHC_ne_espare : pageHC c ≠ pageEspare := (show ∀ c < 4, pageHC c ≠ pageEspare by decide) c hc

omit hc hw in
/-- A plain field of a context's page breaks no rule (R7). -/
theorem State.fieldErr_hc (v i : Nat) {f : Fld} (hf : f.plain = true) : s.fieldErr (pageHC c) .hc v (f, i) = 0 := by
  simp only [Fld.plain, Bool.and_eq_true, decide_eq_true_eq, ne_eq, Bool.not_eq_true', beq_iff_eq] at hf
  obtain ⟨⟨⟨⟨hBoundary, hOwner⟩, hArm⟩, hdb⟩, hl⟩ := hf
  simp [State.fieldErr, State.readsOnly, State.ruleOk, State.lockedField, hBoundary, hOwner, hArm, hdb, hl, Legal.ok]

omit hc in
/-- A plain RW field of a context's page takes its bits of the word written (R8). -/
theorem State.fieldWrite_hc {f : Fld} (v : Nat) (hacc : f.acc = .rw) (hf : f.plain = true) (t : State) :
    s.fieldWrite (pageHC c) .hc v (f, 0) t = t.wr (pageHC c) f (bits v f.lo f.w) := by
  have hOwner : f ≠ R.HDR.HDR_OWNER_OWNER := by
    rintro rfl
    exact absurd hf (by decide)
  have hdb : f.db = false := by simp_all [Fld.plain]
  have hk : s.keeps (pageHC c) .hc v f 0 = false := by simp [State.keeps, State.windowShut, hw.2.2.2, hOwner]
  unfold State.fieldWrite
  dsimp only
  rw [State.fieldErr_hc v 0 hf, hk, hacc, if_neg (by simp)]
  simp only [hdb]
  rfl

/-- A write of a register of plain fields of a context's own page. -/
theorem State.write_hc {off v : Nat} (h40 : 0x040 ≤ off) (h400 : off < 0x400) (h4 : off % 4 = 0) (hne : fieldsAt .hc off ≠ [])
    (hf : ∀ fi ∈ fieldsAt .hc off, fi.1.plain = true) :
    s.write c (pageHC c) off v = s.hcWritten c off (v % 2 ^ 32)
      ((fieldsAt .hc off).foldl (fun t fi => s.fieldWrite (pageHC c) .hc (v % 2 ^ 32) fi t) s) := by
  rw [State.write_ok s hw (pageBlk_pageHC hc) (by omega) h4 (by omega) (by omega) (pageHC_ne_espare hc) (.inr h400) hne
    fun fi hfi => State.fieldErr_hc _ fi.2 (hf fi hfi)]
  have hwin : s.windowShut (pageHC c) off = false := by simp [State.windowShut, hw.2.2.2]
  unfold State.regEffect
  dsimp only
  rw [hwin, pageBlk_pageHC hc, pageIndex_pageHC hc, if_neg (by decide), if_neg (by omega)]

/-- A write of CTX_CTL sets the enables of the rings and the interrupt's kind, and writes what completions it can (R52, R58). -/
theorem State.write_ctxCtl (v : Nat) : s.write c (pageHC c) 0x040 v =
    (((s.wr (pageHC c) R.HC.CTX_CTL_CMD_EN (bits (v % 2 ^ 32) 0 1)).wr (pageHC c) R.HC.CTX_CTL_CPL_EN (bits (v % 2 ^ 32) 1 1)).wr
      (pageHC c) R.HC.CTX_CTL_INT_PIN (bits (v % 2 ^ 32) 2 1)).cplPump c := by
  rw [State.write_hc hc hw (by decide) (by decide) (by decide) (by decide) (by decide),
    show fieldsAt .hc 0x040 = [(R.HC.CTX_CTL_CMD_EN, 0), (R.HC.CTX_CTL_CPL_EN, 0), (R.HC.CTX_CTL_INT_PIN, 0)] by decide]
  simp only [List.foldl]
  rw [State.fieldWrite_hc hw _ rfl (by decide), State.fieldWrite_hc hw _ rfl (by decide), State.fieldWrite_hc hw _ rfl (by decide)]
  rfl

/-- A write of the PROD of the command ring. -/
theorem State.write_cmdProd {v : Nat} (hv : v < 2 ^ 32) : s.write c (pageHC c) 0x054 v =
    s.prodWritten c R.HC.CMD_PROD R.HC.CMD_CONS (s.cmdSize c) (s.wr (pageHC c) R.HC.CMD_PROD v) := by
  have hsize : (s.wr (pageHC c) R.HC.CMD_PROD v).cmdSize c = s.cmdSize c := by
    rw [State.cmdSize, State.cmdSize, State.rd_wr_place _ _ _ _ _ _ (by decide)]
    rfl
  rw [State.write_hc hc hw (by decide) (by decide) (by decide) (by decide) (by decide),
    show fieldsAt .hc 0x054 = [(R.HC.CMD_PROD, 0)] by decide]
  simp only [List.foldl]
  rw [State.fieldWrite_hc hw _ rfl (by decide), show bits (v % 2 ^ 32) R.HC.CMD_PROD.lo R.HC.CMD_PROD.w = v from bits_word hv]
  unfold State.hcWritten
  rw [if_neg (by decide), if_pos rfl, hsize]

/-- A write of the CONS of the completion ring, after which completions held back are written while there is room (R52). -/
theorem State.write_cplCons {v : Nat} (hv : v < 2 ^ 32) : s.write c (pageHC c) 0x06C v = (s.wr (pageHC c) R.HC.CPL_CONS v).cplPump c := by
  rw [State.write_hc hc hw (by decide) (by decide) (by decide) (by decide) (by decide),
    show fieldsAt .hc 0x06C = [(R.HC.CPL_CONS, 0)] by decide]
  simp only [List.foldl]
  rw [State.fieldWrite_hc hw _ rfl (by decide), show bits (v % 2 ^ 32) R.HC.CPL_CONS.lo R.HC.CPL_CONS.w = v from bits_word hv]
  rfl

/-! ### The rings -/

theorem runs_ctxCtlWrite (v : Nat) :
    Runs (.ctxCtlWrite c v) s (fun u => u.rd (pageHC c) R.HC.CTX_CTL_CMD_EN = bits v 0 1 ∧ u.rd (pageHC c) R.HC.CTX_CTL_CPL_EN = bits v 1 1 ∧
      u.rd (pageHC c) R.HC.CTX_CTL_INT_PIN = bits v 2 1) := by
  have hx : exec (.ctxCtlWrite c v) s = done (s.write c (pageHC c) 0x040 v) := rfl
  rw [State.write_ctxCtl hc hw, bits_mod_word _ _ _ (by decide), bits_mod_word _ _ _ (by decide), bits_mod_word _ _ _ (by decide)] at hx
  refine runs_done hx ?_
  have hkeep {f : Fld} (hf : f.inPage 0 = true) (hpl : cplPlace (f.place 0) = false) (a : State) :
      (a.cplPump c).settle.rd (pageHC c) f = a.rd (pageHC c) f := by
    rw [State.rd_settle, (a.cplPump_only c).rd hf (not_cplReach hpl)]
  refine ⟨?_, ?_, ?_⟩
  · rw [hkeep rfl (by decide), State.rd_wr_place _ _ _ _ _ _ (by decide), State.rd_wr_place _ _ _ _ _ _ (by decide), State.rd_wr_same]
    exact Nat.mod_eq_of_lt (bits_lt v 0 1)
  · rw [hkeep rfl (by decide), State.rd_wr_place _ _ _ _ _ _ (by decide), State.rd_wr_same]
    exact Nat.mod_eq_of_lt (bits_lt v 1 1)
  · rw [hkeep rfl (by decide), State.rd_wr_same]
    exact Nat.mod_eq_of_lt (bits_lt v 2 1)

theorem runs_cmdProdWrite {v : Nat} (hv : v < 2 ^ 32) :
    Runs (.cmdProdWrite c v) s (fun u =>
      if (v + 2 ^ 32 - s.rd (pageHC c) R.HC.CMD_CONS) % 2 ^ 32 ≤ s.cmdSize c then u.rd (pageHC c) R.HC.CMD_PROD = v
      else u.rd (pageHC c) R.HC.CMD_PROD = s.rd (pageHC c) R.HC.CMD_PROD ∧ u.cause (pageHC c) 1 = true) := by
  have hx : exec (.cmdProdWrite c v) s = done (s.write c (pageHC c) 0x054 v) := rfl
  have hprod : (s.wr (pageHC c) R.HC.CMD_PROD v).rd (pageHC c) R.HC.CMD_PROD = v := by
    rw [State.rd_wr_same]
    exact Nat.mod_eq_of_lt hv
  have hcons : (s.wr (pageHC c) R.HC.CMD_PROD v).rd (pageHC c) R.HC.CMD_CONS = s.rd (pageHC c) R.HC.CMD_CONS :=
    State.rd_wr_place _ _ _ _ _ _ (by decide)
  rw [State.write_cmdProd hc hw hv, State.prodWritten, hprod, hcons] at hx
  refine runs_done hx ?_
  rw [State.rd_settle, State.cause_settle]
  by_cases hroom : (v + 2 ^ 32 - s.rd (pageHC c) R.HC.CMD_CONS) % 2 ^ 32 ≤ s.cmdSize c
  · rw [if_pos hroom, if_neg (Nat.not_lt.2 hroom), hprod]
  · have hdom : pageDomain (pageHC c) = 0 := (show ∀ c < 4, pageDomain (pageHC c) = 0 by decide) c hc
    rw [if_neg hroom, if_pos (Nat.lt_of_not_le hroom)]
    refine ⟨?_, State.cause_raise (by decide) (by rw [hdom]; rfl)⟩
    rw [State.rd_raise _ _ _ _ _ (by decide), State.rd_wr_same]
    exact Nat.mod_eq_of_lt (State.rdI_lt _ _ _ _)

omit hc hw in
/-- One completion written moves PROD on by one (R48). -/
theorem State.cplWrite_prod (e : Cpl) : (s.cplWrite c e).rd (pageHC c) R.HC.CPL_PROD = (s.rd (pageHC c) R.HC.CPL_PROD + 1) % 2 ^ 32 := by
  unfold State.cplWrite
  rw [State.rd_raiseIf _ _ _ _ _ _ (by decide)]
  exact State.rd_wr_same _ _ _ _

/-- Completions that CONS has made room for are written: the one held leaves the store, and PROD moves on (R52). -/
theorem runs_cplConsWrite {v : Nat} {e : Cpl} (hv : v < 2 ^ 32) (hh : (s.host c).held = [e]) (hen : s.flag (pageHC c) R.HC.CTX_CTL_CPL_EN = true)
    (hroom : (s.rd (pageHC c) R.HC.CPL_PROD + 2 ^ 32 - v) % 2 ^ 32 < s.cplSize c) :
    Runs (.cplConsWrite c v) s (fun u => u.rd (pageHC c) R.HC.CPL_CONS = v ∧ (u.host c).held = [] ∧
      u.rd (pageHC c) R.HC.CPL_PROD = (s.rd (pageHC c) R.HC.CPL_PROD + 1) % 2 ^ 32 ∧
      ∃ l w1, u.out = l ++ Out.completion c (e.handle + e.tag * 65536) w1 e.r0 e.r1 :: s.out) := by
  have hx : exec (.cplConsWrite c v) s = done (s.write c (pageHC c) 0x06C v) := rfl
  have hcons : (s.wr (pageHC c) R.HC.CPL_CONS v).rd (pageHC c) R.HC.CPL_CONS = v := by
    rw [State.rd_wr_same]
    exact Nat.mod_eq_of_lt hv
  have hkeep {f : Fld} (hpl : R.HC.CPL_CONS.place 0 ≠ f.place 0) : (s.wr (pageHC c) R.HC.CPL_CONS v).rd (pageHC c) f = s.rd (pageHC c) f :=
    State.rd_wr_place _ _ _ _ _ _ hpl
  have hsize : (s.wr (pageHC c) R.HC.CPL_CONS v).cplSize c = s.cplSize c := by
    rw [State.cplSize, State.cplSize, hkeep (by decide)]
    rfl
  have hr : (s.wr (pageHC c) R.HC.CPL_CONS v).cplRoom c = true := by
    simp only [State.cplRoom, State.flag, hkeep (f := R.HC.CTX_CTL_CPL_EN) (by decide), hkeep (f := R.HC.CPL_PROD) (by decide), hcons,
      hsize, Bool.and_eq_true, decide_eq_true_eq]
    exact ⟨hen, hroom⟩
  have ha : (s.wr (pageHC c) R.HC.CPL_CONS v).attached c = true := by
    have hatt : s.attached c = true := by
      have hacc := hw.1
      simp only [State.canAccess, Bool.and_eq_true] at hacc
      exact hacc.2
    rw [← hatt, State.attached, State.attached, State.flag, State.flag, hkeep (by decide)]
  rw [State.write_cplCons hc hw hv, State.cplPump_writes (e := e) ha hh hr] at hx
  refine runs_done hx ?_
  have hsent := State.settle_sends ((((s.wr (pageHC c) R.HC.CPL_CONS v).cplWrite c e).onHost c fun h => { h with held := [] }).wr (pageHC c)
    R.HC.CTX_STAT_STALLED 0)
  refine ⟨?_, ?_, ?_, ?_⟩
  · rw [State.rd_settle, State.rd_wr_place _ _ _ _ _ _ (by decide), State.rd_onHost, (State.cplWrite_only _ c e).rd rfl (not_cplReach (by decide)), hcons]
  · rw [hsent.host c, State.host_wr, State.host_onHost_same]
  · rw [State.rd_settle, State.rd_wr_place _ _ _ _ _ _ (by decide), State.rd_onHost, State.cplWrite_prod, hkeep (by decide)]
  · obtain ⟨l, hl⟩ := hsent.out
    obtain ⟨w1, hw1⟩ := (s.wr (pageHC c) R.HC.CPL_CONS v).cplWrite_out c e
    exact ⟨l, w1, by rw [hl, State.wr_out, State.onHost_out, hw1, State.wr_out]⟩

end

/-! ### The fetching of descriptors (R50–R53) -/

section
variable {s : State} {c : Nat}

/-- A context of which a descriptor may be fetched has no command that AFTER_PREV holds back. -/
theorem State.release1_of_mayFetch (h : s.mayFetch c = true) : s.release1 c = s := by
  have hn : s.heldCmd c = none := by
    simp only [State.mayFetch, Bool.and_eq_true, Option.isNone_iff_eq_none] at h
    exact h.1.2
  rw [State.release1, hn]

/-- The command of the next descriptor of a context. -/
def State.nextCmd (s : State) (c : Nat) (ws : List Nat) : Cmd :=
  let w (i : Nat) : Nat := (s.descWords c ws).getD i 0
  let n := s.rd (pageHC c) R.HC.CMD_CONS
  { ctx := c, count := n, handle := handleOf n (s.cmdSize c), tag := bits (w 0) 16 16, intOn := bitAt (w 0) 8, afterPrev := bitAt (w 0) 9
    op := bits (w 0) 0 8, page := bits (w 1) 0 12, args := (List.range 6).map (fun i => w (i + 2))
    pages := s.grants.filterMap (fun g => if g.1 = c then some g.2.1 else none) }

/-- The state once a descriptor of the context has been taken from the ring. -/
def State.taken (s : State) (c : Nat) : State :=
  (s.wr (pageHC c) R.HC.CMD_CONS (s.rd (pageHC c) R.HC.CMD_CONS + 1)).grantsPass c

/-- A descriptor is fetched: AFTER_PREV holds its command back while an earlier one of its context runs, and else it is judged. -/
theorem State.fetch_eq (h : s.mayFetch c = true) (ws : List Nat) :
    s.fetch c ws =
      if (s.nextCmd c ws).afterPrev = true ∧ s.cmds.any (fun j => j.ctx == c) = true then
        (s.taken c).fly { s.nextCmd c ws with started := false, r0 := bits ((s.descWords c ws).getD 0 0) 10 6, r1 := bits ((s.descWords c ws).getD 1 0) 12 20 }
      else (s.taken c).judgeStart (s.nextCmd c ws) (bits ((s.descWords c ws).getD 0 0) 10 6) (bits ((s.descWords c ws).getD 1 0) 12 20) := by
  unfold State.fetch
  rw [State.release1_of_mayFetch h]
  dsimp only
  rw [if_neg (by simp [h])]
  rfl

/-- The end of a command leaves where its context's commands have been fetched up to. -/
theorem State.finish_rd_cons (s : State) (k : Cmd) (st d r0 r1 c : Nat) :
    (s.finish k st d r0 r1).rd (pageHC c) R.HC.CMD_CONS = s.rd (pageHC c) R.HC.CMD_CONS := by
  unfold State.finish
  rw [(State.cplPost_only _ _ _).rd rfl (not_cplReach (by decide)), State.endSlot_eq]
  rfl

theorem State.taken_cons (s : State) (c : Nat) : (s.taken c).rd (pageHC c) R.HC.CMD_CONS = (s.rd (pageHC c) R.HC.CMD_CONS + 1) % 2 ^ 32 :=
  State.rd_wr_same _ _ _ _

end

/-- A NOP whose descriptor is well formed passes every check of R456. -/
theorem State.judgeCmd_nop {k : Cmd} (hop : k.op = 0x00) (hp : (pageBlk k.page).isSome) (s : State) : s.judgeCmd k 0 0 = none := by
  have hobj : s.noObject k = none := by simp [State.noObject, hop]
  have hval : s.badValue k = none := by simp [State.badValue, reservedArg, hop]
  have hbusy : s.objectBusy k = false := by
    have hmine : objects (s.asAccepted k) = [] := by simp [State.asAccepted, objects, hop]
    simp [State.objectBusy, hmine]
  have hpages : s.lacks k (namedPages k) = false := by simp [namedPages, State.lacks, hop]
  have hclosed : s.pageClosed k = false := by simp [State.pageClosed, forAny, hop]
  have hlater : s.notLater k = false := by simp [State.notLater, hop]
  have hblk : (pageBlk k.page).isNone = false := by simpa using hp
  unfold State.judgeCmd
  rw [hobj, hval, hbusy, hpages, hclosed, hlater, hblk]
  simp [opcodes, forHc0, forAny, hop]

theorem runs_descriptorFetch_nop {s : State} {c : Nat} {ws : List Nat} (hc : c < 4) (h : s.mayFetch c = true)
    (hop : bits ((s.descWords c ws).getD 0 0) 0 8 = 0) (hw0 : bits ((s.descWords c ws).getD 0 0) 9 7 = 0)
    (hw1 : bits ((s.descWords c ws).getD 1 0) 12 20 = 0) (hpage : (pageBlk (bits ((s.descWords c ws).getD 1 0) 0 12)).isSome) :
    Runs (.descriptorFetch c ws) s (fun u => u.rd (pageHC c) R.HC.CMD_CONS = (s.rd (pageHC c) R.HC.CMD_CONS + 1) % 2 ^ 32 ∧
      u.slot c (handleOf (s.rd (pageHC c) R.HC.CMD_CONS) (s.cmdSize c)) =
        { gen := handleOf (s.rd (pageHC c) R.HC.CMD_CONS) (s.cmdSize c) / 4096, status := 0 }) := by
  have hbit : ∀ i < 7, bitAt ((s.descWords c ws).getD 0 0) (9 + i) = false := fun i hi => by
    have hb := testBit_bits ((s.descWords c ws).getD 0 0) 9 7 i
    rwa [hw0, Nat.zero_testBit, decide_eq_true hi, Bool.true_and, eq_comm] at hb
  have hap : (s.nextCmd c ws).afterPrev = false := hbit 0 (by decide)
  have hrsv : bits ((s.descWords c ws).getD 0 0) 10 6 = 0 := by
    refine Nat.eq_of_testBit_eq fun i => ?_
    rw [testBit_bits, Nat.zero_testBit]
    by_cases hi : i < 6
    · rw [show 10 + i = 9 + (1 + i) by omega, hbit _ (by omega), Bool.and_false]
    · rw [decide_eq_false hi, Bool.false_and]
  have hk : (s.nextCmd c ws).op = 0x00 := hop
  have hx : exec (.descriptorFetch c ws) s = done (((s.taken c).fly (s.nextCmd c ws)).finish (s.nextCmd c ws) stOk 0 0 0) := by
    show done (s.fetch (c % 4) ws) = _
    rw [Nat.mod_eq_of_lt hc, State.fetch_eq h, if_neg (by simp [hap]), hrsv, hw1]
    unfold State.judgeStart
    dsimp only
    rw [State.judgeCmd_nop hk hpage]
    exact congrArg done (State.startCmd_nop hk _)
  refine runs_done hx ⟨?_, ?_⟩
  · rw [State.rd_settle, State.finish_rd_cons, State.fly_eq]
    exact State.taken_cons s c
  · rw [State.slot, State.settle_slots]
    exact State.slot_fly_finish (k := s.nextCmd c ws) hc _ _ _ _

theorem runs_descriptorFetch_held {s : State} {c : Nat} {ws : List Nat} {j : Cmd} (hc : c < 4) (h : s.mayFetch c = true)
    (hap : bitAt ((s.descWords c ws).getD 0 0) 9 = true) (hj : j ∈ s.cmds) (hjc : j.ctx = c) :
    Runs (.descriptorFetch c ws) s (fun u => u.rd (pageHC c) R.HC.CMD_CONS = (s.rd (pageHC c) R.HC.CMD_CONS + 1) % 2 ^ 32 ∧
      ∃ k ∈ u.cmds, k.ctx = c ∧ k.count = s.rd (pageHC c) R.HC.CMD_CONS ∧ k.started = false) := by
  have hx : exec (.descriptorFetch c ws) s = done (s.fetch c ws) := by
    show done (s.fetch (c % 4) ws) = _
    rw [Nat.mod_eq_of_lt hc]
  have hany : s.cmds.any (fun j => j.ctx == c) = true := List.any_eq_true.2 ⟨j, hj, by simp [hjc]⟩
  rw [State.fetch_eq h, if_pos ⟨hap, hany⟩] at hx
  refine runs_done hx ⟨?_, ?_⟩
  · rw [State.rd_settle, State.fly_eq]
    exact State.taken_cons s c
  · rw [State.settle_cmds, State.fly_cmds]
    exact ⟨_, List.mem_append_right _ (List.mem_singleton_self _), rfl, rfl, rfl⟩

/-- Settles O15: a write of a ring's register is its fields and the pump of completions, which reaches neither the enables nor CONS; a fetch
takes the descriptor from the ring and judges its command, and a NOP passes every check. -/
theorem ringsAndDescriptorsAreHandled : Obligations.RingsAndDescriptorsAreHandled :=
  ⟨fun _ _ v hc hw => runs_ctxCtlWrite hc hw v, fun _ _ _ hc hv hw => runs_cmdProdWrite hc hw hv,
    fun _ _ _ _ hc hv hw hh hen hr => runs_cplConsWrite hc hw hv hh hen hr,
    fun _ _ _ hc h hop hw0 hw1 hp => runs_descriptorFetch_nop hc h hop hw0 hw1 hp,
    fun _ _ _ _ hc h hap hj hjc => runs_descriptorFetch_held hc h hap hj hjc⟩

end Sys2Proof.Machine
end

section
/-! PROOF. O23: the boot image, the life cycle, OTP, the test access port and wedged blocks. -/

open Sys2Proof Sys2Proof.Machine
namespace Sys2Proof.Machine

/-! ### Life cycle and OTP (R411, R415) -/

section
variable {s : State}

/-- A page of PD_RIND records each cause raised on it. -/
theorem State.cause_raise_rind (s : State) {p b : Nat} (hb : b < 30) (hp : pageDomain p = 0) : (s.raise p b).cause p b = true :=
  State.cause_raise hb (by rw [hp]; rfl)

theorem runs_deviceReady (hnow : s.readyNow = true) (hr : s.flag pageBoot R.BOOT.BOOT_STAT_READY = false) :
    Runs .deviceReady s (fun u => u.flag pageBoot R.BOOT.BOOT_STAT_READY = true ∧ u.cause pageBoot 0 = true ∧
      u.rd pageBoot R.BOOT.BOOT_TIME = satNat 20 ((s.up - s.releasedAt) / 1000)) := by
  have hx : exec .deviceReady s = done (((s.wr pageBoot R.BOOT.BOOT_STAT_READY 1).wr pageBoot R.BOOT.BOOT_TIME
      (satNat 20 ((s.up - s.releasedAt) / 1000))).raise pageBoot 0) := by
    show execDeviceReady s = _
    unfold execDeviceReady
    rw [if_neg (by simp [hnow, hr])]
  refine runs_done hx ⟨?_, ?_, ?_⟩
  · rw [State.flag, State.rd_settle, State.rd_raise _ _ _ _ _ (by decide), State.rd_wr_place _ _ _ _ _ _ (by decide), State.rd_wr_same]
    rfl
  · rw [State.cause_settle]
    exact State.cause_raise_rind _ (by decide) (by decide)
  · rw [State.rd_settle, State.rd_raise _ _ _ _ _ (by decide), State.rd_wr_same]
    exact Nat.mod_eq_of_lt (satNat_lt _ _)

theorem State.bcast_cmds (s : State) (b : Nat) : (s.bcast b).cmds = s.cmds := State.each_cmds _ _ _ fun c a => by
  show (if a.attached c then a.bcastTo c b else a).cmds = a.cmds
  split <;> rfl

theorem State.startCmd_advance {k : Cmd} (h : k.op = 0x13) (s : State) : State.startCmd k s = State.startAdvance k s := by
  unfold State.startCmd
  rw [h]
  rfl

theorem runs_lifecycleAdvance {q : Request} (h : s.accepts 0x13 q) :
    Runs (.lifecycleAdvance q) s (fun u => u.inFlight (s.cmdOf 0x13 q) ∧ ∀ c, c < 4 → s.attached c = true → u.bcastSet c 6 = true) := by
  have hst : (s.cmdOf 0x13 q).started = true := rfl
  have hop : (s.cmdOf 0x13 q).op = 0x13 := rfl
  have htake := State.takeRequest_of_accepts h
  generalize s.cmdOf 0x13 q = k at *
  have hx : exec (.lifecycleAdvance q) s = done (((s.fly k).fly k).bcast bResetPending) := by
    show done (s.takeRequest 0x13 q) = _
    rw [htake, State.startCmd_advance hop]
    rfl
  refine runs_done hx ⟨?_, fun c hc ha => ?_⟩
  · unfold State.inFlight
    rw [State.settle_cmds, State.bcast_cmds]
    exact (State.carries_fly _ hst).1
  · rw [State.bcastSet_settle]
    refine State.bcastSet_bcast _ (by decide) hc ?_
    rw [State.fly_eq, State.fly_eq]
    exact ha

theorem runs_lifecycleHoldExpiry {k : Cmd} (hk : s.findOp 0x13 = some k) :
    Runs .lifecycleHoldExpiry s (fun u => u.phase = .reset ∧ u.lifeProg.map (·.1) = some (k.arg 0) ∧ u.lifeCycle = s.lifeCycle) := by
  refine runs_done (v := s.toProgram) rfl ?_
  rw [State.settle_phase, State.settle_lifeProg, State.settle_lifeCycle]
  unfold State.toProgram
  rw [hk]
  exact ⟨rfl, rfl, rfl⟩

/-- A reset in progress records the cause `LIFE` and leaves what else it holds, no advance being cut short. -/
theorem State.addCause_life (h : s.lifeProg = none) : s.addCause rcLife = { s with resetCauses := s.resetCauses ||| 2 ^ rcLife } := by
  unfold State.addCause
  dsimp only
  rw [if_neg (by decide)]
  dsimp only
  rw [h]

/-- The end of the programming of OTP enters the reset with its cause, or stays in the one in progress (R411). -/
theorem runs_lifecycleOtpDone {n : Nat} {hash : List Nat} (hp : s.lifeProg = some (n, hash)) (hth : bitAt s.resetCauses 4 = false)
    (hn : s.lifeCycle < n) (hn4 : n < 4) :
    Runs .lifecycleOtpDone s (fun u => u.lifeCycle = n ∧ u.phase = .reset ∧ bitAt u.resetCauses 5 = true) := by
  have hx : exec .lifecycleOtpDone s = done (((({ s with lifeProg := none } : State).bump).newLife n hash).enterReset rcLife) := by
    show execLifecycleOtpDone s = _
    unfold execLifecycleOtpDone
    rw [hp]
    dsimp only
    have hcut (P : Prop) : ¬ (bitAt s.resetCauses 4 = true ∧ P) := by simp [hth]
    exact congrArg (fun v => done (State.enterReset v rcLife)) (if_neg (hcut _))
  have hlife : ((({ s with lifeProg := none } : State).bump).newLife n hash).lifeCycle = n := by
    show max s.lifeCycle (n % 4) = n
    rw [Nat.mod_eq_of_lt hn4]
    omega
  have hprog : ((({ s with lifeProg := none } : State).bump).newLife n hash).lifeProg = none := rfl
  refine runs_done hx ?_
  rw [State.settle_phase, State.settle_lifeCycle, State.settle_resetCauses]
  generalize (({ s with lifeProg := none } : State).bump).newLife n hash = v at *
  unfold State.enterReset
  have hbit (m : Nat) : bitAt (m ||| 2 ^ rcLife) 5 = true := by
    have h5 : (2 ^ rcLife).testBit 5 = true := rfl
    rw [bitAt, Nat.testBit_or, h5, Bool.or_true]
  split
  · next hph =>
    rw [State.addCause_life hprog]
    exact ⟨hlife, hph, hbit _⟩
  · rw [State.addCause_life (s := v.intoReset) hprog]
    exact ⟨hlife, rfl, hbit _⟩

theorem runs_otpDone {a v : Nat} (got : Nat) (hp : s.otpProg = some (a, v)) :
    Runs (.otpDone got) s (fun u => look 0 u.otp a = look 0 s.otp a ||| (v &&& got) ∧ u.flag pageLc R.LC.OTP_STAT_BUSY = false ∧
      (if look 0 s.otp a ||| (v &&& got) = look 0 s.otp a ||| v then u.cause pageLc 0 = true ∧ u.flag pageLc R.LC.OTP_STAT_FAIL = false
       else u.cause pageLc 1 = true ∧ u.flag pageLc R.LC.OTP_STAT_FAIL = true)) := by
  generalize hw : look 0 s.otp a ||| (v &&& got) = w
  generalize hall : look 0 s.otp a ||| v = w'
  have hx : exec (.otpDone got) s = done (((({ s with otp := put 0 s.otp a w, otpProg := none } : State).wr pageLc R.LC.OTP_STAT_BUSY 0).wr pageLc
      R.LC.OTP_STAT_FAIL (b2n (!(w == w')))).raise pageLc (if w == w' then 0 else 1)) := by
    show execOtpDone got s = _
    unfold execOtpDone
    rw [hp]
    dsimp only
    rw [hw, hall]
  refine runs_done hx ?_
  rw [State.settle_otp, State.flag_settle, State.flag_settle, State.cause_settle, State.cause_settle]
  refine ⟨?_, ?_, ?_⟩
  · rw [State.raise_otp]
    exact look_put_same _ _ _ _
  · rw [State.flag, State.rd_raise _ _ _ _ _ (by decide), State.rd_wr_place _ _ _ _ _ _ (by decide), State.rd_wr_same]
    rfl
  · by_cases heq : w = w'
    · rw [if_pos heq, if_pos (beq_iff_eq.2 heq), heq, beq_self_eq_true]
      refine ⟨State.cause_raise_rind _ (by decide) (by decide), ?_⟩
      rw [State.flag, State.rd_raise _ _ _ _ _ (by decide), State.rd_wr_same]
      rfl
    · have hbeq : (w == w') = false := by simpa using heq
      rw [if_neg heq, hbeq, if_neg (by decide)]
      refine ⟨State.cause_raise_rind _ (by decide) (by decide), ?_⟩
      rw [State.flag, State.rd_raise _ _ _ _ _ (by decide), State.rd_wr_same]
      rfl

end

/-! ### The test access port (R431, R434) -/

section
variable {s : State}

theorem State.porstNow_of_high (h : s.porstLow = false) : s.porstNow = s := by
  unfold State.porstNow
  rw [if_neg (by simp [h])]

theorem State.tdoOut_of_open (h : s.outsOpen = true) (v : Nat) : s.tdoOut v = s.emit (.jtag v) := by
  unfold State.tdoOut
  rw [if_pos h]

theorem runs_jtag_idcode (pins : Nat) (ho : s.outsOpen = true) :
    Runs (.jtagInstruction 1 pins) s (fun u => u.tapIr = 1 ∧ ∃ l, u.out = l ++ Out.jtag 0x2B048B51 :: s.out) := by
  have hopen : ({ s.porstNow with tapIr := 1 } : State).outsOpen = true := by
    unfold State.porstNow
    split <;> exact ho
  have hout : s.porstNow.out = s.out := by
    unfold State.porstNow
    split <;> rfl
  have hx : exec (.jtagInstruction 1 pins) s = done (({ s.porstNow with tapIr := 1 } : State).emit (.jtag 0x2B048B51)) := by
    rw [← State.tdoOut_of_open hopen]
    rfl
  obtain ⟨l, hl⟩ := (State.settle_sends (({ s.porstNow with tapIr := 1 } : State).emit (.jtag 0x2B048B51))).out
  refine runs_done hx ⟨State.settle_tapIr _, l, ?_⟩
  rw [hl, ← hout]
  rfl

/-- While PORST_N is high the level at a ball does not depend on the instruction of the test access port. -/
theorem State.pad_tapIr (h : s.porstLow = false) (i : Nat) (b : Ball) : ({ s with tapIr := i } : State).pad b = s.pad b := by
  have hdrives : ({ s with tapIr := i } : State).scanDrives = s.scanDrives := by simp [State.scanDrives, h]
  have hdriven : ({ s with tapIr := i } : State).driven b = s.driven b := by cases b <;> rfl
  unfold State.pad
  rw [hdrives, hdriven]
  rfl

theorem State.scanCapture_tapIr (h : s.porstLow = false) (i x : Nat) : ({ s with tapIr := i } : State).scanCapture x = s.scanCapture x := by
  unfold State.scanCapture
  simp only [State.pad_tapIr h]

theorem runs_jtag_sample (x : Nat) (ho : s.outsOpen = true) (hp : s.porstLow = false) :
    Runs (.jtagInstruction 2 x) s (fun u => u.bsr = x / 2 ^ scanChain.length % 2 ^ scanChain.length ∧
      ∃ l, u.out = l ++ Out.jtag (s.scanCapture x) :: s.out) := by
  have hx : exec (.jtagInstruction 2 x) s = done (({ s with tapIr := 2 } : State).scan x) := by
    show done (s.jtag 2 x) = _
    unfold State.jtag
    rw [State.porstNow_of_high hp]
    rfl
  obtain ⟨l, hl⟩ := (State.settle_sends (({ s with tapIr := 2 } : State).scan x)).out
  refine runs_done hx ⟨State.settle_bsr _, l, ?_⟩
  rw [hl]
  unfold State.scan
  rw [State.scanCapture_tapIr hp, State.tdoOut_of_open (s := { s with tapIr := 2 }) ho]
  rfl

theorem runs_jtag_extest (x : Nat) (ho : s.outsOpen = true) (hp : s.porstLow = false) :
    Runs (.jtagInstruction 3 x) s (fun u => u.tapIr = 3 ∧ u.bsr = s.bsr ∧ ∃ l, u.out = l ++ Out.jtag 0 :: s.out) := by
  have hx : exec (.jtagInstruction 3 x) s = done (({ s with tapIr := 3 } : State).emit (.jtag 0)) := by
    show done (s.jtag 3 x) = _
    unfold State.jtag
    rw [State.porstNow_of_high hp]
    show done (if ({ s with tapIr := 3 } : State).scanDrives then _ else _) = _
    rw [if_neg (by simp [State.scanDrives, hp]), State.tdoOut_of_open (s := { s with tapIr := 3 }) ho]
  obtain ⟨l, hl⟩ := (State.settle_sends (({ s with tapIr := 3 } : State).emit (.jtag 0))).out
  exact runs_done hx ⟨State.settle_tapIr _, State.settle_bsr _, l, hl⟩

end

/-! ### Registers of the boot and life-cycle pages (R409, R415) -/

section
variable {s : State} {ctx : Nat}

/-- A write of BOOT_PUSH_LEN while a push is awaited: its field, and the start of the push. -/
theorem State.write_pushLen {v : Nat} (hv : v < 2 ^ 32) (hw : s.writes ctx pageBoot) (hwait : s.flag pageBoot R.BOOT.BOOT_STAT_WAIT_PUSH = true) :
    ∃ x, s.write ctx pageBoot 0x044 v = (s.wr pageBoot R.BOOT.BOOT_PUSH_LEN x).pushStart v := by
  have hrow : fieldsAt .boot 0x044 = [(R.BOOT.BOOT_PUSH_LEN, 0)] := by decide
  have herr : s.fieldErr pageBoot .boot (v % 2 ^ 32) (R.BOOT.BOOT_PUSH_LEN, 0) = 0 := by
    simp [State.fieldErr, State.readsOnly, State.ruleOk, State.lockedField, hwait, R.BOOT.BOOT_PUSH_LEN, R.HDR.HDR_COMMIT_AT_BOUNDARY,
      R.HDR.HDR_OWNER_OWNER, Legal.ok]
  have hkeep : s.keeps pageBoot .boot (v % 2 ^ 32) R.BOOT.BOOT_PUSH_LEN 0 = false := by
    simp [State.keeps, State.windowShut, hw.2.2.2, R.BOOT.BOOT_PUSH_LEN, R.HDR.HDR_OWNER_OWNER]
  refine ⟨bits (v % 2 ^ 32) 0 24, ?_⟩
  rw [State.write_ok (b := .boot) s hw (by decide) (by decide) (by decide) (by decide) (by decide) (by decide) (.inr (by decide)) (by rw [hrow]; simp)
    (by rw [hrow]; simpa using herr), hrow]
  have hfield : s.fieldWrite pageBoot .boot (v % 2 ^ 32) (R.BOOT.BOOT_PUSH_LEN, 0) s = s.wr pageBoot R.BOOT.BOOT_PUSH_LEN (bits (v % 2 ^ 32) 0 24) := by
    unfold State.fieldWrite
    dsimp only
    rw [herr, hkeep, if_neg (by simp)]
    rfl
  have hwin : s.windowShut pageBoot 0x044 = false := by simp [State.windowShut, hw.2.2.2]
  rw [List.foldl, List.foldl, hfield, Nat.mod_eq_of_lt hv]
  unfold State.regEffect
  dsimp only
  rw [hwin]
  rfl

theorem runs_bootPushLenWrite {v : Nat} (hv : v < 2 ^ 32) (hw : s.writes ctx pageBoot) (hwait : s.flag pageBoot R.BOOT.BOOT_STAT_WAIT_PUSH = true) :
    Runs (.bootPushLenWrite ctx v) s (fun u => u.pushLen = some (v % 2 ^ 24) ∧ u.pushed = [] ∧ u.bootNext = 0 ∧
      u.flag pageBoot R.BOOT.BOOT_STAT_LOADING = true) := by
  obtain ⟨x, hx⟩ := State.write_pushLen hv hw hwait
  refine runs_done (v := s.write ctx pageBoot 0x044 v) rfl ?_
  have hwait' : (s.wr pageBoot R.BOOT.BOOT_PUSH_LEN x).flag pageBoot R.BOOT.BOOT_STAT_WAIT_PUSH = true := by
    rw [State.flag, State.rd_wr_place _ _ _ _ _ _ (by decide)]
    exact hwait
  rw [hx, State.settle_pushLen, State.settle_pushed, State.settle_bootNext, State.flag_settle]
  unfold State.pushStart
  rw [if_neg (by simp [hwait'])]
  refine ⟨rfl, rfl, rfl, ?_⟩
  rw [State.flag, State.rd_wr_same]
  rfl

/-- A write of BOOT_PUSH_DATA takes its word into the push (R409). -/
theorem State.write_pushData {v : Nat} (hv : v < 2 ^ 32) (hw : s.writes ctx pageBoot) : s.write ctx pageBoot 0x048 v = s.pushWord v := by
  have hrow : fieldsAt .boot 0x048 = [(R.BOOT.BOOT_PUSH_DATA, 0)] := by decide
  have herr : s.fieldErr pageBoot .boot (v % 2 ^ 32) (R.BOOT.BOOT_PUSH_DATA, 0) = 0 := by
    simp [State.fieldErr, State.readsOnly, State.ruleOk, State.lockedField, R.BOOT.BOOT_PUSH_DATA, R.HDR.HDR_COMMIT_AT_BOUNDARY,
      R.HDR.HDR_OWNER_OWNER]
  rw [State.write_ok (b := .boot) s hw (by decide) (by decide) (by decide) (by decide) (by decide) (by decide) (.inr (by decide)) (by rw [hrow]; simp)
    (by rw [hrow]; simpa using herr), hrow]
  have hfield : s.fieldWrite pageBoot .boot (v % 2 ^ 32) (R.BOOT.BOOT_PUSH_DATA, 0) s = s := by
    unfold State.fieldWrite
    dsimp only
    split <;> rfl
  have hwin : s.windowShut pageBoot 0x048 = false := by simp [State.windowShut, hw.2.2.2]
  rw [List.foldl, List.foldl, hfield, Nat.mod_eq_of_lt hv]
  unfold State.regEffect
  dsimp only
  rw [hwin]
  rfl

theorem runs_bootPushDataWrite {v n : Nat} (hv : v < 2 ^ 32) (hw : s.writes ctx pageBoot) (hn : s.pushLen = some n)
    (hlen : s.pushed.length + 4 < n) (h32 : s.pushed.length + 4 ≠ 32) :
    Runs (.bootPushDataWrite ctx v) s (fun u => u.pushed = s.pushed ++ leOct 4 v ∧ u.regs = s.regs) := by
  have hword : (s.pushed ++ leOct 4 v).length = s.pushed.length + 4 := by
    rw [List.length_append]
    rfl
  have htake : (s.pushed ++ leOct 4 v).take n = s.pushed ++ leOct 4 v := List.take_of_length_le (by omega)
  have hx : s.pushWord v = { s with pushed := s.pushed ++ leOct 4 v } := by
    unfold State.pushWord
    rw [hn]
    dsimp only
    rw [if_neg (by omega), htake, hword, if_neg (by omega), if_neg (by omega), if_neg (by omega), if_neg (by omega)]
  refine runs_done (v := s.write ctx pageBoot 0x048 v) rfl ?_
  rw [State.write_pushData hv hw, hx, State.settle_pushed, State.settle_regs]
  exact ⟨rfl, rfl⟩

/-- A write of PROG starts the programming of the word at OTP_ADDR, while OTP is open (R415). -/
theorem State.write_otpProg (hw : s.writes ctx pageLc) (hlife : s.lifeCycle < 2) :
    ∃ x, s.write ctx pageLc 0x088 1 = (s.wr pageLc R.LC.OTP_CMD_PROG x).otpStart := by
  have hrow : fieldsAt .lc 0x088 = [(R.LC.OTP_CMD_PROG, 0)] := by decide
  have hopen : s.otpClosed = false := by simp [State.otpClosed, hlife]
  have herr : s.fieldErr pageLc .lc (1 % 2 ^ 32) (R.LC.OTP_CMD_PROG, 0) = 0 := by
    simp [State.fieldErr, State.readsOnly, State.ruleOk, State.lockedField, hopen, R.LC.OTP_CMD_PROG, R.HDR.HDR_COMMIT_AT_BOUNDARY,
      R.HDR.HDR_OWNER_OWNER]
  have hkeep : s.keeps pageLc .lc (1 % 2 ^ 32) R.LC.OTP_CMD_PROG 0 = false := by
    simp [State.keeps, State.windowShut, hw.2.2.2, R.LC.OTP_CMD_PROG, R.HDR.HDR_OWNER_OWNER]
  refine ⟨s.rd pageLc R.LC.OTP_CMD_PROG ||| 1, ?_⟩
  rw [State.write_ok (b := .lc) s hw (by decide) (by decide) (by decide) (by decide) (by decide) (by decide) (.inr (by decide)) (by rw [hrow]; simp)
    (by rw [hrow]; simpa using herr), hrow]
  have hfield : s.fieldWrite pageLc .lc (1 % 2 ^ 32) (R.LC.OTP_CMD_PROG, 0) s =
      s.wr pageLc R.LC.OTP_CMD_PROG (s.rd pageLc R.LC.OTP_CMD_PROG ||| 1) := by
    unfold State.fieldWrite
    dsimp only
    rw [herr, hkeep, if_neg (by simp)]
    rfl
  have hwin : s.windowShut pageLc 0x088 = false := by simp [State.windowShut, hw.2.2.2]
  rw [List.foldl, List.foldl, hfield]
  unfold State.regEffect
  dsimp only
  rw [hwin]
  rfl

theorem runs_otpProg (hw : s.writes ctx pageLc) (hlife : s.lifeCycle < 2) (hn : s.otpProg = none) :
    Runs (.otpProg ctx) s (fun u => u.otpProg = some (s.rd pageLc R.LC.OTP_ADDR, s.rd pageLc R.LC.OTP_DATA) ∧
      u.flag pageLc R.LC.OTP_STAT_BUSY = true ∧ u.flag pageLc R.LC.OTP_STAT_FAIL = false) := by
  obtain ⟨x, hx⟩ := State.write_otpProg hw hlife
  refine runs_done (v := s.write ctx pageLc 0x088 1) rfl ?_
  have hclosed : ¬ ((((s.wr pageLc R.LC.OTP_CMD_PROG x).wr pageLc R.LC.OTP_CMD_PROG 0).otpClosed = true) ∨
      ((s.wr pageLc R.LC.OTP_CMD_PROG x).wr pageLc R.LC.OTP_CMD_PROG 0).otpProg.isSome = true) := by
    rintro (h | h)
    · exact absurd (of_decide_eq_true h) (Nat.not_le.2 hlife)
    · rw [State.wr_otpProg, State.wr_otpProg, hn] at h
      cases h
  rw [hx, State.settle_otpProg, State.flag_settle, State.flag_settle]
  unfold State.otpStart
  dsimp only
  rw [if_neg hclosed, State.rd_wr_place _ _ _ _ _ _ (by decide), State.rd_wr_place _ _ _ _ _ _ (by decide),
    State.rd_wr_place _ _ _ _ _ _ (by decide), State.rd_wr_place _ _ _ _ _ _ (by decide)]
  refine ⟨rfl, ?_, ?_⟩
  · rw [State.flag, State.rd_wr_place _ _ _ _ _ _ (by decide), State.rd_wr_same]
    rfl
  · rw [State.flag, State.rd_wr_same]
    rfl

end

/-! ### An engine image of the boot image (R406) -/

section
variable (s : State) (e : Nat) (l : List Byte)

/-- From `s` to `u` nothing but registers and what the engines hold has changed. -/
def State.EnginesOnly (s u : State) : Prop := u = { s with regs := u.regs, engines := u.engines }

theorem State.EnginesOnly.refl (s : State) : s.EnginesOnly s := rfl

theorem State.EnginesOnly.trans {s t u : State} (h : s.EnginesOnly t) (k : t.EnginesOnly u) : s.EnginesOnly u := by
  unfold State.EnginesOnly at *
  rw [k, h]

theorem State.EnginesOnly.wrI (s : State) (p : Nat) (f : Fld) (i v : Nat) : s.EnginesOnly (s.wrI p f i v) := rfl
theorem State.EnginesOnly.wr (s : State) (p : Nat) (f : Fld) (v : Nat) : s.EnginesOnly (s.wr p f v) := rfl
theorem State.EnginesOnly.onEng (s : State) (e : Nat) (f : Engine → Engine) : s.EnginesOnly (s.onEng e f) := rfl

theorem State.EnginesOnly.raise (s : State) (p b : Nat) : s.EnginesOnly (s.raise p b) := by
  unfold State.raise
  split <;> rfl

theorem State.EnginesOnly.each (s : State) (n : Nat) (f : Nat → State → State) (h : ∀ i a, State.EnginesOnly a (f i a)) : s.EnginesOnly (s.each n f) :=
  State.each_rel State.EnginesOnly.refl State.EnginesOnly.trans n f h s

theorem State.setTask_enginesOnly (t x : Nat) : s.EnginesOnly (s.setTask e t x) := .wrI _ _ _ _ _

theorem State.openTask_enginesOnly (t : Nat) : s.EnginesOnly (s.openTask e t) := (State.EnginesOnly.onEng s e _).trans (State.setTask_enginesOnly _ e t _)

theorem State.wipeEngine_enginesOnly : s.EnginesOnly (s.wipeEngine e) := by
  have hempty (i : Nat) (a : State) : a.EnginesOnly ((a.setTask e i tkEmpty).wrI (pageEng e) R.ENGE.TASK_STAT_FAULT_CODE i 0) :=
    (a.setTask_enginesOnly e i _).trans (.wrI _ _ _ _ _)
  have hdesc (i : Nat) (a : State) : a.EnginesOnly (a.wrI (pageEng e) R.ENGE.TASK_DESC i 0) := .wrI _ _ _ _ _
  unfold State.wipeEngine
  dsimp only
  exact ((((((State.EnginesOnly.onEng s e _).trans (.each _ 16 _ hempty)).trans (.each _ 64 _ hdesc)).trans (.wr _ _ _ _)).trans (.wr _ _ _ _)).trans
    (.wr _ _ _ _)).trans (.wr _ _ _ _)

theorem State.installImage_enginesOnly : s.EnginesOnly (s.installImage e l) := by
  have hdesc (i : Nat) (a : State) : a.EnginesOnly (a.wrI (pageEng e) R.ENGE.TASK_DESC i (leWord l (0x20 + 4 * i))) := .wrI _ _ _ _ _
  have hload (t : Nat) (a : State) : a.EnginesOnly (a.setTask e t tkLoaded) := a.setTask_enginesOnly e t _
  have hopen (t : Nat) (a : State) : a.EnginesOnly (if bitAt (leWord l (0x28 + 16 * t)) 0 then a.openTask e t else a) := by
    split
    · exact a.openTask_enginesOnly e t
    · rfl
  unfold State.installImage
  dsimp only
  exact ((((((((((s.wipeEngine_enginesOnly e).trans (.onEng _ e _)).trans (.each _ _ _ hdesc)).trans (.wr _ _ _ _)).trans (.wr _ _ _ _)).trans
    (.wr _ _ _ _)).trans (.wr _ _ _ _)).trans (.each _ _ _ hload)).trans (.raise _ _ _)).trans (.each _ _ _ hopen))

/-- An image loaded brings its code into the engine (R348). -/
theorem State.installImage_code : ((s.installImage e l).eng e).code = octets l 0x120 (imgCode l) := by
  have hview (n : Nat) (f : Nat → State → State) (v : State) (hf : ∀ i a, ((f i a).eng e).code = (a.eng e).code) :
      ((v.each n f).eng e).code = (v.eng e).code := State.each_keeps (fun a : State => (a.eng e).code) n f v hf
  have hset (t x : Nat) (a : State) : ((a.setTask e t x).eng e).code = (a.eng e).code := rfl
  have hopen (t : Nat) (a : State) : ((if bitAt (leWord l (0x28 + 16 * t)) 0 then a.openTask e t else a).eng e).code = (a.eng e).code := by
    split
    · rw [State.openTask, hset, State.eng_onEng_same]
    · rfl
  unfold State.installImage
  dsimp only
  rw [hview _ _ _ hopen, State.eng_raise, hview _ _ _ fun t a => hset t _ a, State.eng_wr, State.eng_wr, State.eng_wr, State.eng_wr,
    hview _ _ _ fun i a => congrArg Engine.code (State.eng_wrI a _ _ i _ e), State.eng_onEng_same]

/-- An image loaded shows in `ENG_E_STAT.IMAGE` (R348). -/
theorem State.installImage_shown : (s.installImage e l).rd (pageEng e) R.ENGE.ENG_E_STAT_IMAGE = 2 := by
  have hn : imgTasks l < 32 := bits_lt _ 0 5
  have hplace {t : Nat} (ht : t < 32) : R.ENGE.TASK_STAT_STATE.inPage t = true ∧
      R.ENGE.TASK_STAT_STATE.place t ≠ R.ENGE.ENG_E_STAT_IMAGE.place 0 :=
    (show ∀ t < 32, R.ENGE.TASK_STAT_STATE.inPage t = true ∧ R.ENGE.TASK_STAT_STATE.place t ≠ R.ENGE.ENG_E_STAT_IMAGE.place 0 by decide) t ht
  have hset (a : State) {t : Nat} (ht : t < imgTasks l) (x : Nat) :
      State.Only (fun _ x => x ≠ R.ENGE.ENG_E_STAT_IMAGE.place 0) a (a.setTask e t x) :=
    .wrI (.refl a) x (hplace (ht.trans hn)).1 (hplace (ht.trans hn)).2
  have hopen (v : State) : State.Only (fun _ x => x ≠ R.ENGE.ENG_E_STAT_IMAGE.place 0) v
      (v.each (imgTasks l) fun t a => if bitAt (leWord l (0x28 + 16 * t)) 0 then a.openTask e t else a) :=
    .each _ _ (.refl v) fun a t ht => .ite (.trans (.of_regs rfl) (hset _ ht _)) (.refl a)
  have htasks (v : State) : State.Only (fun _ x => x ≠ R.ENGE.ENG_E_STAT_IMAGE.place 0) v (v.each (imgTasks l) fun t a => a.setTask e t tkLoaded) :=
    .each _ _ (.refl v) fun a t ht => hset a ht _
  refine ((hopen _).rd rfl (not_not.2 rfl)).trans ?_
  rw [State.rd_raise _ _ _ _ _ (by decide)]
  refine ((htasks _).rd rfl (not_not.2 rfl)).trans ?_
  rw [State.rd_wr_place _ _ _ _ _ _ (by decide), State.rd_wr_place _ _ _ _ _ _ (by decide), State.rd_wr_place _ _ _ _ _ _ (by decide),
    State.rd_wr_same]
  rfl

end

theorem runs_bootSectionLoaded {s : State} {flash : List Byte} {ver fmt e nx : Nat} {x : List Byte}
    (hload : s.flag pageBoot R.BOOT.BOOT_STAT_LOADING = true) (hpush : s.pushLen = none) (hhdr : bootHeaderBad flash = false)
    (hsec : bootSection flash s.bootNext 32 = some (3, e, x, nx)) (he : e < 8) (himg : s.imageStatus e x x.length true = 0)
    (hwait : s.startWait = false) (hlast : s.bootNext + 1 ≠ leWord flash 12) :
    Runs (.bootSectionLoaded flash false true ver fmt) s (fun u => u.bootNext = s.bootNext + 1 ∧
      bitAt (u.rd pageBoot R.BOOT.BOOT_STAT_LOADED) e = true ∧ (u.eng e).code = octets x 0x120 (imgCode x) ∧
      u.rd (pageEng e) R.ENGE.ENG_E_STAT_IMAGE = 2) := by
  have hnext : (s.installImage e x).bootNext = s.bootNext := by rw [s.installImage_enginesOnly e x]
  have hstart : (s.installImage e x).startWait = false := by rw [s.installImage_enginesOnly e x]; exact hwait
  have hcode := s.installImage_code e x
  have hshown := s.installImage_shown e x
  have hx : exec (.bootSectionLoaded flash false true ver fmt) s = done { (s.installImage e x).wr pageBoot R.BOOT.BOOT_STAT_LOADED
      ((s.installImage e x).rd pageBoot R.BOOT.BOOT_STAT_LOADED ||| 2 ^ e) with bootNext := s.bootNext + 1 } := by
    show execBootSectionLoaded flash false true ver fmt s = _
    unfold execBootSectionLoaded State.bootLoad
    rw [if_neg (by simp [hload]), hpush, hsec]
    dsimp only
    rw [if_neg (by decide), if_neg (by simp [hhdr]), if_neg (by decide), if_neg (by decide), if_pos ⟨rfl, he⟩, if_pos (show _ = stOk from himg)]
    dsimp only
    generalize s.installImage e x = w at *
    simp only [State.wr_startWait, State.wr_bootNext, hstart, hnext, Bool.false_eq_true, if_false, hlast]
  generalize s.installImage e x = w at *
  refine runs_done hx ?_
  rw [State.settle_bootNext, State.rd_settle, State.rd_settle, State.eng_settle]
  refine ⟨rfl, ?_, hcode, ?_⟩
  · show bitAt ((w.wr pageBoot R.BOOT.BOOT_STAT_LOADED (w.rd pageBoot R.BOOT.BOOT_STAT_LOADED ||| 2 ^ e)).rd pageBoot R.BOOT.BOOT_STAT_LOADED) e = true
    rw [State.rd_wr_same, bitAt, show R.BOOT.BOOT_STAT_LOADED.w = 8 from rfl, Nat.testBit_mod_two_pow, Nat.testBit_or, Nat.testBit_two_pow_self]
    simp [he]
  · show (w.wr pageBoot R.BOOT.BOOT_STAT_LOADED _).rd (pageEng e) R.ENGE.ENG_E_STAT_IMAGE = 2
    rw [State.rd_wr_place _ _ _ _ _ _ (by decide)]
    exact hshown

/-! ### Wedged blocks (R36, R148, R157, R358) -/

/-- What the ends of commands change of the registers. -/
def cplReachAny (q x : Nat) : Prop := ∃ c < 4, cplReach c q x

section
variable (s : State)

theorem State.finish_only (k : Cmd) (st d r0 r1 : Nat) : State.Only cplReachAny s (s.finish k st d r0 r1) := by
  have hslot : (({ s with cmds := s.cmds.filter (fun j => ! j.is k.ctx k.count) } : State).endSlot k st).regs = s.regs := by rw [State.endSlot_eq]
  refine (State.Only.of_regs hslot).trans ?_
  by_cases hk : k.ctx < 4
  · exact (State.cplPost_only _ _ _).mono fun q x hE => ⟨_, hk, hE⟩
  · unfold State.finish State.cplPost
    rw [if_pos (Nat.le_of_not_lt hk)]
    exact .refl _

theorem State.failWaiting_only (t op : Nat) : State.Only cplReachAny s (s.failWaiting t op) := by
  unfold State.failWaiting
  split
  · exact .ite (s.finish_only _ _ _ _ _) (.refl s)
  · exact .refl s

theorem State.calRunDone_only (p : Nat) (ok : Bool) : State.Only cplReachAny s (s.calRunDone p ok) := by
  unfold State.calRunDone
  exact .foldl _ _ (.refl s) fun a k _ => .ite (a.finish_only _ _ _ _ _) (.ite (a.finish_only _ _ _ _ _) (.of_regs rfl))

/-- What a TCU's failure changes of the registers, once the TCU shows its state, its code and its faults. -/
def failReach (q x : Nat) : Prop := cplReachAny q x ∨ q = pageArb ∨ q = pageCaldir ∨ x = R.CTL.TCU_STAT_LOCKSTEP.place 0

theorem State.runCut_only (t : Nat) : State.Only failReach s (s.runCut t) := by
  have hskip (a : State) : State.Only failReach a (a.pllSkip t) := by
    unfold State.pllSkip State.skipSects
    exact .ite (.ite (.wr (.of_regs rfl) _ rfl (.inr (.inr (.inl rfl)))) (.of_regs rfl)) (.refl a)
  have hend (a : State) : State.Only failReach a (a.runEnd (pageSynth t)) := .wr (.of_regs rfl) _ rfl (.inr (.inr (.inl rfl)))
  unfold State.runCut
  exact .ite (((hend s).trans ((State.calRunDone_only _ _ _).mono fun _ _ hE => .inl hE)).trans (hskip _)) (.refl s)

theorem State.claims_only : State.Only failReach s s.showClaims.showLockstep.revertCheck := by
  have hclaims : State.Only failReach s s.showClaims := .wr (.wr (.refl s) _ rfl (.inr (.inl rfl))) _ rfl (.inr (.inl rfl))
  have hlock (a : State) : State.Only failReach a a.showLockstep :=
    .wr (.wr (.refl a) _ rfl (.inr (.inr (.inr rfl)))) _ rfl (.inr (.inr (.inr rfl)))
  have hrevert (a : State) : State.Only failReach a a.revertCheck := by
    unfold State.revertCheck
    exact .ite (.refl a) (.of_regs rfl)
  exact (hclaims.trans (hlock _)).trans (hrevert _)

/-- What a change of a TCU's state changes of the registers. -/
theorem State.setTcuState_only (t x : Nat) :
    State.Only (fun _ y => y ∈ [R.CTL.TCU_STAT_STATE.place 0, R.HDR.HDR_INT_CAUSE.place 0, R.SYNTH.SYN_STAT_ACTIVE.place 0,
      R.CTL.TCU_STAT_FAIL_CODE.place 0]) s (s.setTcuState t x) := by
  have hshow : State.Only (fun _ y => y ∈ [R.CTL.TCU_STAT_STATE.place 0, R.HDR.HDR_INT_CAUSE.place 0, R.SYNTH.SYN_STAT_ACTIVE.place 0,
      R.CTL.TCU_STAT_FAIL_CODE.place 0]) s { ((s.wr (pageCtl t) R.CTL.TCU_STAT_STATE x).raise (pageCtl t) 0).wr (pageSynth t)
        R.SYNTH.SYN_STAT_ACTIVE (b2n (x == tsActive)) with judging := false } :=
    .upd (.wr (.raise (.wr (.refl s) _ rfl (by simp)) _ (by simp)) _ rfl (by simp)) rfl
  unfold State.setTcuState
  exact .ite (.refl s) (.ite (.wr hshow _ rfl (by simp)) hshow)

end

/-- The failure of a TCU that does not hold the token leaves the registers that show it. -/
theorem failReach_not {t x : Nat} (ht : t < 2) (hx : x ≠ R.CTL.TCU_STAT_LOCKSTEP.place 0) : ¬ failReach (pageCtl t) x ∧ ¬ failReach (pageTime t) x := by
  have hpages : ∀ t < 2, (∀ c < 4, pageCtl t ≠ pageHC c ∧ pageTime t ≠ pageHC c) ∧ pageCtl t ≠ pageArb ∧ pageTime t ≠ pageArb ∧
      pageCtl t ≠ pageCaldir ∧ pageTime t ≠ pageCaldir := by decide
  obtain ⟨hhc, hca, hta, hcc, htc⟩ := hpages t ht
  constructor
  · rintro (⟨c, hc, hq, -⟩ | hq | hq | hq)
    exacts [(hhc c hc).1 hq, hca hq, hcc hq, hx hq]
  · rintro (⟨c, hc, hq, -⟩ | hq | hq | hq)
    exacts [(hhc c hc).2 hq, hta hq, htc hq, hx hq]

/-- A page that is and whose domain is on may wedge. -/
theorem pageOpen {s : State} {p : Nat} (hb : (pageBlk p).isSome) (hon : s.pageOn p) : ¬ ((pageBlk p).isNone = true ∨ s.pageOff p = true) := by
  rintro (h | h)
  · rw [Option.isNone_iff_eq_none] at h
    rw [h] at hb
    cases hb
  · rw [State.pageOff, show s.pwr (pageDomain p) = 2 from hon] at h
    exact absurd h (by decide)

theorem runs_blockWedged {s : State} {p : Nat} (hb : (pageBlk p).isSome) (hon : s.pageOn p) (ht : isTcu p = false) :
    Runs (.blockWedged p) s (fun u => u.flag p R.HDR.HDR_STATUS_FAULT = true ∧ u.rd p R.HDR.HDR_STATUS_FAULT_CODE = 2) := by
  have hx : exec (.blockWedged p) s = done (s.setFault p 2) := by
    show execBlockWedged p s = _
    unfold execBlockWedged
    rw [if_neg (pageOpen hb hon), if_neg (by simp [ht])]
  refine runs_done hx ?_
  rw [State.flag, State.rd_settle, State.rd_settle]
  unfold State.setFault
  rw [State.rd_wr_place _ _ _ _ _ _ (by decide), State.rd_wr_same, State.rd_wr_same]
  exact ⟨rfl, rfl⟩

/-- A standby TCU that fails leaves the token where it is. -/
theorem State.failTcu_standby {s : State} {t : Nat} (hst : s.tcuState t = tsStandby) (hheld : s.tokenHeld = true → s.active ≠ t) :
    s.failTcu t 6 = ((((((((s.setTcuState t tsFailed).wr (pageCtl t) R.CTL.TCU_STAT_FAIL_CODE 6).onTcu t
      fun u => { u with causeGone := false }).setFault (pageCtl t) 2).runCut t).showClaims.showLockstep).revertCheck).failWaiting t 0x41).failWaiting t 0x40 := by
  have hh : (s.tokenHeld && s.active == t) = false := by
    by_cases h : s.tokenHeld = true
    · simp [hheld h]
    · simp [h]
  unfold State.failTcu
  dsimp only
  rw [if_neg (by rw [hst]; decide), hh, if_pos Bool.false_ne_true]
  rfl

theorem runs_blockWedged_tcu {s : State} {t : Nat} (ht : t < 2) (hon : s.pageOn (pageTime t)) (hst : s.tcuState t = tsStandby)
    (hheld : s.tokenHeld = true → s.active ≠ t) :
    Runs (.blockWedged (pageTime t)) s (fun u => u.rd (pageTime t) R.HDR.HDR_STATUS_FAULT_CODE = 2 ∧ u.tcuState t = tsFailed ∧
      u.rd (pageCtl t) R.CTL.TCU_STAT_FAIL_CODE = 6) := by
  obtain ⟨hblk, htcu, hwhich, hne⟩ := (show ∀ t < 2, (pageBlk (pageTime t)).isSome ∧ isTcu (pageTime t) = true ∧
    (if isTcuB (pageTime t) then 1 else 0) = t ∧ pageCtl t ≠ pageTime t by decide) t ht
  have hst' : (s.setFault (pageTime t) 2).tcuState t = tsStandby := by
    unfold State.tcuState State.setFault
    rw [State.rd_wr_place _ _ _ _ _ _ (by decide), State.rd_wr_place _ _ _ _ _ _ (by decide)]
    exact hst
  have hheld' : (s.setFault (pageTime t) 2).tokenHeld = true → (s.setFault (pageTime t) 2).active ≠ t := by
    unfold State.tokenHeld State.active State.setFault
    rw [State.flag, State.rd_wr_place _ _ _ _ _ _ (by decide), State.rd_wr_place _ _ _ _ _ _ (by decide),
      State.rd_wr_place _ _ _ _ _ _ (by decide), State.rd_wr_place _ _ _ _ _ _ (by decide)]
    exact hheld
  have hx : exec (.blockWedged (pageTime t)) s = done ((s.setFault (pageTime t) 2).failTcu t 6) := by
    show execBlockWedged (pageTime t) s = _
    unfold execBlockWedged
    rw [if_neg (pageOpen hblk hon), if_pos htcu, hwhich]
  rw [State.failTcu_standby hst' hheld'] at hx
  have hcode : (s.setFault (pageTime t) 2).rd (pageTime t) R.HDR.HDR_STATUS_FAULT_CODE = 2 := State.rd_wr_same _ _ _ _
  generalize s.setFault (pageTime t) 2 = w at *
  -- the failed TCU's state, code and faults, which the rest of the failure leaves
  generalize hv : (((w.setTcuState t tsFailed).wr (pageCtl t) R.CTL.TCU_STAT_FAIL_CODE 6).onTcu t fun u => { u with causeGone := false }).setFault
    (pageCtl t) 2 = v at *
  have hrest : State.Only failReach v ((((v.runCut t).showClaims.showLockstep).revertCheck.failWaiting t 0x41).failWaiting t 0x40) :=
    (((v.runCut_only t).trans (State.claims_only _)).trans ((State.failWaiting_only _ _ _).mono fun _ _ hE => .inl hE)).trans
      ((State.failWaiting_only _ _ _).mono fun _ _ hE => .inl hE)
  refine runs_done hx ?_
  rw [State.rd_settle, State.tcuState_settle, State.rd_settle, hrest.rd rfl (failReach_not ht (by decide)).2, State.tcuState,
    hrest.rd rfl (failReach_not ht (by decide)).1, hrest.rd rfl (failReach_not ht (by decide)).1, ← hv]
  unfold State.setFault
  refine ⟨?_, ?_, ?_⟩
  · rw [State.rd_wr_page _ _ _ _ rfl rfl hne, State.rd_wr_page _ _ _ _ rfl rfl hne, State.rd_onTcu, State.rd_wr_place _ _ _ _ _ _ (by decide),
      (w.setTcuState_only t _).rd rfl (by decide)]
    exact hcode
  · rw [State.rd_wr_place _ _ _ _ _ _ (by decide), State.rd_wr_place _ _ _ _ _ _ (by decide), State.rd_onTcu,
      State.rd_wr_place _ _ _ _ _ _ (by decide)]
    exact State.tcuState_setTcuState_self _ _ (by decide)
  · rw [State.rd_wr_place _ _ _ _ _ _ (by decide), State.rd_wr_place _ _ _ _ _ _ (by decide), State.rd_onTcu, State.rd_wr_same]
    rfl

/-- Settles O23: each clause is the run of its command through the equation of its operation; a TCU's failure, which writes the state and the
code first, reaches neither them nor the wedged block's fault afterwards. -/
theorem theBootImageAndOtpMoveForward : Obligations.TheBootImageAndOtpMoveForward :=
  ⟨fun _ _ _ _ _ _ _ hload hpush hhdr hsec he himg hwait hlast => runs_bootSectionLoaded hload hpush hhdr hsec he himg hwait hlast,
    fun _ _ _ hv hw hwait => runs_bootPushLenWrite hv hw hwait, fun _ _ _ _ hv hw hn hlen h32 => runs_bootPushDataWrite hv hw hn hlen h32,
    fun _ hnow hr => runs_deviceReady hnow hr, fun _ _ h => runs_lifecycleAdvance h, fun _ _ hk => runs_lifecycleHoldExpiry hk,
    fun _ _ _ hp hth hn hn4 => runs_lifecycleOtpDone hp hth hn hn4, fun _ _ hw hlife hn => runs_otpProg hw hlife hn,
    fun _ _ _ got hp => runs_otpDone got hp, fun _ pins ho => runs_jtag_idcode pins ho, fun _ x ho hp => runs_jtag_sample x ho hp,
    fun _ x ho hp => runs_jtag_extest x ho hp, fun _ _ hb hon ht => runs_blockWedged hb hon ht,
    fun _ _ ht hon hst hheld => runs_blockWedged_tcu ht hon hst hheld⟩

end Sys2Proof.Machine
end

section
/-! SUPPORT. What leaves the links, the lanes and the queues of the ports while a disable command ends: the passing of time, the selection of
the reference, and the end of commands. -/

open Sys2Proof Sys2Proof.Machine
namespace Sys2Proof.Machine

/-- The end of a command changes the commands, their slots, what the contexts hold, registers and what is put out. -/
theorem State.finish_eq (s : State) (k : Cmd) (st d r0 r1 : Nat) : s.finish k st d r0 r1 =
    { s with regs := (s.finish k st d r0 r1).regs, hosts := (s.finish k st d r0 r1).hosts, out := (s.finish k st d r0 r1).out
             cmds := (s.finish k st d r0 r1).cmds, slots := (s.finish k st d r0 r1).slots } := by
  have hpost := State.cplPost_hostsOnly ((({ s with cmds := s.cmds.filter (fun j => ! j.is k.ctx k.count) } : State)).endSlot k st) k.ctx
    ⟨k.handle, k.tag, st, d, r0, r1, k.intOn⟩
  unfold State.finish
  rw [hpost, State.endSlot_eq]

/-- From `s` to `u` the links of the ports, their lanes, queues and transmitters, and the device time stand; a command in flight stands as it
did or has gone; and a handle's slot is still that of the same command. -/
structure State.KeepsLinks (s u : State) : Prop where
  link : ∀ p, u.link p = s.link p
  rest : (u.lanes, u.voqs, u.txs, u.up) = (s.lanes, s.voqs, s.txs, s.up)
  stands : ∀ k, u.current k = s.current k ∨ u.current k = k
  gen : ∀ c h, (u.slot c h).gen = (s.slot c h).gen

namespace State.KeepsLinks
section
variable {s t u : State}

theorem refl (s : State) : KeepsLinks s s := ⟨fun _ => rfl, rfl, fun _ => .inl rfl, fun _ _ => rfl⟩

theorem trans (h : KeepsLinks s t) (g : KeepsLinks t u) : KeepsLinks s u :=
  ⟨fun p => (g.link p).trans (h.link p), g.rest.trans h.rest,
    fun k => (g.stands k).elim (fun e => (h.stands k).elim (fun f => .inl (e.trans f)) fun f => .inr (e.trans f)) .inr,
    fun c n => (g.gen c n).trans (h.gen c n)⟩

theorem current_congr (h : u.cmds = t.cmds) (k : Cmd) : u.current k = t.current k := by
  unfold State.current
  rw [h]

theorem slot_congr (h : u.slots = t.slots) (c n : Nat) : u.slot c n = t.slot c n := by
  unfold State.slot
  rw [h]

/-- An update of what the relation does not speak of. -/
theorem upd (h : KeepsLinks s t) (hl : ∀ p, u.link p = t.link p) (hr : (u.lanes, u.voqs, u.txs, u.up) = (t.lanes, t.voqs, t.txs, t.up))
    (hc : u.cmds = t.cmds) (hs : u.slots = t.slots) : KeepsLinks s u :=
  h.trans ⟨hl, hr, fun k => .inl (current_congr hc k), fun c n => congrArg Slot.gen (slot_congr hs c n)⟩

theorem ite {c : Prop} {_ : Decidable c} (h : KeepsLinks s t) (g : KeepsLinks s u) : KeepsLinks s (if c then t else u) := by
  split
  · exact h
  · exact g

theorem foldl {β : Type} {l : List β} {f : State → β → State} (h : KeepsLinks s t)
    (hf : ∀ a, ∀ b ∈ l, KeepsLinks s a → KeepsLinks s (f a b)) : KeepsLinks s (l.foldl f t) := by
  induction l generalizing t with
  | nil => exact h
  | cons b l ih => exact ih (hf t b (by simp) h) fun a c hc => hf a c (by simp [hc])

theorem each {n : Nat} {f : Nat → State → State} (h : KeepsLinks s t) (hf : ∀ a i, i < n → KeepsLinks s a → KeepsLinks s (f i a)) :
    KeepsLinks s (t.each n f) := h.foldl fun a i hi => hf a i (List.mem_range.1 hi)

theorem both {f : Nat → State → State} (h : KeepsLinks s t) (hf : ∀ a i, i < 2 → KeepsLinks s a → KeepsLinks s (f i a)) :
    KeepsLinks s (t.both f) := hf _ 1 (by decide) (hf _ 0 (by decide) h)

end

section
variable {s u : State} {q i x b j w c k : Nat} {f g : Fld}

theorem wrI (h : KeepsLinks s u) (hf : f.place i ≠ R.PORT.PORT_STAT_LINK.place 0) : KeepsLinks s (u.wrI q f i x) :=
  h.upd (fun p => State.rdI_wrI_place u q (pagePort p) f _ i 0 x hf) rfl rfl rfl

theorem wr (h : KeepsLinks s u) (hf : f.place 0 ≠ R.PORT.PORT_STAT_LINK.place 0) : KeepsLinks s (u.wr q f x) := h.wrI hf
theorem wrS {v : Int} (h : KeepsLinks s u) (hf : f.place 0 ≠ R.PORT.PORT_STAT_LINK.place 0) : KeepsLinks s (u.wrS q f v) := h.wr hf
theorem wrSat {v : Int} (h : KeepsLinks s u) (hf : f.place 0 ≠ R.PORT.PORT_STAT_LINK.place 0) : KeepsLinks s (u.wrSat q f v) := h.wr hf

theorem wrWide (h : KeepsLinks s u) (hf : f.place 0 ≠ R.PORT.PORT_STAT_LINK.place 0) (hg : g.place 0 ≠ R.PORT.PORT_STAT_LINK.place 0) :
    KeepsLinks s (u.wrWide q f g x) := (h.wr hf).wr hg

theorem raise (h : KeepsLinks s u) : KeepsLinks s (u.raise q b) := .ite h (h.wr (by decide))
theorem raiseIf {c : Bool} (h : KeepsLinks s u) : KeepsLinks s (u.raiseIf c q b) := .ite h.raise h
theorem onTcu {f : Tcu → Tcu} (h : KeepsLinks s u) : KeepsLinks s (u.onTcu i f) := h.upd (fun _ => rfl) rfl rfl rfl
theorem onMac {f : Mac → Mac} (h : KeepsLinks s u) : KeepsLinks s (u.onMac i f) := h.upd (fun _ => rfl) rfl rfl rfl
theorem onNode {f : Node → Node} (h : KeepsLinks s u) : KeepsLinks s (u.onNode i f) := h.upd (fun _ => rfl) rfl rfl rfl

/-! ### The passing of time -/

theorem showRing (h : KeepsLinks s u) : KeepsLinks s u.showRing := (h.wr (by decide)).raiseIf

theorem sampleOn (h : KeepsLinks s u) : KeepsLinks s u.sampleOn := by
  unfold State.sampleOn
  split
  · exact h
  · exact .ite h (showRing (h.upd (fun _ => rfl) rfl rfl rfl))

theorem showRem (h : KeepsLinks s u) : KeepsLinks s (u.showRem w) := h.wrSat (by decide)
theorem slewOn (h : KeepsLinks s u) : KeepsLinks s (u.slewOn w x) := .ite h h.onTcu.showRem
theorem startRuns (h : KeepsLinks s u) : KeepsLinks s (u.startRuns w x) := (h.each fun _ _ _ h => h.wr (by decide)).onTcu

theorem linesLock (h : KeepsLinks s u) : KeepsLinks s (u.linesLock w) := by
  unfold State.linesLock
  split
  · exact h
  · have hl : KeepsLinks s (u.each 24 fun c x => x.wr (pageTdc w c) R.TDC.TDC_STAT_LINE_LOCK 0x1F) := h.each fun _ _ _ h => h.wr (by decide)
    exact .ite h (.ite hl.onTcu (.ite hl.onTcu hl.onTcu.startRuns))

/-- The passing of device time moves the time alone. -/
theorem advance (s : State) (d : Nat) : KeepsLinks { s with up := s.up + d } (s.advance d) :=
  .sampleOn (.both (.refl _) fun _ _ _ h => h.slewOn.onTcu.linesLock)

/-! ### The end of commands -/

/-- The end of a command leaves another one as it stands. -/
theorem finish {k : Cmd} {st d r0 r1 : Nat} (h : KeepsLinks s u) : KeepsLinks s (u.finish k st d r0 r1) := by
  refine h.trans ⟨fun p => ?_, ?_, fun i => ?_, fun c n => ?_⟩
  · refine (u.finish_only k st d r0 r1).rd rfl ?_
    rintro ⟨c, hc, hq, -⟩
    simp only [pagePort, pageHC] at hq
    omega
  · rw [State.finish_eq]
  · unfold State.current
    rw [State.finish_cmds, List.find?_filter]
    by_cases hik : i.ctx = k.ctx ∧ i.count = k.count
    · refine .inr ?_
      rw [List.find?_eq_none.2 fun j _ => by simp [hik.1, hik.2], Option.getD_none]
    · refine .inl (congrArg (fun f => (u.cmds.find? f).getD i) (funext fun j => ?_))
      by_cases hj : j.is i.ctx i.count = true
      · obtain ⟨hc, hn⟩ := Cmd.is_iff.1 hj
        have hk : j.is k.ctx k.count = false := by
          rw [Bool.eq_false_iff, ne_eq, Cmd.is_iff, hc, hn]
          exact hik
        rw [hk, hj]
        rfl
      · simp [hj]
  · rw [State.slot, State.finish_slots, State.endSlot]
    split
    next hg =>
      unfold State.setSlot
      split
      · rfl
      · show (look _ (put _ u.slots _ _) _).gen = _
        rw [look_put]
        split
        next hkey => rw [State.slot, hkey]; exact hg.symm
        · rfl
    · rfl

theorem domainSelectEnds (h : KeepsLinks s u) : KeepsLinks s (u.domainSelectEnds x) := by
  unfold State.domainSelectEnds
  split
  · exact h.finish
  · exact h

/-! ### The rate word and the selection -/

theorem setRatio {r : Int} (h : KeepsLinks s u) : KeepsLinks s (u.setRatio w r) :=
  .ite h (((h.wr (by decide)).wr (by decide)).wr (by decide))

theorem compensate {r : Int} (h : KeepsLinks s u) : KeepsLinks s (u.compensate w r) := h.each fun _ _ _ h => .ite h h.onTcu

theorem setRateOne {r : Int} (h : KeepsLinks s u) : KeepsLinks s (u.setRateOne w r) :=
  .ite h (h.raiseIf.wrWide (by decide) (by decide)).setRatio.onTcu.compensate

theorem steer {held slew : Int} (h : KeepsLinks s u) : KeepsLinks s (u.steer w held slew) := .ite h h.setRateOne.onTcu
theorem setSel (h : KeepsLinks s u) : KeepsLinks s (u.setSel w x) := .ite (h.wr (by decide)) (h.wr (by decide)).onTcu
theorem setEst {e : Int} (h : KeepsLinks s u) : KeepsLinks s (u.setEst w e) := (h.wrWide (by decide) (by decide)).onTcu
theorem dropRem {all : Bool} (h : KeepsLinks s u) : KeepsLinks s (u.dropRem w all) := .ite h h.onTcu.showRem

theorem enterHoldover (h : KeepsLinks s u) : KeepsLinks s (u.enterHoldover w) :=
  ((((h.setEst.steer.onTcu.dropRem.wr (by decide)).wr (by decide)).wr (by decide)).wrS (by decide)).setSel.raise.raiseIf

theorem exitHoldover (h : KeepsLinks s u) : KeepsLinks s (u.exitHoldover w) := ((h.wr (by decide)).wr (by decide)).raise

theorem showSel {y : Option Nat} (h : KeepsLinks s u) : KeepsLinks s (u.showSel w y) :=
  (KeepsLinks.ite ((h.wr (by decide)).wr (by decide)) (h.wr (by decide))).onTcu.each fun _ _ _ h => h.wr (by decide)

theorem showNext {y : Option Nat} (h : KeepsLinks s u) : KeepsLinks s (u.showNext w y) := by
  unfold State.showNext
  dsimp only
  split
  · exact .ite ((h.wr (by decide)).wr (by decide)) (h.wr (by decide))
  · exact h.wr (by decide)

theorem selChanged {go : Bool} (h : KeepsLinks s u) : KeepsLinks s (u.selChanged w go) := h.onTcu

theorem reselectOne (h : KeepsLinks s u) : KeepsLinks s (u.reselectOne w) := by
  unfold State.reselectOne
  dsimp only
  refine .ite (.ite h.showNext.enterHoldover h.showNext) ?_
  have hs {y z : Option Nat} {go : Bool} : KeepsLinks s (((((((u.showNext w y).showSel w z).raise (pageRefsel w) 0).onTcu w
      (fun u => { u with dphi := [] })).selChanged w go).domainSelectEnds 3)) := h.showNext.showSel.raise.onTcu.selChanged.domainSelectEnds
  split
  · exact (KeepsLinks.ite hs.exitHoldover (.ite hs.onTcu hs.steer)).onTcu.setSel
  · exact .ite hs.enterHoldover hs.steer.dropRem.setSel

theorem copyFld (h : KeepsLinks s u) (hf : ∀ i < f.n, f.place i ≠ R.PORT.PORT_STAT_LINK.place 0) : KeepsLinks s (u.copyFld j q f) :=
  h.foldl fun _ i hi h => h.wrI (hf i (List.mem_range.1 hi))

theorem mirrorRate (h : KeepsLinks s u) : KeepsLinks s (u.mirrorRate w x) :=
  .ite h ((h.onTcu.copyFld (by decide)).copyFld (by decide)).setRatio

theorem mirroredRegs_place : ∀ e ∈ mirroredRegs, ∀ f ∈ e.2, ∀ i < f.n, f.place i ≠ R.PORT.PORT_STAT_LINK.place 0 := by decide

theorem mirrorAll (h : KeepsLinks s u) : KeepsLinks s (u.mirrorAll w x) := by
  unfold State.mirrorAll
  dsimp only
  have hc : KeepsLinks s (mirroredRegs.foldl (fun s e => e.2.foldl (fun s f => s.copyFld (tpage w e.1) (tpage x e.1) f) s)
      (u.onTcu x fun v => v.adopt (u.tcu w))) :=
    h.onTcu.foldl fun y e he h => h.foldl fun z f hf h => h.copyFld (mirroredRegs_place e he f hf)
  exact .ite hc.mirrorRate hc.mirrorRate.selChanged

theorem mirrorSel (h : KeepsLinks s u) : KeepsLinks s (u.mirrorSel w) := .ite h.mirrorAll h
theorem reselect (h : KeepsLinks s u) : KeepsLinks s (u.reselect w) := .ite h.reselectOne.mirrorSel h

/-! ### Candidates -/

/-- No field of the 16 candidates of a TCU stands where a port's link does. -/
theorem candPlaces : ∀ i < 16, R.REFSEL.CAND_STAT_STATE.place i ≠ R.PORT.PORT_STAT_LINK.place 0 ∧
    R.REFSEL.CAND_STAT_REASON.place i ≠ R.PORT.PORT_STAT_LINK.place 0 ∧ R.REFSEL.CAND_STAT_TIMER.place i ≠ R.PORT.PORT_STAT_LINK.place 0 := by decide

theorem setCand (h : KeepsLinks s u) (hi : i < 16) : KeepsLinks s (u.setCand w i x) := (h.wrI (candPlaces i hi).1).wr (by decide)
theorem agree (h : KeepsLinks s u) : KeepsLinks s (u.agree w i j) := h.onTcu.wr (by decide)
theorem agreeAll (h : KeepsLinks s u) : KeepsLinks s (u.agreeAll w i) := h.each fun _ _ _ h => .ite h.agree (.ite h.agree h)

theorem disqualify (h : KeepsLinks s u) (hi : i < 16) : KeepsLinks s (u.disqualify w i x) :=
  .ite h (reselect (agreeAll (raise (((h.setCand hi).wrI (candPlaces i hi).2.1).wrI (candPlaces i hi).2.2))))

/-- The candidates that a lane clocks, when its port has closed (R95). -/
theorem synceCands (h : KeepsLinks s u) : KeepsLinks s u.synceCands :=
  h.both fun _ _ _ h => .ite h (h.each fun _ _ hk h => .ite (h.onTcu.disqualify hk) h)

/-! ### A port's own registers, lane and queues -/

theorem patStop (h : KeepsLinks s u) : KeepsLinks s (u.patStop x) := .ite ((h.wr (by decide)).upd (fun _ => rfl) rfl rfl rfl) h

theorem eyeEnd {a : Bool} (h : KeepsLinks s u) : KeepsLinks s (u.eyeEnd x a) :=
  (((((h.wr (by decide)).wr (by decide)).wr (by decide)).wr (by decide)).raise)

theorem lockClear (h : KeepsLinks s u) : KeepsLinks s (u.lockClear x) := (wr (.ite h.eyeEnd h) (by decide)).wr (by decide)
theorem setMode (h : KeepsLinks s u) : KeepsLinks s (u.setMode x w) := (((h.wr (by decide)).wr (by decide)).wr (by decide)).raiseIf

/-- A port that sends nothing drops what its MAC would send next. -/
theorem txAbort (h : KeepsLinks s u) (hx : (u.tx x).kind = .idle) : KeepsLinks s (u.txAbort x) := by
  unfold State.txAbort
  dsimp only
  rw [hx]
  exact h.onMac

theorem gwCount (h : KeepsLinks s u) : KeepsLinks s (u.gwCount i j) := h.both fun _ _ _ h => .ite (h.upd (fun _ => rfl) rfl rfl rfl) h

theorem gwDrop (h : KeepsLinks s u) : KeepsLinks s (u.gwDrop x) := by
  have hl : KeepsLinks s ((look [] u.gwq x).foldl (fun a g => a.gwCount g.template 3) { u with gwq := put [] u.gwq x [] }) :=
    foldl (h.upd (fun _ => rfl) rfl rfl rfl) fun _ _ _ h => h.gwCount
  exact .ite hl.onMac hl

/-- A port with nothing queued has nothing to charge. -/
theorem touchPort (h : KeepsLinks s u) (hv : u.voqs = []) : KeepsLinks s (u.touchPort x) := by
  have hflush : u.flushPort x = u := by
    unfold State.flushPort State.portVoqs
    rw [hv]
    rfl
  have haccrue : KeepsLinks s (u.accruePort x) := h.foldl fun _ _ _ h => .ite h.onNode h
  unfold State.touchPort
  rw [hflush]
  exact haccrue.foldl fun _ _ _ h => .ite h.onNode h

end
end State.KeepsLinks

end Sys2Proof.Machine
end

section
/-! PROOF. O26: the disable commands. -/

open Sys2Proof Sys2Proof.Machine
namespace Sys2Proof.Machine

/-! ### What the relation says of what commands read -/

namespace State.KeepsLinks
section
variable {s u : State} (h : KeepsLinks s u)
include h

theorem lanes : u.lanes = s.lanes := congrArg (·.1) h.rest
theorem voqs : u.voqs = s.voqs := congrArg (·.2.1) h.rest
theorem txs : u.txs = s.txs := congrArg (·.2.2.1) h.rest
theorem up : u.up = s.up := congrArg (·.2.2.2) h.rest

theorem lane (p : Nat) : u.lane p = s.lane p := by rw [State.lane, State.lane, h.lanes]
theorem tx (p : Nat) : u.tx p = s.tx p := by rw [State.tx, State.tx, h.txs]

end
end State.KeepsLinks

/-! ### A port closes -/

section
variable {s u : State} {p : Nat} {k : Cmd}

/-- A port that sends nothing is DISABLED and squelched at once (R95, R177); the time and the slots do not change. -/
theorem State.portDisabled_idle (hx : (s.tx p).kind = .idle) :
    (s.portDisabled p).link p = lkDisabled ∧ ((s.portDisabled p).lane p).on = false ∧ (s.portDisabled p).up = s.up ∧
      ∀ c n, ((s.portDisabled p).slot c n).gen = (s.slot c n).gen := by
  have hpat : KeepsLinks s (s.patStop p) := KeepsLinks.patStop (.refl s)
  have hx1 : (((s.patStop p).squelch p).tx p).kind = .idle := by
    rw [← hx]
    exact congrArg Tx.kind (hpat.tx p)
  have hoff : (((s.patStop p).squelch p).lane p).on = false := by
    rw [State.squelch, State.lane_onLane_same]
  have hup : ((s.patStop p).squelch p).up = s.up := hpat.up
  have hgen (c n : Nat) : (((s.patStop p).squelch p).slot c n).gen = (s.slot c n).gen := hpat.gen c n
  unfold State.portDisabled
  dsimp only
  generalize (s.patStop p).squelch p = a at *
  have hmac : KeepsLinks a ((((a.lockClear p).setMode p 0).wr (pagePort p) R.PORT.PORT_STAT_TEST 0).wr (pagePort p) R.PORT.PORT_STAT_LPI_TX 0 |>.wr
      (pagePort p) R.PORT.PORT_STAT_LPI_RX 0) := (((KeepsLinks.setMode (.lockClear (.refl a))).wr (by decide)).wr (by decide)).wr (by decide)
  generalize ((((a.lockClear p).setMode p 0).wr (pagePort p) R.PORT.PORT_STAT_TEST 0).wr (pagePort p) R.PORT.PORT_STAT_LPI_TX 0 |>.wr
    (pagePort p) R.PORT.PORT_STAT_LPI_RX 0) = b at *
  have hq : KeepsLinks a ((b.txAbort p).gwDrop p) := (hmac.txAbort (by rw [hmac.tx]; exact hx1)).gwDrop
  generalize (b.txAbort p).gwDrop p = c at *
  -- the link's write itself, and what follows it
  have hlink : (c.setLink p lkDisabled).link p = lkDisabled := State.rd_wr_same _ _ _ _
  have hrest : KeepsLinks (c.setLink p lkDisabled) (c.setLink p lkDisabled).synceCands := .synceCands (.refl _)
  have hend : KeepsLinks (c.setLink p lkDisabled)
      (if (c.setLink p lkDisabled).synceCands.rd (pageNT (p / 4)) R.NT.TRUNK_STAT_STATE = 8 ∧
          (List.range 4).all (fun i => (c.setLink p lkDisabled).synceCands.link (4 * (p / 4) + i) == lkDisabled) then
        (c.setLink p lkDisabled).synceCands.wr (pageNT (p / 4)) R.NT.TRUNK_STAT_STATE 0 else (c.setLink p lkDisabled).synceCands) :=
    .ite (hrest.wr (by decide)) hrest
  refine ⟨(hend.link p).trans hlink, ?_, ?_, fun d n => ?_⟩
  · rw [hend.lane, ← hoff]
    exact congrArg Lane.on (hq.lane p)
  · exact hend.up.trans (hq.up.trans hup)
  · exact (hend.gen d n).trans ((hq.gen d n).trans (hgen d n))

/-- What stands under the command's name has discarded nothing, and is the same context's under the same handle. -/
def State.unspent (s : State) (k : Cmd) : Prop := (s.current k).r0 = 0 ∧ (s.current k).ctx = k.ctx ∧ (s.current k).handle = k.handle

theorem State.unspent.of_stands (h : s.unspent k) (hk : k.r0 = 0) (hst : u.current k = s.current k ∨ u.current k = k) : u.unspent k := by
  unfold State.unspent
  rcases hst with e | e
  · rw [e]
    exact h
  · rw [e]
    exact ⟨hk, rfl, rfl⟩

/-- A command taken into flight stands as it is. -/
theorem State.unspent_fly (hk : k.r0 = 0) : (s.fly k).unspent k := by
  have hcur : (s.fly k).current k = { k with since := s.up } := by
    have hnone : (s.cmds.filter (fun j => ! j.is k.ctx k.count)).find? (fun j => j.is k.ctx k.count) = none :=
      List.find?_eq_none.2 fun j hj => by simpa using (List.mem_filter.1 hj).2
    unfold State.current
    rw [State.fly_cmds, List.find?_append, hnone]
    simp [Cmd.is]
  unfold State.unspent
  rw [hcur]
  exact ⟨hk, rfl, rfl⟩

/-- A drain that becomes a discard stands with the same counts. -/
theorem State.unspent.discards (h : s.unspent k) (hk : k.r0 = 0) : (s.onCmd k fun j => { j with stage := 1 }).unspent k := by
  have hcur : (s.onCmd k fun j => { j with stage := 1 }).current k = { s.current k with stage := 1 } ∨
      (s.onCmd k fun j => { j with stage := 1 }).current k = k := by
    have hname : ((fun j : Cmd => j.is k.ctx k.count) ∘ fun j : Cmd => if j.is k.ctx k.count then { j with stage := 1 } else j) =
        fun j => j.is k.ctx k.count := by
      funext j
      by_cases hj : j.is k.ctx k.count = true
      · rw [Function.comp_apply, if_pos hj]
        rfl
      · rw [Function.comp_apply, if_neg hj]
    unfold State.current State.onCmd
    rw [List.find?_map, hname]
    cases hf : s.cmds.find? (fun j => j.is k.ctx k.count) with
    | none => exact .inr rfl
    | some j =>
      have hj : j.is k.ctx k.count = true := List.find?_some (p := fun j : Cmd => j.is k.ctx k.count) hf
      refine .inl ?_
      rw [Option.map_some, Option.getD_some, Option.getD_some, if_pos hj]
  unfold State.unspent at *
  rcases hcur with e | e
  · rw [e]
    exact h
  · rw [e]
    exact ⟨hk, rfl, rfl⟩

/-- With no queue to discard, a discard marks the command and charges the port. -/
theorem State.discardAll_empty (hv : s.voqs = []) :
    s.discardAll k = (s.onCmd k fun j => { j with stage := 1 }).touchPort (drainPort k) := by
  unfold State.discardAll
  rw [hv]
  rfl

/-- A drained command that has discarded nothing completes with OK (R55). -/
theorem State.drainDone_ok {j : Cmd} (h0 : j.r0 = 0) (hc : j.ctx = k.ctx) (hh : j.handle = k.handle) (hk : k.ctx < 4)
    (hg : (s.slot k.ctx k.handle).gen = k.handle / 4096) : (s.drainDone j).statusOf k = 0 := by
  have hslot : ((s.drainDone j).slot k.ctx k.handle) = { gen := k.handle / 4096, status := 0 } := by
    unfold State.drainDone
    rw [h0, if_pos rfl, ← hc, ← hh]
    refine State.slot_finish_same (by omega) ?_ _ _ _ _
    rw [hc, hh]
    exact hg
  exact congrArg Slot.status hslot

/-- A port command that has nothing left to drain disables the port and completes with OK (R55). -/
theorem State.drainCheck_port (hop : k.op = 0x21) (hv : s.voqs = []) (hx : (s.tx (k.arg 0)).kind = .idle) (hk : k.ctx < 4)
    (hun : s.unspent k) (hg : (s.slot k.ctx k.handle).gen = k.handle / 4096) :
    (s.drainCheck k).link (k.arg 0) = lkDisabled ∧ ((s.drainCheck k).lane (k.arg 0)).on = false ∧ (s.drainCheck k).up = s.up ∧
      (s.drainCheck k).statusOf k = 0 := by
  obtain ⟨hlink, hoff, hup, hgen⟩ := State.portDisabled_idle hx
  obtain ⟨h0, hjc, hjh⟩ := hun
  have hdrained : s.drained k = true := by
    have hport : drainPort k = k.arg 0 := if_pos hop
    have hsends : s.sendsFor k = false := by
      unfold State.sendsFor
      rw [hport, hx]
    unfold State.drained
    rw [hv, hsends]
    rfl
  have hcheck : s.drainCheck k = (s.portDisabled (k.arg 0)).drainDone (s.current k) := by
    unfold State.drainCheck
    rw [if_neg (by simp [hdrained]), if_pos hop]
  have hdone : KeepsLinks (s.portDisabled (k.arg 0)) ((s.portDisabled (k.arg 0)).drainDone (s.current k)) :=
    KeepsLinks.wr (KeepsLinks.finish (.refl _)) (by decide)
  rw [hcheck]
  refine ⟨(hdone.link _).trans hlink, ?_, hdone.up.trans hup, State.drainDone_ok h0 hjc hjh hk ((hgen _ _).trans hg)⟩
  rw [hdone.lane]
  exact hoff

/-- A port command whose work is discarded, there being none, disables the port and completes with OK at once (R55). -/
theorem State.discard_port (hop : k.op = 0x21) (hv : s.voqs = []) (hx : (s.tx (k.arg 0)).kind = .idle) (hk : k.ctx < 4) (hr : k.r0 = 0)
    (hun : s.unspent k) (hg : (s.slot k.ctx k.handle).gen = k.handle / 4096) :
    ((s.discardAll k).drainCheck k).link (k.arg 0) = lkDisabled ∧ (((s.discardAll k).drainCheck k).lane (k.arg 0)).on = false ∧
      ((s.discardAll k).drainCheck k).up = s.up ∧ ((s.discardAll k).drainCheck k).statusOf k = 0 := by
  have hmark := hun.discards hr
  rw [State.discardAll_empty hv]
  have htouch : KeepsLinks (s.onCmd k fun j => { j with stage := 1 }) ((s.onCmd k fun j => { j with stage := 1 }).touchPort (drainPort k)) :=
    KeepsLinks.touchPort (.refl _) hv
  obtain ⟨hlink, hoff, hup, hst⟩ := State.drainCheck_port (s := (s.onCmd k fun j => { j with stage := 1 }).touchPort (drainPort k)) hop
    (htouch.voqs.trans hv) (by rw [htouch.tx]; exact hx) hk (hmark.of_stands hr (htouch.stands k)) ((htouch.gen _ _).trans hg)
  exact ⟨hlink, hoff, hup.trans htouch.up, hst⟩

end

/-! ### PORT_DISABLE (R55) -/

section
variable {s : State} {q : Request} {p : Nat} {k : Cmd}

theorem State.startCmd_portDisable (hk : k.op = 0x21) (s : State) : State.startCmd k s = State.startPortDisable k s := by
  unfold State.startCmd
  rw [hk]
  rfl

theorem State.startCmd_trunkDisable (hk : k.op = 0x23) (s : State) : State.startCmd k s = State.startTrunkDisable k s := by
  unfold State.startCmd
  rw [hk]
  rfl

theorem State.startCmd_queueDisable (hk : k.op = 0x24) (s : State) : State.startCmd k s = State.startQueueDisable k s := by
  unfold State.startCmd
  rw [hk]
  rfl

theorem State.startCmd_queueEnable (hk : k.op = 0x25) (s : State) : State.startCmd k s = State.startQueueEnable k s := by
  unfold State.startCmd
  rw [hk]
  rfl

/-- A PORT_DISABLE of a port that is enabled and no lane of an enabled trunk shows as running, and discards at once if it is told to. -/
theorem State.startPortDisable_eq (hl : s.isLane (k.arg 0) = false) (hd : s.link (k.arg 0) ≠ lkDisabled) : State.startPortDisable k s =
    if bitAt (k.arg 1) 0 then (((s.fly k).showBusy k.page).discardAll k).drainCheck k else (s.fly k).showBusy k.page := by
  have hlane : (s.fly k).isLane (k.arg 0) = false := by
    rw [State.fly_eq]
    exact hl
  have hlink : (s.fly k).link (k.arg 0) ≠ lkDisabled := by
    rw [State.fly_eq]
    exact hd
  unfold State.startPortDisable
  dsimp only
  rw [if_neg (by simp [hlane, hlink])]

theorem State.link_busy (s : State) (k : Cmd) (p : Nat) : ((s.fly k).showBusy k.page).link p = s.link p := by
  unfold State.showBusy State.link
  rw [State.rd_wr_place _ _ _ _ _ _ (by decide), State.fly_eq]
  rfl

theorem runs_portDisable_drains (h : s.accepts 0x21 q) (hp : (s.cmdOf 0x21 q).arg 0 = p) (hb : bitAt ((s.cmdOf 0x21 q).arg 1) 0 = false)
    (hl : s.isLane p = false) (hd : s.link p ≠ lkDisabled) :
    Runs (.portDisable q) s (fun u => u.link p = s.link p ∧ u.inFlight (s.cmdOf 0x21 q)) := by
  have hop : (s.cmdOf 0x21 q).op = 0x21 := rfl
  have hst : (s.cmdOf 0x21 q).started = true := rfl
  have htake := State.takeRequest_of_accepts h
  generalize s.cmdOf 0x21 q = k at *
  subst hp
  have hx : exec (.portDisable q) s = done (((s.fly k).fly k).showBusy k.page) := by
    show done (s.takeRequest 0x21 q) = _
    rw [htake, State.startCmd_portDisable hop, State.startPortDisable_eq (by rw [State.fly_eq]; exact hl) (by rw [State.fly_eq]; exact hd),
      if_neg (by simp [hb])]
  refine runs_done hx ⟨?_, ?_⟩
  · rw [State.link, State.rd_settle]
    refine ((s.fly k).link_busy k _).trans ?_
    rw [State.fly_eq]
    rfl
  · unfold State.inFlight
    rw [State.settle_cmds]
    exact (State.carries_fly _ hst).1

theorem runs_portDisable_discards (h : s.accepts 0x21 q) (hp : (s.cmdOf 0x21 q).arg 0 = p) (hb : bitAt ((s.cmdOf 0x21 q).arg 1) 0 = true)
    (hl : s.isLane p = false) (hd : s.link p ≠ lkDisabled) (hv : s.voqs = []) (hx : (s.tx p).kind = .idle) :
    Runs (.portDisable q) s (fun u => u.link p = lkDisabled ∧ (u.lane p).on = false ∧ u.statusOf (s.cmdOf 0x21 q) = 0) := by
  have hop : (s.cmdOf 0x21 q).op = 0x21 := rfl
  have hr : (s.cmdOf 0x21 q).r0 = 0 := rfl
  have hk : (s.cmdOf 0x21 q).ctx < 4 := s.cmdOf_ctx_lt _ _
  have htake := State.takeRequest_of_accepts h
  generalize s.cmdOf 0x21 q = k at *
  subst hp
  have hexec : exec (.portDisable q) s = done (((((s.fly k).fly k).showBusy k.page).discardAll k).drainCheck k) := by
    show done (s.takeRequest 0x21 q) = _
    rw [htake, State.startCmd_portDisable hop, State.startPortDisable_eq (by rw [State.fly_eq]; exact hl) (by rw [State.fly_eq]; exact hd),
      if_pos hb]
  have hgen : ((((s.fly k).fly k).showBusy k.page).slot k.ctx k.handle).gen = k.handle / 4096 :=
    congrArg Slot.gen (State.slot_fly_same hk)
  have hvoqs : (((s.fly k).fly k).showBusy k.page).voqs = [] := by
    rw [State.fly_eq, State.fly_eq]
    exact hv
  have htx : ((((s.fly k).fly k).showBusy k.page).tx (k.arg 0)).kind = .idle := by
    rw [State.fly_eq, State.fly_eq]
    exact hx
  obtain ⟨hlink, hoff, -, hstatus⟩ := State.discard_port hop hvoqs htx hk hr (State.unspent_fly (s := s.fly k) hr) hgen
  refine runs_done hexec ⟨?_, ?_, ?_⟩
  · rw [State.link, State.rd_settle]
    exact hlink
  · rw [State.lane, State.settle_lanes]
    exact hoff
  · rw [State.statusOf_settle]
    exact hstatus

/-- The port command in flight on a port. -/
theorem findCmd_port (h : s.findCmd 0x21 p = some k) : k.op = 0x21 ∧ k.arg 0 = p := by
  have hk := List.find?_some h
  simp only [Bool.and_eq_true, beq_iff_eq] at hk
  exact ⟨hk.1.1, hk.2⟩

theorem unspent_of_current (hcur : s.current k = k) (hr : k.r0 = 0) : s.unspent k := by
  unfold State.unspent
  rw [hcur]
  exact ⟨hr, rfl, rfl⟩

theorem drainEnds_port (hop : k.op = 0x21) (s : State) : s.drainEnds k = s.drainCheck k := if_pos (by rw [hop]; decide)

theorem runs_drainComplete (hf : s.findCmd 0x21 p = some k) (hk : k.ctx < 4) (hlive : s.handleLive k.ctx k.handle = true) (hcur : s.current k = k)
    (hr : k.r0 = 0) (hv : s.voqs = []) (hx : (s.tx p).kind = .idle) :
    Runs (.drainComplete 0x21 p) s (fun u => u.link p = lkDisabled ∧ u.statusOf k = 0) := by
  obtain ⟨hop, rfl⟩ := findCmd_port hf
  have hexec : exec (.drainComplete 0x21 (k.arg 0)) s = done (s.drainCheck k) := by
    show execDrainComplete 0x21 (k.arg 0) s = _
    unfold execDrainComplete
    rw [hf]
    dsimp only
    rw [if_pos (by simp [drains, hop]), drainEnds_port hop]
  obtain ⟨hlink, -, -, hstatus⟩ := State.drainCheck_port hop hv hx hk (unspent_of_current hcur hr) (eq_of_beq hlive)
  refine runs_done hexec ⟨?_, ?_⟩
  · rw [State.link, State.rd_settle]
    exact hlink
  · rw [State.statusOf_settle]
    exact hstatus

theorem runs_drainLimitExpiry (hf : s.findCmd 0x21 p = some k) (hk : k.ctx < 4) (hlive : s.handleLive k.ctx k.handle = true)
    (hcur : s.current k = k) (hstage : k.stage = 0) (hr : k.r0 = 0) (hv : s.voqs = []) (hx : (s.tx p).kind = .idle) :
    Runs (.drainLimitExpiry 0x21 p) s (fun u => u.up = s.up + (k.since + k.arg 2 * 1000 - s.up) ∧ u.link p = lkDisabled ∧ u.statusOf k = 0) := by
  obtain ⟨hop, rfl⟩ := findCmd_port hf
  have hexec : exec (.drainLimitExpiry 0x21 (k.arg 0)) s = done (((s.toLimit k (k.arg 2 * 1000)).discardAll k).drainCheck k) := by
    show execDrainLimitExpiry 0x21 (k.arg 0) s = _
    unfold execDrainLimitExpiry
    rw [hf]
    dsimp only
    rw [if_pos ⟨by simp [drains, hop], hstage⟩, drainEnds_port hop]
  have htime : State.KeepsLinks { s with up := s.up + (k.since + k.arg 2 * 1000 - s.up) } (s.toLimit k (k.arg 2 * 1000)) := .advance s _
  have hun : (s.toLimit k (k.arg 2 * 1000)).unspent k := (unspent_of_current hcur hr).of_stands hr (htime.stands k)
  obtain ⟨hlink, -, hup, hstatus⟩ := State.discard_port hop (htime.voqs.trans hv) (by rw [htime.tx]; exact hx) hk hr hun
    ((htime.gen _ _).trans (eq_of_beq hlive))
  refine runs_done hexec ⟨?_, ?_, ?_⟩
  · rw [State.settle_up]
    exact hup.trans htime.up
  · rw [State.link, State.rd_settle]
    exact hlink
  · rw [State.statusOf_settle]
    exact hstatus

/-! ### TRUNK_DISABLE and the queue commands (R220, R308) -/

theorem runs_trunkDisable {n : Nat} (h : s.accepts 0x23 q) (hn : (s.cmdOf 0x23 q).arg 0 = n) (hb : bitAt ((s.cmdOf 0x23 q).arg 1) 0 = false)
    (hd : s.tstate n ≠ tkDisabled) (hf : s.tstate n ≠ tkFallback) :
    Runs (.trunkDisable q) s (fun u => u.tstate n = s.tstate n ∧ u.inFlight (s.cmdOf 0x23 q)) := by
  have hop : (s.cmdOf 0x23 q).op = 0x23 := rfl
  have hst : (s.cmdOf 0x23 q).started = true := rfl
  have htake := State.takeRequest_of_accepts h
  generalize s.cmdOf 0x23 q = k at *
  subst hn
  have hfly : ((s.fly k).fly k).tstate (k.arg 0) = s.tstate (k.arg 0) := by
    rw [State.fly_eq, State.fly_eq]
    rfl
  have hx : exec (.trunkDisable q) s = done (((s.fly k).fly k).showBusy k.page) := by
    show done (s.takeRequest 0x23 q) = _
    rw [htake, State.startCmd_trunkDisable hop]
    unfold State.startTrunkDisable
    dsimp only
    rw [hfly, if_neg (by rintro (h | h); exacts [hd h, hf h]), if_neg (by simp [hb])]
  refine runs_done hx ⟨?_, ?_⟩
  · rw [State.tstate, State.rd_settle, State.showBusy, State.rd_wr_place _ _ _ _ _ _ (by decide)]
    exact hfly
  · unfold State.inFlight
    rw [State.settle_cmds]
    exact (State.carries_fly _ hst).1

/-- Queues opened or closed: those named alone. -/
def State.openQueues (s : State) (l : List Nat) (b : Bool) : State := l.foldl (fun a v => a.onVoq v (fun q => { q with opened := b })) s

theorem State.openQueues_opened (l : List Nat) (b : Bool) (s : State) {v : Nat} (hv : v ∈ l ∨ (s.voq v).opened = b) :
    ((s.openQueues l b).voq v).opened = b := by
  induction l generalizing s with
  | nil => exact hv.resolve_left (by simp)
  | cons w l ih =>
    refine ih _ ?_
    by_cases hw : v = w
    · subst hw
      exact .inr (congrArg Voq.opened (s.voq_onVoq_same v _))
    · dsimp only
      rw [State.voq_onVoq_ne _ _ _ _ hw]
      exact hv.imp_left fun h => (List.mem_cons.1 h).resolve_left hw

theorem State.openQueues_eq (l : List Nat) (b : Bool) (s : State) : s.openQueues l b = { s with voqs := (s.openQueues l b).voqs } := by
  induction l generalizing s with
  | nil => rfl
  | cons w l ih => exact ih (s.onVoq w (fun q => { q with opened := b }))

theorem runs_queueDisable (h : s.accepts 0x24 q) (hb : bitAt ((s.cmdOf 0x24 q).arg 1) 8 = false) :
    Runs (.queueDisable q) s (fun u => u.inFlight (s.cmdOf 0x24 q) ∧ ∀ v ∈ queueNames (s.cmdOf 0x24 q), (u.voq v).opened = false) := by
  have hop : (s.cmdOf 0x24 q).op = 0x24 := rfl
  have hst : (s.cmdOf 0x24 q).started = true := rfl
  have htake := State.takeRequest_of_accepts h
  generalize s.cmdOf 0x24 q = k at *
  have hx : exec (.queueDisable q) s = done ((((s.fly k).fly k).showBusy k.page).openQueues (queueNames k) false) := by
    show done (s.takeRequest 0x24 q) = _
    rw [htake, State.startCmd_queueDisable hop]
    exact congrArg done (if_neg (by simp [hb]))
  refine runs_done hx ⟨?_, fun v hv => ?_⟩
  · unfold State.inFlight
    rw [State.settle_cmds, State.openQueues_eq]
    exact (State.carries_fly _ hst).1
  · rw [State.voq, State.settle_voqs]
    exact State.openQueues_opened _ _ _ (.inl hv)

theorem runs_queueEnable (h : s.accepts 0x25 q) :
    Runs (.queueEnable q) s (fun u => u.statusOf (s.cmdOf 0x25 q) = 0 ∧ ∀ v ∈ queueNames (s.cmdOf 0x25 q), (u.voq v).opened = true) := by
  have hop : (s.cmdOf 0x25 q).op = 0x25 := rfl
  have hk : (s.cmdOf 0x25 q).ctx < 4 := s.cmdOf_ctx_lt _ _
  have htake := State.takeRequest_of_accepts h
  generalize s.cmdOf 0x25 q = k at *
  have hx : exec (.queueEnable q) s = done ((((s.fly k).fly k).openQueues (queueNames k) true).finish k stOk 0 0 0) := by
    show done (s.takeRequest 0x25 q) = _
    rw [htake, State.startCmd_queueEnable hop]
    rfl
  refine runs_done hx ⟨?_, fun v hv => ?_⟩
  · rw [State.statusOf_settle]
    refine congrArg Slot.status (State.slot_finish_same hk ?_ _ _ _ _)
    rw [State.openQueues_eq]
    exact congrArg Slot.gen (State.slot_fly_same hk)
  · rw [State.voq, State.settle_voqs, State.finish_eq]
    exact State.openQueues_opened _ _ _ (.inl hv)

end

/-- Settles O26: a disable command shows as running until its work is gone; with no queue and no frame in transmission the port closes at once,
and neither its closing nor the reselection that follows touches the link or the slot of the command, which completes with OK. -/
theorem disableCommandsDrainTheirWork : Obligations.DisableCommandsDrainTheirWork :=
  ⟨fun _ _ _ h hp hb hl hd => runs_portDisable_drains h hp hb hl hd, fun _ _ _ h hp hb hl hd hv hx => runs_portDisable_discards h hp hb hl hd hv hx,
    fun _ _ _ _ hf hk hlive hcur hr hv hx => runs_drainComplete hf hk hlive hcur hr hv hx,
    fun _ _ _ _ hf hk hlive hcur hstage hr hv hx => runs_drainLimitExpiry hf hk hlive hcur hstage hr hv hx,
    fun _ _ _ h hn hb hd hf => runs_trunkDisable h hn hb hd hf, fun _ _ h hb => runs_queueDisable h hb, fun _ _ h => runs_queueEnable h⟩

end Sys2Proof.Machine
end

section
/-! REFUTATIONS of O1, O2, O4 and O9, each by a concrete state. -/

open Sys2Proof Sys2Proof.Machine
namespace Sys2Proof.Machine

/-- TCU0, on with its clock stopped, has a counter of 2^48 s, and a step of nothing waits; a commit of its TIME page, armed for a second that has
passed, holds 1 for `STEP_REM`. -/
def stepOfNothing : State :=
  { State.reset with
    tcus := [(0, { now := counterMod, step := some ⟨0, false, false⟩ })]
    shadow := [(R.TIME.STEP_REM.key (pageTime 0) 0, 1)]
    regs := [(R.PWR.PWR_STAT.key pagePwr 0, 2 * 4), (R.HDR.HDR_SHADOW_CTL_ARM.key (pageTime 0) 0, 1),
      (R.HDR.HDR_COMMIT_AT_BOUNDARY.key (pageTime 0) 0, 7)] }

/-- The step brings the counter back to 0, and the commit that this carries past its second takes effect. -/
theorem stepOfNothing_commits : stepOfNothing.stepEpoch.settle.rd (pageTime 0) R.TIME.STEP_REM = 1 := by
  rw [State.rd_settle]; decide +kernel

/-- Nothing is left to be slewed. -/
theorem stepOfNothing_rem : (stepOfNothing.stepEpoch.settle.tcu 0).rem = 0 := by
  rw [State.tcu_settle]; decide +kernel

/-- Refutes O1: its sixth clause lets `STEP_REM` show the remainder after a step that rounds to 0 whatever commits are armed, but the step takes
a counter that stands at 2^48 s back to 0 (`steppedBy`), and a commit of page TIME armed for a second passed (`State.commitsPassed`) then puts
what its shadow holds into `STEP_REM`. -/
theorem not_timeCommandsAndSyncInTakeEffect : ¬ Obligations.TimeCommandsAndSyncInTakeEffect := by
  unfold Obligations.TimeCommandsAndSyncInTakeEffect
  rintro ⟨-, -, -, -, -, hShown, -⟩
  obtain ⟨u, hu, -, hv⟩ := hShown stepOfNothing ⟨0, false, false⟩ (by decide +kernel) (by decide +kernel) (by decide +kernel) (.inl (by decide))
  obtain rfl : stepOfNothing.stepEpoch.settle = u := by injection hu
  have hlead : stepOfNothing.lead = 0 := by decide +kernel
  rw [hlead, stepOfNothing_commits, stepOfNothing_rem] at hv
  exact absurd hv (by decide)

/-- TCU0 is on, and trunk 0 is measured: its state is 5. -/
def trunkMeasured : State :=
  { State.reset with regs := [(R.PWR.PWR_STAT.key pagePwr 0, 2 * 4), (R.NT.TRUNK_STAT_STATE.key (pageNT 0) 0, 5)] }

/-- A capture on the trunk's phase channel stores nothing. -/
theorem trunkMeasured_storesNothing : (trunkMeasured.settle.tdc 0 0).fifo = [] := by decide +kernel

/-- Refutes O2: its fifth clause stores a capture on every armed channel, but the trunk-phase channels TDC0 to TDC11, armed while their trunk is
measured, take no capture by this command (`execTdcCapture`): theirs come through the trunk block (R68, R196). -/
theorem not_tdcChannelsArmAndCapture : ¬ Obligations.TdcChannelsArmAndCapture := by
  unfold Obligations.TdcChannelsArmAndCapture
  rintro ⟨-, -, -, -, hCapture, -⟩
  obtain ⟨u, hu, hv, -⟩ := hCapture trunkMeasured 0 0 0 true false (by decide) (by decide) (by decide) (by decide +kernel)
    (by decide +kernel) (by decide +kernel) (by decide +kernel) (by decide +kernel) (by decide +kernel)
  obtain rfl : trunkMeasured.settle = u := by injection hu
  rw [trunkMeasured_storesNothing] at hv
  exact absurd hv (by simp)

/-- Slot 0 of TCU0 is the selected candidate, a marker of seconds. -/
def secondsSelected : State :=
  { State.reset with
    regs := [(R.REFSEL.REFSEL_STAT_SEL_VALID.key (pageRefsel 0) 0, 1), (R.REFSEL.CAND_CFG_SRC.key (pageRefsel 0) 0, 5)] }

/-- A capture on TDC20, which measures slot 0, advances the seconds value of page REFSEL. -/
theorem secondsSelected_todAdvances : ∃ u, exec (.tdcCapture 0 20 0 true false) secondsSelected = .next u ∧
    u.rdI (pageRefsel 0) R.REFSEL.REFSEL_TOD_SEC_LO 0 ≠ secondsSelected.rdI (pageRefsel 0) R.REFSEL.REFSEL_TOD_SEC_LO 0 :=
  ⟨_, rfl, by rw [State.rdI_settle]; decide +kernel⟩

/-- Refutes O4: its first clause leaves every register of every page but the channel's own, but an edge of the selected marker of seconds advances
`REFSEL_TOD_SEC` (R108, `State.todAdvance`). -/
theorem not_tdcCommandsKeepOtherChannels : ¬ Obligations.TdcCommandsKeepOtherChannels := by
  unfold Obligations.TdcCommandsKeepOtherChannels
  rintro ⟨hCapture, -⟩
  obtain ⟨u, hu, hne⟩ := secondsSelected_todAdvances
  obtain ⟨-, hregs, -⟩ := hCapture secondsSelected u 0 20 (by decide) (by decide) (.inl ⟨_, _, _, hu⟩)
  exact hne (hregs _ _ _ (by decide) (by decide))

/-- HC0 by PCIe with MSI-X armed and a broadcast pending; output 0 of TCU0, the active one, is a clock whose cycles run. -/
def clockWithInterrupt : State :=
  { State.reset with
    phase := .running, hosts := [(0, { msix := true })]
    tcus := [(0, { clk := true, outs := [(0, { clk := some 0 })] })]
    regs := [(R.ARB.ARB_STAT_HOLDER_VALID.key pageArb 0, 1), (R.HC.CTX_STAT_ATTACHED.key (pageHC 0) 0, 1),
      (R.HC.BCAST_CAUSE.key (pageHC 0) 0, 1), (R.OUT.OUT_CTL_EN.key (pageOut 0 0) 0, 1), (R.OUT.OUT_CTL_QUIET.key (pageOut 0 0) 0, 0)] }

/-- The interrupt's message goes out on top of the clock's cycle. -/
theorem clockWithInterrupt_sends : (clockWithInterrupt.clkInstant 0 0).settle.out.length = 2 := by decide +kernel

/-- Refutes O9: its sixth clause takes the clock's cycle for the last thing put out, but the message of an interrupt that is pending goes out at the
end of the same instruction (`State.settle`). -/
theorem not_servoHoldoverAndOutputsRun : ¬ Obligations.ServoHoldoverAndOutputsRun := by
  unfold Obligations.ServoHoldoverAndOutputsRun
  rintro ⟨-, -, -, -, -, hClock, -⟩
  obtain ⟨u, hu, -, -, -, -, hout⟩ := hClock clockWithInterrupt 0 0 _ (by decide) (by decide) (by decide +kernel) (by decide +kernel)
    (by decide) (by decide +kernel) (by decide +kernel) rfl
  obtain rfl : (clockWithInterrupt.clkInstant 0 0).settle = u := by injection hu
  have hlen := congrArg List.length hout
  have hshift : (clockWithInterrupt.outp 0 0).shift = none := by decide
  rw [clockWithInterrupt_sends, hshift] at hlen
  exact absurd hlen (by simp [clockWithInterrupt, State.reset])

end Sys2Proof.Machine
end

section
/-! REFUTATION of O30, by a concrete state. -/

open Sys2Proof Sys2Proof.Machine
namespace Sys2Proof.Machine

/-- The clocks of TCU0, the active one, and of a number 2, which no TCU has, run, and a move of the token that number 2 held waits for its switch
epoch. -/
def movedFromNoTcu : State :=
  { State.reset with switch := [(some 2, 0, 0)], tcus := [(0, { clk := true }), (2, { clk := true })] }

/-- A hoop boundary leaves network time, which is that of number 2, at 0. -/
theorem movedFromNoTcu_stands : ∃ u, exec .hoopBoundary movedFromNoTcu = .next u ∧ u.now = 0 := ⟨_, rfl, by decide +kernel⟩

/-- Refutes O30: its first clause brings network time to the hoop's boundary in every state in which the clock of the active TCU runs, but network
time is that of `State.lead`, which follows the holder recorded in `State.switch`; nothing bounds that number, and time passes for TCU0 and TCU1
alone (`State.advance`). -/
theorem not_cadenceBlocksAndGatewayFramesPass : ¬ Obligations.CadenceBlocksAndGatewayFramesPass := by
  unfold Obligations.CadenceBlocksAndGatewayFramesPass
  rintro ⟨hBoundary, -⟩
  obtain ⟨u, hu, hnow, -⟩ := hBoundary movedFromNoTcu (by decide +kernel) (by decide +kernel) (by decide +kernel) (by decide +kernel)
  obtain ⟨v, hv, hstands⟩ := movedFromNoTcu_stands
  obtain rfl : u = v := by injection hu.symm.trans hv
  rw [hstands] at hnow
  exact absurd hnow (by decide +kernel)

end Sys2Proof.Machine
end

section
/-! PROOF. The passing of time in each TCU, and the step of the device (O43). -/

open Sys2Proof Sys2Proof.Machine
namespace Sys2Proof.Machine

/-! ### What an update keeps of the TCUs -/

/-- From `s` to `u` every TCU keeps what `g` shows of it. -/
def State.KeepsTcu {α : Type} (g : Tcu → α) (s u : State) : Prop := ∀ v, g (u.tcu v) = g (s.tcu v)

namespace State.KeepsTcu
section
variable {α : Type} {g : Tcu → α} {s t u : State}

theorem refl (s : State) : KeepsTcu g s s := fun _ => rfl

/-- An update of anything but the TCUs. -/
theorem upd (h : KeepsTcu g s t) (e : u.tcus = t.tcus) : KeepsTcu g s u := fun v => by
  rw [← h v, State.tcu, e]; rfl

theorem onTcu {i : Nat} {f : Tcu → Tcu} (h : KeepsTcu g s t) (hf : ∀ x, g (f x) = g x) : KeepsTcu g s (t.onTcu i f) := fun v => by
  by_cases hv : v = i
  · subst hv; rw [State.tcu_onTcu_same, hf, h v]
  · rw [State.tcu_onTcu_ne _ _ _ _ hv, h v]

theorem ite {c : Prop} {_ : Decidable c} (h : KeepsTcu g s t) (k : KeepsTcu g s u) : KeepsTcu g s (if c then t else u) := by
  split
  · exact h
  · exact k

theorem foldl {β : Type} {l : List β} {f : State → β → State} (h : KeepsTcu g s t) (hf : ∀ a b, KeepsTcu g s a → KeepsTcu g s (f a b)) :
    KeepsTcu g s (l.foldl f t) := by
  induction l generalizing t with
  | nil => exact h
  | cons b l ih => exact ih (hf t b h)

theorem each {n : Nat} {f : Nat → State → State} (h : KeepsTcu g s t) (hf : ∀ a i, KeepsTcu g s a → KeepsTcu g s (f i a)) :
    KeepsTcu g s (t.each n f) := h.foldl hf

theorem wr {p : Nat} {f : Fld} {x : Nat} (h : KeepsTcu g s t) : KeepsTcu g s (t.wr p f x) := h.upd rfl
theorem raise {p b : Nat} (h : KeepsTcu g s t) : KeepsTcu g s (t.raise p b) := h.upd (by simp)
theorem raiseIf {c : Bool} {p b : Nat} (h : KeepsTcu g s t) : KeepsTcu g s (t.raiseIf c p b) := .ite h.raise h
theorem raiseHdr {p b : Nat} (h : KeepsTcu g s t) : KeepsTcu g s (t.raiseHdr p b) := h.upd (by simp)

end
end State.KeepsTcu

/-! ### What the passing of time does to a TCU's clock (R59, R60) -/

/-- The clock of a TCU: whether it runs, its counter and its cycle count. -/
def Tcu.clock (u : Tcu) : Bool × Nat × Nat := (u.clk, u.now, u.cyc)

section
variable (s : State) (t v d : Nat)

/-- The remainder of a step that shrinks leaves every clock. -/
theorem State.slewOn_clock : KeepsTcu Tcu.clock s (s.slewOn t d) := .ite (.refl s) (.wr (.onTcu (.refl s) (by intro; rfl)))

/-- The end of the channels' start-up leaves every clock. -/
theorem State.linesLock_clock : KeepsTcu Tcu.clock s (s.linesLock t) := by
  have hlines : KeepsTcu Tcu.clock s (s.each 24 fun c x => x.wr (pageTdc t c) R.TDC.TDC_STAT_LINE_LOCK 0x1F) := .each (.refl s) fun _ _ h => h.wr
  unfold State.linesLock
  split
  · exact .refl s
  · refine .ite (.refl s) (.ite (hlines.onTcu ?_) (.ite (hlines.onTcu ?_) (.onTcu (.each (hlines.onTcu ?_) fun _ _ h => h.wr) ?_)))
    all_goals intro; rfl

/-- The sampler leaves the TCUs. -/
theorem State.tcu_sampleOn : s.sampleOn.tcu v = s.tcu v := by
  unfold State.sampleOn
  split
  · rfl
  · split
    · rfl
    · simp [State.tcu, State.showRing]

/-- A clock after `d` ns. -/
def Tcu.clockAfter (u : Tcu) (d : Nat) : Bool × Nat × Nat :=
  if u.clk then (true, (u.now + d) % counterMod, (u.cyc + d) % 2 ^ 48) else u.clock

theorem Tcu.clock_run (u : Tcu) : (u.run d).clock = u.clockAfter d := by
  unfold Tcu.run Tcu.clockAfter
  split
  · next h => simp [Tcu.clock, Tcu.onTrks, h]
  · rfl

theorem Tcu.clockAfter_congr {u w : Tcu} (h : u.clock = w.clock) : u.clockAfter d = w.clockAfter d := by
  simp only [Tcu.clock, Prod.mk.injEq] at h
  obtain ⟨hclk, hnow, hcyc⟩ := h
  simp [Tcu.clockAfter, Tcu.clock, hclk, hnow, hcyc]

/-- What `d` ns bring about in TCU `t`. -/
def State.passIn (s : State) (t d : Nat) : State := ((s.slewOn t d).onTcu t fun u => u.run d).linesLock t

theorem State.clock_passIn_same : ((s.passIn t d).tcu t).clock = (s.tcu t).clockAfter d := by
  rw [State.passIn, State.linesLock_clock _ t t, State.tcu_onTcu_same, Tcu.clock_run]
  exact Tcu.clockAfter_congr d (State.slewOn_clock s t d t)

theorem State.clock_passIn_ne (h : v ≠ t) : ((s.passIn t d).tcu v).clock = (s.tcu v).clock := by
  rw [State.passIn, State.linesLock_clock _ t v, State.tcu_onTcu_ne _ _ _ _ h, State.slewOn_clock s t d v]

/-- The passing of time passes in both TCUs, and in the sampler. -/
theorem State.advance_eq : s.advance d = (((s.atTime (s.up + d)).passIn 0 d).passIn 1 d).sampleOn := by
  simp only [State.advance, State.both, State.passIn, State.atTime]

theorem State.tcu_atTime (n : Nat) : (s.atTime n).tcu v = s.tcu v := rfl

/-- After `d` ns each TCU clock that runs has advanced by as many cycles (R60). -/
theorem State.clock_advance (hv : v < 2) : ((s.advance d).tcu v).clock = (s.tcu v).clockAfter d := by
  rw [State.advance_eq, State.tcu_sampleOn]
  obtain rfl | rfl : v = 0 ∨ v = 1 := by omega
  · rw [State.clock_passIn_ne _ _ _ _ (by decide), State.clock_passIn_same, State.tcu_atTime]
  · rw [State.clock_passIn_same, ← State.tcu_atTime s 1 (s.up + d)]
    exact Tcu.clockAfter_congr d (State.clock_passIn_ne _ 0 1 d (by decide))

/-- The counter of a TCU after `d` ns (R59). -/
theorem State.tcuNow_advance (hv : v < 2) :
    ((s.advance d).tcu v).now = if (s.tcu v).clk = true then ((s.tcu v).now + d) % counterMod else (s.tcu v).now := by
  have hfst (u : Tcu) : u.now = u.clock.2.1 := rfl
  rw [hfst, State.clock_advance s v d hv, Tcu.clockAfter, hfst]
  split <;> rfl

end

/-! ### The idle step -/

/-- No command is held back where each one has started (R52). -/
theorem State.releaseHeld_of_started {s : State} (h : ∀ k ∈ s.cmds, k.started = true) : s.releaseHeld = s := by
  have hone (c : Nat) : s.release1 c = s := by
    have hnone : s.heldCmd c = none := List.find?_eq_none.2 fun k hk => by simp [h k hk]
    rw [State.release1, hnone]
  simp [State.releaseHeld, State.each, List.range_succ, hone]

/-- Time that passes brings no command. -/
theorem State.advance_pending (s : State) (d : Nat) : (s.advance d).pending = s.pending := by
  have hfst (u : State) : u.pending = u.sealed.1 := rfl
  rw [hfst, State.advance_sealed, hfst]

theorem step_of_idle {s : State} (hp : s.pending = []) (hc : ∀ k ∈ s.cmds, k.started = true) : step s = .next (s.advance 1).settle := by
  rw [step, hp]
  simp only
  rw [State.tick, State.releaseHeld_of_started hc]

/-- Every command answers a next state. -/
theorem exec_answers (i : Instr) (s : State) : ∃ u, exec i s = .next u := by
  cases i <;> exact ⟨_, rfl⟩

/-- Settles O43: with no command waiting and none held back, an idle step is 1 ns of `State.advance`, which moves each running clock by a cycle. -/
theorem aStepRunsTheFrontCommand : Obligations.AStepRunsTheFrontCommand := by
  unfold Obligations.AStepRunsTheFrontCommand
  refine ⟨fun _ _ _ => rfl, fun s hp hc => ⟨_, step_of_idle hp hc, ?_, ?_, fun t ht => ?_⟩, exec_answers, fun _ _ _ => rfl⟩
  · rw [State.settle_pending, State.advance_pending, hp]
  · rw [State.settle_up]
    exact (State.KeepsBase.advance (E := []) s 1).up
  · rw [State.tcu_settle, State.tcuNow_advance s t 1 ht]

end Sys2Proof.Machine
end

section
/-! PROOF. The correction table of a code-density run (R72), the end of a run (R71) and the installation of its table (R77), and O52. -/

open Sys2Proof Sys2Proof.Machine
namespace Sys2Proof.Machine

/-! ### The correction table (R72) -/

/-- FINE of raw code `k`: the centre of its bin in units of 2⁻¹⁶ ns, rounded (R72). -/
def binCentre (h : List Nat) (k : Nat) : Nat := divRound (65536 * (2 * (h.take k).sum + h.getD k 0)) (2 * 40960)

theorem sum_take_succ_getD (h : List Nat) (k : Nat) : (h.take (k + 1)).sum = (h.take k).sum + h.getD k 0 := by
  rw [List.take_add_one, List.sum_append]
  cases hk : h[k]? <;> simp [hk]

/-- The fold of `fineTable` up to a code holds the sum of the bins before it and their centres, the newest first. -/
theorem fineFold_eq (h : List Nat) (n : Nat) :
    (List.range n).foldl (fun (a : Nat × List Nat) k =>
      (a.1 + h.getD k 0, divRound (65536 * (2 * a.1 + h.getD k 0)) (2 * 40960) :: a.2)) (0, []) =
    ((h.take n).sum, ((List.range n).map (binCentre h)).reverse) := by
  induction n with
  | zero => rfl
  | succ n ih =>
    rw [List.range_succ, List.foldl_append, ih, List.map_append, List.reverse_append, sum_take_succ_getD]
    rfl

theorem fineTable_eq (h : List Nat) : fineTable h = (List.range 512).map (binCentre h) := by
  rw [fineTable, fineFold_eq, List.reverse_reverse]

theorem fineTable_getElem? (h : List Nat) {k : Nat} (hk : k < 512) : (fineTable h)[k]? = some (binCentre h k) := by
  simp [fineTable_eq, hk]

/-- A code's value lies within half a unit of the centre of its bin. -/
theorem binCentre_near (h : List Nat) (k : Nat) :
    (2 * 40960 * binCentre h k : Int) - 65536 * (2 * ((h.take k).sum : Int) + (h.getD k 0 : Int)) ≤ 40960 ∧
    65536 * (2 * ((h.take k).sum : Int) + (h.getD k 0 : Int)) - (2 * 40960 * binCentre h k : Int) ≤ 40960 := by
  unfold binCentre divRound
  constructor <;> omega

/-- An ideal line's bins are all of 80 codes. -/
theorem binCentre_ideal {k : Nat} (hk : k < 512) : binCentre (List.replicate 512 80) k = 128 * k + 64 := by
  have hsum : ((List.replicate 512 80).take k).sum = k * 80 := by
    rw [List.take_replicate, List.sum_replicate, Nat.min_eq_left hk.le, smul_eq_mul]
  have hbin : (List.replicate 512 80).getD k 0 = 80 := by
    rw [List.getD_eq_getElem?_getD, List.getElem?_replicate, if_pos hk, Option.getD_some]
  rw [binCentre, hsum, hbin, divRound]
  omega

/-! ### A table in a store -/

theorem look_foldl_put (l : List Nat) (n k : Nat) (m : Store Nat) :
    look 0 ((l.zipIdx n).foldl (fun m e => put 0 m e.2 e.1) m) k = if n ≤ k ∧ k < n + l.length then l.getD (k - n) 0 else look 0 m k := by
  induction l generalizing n m with
  | nil => simp
  | cons x l ih =>
    rw [List.zipIdx_cons, List.foldl_cons, ih, look_put]
    simp only [List.length_cons]
    by_cases hk : k = n
    · subst hk
      simp
    · by_cases hlt : n + 1 ≤ k ∧ k < n + 1 + l.length
      · rw [if_pos hlt, if_pos (by omega), show k - n = (k - (n + 1)) + 1 by omega, List.getD_cons_succ]
      · rw [if_neg hlt, if_neg hk, if_neg (by omega)]

/-- Each code of a table that is installed reads its value. -/
theorem look_tableStore (l : List Nat) (k : Nat) : look 0 (tableStore l) k = l.getD k 0 := by
  rw [tableStore, look_foldl_put]
  split
  · simp
  · next h => exact (List.getD_eq_default l 0 (by omega)).symm

/-! ### Records of the TDC channels -/

section
variable (s : State) {t u : State} (v c : Nat)

@[simp] theorem State.tdc_onTdc_same (f : Tdc → Tdc) : (s.onTdc v c f).tdc v c = f (s.tdc v c) := by
  rw [State.tdc, State.onTdc, State.tcu_onTcu_same]
  exact look_upd_same _ _ _ _

theorem State.tdc_congr (h : u.tcus = t.tcus) : u.tdc v c = t.tdc v c := by rw [State.tdc, State.tcu, h]; rfl

@[simp] theorem State.tdc_wr (p : Nat) (f : Fld) (x : Nat) : (s.wr p f x).tdc v c = s.tdc v c := rfl
@[simp] theorem State.tdc_settle : s.settle.tdc v c = s.tdc v c := State.tdc_congr v c (by simp)

/-! ### What the end of a run changes (R375, R376, R382) -/

theorem State.finish_tcus (k : Cmd) (st d r0 r1 : Nat) : (s.finish k st d r0 r1).tcus = s.tcus := by rw [State.finish_eq]

theorem State.calRunDone_tcus (p : Nat) (ok : Bool) : (s.calRunDone p ok).tcus = s.tcus := by
  unfold State.calRunDone
  generalize s.cmds.filter _ = l
  induction l generalizing s with
  | nil => rfl
  | cons k l ih =>
    refine (ih _).trans ?_
    dsimp only
    split
    · exact s.finish_tcus _ _ _ _ _
    split
    · exact s.finish_tcus _ _ _ _ _
    · rfl

theorem State.runOk_tcus (p : Nat) : (s.runOk p).tcus = s.tcus := by
  unfold State.runOk
  dsimp only
  split <;> simp [State.clearFault, State.runEnd, State.showRunning]

end

/-! ### The registers that a run changes -/

/-- Every register but the one at place `x` of page `p`. -/
abbrev elsewhere (p x : Nat) : Nat → Nat → Prop := fun q y => q ≠ p ∨ y ≠ x

/-- A register stands where nothing but the others has changed. -/
theorem State.Only.stands {s u : State} {p : Nat} {f : Fld} (h : State.Only (elsewhere p (f.place 0)) s u) (hf : f.inPage 0 = true) :
    u.rd p f = s.rd p f := h.rd hf (by simp)

namespace State.Only
section
variable {E : Nat → Nat → Prop} {s u : State} {p b : Nat}

theorem raiseHdr (h : State.Only E s u) (hE : E p (R.HDR.HDR_INT_CAUSE.place 0)) : State.Only E s (u.raiseHdr p b) := h.wr _ rfl hE

theorem showRunning (h : State.Only E s u) (hE : E pageCaldir (R.CALDIR.CAL_STAT_RUNNING.place 0)) : State.Only E s u.showRunning :=
  h.wr _ rfl hE

theorem runStart (h : State.Only E s u) (hE : E pageCaldir (R.CALDIR.CAL_STAT_RUNNING.place 0)) : State.Only E s (u.runStart p) :=
  .showRunning (h.upd rfl) hE

/-- A good end of a run on page `p` changes `CAL_STAT.RUNNING` and the header of the page (R376, R382). -/
theorem runOk (h : State.Only E s u) (hE : E pageCaldir (R.CALDIR.CAL_STAT_RUNNING.place 0)) (hp : ∀ x < 512, E p x) :
    State.Only E s (u.runOk p) := by
  have hend : State.Only E s (u.runEnd p) := .showRunning (h.upd rfl) hE
  unfold State.runOk
  dsimp only
  have hcounted := ((hend.wr (p := p) (f := R.HDR.HDR_CAL_COUNT) ((u.runEnd p).rd p R.HDR.HDR_CAL_COUNT + 1) rfl (hp _ (by decide))).wr
    (p := p) (f := R.HDR.HDR_CAL_LAST) ((u.runEnd p).wr p R.HDR.HDR_CAL_COUNT ((u.runEnd p).rd p R.HDR.HDR_CAL_COUNT + 1)).sec rfl
    (hp _ (by decide))).raiseHdr (p := p) (b := hCalDone) (hp _ (by decide))
  exact .ite ((hcounted.wr 0 rfl (hp _ (by decide))).wr 0 rfl (hp _ (by decide))) hcounted

/-- The end of the commands that wait for a run changes what completions do. -/
theorem calRunDone {ok : Bool} (h : State.Only E s u) (hE : ∀ q x, cplReachAny q x → E q x) : State.Only E s (u.calRunDone p ok) :=
  h.trans (State.Only.foldl _ _ (.refl u) fun a _ _ =>
    .ite ((a.finish_only _ _ _ _ _).mono hE) (.ite ((a.finish_only _ _ _ _ _).mono hE) (.of_regs rfl)))

end
end State.Only

/-! ### The end of a run of a channel (R71) -/

/-- Device time, as the second of a run and as its sensor, stands where the base registers and the TCUs' clocks do. -/
theorem State.sec_eq {E : List Nat} {s u : State} (hb : State.KeepsBase E s u) (hE : R.ARB.ARB_STAT_HOLDER.place 0 ∉ E)
    (hc : State.KeepsTcu Tcu.clock s u) : u.sec = s.sec := by
  have hclk (v : Nat) : (u.tcu v).clk = (s.tcu v).clk := congrArg Prod.fst (hc v)
  have hlead : u.lead = s.lead := by
    rw [State.lead, State.lead, hb.switch, hb.active hE]
    simp only [hclk]
  have hnow : (u.tcu u.lead).clock.2.1 = (s.tcu s.lead).clock.2.1 := by rw [hlead, hc]
  rw [State.sec, State.sec, State.now, State.now]
  exact congrArg (· / 1000000000) hnow

theorem State.sensor_eq {s u : State} (hb : State.KeepsBase [] s u) {t : Nat} (ht : t < 2) : u.sensor t = s.sensor t := by
  have hreg : ∀ t < 2, R.SUPPLY.TS.blockReg t = true := by decide
  rw [State.sensor, State.sensor, hb.regs pageSupply R.SUPPLY.TS t (by decide) (hreg t ht) (by simp)]

section
variable (s : State) {t c : Nat} {lines : Nat}

/-- The state in which a run finds its loops locked, before it is counted (R70, R71). -/
def State.calFound (s : State) (t c lines : Nat) : State :=
  let a := (s.wr (pageTdc t c) R.TDC.TDC_STAT_CAL_RUNNING 0).linesFound (pageTdc t c) lines
  a.onTdc t c fun d => { d with tCal := a.sensor t }

theorem State.calFound_keeps (t : Nat) (hc : c < 24) (lines : Nat) :
    State.KeepsBase [] s (s.calFound t c lines) ∧ State.KeepsTcu Tcu.clock s (s.calFound t c lines) :=
  ⟨.onTdc (.raiseIf (((State.KeepsBase.refl s).wr (basePage_pageTdc t hc) (by decide)).wr (basePage_pageTdc t hc) (by decide))),
    .onTcu (.raiseIf (.wr (.wr (.refl s)))) (by intro; rfl)⟩

theorem State.calFound_shows (hl : lines % 32 = 31) :
    (s.calFound t c lines).rd (pageTdc t c) R.TDC.TDC_STAT_LINE_LOCK = 31 ∧
    (s.calFound t c lines).rd (pageTdc t c) R.TDC.TDC_STAT_CAL_RUNNING = 0 ∧
    (s.calFound t c lines).rd (pageTdc t c) R.HDR.HDR_CAL_COUNT = s.rd (pageTdc t c) R.HDR.HDR_CAL_COUNT := by
  refine ⟨?_, ?_, ?_⟩ <;> rw [State.calFound, State.onTdc, State.rd_onTcu, State.linesFound, State.rd_raiseIf _ _ _ _ _ _ (by decide)]
  · rw [State.rd_wr_same]
    exact hl
  · rw [State.rd_wr_place _ _ _ _ _ _ (by decide), State.rd_wr_same]
    rfl
  · rw [State.rd_wr_place _ _ _ _ _ _ (by decide), State.rd_wr_place _ _ _ _ _ _ (by decide)]

/-- A good end of a run counts it (R382). -/
theorem State.runOk_count (p : Nat) : (s.runOk p).rd p R.HDR.HDR_CAL_COUNT = (s.rd p R.HDR.HDR_CAL_COUNT + 1) % 2 ^ 32 := by
  have hcounted : (((((s.runEnd p).wr p R.HDR.HDR_CAL_COUNT ((s.runEnd p).rd p R.HDR.HDR_CAL_COUNT + 1)).wr p R.HDR.HDR_CAL_LAST
      ((s.runEnd p).wr p R.HDR.HDR_CAL_COUNT ((s.runEnd p).rd p R.HDR.HDR_CAL_COUNT + 1)).sec).raiseHdr p hCalDone)).rd p R.HDR.HDR_CAL_COUNT =
      (s.rd p R.HDR.HDR_CAL_COUNT + 1) % 2 ^ 32 := by
    rw [State.rd_raiseHdr _ _ _ _ _ (by decide), State.rd_wr_place _ _ _ _ _ _ (by decide), State.rd_wr_same, State.runEnd, State.showRunning,
      State.rd_wr_place _ _ _ _ _ _ (by decide)]
    rfl
  unfold State.runOk
  dsimp only
  split
  · rw [State.clearFault, State.rd_wr_place _ _ _ _ _ _ (by decide), State.rd_wr_place _ _ _ _ _ _ (by decide), hcounted]
  · exact hcounted

/-- The registers of a channel's page past its header stand at the good end of a run. -/
theorem State.runOk_rd (hc : c < 24) {f : Fld} (hf : f.inPage 0 = true) (hp : 512 ≤ f.place 0) :
    (s.runOk (pageTdc t c)).rd (pageTdc t c) f = s.rd (pageTdc t c) f := by
  refine State.Only.stands (.runOk (.refl s) (.inl ?_) fun x hx => .inr (by omega)) hf
  simp only [pageCaldir, pageTdc, tpage, ne_eq]
  omega

theorem runs_tdcCalEnd {hist : List Nat} {res : Int} (ht : t < 2) (hc : c < 24) (hl : lines % 32 = 31)
    (hr : s.calRunning.contains (pageTdc t c) = true) :
    Runs (.tdcCalEnd t c hist lines res) s (fun u =>
      (u.tdc t c).newLut = some ⟨fineTable hist, tdcLatency c res, s.sensor t, s.sec % 2 ^ 32⟩ ∧
      u.rd (pageTdc t c) R.TDC.TDC_STAT_LINE_LOCK = 31 ∧ u.flag (pageTdc t c) R.TDC.TDC_STAT_CAL_RUNNING = false ∧
      u.rd (pageTdc t c) R.HDR.HDR_CAL_COUNT = (s.rd (pageTdc t c) R.HDR.HDR_CAL_COUNT + 1) % 2 ^ 32) := by
  obtain ⟨hbase, hclock⟩ := s.calFound_keeps t hc lines
  obtain ⟨hlines, hrun, hcount⟩ := s.calFound_shows (t := t) (c := c) hl
  have hx : exec (.tdcCalEnd t c hist lines res) s = done (((s.calFound t c lines).runOk (pageTdc t c)).onTdc t c fun d =>
      { d with newLut := some ⟨fineTable hist, tdcLatency c res, (s.calFound t c lines).sensor t, (s.calFound t c lines).sec % 2 ^ 32⟩ }) := by
    show execTdcCalEnd t c hist lines res s = _
    unfold execTdcCalEnd
    rw [Nat.mod_eq_of_lt ht]
    dsimp only
    rw [if_neg (by simpa using hr), if_pos hl]
    rfl
  refine runs_done hx ⟨?_, ?_, ?_, ?_⟩
  · rw [State.tdc_settle, State.tdc_onTdc_same, State.sensor_eq hbase ht, State.sec_eq hbase (by simp) hclock]
  · rw [State.rd_settle, State.onTdc, State.rd_onTcu, State.runOk_rd _ hc (by decide) (by decide), hlines]
  · rw [State.flag_settle, State.flag, State.onTdc, State.rd_onTcu, State.runOk_rd _ hc (by decide) (by decide), hrun]
    rfl
  · rw [State.rd_settle, State.onTdc, State.rd_onTcu, State.runOk_count, hcount]

/-! ### The installation at gate idle (R71, R72, R77) -/

theorem runs_tdcCalInstall {r : TdcRest} (ht : t < 2) (hc : c < 24) (hg : s.gateIdle t c = true)
    (hf : s.flag (pageTdc t c) R.TDC.TDC_STAT_CAL_RUNNING = false) (hn : (s.tdc t c).newLut = some r) (hrest : (s.tdc t c).rest = none) :
    Runs (.tdcCalInstall t c) s (fun u => (u.tdc t c).lut = tableStore r.table ∧ (u.tdc t c).newLut = none ∧
      u.rd (pageTdc t c) R.TDC.TDC_LAT = r.lat % 2 ^ 32 ∧ (u.tdc t c).tVal = r.t ∧ (u.tdc t c).secs = r.sec) := by
  have htdc : ((s.takeNew t c r).calRunDone (pageTdc t c) true).tdc t c =
      { s.tdc t c with lut := tableStore r.table, newLut := none, tVal := r.t, secs := r.sec } := by
    rw [State.tdc_congr t c (State.calRunDone_tcus _ _ _), State.takeNew, State.tdc_onTdc_same, State.takeTable, State.tdc_wr,
      State.tdc_onTdc_same]
  have hx : exec (.tdcCalInstall t c) s = done ((s.takeNew t c r).calRunDone (pageTdc t c) true) := by
    show execTdcCalInstall t c s = _
    unfold execTdcCalInstall
    rw [Nat.mod_eq_of_lt ht]
    dsimp only
    rw [if_neg (by simp [hg, hf]), hn]
    dsimp only
    rw [htdc]
    dsimp only
    rw [hrest]
  have hlat : ((s.takeNew t c r).calRunDone (pageTdc t c) true).rd (pageTdc t c) R.TDC.TDC_LAT = (s.takeNew t c r).rd (pageTdc t c) R.TDC.TDC_LAT := by
    refine State.Only.stands (.calRunDone (.refl _) ?_) (by decide)
    rintro q x ⟨k, hk, rfl, -⟩
    refine .inl ?_
    simp only [pageHC, pageTdc, tpage, ne_eq]
    omega
  refine runs_done hx ⟨?_, ?_, ?_, ?_, ?_⟩
  · rw [State.tdc_settle, htdc]
  · rw [State.tdc_settle, htdc]
  · rw [State.rd_settle, hlat, State.takeNew, State.onTdc, State.rd_onTcu, State.takeTable, State.rd_wr_same]
    rfl
  · rw [State.tdc_settle, htdc]
  · rw [State.tdc_settle, htdc]

end

/-- Settles O52: `fineTable` is the list of the bins' centres; its store reads them back; the run's end puts it in wait and the installation takes it
with what it was measured at. -/
theorem theCorrectionTableTakesBinCentres : Obligations.TheCorrectionTableTakesBinCentres := by
  unfold Obligations.TheCorrectionTableTakesBinCentres
  refine ⟨fun h k hk => ⟨_, fineTable_getElem? h hk, binCentre_near h k⟩, fun k hk => ?_, fun s t c hist lines res ht hc hl hr => ?_,
    fun s t c hist lat z n k ht hc _ hg hf hn hrest => ?_⟩
  · rw [List.getD_eq_getElem?_getD, fineTable_getElem? _ hk, Option.getD_some, binCentre_ideal hk]
  · obtain ⟨u, hu, hnew, -⟩ := runs_tdcCalEnd s (hist := hist) (res := res) ht hc hl hr
    exact ⟨u, hu, hnew⟩
  · obtain ⟨u, hu, hlut, -, hlat, hval, hsecs⟩ := runs_tdcCalInstall s ht hc hg hf hn hrest
    exact ⟨u, hu, by rw [Tdc.fine, hlut, look_tableStore], hval, hsecs, hlat⟩

end Sys2Proof.Machine
end

section
/-! PROOF. The synthesizer's calibration runs (R85, R86) and its start-up (R88), and O3. -/

open Sys2Proof Sys2Proof.Machine
namespace Sys2Proof.Machine

theorem isTcuB_tpage {t r : Nat} (ht : t < 2) (h : 0x40 ≤ r) (h' : r < 0x80) : b2n (isTcuB (tpage t r)) = t :=
  (show ∀ r < 0x80, 0x40 ≤ r → ∀ t < 2, b2n (isTcuB (tpage t r)) = t by decide +kernel) r h' h t ht

theorem pageBlk_pageSynth {t : Nat} (ht : t < 2) : pageBlk (pageSynth t) = some .synth :=
  (show ∀ t < 2, pageBlk (pageSynth t) = some .synth by decide) t ht

/-! ### Runs of the channels start (R73, R374) -/

section
variable (s : State) {t c : Nat}

theorem State.tdcRunStart_shows :
    (s.tdcRunStart t c).flag (pageTdc t c) R.TDC.TDC_STAT_CAL_RUNNING = true ∧ ((s.tdcRunStart t c).tdc t c).due = false ∧
    (s.tdcRunStart t c).calRunning = s.calRunning ++ [pageTdc t c] := by
  refine ⟨?_, ?_, rfl⟩
  · rw [State.flag, State.tdcRunStart, State.rd_wr_same]
    rfl
  · rw [State.tdcRunStart, State.tdc_wr, State.tdc_onTdc_same]

/-- A run that has started is shown at the end of the command. -/
theorem runs_tdcRunStart {i : Instr} (hx : exec i s = done (s.tdcRunStart t c)) :
    Runs i s (fun u => u.flag (pageTdc t c) R.TDC.TDC_STAT_CAL_RUNNING = true ∧ (u.tdc t c).due = false ∧
      u.calRunning = s.calRunning ++ [pageTdc t c]) := by
  obtain ⟨hflag, hdue, hrun⟩ := s.tdcRunStart_shows (t := t) (c := c)
  exact runs_done hx ⟨by rw [State.flag_settle, hflag], by rw [State.tdc_settle, hdue], by rw [State.settle_calRunning, hrun]⟩

theorem exec_tdcCalStart (ht : t < 2) (hn : s.nextTdc t = some c) : exec (.tdcCalStart t) s = done (s.tdcRunStart t c) := by
  show execTdcCalStart t s = _
  rw [execTdcCalStart, Nat.mod_eq_of_lt ht, hn]

theorem exec_calDeferTimeout (ht : t < 2) (he : isEvent c = true) (hg : s.gateIdle t c = false) (hel : s.tdcEligible t c true = true) :
    exec (.calDeferTimeout t c) s = done (s.tdcRunStart t c) := by
  show execCalDeferTimeout t c s = _
  rw [execCalDeferTimeout, Nat.mod_eq_of_lt ht, if_pos ⟨he, by simp [hg], hel⟩]

end

/-! ### What the commands of a synthesizer keep of a register of its page -/

namespace State.Only
section
variable {t x y : Nat} {s u : State}

/-- An update of another page leaves the synthesizer's. -/
theorem wrOff {p : Nat} {f : Fld} (h : State.Only (elsewhere (pageSynth t) x) s u) (hp : p ≠ pageSynth t) (hf : f.inPage 0 = true) :
    State.Only (elsewhere (pageSynth t) x) s (u.wr p f y) := h.wr _ hf (.inl hp)

/-- So does an update of another of its registers. -/
theorem wrOther {f : Fld} (h : State.Only (elsewhere (pageSynth t) x) s u) (hx : f.place 0 ≠ x) (hf : f.inPage 0 = true) :
    State.Only (elsewhere (pageSynth t) x) s (u.wr (pageSynth t) f y) := h.wr _ hf (.inr hx)

theorem pageRind_ne_pageSynth : pageRind ≠ pageSynth t := by simp only [pageRind, pageSynth, tpage]; omega
theorem pageCtl_ne_pageSynth {v : Nat} : pageCtl v ≠ pageSynth t := by simp only [pageCtl, pageSynth, tpage]; omega
theorem pageCaldir_ne_pageSynth : pageCaldir ≠ pageSynth t := by simp only [pageCaldir, pageSynth, tpage]; omega

theorem setLock {b : Bool} (h : State.Only (elsewhere (pageSynth t) x) s u) (hx : R.SYNTH.SYN_STAT_LOCK.place 0 ≠ x) :
    State.Only (elsewhere (pageSynth t) x) s (u.setLock t b) := by
  refine (h.wrOther hx (by decide)).wrOff pageRind_ne_pageSynth ?_
  split <;> decide

theorem setRatio {r : Int} (h : State.Only (elsewhere (pageSynth t) x) s u)
    (hx : ∀ f ∈ [R.SYNTH.SYN_N, R.SYNTH.SYN_FRAC, R.SYNTH.SYN_SUB], f.place 0 ≠ x) : State.Only (elsewhere (pageSynth t) x) s (u.setRatio t r) :=
  .ite h (((h.wrOther (hx _ (by simp)) (by decide)).wrOther (hx _ (by simp)) (by decide)).wrOther (hx _ (by simp)) (by decide))

theorem runStartSynth (h : State.Only (elsewhere (pageSynth t) x) s u) : State.Only (elsewhere (pageSynth t) x) s (u.runStart (pageSynth t)) :=
  h.runStart (.inl pageCaldir_ne_pageSynth)

theorem runOkSynth (h : State.Only (elsewhere (pageSynth t) x) s u) (hx : 512 ≤ x) :
    State.Only (elsewhere (pageSynth t) x) s (u.runOk (pageSynth t)) := h.runOk (.inl pageCaldir_ne_pageSynth) fun y hy => .inr (by omega)

theorem calRunDoneSynth {p : Nat} {ok : Bool} (h : State.Only (elsewhere (pageSynth t) x) s u) :
    State.Only (elsewhere (pageSynth t) x) s (u.calRunDone p ok) := by
  refine h.calRunDone ?_
  rintro q y ⟨k, hk, rfl, -⟩
  refine .inl ?_
  simp only [pageHC, pageSynth, tpage, ne_eq]
  omega

theorem setTcuState (h : State.Only (elsewhere (pageSynth t) x) s u) (hx : R.SYNTH.SYN_STAT_ACTIVE.place 0 ≠ x) :
    State.Only (elsewhere (pageSynth t) x) s (u.setTcuState t y) := by
  have hshown : State.Only (elsewhere (pageSynth t) x) s ((u.wr (pageCtl t) R.CTL.TCU_STAT_STATE y).raise (pageCtl t) 0) :=
    (h.wrOff pageCtl_ne_pageSynth (by decide)).raise _ (.inl pageCtl_ne_pageSynth)
  have hactive := (hshown.wrOther (y := b2n (y == tsActive)) hx (by decide)).upd (u := { ((u.wr (pageCtl t) R.CTL.TCU_STAT_STATE y).raise
    (pageCtl t) 0).wr (pageSynth t) R.SYNTH.SYN_STAT_ACTIVE (b2n (y == tsActive)) with judging := false }) rfl
  exact .ite h (.ite (hactive.wrOff pageCtl_ne_pageSynth (by decide)) hactive)

theorem showLockstep (h : State.Only (elsewhere (pageSynth t) x) s u) : State.Only (elsewhere (pageSynth t) x) s u.showLockstep :=
  (h.wrOff pageCtl_ne_pageSynth (by decide)).wrOff pageCtl_ne_pageSynth (by decide)

theorem revertCheck (h : State.Only (elsewhere (pageSynth t) x) s u) : State.Only (elsewhere (pageSynth t) x) s u.revertCheck := .ite h (h.upd rfl)

theorem setAlignErr {a : Int} (h : State.Only (elsewhere (pageSynth t) x) s u) : State.Only (elsewhere (pageSynth t) x) s (u.setAlignErr t a) :=
  (h.wrOff pageCtl_ne_pageSynth (by decide)).upd rfl

end
end State.Only

/-! ### A TCU enters a state, and what follows it (R148, R159, R160) -/

/-- TCU `t` enters a state; the lockstep and the revert hold-off follow. -/
def State.enterState (s : State) (t x : Nat) : State := (s.setTcuState t x).showLockstep.revertCheck

section
variable (s : State) {t : Nat} {x y : Nat}

theorem State.enterState_tcuState (ht : t < 2) (hx : x < 8) : (s.enterState t x).tcuState t = x := by
  have hkeeps : State.KeepsBase [R.CTL.TCU_STAT_LOCKSTEP.place 0] (s.setTcuState t x) (s.enterState t x) :=
    .revertCheck (.showLockstep (.refl _) (by decide))
  rw [hkeeps.tcuState ht (by decide), State.tcuState_setTcuState_self s x hx]

theorem State.revertCheck_tcus : s.revertCheck.tcus = s.tcus := by unfold State.revertCheck; dsimp only; split <;> rfl
theorem State.revertCheck_calRunning : s.revertCheck.calRunning = s.calRunning := by unfold State.revertCheck; dsimp only; split <;> rfl
theorem State.revertCheck_cmds : s.revertCheck.cmds = s.cmds := by unfold State.revertCheck; dsimp only; split <;> rfl
theorem State.setTcuState_calRunning : (s.setTcuState t x).calRunning = s.calRunning := by
  unfold State.setTcuState
  dsimp only
  (repeat' split) <;> simp
theorem State.setTcuState_cmds : (s.setTcuState t x).cmds = s.cmds := by
  unfold State.setTcuState
  dsimp only
  (repeat' split) <;> simp

theorem State.enterState_tcus : (s.enterState t x).tcus = s.tcus := (State.revertCheck_tcus _).trans (s.setTcuState_tcus t x)
theorem State.enterState_calRunning : (s.enterState t x).calRunning = s.calRunning :=
  (State.revertCheck_calRunning _).trans s.setTcuState_calRunning
theorem State.enterState_cmds : (s.enterState t x).cmds = s.cmds := (State.revertCheck_cmds _).trans s.setTcuState_cmds

theorem State.Only.enterState {s u : State} (h : State.Only (elsewhere (pageSynth t) x) s u) (hx : R.SYNTH.SYN_STAT_ACTIVE.place 0 ≠ x) :
    State.Only (elsewhere (pageSynth t) x) s (u.enterState t y) := (h.setTcuState hx).showLockstep.revertCheck

end

/-! ### A run of the synthesizer starts (R85, R86) -/

/-- The reference path that waits for the run takes effect (R85). -/
def State.pathTaken (s : State) (t : Nat) : State :=
  match (s.tcu t).newPath with
  | some x => s.wr (pageSynth t) R.SYNTH.SYN_CTL_REF_PATH x
  | none => s

/-- The run is in progress, and the loop is not locked (R86). -/
def State.pllBegun (s : State) (t : Nat) : State :=
  ((((((s.pathTaken t).onTcu t fun u => { u with pllDue := false, newPath := none }).runStart (pageSynth t)).setLock t false).wr (pageSynth t)
    R.SYNTH.SYN_STAT_REFMUL_LOCK 0).wr (pageSynth t) R.SYNTH.SYN_STAT_BAND_VALID 0)

section
variable {s : State} {t : Nat}

theorem State.pllStart_eq (hs : s.tcuState t = tsStandby) (ho : s.runsOpen = true) (hd : s.pllDue t = true) :
    s.pllStart t = (s.pllBegun t).enterState t tsCalibrating := by
  unfold State.pllStart
  rw [if_neg (by simp [hs, ho, hd])]
  rfl

theorem State.pllStart_idle (h : s.tcuState t ≠ tsStandby ∨ s.runsOpen = false) : s.pllStart t = s := by
  unfold State.pllStart
  rw [if_pos (by rcases h with h | h <;> simp [h])]

theorem State.pathTaken_tcus (s : State) (t : Nat) : (s.pathTaken t).tcus = s.tcus := by unfold State.pathTaken; split <;> rfl
theorem State.pathTaken_calRunning (s : State) (t : Nat) : (s.pathTaken t).calRunning = s.calRunning := by unfold State.pathTaken; split <;> rfl

theorem State.pllBegun_calRunning (s : State) (t : Nat) : (s.pllBegun t).calRunning = s.calRunning ++ [pageSynth t] := by
  show (s.pathTaken t).calRunning ++ _ = _
  rw [State.pathTaken_calRunning]

theorem State.pllBegun_tcu (s : State) (t : Nat) : (s.pllBegun t).tcu t = { s.tcu t with pllDue := false, newPath := none } := by
  show ((s.pathTaken t).onTcu t fun u => { u with pllDue := false, newPath := none }).tcu t = _
  rw [State.tcu_onTcu_same, State.tcu, State.pathTaken_tcus]
  rfl

/-- What a run of the synthesizer that has started shows (R86, R148). -/
theorem State.pllStart_shows (ht : t < 2) (hs : s.tcuState t = tsStandby) (ho : s.runsOpen = true) (hd : s.pllDue t = true) :
    (s.pllStart t).tcuState t = tsCalibrating ∧ (s.pllStart t).flag (pageSynth t) R.SYNTH.SYN_STAT_LOCK = false ∧
    (s.pllStart t).tcu t = { s.tcu t with pllDue := false, newPath := none } ∧ (s.pllStart t).calRunning = s.calRunning ++ [pageSynth t] := by
  rw [State.pllStart_eq hs ho hd]
  refine ⟨State.enterState_tcuState _ ht (by decide), ?_, ?_, ?_⟩
  · have hkept : State.Only (elsewhere (pageSynth t) (R.SYNTH.SYN_STAT_LOCK.place 0))
        ((((s.pathTaken t).onTcu t fun u => { u with pllDue := false, newPath := none }).runStart (pageSynth t)).wr (pageSynth t)
          R.SYNTH.SYN_STAT_LOCK (b2n false)) ((s.pllBegun t).enterState t tsCalibrating) := by
      refine .enterState (.wrOther (.wrOther (.wrOff (.refl _) State.Only.pageRind_ne_pageSynth ?_) ?_ ?_) ?_ ?_) ?_
      · split <;> decide
      all_goals decide
    rw [State.flag, hkept.stands (by decide), State.rd_wr_same]
    rfl
  · rw [← State.pllBegun_tcu, State.tcu, State.enterState_tcus]
    rfl
  · rw [State.enterState_calRunning, State.pllBegun_calRunning]

/-- Every other register of the page that the run does not show, and the path that it takes. -/
theorem State.pllStart_path (hs : s.tcuState t = tsStandby) (ho : s.runsOpen = true) (hd : s.pllDue t = true) :
    (s.pllStart t).rd (pageSynth t) R.SYNTH.SYN_CTL_REF_PATH = (s.pathTaken t).rd (pageSynth t) R.SYNTH.SYN_CTL_REF_PATH ∧
    (s.pllStart t).rd (pageSynth t) R.SYNTH.SYN_CTL_DITHER = s.rd (pageSynth t) R.SYNTH.SYN_CTL_DITHER := by
  have hkept {x : Nat} (hx : R.SYNTH.SYN_STAT_LOCK.place 0 ≠ x ∧ R.SYNTH.SYN_STAT_REFMUL_LOCK.place 0 ≠ x ∧
      R.SYNTH.SYN_STAT_BAND_VALID.place 0 ≠ x ∧ R.SYNTH.SYN_STAT_ACTIVE.place 0 ≠ x) :
      State.Only (elsewhere (pageSynth t) x) (s.pathTaken t) ((s.pllBegun t).enterState t tsCalibrating) := by
    obtain ⟨hlock, hmul, hband, hactive⟩ := hx
    refine .enterState (.wrOther (.wrOther (.setLock (.runStartSynth ?_) hlock) hmul (by decide)) hband (by decide)) hactive
    exact .of_regs rfl
  have hdither : (s.pathTaken t).rd (pageSynth t) R.SYNTH.SYN_CTL_DITHER = s.rd (pageSynth t) R.SYNTH.SYN_CTL_DITHER := by
    unfold State.pathTaken
    split
    · exact State.rd_wr_place _ _ _ _ _ _ (by decide)
    · rfl
  rw [State.pllStart_eq hs ho hd, (hkept (by decide)).stands (by decide), (hkept (by decide)).stands (by decide)]
  exact ⟨rfl, hdither⟩

end

/-! ### A write of `SYN_CTL` (R85) -/

/-- A write of an RW field that is not double-buffered, has no error and no rule of its own, takes what is written (R8). -/
theorem State.fieldWrite_rw {s u : State} {p : Nat} {b : Blk} {v : Nat} {f : Fld} {i : Nat} (he : s.fieldErr p b v (f, i) = 0)
    (hk : s.keeps p b v f i = false) (hacc : f.acc = .rw) (hdb : f.db = false) :
    s.fieldWrite p b v (f, i) u = u.wrI p f i (bits v f.lo f.w) := by
  unfold State.fieldWrite
  dsimp only
  rw [he, hk, hacc, hdb, if_neg (by simp)]
  rfl

/-- What is written to an RW field without an error is listed (R7). -/
theorem State.legal_of_fieldErr {s : State} {p : Nat} {b : Blk} {v : Nat} {f : Fld} {i : Nat} (he : s.fieldErr p b v (f, i) = 0)
    (hro : s.readsOnly p b f = false) (hacc : f.acc = .rw) : f.legal.ok f.w (bits v f.lo f.w) = true := by
  by_contra hbad
  unfold State.fieldErr at he
  dsimp only at he
  rw [hro, if_neg (by simp)] at he
  have henc := (Nat.or_eq_zero_iff.1 (Nat.or_eq_zero_iff.1 he).1).1
  rw [if_pos (.inl ⟨.inl hacc, hbad⟩)] at henc
  exact absurd henc (by decide)

section
variable {s : State} {ctx t v : Nat}

/-- `SYN_CTL` as a write leaves it: DITHER takes what is written, and REF_PATH stands. -/
theorem State.synCtlFields (hw : s.writes ctx (pageSynth t)) (ha : ∀ fi ∈ fieldsAt .synth 0x040, s.fieldErr (pageSynth t) .synth v fi = 0) :
    (fieldsAt .synth 0x040).foldl (fun a fi => s.fieldWrite (pageSynth t) .synth v fi a) s =
      s.wr (pageSynth t) R.SYNTH.SYN_CTL_DITHER (bits v 2 1) := by
  have hrow : fieldsAt .synth 0x040 = [(R.SYNTH.SYN_CTL_REF_PATH, 0), (R.SYNTH.SYN_CTL_DITHER, 0)] := by decide
  rw [hrow] at ha ⊢
  have hpath : s.fieldWrite (pageSynth t) .synth v (R.SYNTH.SYN_CTL_REF_PATH, 0) s = s := by
    unfold State.fieldWrite
    exact if_pos (.inr (by simp [State.keeps]))
  have hkeeps : s.keeps (pageSynth t) .synth v R.SYNTH.SYN_CTL_DITHER 0 = false := by
    have hpath : R.SYNTH.SYN_CTL_DITHER ≠ R.SYNTH.SYN_CTL_REF_PATH := by decide
    have howner : R.SYNTH.SYN_CTL_DITHER ≠ R.HDR.HDR_OWNER_OWNER := by decide
    simp [State.keeps, State.windowShut, hw.2.2.2, hpath, howner]
  rw [List.foldl_cons, hpath, List.foldl_cons, List.foldl_nil, State.fieldWrite_rw (ha _ (by simp)) hkeeps rfl rfl]
  rfl

theorem State.write_synCtl (ht : t < 2) (hv : v < 2 ^ 32) (hw : s.writes ctx (pageSynth t)) (ha : s.allows (pageSynth t) 0x040 v) :
    s.write ctx (pageSynth t) 0x040 v = (s.wr (pageSynth t) R.SYNTH.SYN_CTL_DITHER (bits v 2 1)).synCtlWritten t v := by
  have hf := ha .synth (by rw [pageBlk_pageSynth ht]; rfl)
  have hespare : pageSynth t ≠ pageEspare := by simp only [pageSynth, pageEspare, tpage, ne_eq]; omega
  have hwin : s.windowShut (pageSynth t) 0x040 = false := by simp [State.windowShut, hw.2.2.2]
  rw [State.write_ok s hw (pageBlk_pageSynth ht) (by decide) (by decide) (by decide) (by decide) hespare (.inr (by decide)) (by decide)
    (by rwa [Nat.mod_eq_of_lt hv]), Nat.mod_eq_of_lt hv, State.synCtlFields hw hf]
  unfold State.regEffect
  dsimp only
  rw [hwin, pageBlk_pageSynth ht, if_neg (by decide), if_neg (by decide)]
  dsimp only
  rw [if_pos rfl, pageSynth, isTcuB_tpage ht (by decide) (by decide)]

/-- The encoding 3 of REF_PATH is not listed (R82). -/
theorem State.refPath_of_allows (ht : t < 2) (ha : s.allows (pageSynth t) 0x040 v) : bits v 0 2 ≠ 3 := by
  have hlegal : R.SYNTH.SYN_CTL_REF_PATH.legal.ok 2 (bits v 0 2) = true :=
    State.legal_of_fieldErr (ha .synth (by rw [pageBlk_pageSynth ht]; rfl) (R.SYNTH.SYN_CTL_REF_PATH, 0) (by decide)) rfl rfl
  intro h3
  rw [h3] at hlegal
  exact absurd hlegal (by decide)

/-- DITHER of `SYN_CTL` is written with the word `v` (R85). -/
def State.dithered (s : State) (t v : Nat) : State := s.wr (pageSynth t) R.SYNTH.SYN_CTL_DITHER (bits v 2 1)

theorem State.dithered_keeps (s : State) (t v : Nat) : State.KeepsBase [] s (s.dithered t v) := (State.KeepsBase.refl s).wr (by simp) (by decide)

theorem State.dithered_dither (s : State) (t v : Nat) : (s.dithered t v).rd (pageSynth t) R.SYNTH.SYN_CTL_DITHER = bits v 2 1 :=
  (State.rd_wr_same _ _ _ _).trans (Nat.mod_mod _ _)

theorem State.dithered_path (s : State) (t v : Nat) :
    (s.dithered t v).rd (pageSynth t) R.SYNTH.SYN_CTL_REF_PATH = s.rd (pageSynth t) R.SYNTH.SYN_CTL_REF_PATH :=
  State.rd_wr_place _ _ _ _ _ _ (by decide)

theorem State.dithered_runsOpen (s : State) (t v : Nat) : (s.dithered t v).runsOpen = s.runsOpen := by
  rw [State.runsOpen, State.flag, State.dithered,
    State.rd_wr_page _ _ _ _ (by decide) (by decide) State.Only.pageCaldir_ne_pageSynth.symm]
  rfl

/-- A reference path waits for the next run (R85). -/
def State.waitPath (s : State) (t x : Nat) : State := s.onTcu t fun u => { u with newPath := some x }

theorem State.waitPath_pllDue (s : State) (t x : Nat) : (s.waitPath t x).pllDue t = true := by
  simp [State.pllDue, State.waitPath]

theorem State.waitPath_path {x : Nat} (s : State) (t : Nat) (hx : x < 4) :
    ((s.waitPath t x).pathTaken t).rd (pageSynth t) R.SYNTH.SYN_CTL_REF_PATH = x := by
  rw [State.pathTaken, State.waitPath, State.tcu_onTcu_same]
  exact (State.rd_wr_same _ _ _ _).trans (Nat.mod_eq_of_lt hx)

/-- A change of REF_PATH is refused on the active TCU, and waits for a run on the other (R85). -/
theorem exec_synCtlWrite_change (ht : t < 2) (hv : v < 2 ^ 32) (hw : s.writes ctx (pageSynth t)) (ha : s.allows (pageSynth t) 0x040 v)
    (hx : bits v 0 2 ≠ s.rd (pageSynth t) R.SYNTH.SYN_CTL_REF_PATH) :
    exec (.synCtlWrite ctx t v) s = done (if s.tokenHeld = true ∧ s.active = t then (s.dithered t v).raise (pageSynth t) 2
      else ((s.dithered t v).waitPath t (bits v 0 2)).pllStart t) := by
  have hn : ¬ (bits v 0 2 = 3 ∨ bits v 0 2 = (s.dithered t v).rd (pageSynth t) R.SYNTH.SYN_CTL_REF_PATH) := by
    rw [State.dithered_path]
    exact fun h => h.elim (State.refPath_of_allows ht ha) hx
  show execSynCtlWrite ctx t v s = _
  rw [execSynCtlWrite, Nat.mod_eq_of_lt ht, State.write_synCtl ht hv hw ha]
  change done ((s.dithered t v).synCtlWritten t v) = _
  unfold State.synCtlWritten
  dsimp only
  rw [if_neg hn, (s.dithered_keeps t v).tokenHeld (by simp), (s.dithered_keeps t v).active (by simp)]
  rfl

/-- A change of REF_PATH is refused on the active TCU, and waits on one that is not STANDBY (R85). -/
theorem runs_synCtlWrite_waits (ht : t < 2) (hv : v < 2 ^ 32) (hw : s.writes ctx (pageSynth t)) (ha : s.allows (pageSynth t) 0x040 v)
    (hx : bits v 0 2 ≠ s.rd (pageSynth t) R.SYNTH.SYN_CTL_REF_PATH) (hs : s.tcuState t ≠ tsStandby) :
    Runs (.synCtlWrite ctx t v) s (fun u => u.rd (pageSynth t) R.SYNTH.SYN_CTL_DITHER = bits v 2 1 ∧
      u.rd (pageSynth t) R.SYNTH.SYN_CTL_REF_PATH = s.rd (pageSynth t) R.SYNTH.SYN_CTL_REF_PATH ∧
      (if s.tokenHeld = true ∧ s.active = t then u.cause (pageSynth t) 2 = true ∧ (u.tcu t).newPath = (s.tcu t).newPath
       else (u.tcu t).newPath = some (bits v 0 2))) := by
  have hexec := exec_synCtlWrite_change ht hv hw ha hx
  by_cases hact : s.tokenHeld = true ∧ s.active = t
  · rw [if_pos hact] at hexec
    refine runs_done hexec ⟨?_, ?_, ?_⟩
    · rw [State.rd_settle, State.rd_raise _ _ _ _ _ (by decide), State.dithered_dither]
    · rw [State.rd_settle, State.rd_raise _ _ _ _ _ (by decide), State.dithered_path]
    · rw [if_pos hact, State.cause_settle, State.tcu_settle, State.tcu_raise]
      exact ⟨State.cause_raise (by decide) (((s.dithered_keeps t v).pwr _ (by simp)).trans hw.2.2.1), rfl⟩
  · have hstate : ((s.dithered t v).waitPath t (bits v 0 2)).tcuState t ≠ tsStandby := fun h =>
      hs (((s.dithered_keeps t v).tcuState ht (by simp)).symm.trans h)
    rw [if_neg hact, State.pllStart_idle (.inl hstate)] at hexec
    refine runs_done hexec ⟨?_, ?_, ?_⟩
    · rw [State.rd_settle]
      exact s.dithered_dither t v
    · rw [State.rd_settle]
      exact s.dithered_path t v
    · rw [if_neg hact, State.tcu_settle, State.waitPath, State.tcu_onTcu_same]

/-- On the STANDBY a change of REF_PATH starts a run with the new path, once the runs are open (R85). -/
theorem runs_synCtlWrite_standby (ht : t < 2) (hv : v < 2 ^ 32) (hw : s.writes ctx (pageSynth t)) (ha : s.allows (pageSynth t) 0x040 v)
    (hx : bits v 0 2 ≠ s.rd (pageSynth t) R.SYNTH.SYN_CTL_REF_PATH) (hs : s.tcuState t = tsStandby)
    (hact : ¬ (s.tokenHeld = true ∧ s.active = t)) :
    Runs (.synCtlWrite ctx t v) s (fun u => u.rd (pageSynth t) R.SYNTH.SYN_CTL_DITHER = bits v 2 1 ∧
      (if s.runsOpen = true then u.rd (pageSynth t) R.SYNTH.SYN_CTL_REF_PATH = bits v 0 2 ∧ u.tcuState t = tsCalibrating ∧
        u.flag (pageSynth t) R.SYNTH.SYN_STAT_LOCK = false ∧ (u.tcu t).newPath = none ∧ u.calRunning = s.calRunning ++ [pageSynth t]
       else u.rd (pageSynth t) R.SYNTH.SYN_CTL_REF_PATH = s.rd (pageSynth t) R.SYNTH.SYN_CTL_REF_PATH ∧
        (u.tcu t).newPath = some (bits v 0 2))) := by
  have hexec := exec_synCtlWrite_change ht hv hw ha hx
  have hstate : ((s.dithered t v).waitPath t (bits v 0 2)).tcuState t = tsStandby := ((s.dithered_keeps t v).tcuState ht (by simp)).trans hs
  have hopen : ((s.dithered t v).waitPath t (bits v 0 2)).runsOpen = s.runsOpen := s.dithered_runsOpen t v
  rw [if_neg hact] at hexec
  by_cases ho : s.runsOpen = true
  · rw [ho] at hopen
    have hdue := (s.dithered t v).waitPath_pllDue t (bits v 0 2)
    obtain ⟨hcal, hlock, htcu, hrun⟩ := State.pllStart_shows ht hstate hopen hdue
    obtain ⟨hpath, hdither⟩ := State.pllStart_path hstate hopen hdue
    refine runs_done hexec ⟨?_, ?_⟩
    · rw [State.rd_settle, hdither]
      exact s.dithered_dither t v
    · rw [if_pos ho, State.rd_settle, hpath, State.tcuState_settle, State.flag_settle, State.tcu_settle, htcu, State.settle_calRunning]
      exact ⟨State.waitPath_path _ t (Nat.mod_lt _ (by decide)), hcal, hlock, rfl, hrun⟩
  · rw [State.pllStart_idle (.inr (by rw [hopen]; simpa using ho))] at hexec
    refine runs_done hexec ⟨?_, ?_⟩
    · rw [State.rd_settle]
      exact s.dithered_dither t v
    · rw [if_neg ho, State.rd_settle, State.tcu_settle, State.waitPath, State.tcu_onTcu_same]
      exact ⟨s.dithered_path t v, rfl⟩

theorem runs_pllCalStart (ht : t < 2) (hs : s.tcuState t = tsStandby) (ho : s.runsOpen = true) (hd : s.pllDue t = true) :
    Runs (.pllCalStart t) s (fun u => u.tcuState t = tsCalibrating ∧ u.flag (pageSynth t) R.SYNTH.SYN_STAT_LOCK = false ∧
      (u.tcu t).pllDue = false ∧ u.calRunning = s.calRunning ++ [pageSynth t]) := by
  have hx : exec (.pllCalStart t) s = done (s.pllStart t) := by
    show execPllCalStart t s = _
    rw [execPllCalStart, Nat.mod_eq_of_lt ht]
  obtain ⟨hcal, hlock, htcu, hrun⟩ := State.pllStart_shows ht hs ho hd
  refine runs_done hx ?_
  rw [State.tcuState_settle, State.flag_settle, State.tcu_settle, htcu, State.settle_calRunning]
  exact ⟨hcal, hlock, rfl, hrun⟩

end

/-! ### A run of the synthesizer ends (R86) -/

section
variable {s : State} {t band vtune : Nat}

/-- The loop is locked in a band (R86). -/
def State.inBand (s : State) (t band vtune : Nat) : State :=
  ((((s.setLock t true).wr (pageSynth t) R.SYNTH.SYN_STAT_REFMUL_LOCK 1).wr (pageSynth t) R.SYNTH.SYN_STAT_BAND_VALID 1).wr (pageSynth t)
    R.SYNTH.SYN_STAT_BAND band).wr (pageSynth t) R.SYNTH.SYN_STAT_VTUNE vtune

/-- The ratio follows, with the sensor's value and the second of the run (R83, R372, R379). -/
def State.pllMeasured (s : State) (t : Nat) : State :=
  (s.setRatio t (s.rate t)).onTcu t fun u => { u with tPll := s.sensor t, pllSecs := s.sec % 2 ^ 32 }

/-- The run's values are in force, and the commands that wait for it have ended (R375, R376). -/
def State.pllDone (s : State) (t band vtune : Nat) : State :=
  (((s.inBand t band vtune).pllMeasured t).runOk (pageSynth t)).calRunDone (pageSynth t) true

theorem State.setRatio_tcus (s : State) (t : Nat) (r : Int) : (s.setRatio t r).tcus = s.tcus := by
  unfold State.setRatio
  split <;> rfl

theorem State.pllMeasured_pllRest (s : State) (t : Nat) : State.KeepsTcu Tcu.pllRest s (s.pllMeasured t) :=
  .onTcu (.upd (.refl s) (s.setRatio_tcus _ _)) (by intro; rfl)

theorem State.inBand_tcus (s : State) (t band vtune : Nat) : (s.inBand t band vtune).tcus = s.tcus := rfl

theorem State.pllDone_pllRest (h : (s.tcu t).pllRest = none) : ((s.pllDone t band vtune).tcu t).pllRest = none := by
  have hkept : State.KeepsTcu Tcu.pllRest ((s.inBand t band vtune).pllMeasured t) (s.pllDone t band vtune) :=
    .upd (.upd (.refl _) (State.runOk_tcus _ _)) (State.calRunDone_tcus _ _ _)
  rw [hkept t, State.pllMeasured_pllRest _ t t, State.tcu, State.inBand_tcus]
  exact h

theorem State.pllLocked_eq (h : (s.tcu t).pllRest = none) : s.pllLocked t band vtune = s.pllDone t band vtune := by
  show (s.pllDone t band vtune).pllRestore t = _
  rw [State.pllRestore, State.pllDone_pllRest h]

/-- No command of an opcode is in flight. -/
theorem State.findOp_eq_none {op : Nat} : s.findOp op = none ↔ ∀ k ∈ s.cmds, (k.op == op && k.started) = false := by
  rw [State.findOp, List.find?_eq_none]
  simp

theorem State.findOp_calRunDone {op p : Nat} {ok : Bool} (h : s.findOp op = none) : (s.calRunDone p ok).findOp op = none := by
  refine State.foldl_inv (P := fun a => a.findOp op = none) h fun a k _ ha => ?_
  have hfin (st d r0 r1 : Nat) : (a.finish k st d r0 r1).findOp op = none := by
    rw [State.findOp_eq_none, State.finish_cmds]
    exact fun j hj => State.findOp_eq_none.1 ha j (List.mem_of_mem_filter hj)
  dsimp only
  split
  · exact hfin _ _ _ _
  split
  · exact hfin _ _ _ _
  · refine State.findOp_eq_none.2 fun j hj => ?_
    obtain ⟨i, hi, rfl⟩ := List.mem_map.1 hj
    split <;> exact State.findOp_eq_none.1 ha i hi

/-- What the end of a run shows of the band and the lock, before anything else follows. -/
theorem State.inBand_shows (hb : band < 64) (hv : vtune < 256) :
    (s.inBand t band vtune).flag (pageSynth t) R.SYNTH.SYN_STAT_LOCK = true ∧ (s.inBand t band vtune).rd (pageSynth t) R.SYNTH.SYN_STAT_BAND = band ∧
    (s.inBand t band vtune).rd (pageSynth t) R.SYNTH.SYN_STAT_VTUNE = vtune ∧
    (s.inBand t band vtune).rd (pageSynth t) R.HDR.HDR_CAL_COUNT = s.rd (pageSynth t) R.HDR.HDR_CAL_COUNT := by
  have hlock {f : Fld} (hf : f.inPage 0 = true) : (s.setLock t true).rd (pageSynth t) f = (s.wr (pageSynth t) R.SYNTH.SYN_STAT_LOCK 1).rd (pageSynth t) f := by
    refine State.rd_wr_page _ _ _ _ ?_ hf State.Only.pageRind_ne_pageSynth
    split <;> decide
  refine ⟨?_, ?_, ?_, ?_⟩
  · rw [State.flag, State.inBand, State.rd_wr_place _ _ _ _ _ _ (by decide), State.rd_wr_place _ _ _ _ _ _ (by decide),
      State.rd_wr_place _ _ _ _ _ _ (by decide), State.rd_wr_place _ _ _ _ _ _ (by decide), hlock (by decide), State.rd_wr_same]
    rfl
  · rw [State.inBand, State.rd_wr_place _ _ _ _ _ _ (by decide), State.rd_wr_same]
    exact Nat.mod_eq_of_lt hb
  · rw [State.inBand, State.rd_wr_same]
    exact Nat.mod_eq_of_lt hv
  · rw [State.inBand, State.rd_wr_place _ _ _ _ _ _ (by decide), State.rd_wr_place _ _ _ _ _ _ (by decide),
      State.rd_wr_place _ _ _ _ _ _ (by decide), State.rd_wr_place _ _ _ _ _ _ (by decide), hlock (by decide),
      State.rd_wr_place _ _ _ _ _ _ (by decide)]

/-- The places of a synthesizer's page at which its ratio stands and the activity of its TCU. -/
def ratioPlaces : List Nat := [R.SYNTH.SYN_N.place 0, R.SYNTH.SYN_FRAC.place 0, R.SYNTH.SYN_SUB.place 0, R.SYNTH.SYN_STAT_ACTIVE.place 0]

theorem State.Only.pllMeasured {s u : State} {x : Nat} (h : State.Only (elsewhere (pageSynth t) x) s u) (hx : x ∉ ratioPlaces) :
    State.Only (elsewhere (pageSynth t) x) s (u.pllMeasured t) := by
  refine (h.setRatio fun f hf heq => hx ?_).upd rfl
  simp only [List.mem_cons, List.not_mem_nil, or_false] at hf
  rcases hf with rfl | rfl | rfl <;> simp [ratioPlaces, ← heq]

/-- The state at the end of a run that locked within 3 ps (R86, R148). -/
def State.pllEnded (s : State) (t : Nat) (align : Int) (band vtune : Nat) : State :=
  ((s.pllDone t band vtune).setAlignErr t align).enterState t tsStandby

theorem State.Only.pllEnds {s u : State} {x : Nat} {align : Int} {ok : Bool} (h : State.Only (elsewhere (pageSynth t) x) s u) (hx : x ∉ ratioPlaces) :
    State.Only (elsewhere (pageSynth t) x) s (((u.calRunDone (pageSynth t) ok).setAlignErr t align).enterState t tsStandby) :=
  h.calRunDoneSynth.setAlignErr.enterState fun heq => hx (by simp [ratioPlaces, ← heq])

/-- A register of the page past its header, other than the ratio, stands from the band on. -/
theorem State.pllEnded_rd {align : Int} {f : Fld} (hf : f.inPage 0 = true) (h512 : 512 ≤ f.place 0) (hx : f.place 0 ∉ ratioPlaces) :
    (s.pllEnded t align band vtune).rd (pageSynth t) f = (s.inBand t band vtune).rd (pageSynth t) f :=
  (((State.Only.refl _).pllMeasured hx).runOkSynth h512 |>.pllEnds hx).stands hf

theorem State.pllEnded_count {align : Int} : (s.pllEnded t align band vtune).rd (pageSynth t) R.HDR.HDR_CAL_COUNT =
    ((s.inBand t band vtune).rd (pageSynth t) R.HDR.HDR_CAL_COUNT + 1) % 2 ^ 32 := by
  have hafter : (s.pllEnded t align band vtune).rd (pageSynth t) R.HDR.HDR_CAL_COUNT =
      (((s.inBand t band vtune).pllMeasured t).runOk (pageSynth t)).rd (pageSynth t) R.HDR.HDR_CAL_COUNT :=
    ((State.Only.refl _).pllEnds (by decide)).stands (by decide)
  have hbefore := ((State.Only.refl (s.inBand t band vtune)).pllMeasured (t := t) (x := R.HDR.HDR_CAL_COUNT.place 0) (by decide)).stands
    (f := R.HDR.HDR_CAL_COUNT) (by decide)
  rw [hafter, State.runOk_count, hbefore]

theorem State.runOk_cmds (s : State) (p : Nat) : (s.runOk p).cmds = s.cmds := by
  unfold State.runOk
  dsimp only
  split <;> simp [State.clearFault, State.runEnd, State.showRunning]

theorem State.pllMeasured_cmds (s : State) (t : Nat) : (s.pllMeasured t).cmds = s.cmds := by
  unfold State.pllMeasured State.setRatio
  split <;> rfl

theorem State.switchoverProceed_idle (h : s.findOp 0x41 = none) : s.switchoverProceed t = s := by rw [State.switchoverProceed, h]

theorem exec_pllCalEnd {align : Int} (ht : t < 2) (hs : s.tcuState t = tsCalibrating) (hr : s.calRunning.contains (pageSynth t) = true)
    (hlo : -3 ≤ align) (hhi : align ≤ 3) (hrest : (s.tcu t).pllRest = none) (hop : s.findOp 0x41 = none) :
    exec (.pllCalEnd t (some align) band vtune) s = done (s.pllEnded t align band vtune) := by
  have hidle : (s.pllEnded t align band vtune).findOp 0x41 = none := by
    rw [State.findOp_eq_none, State.pllEnded, State.enterState_cmds]
    have hbefore : (((s.inBand t band vtune).pllMeasured t).runOk (pageSynth t)).findOp 0x41 = none := by
      rw [State.findOp_eq_none, State.runOk_cmds, State.pllMeasured_cmds]
      exact State.findOp_eq_none.1 hop
    exact State.findOp_eq_none.1 (State.findOp_calRunDone hbefore)
  show execPllCalEnd t (some align) band vtune s = _
  unfold execPllCalEnd
  rw [Nat.mod_eq_of_lt ht]
  dsimp only
  rw [if_neg (by simp [hs]), if_pos hr, State.pllLocked_eq hrest, if_neg (by omega)]
  exact congrArg done (State.switchoverProceed_idle hidle)

theorem runs_pllCalEnd {align : Int} (ht : t < 2) (hb : band < 64) (hv : vtune < 256) (hs : s.tcuState t = tsCalibrating)
    (hr : s.calRunning.contains (pageSynth t) = true) (hlo : -3 ≤ align) (hhi : align ≤ 3) (hrest : (s.tcu t).pllRest = none)
    (hop : s.findOp 0x41 = none) :
    Runs (.pllCalEnd t (some align) band vtune) s (fun u => u.tcuState t = tsStandby ∧ u.flag (pageSynth t) R.SYNTH.SYN_STAT_LOCK = true ∧
      u.rd (pageSynth t) R.SYNTH.SYN_STAT_BAND = band ∧ u.rd (pageSynth t) R.SYNTH.SYN_STAT_VTUNE = vtune ∧
      u.rd (pageSynth t) R.HDR.HDR_CAL_COUNT = (s.rd (pageSynth t) R.HDR.HDR_CAL_COUNT + 1) % 2 ^ 32) := by
  obtain ⟨hlock, hband, hvtune, hcount⟩ := State.inBand_shows (s := s) (t := t) hb hv
  refine runs_done (exec_pllCalEnd ht hs hr hlo hhi hrest hop) ⟨?_, ?_, ?_, ?_, ?_⟩
  · rw [State.tcuState_settle]
    exact State.enterState_tcuState _ ht (by decide)
  · rw [State.flag_settle, State.flag, State.pllEnded_rd (by decide) (by decide) (by decide)]
    exact hlock
  · rw [State.rd_settle, State.pllEnded_rd (by decide) (by decide) (by decide), hband]
  · rw [State.rd_settle, State.pllEnded_rd (by decide) (by decide) (by decide), hvtune]
  · rw [State.rd_settle, State.pllEnded_count, hcount]

/-! ### The start-up of a synthesizer (R60, R88, R380) -/

theorem runs_refmulLocked (ht : t < 2) (hs : s.starting t = true) (hr : s.phase ≠ .reset) (hw : s.phase ≠ .oscWait) :
    Runs (.refmulLocked t) s (fun u => u.flag (pageSynth t) R.SYNTH.SYN_STAT_REFMUL_LOCK = true) := by
  have hx : exec (.refmulLocked t) s = done (s.wr (pageSynth t) R.SYNTH.SYN_STAT_REFMUL_LOCK 1) := by
    show execRefmulLocked t s = _
    unfold execRefmulLocked
    rw [Nat.mod_eq_of_lt ht]
    exact congrArg done (if_pos ⟨hs, hr, hw⟩)
  refine runs_done hx ?_
  rw [State.flag_settle, State.flag, State.rd_wr_same]
  rfl

/-- A band is found, or taken, with its VTUNE (R88). -/
def State.bandShown (s : State) (t band vtune : Nat) : State :=
  ((s.wr (pageSynth t) R.SYNTH.SYN_STAT_BAND_VALID 1).wr (pageSynth t) R.SYNTH.SYN_STAT_BAND band).wr (pageSynth t) R.SYNTH.SYN_STAT_VTUNE vtune

theorem State.bandShown_shows : (s.bandShown t band vtune).rd (pageSynth t) R.SYNTH.SYN_STAT_BAND_VALID = 1 ∧
    (s.bandShown t band vtune).rd (pageSynth t) R.SYNTH.SYN_STAT_BAND = band % 64 ∧
    (s.bandShown t band vtune).rd (pageSynth t) R.SYNTH.SYN_STAT_VTUNE = vtune % 256 := by
  refine ⟨?_, ?_, ?_⟩
  · rw [State.bandShown, State.rd_wr_place _ _ _ _ _ _ (by decide), State.rd_wr_place _ _ _ _ _ _ (by decide), State.rd_wr_same]
    rfl
  · rw [State.bandShown, State.rd_wr_place _ _ _ _ _ _ (by decide), State.rd_wr_same]
    rfl
  · rw [State.bandShown, State.rd_wr_same]
    rfl

/-- What an image's values change of the registers of the page is the band alone (R380). -/
theorem State.takePll_rd {r : Nat × Nat × Int × Nat} {f : Fld} (hf : f.inPage 0 = true) :
    (s.takePll t r).rd (pageSynth t) f = (s.bandShown t r.1 r.2.1).rd (pageSynth t) f := by
  show ((s.bandShown t r.1 r.2.1).wr pageCaldir R.CALDIR.CAL_STAT_RESTORED 1).rd (pageSynth t) f = _
  exact State.rd_wr_page _ _ _ _ (by decide) hf State.Only.pageCaldir_ne_pageSynth

theorem runs_bandFound (ht : t < 2) (hb : band < 64) (hv : vtune < 256) (hs : s.starting t = true)
    (hm : s.flag (pageSynth t) R.SYNTH.SYN_STAT_REFMUL_LOCK = true) (hgo : (s.tcu t).pllRest.isSome = true ∨ s.runsOpen = true) :
    Runs (.bandFound t band vtune) s (fun u => u.flag (pageSynth t) R.SYNTH.SYN_STAT_BAND_VALID = true ∧
      u.rd (pageSynth t) R.SYNTH.SYN_STAT_BAND = (s.tcu t).pllRest.elim band (fun r => r.1 % 64) ∧
      u.rd (pageSynth t) R.SYNTH.SYN_STAT_VTUNE = (s.tcu t).pllRest.elim vtune (fun r => r.2.1 % 256)) := by
  have hx : exec (.bandFound t band vtune) s = done (match (s.tcu t).pllRest with
      | some r => s.takePll t r
      | none => s.bandShown t band vtune) := by
    show execBandFound t band vtune s = _
    unfold execBandFound
    rw [Nat.mod_eq_of_lt ht]
    exact congrArg done (if_pos ⟨hs, hm, hgo⟩)
  cases hrest : (s.tcu t).pllRest with
  | some r =>
    obtain ⟨hvalid, hband, hvtune⟩ := State.bandShown_shows (s := s) (t := t) (band := r.1) (vtune := r.2.1)
    rw [hrest] at hx
    refine runs_done hx ?_
    rw [State.flag_settle, State.rd_settle, State.rd_settle, State.flag, State.takePll_rd (by decide), State.takePll_rd (by decide),
      State.takePll_rd (by decide), hvalid]
    exact ⟨rfl, hband, hvtune⟩
  | none =>
    obtain ⟨hvalid, hband, hvtune⟩ := State.bandShown_shows (s := s) (t := t) (band := band) (vtune := vtune)
    rw [hrest] at hx
    refine runs_done hx ?_
    rw [State.flag_settle, State.rd_settle, State.rd_settle, State.flag, hvalid, hband, hvtune, Nat.mod_eq_of_lt hb, Nat.mod_eq_of_lt hv]
    exact ⟨rfl, rfl, rfl⟩

/-- The loop locks at r = 0, and the TCU's clock runs (R60, R88). -/
def State.loopLocked (s : State) (t : Nat) : State :=
  let a := (s.setLock t true).setRatio t (s.rate t)
  if (a.tcu t).clk then a else a.onTcu t fun u => { u with clk := true, cyc := 0, lockAt := some a.up }

/-- What follows: the values of an image are no longer waited for, or the band search counts as a run (R380). -/
def State.loopNoted (s : State) (t : Nat) : State :=
  match (s.tcu t).pllRest with
  | some _ => s.onTcu t fun u => { u with pllRest := none }
  | none => (s.onTcu t fun u => { u with tPll := s.sensor t, pllSecs := s.sec % 2 ^ 32 }).runOk (pageSynth t)

theorem State.setLock_setRatio_tcus (s : State) (t : Nat) (r : Int) : ((s.setLock t true).setRatio t r).tcus = s.tcus :=
  (State.setRatio_tcus _ _ _).trans rfl

theorem State.loopLocked_clock (s : State) (t : Nat) : ((s.loopLocked t).tcu t).clk = true ∧
    ((s.loopLocked t).tcu t).cyc = if (s.tcu t).clk = true then (s.tcu t).cyc else 0 := by
  have htcu : ((s.setLock t true).setRatio t (s.rate t)).tcu t = s.tcu t := by
    rw [State.tcu, State.setLock_setRatio_tcus]
    rfl
  unfold State.loopLocked
  dsimp only
  rw [htcu]
  by_cases h : (s.tcu t).clk = true
  · rw [if_pos h, if_pos h, htcu]
    exact ⟨h, rfl⟩
  · rw [if_neg h, if_neg h, State.tcu_onTcu_same]
    exact ⟨rfl, rfl⟩

theorem State.loopNoted_clock (s : State) (t : Nat) : State.KeepsTcu Tcu.clock s (s.loopNoted t) := by
  unfold State.loopNoted
  split
  · exact .onTcu (.refl s) (by intro; rfl)
  · exact .upd (.onTcu (.refl s) (by intro; rfl)) (State.runOk_tcus _ _)

theorem State.Only.loopNoted {s u : State} {x : Nat} (h : State.Only (elsewhere (pageSynth t) x) s u) (hx : 512 ≤ x) :
    State.Only (elsewhere (pageSynth t) x) s (u.loopNoted t) := by
  unfold State.loopNoted
  split
  · exact h.upd rfl
  · exact State.Only.runOkSynth (h.upd rfl) hx

theorem State.loopLocked_lock (s : State) (t : Nat) : ((s.loopLocked t).loopNoted t).flag (pageSynth t) R.SYNTH.SYN_STAT_LOCK = true := by
  have hlocked : State.Only (elsewhere (pageSynth t) (R.SYNTH.SYN_STAT_LOCK.place 0)) (s.wr (pageSynth t) R.SYNTH.SYN_STAT_LOCK (b2n true))
      ((s.setLock t true).setRatio t (s.rate t)) := by
    refine .setRatio (.wrOff (.refl _) State.Only.pageRind_ne_pageSynth ?_) (by decide)
    split <;> decide
  have hshown : State.Only (elsewhere (pageSynth t) (R.SYNTH.SYN_STAT_LOCK.place 0)) (s.wr (pageSynth t) R.SYNTH.SYN_STAT_LOCK (b2n true))
      ((s.loopLocked t).loopNoted t) := State.Only.loopNoted (.ite hlocked (hlocked.upd rfl)) (by decide)
  rw [State.flag, hshown.stands (by decide), State.rd_wr_same]
  rfl

theorem runs_synLocked (ht : t < 2) (hs : s.starting t = true) (hb : s.flag (pageSynth t) R.SYNTH.SYN_STAT_BAND_VALID = true) :
    Runs (.synLocked t) s (fun u => u.flag (pageSynth t) R.SYNTH.SYN_STAT_LOCK = true ∧ (u.tcu t).clk = true ∧
      (u.tcu t).cyc = (if (s.tcu t).clk = true then (s.tcu t).cyc else 0)) := by
  have hx : exec (.synLocked t) s = done ((s.loopLocked t).loopNoted t) := by
    show execSynLocked t s = _
    unfold execSynLocked
    rw [Nat.mod_eq_of_lt ht]
    dsimp only
    rw [if_pos ⟨hs, hb⟩]
    rfl
  have hkept := State.loopNoted_clock (s.loopLocked t) t t
  obtain ⟨hclk, hcyc⟩ := s.loopLocked_clock t
  refine runs_done hx ⟨?_, ?_, ?_⟩
  · rw [State.flag_settle, State.loopLocked_lock]
  · rw [State.tcu_settle]
    exact (congrArg Prod.fst hkept).trans hclk
  · rw [State.tcu_settle]
    exact (congrArg (fun x => x.2.2) hkept).trans hcyc

end

/-- Settles O3: each run or start-up command is the state that it leaves, whose registers stand through what follows it. -/
theorem tdcAndSynthRunsFollowTheirRules : Obligations.TdcAndSynthRunsFollowTheirRules :=
  ⟨fun s _ _ ht hn _ => runs_tdcRunStart s (exec_tdcCalStart s ht hn),
    fun s _ _ ht he hg hel => runs_tdcRunStart s (exec_calDeferTimeout s ht he hg hel),
    fun s _ _ _ _ _ ht hc hl hr => runs_tdcCalEnd s ht hc hl hr,
    fun s _ _ _ ht hc hg hf hn hrest => runs_tdcCalInstall s ht hc hg hf hn hrest,
    fun _ _ _ _ ht hv hw ha hx hs => runs_synCtlWrite_waits ht hv hw ha hx hs,
    fun _ _ _ _ ht hv hw ha hx hs hact => runs_synCtlWrite_standby ht hv hw ha hx hs hact,
    fun _ _ ht hs ho hd => runs_pllCalStart ht hs ho hd,
    fun _ _ _ _ _ ht hb hv hs hr hlo hhi hrest hop => runs_pllCalEnd ht hb hv hs hr hlo hhi hrest hop,
    fun _ _ ht hs hr hw => runs_refmulLocked ht hs hr hw,
    fun _ _ _ _ ht hb hv hs hm hgo => runs_bandFound ht hb hv hs hm hgo,
    fun _ _ ht hs hb => runs_synLocked ht hs hb⟩

end Sys2Proof.Machine
end

section
/-! PROOF. PTP messages, transmit records and trackers (R124 to R145, R210), and O10. -/

open Sys2Proof Sys2Proof.Machine
namespace Sys2Proof.Machine

/-! ### Arrival (R124, R130) -/

section
variable {s : State} {f i : Nat} {m : Msg1588}

/-- A message to which the role table adds its residence keeps, with its frame, what is due to it where it leaves. -/
theorem State.ptpRx_residence (hx : s.frame f ≠ noFrame) (hd : (s.frame f).decided = false) (hh : (s.frame f).host = false)
    (hs : (s.frame f).seen = false) (hm : msgOf (s.frame f).octets = some m) (hl : s.isLane (s.frame f).port = false)
    (hi : s.instOf (s.frame f).port m = some i) (hda : (hdrOf (s.frame f).octets).da ≠ 0x0180C200000E)
    (ha : s.actAt i (s.frame f).port m = .residence) (hc : s.flag (s.ptpPage i) R.PTP.PTP_CTL_TC_COPY = false) :
    s.ptpRx f = (s.onFrame f fun y => { y with seen := true }).onFrame f fun y =>
      { y with ptp := some (s.noteIn (s.frame f) (some i) .residence) } := by
  have hlane : (s.onFrame f fun y => { y with seen := true }).isLane (s.frame f).port = false := hl
  have hact : (s.onFrame f fun y => { y with seen := true }).actAt i (s.frame f).port m = .residence := ha
  have hcopy (q : Option PtpIn) : ((s.onFrame f fun y => { y with seen := true }).onFrame f fun y => { y with ptp := q }).flag
      (((s.onFrame f fun y => { y with seen := true }).onFrame f fun y => { y with ptp := q }).ptpPage i) R.PTP.PTP_CTL_TC_COPY = false := hc
  unfold State.ptpRx
  dsimp only
  rw [if_neg (by simp [hx, hd, hh, hs]), hm]
  dsimp only
  rw [hi, if_neg (by simp [hlane]), decide_eq_false hda]
  dsimp only
  rw [if_neg (by simp), hact]
  dsimp only
  rw [if_neg (by simp [hcopy])]
  rfl

theorem runs_ptpMessageRx (hx : s.frame f ≠ noFrame) (hd : (s.frame f).decided = false) (hh : (s.frame f).host = false)
    (hs : (s.frame f).seen = false) (hm : msgOf (s.frame f).octets = some m) (hl : s.isLane (s.frame f).port = false)
    (hi : s.instOf (s.frame f).port m = some i) (hda : (hdrOf (s.frame f).octets).da ≠ 0x0180C200000E)
    (ha : s.actAt i (s.frame f).port m = .residence) (hc : s.flag (s.ptpPage i) R.PTP.PTP_CTL_TC_COPY = false) :
    Runs (.ptpMessageRx f) s (fun u => ∃ q, (u.frame f).ptp = some q ∧ q.inst = some i ∧ q.correct = true ∧
      q.at_ = (s.frame f).stamp ∧ q.steps = (s.frame f).steps ∧ q.link = s.linkDelay i (s.frame f).port) := by
  refine runs_done (congrArg done (State.ptpRx_residence hx hd hh hs hm hl hi hda ha hc)) 
    ⟨s.noteIn (s.frame f) (some i) .residence, ?_, rfl, rfl, rfl, rfl, rfl⟩
  rw [State.frame_settle, State.onFrame, State.frame_setFrame_same]

end

/-! ### Stored residences, and the read of a transmit record (R79, R129, R135) -/

section
variable {s : State}

/-- The stored residences of a port are `l`. -/
def State.withFus (s : State) (p : Nat) (l : List Fu) : State := { s with fus := put [] s.fus p l }

theorem State.withFus_up (p : Nat) (l : List Fu) : (s.withFus p l).up = s.up := rfl

theorem runs_fuEntryExpiry {p : Nat} {e : Fu} {l : List Fu} (hp : p < 48) (hq : look [] s.fus p = e :: l) :
    Runs (.fuEntryExpiry p) s (fun u => look [] u.fus p = l ∧ u.up = s.up + (e.expires - s.up)) := by
  have hx : exec (.fuEntryExpiry p) s = done ((s.advance (e.expires - s.up)).withFus p l) := by
    show execFuEntryExpiry p s = _
    unfold execFuEntryExpiry
    rw [Nat.mod_eq_of_lt hp]
    dsimp only
    rw [hq]
    rfl
  refine runs_done hx ⟨?_, ?_⟩
  · rw [State.settle_fus]
    exact look_put_same _ _ _ _
  · have htime : State.KeepsBase [] { s with up := s.up + (e.expires - s.up) } (s.advance (e.expires - s.up)) := .advance s _
    rw [State.settle_up, State.withFus_up, htime.up]

theorem pageIndex_pagePtp {t i : Nat} (ht : t < 2) (hi : i < 2) : pageIndex (pagePtp t i) = i :=
  (show ∀ t < 2, ∀ i < 2, pageIndex (pagePtp t i) = i by decide) t ht i hi

theorem isTcuB_pagePtp {t i : Nat} (ht : t < 2) (hi : i < 2) : b2n (isTcuB (pagePtp t i)) = t :=
  (show ∀ t < 2, ∀ i < 2, b2n (isTcuB (pagePtp t i)) = t by decide) t ht i hi

variable {ctx t i : Nat} {ws : List Nat} {l : List (List Nat)}

/-- The read buffer shows the record that leads the transmit FIFO. -/
theorem State.rdI_txtsLoad (hq : look [] s.txts (2 * t + i) = ws :: l) {k : Nat} (hk : k < 4) :
    (s.txtsLoad t i).rdI (pagePtp t i) R.PTP.PTP_TXTS k = ws.getD k 0 % 2 ^ 32 := by
  have hload : s.txtsLoad t i = (((s.wrI (pagePtp t i) R.PTP.PTP_TXTS 0 (ws.getD 0 0)).wrI (pagePtp t i) R.PTP.PTP_TXTS 1
      (ws.getD 1 0)).wrI (pagePtp t i) R.PTP.PTP_TXTS 2 (ws.getD 2 0)).wrI (pagePtp t i) R.PTP.PTP_TXTS 3 (ws.getD 3 0) := by
    unfold State.txtsLoad
    rw [hq]
    rfl
  rw [hload]
  interval_cases k
  · rw [State.rdI_wrI_place _ _ _ _ _ _ _ _ (by decide), State.rdI_wrI_place _ _ _ _ _ _ _ _ (by decide),
      State.rdI_wrI_place _ _ _ _ _ _ _ _ (by decide), State.rdI_wrI_same]
    rfl
  · rw [State.rdI_wrI_place _ _ _ _ _ _ _ _ (by decide), State.rdI_wrI_place _ _ _ _ _ _ _ _ (by decide), State.rdI_wrI_same]
    rfl
  · rw [State.rdI_wrI_place _ _ _ _ _ _ _ _ (by decide), State.rdI_wrI_same]
    rfl
  · rw [State.rdI_wrI_same]
    rfl

theorem State.txtsLoad_keeps : (s.txtsLoad t i).txts = s.txts ∧ (s.txtsLoad t i).out = s.out :=
  ⟨State.each_keeps State.txts 4 _ s fun _ _ => rfl, State.each_keeps State.out 4 _ s fun _ _ => rfl⟩

/-- A read of a word of the read buffer shows the word as the load left it. -/
theorem State.read_txts (ht : t < 2) (hi : i < 2) (hr : s.reads ctx (pagePtp t i)) {k : Nat} (hk : k < 4) :
    s.read ctx (pagePtp t i) (0x0A0 + 4 * k) =
      ((s.preRead (pagePtp t i) .ptp (0x0A0 + 4 * k)).postRead (pagePtp t i) .ptp (0x0A0 + 4 * k)).emit
        (.read ctx (regAddr (pagePtp t i) (0x0A0 + 4 * k))
          ((s.preRead (pagePtp t i) .ptp (0x0A0 + 4 * k)).rdI (pagePtp t i) R.PTP.PTP_TXTS k)) := by
  have hz := s.readsZero_false (b := .ptp) (off := 0x0A0 + 4 * k) hr (.inl (by decide)) rfl
  have hrow : fieldsAt .ptp (0x0A0 + 4 * k) = [(R.PTP.PTP_TXTS, k)] :=
    (show ∀ k < 4, fieldsAt .ptp (0x0A0 + 4 * k) = [(R.PTP.PTP_TXTS, k)] by decide +kernel) k hk
  rw [State.read_ok s hr.1 (pageBlk_pagePtp ht hi) (by omega) (by omega) (.inr (by omega)) (by rw [hrow]; simp) hz, hrow]
  generalize s.preRead (pagePtp t i) .ptp (0x0A0 + 4 * k) = v
  have hval : v.wordVal (pagePtp t i) .ptp [(R.PTP.PTP_TXTS, k)] = v.rdI (pagePtp t i) R.PTP.PTP_TXTS k := by
    show 0 + v.rdI (pagePtp t i) R.PTP.PTP_TXTS k % 2 ^ 32 * 2 ^ 0 = _
    rw [Nat.mod_eq_of_lt (show _ < 2 ^ 32 from State.rdI_lt v _ R.PTP.PTP_TXTS k)]
    omega
  rw [hval]
  rfl

theorem runs_ptpTxts0Read (ht : t < 2) (hi : i < 2) (hr : s.reads ctx (pagePtp t i)) (hq : look [] s.txts (2 * t + i) = ws :: l) :
    Runs (.ptpTxts0Read ctx t i) s (fun u => s.returned u ctx (regAddr (pagePtp t i) 0x0A0) (ws.getD 0 0 % 2 ^ 32) ∧
      (∀ k, k < 4 → u.rdI (pagePtp t i) R.PTP.PTP_TXTS k = ws.getD k 0 % 2 ^ 32) ∧ look [] u.txts (2 * t + i) = ws :: l) := by
  have hx : exec (.ptpTxts0Read ctx t i) s =
      done ((s.txtsLoad t i).emit (.read ctx (regAddr (pagePtp t i) 0x0A0) (ws.getD 0 0 % 2 ^ 32))) := by
    show done (s.read ctx (pagePtp (t % 2) (i % 2)) (0x0A0 + 4 * 0)) = _
    have hpre : s.preRead (pagePtp t i) .ptp (0x0A0 + 4 * 0) = s.txtsLoad t i := by
      show s.txtsLoad (b2n (isTcuB (pagePtp t i))) (pageIndex (pagePtp t i)) = _
      rw [isTcuB_pagePtp ht hi, pageIndex_pagePtp ht hi]
    rw [Nat.mod_eq_of_lt ht, Nat.mod_eq_of_lt hi, State.read_txts ht hi hr (by decide), hpre, State.rdI_txtsLoad hq (by decide)]
    rfl
  obtain ⟨htxts, hout⟩ := s.txtsLoad_keeps (t := t) (i := i)
  refine runs_done hx ⟨State.returned_settle hout _ _ _, fun k hk => ?_, ?_⟩
  · rw [State.rdI_settle, State.rdI_emit, State.rdI_txtsLoad hq hk]
  · rw [State.settle_txts, State.emit_txts, htxts, hq]

theorem runs_ptpTxts3Read (ht : t < 2) (hi : i < 2) (hr : s.reads ctx (pagePtp t i)) (hq : look [] s.txts (2 * t + i) = ws :: l) :
    Runs (.ptpTxts3Read ctx t i) s (fun u =>
      s.returned u ctx (regAddr (pagePtp t i) 0x0AC) (s.rdI (pagePtp t i) R.PTP.PTP_TXTS 3) ∧
      look [] u.txts (2 * t + i) = l ∧ u.rd (pagePtp t i) R.PTP.PTP_TXTS_LEVEL = l.length % 2 ^ 9) := by
  have hx : exec (.ptpTxts3Read ctx t i) s =
      done ((s.txtsPop t i).emit (.read ctx (regAddr (pagePtp t i) 0x0AC) (s.rdI (pagePtp t i) R.PTP.PTP_TXTS 3))) := by
    show done (s.read ctx (pagePtp (t % 2) (i % 2)) (0x0A0 + 4 * 3)) = _
    have hpost : s.postRead (pagePtp t i) .ptp (0x0A0 + 4 * 3) = s.txtsPop t i := by
      show s.txtsPop (b2n (isTcuB (pagePtp t i))) (pageIndex (pagePtp t i)) = _
      rw [isTcuB_pagePtp ht hi, pageIndex_pagePtp ht hi]
    rw [Nat.mod_eq_of_lt ht, Nat.mod_eq_of_lt hi, State.read_txts ht hi hr (by decide)]
    show done ((s.postRead (pagePtp t i) .ptp (0x0A0 + 4 * 3)).emit _) = _
    rw [hpost]
    rfl
  have hpop : s.txtsPop t i = ({ s with txts := put [] s.txts (2 * t + i) l } : State).wr (pagePtp t i) R.PTP.PTP_TXTS_LEVEL l.length := by
    unfold State.txtsPop
    rw [hq]
    rfl
  refine runs_done hx ⟨State.returned_settle (t := s.txtsPop t i) rfl _ _ _, ?_, ?_⟩
  · rw [State.settle_txts, State.emit_txts, hpop]
    exact look_put_same _ _ _ _
  · rw [State.rd_settle, State.rd_emit, hpop, State.rd_wr_same]
    rfl

end

/-! ### Departure (R129, R130, R210) -/

/-- The headers, and every register off the pages of the arbiter, of the phase of the clock and of the power domains. -/
def stampReach (q x : Nat) : Prop := x < 512 ∨ (q ≠ pageArb ∧ q ≠ pageRind ∧ q ≠ pagePwr)

/-- From `s` to `u` stands what a transmit record is made from and where it goes: the TCUs and the one that leads, TIME_VALID, the TCUs'
power and the transmit FIFOs. -/
structure State.KeepsStamp (s u : State) : Prop where
  regs : State.Only stampReach s u
  rest : u.tcus = s.tcus ∧ u.switch = s.switch ∧ u.txts = s.txts

namespace State.KeepsStamp
section
variable {s u v : State} {f g : Nat}

theorem refl (s : State) : KeepsStamp s s := ⟨.refl s, rfl, rfl, rfl⟩

theorem upd (h : KeepsStamp s u) (hr : v.regs = u.regs) (hv : v.tcus = u.tcus ∧ v.switch = u.switch ∧ v.txts = u.txts) : KeepsStamp s v := by
  obtain ⟨htcus, hswitch, htxts⟩ := h.rest
  exact ⟨h.regs.upd hr, hv.1.trans htcus, hv.2.1.trans hswitch, hv.2.2.trans htxts⟩

theorem ite {c : Prop} {_ : Decidable c} (h : KeepsStamp s u) (k : KeepsStamp s v) : KeepsStamp s (if c then u else v) := by
  split
  · exact h
  · exact k

theorem wrI {p i x : Nat} {f : Fld} (h : KeepsStamp s u) (hf : f.inPage i = true) (hp : p ≠ pageArb ∧ p ≠ pageRind ∧ p ≠ pagePwr) :
    KeepsStamp s (u.wrI p f i x) := ⟨h.regs.wrI _ hf (.inr hp), h.rest⟩

theorem inc {p : Nat} {f : Fld} (h : KeepsStamp s u) (hf : f.inPage 0 = true) (hp : p ≠ pageArb ∧ p ≠ pageRind ∧ p ≠ pagePwr) :
    KeepsStamp s (u.inc p f) := h.wrI hf hp

theorem raise {p b : Nat} (h : KeepsStamp s u) : KeepsStamp s (u.raise p b) := by
  obtain ⟨htcus, hswitch, htxts⟩ := h.rest
  exact ⟨h.regs.raise b (.inl (by decide)), (State.raise_tcus _ _ _).trans htcus, (State.raise_switch _ _ _).trans hswitch,
    (State.raise_txts _ _ _).trans htxts⟩

theorem timeValid (h : KeepsStamp s u) : u.timeValid = s.timeValid :=
  h.regs.flag (by decide) (by simp only [stampReach]; decide)

theorem pwr (h : KeepsStamp s u) (d : Nat) : u.pwr d = s.pwr d :=
  State.pwr_of_rd (h.regs.rd (by decide) (by simp only [stampReach]; decide)) d

theorem stepCount (h : KeepsStamp s u) : u.stepCount = s.stepCount := by
  obtain ⟨htcus, hswitch, -⟩ := h.rest
  have hactive : u.active = s.active := h.regs.rd (by decide) (by simp only [stampReach]; decide)
  have hlead : u.lead = s.lead := by
    unfold State.lead State.tcu
    rw [hswitch, htcus, hactive]
  unfold State.stepCount State.tcu
  rw [htcus, hlead]

theorem pageEng_off (e : Nat) : pageEng e ≠ pageArb ∧ pageEng e ≠ pageRind ∧ pageEng e ≠ pagePwr := by
  simp only [pageEng, pageArb, pageRind, pagePwr]
  omega

theorem enqueueMsg {e : Nat} {m : Msg} (h : KeepsStamp s u) : KeepsStamp s (u.enqueueMsg e 0 m) := by
  have hsent : KeepsStamp s (((u.setInbox e 0 (u.inbox e 0 ++ [m])).event 0x2A e 1).emit
      (.message e 0 (m.len + m.src * 2 ^ 16 + m.typ * 2 ^ 24) m.tag m.payload)) := h.upd rfl ⟨rfl, rfl, rfl⟩
  exact .ite (hsent.wrI rfl (pageEng_off e)) hsent

theorem trapToEngine {e reason port : Nat} {l : List Byte} (h : KeepsStamp s u) : KeepsStamp s (u.trapToEngine e reason port l) :=
  .ite h.enqueueMsg (h.inc rfl (pageEng_off e)).raise

theorem ptpTrap {i reason : Nat} {r : List Byte} (h : KeepsStamp s u) : KeepsStamp s (u.ptpTrap f i reason r) :=
  .ite (.ite (h.inc rfl (by decide)).raise (h.upd rfl ⟨rfl, rfl, rfl⟩)) (h.upd rfl ⟨rfl, rfl, rfl⟩)

theorem trapOut {i reason : Nat} {m : Msg1588} (h : KeepsStamp s u) : KeepsStamp s (u.trapOut f i reason m) :=
  have hcaught : KeepsStamp s (u.onFrame f fun y => { y with caught := i :: y.caught }) := h.upd rfl ⟨rfl, rfl, rfl⟩
  .ite h (.ite hcaught.trapToEngine hcaught.ptpTrap)

end
end State.KeepsStamp

/-- A record enters the transmit FIFO of TCU `t`, or is lost (R129). -/
def State.recordIn (s : State) (t i : Nat) (ws : List Nat) : State :=
  if s.pwr (1 + t) ≠ 2 then s
  else if (look [] s.txts (2 * t + i)).length ≥ 256 then (s.inc (pagePtp t i) R.PTP.PTP_CNT_TXLOST).raise (pagePtp t i) 1
  else (({ s with txts := put [] s.txts (2 * t + i) (look [] s.txts (2 * t + i) ++ [ws]) } : State).wr (pagePtp t i) R.PTP.PTP_TXTS_LEVEL
    ((look [] s.txts (2 * t + i)).length + 1)).raise (pagePtp t i) 0

theorem State.txRecord_eq (s : State) (i : Nat) (ws : List Nat) : s.txRecord i ws = (s.recordIn 0 i ws).recordIn 1 i ws := rfl

section
variable {s : State} {t i : Nat}

theorem State.recordIn_same (ws : List Nat) (hp : s.pwr (1 + t) = 2) (hq : (look [] s.txts (2 * t + i)).length < 256) :
    look [] (s.recordIn t i ws).txts (2 * t + i) = look [] s.txts (2 * t + i) ++ [ws] := by
  unfold State.recordIn
  rw [if_neg (by simp [hp]), if_neg (by omega), State.raise_txts, State.wr_txts]
  exact look_put_same _ _ _ _

theorem State.recordIn_ne (ws : List Nat) {k : Nat} (hk : k ≠ 2 * t + i) : look [] (s.recordIn t i ws).txts k = look [] s.txts k := by
  unfold State.recordIn
  split
  · rfl
  · split
    · rw [State.raise_txts]
      rfl
    · rw [State.raise_txts, State.wr_txts]
      exact look_put_ne _ _ _ hk

theorem State.pwr_recordIn (ws : List Nat) (d : Nat) : (s.recordIn t i ws).pwr d = s.pwr d := by
  have hpage : pagePtp t i ≠ pageArb ∧ pagePtp t i ≠ pageRind ∧ pagePtp t i ≠ pagePwr := by
    simp only [pagePtp, tpage, pageArb, pageRind, pagePwr]
    omega
  have hreg : State.Only stampReach s (s.recordIn t i ws) :=
    .ite (.refl s) (.ite (.raise (.wr (.refl s) _ rfl (.inr hpage)) _ (.inr hpage)) (.raise (.wr (.of_regs rfl) _ rfl (.inr hpage)) _ (.inr hpage)))
  exact State.pwr_of_rd (hreg.rd (by decide) (by simp only [stampReach]; decide)) d

/-- A record enters the transmit FIFO of each TCU that is on and has room for it (R129). -/
theorem State.txRecord_txts (ws : List Nat) (ht : t < 2) (hp : s.pwr (1 + t) = 2) (hq : (look [] s.txts (2 * t + i)).length < 256) :
    look [] (s.txRecord i ws).txts (2 * t + i) = look [] s.txts (2 * t + i) ++ [ws] := by
  rw [State.txRecord_eq]
  obtain rfl | rfl : t = 0 ∨ t = 1 := by omega
  · rw [State.recordIn_ne ws (by omega), State.recordIn_same ws hp hq]
  · have hother : look [] (s.recordIn 0 i ws).txts (2 * 1 + i) = look [] s.txts (2 * 1 + i) := State.recordIn_ne ws (by omega)
    rw [State.recordIn_same ws ((State.pwr_recordIn ws _).trans hp) (by rwa [hother]), hother]

end

section
variable {s : State} {p i : Nat} {v : Nat} {c : Copy} {m : Msg1588} {tpcs : Int}

/-- A forwarded event message to which nothing is due is recorded, whatever the trap of its copy has done before. -/
theorem State.leaveOther_records {f : Nat} {x : Frame} {l : List Byte} {t : Int} (hq : x.ptp = none)
    (ha : x.host = true ∨ s.actAt i p m = .residence) :
    ∃ w, State.KeepsStamp s w ∧ s.leaveOther p i f x l m t = w.recordTx p i m t := by
  refine ⟨if ((x.ptp.bind fun q => q.inst).isNone && !x.host) = true ∧ s.flag (s.ptpPage i) R.PTP.PTP_CTL_TC_COPY = true then s.trapOut f i 3 m else s,
    .ite (.trapOut (.refl s)) (.refl s), ?_⟩
  unfold State.leaveOther
  rw [hq]
  dsimp only [Option.bind_none, Option.isNone_none]
  rcases ha with hh | ha
  · rw [hh]
    cases s.actAt i p m <;> rfl
  · rw [ha]

theorem State.egressInst_fresh {x : Frame} (hq : x.ptp = none) : s.egressInst p x m = s.instOf p m := by
  unfold State.egressInst
  rw [hq]
  rfl

theorem runs_ptpEventTx (hp : p < 48) (hk : (s.tx p).kind = .copy v c) (hpatch : (s.tx p).patch = []) (hleft : (s.tx p).left = false)
    (hl : s.isLane p = false) (hm : msgOf (s.copyOctets c (s.frame c.frame).octets) = some m) (ho : (s.frame c.frame).origin = none)
    (hq : (s.frame c.frame).ptp = none) (hi : s.instOf p m = some i) (he : isEventMsg m.typ = true)
    (ha : (s.frame c.frame).host = true ∨ s.actAt i p m = .residence) :
    Runs (.ptpEventTx p tpcs) s (fun u => ∀ t, t < 2 → s.pwr (1 + t) = 2 → (look [] s.txts (2 * t + i)).length < 256 →
      look [] u.txts (2 * t + i) = look [] s.txts (2 * t + i) ++
        [stampWords (s.txStamp p tpcs) s.stepCount (!s.timeValid) p true false m]) := by
  obtain ⟨w, hw, hleave⟩ := State.leaveOther_records (f := c.frame) (l := s.copyOctets c (s.frame c.frame).octets) (t := s.txStamp p tpcs) hq ha
  have hx : exec (.ptpEventTx p tpcs) s = done (w.txRecord i (stampWords (s.txStamp p tpcs) s.stepCount (!s.timeValid) p true false m)) := by
    show done (s.ptpTx (p % 48) tpcs) = _
    rw [Nat.mod_eq_of_lt hp]
    unfold State.ptpTx
    dsimp only
    rw [hk]
    dsimp only
    rw [hm]
    dsimp only
    rw [ho, if_neg (by simp [hl])]
    dsimp only
    rw [State.egressInst_fresh hq, hi]
    dsimp only
    rw [if_neg (by simp [hpatch, hleft]), hleave]
    unfold State.recordTx
    rw [if_pos he, hw.stepCount, hw.timeValid]
  refine runs_done hx fun t ht hon hroom => ?_
  obtain ⟨-, -, htxts⟩ := hw.rest
  rw [State.settle_txts, State.txRecord_txts _ ht ((hw.pwr _).trans hon) (by rwa [htxts]), htxts]

theorem runs_ptpEventTx_lane (hp : p < 48) (hk : (s.tx p).kind = .copy v c) (hl : s.isLane p = true)
    (hm : msgOf (s.copyOctets c (s.frame c.frame).octets) = some m) (ho : (s.frame c.frame).origin = none) (hq : (s.frame c.frame).ptp = none)
    (hi : s.instOf p m = some i) (he : isEventMsg m.typ = true) :
    Runs (.ptpEventTx p tpcs) s (fun u => u.rd (pageNT (p / 4)) R.NT.CNT_PTP_PASS = satNat 32 (s.rd (pageNT (p / 4)) R.NT.CNT_PTP_PASS + 1)) := by
  have hx : exec (.ptpEventTx p tpcs) s = done (s.inc (pageNT (p / 4)) R.NT.CNT_PTP_PASS) := by
    show done (s.ptpTx (p % 48) tpcs) = _
    rw [Nat.mod_eq_of_lt hp]
    unfold State.ptpTx
    dsimp only
    rw [hk]
    dsimp only
    rw [hm]
    dsimp only
    rw [ho, if_pos hl]
    dsimp only
    rw [State.egressInst_fresh hq, hi, if_pos ⟨rfl, he⟩]
  refine runs_done hx ?_
  rw [State.rd_settle, State.rd_inc]
  rfl

end

/-! ### The mirror of the selection leaves the TCU it goes out from (R113, R151) -/

section
variable {s : State} {t : Nat}

theorem State.copyFld_tcus (p q : Nat) (f : Fld) : (s.copyFld p q f).tcus = s.tcus :=
  State.foldl_inv (P := fun a => a.tcus = s.tcus) rfl fun _ _ _ h => h

theorem State.mirrored_tcus (a b : Nat) :
    (mirroredRegs.foldl (fun s e => e.2.foldl (fun s f => s.copyFld (tpage a e.1) (tpage b e.1) f) s) s).tcus = s.tcus :=
  State.foldl_inv (P := fun v => v.tcus = s.tcus) rfl fun _ _ _ h =>
    State.foldl_inv (P := fun v => v.tcus = s.tcus) h fun _ _ _ h => (State.copyFld_tcus _ _ _).trans h

theorem State.tcu_mirrorRate {b : Nat} (hb : t ≠ b) : (s.mirrorRate t b).tcu t = s.tcu t := by
  unfold State.mirrorRate
  split
  · rfl
  · dsimp only
    rw [State.tcu, State.setRatio_tcus, State.copyFld_tcus, State.copyFld_tcus]
    exact State.tcu_onTcu_ne _ _ _ _ hb

theorem State.tcu_mirrorAll {b : Nat} (hb : t ≠ b) : (s.mirrorAll t b).tcu t = s.tcu t := by
  have hcopied : ((mirroredRegs.foldl (fun s e => e.2.foldl (fun s f => s.copyFld (tpage t e.1) (tpage b e.1) f) s)
      (s.onTcu b fun u => u.adopt (s.tcu t))).mirrorRate t b).tcu t = s.tcu t := by
    rw [State.tcu_mirrorRate hb, State.tcu, State.mirrored_tcus]
    exact State.tcu_onTcu_ne _ _ _ _ hb
  unfold State.mirrorAll
  dsimp only
  split
  · exact hcopied
  · rw [State.selChanged, State.tcu_onTcu_ne _ _ _ _ hb, hcopied]

theorem State.tcu_mirrorSel (ht : t < 2) : (s.mirrorSel t).tcu t = s.tcu t := by
  unfold State.mirrorSel
  dsimp only
  split
  · exact State.tcu_mirrorAll (by omega)
  · rfl

end

/-! ### Trackers (R140, R141) -/

section
variable {s : State} {ctx t i : Nat}

theorem State.trk_onTrk (f : Trk → Trk) : look {} ((s.onTrk t i f).tcu t).trks i = f (look {} (s.tcu t).trks i) := by
  rw [State.onTrk, State.tcu_onTcu_same]
  exact look_upd_same ({} : Trk) (s.tcu t).trks i f

/-- A write of 1 to a command bit of a PTP page is taken, and its effect follows. -/
theorem State.write_ptpCmd {off : Nat} {f : Fld} (ht : t < 2) (hi : i < 2) (hw : s.writes ctx (pagePtp t i))
    (hoff : 0x040 ≤ off ∧ off < 0x0A0 ∧ off % 4 = 0)
    (hrow : fieldsAt .ptp off = [(f, 0)]) (hacc : f.acc = .w1s)
    (hf : (f.lo = 0 ∧ f.w = 1) ∧ f ≠ R.HDR.HDR_COMMIT_AT_BOUNDARY ∧ f ≠ R.HDR.HDR_OWNER_OWNER ∧ f ≠ R.PTP.PTP_DOM_ANY) :
    s.write ctx (pagePtp t i) off 1 = s.ptpWritten t i off 1 (s.wr (pagePtp t i) f (s.rd (pagePtp t i) f ||| 1)) := by
  obtain ⟨h40, hA0, h4⟩ := hoff
  obtain ⟨⟨hlo, hwd⟩, hbound, howner, hany⟩ := hf
  have hwin : s.windowShut (pagePtp t i) off = false := by simp [State.windowShut, hw.2.2.2]
  have herr : s.fieldErr (pagePtp t i) .ptp 1 (f, 0) = 0 := by
    simp [State.fieldErr, State.readsOnly, State.ruleOk, State.lockedField, hacc, hbound, howner, hany]
  have hkeeps : s.keeps (pagePtp t i) .ptp 1 f 0 = false := by
    simp [State.keeps, State.windowShut, hw.2.2.2, howner]
  have hfield : s.fieldWrite (pagePtp t i) .ptp 1 (f, 0) s = s.wr (pagePtp t i) f (s.rd (pagePtp t i) f ||| 1) := by
    unfold State.fieldWrite
    dsimp only
    rw [herr, hkeeps, hacc, hlo, hwd, if_neg (by simp)]
    rfl
  have hespare : pagePtp t i ≠ pageEspare := by simp only [pagePtp, pageEspare, tpage, ne_eq]; omega
  rw [State.write_ok s hw (pageBlk_pagePtp ht hi) (by omega) h4 (by omega) (by omega) hespare (.inr (by omega)) (by rw [hrow]; simp)
    (by rw [hrow]; simpa using herr), hrow]
  show s.regEffect ctx (pagePtp t i) off 1 (s.fieldWrite (pagePtp t i) .ptp 1 (f, 0) s) = _
  rw [hfield]
  unfold State.regEffect
  dsimp only
  rw [hwin, pageBlk_pagePtp ht hi, if_neg (by decide), if_neg (by omega)]
  dsimp only
  rw [isTcuB_pagePtp ht hi, pageIndex_pagePtp ht hi]

theorem State.ptpWritten_clear (old : State) : old.ptpWritten t i 0x05C 1 s = (s.trkClear t i).mirrorSel t := by
  unfold State.ptpWritten
  rw [if_neg (by decide), if_neg (by decide), if_neg (by decide), if_pos rfl, if_pos (by decide)]

theorem State.ptpWritten_push (old : State) : old.ptpWritten t i 0x078 1 s = s.smpPush t i := by
  unfold State.ptpWritten
  rw [if_neg (by decide), if_neg (by decide), if_neg (by decide), if_neg (by decide), if_pos rfl, if_pos (by decide)]

theorem runs_ptpTrkClear (ht : t < 2) (hi : i < 2) (hw : s.writes ctx (pagePtp t i)) :
    Runs (.ptpTrkClear ctx t i) s (fun u => (look {} (u.tcu t).trks i).clear = true ∧
      (look {} (u.tcu t).trks i).ofs = (look {} (s.tcu t).trks i).ofs) := by
  have hx : exec (.ptpTrkClear ctx t i) s = done (((s.wr (pagePtp t i) R.PTP.PTP_TRK_CMD_CLEAR
      (s.rd (pagePtp t i) R.PTP.PTP_TRK_CMD_CLEAR ||| 1)).trkClear t i).mirrorSel t) := by
    show done (s.write ctx (pagePtp (t % 2) (i % 2)) 0x05C 1) = _
    rw [Nat.mod_eq_of_lt ht, Nat.mod_eq_of_lt hi, State.write_ptpCmd ht hi hw (by decide) (show _ = [(R.PTP.PTP_TRK_CMD_CLEAR, 0)] by decide) rfl
      (by decide), State.ptpWritten_clear]
  have htrk (v : State) : look {} ((v.trkClear t i).tcu t).trks i = { look {} (v.tcu t).trks i with clear := true } :=
    State.trk_onTrk fun k => { k with clear := true }
  refine runs_done hx ⟨?_, ?_⟩
  · rw [State.tcu_settle, State.tcu_mirrorSel ht, htrk]
  · rw [State.tcu_settle, State.tcu_mirrorSel ht, htrk]
    rfl

/-- From `s` to `v` nothing but the bit PUSH of a PTP page has changed. -/
def State.Pushes (p : Nat) (s v : State) : Prop :=
  State.Only (fun q x => q = p ∧ x = R.PTP.PTP_SMP_PUSH_PUSH.place 0) s v ∧ v.tcus = s.tcus ∧ v.switch = s.switch

theorem State.pushes_wr (x y : Nat) (p : Nat) : State.Pushes p s ((s.wr p R.PTP.PTP_SMP_PUSH_PUSH x).wr p R.PTP.PTP_SMP_PUSH_PUSH y) :=
  ⟨.wr (.wr (.refl s) _ rfl ⟨rfl, rfl⟩) _ rfl ⟨rfl, rfl⟩, rfl, rfl⟩

section
variable {v : State} {p : Nat}

theorem State.Pushes.rd (h : State.Pushes p s v) {q : Nat} {f : Fld} (hf : f.inPage 0 = true) (hne : f.place 0 ≠ R.PTP.PTP_SMP_PUSH_PUSH.place 0) :
    v.rd q f = s.rd q f := h.1.rd hf fun hE => hne hE.2

theorem State.Pushes.tcu (h : State.Pushes p s v) (t : Nat) : v.tcu t = s.tcu t := by rw [State.tcu, h.2.1]; rfl

theorem State.Pushes.smpOfs (h : State.Pushes p s v) : v.smpOfs p = s.smpOfs p := by
  unfold State.smpOfs
  rw [h.rd (by decide) (by decide), h.rd (by decide) (by decide), h.rd (by decide) (by decide), h.rd (by decide) (by decide)]

theorem State.Pushes.smpInstant (h : State.Pushes p s v) : v.smpInstant t p = s.smpInstant t p := by
  unfold State.smpInstant
  rw [h.tcu, h.rd (by decide) (by decide), h.rd (by decide) (by decide)]

theorem State.Pushes.decides (h : State.Pushes p s v) (hp : p ≠ pageArb) : v.decides t = s.decides t := by
  have harb {f : Fld} (hf : f.inPage 0 = true) : v.rd pageArb f = s.rd pageArb f := h.1.rd hf fun hE => hp hE.1.symm
  have hlead : v.lead = s.lead := by
    unfold State.lead State.active State.tcu
    rw [h.2.1, h.2.2, harb (by decide)]
  unfold State.decides State.tokenHeld State.flag
  rw [hlead, harb (by decide)]

end

/-- The first sample loads the tracker (R141). -/
theorem State.smpPush_first {v : State} (hv : v = s.wr (pagePtp t i) R.PTP.PTP_SMP_PUSH_PUSH 0)
    (hm : v.flag (pagePtp t i) R.PTP.PTP_TRK_CTL_MODE = false) (hd : v.decides t = true) (hl : (look {} (v.tcu t).trks i).loaded = false)
    (hnew : ((v.tcu t).now : Int) ≤ v.smpInstant t (pagePtp t i) + 2000000000) :
    s.smpPush t i = (v.onTrk t i fun k =>
      { k with ofs := v.smpOfs (pagePtp t i), loaded := true, lastAt := some (v.tcu t).now }).mirrorSel t := by
  unfold State.smpPush
  dsimp only
  rw [← hv, if_neg (by simp [hm, hd]), if_neg (by omega), if_pos (by simp [hl])]
  rfl

theorem runs_ptpSmpPush (ht : t < 2) (hi : i < 2) (hw : s.writes ctx (pagePtp t i)) (hm : s.flag (pagePtp t i) R.PTP.PTP_TRK_CTL_MODE = false)
    (hd : s.decides t = true) (hl : (look {} (s.tcu t).trks i).loaded = false)
    (hnew : ((s.tcu t).now : Int) ≤ s.smpInstant t (pagePtp t i) + 2000000000) :
    Runs (.ptpSmpPush ctx t i) s (fun u => (look {} (u.tcu t).trks i).ofs = s.smpOfs (pagePtp t i) ∧ (look {} (u.tcu t).trks i).loaded = true) := by
  have hpage : pagePtp t i ≠ pageArb := by simp only [pagePtp, tpage, pageArb]; omega
  have hv := s.pushes_wr (s.rd (pagePtp t i) R.PTP.PTP_SMP_PUSH_PUSH ||| 1) 0 (pagePtp t i)
  have hx : exec (.ptpSmpPush ctx t i) s =
      done ((s.wr (pagePtp t i) R.PTP.PTP_SMP_PUSH_PUSH (s.rd (pagePtp t i) R.PTP.PTP_SMP_PUSH_PUSH ||| 1)).smpPush t i) := by
    show done (s.write ctx (pagePtp (t % 2) (i % 2)) 0x078 1) = _
    rw [Nat.mod_eq_of_lt ht, Nat.mod_eq_of_lt hi, State.write_ptpCmd ht hi hw (by decide) (show _ = [(R.PTP.PTP_SMP_PUSH_PUSH, 0)] by decide) rfl
      (by decide), State.ptpWritten_push]
  rw [State.smpPush_first rfl (by rw [State.flag, hv.rd (by decide) (by decide)]; exact hm) ((hv.decides hpage).trans hd) (by rw [hv.tcu]; exact hl)
    (by rw [hv.tcu, hv.smpInstant]; exact hnew), hv.smpOfs] at hx
  refine runs_done hx ⟨?_, ?_⟩
  · rw [State.tcu_settle, State.tcu_mirrorSel ht, State.trk_onTrk]
  · rw [State.tcu_settle, State.tcu_mirrorSel ht, State.trk_onTrk]

end

/-! ### A change of selection leaves FOLLOWED of the TCU (R143, R145) -/

/-- From `s` to `u` FOLLOWED of PTP0 of TCU `t` stands. -/
def State.KeepsFollowed (t : Nat) (s u : State) : Prop := State.Only (elsewhere (pagePtp t 0) (R.PTP.PTP_STAT_FOLLOWED.place 0)) s u

theorem tpage_ne_pagePtp {w t a : Nat} (ha : 0x40 ≤ a ∧ a < 0x80 ∧ a ≠ 0x68) : tpage w a ≠ pagePtp t 0 := by
  simp only [tpage, pagePtp]
  omega

namespace State.KeepsFollowed
section
variable {t p w x b : Nat} {s u v : State} {f g : Fld}

theorem refl (s : State) : KeepsFollowed t s s := State.Only.refl s
theorem upd (h : KeepsFollowed t s u) (hr : v.regs = u.regs) : KeepsFollowed t s v := State.Only.upd h hr

theorem ite {c : Prop} {_ : Decidable c} (h : KeepsFollowed t s u) (k : KeepsFollowed t s v) : KeepsFollowed t s (if c then u else v) := by
  split
  · exact h
  · exact k

theorem foldl {β : Type} {l : List β} {k : State → β → State} (h : KeepsFollowed t s u)
    (hk : ∀ a, ∀ y ∈ l, KeepsFollowed t s a → KeepsFollowed t s (k a y)) : KeepsFollowed t s (l.foldl k u) := State.foldl_inv h hk

theorem each {n : Nat} {k : Nat → State → State} (h : KeepsFollowed t s u)
    (hk : ∀ a i, i < n → KeepsFollowed t s a → KeepsFollowed t s (k i a)) : KeepsFollowed t s (u.each n k) :=
  h.foldl fun a i hi => hk a i (List.mem_range.1 hi)

theorem wrI {i : Nat} (h : KeepsFollowed t s u) (hf : f.inPage i = true) (hp : p ≠ pagePtp t 0) : KeepsFollowed t s (u.wrI p f i x) :=
  State.Only.wrI h _ hf (.inl hp)
theorem wr (h : KeepsFollowed t s u) (hf : f.inPage 0 = true) (hp : p ≠ pagePtp t 0) : KeepsFollowed t s (u.wr p f x) := h.wrI hf hp
theorem wrWide (h : KeepsFollowed t s u) (hf : f.inPage 0 = true) (hg : g.inPage 0 = true) (hp : p ≠ pagePtp t 0) :
    KeepsFollowed t s (u.wrWide p f g x) := (h.wr hf hp).wr hg hp
theorem raise (h : KeepsFollowed t s u) : KeepsFollowed t s (u.raise p b) := State.Only.raise h b (.inr (by decide))
theorem raiseIf {c : Bool} (h : KeepsFollowed t s u) : KeepsFollowed t s (u.raiseIf c p b) := State.Only.raiseIf h c b (.inr (by decide))
theorem onTcu {k : Tcu → Tcu} (h : KeepsFollowed t s u) : KeepsFollowed t s (u.onTcu w k) := h.upd rfl

theorem followed (h : KeepsFollowed t s u) : u.followed t = s.followed t := by
  unfold State.followed
  rw [State.flag, State.flag, State.Only.stands h (by decide)]

theorem finish {k : Cmd} {st d r0 r1 : Nat} (h : KeepsFollowed t s u) : KeepsFollowed t s (u.finish k st d r0 r1) := by
  refine State.Only.trans h ((u.finish_only k st d r0 r1).mono ?_)
  rintro q y ⟨c, hc, rfl, -⟩
  refine .inl ?_
  simp only [pageHC, pagePtp, tpage]
  omega

/-! ### The rate word -/

theorem setRatio {r : Int} (h : KeepsFollowed t s u) : KeepsFollowed t s (u.setRatio w r) :=
  .ite h (((h.wr (by decide) (tpage_ne_pagePtp (by decide))).wr (by decide) (tpage_ne_pagePtp (by decide))).wr (by decide)
    (tpage_ne_pagePtp (by decide)))

theorem compensate {r : Int} (h : KeepsFollowed t s u) : KeepsFollowed t s (u.compensate w r) := h.each fun _ _ _ h => .ite h h.onTcu

theorem setRateOne {r : Int} (h : KeepsFollowed t s u) : KeepsFollowed t s (u.setRateOne w r) :=
  .ite h (h.raiseIf.wrWide (by decide) (by decide) (tpage_ne_pagePtp (by decide))).setRatio.onTcu.compensate

theorem steer {held slew : Int} (h : KeepsFollowed t s u) : KeepsFollowed t s (u.steer w held slew) := .ite h h.setRateOne.onTcu

/-! ### The selection -/

theorem setSel (h : KeepsFollowed t s u) : KeepsFollowed t s (u.setSel w x) :=
  have hshown : KeepsFollowed t s (u.wr (pageRefsel w) R.REFSEL.REFSEL_STAT_STATE x) := h.wr (by decide) (tpage_ne_pagePtp (by decide))
  .ite hshown hshown.onTcu

theorem dropRem {all : Bool} (h : KeepsFollowed t s u) : KeepsFollowed t s (u.dropRem w all) :=
  .ite h (h.onTcu.wr (by decide) (tpage_ne_pagePtp (by decide)))

theorem setEst {e : Int} (h : KeepsFollowed t s u) : KeepsFollowed t s (u.setEst w e) :=
  (h.wrWide (by decide) (by decide) (tpage_ne_pagePtp (by decide))).onTcu

theorem wrHold (h : KeepsFollowed t s u) (hf : f.inPage 0 = true) : KeepsFollowed t s (u.wr (pageHold w) f x) :=
  h.wr hf (tpage_ne_pagePtp (by decide))

theorem enterHoldover (h : KeepsFollowed t s u) : KeepsFollowed t s (u.enterHoldover w) :=
  ((((h.setEst.steer.onTcu.dropRem.wrHold (by decide)).wrHold (by decide)).wrHold (by decide)).wrHold (by decide)).setSel.raise.raiseIf

theorem exitHoldover (h : KeepsFollowed t s u) : KeepsFollowed t s (u.exitHoldover w) := ((h.wrHold (by decide)).wrHold (by decide)).raise

theorem wrRefsel (h : KeepsFollowed t s u) (hf : f.inPage 0 = true) : KeepsFollowed t s (u.wr (pageRefsel w) f x) :=
  h.wr hf (tpage_ne_pagePtp (by decide))

theorem showSel {y : Option Nat} (h : KeepsFollowed t s u) : KeepsFollowed t s (u.showSel w y) :=
  (KeepsFollowed.ite ((h.wrRefsel (by decide)).wrRefsel (by decide)) (h.wrRefsel (by decide))).onTcu.each fun _ _ _ h =>
    State.Only.wr h _ (by decide) (.inr (by decide))

theorem domainSelectEnds (h : KeepsFollowed t s u) : KeepsFollowed t s (u.domainSelectEnds x) := by
  unfold State.domainSelectEnds
  split
  · exact h.finish
  · exact h

theorem showNext {y : Option Nat} (h : KeepsFollowed t s u) : KeepsFollowed t s (u.showNext w y) := by
  unfold State.showNext
  dsimp only
  split
  · exact .ite ((h.wrRefsel (by decide)).wrRefsel (by decide)) (h.wrRefsel (by decide))
  · exact h.wrRefsel (by decide)

theorem reselectOne (h : KeepsFollowed t s u) : KeepsFollowed t s (u.reselectOne w) := by
  unfold State.reselectOne
  dsimp only
  refine .ite (.ite h.showNext.enterHoldover h.showNext) ?_
  have hs {y z : Option Nat} {go : Bool} : KeepsFollowed t s ((((((u.showNext w y).showSel w z).raise (pageRefsel w) 0).onTcu w
      (fun u => { u with dphi := [] })).selChanged w go).domainSelectEnds 3) := h.showNext.showSel.raise.onTcu.onTcu.domainSelectEnds
  split
  · exact (KeepsFollowed.ite hs.exitHoldover (.ite hs.onTcu hs.steer)).onTcu.setSel
  · exact .ite hs.enterHoldover hs.steer.dropRem.setSel

/-! ### The mirror, to the other TCU -/

theorem copyFld {q : Nat} (h : KeepsFollowed t s u) (hq : q ≠ pagePtp t 0) (hf : ∀ i < f.n, f.inPage i = true) :
    KeepsFollowed t s (u.copyFld p q f) := h.foldl fun _ i hi h => h.wrI (hf i (List.mem_range.1 hi)) hq

theorem mirrorRate {a : Nat} (h : KeepsFollowed t s u) : KeepsFollowed t s (u.mirrorRate a w) :=
  .ite h ((h.onTcu.copyFld (tpage_ne_pagePtp (by decide)) (by decide)).copyFld (tpage_ne_pagePtp (by decide)) (by decide)).setRatio

theorem mirrorAll {a : Nat} (ht : t < 2) (hw : w = 1 - t) (h : KeepsFollowed t s u) : KeepsFollowed t s (u.mirrorAll a w) := by
  unfold State.mirrorAll
  dsimp only
  have hcopied : KeepsFollowed t s (mirroredRegs.foldl (fun s e => e.2.foldl (fun s f => s.copyFld (tpage a e.1) (tpage w e.1) f) s)
      (u.onTcu w fun y => y.adopt (u.tcu a))) := by
    refine h.onTcu.foldl fun y e he h => h.foldl fun z f hf h => ?_
    obtain ⟨⟨h40, h80⟩, hreg⟩ := State.KeepsBase.mirroredRegs_inPage e he
    refine h.copyFld ?_ (hreg f hf)
    simp only [tpage, pagePtp]
    omega
  exact .ite hcopied.mirrorRate hcopied.mirrorRate.onTcu

theorem reselect (ht : t < 2) (h : KeepsFollowed t s u) : KeepsFollowed t s (u.reselect t) :=
  .ite (.ite (h.reselectOne.mirrorAll ht rfl) h.reselectOne) h

end
end State.KeepsFollowed

/-! ### TIME_DOMAIN_SELECT (R145) -/

/-- TCU `v` follows PTP0 or PTP1, as `d` says (R143). -/
def State.followIn (s : State) (d v : Nat) : State :=
  (s.wr (pagePtp v d) R.PTP.PTP_STAT_FOLLOWED 1).wr (pagePtp v (1 - d)) R.PTP.PTP_STAT_FOLLOWED 0

section
variable {s : State} {t d v : Nat}

theorem State.followed_followIn (hd : d < 2) : (s.followIn d v).followed v = d := by
  have hne : pagePtp v 0 ≠ pagePtp v 1 := by simp [pagePtp, tpage]
  unfold State.followed State.followIn State.flag
  obtain rfl | rfl : d = 0 ∨ d = 1 := by omega
  · rw [State.rd_wr_page _ _ _ _ (by decide) (by decide) hne.symm, State.rd_wr_same]
    rfl
  · rw [State.rd_wr_same]
    rfl

theorem State.KeepsFollowed.followIn {u : State} (h : State.KeepsFollowed t s u) (hne : v ≠ t) (hd : d < 2) :
    State.KeepsFollowed t s (u.followIn d v) := by
  refine (h.wr (by decide) ?_).wr (by decide) ?_ <;>
  · simp only [pagePtp, tpage]
    omega

theorem State.onFollowers_two (f : Nat → State → State) : s.onFollowers f =
    if s.follows 1 then f 1 (if s.follows 0 then f 0 s else s) else if s.follows 0 then f 0 s else s := rfl

/-- The active TCU follows the one named. -/
theorem State.followed_onFollowers (hd : d < 2) (hh : s.tokenHeld = true) :
    (s.onFollowers fun v a => a.followIn d v).followed s.active = d := by
  have hfollows : s.follows s.active = true := by simp [State.follows, hh]
  have hact := s.active_lt
  rw [State.onFollowers_two]
  obtain h0 | h1 : s.active = 0 ∨ s.active = 1 := by omega
  · rw [h0] at hfollows ⊢
    rw [if_pos hfollows]
    have hkept : State.KeepsFollowed 0 (s.followIn d 0) (if s.follows 1 then (s.followIn d 0).followIn d 1 else s.followIn d 0) :=
      .ite ((State.KeepsFollowed.refl _).followIn (by decide) hd) (.refl _)
    rw [hkept.followed, State.followed_followIn hd]
  · rw [h1] at hfollows ⊢
    rw [if_pos hfollows, State.followed_followIn hd]

end

section
variable {s : State} {q : Request} {k : Cmd} {d : Nat}

/-- An accepted TIME_DOMAIN_SELECT names PTP0 or PTP1. -/
theorem domain_of_accepts (hop : k.op = 0x43) (h : s.judgeCmd k 0 0 = none) : k.arg 0 < 2 := by
  have hobj := State.noObject_of_judgeCmd h
  by_contra hbad
  unfold State.noObject at hobj
  simp [hop, hbad] at hobj

theorem State.startCmd_timeDomainSelect (hk : k.op = 0x43) (s : State) : State.startCmd k s = State.startDomainSelect k s := by
  unfold State.startCmd
  rw [hk]
  rfl

/-- No TIME_DOMAIN_SELECT is in flight. -/
def State.dropSelects (s : State) : State := { s with cmds := s.cmds.filter (fun j => j.op != 0x43) }

/-- The selection of a domain that may be followed: the followers show it, and the selector re-evaluates, which does not end the
TIME_DOMAIN_SELECTs in flight. -/
def State.selectDomain (s : State) (t d : Nat) : State :=
  let a := s.onFollowers fun v a => a.followIn d v
  { a.dropSelects.reselect t with cmds := (a.dropSelects.reselect t).cmds ++ a.cmds.filter (fun j => j.op == 0x43) }

theorem State.startDomainSelect_eq (k : Cmd) (s : State) : State.startDomainSelect k s =
    if (s.fly k).followed s.active = k.arg 0 then (s.fly k).finish k stOk 0 0 0
    else if (s.fly k).flag (pagePtp s.active (k.arg 0)) R.PTP.PTP_TRK_CTL_MODE ∨ (s.fly k).rd (pagePtp s.active (k.arg 0)) R.PTP.PTP_STAT_STATE ≠ csQual ∨
        (look {} ((s.fly k).tcu s.active).trks (k.arg 0)).ofs.natAbs > (s.fly k).rd (pagePtp s.active (k.arg 0)) R.PTP.PTP_SW_MAX * 2 ^ 48 then
      (s.fly k).finishSt k stWrongState
    else if ((s.fly k).selectDomain s.active (k.arg 0)).curSel s.active = some (16 + k.arg 0) then (s.fly k).selectDomain s.active (k.arg 0)
    else ((s.fly k).selectDomain s.active (k.arg 0)).finish k stOk 0 1 0 := rfl

theorem State.followed_selectDomain (hd : d < 2) (hh : s.tokenHeld = true) : (s.selectDomain s.active d).followed s.active = d := by
  have hkept : State.KeepsFollowed s.active (s.onFollowers fun v a => a.followIn d v) (s.selectDomain s.active d) :=
    .upd (u := (s.onFollowers fun v a => a.followIn d v).dropSelects.reselect s.active)
      (.reselect s.active_lt (.upd (.refl _) rfl)) rfl
  rw [hkept.followed, State.followed_onFollowers hd hh]

theorem runs_timeDomainSelect (h : s.accepts 0x43 q) (hk : k = s.cmdOf 0x43 q) (hd : k.arg 0 = d) (hh : s.tokenHeld = true) :
    Runs (.timeDomainSelect q) s (fun u =>
      if s.followed s.active = d then u.statusOf k = stOk ∧ u.followed s.active = d
      else if s.flag (pagePtp s.active d) R.PTP.PTP_TRK_CTL_MODE = true ∨ s.rd (pagePtp s.active d) R.PTP.PTP_STAT_STATE ≠ csQual ∨
        (look {} (s.tcu s.active).trks d).ofs.natAbs > s.rd (pagePtp s.active d) R.PTP.PTP_SW_MAX * 2 ^ 48 then
        u.statusOf k = stWrongState ∧ u.followed s.active = s.followed s.active
      else u.followed s.active = d) := by
  have hop : k.op = 0x43 := by rw [hk]; rfl
  have hctx : k.ctx < 4 := by rw [hk]; exact s.cmdOf_ctx_lt _ _
  have htake := State.takeRequest_of_accepts h
  have hd2 : d < 2 := by
    obtain ⟨-, hjudge⟩ := h
    rw [← hd]
    exact domain_of_accepts hop (hk ▸ hjudge)
  rw [← hk] at htake
  obtain ⟨w, hw⟩ : ∃ w, w = (s.fly k).fly k := ⟨_, rfl⟩
  have hsame : w.regs = s.regs ∧ w.tcus = s.tcus := by
    rw [hw, State.fly_eq, State.fly_eq]
    exact ⟨rfl, rfl⟩
  have hgen : (w.slot k.ctx k.handle).gen = k.handle / 4096 := by rw [hw]; exact congrArg Slot.gen (State.slot_fly_same hctx)
  have hkept : State.KeepsFollowed s.active s w := .upd (.refl s) hsame.1
  have hactive : w.active = s.active := State.rd_congr hsame.1 _ _
  have hheld : w.tokenHeld = true := (State.flag_congr hsame.1 _ _).trans hh
  have hx : exec (.timeDomainSelect q) s = done (State.startDomainSelect k (s.fly k)) := by
    show done (s.takeRequest 0x43 q) = _
    rw [htake, State.startCmd_timeDomainSelect hop]
  have hflyactive : (s.fly k).active = s.active := by rw [State.fly_eq]; rfl
  rw [State.startDomainSelect_eq, ← hw, hflyactive, hd, hkept.followed, State.flag_congr hsame.1, State.rd_congr hsame.1, State.rd_congr hsame.1,
    show w.tcu s.active = s.tcu s.active by rw [State.tcu, hsame.2]; rfl] at hx
  refine runs_done hx ?_
  rw [State.statusOf_settle]
  have hsettle (a : State) : a.settle.followed s.active = a.followed s.active := State.KeepsFollowed.followed (.upd (.refl a) (State.settle_regs a))
  rw [hsettle]
  split
  · next hf =>
    refine ⟨congrArg Slot.status (State.slot_finish_same hctx hgen _ _ _ _), ?_⟩
    rw [(State.KeepsFollowed.refl w).finish.followed, hkept.followed, hf]
  · split
    · exact ⟨congrArg Slot.status (State.slot_finish_same hctx hgen _ _ _ _), (hkept.finish).followed⟩
    · have hselected : (w.selectDomain s.active d).followed s.active = d := by
        rw [← hactive]
        exact State.followed_selectDomain hd2 hheld
      have hshown : State.KeepsFollowed s.active (w.selectDomain s.active d)
          (if (w.selectDomain s.active d).curSel s.active = some (16 + d) then w.selectDomain s.active d
            else (w.selectDomain s.active d).finish k stOk 0 1 0) := .ite (.refl _) (State.KeepsFollowed.refl _).finish
      rw [hshown.followed, hselected]

end

/-- Settles O10: messages are followed through arrival and departure; what a copy's trap does leaves what their records are made from; the
accesses and the command are the states that they leave, whose registers stand through the mirror and the reselection. -/
theorem ptpMessagesAndHostCommands : Obligations.PtpMessagesAndHostCommands :=
  ⟨fun _ _ _ _ hx hd hh hs hm hl hi hda ha hc => runs_ptpMessageRx hx hd hh hs hm hl hi hda ha hc,
    fun _ _ _ _ _ _ _ _ hp hx hk hpatch hleft hl hm ho hq hi he ha =>
      runs_ptpEventTx hp (hx ▸ hk) (hx ▸ hpatch) (hx ▸ hleft) hl hm ho hq hi he ha,
    fun _ _ _ _ _ _ _ _ hp hx hk hl hm ho hq hi he => runs_ptpEventTx_lane hp (hx ▸ hk) hl hm ho hq hi he,
    fun _ _ _ _ hp hq => runs_fuEntryExpiry hp hq,
    fun _ _ _ _ _ _ ht hi hr hq => runs_ptpTxts0Read ht hi hr hq,
    fun _ _ _ _ _ _ ht hi hr hq => runs_ptpTxts3Read ht hi hr hq,
    fun _ _ _ _ ht hi hw => runs_ptpTrkClear ht hi hw,
    fun _ _ _ _ ht hi hw hm hd hl hnew => runs_ptpSmpPush ht hi hw hm hd hl hnew,
    fun _ _ _ _ h hk hd hh _ => runs_timeDomainSelect h hk hd hh⟩

end Sys2Proof.Machine
end

section
/-! REFUTATION of O8, by a concrete state. -/

open Sys2Proof Sys2Proof.Machine
namespace Sys2Proof.Machine

/-- Trunk 0 is UP, and slot 0 of TCU0, whose source is its clock, is QUALIFIED. -/
def trunkSlotQualified : State :=
  { State.reset with
    regs := [(R.REFSEL.CAND_CFG_SRC.key (pageRefsel 0) 0, 8), (R.REFSEL.CAND_STAT_STATE.key (pageRefsel 0) 0, 4),
      (R.NT.TRUNK_STAT_STATE.key (pageNT 0) 0, 7)] }

/-- The monitors of edges declare no loss of a trunk clock. -/
theorem trunkSlotQualified_stays : exec (.candLoss 0 0) trunkSlotQualified = done trunkSlotQualified := by
  have hclass : trunkSlotQualified.cclass 0 0 = 2 := by decide
  show done _ = _
  rw [if_pos (.inl hclass)]

/-- Refutes O8: its third clause fails every slot at a loss, but loss for want of edges is not declared of a trunk clock (`execCandLoss`), which
the trunk block declares lost (R99, R208): such a slot stays QUALIFIED. -/
theorem not_candidatesAndSelectionSettings : ¬ Obligations.CandidatesAndSelectionSettings := by
  unfold Obligations.CandidatesAndSelectionSettings
  rintro ⟨-, -, hLoss, -⟩
  obtain ⟨u, hu, hfailed, -⟩ := hLoss trunkSlotQualified 0 0 (by decide) (by decide) (by decide) (.inr (.inr (by decide)))
  obtain rfl : trunkSlotQualified.settle = u := by rw [trunkSlotQualified_stays] at hu; injection hu
  rw [State.cstate, State.rdI_settle] at hfailed
  exact absurd hfailed (by decide)

end Sys2Proof.Machine
end

section
/-! SUPPORT. What a reselection and a disqualification reach, as a rule for any property of the states between (R100 to R104, R109, R113). -/

open Sys2Proof Sys2Proof.Machine
namespace Sys2Proof.Machine

/-! ### What a disqualification writes -/

/-- The places of `REFSEL` that show what is selected and what disagrees. -/
def selShown : List Nat :=
  [R.REFSEL.REFSEL_STAT_SEL.place 0, R.REFSEL.REFSEL_STAT_SEL_VALID.place 0, R.REFSEL.REFSEL_STAT_STATE.place 0,
    R.REFSEL.REFSEL_STAT_NEXT.place 0, R.REFSEL.REFSEL_STAT_NEXT_VALID.place 0, R.REFSEL.REFSEL_STAT_DISAGREE.place 0,
    R.REFSEL.REFSEL_STAT_QUAL.place 0]

/-- The fields that show the state of a slot. -/
def slotShown : List Fld := [R.REFSEL.CAND_STAT_STATE, R.REFSEL.CAND_STAT_REASON, R.REFSEL.CAND_STAT_TIMER]

/-- The pages of TCU `t` past its control page. -/
def tcuOwn (t q : Nat) : Prop := ∃ r, 0x40 < r ∧ r < 0x80 ∧ q = tpage t r

/-- What a disqualification of the slots `K` of TCU `t` writes: its pages, but of `REFSEL` what is selected and the state of those slots alone. -/
def selReach (t : Nat) (K : Nat → Prop) (q x : Nat) : Prop :=
  tcuOwn t q ∧ (q = pageRefsel t → x ∈ selShown ∨ ∃ i < 16, K i ∧ ∃ f ∈ slotShown, x = f.place i)

/-- `P` withstands all that a disqualification of the slots `K` of TCU `t` is made of. -/
structure State.SelClosed (t : Nat) (K : Nat → Prop) (P : State → Prop) : Prop where
  wrI : ∀ {a p f i} x, f.inPage i = true → selReach t K p (f.place i) → P a → P (a.wrI p f i x)
  raise : ∀ {a} p b, P a → P (a.raise p b)
  onTcu : ∀ {a} v {g : Tcu → Tcu}, (∀ y, (g y).clk = y.clk) → P a → P (a.onTcu v g)
  finish : ∀ {a} k st d r0 r1, P a → P (a.finish k st d r0 r1)
  mirrorSel : ∀ {a}, P a → P (a.mirrorSel t)

theorem State.ite_inv {P : State → Prop} {c : Prop} {_ : Decidable c} {a b : State} (ha : P a) (hb : P b) : P (if c then a else b) := by
  split
  · exact ha
  · exact hb

theorem State.each_inv {P : State → Prop} {s : State} {n : Nat} {f : Nat → State → State} (h : P s)
    (hf : ∀ a i, i < n → P a → P (f i a)) : P (s.each n f) := State.foldl_inv h fun a i hi => hf a i (List.mem_range.1 hi)

/-! ### The walk -/

namespace State.SelClosed
section
variable {t i j x : Nat} {K : Nat → Prop} {P : State → Prop} {a : State} {f g : Fld} (c : SelClosed t K P)
include c

/-- A write of a page of the TCU other than `REFSEL`. -/
theorem wrOwn {r : Nat} (x : Nat) (hr : (0x40 < r ∧ r < 0x80 ∧ r ≠ 0x43)) (hf : f.inPage 0 = true) (h : P a) : P (a.wr (tpage t r) f x) :=
  c.wrI x hf ⟨⟨r, hr.1, hr.2.1, rfl⟩, fun he => absurd he (by simp only [tpage, pageRefsel]; omega)⟩ h

/-- A write of what shows the selection. -/
theorem wrSel (x : Nat) (hf : f.inPage 0 = true) (hx : f.place 0 ∈ selShown) (h : P a) : P (a.wr (pageRefsel t) f x) :=
  c.wrI x hf ⟨⟨0x43, by decide, by decide, rfl⟩, fun _ => .inl hx⟩ h

theorem raiseIf {b : Bool} {p n : Nat} (h : P a) : P (a.raiseIf b p n) := State.ite_inv (c.raise _ _ h) h

theorem setRatio {r : Int} (h : P a) : P (a.setRatio t r) :=
  State.ite_inv h (c.wrOwn _ (by decide) (by decide) (c.wrOwn _ (by decide) (by decide) (c.wrOwn _ (by decide) (by decide) h)))

theorem compensate {r : Int} (h : P a) : P (a.compensate t r) :=
  State.each_inv h fun _ _ _ h => State.ite_inv h (c.onTcu _ (fun _ => rfl) h)

theorem setRateOne {r : Int} (h : P a) : P (a.setRateOne t r) :=
  State.ite_inv h (c.compensate (c.onTcu _ (fun _ => rfl) (c.setRatio
    (c.wrOwn _ (by decide) (by decide) (c.wrOwn _ (by decide) (by decide) (c.raiseIf h))))))

theorem steer {held slew : Int} (h : P a) : P (a.steer t held slew) := State.ite_inv h (c.onTcu _ (fun _ => rfl) (c.setRateOne h))

theorem setSel (h : P a) : P (a.setSel t x) :=
  have hshown : P (a.wr (pageRefsel t) R.REFSEL.REFSEL_STAT_STATE x) := c.wrSel _ (by decide) (by decide) h
  State.ite_inv hshown (c.onTcu _ (fun _ => rfl) hshown)

theorem setEst {e : Int} (h : P a) : P (a.setEst t e) :=
  c.onTcu _ (fun _ => rfl) (c.wrOwn _ (by decide) (by decide) (c.wrOwn _ (by decide) (by decide) h))

theorem dropRem {all : Bool} (h : P a) : P (a.dropRem t all) :=
  State.ite_inv h (c.wrOwn _ (by decide) (by decide) (c.onTcu _ (fun _ => rfl) h))

theorem wrHold (x : Nat) (hf : f.inPage 0 = true) (h : P a) : P (a.wr (pageHold t) f x) := c.wrOwn x (by decide) hf h

theorem enterHoldover (h : P a) : P (a.enterHoldover t) :=
  c.raiseIf (c.raise _ _ (c.setSel (c.wrHold _ (by decide) (c.wrHold _ (by decide) (c.wrHold _ (by decide) (c.wrHold _ (by decide)
    (c.dropRem (c.onTcu _ (fun _ => rfl) (c.steer (c.setEst h))))))))))

theorem exitHoldover (h : P a) : P (a.exitHoldover t) := c.raise _ _ (c.wrHold _ (by decide) (c.wrHold _ (by decide) h))

theorem showSel {y : Option Nat} (h : P a) : P (a.showSel t y) := by
  have hvalid : P (a.wr (pageRefsel t) R.REFSEL.REFSEL_STAT_SEL_VALID (b2n (match y with | some k => decide (k < 16) | none => false))) :=
    c.wrSel _ (by decide) (by decide) h
  refine State.each_inv (c.onTcu _ (fun _ => rfl) (State.ite_inv (c.wrSel _ (by decide) (by decide) hvalid) hvalid)) fun b v hv hb => ?_
  exact c.wrOwn (r := 0x068 + v) _ (by omega) (by decide) hb

theorem showNext {y : Option Nat} (h : P a) : P (a.showNext t y) := by
  unfold State.showNext
  dsimp only
  split
  · exact State.ite_inv (c.wrSel _ (by decide) (by decide) (c.wrSel _ (by decide) (by decide) h)) (c.wrSel _ (by decide) (by decide) h)
  · exact c.wrSel _ (by decide) (by decide) h

theorem domainSelectEnds (h : P a) : P (a.domainSelectEnds x) := by
  unfold State.domainSelectEnds
  split
  · exact c.finish _ _ _ _ _ h
  · exact h

theorem reselectOne (h : P a) : P (a.reselectOne t) := by
  unfold State.reselectOne
  dsimp only
  have hn {y : Option Nat} : P (a.showNext t y) := c.showNext h
  have hs {y z : Option Nat} {go : Bool} : P ((((((a.showNext t y).showSel t z).raise (pageRefsel t) 0).onTcu t
      (fun u => { u with dphi := [] })).selChanged t go).domainSelectEnds 3) :=
    c.domainSelectEnds (c.onTcu _ (fun _ => rfl) (c.onTcu _ (fun _ => rfl) (c.raise _ _ (c.showSel hn))))
  refine State.ite_inv (State.ite_inv (c.enterHoldover hn) hn) ?_
  split
  · exact c.setSel (c.onTcu _ (fun _ => rfl) (State.ite_inv (c.exitHoldover hs) (State.ite_inv (c.onTcu _ (fun _ => rfl) hs) (c.steer hs))))
  · exact State.ite_inv (c.enterHoldover hs) (c.setSel (c.dropRem (c.steer hs)))

theorem reselect (h : P a) : P (a.reselect t) := State.ite_inv (c.mirrorSel (c.reselectOne h)) h

theorem agreeAll (h : P a) : P (a.agreeAll t i) := by
  have hagree {a : State} {i j : Nat} (h : P a) : P (a.agree t i j) := c.wrSel _ (by decide) (by decide) (c.onTcu _ (fun _ => rfl) h)
  exact State.each_inv h fun _ _ _ h => State.ite_inv (hagree h) (State.ite_inv (hagree h) h)

/-- A write of the state of one of the slots. -/
theorem wrSlot (x : Nat) (hi : i < 16) (hK : K i) (hf : f ∈ slotShown) (h : P a) : P (a.wrI (pageRefsel t) f i x) := by
  have hin : f.inPage i = true := by
    have hall : ∀ f ∈ slotShown, f.inPage 15 = true := by decide
    exact Fld.inPage_of_le (by omega) (hall f hf)
  exact c.wrI x hin ⟨⟨0x43, by decide, by decide, rfl⟩, fun _ => .inr ⟨i, hi, hK, f, hf, rfl⟩⟩ h

/-- What follows once a slot shows that it is FAILED. -/
theorem failed (hi : i < 16) (hK : K i) (h : P a) :
    P ((((a.wrI (pageRefsel t) R.REFSEL.CAND_STAT_TIMER i 0).candChange t).agreeAll t i).reselect t) :=
  c.reselect (c.agreeAll (c.raise _ _ (c.wrSlot _ hi hK (by decide) h)))

theorem disqualify (hi : i < 16) (hK : K i) (h : P a) : P (a.disqualify t i x) :=
  State.ite_inv h (c.failed hi hK (c.wrSlot _ hi hK (by decide) (c.wrSel _ (by decide) (by decide) (c.wrSlot _ hi hK (by decide) h))))

end
end State.SelClosed

/-! ### The mirror -/

section
variable {t : Nat} {P : State → Prop}
  (hwr : ∀ {a : State} {p i : Nat} {f : Fld} (x : Nat), f.inPage i = true → tcuOwn (1 - t) p → P a → P (a.wrI p f i x))
  (htcu : ∀ {a : State} (v : Nat) {g : Tcu → Tcu}, (∀ y, (g y).clk = y.clk) → P a → P (a.onTcu v g))
include hwr htcu

/-- The mirror writes the other TCU's pages alone. -/
theorem State.mirrorSel_inv {a : State} (h : P a) : P (a.mirrorSel t) := by
  have hcopy {a : State} {r q : Nat} {f : Fld} (hr : 0x40 < r ∧ r < 0x80) (hf : ∀ i < f.n, f.inPage i = true) (h : P a) :
      P (a.copyFld q (tpage (1 - t) r) f) :=
    State.foldl_inv h fun b i hi hb => hwr _ (hf i (List.mem_range.1 hi)) ⟨r, hr.1, hr.2, rfl⟩ hb
  have hown {a : State} {r x : Nat} {f : Fld} (hr : 0x40 < r ∧ r < 0x80) (hf : f.inPage 0 = true) (h : P a) :
      P (a.wr (tpage (1 - t) r) f x) := hwr x hf ⟨r, hr.1, hr.2, rfl⟩ h
  have hrate {a : State} (h : P a) : P (a.mirrorRate t (1 - t)) :=
    State.ite_inv h (State.ite_inv (hcopy (by decide) (by decide) (hcopy (by decide) (by decide) (htcu _ (fun _ => rfl) h)))
      (hown (by decide) (by decide) (hown (by decide) (by decide) (hown (by decide) (by decide)
        (hcopy (by decide) (by decide) (hcopy (by decide) (by decide) (htcu _ (fun _ => rfl) h)))))))
  have hregs : P (mirroredRegs.foldl (fun s e => e.2.foldl (fun s f => s.copyFld (tpage t e.1) (tpage (1 - t) e.1) f) s)
      (a.onTcu (1 - t) fun y => y.adopt (a.tcu t))) := by
    refine State.foldl_inv (htcu _ (fun _ => rfl) h) fun b e he hb => State.foldl_inv hb fun d f hf hd => ?_
    obtain ⟨hr, hin⟩ := State.KeepsBase.mirroredRegs_inPage e he
    exact hcopy hr (hin f hf) hd
  exact State.ite_inv (State.ite_inv (hrate hregs) (htcu _ (fun _ => rfl) (hrate hregs))) h

end

end Sys2Proof.Machine
end

section
/-! SUPPORT. What the ports, the queues and the selection leave of a trunk's page. -/

open Sys2Proof Sys2Proof.Machine
namespace Sys2Proof.Machine

/-- The registers of a trunk's page that its states and its partner show. -/
def trunkShown : List Fld :=
  [R.NT.TRUNK_STAT_STATE, R.NT.TRUNK_STAT_GEN, R.NT.TRUNK_PEER_NODE_ID, R.NT.CNT_DOWN, R.NT.CNT_TRAIN_FAIL, R.NT.CNT_HELLO_FAIL]

/-- From `s` to `u` what trunk `n`'s page shows stands, but for the registers at the places `E`; causes recorded on the page stay recorded; and
no domain changes its power. -/
structure State.KeepsTrunk (E : List Nat) (n : Nat) (s u : State) : Prop where
  regs : ∀ f ∈ trunkShown, f.place 0 ∉ E → u.rd (pageNT n) f = s.rd (pageNT n) f
  causes : ∀ b, s.cause (pageNT n) b = true → u.cause (pageNT n) b = true
  pwr : ∀ d, u.pwr d = s.pwr d

/-- The field stands where neither causes nor what a trunk shows do. -/
def Fld.offTrunk (f : Fld) : Bool := f.place 0 != R.HDR.HDR_INT_CAUSE.place 0 && trunkShown.all fun g => f.place 0 != g.place 0

theorem trunkShown_inPage : ∀ f ∈ trunkShown, f.inPage 0 = true ∧ f.place 0 ≠ R.HDR.HDR_INT_CAUSE.place 0 := by decide

theorem State.pwr_wrI_page (s : State) {p : Nat} {f : Fld} (i x d : Nat) (hf : f.inPage i = true) (hp : p ≠ pagePwr) :
    (s.wrI p f i x).pwr d = s.pwr d := State.pwr_of_rd (State.rdI_wrI_page s f R.PWR.PWR_STAT i 0 x hf (by decide) hp) d

namespace State.KeepsTrunk
section
variable {E : List Nat} {n : Nat} {s t u : State}

theorem refl (s : State) : KeepsTrunk E n s s := ⟨fun _ _ _ => rfl, fun _ h => h, fun _ => rfl⟩

theorem trans (h : KeepsTrunk E n s t) (k : KeepsTrunk E n t u) : KeepsTrunk E n s u :=
  ⟨fun f hf hE => (k.regs f hf hE).trans (h.regs f hf hE), fun b hb => k.causes b (h.causes b hb), fun d => (k.pwr d).trans (h.pwr d)⟩

/-- An update of what is no register. -/
theorem upd (h : KeepsTrunk E n s t) (hr : u.regs = t.regs) : KeepsTrunk E n s u :=
  h.trans ⟨fun f _ _ => State.rd_congr hr _ f, fun b hb => (State.cause_congr hr _ b).trans hb, fun d => State.pwr_of_rd (State.rd_congr hr _ _) d⟩

theorem ite {c : Prop} {_ : Decidable c} (h : KeepsTrunk E n s t) (k : KeepsTrunk E n s u) : KeepsTrunk E n s (if c then t else u) :=
  State.ite_inv h k

theorem foldl {β : Type} {l : List β} {f : State → β → State} (h : KeepsTrunk E n s t)
    (hf : ∀ a, ∀ b ∈ l, KeepsTrunk E n s a → KeepsTrunk E n s (f a b)) : KeepsTrunk E n s (l.foldl f t) := State.foldl_inv h hf

theorem each {k : Nat} {f : Nat → State → State} (h : KeepsTrunk E n s t)
    (hf : ∀ a i, i < k → KeepsTrunk E n s a → KeepsTrunk E n s (f i a)) : KeepsTrunk E n s (t.each k f) := State.each_inv h hf

theorem both {f : Nat → State → State} (h : KeepsTrunk E n s t) (hf : ∀ a i, i < 2 → KeepsTrunk E n s a → KeepsTrunk E n s (f i a)) :
    KeepsTrunk E n s (t.both f) := hf _ 1 (by decide) (hf _ 0 (by decide) h)

theorem lanes4 {f : Nat → State → State} (h : KeepsTrunk E n s t) (hf : ∀ a p, KeepsTrunk E n s a → KeepsTrunk E n s (f p a)) (m : Nat) :
    KeepsTrunk E n s (t.lanes4 m f) := h.each fun a _ _ h => hf a _ h

section
variable {p i x : Nat} {f g : Fld}

/-- A write of another page. -/
theorem wrPage (h : KeepsTrunk E n s t) (hf : f.inPage i = true) (hn : p ≠ pageNT n) (hp : p ≠ pagePwr) : KeepsTrunk E n s (t.wrI p f i x) :=
  h.trans ⟨fun g hg _ => State.rdI_wrI_page t f g i 0 x hf (trunkShown_inPage g hg).1 hn, fun b hb => by
    unfold State.cause at hb ⊢
    rwa [State.rd, State.rdI_wrI_page t f _ i 0 x hf (by decide) hn], fun d => State.pwr_wrI_page t i x d hf hp⟩

theorem cause_wr (hf : f.place 0 ≠ R.HDR.HDR_INT_CAUSE.place 0) (q b : Nat) : (t.wr p f x).cause q b = t.cause q b := by
  unfold State.cause
  rw [State.rd_wr_place _ _ _ _ _ _ hf]

/-- A write, of whatever page, of a field that stands elsewhere within it. -/
theorem wr (h : KeepsTrunk E n s t) (hf : f.inPage 0 = true) (hoff : f.offTrunk = true) (hp : p ≠ pagePwr) : KeepsTrunk E n s (t.wr p f x) := by
  simp only [Fld.offTrunk, Bool.and_eq_true, List.all_eq_true, bne_iff_ne] at hoff
  obtain ⟨hcause, hshown⟩ := hoff
  exact h.trans ⟨fun g hg _ => State.rd_wr_place t p _ f g x (hshown g hg), fun b hb => (cause_wr hcause _ _).trans hb,
    fun d => State.pwr_wrI_page t 0 x d hf hp⟩

/-- A write of a register that is excepted. -/
theorem wrAt (h : KeepsTrunk E n s t) (hE : f.place 0 ∈ E) (hf : f ∈ trunkShown) (hp : p ≠ pagePwr) : KeepsTrunk E n s (t.wr p f x) :=
  h.trans ⟨fun g _ hg => State.rd_wr_place t p _ f g x fun e => hg (e ▸ hE),
    fun _ hb => (cause_wr (trunkShown_inPage f hf).2 _ _).trans hb, fun d => State.pwr_wrI_page t 0 x d (trunkShown_inPage f hf).1 hp⟩

theorem setCause (h : KeepsTrunk E n s t) : KeepsTrunk E n s (t.setCause p x) := by
  refine h.trans ⟨fun g hg _ => State.rd_setCause t p _ x g (trunkShown_inPage g hg).2.symm, fun b hb => ?_,
    fun d => State.pwr_of_rd (State.rd_setCause t p _ x _ (by decide)) d⟩
  by_cases hq : pageNT n = p
  · rw [← hq, State.cause_setCause _ _ _ (State.cause_lt hb), hb, Bool.true_or]
  · unfold State.cause at hb ⊢
    rwa [State.setCause, State.rd_wr_page _ _ _ _ (by decide) (by decide) (Ne.symm hq)]

theorem raise {b : Nat} (h : KeepsTrunk E n s t) : KeepsTrunk E n s (t.raise p b) := .ite h h.setCause
theorem raiseIf {b : Nat} {c : Bool} (h : KeepsTrunk E n s t) : KeepsTrunk E n s (t.raiseIf c p b) := .ite h.raise h

end

/-! ### Pages that are neither the trunk's nor that of the power domains -/

section
variable {p i x b k c : Nat} {f : Fld}

theorem pagePort_ne_pagePwr : pagePort p ≠ pagePwr := by simp only [pagePort, pagePwr]; omega
theorem pageNT_ne_pagePwr : pageNT p ≠ pagePwr := by simp only [pageNT, pagePwr]; omega

/-- A write of a port's page. -/
theorem wrPort (h : KeepsTrunk E n s t) (hf : f.inPage 0 = true) (hoff : f.offTrunk = true) : KeepsTrunk E n s (t.wr (pagePort p) f x) :=
  h.wr hf hoff pagePort_ne_pagePwr

theorem incPort (h : KeepsTrunk E n s t) (hf : f.inPage 0 = true) (hoff : f.offTrunk = true) : KeepsTrunk E n s (t.inc (pagePort p) f) :=
  h.wrPort hf hoff

/-- A write of a trunk's page. -/
theorem wrNT (h : KeepsTrunk E n s t) (hf : f.inPage 0 = true) (hoff : f.offTrunk = true) : KeepsTrunk E n s (t.wr (pageNT p) f x) :=
  h.wr hf hoff pageNT_ne_pagePwr

theorem finish {k : Cmd} {st d r0 r1 : Nat} (h : KeepsTrunk E n s t) : KeepsTrunk E n s (t.finish k st d r0 r1) := by
  have honly := t.finish_only k st d r0 r1
  have hnt {x : Nat} : ¬ cplReachAny (pageNT n) x := by
    rintro ⟨c, hc, hq, -⟩
    simp only [pageNT, pageHC] at hq
    omega
  have hpwr {x : Nat} : ¬ cplReachAny pagePwr x := by
    rintro ⟨c, hc, hq, -⟩
    simp only [pagePwr, pageHC] at hq
    omega
  refine h.trans ⟨fun f hf _ => honly.rd (trunkShown_inPage f hf).1 hnt, fun b hb => ?_, fun d => State.pwr_of_rd (honly.rd rfl hpwr) d⟩
  unfold State.cause at hb ⊢
  rwa [honly.rd rfl hnt]

theorem finishOp {op arg0 st r0 r1 : Nat} (h : KeepsTrunk E n s t) : KeepsTrunk E n s (t.finishOp op arg0 st r0 r1) := by
  unfold State.finishOp
  split
  · exact h.finish
  · exact h

/-! ### The selection of the reference (R99, R208) -/

theorem tcuOwn_ne {q : Nat} (hk : k < 2) (h : tcuOwn k q) : q ≠ pageNT n ∧ q ≠ pagePwr := by
  obtain ⟨r, hlo, hhi, rfl⟩ := h
  simp only [tpage, pageNT, pagePwr]
  omega

theorem selClosed {K : Nat → Prop} (s : State) (hk : k < 2) : State.SelClosed k K (KeepsTrunk E n s) where
  wrI _ hf hr h := h.wrPage hf (tcuOwn_ne (n := n) hk hr.1).1 (tcuOwn_ne (n := n) hk hr.1).2
  raise _ _ h := h.raise
  onTcu _ _ _ h := h.upd rfl
  finish _ _ _ _ _ h := h.finish
  mirrorSel h := State.mirrorSel_inv (fun _ hf hp h => h.wrPage hf (tcuOwn_ne (n := n) (by omega) hp).1 (tcuOwn_ne (n := n) (by omega) hp).2)
    (fun _ _ _ h => h.upd rfl) h

theorem disqualify (h : KeepsTrunk E n s t) (hk : k < 2) (hi : i < 16) : KeepsTrunk E n s (t.disqualify k i x) :=
  (selClosed (K := fun _ => True) s hk).disqualify hi trivial h

theorem trunkCands {m : Nat} (h : KeepsTrunk E n s t) : KeepsTrunk E n s (t.trunkCands m x) :=
  h.both fun _ _ hk h => .ite (h.each fun _ _ hi h => .ite (disqualify (h.upd rfl) hk hi) h) h

theorem synceCands (h : KeepsTrunk E n s t) : KeepsTrunk E n s t.synceCands :=
  h.both fun _ _ hk h => .ite h (h.each fun _ _ hi h => .ite (disqualify (h.upd rfl) hk hi) h)

/-! ### The queues of the ports (R244, R298 to R301, R305) -/

variable {v o : Nat}

theorem onVoq {g : Voq → Voq} (h : KeepsTrunk E n s t) : KeepsTrunk E n s (t.onVoq v g) := h.upd rfl
theorem onTx {g : Tx → Tx} (h : KeepsTrunk E n s t) : KeepsTrunk E n s (t.onTx p g) := h.upd rfl
theorem onMac {g : Mac → Mac} (h : KeepsTrunk E n s t) : KeepsTrunk E n s (t.onMac p g) := h.upd rfl
theorem onLane {g : Lane → Lane} (h : KeepsTrunk E n s t) : KeepsTrunk E n s (t.onLane p g) := h.upd rfl
theorem onTrunk {m : Nat} {g : Trunk → Trunk} (h : KeepsTrunk E n s t) : KeepsTrunk E n s (t.onTrunk m g) := h.upd rfl
theorem onNt {w m : Nat} {g : NtTime → NtTime} (h : KeepsTrunk E n s t) : KeepsTrunk E n s (t.onNt w m g) := h.upd rfl
theorem emit {y : Out} (h : KeepsTrunk E n s t) : KeepsTrunk E n s (t.emit y) := h.upd rfl
theorem quietNow (h : KeepsTrunk E n s t) : KeepsTrunk E n s (t.quietNow p) := h.upd rfl
theorem event {e m : Nat} (h : KeepsTrunk E n s t) : KeepsTrunk E n s (t.event e x m) := .ite h (h.upd rfl)
theorem sticky (h : KeepsTrunk E n s t) : KeepsTrunk E n s (t.sticky p x) := .ite h (h.wrPort (by decide) (by decide)).raise

theorem showPress (h : KeepsTrunk E n s t) : KeepsTrunk E n s (t.showPress p) :=
  have hshown : KeepsTrunk E n s (t.wr (pagePort p) R.PORT.MAC_PAUSE_STAT_XOFF (b2n (bitAt t.pressOwn p || bitAt t.pressShared p))) :=
    h.wrPort (by decide) (by decide)
  .ite h (.ite hshown (hshown.upd rfl))

theorem pressOf (h : KeepsTrunk E n s t) : KeepsTrunk E n s (t.pressOf p) := .showPress (h.upd rfl)
theorem refreshPress (h : KeepsTrunk E n s t) : KeepsTrunk E n s (t.refreshPress o) := .ite (h.each fun _ _ _ h => h.pressOf) (.ite h.pressOf h)

theorem pageVat_off : pageVat ≠ pageNT n ∧ pageVat ≠ pagePwr := by simp only [pageVat, pageNT, pagePwr]; omega
theorem pageGate_off : pageGate ≠ pageNT n ∧ pageGate ≠ pagePwr := by simp only [pageGate, pageNT, pagePwr]; omega

theorem setCharge (h : KeepsTrunk E n s t) : KeepsTrunk E n s (t.setCharge o x) := by
  unfold State.setCharge
  split
  · exact h.wrPage (Fld.inPage_of_le (n := 47) (by omega) (by decide)) (pageVat_off (n := n)).1 (pageVat_off (n := n)).2
  · exact h.wrPage (by decide) (pageVat_off (n := n)).1 (pageVat_off (n := n)).2

theorem freeCell (h : KeepsTrunk E n s t) : KeepsTrunk E n s (t.freeCell x) := .ite h (.refreshPress (.setCharge (h.upd rfl)))
theorem onFrame {q : Nat} {g : Frame → Frame} (h : KeepsTrunk E n s t) : KeepsTrunk E n s (t.onFrame q g) := h.upd rfl
theorem fenceFrame {q : Nat} (h : KeepsTrunk E n s t) : KeepsTrunk E n s (t.fenceFrame q) := .ite h (h.upd rfl)

theorem freeCells (l : List Nat) (h : KeepsTrunk E n s t) : KeepsTrunk E n s (l.foldl (fun a c => a.freeCell c) t) :=
  h.foldl fun _ _ _ h => h.freeCell

theorem freeFrame {q : Nat} (h : KeepsTrunk E n s t) : KeepsTrunk E n s (t.freeFrame q) := by
  have hslot : KeepsTrunk E n s (t.slotOf q) := by
    unfold State.slotOf
    dsimp only
    split
    · exact h.event
    · exact h
  exact .fenceFrame (.upd (hslot.freeCells _) rfl)

theorem reap {q : Nat} (h : KeepsTrunk E n s t) : KeepsTrunk E n s (t.reap q) :=
  .ite h (.ite h.freeFrame (.ite (h.freeCells _).onFrame.fenceFrame h.fenceFrame))

theorem copyGone {q : Nat} (h : KeepsTrunk E n s t) : KeepsTrunk E n s (t.copyGone q) := .ite h h.onFrame.reap

theorem popVoq (h : KeepsTrunk E n s t) : KeepsTrunk E n s (t.popVoq v) := by
  unfold State.popVoq
  split
  · exact h
  · exact h.onVoq.copyGone.quietNow

theorem flushVoq (h : KeepsTrunk E n s t) (k : Nat) : KeepsTrunk E n s (t.flushVoq v k) := by
  induction k generalizing t with
  | zero => exact h
  | succ k ih =>
    unfold State.flushVoq
    split
    · exact h
    · have hport : leafPort (voqLeaf v) < 48 := leafPort_lt v
      refine ih (popVoq (.ite (h.event.incPort (by decide) (by decide)).sticky (.ite (raise ?_) h.event)))
      exact h.event.wrPage (Fld.inPage_of_le (n := 47) (by omega) (by decide)) (pageGate_off (n := n)).1 (pageGate_off (n := n)).2

theorem flushPort (h : KeepsTrunk E n s t) : KeepsTrunk E n s (t.flushPort p) := h.foldl fun _ _ _ h => h.flushVoq _
theorem accruePort (h : KeepsTrunk E n s t) : KeepsTrunk E n s (t.accruePort p) := h.foldl fun _ _ _ h => .ite (h.upd rfl) h
theorem touchPort (h : KeepsTrunk E n s t) : KeepsTrunk E n s (t.touchPort p) := h.flushPort.accruePort.foldl fun _ _ _ h => .ite (h.upd rfl) h
theorem touchAll (h : KeepsTrunk E n s t) : KeepsTrunk E n s t.touchAll := h.each fun _ _ _ h => .ite h h.touchPort

/-! ### The frames of a port that ends (R218, R250) -/

theorem countErrs (h : KeepsTrunk E n s t) (l : List Nat) : KeepsTrunk E n s (t.countErrs p l) :=
  h.each fun _ _ _ h => h.wrPort (by decide) (by decide)

theorem countBad {w : Verdict} (h : KeepsTrunk E n s t) : KeepsTrunk E n s (t.countBad p w) := by
  cases w
  case good => exact h
  all_goals exact (h.incPort (by decide) (by decide)).sticky

/-- A frame that is cut short is not good. -/
theorem judge_cut (y : Frame) (e : Bool) : judge y e true ≠ .good := by
  unfold judge
  split
  · simp
  · split <;> simp

/-- A frame that is cut short reaches no engine. -/
theorem rxEnd {q : Nat} {l : List Nat} (h : KeepsTrunk E n s t) : KeepsTrunk E n s (t.rxEnd q l true) := by
  have hcut := judge_cut (t.frame q) (l.any fun e => e != 0)
  unfold State.rxEnd
  dsimp only
  rw [if_neg hcut, if_pos hcut]
  have hbad : KeepsTrunk E n s ((((t.countErrs (t.frame q).port l).inc (pagePort (t.frame q).port) R.PORT.STAT_RX_FRAMES).onMac (t.frame q).port
      fun m => { m with rxOct := satNat 48 (m.rxOct + (t.frame q).octets.length) }).countBad (t.frame q).port
        (judge (t.frame q) (l.any fun e => e != 0) true)) :=
    .countBad (.upd ((h.countErrs l).incPort (by decide) (by decide)) rfl)
  exact .ite h (.ite hbad.freeFrame hbad.onFrame.reap.touchAll)

theorem countTx {m : Nat} (h : KeepsTrunk E n s t) : KeepsTrunk E n s (t.countTx p m) := (h.incPort (by decide) (by decide)).upd rfl

theorem refund {y : Tx} {m : Nat} (h : KeepsTrunk E n s t) : KeepsTrunk E n s (t.refund p y m) :=
  .ite h (h.foldl fun _ _ _ h => h.upd rfl)

theorem copyLeaves {y : Tx} {e : Copy} (h : KeepsTrunk E n s t) : KeepsTrunk E n s (t.copyLeaves y v e) :=
  .copyGone (.ite (h.upd rfl) (h.upd rfl))

theorem txAbort (h : KeepsTrunk E n s t) : KeepsTrunk E n s (t.txAbort p) := by
  unfold State.txAbort
  dsimp only
  have hmac : KeepsTrunk E n s (t.onMac p fun m => { m with due := none, pick := none }) := h.onMac
  split
  · have hcount {y : Tx} {m : Nat} : KeepsTrunk E n s ((((t.onMac p fun m => { m with due := none, pick := none }).countTx p m).accruePort p).refund p y m) :=
      hmac.countTx.accruePort.refund
    exact (onTx (.ite hcount hcount.copyLeaves)).fenceFrame.quietNow
  · exact hmac
  · exact hmac.countTx.onTx.quietNow

/-! ### The lanes of a trunk (R168, R175, R177) -/

theorem loadFir (h : KeepsTrunk E n s t) : KeepsTrunk E n s (t.loadFir p) :=
  ((h.wrPort (by decide) (by decide)).wrPort (by decide) (by decide)).wrPort (by decide) (by decide)

theorem eyeLost (h : KeepsTrunk E n s t) : KeepsTrunk E n s (t.eyeLost p) :=
  .ite ((((h.wrPort (by decide) (by decide)).wrPort (by decide) (by decide)).wrPort (by decide) (by decide)).wrPort (by decide) (by decide)).raise h

theorem lockClear (h : KeepsTrunk E n s t) : KeepsTrunk E n s (t.lockClear p) :=
  (h.eyeLost.wrPort (by decide) (by decide)).wrPort (by decide) (by decide)

/-- The state of the trunk is excepted. -/
theorem setTstate {m : Nat} (h : KeepsTrunk E n s t) (hE : R.NT.TRUNK_STAT_STATE.place 0 ∈ E) : KeepsTrunk E n s (t.setTstate m x) :=
  h.wrAt hE (by decide) pageNT_ne_pagePwr

theorem trunkAttempt {m : Nat} (h : KeepsTrunk E n s t) (hE : R.NT.TRUNK_STAT_STATE.place 0 ∈ E) : KeepsTrunk E n s (t.trunkAttempt m) :=
  setTstate (h.lanes4 (fun _ _ h => h.onLane.loadFir.lockClear.emit) m) hE

/-- A trunk that leaves UP (R218, R219). -/
theorem trunkDown {m : Nat} (h : KeepsTrunk E n s t) : KeepsTrunk E n s (t.trunkDown m) :=
  have hkept : KeepsTrunk E n s ((t.raiseIf (t.ntTime t.lead m).valid (pageNT m) 8).both fun v a => a.onNt v m fun x =>
      { kept := if x.deltas = [] ∧ ¬ x.valid then x.kept else some (a.skewMean v m, a.rttMean v m), theta := none, d3 := x.d3 }) :=
    h.raiseIf.both fun _ _ _ h => h.onNt
  txAbort (foldl (trunkCands (wrNT hkept.onTrunk (by decide) (by decide))) fun _ _ _ h => h.rxEnd)

end
end
end State.KeepsTrunk

end Sys2Proof.Machine
end

section
/-! PROOF. O27: trunks follow their states and agree. -/

open Sys2Proof Sys2Proof.Machine
namespace Sys2Proof.Machine

/-! ### What the steps of a trunk show -/

section
variable {s u : State} {n c x : Nat}

/-- The place of a trunk's state, which most of its steps write. -/
def tstatePlace : List Nat := [R.NT.TRUNK_STAT_STATE.place 0]

theorem State.tstate_setTstate (s : State) (n : Nat) {x : Nat} (hx : x < 16) : (s.setTstate n x).tstate n = x :=
  (State.rd_wr_same _ _ _ _).trans (Nat.mod_eq_of_lt hx)

theorem State.KeepsTrunk.tstate (h : State.KeepsTrunk [] n s u) : u.tstate n = s.tstate n := h.regs _ (by decide) (by simp)

theorem State.tstate_settle (s : State) (n : Nat) : s.settle.tstate n = s.tstate n := State.rd_settle _ _ _

/-- What the first attempt's end answers leaves the trunk's page (R205). -/
theorem State.firstEnds_keeps {E : List Nat} (s : State) (m r : Nat) : State.KeepsTrunk E n s (s.firstEnds m r) := .finishOp (.refl _)

/-- A new attempt on one lane (R177, R201). -/
def State.attemptLane (a : State) (p : Nat) (asks : Bool) : State := (((a.unsquelch p).loadFir p).lockClear p).emit (.training p asks)

theorem State.trunkAttempt_eq (s : State) (n : Nat) :
    s.trunkAttempt n = (s.lanes4 n fun p a => a.attemptLane p (s.trunk n).medium).setTstate n tkTraining := rfl

/-- A new attempt of a lane opens it, and then leaves lanes and links. -/
theorem State.attemptLane_keeps (a : State) (p : Nat) (asks : Bool) : State.KeepsLinks (a.unsquelch p) (a.attemptLane p asks) :=
  have hfir : State.KeepsLinks (a.unsquelch p) ((a.unsquelch p).loadFir p) :=
    State.KeepsLinks.wr (.wr (.wr (.refl _) (by decide)) (by decide)) (by decide)
  .upd hfir.lockClear (fun _ => rfl) rfl rfl rfl

/-- What a step over the four lanes of a trunk brings about of each lane, and keeps of the others, holds of all in the end. -/
theorem State.lanes4_all {P : State → Nat → Prop} {f : Nat → State → State} (n : Nat) (hset : ∀ a p, P (f p a) p)
    (hkeep : ∀ a p q, p ≠ q → P a p → P (f q a) p) (s : State) : ∀ i < 4, P (s.lanes4 n f) (4 * n + i) := by
  suffices hall : ∀ k, ∀ i < k, P (s.each k fun i a => f (4 * n + i) a) (4 * n + i) from hall 4
  intro k
  induction k with
  | zero => intro i hi; omega
  | succ k ih =>
    intro i hi
    unfold State.each
    rw [List.range_succ, List.foldl_append]
    by_cases hik : i = k
    · subst hik
      exact hset _ _
    · exact hkeep _ _ _ (by omega) (ih i (by omega))

/-- An attempt sends on all four lanes and takes no time (R200, R201). -/
theorem State.trunkAttempt_lanes (s : State) (n : Nat) :
    (∀ i < 4, ((s.trunkAttempt n).lane (4 * n + i)).on = true) ∧ (s.trunkAttempt n).up = s.up := by
  have hstep (a : State) (p : Nat) := State.attemptLane_keeps a p (s.trunk n).medium
  have hon : ∀ i < 4, ((s.lanes4 n fun p a => a.attemptLane p (s.trunk n).medium).lane (4 * n + i)).on = true := by
    refine State.lanes4_all (P := fun a p => (a.lane p).on = true) n (fun a p => ?_) (fun a p q hpq h => ?_) s
    · rw [(hstep a p).lane, State.unsquelch, State.lane_onLane_same]
    · rw [(hstep a q).lane, State.unsquelch, State.lane_onLane_ne _ _ _ _ hpq]
      exact h
  have hup : (s.lanes4 n fun p a => a.attemptLane p (s.trunk n).medium).up = s.up :=
    State.each_inv (P := fun a => a.up = s.up) rfl fun a i _ h => (hstep a _).up.trans h
  rw [State.trunkAttempt_eq]
  generalize (s.lanes4 n fun p a => a.attemptLane p (s.trunk n).medium) = a at hon hup ⊢
  exact ⟨hon, hup⟩

theorem State.trunkAttempt_tstate (s : State) (n : Nat) : (s.trunkAttempt n).tstate n = tkTraining := State.tstate_setTstate _ _ (by decide)

/-- A failed attempt backs off with its cause, and leaves the other registers of the trunk (R201, R205). -/
theorem State.trunkFails_shows (hon : s.pageOn (pageNT n)) (hc : c < 30) :
    (s.trunkFails n c).tstate n = tkBackoff ∧ (s.trunkFails n c).cause (pageNT n) c = true ∧ State.KeepsTrunk tstatePlace n s (s.trunkFails n c) := by
  let x := satNat 8 (s.rd (pageNT n) R.NT.TRUNK_STAT_ATTEMPTS + 1)
  have hatt {E : List Nat} : State.KeepsTrunk E n s (s.wr (pageNT n) R.NT.TRUNK_STAT_ATTEMPTS x) := .wrNT (.refl _) (by decide) (by decide)
  have hrest {a : State} : State.KeepsTrunk tstatePlace n a (((a.onTrunk n fun x => { x with
      fails := x.fails + 1, till := a.up + backoffSec (x.fails + 1) * 1000000000 }).lanes4 n (fun p a => a.emit (.notReady p))).setTstate n tkBackoff) :=
    .setTstate (.lanes4 (.onTrunk (.refl _)) (fun _ _ h => h.emit) n) (by decide)
  have hend {a : State} : State.KeepsTrunk tstatePlace n a (a.firstEnds n 2) := State.firstEnds_keeps a n 2
  refine ⟨?_, ?_, (hatt.raise.trans hrest).trans hend⟩
  · exact (State.KeepsTrunk.tstate (State.firstEnds_keeps _ n 2)).trans (State.tstate_setTstate _ _ (by decide))
  · exact hend.causes _ (hrest.causes _ (State.cause_raise hc ((hatt (E := [])).pwr _ |>.trans hon)))

/-- An attempt that a counter of the trunk counts as failed. -/
theorem State.countFail_shows {f : Fld} (hf : f ∈ trunkShown) (hne : f.place 0 ≠ R.NT.TRUNK_STAT_STATE.place 0) (hon : s.pageOn (pageNT n)) (hc : c < 30) :
    ((s.inc (pageNT n) f).trunkFails n c).tstate n = tkBackoff ∧ ((s.inc (pageNT n) f).trunkFails n c).cause (pageNT n) c = true ∧
      ((s.inc (pageNT n) f).trunkFails n c).rd (pageNT n) f = satNat f.w (s.rd (pageNT n) f + 1) := by
  have hinc : State.KeepsTrunk [f.place 0] n s (s.inc (pageNT n) f) :=
    .wrAt (.refl _) (by simp) hf State.KeepsTrunk.pageNT_ne_pagePwr
  obtain ⟨hst, hcause, hkeep⟩ := State.trunkFails_shows (s := s.inc (pageNT n) f) ((hinc.pwr _).trans hon) hc
  exact ⟨hst, hcause, (hkeep.regs f hf (by simpa [tstatePlace] using hne)).trans (State.rd_inc _ _ _)⟩

end

/-! ### The states of a trunk (R200, R201) -/

section
variable {s : State} {n : Nat} (hn : n < 12)
include hn

theorem runs_trunkTrainingComplete (hs : s.tstate n = tkTraining) : Runs (.trunkTrainingComplete n) s (fun u => u.tstate n = tkAligning) := by
  have hx : exec (.trunkTrainingComplete n) s = execTrunkTrainingComplete n s := rfl
  unfold execTrunkTrainingComplete at hx
  rw [Nat.mod_eq_of_lt hn] at hx
  dsimp only at hx
  rw [if_neg (not_not_intro hs)] at hx
  exact runs_done hx ((State.tstate_settle _ _).trans (State.tstate_setTstate _ _ (by decide)))

theorem runs_trunkMaxWaitExpiry (hon : s.pageOn (pageNT n)) (hs : s.tstate n = tkTraining) :
    Runs (.trunkMaxWaitExpiry n) s (fun u => u.tstate n = tkBackoff ∧ u.cause (pageNT n) 3 = true ∧
      u.rd (pageNT n) R.NT.CNT_TRAIN_FAIL = satNat 32 (s.rd (pageNT n) R.NT.CNT_TRAIN_FAIL + 1)) := by
  have hx : exec (.trunkMaxWaitExpiry n) s = done ((s.inc (pageNT n) R.NT.CNT_TRAIN_FAIL).trunkFails n 3) := by
    show execTrunkMaxWaitExpiry n s = _
    unfold execTrunkMaxWaitExpiry
    rw [Nat.mod_eq_of_lt hn]
    exact congrArg done (if_neg (not_not_intro hs))
  refine runs_done hx ?_
  rw [State.tstate_settle, State.cause_settle, State.rd_settle]
  exact State.countFail_shows (by decide) (by decide) hon (by decide)

theorem runs_trunkAligningTimeout (hon : s.pageOn (pageNT n)) (hs : s.tstate n = tkAligning) :
    Runs (.trunkAligningTimeout n) s (fun u => u.tstate n = tkBackoff ∧ u.cause (pageNT n) 3 = true) := by
  have hx : exec (.trunkAligningTimeout n) s = done ((s.inc (pageNT n) R.NT.CNT_TRAIN_FAIL).trunkFails n 3) := by
    show execTrunkAligningTimeout n s = _
    unfold execTrunkAligningTimeout
    rw [Nat.mod_eq_of_lt hn]
    exact congrArg done (if_neg (not_not_intro hs))
  obtain ⟨hst, hcause, -⟩ := State.countFail_shows (f := R.NT.CNT_TRAIN_FAIL) (c := 3) (by decide) (by decide) hon (by decide)
  exact runs_done hx ⟨(State.tstate_settle _ _).trans hst, (State.cause_settle _ _ _).trans hcause⟩

theorem runs_helloTimeout (hon : s.pageOn (pageNT n)) (hs : s.tstate n = tkHello) :
    Runs (.helloTimeout n) s (fun u => u.tstate n = tkBackoff ∧ u.cause (pageNT n) 4 = true ∧
      u.rd (pageNT n) R.NT.CNT_HELLO_FAIL = satNat 32 (s.rd (pageNT n) R.NT.CNT_HELLO_FAIL + 1)) := by
  have hx : exec (.helloTimeout n) s = done ((s.inc (pageNT n) R.NT.CNT_HELLO_FAIL).trunkFails n 4) := by
    show execHelloTimeout n s = _
    unfold execHelloTimeout
    rw [Nat.mod_eq_of_lt hn]
    exact congrArg done (if_neg (not_not_intro hs))
  refine runs_done hx ?_
  rw [State.tstate_settle, State.cause_settle, State.rd_settle]
  exact State.countFail_shows (by decide) (by decide) hon (by decide)

theorem runs_trunkBackoffExpiry (hs : s.tstate n = tkBackoff) :
    Runs (.trunkBackoffExpiry n) s (fun u => u.tstate n = tkTraining ∧ u.up = s.up + ((s.trunk n).till - s.up)) := by
  have hx : exec (.trunkBackoffExpiry n) s = done ((s.advance ((s.trunk n).till - s.up)).trunkAttempt n) := by
    show execTrunkBackoffExpiry n s = _
    unfold execTrunkBackoffExpiry
    rw [Nat.mod_eq_of_lt hn]
    exact congrArg done (if_pos hs)
  refine runs_done hx ⟨(State.tstate_settle _ _).trans (State.trunkAttempt_tstate _ _), ?_⟩
  rw [State.settle_up, (State.trunkAttempt_lanes _ n).2]
  exact (State.KeepsLinks.advance s _).up

theorem runs_trunkFrameLock (hs : s.tstate n = tkBackoff) : Runs (.trunkFrameLock n) s (fun u => u.tstate n = tkTraining) := by
  have hx : exec (.trunkFrameLock n) s = done (s.trunkAttempt n) := by
    show execTrunkFrameLock n s = _
    unfold execTrunkFrameLock
    rw [Nat.mod_eq_of_lt hn]
    exact congrArg done (if_pos hs)
  exact runs_done hx ((State.tstate_settle _ _).trans (State.trunkAttempt_tstate _ _))

theorem runs_trunkQuietExpiry (hs : s.tstate n = tkQuiet) : Runs (.trunkQuietExpiry n) s (fun u => u.tstate n = tkWaitSig) := by
  have hx : exec (.trunkQuietExpiry n) s = done ((s.lanes4 n fun p a => (a.unsquelch p).emit (.notReady p)).setTstate n tkWaitSig) := by
    show execTrunkQuietExpiry n s = _
    unfold execTrunkQuietExpiry
    rw [Nat.mod_eq_of_lt hn]
    exact congrArg done (if_pos hs)
  exact runs_done hx ((State.tstate_settle _ _).trans (State.tstate_setTstate _ _ (by decide)))

theorem runs_trunkSignalStable (hs : s.tstate n = tkWaitSig) (hsig : ∀ i, i < 4 → s.signal (4 * n + i) = true) :
    Runs (.trunkSignalStable n) s (fun u => u.tstate n = tkTraining) := by
  have hall : (List.range 4).all (fun i => s.signal (4 * n + i)) = true := List.all_eq_true.2 fun i hi => hsig i (List.mem_range.1 hi)
  have hx : exec (.trunkSignalStable n) s = done (s.trunkAttempt n) := by
    show execTrunkSignalStable n s = _
    unfold execTrunkSignalStable
    rw [Nat.mod_eq_of_lt hn]
    exact congrArg done (if_pos ⟨hs, hall⟩)
  exact runs_done hx ((State.tstate_settle _ _).trans (State.trunkAttempt_tstate _ _))

theorem runs_trunkAligned {skew : Nat} (hk : skew ≤ 16) (hs : s.tstate n = tkAligning)
    (hl : ∀ i, i < 4 → s.flag (pagePort (4 * n + i)) R.PORT.PORT_STAT_BLOCK_LOCK = true ∧ s.flag (pagePort (4 * n + i)) R.PORT.PORT_STAT_HI_BER = false) :
    Runs (.trunkAligned n skew) s (fun u => u.tstate n = tkHello ∧ u.rd (pageNT n) R.NT.TRUNK_EB_SKEW = skew) := by
  have hlock : (List.range 4).all (fun i => s.flag (pagePort (4 * n + i)) R.PORT.PORT_STAT_BLOCK_LOCK &&
      !s.flag (pagePort (4 * n + i)) R.PORT.PORT_STAT_HI_BER) = true := by
    refine List.all_eq_true.2 fun i hi => ?_
    obtain ⟨hlock, hber⟩ := hl i (List.mem_range.1 hi)
    rw [hlock, hber]
    rfl
  have hx : exec (.trunkAligned n skew) s = done ((s.wr (pageNT n) R.NT.TRUNK_EB_SKEW skew).startHello n) := by
    show execTrunkAligned n skew s = _
    unfold execTrunkAligned
    rw [Nat.mod_eq_of_lt hn]
    exact congrArg done (if_neg (by rintro (h | h | h); exacts [h hs, absurd h (by omega), h hlock]))
  refine runs_done hx ⟨(State.tstate_settle _ _).trans (State.tstate_setTstate _ _ (by decide)), ?_⟩
  rw [State.rd_settle, State.startHello, State.setTstate, State.rd_wr_place _ _ _ _ _ _ (by decide)]
  exact (State.rd_wr_same _ _ _ _).trans (Nat.mod_eq_of_lt (Nat.lt_of_le_of_lt hk (by decide)))

end

/-! ### TRUNK_ENABLE (R190, R200, R205) -/

theorem State.startCmd_trunkEnable {k : Cmd} (hk : k.op = 0x22) (s : State) : State.startCmd k s = State.startTrunkEnable k s := by
  unfold State.startCmd
  rw [hk]
  rfl

namespace State.carries
section
variable {s : State} {k : Cmd} {p n : Nat} {d : Int}

theorem showDev (h : s.carries k) : (s.showDev p d).carries k := by
  unfold State.showDev
  dsimp only
  exact .ite (State.carries.wr (.ite (State.carries.wr h.wr) h.wr)) (.ite (State.carries.wr h.wr) h.wr)

theorem attemptLane {asks : Bool} (h : s.carries k) : (s.attemptLane p asks).carries k := by
  have hfir : ((s.unsquelch p).loadFir p).carries k := State.carries.wr (.wr (.wr (h.congr rfl)))
  have heye : (((s.unsquelch p).loadFir p).eyeLost p).carries k := .ite (State.carries.raise (.wr (.wr (.wr (.wr hfir))))) hfir
  have hlock : (((s.unsquelch p).loadFir p).lockClear p).carries k := .wr (.wr heye)
  exact hlock.congr rfl

theorem onTrunk {g : Trunk → Trunk} (h : s.carries k) : (s.onTrunk n g).carries k := h.congr rfl

theorem trunkAttempt (h : s.carries k) : (s.trunkAttempt n).carries k := by
  rw [State.trunkAttempt_eq]
  exact .wr (h.each fun _ _ h => h.attemptLane)

/-- Commands go on while a trunk is enabled. -/
theorem enableTrunk (h : s.carries k) : (s.enableTrunk n).carries k := by
  have hopen : (s.lanes4 n fun p a => (a.openLane p).showDev p 0).carries k := h.each fun _ _ h => .showDev (h.congr rfl)
  unfold State.enableTrunk
  dsimp only
  generalize (s.lanes4 n fun p a => (a.openLane p).showDev p 0) = a at hopen ⊢
  exact .trunkAttempt (.wr (.wr (.wr (.wr (.wr hopen.onTrunk)))))

end
end State.carries

section
variable {s : State} {q : Request} {n : Nat}

/-- To be enabled ends with an attempt. -/
theorem State.enableTrunk_attempts (s : State) (n : Nat) : ∃ a : State, s.enableTrunk n = a.trunkAttempt n := ⟨_, rfl⟩

theorem runs_trunkEnable (h : s.accepts 0x22 q) (hn : (s.cmdOf 0x22 q).arg 0 = n) (hheld : s.tokenHeld = true) (hgrp : s.isOn (8 + n / 2) = true)
    (hlink : ∀ i, i < 4 → s.link (4 * n + i) = lkDisabled) (hd : s.tstate n = tkDisabled) (htpl : s.tplOnTrunk n = none) :
    Runs (.trunkEnable q) s (fun u => u.tstate n = tkTraining ∧ u.inFlight (s.cmdOf 0x22 q) ∧ ∀ i, i < 4 → (u.lane (4 * n + i)).on = true) := by
  have hop : (s.cmdOf 0x22 q).op = 0x22 := rfl
  have hst : (s.cmdOf 0x22 q).started = true := rfl
  have htake := State.takeRequest_of_accepts h
  generalize s.cmdOf 0x22 q = k at *
  subst hn
  have hany : (List.range 4).any (fun i => s.link (4 * k.arg 0 + i) != lkDisabled) = false :=
    List.any_eq_false.2 fun i hi => by simpa using hlink i (List.mem_range.1 hi)
  have hfree : ¬ (¬ ((s.fly k).fly k).tokenHeld ∨ ¬ ((s.fly k).fly k).isOn (8 + k.arg 0 / 2) ∨
      (List.range 4).any (fun i => ((s.fly k).fly k).link (4 * k.arg 0 + i) != lkDisabled) ∨
      ((s.fly k).fly k).tstate (k.arg 0) ≠ tkDisabled ∨ (((s.fly k).fly k).tplOnTrunk (k.arg 0)).isSome) := by
    rw [State.fly_eq, State.fly_eq]
    rintro (h | h | h | h | h)
    · exact h hheld
    · exact h hgrp
    · exact absurd (hany.symm.trans h) (by decide)
    · exact h hd
    · exact absurd ((congrArg Option.isSome htpl).symm.trans h) (by decide)
  have hx : exec (.trunkEnable q) s = done (((s.fly k).fly k).enableTrunk (k.arg 0)) := by
    show done (s.takeRequest 0x22 q) = _
    rw [htake, State.startCmd_trunkEnable hop]
    unfold State.startTrunkEnable
    dsimp only
    rw [if_neg hfree]
  obtain ⟨a, ha⟩ := State.enableTrunk_attempts ((s.fly k).fly k) (k.arg 0)
  refine runs_done hx ⟨?_, ?_, fun i hi => ?_⟩
  · rw [State.tstate_settle, ha]
    exact State.trunkAttempt_tstate _ _
  · unfold State.inFlight
    rw [State.settle_cmds]
    exact (State.carries_fly (s.fly k) hst).enableTrunk.1
  · have hon := (State.trunkAttempt_lanes a (k.arg 0)).1 i hi
    rw [← ha] at hon
    rw [State.lane, State.settle_lanes]
    exact hon

theorem runs_trunkEnable_template {k : Nat} (h : s.accepts 0x22 q) (hn : (s.cmdOf 0x22 q).arg 0 = n) (htpl : s.tplOnTrunk n = some k) :
    Runs (.trunkEnable q) s (fun u => u.statusOf (s.cmdOf 0x22 q) = stWrongState ∧ u.tstate n = s.tstate n) := by
  have hop : (s.cmdOf 0x22 q).op = 0x22 := rfl
  have hk : (s.cmdOf 0x22 q).ctx < 4 := s.cmdOf_ctx_lt _ _
  have htake := State.takeRequest_of_accepts h
  generalize s.cmdOf 0x22 q = c at *
  subst hn
  have hin : ((s.fly c).fly c).tplOnTrunk (c.arg 0) = some k := by
    rw [State.fly_eq, State.fly_eq]
    exact htpl
  have hx : exec (.trunkEnable q) s = done (((s.fly c).fly c).finish c stWrongState 0 k 0) := by
    show done (s.takeRequest 0x22 q) = _
    rw [htake, State.startCmd_trunkEnable hop]
    unfold State.startTrunkEnable
    dsimp only
    rw [hin]
    exact congrArg done (if_pos (.inr (.inr (.inr (.inr rfl)))))
  refine runs_done hx ⟨?_, ?_⟩
  · rw [State.statusOf_settle]
    exact congrArg Slot.status (State.slot_fly_finish (s := s.fly c) hk _ _ _ _)
  · have hend : State.KeepsTrunk [] (c.arg 0) ((s.fly c).fly c) (((s.fly c).fly c).finish c stWrongState 0 k 0) := .finish (.refl _)
    rw [State.tstate_settle, hend.tstate, State.fly_eq, State.fly_eq]
    rfl

end

/-! ### Agreement by Hello (R203) -/

section
variable {s : State} {n : Nat}

/-- A trunk comes up once its agreement is noted (R203, R205). -/
def State.comeUp (s : State) (n : Nat) : State :=
  ((((s.flushPort (4 * n)).raise (pageNT n) 0).setTstate n tkUp).firstEnds n 0).touchPort (4 * n)

theorem State.comeUp_shows (hon : s.pageOn (pageNT n)) :
    (s.comeUp n).tstate n = tkUp ∧ (s.comeUp n).cause (pageNT n) 0 = true ∧ State.KeepsTrunk tstatePlace n s (s.comeUp n) := by
  have hflush {E : List Nat} : State.KeepsTrunk E n s (s.flushPort (4 * n)) := .flushPort (.refl _)
  have hend {E : List Nat} {a : State} : State.KeepsTrunk E n a ((a.firstEnds n 0).touchPort (4 * n)) := .touchPort (State.firstEnds_keeps _ _ _)
  have hset {a : State} : State.KeepsTrunk tstatePlace n a (a.setTstate n tkUp) := .setTstate (.refl _) (by decide)
  refine ⟨?_, ?_, (hflush.raise.trans hset).trans hend⟩
  · exact hend.tstate.trans (State.tstate_setTstate _ _ (by decide))
  · exact (hset.trans hend).causes _ (State.cause_raise (by decide) ((hflush (E := [])).pwr _ |>.trans hon))

/-- What is noted of the partner, before the generation. -/
def State.notePeer (s : State) (n : Nat) (h : Hello) : State :=
  (((s.wr (pageNT n) R.NT.TRUNK_PEER_NODE_ID h.node).wr (pageNT n) R.NT.TRUNK_PEER_TRUNK h.trunk).wr (pageNT n) R.NT.TRUNK_PEER_GEN_MAX h.genMax).wr
    (pageNT n) R.NT.TRUNK_PEER_FEAT h.feat

/-- Agreement notes the partner and the generation, then what the trunk's page shows elsewhere, and the trunk comes up. -/
theorem State.agreeHello_eq (s : State) (n : Nat) (h : Hello) :
    ∃ c, State.KeepsTrunk [] n ((s.notePeer n h).wr (pageNT n) R.NT.TRUNK_STAT_GEN (s.trunk n).sel) c ∧ s.agreeHello n h = c.comeUp n := by
  refine ⟨_, .onTrunk (.both ?_ fun _ _ _ h => h.onNt), rfl⟩
  have hgen : State.KeepsTrunk [] n ((s.notePeer n h).wr (pageNT n) R.NT.TRUNK_STAT_GEN (s.trunk n).sel)
      (((((s.notePeer n h).wr (pageNT n) R.NT.TRUNK_STAT_GEN (s.trunk n).sel).wr (pageNT n) R.NT.TRUNK_STAT_ASYM (bits (s.trunk n).feat 0 1)).wr
        (pageNT n) R.NT.TRUNK_STAT_CMCAST (bits (s.trunk n).feat 1 1)).raiseIf (decide ((s.trunk n).sel < (s.trunk n).genMax)) (pageNT n) 6) :=
    .raiseIf (.wrNT (.wrNT (.refl _) (by decide) (by decide)) (by decide) (by decide))
  split
  · exact .ite (.wrNT hgen (by decide) (by decide)) hgen
  · exact hgen

theorem State.agreeHello_shows {h : Hello} (hon : s.pageOn (pageNT n)) (hnode : h.node < 2 ^ 16) (hsel : (s.trunk n).sel < 4) :
    (s.agreeHello n h).tstate n = tkUp ∧ (s.agreeHello n h).cause (pageNT n) 0 = true ∧
      (s.agreeHello n h).rd (pageNT n) R.NT.TRUNK_PEER_NODE_ID = h.node ∧ (s.agreeHello n h).rd (pageNT n) R.NT.TRUNK_STAT_GEN = (s.trunk n).sel := by
  obtain ⟨c, hc, heq⟩ := State.agreeHello_eq s n h
  have hoff := State.KeepsTrunk.pageNT_ne_pagePwr (p := n)
  have hid : State.KeepsTrunk [R.NT.TRUNK_PEER_NODE_ID.place 0] n s (s.wr (pageNT n) R.NT.TRUNK_PEER_NODE_ID h.node) :=
    .wrAt (.refl _) (by simp) (by decide) hoff
  have hpeer : State.KeepsTrunk [] n (s.wr (pageNT n) R.NT.TRUNK_PEER_NODE_ID h.node) (s.notePeer n h) :=
    .wrNT (.wrNT (.wrNT (.refl _) (by decide) (by decide)) (by decide) (by decide)) (by decide) (by decide)
  have hgen : State.KeepsTrunk [R.NT.TRUNK_STAT_GEN.place 0] n (s.notePeer n h)
      ((s.notePeer n h).wr (pageNT n) R.NT.TRUNK_STAT_GEN (s.trunk n).sel) := .wrAt (.refl _) (by simp) (by decide) hoff
  obtain ⟨hst, hcause, hup⟩ := State.comeUp_shows (s := c) (n := n) ((hc.pwr _).trans ((hgen.pwr _).trans ((hpeer.pwr _).trans ((hid.pwr _).trans hon))))
  rw [heq]
  refine ⟨hst, hcause, ?_, ?_⟩
  · calc (c.comeUp n).rd (pageNT n) R.NT.TRUNK_PEER_NODE_ID
      _ = (s.notePeer n h).rd (pageNT n) R.NT.TRUNK_PEER_NODE_ID :=
        (hup.regs _ (by decide) (by decide)).trans ((hc.regs _ (by decide) (by decide)).trans (hgen.regs _ (by decide) (by decide)))
      _ = h.node % 2 ^ 16 := (hpeer.regs _ (by decide) (by decide)).trans (State.rd_wr_same _ _ _ _)
      _ = h.node := Nat.mod_eq_of_lt hnode
  · calc (c.comeUp n).rd (pageNT n) R.NT.TRUNK_STAT_GEN
      _ = (s.trunk n).sel % 2 ^ 2 :=
        (hup.regs _ (by decide) (by decide)).trans ((hc.regs _ (by decide) (by decide)).trans (State.rd_wr_same _ _ _ _))
      _ = (s.trunk n).sel := Nat.mod_eq_of_lt hsel

theorem State.resolveGen_lt {h : Hello} {gen feat : Nat} (hr : s.resolveGen n h = some (gen, feat)) : gen < 4 := by
  unfold State.resolveGen at hr
  dsimp only at hr
  split at hr
  · cases hr
  · split at hr <;> (cases hr; decide)

/-- The counts of a trunk's lanes once one more Hello of a lane matches. -/
theorem Trunk.setRun_hit (x : Trunk) {lane : Nat} (hl : lane < 3) (h0 : 3 ≤ x.run0 + b2n (lane == 0)) (h1 : 3 ≤ x.run1 + b2n (lane == 1))
    (h2 : 3 ≤ x.run2 + b2n (lane == 2)) :
    3 ≤ (x.setRun lane (· + 1)).run0 ∧ 3 ≤ (x.setRun lane (· + 1)).run1 ∧ 3 ≤ (x.setRun lane (· + 1)).run2 := by
  match lane, hl with
  | 0, _ => exact ⟨h0, h1, h2⟩
  | 1, _ => exact ⟨h0, h1, h2⟩
  | 2, _ => exact ⟨h0, h1, h2⟩

theorem Trunk.setRun_sel (x : Trunk) (lane : Nat) (f : Nat → Nat) : (x.setRun lane f).sel = x.sel := by
  unfold Trunk.setRun
  (repeat' split) <;> rfl

/-- The third matching Hello in a row on every data lane agrees (R203). -/
theorem State.helloRx_agrees {lane p gen feat : Nat} (hl : lane < 3) (hs : s.tstate n = tkHello)
    (hok : blockOk kHello p = true) (hlane : (helloOf p).lane = lane) (hr : s.resolveGen n (helloOf p) = some (gen, feat))
    (hack : (helloOf p).ack = true) (hgen : (helloOf p).genSel = gen) (hfeat : (helloOf p).feat = feat)
    (h0 : 3 ≤ (s.trunk n).run0 + b2n (lane == 0)) (h1 : 3 ≤ (s.trunk n).run1 + b2n (lane == 1)) (h2 : 3 ≤ (s.trunk n).run2 + b2n (lane == 2)) :
    ∃ a, State.KeepsTrunk [] n s a ∧ (a.trunk n).sel = gen ∧ s.helloRx n lane kHello p = a.agreeHello n (helloOf p) := by
  let b := s.onTrunk n fun x => { x with sel := gen, feat := feat, got := x.got ||| 2 ^ lane }
  let a := b.onTrunk n fun x => x.setRun lane (· + 1)
  have hb : b.trunk n = { s.trunk n with sel := gen, feat := feat, got := (s.trunk n).got ||| 2 ^ lane } := State.trunk_onTrunk_same _ _ _
  have ha : a.trunk n = (b.trunk n).setRun lane (· + 1) := State.trunk_onTrunk_same _ _ _
  have htone : s.tone n = true := by
    unfold State.tone
    rw [hs]
    rfl
  have hhit : ((helloOf p).ack && (helloOf p).genSel == gen && (helloOf p).feat == feat) = true := by simp [hack, hgen, hfeat]
  have hrun : 3 ≤ (a.trunk n).run0 ∧ 3 ≤ (a.trunk n).run1 ∧ 3 ≤ (a.trunk n).run2 := by
    rw [ha, hb]
    exact Trunk.setRun_hit _ hl h0 h1 h2
  refine ⟨a, .onTrunk (.onTrunk (.refl _)), ?_, ?_⟩
  · rw [ha, Trunk.setRun_sel, hb]
  · unfold State.helloRx
    rw [if_neg (by simp [htone]), if_neg (by simp [hok]), if_neg (by simp)]
    dsimp only
    rw [if_neg (by rw [hs]; decide), if_neg (by simp [hs]), if_neg (not_not_intro hlane), hr]
    dsimp only
    rw [hhit]
    exact if_pos hrun

theorem runs_helloRx {lane p gen feat : Nat} (hn : n < 12) (hl : lane < 3) (hon : s.pageOn (pageNT n)) (hs : s.tstate n = tkHello)
    (hok : blockOk kHello p = true) (hlane : (helloOf p).lane = lane) (hr : s.resolveGen n (helloOf p) = some (gen, feat))
    (hack : (helloOf p).ack = true) (hgen : (helloOf p).genSel = gen) (hfeat : (helloOf p).feat = feat)
    (h0 : 3 ≤ (s.trunk n).run0 + b2n (lane == 0)) (h1 : 3 ≤ (s.trunk n).run1 + b2n (lane == 1)) (h2 : 3 ≤ (s.trunk n).run2 + b2n (lane == 2)) :
    Runs (.helloRx n lane kHello p) s (fun u => u.tstate n = tkUp ∧ u.cause (pageNT n) 0 = true ∧
      u.rd (pageNT n) R.NT.TRUNK_PEER_NODE_ID = (helloOf p).node ∧ u.rd (pageNT n) R.NT.TRUNK_STAT_GEN = gen) := by
  obtain ⟨a, ha, hsel, heq⟩ := State.helloRx_agrees hl hs hok hlane hr hack hgen hfeat h0 h1 h2
  have hx : exec (.helloRx n lane kHello p) s = done (a.agreeHello n (helloOf p)) := by
    show execHelloRx n lane kHello p s = _
    unfold execHelloRx
    rw [Nat.mod_eq_of_lt hn, Nat.mod_eq_of_lt hl, heq]
  obtain ⟨hst, hcause, hid, hg⟩ := State.agreeHello_shows (h := helloOf p) ((ha.pwr _).trans hon) (bits_lt _ _ _) (hsel ▸ State.resolveGen_lt hr)
  exact runs_done hx ⟨(State.tstate_settle _ _).trans hst, (State.cause_settle _ _ _).trans hcause, (State.rd_settle _ _ _).trans hid,
    (State.rd_settle _ _ _).trans (hg.trans hsel)⟩

end

/-! ### Pages of Clause 73 (R204) -/

namespace State.KeepsTrunk
section
variable {E : List Nat} {n p x : Nat} {s t : State}

theorem setMode (h : KeepsTrunk E n s t) : KeepsTrunk E n s (t.setMode p x) :=
  (((h.wrPort (by decide) (by decide)).wrPort (by decide) (by decide)).wrPort (by decide) (by decide)).raiseIf

/-- A port that leaves DISABLED to negotiate its mode. -/
theorem enablePort_an (h : KeepsTrunk E n s t) : KeepsTrunk E n s (t.enablePort p 0 false) := by
  unfold State.enablePort
  dsimp only
  rw [if_pos rfl]
  have hopen : KeepsTrunk E n s (((t.openLane p).onLane p fun l => { l with an := true, fails := 0, c37 := false }).restoreAdv p) :=
    .wrPort (.onLane (.onLane (.onLane h))) (by decide) (by decide)
  have hwrites {a : State} {y z w : Nat} (h : KeepsTrunk E n s a) : KeepsTrunk E n s ((((((a.wr (pagePort p) R.PORT.AN_RES_NO_COMMON y).wr
      (pagePort p) R.PORT.AN_RES_BYPASS z).wr (pagePort p) R.PORT.PORT_STAT_ATTEMPTS w).wr (pagePort p) R.PORT.PORT_STAT_TEST (b2n false)).setMode p 0).lockClear p) :=
    lockClear (setMode ((((h.wrPort (by decide) (by decide)).wrPort (by decide) (by decide)).wrPort (by decide) (by decide)).wrPort (by decide) (by decide)))
  exact .wrPort (.emit (.onLane (hwrites hopen))) (by decide) (by decide)

end
end State.KeepsTrunk

/-- The last thing written of a port that leaves DISABLED to negotiate its mode is its link. -/
theorem State.enablePort_an_eq (s : State) (p : Nat) : ∃ c : State, (∀ q, c.link q = s.link q) ∧ s.enablePort p 0 false = c.setLink p lkAn := by
  let b : State := ((s.openLane p).onLane p fun l => { l with an := true, fails := 0, c37 := false }).onLane p fun l => { l with withdrawn := none }
  let c : State := ((((((b.wr (pagePort p) R.PORT.AN_RES_FEC_REFUSED 0).wr (pagePort p) R.PORT.AN_RES_NO_COMMON 0).wr (pagePort p) R.PORT.AN_RES_BYPASS 0).wr
    (pagePort p) R.PORT.PORT_STAT_ATTEMPTS 0).wr (pagePort p) R.PORT.PORT_STAT_TEST (b2n false)).setMode p 0).lockClear p
  have hc : State.KeepsLinks b c :=
    .lockClear (.setMode (.wr (.wr (.wr (.wr (.wr (.refl _) (by decide)) (by decide)) (by decide)) (by decide)) (by decide)))
  have heq : s.enablePort p 0 false = (c.startAn p).setLink p lkAn := by
    unfold State.enablePort
    exact if_pos rfl
  have hb : b.regs = s.regs := by simp only [b, State.openLane, State.onLane_regs]
  have hstart : (c.startAn p).regs = c.regs := by simp only [State.startAn, State.emit_regs, State.onLane_regs]
  clear_value b c
  exact ⟨c.startAn p, fun q => (State.rd_congr hstart _ _).trans ((hc.link q).trans (State.rd_congr hb _ _)), heq⟩

theorem pagePort_inj {p q : Nat} (h : pagePort p = pagePort q) : p = q := by
  unfold pagePort at h
  omega

theorem State.link_setLink_ne (s : State) {p q : Nat} (x : Nat) (h : q ≠ p) : (s.setLink p x).link q = s.link q :=
  State.rd_wr_page _ _ _ _ (by decide) (by decide) fun e => h (pagePort_inj e).symm

/-- A lane that falls back, with its link in AN and no other link moved (R177, R204). -/
def State.fallBack (s : State) (p : Nat) : State := (s.squelch p).enablePort p 0 false

theorem State.link_fallBack (s : State) (p : Nat) : (s.fallBack p).link p = lkAn := by
  obtain ⟨c, -, heq⟩ := State.enablePort_an_eq (s.squelch p) p
  rw [State.fallBack, heq]
  exact State.rd_wr_same _ _ _ _

theorem State.link_fallBack_ne (s : State) {p q : Nat} (h : q ≠ p) : (s.fallBack p).link q = s.link q := by
  obtain ⟨c, hc, heq⟩ := State.enablePort_an_eq (s.squelch p) p
  rw [State.fallBack, heq, State.link_setLink_ne _ _ h]
  exact hc q

theorem State.KeepsLinks.finishOp {s u : State} {op arg0 st r0 r1 : Nat} (h : State.KeepsLinks s u) : State.KeepsLinks s (u.finishOp op arg0 st r0 r1) := by
  unfold State.finishOp
  split
  · exact h.finish
  · exact h

section
variable {s : State} {n : Nat} (hn : n < 12)
include hn

theorem runs_clause73PagesRx (hon : s.pageOn (pageNT n)) (hs : s.tstate n = tkTraining ∨ s.tstate n = tkBackoff ∨ s.tstate n = tkWaitSig) :
    Runs (.clause73PagesRx n) s (fun u =>
      if (s.trunk n).fallback = true then u.tstate n = tkFallback ∧ u.cause (pageNT n) 2 = true ∧ ∀ i, i < 4 → u.link (4 * n + i) = lkAn
      else u.tstate n = s.tstate n ∧ u.cause (pageNT n) 9 = true) := by
  by_cases hf : (s.trunk n).fallback = true
  case neg =>
    have hx : exec (.clause73PagesRx n) s = done ((s.inc (pageNT n) R.NT.CNT_C73_SEEN).raise (pageNT n) 9) := by
      show execClause73PagesRx n s = _
      unfold execClause73PagesRx
      rw [Nat.mod_eq_of_lt hn]
      dsimp only
      rw [if_neg (not_not_intro hs), if_pos hf]
    have hinc : State.KeepsTrunk [] n s (s.inc (pageNT n) R.NT.CNT_C73_SEEN) := .wrNT (.refl _) (by decide) (by decide)
    refine runs_done hx ?_
    rw [if_neg hf, State.tstate_settle, State.cause_settle]
    exact ⟨hinc.raise.tstate, State.cause_raise (by decide) ((hinc.pwr _).trans hon)⟩
  case pos =>
    let b : State := (s.setTstate n tkFallback).lanes4 n fun p a => a.fallBack p
    have hx : exec (.clause73PagesRx n) s = done ((((b.raise (pageNT n) 2).firstEnds n 1).finishOp 0x23 n stWrongState 0 0).showBusy (pageNT n)) := by
      show execClause73PagesRx n s = _
      unfold execClause73PagesRx
      rw [Nat.mod_eq_of_lt hn]
      dsimp only
      rw [if_neg (not_not_intro hs), if_neg (not_not_intro hf)]
      rfl
    have hset : State.KeepsTrunk tstatePlace n s (s.setTstate n tkFallback) := .setTstate (.refl _) (by decide)
    have hlanes {E : List Nat} : State.KeepsTrunk E n (s.setTstate n tkFallback) b := .lanes4 (.refl _) (fun _ _ h => .enablePort_an h.onLane) n
    have hend {E : List Nat} {a : State} : State.KeepsTrunk E n a (((a.firstEnds n 1).finishOp 0x23 n stWrongState 0 0).showBusy (pageNT n)) :=
      .wrNT (State.KeepsTrunk.finishOp (State.firstEnds_keeps _ _ _)) (by decide) (by decide)
    have hlink : State.KeepsLinks b ((((b.raise (pageNT n) 2).firstEnds n 1).finishOp 0x23 n stWrongState 0 0).showBusy (pageNT n)) :=
      .wr (.finishOp (.finishOp (.raise (.refl _)))) (by decide)
    refine runs_done hx ?_
    rw [if_pos hf, State.tstate_settle, State.cause_settle]
    refine ⟨?_, ?_, fun i hi => ?_⟩
    · exact (hlanes.raise.trans hend).tstate.trans (State.tstate_setTstate _ _ (by decide))
    · exact (hend (E := [])).causes _ (State.cause_raise (by decide) (((hlanes (E := [])).pwr _).trans ((hset.pwr _).trans hon)))
    · rw [State.link, State.rd_settle]
      exact (hlink.link _).trans (State.lanes4_all (P := fun a p => a.link p = lkAn) n (fun a p => a.link_fallBack p)
        (fun a p q hpq h => (a.link_fallBack_ne hpq).trans h) _ i hi)

/-! ### Markers that stay away (R201, R208) -/

omit hn in
/-- A trunk that leaves UP for want of markers or lock tries anew, or keeps quiet. -/
theorem State.trunkLost_shows (hon : s.pageOn (pageNT n)) (hs : s.tstate n = tkUp) :
    ((s.trunkLost n).tstate n = tkTraining ∨ (s.trunkLost n).tstate n = tkQuiet) ∧ (s.trunkLost n).cause (pageNT n) 1 = true ∧
      (s.trunkLost n).rd (pageNT n) R.NT.CNT_DOWN = satNat 32 (s.rd (pageNT n) R.NT.CNT_DOWN + 1) := by
  have hdown {E : List Nat} : State.KeepsTrunk E n s (s.trunkDown n) := .trunkDown (.refl _)
  have hcause : ((s.trunkDown n).raise (pageNT n) 1).cause (pageNT n) 1 = true := State.cause_raise (by decide) ((hdown (E := []).pwr _).trans hon)
  have hcnt : (((s.trunkDown n).raise (pageNT n) 1).inc (pageNT n) R.NT.CNT_DOWN).rd (pageNT n) R.NT.CNT_DOWN =
      satNat 32 (s.rd (pageNT n) R.NT.CNT_DOWN + 1) := by
    rw [State.rd_inc, (hdown (E := [])).raise.regs R.NT.CNT_DOWN (by decide) (by simp)]
    rfl
  have hinc {a : State} : State.KeepsTrunk [R.NT.CNT_DOWN.place 0] n a (a.inc (pageNT n) R.NT.CNT_DOWN) :=
    .wrAt (.refl _) (by simp) (by decide) State.KeepsTrunk.pageNT_ne_pagePwr
  have hend {a : State} {E : List Nat} : State.KeepsTrunk E n a (a.touchPort (4 * n)).synceCands := .synceCands (.touchPort (.refl _))
  unfold State.trunkLost
  dsimp only
  rw [if_neg (not_not_intro hs)]
  replace hcause := hinc.causes _ hcause
  generalize ((s.trunkDown n).raise (pageNT n) 1).inc (pageNT n) R.NT.CNT_DOWN = a at hcause hcnt ⊢
  split
  · have hnext : State.KeepsTrunk tstatePlace n a (a.trunkAttempt n) := .trunkAttempt (.refl _) (by decide)
    exact ⟨.inl (hend.tstate.trans (State.trunkAttempt_tstate _ _)), (hnext.trans hend).causes _ hcause,
      ((hnext.trans hend).regs _ (by decide) (by decide)).trans hcnt⟩
  · have hnext : State.KeepsTrunk tstatePlace n a ((a.lanes4 n fun p b => b.squelch p).setTstate n tkQuiet) :=
      .setTstate (.lanes4 (.refl _) (fun _ _ h => h.onLane) n) (by decide)
    exact ⟨.inr (hend.tstate.trans (State.tstate_setTstate _ _ (by decide))), (hnext.trans hend).causes _ hcause,
      ((hnext.trans hend).regs _ (by decide) (by decide)).trans hcnt⟩

theorem runs_markerLoss (hon : s.pageOn (pageNT n)) (hs : s.tstate n = tkUp) :
    Runs (.markerLoss n) s (fun u => (u.tstate n = tkTraining ∨ u.tstate n = tkQuiet) ∧ u.cause (pageNT n) 1 = true ∧
      u.rd (pageNT n) R.NT.CNT_DOWN = satNat 32 (s.rd (pageNT n) R.NT.CNT_DOWN + 1)) := by
  have hx : exec (.markerLoss n) s = done ((s.trunkCands n 1).trunkLost n) := by
    show execMarkerLoss n s = _
    unfold execMarkerLoss
    rw [Nat.mod_eq_of_lt hn]
    exact congrArg done (if_pos hs)
  have hlose : State.KeepsTrunk [] n s (s.trunkCands n 1) := .trunkCands (.refl _)
  obtain ⟨hst, hcause, hcnt⟩ := State.trunkLost_shows (s := s.trunkCands n 1) ((hlose.pwr _).trans hon) (hlose.tstate.trans hs)
  refine runs_done hx ?_
  rw [State.tstate_settle, State.cause_settle, State.rd_settle]
  exact ⟨hst, hcause, hcnt.trans (by rw [hlose.regs _ (by decide) (by simp)])⟩

end

/-! ### The elastic buffers (R217) -/

/-- A distance of `v` whole blocks, less a block towards centre, is `v` less one towards centre. -/
theorem tdiv_sub_sign {x b v : Int} (hb : 0 < b) (hx : x.tdiv b = v) (hv : v ≠ 0) : (x - v.sign * b).tdiv b = v - v.sign := by
  subst hx
  have hpos {y : Int} (hy : 0 ≤ y) (h0 : y.tdiv b ≠ 0) : (y - b).tdiv b = y.tdiv b - 1 ∧ (y.tdiv b).sign = 1 := by
    have hle : b ≤ y := by
      by_contra h
      exact h0 (Int.tdiv_eq_zero_of_lt hy (by omega))
    rw [Int.tdiv_eq_ediv_of_nonneg hy] at *
    rw [Int.tdiv_eq_ediv_of_nonneg (by omega), Int.sub_ediv_of_dvd y (dvd_refl b), Int.ediv_self (by omega)]
    exact ⟨rfl, Int.sign_eq_one_of_pos (lt_of_le_of_ne (Int.ediv_nonneg hy (by omega)) (Ne.symm h0))⟩
  rcases le_total 0 x with h | h
  · obtain ⟨heq, hs⟩ := hpos h hv
    rw [hs, one_mul, heq]
  · obtain ⟨heq, hs⟩ := hpos (y := -x) (by omega) (by rwa [Int.neg_tdiv, neg_ne_zero])
    rw [Int.neg_tdiv, Int.sign_neg] at hs
    rw [Int.neg_tdiv] at heq
    rw [neg_eq_iff_eq_neg.1 hs, show x - -1 * b = -(-x - b) by ring, Int.neg_tdiv, heq]
    ring

theorem satInt_lt (w : Nat) (i : Int) : satInt w i < 2 ^ w := by
  unfold satInt ofInt
  have hpos : (0 : Int) < 2 ^ w := by positivity
  have hlt := Int.emod_lt_of_pos (if i < -2 ^ (w - 1) then -2 ^ (w - 1) else if i ≥ 2 ^ (w - 1) then 2 ^ (w - 1) - 1 else i) hpos
  have hcast : ((2 ^ w : Nat) : Int) = 2 ^ w := by norm_cast
  omega

section
variable {s : State} {n : Nat} {v : Int}

/-- A buffer whose reference has moved a block towards centre. -/
theorem Trunk.fill_recentre {x : Trunk} (hv : x.fill 0 = v) (h0 : v ≠ 0) :
    Trunk.fill { x with ebRef := upd none x.ebRef 0 fun r => r.map fun r => r - v.sign * qBlock } 0 = v - v.sign := by
  unfold Trunk.fill at *
  dsimp only at *
  rw [look_upd_same]
  split at hv
  next r d hr hd =>
    rw [hr, hd]
    have hcomm : r - v.sign * qBlock - d = r - d - v.sign * qBlock := by omega
    exact (congrArg (Int.tdiv · qBlock) hcomm).trans (tdiv_sub_sign (by decide) hv h0)
  · exact absurd hv.symm h0

theorem runs_recentre (hn : n < 12) (hon : s.pageOn (pageNT n)) (ht : s.tone n = true) (hv : (s.trunk n).fill 0 = v) (h0 : v ≠ 0) :
    Runs (.recentre n 0) s (fun u => (u.trunk n).fill 0 = v - v.sign ∧ u.rd (pageNT n) R.NT.TRUNK_EB_EB0 = satInt 4 (v - v.sign) ∧
      u.cause (pageNT n) 7 = true ∧ u.rd (pageNT n) R.NT.CNT_RECENTRE = satNat 32 (s.rd (pageNT n) R.NT.CNT_RECENTRE + 1)) := by
  let a : State := s.onTrunk n fun x => { x with ebRef := upd none x.ebRef 0 fun r => r.map fun r => r - v.sign * qBlock }
  have hx : exec (.recentre n 0) s = done (((a.showFill n 0).inc (pageNT n) R.NT.CNT_RECENTRE).raise (pageNT n) 7) := by
    show execRecentre n 0 s = _
    unfold execRecentre
    rw [Nat.mod_eq_of_lt hn]
    dsimp only
    rw [Nat.zero_mod, hv, if_neg (by rintro (h | h); exacts [h ht, h0 h])]
  have hfill : (a.trunk n).fill 0 = v - v.sign := by
    rw [State.trunk_onTrunk_same]
    exact Trunk.fill_recentre hv h0
  have hkeep : State.KeepsTrunk [] n s ((a.showFill n 0).inc (pageNT n) R.NT.CNT_RECENTRE) :=
    .wrNT (.wrNT (.onTrunk (.refl _)) (by decide) (by decide)) (by decide) (by decide)
  refine runs_done hx ⟨?_, ?_, ?_, ?_⟩
  · have htrunks : (((a.showFill n 0).inc (pageNT n) R.NT.CNT_RECENTRE).raise (pageNT n) 7).trunks = a.trunks := State.raise_trunks _ _ _
    rw [State.trunk, State.settle_trunks, htrunks]
    exact hfill
  · rw [State.rd_settle, State.rd_raise _ _ _ _ _ (by decide)]
    calc ((a.showFill n 0).inc (pageNT n) R.NT.CNT_RECENTRE).rd (pageNT n) R.NT.TRUNK_EB_EB0
      _ = (a.showFill n 0).rd (pageNT n) R.NT.TRUNK_EB_EB0 := State.rd_wr_place _ _ _ _ _ _ (by decide)
      _ = satInt 4 ((a.trunk n).fill 0) % 2 ^ 4 := State.rd_wr_same _ _ _ _
      _ = satInt 4 (v - v.sign) := by rw [hfill, Nat.mod_eq_of_lt (satInt_lt _ _)]
  · rw [State.cause_settle]
    exact State.cause_raise (by decide) ((hkeep.pwr _).trans hon)
  · rw [State.rd_settle, State.rd_raise _ _ _ _ _ (by decide), State.rd_inc, State.showFill, State.rd_wr_place _ _ _ _ _ _ (by decide)]
    rfl

end

/-! ### Time blocks that stay away (R99, R208) -/

/-- What shows a slot's state and source. -/
def slotFields : List Fld := [R.REFSEL.CAND_STAT_STATE, R.REFSEL.CAND_STAT_REASON, R.REFSEL.CAND_CFG_SRC]

/-- From `s` to `u` it stands which TCU decides for itself. -/
structure State.KeepsLead (s u : State) : Prop where
  held : u.tokenHeld = s.tokenHeld
  active : u.active = s.active
  switch : u.switch = s.switch
  clk : ∀ v, (u.tcu v).clk = (s.tcu v).clk

namespace State.KeepsLead
section
variable {s a u : State} {p i x : Nat} {f : Fld}

theorem refl (s : State) : KeepsLead s s := ⟨rfl, rfl, rfl, fun _ => rfl⟩

theorem trans (h : KeepsLead s a) (g : KeepsLead a u) : KeepsLead s u :=
  ⟨g.held.trans h.held, g.active.trans h.active, g.switch.trans h.switch, fun v => (g.clk v).trans (h.clk v)⟩

theorem decides (h : KeepsLead s u) (v : Nat) : u.decides v = s.decides v := by
  have hlead : u.lead = s.lead := by
    unfold State.lead
    rw [h.switch, h.active]
    split
    · rw [h.clk]
    · rfl
  unfold State.decides
  rw [h.held, hlead]

/-- A change of registers alone that does not reach the arbiter's page. -/
theorem regs (h : KeepsLead s a) (hreg : ∀ f : Fld, f.inPage 0 = true → f.place 0 ≠ R.HDR.HDR_INT_CAUSE.place 0 → u.rd pageArb f = a.rd pageArb f)
    (hswitch : u.switch = a.switch) (htcus : u.tcus = a.tcus) : KeepsLead s u :=
  h.trans ⟨congrArg (· != 0) (hreg _ (by decide) (by decide)), hreg _ (by decide) (by decide), hswitch, fun v => by rw [State.tcu, htcus]; rfl⟩

theorem wrI (h : KeepsLead s a) (hf : f.inPage i = true) (hp : p ≠ pageArb) : KeepsLead s (a.wrI p f i x) :=
  h.regs (fun g hg _ => State.rdI_wrI_page a f g i 0 x hf hg hp) rfl rfl

theorem raise {b : Nat} (h : KeepsLead s a) : KeepsLead s (a.raise p b) :=
  h.regs (fun _ _ hg => State.rd_raise _ _ _ _ _ hg.symm) (State.raise_switch _ _ _) (State.raise_tcus _ _ _)

theorem onTcu {g : Tcu → Tcu} (h : KeepsLead s a) (hg : ∀ y, (g y).clk = y.clk) : KeepsLead s (a.onTcu p g) :=
  h.trans ⟨rfl, rfl, rfl, State.KeepsTcu.onTcu (g := (·.clk)) (.refl _) hg⟩

theorem finish {j : Cmd} {st d r0 r1 : Nat} (h : KeepsLead s a) : KeepsLead s (a.finish j st d r0 r1) := by
  have harb {y : Nat} : ¬ cplReachAny pageArb y := by
    rintro ⟨c, hc, hq, -⟩
    simp only [pageArb, pageHC] at hq
    omega
  refine h.regs (fun g hg _ => (a.finish_only j st d r0 r1).rd hg harb) ?_ ?_ <;> rw [State.finish_eq]

end
end State.KeepsLead

/-- From `s` to `u` slot `k` of TCU `t` stands, and so does which TCU decides. -/
structure State.KeepsSlot (t k : Nat) (s u : State) : Prop where
  slot : ∀ f ∈ slotFields, u.rdI (pageRefsel t) f k = s.rdI (pageRefsel t) f k
  lead : State.KeepsLead s u

namespace State.KeepsSlot
section
variable {s a u : State} {t k v p i x : Nat} {f : Fld}

theorem refl (s : State) : KeepsSlot t k s s := ⟨fun _ _ => rfl, .refl s⟩

theorem trans (h : KeepsSlot t k s a) (g : KeepsSlot t k a u) : KeepsSlot t k s u :=
  ⟨fun f hf => (g.slot f hf).trans (h.slot f hf), h.lead.trans g.lead⟩

theorem decides (h : KeepsSlot t k s u) (v : Nat) : u.decides v = s.decides v := h.lead.decides v

/-- A slot stands where what is written on its TCU's selector page stands elsewhere. -/
theorem wrI (h : KeepsSlot t k s a) (hk : k < 16) (hf : f.inPage i = true) (hp : p ≠ pageArb)
    (hoff : p = pageRefsel t → ∀ g ∈ slotFields, f.place i ≠ g.place k) : KeepsSlot t k s (a.wrI p f i x) := by
  have hin : ∀ g ∈ slotFields, g.inPage 15 = true := by decide
  refine ⟨fun g hg => ?_, h.lead.wrI hf hp⟩
  rw [← h.slot g hg]
  by_cases he : p = pageRefsel t
  · exact State.rdI_wrI_place _ _ _ _ _ _ _ _ (hoff he g hg)
  · exact State.rdI_wrI_page _ _ _ _ _ _ hf (Fld.inPage_of_le (by omega) (hin g hg)) he

theorem slotFields_off_cause (hk : k < 16) : ∀ g ∈ slotFields, R.HDR.HDR_INT_CAUSE.place 0 ≠ g.place k := by
  have hall : ∀ k < 16, ∀ g ∈ slotFields, R.HDR.HDR_INT_CAUSE.place 0 ≠ g.place k := by decide
  exact hall k hk

theorem raise {b : Nat} (h : KeepsSlot t k s a) (hk : k < 16) : KeepsSlot t k s (a.raise p b) :=
  ⟨fun g hg => (State.rdI_raise _ _ _ _ _ _ (slotFields_off_cause hk g hg)).trans (h.slot g hg), h.lead.raise⟩

theorem onTcu {g : Tcu → Tcu} (h : KeepsSlot t k s a) (hg : ∀ y, (g y).clk = y.clk) : KeepsSlot t k s (a.onTcu v g) :=
  ⟨fun f hf => h.slot f hf, h.lead.onTcu hg⟩

theorem finish {j : Cmd} {st d r0 r1 : Nat} (h : KeepsSlot t k s a) (hk : k < 16) : KeepsSlot t k s (a.finish j st d r0 r1) := by
  have hsel {y : Nat} : ¬ cplReachAny (pageRefsel t) y := by
    rintro ⟨c, hc, hq, -⟩
    simp only [pageRefsel, tpage, pageHC] at hq
    omega
  have hin : ∀ g ∈ slotFields, g.inPage 15 = true := by decide
  exact ⟨fun g hg => (a.finish_only j st d r0 r1 _ _ _ (Fld.inPage_of_le (by omega) (hin g hg)) hsel).trans (h.slot g hg), h.lead.finish⟩

end
end State.KeepsSlot

/-- No register of a slot that shows its state or its source is one of another slot's, or shows the selection. -/
theorem slotFields_apart : ∀ k < 16, ∀ g ∈ slotFields, g.place k ∉ selShown ∧ ∀ i < 16, i ≠ k → ∀ f ∈ slotShown, f.place i ≠ g.place k := by decide

theorem tcuOwn_ne_arb {v q : Nat} (h : tcuOwn v q) : q ≠ pageArb := by
  obtain ⟨r, hlo, -, rfl⟩ := h
  simp only [tpage, pageArb]
  omega

theorem tcuOwn_ne_refsel {v t q : Nat} (hne : v ≠ t) (h : tcuOwn v q) : q ≠ pageRefsel t := by
  obtain ⟨r, hlo, hhi, rfl⟩ := h
  simp only [tpage, pageRefsel]
  omega

/-- Only the TCU that leads the mirror mirrors what it selects (R113, R155). -/
theorem State.mirrorSel_of_decides {s : State} {v t : Nat} (hd : s.decides t = true) (hne : v ≠ t) : s.mirrorSel v = s := by
  refine if_neg ?_
  rintro ⟨hheld, rfl, -⟩
  unfold State.decides at hd
  rw [hheld] at hd
  simp [hne] at hd

namespace State.KeepsSlot
section
variable {s a : State} {t k v i r : Nat} (ht : t < 2) (hk : k < 16)
include ht hk

/-- What a TCU's disqualifications are made of leaves a slot of its own that is not among them. -/
theorem own (s : State) : State.SelClosed t (· ≠ k) (KeepsSlot t k s) where
  wrI _ hf hr h := by
    obtain ⟨hown, hsel⟩ := hr
    refine h.wrI hk hf (tcuOwn_ne_arb hown) fun hp g hg => ?_
    obtain ⟨hshown, hapart⟩ := slotFields_apart k hk g hg
    obtain hin | ⟨j, hj, hne, f, hf, he⟩ := hsel hp
    · exact fun he => hshown (he ▸ hin)
    · rw [he]
      exact hapart j hj hne f hf
  raise _ _ h := h.raise hk
  onTcu _ _ hg h := h.onTcu hg
  finish _ _ _ _ _ h := h.finish hk
  mirrorSel h := State.mirrorSel_inv
    (fun _ hf hp h => h.wrI hk hf (tcuOwn_ne_arb hp) fun he => absurd he (tcuOwn_ne_refsel (by omega) hp)) (fun _ _ hg h => h.onTcu hg) h

omit ht in
/-- What the other TCU's disqualifications are made of leaves a slot of the TCU that decides. -/
theorem other (hne : v ≠ t) (hd : s.decides t = true) : State.SelClosed v (fun _ => True) (KeepsSlot t k s) where
  wrI _ hf hr h := h.wrI hk hf (tcuOwn_ne_arb hr.1) fun he => absurd he (tcuOwn_ne_refsel hne hr.1)
  raise _ _ h := h.raise hk
  onTcu _ _ hg h := h.onTcu hg
  finish _ _ _ _ _ h := h.finish hk
  mirrorSel h := by rwa [State.mirrorSel_of_decides ((h.decides t).trans hd) hne]

end
end State.KeepsSlot

/-- A slot, of a TCU that decides, that is FAILED with the reason `r`. -/
structure State.SlotLost (t k r : Nat) (s : State) : Prop where
  state : s.cstate t k = csFailed
  reason : s.rdI (pageRefsel t) R.REFSEL.CAND_STAT_REASON k = r
  decides : s.decides t = true

theorem State.SlotLost.kept {t k r : Nat} {s u : State} (h : s.SlotLost t k r) (hk : State.KeepsSlot t k s u) : u.SlotLost t k r :=
  ⟨(hk.slot _ (by decide)).trans h.state, (hk.slot _ (by decide)).trans h.reason, (hk.decides t).trans h.decides⟩

/-- In a fold over the numbers below `n`, what step `k` makes of what the steps before it keep stands in the end if the later steps keep it. -/
theorem State.each_reaches {P Q : State → Prop} {f : Nat → State → State} {n k : Nat} {s : State} (hk : k < n) (h : P s)
    (hbefore : ∀ a i, i < n → i ≠ k → P a → P (f i a)) (hat : ∀ a, P a → Q (f k a)) (hafter : ∀ a i, i < n → i ≠ k → Q a → Q (f i a)) : Q (s.each n f) := by
  suffices hall : ∀ m ≤ n, if k < m then Q (s.each m f) else P (s.each m f) by simpa [hk] using hall n le_rfl
  intro m
  induction m with
  | zero => exact fun _ => h
  | succ m ih =>
    intro hm
    have hstep : s.each (m + 1) f = f m (s.each m f) := by
      unfold State.each
      rw [List.range_succ, List.foldl_append]
      rfl
    specialize ih (by omega)
    rw [hstep]
    by_cases hmk : m = k
    · subst hmk
      rw [if_neg (by omega)] at ih
      rw [if_pos (by omega)]
      exact hat _ ih
    · split at ih
      next hlt => rw [if_pos (by omega)]; exact hafter _ _ hm hmk ih
      next hge => rw [if_neg (by omega)]; exact hbefore _ _ hm hmk ih

/-- A candidate that trunk `n` serves is lost. -/
def State.loseCand (s : State) (t k n r : Nat) : State :=
  if s.csrc t k = 8 + n then (s.onCand t k (fun c => { c with good := false })).disqualify t k r else s

/-- The candidates of TCU `t` that trunk `n` serves are lost, if it decides. -/
def State.loseCands (s : State) (t n r : Nat) : State := if s.decides t then s.each 16 (fun k a => a.loseCand t k n r) else s

theorem State.trunkCands_eq (s : State) (n r : Nat) : s.trunkCands n r = (s.loseCands 0 n r).loseCands 1 n r := rfl

section
variable {s : State} {t k v n r : Nat} (ht : t < 2) (hk : k < 16)
include ht hk

/-- A QUALIFIED candidate that is disqualified is FAILED with its reason, whatever is selected next (R100, R102). -/
theorem State.disqualify_lost (hq : s.cstate t k = csQual) (hd : s.decides t = true) (hr : r < 16) : (s.disqualify t k r).SlotLost t k r := by
  have hplaces : ∀ k < 16, R.REFSEL.CAND_STAT_REASON.place k ≠ R.REFSEL.CAND_STAT_STATE.place k ∧
      R.REFSEL.REFSEL_STAT_QUAL.place 0 ≠ R.REFSEL.CAND_STAT_STATE.place k ∧ R.REFSEL.CAND_STAT_STATE.inPage k = true ∧
      R.REFSEL.CAND_STAT_REASON.inPage k = true ∧ R.REFSEL.CAND_STAT_TIMER.inPage k = true ∧
      ∀ g ∈ slotFields, R.REFSEL.CAND_STAT_TIMER.place k ≠ g.place k := by decide
  obtain ⟨hreason, hqual, hstin, hrein, htiin, htimer⟩ := hplaces k hk
  have harb : pageRefsel t ≠ pageArb := by simp only [pageRefsel, tpage, pageArb]; omega
  let b : State := (s.setCand t k csFailed).wrI (pageRefsel t) R.REFSEL.CAND_STAT_REASON k r
  have hb : b.SlotLost t k r := by
    refine ⟨?_, ?_, ?_⟩
    · exact (State.rdI_wrI_place _ _ _ _ _ _ _ _ hreason).trans ((State.rdI_wrI_place _ _ _ _ _ _ _ _ hqual).trans (State.rdI_wrI_same _ _ _ _ _))
    · exact (State.rdI_wrI_same _ _ _ _ _).trans (Nat.mod_eq_of_lt hr)
    · have hlead : State.KeepsLead s b := .wrI (.wrI (.wrI (.refl s) hstin harb) (by decide) harb) hrein harb
      exact (hlead.decides t).trans hd
  have hrest : State.KeepsSlot t k b ((((b.wrI (pageRefsel t) R.REFSEL.CAND_STAT_TIMER k 0).candChange t).agreeAll t k).reselect t) :=
    (State.KeepsSlot.own ht hk b).reselect ((State.KeepsSlot.own ht hk b).agreeAll (.raise (.wrI (.refl b) hk htiin harb fun _ => htimer) hk))
  unfold State.disqualify
  dsimp only
  rw [if_neg (by rw [hq]; decide)]
  exact hb.kept hrest

/-- What becomes of the other candidates of its TCU leaves a slot. -/
theorem State.loseCand_other {a : State} {i : Nat} (hi : i < 16) (hik : i ≠ k) : State.KeepsSlot t k a (a.loseCand t i n r) :=
  .trans (.refl a) (State.ite_inv ((State.KeepsSlot.own ht hk a).disqualify hi hik (.onTcu (.refl a) fun _ => rfl)) (.refl a))

theorem State.loseCands_own (hq : s.cstate t k = csQual) (hsrc : s.csrc t k = 8 + n) (hd : s.decides t = true) (hr : r < 16) :
    (s.loseCands t n r).SlotLost t k r := by
  unfold State.loseCands
  rw [if_pos hd]
  refine State.each_reaches (P := State.KeepsSlot t k s) hk (.refl s) (fun a i hi hik h => h.trans (State.loseCand_other ht hk hi hik)) (fun a h => ?_)
    (fun a i hi hik h => h.kept (State.loseCand_other ht hk hi hik))
  have hcand : State.KeepsSlot t k s (a.onCand t k fun c => { c with good := false }) := h.onTcu fun _ => rfl
  have hsame : a.csrc t k = 8 + n := (h.slot _ (by decide)).trans hsrc
  unfold State.loseCand
  rw [if_pos hsame]
  exact State.disqualify_lost ht hk ((hcand.slot _ (by decide)).trans hq) ((hcand.decides t).trans hd) hr

omit ht in
/-- What becomes of the other TCU's candidates leaves a slot of a TCU that decides. -/
theorem State.loseCands_other (hne : v ≠ t) (hd : s.decides t = true) : State.KeepsSlot t k s (s.loseCands v n r) := by
  have hcand {a : State} {i : Nat} (hi : i < 16) (h : State.KeepsSlot t k s a) : State.KeepsSlot t k s (a.loseCand v i n r) :=
    State.ite_inv ((State.KeepsSlot.other hk hne hd).disqualify hi trivial (.onTcu h fun _ => rfl)) h
  exact State.ite_inv (State.each_inv (.refl s) fun _ _ hi h => hcand hi h) (.refl s)

theorem State.trunkCands_lost (hq : s.cstate t k = csQual) (hsrc : s.csrc t k = 8 + n) (hd : s.decides t = true) (hr : r < 16) :
    (s.trunkCands n r).SlotLost t k r := by
  rw [State.trunkCands_eq]
  obtain rfl | rfl : t = 0 ∨ t = 1 := by omega
  · have hown : (s.loseCands 0 n r).SlotLost 0 k r := State.loseCands_own ht hk hq hsrc hd hr
    exact hown.kept (State.loseCands_other hk (by decide) hown.decides)
  · have hkeep : State.KeepsSlot 1 k s (s.loseCands 0 n r) := State.loseCands_other hk (by decide) hd
    exact State.loseCands_own ht hk ((hkeep.slot _ (by decide)).trans hq) ((hkeep.slot _ (by decide)).trans hsrc) ((hkeep.decides 1).trans hd) hr

theorem runs_timeBlockLoss (hn : n < 12) (hs : s.tstate n = tkUp) (hd : s.decides t = true) (hsrc : s.csrc t k = 8 + n) (hq : s.cstate t k = csQual) :
    Runs (.timeBlockLoss n) s (fun u => u.cstate t k = csFailed ∧ u.rdI (pageRefsel t) R.REFSEL.CAND_STAT_REASON k = 1 ∧ u.tstate n = tkUp) := by
  have hx : exec (.timeBlockLoss n) s = done (s.trunkCands n 1) := by
    show execTimeBlockLoss n s = _
    unfold execTimeBlockLoss
    rw [Nat.mod_eq_of_lt hn]
    exact congrArg done (if_pos hs)
  have hlost : (s.trunkCands n 1).SlotLost t k 1 := State.trunkCands_lost ht hk hq hsrc hd (by decide)
  have hkeep : State.KeepsTrunk [] n s (s.trunkCands n 1) := .trunkCands (.refl _)
  exact runs_done hx ⟨(State.rdI_settle _ _ _ _).trans hlost.state, (State.rdI_settle _ _ _ _).trans hlost.reason,
    (State.tstate_settle _ _).trans (hkeep.tstate.trans hs)⟩

end

/-- Settles O27: each clause is the run of its event; what follows the write that the clause names, the end of commands, the queues and the
selection of the reference, leaves what a trunk's page shows. -/
theorem trunksFollowTheirStatesAndAgree : Obligations.TrunksFollowTheirStatesAndAgree :=
  ⟨fun _ _ _ h hn hheld hgrp hlink hd htpl => runs_trunkEnable h hn hheld hgrp hlink hd htpl,
    fun _ _ _ _ h hn htpl => runs_trunkEnable_template h hn htpl,
    fun _ _ hn hs => runs_trunkTrainingComplete hn hs, fun _ _ hn hon hs => runs_trunkMaxWaitExpiry hn hon hs,
    fun _ _ hn hs => runs_trunkBackoffExpiry hn hs, fun _ _ hn hs => runs_trunkFrameLock hn hs, fun _ _ hn hs => runs_trunkQuietExpiry hn hs,
    fun _ _ hn hs hsig => runs_trunkSignalStable hn hs hsig, fun _ _ _ hn hk hs hl => runs_trunkAligned hn hk hs hl,
    fun _ _ hn hon hs => runs_trunkAligningTimeout hn hon hs,
    fun _ _ _ _ _ _ hn hl hon hs hok hlane hr hack hgen hfeat h0 h1 h2 => runs_helloRx hn hl hon hs hok hlane hr hack hgen hfeat h0 h1 h2,
    fun _ _ hn hon hs => runs_helloTimeout hn hon hs, fun _ _ hn hon hs => runs_clause73PagesRx hn hon hs,
    fun _ _ hn hon hs => runs_markerLoss hn hon hs,
    fun _ _ _ _ hn ht hk hs hd hsrc hq => runs_timeBlockLoss ht hk hn hs hd hsrc hq,
    fun _ _ _ hn hon ht hv h0 => runs_recentre hn hon ht hv h0⟩

end Sys2Proof.Machine
end
